-- ==== Sys2Proof/Word.lean ====
section
/-!
DEFINITION. Words of the block and their plainest arithmetic (00_scope.md, "Numbers, units and bit order").
-/

namespace Sys2Proof

/-- A byte. -/
abbrev Byte := BitVec 8

/-- A register word. -/
abbrev Word := BitVec 32

/-- A micro-register. -/
abbrev Half := BitVec 16

/-- A line of a memory port: 64 bytes, byte 0 in bits [7:0] (02_ports.md, memory-port signals). -/
abbrev Line := BitVec 512

/-- A stored word of the strong code: data in [31:0], check bits in [38:32] (14_memory_integrity.md R409). -/
abbrev Strong := BitVec 39

end Sys2Proof
end

