-- ==== Sys2Proof/Syntax.lean ====
section
/-!
DEFINITION. The commands of the block: one constructor for each row of spec/opcode_table.json.
Each docstring gives the row's mnemonic, the rule of spec/ that defines it, and its operands.
What the block's surroundings decide (a die's answer, a pin's level, a peer's record) is an operand.
-/

namespace Sys2Proof

/-- What a die's accepted parameter page declares (03_flash_bus.md R87, R88, R92, R93; 05 R155). -/
structure DiePage where
  /-- row-address cycles -/
  rows : Nat
  /-- width of the page field -/
  pageBits : Nat
  /-- width of the plane field -/
  planeBits : Nat
  /-- width of the block field -/
  blockBits : Nat
  /-- planes per LUN -/
  planes : Nat
  /-- data bytes per page -/
  dataBytes : Nat
  /-- spare bytes per page -/
  spareBytes : Nat
  /-- blocks per plane -/
  blocks : Nat
  /-- pages per block, SLC -/
  slcPages : Nat
  /-- pages per block, TLC -/
  tlcPages : Nat
  /-- rate of the highest NV-DDR3 timing mode, MT/s; 0 when not declared -/
  ddr3 : Nat
  /-- rate of the highest NV-LPDDR4 timing mode, MT/s; 0 when not declared -/
  lpddr4 : Nat
  deriving DecidableEq, Repr

/-- One of a die's redundant parameter-page copies as it is read (03 R92). -/
structure PageCopy where
  /-- its 256 bytes -/
  raw : List Byte
  /-- what the ONFI standard reads out of them -/
  decl : DiePage
  deriving DecidableEq, Repr

/-- What a target answers to INIT (03 R92, R109). -/
structure DieAns where
  /-- it returns the ONFI signature -/
  sig : Bool
  /-- its parameter-page copies, in order -/
  copies : List PageCopy
  deriving DecidableEq, Repr

/-- What a target's training receives (03 R100, R101, R108): for each of lanes 0 to 8, at each position or setting, which of
the 256 bits of the sweep burst compare wrongly. -/
structure TrainRes where
  /-- read sweep, positions 0 to 127 -/
  rd : List (List (BitVec 256))
  /-- write sweep, positions 0 to 127 -/
  wr : List (List (BitVec 256))
  /-- reference sweep, settings 0 to 15 -/
  ref : List (List (BitVec 256))
  /-- a lane fails command cycles -/
  cmdFail : Bool
  deriving DecidableEq, Repr

/-- A data-output burst of a die as a vendor routine reads it (03 R96, R97). -/
structure DieBurst where
  /-- preambles missed: none, the first, or the first and the reissued one -/
  miss : Fin 3
  /-- bytes captured -/
  bytes : List Byte
  /-- each lane's data decisions with their edge samples (03 R98) -/
  lanes : List (List (Bool × Bool)) := []
  deriving DecidableEq, Repr

/-- Class of a read that a memory checker classified (14_memory_integrity.md R411). -/
inductive RdClass where
  /-- clean -/
  | clean
  /-- corrected -/
  | corrected
  /-- uncorrectable -/
  | uncorrectable
  deriving DecidableEq, Repr

/-- Fields of a link record's header beside TYPE, ARG and LEN (16_cascade_reflection.md R452). -/
structure LHdr where
  /-- SRC -/
  src : Fin 4
  /-- DST -/
  dst : Fin 4
  /-- BCAST -/
  bcast : Bool
  /-- SSEQ -/
  sseq : BitVec 16
  deriving DecidableEq, Repr

/-- An entry of a MAP_UPD record (16_cascade_reflection.md R452). -/
structure LMap where
  /-- TILENO -/
  tile : BitVec 32
  /-- TADDR -/
  addr : BitVec 32
  /-- hoop sequence -/
  seq : BitVec 64
  /-- SERIAL -/
  serial : BitVec 64
  /-- HOOP -/
  hoop : BitVec 8
  deriving DecidableEq, Repr

/-- A command of the block (one row of the opcode table each). -/
inductive Instr where
  /-- COLD_RESET (R21). Assertion of PORST_N resets every register, latches identity and fuse map, clears the Grave state and drives every output to its reset value. -/
  | coldReset
  /-- WARM_RESET (R79). Assertion of WRST_N drains the memory ports, releases the flash slices, powers domains down and resets all registers except the kept items. -/
  | warmReset
  /-- FUSE_RECORD (R76). A repair record transfers on the fuse port; the last record ends the stream and the records are applied. -/
  | fuseRecord (record : BitVec 32) (last : Bool)
  /-- FUSE_TIMEOUT (R76). 65,536 cyc after PORST_N rises without a last record, FUSE_READY falls, received records are applied and FUSE_TO is set. -/
  | fuseTimeout
  /-- PORT_READY (R78). 64 cyc after the fuse stream ends or WRST_N rises, the control port becomes ready and samples any held request. -/
  | portReady
  /-- REGISTER_WRITE (R14). A control-port write to a register without a row of its own stores, sets or clears bits according to its access type. -/
  | registerWrite (addr : BitVec 24) (be : BitVec 4) (data : Word)
  /-- OFF_ACCESS (R48). A control-port access to a page or window of a powered-down domain is acknowledged with no effect, reads 0 and raises OFF_ACCESS. -/
  | offAccess (addr : BitVec 24) (we : Bool) (be : BitVec 4) (data : Word)
  /-- SRAM_WINDOW_WRITE (R412). A control-port write into a context, bitmap or store window encodes the word, or performs a read-modify-write for partial byte enables. -/
  | sramWindowWrite (addr : BitVec 24) (be : BitVec 4) (data : Word)
  /-- VENDOR_STORE_WRITE (R141). A control-port write to the vendor region of a control store is accepted only while the group is disabled and idle, else dropped with WRITE_REFUSED. -/
  | vendorStoreWrite (addr : BitVec 24) (be : BitVec 4) (data : Word)
  /-- CUSTOMER_STORE_WRITE (R142). A control-port write to the customer region is held while any context or park record lies in the region. -/
  | customerStoreWrite (addr : BitVec 24) (be : BitVec 4) (data : Word)
  /-- STORE_HOLD_END (R142). A held customer-region write completes in the first scyc in which no PC and no continuation lies in the region, and clears CUST_OK. -/
  | storeHoldEnd
  /-- HOLD_DROP (R143). When a held customer-region write reaches HOLD_TO it is acknowledged and dropped with event HOLD_DROP. -/
  | holdDrop
  /-- MEMORY_READ_RETURN (R53). A read beat returns on a memory port and is delivered to the transfer of its tag; the last beat ends the read. -/
  | memoryReadReturn (port : Fin 2) (cls : Fin 4) (data : Line) (last : Bool) (err : Bool)
  /-- MEMORY_WRITE_ACCEPTED (R303). A write burst is accepted on a memory port, at which point a completion record counts as written or a spool head place frees. -/
  | memoryWriteAccepted (port : Fin 2) (beats : Fin 64)
  /-- LANE_FLIT (R243). A flit transfers on a lane and the framing logic pushes, discards or checks it according to its tag and state. -/
  | laneFlit (lane : Fin 12) (value : BitVec 64) (tag : BitVec 2)
  /-- LINK_DOWN (R258). A fall of LNn_LINKUP resets the lane's framing, pushing WITHDRAW when a tile is in progress. -/
  | linkDown (lane : Fin 12)
  /-- LANE_RESET (R258). A write of LANE CMD.RESET resets the framing as a fall of LINKUP does. -/
  | laneReset (lane : Fin 12)
  /-- DROP (R259). A write of LANE CMD.DROP pushes WITHDRAW for the tile in progress and sets the state to DISCARD. -/
  | drop (lane : Fin 12)
  /-- WITHDRAW_PUSH (R260). A pending WITHDRAW is pushed in the first cyc in which the spool has a place, and LNn_READY returns. -/
  | withdrawPush (lane : Fin 12)
  /-- LANE_ENABLE (R264). A write of LANE CTRL.ENABLE opens or closes the lane, taking effect at the end of a tile in progress. -/
  | laneEnable (lane : Fin 12) (data : Word)
  /-- HEAD_TO_TAIL (R251). While the middle tier is empty and room exists, the head passes up to 2 oldest items per cyc to the tail. -/
  | headToTail (lane : Fin 12)
  /-- SPILL_WRITE (R251). When the head is full and the middle tier has room and budget, the oldest 496 items are written to the middle tier as one block. -/
  | spillWrite (lane : Fin 12)
  /-- DRAIN_READ (R251). When the tail has room and budget allows, the tail issues a drain read of the oldest middle-tier block. -/
  | drainRead (lane : Fin 12)
  /-- DRAIN_RETURN (R253). A drain read completes; its CRC is checked and its items enter the tail, or SPOOL_UE is raised. -/
  | drainReturn (lane : Fin 12)
  /-- MID_BASE_WRITE (R266). A write to MID_BASE or MID_BLOCKS takes effect only while the middle tier is empty, else is ignored and raises MID_FULL. -/
  | midBaseWrite (lane : Fin 12) (reg : Fin 3) (data : Word)
  /-- ASSEMBLER_POP (R251). The tile assembler pops one item from the tail or head and writes its payload bytes to the tile-buffer place. -/
  | assemblerPop (lane : Fin 12)
  /-- TILE_NUMBER (R281). At a SOT item, once a free place and an erased row allow, the placement unit gives the tile its slot, tile number and serial. -/
  | tileNumber (lane : Fin 12)
  /-- TILE_END (R255). At an EOT item the channel writes filler and trailer, and a CUT = 0 tile has its PROG issued. -/
  | tileEnd (lane : Fin 12)
  /-- STRIPE_CANCEL (R208). The lace unit accumulates a vanished tile's bytes a second time to remove them from its stripe. -/
  | stripeCancel
  /-- FILL_TIMEOUT (R288). When a reserved slot is not taken within FILL_TO, or its stream or hoop is disabled, the channel writes a FILL tile into the place. -/
  | fillTimeout (ch : Fin 48) (place : Fin 8)
  /-- RELOCATE (R282). A channel-bound tile after PROG_FAIL takes the next free slot on its channel and is reissued, or NO_SLOT is raised. -/
  | relocate (ch : Fin 48) (place : Fin 8)
  /-- ERASE_FRONT (R285). The erase front issues the ERASE of row EF to every good member while the row may be erased and is within ERASE_LEAD. -/
  | eraseFront (hoop : Fin 64)
  /-- INIT (R109). PHY command INIT resets, identifies and configures the targets, sets the rate and runs FULL_TRAIN. -/
  | phyInit (ch : Fin 48) (targets : BitVec 8) (dies : List DieAns) (timing : List Nat)
  /-- FULL_TRAIN (R100). PHY command FULL_TRAIN runs ZQ, DCC, read, reference and write training per target, with steering and fallback. -/
  | fullTrain (ch : Fin 48) (targets : BitVec 8)
  /-- READ_RETRAIN (R100). PHY command READ_RETRAIN runs ZQ short, read training and the reference sweep per target. -/
  | readRetrain (ch : Fin 48) (targets : BitVec 8)
  /-- EYE_SCAN (R100). PHY command EYE_SCAN measures read and write eyes per target and leaves trims unchanged. -/
  | eyeScan (ch : Fin 48) (targets : BitVec 8)
  /-- TRAIN_TARGET_START (R103). Training of the next target starts once TRAIN is granted and no LUN of the target has an operation outstanding. -/
  | trainTargetStart (ch : Fin 48) (res : TrainRes)
  /-- PLL_LOCK (R89). After a rate change the slice's PLL reaches lock and traffic continues with retraining. -/
  | pllLock (ch : Fin 48)
  /-- READ_BURST (R96). A read burst opens the DQS gate, locks to the preamble and captures data with decision-directed tracking. -/
  | readBurst (ch : Fin 48) (locked : Bool) (lanes : List (List (Bool × Bool)))
  /-- OWN_ACQUIRE (R63). After OWN_SETTLE the block resamples OWN_GNT and owns the channel, retries, or both primaries raise OWN_CONFLICT. -/
  | ownAcquire (ch : Fin 48) (gnt : Bool) (both : Bool)
  /-- OWN_RELEASE (R64). When no chip enable is low, the block tristates the slice and clears OWN_REQ at the next edge. -/
  | ownRelease (ch : Fin 48)
  /-- OWN_CLR (R474). A write of REFL CTRL.OWN_CLR ends the OWN_CONFLICT hold. -/
  | ownClr
  /-- CLAIM_WRITE (R466). A write to REFL CLAIM claims or releases channels. -/
  | claimWrite (reg : Fin 2) (data : BitVec 32)
  /-- NOP (R116). Microword NOP does nothing. -/
  | mwNop (ch : Fin 48)
  /-- JMP (R116). Microword JMP loads the PC with tgt. -/
  | mwJmp (ch : Fin 48)
  /-- BR (R116). Microword BR branches when the selected condition bit equals pol. -/
  | mwBr (ch : Fin 48)
  /-- CALL (R123). Microword CALL saves PC + 1 in m7 and jumps. -/
  | mwCall (ch : Fin 48)
  /-- RET (R123). Microword RET jumps to m7. -/
  | mwRet (ch : Fin 48)
  /-- DISPATCH (R122). Microword DISPATCH jumps to base × 16 OR the packed selected condition bits. -/
  | mwDispatch (ch : Fin 48)
  /-- LOOP (R116). Microword LOOP decrements a loop counter and branches while it is non-zero. -/
  | mwLoop (ch : Fin 48)
  /-- WAITC (R116). Microword WAITC stalls until its condition holds or its timer expires and sets Z. -/
  | mwWaitc (ch : Fin 48)
  /-- TSET (R116). Microword TSET loads a timer. -/
  | mwTset (ch : Fin 48)
  /-- PARK (R128). Microword PARK stores a park record for the LUN and frees the context. -/
  | mwPark (ch : Fin 48)
  /-- DONE (R116). Microword DONE completes the descriptor with a status once the engine queue is empty. -/
  | mwDone (ch : Fin 48)
  /-- TRET (R136). Microword TRET restores the frame and resumes the trapped routine, or halts when TOUCH is set. -/
  | mwTret (ch : Fin 48)
  /-- TEND (R116). Microword TEND abandons the trapped routine and completes its descriptor with a status. -/
  | mwTend (ch : Fin 48)
  /-- HALT (R116). Microword HALT halts the context and completes its descriptor with SEQ_HALT. -/
  | mwHalt (ch : Fin 48)
  /-- ILLEGAL_OPCODE (R116). A microword with an unassigned opcode halts the context as HALT does. -/
  | illegalOpcode (ch : Fin 48)
  /-- MOVI (R116). Microword MOVI loads an immediate into a micro-register. -/
  | mwMovi (ch : Fin 48)
  /-- ADDI (R484). Microword ADDI adds an immediate modulo 2^16 and sets Z, N and C. -/
  | mwAddi (ch : Fin 48)
  /-- ADD (R484). ALU function ADD adds two registers and sets the flags. -/
  | mwAdd (ch : Fin 48)
  /-- SUB (R484). ALU function SUB subtracts two registers and sets the flags. -/
  | mwSub (ch : Fin 48)
  /-- AND (R484). ALU function AND ands two registers and sets the flags. -/
  | mwAnd (ch : Fin 48)
  /-- OR (R484). ALU function OR ors two registers and sets the flags. -/
  | mwOr (ch : Fin 48)
  /-- XOR (R484). ALU function XOR xors two registers and sets the flags. -/
  | mwXor (ch : Fin 48)
  /-- SHL (R484). ALU function SHL shifts left by b[3:0] with the last bit out in C. -/
  | mwShl (ch : Fin 48)
  /-- SHR (R484). ALU function SHR shifts right by b[3:0] with the last bit out in C. -/
  | mwShr (ch : Fin 48)
  /-- MOV (R484). ALU function MOV copies register a and clears C. -/
  | mwMov (ch : Fin 48)
  /-- CMP (R484). ALU function CMP sets the flags as SUB without writing d. -/
  | mwCmp (ch : Fin 48)
  /-- LDLC (R116). Microword LDLC loads a loop counter. -/
  | mwLdlc (ch : Fin 48)
  /-- LDS (R119). Microword LDS reads a special source into a register. -/
  | mwLds (ch : Fin 48)
  /-- STS (R119). Microword STS writes a register to a special destination. -/
  | mwSts (ch : Fin 48)
  /-- CE (R116). Microword CE queues a chip-enable selection or deselection. -/
  | mwCe (ch : Fin 48)
  /-- CMD (R116). Microword CMD queues one command cycle, or nothing for a disabled prefix. -/
  | mwCmd (ch : Fin 48)
  /-- ADDR (R126). Microword ADDR queues address cycles in one of four forms. -/
  | mwAddr (ch : Fin 48)
  /-- DOUT (R117). Microword DOUT queues a write burst from the tile-buffer place, halting on a bad length. -/
  | mwDout (ch : Fin 48)
  /-- DIN (R117). Microword DIN queues a read burst into the decoder-buffer place, halting on a bad length. -/
  | mwDin (ch : Fin 48)
  /-- SUSP (R118). Microword SUSP queues the die's erase-suspend sequence and increments the suspend count. -/
  | mwSusp (ch : Fin 48)
  /-- RSUM (R118). Microword RSUM queues the erase-resume sequence and restarts the minimum-run clock. -/
  | mwRsum (ch : Fin 48)
  /-- STAT (R118). Microword STAT queues Read Status Enhanced to a LUN and stalls until the status returns. -/
  | mwStat (ch : Fin 48)
  /-- LEDG (R398). Microword LEDG appends a ledger entry of its kind to the staging buffer, or halts for kind 0 or 3. -/
  | mwLedg (ch : Fin 48)
  /-- FETCH_UE (R115). A microword fetch with an uncorrectable error halts the context with SEQ_HALT and FETCH_UE. -/
  | fetchUe (ch : Fin 48)
  /-- ATOM_OVR (R131). An atomic region reaching 48 scyc loses its atomicity and raises ATOM_OVR. -/
  | atomOvr (ch : Fin 48)
  /-- TIMER_EXPIRE (R123). A sequencer timer T0 or T1 counts down to 0. -/
  | timerExpire (ch : Fin 48) (k : Fin 2)
  /-- WDOG (R132). A descriptor running for WDOG_LIM without PARK, DONE or TEND raises the WDOG trap cause. -/
  | wdog (ch : Fin 48)
  /-- BREAK (R132). A write of SEQG BREAK.STOP raises the BREAK trap cause on a context, dropped for a halted context. -/
  | seqBreak (grp : Fin 6) (mask : BitVec 8)
  /-- RESTART (R140). A write of SEQG BREAK.RESTART makes a halted context idle with its park records kept. -/
  | restart (grp : Fin 6) (mask : BitVec 8)
  /-- TRAP_TAKE (R133). At a permitted boundary the context writes the frame, sets IN_TRAP and jumps to the vector of the highest pending cause. -/
  | trapTake (ch : Fin 48)
  /-- ENGINE_CE (R124). The cycle engine executes a chip-enable entry, applying tCS. -/
  | engineCe (ch : Fin 48)
  /-- ENGINE_COMMAND (R124). The cycle engine drives one command cycle, entering or leaving charter mode as the byte requires. -/
  | engineCommand (ch : Fin 48)
  /-- ENGINE_ADDRESS (R127). The cycle engine decodes and drives address cycles, checking guard, bad-block and charter rules. -/
  | engineAddress (ch : Fin 48)
  /-- BURST_START (R117). A queued DOUT burst starts once its plane is encoded in the tile-buffer place. -/
  | burstStart (ch : Fin 48)
  /-- BURST_DONE (R117). A data burst ends its last data cycle and BURST_DONE reads 1. -/
  | burstDone (ch : Fin 48) (data : List Byte)
  /-- STATUS_RETURN (R118). A status byte from Read Status Enhanced returns and loads condition bits 8 to 13. -/
  | statusReturn (ch : Fin 48) (status : BitVec 8)
  /-- LUN_POLL (R86). The hardware poller polls a parked LUN at its typical time, every 1 µs or when FLn_RB_N rises, and marks it ready. -/
  | lunPoll (ch : Fin 48) (lun : Fin 16) (rb : BitVec 4) (status : BitVec 8)
  /-- SCHEDULER_PICK (R158). When the context is free, the scheduler wakes a ready record, grants a suspend, or starts the best eligible head descriptor. -/
  | schedulerPick (ch : Fin 48)
  /-- HEAD_AGED (R161). A shadow, erase or patrol head eligible for AGE µs without a pick is ranked directly below urgent read. -/
  | headAged (ch : Fin 48) (lun : Fin 16)
  /-- LUN_HUNG (R162). A park record polled busy for twice the declared maximum time becomes HUNG and raises LUN_HUNG. -/
  | lunHung (ch : Fin 48) (lun : Fin 16)
  /-- RESET_LUN_TIMEOUT (R162). A LUN not ready 10 ms after RESET_LUN's Reset LUN completes RESET_LUN with SEQ_TIMEOUT. -/
  | resetLunTimeout (ch : Fin 48) (lun : Fin 16)
  /-- SUSP_SLOW (R171). A die not ready SUS_TO after a SUSP raises SUSP_SLOW; the seal instead resets the LUN. -/
  | suspSlow (ch : Fin 48) (lun : Fin 16)
  /-- CHANNEL_DESCRIPTOR (R151). A channel descriptor arriving from an origin is checked and queued in a slot, or completes at once with a status. -/
  | channelDescriptor (ch : Fin 48) (org : Fin 4)
  /-- PROG (R163). Channel opcode PROG programs a tile over four planes in SLC or one TLC level. -/
  | opProg (ch : Fin 48) (status : BitVec 8)
  /-- ERASE (R164). Channel opcode ERASE erases a four-plane block set with ledger intent and done entries. -/
  | opErase (ch : Fin 48)
  /-- READ_TILE (R163). Channel opcode READ_TILE reads all 16 codewords of a tile into a decoder place. -/
  | opReadTile (ch : Fin 48) (data : List DieBurst)
  /-- READ_CW (R163). Channel opcode READ_CW reads the codewords selected in MASK. -/
  | opReadCw (ch : Fin 48) (data : List DieBurst)
  /-- SHADOW (R220). Channel opcode SHADOW reads three strobes of plane 0 at a probe level. -/
  | opShadow (ch : Fin 48) (data : List DieBurst)
  /-- PATROL (R236). Channel opcode PATROL reads one tile for retention at step 0. -/
  | opPatrol (ch : Fin 48) (data : List DieBurst)
  /-- BLANK_VERIFY (R403). Channel opcode BLANK_VERIFY counts zero bits of sampled pages of a block set and completes OK or BLANK_FAIL. -/
  | opBlankVerify (ch : Fin 48) (data : List DieBurst)
  /-- READ_CHARTER (R180). Channel opcode READ_CHARTER enters charter mode, reads one charter page and resets the target. -/
  | opReadCharter (ch : Fin 48) (data : List DieBurst)
  /-- BB_SCAN (R178). Channel opcode BB_SCAN reads the factory marks of a range of block sets and sets bad bits. -/
  | opBbScan (ch : Fin 48) (data : List DieBurst)
  /-- SET_REF (R152). Channel opcode SET_REF sends Set Features by LUN and makes the LUN's offset record unknown. -/
  | opSetRef (ch : Fin 48)
  /-- GET_FEAT (R152). Channel opcode GET_FEAT reads a feature by LUN into the result. -/
  | opGetFeat (ch : Fin 48) (data : BitVec 32)
  /-- RESET_LUN (R162). Channel opcode RESET_LUN completes a hung record and sends Reset LUN, parking the LUN. -/
  | opResetLun (ch : Fin 48)
  /-- STATUS (R152). Channel opcode STATUS reads Read Status Enhanced of a LUN. -/
  | opStatus (ch : Fin 48) (status : BitVec 8)
  /-- CUSTOMER_OPCODE (R152). A customer opcode 0x40 to 0x7F enters its customer routine under the class in FLAGS.CLASS, or completes NO_ROUTINE. -/
  | opCustomerOpcode (ch : Fin 48)
  /-- BB_MARK (R181). A write of CH BB_MARK sets the bad-block bit of the addressed block set. -/
  | bbMark (ch : Fin 48) (data : Word)
  /-- WP_OPEN (R175). A write of CH CTRL.WP_OPEN changes FLn_WP_N at the next edge and holds commands for tWW. -/
  | wpOpen (ch : Fin 48) (data : Word)
  /-- GDT_START (R179). A write of GDT_CMD.START loads the grown-defect table through the memory port. -/
  | gdtStart (ch : Fin 48) (data : Word)
  /-- GDT_DONE (R179). The grown-defect table load ends; bits are set if checks pass and GDT_DONE is raised. -/
  | gdtDone (ch : Fin 48)
  /-- ENCODE_CODEWORD (R192). Once a codeword's info bytes are in the place, the encoder scrambles it and writes its parity. -/
  | encodeCodeword (ch : Fin 48)
  /-- REENCODE (R193). A PROG with a new address for an encoded place re-scrambles and re-encodes each codeword. -/
  | reencode (ch : Fin 48)
  /-- DECODE_JOB (R195). A codeword whose bytes and strobes are in the place becomes a decode job, or is classed ERASED. -/
  | decodeJob
  /-- DECODE_START (R195). A free decoder engine takes the oldest job of the first queue, else the second. -/
  | decodeStart
  /-- DECODE_DONE (R197). A decode job stops PASS or FAIL, writes back descrambled info and its result word. -/
  | decodeDone (engine : Fin 24)
  /-- SHADOW_PROBE_DUE (R219). A probe falls due after PERIOD and the walker issues the most overdue SHADOW when a place is free. -/
  | shadowProbeDue (ch : Fin 48)
  /-- PATROL_ISSUE (R236). The patrol walker issues a PATROL for the next mapped tile number. -/
  | patrolIssue
  /-- LADDER_STEP (R227). The recovery engine issues the next ladder step for a failing codeword group. -/
  | ladderStep
  /-- RECONSTRUCT (R232). With two accumulator sets free, the engine finds the stripe record and issues survivor reads. -/
  | reconstruct
  /-- SURVIVOR_FOLD (R232). A passed survivor's span bytes are folded into the parity-row accumulators. -/
  | survivorFold
  /-- LACE_SOLVE (R233). When every survivor has ended, the Cauchy system is solved and the lost codewords written. -/
  | laceSolve
  /-- RECON_TIMEOUT (R235). A cascade member not answering within XTO counts all its slots as lost. -/
  | reconTimeout (member : Fin 4)
  /-- PARITY_COPY (R207). At stripe close each accumulator is copied to a free place of its parity channel and a PROG issued. -/
  | parityCopy (set : Fin 8) (k : Fin 4)
  /-- STRIPE_CLOSE_TIMEOUT (R206). A stripe with no tile landing for CLOSE_TO µs closes short. -/
  | stripeCloseTimeout (prof : Fin 8)
  /-- LACE_CLOSE (R206). A write of LACE CLOSE closes the profile's open stripe short. -/
  | laceClose (data : Word)
  /-- STRIPE_RECORD (R210). After every tile of a stripe has passed, the stripe record is written and STRIPE_CLOSED raised. -/
  | stripeRecord
  /-- PROFILE_ENABLE (R203). A write of LACE PROF EN enables a profile if its shape checks pass, else raises PROF_REFUSED. -/
  | profileEnable (prof : Fin 8) (data : Word)
  /-- LOAD (R239). ALM_CMD LOAD finds and loads the newest valid almanac record. -/
  | almLoad (data : Word)
  /-- SAVE (R238). ALM_CMD SAVE builds and programs a new almanac record on both channels. -/
  | almSave (data : Word)
  /-- ALM_DONE (R238). An almanac command ends with its result and ALM_DONE. -/
  | almDone
  /-- TILE_COMPLETION (R276). After the map update, a tile completion record is written on the stream's completion ring. -/
  | tileCompletion
  /-- MAP_FILL (R271). A map-cache fill returns and the waiting lookups and updates proceed, or end lost on RD_ERR. -/
  | mapFill
  /-- MAP_WRITE_BACK (R271). A dirty line evicted by replacement is written back. -/
  | mapWriteBack
  /-- FLUSH (R274). MAP CMD FLUSH writes back every dirty line. -/
  | mapFlush
  /-- INVAL (R274). MAP CMD INVAL writes back and invalidates every line. -/
  | mapInval
  /-- FLUSH_DONE (R274). A FLUSH or INVAL finishes and raises FLUSH_DONE. -/
  | flushDone
  /-- LOOKUP_TILE (R272). A write of MAP LOOKUP_TILE starts a lookup through the cache. -/
  | lookupTile (data : Word)
  /-- SET_ADDR (R273). A write of MAP SET_ADDR writes the entry of SET_TILE through the cache. -/
  | setAddr (data : Word)
  /-- MAP_BASE_WRITE (R270). A write to MAP BASE or ENTRIES while a hoop is enabled is ignored with CFG_REFUSED. -/
  | mapBaseWrite (reg : Fin 3) (data : Word)
  /-- STREAM_ENABLE (R278). STRM CMD ENABLE enables a stream after its checks. -/
  | streamEnable (stream : BitVec 12)
  /-- STREAM_DISABLE (R278). STRM CMD DISABLE disables a stream at once. -/
  | streamDisable (stream : BitVec 12)
  /-- HOOP_ENABLE (R293). HOOP CMD ENABLE arms a hoop after its checks. -/
  | hoopEnable (hoop : Fin 64)
  /-- HOOP_DISABLE (R289). HOOP CMD DISABLE returns a hoop to OFF and fills reserved slots. -/
  | hoopDisable (hoop : Fin 64)
  /-- REARM (R289). HOOP CMD REARM returns a DONE or OVERRUN hoop to ARMED. -/
  | rearm (hoop : Fin 64)
  /-- HOOP_TRIGGER (R290). A trigger freezes RM of an ARMED hoop 4 cyc later, or increments TRIG_IGN. -/
  | hoopTrigger (hoop : Fin 64)
  /-- TRIG_REG (R290). A write of HOOP TRIG0 or TRIG1 triggers the named hoops. -/
  | trigReg (which : Fin 2) (data : Word)
  /-- TRIG_IN (R290). A rising edge of TRIG_IN is accepted and triggers hoops with TRIG_PIN. -/
  | trigIn (level : Bool)
  /-- RING_ENABLE (R296). RING CMD ENABLE enables a ring after its checks. -/
  | ringEnable (ring : BitVec 14)
  /-- RING_DISABLE (R296). RING CMD DISABLE drains a submission ring or refuses an in-use completion ring. -/
  | ringDisable (ring : BitVec 14)
  /-- DRAINED (R296). A draining ring whose COUNT reaches 0 becomes disabled with DRAINED. -/
  | drained (ring : BitVec 14)
  /-- DOORBELL (R297). A write of RING DOORBELL moves TAIL or HEAD, or is refused with DB_BAD. -/
  | doorbell (data : Word)
  /-- RING_FETCH (R298). The ring unit fetches submitted entries when its completion ring has room and clears their OWN. -/
  | ringFetch (ring : BitVec 14)
  /-- OWN_RETRY (R298). After OWN_RETRY.WAIT an entry with OWN = 0 is refetched, or the ring stalls with OWN_STALL. -/
  | ownRetry (ring : BitVec 14)
  /-- CHAN_ENTRY (R305). A CHAN-ring entry is sent to its channel with a decoder place taken for reads. -/
  | chanEntry (ring : BitVec 14)
  /-- READ_ENTRY (R307). A READ-ring entry is checked and its tiles looked up and read in order. -/
  | readEntry (ring : BitVec 14)
  /-- RESULT_COPY (R305). The requester RB copies a ring-read's data to its destination and returns the place. -/
  | resultCopy
  /-- COMPLETION_RECORD (R302). A completion record is written at TAIL with the ring's phase and TAIL advances. -/
  | completionRecord
  /-- COPY (R310). DMA mode COPY copies LENGTH bytes. -/
  | dmaCopy (ch : Fin 8)
  /-- FILL (R310). DMA mode FILL writes the 8-byte pattern over LENGTH bytes. -/
  | dmaFill (ch : Fin 8)
  /-- GATHER (R313). DMA mode GATHER collects indexed elements after checking the index table. -/
  | dmaGather (ch : Fin 8)
  /-- SCATTER (R313). DMA mode SCATTER distributes elements to indexed positions after checking the table. -/
  | dmaScatter (ch : Fin 8)
  /-- INTERLEAVE (R311). DMA mode INTERLEAVE merges N planes sample by sample. -/
  | dmaInterleave (ch : Fin 8)
  /-- DEINTERLEAVE (R311). DMA mode DEINTERLEAVE splits a stream into N planes. -/
  | dmaDeinterleave (ch : Fin 8)
  /-- BITSLICE (R312). DMA mode BITSLICE splits u16 samples into W bit planes. -/
  | dmaBitslice (ch : Fin 8)
  /-- DUMP (R314). DMA mode DUMP copies on-chip space to external memory without side effects. -/
  | dmaDump (ch : Fin 8)
  /-- DMA_BURST (R316). In its arbitration turn a DMA requester issues up to its weight of bursts. -/
  | dmaBurst
  /-- PAUSE (R318). DMA CH_CMD PAUSE moves a channel to PAUSING or PAUSED. -/
  | dmaPause (ch : Fin 8)
  /-- PAUSED (R318). A pausing channel whose started steps have finished becomes PAUSED. -/
  | dmaPaused (ch : Fin 8)
  /-- RESUME (R318). DMA CH_CMD RESUME continues a paused descriptor or takes the next. -/
  | dmaResume (ch : Fin 8)
  /-- ABORT (R318). DMA CH_CMD ABORT completes a paused descriptor with ABORTED. -/
  | dmaAbort (ch : Fin 8)
  /-- START (R327). ROTOR CMD START starts the drive from OFF or COAST after its readiness checks. -/
  | rotorStart
  /-- STOP (R327). ROTOR CMD STOP sets the speed target to 0 or returns to OFF. -/
  | rotorStop
  /-- COAST (R326). ROTOR CMD COAST applies safe-off. -/
  | rotorCoast
  /-- RUN (R327). ROTOR CMD RUN returns HOLDUP or zero-torque FLUX to speed control. -/
  | rotorRun
  /-- CLEAR (R327). ROTOR CMD CLEAR leaves TRIPPED and clears a chopper fault when feedback agrees. -/
  | rotorClear
  /-- ROTOR_ENABLE (R326). A write of ROTOR CTRL.ENABLE; writing 0 applies safe-off. -/
  | rotorEnable (data : Word)
  /-- SPD_CMD_WRITE (R334). A write of SPD_CMD changes the target, and a direction change is refused above REV_THRESH or restarts at ALIGN. -/
  | spdCmdWrite (data : Word)
  /-- OC_TRIP (R352). Synchronised ROT_OC forces all gates off within 3 cyc and enters TRIPPED. -/
  | ocTrip (level : Bool)
  /-- OC_HOLD_EXPIRE (R326). With OC_AUTO, ROT_OC reading 0 for OC_HOLD µs moves TRIPPED to CATCH. -/
  | ocHoldExpire
  /-- ZERO_CROSSING (R336). A filtered comparator edge outside blanking counts as a zero crossing and schedules the commutation. -/
  | zeroCrossing (phase : Fin 3) (level : Bool) (counted : Bool)
  /-- COMMUTATE (R337). The commutation delay after a crossing expires and the drive moves to the next sector. -/
  | commutate
  /-- ISH_SAMPLE (R345). A shunt sample is captured, dated and used for current limit and phase reconstruction. -/
  | ishSample (value : BitVec 12)
  /-- VDC_SAMPLE (R349). A DC-link sample is captured and drives the chopper, the soft clamp and OV_HARD. -/
  | vdcSample (value : BitVec 12)
  /-- ACMD_SAMPLE (R332). An analogue speed-command sample sets the target in ANALOG mode. -/
  | acmdSample (value : BitVec 12)
  /-- ROT_CMD_EDGE (R332). An edge of ROT_CMD updates the speed target in LEVEL, FREQ or DUTY mode. -/
  | rotCmdEdge (level : Bool)
  /-- CMD_LOST (R332). No ROT_CMD edge for CMD_SRC.TO ms sets the target to 0 with CMD_LOST. -/
  | cmdLost
  /-- FLUX_DECISION (R344). At each decision period the observer, controllers and switching table choose the next vector. -/
  | fluxDecision
  /-- CHOP_FAULT (R351). A chopper that does not reduce the link, or feedback that disagrees too long, latches a chopper fault. -/
  | chopFault (fb : Bool) (fault : Bool)
  /-- SPIN_CHECK_END (R326). SPIN_WIN ends the spin check, going to ALIGN, CATCH or OFF. -/
  | spinCheckEnd
  /-- ALIGN_END (R340). ALIGN.MS elapses and RAMP begins. -/
  | alignEnd
  /-- RAMP_END (R340). A ramp that reaches F1 without handover realigns or ends with START_FAIL. -/
  | rampEnd
  /-- RECATCH_TIMEOUT (R355). A re-catch attempt reaching RECATCH.TO fails, and three failures give safe-off and RECATCH_FAIL. -/
  | recatchTimeout
  /-- ASC_EXIT (R329). ASC leaves for COAST when the glint speed falls below ASC_MIN or after ASC_CFG.HOLD. -/
  | ascExit
  /-- COAST_TIMEOUT (R326). COAST with no crossing for SPIN_WIN goes to OFF. -/
  | coastTimeout
  /-- UNDERVOLT (R357). A link below UV.LIM for UV.T µs outside HOLDUP applies safe-off and counts. -/
  | undervolt
  /-- GLINT (R365). A GLINT edge is classified against the expected facet's halo and corrects angle and rate. -/
  | glint (level : Bool) (key : Bool)
  /-- FACET_MISS (R365). The angle passes a halo with no mark accepted, counting a miss and advancing the facet. -/
  | facetMiss
  /-- COAST_MAX_EXPIRE (R362). No mark accepted for COAST_MAX ms in COASTING returns the unit to SEARCH. -/
  | coastMaxExpire
  /-- ANGLE_ENABLE (R361). A write of ANGLE CTRL.ENABLE starts VIRTUAL or SEARCH, or returns to OFF, with CFG_REFUSED for bad settings. -/
  | angleEnable (data : Word)
  /-- VSTEP_WRITE (R363). A write of ANGLE VSTEP sets the virtual rate from the next cyc. -/
  | vstepWrite (data : Word)
  /-- SLOT_ENTRY (R373). The calendar slot advances and the new entry's permits are granted, raising MARK or counting skips. -/
  | slotEntry
  /-- CAL_DATA_WRITE (R371). A write of CAL DATA stores an entry pair and advances ADDR. -/
  | calDataWrite (data : Word)
  /-- CAL_DATA_READ (R371). A control-port read of CAL DATA returns an entry pair and advances ADDR. -/
  | calDataRead
  /-- PHASE_WRITE (R373). A write of CAL PHASE moves the current slot forward or backward. -/
  | phaseWrite (data : Word)
  /-- UP (R379). PWR DOM_CMD UP powers a domain up through the handshake. -/
  | domUp (dom : Fin 13)
  /-- DOWN (R380). PWR DOM_CMD DOWN moves a domain to QUIESCING. -/
  | domDown (dom : Fin 13)
  /-- STAGGER_EXPIRE (R379). Once STAGGER µs have passed since the last rise, a powering domain raises its PD_REQ. -/
  | staggerExpire (dom : Fin 13)
  /-- PD_ACK_RISE (R379). PD_ACK rises and the block releases isolation, reapplies fuses and releases domain reset. -/
  | pdAckRise (dom : Fin 13)
  /-- UP_DONE (R475). After hardware SRAM initialisation the domain goes ON and raises UP_DONE. -/
  | upDone (dom : Fin 13)
  /-- PD_ACK_TIMEOUT (R82). PD_ACK not risen after PD_ACK_TO returns the domain to OFF with PD_ACK_TIMEOUT. -/
  | pdAckTimeout (dom : Fin 13)
  /-- DOMAIN_LOST (R82). PD_ACK falling while PD_REQ is 1 isolates the domain and fails its transfers with POWER_OFF. -/
  | domainLost (dom : Fin 13)
  /-- QUIESCE_DONE (R380). When no holder applies, the domain is isolated, reset and PD_REQ cleared. -/
  | quiesceDone (dom : Fin 13)
  /-- QUIESCE_TO (R382). A holder still applying after QTO refuses the power-down and returns the domain to ON. -/
  | quiesceTo (dom : Fin 13)
  /-- DOWN_DONE (R380). PD_ACK reads 0 and the domain is OFF with DOWN_DONE. -/
  | downDone (dom : Fin 13)
  /-- PF_WARN (R384). A synchronised PF_WARN is accepted, latched and fanned out to the rotor drive and all sequencers. -/
  | pfWarn (level : Bool)
  /-- PF_CLEAR (R386). A write of PF_CMD.CLEAR clears the latch, or is refused with PF_CLR_REFUSED. -/
  | pfClear
  /-- LEDGER_GATHER (R398). GATHER µs after the first unflushed entry, the staged ledger entries fall due for a flush. -/
  | ledgerGather (ch : Fin 48)
  /-- LEDGER_FLUSH (R398). With the engine queue empty and the seal LUN idle, the staged entries are programmed as one position. -/
  | ledgerFlush (ch : Fin 48) (pass : Bool)
  /-- RECOVER (R402). PWR LEDG_CMD RECOVER reads the ledgers, blank-verifies open intents and writes the recovery buffer. -/
  | recover
  /-- LEDG_DONE (R402). Ledger recovery ends with its result and LEDG_DONE. -/
  | ledgDone (err : Bool)
  /-- LEDG_EN_WRITE (R399). A write of LEDG_CFG.EN = 1 is accepted only after a successful RECOVER, else CMD_REFUSED. -/
  | ledgEnWrite (data : BitVec 32)
  /-- SCRUB_READ (R422). A scrub walk reads the next word of its region in a qualifying cyc. -/
  | scrubRead (region : Fin 7)
  /-- SCRUB_WRITEBACK (R423). A corrected word is written back in the next qualifying cyc unless a write reached it. -/
  | scrubWriteback (region : Fin 7)
  /-- STARVED (R424). A lap running for LAP_LIM ms raises STARVED. -/
  | starved (region : Fin 7)
  /-- REMAP_CLR (R421). A write of MEMI REMAP_CLR copies the spare back and frees the remap entry. -/
  | remapClr (data : BitVec 32)
  /-- TEST (R427). A write of MEMI TEST enables checker test mode for region 5 or 6. -/
  | memiTest (data : BitVec 32)
  /-- INJECT (R428). A write of MEMI INJECT arms a one- or two-bit error injection. -/
  | memiInject (data : BitVec 32)
  /-- INJ_DONE (R428). The next write to the region stores the injected bits and raises INJ_DONE. -/
  | injDone
  /-- FAULT_EVENT (R434). A source event reaches the collector, counts in its window and applies base and promoted classes. -/
  | faultEvent
  /-- WINDOW_CLOSE (R434). A source's window closes WIN ms after opening and COUNT returns to 0. -/
  | windowClose (source : Fin 256)
  /-- LOG_WRITE (R445). The fault log queue writes one entry per cyc at LOG_HEAD. -/
  | logWrite
  /-- SRC_ACK (R436). A write of SRC_STAT.ACK clears a non-Grave source's STATE and COUNT. -/
  | srcAck (source : Fin 256)
  /-- FW_RAISE (R433). A write of FAULT FW_RAISE counts one event at a firmware source. -/
  | fwRaise (source : BitVec 8)
  /-- FIRST_CLEAR (R444). A write of 1 to FIRST.VALID outside Grave clears the first-fault record. -/
  | firstClear
  /-- EVT_FORCE (R478). A write of EVT_FORCE raises event bits without counting at a source. -/
  | evtForce (page : BitVec 12) (data : BitVec 32)
  /-- PULSE_END (R479). An EVT_OUT pulse line falls after PULSE_W cyc. -/
  | pulseEnd (line : Fin 4)
  /-- VERIFY (R146). A write of SEQG VERIFY starts header and CRC verification of a store region. -/
  | verify (grp : Fin 6) (data : Word)
  /-- VERIFY_DONE (R146). Verification ends with its result, setting VEND_OK or CUST_OK and raising VERIFY_DONE. -/
  | verifyDone (grp : Fin 6)
  /-- SEQG_ENABLE (R147). A write of SEQG CTRL.ENABLE enables the group, refused with WRITE_REFUSED while VEND_OK = 0. -/
  | seqgEnable (grp : Fin 6) (data : Word)
  /-- CUST_HOLD (R144). A write of SEQG CTRL.CUST_HOLD stops or releases starts of customer opcodes. -/
  | custHold (grp : Fin 6) (data : Word)
  /-- XLINK_ENABLE (R455). A write of XLINK CTRL.ENABLE joins the cascade, refused when misconfigured or the reflect port is enabled. -/
  | xlinkEnable (data : BitVec 32)
  /-- REFL_ENABLE (R449). A write of REFL CTRL.ENABLE starts the reflection pair, refused while the cascade port is enabled. -/
  | reflEnable (data : BitVec 32)
  /-- HEARTBEAT_SEND (R454). Every HB.PERIOD µs a block sends an HB record. -/
  | heartbeatSend
  /-- SYNC_SEND (R456). Every SYNC.PERIOD cyc the master broadcasts a SYNC record. -/
  | syncSend
  /-- RECORD_REJECT (R453). A link record with a CRC error or out-of-order SSEQ is dropped, counted for CRC errors. -/
  | recordReject (crc : Bool)
  /-- RESEND (R454). A record unacknowledged within RTO is resent with all later ones, or its destination is declared lost. -/
  | resend (lane : Fin 2)
  /-- HB (R455). A received HB record updates the member's up state and round trip. -/
  | recHb (hdr : LHdr) (grave : Bool) (pf : Bool) (sealing : Bool) (time : BitVec 64)
  /-- ACK (R454). A received ACK record releases acknowledged records from the resend buffer. -/
  | recAck (hdr : LHdr) (lane : Fin 2) (upTo : BitVec 16)
  /-- SYNC (R456). A received SYNC record steers a following member's angle, rate and time offset. -/
  | recSync (hdr : LHdr) (theta : BitVec 48) (omega : BitVec 32) (time : BitVec 64)
  /-- SYNC_LOST (R456). No SYNC for SYNC.TO µs clears SYNCED. -/
  | syncLost
  /-- NUM (R459). A received NUM record adds a stripe number for a cascade profile. -/
  | recNum (hdr : LHdr) (prof : Fin 8) (num : BitVec 32)
  /-- TRIG (R457). A received TRIG record triggers the member's hoops with converted stamps. -/
  | recTrig (hdr : LHdr) (time : BitVec 64) (stamp : BitVec 32)
  /-- PARTIAL (R461). A received PARTIAL row is XORed into the accumulator and forwarded, or closes the stripe at the holder. -/
  | recPartial (hdr : LHdr) (row : Fin 4) (close : BitVec 2) (stripe : BitVec 32) (data : List Byte)
  /-- STRIPE_DONE (R462). A received STRIPE_DONE makes the member write its stripe record. -/
  | recStripeDone (hdr : LHdr) (close : BitVec 2) (stripe : BitVec 32)
  /-- RECON_REQ (R464). A received RECON_REQ makes the member compute and return its contributions. -/
  | recReconReq (hdr : LHdr) (stripe : BitVec 32) (mask : BitVec 16)
  /-- RECON_RSP (R235). A received RECON_RSP adds a contribution into the requester's accumulator. -/
  | recReconRsp (hdr : LHdr) (row : Fin 4) (cw : Fin 16) (data : List Byte)
  /-- RECON_END (R235). A received RECON_END adds the member's lost slots to the lost set. -/
  | recReconEnd (hdr : LHdr) (lost : BitVec 192)
  /-- MEMBER_LOST (R465). A member silent for 4 HB periods is lost and open cascade stripes close without parity. -/
  | memberLost (member : Fin 4)
  /-- MAP_UPD (R469). A received MAP_UPD is applied to the standby's map as a firmware write. -/
  | recMapUpd (hdr : LHdr) (ups : List LMap)
  /-- HOOP (R469). A received HOOP record updates the standby's hoop context bytes. -/
  | recHoop (hdr : LHdr) (hoop : Fin 64) (data : List Byte)
  /-- INTENT (R469). A received INTENT record updates the mirrored open-intent list. -/
  | recIntent (hdr : LHdr) (done : Bool) (body : BitVec 352)
  /-- BAD (R469). A received BAD record sets a bit in the standby's bitmap. -/
  | recBad (hdr : LHdr) (taddr : BitVec 32)
  /-- STRIPE_REC (R469). A received STRIPE_REC is written to the standby's record area. -/
  | recStripeRec (hdr : LHdr) (data : List Byte)
  /-- REF (R469). A received REF record updates the standby's offset table. -/
  | recRef (hdr : LHdr) (glun : Fin 768) (offs : BitVec 64)
  /-- TRIM (R469). A received TRIM record updates the standby's trims, lane map request and rate fields. -/
  | recTrim (hdr : LHdr) (ch : Fin 48) (data : List Byte)
  /-- PEER_LOST (R470). A silent, unresponsive or Grave peer is declared lost, setting SOLO and possibly starting a takeover. -/
  | peerLost
  /-- TAKEOVER (R471). A takeover claims all channels, resets LUNs, retrains and restores hoops before becoming primary. -/
  | takeover
  /-- TAKEOVER_FAIL (R471). A channel not granted within TKO_TO stays unowned and TAKEOVER_FAIL is raised. -/
  | takeoverFail (ch : Fin 48)
  /-- LINKUP_RETURN (R59). LNn_LINKUP returns to 1, so the lane can transfer flits again and its framing restarts at the next SOT. -/
  | linkupReturn (lane : Fin 12)
  /-- RESET_RELEASE (R77). PORST_N or WRST_N rises; the block releases its internal reset, latches identity 3 cyc later after a cold reset, and restarts the core-cycle counter. -/
  | resetRelease (lot : BitVec 32) (die : BitVec 24) (xlIdx : BitVec 2) (rfPrimary : Bool)
  /-- WP_HOLD_END (R79). After a warm reset, once every FLn_RB_N of a slice has read 1 for 1 µs, or after 20 ms, the slice drives FLn_WP_N to 0 or releases the channel. -/
  | wpHoldEnd (ch : Fin 48)
  /-- PWM_PERIOD (R339). A step-mode, ALIGN or RAMP PWM period boundary starts a new on-time of the high leg at the duty of the speed loop. -/
  | pwmPeriod
  /-- OPEN_LOOP_COMMUTATION (R340). In RAMP the drive commutates open-loop to the next sector at the electrical frequency rising from F0 to F1. -/
  | openLoopCommutation
  /-- HOOP_RECORD_PERIOD (R468). Every 1 ms the primary of a reflection pair sends a HOOP record for each hoop. -/
  | hoopRecordPeriod
  /-- OWN_GRANT (R63). The synchronised FLn_OWN_GNT reads 1 while the block waits to claim, so it sets FLn_OWN_REQ and starts the OWN_SETTLE wait. -/
  | ownGrant (ch : Fin 48)
  deriving DecidableEq, Repr

end Sys2Proof
end

