-- ==== Sys2Proof/Machine/Tab.lean ====
section
/-!
DEFINITION. Tables with a canonical form: pairs of a key and a value, keys strictly rising.
A table says with a function what an unlisted key reads as; `tput` lists no entry equal to that, so that
equal contents are equal data.
-/

namespace Sys2Proof.Machine

/-- A table from keys to values. -/
abbrev Tab (α : Type) := List (Nat × α)

/-- The entry listed for `k`. -/
def tfind {α : Type} : Tab α → Nat → Option α
  | [], _ => none
  | (k', v) :: t, k => if k' = k then some v else tfind t k

/-- The value of `k`: the listed one, else `d k`. -/
def tget {α : Type} (d : Nat → α) (t : Tab α) (k : Nat) : α := (tfind t k).getD (d k)

/-- List `v` for `k`, at its place in the rising order. -/
def tins {α : Type} : Tab α → Nat → α → Tab α
  | [], k, v => [(k, v)]
  | (k', v') :: t, k, v =>
    if k < k' then (k, v) :: (k', v') :: t
    else if k = k' then (k, v) :: t
    else (k', v') :: tins t k v

/-- List nothing for `k`. -/
def tdel {α : Type} : Tab α → Nat → Tab α
  | [], _ => []
  | (k', v) :: t, k => if k' = k then tdel t k else (k', v) :: tdel t k

/-- The table in which `k` has the value `v`. -/
def tput {α : Type} [DecidableEq α] (d : Nat → α) (t : Tab α) (k : Nat) (v : α) : Tab α :=
  if v = d k then tdel t k else tins t k v

/-- The table in which the value of `k` is changed by `f`. -/
def tmod {α : Type} [DecidableEq α] (d : Nat → α) (t : Tab α) (k : Nat) (f : α → α) : Tab α :=
  tput d t k (f (tget d t k))

/-- Keys strictly rising from above `lo`. -/
def tsortedAbove {α : Type} : Nat → Tab α → Bool
  | _, [] => true
  | lo, (k, _) :: t => decide (lo < k) && tsortedAbove k t

/-- Keys strictly rising. -/
def tsorted {α : Type} : Tab α → Bool
  | [] => true
  | (k, _) :: t => tsortedAbove k t

/-- The canonical form: keys strictly rising, and no entry equal to what an unlisted key reads as. -/
def twf {α : Type} [DecidableEq α] (d : Nat → α) (t : Tab α) : Bool :=
  tsorted t && t.all (fun p => !decide (p.2 = d p.1))

/-- The default of a table of bytes that reads 0 where nothing is listed. -/
def zeroByte : Nat → Byte := fun _ => 0

/-- The default of a table of words that reads 0 where nothing is listed. -/
def zeroWord : Nat → Word := fun _ => 0

/-- `n` bytes of a byte table from `a`, lowest address first. -/
def tbytes (t : Tab Byte) (a n : Nat) : List Byte := (List.range n).map (fun i => tget zeroByte t (a + i))

/-- Store bytes from `a` on, lowest address first. -/
def tstore : Tab Byte → Nat → List Byte → Tab Byte
  | t, _, [] => t
  | t, a, b :: bs => tstore (tput zeroByte t a b) (a + 1) bs

/-- Add the keys from `lo` to `hi` − 1 to a set kept as ranges of first key and end, rising and apart. -/
def rAdd : List (Nat × Nat) → Nat → Nat → List (Nat × Nat)
  | [], lo, hi => if lo < hi then [(lo, hi)] else []
  | (a, b) :: t, lo, hi =>
    if hi ≤ lo then (a, b) :: t
    else if hi < a then (lo, hi) :: (a, b) :: t
    else if b < lo then (a, b) :: rAdd t lo hi
    else rAdd t (min a lo) (max b hi)

/-- Take the keys from `lo` to `hi` − 1 out of such a set. -/
def rDel (t : List (Nat × Nat)) (lo hi : Nat) : List (Nat × Nat) :=
  t.flatMap (fun p => [(p.1, min p.2 lo), (max p.1 hi, p.2)].filter (fun q => decide (q.1 < q.2)))

/-- Is a key in such a set? -/
def rHas (t : List (Nat × Nat)) (k : Nat) : Bool := t.any (fun p => decide (p.1 ≤ k) && decide (k < p.2))

/-- The number that bytes spell, lowest first (00_scope.md R11: little-endian). -/
def leNat : List Byte → Nat
  | [] => 0
  | b :: bs => b.toNat + 256 * leNat bs

/-- `n` bytes that spell `v`, lowest first (R11). -/
def leBytes : Nat → Nat → List Byte
  | 0, _ => []
  | n + 1, v => BitVec.ofNat 8 v :: leBytes n (v / 256)

/-- Bits `[lsb + w - 1 : lsb]` of a number. -/
def bits (v lsb w : Nat) : Nat := v / 2 ^ lsb % 2 ^ w

/-- Bit `i` of a number. -/
def bit (v i : Nat) : Bool := v / 2 ^ i % 2 = 1

/-- 1 for true, 0 for false. -/
def b2n (b : Bool) : Nat := if b then 1 else 0

/-- The signed number that the `w` bits of `v` spell. -/
def sgn (w v : Nat) : Int := if v % 2 ^ w < 2 ^ (w - 1) then (v % 2 ^ w : Nat) else ((v % 2 ^ w : Nat) : Int) - 2 ^ w

/-- The `w` bits of a signed number. -/
def unsgn (w : Nat) (i : Int) : Nat := (i % (2 ^ w : Int)).toNat

/-- `i` held within `lo` and `hi`. -/
def clampI (lo hi i : Int) : Int := if i < lo then lo else if hi < i then hi else i

/-- `n` held at most `m` (a saturating counter). -/
def sat (m n : Nat) : Nat := if m < n then m else n

end Sys2Proof.Machine
end

