-- ==== Sys2Proof/Machine/Ecc.lean ====
section
/-!
DEFINITION. The strong and the light code of the on-chip SRAM and the classification of a read
(14_memory_integrity.md R409, R410, R411).
-/

namespace Sys2Proof.Machine

/-- Columns of the strong code's data bits, bit 0 first (R409). -/
def strongCols : List Nat := [
  0x07, 0x0B, 0x0D, 0x0E, 0x13, 0x15, 0x16, 0x19, 0x1A, 0x1C, 0x23, 0x25, 0x26, 0x29, 0x2A, 0x2C,
  0x31, 0x32, 0x34, 0x38, 0x43, 0x45, 0x46, 0x49, 0x4A, 0x4C, 0x51, 0x52, 0x54, 0x58, 0x61, 0x62]

/-- Number of ones among the lowest `n` bits. -/
def popcount : Nat → Nat → Nat
  | 0, _ => 0
  | n + 1, v => v % 2 + popcount n (v / 2)

/-- Columns of the light code's data bits: the weight-3 patterns in ascending order, then eight of weight 5 (R410). -/
def lightCols : List Nat :=
  (List.range 256).filter (fun p => popcount 8 p = 3) ++ [0x1F, 0x2F, 0x37, 0x3B, 0x3D, 0x3E, 0x4F, 0x57]

/-- XOR of the columns of the set bits of `d` (R409: a check bit is the XOR of the data bits of its columns). -/
def xorCols : List Nat → Nat → Nat
  | [], _ => 0
  | c :: cs, d => (if d % 2 = 1 then c else 0) ^^^ xorCols cs (d / 2)

/-- Check bits of the strong code. -/
def strongCheck (d : Word) : BitVec 7 := BitVec.ofNat 7 (xorCols strongCols d.toNat)

/-- Check bits of the light code. -/
def lightCheck (d : BitVec 64) : BitVec 8 := BitVec.ofNat 8 (xorCols lightCols d.toNat)

/-- The stored word of the strong code (R409). -/
def strongEnc (d : Word) : Strong := (strongCheck d).append d

/-- Stored data of a strong-code word. -/
def strongData (w : Strong) : Word := w.extractLsb' 0 32

/-- Stored check bits of a strong-code word. -/
def strongStored (w : Strong) : BitVec 7 := w.extractLsb' 32 7

/-- Syndrome: stored check bits XOR the check bits of the stored data (R411). -/
def strongSyn (w : Strong) : BitVec 7 := strongStored w ^^^ strongCheck (strongData w)

/-- Syndrome classes (R411). -/
inductive SynClass where
  /-- syndrome 0 -/
  | clean
  /-- the column of data bit `i` -/
  | data (i : Nat)
  /-- weight 1 -/
  | check
  /-- any other value -/
  | bad
  deriving DecidableEq, Repr

/-- Class of a syndrome among the columns of a code of `n` check bits (R411). -/
def synClass (cols : List Nat) (n syn : Nat) : SynClass :=
  if syn = 0 then .clean
  else match cols.findIdx? (fun c => c = syn) with
    | some i => .data i
    | none => if popcount n syn = 1 then .check else .bad

/-- Class of a stored strong-code word. -/
def strongClass (w : Strong) : SynClass := synClass strongCols 7 (strongSyn w).toNat

/-- Data delivered by a read of a strong-code word (R411). -/
def strongRead (w : Strong) : Word :=
  match strongClass w with
  | .data i => strongData w ^^^ (1#32 <<< i)
  | _ => strongData w

/-- Syndrome of an error pattern of a light-code word: the code is linear, so the pattern alone decides the class. -/
def lightSyn (e : BitVec 72) : BitVec 8 := e.extractLsb' 64 8 ^^^ lightCheck (e.extractLsb' 0 64)

/-- Has a region the strong code (R408)? -/
def strongRegion (region : Nat) : Bool := region = 1 || region = 3 || region = 5 || region = 6

/-- Class of a word of a region, from its error pattern: light code in regions 0, 2 and 4, strong code elsewhere (R408). -/
def patternClass (region : Nat) (e : BitVec 72) : SynClass :=
  if strongRegion region then strongClass (e.extractLsb' 0 39) else synClass lightCols 8 (lightSyn e).toNat

/-- Is a class correctable? -/
def SynClass.fixable : SynClass → Bool
  | .data _ => true
  | .check => true
  | _ => false

/-- Encoding of a class in `TEST_RD.CLASS` (R430). -/
def SynClass.code : SynClass → Nat
  | .clean => 0
  | .data _ => 1
  | .check => 2
  | .bad => 3

end Sys2Proof.Machine
end

