-- ==== Sys2Proof/Machine/Fields.lean ====
section
/-!
DEFINITION. The fields of the registers (17_bringup_registers.md R482, each page's chapter for the fields).
`R.PAGE_REGISTER_FIELD` names a field by the address of its word, its lowest bit and its width.
A page with instances takes the instance first; a register with an index takes the index next.
-/

namespace Sys2Proof.Machine

/-- A field of a register word. -/
structure Fld where
  /-- byte address of the word in the control window -/
  addr : Nat
  /-- lowest bit -/
  lsb : Nat
  /-- width in bits -/
  wid : Nat
  deriving DecidableEq, Repr

namespace R

/-- `SYS.CTRL.ENABLE` [0:0] RO (R19). -/
def SYS_CTRL_ENABLE : Fld := ⟨0x8, 0, 1⟩
/-- `SYS.STATUS.WARM` [1:1] RO (R476). -/
def SYS_STATUS_WARM : Fld := ⟨0xC, 1, 1⟩
/-- `SYS.STATUS.FUSE_TO` [0:0] RO (R476). -/
def SYS_STATUS_FUSE_TO : Fld := ⟨0xC, 0, 1⟩
/-- `SYS.ID_LOT.LOT` [31:0] RO (R476). -/
def SYS_ID_LOT_LOT : Fld := ⟨0x40, 0, 32⟩
/-- `SYS.ID_DIE.WAFER` [23:16] RO (R476). -/
def SYS_ID_DIE_WAFER : Fld := ⟨0x44, 16, 8⟩
/-- `SYS.ID_DIE.DIE_X` [15:8] RO (R476). -/
def SYS_ID_DIE_DIE_X : Fld := ⟨0x44, 8, 8⟩
/-- `SYS.ID_DIE.DIE_Y` [7:0] RO (R476). -/
def SYS_ID_DIE_DIE_Y : Fld := ⟨0x44, 0, 8⟩
/-- `SYS.CONFIG.NCH` [29:24] RO (R476). -/
def SYS_CONFIG_NCH : Fld := ⟨0x48, 24, 6⟩
/-- `SYS.CONFIG.NLANE` [20:16] RO (R476). -/
def SYS_CONFIG_NLANE : Fld := ⟨0x48, 16, 5⟩
/-- `SYS.CONFIG.NDEC` [12:8] RO (R476). -/
def SYS_CONFIG_NDEC : Fld := ⟨0x48, 8, 5⟩
/-- `SYS.CONFIG.LUN2` [4:4] RO (R476). -/
def SYS_CONFIG_LUN2 : Fld := ⟨0x48, 4, 1⟩
/-- `SYS.CONFIG.REFL` [2:2] RO (R476). -/
def SYS_CONFIG_REFL : Fld := ⟨0x48, 2, 1⟩
/-- `SYS.CONFIG.XLINK` [1:1] RO (R476). -/
def SYS_CONFIG_XLINK : Fld := ⟨0x48, 1, 1⟩
/-- `SYS.CONFIG.ROTOR` [0:0] RO (R476). -/
def SYS_CONFIG_ROTOR : Fld := ⟨0x48, 0, 1⟩
/-- `SYS.OFF_ADDR.ADDR` [23:0] RO (R476). -/
def SYS_OFF_ADDR_ADDR : Fld := ⟨0x4C, 0, 24⟩
/-- `SYS.TIME_LO.CYC` [31:0] RO (R476). -/
def SYS_TIME_LO_CYC : Fld := ⟨0x50, 0, 32⟩
/-- `SYS.TIME_HI.CYC` [31:0] RO (R476). -/
def SYS_TIME_HI_CYC : Fld := ⟨0x54, 0, 32⟩
/-- `SYS.EVT_LINE.LINE3` [31:24] RW (R476). -/
def SYS_EVT_LINE_LINE3 : Fld := ⟨0x58, 24, 8⟩
/-- `SYS.EVT_LINE.LINE2` [23:16] RW (R476). -/
def SYS_EVT_LINE_LINE2 : Fld := ⟨0x58, 16, 8⟩
/-- `SYS.EVT_LINE.LINE1` [15:8] RW (R476). -/
def SYS_EVT_LINE_LINE1 : Fld := ⟨0x58, 8, 8⟩
/-- `SYS.EVT_LINE.LINE0` [7:0] RW (R476). -/
def SYS_EVT_LINE_LINE0 : Fld := ⟨0x58, 0, 8⟩
/-- `SYS.PIN_STAT.EVT_OUT` [16:13] RO (R72). -/
def SYS_PIN_STAT_EVT_OUT : Fld := ⟨0x60, 13, 4⟩
/-- `SYS.PIN_STAT.FAULT_OUT` [12:12] RO (R72). -/
def SYS_PIN_STAT_FAULT_OUT : Fld := ⟨0x60, 12, 1⟩
/-- `SYS.PIN_STAT.PF_WARN` [11:11] RO (R72). -/
def SYS_PIN_STAT_PF_WARN : Fld := ⟨0x60, 11, 1⟩
/-- `SYS.PIN_STAT.TRIG_IN` [10:10] RO (R72). -/
def SYS_PIN_STAT_TRIG_IN : Fld := ⟨0x60, 10, 1⟩
/-- `SYS.PIN_STAT.GLINT_KEY` [9:9] RO (R72). -/
def SYS_PIN_STAT_GLINT_KEY : Fld := ⟨0x60, 9, 1⟩
/-- `SYS.PIN_STAT.GLINT` [8:8] RO (R72). -/
def SYS_PIN_STAT_GLINT : Fld := ⟨0x60, 8, 1⟩
/-- `SYS.PIN_STAT.ROT_CMD` [7:7] RO (R72). -/
def SYS_PIN_STAT_ROT_CMD : Fld := ⟨0x60, 7, 1⟩
/-- `SYS.PIN_STAT.ROT_CHOP_FB` [6:6] RO (R72). -/
def SYS_PIN_STAT_ROT_CHOP_FB : Fld := ⟨0x60, 6, 1⟩
/-- `SYS.PIN_STAT.ROT_OC` [5:5] RO (R72). -/
def SYS_PIN_STAT_ROT_OC : Fld := ⟨0x60, 5, 1⟩
/-- `SYS.PIN_STAT.ROT_ZC` [4:2] RO (R72). -/
def SYS_PIN_STAT_ROT_ZC : Fld := ⟨0x60, 2, 3⟩
/-- `SYS.SCRATCH.DATA` [31:0] RW (R476). -/
def SYS_SCRATCH_DATA : Fld := ⟨0x64, 0, 32⟩
/-- `PWR.CTRL.PF_EN` [8:8] RW (R407). -/
def PWR_CTRL_PF_EN : Fld := ⟨0x2008, 8, 1⟩
/-- `PWR.CTRL.ENABLE` [0:0] RW (R19). -/
def PWR_CTRL_ENABLE : Fld := ⟨0x2008, 0, 1⟩
/-- `PWR.STATUS.PF_PIN` [4:4] RO (R407). -/
def PWR_STATUS_PF_PIN : Fld := ⟨0x200C, 4, 1⟩
/-- `PWR.STATUS.SEAL_DONE` [2:2] RO (R407). -/
def PWR_STATUS_SEAL_DONE : Fld := ⟨0x200C, 2, 1⟩
/-- `PWR.STATUS.SEAL_RUN` [1:1] RO (R407). -/
def PWR_STATUS_SEAL_RUN : Fld := ⟨0x200C, 1, 1⟩
/-- `PWR.STATUS.PF` [0:0] RO (R407). -/
def PWR_STATUS_PF : Fld := ⟨0x200C, 0, 1⟩
/-- `PWR.DOM_CMD.DOMAIN` [19:16] WO (R407). -/
def PWR_DOM_CMD_DOMAIN : Fld := ⟨0x2040, 16, 4⟩
/-- `PWR.DOM_CMD.OP` [1:0] WO (R407). -/
def PWR_DOM_CMD_OP : Fld := ⟨0x2040, 0, 2⟩
/-- `PWR.DOM_RES.RESULT` [3:0] RO (R407). -/
def PWR_DOM_RES_RESULT : Fld := ⟨0x2044, 0, 4⟩
/-- `PWR.DOM_STATE0.STATE` [29:0] RO (R407). -/
def PWR_DOM_STATE0_STATE : Fld := ⟨0x2048, 0, 30⟩
/-- `PWR.DOM_STATE1.STATE` [8:0] RO (R407). -/
def PWR_DOM_STATE1_STATE : Fld := ⟨0x204C, 0, 9⟩
/-- `PWR.PD_ACK_TO.CYC` [23:0] RW (R407). -/
def PWR_PD_ACK_TO_CYC : Fld := ⟨0x2050, 0, 24⟩
/-- `PWR.QTO.US` [15:0] RW (R407). -/
def PWR_QTO_US : Fld := ⟨0x2054, 0, 16⟩
/-- `PWR.STAGGER.US` [9:0] RW (R407). -/
def PWR_STAGGER_US : Fld := ⟨0x2058, 0, 10⟩
/-- `PWR.QTO_INFO.DOMAIN` [19:16] RO (R407). -/
def PWR_QTO_INFO_DOMAIN : Fld := ⟨0x205C, 16, 4⟩
/-- `PWR.QTO_INFO.HOLDER` [3:0] RO (R407). -/
def PWR_QTO_INFO_HOLDER : Fld := ⟨0x205C, 0, 4⟩
/-- `PWR.PF_CMD.CLEAR` [0:0] WO (R407). -/
def PWR_PF_CMD_CLEAR : Fld := ⟨0x2060, 0, 1⟩
/-- `PWR.SEAL_CFG.MAPFLUSH` [8:8] RW (R407). -/
def PWR_SEAL_CFG_MAPFLUSH : Fld := ⟨0x2064, 8, 1⟩
/-- `PWR.SEAL_CFG.MAXT` [3:0] RW (R407). -/
def PWR_SEAL_CFG_MAXT : Fld := ⟨0x2064, 0, 4⟩
/-- `PWR.SEAL_AREA.PAGE` [26:16] RW (R407). -/
def PWR_SEAL_AREA_PAGE : Fld := ⟨0x2068, 16, 11⟩
/-- `PWR.SEAL_AREA.BLK` [10:0] RW (R407). -/
def PWR_SEAL_AREA_BLK : Fld := ⟨0x2068, 0, 11⟩
/-- `PWR.SEAL_TIME.CYC` [31:0] RO (R407). -/
def PWR_SEAL_TIME_CYC : Fld := ⟨0x206C, 0, 32⟩
/-- `PWR.SEAL_CNT.CNT` [15:0] RO (R407). -/
def PWR_SEAL_CNT_CNT : Fld := ⟨0x2070, 0, 16⟩
/-- `PWR.LEDG_BLK.BLK_B` [26:16] RW (R407). -/
def PWR_LEDG_BLK_BLK_B : Fld := ⟨0x2074, 16, 11⟩
/-- `PWR.LEDG_BLK.BLK_A` [10:0] RW (R407). -/
def PWR_LEDG_BLK_BLK_A : Fld := ⟨0x2074, 0, 11⟩
/-- `PWR.LEDG_CFG.BV_ZMAX` [31:24] RW (R407). -/
def PWR_LEDG_CFG_BV_ZMAX : Fld := ⟨0x2078, 24, 8⟩
/-- `PWR.LEDG_CFG.BV_STRIDE` [23:16] RW (R407). -/
def PWR_LEDG_CFG_BV_STRIDE : Fld := ⟨0x2078, 16, 8⟩
/-- `PWR.LEDG_CFG.GATHER` [15:8] RW (R407). -/
def PWR_LEDG_CFG_GATHER : Fld := ⟨0x2078, 8, 8⟩
/-- `PWR.LEDG_CFG.BV_SET` [6:4] RW (R407). -/
def PWR_LEDG_CFG_BV_SET : Fld := ⟨0x2078, 4, 3⟩
/-- `PWR.LEDG_CFG.EN` [0:0] RW (R407). -/
def PWR_LEDG_CFG_EN : Fld := ⟨0x2078, 0, 1⟩
/-- `PWR.LEDG_CMD.RECOVER` [0:0] WO (R407). -/
def PWR_LEDG_CMD_RECOVER : Fld := ⟨0x207C, 0, 1⟩
/-- `PWR.LEDG_STAT.OPEN` [31:16] RO (R407). -/
def PWR_LEDG_STAT_OPEN : Fld := ⟨0x2080, 16, 16⟩
/-- `PWR.LEDG_STAT.BUSY` [15:15] RO (R407). -/
def PWR_LEDG_STAT_BUSY : Fld := ⟨0x2080, 15, 1⟩
/-- `PWR.LEDG_STAT.RESULT` [3:0] RO (R407). -/
def PWR_LEDG_STAT_RESULT : Fld := ⟨0x2080, 0, 4⟩
/-- `PWR.LEDG_BUF_LO.ADDR` [31:6] RW (R407). -/
def PWR_LEDG_BUF_LO_ADDR : Fld := ⟨0x2084, 6, 26⟩
/-- `PWR.LEDG_BUF_HI.ADDR` [15:0] RW (R407). -/
def PWR_LEDG_BUF_HI_ADDR : Fld := ⟨0x2088, 0, 16⟩
/-- `PWR.LEDG_SEL.CH` [5:0] RW (R407). -/
def PWR_LEDG_SEL_CH : Fld := ⟨0x208C, 0, 6⟩
/-- `PWR.LEDG_POS.BLK` [31:31] RO (R407). -/
def PWR_LEDG_POS_BLK : Fld := ⟨0x2090, 31, 1⟩
/-- `PWR.LEDG_POS.POS` [13:0] RO (R407). -/
def PWR_LEDG_POS_POS : Fld := ⟨0x2090, 0, 14⟩
/-- `PWR.LEDG_NSEQ.SEQ` [31:0] RO (R407). -/
def PWR_LEDG_NSEQ_SEQ : Fld := ⟨0x2094, 0, 32⟩
/-- `FAULT.CTRL.LOCK` [8:8] W1S (R448). -/
def FAULT_CTRL_LOCK : Fld := ⟨0x3008, 8, 1⟩
/-- `FAULT.CTRL.ENABLE` [0:0] RO (R19). -/
def FAULT_CTRL_ENABLE : Fld := ⟨0x3008, 0, 1⟩
/-- `FAULT.STATUS.GRAVE` [31:31] RO (R448). -/
def FAULT_STATUS_GRAVE : Fld := ⟨0x300C, 31, 1⟩
/-- `FAULT.STATUS.SEVERE` [30:30] RO (R448). -/
def FAULT_STATUS_SEVERE : Fld := ⟨0x300C, 30, 1⟩
/-- `FAULT.STATUS.DEGRADED` [29:29] RO (R448). -/
def FAULT_STATUS_DEGRADED : Fld := ⟨0x300C, 29, 1⟩
/-- `FAULT.STATUS.FOUT` [28:28] RO (R448). -/
def FAULT_STATUS_FOUT : Fld := ⟨0x300C, 28, 1⟩
/-- `FAULT.CFG.OUT_DEG` [8:8] RW (R448). -/
def FAULT_CFG_OUT_DEG : Fld := ⟨0x3040, 8, 1⟩
/-- `FAULT.FIRST.VALID` [31:31] W1C (R448). -/
def FAULT_FIRST_VALID : Fld := ⟨0x3044, 31, 1⟩
/-- `FAULT.FIRST.CLASS` [25:24] RO (R448). -/
def FAULT_FIRST_CLASS : Fld := ⟨0x3044, 24, 2⟩
/-- `FAULT.FIRST.SOURCE` [7:0] RO (R448). -/
def FAULT_FIRST_SOURCE : Fld := ⟨0x3044, 0, 8⟩
/-- `FAULT.FIRST_TIME_LO.CYC` [31:0] RO (R448). -/
def FAULT_FIRST_TIME_LO_CYC : Fld := ⟨0x3048, 0, 32⟩
/-- `FAULT.FIRST_TIME_HI.CYC` [31:0] RO (R448). -/
def FAULT_FIRST_TIME_HI_CYC : Fld := ⟨0x304C, 0, 32⟩
/-- `FAULT.FIRST_DETAIL.DETAIL` [31:0] RO (R448). -/
def FAULT_FIRST_DETAIL_DETAIL : Fld := ⟨0x3050, 0, 32⟩
/-- `FAULT.GRAVE_SRC.VALID` [31:31] RO (R448). -/
def FAULT_GRAVE_SRC_VALID : Fld := ⟨0x3054, 31, 1⟩
/-- `FAULT.GRAVE_SRC.SOURCE` [7:0] RO (R448). -/
def FAULT_GRAVE_SRC_SOURCE : Fld := ⟨0x3054, 0, 8⟩
/-- `FAULT.LOG_HEAD.IDX` [5:0] RO (R448). -/
def FAULT_LOG_HEAD_IDX : Fld := ⟨0x3058, 0, 6⟩
/-- `FAULT.LOG_CNT.CNT` [31:0] RO (R448). -/
def FAULT_LOG_CNT_CNT : Fld := ⟨0x305C, 0, 32⟩
/-- `FAULT.LOG_LOST.CNT` [15:0] RO (R448). -/
def FAULT_LOG_LOST_CNT : Fld := ⟨0x3060, 0, 16⟩
/-- `FAULT.FW_RAISE.SOURCE` [7:0] WO (R448). -/
def FAULT_FW_RAISE_SOURCE : Fld := ⟨0x3064, 0, 8⟩
/-- `FAULT.FW_DETAIL.DETAIL` [31:0] RW (R448). -/
def FAULT_FW_DETAIL_DETAIL : Fld := ⟨0x3068, 0, 32⟩
/-- `FAULT.RST_CNT.CNT` [15:0] RO (R448). -/
def FAULT_RST_CNT_CNT : Fld := ⟨0x306C, 0, 16⟩
/-- `FAULT.SRC_CFG.WIN` [31:16] RWL (R448). -/
def FAULT_SRC_CFG_WIN (i : Nat) : Fld := ⟨0x3400 + i * 0x8, 16, 16⟩
/-- `FAULT.SRC_CFG.THR` [15:8] RWL (R448). -/
def FAULT_SRC_CFG_THR (i : Nat) : Fld := ⟨0x3400 + i * 0x8, 8, 8⟩
/-- `FAULT.SRC_CFG.PROM` [6:5] RWL (R448). -/
def FAULT_SRC_CFG_PROM (i : Nat) : Fld := ⟨0x3400 + i * 0x8, 5, 2⟩
/-- `FAULT.SRC_CFG.BASE` [4:3] RWL (R448). -/
def FAULT_SRC_CFG_BASE (i : Nat) : Fld := ⟨0x3400 + i * 0x8, 3, 2⟩
/-- `FAULT.SRC_CFG.DOM` [1:1] RWL (R448). -/
def FAULT_SRC_CFG_DOM (i : Nat) : Fld := ⟨0x3400 + i * 0x8, 1, 1⟩
/-- `FAULT.SRC_CFG.ROT` [0:0] RWL (R448). -/
def FAULT_SRC_CFG_ROT (i : Nat) : Fld := ⟨0x3400 + i * 0x8, 0, 1⟩
/-- `FAULT.SRC_STAT.ACK` [31:31] WO (R448). -/
def FAULT_SRC_STAT_ACK (i : Nat) : Fld := ⟨0x3404 + i * 0x8, 31, 1⟩
/-- `FAULT.SRC_STAT.STATE` [25:24] RO (R448). -/
def FAULT_SRC_STAT_STATE (i : Nat) : Fld := ⟨0x3404 + i * 0x8, 24, 2⟩
/-- `FAULT.SRC_STAT.COUNT` [23:16] RO (R448). -/
def FAULT_SRC_STAT_COUNT (i : Nat) : Fld := ⟨0x3404 + i * 0x8, 16, 8⟩
/-- `FAULT.SRC_STAT.TOTAL` [15:0] RO (R448). -/
def FAULT_SRC_STAT_TOTAL (i : Nat) : Fld := ⟨0x3404 + i * 0x8, 0, 16⟩
/-- `FAULT.LOG.ALL` [31:0] RO (R448). -/
def FAULT_LOG_ALL (i : Nat) : Fld := ⟨0x3C00 + i * 0x10, 0, 32⟩
/-- `MEMI.CTRL.PERMIT_IGN` [8:8] RW (R430). -/
def MEMI_CTRL_PERMIT_IGN : Fld := ⟨0x4008, 8, 1⟩
/-- `MEMI.CTRL.ENABLE` [0:0] RW (R19). -/
def MEMI_CTRL_ENABLE : Fld := ⟨0x4008, 0, 1⟩
/-- `MEMI.SCRUB_EN.REGIONS` [6:0] RW (R430). -/
def MEMI_SCRUB_EN_REGIONS : Fld := ⟨0x4040, 0, 7⟩
/-- `MEMI.REPEAT.WIN` [31:16] RW (R430). -/
def MEMI_REPEAT_WIN : Fld := ⟨0x4044, 16, 16⟩
/-- `MEMI.REPEAT.THR` [7:0] RW (R430). -/
def MEMI_REPEAT_THR : Fld := ⟨0x4044, 0, 8⟩
/-- `MEMI.REMAP_CLR.REGION` [30:28] WO (R430). -/
def MEMI_REMAP_CLR_REGION : Fld := ⟨0x4048, 28, 3⟩
/-- `MEMI.REMAP_CLR.ENTRY` [2:0] WO (R430). -/
def MEMI_REMAP_CLR_ENTRY : Fld := ⟨0x4048, 0, 3⟩
/-- `MEMI.LOG_SEL.REGION` [6:4] RW (R430). -/
def MEMI_LOG_SEL_REGION : Fld := ⟨0x404C, 4, 3⟩
/-- `MEMI.LOG_SEL.ENTRY` [3:0] RW (R430). -/
def MEMI_LOG_SEL_ENTRY : Fld := ⟨0x404C, 0, 4⟩
/-- `MEMI.LOG_ENT.VALID` [31:31] RO (R430). -/
def MEMI_LOG_ENT_VALID : Fld := ⟨0x4050, 31, 1⟩
/-- `MEMI.LOG_ENT.COUNT` [30:24] RO (R430). -/
def MEMI_LOG_ENT_COUNT : Fld := ⟨0x4050, 24, 7⟩
/-- `MEMI.LOG_ENT.WADDR` [23:0] RO (R430). -/
def MEMI_LOG_ENT_WADDR : Fld := ⟨0x4050, 0, 24⟩
/-- `MEMI.LOG_AGE.MS` [31:0] RO (R430). -/
def MEMI_LOG_AGE_MS : Fld := ⟨0x4054, 0, 32⟩
/-- `MEMI.TEST.REGION` [6:4] RW (R430). -/
def MEMI_TEST_REGION : Fld := ⟨0x4058, 4, 3⟩
/-- `MEMI.TEST.EN` [0:0] RW (R430). -/
def MEMI_TEST_EN : Fld := ⟨0x4058, 0, 1⟩
/-- `MEMI.TEST_CHK.CHK` [7:0] RW (R430). -/
def MEMI_TEST_CHK_CHK : Fld := ⟨0x405C, 0, 8⟩
/-- `MEMI.TEST_RD.CLASS` [25:24] RO (R430). -/
def MEMI_TEST_RD_CLASS : Fld := ⟨0x4060, 24, 2⟩
/-- `MEMI.TEST_RD.SYN` [15:8] RO (R430). -/
def MEMI_TEST_RD_SYN : Fld := ⟨0x4060, 8, 8⟩
/-- `MEMI.TEST_RD.CHK` [7:0] RO (R430). -/
def MEMI_TEST_RD_CHK : Fld := ⟨0x4060, 0, 8⟩
/-- `MEMI.INJECT.ARM` [31:31] RW (R430). -/
def MEMI_INJECT_ARM : Fld := ⟨0x4064, 31, 1⟩
/-- `MEMI.INJECT.REGION` [30:28] RW (R430). -/
def MEMI_INJECT_REGION : Fld := ⟨0x4064, 28, 3⟩
/-- `MEMI.INJECT.TWO` [24:24] RW (R430). -/
def MEMI_INJECT_TWO : Fld := ⟨0x4064, 24, 1⟩
/-- `MEMI.INJECT.POS_B` [14:8] RW (R430). -/
def MEMI_INJECT_POS_B : Fld := ⟨0x4064, 8, 7⟩
/-- `MEMI.INJECT.POS_A` [6:0] RW (R430). -/
def MEMI_INJECT_POS_A : Fld := ⟨0x4064, 0, 7⟩
/-- `MEMI.INJ_ADDR.REGION` [30:28] RO (R430). -/
def MEMI_INJ_ADDR_REGION : Fld := ⟨0x4068, 28, 3⟩
/-- `MEMI.INJ_ADDR.WADDR` [23:0] RO (R430). -/
def MEMI_INJ_ADDR_WADDR : Fld := ⟨0x4068, 0, 24⟩
/-- `MEMI.FUSE_STAT.BAD` [26:16] RO (R430). -/
def MEMI_FUSE_STAT_BAD : Fld := ⟨0x406C, 16, 11⟩
/-- `MEMI.FUSE_STAT.APPLIED` [10:0] RO (R430). -/
def MEMI_FUSE_STAT_APPLIED : Fld := ⟨0x406C, 0, 11⟩
/-- `MEMI.LAP_LIM.MS` [15:0] RW (R430). -/
def MEMI_LAP_LIM_MS (i : Nat) : Fld := ⟨0x4100 + i * 0x20, 0, 16⟩
/-- `MEMI.LAP_TIME.CYC` [31:0] RO (R430). -/
def MEMI_LAP_TIME_CYC (i : Nat) : Fld := ⟨0x4104 + i * 0x20, 0, 32⟩
/-- `MEMI.LAP_CNT.CNT` [31:0] RW (R430). -/
def MEMI_LAP_CNT_CNT (i : Nat) : Fld := ⟨0x4108 + i * 0x20, 0, 32⟩
/-- `MEMI.CE_CNT.CNT` [31:0] RW (R430). -/
def MEMI_CE_CNT_CNT (i : Nat) : Fld := ⟨0x410C + i * 0x20, 0, 32⟩
/-- `MEMI.UE_CNT.CNT` [31:0] RW (R430). -/
def MEMI_UE_CNT_CNT (i : Nat) : Fld := ⟨0x4110 + i * 0x20, 0, 32⟩
/-- `MEMI.LAST_UE.ORIGIN` [31:28] RO (R430). -/
def MEMI_LAST_UE_ORIGIN (i : Nat) : Fld := ⟨0x4114 + i * 0x20, 28, 4⟩
/-- `MEMI.LAST_UE.WADDR` [23:0] RO (R430). -/
def MEMI_LAST_UE_WADDR (i : Nat) : Fld := ⟨0x4114 + i * 0x20, 0, 24⟩
/-- `MEMI.REMAP_USED.CNT` [3:0] RO (R430). -/
def MEMI_REMAP_USED_CNT (i : Nat) : Fld := ⟨0x4118 + i * 0x20, 0, 4⟩
/-- `MEMI.REMAP.VALID` [31:31] RO (R430). -/
def MEMI_REMAP_VALID (i j : Nat) : Fld := ⟨0x4200 + i * 0x20 + j * 0x4, 31, 1⟩
/-- `MEMI.REMAP.WADDR` [23:0] RO (R430). -/
def MEMI_REMAP_WADDR (i j : Nat) : Fld := ⟨0x4200 + i * 0x20 + j * 0x4, 0, 24⟩
/-- `DMA.CTRL.WIN_EN` [8:8] RW (R321). -/
def DMA_CTRL_WIN_EN : Fld := ⟨0x5008, 8, 1⟩
/-- `DMA.CTRL.ENABLE` [0:0] RW (R19). -/
def DMA_CTRL_ENABLE : Fld := ⟨0x5008, 0, 1⟩
/-- `DMA.CFG.RB_WEIGHT` [3:0] RW (R321). -/
def DMA_CFG_RB_WEIGHT : Fld := ⟨0x5040, 0, 4⟩
/-- `DMA.REFUSE_INFO.RING` [29:16] RO (R321). -/
def DMA_REFUSE_INFO_RING : Fld := ⟨0x5044, 16, 14⟩
/-- `DMA.REFUSE_INFO.STATUS` [7:0] RO (R321). -/
def DMA_REFUSE_INFO_STATUS : Fld := ⟨0x5044, 0, 8⟩
/-- `DMA.REFUSE_CNT.CNT` [31:0] RW (R321). -/
def DMA_REFUSE_CNT_CNT : Fld := ⟨0x5048, 0, 32⟩
/-- `DMA.CH_CFG.WEIGHT` [3:0] RW (R321). -/
def DMA_CH_CFG_WEIGHT (i : Nat) : Fld := ⟨0x5100 + i * 0x20, 0, 4⟩
/-- `DMA.CH_CMD.ABORT` [2:2] WO (R321). -/
def DMA_CH_CMD_ABORT (i : Nat) : Fld := ⟨0x5104 + i * 0x20, 2, 1⟩
/-- `DMA.CH_CMD.RESUME` [1:1] WO (R321). -/
def DMA_CH_CMD_RESUME (i : Nat) : Fld := ⟨0x5104 + i * 0x20, 1, 1⟩
/-- `DMA.CH_CMD.PAUSE` [0:0] WO (R321). -/
def DMA_CH_CMD_PAUSE (i : Nat) : Fld := ⟨0x5104 + i * 0x20, 0, 1⟩
/-- `DMA.CH_STAT.RING` [29:16] RO (R321). -/
def DMA_CH_STAT_RING (i : Nat) : Fld := ⟨0x5108 + i * 0x20, 16, 14⟩
/-- `DMA.CH_STAT.MODE` [15:8] RO (R321). -/
def DMA_CH_STAT_MODE (i : Nat) : Fld := ⟨0x5108 + i * 0x20, 8, 8⟩
/-- `DMA.CH_STAT.STATE` [2:0] RO (R321). -/
def DMA_CH_STAT_STATE (i : Nat) : Fld := ⟨0x5108 + i * 0x20, 0, 3⟩
/-- `DMA.CH_PROGRESS.STEPS` [31:0] RO (R321). -/
def DMA_CH_PROGRESS_STEPS (i : Nat) : Fld := ⟨0x510C + i * 0x20, 0, 32⟩
/-- `DMA.CH_STEPS.STEPS` [31:0] RO (R321). -/
def DMA_CH_STEPS_STEPS (i : Nat) : Fld := ⟨0x5110 + i * 0x20, 0, 32⟩
/-- `DMA.CH_TAG.TAG` [31:0] RO (R321). -/
def DMA_CH_TAG_TAG (i : Nat) : Fld := ⟨0x5114 + i * 0x20, 0, 32⟩
/-- `DMA.WIN_BASE_LO.ADDR` [31:12] RW (R321). -/
def DMA_WIN_BASE_LO_ADDR (i : Nat) : Fld := ⟨0x5200 + i * 0x10, 12, 20⟩
/-- `DMA.WIN_BASE_HI.ADDR` [15:0] RW (R321). -/
def DMA_WIN_BASE_HI_ADDR (i : Nat) : Fld := ⟨0x5204 + i * 0x10, 0, 16⟩
/-- `DMA.WIN_SIZE.PAGES` [31:0] RW (R321). -/
def DMA_WIN_SIZE_PAGES (i : Nat) : Fld := ⟨0x5208 + i * 0x10, 0, 32⟩
/-- `DMA.WIN_CFG.W` [1:1] RW (R321). -/
def DMA_WIN_CFG_W (i : Nat) : Fld := ⟨0x520C + i * 0x10, 1, 1⟩
/-- `DMA.WIN_CFG.R` [0:0] RW (R321). -/
def DMA_WIN_CFG_R (i : Nat) : Fld := ⟨0x520C + i * 0x10, 0, 1⟩
/-- `RING.CTRL.ENABLE` [0:0] RW (R19). -/
def RING_CTRL_ENABLE : Fld := ⟨0x6008, 0, 1⟩
/-- `RING.CMD.RING` [29:16] WO (R320). -/
def RING_CMD_RING : Fld := ⟨0x6040, 16, 14⟩
/-- `RING.CMD.OP` [1:0] WO (R320). -/
def RING_CMD_OP : Fld := ⟨0x6040, 0, 2⟩
/-- `RING.CMD_STAT.RESULT` [3:0] RO (R320). -/
def RING_CMD_STAT_RESULT : Fld := ⟨0x6044, 0, 4⟩
/-- `RING.DOORBELL.TAIL` [31:16] WO (R320). -/
def RING_DOORBELL_TAIL : Fld := ⟨0x6048, 16, 16⟩
/-- `RING.DOORBELL.RING` [13:0] WO (R320). -/
def RING_DOORBELL_RING : Fld := ⟨0x6048, 0, 14⟩
/-- `RING.DB_INFO.RING` [29:16] RO (R320). -/
def RING_DB_INFO_RING : Fld := ⟨0x604C, 16, 14⟩
/-- `RING.DB_INFO.REASON` [2:0] RO (R320). -/
def RING_DB_INFO_REASON : Fld := ⟨0x604C, 0, 3⟩
/-- `RING.EVT_RING.RING` [13:0] RO (R320). -/
def RING_EVT_RING_RING : Fld := ⟨0x6050, 0, 14⟩
/-- `RING.ENABLED.CNT` [14:0] RO (R320). -/
def RING_ENABLED_CNT : Fld := ⟨0x6054, 0, 15⟩
/-- `RING.OWN_RETRY.TRIES` [19:16] RW (R320). -/
def RING_OWN_RETRY_TRIES : Fld := ⟨0x6058, 16, 4⟩
/-- `RING.OWN_RETRY.WAIT` [15:0] RW (R320). -/
def RING_OWN_RETRY_WAIT : Fld := ⟨0x6058, 0, 16⟩
/-- `RING.SUMMARY.GROUPS` [31:0] W1C (R320). -/
def RING_SUMMARY_GROUPS (i : Nat) : Fld := ⟨0x6080 + i * 0x4, 0, 32⟩
/-- `STRM.CTRL.ENABLE` [0:0] RW (R19). -/
def STRM_CTRL_ENABLE : Fld := ⟨0x7008, 0, 1⟩
/-- `STRM.CMD.STREAM` [27:16] WO (R294). -/
def STRM_CMD_STREAM : Fld := ⟨0x7040, 16, 12⟩
/-- `STRM.CMD.OP` [1:0] WO (R294). -/
def STRM_CMD_OP : Fld := ⟨0x7040, 0, 2⟩
/-- `STRM.CMD_STAT.RESULT` [3:0] RO (R294). -/
def STRM_CMD_STAT_RESULT : Fld := ⟨0x7044, 0, 4⟩
/-- `STRM.EVT_STREAM.STREAM` [11:0] RO (R294). -/
def STRM_EVT_STREAM_STREAM : Fld := ⟨0x7048, 0, 12⟩
/-- `STRM.ENABLED.CNT` [12:0] RO (R294). -/
def STRM_ENABLED_CNT : Fld := ⟨0x704C, 0, 13⟩
/-- `HOOP.CTRL.ENABLE` [0:0] RW (R19). -/
def HOOP_CTRL_ENABLE : Fld := ⟨0x8008, 0, 1⟩
/-- `HOOP.CMD.HOOP` [21:16] WO (R294). -/
def HOOP_CMD_HOOP : Fld := ⟨0x8040, 16, 6⟩
/-- `HOOP.CMD.OP` [1:0] WO (R294). -/
def HOOP_CMD_OP : Fld := ⟨0x8040, 0, 2⟩
/-- `HOOP.CMD_STAT.RESULT` [3:0] RO (R294). -/
def HOOP_CMD_STAT_RESULT : Fld := ⟨0x8044, 0, 4⟩
/-- `HOOP.TRIG0.HOOPS` [31:0] WO (R294). -/
def HOOP_TRIG0_HOOPS : Fld := ⟨0x8048, 0, 32⟩
/-- `HOOP.TRIG1.HOOPS` [31:0] WO (R294). -/
def HOOP_TRIG1_HOOPS : Fld := ⟨0x804C, 0, 32⟩
/-- `HOOP.EVT_HOOP.HOOP` [5:0] RO (R294). -/
def HOOP_EVT_HOOP_HOOP : Fld := ⟨0x8050, 0, 6⟩
/-- `HOOP.ARMED0.HOOPS` [31:0] RO (R294). -/
def HOOP_ARMED0_HOOPS : Fld := ⟨0x8054, 0, 32⟩
/-- `HOOP.ARMED1.HOOPS` [31:0] RO (R294). -/
def HOOP_ARMED1_HOOPS : Fld := ⟨0x8058, 0, 32⟩
/-- `MAP.CTRL.ENABLE` [0:0] RW (R19). -/
def MAP_CTRL_ENABLE : Fld := ⟨0x9008, 0, 1⟩
/-- `MAP.BASE_LO.ADDR` [31:6] RW (R294). -/
def MAP_BASE_LO_ADDR : Fld := ⟨0x9040, 6, 26⟩
/-- `MAP.BASE_HI.ADDR` [15:0] RW (R294). -/
def MAP_BASE_HI_ADDR : Fld := ⟨0x9044, 0, 16⟩
/-- `MAP.ENTRIES.CNT` [31:0] RW (R294). -/
def MAP_ENTRIES_CNT : Fld := ⟨0x9048, 0, 32⟩
/-- `MAP.CMD.OP` [1:0] WO (R294). -/
def MAP_CMD_OP : Fld := ⟨0x904C, 0, 2⟩
/-- `MAP.STAT.DIRTY` [31:16] RO (R294). -/
def MAP_STAT_DIRTY : Fld := ⟨0x9050, 16, 16⟩
/-- `MAP.STAT.LK_ERR` [2:2] RO (R294). -/
def MAP_STAT_LK_ERR : Fld := ⟨0x9050, 2, 1⟩
/-- `MAP.STAT.LK_BUSY` [1:1] RO (R294). -/
def MAP_STAT_LK_BUSY : Fld := ⟨0x9050, 1, 1⟩
/-- `MAP.STAT.BUSY` [0:0] RO (R294). -/
def MAP_STAT_BUSY : Fld := ⟨0x9050, 0, 1⟩
/-- `MAP.LOOKUP_TILE.TILENO` [30:0] WO (R294). -/
def MAP_LOOKUP_TILE_TILENO : Fld := ⟨0x9054, 0, 31⟩
/-- `MAP.LOOKUP_RES.TADDR` [31:0] RO (R294). -/
def MAP_LOOKUP_RES_TADDR : Fld := ⟨0x9058, 0, 32⟩
/-- `MAP.SET_TILE.TILENO` [30:0] RW (R294). -/
def MAP_SET_TILE_TILENO : Fld := ⟨0x905C, 0, 31⟩
/-- `MAP.SET_ADDR.TADDR` [31:0] WO (R294). -/
def MAP_SET_ADDR_TADDR : Fld := ⟨0x9060, 0, 32⟩
/-- `MAP.HIT_CNT.CNT` [31:0] RW (R294). -/
def MAP_HIT_CNT_CNT : Fld := ⟨0x9064, 0, 32⟩
/-- `MAP.MISS_CNT.CNT` [31:0] RW (R294). -/
def MAP_MISS_CNT_CNT : Fld := ⟨0x9068, 0, 32⟩
/-- `MAP.WB_CNT.CNT` [31:0] RW (R294). -/
def MAP_WB_CNT_CNT : Fld := ⟨0x906C, 0, 32⟩
/-- `MAP.LOST_TILE.TILENO` [30:0] RO (R294). -/
def MAP_LOST_TILE_TILENO : Fld := ⟨0x9070, 0, 31⟩
/-- `SPOOL.CTRL.ENABLE` [0:0] RW (R19). -/
def SPOOL_CTRL_ENABLE : Fld := ⟨0xA008, 0, 1⟩
/-- `SPOOL.BW.LINES` [9:0] RW (R266). -/
def SPOOL_BW_LINES : Fld := ⟨0xA040, 0, 10⟩
/-- `SPOOL.MID_BASE_LO.ADDR` [31:12] RW (R266). -/
def SPOOL_MID_BASE_LO_ADDR (i : Nat) : Fld := ⟨0xA100 + i * 0x20, 12, 20⟩
/-- `SPOOL.MID_BASE_HI.ADDR` [15:0] RW (R266). -/
def SPOOL_MID_BASE_HI_ADDR (i : Nat) : Fld := ⟨0xA104 + i * 0x20, 0, 16⟩
/-- `SPOOL.MID_BLOCKS.CNT` [20:0] RW (R266). -/
def SPOOL_MID_BLOCKS_CNT (i : Nat) : Fld := ⟨0xA108 + i * 0x20, 0, 21⟩
/-- `SPOOL.DEPTH_ON.TAIL` [30:16] RO (R266). -/
def SPOOL_DEPTH_ON_TAIL (i : Nat) : Fld := ⟨0xA10C + i * 0x20, 16, 15⟩
/-- `SPOOL.DEPTH_ON.HEAD` [14:0] RO (R266). -/
def SPOOL_DEPTH_ON_HEAD (i : Nat) : Fld := ⟨0xA10C + i * 0x20, 0, 15⟩
/-- `SPOOL.MID_USED.CNT` [20:0] RO (R266). -/
def SPOOL_MID_USED_CNT (i : Nat) : Fld := ⟨0xA110 + i * 0x20, 0, 21⟩
/-- `SPOOL.MID_MAX.CNT` [20:0] RW (R266). -/
def SPOOL_MID_MAX_CNT (i : Nat) : Fld := ⟨0xA114 + i * 0x20, 0, 21⟩
/-- `SPOOL.SPILL_CNT.CNT` [31:0] RW (R266). -/
def SPOOL_SPILL_CNT_CNT (i : Nat) : Fld := ⟨0xA118 + i * 0x20, 0, 32⟩
/-- `LACE.CTRL.SEAL_PAR` [8:8] RW (R213). -/
def LACE_CTRL_SEAL_PAR : Fld := ⟨0xB008, 8, 1⟩
/-- `LACE.CTRL.ENABLE` [0:0] RW (R19). -/
def LACE_CTRL_ENABLE : Fld := ⟨0xB008, 0, 1⟩
/-- `LACE.PROF0.WIDTH` [23:16] RW (R213). -/
def LACE_PROF0_WIDTH (i : Nat) : Fld := ⟨0xB040 + i * 0x10, 16, 8⟩
/-- `LACE.PROF0.PARITY` [10:8] RW (R213). -/
def LACE_PROF0_PARITY (i : Nat) : Fld := ⟨0xB040 + i * 0x10, 8, 3⟩
/-- `LACE.PROF0.EN` [0:0] RW (R213). -/
def LACE_PROF0_EN (i : Nat) : Fld := ⟨0xB040 + i * 0x10, 0, 1⟩
/-- `LACE.PROF1.MASK_LO` [31:0] RW (R213). -/
def LACE_PROF1_MASK_LO (i : Nat) : Fld := ⟨0xB044 + i * 0x10, 0, 32⟩
/-- `LACE.PROF2.MASK_HI` [15:0] RW (R213). -/
def LACE_PROF2_MASK_HI (i : Nat) : Fld := ⟨0xB048 + i * 0x10, 0, 16⟩
/-- `LACE.PROF3.CLOSE_TO` [15:0] RW (R213). -/
def LACE_PROF3_CLOSE_TO (i : Nat) : Fld := ⟨0xB04C + i * 0x10, 0, 16⟩
/-- `LACE.STRIPE_NEXT.NUM` [31:0] RW (R213). -/
def LACE_STRIPE_NEXT_NUM : Fld := ⟨0xB0C0, 0, 32⟩
/-- `LACE.REC_BASE_LO.ADDR` [31:10] RW (R213). -/
def LACE_REC_BASE_LO_ADDR : Fld := ⟨0xB0C4, 10, 22⟩
/-- `LACE.REC_BASE_HI.ADDR` [15:0] RW (R213). -/
def LACE_REC_BASE_HI_ADDR : Fld := ⟨0xB0C8, 0, 16⟩
/-- `LACE.REC_COUNT.CNT` [23:0] RW (R213). -/
def LACE_REC_COUNT_CNT : Fld := ⟨0xB0CC, 0, 24⟩
/-- `LACE.OPEN.COPYING` [15:8] RO (R213). -/
def LACE_OPEN_COPYING : Fld := ⟨0xB0D0, 8, 8⟩
/-- `LACE.OPEN.PROF` [7:0] RO (R213). -/
def LACE_OPEN_PROF : Fld := ⟨0xB0D0, 0, 8⟩
/-- `LACE.CLOSE.PROF` [7:0] W1S (R213). -/
def LACE_CLOSE_PROF : Fld := ⟨0xB0D4, 0, 8⟩
/-- `LACE.SETS_FREE.CNT` [3:0] RO (R213). -/
def LACE_SETS_FREE_CNT : Fld := ⟨0xB0D8, 0, 4⟩
/-- `DEC.CTRL.PATROL_EN` [12:12] RW (R240). -/
def DEC_CTRL_PATROL_EN : Fld := ⟨0xC008, 12, 1⟩
/-- `DEC.CTRL.RECON_EN` [11:11] RW (R240). -/
def DEC_CTRL_RECON_EN : Fld := ⟨0xC008, 11, 1⟩
/-- `DEC.CTRL.LADDER_EN` [10:10] RW (R240). -/
def DEC_CTRL_LADDER_EN : Fld := ⟨0xC008, 10, 1⟩
/-- `DEC.CTRL.SAMPLE_AUTO` [9:9] RW (R240). -/
def DEC_CTRL_SAMPLE_AUTO : Fld := ⟨0xC008, 9, 1⟩
/-- `DEC.CTRL.SHADOW_EN` [8:8] RW (R240). -/
def DEC_CTRL_SHADOW_EN : Fld := ⟨0xC008, 8, 1⟩
/-- `DEC.CTRL.ENABLE` [0:0] RW (R19). -/
def DEC_CTRL_ENABLE : Fld := ⟨0xC008, 0, 1⟩
/-- `DEC.CFG.ITER_CAP` [22:16] RW (R212). -/
def DEC_CFG_ITER_CAP : Fld := ⟨0xC040, 16, 7⟩
/-- `DEC.CFG.OFFSET` [11:8] RW (R212). -/
def DEC_CFG_OFFSET : Fld := ⟨0xC040, 8, 4⟩
/-- `DEC.LLR_MAP.M3` [19:15] RW (R212). -/
def DEC_LLR_MAP_M3 : Fld := ⟨0xC044, 15, 5⟩
/-- `DEC.LLR_MAP.M2` [14:10] RW (R212). -/
def DEC_LLR_MAP_M2 : Fld := ⟨0xC044, 10, 5⟩
/-- `DEC.LLR_MAP.M1` [9:5] RW (R212). -/
def DEC_LLR_MAP_M1 : Fld := ⟨0xC044, 5, 5⟩
/-- `DEC.LLR_MAP.M0` [4:0] RW (R212). -/
def DEC_LLR_MAP_M0 : Fld := ⟨0xC044, 0, 5⟩
/-- `DEC.PLACE_FREE.FREE` [23:0] RO (R212). -/
def DEC_PLACE_FREE_FREE : Fld := ⟨0xC048, 0, 24⟩
/-- `DEC.ENG_BUSY.BUSY` [23:0] RO (R212). -/
def DEC_ENG_BUSY_BUSY : Fld := ⟨0xC04C, 0, 24⟩
/-- `DEC.QDEPTH.LOW` [31:16] RO (R212). -/
def DEC_QDEPTH_LOW : Fld := ⟨0xC050, 16, 16⟩
/-- `DEC.QDEPTH.HIGH` [15:0] RO (R212). -/
def DEC_QDEPTH_HIGH : Fld := ⟨0xC050, 0, 16⟩
/-- `DEC.CW_PASS.CNT` [31:0] RW (R212). -/
def DEC_CW_PASS_CNT : Fld := ⟨0xC054, 0, 32⟩
/-- `DEC.CW_FAIL.CNT` [31:0] RW (R212). -/
def DEC_CW_FAIL_CNT : Fld := ⟨0xC058, 0, 32⟩
/-- `DEC.ITER_SUM.CNT` [31:0] RW (R212). -/
def DEC_ITER_SUM_CNT : Fld := ⟨0xC05C, 0, 32⟩
/-- `DEC.ITER_MAX.MAX` [6:0] RW (R212). -/
def DEC_ITER_MAX_MAX : Fld := ⟨0xC060, 0, 7⟩
/-- `DEC.SHADOW_CFG.PERIOD` [31:16] RW (R240). -/
def DEC_SHADOW_CFG_PERIOD : Fld := ⟨0xC080, 16, 16⟩
/-- `DEC.SHADOW_CFG.GAIN` [15:12] RW (R240). -/
def DEC_SHADOW_CFG_GAIN : Fld := ⟨0xC080, 12, 4⟩
/-- `DEC.SHADOW_CFG.DELTA` [11:8] RW (R240). -/
def DEC_SHADOW_CFG_DELTA : Fld := ⟨0xC080, 8, 4⟩
/-- `DEC.SHADOW_CFG.MIN_BITS` [7:0] RW (R240). -/
def DEC_SHADOW_CFG_MIN_BITS : Fld := ⟨0xC080, 0, 8⟩
/-- `DEC.REF_LIM.HI` [15:8] RW (R240). -/
def DEC_REF_LIM_HI : Fld := ⟨0xC084, 8, 8⟩
/-- `DEC.REF_LIM.LO` [7:0] RW (R240). -/
def DEC_REF_LIM_LO : Fld := ⟨0xC084, 0, 8⟩
/-- `DEC.REF_FEAT.TLC_HI` [23:16] RW (R240). -/
def DEC_REF_FEAT_TLC_HI : Fld := ⟨0xC088, 16, 8⟩
/-- `DEC.REF_FEAT.TLC_LO` [15:8] RW (R240). -/
def DEC_REF_FEAT_TLC_LO : Fld := ⟨0xC088, 8, 8⟩
/-- `DEC.REF_FEAT.SLC` [7:0] RW (R240). -/
def DEC_REF_FEAT_SLC : Fld := ⟨0xC088, 0, 8⟩
/-- `DEC.LVL_PAGE.MAP` [13:0] RW (R240). -/
def DEC_LVL_PAGE_MAP : Fld := ⟨0xC08C, 0, 14⟩
/-- `DEC.SHIFT.TLC` [15:8] RW (R240). -/
def DEC_SHIFT_TLC (i : Nat) : Fld := ⟨0xC090 + i * 0x4, 8, 8⟩
/-- `DEC.SHIFT.SLC` [7:0] RW (R240). -/
def DEC_SHIFT_SLC (i : Nat) : Fld := ⟨0xC090 + i * 0x4, 0, 8⟩
/-- `DEC.LADDER.CAP_HI` [31:24] RW (R240). -/
def DEC_LADDER_CAP_HI : Fld := ⟨0xC0A8, 24, 8⟩
/-- `DEC.LADDER.SET2` [23:20] RW (R240). -/
def DEC_LADDER_SET2 : Fld := ⟨0xC0A8, 20, 4⟩
/-- `DEC.LADDER.SET1` [19:16] RW (R240). -/
def DEC_LADDER_SET1 : Fld := ⟨0xC0A8, 16, 4⟩
/-- `DEC.LADDER.SIG2` [15:8] RW (R240). -/
def DEC_LADDER_SIG2 : Fld := ⟨0xC0A8, 8, 8⟩
/-- `DEC.LADDER.SIG1` [7:0] RW (R240). -/
def DEC_LADDER_SIG1 : Fld := ⟨0xC0A8, 0, 8⟩
/-- `DEC.LADDER2.DEEP` [15:12] RW (R240). -/
def DEC_LADDER2_DEEP : Fld := ⟨0xC0AC, 12, 4⟩
/-- `DEC.LADDER2.LAST` [11:8] RW (R240). -/
def DEC_LADDER2_LAST : Fld := ⟨0xC0AC, 8, 4⟩
/-- `DEC.ERASED_MAX.MAX` [12:0] RW (R240). -/
def DEC_ERASED_MAX_MAX : Fld := ⟨0xC0B0, 0, 13⟩
/-- `DEC.REF_IDX.LUN` [9:0] RW (R240). -/
def DEC_REF_IDX_LUN : Fld := ⟨0xC0B4, 0, 10⟩
/-- `DEC.REF_VAL0.L3` [31:24] RW (R240). -/
def DEC_REF_VAL0_L3 : Fld := ⟨0xC0B8, 24, 8⟩
/-- `DEC.REF_VAL0.L2` [23:16] RW (R240). -/
def DEC_REF_VAL0_L2 : Fld := ⟨0xC0B8, 16, 8⟩
/-- `DEC.REF_VAL0.L1` [15:8] RW (R240). -/
def DEC_REF_VAL0_L1 : Fld := ⟨0xC0B8, 8, 8⟩
/-- `DEC.REF_VAL0.L0` [7:0] RW (R240). -/
def DEC_REF_VAL0_L0 : Fld := ⟨0xC0B8, 0, 8⟩
/-- `DEC.REF_VAL1.L7` [31:24] RW (R240). -/
def DEC_REF_VAL1_L7 : Fld := ⟨0xC0BC, 24, 8⟩
/-- `DEC.REF_VAL1.L6` [23:16] RW (R240). -/
def DEC_REF_VAL1_L6 : Fld := ⟨0xC0BC, 16, 8⟩
/-- `DEC.REF_VAL1.L5` [15:8] RW (R240). -/
def DEC_REF_VAL1_L5 : Fld := ⟨0xC0BC, 8, 8⟩
/-- `DEC.REF_VAL1.L4` [7:0] RW (R240). -/
def DEC_REF_VAL1_L4 : Fld := ⟨0xC0BC, 0, 8⟩
/-- `DEC.SMP_SLC.TADDR` [31:0] RW (R240). -/
def DEC_SMP_SLC_TADDR : Fld := ⟨0xC0C0, 0, 32⟩
/-- `DEC.SMP_TLC.TADDR` [31:0] RW (R240). -/
def DEC_SMP_TLC_TADDR : Fld := ⟨0xC0C4, 0, 32⟩
/-- `DEC.RECON.XTO` [31:16] RW (R240). -/
def DEC_RECON_XTO : Fld := ⟨0xC0C8, 16, 16⟩
/-- `DEC.RECON.WIN` [15:8] RW (R240). -/
def DEC_RECON_WIN : Fld := ⟨0xC0C8, 8, 8⟩
/-- `DEC.RECON.PROBE` [3:0] RW (R240). -/
def DEC_RECON_PROBE : Fld := ⟨0xC0C8, 0, 4⟩
/-- `DEC.LADDER_LOG.CH` [31:26] RO (R240). -/
def DEC_LADDER_LOG_CH : Fld := ⟨0xC0CC, 26, 6⟩
/-- `DEC.LADDER_LOG.LUN` [25:22] RO (R240). -/
def DEC_LADDER_LOG_LUN : Fld := ⟨0xC0CC, 22, 4⟩
/-- `DEC.LADDER_LOG.STEP` [15:8] RO (R240). -/
def DEC_LADDER_LOG_STEP : Fld := ⟨0xC0CC, 8, 8⟩
/-- `DEC.LADDER_LOG.STATUS` [7:0] RO (R240). -/
def DEC_LADDER_LOG_STATUS : Fld := ⟨0xC0CC, 0, 8⟩
/-- `DEC.RECON_CNT.CNT` [31:0] RW (R240). -/
def DEC_RECON_CNT_CNT : Fld := ⟨0xC0D0, 0, 32⟩
/-- `DEC.UNCORR_CNT.CNT` [31:0] RW (R240). -/
def DEC_UNCORR_CNT_CNT : Fld := ⟨0xC0D4, 0, 32⟩
/-- `DEC.PATROL_LO.TILENO` [30:0] RW (R240). -/
def DEC_PATROL_LO_TILENO : Fld := ⟨0xC0D8, 0, 31⟩
/-- `DEC.PATROL_HI.TILENO` [30:0] RW (R240). -/
def DEC_PATROL_HI_TILENO : Fld := ⟨0xC0DC, 0, 31⟩
/-- `DEC.PATROL_NEXT.TILENO` [30:0] RW (R240). -/
def DEC_PATROL_NEXT_TILENO : Fld := ⟨0xC0E0, 0, 31⟩
/-- `DEC.PATROL_WARN.ITER` [6:0] RW (R240). -/
def DEC_PATROL_WARN_ITER : Fld := ⟨0xC0E4, 0, 7⟩
/-- `DEC.PATROL_LAST.TILENO` [30:0] RO (R240). -/
def DEC_PATROL_LAST_TILENO : Fld := ⟨0xC0E8, 0, 31⟩
/-- `DEC.ALM_CH.CH_Y` [29:24] RW (R240). -/
def DEC_ALM_CH_CH_Y : Fld := ⟨0xC0F0, 24, 6⟩
/-- `DEC.ALM_CH.CH_X` [21:16] RW (R240). -/
def DEC_ALM_CH_CH_X : Fld := ⟨0xC0F0, 16, 6⟩
/-- `DEC.ALM_CH.LUN` [3:0] RW (R240). -/
def DEC_ALM_CH_LUN : Fld := ⟨0xC0F0, 0, 4⟩
/-- `DEC.ALM_BLK.BLK_B` [26:16] RW (R240). -/
def DEC_ALM_BLK_BLK_B : Fld := ⟨0xC0F4, 16, 11⟩
/-- `DEC.ALM_BLK.BLK_A` [10:0] RW (R240). -/
def DEC_ALM_BLK_BLK_A : Fld := ⟨0xC0F4, 0, 11⟩
/-- `DEC.ALM_BUF_LO.ADDR` [31:6] RW (R240). -/
def DEC_ALM_BUF_LO_ADDR : Fld := ⟨0xC0F8, 6, 26⟩
/-- `DEC.ALM_BUF_HI.ADDR` [15:0] RW (R240). -/
def DEC_ALM_BUF_HI_ADDR : Fld := ⟨0xC0FC, 0, 16⟩
/-- `DEC.ALM_CMD.CMD` [1:0] WO (R240). -/
def DEC_ALM_CMD_CMD : Fld := ⟨0xC100, 0, 2⟩
/-- `DEC.ALM_STAT.BUSY` [15:15] RO (R240). -/
def DEC_ALM_STAT_BUSY : Fld := ⟨0xC104, 15, 1⟩
/-- `DEC.ALM_STAT.RESULT` [11:8] RO (R240). -/
def DEC_ALM_STAT_RESULT : Fld := ⟨0xC104, 8, 4⟩
/-- `DEC.ALM_STAT.SRC_CH` [5:5] RO (R240). -/
def DEC_ALM_STAT_SRC_CH : Fld := ⟨0xC104, 5, 1⟩
/-- `DEC.ALM_STAT.SRC_SLOT` [4:4] RO (R240). -/
def DEC_ALM_STAT_SRC_SLOT : Fld := ⟨0xC104, 4, 1⟩
/-- `DEC.ALM_SEQ.SEQ` [31:0] RO (R240). -/
def DEC_ALM_SEQ_SEQ : Fld := ⟨0xC108, 0, 32⟩
/-- `DEC.ALM_PAGE.NEXT_B` [26:16] RO (R240). -/
def DEC_ALM_PAGE_NEXT_B : Fld := ⟨0xC10C, 16, 11⟩
/-- `DEC.ALM_PAGE.NEXT_A` [10:0] RO (R240). -/
def DEC_ALM_PAGE_NEXT_A : Fld := ⟨0xC10C, 0, 11⟩
/-- `ANGLE.CTRL.FUSE_EN` [9:9] RW (R376). -/
def ANGLE_CTRL_FUSE_EN : Fld := ⟨0xD008, 9, 1⟩
/-- `ANGLE.CTRL.MODE` [8:8] RW (R376). -/
def ANGLE_CTRL_MODE : Fld := ⟨0xD008, 8, 1⟩
/-- `ANGLE.CTRL.ENABLE` [0:0] RW (R19). -/
def ANGLE_CTRL_ENABLE : Fld := ⟨0xD008, 0, 1⟩
/-- `ANGLE.STATUS.FACET` [21:16] RO (R376). -/
def ANGLE_STATUS_FACET : Fld := ⟨0xD00C, 16, 6⟩
/-- `ANGLE.STATUS.MISS_RUN` [15:8] RO (R376). -/
def ANGLE_STATUS_MISS_RUN : Fld := ⟨0xD00C, 8, 8⟩
/-- `ANGLE.STATUS.STATE` [2:0] RO (R376). -/
def ANGLE_STATUS_STATE : Fld := ⟨0xD00C, 0, 3⟩
/-- `ANGLE.VSTEP.RATE` [31:0] RW (R376). -/
def ANGLE_VSTEP_RATE : Fld := ⟨0xD040, 0, 32⟩
/-- `ANGLE.GEOM.FACETS` [22:16] RW (R376). -/
def ANGLE_GEOM_FACETS : Fld := ⟨0xD044, 16, 7⟩
/-- `ANGLE.GEOM.HALO` [11:0] RW (R376). -/
def ANGLE_GEOM_HALO : Fld := ⟨0xD044, 0, 12⟩
/-- `ANGLE.TRACK.SLEW` [31:24] RW (R376). -/
def ANGLE_TRACK_SLEW : Fld := ⟨0xD048, 24, 8⟩
/-- `ANGLE.TRACK.RATE_TOL` [23:16] RW (R376). -/
def ANGLE_TRACK_RATE_TOL : Fld := ⟨0xD048, 16, 8⟩
/-- `ANGLE.TRACK.RATE_SHIFT` [11:8] RW (R376). -/
def ANGLE_TRACK_RATE_SHIFT : Fld := ⟨0xD048, 8, 4⟩
/-- `ANGLE.TRACK.MISS_K` [7:4] RW (R376). -/
def ANGLE_TRACK_MISS_K : Fld := ⟨0xD048, 4, 4⟩
/-- `ANGLE.TRACK.ACQ_N` [3:0] RW (R376). -/
def ANGLE_TRACK_ACQ_N : Fld := ⟨0xD048, 0, 4⟩
/-- `ANGLE.FUSE.COAST_MAX` [31:16] RW (R376). -/
def ANGLE_FUSE_COAST_MAX : Fld := ⟨0xD04C, 16, 16⟩
/-- `ANGLE.FUSE.FUSE_SHIFT` [3:0] RW (R376). -/
def ANGLE_FUSE_FUSE_SHIFT : Fld := ⟨0xD04C, 0, 4⟩
/-- `ANGLE.FACET_OFS.OFS3` [31:24] RW (R376). -/
def ANGLE_FACET_OFS_OFS3 (i : Nat) : Fld := ⟨0xD050 + i * 0x4, 24, 8⟩
/-- `ANGLE.FACET_OFS.OFS2` [23:16] RW (R376). -/
def ANGLE_FACET_OFS_OFS2 (i : Nat) : Fld := ⟨0xD050 + i * 0x4, 16, 8⟩
/-- `ANGLE.FACET_OFS.OFS1` [15:8] RW (R376). -/
def ANGLE_FACET_OFS_OFS1 (i : Nat) : Fld := ⟨0xD050 + i * 0x4, 8, 8⟩
/-- `ANGLE.FACET_OFS.OFS0` [7:0] RW (R376). -/
def ANGLE_FACET_OFS_OFS0 (i : Nat) : Fld := ⟨0xD050 + i * 0x4, 0, 8⟩
/-- `ANGLE.POS.REV` [31:16] RO (R376). -/
def ANGLE_POS_REV : Fld := ⟨0xD090, 16, 16⟩
/-- `ANGLE.POS.ANGLE` [15:0] RO (R376). -/
def ANGLE_POS_ANGLE : Fld := ⟨0xD090, 0, 16⟩
/-- `ANGLE.RATE.RATE` [31:0] RO (R376). -/
def ANGLE_RATE_RATE : Fld := ⟨0xD094, 0, 32⟩
/-- `ANGLE.REV_CYC.CYC` [31:0] RO (R376). -/
def ANGLE_REV_CYC_CYC : Fld := ⟨0xD098, 0, 32⟩
/-- `ANGLE.LAST_ERR.ERR` [31:16] RO (R376). -/
def ANGLE_LAST_ERR_ERR : Fld := ⟨0xD09C, 16, 16⟩
/-- `ANGLE.LAST_ERR.FACET` [5:0] RO (R376). -/
def ANGLE_LAST_ERR_FACET : Fld := ⟨0xD09C, 0, 6⟩
/-- `ANGLE.ACC_CNT.CNT` [31:0] RW (R376). -/
def ANGLE_ACC_CNT_CNT : Fld := ⟨0xD0A0, 0, 32⟩
/-- `ANGLE.MISS_CNT.CNT` [31:0] RW (R376). -/
def ANGLE_MISS_CNT_CNT : Fld := ⟨0xD0A4, 0, 32⟩
/-- `ANGLE.SPUR_CNT.CNT` [31:0] RW (R376). -/
def ANGLE_SPUR_CNT_CNT : Fld := ⟨0xD0A8, 0, 32⟩
/-- `ANGLE.SLIP_CNT.CNT` [15:0] RW (R376). -/
def ANGLE_SLIP_CNT_CNT : Fld := ⟨0xD0AC, 0, 16⟩
/-- `ROTOR.CTRL.OC_AUTO` [10:10] RW (R358). -/
def ROTOR_CTRL_OC_AUTO : Fld := ⟨0xE008, 10, 1⟩
/-- `ROTOR.CTRL.HOLDUP_EN` [9:9] RW (R358). -/
def ROTOR_CTRL_HOLDUP_EN : Fld := ⟨0xE008, 9, 1⟩
/-- `ROTOR.CTRL.FLUX_EN` [8:8] RW (R358). -/
def ROTOR_CTRL_FLUX_EN : Fld := ⟨0xE008, 8, 1⟩
/-- `ROTOR.CTRL.ENABLE` [0:0] RW (R19). -/
def ROTOR_CTRL_ENABLE : Fld := ⟨0xE008, 0, 1⟩
/-- `ROTOR.STATUS.LAST_FAIL` [31:28] RO (R358). -/
def ROTOR_STATUS_LAST_FAIL : Fld := ⟨0xE00C, 28, 4⟩
/-- `ROTOR.STATUS.RC_FAILS` [25:24] RO (R358). -/
def ROTOR_STATUS_RC_FAILS : Fld := ⟨0xE00C, 24, 2⟩
/-- `ROTOR.STATUS.VEC` [18:16] RO (R358). -/
def ROTOR_STATUS_VEC : Fld := ⟨0xE00C, 16, 3⟩
/-- `ROTOR.STATUS.SECTOR` [14:12] RO (R358). -/
def ROTOR_STATUS_SECTOR : Fld := ⟨0xE00C, 12, 3⟩
/-- `ROTOR.STATUS.CHOP` [10:10] RO (R358). -/
def ROTOR_STATUS_CHOP : Fld := ⟨0xE00C, 10, 1⟩
/-- `ROTOR.STATUS.GLINT_OK` [9:9] RO (R358). -/
def ROTOR_STATUS_GLINT_OK : Fld := ⟨0xE00C, 9, 1⟩
/-- `ROTOR.STATUS.PF` [8:8] RO (R358). -/
def ROTOR_STATUS_PF : Fld := ⟨0xE00C, 8, 1⟩
/-- `ROTOR.STATUS.GRAVE` [7:7] RO (R358). -/
def ROTOR_STATUS_GRAVE : Fld := ⟨0xE00C, 7, 1⟩
/-- `ROTOR.STATUS.CHOP_FLT` [6:6] RO (R358). -/
def ROTOR_STATUS_CHOP_FLT : Fld := ⟨0xE00C, 6, 1⟩
/-- `ROTOR.STATUS.ZERO_TQ` [5:5] RO (R358). -/
def ROTOR_STATUS_ZERO_TQ : Fld := ⟨0xE00C, 5, 1⟩
/-- `ROTOR.STATUS.DIR_ACT` [4:4] RO (R358). -/
def ROTOR_STATUS_DIR_ACT : Fld := ⟨0xE00C, 4, 1⟩
/-- `ROTOR.STATUS.STATE` [3:0] RO (R358). -/
def ROTOR_STATUS_STATE : Fld := ⟨0xE00C, 0, 4⟩
/-- `ROTOR.CMD.OP` [3:0] WO (R358). -/
def ROTOR_CMD_OP : Fld := ⟨0xE040, 0, 4⟩
/-- `ROTOR.CMD_STAT.RESULT` [1:0] RO (R358). -/
def ROTOR_CMD_STAT_RESULT : Fld := ⟨0xE044, 0, 2⟩
/-- `ROTOR.SPD_CMD.DIR` [31:31] RW (R358). -/
def ROTOR_SPD_CMD_DIR : Fld := ⟨0xE048, 31, 1⟩
/-- `ROTOR.SPD_CMD.SPEED` [23:0] RW (R358). -/
def ROTOR_SPD_CMD_SPEED : Fld := ⟨0xE048, 0, 24⟩
/-- `ROTOR.CMD_SRC.TO` [31:16] RW (R358). -/
def ROTOR_CMD_SRC_TO : Fld := ⟨0xE04C, 16, 16⟩
/-- `ROTOR.CMD_SRC.AVG` [10:8] RW (R358). -/
def ROTOR_CMD_SRC_AVG : Fld := ⟨0xE04C, 8, 3⟩
/-- `ROTOR.CMD_SRC.SRC` [2:0] RW (R358). -/
def ROTOR_CMD_SRC_SRC : Fld := ⟨0xE04C, 0, 3⟩
/-- `ROTOR.CMD_SCALE.SCALE` [23:0] RW (R358). -/
def ROTOR_CMD_SCALE_SCALE : Fld := ⟨0xE050, 0, 24⟩
/-- `ROTOR.SPD_LIM.SPEED` [23:0] RW (R358). -/
def ROTOR_SPD_LIM_SPEED : Fld := ⟨0xE054, 0, 24⟩
/-- `ROTOR.RAMP.DEC` [31:16] RW (R358). -/
def ROTOR_RAMP_DEC : Fld := ⟨0xE058, 16, 16⟩
/-- `ROTOR.RAMP.ACC` [15:0] RW (R358). -/
def ROTOR_RAMP_ACC : Fld := ⟨0xE058, 0, 16⟩
/-- `ROTOR.MOTOR.POLE_PAIRS` [3:0] RW (R358). -/
def ROTOR_MOTOR_POLE_PAIRS : Fld := ⟨0xE05C, 0, 4⟩
/-- `ROTOR.MOT_RES.RS` [15:0] RW (R358). -/
def ROTOR_MOT_RES_RS : Fld := ⟨0xE060, 0, 16⟩
/-- `ROTOR.MOT_IND.LS` [15:0] RW (R358). -/
def ROTOR_MOT_IND_LS : Fld := ⟨0xE064, 0, 16⟩
/-- `ROTOR.PSI_NOM.PSI` [15:0] RW (R358). -/
def ROTOR_PSI_NOM_PSI : Fld := ⟨0xE068, 0, 16⟩
/-- `ROTOR.ISH_CAL.GAIN` [31:16] RW (R358). -/
def ROTOR_ISH_CAL_GAIN : Fld := ⟨0xE06C, 16, 16⟩
/-- `ROTOR.ISH_CAL.OFS` [11:0] RW (R358). -/
def ROTOR_ISH_CAL_OFS : Fld := ⟨0xE06C, 0, 12⟩
/-- `ROTOR.VDC_CAL.GAIN` [31:16] RW (R358). -/
def ROTOR_VDC_CAL_GAIN : Fld := ⟨0xE070, 16, 16⟩
/-- `ROTOR.VDC_CAL.OFS` [11:0] RW (R358). -/
def ROTOR_VDC_CAL_OFS : Fld := ⟨0xE070, 0, 12⟩
/-- `ROTOR.ACMD_CAL.OFS` [11:0] RW (R358). -/
def ROTOR_ACMD_CAL_OFS : Fld := ⟨0xE074, 0, 12⟩
/-- `ROTOR.ADC_LAT.CYC` [9:0] RW (R358). -/
def ROTOR_ADC_LAT_CYC : Fld := ⟨0xE078, 0, 10⟩
/-- `ROTOR.DEADTIME.CYC` [9:0] RW (R358). -/
def ROTOR_DEADTIME_CYC : Fld := ⟨0xE07C, 0, 10⟩
/-- `ROTOR.STEP_PWM.PERIOD` [15:0] RW (R358). -/
def ROTOR_STEP_PWM_PERIOD : Fld := ⟨0xE080, 0, 16⟩
/-- `ROTOR.STEP_PI.KP` [31:16] RW (R358). -/
def ROTOR_STEP_PI_KP : Fld := ⟨0xE084, 16, 16⟩
/-- `ROTOR.STEP_PI.KI` [15:0] RW (R358). -/
def ROTOR_STEP_PI_KI : Fld := ⟨0xE084, 0, 16⟩
/-- `ROTOR.BLANK.MIN` [31:16] RW (R358). -/
def ROTOR_BLANK_MIN : Fld := ⟨0xE088, 16, 16⟩
/-- `ROTOR.BLANK.DEG` [7:0] RW (R358). -/
def ROTOR_BLANK_DEG : Fld := ⟨0xE088, 0, 8⟩
/-- `ROTOR.ZC.SPIN_WIN` [31:20] RW (R358). -/
def ROTOR_ZC_SPIN_WIN : Fld := ⟨0xE08C, 20, 12⟩
/-- `ROTOR.ZC.TRIES` [19:16] RW (R358). -/
def ROTOR_ZC_TRIES : Fld := ⟨0xE08C, 16, 4⟩
/-- `ROTOR.ZC.HANDOVER` [15:8] RW (R358). -/
def ROTOR_ZC_HANDOVER : Fld := ⟨0xE08C, 8, 8⟩
/-- `ROTOR.ZC.FILT` [7:0] RW (R358). -/
def ROTOR_ZC_FILT : Fld := ⟨0xE08C, 0, 8⟩
/-- `ROTOR.I_LIM.I` [15:0] RW (R358). -/
def ROTOR_I_LIM_I : Fld := ⟨0xE090, 0, 16⟩
/-- `ROTOR.ALIGN.MS` [31:16] RW (R358). -/
def ROTOR_ALIGN_MS : Fld := ⟨0xE094, 16, 16⟩
/-- `ROTOR.ALIGN.DUTY` [15:0] RW (R358). -/
def ROTOR_ALIGN_DUTY : Fld := ⟨0xE094, 0, 16⟩
/-- `ROTOR.RAMP_F.F1` [31:16] RW (R358). -/
def ROTOR_RAMP_F_F1 : Fld := ⟨0xE098, 16, 16⟩
/-- `ROTOR.RAMP_F.F0` [15:0] RW (R358). -/
def ROTOR_RAMP_F_F0 : Fld := ⟨0xE098, 0, 16⟩
/-- `ROTOR.RAMP_T.DUTY` [31:16] RW (R358). -/
def ROTOR_RAMP_T_DUTY : Fld := ⟨0xE09C, 16, 16⟩
/-- `ROTOR.RAMP_T.MS` [15:0] RW (R358). -/
def ROTOR_RAMP_T_MS : Fld := ⟨0xE09C, 0, 16⟩
/-- `ROTOR.ADV_STEP.HZ` [15:0] RW (R358). -/
def ROTOR_ADV_STEP_HZ : Fld := ⟨0xE0A0, 0, 16⟩
/-- `ROTOR.FLUX_SPD.ON` [31:16] RW (R358). -/
def ROTOR_FLUX_SPD_ON : Fld := ⟨0xE0A4, 16, 16⟩
/-- `ROTOR.FLUX_SPD.OFF` [15:0] RW (R358). -/
def ROTOR_FLUX_SPD_OFF : Fld := ⟨0xE0A4, 0, 16⟩
/-- `ROTOR.DEC_PERIOD.CYC` [13:0] RW (R358). -/
def ROTOR_DEC_PERIOD_CYC : Fld := ⟨0xE0A8, 0, 14⟩
/-- `ROTOR.BANDS.TQ` [31:16] RW (R358). -/
def ROTOR_BANDS_TQ : Fld := ⟨0xE0AC, 16, 16⟩
/-- `ROTOR.BANDS.FLUX` [15:0] RW (R358). -/
def ROTOR_BANDS_FLUX : Fld := ⟨0xE0AC, 0, 16⟩
/-- `ROTOR.TQ_LIM.BRAKE` [31:16] RW (R358). -/
def ROTOR_TQ_LIM_BRAKE : Fld := ⟨0xE0B0, 16, 16⟩
/-- `ROTOR.TQ_LIM.MOTOR` [15:0] RW (R358). -/
def ROTOR_TQ_LIM_MOTOR : Fld := ⟨0xE0B0, 0, 16⟩
/-- `ROTOR.SPD_PI.KP` [31:16] RW (R358). -/
def ROTOR_SPD_PI_KP : Fld := ⟨0xE0B4, 16, 16⟩
/-- `ROTOR.SPD_PI.KI` [15:0] RW (R358). -/
def ROTOR_SPD_PI_KI : Fld := ⟨0xE0B4, 0, 16⟩
/-- `ROTOR.OBS.SPD_BW` [31:16] RW (R358). -/
def ROTOR_OBS_SPD_BW : Fld := ⟨0xE0B8, 16, 16⟩
/-- `ROTOR.OBS.WC` [15:0] RW (R358). -/
def ROTOR_OBS_WC : Fld := ⟨0xE0B8, 0, 16⟩
/-- `ROTOR.PROBE.PS_MAX` [31:24] RW (R358). -/
def ROTOR_PROBE_PS_MAX : Fld := ⟨0xE0BC, 24, 8⟩
/-- `ROTOR.PROBE.PRED_MAX` [23:16] RW (R358). -/
def ROTOR_PROBE_PRED_MAX : Fld := ⟨0xE0BC, 16, 8⟩
/-- `ROTOR.PROBE.SETTLE` [15:0] RW (R358). -/
def ROTOR_PROBE_SETTLE : Fld := ⟨0xE0BC, 0, 16⟩
/-- `ROTOR.PROBE2.APERT` [7:0] RW (R358). -/
def ROTOR_PROBE2_APERT : Fld := ⟨0xE0C0, 0, 8⟩
/-- `ROTOR.OV.HARD` [31:16] RW (R358). -/
def ROTOR_OV_HARD : Fld := ⟨0xE0C4, 16, 16⟩
/-- `ROTOR.OV.SOFT` [15:0] RW (R358). -/
def ROTOR_OV_SOFT : Fld := ⟨0xE0C4, 0, 16⟩
/-- `ROTOR.CHOP_V.ON` [31:16] RW (R358). -/
def ROTOR_CHOP_V_ON : Fld := ⟨0xE0C8, 16, 16⟩
/-- `ROTOR.CHOP_V.OFF` [15:0] RW (R358). -/
def ROTOR_CHOP_V_OFF : Fld := ⟨0xE0C8, 0, 16⟩
/-- `ROTOR.CHOP_T.T` [31:16] RW (R358). -/
def ROTOR_CHOP_T_T : Fld := ⟨0xE0CC, 16, 16⟩
/-- `ROTOR.CHOP_T.FB_T` [15:0] RW (R358). -/
def ROTOR_CHOP_T_FB_T : Fld := ⟨0xE0CC, 0, 16⟩
/-- `ROTOR.UV.T` [31:16] RW (R358). -/
def ROTOR_UV_T : Fld := ⟨0xE0D0, 16, 16⟩
/-- `ROTOR.UV.LIM` [15:0] RW (R358). -/
def ROTOR_UV_LIM : Fld := ⟨0xE0D0, 0, 16⟩
/-- `ROTOR.ASC_MIN.SPEED` [23:0] RW (R358). -/
def ROTOR_ASC_MIN_SPEED : Fld := ⟨0xE0D4, 0, 24⟩
/-- `ROTOR.ASC_CFG.ILIM` [31:16] RW (R358). -/
def ROTOR_ASC_CFG_ILIM : Fld := ⟨0xE0D8, 16, 16⟩
/-- `ROTOR.ASC_CFG.HOLD` [15:0] RW (R358). -/
def ROTOR_ASC_CFG_HOLD : Fld := ⟨0xE0D8, 0, 16⟩
/-- `ROTOR.OC_HOLD.US` [15:0] RW (R358). -/
def ROTOR_OC_HOLD_US : Fld := ⟨0xE0DC, 0, 16⟩
/-- `ROTOR.ACC_LIM.ACC` [23:0] RW (R358). -/
def ROTOR_ACC_LIM_ACC : Fld := ⟨0xE0E0, 0, 24⟩
/-- `ROTOR.SYNC.N` [7:0] RW (R358). -/
def ROTOR_SYNC_N : Fld := ⟨0xE0E4, 0, 8⟩
/-- `ROTOR.REV_THRESH.SPEED` [23:0] RW (R358). -/
def ROTOR_REV_THRESH_SPEED : Fld := ⟨0xE0E8, 0, 24⟩
/-- `ROTOR.RECATCH.TO` [31:16] RW (R358). -/
def ROTOR_RECATCH_TO : Fld := ⟨0xE0EC, 16, 16⟩
/-- `ROTOR.RECATCH.CONFIRM` [7:0] RW (R358). -/
def ROTOR_RECATCH_CONFIRM : Fld := ⟨0xE0EC, 0, 8⟩
/-- `ROTOR.ELEC_OFS.ANGLE` [15:0] RW (R358). -/
def ROTOR_ELEC_OFS_ANGLE : Fld := ⟨0xE0F0, 0, 16⟩
/-- `ROTOR.HU_V.VREF` [31:16] RW (R358). -/
def ROTOR_HU_V_VREF : Fld := ⟨0xE0F4, 16, 16⟩
/-- `ROTOR.HU_V.TQ` [15:0] RW (R358). -/
def ROTOR_HU_V_TQ : Fld := ⟨0xE0F4, 0, 16⟩
/-- `ROTOR.HU_MIN_SPD.SPEED` [23:0] RW (R358). -/
def ROTOR_HU_MIN_SPD_SPEED : Fld := ⟨0xE0F8, 0, 24⟩
/-- `ROTOR.HU_PI.KP` [31:16] RW (R358). -/
def ROTOR_HU_PI_KP : Fld := ⟨0xE0FC, 16, 16⟩
/-- `ROTOR.HU_PI.KI` [15:0] RW (R358). -/
def ROTOR_HU_PI_KI : Fld := ⟨0xE0FC, 0, 16⟩
/-- `ROTOR.SPEED.NEG` [31:31] RO (R358). -/
def ROTOR_SPEED_NEG : Fld := ⟨0xE100, 31, 1⟩
/-- `ROTOR.SPEED.SPEED` [23:0] RO (R358). -/
def ROTOR_SPEED_SPEED : Fld := ⟨0xE100, 0, 24⟩
/-- `ROTOR.ANGLE.ELEC` [15:0] RO (R358). -/
def ROTOR_ANGLE_ELEC : Fld := ⟨0xE104, 0, 16⟩
/-- `ROTOR.FLUX.TORQUE` [31:16] RO (R358). -/
def ROTOR_FLUX_TORQUE : Fld := ⟨0xE108, 16, 16⟩
/-- `ROTOR.FLUX.PSI` [15:0] RO (R358). -/
def ROTOR_FLUX_PSI : Fld := ⟨0xE108, 0, 16⟩
/-- `ROTOR.IPH.IV` [31:16] RO (R358). -/
def ROTOR_IPH_IV : Fld := ⟨0xE10C, 16, 16⟩
/-- `ROTOR.IPH.IU` [15:0] RO (R358). -/
def ROTOR_IPH_IU : Fld := ⟨0xE10C, 0, 16⟩
/-- `ROTOR.VDC.V` [15:0] RO (R358). -/
def ROTOR_VDC_V : Fld := ⟨0xE110, 0, 16⟩
/-- `ROTOR.PROBE_CNT.FORCED` [31:16] RW (R358). -/
def ROTOR_PROBE_CNT_FORCED : Fld := ⟨0xE114, 16, 16⟩
/-- `ROTOR.PROBE_CNT.PRED` [15:0] RW (R358). -/
def ROTOR_PROBE_CNT_PRED : Fld := ⟨0xE114, 0, 16⟩
/-- `ROTOR.TRIP_CNT.CHOP` [31:16] RW (R358). -/
def ROTOR_TRIP_CNT_CHOP : Fld := ⟨0xE118, 16, 16⟩
/-- `ROTOR.TRIP_CNT.OC` [15:0] RW (R358). -/
def ROTOR_TRIP_CNT_OC : Fld := ⟨0xE118, 0, 16⟩
/-- `ROTOR.ADV.DEG4` [7:0] RW (R358). -/
def ROTOR_ADV_DEG4 (i : Nat) : Fld := ⟨0xE200 + i * 0x4, 0, 8⟩
/-- `XLINK.CTRL.LOCK` [9:9] W1S (R481). -/
def XLINK_CTRL_LOCK : Fld := ⟨0xF008, 9, 1⟩
/-- `XLINK.CTRL.ENABLE` [0:0] RW (R19). -/
def XLINK_CTRL_ENABLE : Fld := ⟨0xF008, 0, 1⟩
/-- `XLINK.STATUS.LOST` [11:8] RO (R473). -/
def XLINK_STATUS_LOST : Fld := ⟨0xF00C, 8, 4⟩
/-- `XLINK.STATUS.SYNCED` [1:1] RO (R473). -/
def XLINK_STATUS_SYNCED : Fld := ⟨0xF00C, 1, 1⟩
/-- `XLINK.STATUS.UP` [0:0] RO (R473). -/
def XLINK_STATUS_UP : Fld := ⟨0xF00C, 0, 1⟩
/-- `XLINK.CFG.INDEX` [25:24] RWL (R473). -/
def XLINK_CFG_INDEX : Fld := ⟨0xF040, 24, 2⟩
/-- `XLINK.CFG.COUNT` [19:18] RWL (R473). -/
def XLINK_CFG_COUNT : Fld := ⟨0xF040, 18, 2⟩
/-- `XLINK.CFG.TRIG_FWD` [9:9] RW (R473). -/
def XLINK_CFG_TRIG_FWD : Fld := ⟨0xF040, 9, 1⟩
/-- `XLINK.CFG.ANGLE_FOLLOW` [8:8] RW (R473). -/
def XLINK_CFG_ANGLE_FOLLOW : Fld := ⟨0xF040, 8, 1⟩
/-- `XLINK.SYNC.TO` [31:16] RW (R473). -/
def XLINK_SYNC_TO : Fld := ⟨0xF044, 16, 16⟩
/-- `XLINK.SYNC.PERIOD` [15:0] RW (R473). -/
def XLINK_SYNC_PERIOD : Fld := ⟨0xF044, 0, 16⟩
/-- `XLINK.HOP_LAT.CYC` [15:0] RW (R473). -/
def XLINK_HOP_LAT_CYC : Fld := ⟨0xF048, 0, 16⟩
/-- `XLINK.RTT.CYC` [19:0] RO (R473). -/
def XLINK_RTT_CYC : Fld := ⟨0xF04C, 0, 20⟩
/-- `XLINK.RTO.US` [31:16] RW (R473). -/
def XLINK_RTO_US : Fld := ⟨0xF050, 16, 16⟩
/-- `XLINK.RTO.TRIES` [3:0] RW (R473). -/
def XLINK_RTO_TRIES : Fld := ⟨0xF050, 0, 4⟩
/-- `XLINK.HB.PERIOD` [15:0] RW (R473). -/
def XLINK_HB_PERIOD : Fld := ⟨0xF054, 0, 16⟩
/-- `XLINK.TIME_OFS_LO.CYC` [31:0] RO (R473). -/
def XLINK_TIME_OFS_LO_CYC : Fld := ⟨0xF058, 0, 32⟩
/-- `XLINK.TIME_OFS_HI.CYC` [31:0] RO (R473). -/
def XLINK_TIME_OFS_HI_CYC : Fld := ⟨0xF05C, 0, 32⟩
/-- `XLINK.ERR_CNT.CNT` [31:0] RW (R473). -/
def XLINK_ERR_CNT_CNT : Fld := ⟨0xF060, 0, 32⟩
/-- `XLINK.RESEND_CNT.CNT` [31:0] RW (R473). -/
def XLINK_RESEND_CNT_CNT : Fld := ⟨0xF064, 0, 32⟩
/-- `XLINK.PSHARE.SHARE3` [31:24] RW (R473). -/
def XLINK_PSHARE_SHARE3 (i : Nat) : Fld := ⟨0xF080 + i * 0x4, 24, 8⟩
/-- `XLINK.PSHARE.SHARE2` [23:16] RW (R473). -/
def XLINK_PSHARE_SHARE2 (i : Nat) : Fld := ⟨0xF080 + i * 0x4, 16, 8⟩
/-- `XLINK.PSHARE.SHARE1` [15:8] RW (R473). -/
def XLINK_PSHARE_SHARE1 (i : Nat) : Fld := ⟨0xF080 + i * 0x4, 8, 8⟩
/-- `XLINK.PSHARE.SHARE0` [7:0] RW (R473). -/
def XLINK_PSHARE_SHARE0 (i : Nat) : Fld := ⟨0xF080 + i * 0x4, 0, 8⟩
/-- `REFL.CTRL.LOCK` [9:9] W1S (R481). -/
def REFL_CTRL_LOCK : Fld := ⟨0x10008, 9, 1⟩
/-- `REFL.CTRL.OWN_CLR` [8:8] WO (R474). -/
def REFL_CTRL_OWN_CLR : Fld := ⟨0x10008, 8, 1⟩
/-- `REFL.CTRL.ENABLE` [0:0] RW (R19). -/
def REFL_CTRL_ENABLE : Fld := ⟨0x10008, 0, 1⟩
/-- `REFL.STATUS.SOLO` [1:1] RO (R474). -/
def REFL_STATUS_SOLO : Fld := ⟨0x1000C, 1, 1⟩
/-- `REFL.STATUS.PEER_UP` [0:0] RO (R474). -/
def REFL_STATUS_PEER_UP : Fld := ⟨0x1000C, 0, 1⟩
/-- `REFL.CFG.GRAVE_REL` [3:3] RWL (R474). -/
def REFL_CFG_GRAVE_REL : Fld := ⟨0x10040, 3, 1⟩
/-- `REFL.CFG.SYNC_CMPL` [2:2] RWL (R474). -/
def REFL_CFG_SYNC_CMPL : Fld := ⟨0x10040, 2, 1⟩
/-- `REFL.CFG.AUTO_TKO` [1:1] RWL (R474). -/
def REFL_CFG_AUTO_TKO : Fld := ⟨0x10040, 1, 1⟩
/-- `REFL.CFG.PRIMARY` [0:0] RWL (R474). -/
def REFL_CFG_PRIMARY : Fld := ⟨0x10040, 0, 1⟩
/-- `REFL.OWN_SETTLE.CYC` [9:0] RW (R474). -/
def REFL_OWN_SETTLE_CYC : Fld := ⟨0x10044, 0, 10⟩
/-- `REFL.CLAIM_LO.CH` [31:0] RW (R474). -/
def REFL_CLAIM_LO_CH : Fld := ⟨0x10048, 0, 32⟩
/-- `REFL.CLAIM_HI.CH` [15:0] RW (R474). -/
def REFL_CLAIM_HI_CH : Fld := ⟨0x1004C, 0, 16⟩
/-- `REFL.OWNED_LO.CH` [31:0] RO (R474). -/
def REFL_OWNED_LO_CH : Fld := ⟨0x10050, 0, 32⟩
/-- `REFL.OWNED_HI.CH` [15:0] RO (R474). -/
def REFL_OWNED_HI_CH : Fld := ⟨0x10054, 0, 16⟩
/-- `REFL.HB.PERIOD` [31:16] RW (R474). -/
def REFL_HB_PERIOD : Fld := ⟨0x10058, 16, 16⟩
/-- `REFL.HB.MISS` [3:0] RW (R474). -/
def REFL_HB_MISS : Fld := ⟨0x10058, 0, 4⟩
/-- `REFL.RTO.US` [31:16] RW (R474). -/
def REFL_RTO_US : Fld := ⟨0x1005C, 16, 16⟩
/-- `REFL.RTO.TRIES` [3:0] RW (R474). -/
def REFL_RTO_TRIES : Fld := ⟨0x1005C, 0, 4⟩
/-- `REFL.TKO_TO.US` [15:0] RW (R474). -/
def REFL_TKO_TO_US : Fld := ⟨0x10060, 0, 16⟩
/-- `REFL.TKO_TIME.CYC` [31:0] RO (R474). -/
def REFL_TKO_TIME_CYC : Fld := ⟨0x10064, 0, 32⟩
/-- `REFL.CMD.TAKEOVER` [0:0] WO (R474). -/
def REFL_CMD_TAKEOVER : Fld := ⟨0x10068, 0, 1⟩
/-- `REFL.ERR_CNT.CNT` [31:0] RW (R474). -/
def REFL_ERR_CNT_CNT : Fld := ⟨0x1006C, 0, 32⟩
/-- `CAL.CTRL.ENABLE` [0:0] RW (R19). -/
def CAL_CTRL_ENABLE : Fld := ⟨0x11008, 0, 1⟩
/-- `CAL.STATUS.GRANT` [31:16] RO (R377). -/
def CAL_STATUS_GRANT : Fld := ⟨0x1100C, 16, 16⟩
/-- `CAL.STATUS.SLOT` [11:0] RO (R377). -/
def CAL_STATUS_SLOT : Fld := ⟨0x1100C, 0, 12⟩
/-- `CAL.ADDR.ENTRY` [11:0] RW (R377). -/
def CAL_ADDR_ENTRY : Fld := ⟨0x11040, 0, 12⟩
/-- `CAL.DATA.ODD` [31:16] RW (R377). -/
def CAL_DATA_ODD : Fld := ⟨0x11044, 16, 16⟩
/-- `CAL.DATA.EVEN` [15:0] RW (R377). -/
def CAL_DATA_EVEN : Fld := ⟨0x11044, 0, 16⟩
/-- `CAL.FIXED.ENTRY` [15:0] RW (R377). -/
def CAL_FIXED_ENTRY : Fld := ⟨0x11048, 0, 16⟩
/-- `CAL.LOCK_MASK.PERMITS` [12:0] RW (R377). -/
def CAL_LOCK_MASK_PERMITS : Fld := ⟨0x1104C, 0, 13⟩
/-- `CAL.PHASE.COUNTS` [15:0] RW (R377). -/
def CAL_PHASE_COUNTS : Fld := ⟨0x11050, 0, 16⟩
/-- `CAL.UMBRA_FLITS.CNT` [31:0] RW (R377). -/
def CAL_UMBRA_FLITS_CNT : Fld := ⟨0x11054, 0, 32⟩
/-- `CAL.MARK_CNT.CNT` [31:0] RW (R377). -/
def CAL_MARK_CNT_CNT : Fld := ⟨0x11058, 0, 32⟩
/-- `CAL.SKIP_CNT.CNT` [31:0] RW (R377). -/
def CAL_SKIP_CNT_CNT : Fld := ⟨0x1105C, 0, 32⟩
/-- `LANE.CTRL.ENABLE` [0:0] RW (R19). -/
def LANE_CTRL_ENABLE (n : Nat) : Fld := ⟨0x20008 + n * 0x1000, 0, 1⟩
/-- `LANE.STATUS.WD_PEND` [10:10] RO (R265). -/
def LANE_STATUS_WD_PEND (n : Nat) : Fld := ⟨0x2000C + n * 0x1000, 10, 1⟩
/-- `LANE.STATUS.FULL` [9:9] RO (R265). -/
def LANE_STATUS_FULL (n : Nat) : Fld := ⟨0x2000C + n * 0x1000, 9, 1⟩
/-- `LANE.STATUS.SPILLING` [8:8] RO (R265). -/
def LANE_STATUS_SPILLING (n : Nat) : Fld := ⟨0x2000C + n * 0x1000, 8, 1⟩
/-- `LANE.STATUS.STATE` [7:6] RO (R265). -/
def LANE_STATUS_STATE (n : Nat) : Fld := ⟨0x2000C + n * 0x1000, 6, 2⟩
/-- `LANE.STATUS.IN_TILE` [5:5] RO (R265). -/
def LANE_STATUS_IN_TILE (n : Nat) : Fld := ⟨0x2000C + n * 0x1000, 5, 1⟩
/-- `LANE.STATUS.ENABLED` [4:4] RO (R265). -/
def LANE_STATUS_ENABLED (n : Nat) : Fld := ⟨0x2000C + n * 0x1000, 4, 1⟩
/-- `LANE.STATUS.LINKUP` [0:0] RO (R265). -/
def LANE_STATUS_LINKUP (n : Nat) : Fld := ⟨0x2000C + n * 0x1000, 0, 1⟩
/-- `LANE.CFG.CT_THRESH` [6:0] RW (R265). -/
def LANE_CFG_CT_THRESH (n : Nat) : Fld := ⟨0x20040 + n * 0x1000, 0, 7⟩
/-- `LANE.CMD.RESET` [1:1] WO (R265). -/
def LANE_CMD_RESET (n : Nat) : Fld := ⟨0x20044 + n * 0x1000, 1, 1⟩
/-- `LANE.CMD.DROP` [0:0] WO (R265). -/
def LANE_CMD_DROP (n : Nat) : Fld := ⟨0x20044 + n * 0x1000, 0, 1⟩
/-- `LANE.TILE_CNT.CNT` [31:0] RW (R265). -/
def LANE_TILE_CNT_CNT (n : Nat) : Fld := ⟨0x20048 + n * 0x1000, 0, 32⟩
/-- `LANE.REJ_CNT.CNT` [31:0] RW (R265). -/
def LANE_REJ_CNT_CNT (n : Nat) : Fld := ⟨0x2004C + n * 0x1000, 0, 32⟩
/-- `LANE.DISC_CNT.CNT` [31:0] RW (R265). -/
def LANE_DISC_CNT_CNT (n : Nat) : Fld := ⟨0x20050 + n * 0x1000, 0, 32⟩
/-- `LANE.TRUNC_CNT.CNT` [31:0] RW (R265). -/
def LANE_TRUNC_CNT_CNT (n : Nat) : Fld := ⟨0x20054 + n * 0x1000, 0, 32⟩
/-- `LANE.VANISH_CNT.CNT` [31:0] RW (R265). -/
def LANE_VANISH_CNT_CNT (n : Nat) : Fld := ⟨0x20058 + n * 0x1000, 0, 32⟩
/-- `LANE.BP_CYC.CNT` [31:0] RW (R265). -/
def LANE_BP_CYC_CNT (n : Nat) : Fld := ⟨0x2005C + n * 0x1000, 0, 32⟩
/-- `LANE.REJ_INFO.STREAM` [27:16] RO (R265). -/
def LANE_REJ_INFO_STREAM (n : Nat) : Fld := ⟨0x20060 + n * 0x1000, 16, 12⟩
/-- `LANE.REJ_INFO.REASON` [3:0] RO (R265). -/
def LANE_REJ_INFO_REASON (n : Nat) : Fld := ⟨0x20060 + n * 0x1000, 0, 4⟩
/-- `CH.CTRL.HOLD` [11:11] RW (R181). -/
def CH_CTRL_HOLD (n : Nat) : Fld := ⟨0x30008 + n * 0x1000, 11, 1⟩
/-- `CH.CTRL.BB_AUTO` [10:10] RW (R181). -/
def CH_CTRL_BB_AUTO (n : Nat) : Fld := ⟨0x30008 + n * 0x1000, 10, 1⟩
/-- `CH.CTRL.BB_VALID` [9:9] RW (R181). -/
def CH_CTRL_BB_VALID (n : Nat) : Fld := ⟨0x30008 + n * 0x1000, 9, 1⟩
/-- `CH.CTRL.WP_OPEN` [8:8] RW (R181). -/
def CH_CTRL_WP_OPEN (n : Nat) : Fld := ⟨0x30008 + n * 0x1000, 8, 1⟩
/-- `CH.CTRL.ENABLE` [0:0] RW (R19). -/
def CH_CTRL_ENABLE (n : Nat) : Fld := ⟨0x30008 + n * 0x1000, 0, 1⟩
/-- `CH.STATUS.PARKED` [31:16] RO (R181). -/
def CH_STATUS_PARKED (n : Nat) : Fld := ⟨0x3000C + n * 0x1000, 16, 16⟩
/-- `CH.STATUS.SUSPENDED` [15:0] RO (R181). -/
def CH_STATUS_SUSPENDED (n : Nat) : Fld := ⟨0x3000C + n * 0x1000, 0, 16⟩
/-- `CH.QCFG.AGE` [31:16] RW (R181). -/
def CH_QCFG_AGE (n : Nat) : Fld := ⟨0x30040 + n * 0x1000, 16, 16⟩
/-- `CH.QCFG.LUN_MAX` [12:8] RW (R181). -/
def CH_QCFG_LUN_MAX (n : Nat) : Fld := ⟨0x30040 + n * 0x1000, 8, 5⟩
/-- `CH.QCFG.URG_RSV` [1:0] RW (R181). -/
def CH_QCFG_URG_RSV (n : Nat) : Fld := ⟨0x30040 + n * 0x1000, 0, 2⟩
/-- `CH.ERS_CFG.SUS_TO` [31:22] RW (R181). -/
def CH_ERS_CFG_SUS_TO (n : Nat) : Fld := ⟨0x30044 + n * 0x1000, 22, 10⟩
/-- `CH.ERS_CFG.RDMAX` [19:16] RW (R181). -/
def CH_ERS_CFG_RDMAX (n : Nat) : Fld := ⟨0x30044 + n * 0x1000, 16, 4⟩
/-- `CH.ERS_CFG.MAXSUS` [15:12] RW (R181). -/
def CH_ERS_CFG_MAXSUS (n : Nat) : Fld := ⟨0x30044 + n * 0x1000, 12, 4⟩
/-- `CH.ERS_CFG.MINRUN` [11:0] RW (R181). -/
def CH_ERS_CFG_MINRUN (n : Nat) : Fld := ⟨0x30044 + n * 0x1000, 0, 12⟩
/-- `CH.PFX.TLC_OK` [26:26] RW (R181). -/
def CH_PFX_TLC_OK (n : Nat) : Fld := ⟨0x30048 + n * 0x1000, 26, 1⟩
/-- `CH.PFX.TLC_PFX_EN` [25:25] RW (R181). -/
def CH_PFX_TLC_PFX_EN (n : Nat) : Fld := ⟨0x30048 + n * 0x1000, 25, 1⟩
/-- `CH.PFX.SLC_PFX_EN` [24:24] RW (R181). -/
def CH_PFX_SLC_PFX_EN (n : Nat) : Fld := ⟨0x30048 + n * 0x1000, 24, 1⟩
/-- `CH.PFX.TLC_NEXT` [23:16] RW (R181). -/
def CH_PFX_TLC_NEXT (n : Nat) : Fld := ⟨0x30048 + n * 0x1000, 16, 8⟩
/-- `CH.PFX.TLC` [15:8] RW (R181). -/
def CH_PFX_TLC (n : Nat) : Fld := ⟨0x30048 + n * 0x1000, 8, 8⟩
/-- `CH.PFX.SLC` [7:0] RW (R181). -/
def CH_PFX_SLC (n : Nat) : Fld := ⟨0x30048 + n * 0x1000, 0, 8⟩
/-- `CH.TLC_BUSY.SCYC` [15:0] RW (R181). -/
def CH_TLC_BUSY_SCYC (n : Nat) : Fld := ⟨0x3004C + n * 0x1000, 0, 16⟩
/-- `CH.SEAL_CFG.LUN` [3:0] RW (R181). -/
def CH_SEAL_CFG_LUN (n : Nat) : Fld := ⟨0x30050 + n * 0x1000, 0, 4⟩
/-- `CH.CHARTER.EN` [8:8] RW (R181). -/
def CH_CHARTER_EN (n : Nat) : Fld := ⟨0x30054 + n * 0x1000, 8, 1⟩
/-- `CH.CHARTER.FEAT` [7:0] RW (R181). -/
def CH_CHARTER_FEAT (n : Nat) : Fld := ⟨0x30054 + n * 0x1000, 0, 8⟩
/-- `CH.DIE_SEL.LUN` [3:0] RW (R181). -/
def CH_DIE_SEL_LUN (n : Nat) : Fld := ⟨0x30058 + n * 0x1000, 0, 4⟩
/-- `CH.DIE_Q.STATE` [31:29] RO (R181). -/
def CH_DIE_Q_STATE (n : Nat) : Fld := ⟨0x3005C + n * 0x1000, 29, 3⟩
/-- `CH.DIE_Q.AGED` [28:28] RO (R181). -/
def CH_DIE_Q_AGED (n : Nat) : Fld := ⟨0x3005C + n * 0x1000, 28, 1⟩
/-- `CH.DIE_Q.SUS_CNT` [27:24] RO (R181). -/
def CH_DIE_Q_SUS_CNT (n : Nat) : Fld := ⟨0x3005C + n * 0x1000, 24, 4⟩
/-- `CH.DIE_Q.QUEUED` [20:16] RO (R181). -/
def CH_DIE_Q_QUEUED (n : Nat) : Fld := ⟨0x3005C + n * 0x1000, 16, 5⟩
/-- `CH.DIE_Q.URGENT` [12:8] RO (R181). -/
def CH_DIE_Q_URGENT (n : Nat) : Fld := ⟨0x3005C + n * 0x1000, 8, 5⟩
/-- `CH.DIE_Q.HEAD` [7:0] RO (R181). -/
def CH_DIE_Q_HEAD (n : Nat) : Fld := ⟨0x3005C + n * 0x1000, 0, 8⟩
/-- `CH.ERS_RUN.RUN` [31:16] RO (R181). -/
def CH_ERS_RUN_RUN (n : Nat) : Fld := ⟨0x30060 + n * 0x1000, 16, 16⟩
/-- `CH.REFUSE_CNT.CNT` [31:0] RW (R181). -/
def CH_REFUSE_CNT_CNT (n : Nat) : Fld := ⟨0x30064 + n * 0x1000, 0, 32⟩
/-- `CH.REFUSE_ADDR.TADDR` [31:0] RO (R181). -/
def CH_REFUSE_ADDR_TADDR (n : Nat) : Fld := ⟨0x30068 + n * 0x1000, 0, 32⟩
/-- `CH.REFUSE_INFO.CE` [18:16] RO (R181). -/
def CH_REFUSE_INFO_CE (n : Nat) : Fld := ⟨0x3006C + n * 0x1000, 16, 3⟩
/-- `CH.REFUSE_INFO.CMD` [15:8] RO (R181). -/
def CH_REFUSE_INFO_CMD (n : Nat) : Fld := ⟨0x3006C + n * 0x1000, 8, 8⟩
/-- `CH.REFUSE_INFO.REASON` [3:0] RO (R181). -/
def CH_REFUSE_INFO_REASON (n : Nat) : Fld := ⟨0x3006C + n * 0x1000, 0, 4⟩
/-- `CH.BB_MARK.TADDR` [31:0] WO (R181). -/
def CH_BB_MARK_TADDR (n : Nat) : Fld := ⟨0x30070 + n * 0x1000, 0, 32⟩
/-- `CH.BB_LAST.TADDR` [31:0] RO (R181). -/
def CH_BB_LAST_TADDR (n : Nat) : Fld := ⟨0x30074 + n * 0x1000, 0, 32⟩
/-- `CH.BB_CNT.CNT` [15:0] RO (R181). -/
def CH_BB_CNT_CNT (n : Nat) : Fld := ⟨0x30078 + n * 0x1000, 0, 16⟩
/-- `CH.GDT_LO.ADDR` [31:6] RW (R181). -/
def CH_GDT_LO_ADDR (n : Nat) : Fld := ⟨0x30080 + n * 0x1000, 6, 26⟩
/-- `CH.GDT_HI.ADDR` [15:0] RW (R181). -/
def CH_GDT_HI_ADDR (n : Nat) : Fld := ⟨0x30084 + n * 0x1000, 0, 16⟩
/-- `CH.GDT_CMD.START` [0:0] WO (R181). -/
def CH_GDT_CMD_START (n : Nat) : Fld := ⟨0x30088 + n * 0x1000, 0, 1⟩
/-- `CH.GDT_STAT.SET` [31:16] RO (R181). -/
def CH_GDT_STAT_SET (n : Nat) : Fld := ⟨0x3008C + n * 0x1000, 16, 16⟩
/-- `CH.GDT_STAT.BUSY` [4:4] RO (R181). -/
def CH_GDT_STAT_BUSY (n : Nat) : Fld := ⟨0x3008C + n * 0x1000, 4, 1⟩
/-- `CH.GDT_STAT.RESULT` [3:0] RO (R181). -/
def CH_GDT_STAT_RESULT (n : Nat) : Fld := ⟨0x3008C + n * 0x1000, 0, 4⟩
/-- `CH.SLOTS.URG_FREE` [13:8] RO (R181). -/
def CH_SLOTS_URG_FREE (n : Nat) : Fld := ⟨0x30090 + n * 0x1000, 8, 6⟩
/-- `CH.SLOTS.FREE` [5:0] RO (R181). -/
def CH_SLOTS_FREE (n : Nat) : Fld := ⟨0x30090 + n * 0x1000, 0, 6⟩
/-- `CH.PHY_CTRL.DRIVE` [23:22] RW (R110). -/
def CH_PHY_CTRL_DRIVE (n : Nat) : Fld := ⟨0x30100 + n * 0x1000, 22, 2⟩
/-- `CH.PHY_CTRL.FB_P` [21:19] RW (R110). -/
def CH_PHY_CTRL_FB_P (n : Nat) : Fld := ⟨0x30100 + n * 0x1000, 19, 3⟩
/-- `CH.PHY_CTRL.FB_N` [18:15] RW (R110). -/
def CH_PHY_CTRL_FB_N (n : Nat) : Fld := ⟨0x30100 + n * 0x1000, 15, 4⟩
/-- `CH.PHY_CTRL.AUTO_STEER` [14:14] RW (R110). -/
def CH_PHY_CTRL_AUTO_STEER (n : Nat) : Fld := ⟨0x30100 + n * 0x1000, 14, 1⟩
/-- `CH.PHY_CTRL.TRACK_EN` [13:13] RW (R110). -/
def CH_PHY_CTRL_TRACK_EN (n : Nat) : Fld := ⟨0x30100 + n * 0x1000, 13, 1⟩
/-- `CH.PHY_CTRL.P` [12:10] RW (R110). -/
def CH_PHY_CTRL_P (n : Nat) : Fld := ⟨0x30100 + n * 0x1000, 10, 3⟩
/-- `CH.PHY_CTRL.N` [9:6] RW (R110). -/
def CH_PHY_CTRL_N (n : Nat) : Fld := ⟨0x30100 + n * 0x1000, 6, 4⟩
/-- `CH.PHY_CTRL.XDESC_KEEP` [2:2] RW (R110). -/
def CH_PHY_CTRL_XDESC_KEEP (n : Nat) : Fld := ⟨0x30100 + n * 0x1000, 2, 1⟩
/-- `CH.PHY_CTRL.MODE` [1:0] RW (R110). -/
def CH_PHY_CTRL_MODE (n : Nat) : Fld := ⟨0x30100 + n * 0x1000, 0, 2⟩
/-- `CH.PHY_CMD.TARGETS` [15:8] WO (R110). -/
def CH_PHY_CMD_TARGETS (n : Nat) : Fld := ⟨0x30104 + n * 0x1000, 8, 8⟩
/-- `CH.PHY_CMD.CMD` [3:0] WO (R110). -/
def CH_PHY_CMD_CMD (n : Nat) : Fld := ⟨0x30104 + n * 0x1000, 0, 4⟩
/-- `CH.PHY_STAT.CE_PRESENT` [31:24] RO (R110). -/
def CH_PHY_STAT_CE_PRESENT (n : Nat) : Fld := ⟨0x30108 + n * 0x1000, 24, 8⟩
/-- `CH.PHY_STAT.CE_TRAINED` [23:16] RO (R110). -/
def CH_PHY_STAT_CE_TRAINED (n : Nat) : Fld := ⟨0x30108 + n * 0x1000, 16, 8⟩
/-- `CH.PHY_STAT.N_ACT` [15:12] RO (R110). -/
def CH_PHY_STAT_N_ACT (n : Nat) : Fld := ⟨0x30108 + n * 0x1000, 12, 4⟩
/-- `CH.PHY_STAT.P_ACT` [11:9] RO (R110). -/
def CH_PHY_STAT_P_ACT (n : Nat) : Fld := ⟨0x30108 + n * 0x1000, 9, 3⟩
/-- `CH.PHY_STAT.XRATE` [8:8] RO (R110). -/
def CH_PHY_STAT_XRATE (n : Nat) : Fld := ⟨0x30108 + n * 0x1000, 8, 1⟩
/-- `CH.PHY_STAT.BUSY` [7:7] RO (R110). -/
def CH_PHY_STAT_BUSY (n : Nat) : Fld := ⟨0x30108 + n * 0x1000, 7, 1⟩
/-- `CH.PHY_STAT.STATE` [6:4] RO (R110). -/
def CH_PHY_STAT_STATE (n : Nat) : Fld := ⟨0x30108 + n * 0x1000, 4, 3⟩
/-- `CH.PHY_STAT.RESULT` [3:0] RO (R110). -/
def CH_PHY_STAT_RESULT (n : Nat) : Fld := ⟨0x30108 + n * 0x1000, 0, 4⟩
/-- `CH.LANE_MAP.SPARE_OK` [8:8] RO (R110). -/
def CH_LANE_MAP_SPARE_OK (n : Nat) : Fld := ⟨0x3010C + n * 0x1000, 8, 1⟩
/-- `CH.LANE_MAP.ACTIVE` [7:4] RO (R110). -/
def CH_LANE_MAP_ACTIVE (n : Nat) : Fld := ⟨0x3010C + n * 0x1000, 4, 4⟩
/-- `CH.LANE_MAP.REQUEST` [3:0] RW (R110). -/
def CH_LANE_MAP_REQUEST (n : Nat) : Fld := ⟨0x3010C + n * 0x1000, 0, 4⟩
/-- `CH.EYE_LIM.FAIL_TAPS` [15:8] RW (R110). -/
def CH_EYE_LIM_FAIL_TAPS (n : Nat) : Fld := ⟨0x30110 + n * 0x1000, 8, 8⟩
/-- `CH.EYE_LIM.MIN_TAPS` [7:0] RW (R110). -/
def CH_EYE_LIM_MIN_TAPS (n : Nat) : Fld := ⟨0x30110 + n * 0x1000, 0, 8⟩
/-- `CH.EYE_SEL.DIR` [8:8] RW (R110). -/
def CH_EYE_SEL_DIR (n : Nat) : Fld := ⟨0x30114 + n * 0x1000, 8, 1⟩
/-- `CH.EYE_SEL.CE` [2:0] RW (R110). -/
def CH_EYE_SEL_CE (n : Nat) : Fld := ⟨0x30114 + n * 0x1000, 0, 3⟩
/-- `CH.EYE.ALL` [31:0] RO (R110). -/
def CH_EYE_ALL (n i : Nat) : Fld := ⟨0x30118 + n * 0x1000 + i * 0x4, 0, 32⟩
/-- `CH.TRIM.ALL` [31:0] RW (R110). -/
def CH_TRIM_ALL (n i : Nat) : Fld := ⟨0x30124 + n * 0x1000 + i * 0x4, 0, 32⟩
/-- `CH.TRACK.LIM_CNT` [31:16] RW (R110). -/
def CH_TRACK_LIM_CNT (n : Nat) : Fld := ⟨0x30130 + n * 0x1000, 16, 16⟩
/-- `CH.TRACK.PRE_MISS` [15:8] RW (R110). -/
def CH_TRACK_PRE_MISS (n : Nat) : Fld := ⟨0x30130 + n * 0x1000, 8, 8⟩
/-- `CH.TRACK.MAX_OFS` [7:0] RW (R110). -/
def CH_TRACK_MAX_OFS (n : Nat) : Fld := ⟨0x30130 + n * 0x1000, 0, 8⟩
/-- `CH.XDESC.BYTES` [31:0] RW (R110). -/
def CH_XDESC_BYTES (n i : Nat) : Fld := ⟨0x30140 + n * 0x1000 + i * 0x4, 0, 32⟩
/-- `SEQG.CTRL.LOCK` [9:9] W1S (R149). -/
def SEQG_CTRL_LOCK (n : Nat) : Fld := ⟨0x60008 + n * 0x1000, 9, 1⟩
/-- `SEQG.CTRL.CUST_HOLD` [8:8] RW (R149). -/
def SEQG_CTRL_CUST_HOLD (n : Nat) : Fld := ⟨0x60008 + n * 0x1000, 8, 1⟩
/-- `SEQG.CTRL.ENABLE` [0:0] RW (R19). -/
def SEQG_CTRL_ENABLE (n : Nat) : Fld := ⟨0x60008 + n * 0x1000, 0, 1⟩
/-- `SEQG.STATUS.HALTED` [31:24] RO (R149). -/
def SEQG_STATUS_HALTED (n : Nat) : Fld := ⟨0x6000C + n * 0x1000, 24, 8⟩
/-- `SEQG.STATUS.CUST_BUSY` [23:16] RO (R149). -/
def SEQG_STATUS_CUST_BUSY (n : Nat) : Fld := ⟨0x6000C + n * 0x1000, 16, 8⟩
/-- `SEQG.STATUS.IDLE` [15:8] RO (R149). -/
def SEQG_STATUS_IDLE (n : Nat) : Fld := ⟨0x6000C + n * 0x1000, 8, 8⟩
/-- `SEQG.STATUS.HOLD_ACTIVE` [7:7] RO (R149). -/
def SEQG_STATUS_HOLD_ACTIVE (n : Nat) : Fld := ⟨0x6000C + n * 0x1000, 7, 1⟩
/-- `SEQG.STATUS.VERIFY_BUSY` [6:6] RO (R149). -/
def SEQG_STATUS_VERIFY_BUSY (n : Nat) : Fld := ⟨0x6000C + n * 0x1000, 6, 1⟩
/-- `SEQG.STATUS.VERIFY_RESULT` [5:4] RO (R149). -/
def SEQG_STATUS_VERIFY_RESULT (n : Nat) : Fld := ⟨0x6000C + n * 0x1000, 4, 2⟩
/-- `SEQG.STATUS.CUST_OK` [1:1] RO (R149). -/
def SEQG_STATUS_CUST_OK (n : Nat) : Fld := ⟨0x6000C + n * 0x1000, 1, 1⟩
/-- `SEQG.STATUS.VEND_OK` [0:0] RO (R149). -/
def SEQG_STATUS_VEND_OK (n : Nat) : Fld := ⟨0x6000C + n * 0x1000, 0, 1⟩
/-- `SEQG.VERIFY.REGION` [0:0] WO (R149). -/
def SEQG_VERIFY_REGION (n : Nat) : Fld := ⟨0x60040 + n * 0x1000, 0, 1⟩
/-- `SEQG.VEND_VER.VERSION` [31:0] RO (R149). -/
def SEQG_VEND_VER_VERSION (n : Nat) : Fld := ⟨0x60044 + n * 0x1000, 0, 32⟩
/-- `SEQG.CUST_VER.VERSION` [31:0] RO (R149). -/
def SEQG_CUST_VER_VERSION (n : Nat) : Fld := ⟨0x60048 + n * 0x1000, 0, 32⟩
/-- `SEQG.CRC_CALC.CRC` [31:0] RO (R149). -/
def SEQG_CRC_CALC_CRC (n : Nat) : Fld := ⟨0x6004C + n * 0x1000, 0, 32⟩
/-- `SEQG.HOLD_TO.STORE_HOLD_TO` [23:0] RW (R149). -/
def SEQG_HOLD_TO_STORE_HOLD_TO (n : Nat) : Fld := ⟨0x60050 + n * 0x1000, 0, 24⟩
/-- `SEQG.WDOG_LIM.LIM` [15:0] RW (R149). -/
def SEQG_WDOG_LIM_LIM (n : Nat) : Fld := ⟨0x60054 + n * 0x1000, 0, 16⟩
/-- `SEQG.BREAK.RESTART` [15:8] WO (R149). -/
def SEQG_BREAK_RESTART (n : Nat) : Fld := ⟨0x60058 + n * 0x1000, 8, 8⟩
/-- `SEQG.BREAK.STOP` [7:0] WO (R149). -/
def SEQG_BREAK_STOP (n : Nat) : Fld := ⟨0x60058 + n * 0x1000, 0, 8⟩
/-- `SEQG.USER.USER1` [15:8] RW (R149). -/
def SEQG_USER_USER1 (n : Nat) : Fld := ⟨0x6005C + n * 0x1000, 8, 8⟩
/-- `SEQG.USER.USER0` [7:0] RW (R149). -/
def SEQG_USER_USER0 (n : Nat) : Fld := ⟨0x6005C + n * 0x1000, 0, 8⟩
/-- `SEQG.SEAL_LAT_LIM.LIM` [11:0] RW (R149). -/
def SEQG_SEAL_LAT_LIM_LIM (n : Nat) : Fld := ⟨0x60060 + n * 0x1000, 0, 12⟩
/-- `SEQG.GUARD_CMD.BYTES` [31:0] RWL (R149). -/
def SEQG_GUARD_CMD_BYTES (n : Nat) : Fld := ⟨0x60064 + n * 0x1000, 0, 32⟩
/-- `SEQG.HDR0.HEADER` [31:0] RW (R149). -/
def SEQG_HDR0_HEADER (n i : Nat) : Fld := ⟨0x60080 + n * 0x1000 + i * 0x4, 0, 32⟩
/-- `SEQG.FRAME.ALL` [31:0] RO (R149). -/
def SEQG_FRAME_ALL (n i : Nat) : Fld := ⟨0x60400 + n * 0x1000 + i * 0x20, 0, 32⟩

end R

end Sys2Proof.Machine
end

