-- ==== Sys2Proof/Machine/RegTable.lean ====
section
/-!
DEFINITION. The register words of every page with their access types, reset values and kept fields
(00_scope.md R14, R18, R22; the register tables of each chapter; 17_bringup_registers.md R482).
-/

namespace Sys2Proof.Machine

/-- One register word of a page, or an array of `count` words `stride` bytes apart.
Each mask names the bits of one access type of R14; bits in no mask are RO, WO or reserved. -/
structure RegRow where
  /-- offset in the page -/
  off : Nat
  /-- distance of two elements -/
  stride : Nat
  /-- number of elements -/
  count : Nat
  /-- RW bits -/
  rw : BitVec 32
  /-- RWL bits -/
  rwl : BitVec 32
  /-- W1C bits -/
  w1c : BitVec 32
  /-- W1S bits -/
  w1s : BitVec 32
  /-- value after cold reset -/
  reset : BitVec 32
  /-- bits kept by warm reset -/
  keep : BitVec 32
  deriving DecidableEq, Repr

/-- Register words of the page `SYS`. -/
def rowsSys : List RegRow := [
  ⟨0x8, 0, 1, 0x0, 0x0, 0x0, 0x0, 0x1, 0x0⟩, -- CTRL
  ⟨0xC, 0, 1, 0x0, 0x0, 0x0, 0x0, 0x0, 0x1⟩, -- STATUS
  ⟨0x40, 0, 1, 0x0, 0x0, 0x0, 0x0, 0x0, 0xFFFFFFFF⟩, -- ID_LOT
  ⟨0x44, 0, 1, 0x0, 0x0, 0x0, 0x0, 0x0, 0xFFFFFF⟩, -- ID_DIE
  ⟨0x48, 0, 1, 0x0, 0x0, 0x0, 0x0, 0x0, 0x0⟩, -- CONFIG
  ⟨0x4C, 0, 1, 0x0, 0x0, 0x0, 0x0, 0x0, 0x0⟩, -- OFF_ADDR
  ⟨0x50, 0, 1, 0x0, 0x0, 0x0, 0x0, 0x0, 0x0⟩, -- TIME_LO
  ⟨0x54, 0, 1, 0x0, 0x0, 0x0, 0x0, 0x0, 0x0⟩, -- TIME_HI
  ⟨0x58, 0, 1, 0xFFFFFFFF, 0x0, 0x0, 0x0, 0x0, 0x0⟩, -- EVT_LINE
  ⟨0x60, 0, 1, 0x0, 0x0, 0x0, 0x0, 0x0, 0x1000⟩, -- PIN_STAT
  ⟨0x64, 0, 1, 0xFFFFFFFF, 0x0, 0x0, 0x0, 0x0, 0x0⟩] -- SCRATCH

/-- Register words of the page `PWR`. -/
def rowsPwr : List RegRow := [
  ⟨0x8, 0, 1, 0x101, 0x0, 0x0, 0x0, 0x0, 0x0⟩, -- CTRL
  ⟨0xC, 0, 1, 0x0, 0x0, 0x0, 0x0, 0x0, 0x0⟩, -- STATUS
  ⟨0x40, 0, 1, 0x0, 0x0, 0x0, 0x0, 0x0, 0x0⟩, -- DOM_CMD
  ⟨0x44, 0, 1, 0x0, 0x0, 0x0, 0x0, 0x0, 0x0⟩, -- DOM_RES
  ⟨0x48, 0, 1, 0x0, 0x0, 0x0, 0x0, 0x0, 0x0⟩, -- DOM_STATE0
  ⟨0x4C, 0, 1, 0x0, 0x0, 0x0, 0x0, 0x0, 0x0⟩, -- DOM_STATE1
  ⟨0x50, 0, 1, 0xFFFFFF, 0x0, 0x0, 0x0, 0x2AB98, 0x0⟩, -- PD_ACK_TO
  ⟨0x54, 0, 1, 0xFFFF, 0x0, 0x0, 0x0, 0x3E8, 0x0⟩, -- QTO
  ⟨0x58, 0, 1, 0x3FF, 0x0, 0x0, 0x0, 0xA, 0x0⟩, -- STAGGER
  ⟨0x5C, 0, 1, 0x0, 0x0, 0x0, 0x0, 0x0, 0x0⟩, -- QTO_INFO
  ⟨0x60, 0, 1, 0x0, 0x0, 0x0, 0x0, 0x0, 0x0⟩, -- PF_CMD
  ⟨0x64, 0, 1, 0x10F, 0x0, 0x0, 0x0, 0x2, 0x0⟩, -- SEAL_CFG
  ⟨0x68, 0, 1, 0x7FF07FF, 0x0, 0x0, 0x0, 0x0, 0x0⟩, -- SEAL_AREA
  ⟨0x6C, 0, 1, 0x0, 0x0, 0x0, 0x0, 0x0, 0xFFFFFFFF⟩, -- SEAL_TIME
  ⟨0x70, 0, 1, 0x0, 0x0, 0x0, 0x0, 0x0, 0xFFFF⟩, -- SEAL_CNT
  ⟨0x74, 0, 1, 0x7FF07FF, 0x0, 0x0, 0x0, 0x10000, 0x0⟩, -- LEDG_BLK
  ⟨0x78, 0, 1, 0xFFFFFF71, 0x0, 0x0, 0x0, 0x40401430, 0x0⟩, -- LEDG_CFG
  ⟨0x7C, 0, 1, 0x0, 0x0, 0x0, 0x0, 0x0, 0x0⟩, -- LEDG_CMD
  ⟨0x80, 0, 1, 0x0, 0x0, 0x0, 0x0, 0xF, 0x0⟩, -- LEDG_STAT
  ⟨0x84, 0, 1, 0xFFFFFFC0, 0x0, 0x0, 0x0, 0x0, 0x0⟩, -- LEDG_BUF_LO
  ⟨0x88, 0, 1, 0xFFFF, 0x0, 0x0, 0x0, 0x0, 0x0⟩, -- LEDG_BUF_HI
  ⟨0x8C, 0, 1, 0x3F, 0x0, 0x0, 0x0, 0x0, 0x0⟩, -- LEDG_SEL
  ⟨0x90, 0, 1, 0x0, 0x0, 0x0, 0x0, 0x0, 0x0⟩, -- LEDG_POS
  ⟨0x94, 0, 1, 0x0, 0x0, 0x0, 0x0, 0x0, 0x0⟩] -- LEDG_NSEQ

/-- Register words of the page `FAULT`. -/
def rowsFault : List RegRow := [
  ⟨0x8, 0, 1, 0x0, 0x0, 0x0, 0x100, 0x1, 0x100⟩, -- CTRL
  ⟨0xC, 0, 1, 0x0, 0x0, 0x0, 0x0, 0x10000000, 0x80000000⟩, -- STATUS
  ⟨0x40, 0, 1, 0x100, 0x0, 0x0, 0x0, 0x0, 0x0⟩, -- CFG
  ⟨0x44, 0, 1, 0x0, 0x0, 0x80000000, 0x0, 0x0, 0x830000FF⟩, -- FIRST
  ⟨0x48, 0, 1, 0x0, 0x0, 0x0, 0x0, 0x0, 0xFFFFFFFF⟩, -- FIRST_TIME_LO
  ⟨0x4C, 0, 1, 0x0, 0x0, 0x0, 0x0, 0x0, 0xFFFFFFFF⟩, -- FIRST_TIME_HI
  ⟨0x50, 0, 1, 0x0, 0x0, 0x0, 0x0, 0x0, 0xFFFFFFFF⟩, -- FIRST_DETAIL
  ⟨0x54, 0, 1, 0x0, 0x0, 0x0, 0x0, 0x0, 0x800000FF⟩, -- GRAVE_SRC
  ⟨0x58, 0, 1, 0x0, 0x0, 0x0, 0x0, 0x0, 0x3F⟩, -- LOG_HEAD
  ⟨0x5C, 0, 1, 0x0, 0x0, 0x0, 0x0, 0x0, 0xFFFFFFFF⟩, -- LOG_CNT
  ⟨0x60, 0, 1, 0x0, 0x0, 0x0, 0x0, 0x0, 0xFFFF⟩, -- LOG_LOST
  ⟨0x64, 0, 1, 0x0, 0x0, 0x0, 0x0, 0x0, 0x0⟩, -- FW_RAISE
  ⟨0x68, 0, 1, 0xFFFFFFFF, 0x0, 0x0, 0x0, 0x0, 0x0⟩, -- FW_DETAIL
  ⟨0x6C, 0, 1, 0x0, 0x0, 0x0, 0x0, 0x0, 0xFFFF⟩, -- RST_CNT
  ⟨0x400, 8, 256, 0x0, 0xFFFFFF7B, 0x0, 0x0, 0x0, 0xFFFFFF7B⟩, -- SRC_CFG
  ⟨0x404, 8, 256, 0x0, 0x0, 0x0, 0x0, 0x0, 0x300FFFF⟩, -- SRC_STAT
  ⟨0xC00, 16, 64, 0x0, 0x0, 0x0, 0x0, 0x0, 0x0⟩] -- LOG

/-- Register words of the page `MEMI`. -/
def rowsMemi : List RegRow := [
  ⟨0x8, 0, 1, 0x101, 0x0, 0x0, 0x0, 0x0, 0x0⟩, -- CTRL
  ⟨0x40, 0, 1, 0x7F, 0x0, 0x0, 0x0, 0x6A, 0x0⟩, -- SCRUB_EN
  ⟨0x44, 0, 1, 0xFFFF00FF, 0x0, 0x0, 0x0, 0xEA600003, 0x0⟩, -- REPEAT
  ⟨0x48, 0, 1, 0x0, 0x0, 0x0, 0x0, 0x0, 0x0⟩, -- REMAP_CLR
  ⟨0x4C, 0, 1, 0x7F, 0x0, 0x0, 0x0, 0x0, 0x0⟩, -- LOG_SEL
  ⟨0x50, 0, 1, 0x0, 0x0, 0x0, 0x0, 0x0, 0x0⟩, -- LOG_ENT
  ⟨0x54, 0, 1, 0x0, 0x0, 0x0, 0x0, 0x0, 0x0⟩, -- LOG_AGE
  ⟨0x58, 0, 1, 0x71, 0x0, 0x0, 0x0, 0x0, 0x0⟩, -- TEST
  ⟨0x5C, 0, 1, 0xFF, 0x0, 0x0, 0x0, 0x0, 0x0⟩, -- TEST_CHK
  ⟨0x60, 0, 1, 0x0, 0x0, 0x0, 0x0, 0x0, 0x0⟩, -- TEST_RD
  ⟨0x64, 0, 1, 0xF1007F7F, 0x0, 0x0, 0x0, 0x0, 0x0⟩, -- INJECT
  ⟨0x68, 0, 1, 0x0, 0x0, 0x0, 0x0, 0x0, 0x0⟩, -- INJ_ADDR
  ⟨0x6C, 0, 1, 0x0, 0x0, 0x0, 0x0, 0x0, 0x7FF07FF⟩, -- FUSE_STAT
  ⟨0x100, 32, 7, 0xFFFF, 0x0, 0x0, 0x0, 0x64, 0x0⟩, -- LAP_LIM
  ⟨0x104, 32, 7, 0x0, 0x0, 0x0, 0x0, 0x0, 0x0⟩, -- LAP_TIME
  ⟨0x108, 32, 7, 0xFFFFFFFF, 0x0, 0x0, 0x0, 0x0, 0x0⟩, -- LAP_CNT
  ⟨0x10C, 32, 7, 0xFFFFFFFF, 0x0, 0x0, 0x0, 0x0, 0x0⟩, -- CE_CNT
  ⟨0x110, 32, 7, 0xFFFFFFFF, 0x0, 0x0, 0x0, 0x0, 0x0⟩, -- UE_CNT
  ⟨0x114, 32, 7, 0x0, 0x0, 0x0, 0x0, 0x0, 0x0⟩, -- LAST_UE
  ⟨0x118, 32, 7, 0x0, 0x0, 0x0, 0x0, 0x0, 0x0⟩, -- REMAP_USED
  ⟨0x200, 4, 56, 0x0, 0x0, 0x0, 0x0, 0x0, 0x0⟩] -- REMAP

/-- Register words of the page `DMA`. -/
def rowsDma : List RegRow := [
  ⟨0x8, 0, 1, 0x101, 0x0, 0x0, 0x0, 0x0, 0x0⟩, -- CTRL
  ⟨0x40, 0, 1, 0xF, 0x0, 0x0, 0x0, 0x4, 0x0⟩, -- CFG
  ⟨0x44, 0, 1, 0x0, 0x0, 0x0, 0x0, 0x0, 0x0⟩, -- REFUSE_INFO
  ⟨0x48, 0, 1, 0xFFFFFFFF, 0x0, 0x0, 0x0, 0x0, 0x0⟩, -- REFUSE_CNT
  ⟨0x100, 32, 8, 0xF, 0x0, 0x0, 0x0, 0x1, 0x0⟩, -- CH_CFG
  ⟨0x104, 32, 8, 0x0, 0x0, 0x0, 0x0, 0x0, 0x0⟩, -- CH_CMD
  ⟨0x108, 32, 8, 0x0, 0x0, 0x0, 0x0, 0x0, 0x0⟩, -- CH_STAT
  ⟨0x10C, 32, 8, 0x0, 0x0, 0x0, 0x0, 0x0, 0x0⟩, -- CH_PROGRESS
  ⟨0x110, 32, 8, 0x0, 0x0, 0x0, 0x0, 0x0, 0x0⟩, -- CH_STEPS
  ⟨0x114, 32, 8, 0x0, 0x0, 0x0, 0x0, 0x0, 0x0⟩, -- CH_TAG
  ⟨0x200, 16, 8, 0xFFFFF000, 0x0, 0x0, 0x0, 0x0, 0x0⟩, -- WIN_BASE_LO
  ⟨0x204, 16, 8, 0xFFFF, 0x0, 0x0, 0x0, 0x0, 0x0⟩, -- WIN_BASE_HI
  ⟨0x208, 16, 8, 0xFFFFFFFF, 0x0, 0x0, 0x0, 0x0, 0x0⟩, -- WIN_SIZE
  ⟨0x20C, 16, 8, 0x3, 0x0, 0x0, 0x0, 0x0, 0x0⟩] -- WIN_CFG

/-- Register words of the page `RING`. -/
def rowsRing : List RegRow := [
  ⟨0x8, 0, 1, 0x1, 0x0, 0x0, 0x0, 0x0, 0x0⟩, -- CTRL
  ⟨0x40, 0, 1, 0x0, 0x0, 0x0, 0x0, 0x0, 0x0⟩, -- CMD
  ⟨0x44, 0, 1, 0x0, 0x0, 0x0, 0x0, 0x0, 0x0⟩, -- CMD_STAT
  ⟨0x48, 0, 1, 0x0, 0x0, 0x0, 0x0, 0x0, 0x0⟩, -- DOORBELL
  ⟨0x4C, 0, 1, 0x0, 0x0, 0x0, 0x0, 0x0, 0x0⟩, -- DB_INFO
  ⟨0x50, 0, 1, 0x0, 0x0, 0x0, 0x0, 0x0, 0x0⟩, -- EVT_RING
  ⟨0x54, 0, 1, 0x0, 0x0, 0x0, 0x0, 0x0, 0x0⟩, -- ENABLED
  ⟨0x58, 0, 1, 0xFFFFF, 0x0, 0x0, 0x0, 0x80100, 0x0⟩, -- OWN_RETRY
  ⟨0x80, 4, 16, 0x0, 0x0, 0xFFFFFFFF, 0x0, 0x0, 0x0⟩] -- SUMMARY

/-- Register words of the page `STRM`. -/
def rowsStrm : List RegRow := [
  ⟨0x8, 0, 1, 0x1, 0x0, 0x0, 0x0, 0x0, 0x0⟩, -- CTRL
  ⟨0x40, 0, 1, 0x0, 0x0, 0x0, 0x0, 0x0, 0x0⟩, -- CMD
  ⟨0x44, 0, 1, 0x0, 0x0, 0x0, 0x0, 0x0, 0x0⟩, -- CMD_STAT
  ⟨0x48, 0, 1, 0x0, 0x0, 0x0, 0x0, 0x0, 0x0⟩, -- EVT_STREAM
  ⟨0x4C, 0, 1, 0x0, 0x0, 0x0, 0x0, 0x0, 0x0⟩] -- ENABLED

/-- Register words of the page `HOOP`. -/
def rowsHoop : List RegRow := [
  ⟨0x8, 0, 1, 0x1, 0x0, 0x0, 0x0, 0x0, 0x0⟩, -- CTRL
  ⟨0x40, 0, 1, 0x0, 0x0, 0x0, 0x0, 0x0, 0x0⟩, -- CMD
  ⟨0x44, 0, 1, 0x0, 0x0, 0x0, 0x0, 0x0, 0x0⟩, -- CMD_STAT
  ⟨0x48, 0, 1, 0x0, 0x0, 0x0, 0x0, 0x0, 0x0⟩, -- TRIG0
  ⟨0x4C, 0, 1, 0x0, 0x0, 0x0, 0x0, 0x0, 0x0⟩, -- TRIG1
  ⟨0x50, 0, 1, 0x0, 0x0, 0x0, 0x0, 0x0, 0x0⟩, -- EVT_HOOP
  ⟨0x54, 0, 1, 0x0, 0x0, 0x0, 0x0, 0x0, 0x0⟩, -- ARMED0
  ⟨0x58, 0, 1, 0x0, 0x0, 0x0, 0x0, 0x0, 0x0⟩] -- ARMED1

/-- Register words of the page `MAP`. -/
def rowsMap : List RegRow := [
  ⟨0x8, 0, 1, 0x1, 0x0, 0x0, 0x0, 0x0, 0x0⟩, -- CTRL
  ⟨0x40, 0, 1, 0xFFFFFFC0, 0x0, 0x0, 0x0, 0x0, 0x0⟩, -- BASE_LO
  ⟨0x44, 0, 1, 0xFFFF, 0x0, 0x0, 0x0, 0x0, 0x0⟩, -- BASE_HI
  ⟨0x48, 0, 1, 0xFFFFFFFF, 0x0, 0x0, 0x0, 0x0, 0x0⟩, -- ENTRIES
  ⟨0x4C, 0, 1, 0x0, 0x0, 0x0, 0x0, 0x0, 0x0⟩, -- CMD
  ⟨0x50, 0, 1, 0x0, 0x0, 0x0, 0x0, 0x0, 0x0⟩, -- STAT
  ⟨0x54, 0, 1, 0x0, 0x0, 0x0, 0x0, 0x0, 0x0⟩, -- LOOKUP_TILE
  ⟨0x58, 0, 1, 0x0, 0x0, 0x0, 0x0, 0xFFFFFFFF, 0x0⟩, -- LOOKUP_RES
  ⟨0x5C, 0, 1, 0x7FFFFFFF, 0x0, 0x0, 0x0, 0x0, 0x0⟩, -- SET_TILE
  ⟨0x60, 0, 1, 0x0, 0x0, 0x0, 0x0, 0x0, 0x0⟩, -- SET_ADDR
  ⟨0x64, 0, 1, 0xFFFFFFFF, 0x0, 0x0, 0x0, 0x0, 0x0⟩, -- HIT_CNT
  ⟨0x68, 0, 1, 0xFFFFFFFF, 0x0, 0x0, 0x0, 0x0, 0x0⟩, -- MISS_CNT
  ⟨0x6C, 0, 1, 0xFFFFFFFF, 0x0, 0x0, 0x0, 0x0, 0x0⟩, -- WB_CNT
  ⟨0x70, 0, 1, 0x0, 0x0, 0x0, 0x0, 0x0, 0x0⟩] -- LOST_TILE

/-- Register words of the page `SPOOL`. -/
def rowsSpool : List RegRow := [
  ⟨0x8, 0, 1, 0x1, 0x0, 0x0, 0x0, 0x0, 0x0⟩, -- CTRL
  ⟨0x40, 0, 1, 0x3FF, 0x0, 0x0, 0x0, 0x392, 0x0⟩, -- BW
  ⟨0x100, 32, 12, 0xFFFFF000, 0x0, 0x0, 0x0, 0x0, 0x0⟩, -- MID_BASE_LO
  ⟨0x104, 32, 12, 0xFFFF, 0x0, 0x0, 0x0, 0x0, 0x0⟩, -- MID_BASE_HI
  ⟨0x108, 32, 12, 0x1FFFFF, 0x0, 0x0, 0x0, 0x0, 0x0⟩, -- MID_BLOCKS
  ⟨0x10C, 32, 12, 0x0, 0x0, 0x0, 0x0, 0x0, 0x0⟩, -- DEPTH_ON
  ⟨0x110, 32, 12, 0x0, 0x0, 0x0, 0x0, 0x0, 0x0⟩, -- MID_USED
  ⟨0x114, 32, 12, 0x1FFFFF, 0x0, 0x0, 0x0, 0x0, 0x0⟩, -- MID_MAX
  ⟨0x118, 32, 12, 0xFFFFFFFF, 0x0, 0x0, 0x0, 0x0, 0x0⟩] -- SPILL_CNT

/-- Register words of the page `LACE`. -/
def rowsLace : List RegRow := [
  ⟨0x8, 0, 1, 0x101, 0x0, 0x0, 0x0, 0x0, 0x0⟩, -- CTRL
  ⟨0x40, 16, 8, 0xFF0701, 0x0, 0x0, 0x0, 0x0, 0x0⟩, -- PROF0
  ⟨0x44, 16, 8, 0xFFFFFFFF, 0x0, 0x0, 0x0, 0x0, 0x0⟩, -- PROF1
  ⟨0x48, 16, 8, 0xFFFF, 0x0, 0x0, 0x0, 0x0, 0x0⟩, -- PROF2
  ⟨0x4C, 16, 8, 0xFFFF, 0x0, 0x0, 0x0, 0x0, 0x0⟩, -- PROF3
  ⟨0xC0, 0, 1, 0xFFFFFFFF, 0x0, 0x0, 0x0, 0x0, 0x0⟩, -- STRIPE_NEXT
  ⟨0xC4, 0, 1, 0xFFFFFC00, 0x0, 0x0, 0x0, 0x0, 0x0⟩, -- REC_BASE_LO
  ⟨0xC8, 0, 1, 0xFFFF, 0x0, 0x0, 0x0, 0x0, 0x0⟩, -- REC_BASE_HI
  ⟨0xCC, 0, 1, 0xFFFFFF, 0x0, 0x0, 0x0, 0x0, 0x0⟩, -- REC_COUNT
  ⟨0xD0, 0, 1, 0x0, 0x0, 0x0, 0x0, 0x0, 0x0⟩, -- OPEN
  ⟨0xD4, 0, 1, 0x0, 0x0, 0x0, 0xFF, 0x0, 0x0⟩, -- CLOSE
  ⟨0xD8, 0, 1, 0x0, 0x0, 0x0, 0x0, 0x8, 0x0⟩] -- SETS_FREE

/-- Register words of the page `DEC`. -/
def rowsDec : List RegRow := [
  ⟨0x8, 0, 1, 0x1F01, 0x0, 0x0, 0x0, 0xE00, 0x0⟩, -- CTRL
  ⟨0x40, 0, 1, 0x7F0F00, 0x0, 0x0, 0x0, 0x140100, 0x0⟩, -- CFG
  ⟨0x44, 0, 1, 0xFFFFF, 0x0, 0x0, 0x0, 0x62081, 0x0⟩, -- LLR_MAP
  ⟨0x48, 0, 1, 0x0, 0x0, 0x0, 0x0, 0x0, 0x0⟩, -- PLACE_FREE
  ⟨0x4C, 0, 1, 0x0, 0x0, 0x0, 0x0, 0x0, 0x0⟩, -- ENG_BUSY
  ⟨0x50, 0, 1, 0x0, 0x0, 0x0, 0x0, 0x0, 0x0⟩, -- QDEPTH
  ⟨0x54, 0, 1, 0xFFFFFFFF, 0x0, 0x0, 0x0, 0x0, 0x0⟩, -- CW_PASS
  ⟨0x58, 0, 1, 0xFFFFFFFF, 0x0, 0x0, 0x0, 0x0, 0x0⟩, -- CW_FAIL
  ⟨0x5C, 0, 1, 0xFFFFFFFF, 0x0, 0x0, 0x0, 0x0, 0x0⟩, -- ITER_SUM
  ⟨0x60, 0, 1, 0x7F, 0x0, 0x0, 0x0, 0x0, 0x0⟩, -- ITER_MAX
  ⟨0x80, 0, 1, 0xFFFFFFFF, 0x0, 0x0, 0x0, 0x3E82408, 0x0⟩, -- SHADOW_CFG
  ⟨0x84, 0, 1, 0xFFFF, 0x0, 0x0, 0x0, 0x30B0, 0x0⟩, -- REF_LIM
  ⟨0x88, 0, 1, 0xFFFFFF, 0x0, 0x0, 0x0, 0x0, 0x0⟩, -- REF_FEAT
  ⟨0x8C, 0, 1, 0x3FFF, 0x0, 0x0, 0x0, 0x2464, 0x0⟩, -- LVL_PAGE
  ⟨0x90, 0, 1, 0xFFFF, 0x0, 0x0, 0x0, 0xFAFA, 0x0⟩, -- SHIFT[1]
  ⟨0x94, 0, 1, 0xFFFF, 0x0, 0x0, 0x0, 0x606, 0x0⟩, -- SHIFT[2]
  ⟨0x98, 0, 1, 0xFFFF, 0x0, 0x0, 0x0, 0xF4F4, 0x0⟩, -- SHIFT[3]
  ⟨0x9C, 0, 1, 0xFFFF, 0x0, 0x0, 0x0, 0xC0C, 0x0⟩, -- SHIFT[4]
  ⟨0xA0, 0, 1, 0xFFFF, 0x0, 0x0, 0x0, 0xECEC, 0x0⟩, -- SHIFT[5]
  ⟨0xA4, 0, 1, 0xFFFF, 0x0, 0x0, 0x0, 0x1414, 0x0⟩, -- SHIFT[6]
  ⟨0xA8, 0, 1, 0xFFFFFFFF, 0x0, 0x0, 0x0, 0x40210803, 0x0⟩, -- LADDER
  ⟨0xAC, 0, 1, 0xFF00, 0x0, 0x0, 0x0, 0x4700, 0x0⟩, -- LADDER2
  ⟨0xB0, 0, 1, 0x1FFF, 0x0, 0x0, 0x0, 0x40, 0x0⟩, -- ERASED_MAX
  ⟨0xB4, 0, 1, 0x3FF, 0x0, 0x0, 0x0, 0x0, 0x0⟩, -- REF_IDX
  ⟨0xB8, 0, 1, 0xFFFFFFFF, 0x0, 0x0, 0x0, 0x0, 0x0⟩, -- REF_VAL0
  ⟨0xBC, 0, 1, 0xFFFFFFFF, 0x0, 0x0, 0x0, 0x0, 0x0⟩, -- REF_VAL1
  ⟨0xC0, 0, 1, 0xFFFFFFFF, 0x0, 0x0, 0x0, 0x0, 0x0⟩, -- SMP_SLC
  ⟨0xC4, 0, 1, 0xFFFFFFFF, 0x0, 0x0, 0x0, 0x0, 0x0⟩, -- SMP_TLC
  ⟨0xC8, 0, 1, 0xFFFFFF0F, 0x0, 0x0, 0x0, 0x7D00804, 0x0⟩, -- RECON
  ⟨0xCC, 0, 1, 0x0, 0x0, 0x0, 0x0, 0x0, 0x0⟩, -- LADDER_LOG
  ⟨0xD0, 0, 1, 0xFFFFFFFF, 0x0, 0x0, 0x0, 0x0, 0x0⟩, -- RECON_CNT
  ⟨0xD4, 0, 1, 0xFFFFFFFF, 0x0, 0x0, 0x0, 0x0, 0x0⟩, -- UNCORR_CNT
  ⟨0xD8, 0, 1, 0x7FFFFFFF, 0x0, 0x0, 0x0, 0x0, 0x0⟩, -- PATROL_LO
  ⟨0xDC, 0, 1, 0x7FFFFFFF, 0x0, 0x0, 0x0, 0x0, 0x0⟩, -- PATROL_HI
  ⟨0xE0, 0, 1, 0x7FFFFFFF, 0x0, 0x0, 0x0, 0x0, 0x0⟩, -- PATROL_NEXT
  ⟨0xE4, 0, 1, 0x7F, 0x0, 0x0, 0x0, 0xC, 0x0⟩, -- PATROL_WARN
  ⟨0xE8, 0, 1, 0x0, 0x0, 0x0, 0x0, 0x0, 0x0⟩, -- PATROL_LAST
  ⟨0xF0, 0, 1, 0x3F3F000F, 0x0, 0x0, 0x0, 0x8000000, 0x0⟩, -- ALM_CH
  ⟨0xF4, 0, 1, 0x7FF07FF, 0x0, 0x0, 0x0, 0x10000, 0x0⟩, -- ALM_BLK
  ⟨0xF8, 0, 1, 0xFFFFFFC0, 0x0, 0x0, 0x0, 0x0, 0x0⟩, -- ALM_BUF_LO
  ⟨0xFC, 0, 1, 0xFFFF, 0x0, 0x0, 0x0, 0x0, 0x0⟩, -- ALM_BUF_HI
  ⟨0x100, 0, 1, 0x0, 0x0, 0x0, 0x0, 0x0, 0x0⟩, -- ALM_CMD
  ⟨0x104, 0, 1, 0x0, 0x0, 0x0, 0x0, 0x0, 0x0⟩, -- ALM_STAT
  ⟨0x108, 0, 1, 0x0, 0x0, 0x0, 0x0, 0x0, 0x0⟩, -- ALM_SEQ
  ⟨0x10C, 0, 1, 0x0, 0x0, 0x0, 0x0, 0x0, 0x0⟩] -- ALM_PAGE

/-- Register words of the page `ANGLE`. -/
def rowsAngle : List RegRow := [
  ⟨0x8, 0, 1, 0x301, 0x0, 0x0, 0x0, 0x200, 0x0⟩, -- CTRL
  ⟨0xC, 0, 1, 0x0, 0x0, 0x0, 0x0, 0x0, 0x0⟩, -- STATUS
  ⟨0x40, 0, 1, 0xFFFFFFFF, 0x0, 0x0, 0x0, 0x0, 0x0⟩, -- VSTEP
  ⟨0x44, 0, 1, 0x7F0FFF, 0x0, 0x0, 0x0, 0x10100, 0x0⟩, -- GEOM
  ⟨0x48, 0, 1, 0xFFFF0FFF, 0x0, 0x0, 0x0, 0x40140342, 0x0⟩, -- TRACK
  ⟨0x4C, 0, 1, 0xFFFF000F, 0x0, 0x0, 0x0, 0x640006, 0x0⟩, -- FUSE
  ⟨0x50, 4, 16, 0xFFFFFFFF, 0x0, 0x0, 0x0, 0x0, 0x0⟩, -- FACET_OFS
  ⟨0x90, 0, 1, 0x0, 0x0, 0x0, 0x0, 0x0, 0x0⟩, -- POS
  ⟨0x94, 0, 1, 0x0, 0x0, 0x0, 0x0, 0x0, 0x0⟩, -- RATE
  ⟨0x98, 0, 1, 0x0, 0x0, 0x0, 0x0, 0x0, 0x0⟩, -- REV_CYC
  ⟨0x9C, 0, 1, 0x0, 0x0, 0x0, 0x0, 0x0, 0x0⟩, -- LAST_ERR
  ⟨0xA0, 0, 1, 0xFFFFFFFF, 0x0, 0x0, 0x0, 0x0, 0x0⟩, -- ACC_CNT
  ⟨0xA4, 0, 1, 0xFFFFFFFF, 0x0, 0x0, 0x0, 0x0, 0x0⟩, -- MISS_CNT
  ⟨0xA8, 0, 1, 0xFFFFFFFF, 0x0, 0x0, 0x0, 0x0, 0x0⟩, -- SPUR_CNT
  ⟨0xAC, 0, 1, 0xFFFF, 0x0, 0x0, 0x0, 0x0, 0x0⟩] -- SLIP_CNT

/-- Register words of the page `ROTOR`. -/
def rowsRotor : List RegRow := [
  ⟨0x8, 0, 1, 0x701, 0x0, 0x0, 0x0, 0x100, 0x0⟩, -- CTRL
  ⟨0xC, 0, 1, 0x0, 0x0, 0x0, 0x0, 0x0, 0x8F⟩, -- STATUS
  ⟨0x40, 0, 1, 0x0, 0x0, 0x0, 0x0, 0x0, 0x0⟩, -- CMD
  ⟨0x44, 0, 1, 0x0, 0x0, 0x0, 0x0, 0x0, 0x0⟩, -- CMD_STAT
  ⟨0x48, 0, 1, 0x80FFFFFF, 0x0, 0x0, 0x0, 0x0, 0x0⟩, -- SPD_CMD
  ⟨0x4C, 0, 1, 0xFFFF0707, 0x0, 0x0, 0x0, 0x640000, 0x0⟩, -- CMD_SRC
  ⟨0x50, 0, 1, 0xFFFFFF, 0x0, 0x0, 0x0, 0x0, 0x0⟩, -- CMD_SCALE
  ⟨0x54, 0, 1, 0xFFFFFF, 0x0, 0x0, 0x0, 0x0, 0x0⟩, -- SPD_LIM
  ⟨0x58, 0, 1, 0xFFFFFFFF, 0x0, 0x0, 0x0, 0x640064, 0x0⟩, -- RAMP
  ⟨0x5C, 0, 1, 0xF, 0x0, 0x0, 0x0, 0x1, 0x0⟩, -- MOTOR
  ⟨0x60, 0, 1, 0xFFFF, 0x0, 0x0, 0x0, 0x0, 0x0⟩, -- MOT_RES
  ⟨0x64, 0, 1, 0xFFFF, 0x0, 0x0, 0x0, 0x0, 0x0⟩, -- MOT_IND
  ⟨0x68, 0, 1, 0xFFFF, 0x0, 0x0, 0x0, 0x0, 0x0⟩, -- PSI_NOM
  ⟨0x6C, 0, 1, 0xFFFF0FFF, 0x0, 0x0, 0x0, 0x800, 0x0⟩, -- ISH_CAL
  ⟨0x70, 0, 1, 0xFFFF0FFF, 0x0, 0x0, 0x0, 0x0, 0x0⟩, -- VDC_CAL
  ⟨0x74, 0, 1, 0xFFF, 0x0, 0x0, 0x0, 0x0, 0x0⟩, -- ACMD_CAL
  ⟨0x78, 0, 1, 0x3FF, 0x0, 0x0, 0x0, 0x0, 0x0⟩, -- ADC_LAT
  ⟨0x7C, 0, 1, 0x3FF, 0x0, 0x0, 0x0, 0x40, 0x0⟩, -- DEADTIME
  ⟨0x80, 0, 1, 0xFFFF, 0x0, 0x0, 0x0, 0xAAE6, 0x0⟩, -- STEP_PWM
  ⟨0x84, 0, 1, 0xFFFFFFFF, 0x0, 0x0, 0x0, 0x0, 0x0⟩, -- STEP_PI
  ⟨0x88, 0, 1, 0xFFFF00FF, 0x0, 0x0, 0x0, 0x6D6000F, 0x0⟩, -- BLANK
  ⟨0x8C, 0, 1, 0xFFFFFFFF, 0x0, 0x0, 0x0, 0x1430C10, 0x0⟩, -- ZC
  ⟨0x90, 0, 1, 0xFFFF, 0x0, 0x0, 0x0, 0x0, 0x0⟩, -- I_LIM
  ⟨0x94, 0, 1, 0xFFFFFFFF, 0x0, 0x0, 0x0, 0x321000, 0x0⟩, -- ALIGN
  ⟨0x98, 0, 1, 0xFFFFFFFF, 0x0, 0x0, 0x0, 0xC8000A, 0x0⟩, -- RAMP_F
  ⟨0x9C, 0, 1, 0xFFFFFFFF, 0x0, 0x0, 0x0, 0x200001F4, 0x0⟩, -- RAMP_T
  ⟨0xA0, 0, 1, 0xFFFF, 0x0, 0x0, 0x0, 0x3E8, 0x0⟩, -- ADV_STEP
  ⟨0xA4, 0, 1, 0xFFFFFFFF, 0x0, 0x0, 0x0, 0xC80096, 0x0⟩, -- FLUX_SPD
  ⟨0xA8, 0, 1, 0x3FFF, 0x0, 0x0, 0x0, 0x6D6, 0x0⟩, -- DEC_PERIOD
  ⟨0xAC, 0, 1, 0xFFFFFFFF, 0x0, 0x0, 0x0, 0x320032, 0x0⟩, -- BANDS
  ⟨0xB0, 0, 1, 0xFFFFFFFF, 0x0, 0x0, 0x0, 0x0, 0x0⟩, -- TQ_LIM
  ⟨0xB4, 0, 1, 0xFFFFFFFF, 0x0, 0x0, 0x0, 0x0, 0x0⟩, -- SPD_PI
  ⟨0xB8, 0, 1, 0xFFFFFFFF, 0x0, 0x0, 0x0, 0x7D00014, 0x0⟩, -- OBS
  ⟨0xBC, 0, 1, 0xFFFFFFFF, 0x0, 0x0, 0x0, 0x40080118, 0x0⟩, -- PROBE
  ⟨0xC0, 0, 1, 0xFF, 0x0, 0x0, 0x0, 0x20, 0x0⟩, -- PROBE2
  ⟨0xC4, 0, 1, 0xFFFFFFFF, 0x0, 0x0, 0x0, 0x0, 0x0⟩, -- OV
  ⟨0xC8, 0, 1, 0xFFFFFFFF, 0x0, 0x0, 0x0, 0x0, 0x0⟩, -- CHOP_V
  ⟨0xCC, 0, 1, 0xFFFFFFFF, 0x0, 0x0, 0x0, 0x3200AF, 0x0⟩, -- CHOP_T
  ⟨0xD0, 0, 1, 0xFFFFFFFF, 0x0, 0x0, 0x0, 0x640000, 0x0⟩, -- UV
  ⟨0xD4, 0, 1, 0xFFFFFF, 0x0, 0x0, 0x0, 0x186A0, 0x0⟩, -- ASC_MIN
  ⟨0xD8, 0, 1, 0xFFFFFFFF, 0x0, 0x0, 0x0, 0xFFFF2710, 0x0⟩, -- ASC_CFG
  ⟨0xDC, 0, 1, 0xFFFF, 0x0, 0x0, 0x0, 0x64, 0x0⟩, -- OC_HOLD
  ⟨0xE0, 0, 1, 0xFFFFFF, 0x0, 0x0, 0x0, 0x186A0, 0x0⟩, -- ACC_LIM
  ⟨0xE4, 0, 1, 0xFF, 0x0, 0x0, 0x0, 0x8, 0x0⟩, -- SYNC
  ⟨0xE8, 0, 1, 0xFFFFFF, 0x0, 0x0, 0x0, 0x7D0, 0x0⟩, -- REV_THRESH
  ⟨0xEC, 0, 1, 0xFFFF00FF, 0x0, 0x0, 0x0, 0x140040, 0x0⟩, -- RECATCH
  ⟨0xF0, 0, 1, 0xFFFF, 0x0, 0x0, 0x0, 0x0, 0x0⟩, -- ELEC_OFS
  ⟨0xF4, 0, 1, 0xFFFFFFFF, 0x0, 0x0, 0x0, 0x0, 0x0⟩, -- HU_V
  ⟨0xF8, 0, 1, 0xFFFFFF, 0x0, 0x0, 0x0, 0xC350, 0x0⟩, -- HU_MIN_SPD
  ⟨0xFC, 0, 1, 0xFFFFFFFF, 0x0, 0x0, 0x0, 0x0, 0x0⟩, -- HU_PI
  ⟨0x100, 0, 1, 0x0, 0x0, 0x0, 0x0, 0x0, 0x0⟩, -- SPEED
  ⟨0x104, 0, 1, 0x0, 0x0, 0x0, 0x0, 0x0, 0x0⟩, -- ANGLE
  ⟨0x108, 0, 1, 0x0, 0x0, 0x0, 0x0, 0x0, 0x0⟩, -- FLUX
  ⟨0x10C, 0, 1, 0x0, 0x0, 0x0, 0x0, 0x0, 0x0⟩, -- IPH
  ⟨0x110, 0, 1, 0x0, 0x0, 0x0, 0x0, 0x0, 0x0⟩, -- VDC
  ⟨0x114, 0, 1, 0xFFFFFFFF, 0x0, 0x0, 0x0, 0x0, 0x0⟩, -- PROBE_CNT
  ⟨0x118, 0, 1, 0xFFFFFFFF, 0x0, 0x0, 0x0, 0x0, 0x0⟩, -- TRIP_CNT
  ⟨0x200, 4, 32, 0xFF, 0x0, 0x0, 0x0, 0x0, 0x0⟩] -- ADV

/-- Register words of the page `XLINK`. -/
def rowsXlink : List RegRow := [
  ⟨0x8, 0, 1, 0x1, 0x0, 0x0, 0x200, 0x0, 0x0⟩, -- CTRL
  ⟨0xC, 0, 1, 0x0, 0x0, 0x0, 0x0, 0x0, 0x0⟩, -- STATUS
  ⟨0x40, 0, 1, 0x300, 0x30C0000, 0x0, 0x0, 0x0, 0x0⟩, -- CFG
  ⟨0x44, 0, 1, 0xFFFFFFFF, 0x0, 0x0, 0x0, 0x64445C, 0x0⟩, -- SYNC
  ⟨0x48, 0, 1, 0xFFFF, 0x0, 0x0, 0x0, 0x0, 0x0⟩, -- HOP_LAT
  ⟨0x4C, 0, 1, 0x0, 0x0, 0x0, 0x0, 0x0, 0x0⟩, -- RTT
  ⟨0x50, 0, 1, 0xFFFF000F, 0x0, 0x0, 0x0, 0x640004, 0x0⟩, -- RTO
  ⟨0x54, 0, 1, 0xFFFF, 0x0, 0x0, 0x0, 0x64, 0x0⟩, -- HB
  ⟨0x58, 0, 1, 0x0, 0x0, 0x0, 0x0, 0x0, 0x0⟩, -- TIME_OFS_LO
  ⟨0x5C, 0, 1, 0x0, 0x0, 0x0, 0x0, 0x0, 0x0⟩, -- TIME_OFS_HI
  ⟨0x60, 0, 1, 0xFFFFFFFF, 0x0, 0x0, 0x0, 0x0, 0x0⟩, -- ERR_CNT
  ⟨0x64, 0, 1, 0xFFFFFFFF, 0x0, 0x0, 0x0, 0x0, 0x0⟩, -- RESEND_CNT
  ⟨0x80, 4, 8, 0xFFFFFFFF, 0x0, 0x0, 0x0, 0x0, 0x0⟩] -- PSHARE

/-- Register words of the page `REFL`. -/
def rowsRefl : List RegRow := [
  ⟨0x8, 0, 1, 0x1, 0x0, 0x0, 0x200, 0x0, 0x0⟩, -- CTRL
  ⟨0xC, 0, 1, 0x0, 0x0, 0x0, 0x0, 0x0, 0x0⟩, -- STATUS
  ⟨0x40, 0, 1, 0x0, 0xF, 0x0, 0x0, 0xE, 0x0⟩, -- CFG
  ⟨0x44, 0, 1, 0x3FF, 0x0, 0x0, 0x0, 0x40, 0x0⟩, -- OWN_SETTLE
  ⟨0x48, 0, 1, 0xFFFFFFFF, 0x0, 0x0, 0x0, 0x0, 0x0⟩, -- CLAIM_LO
  ⟨0x4C, 0, 1, 0xFFFF, 0x0, 0x0, 0x0, 0x0, 0x0⟩, -- CLAIM_HI
  ⟨0x50, 0, 1, 0x0, 0x0, 0x0, 0x0, 0x0, 0x0⟩, -- OWNED_LO
  ⟨0x54, 0, 1, 0x0, 0x0, 0x0, 0x0, 0x0, 0x0⟩, -- OWNED_HI
  ⟨0x58, 0, 1, 0xFFFF000F, 0x0, 0x0, 0x0, 0x640005, 0x0⟩, -- HB
  ⟨0x5C, 0, 1, 0xFFFF000F, 0x0, 0x0, 0x0, 0x640004, 0x0⟩, -- RTO
  ⟨0x60, 0, 1, 0xFFFF, 0x0, 0x0, 0x0, 0x2710, 0x0⟩, -- TKO_TO
  ⟨0x64, 0, 1, 0x0, 0x0, 0x0, 0x0, 0x0, 0x0⟩, -- TKO_TIME
  ⟨0x68, 0, 1, 0x0, 0x0, 0x0, 0x0, 0x0, 0x0⟩, -- CMD
  ⟨0x6C, 0, 1, 0xFFFFFFFF, 0x0, 0x0, 0x0, 0x0, 0x0⟩] -- ERR_CNT

/-- Register words of the page `CAL`. -/
def rowsCal : List RegRow := [
  ⟨0x8, 0, 1, 0x1, 0x0, 0x0, 0x0, 0x0, 0x0⟩, -- CTRL
  ⟨0xC, 0, 1, 0x0, 0x0, 0x0, 0x0, 0x0, 0x0⟩, -- STATUS
  ⟨0x40, 0, 1, 0xFFF, 0x0, 0x0, 0x0, 0x0, 0x0⟩, -- ADDR
  ⟨0x44, 0, 1, 0xFFFFFFFF, 0x0, 0x0, 0x0, 0x0, 0x0⟩, -- DATA
  ⟨0x48, 0, 1, 0xFFFF, 0x0, 0x0, 0x0, 0x0, 0x0⟩, -- FIXED
  ⟨0x4C, 0, 1, 0x1FFF, 0x0, 0x0, 0x0, 0xB80, 0x0⟩, -- LOCK_MASK
  ⟨0x50, 0, 1, 0xFFFF, 0x0, 0x0, 0x0, 0x0, 0x0⟩, -- PHASE
  ⟨0x54, 0, 1, 0xFFFFFFFF, 0x0, 0x0, 0x0, 0x0, 0x0⟩, -- UMBRA_FLITS
  ⟨0x58, 0, 1, 0xFFFFFFFF, 0x0, 0x0, 0x0, 0x0, 0x0⟩, -- MARK_CNT
  ⟨0x5C, 0, 1, 0xFFFFFFFF, 0x0, 0x0, 0x0, 0x0, 0x0⟩] -- SKIP_CNT

/-- Register words of the page `LANE`. -/
def rowsLane : List RegRow := [
  ⟨0x8, 0, 1, 0x1, 0x0, 0x0, 0x0, 0x0, 0x0⟩, -- CTRL
  ⟨0xC, 0, 1, 0x0, 0x0, 0x0, 0x0, 0x0, 0x0⟩, -- STATUS
  ⟨0x40, 0, 1, 0x7F, 0x0, 0x0, 0x0, 0x20, 0x0⟩, -- CFG
  ⟨0x44, 0, 1, 0x0, 0x0, 0x0, 0x0, 0x0, 0x0⟩, -- CMD
  ⟨0x48, 0, 1, 0xFFFFFFFF, 0x0, 0x0, 0x0, 0x0, 0x0⟩, -- TILE_CNT
  ⟨0x4C, 0, 1, 0xFFFFFFFF, 0x0, 0x0, 0x0, 0x0, 0x0⟩, -- REJ_CNT
  ⟨0x50, 0, 1, 0xFFFFFFFF, 0x0, 0x0, 0x0, 0x0, 0x0⟩, -- DISC_CNT
  ⟨0x54, 0, 1, 0xFFFFFFFF, 0x0, 0x0, 0x0, 0x0, 0x0⟩, -- TRUNC_CNT
  ⟨0x58, 0, 1, 0xFFFFFFFF, 0x0, 0x0, 0x0, 0x0, 0x0⟩, -- VANISH_CNT
  ⟨0x5C, 0, 1, 0xFFFFFFFF, 0x0, 0x0, 0x0, 0x0, 0x0⟩, -- BP_CYC
  ⟨0x60, 0, 1, 0x0, 0x0, 0x0, 0x0, 0x0, 0x0⟩] -- REJ_INFO

/-- Register words of the page `CH`. -/
def rowsCh : List RegRow := [
  ⟨0x8, 0, 1, 0xF01, 0x0, 0x0, 0x0, 0x400, 0x0⟩, -- CTRL
  ⟨0xC, 0, 1, 0x0, 0x0, 0x0, 0x0, 0x0, 0x0⟩, -- STATUS
  ⟨0x40, 0, 1, 0xFFFF1F03, 0x0, 0x0, 0x0, 0x7D00802, 0x0⟩, -- QCFG
  ⟨0x44, 0, 1, 0xFFCFFFFF, 0x0, 0x0, 0x0, 0x14048190, 0x0⟩, -- ERS_CFG
  ⟨0x48, 0, 1, 0x7FFFFFF, 0x0, 0x0, 0x0, 0x0, 0x0⟩, -- PFX
  ⟨0x4C, 0, 1, 0xFFFF, 0x0, 0x0, 0x0, 0xDAC, 0x0⟩, -- TLC_BUSY
  ⟨0x50, 0, 1, 0xF, 0x0, 0x0, 0x0, 0x0, 0x0⟩, -- SEAL_CFG
  ⟨0x54, 0, 1, 0x1FF, 0x0, 0x0, 0x0, 0x0, 0x0⟩, -- CHARTER
  ⟨0x58, 0, 1, 0xF, 0x0, 0x0, 0x0, 0x0, 0x0⟩, -- DIE_SEL
  ⟨0x5C, 0, 1, 0x0, 0x0, 0x0, 0x0, 0xFF, 0x0⟩, -- DIE_Q
  ⟨0x60, 0, 1, 0x0, 0x0, 0x0, 0x0, 0x0, 0x0⟩, -- ERS_RUN
  ⟨0x64, 0, 1, 0xFFFFFFFF, 0x0, 0x0, 0x0, 0x0, 0x0⟩, -- REFUSE_CNT
  ⟨0x68, 0, 1, 0x0, 0x0, 0x0, 0x0, 0x0, 0x0⟩, -- REFUSE_ADDR
  ⟨0x6C, 0, 1, 0x0, 0x0, 0x0, 0x0, 0x0, 0x0⟩, -- REFUSE_INFO
  ⟨0x70, 0, 1, 0x0, 0x0, 0x0, 0x0, 0x0, 0x0⟩, -- BB_MARK
  ⟨0x74, 0, 1, 0x0, 0x0, 0x0, 0x0, 0xFFFFFFFF, 0xFFFFFFFF⟩, -- BB_LAST
  ⟨0x78, 0, 1, 0x0, 0x0, 0x0, 0x0, 0x0, 0xFFFFFFFF⟩, -- BB_CNT
  ⟨0x80, 0, 1, 0xFFFFFFC0, 0x0, 0x0, 0x0, 0x0, 0x0⟩, -- GDT_LO
  ⟨0x84, 0, 1, 0xFFFF, 0x0, 0x0, 0x0, 0x0, 0x0⟩, -- GDT_HI
  ⟨0x88, 0, 1, 0x0, 0x0, 0x0, 0x0, 0x0, 0x0⟩, -- GDT_CMD
  ⟨0x8C, 0, 1, 0x0, 0x0, 0x0, 0x0, 0x0, 0x0⟩, -- GDT_STAT
  ⟨0x90, 0, 1, 0x0, 0x0, 0x0, 0x0, 0x220, 0x0⟩, -- SLOTS
  ⟨0x100, 0, 1, 0xFFFFC7, 0x0, 0x0, 0x0, 0x456302, 0x0⟩, -- PHY_CTRL
  ⟨0x104, 0, 1, 0x0, 0x0, 0x0, 0x0, 0x0, 0x0⟩, -- PHY_CMD
  ⟨0x108, 0, 1, 0x0, 0x0, 0x0, 0x0, 0x0, 0x0⟩, -- PHY_STAT
  ⟨0x10C, 0, 1, 0xF, 0x0, 0x0, 0x0, 0xFF, 0x0⟩, -- LANE_MAP
  ⟨0x110, 0, 1, 0xFFFF, 0x0, 0x0, 0x0, 0x818, 0x0⟩, -- EYE_LIM
  ⟨0x114, 0, 1, 0x107, 0x0, 0x0, 0x0, 0x0, 0x0⟩, -- EYE_SEL
  ⟨0x118, 4, 3, 0x0, 0x0, 0x0, 0x0, 0x0, 0x0⟩, -- EYE
  ⟨0x124, 4, 3, 0xFFFFFFFF, 0x0, 0x0, 0x0, 0x0, 0x0⟩, -- TRIM
  ⟨0x130, 0, 1, 0xFFFFFFFF, 0x0, 0x0, 0x0, 0x0, 0x0⟩, -- TRACK
  ⟨0x140, 4, 4, 0xFFFFFFFF, 0x0, 0x0, 0x0, 0x0, 0x0⟩] -- XDESC

/-- Register words of the page `SEQG`. -/
def rowsSeqg : List RegRow := [
  ⟨0x8, 0, 1, 0x101, 0x0, 0x0, 0x200, 0x0, 0x0⟩, -- CTRL
  ⟨0xC, 0, 1, 0x0, 0x0, 0x0, 0x0, 0xFF00, 0x0⟩, -- STATUS
  ⟨0x40, 0, 1, 0x0, 0x0, 0x0, 0x0, 0x0, 0x0⟩, -- VERIFY
  ⟨0x44, 0, 1, 0x0, 0x0, 0x0, 0x0, 0x0, 0x0⟩, -- VEND_VER
  ⟨0x48, 0, 1, 0x0, 0x0, 0x0, 0x0, 0x0, 0x0⟩, -- CUST_VER
  ⟨0x4C, 0, 1, 0x0, 0x0, 0x0, 0x0, 0x0, 0x0⟩, -- CRC_CALC
  ⟨0x50, 0, 1, 0xFFFFFF, 0x0, 0x0, 0x0, 0x222E, 0x0⟩, -- HOLD_TO
  ⟨0x54, 0, 1, 0xFFFF, 0x0, 0x0, 0x0, 0x40, 0x0⟩, -- WDOG_LIM
  ⟨0x58, 0, 1, 0x0, 0x0, 0x0, 0x0, 0x0, 0x0⟩, -- BREAK
  ⟨0x5C, 0, 1, 0xFFFF, 0x0, 0x0, 0x0, 0x0, 0x0⟩, -- USER
  ⟨0x60, 0, 1, 0xFFF, 0x0, 0x0, 0x0, 0x40, 0x0⟩, -- SEAL_LAT_LIM
  ⟨0x64, 0, 1, 0x0, 0xFFFFFFFF, 0x0, 0x0, 0x60858180, 0x0⟩, -- GUARD_CMD
  ⟨0x80, 4, 8, 0xFFFFFFFF, 0x0, 0x0, 0x0, 0x0, 0x0⟩, -- HDR0
  ⟨0x400, 32, 8, 0x0, 0x0, 0x0, 0x0, 0x0, 0x0⟩] -- FRAME

end Sys2Proof.Machine
end

