-- ==== Sys2Proof/Config.lean ====
section
/-!
DEFINITION. The free values of the model: what the spec leaves open is a constant without a body, of which
nothing can be proved (assumption log entries 3, 5 and 16).
-/

namespace Sys2Proof.Config

/-- A value that the spec leaves open. Applied to the state's counter `free`, so that each use is a value of its own. -/
opaque freeWord : Nat → BitVec 64

/-- What an SRAM word holds before anything has written it since its domain was powered, or since a repair record took its row or column
(00_scope.md R24, 14_memory_integrity.md R415, R425): the power-up's number, the repair's number, then the word's key. A word of the
strong code has the lowest 39 bits. -/
opaque sramInit : Nat → Nat → Nat → BitVec 72

/-- Does the row or column that a repair record names hold the word of this key, in the generated block's macro map (R425; log entry 30)? -/
opaque fuseHits : BitVec 32 → Nat → Bool

/-- Do the macro, the spare and the line that a repair record names exist in the generated block's macro map
(14_memory_integrity.md R425, R426; log entry 30)? -/
opaque fuseLine : BitVec 32 → Bool

end Sys2Proof.Config
end

