-- ==== Sys2Proof/Machine/Units.lean ====
section
/-!
DEFINITION. What each unit of the block holds beside its register words, as plain data.
A default value of a field is its value after reset; where the spec gives none, assumption log entry 13 names it.
-/

namespace Sys2Proof.Machine

/-! ## The instance, the resets and the ports -/

/-- The generation parameters (00_scope.md R5); the core clock in MHz (02_ports.md R73). Log entry 11. -/
structure Gen where
  /-- flash channels -/
  nch : Nat := 48
  /-- two LUNs per chip enable -/
  lun2 : Bool := true
  /-- ingest lanes -/
  nlane : Nat := 12
  /-- decoder engines -/
  ndec : Nat := 24
  /-- rotor drive present -/
  rotor : Bool := true
  /-- cascade port present -/
  xlink : Bool := true
  /-- reflect port present -/
  refl : Bool := true
  /-- BUILD field of UNIT_VER -/
  build : BitVec 16 := 0
  /-- core clock in MHz -/
  mhz : Nat := 1750
  deriving DecidableEq, Repr

/-- Which reset input is asserted (02_ports.md R77). -/
inductive RstPin where
  /-- neither -/
  | none
  /-- `PORST_N` low -/
  | cold
  /-- `WRST_N` low -/
  | warm
  deriving DecidableEq, Repr

/-- A control-port request that is held (02_ports.md R46, R50). -/
structure CpReq where
  /-- 1 = write -/
  we : Bool
  /-- byte address -/
  addr : BitVec 24
  /-- byte enables -/
  be : BitVec 4
  /-- write data -/
  data : Word
  deriving DecidableEq, Repr

/-- A customer-region write held by R142 of 04_sequencers.md. -/
structure HeldWrite where
  /-- control store -/
  grp : Nat
  /-- word address in the store -/
  word : Nat
  /-- byte enables -/
  be : BitVec 4
  /-- data -/
  data : Word
  deriving DecidableEq, Repr

/-- The control port and the resets (02_ports.md R46 to R50, R76 to R80). -/
structure CpS where
  /-- asserted reset input -/
  rst : RstPin := .none
  /-- the last assertion was a cold reset -/
  wasCold : Bool := true
  /-- the fuse stream is open (R76) -/
  fuseOpen : Bool := true
  /-- repair records transferred since the cold reset -/
  fuseCnt : Nat := 0
  /-- the control port is ready (R78) -/
  ready : Bool := false
  /-- request held while the port is not ready (R50) -/
  held : Option CpReq := .none
  /-- held customer-region write (R142) -/
  hold : Option HeldWrite := .none
  /-- `CP_RDATA` of the last read -/
  rdata : Word := 0
  /-- identity inputs: lot, wafer, die X, die Y (R75) -/
  idLot : Word := 0
  /-- wafer, die X, die Y inputs -/
  idDie : BitVec 24 := 0
  /-- strap XL_IDX (16 R450) -/
  xlIdx : BitVec 2 := 0
  /-- strap RF_PRIMARY (16 R450) -/
  rfPrimary : Bool := false
  /-- level of `FAULT_OUT` when a warm reset fell, kept (00 R22; 02 R84; log entry 32) -/
  fout : Bool := false
  deriving DecidableEq, Repr

/-- Synchronised levels of the asynchronous inputs (02_ports.md R72). -/
structure Pins where
  /-- `PF_WARN` -/
  pfWarn : Bool := false
  /-- `TRIG_IN` -/
  trigIn : Bool := false
  /-- core-cycle counter at the last rising edge of `TRIG_IN` (02 R70) -/
  trigAt : Option Nat := none
  /-- `GLINT` -/
  glint : Bool := false
  /-- `GLINT_KEY` -/
  glintKey : Bool := false
  /-- `ROT_CMD` -/
  rotCmd : Bool := false
  /-- `ROT_CHOP_FB` -/
  chopFb : Bool := false
  /-- `ROT_OC` -/
  rotOc : Bool := false
  /-- `ROT_ZC[2:0]` -/
  rotZc : BitVec 3 := 0
  /-- `EVT_OUT` lines with a pulse running (17 R479) -/
  pulse : BitVec 4 := 0
  deriving DecidableEq, Repr

/-- What a memory-port access is for (02_ports.md R485). -/
inductive MpUse where
  /-- map-cache fill or write-back of a line -/
  | mapLine (line : Nat)
  /-- entry `i` of the row table of a hoop -/
  | rowTable (hoop i : Nat)
  /-- record of a stripe, written -/
  | stripeRec (stripe : Nat)
  /-- record of a stripe, read for recovery request `id` -/
  | stripeRead (id stripe : Nat)
  /-- spool block of a lane -/
  | spool (lane : Nat) (block : Nat)
  /-- completion record of a ring, with the submission ring of a ring descriptor's record -/
  | record (ring : Nat) (sub : Option Nat)
  /-- entries of a ring, or the OWN clear of one -/
  | entry (ring : Nat)
  /-- write of a DMA channel: with its acceptance `k` steps are completed -/
  | dma (ch k : Nat)
  /-- read of a DMA channel: `n` bytes from position `pos` of its descriptor, for `dst` -/
  | dmaData (ch pos n dst : Nat)
  /-- read of a DMA channel: index table from byte `pos`, for the check of 10 R313 -/
  | dmaTable (ch pos : Nat)
  /-- read of a DMA channel: the index entry of element `j` -/
  | dmaIndex (ch j : Nat)
  /-- requester RB: a copy for a descriptor of a ring -/
  | copy (ring : Nat)
  /-- requester RB: the grown-defect table of a channel, from byte `pos` -/
  | gdt (ch pos : Nat)
  /-- requester RB: a buffer of the almanac or of the ledger recovery -/
  | rb
  /-- nobody: a reset has discarded the transfer (02_ports.md R79) -/
  | none
  deriving DecidableEq, Repr

/-- A request for a memory port that waits for its grant (01_architecture.md R40). -/
structure MpReq where
  /-- port, 0 or 1 -/
  port : Nat
  /-- class of R40: 0 map cache, 1 ring, 2 spill, 3 drain, 4 DMA -/
  cls : Nat
  /-- a read: tag class and lines -/
  read : Option (Nat × Nat)
  /-- byte address -/
  addr : Nat
  /-- bytes of a write -/
  data : List Byte
  /-- its transfer -/
  use : MpUse
  deriving DecidableEq, Repr

/-- A read outstanding on a memory port (02_ports.md R52, R53). -/
structure MpRead where
  /-- port, 0 or 1 -/
  port : Nat
  /-- tag class -/
  cls : Nat
  /-- sequence number -/
  seq : Nat
  /-- byte address of the first line -/
  addr : Nat
  /-- lines -/
  lines : Nat
  /-- its transfer -/
  use : MpUse
  /-- beats returned -/
  beat : Nat := 0
  /-- bytes of the beats returned; zeros for a beat with `RD_ERR` -/
  data : List Byte := []
  /-- the beats that came with `RD_ERR` -/
  bad : List Nat := []
  deriving DecidableEq, Repr

/-- A write burst presented on a memory port and not yet wholly accepted (02_ports.md R51, 10 R303). -/
structure MpWrite where
  /-- port, 0 or 1 -/
  port : Nat
  /-- byte address -/
  addr : Nat
  /-- bytes -/
  data : List Byte
  /-- its transfer -/
  use : MpUse
  /-- lines accepted -/
  beat : Nat := 0
  deriving DecidableEq, Repr

/-- The memory ports (02_ports.md R51 to R55). -/
structure MpS where
  /-- requests that wait for a grant, in arrival order -/
  queue : List MpReq := []
  /-- outstanding reads, in issue order -/
  reads : List MpRead := []
  /-- ended reads whose transfer has not used them yet -/
  done : List MpRead := []
  /-- presented writes: at most one on each port -/
  writes : List MpWrite := []
  /-- next sequence number of each port and class (key port × 8 + class) -/
  nseq : Tab Nat := []
  /-- consecutive grants to higher classes for which the DMA class has waited, per port (01 R40) -/
  starve : Tab Nat := []
  deriving DecidableEq, Repr

/-! ## Power -/

/-- State of a switchable domain (13_power_holdup.md R379). -/
inductive DomSt where
  /-- OFF -/
  | off
  /-- POWERING -/
  | powering
  /-- ON -/
  | on
  /-- QUIESCING -/
  | quiescing
  /-- POWERING_DOWN -/
  | poweringDown
  /-- LOST -/
  | lost
  deriving DecidableEq, Repr

/-- A switchable domain with its handshake (02_ports.md R81). -/
structure DomS where
  /-- state -/
  st : DomSt := .off
  /-- `PD_REQ` bit -/
  req : Bool := false
  /-- synchronised `PD_ACK` bit -/
  ack : Bool := false
  /-- the acknowledge limit ran out and `PD_ACK` is ignored until it reads 0 (R82) -/
  ignore : Bool := false
  /-- isolation and reset released, hardware initialisation running (R379, R475) -/
  init : Bool := false
  /-- a warm reset is powering the domain down (02_ports.md R79) -/
  warm : Bool := false
  /-- an UP waits until that power-down has completed (R79) -/
  wantUp : Bool := false
  deriving DecidableEq, Repr

/-- The power controller (13_power_holdup.md). -/
structure PwrS where
  /-- domains 0 to 12 by `PD_REQ` bit -/
  doms : Tab DomS := []
  /-- channels whose seal has not ended (R393) -/
  sealing : List Nat := []
  /-- core-cycle counter at the acceptance of the seal -/
  sealT0 : Nat := 0
  /-- cause of the seal: 0 `PF_WARN`, 1 Grave -/
  sealCause : Nat := 0
  /-- a RECOVER since the last reset ended OK or NO_LEDGER (R399) -/
  recovered : Bool := false
  deriving DecidableEq, Repr

/-! ## Faults -/

/-- An event on its way to the fault collector (15_faults.md R432). -/
structure FltEv where
  /-- source number -/
  src : Nat
  /-- DETAIL of R445 -/
  detail : Word
  /-- core-cycle counter at which it was raised -/
  born : Nat
  /-- an uncorrectable word that a DUMP read (R447) -/
  dump : Bool
  deriving DecidableEq, Repr

/-- A fault source (15_faults.md R434, R435). -/
structure SrcS where
  /-- a window is open -/
  isOpen : Bool := false
  /-- events in the window -/
  count : Nat := 0
  /-- the window has promoted -/
  promoted : Bool := false
  /-- highest class applied since the acknowledgement: 0 to 3 -/
  state : Nat := 0
  /-- events since cold reset -/
  total : Nat := 0
  deriving DecidableEq, Repr

/-- An entry of the fault log (15_faults.md R445). -/
structure LogEnt where
  /-- core-cycle counter -/
  time : Nat
  /-- source -/
  src : Nat
  /-- class applied, 7 for a warm reset -/
  cls : Nat
  /-- promoting event -/
  promo : Bool
  /-- TOTAL after the event -/
  total : Nat
  /-- DETAIL -/
  detail : Word
  deriving DecidableEq, Repr

/-- The fault collector (15_faults.md). -/
structure FltS where
  /-- core-cycle counter at the entry into the Grave state (R442) -/
  graveAt : Option Nat := none
  /-- events on their way, in order -/
  inflight : List FltEv := []
  /-- sources -/
  srcs : Tab SrcS := []
  /-- queue to the log, at most 8 (R445) -/
  logq : List LogEnt := []
  /-- ROT reaction waiting for the PF latch to clear (R439) -/
  rotWait : Bool := false
  deriving DecidableEq, Repr

/-! ## Memory integrity -/

/-- An entry of a region's correctable-error log (14_memory_integrity.md R417). -/
structure CeLog where
  /-- word index -/
  waddr : Nat
  /-- hit count -/
  count : Nat
  /-- time of the first counted hit, ms -/
  first : Nat
  /-- the word was written since the last counted hit -/
  rewritten : Bool
  /-- `waddr` is the number of a remap entry: the report came from its spare (R419) -/
  spare : Bool := false
  deriving DecidableEq, Repr

/-- A valid entry of a region's remap table (14_memory_integrity.md R419). -/
structure Remap where
  /-- word index -/
  waddr : Nat
  /-- the spare word, in regions 5 and 6; elsewhere the content of a remapped word is kept once, by its address, and is that of its
  spare (log entry 7) -/
  spare : Option Strong
  deriving DecidableEq, Repr

/-- A correctable report on its way to its region's log (14_memory_integrity.md R417). -/
structure CeRep where
  /-- region -/
  region : Nat
  /-- word index -/
  waddr : Nat
  /-- core-cycle counter of the read -/
  born : Nat
  deriving DecidableEq, Repr

/-- An armed injection (14_memory_integrity.md R428). -/
structure Inj where
  /-- region -/
  region : Nat
  /-- two positions -/
  two : Bool
  /-- position A -/
  posA : Nat
  /-- position B -/
  posB : Nat
  deriving DecidableEq, Repr

/-- The memory-integrity unit (14_memory_integrity.md). -/
structure MemiS where
  /-- next word of each region's walk -/
  walk : Tab Nat := []
  /-- core-cycle counter at the start of each region's lap -/
  lap0 : Tab Nat := []
  /-- STARVED already raised in the lap -/
  starved : Tab Bool := []
  /-- scrubber write-backs: region, word index (R423) -/
  wb : List (Nat × Nat) := []
  /-- early write-backs queued: region, word index (R416) -/
  early : List (Nat × Nat) := []
  /-- error patterns of words of regions 0 to 4 and of tables 3 and 4 of region 5 (stored bits XOR the codeword of the data) -/
  err : Tab (BitVec 72) := []
  /-- words of those regions and tables that have been written since their domain was powered: ranges of keys (R415) -/
  written : List (Nat × Nat) := []
  /-- correctable reports that wait for their logs, the oldest first (R417) -/
  reps : List CeRep := []
  /-- logs: key region × 16 + entry -/
  log : Tab (Option CeLog) := []
  /-- remap tables: key region × 8 + entry -/
  remap : Tab (Option Remap) := []
  /-- accepted repair records (R425) -/
  fuse : List Word := []
  /-- armed injection -/
  inj : Option Inj := none
  /-- region and word index of an injection stored and not yet reported by INJ_DONE -/
  injDone : Option (Nat × Nat) := none
  deriving DecidableEq, Repr

/-! ## Angle unit and calendar -/

/-- State of the angle unit (12_angle_calendar.md R362). -/
inductive AngSt where
  /-- OFF -/
  | off
  /-- VIRTUAL -/
  | virtual
  /-- SEARCH -/
  | search
  /-- ACQUIRE -/
  | acquire
  /-- LOCKED -/
  | locked
  /-- COASTING -/
  | coasting
  deriving DecidableEq, Repr

/-- An accepted mark (12 R366). -/
structure Mark where
  /-- facet -/
  facet : Nat
  /-- core-cycle counter at its arrival -/
  cyc : Nat
  /-- stamp (revolution count and angle) at its arrival -/
  stamp : Nat
  deriving DecidableEq, Repr

/-- The angle unit and the calendar walk (12_angle_calendar.md). -/
structure AngS where
  /-- state -/
  st : AngSt := .off
  /-- angle θ: 16 integer and 32 fraction bits -/
  theta : Nat := 0
  /-- rate ω in 2^−32 counts per cyc -/
  omega : Nat := 0
  /-- revolution count, 16 bits -/
  rev : Nat := 0
  /-- expected facet -/
  facet : Nat := 0
  /-- the stamp at which it is predicted to pass, and its halo, in effect since it is expected (12, "ANGLE registers") -/
  win : Nat × Nat := (0, 1)
  /-- consecutive misses -/
  missRun : Nat := 0
  /-- consecutive marks accepted in halo -/
  accRun : Nat := 0
  /-- last accepted mark -/
  last : Option Mark := none
  /-- the next mark is accepted regardless of the halo (R367) -/
  anyNext : Bool := false
  /-- arrival of the last accepted key mark -/
  lastKey : Option Nat := none
  /-- calendar slot entered last -/
  slot : Nat := 0
  /-- slots that raised MARK since the last acquisition or forward `PHASE` move, each with its revolution (R373) -/
  marked : List (Nat × Nat) := []
  /-- revolutions, of the present one and its neighbours, in which UMBRA_LIT was raised (R374) -/
  umbraRev : List Nat := []
  deriving DecidableEq, Repr

/-! ## Rotor drive -/

/-- State of the drive (11_rotor_drive.md R326). -/
inductive RotSt where
  /-- OFF -/
  | off
  /-- SPIN_CHECK -/
  | spinCheck
  /-- ALIGN -/
  | align
  /-- RAMP -/
  | ramp
  /-- STEP -/
  | step
  /-- FLUX -/
  | flux
  /-- HOLDUP -/
  | holdup
  /-- CATCH -/
  | catch_
  /-- COAST -/
  | coast
  /-- ASC -/
  | asc
  /-- TRIPPED -/
  | tripped
  deriving DecidableEq, Repr

/-- What a phase leg is asked to be. -/
inductive Leg where
  /-- both gates off -/
  | off
  /-- high-side gate on -/
  | high
  /-- low-side gate on -/
  | low
  deriving DecidableEq, Repr

/-- The two gates of a phase with their dead time (02_ports.md R66). -/
structure Gate where
  /-- high-side gate command -/
  hi : Bool := false
  /-- low-side gate command -/
  lo : Bool := false
  /-- what the leg is asked to be -/
  want : Leg := .off
  /-- which gate turned off last -/
  lastOff : Leg := .off
  /-- cyc of dead time left before the other gate may turn on -/
  dead : Nat := 0
  deriving DecidableEq, Repr

/-- The gates of the three phases. -/
structure Gates where
  /-- phase U -/
  u : Gate := {}
  /-- phase V -/
  v : Gate := {}
  /-- phase W -/
  w : Gate := {}
  deriving DecidableEq, Repr

/-- The observer and the controllers of flux mode (11 R342 to R344, R353). -/
structure Obs where
  /-- stator flux, α component, pWb -/
  psiA : Int := 0
  /-- stator flux, β component, pWb -/
  psiB : Int := 0
  /-- electrical angle, 1/65,536 of an electrical revolution -/
  elec : Nat := 0
  /-- speed estimate, 10^−9 rev/s, positive in the direction in force -/
  speedN : Int := 0
  /-- angle increment of the last period, 1/65,536 of an electrical revolution, positive in the direction in force -/
  turn : Int := 0
  /-- current of phase U, 10 mA -/
  iu : Int := 0
  /-- current of phase V, 10 mA -/
  iv : Int := 0
  /-- torque, mN·m -/
  torque : Int := 0
  /-- speed integrator, mrev/s × cyc -/
  integ : Int := 0
  /-- hold-up integrator, 0.1 V × cyc -/
  huInteg : Int := 0
  /-- torque comparator: −1, 0 or 1 -/
  tqCmp : Int := 0
  /-- flux comparator: −1 or 1 -/
  flCmp : Int := 1
  /-- consecutive decisions with the observer angle off the glint angle (R354) -/
  syncBad : Nat := 0
  /-- LOSS_SYNC since the last successful re-catch (12 R369) -/
  lost : Bool := false
  deriving DecidableEq, Repr

/-- A sample window of an active vector (11 R345). -/
structure ShuntWin where
  /-- phase measured: 0 U, 1 V, 2 W -/
  phase : Nat
  /-- sign of the shunt current -/
  sign : Int
  /-- first cyc of the window -/
  start : Nat
  /-- end of the window -/
  stop : Nat
  /-- a sample dated inside has arrived -/
  hit : Bool := false
  deriving DecidableEq, Repr

/-- The decision period and the shunt reconstruction (11 R345 to R347). -/
structure Shunt where
  /-- core-cycle counter at the start of the period -/
  t0 : Nat := 0
  /-- length of the period, cyc -/
  len : Nat := 0
  /-- probe vector at the start of the period, and its phase -/
  probe : Option (Nat × Nat) := none
  /-- vector of the previous period -/
  prev : Nat := 0
  /-- samples not yet used: current, dated instant -/
  samples : List (Int × Nat) := []
  /-- sample windows of ended periods that samples may still reach or that the next decision still uses (R343, R345) -/
  old : List ShuntWin := []
  /-- prediction runs of U, V, W -/
  predU : Nat := 0
  /-- prediction run of V -/
  predV : Nat := 0
  /-- prediction run of W -/
  predW : Nat := 0
  deriving DecidableEq, Repr

/-- Step mode, start-up and re-catch (11 R335 to R340, R355). -/
structure StepS where
  /-- sector -/
  sector : Nat := 0
  /-- sector time Ts, cyc -/
  ts : Nat := 0
  /-- date of the last counted crossing -/
  lastZc : Option Nat := none
  /-- counted edges since the state began -/
  edges : Nat := 0
  /-- date of the last commutation -/
  commAt : Nat := 0
  /-- the sector has shown a counted crossing between 10° and 50° -/
  inWin : Bool := false
  /-- consecutive sectors that have -/
  run : Nat := 0
  /-- commutation delay scheduled after the last crossing, cyc -/
  delay : Option Nat := none
  /-- start-up attempts -/
  tries : Nat := 0
  /-- core-cycle counter at the start of the ramp -/
  rampT0 : Nat := 0
  /-- duty of the PWM -/
  duty : Nat := 0
  /-- step speed integrator, mrev/s × cyc -/
  integ : Int := 0
  /-- PWM on-time running -/
  onTime : Bool := false
  /-- FLUX at the next commutation -/
  toFlux : Bool := false
  /-- an accepted glint was seen in SPIN_CHECK -/
  sawGlint : Bool := false
  /-- phase of the last edge seen in SPIN_CHECK or CATCH -/
  lastPhase : Nat := 0
  /-- the rotor turns against the commanded direction -/
  against : Bool := false
  /-- speed from crossings or of the ramp, 10^−9 rev/s, against the direction in force negative -/
  speedN : Int := 0
  /-- core-cycle counter from which ALIGN drives its vector: an attempt that failed is followed by a wait (R340) -/
  alignAt : Nat := 0
  /-- core-cycle counter at the start of the on-time -/
  onAt : Nat := 0
  /-- core-cycle counter at the end of the last on-time -/
  offAt : Nat := 0
  /-- core-cycle counter from which the running on-time has not yet been recorded in `cuts` -/
  since : Nat := 0
  /-- on-times of the present decision period: sector, cyc (R342) -/
  cuts : List (Nat × Nat) := []
  /-- phase advance of the commutation that is due, 10^−3 degrees (R338, R341) -/
  adv : Nat := 0
  deriving DecidableEq, Repr

/-- Record the on-time that runs up to `now` (11 R342). -/
def StepS.cut (t : StepS) (now : Nat) : StepS :=
  if t.onTime then { t with cuts := t.cuts ++ [(t.sector, now - t.since)], since := now } else { t with since := now }

/-- A PWM period begins: the on-time of the high leg, none at duty 0 (11 R339). -/
def StepS.turnOn (t : StepS) (now : Nat) : StepS :=
  { t.cut now with onTime := decide (t.duty ≠ 0), onAt := now, offAt := now }

/-- The on-time ends (11 R339). -/
def StepS.turnOff (t : StepS) (now : Nat) : StepS := { t.cut now with onTime := false, offAt := now }

/-- What follows a stretch of zero torque (11 R353, R354). -/
inductive AfterZero where
  /-- nothing -/
  | none
  /-- safe-off and HOLDUP_END -/
  | holdupEnd
  /-- ASC or gates off, then CATCH -/
  | lossSync
  deriving DecidableEq, Repr

/-- The rotor drive (11_rotor_drive.md). -/
structure RotS where
  /-- state -/
  st : RotSt := .off
  /-- gates -/
  gates : Gates := {}
  /-- last main vector -/
  vec : Nat := 0
  /-- direction in force: reverse -/
  rev : Bool := false
  /-- DC link, 0.1 V -/
  vdc : Nat := 0
  /-- `ROT_CHOP` -/
  chop : Bool := false
  /-- link sample when `ROT_CHOP` rose -/
  chopV0 : Nat := 0
  /-- core-cycle counter at the last change of `ROT_CHOP` -/
  chopAt : Nat := 0
  /-- core-cycle counter at the last change of the synchronised `ROT_CHOP_FB` -/
  fbAt : Nat := 0
  /-- chopper fault latched -/
  chopFlt : Bool := false
  /-- torque clamped at 0 from below (R348) -/
  softClamp : Bool := false
  /-- torque reference held at 0 by a chopper fault (R351) -/
  zeroTq : Bool := false
  /-- torque reference held at 0 by an accepted `PF_WARN` (R353) -/
  zeroPf : Bool := false
  /-- a chopper fault detected while TRIPPED is acted on at the next re-catch (R356) -/
  chopPend : Bool := false
  /-- a safe-off asked for while a higher cause holds the gates waits for that cause to end (R356) -/
  pendOff : Bool := false
  /-- OV_HARD: all gates off until cold reset (R350) -/
  ovHard : Bool := false
  /-- speed target, mrev/s -/
  target : Nat := 0
  /-- speed reference, 10^−9 rev/s -/
  refN : Nat := 0
  /-- observer -/
  obs : Obs := {}
  /-- period and shunt -/
  shunt : Shunt := {}
  /-- step mode -/
  step : StepS := {}
  /-- periods of zero torque left -/
  zeroN : Nat := 0
  /-- what follows them -/
  after : AfterZero := .none
  /-- consecutive failed re-catches -/
  rcFails : Nat := 0
  /-- plausible decisions or crossings of the attempt -/
  rcOk : Nat := 0
  /-- the observer runs and decisions confirm the attempt: a glint re-catch, or crossings at or above FLUX_OFF -/
  rcGlint : Bool := false
  /-- the attempt has failed already -/
  rcFailed : Bool := false
  /-- dates of rising `ROT_CMD` edges, newest first -/
  cmdRise : List Nat := []
  /-- high times of the same periods, newest first -/
  cmdHigh : List Nat := []
  /-- rising edges still to come before the target follows `ROT_CMD` again (R332) -/
  cmdWait : Nat := 0
  deriving DecidableEq, Repr

/-! ## Channels -/

/-- A channel descriptor (05_channel_operations.md R150). -/
structure Desc where
  /-- OPCODE -/
  opcode : Nat := 0
  /-- FLAGS -/
  flags : Nat := 0
  /-- ORIGIN -/
  origin : Nat := 0
  /-- TADDR -/
  taddr : Nat := 0
  /-- TILENO -/
  tileno : Nat := 0
  /-- PLACE -/
  place : Nat := 0
  /-- DBUF -/
  dbuf : Nat := 0
  /-- MASK -/
  mask : Nat := 0
  /-- REFSET -/
  refset : Nat := 0
  /-- STEP -/
  step : Nat := 0
  /-- COUNT -/
  count : Nat := 0
  /-- reserved word at 0x14 -/
  rsvd : Nat := 0
  /-- TAG -/
  tag : Nat := 0
  /-- PARAM, 31 bytes, lowest address in the low bits -/
  param : Nat := 0
  deriving DecidableEq, Repr

/-- Work class of a descriptor, highest first (01 R39, 05 R152). -/
inductive Cls where
  /-- urgent read -/
  | urgent
  /-- program -/
  | program
  /-- shadow read -/
  | shadow
  /-- erase -/
  | erase
  /-- patrol read -/
  | patrol
  deriving DecidableEq, Repr

/-- A descriptor in a slot of its channel (05 R156). -/
structure Slot where
  /-- the descriptor -/
  desc : Desc
  /-- arrival number -/
  age : Nat
  /-- it has started -/
  started : Bool := false
  /-- it ranks below urgent read by ageing (R161) -/
  aged : Bool := false
  deriving DecidableEq, Repr

/-- What a park record waits for (04 R128). -/
structure Park where
  /-- continuation address -/
  cont : Nat
  /-- m0 to m3 -/
  m : List Half
  /-- class 0 to 3 -/
  cls : Nat
  /-- descriptor -/
  desc : Desc
  /-- number that orders park records -/
  age : Nat := 0
  /-- the LUN has reported ready -/
  ready : Bool := false
  /-- last status byte polled -/
  status : BitVec 8 := 0
  /-- the record is HUNG (05 R162) -/
  hung : Bool := false
  deriving DecidableEq, Repr

/-- An open TLC wordline (05 R166). -/
structure Wordline where
  /-- tile address of its level-0 page -/
  taddr : Nat
  /-- descriptors that completed LOADED -/
  loaded : List Desc
  deriving DecidableEq, Repr

/-- What runs in a die's array for a LUN. -/
inductive ArrayOp where
  /-- nothing -/
  | none
  /-- page read -/
  | read
  /-- program, confirmed -/
  | program
  /-- program sequence without its final confirm -/
  | unconfirmed
  /-- erase -/
  | erase
  /-- Reset LUN -/
  | reset
  deriving DecidableEq, Repr

/-- What a LUN's dies were last sent as read offsets in one mode (07_read_recovery.md R216). -/
inductive RefSent where
  /-- the eight offsets -/
  | known (o : List Int)
  /-- unknown -/
  | unknown
  deriving DecidableEq, Repr

/-- A LUN as its channel keeps it. -/
structure LunS where
  /-- park record -/
  park : Option Park := none
  /-- HUNG shown in DIE_Q after a RESET_LUN that timed out (05 R162) -/
  hung : Bool := false
  /-- suspend count (05 R169) -/
  susCnt : Nat := 0
  /-- core-cycle counter at the start of the minimum-run clock -/
  run0 : Option Nat := none
  /-- a SUSP entry has executed and no RSUM since -/
  susp : Bool := false
  /-- a poll after the SUSP entry has returned RDY = 1 (04 R118) -/
  suspOk : Bool := false
  /-- SUSPENDED (05 R170) -/
  suspended : Bool := false
  /-- reads run in this suspension -/
  reads : Nat := 0
  /-- open TLC wordline -/
  wl : Option Wordline := none
  /-- running array operation -/
  op : ArrayOp := .none
  /-- offsets that each pass of the running read routine applies, fixed at its start (07_read_recovery.md R217) -/
  ofs : List (List Int) := []
  /-- offsets last sent, SLC -/
  refSlc : RefSent := .known [0, 0, 0, 0, 0, 0, 0, 0]
  /-- offsets last sent, TLC -/
  refTlc : RefSent := .known [0, 0, 0, 0, 0, 0, 0, 0]
  deriving DecidableEq, Repr

/-- An entry of the cycle engine's queue (04 R124, R126). -/
inductive EngE where
  /-- select a chip enable, or deselect -/
  | ce (c : Option Nat)
  /-- one command cycle -/
  | cmd (b : Nat)
  /-- address cycles; with a row: LUN, block, page -/
  | addr (bytes : List Nat) (row : Option (Nat × Nat × Nat))
  /-- write burst: offset, length in 64-B units -/
  | dout (off len : Nat)
  /-- read burst: offset, length in 64-B units -/
  | din (off len : Nat)
  /-- erase-suspend sequence to a LUN -/
  | susp (lun : Nat)
  /-- erase-resume sequence to a LUN -/
  | rsum (lun : Nat)
  /-- Read Status Enhanced to a LUN -/
  | stat (lun : Nat)
  deriving DecidableEq, Repr

/-- What the channel has driven on its bus: the model's own observation (log entry 14). -/
inductive BusOp where
  /-- a chip enable falls -/
  | sel (c : Nat)
  /-- every chip enable is high -/
  | desel
  /-- command cycle -/
  | cmd (b : Nat)
  /-- address cycles -/
  | addr (bytes : List Nat)
  /-- data to the die, in bytes -/
  | dout (n : Nat)
  /-- data to the die that the spec gives byte by byte -/
  | data (bytes : List Nat)
  /-- data from the die, in bytes -/
  | din (n : Nat)
  deriving DecidableEq, Repr

/-- State of the data burst of a channel (04 R117). -/
inductive Burst where
  /-- none -/
  | none
  /-- queued, write -/
  | outQueued
  /-- running, write -/
  | outRunning
  /-- queued, read -/
  | inQueued
  /-- running, read -/
  | inRunning
  /-- running, read, locked to its preamble (03 R96) -/
  | inLocked
  deriving DecidableEq, Repr

/-- The cycle engine of a channel. -/
structure EngS where
  /-- queue, head first, at most 16 entries -/
  queue : List EngE := []
  /-- selected target -/
  sel : Option Nat := none
  /-- last command byte on the selection -/
  last : Nat := 0
  /-- LUN, block and page of the last row address on the selection -/
  row : Option (Nat × Nat × Nat) := none
  /-- data burst -/
  burst : Burst := .none
  /-- offset and length of the burst in 64-B units -/
  bOff : Nat := 0
  /-- length of the burst -/
  bLen : Nat := 0
  /-- tile-buffer place and tile address that a write burst sends, as it was queued -/
  bTile : Nat × Nat := (0, 0)
  /-- descriptor whose decoder-buffer place takes a read burst, as it was queued -/
  bDesc : Option Desc := none
  /-- PRE_MISS -/
  preMiss : Bool := false
  /-- REFUSED -/
  refused : Bool := false
  /-- reason of the refusal -/
  reason : Nat := 0
  /-- queued entries are discarded up to the next CE entry (04 R127) -/
  discard : Bool := false
  /-- timing table, 32 entries, scyc -/
  timing : Tab Nat := []
  /-- targets in charter mode -/
  charter : BitVec 8 := 0
  /-- what has been driven on the bus since the slice's last reset, newest first (the model's own observation, log entry 14) -/
  bus : List BusOp := []
  deriving DecidableEq, Repr

/-- Run state of a sequencer context. -/
inductive CtxRun where
  /-- idle -/
  | idle
  /-- running a routine -/
  | run
  /-- halted -/
  | halted
  deriving DecidableEq, Repr

/-- The trap frame of a context (04 R135). -/
structure FrameS where
  /-- CAUSE -/
  cause : Nat := 0
  /-- ENTRY -/
  entry : Nat := 0
  /-- IDLE -/
  idle : Bool := false
  /-- CE -/
  ce : Nat := 0
  /-- CEV -/
  cev : Bool := false
  /-- C -/
  c : Bool := false
  /-- N -/
  n : Bool := false
  /-- Z -/
  z : Bool := false
  /-- PC -/
  pc : Nat := 0
  /-- m0 to m7 -/
  m : List Half := [0, 0, 0, 0, 0, 0, 0, 0]
  /-- LC0 -/
  lc0 : Nat := 0
  /-- LC1 -/
  lc1 : Nat := 0
  /-- T0 at trap entry -/
  t0 : Nat := 0
  /-- trap latency, scyc -/
  lat : Nat := 0
  deriving DecidableEq, Repr

/-- A sequencer context (04_sequencers.md). -/
structure CtxS where
  /-- run state -/
  run : CtxRun := .idle
  /-- PC -/
  pc : Nat := 0
  /-- m0 to m7 -/
  m : List Half := [0, 0, 0, 0, 0, 0, 0, 0]
  /-- LC0 -/
  lc0 : Nat := 0
  /-- LC1 -/
  lc1 : Nat := 0
  /-- Z -/
  z : Bool := false
  /-- N -/
  n : Bool := false
  /-- C -/
  c : Bool := false
  /-- T0 -/
  t0 : Nat := 0
  /-- T1 -/
  t1 : Nat := 0
  /-- current descriptor -/
  desc : Option Desc := none
  /-- chip enable that stands for the routine (CE, CEV) -/
  ce : Option Nat := none
  /-- chip enable last selected by a CE microword of the routine, or reselected by TRET (R135) -/
  ceLast : Nat := 0
  /-- IN_TRAP -/
  inTrap : Bool := false
  /-- cause of the running trap -/
  cause : Nat := 0
  /-- pending causes: core-cycle counter at which each arose -/
  sealP : Option Nat := none
  /-- pending WDOG -/
  wdog : Option Nat := none
  /-- pending BREAK -/
  brk : Option Nat := none
  /-- TOUCH -/
  touch : Bool := false
  /-- the last word executed belongs to an atomic region -/
  atom : Bool := false
  /-- the region has lost its atomicity (R131) -/
  atomOvr : Bool := false
  /-- WAKE_RDY -/
  wakeRdy : Bool := false
  /-- WAKE_SUSP -/
  wakeSusp : Bool := false
  /-- last status byte -/
  status : BitVec 8 := 0
  /-- STAT waits for its status byte -/
  statWait : Bool := false
  /-- completion result half-words -/
  res : List Half := [0, 0, 0, 0]
  /-- ledger staging half-words -/
  stage : Tab Half := []
  /-- frame of the last trap -/
  frame : FrameS := {}
  deriving DecidableEq, Repr

/-- What the dies of a channel declare (03 R92, 05 R155). -/
structure Geo where
  /-- row-address cycles -/
  rows : Nat := 3
  /-- width of the page field -/
  pageBits : Nat := 11
  /-- width of the plane field -/
  planeBits : Nat := 2
  /-- width of the block field -/
  blockBits : Nat := 11
  /-- planes per LUN -/
  planes : Nat := 4
  /-- data bytes per page -/
  dataBytes : Nat := 16384
  /-- spare bytes per page -/
  spareBytes : Nat := 2048
  /-- blocks per plane -/
  blocks : Nat := 2048
  /-- pages per block in SLC mode -/
  slcPages : Nat := 512
  /-- pages per block in TLC mode -/
  tlcPages : Nat := 1536
  deriving DecidableEq, Repr

/-- Trims, reference code and eyes of a target (03 R101, R110). -/
structure TargetS where
  /-- read trims of lanes 0 to 8 -/
  rdTrim : List Nat := [64, 64, 64, 64, 64, 64, 64, 64, 64]
  /-- write trims -/
  wrTrim : List Nat := [64, 64, 64, 64, 64, 64, 64, 64, 64]
  /-- reference code -/
  ref : Nat := 32
  /-- read eye widths -/
  rdEye : List Nat := [0, 0, 0, 0, 0, 0, 0, 0, 0]
  /-- write eye widths -/
  wrEye : List Nat := [0, 0, 0, 0, 0, 0, 0, 0, 0]
  /-- eye height -/
  height : Nat := 0
  deriving DecidableEq, Repr

/-- Kind of a PHY command (03 R110). -/
inductive PhyKind where
  /-- INIT -/
  | init
  /-- FULL_TRAIN -/
  | full
  /-- READ_RETRAIN -/
  | retrain
  /-- EYE_SCAN -/
  | scan
  deriving DecidableEq, Repr

/-- A PHY command that runs (03 R100, R103). -/
structure PhyRun where
  /-- kind -/
  kind : PhyKind
  /-- targets still to be trained, in order -/
  left : List Nat
  /-- targets of the command -/
  all : List Nat
  /-- result so far: 0 OK, 2 BAD_PARAM -/
  res : Nat := 0
  /-- the command has changed the steering -/
  steered : Bool := false
  /-- the PLL relocks (R89) -/
  relock : Bool := false
  /-- the rate has changed, and not every present target has been trained at it (R89) -/
  rated : Bool := false
  /-- targets are trained from step 3 of R100 on (R107) -/
  from3 : Bool := false
  /-- INIT has been asked for by a register write, and the dies' answers are still to come (log entry 10) -/
  asked : Bool := false
  /-- a takeover runs it: it waits for no permit (16 R471) -/
  tko : Bool := false
  deriving DecidableEq, Repr

/-- The PHY slice of a channel (03_flash_bus.md). -/
structure PhyS where
  /-- running command -/
  cmd : Option PhyRun := none
  /-- targets 0 to 7 -/
  targets : Tab TargetS := []
  /-- die declarations -/
  geo : Option Geo := none
  /-- running rate, MT/s; 0 in SDR -/
  rate : Nat := 0
  /-- engine timing in ns of the timing modes the dies declare, as INIT has read it (04 R125; log entry 41) -/
  timing : List Nat := []
  /-- rate the dies support in the selected interface, MT/s (03 R88) -/
  cap : Nat := 0
  /-- levels of `FLn_RB_N[3:0]` as last seen (03 R86) -/
  rb : BitVec 4 := 15
  deriving DecidableEq, Repr

/-- Ownership of a channel in a reflection pair (02 R63, R64). -/
structure OwnS where
  /-- the block wants the channel -/
  want : Bool := false
  /-- `FLn_OWN_REQ` -/
  req : Bool := false
  /-- the block owns the channel and drives the slice -/
  owned : Bool := false
  /-- no retry until a write of `REFL.CTRL` (R63) -/
  conflict : Bool := false
  deriving DecidableEq, Repr

/-- An entry of the ledger (13 R397), its stamp and sequence fixed when it is written to a position. -/
structure LedgEnt where
  /-- KIND -/
  kind : Nat
  /-- FLAGS -/
  flags : Nat
  /-- ANGLE -/
  angle : Nat
  /-- SEQ -/
  seq : Nat
  /-- body, 44 bytes, lowest address in the low bits -/
  body : Nat
  deriving DecidableEq, Repr

/-- An open erase intent (13 R400). -/
structure Intent where
  /-- tile address, page 0 -/
  taddr : Nat
  /-- TLC -/
  tlc : Nat
  /-- ORIGIN -/
  origin : Nat
  deriving DecidableEq, Repr

/-- The ledger writer of a channel (13_power_holdup.md R396 to R401). -/
structure LedgS where
  /-- staged entries, oldest first -/
  staged : List LedgEnt := []
  /-- the staged entries are due for a flush -/
  due : Bool := false
  /-- consecutive failed flushes -/
  fails : Nat := 0
  /-- the writer has stopped (R401) -/
  stopped : Bool := false
  /-- open intents -/
  intents : List Intent := []
  /-- current block set: false A, true B -/
  blk : Bool := false
  /-- next position -/
  pos : Nat := 0
  /-- next SEQ -/
  seq : Nat := 0
  deriving DecidableEq, Repr

/-- What a tile-buffer place holds. -/
inductive PlaceKind where
  /-- a tile from a lane -/
  | data
  /-- a FILL tile (09 R288) -/
  | fill
  /-- a parity tile (06 R202) -/
  | parity
  /-- an almanac record (07 R237) -/
  | almanac
  deriving DecidableEq, Repr

/-- A tile-buffer place of a channel (01 R28, R29; 06 R191 to R193; 08 R256, R257). -/
structure PlaceS where
  /-- the place is taken -/
  used : Bool := false
  /-- number that orders claims of the channel's places -/
  claim : Nat := 0
  /-- what it holds -/
  kind : PlaceKind := .data
  /-- trailer FLAGS -/
  flags : Nat := 0
  /-- STREAM -/
  stream : Nat := 0xFFFF
  /-- HOOP of the stream, 0xFF for none -/
  hoop : Nat := 0xFF
  /-- trailer HOOP (0xFF also for a PLAIN hoop) -/
  thoop : Nat := 0xFF
  /-- trailer LANE -/
  lane : Nat := 15
  /-- SERIAL -/
  serial : Nat := 0
  /-- hoop sequence of the tile (09 R281) -/
  seq : Nat := 0
  /-- ANGLE -/
  angle : Nat := 0
  /-- LENGTH of the header, then of the trailer -/
  len : Nat := 0
  /-- payload bytes landed -/
  got : Nat := 0
  /-- no byte has landed: the tile has still to take its stripe slot (06 R204) -/
  fresh : Bool := false
  /-- TIME -/
  time : Nat := 0
  /-- STRIPE -/
  stripe : Nat := 0xFFFFFFFF
  /-- SLOT -/
  slot : Nat := 0
  /-- WIDTH -/
  width : Nat := 0
  /-- PARITY -/
  parity : Nat := 0
  /-- lace profile, 0xFF for none -/
  profile : Nat := 0xFF
  /-- TILENO -/
  tileno : Nat := 0x7FFFFFFF
  /-- tile address of its slot -/
  taddr : Nat := 0xFFFFFFFF
  /-- TLC -/
  tlc : Bool := false
  /-- filler and trailer are written -/
  whole : Bool := false
  /-- codewords encoded, bit k for codeword k -/
  enc : Nat := 0
  /-- address the encoded codewords were encoded for -/
  encAddr : Nat := 0xFFFFFFFF
  /-- its PROG is due, with its CUT bit, and waits for the PROGs of earlier pages of its LUN (05 R157, 09 R288) -/
  due : Option Bool := none
  /-- its PROG has been issued -/
  issued : Bool := false
  /-- number that orders the issues of the channel's PROGs (06 R192) -/
  issueNo : Nat := 0
  /-- number that orders the channel's slots as they were taken -/
  slotNo : Nat := 0
  /-- the first DOUT of its PROG has been queued (08 R257) -/
  committed : Bool := false
  /-- plane bursts of its PROG queued -/
  sent : Nat := 0
  /-- core-cycle counter since when the slot is reserved for the stream's next tile (09 R288) -/
  reserved : Option Nat := none
  /-- the reserved slot is to be filled, and waits for a stripe (09 R288) -/
  fillDue : Bool := false
  /-- the seal has cut the tile (13 R389) -/
  sealCut : Bool := false
  /-- rank among the seal tiles of the channel (13 R389) -/
  sealRank : Option Nat := none
  deriving DecidableEq, Repr

/-- A read whose routine has ended and whose decode jobs have not (07 R223). -/
structure ReadS where
  /-- its descriptor -/
  desc : Desc
  /-- result half-words -/
  res : List Half
  /-- the routine's status, when it is other than OK -/
  st : Nat := 0
  deriving DecidableEq, Repr

/-- The seal of a channel (13_power_holdup.md R388 to R392). -/
structure SealS where
  /-- the seal has been taken, and the routine waits for BURST_DONE and the entries queued before it (13 R388; 04 R138) -/
  wait : Bool := false
  /-- the LUNs other than the seal LUN are still to be brought to rest (13 R388 step 4) -/
  quiet : Bool := false
  /-- places of the seal tiles still to program, in order -/
  tiles : List Nat := []
  /-- tiles recorded as sealed -/
  done : Nat := 0
  /-- tiles abandoned -/
  lost : Nat := 0
  /-- number of the seal tile that comes next, and of its page: every tile takes one, sealed or abandoned (R388) -/
  page : Nat := 0
  /-- the program of that tile has been confirmed or refused -/
  progd : Bool := false
  /-- hoops still to record -/
  hoops : List Nat := []
  /-- hoops recorded -/
  recorded : Nat := 0
  /-- flag LATE -/
  late : Bool := false
  /-- core-cycle counter at acceptance -/
  time : Nat := 0
  deriving DecidableEq, Repr

/-- A load of the grown-defect table (05 R179). -/
structure GdtS where
  /-- bytes read -/
  data : List Byte := []
  /-- bytes to be read, once the header is known -/
  want : Option Nat := none
  /-- a line came with `RD_ERR` -/
  err : Bool := false
  deriving DecidableEq, Repr

/-- A channel engine. -/
structure ChS where
  /-- sequencer context -/
  ctx : CtxS := {}
  /-- cycle engine -/
  eng : EngS := {}
  /-- slots in arrival order -/
  slots : List Slot := []
  /-- next arrival or park number -/
  nextAge : Nat := 0
  /-- LUN started last -/
  lastLun : Nat := 0
  /-- PHY slice -/
  phy : PhyS := {}
  /-- ownership -/
  own : OwnS := {}
  /-- level of `FLn_WP_N` -/
  wp : Bool := false
  /-- the slice keeps `FLn_WP_N` after a warm reset (02 R79) -/
  wpHeld : Bool := false
  /-- a seal runs on the channel (05 R175) -/
  sealing : Bool := false
  /-- ledger writer -/
  ledg : LedgS := {}
  /-- descriptors that their origins hold for the channel, in order of issue (05 R156) -/
  wait : List Desc := []
  /-- reads that wait for their decode jobs (07 R223) -/
  reads : List ReadS := []
  /-- tile-buffer places -/
  places : Tab PlaceS := []
  /-- next claim number -/
  nextClaim : Nat := 1
  /-- next number of a slot taken or a PROG issued -/
  nextOrd : Nat := 1
  /-- seal -/
  sealS : SealS := {}
  /-- load of the grown-defect table -/
  gdt : GdtS := {}
  deriving DecidableEq, Repr

/-- A channel group's store and verification (04 R141 to R147). -/
structure GrpS where
  /-- region being verified -/
  verify : Option Nat := none
  /-- the region was written during the verification (R146) -/
  spoiled : Bool := false
  deriving DecidableEq, Repr

end Sys2Proof.Machine
end

