-- ==== Sys2Proof/Machine/Units2.lean ====
section
/-!
DEFINITION. What the data-path units hold beside their register words and their SRAM contexts: the map cache, streams and
hoops, the lace unit, the decoder pool, the recovery engine, the lanes with their spools, the rings and the DMA engine.
A default value of a field is its value after reset; where the spec gives none, assumption log entry 13 names it.
-/

namespace Sys2Proof.Machine

/-! ## Placement map (09_placement_hoops.md) -/

/-- What a tile completion record reports (09 R276). -/
structure TileRec where
  /-- TILENO -/
  tileno : Nat
  /-- TADDR -/
  taddr : Nat
  /-- STREAM -/
  stream : Nat
  /-- STATUS: 0 OK, 1 TRUNCATED, 2 FILLED, 3 SEALED, 4 MAP_LOST -/
  status : Nat
  /-- trailer FLAGS bits [7:0] -/
  flags : Nat
  /-- SERIAL -/
  serial : Nat
  deriving DecidableEq, Repr

/-- One entry written by a program pass, with the record that reports it. -/
structure PassUp where
  /-- tile number -/
  tile : Nat
  /-- tile address -/
  addr : Nat
  /-- its record -/
  record : Option TileRec
  /-- hoop, 0xFF for none -/
  hoop : Nat := 0xFF
  /-- hoop sequence -/
  seq : Nat := 0
  /-- SERIAL -/
  serial : Nat := 0
  deriving DecidableEq, Repr

/-- An operation on the map through the cache (09 R272, R273). -/
inductive MapOp where
  /-- `MAP.LOOKUP_TILE` -/
  | lookup (tile : Nat)
  /-- tile `k` of read request `id` -/
  | read (id k tile : Nat)
  /-- a neighbour of the failing tile of recovery request `id` -/
  | probe (id tile : Nat)
  /-- the patrol walker, with its place -/
  | patrol (tile place : Nat)
  /-- `MAP.SET_ADDR`, or MAP_UPD of a reflection pair -/
  | set (tile addr : Nat)
  /-- a program pass: one update of one or three entries -/
  | pass (ups : List PassUp)
  deriving DecidableEq, Repr

/-- A valid line of the map cache (09 R271). -/
structure MapLine where
  /-- its 16 entries -/
  entries : List Word
  /-- dirty -/
  dirty : Bool
  /-- time of the last use, in the cache's own count -/
  use : Nat
  /-- way within its set -/
  way : Nat
  deriving DecidableEq, Repr

/-- The map cache (09 R271 to R274). -/
structure MapS where
  /-- valid lines by line number -/
  lines : Tab MapLine := []
  /-- use counter -/
  clock : Nat := 0
  /-- operations that wait for fills, in order -/
  waiting : List MapOp := []
  /-- lines whose fill is outstanding -/
  fills : List Nat := []
  /-- write-backs issued and not accepted: line and entries -/
  wbs : List (Nat × List Word) := []
  /-- dirty lines evicted, waiting for MAP_WRITE_BACK -/
  evicted : List (Nat × List Word) := []
  /-- FLUSH or INVAL running: lines left, and whether it invalidates -/
  flush : Option (List Nat × Bool) := none
  /-- tile records whose map update has been applied, in order (09 R276) -/
  records : List TileRec := []
  /-- `cyc` and tile of the last lookup by firmware that has been answered (09 R273) -/
  asked : Option (Nat × Nat) := none
  /-- entries that program passes of the last such `cyc` have written: `cyc` and tile (09 R273) -/
  passed : List (Nat × Nat) := []
  deriving DecidableEq, Repr

/-! ## Hoops -/

/-- State of a hoop (09 R289). -/
inductive HoopSt where
  /-- OFF -/
  | off
  /-- ARMED -/
  | armed
  /-- FROZEN -/
  | frozen
  /-- DONE -/
  | done
  /-- OVERRUN -/
  | overrun
  deriving DecidableEq, Repr

/-- A trigger on its way to a hoop (09 R290). -/
structure TrigS where
  /-- sources: bit 0 pin, 1 lane, 2 register -/
  src : Nat
  /-- arrival: core-cycle counter -/
  time : Nat
  /-- arrival: revolution count and angle -/
  angle : Nat
  deriving DecidableEq, Repr

/-- A member of a hoop in one row: channel and LUN. -/
structure Member where
  /-- row sequence -/
  row : Nat
  /-- channel -/
  ch : Nat
  /-- LUN -/
  lun : Nat
  deriving DecidableEq, Repr

/-- A hoop beside its context (09 R280 to R291). -/
structure HoopS where
  /-- state register -/
  st : HoopSt := .off
  /-- triggers on their way, oldest first -/
  trig : List TrigS := []
  /-- slots of the current group that are taken -/
  taken : List Nat := []
  /-- slots of the next group taken by channel-bound tiles -/
  takenNext : List Nat := []
  /-- erases issued and not completed -/
  erasing : List Member := []
  /-- members without slots in a row -/
  noSlot : List Member := []
  /-- lanes whose tile waits for its row's erases, each with the core-cycle count since when -/
  stall : List (Nat × Nat) := []
  /-- members with an open TLC wordline (R283) -/
  wls : List (Nat × Nat) := []
  /-- row-table entries read for the erase front: index, and START or none when unset (R285, R286) -/
  tbl : List (Nat × Option Nat) := []
  /-- row-table entries asked for -/
  tblAsk : List Nat := []
  /-- the row whose entry START stands since a data tile of it was numbered (R286) -/
  startRow : Option Nat := none
  /-- rows from ROW on whose erase this hoop has issued since the reset, with their block sets (R280) -/
  fronted : List (Nat × Nat) := []
  /-- the `cyc` in which the rewind mark froze (R291) -/
  frozeAt : Option Nat := none
  deriving DecidableEq, Repr

/-! ## Lace unit (06_codeword.md) -/

/-- A slot of a stripe. -/
structure LSlot where
  /-- channel -/
  ch : Nat
  /-- place that holds its tile -/
  place : Nat
  /-- all its bytes have landed -/
  landed : Bool
  /-- tile address after program pass, 0xFFFFFFFF before -/
  taddr : Nat
  /-- its tile has vanished and the next landing tile takes the slot (06 R208) -/
  free : Bool := false
  deriving DecidableEq, Repr

/-- A stripe that is open, or closed with parity tiles or its record still to come (06 R204 to R211). -/
structure Stripe where
  /-- stripe number -/
  num : Nat
  /-- profile -/
  prof : Nat
  /-- WIDTH -/
  width : Nat
  /-- PARITY -/
  parity : Nat
  /-- channel mask -/
  mask : Nat
  /-- accumulator set -/
  set : Nat
  /-- hoop whose slots its parity tiles take -/
  hoop : Nat
  /-- data slots taken, slot 0 first -/
  slots : List LSlot := []
  /-- core-cycle counter of the last landing -/
  last : Nat := 0
  /-- a close has been requested: 0 full, 1 short, 2 seal -/
  want : Option Nat := none
  /-- CLOSE of a closed stripe -/
  closed : Option Nat := none
  /-- parity copies pending: row and channel -/
  copies : List (Nat × Nat) := []
  /-- parity slots: row, channel, place and address after pass -/
  pslots : List (Nat × LSlot) := []
  /-- the parity tiles are not written (06 R211) -/
  noParity : Bool := false
  /-- number of data slots of this block: WIDTH − PARITY, or its share in a cascade profile (16 R460) -/
  cap : Nat
  /-- number of this block's first slot -/
  base : Nat := 0
  /-- the profile is a cascade profile (16 R458) -/
  casc : Bool := false
  /-- rows whose PARTIAL has been sent, or has arrived at the holder (16 R461) -/
  rows : List Nat := []
  /-- STRIPE_DONE has arrived or has been sent (16 R462) -/
  fin : Bool := false
  deriving DecidableEq, Repr

/-- The lace unit. -/
structure LaceS where
  /-- stripes, oldest first -/
  stripes : List Stripe := []
  /-- accumulator sets in use -/
  used : List Nat := []
  /-- vanished tiles whose bytes are still to be removed: channel, place and bytes landed (06 R208) -/
  cancels : List (Nat × Nat × Nat) := []
  /-- accumulator bytes: key set × 294,912 + k × 73,728 + span byte -/
  acc : Tab Byte := []
  deriving DecidableEq, Repr

/-! ## Decoder pool (06 R194 to R199) -/

/-- What a decoder-buffer place serves. -/
inductive DUse where
  /-- free -/
  | free
  /-- a ring's CHAN descriptor -/
  | chan (ring : Nat)
  /-- tile `k` of read request `id` -/
  | read (id k : Nat)
  /-- a shadow probe -/
  | shadow (ch : Nat)
  /-- a patrol read -/
  | patrol
  /-- a ladder step of recovery request `id`, for the group of plane `p` -/
  | ladder (id p : Nat)
  /-- survivor slot `j` of recovery request `id` -/
  | survivor (id j : Nat)
  /-- neighbour `t` of recovery request `id` -/
  | nbr (id t : Nat)
  /-- read of slot `i` of an almanac LOAD -/
  | almanac (i : Nat)
  /-- read of block set `i` of a ledger recovery -/
  | ledger (i : Nat)
  /-- BLANK_VERIFY `j` of a ledger recovery -/
  | blank (j : Nat)
  deriving DecidableEq, Repr

/-- A decode job (06 R195). -/
structure Job where
  /-- place -/
  place : Nat
  /-- codeword of the tile -/
  cw : Nat
  /-- byte offset of its raw bytes in the place -/
  off : Nat
  /-- three strobes -/
  soft : Bool
  /-- magnitude of a hard read -/
  mag : Nat
  /-- tile address read from -/
  taddr : Nat
  /-- ladder step -/
  step : Nat
  /-- cap of the iterations -/
  cap : Nat
  /-- first queue -/
  urgent : Bool
  deriving DecidableEq, Repr

/-- A codeword whose bytes, and every strobe asked for, are in the place (06 R195). -/
structure DLand where
  /-- its read descriptor -/
  desc : Desc
  /-- codeword of the tile -/
  cw : Nat
  deriving DecidableEq, Repr

/-- The decoder pool. -/
structure DecS where
  /-- landed codewords, oldest first -/
  landed : List DLand := []
  /-- use of each place -/
  places : Tab DUse := []
  /-- bytes of the places: key place × 131,072 + offset (14 R408) -/
  buf : Tab Byte := []
  /-- result words: key place × 16 + codeword (07 R222) -/
  result : Tab Word := []
  /-- error counts of shadow probes: key place × 4 + strobe (07 R220) -/
  shadow : Tab Nat := []
  /-- first queue -/
  hi : List Job := []
  /-- second queue -/
  lo : List Job := []
  /-- running jobs by engine -/
  run : Tab (Option Job) := []
  deriving DecidableEq, Repr

/-! ## Recovery engine (07_read_recovery.md) -/

/-- A group of failing codewords of one plane (07 R227). -/
structure LGroup where
  /-- plane -/
  plane : Nat
  /-- failing codewords -/
  cws : List Nat
  /-- step run last or running -/
  step : Nat
  /-- a step is running -/
  busy : Bool
  /-- its place, while a step runs or its strobes are kept -/
  place : Option Nat
  /-- USC sums at steps 0 to 2, in order; none for a step whose read gave PHY_ERR -/
  usc : List (Option Nat)
  /-- reference sets used at steps 0 to 2, in order (07 R226) -/
  sets : List Nat := []
  /-- codewords of the step's read, in the order of their strobes in the place -/
  asked : List Nat := []
  deriving DecidableEq, Repr

/-- A lace reconstruction (07 R231 to R235). -/
structure ReconS where
  /-- stripe record in use -/
  stripe : Nat
  /-- WIDTH -/
  width : Nat
  /-- PARITY -/
  parity : Nat
  /-- addresses of the slots -/
  addrs : List Nat
  /-- slot of the failing tile -/
  slot : Nat
  /-- codewords to rebuild -/
  mask : Nat
  /-- accumulator set -/
  set : Nat
  /-- survivors still to end -/
  left : List Nat
  /-- survivors still to be issued -/
  todo : List Nat
  /-- lost slots -/
  lost : List Nat
  /-- parity rows that passed -/
  rows : List Nat
  /-- members that have not answered -/
  peers : List Nat := []
  /-- profile of the record -/
  prof : Nat := 0
  deriving DecidableEq, Repr

/-- Who waits for a recovery request. -/
inductive RWho where
  /-- a ring's CHAN descriptor, with the result half-words of its own read -/
  | chan (desc : Desc) (res : List Half)
  /-- tile `k` of read request `id`, in a place -/
  | read (id k place : Nat)
  /-- survivor slot `j` of request `id`, in a place -/
  | survivor (id j place : Nat)
  /-- member `m` of a cascade, which has sent a RECON_REQ (16 R464) -/
  | remote (m : Nat)
  /-- slot `i` of an almanac LOAD, in a place (07 R239) -/
  | almanac (i place : Nat)
  /-- block set `i` of a ledger recovery, in a place (13 R402) -/
  | ledger (i place : Nat)
  deriving DecidableEq, Repr

/-- A request of the recovery engine (07 R227). -/
structure RReq where
  /-- number -/
  id : Nat
  /-- who waits, the first one's place is the request's place -/
  who : List RWho
  /-- tile address -/
  taddr : Nat
  /-- TLC -/
  tlc : Bool
  /-- whole tile: a READ_TILE -/
  tile : Bool
  /-- codewords covered -/
  mask : Nat
  /-- tile number, 0x7FFFFFFF when unknown -/
  tileno : Nat
  /-- stripe hint -/
  hint : Nat
  /-- REFSET of step 0 -/
  refset : Nat
  /-- place of the request -/
  place : Nat
  /-- groups still failing -/
  groups : List LGroup
  /-- codewords that need reconstruction -/
  dead : List Nat := []
  /-- deepest step -/
  deep : Nat := 0
  /-- reconstruction -/
  recon : Option ReconS := none
  /-- the neighbour search has begun (07 R231) -/
  searched : Bool := false
  /-- neighbours still to be examined (07 R231) -/
  probes : List Nat := []
  /-- neighbours looked up: tile number and address -/
  answers : List (Nat × Nat) := []
  /-- stripe numbers found by the neighbours -/
  found : List Nat := []
  /-- record numbers still to be examined about a number found (07 R231) -/
  nums : List Nat := []
  /-- the stripe record that is examined: its number, and its bytes once they have been read -/
  rd : Option (Nat × Option (List Byte)) := none
  deriving DecidableEq, Repr

/-- A failing read that waits for the engine. -/
structure RWait where
  /-- who waits -/
  who : RWho
  /-- tile address -/
  taddr : Nat
  /-- TLC -/
  tlc : Bool
  /-- whole tile -/
  tile : Bool
  /-- codewords covered -/
  mask : Nat
  /-- tile number -/
  tileno : Nat
  /-- stripe hint -/
  hint : Nat
  /-- REFSET of step 0 -/
  refset : Nat
  /-- its read ended PHY_ERR: all its codewords count as failed -/
  phy : Bool := false
  deriving DecidableEq, Repr

/-- A SAVE that runs (07 R238). -/
structure SaveS where
  /-- SEQ of the record -/
  seq : Nat
  /-- the record, as its contents stood at the write of SAVE -/
  bytes : List Byte
  /-- channels whose slot block set is being erased -/
  erase : List Nat := []
  /-- programs issued: channel, place (none when the erase failed or the channel is absent) and outcome -/
  progs : List (Nat × Option Nat × Option Bool) := []
  deriving DecidableEq, Repr

/-- The search of a LOAD on one slot of one channel (07 R239). -/
structure LoadSlot where
  /-- pages below are not erased -/
  lo : Nat := 0
  /-- the page is erased, or the end -/
  hi : Nat
  /-- pages examined for a record -/
  seen : Nat := 0
  /-- a read is on its way -/
  busy : Bool := false
  /-- the first valid record -/
  record : Option (List Byte) := none
  /-- the slot has ended -/
  fin : Bool := false
  deriving DecidableEq, Repr

/-- What a ledger recovery has found on one block set of a channel (13_power_holdup.md R402). -/
structure LedgSlot where
  /-- channel -/
  ch : Nat
  /-- block set: true for B -/
  blk : Bool
  /-- positions below are not erased -/
  lo : Nat := 0
  /-- the position is erased, or the end -/
  hi : Nat
  /-- positions read for their entries -/
  seen : Nat := 0
  /-- a read is on its way -/
  busy : Bool := false
  /-- 64-byte entries kept, byte 0 in bits [7:0] -/
  ents : List (BitVec 512) := []
  deriving DecidableEq, Repr

/-- The BLANK_VERIFY of an open intent (13 R402, R403). -/
structure LedgBlank where
  /-- channel -/
  ch : Nat
  /-- the intent's entry -/
  ent : LedgEnt
  /-- the descriptor is on its way -/
  busy : Bool := false
  /-- outcome: 0 PASS, 1 BLANK_FAIL, 2 NOT_CHECKED -/
  res : Option Nat := none
  deriving DecidableEq, Repr

/-- A ledger recovery that runs (13 R402). -/
structure LedgRun where
  /-- block sets of the channels it covers -/
  slots : List LedgSlot
  /-- verifies of open intents -/
  blanks : List LedgBlank := []
  /-- channels whose verifies have been made -/
  asked : List Nat := []
  /-- the results have been taken, and go to the recovery buffer -/
  took : Bool := false
  deriving DecidableEq, Repr

/-- A shadow update of this `cyc`, for a firmware write of its entry that comes behind it (07 R217). -/
structure ShadowInc where
  /-- LUN number -/
  glun : Nat
  /-- level -/
  level : Nat
  /-- increment -/
  inc : Int
  /-- core-cycle counter -/
  born : Nat
  deriving DecidableEq, Repr

/-- The recovery engine, the walkers and the almanac. -/
structure RecS where
  /-- requests held -/
  reqs : List RReq := []
  /-- failing reads that wait -/
  wait : List RWait := []
  /-- next request number -/
  nextId : Nat := 0
  /-- survivors that have passed and are to be folded: request, slot, place (07 R232) -/
  folds : List (Nat × Nat × Nat) := []
  /-- core-cycle count at which each probe that exists falls due: key (LUN number × 2 + mode) × 8 + level (07 R219) -/
  probes : Tab (Option Nat) := []
  /-- shadow updates of the `cyc` of the last one -/
  shadowNow : List ShadowInc := []
  /-- a LOAD has completed since the last reset (07 R238) -/
  loaded : Bool := false
  /-- SAVE running -/
  save : Option SaveS := none
  /-- LOAD running: slots X-A, X-B, Y-A, Y-B -/
  load : Option (List LoadSlot) := none
  /-- the record of the LOAD has been chosen and goes to its buffer -/
  loadTook : Bool := false
  /-- ledger recovery running (13 R402) -/
  ledg : Option LedgRun := none
  deriving DecidableEq, Repr

/-! ## Links (16_cascade_reflection.md) -/

/-- A link record (16 R452), without its CRC. -/
structure LRec where
  /-- TYPE -/
  typ : Nat
  /-- SRC -/
  src : Nat := 0
  /-- DST -/
  dst : Nat := 0
  /-- BCAST -/
  bcast : Bool := false
  /-- SSEQ -/
  sseq : Nat := 0
  /-- ARG: the value of header bits [31:14] -/
  arg : Nat := 0
  /-- payload bytes, without padding -/
  payload : List Byte := []
  deriving DecidableEq, Repr

/-- A record sent and kept until it is acknowledged (16 R454). -/
structure LKeep where
  /-- the record -/
  r : LRec
  /-- core-cycle counter when it was sent last -/
  sent : Nat
  /-- times it has been resent -/
  tries : Nat := 0
  deriving DecidableEq, Repr

/-- The enabled link port: cascade or reflect (16 R449). -/
structure LinkS where
  /-- next SSEQ of each lane -/
  nseq : Tab Nat := []
  /-- next SSEQ expected: key origin × 2 + lane -/
  exp : Tab Nat := []
  /-- kept records of lanes 0 and 1, oldest first -/
  keep : List LKeep := []
  /-- new records that wait for room in their lane's buffer, in order -/
  wait : List LRec := []
  /-- what has been sent since reset, newest first (the model's own observation, log entry 14) -/
  tx : List LRec := []
  /-- members whose HB has arrived -/
  seen : List Nat := []
  /-- own HB has returned -/
  own : Bool := false
  /-- stripe numbers issued or received and not used, by profile (R459) -/
  nums : Tab (List Nat) := []
  /-- cascade profiles that firmware has to enable again (R465) -/
  barred : List Nat := []
  /-- PARTIAL rows that wait for the share to close: stripe, row, CLOSE, bytes (R461) -/
  parts : List (Nat × Nat × Nat × List Byte) := []
  /-- tile records that wait for the acknowledgement of their MAP_UPD: its SSEQ and the record (R468) -/
  held : List (Nat × TileRec) := []
  /-- mirrored open intents of each channel (R469) -/
  intents : Tab (List Intent) := []
  /-- mirrored done erases: channel, LUN and block (R471) -/
  erased : List (Nat × Nat × Nat) := []
  /-- highest mirrored passed sequence of each hoop with its tile address (R471) -/
  passed : Tab (Nat × Nat) := []
  /-- targets that the mirrored block of a channel lists (R469, R471) -/
  ces : Tab Nat := []
  /-- core-cycle counter at PEER_LOST -/
  lostAt : Nat := 0
  /-- a takeover runs -/
  tko : Bool := false
  /-- channels whose grant it awaits, once it has claimed them (R471) -/
  tkoLeft : Option (List Nat) := none
  deriving DecidableEq, Repr

/-! ## Lanes and spools (08_ingest_spool.md) -/

/-- Framing state of a lane (08 R243). -/
inductive FrameSt where
  /-- OUTSIDE -/
  | outside
  /-- IN_TILE -/
  | inTile
  /-- EXCESS -/
  | excess
  /-- DISCARD -/
  | discard
  deriving DecidableEq, Repr

/-- A spool item (08, "Items and capacity"); its stamp, for a SOT item, is kept beside it (08 R245). -/
structure Item where
  /-- value -/
  v : BitVec 64
  /-- tag: 0 DATA, 1 SOT, 2 EOT, 3 control -/
  tag : BitVec 2
  /-- TIME and ANGLE of a SOT item -/
  stamp : Nat × Nat := (0, 0)
  /-- unusable: its block's drain read failed, or its words read uncorrectable when it was spilled (08 R253) -/
  bad : Bool := false
  /-- a SOT item that only ends the tile in progress: its header was not taken (08 R243, R244, R262) -/
  rej : Bool := false
  /-- the `cyc` of its push: a pop sees it from the next one (08 R249) -/
  born : Option Nat := none
  deriving DecidableEq, Repr

/-- What a flit did to the framing logic of its lane, for a DROP of the same `cyc` (08 R259). -/
structure FlitNote where
  /-- `cyc` of the transfer -/
  born : Nat
  /-- framing state before -/
  st : FrameSt
  /-- payload flits before -/
  flits : Nat
  /-- it pushed an item -/
  pushed : Bool
  /-- it opened a tile -/
  opened : Bool
  deriving DecidableEq, Repr

/-- The tile assembler of a lane (08 R255). -/
inductive AsmSt where
  /-- waiting for a SOT item -/
  | idle
  /-- a header waits for its channel and place -/
  | header
  /-- a tile lands in a place -/
  | landing
  /-- the last byte has landed: filler and trailer are to be written -/
  | ending
  /-- a tile of a closed hoop is discarded (09 R287) -/
  | dropping
  /-- items are discarded up to the next usable SOT item (08 R253) -/
  | skipping
  deriving DecidableEq, Repr

/-- A lane with its spool and assembler. -/
structure LaneS where
  /-- framing state -/
  st : FrameSt := .outside
  /-- `LNn_LINKUP` -/
  linkup : Bool := false
  /-- ENABLE in effect (08 R264) -/
  enabled : Bool := false
  /-- payload flits of the tile in progress -/
  flits : Nat := 0
  /-- payload flits its LENGTH asks for -/
  want : Nat := 0
  /-- a WITHDRAW waits for a place (08 R260) -/
  wd : Bool := false
  /-- the flit that transferred last -/
  note : Option FlitNote := none
  /-- the `cyc` of the last DROP of a tile (08 R259) -/
  dropAt : Option Nat := none
  /-- head, oldest first -/
  head : List Item := []
  /-- blocks of the middle tier in external memory: index of the oldest, and number held -/
  midAt : Nat := 0
  /-- blocks held -/
  midN : Nat := 0
  /-- stamps of the SOT items in the middle tier, oldest first -/
  midStamps : List (Nat × Nat) := []
  /-- SOT items of each block held, oldest first -/
  midSots : List Nat := []
  /-- items of the middle tier that were unusable when they were spilled: block index × 496 + item -/
  midBad : List Nat := []
  /-- SOT items of the middle tier whose header was not taken, numbered in the same way -/
  midRej : List Nat := []
  /-- spilled items whose write the port has not accepted: their head places are not free (08 R251) -/
  spilling : Nat := 0
  /-- position in the head that the next item takes, 0 to 24,575 -/
  headAt : Nat := 0
  /-- position in the tail that the next item takes, 0 to 7,167 -/
  tailAt : Nat := 0
  /-- drain reads outstanding -/
  drains : Nat := 0
  /-- tail, oldest first -/
  tail : List Item := []
  /-- the `cyc` of a pop from a full spool whose place no push has taken (08 R249) -/
  freed : Option Nat := none
  /-- assembler -/
  asm : AsmSt := .idle
  /-- unusable items follow the tile that is ending: the assembler discards up to the next usable SOT item (08 R253) -/
  skip : Bool := false
  /-- header and stamp of the assembler's tile -/
  hdr : Item := { v := 0, tag := 1 }
  /-- channel of the tile's place -/
  ch : Nat := 0
  /-- place -/
  place : Nat := 0
  deriving DecidableEq, Repr

/-- The spool budget (08 R254). -/
structure SpoolS where
  /-- tokens held, in 1,024ths of a line -/
  tokens : Nat := 0
  /-- lane that was served last -/
  last : Nat := 11
  deriving DecidableEq, Repr

/-! ## Rings and DMA (10_rings_dma.md) -/

/-- A ring beside its context (10 R295 to R300). -/
structure RingS where
  /-- EN -/
  en : Bool := false
  /-- refetches of the entry at HEAD that read OWN = 0 -/
  tries : Nat := 0
  /-- entries of the fetch that is outstanding -/
  busy : Nat := 0
  /-- OWN read 0, and the refetch waits for `OWN_RETRY.WAIT` -/
  wait : Bool := false
  deriving DecidableEq, Repr

/-- A completion record waiting to be written (10 R301). -/
structure RecOut where
  /-- completion ring -/
  cq : Nat
  /-- submission ring -/
  src : Nat
  /-- DATA -/
  data : Nat
  /-- TAG -/
  tag : Nat
  /-- STATUS -/
  status : Nat
  /-- TYPE -/
  typ : Nat
  deriving DecidableEq, Repr

/-- A read request of a READ ring that runs (10 R307). -/
structure ReadReq where
  /-- number -/
  id : Nat
  /-- ring -/
  ring : Nat
  /-- TAG -/
  tag : Nat
  /-- first tile number -/
  tileno : Nat
  /-- COUNT -/
  count : Nat
  /-- DEST -/
  dest : Nat
  /-- TRL -/
  trl : Bool
  /-- HINT -/
  hint : Nat
  /-- tiles looked up and not yet issued: index and address, `none` when the lookup was lost (09 R272) -/
  found : List (Nat × Option Nat) := []
  /-- index of the tile to be issued next -/
  next : Nat := 0
  /-- tiles ended: index and status -/
  ended : List (Nat × Nat) := []
  /-- deepest ladder step -/
  deep : Nat := 0
  deriving DecidableEq, Repr

/-- Data that requester RB has to copy (10 R305, R307). -/
structure CopyS where
  /-- place -/
  place : Nat
  /-- byte ranges in the place with their destinations -/
  parts : List (Nat × Nat × Nat)
  /-- what follows: a record of a CHAN entry -/
  recOut : Option RecOut
  /-- what follows: tile `k` of read request `id` ends with a status -/
  tile : Option (Nat × Nat × Nat)
  /-- submission ring -/
  ring : Nat
  deriving DecidableEq, Repr

/-- Work of requester RB (10 R316). -/
inductive RbJob where
  /-- a copy of read data -/
  | copy (c : CopyS)
  /-- bytes for a buffer of the almanac or of the ledger recovery -/
  | write (addr : Nat) (data : List Byte)
  /-- bytes `pos` to `stop` of the grown-defect table at `addr` for a channel (05 R179) -/
  | gdt (ch addr pos stop : Nat)
  deriving DecidableEq, Repr

/-- A CHAN entry in flight whose result is copied (10 R305). -/
structure ChanRead where
  /-- ring -/
  ring : Nat
  /-- place -/
  place : Nat
  /-- DEST -/
  dest : Nat
  /-- copy asked for -/
  copy : Bool
  deriving DecidableEq, Repr

/-- State of a DMA channel (10 R318). -/
inductive DmaSt where
  /-- IDLE -/
  | idle
  /-- RUNNING -/
  | running
  /-- PAUSING -/
  | pausing
  /-- PAUSED -/
  | paused
  deriving DecidableEq, Repr

/-- A DMA channel. -/
structure DmaCh where
  /-- state -/
  st : DmaSt := .idle
  /-- descriptor: ring and 64 bytes -/
  desc : Option (Nat × List Byte) := none
  /-- steps completed -/
  prog : Nat := 0
  /-- ring served last -/
  last : Nat := 0
  /-- the index table has been checked (10 R313) -/
  checked : Bool := false
  /-- bytes of the index table whose check has been asked for -/
  tpos : Nat := 0
  /-- bytes of the index table that have been checked -/
  tgot : Nat := 0
  /-- bytes of the descriptor's data for which bursts have been issued -/
  pos : Nat := 0
  /-- the index entry of the element at `pos` has been asked for -/
  asked : Bool := false
  /-- index entry of the element at `pos` -/
  el : Option Nat := none
  /-- bytes read of the steps not yet written, of modes 4 to 6 -/
  got : List Byte := []
  /-- steps whose writes have been issued, of modes 4 to 6 -/
  out : Nat := 0
  /-- the descriptor ends with a status once its accesses have ended; with DATA, when it is not progress (R313, R317) -/
  fail : Option (Nat × Option Nat) := none
  deriving DecidableEq, Repr

/-- The ring unit and the DMA engine. -/
structure RngS where
  /-- rings -/
  rings : Tab RingS := []
  /-- CHAN entries fetched, in order: ring and 64 bytes -/
  chanq : List (Nat × List Byte) := []
  /-- READ entries fetched, in order -/
  readq : List (Nat × List Byte) := []
  /-- DMA entries fetched, in order -/
  dmaq : List (Nat × List Byte) := []
  /-- read requests -/
  reads : List ReadReq := []
  /-- next read request number -/
  nextRead : Nat := 0
  /-- CHAN reads in flight -/
  chanReads : List ChanRead := []
  /-- work of RB, in order -/
  rb : List RbJob := []
  /-- completion records waiting -/
  recs : List RecOut := []
  /-- DMA channels -/
  dma : Tab DmaCh := []
  /-- requester served last: 0 to 7, 8 for RB -/
  turn : Nat := 8
  deriving DecidableEq, Repr

end Sys2Proof.Machine
end

