-- ==== Sys2Proof/Machine/State.lean ====
section
/-!
DEFINITION. The state of the block, the reasons a step can stop, and the state after reset.
-/

namespace Sys2Proof.Machine

/-- The state of the block, as plain data. -/
structure State where
  /-- commands waiting, first in, first out -/
  pending : List Instr := []
  /-- counter of free values (the model's own, log entry 3) -/
  free : Nat := 0
  /-- generation parameters -/
  gen : Gen := {}
  /-- core-cycle counter (17 R477) -/
  cyc : Nat := 0
  /-- control port and resets -/
  cp : CpS := {}
  /-- synchronised inputs and pulse lines -/
  pins : Pins := {}
  /-- register words that differ from their reset value -/
  regs : Tab Word := []
  /-- SRAM words of regions 5 and 6: key region × 2^24 + word index (14 R408) -/
  sram : Tab Strong := []
  /-- power-ups of each domain, 13 for AON, and fuse streams with repairs, 14 (the model's own, log entries 5 and 30) -/
  epochs : Tab Nat := []
  /-- external memory behind the memory ports -/
  ext : Tab Byte := []
  /-- memory ports -/
  mp : MpS := {}
  /-- power controller -/
  pwr : PwrS := {}
  /-- fault collector -/
  flt : FltS := {}
  /-- memory-integrity unit -/
  memi : MemiS := {}
  /-- angle unit and calendar -/
  ang : AngS := {}
  /-- rotor drive -/
  rot : RotS := {}
  /-- channels 0 to 47 -/
  chans : Tab ChS := []
  /-- LUNs: key channel × 16 + LUN -/
  luns : Tab LunS := []
  /-- channel groups 0 to 5 -/
  grps : Tab GrpS := []
  /-- tile-buffer bytes: key (channel × 8 + place) × 73,728 + offset (06 R182) -/
  tbuf : Tab Byte := []
  /-- map cache -/
  map : MapS := {}
  /-- streams that are enabled (09 R277) -/
  strms : Tab Bool := []
  /-- hoops 0 to 63 -/
  hoops : Tab HoopS := []
  /-- lace unit -/
  lace : LaceS := {}
  /-- decoder pool -/
  dec : DecS := {}
  /-- recovery engine, walkers, almanac -/
  rcv : RecS := {}
  /-- lanes 0 to 11 -/
  lanes : Tab LaneS := []
  /-- spool budget -/
  spool : SpoolS := {}
  /-- rings and DMA -/
  rng : RngS := {}
  /-- link port -/
  lnk : LinkS := {}
  deriving DecidableEq, Repr

/-- Reasons the machine stops with a fault: none. The spec gives every command an effect in every state (an event that cannot
occur leaves the state unchanged, log entry 1), and a lost or refused access is answered by the block itself. -/
inductive Fault where
  deriving DecidableEq, Repr

/-- Reasons a command has no meaning. -/
inductive Refusal where
  /-- Raised by `exec` for a command that has no meaning yet. Safe. -/
  | notModelled (mnemonic : String)
  deriving DecidableEq, Repr

/-- The outcome of a step of the block. -/
abbrev Out := Host.Outcome State Fault Refusal

/-- The machine right after cold reset: every register at its reset value, AON alone powered, the fuse stream open. -/
def State.reset : State := {}

end Sys2Proof.Machine
end

