-- ==== Sys2Proof/Machine/Regs.lean ====
section
/-!
DEFINITION. Reading and writing register words and fields, the page a control-port address lies in, event bits
and counts at fault sources (00_scope.md R14 to R19; 17_bringup_registers.md R478, R480, R482; 15_faults.md R431, R432).
-/

namespace Sys2Proof.Machine

/-- The pages of the control window (17 R482). -/
inductive Page where
  | sys | pwr | fault | memi | dma | ring | strm | hoop | map | spool | lace | dec | angle | rotor | xlink | refl | cal
  | lane | ch | seqg
  deriving DecidableEq, Repr

/-- First byte address of a page with instance `n` (17 R482). -/
def pageBase (p : Page) (n : Nat) : Nat :=
  match p with
  | .sys => 0x0 | .pwr => 0x2000 | .fault => 0x3000 | .memi => 0x4000 | .dma => 0x5000 | .ring => 0x6000
  | .strm => 0x7000 | .hoop => 0x8000 | .map => 0x9000 | .spool => 0xA000 | .lace => 0xB000 | .dec => 0xC000
  | .angle => 0xD000 | .rotor => 0xE000 | .xlink => 0xF000 | .refl => 0x10000 | .cal => 0x11000
  | .lane => 0x20000 + n * 0x1000 | .ch => 0x30000 + n * 0x1000 | .seqg => 0x60000 + n * 0x1000

/-- The page and instance that the 4 KiB page number `k` of the control window holds in the largest configuration. -/
def pageOfIndex (k : Nat) : Option (Page × Nat) :=
  match k with
  | 0x0 => some (.sys, 0) | 0x2 => some (.pwr, 0) | 0x3 => some (.fault, 0) | 0x4 => some (.memi, 0)
  | 0x5 => some (.dma, 0) | 0x6 => some (.ring, 0) | 0x7 => some (.strm, 0) | 0x8 => some (.hoop, 0)
  | 0x9 => some (.map, 0) | 0xA => some (.spool, 0) | 0xB => some (.lace, 0) | 0xC => some (.dec, 0)
  | 0xD => some (.angle, 0) | 0xE => some (.rotor, 0) | 0xF => some (.xlink, 0) | 0x10 => some (.refl, 0)
  | 0x11 => some (.cal, 0)
  | _ =>
    if 0x20 ≤ k ∧ k < 0x2C then some (.lane, k - 0x20)
    else if 0x30 ≤ k ∧ k < 0x60 then some (.ch, k - 0x30)
    else if 0x60 ≤ k ∧ k < 0x66 then some (.seqg, k - 0x60)
    else none

/-- The register rows of a page (17 R482). -/
def pageRows (p : Page) : List RegRow :=
  match p with
  | .sys => rowsSys | .pwr => rowsPwr | .fault => rowsFault | .memi => rowsMemi | .dma => rowsDma | .ring => rowsRing
  | .strm => rowsStrm | .hoop => rowsHoop | .map => rowsMap | .spool => rowsSpool | .lace => rowsLace | .dec => rowsDec
  | .angle => rowsAngle | .rotor => rowsRotor | .xlink => rowsXlink | .refl => rowsRefl | .cal => rowsCal
  | .lane => rowsLane | .ch => rowsCh | .seqg => rowsSeqg

/-- The words of the common header that a write can change or that hold events (R19): EVT_RAW, EVT_EN, EVT_ROUTE. -/
def rowsCommon : List RegRow := [
  ⟨0x10, 0, 1, 0, 0, 0, 0, 0, 0⟩,
  ⟨0x14, 0, 1, 0xFFFFFFFF, 0, 0, 0, 0, 0⟩,
  ⟨0x20, 0, 1, 0xFFFFFFFF, 0, 0, 0, 0, 0⟩]

/-- Does the row hold the word at offset `o`? -/
def RegRow.holds (r : RegRow) (o : Nat) : Bool :=
  if r.count = 1 then o = r.off
  else decide (r.off ≤ o) && decide ((o - r.off) % r.stride = 0) && decide ((o - r.off) / r.stride < r.count)

/-- The row of the word at byte address `a`, with its page and instance. -/
def rowAt (a : Nat) : Option (Page × Nat × RegRow) :=
  match pageOfIndex (a / 0x1000) with
  | none => none
  | some (p, n) => ((rowsCommon ++ pageRows p).find? (fun r => r.holds (a % 0x1000))).map (fun r => (p, n, r))

/-- Defaults of `FAULT.SRC_CFG[s]` as base, promoted class, WIN, THR, ROT (15 R446); a reserved source reads 0 (R431). -/
def srcDefault (s : Nat) : Nat × Nat × Nat × Nat × Nat :=
  if s = 0 then (1, 1, 1000, 1, 0)
  else if s = 1 then (2, 2, 1000, 1, 0)
  else if s = 2 then (1, 2, 1000, 2, 0)
  else if s = 3 then (0, 1, 10000, 3, 0)
  else if s = 4 then (2, 2, 1000, 1, 0)
  else if s = 5 then (1, 1, 1000, 1, 0)
  else if s = 6 then (0, 2, 1000, 2, 1)
  else if s = 7 then (2, 2, 60000, 1, 0)
  else if s = 8 then (3, 3, 0, 0, 0)
  else if s = 9 then (0, 1, 1000, 2, 0)
  else if s = 10 then (0, 2, 1000, 2, 0)
  else if s = 11 then (0, 1, 10000, 2, 0)
  else if s = 12 then (0, 1, 1000, 3, 0)
  else if s = 13 then (1, 2, 1000, 2, 1)
  else if s = 14 then (0, 1, 1, 255, 0)
  else if s = 15 ∨ s = 16 then (0, 1, 1000, 200, 0)
  else if s = 17 then (0, 1, 10000, 3, 0)
  else if s = 18 then (1, 2, 10000, 2, 0)
  else if s = 19 then (0, 1, 1000, 2, 0)
  else if s = 20 then (1, 2, 1000, 1, 0)
  else if s ≤ 27 then (0, 1, 1000, 100, 0)
  else if s ≤ 34 then (if (s - 28) % 2 = 0 ∧ s ≠ 34 then (1, 2, 1000, 3, 0) else (2, 3, 1000, 3, 0))
  else if s = 35 then (1, 1, 60000, 1, 0)
  else if s = 36 then (2, 2, 60000, 1, 0)
  else if s = 37 then (0, 1, 10000, 3, 0)
  else if s = 38 ∨ s = 39 then (1, 2, 1000, 8, 0)
  else if s = 40 then (1, 2, 1000, 2, 0)
  else if s = 41 then (1, 1, 1000, 1, 0)
  else if s = 42 then (0, 1, 1000, 16, 0)
  else if s ≤ 48 then (1, 2, 1000, 2, 0)
  else if s ≤ 60 then (1, 2, 1000, 4, 0)
  else if s = 61 then (1, 1, 1000, 1, 0)
  else if s = 62 then (1, 2, 1000, 16, 0)
  else if s = 63 ∨ s = 65 then (0, 1, 1000, 16, 0)
  else if s = 64 ∨ s = 66 ∨ s = 67 then (2, 2, 1000, 1, 0)
  else if s < 80 then (0, 0, 0, 0, 0)
  else if s < 224 then
    (if (s - 80) % 3 = 0 then (0, 1, 1000, 32, 0) else if (s - 80) % 3 = 1 then (0, 1, 10000, 16, 0) else (0, 1, 10000, 8, 0))
  else (0, 1, 1000, 1, 0)

/-- The word of a `SRC_CFG` default (15 R446, R448). -/
def srcCfgReset (s : Nat) : Word :=
  let (b, p, w, t, r) := srcDefault s
  BitVec.ofNat 32 (w * 65536 + t * 256 + p * 32 + b * 8 + r)

/-- The value of the word at byte address `a` after cold reset (R18). -/
def resetVal (a : Nat) : Word :=
  if 0x3400 ≤ a ∧ a < 0x3C00 ∧ a % 8 = 0 then srcCfgReset ((a - 0x3400) / 8)
  else match rowAt a with
    | none => 0
    | some (_, _, r) => r.reset

/-- The stored word at byte address `a`. -/
def State.rd (s : State) (a : Nat) : Word := tget resetVal s.regs a

/-- Store a word at byte address `a`. -/
def State.wr (s : State) (a : Nat) (v : Word) : State := { s with regs := tput resetVal s.regs a v }

/-- The value of a field. -/
def State.get (s : State) (f : Fld) : Nat := bits (s.rd f.addr).toNat f.lsb f.wid

/-- The word `w` with the field set to `v` modulo its width. -/
def putBits (w : Word) (lsb wid v : Nat) : Word :=
  let m : Word := BitVec.ofNat 32 ((2 ^ wid - 1) * 2 ^ lsb)
  (w &&& ~~~m) ||| BitVec.ofNat 32 (v % 2 ^ wid * 2 ^ lsb)

/-- Set a field. -/
def State.set (s : State) (f : Fld) (v : Nat) : State := s.wr f.addr (putBits (s.rd f.addr) f.lsb f.wid v)

/-- The largest value of a field. -/
def Fld.max (f : Fld) : Nat := 2 ^ f.wid - 1

/-- Add `k` to a saturating counter. -/
def State.bumpBy (s : State) (f : Fld) (k : Nat) : State := s.set f (sat f.max (s.get f + k))

/-- Count one in a saturating counter. -/
def State.bump (s : State) (f : Fld) : State := s.bumpBy f 1

/-- Count one in a counter that wraps. -/
def State.bumpWrap (s : State) (f : Fld) : State := s.set f (s.get f + 1)

/-- Is a one-bit field 1? -/
def State.flag (s : State) (f : Fld) : Bool := s.get f = 1

/-! ## Domains -/

/-- The `PD_REQ` bit of the domain that holds a page; 13 for AON (01 R25, 02 power-domain signals). DESIGN CHOICE (log entry 50):
the shared registers of the `SPOOL` page (header, events, BW) lie in CORE; the spec places only the registers of a lane. -/
def pageDom (p : Page) (n : Nat) : Nat :=
  match p with
  | .sys | .pwr | .fault | .angle | .rotor | .cal => 13
  | .lane => 3 - n / 4
  | .ch => 9 - n / 8
  | .seqg => 9 - n
  | _ => 0

/-- The domain of channel `c`. -/
def chDom (c : Nat) : Nat := 9 - c / 8

/-- The domain of lane `n`. -/
def laneDom (n : Nat) : Nat := 3 - n / 4

/-- The domain of decoder engine `e`. -/
def decDom (e : Nat) : Nat := 12 - e / 8

/-- A switchable domain. -/
def State.dom (s : State) (d : Nat) : DomS := tget (fun _ => {}) s.pwr.doms d

/-- Is the domain ON or QUIESCING, so that its pages answer (13 R381)? AON always is. -/
def State.powered (s : State) (d : Nat) : Bool :=
  d = 13 || (s.dom d).st = .on || (s.dom d).st = .quiescing

/-- Is the domain ON and not quiescing, so that it takes new work (13 R381)? -/
def State.takesWork (s : State) (d : Nat) : Bool := d = 13 || (s.dom d).st = .on

/-- Is the instance present (00 R6)? -/
def State.present (s : State) (p : Page) (n : Nat) : Bool :=
  match p with
  | .lane => n < s.gen.nlane
  | .ch => n < s.gen.nch
  | .seqg => n < s.gen.nch / 8
  | .rotor => s.gen.rotor
  | .xlink => s.gen.xlink
  | .refl => s.gen.refl
  | _ => true

/-- Is the domain present (00 R6, 02 R83)? -/
def State.domPresent (s : State) (d : Nat) : Bool :=
  if d = 0 then true
  else if d ≤ 3 then (3 - d) * 4 < s.gen.nlane
  else if d ≤ 9 then (9 - d) * 8 < s.gen.nch
  else if d ≤ 12 then (12 - d) * 8 < s.gen.ndec
  else false

/-! ## Events and fault sources -/

/-- Lines in pulse mode that a raise of bit `b` of the page at `base` pulses (17 R479): enabled bit, line enabled, MODE 1. -/
def State.pulseLine (s : State) (base b : Nat) : Option Nat :=
  let en := bit (s.rd (base + 0x14)).toNat b
  let l := bits (s.rd (base + 0x20)).toNat (2 * (b / 2)) 2
  let cfg := bits (s.rd R.SYS_EVT_LINE_LINE0.addr).toNat (8 * l) 8
  if en && bit cfg 7 && bit cfg 6 then some l else none

/-- Raise event bit `b` of a page (17 R478, R479). -/
def State.raise (s : State) (p : Page) (n b : Nat) : State :=
  let base := pageBase p n
  let s := match s.pulseLine base b with
    | some l => { s with pins := { s.pins with pulse := s.pins.pulse ||| (1#4 <<< l) } }
    | none => s
  s.wr (base + 0x10) (s.rd (base + 0x10) ||| (1#32 <<< b))

/-- Is a fault source's instance present, and its number not reserved (15 R431)? -/
def State.srcPresent (s : State) (n : Nat) : Bool :=
  if n < 6 then true
  else if n < 15 then s.gen.rotor
  else if n < 43 then true
  else if n < 49 then n - 43 < s.gen.nch / 8
  else if n < 61 then n - 49 < s.gen.nlane
  else if n < 63 then true
  else if n < 65 then s.gen.xlink
  else if n < 68 then s.gen.refl
  else if n < 80 then false
  else if n < 224 then (n - 80) / 3 < s.gen.nch
  else n < 256

/-- Count one event at a source: it is on its way to the collector (15 R432). -/
def State.count (s : State) (src : Nat) (detail : Nat) : State :=
  if s.srcPresent src then
    { s with flt := { s.flt with inflight := s.flt.inflight ++ [⟨src, BitVec.ofNat 32 detail, s.cyc, false⟩] } }
  else s

/-- Count an uncorrectable word that a DUMP has read (15 R447). -/
def State.countDump (s : State) (src : Nat) (detail : Nat) : State :=
  if s.srcPresent src then
    { s with flt := { s.flt with inflight := s.flt.inflight ++ [⟨src, BitVec.ofNat 32 detail, s.cyc, true⟩] } }
  else s

/-! ## The control port -/

/-- Lane whose registers of the `SPOOL` page an address names: they lie in its LANE domain (08 R266). -/
def spoolLane (a : Nat) : Option Nat := if 0xA100 ≤ a ∧ a < 0xA280 then some ((a - 0xA100) / 0x20) else none

/-- The domain in which an address of the control window lies: the windows in CORE, the control stores in CHAN groups
(02 R47; 17 R482; 01 R43). -/
def State.addrDom (s : State) (a : Nat) : Option Nat :=
  match spoolLane a with
  | some n => if n < s.gen.nlane then some (laneDom n) else none
  | none =>
  if 0x80000 ≤ a ∧ a < 0xE0000 then
    (if (a - 0x80000) / 0x10000 < s.gen.nch / 8 then some (9 - (a - 0x80000) / 0x10000) else none)
  else if 0x100000 ≤ a ∧ a < 0x204000 then some 0
  else if 0x210000 ≤ a ∧ a < 0x211800 then some 0
  else if 0x220000 ≤ a ∧ a < 0x250000 then (if (a - 0x220000) / 0x1000 < s.gen.nch then some 0 else none)
  else match pageOfIndex (a / 0x1000) with
    | none => none
    | some (p, n) => if s.present p n then some (pageDom p n) else none

/-- An access to a powered-down domain: OFF_ADDR, event OFF_ACCESS, no other effect (02 R48). DEDUCED: the address recorded has its bits
[1:0] 0, since the port ignores them (log entry 33). -/
def State.offAccess (s : State) (a : Nat) : State :=
  (s.set R.SYS_OFF_ADDR_ADDR (a / 4 * 4)).raise .sys 0 0

/-- Can the control port take an access (02 R50, R78)? It stays busy while a customer-region write is held (04 R142). -/
def State.cpReady (s : State) : Bool := s.cp.ready && s.cp.rst = .none && s.cp.hold.isNone

/-- A control-port write of `data` to `a` whose effect is `f`: held while the port is not ready (R50), without effect on
an absent page (R7), OFF_ACCESS on a powered-down domain (R48). -/
def State.cpWr (s : State) (a : Nat) (be : BitVec 4) (data : Word) (f : State → State) : State :=
  if !s.cpReady then { s with cp := { s.cp with held := some ⟨true, BitVec.ofNat 24 a, be, data⟩ } }
  else match s.addrDom a with
    | none => s
    | some d => if s.powered d then f s else s.offAccess a

end Sys2Proof.Machine
end

