-- ==== Sys2Proof/Machine/Sram.lean ====
section
/-!
DEFINITION. SRAM reads and writes with their codes, reports, logs, remap tables and injections
(14_memory_integrity.md R408 to R423, R428).
-/

namespace Sys2Proof.Machine

/-- Key of a word: region × 2^24 + word index. -/
def skey (r w : Nat) : Nat := r * 0x1000000 + w

/-- Word index of word `w` of table `t` of region 5 (R408). -/
def tabWord (t w : Nat) : Nat := 0x800000 + t * 0x10000 + w

/-- First word of log entry `i` of region `r` in table 4 of region 5, of two (R408; log entry 29). -/
def logIx (r i : Nat) : Nat := tabWord 4 ((r * 16 + i) * 2)

/-- First word of remap entry `k` of region `r` in table 4 of region 5, of four (R408; log entry 29). -/
def remapIx (r k : Nat) : Nat := tabWord 4 (256 + (r * 8 + k) * 4)

/-- First word of the trims of target `c` of channel `n` in table 3 of region 5: nine lanes and the reference code, of sixteen
(R408; log entry 29). -/
def trimIx (n c : Nat) : Nat := tabWord 3 ((n * 8 + c) * 16)

/-- Domain of a word of region 5 or 6: tables 0, 1 and 5 of region 5 and its own remap table lie in AON, the rest in CORE; region 6
in the CHAN group of its store (01 R43; R421). -/
def wordDom (r w : Nat) : Nat :=
  if r = 6 then 9 - w / 16384
  else if 0x800000 ≤ w then
    (let t := (w - 0x800000) / 0x10000
     if t = 0 ∨ t = 1 ∨ t = 5 ∨ (remapIx 5 0 ≤ w ∧ w < remapIx 6 0) then 13 else 0)
  else 0

/-- Domain of a word of regions 0 to 4 (R408; 01 R25). -/
def bufDom (r w : Nat) : Nat :=
  match r with
  | 0 => chDom (w / 73728)
  | 1 => laneDom (w / 65536)
  | 2 => decDom (w / 16384)
  | _ => 0

/-- Domain of a word of any region. -/
def anyDom (r w : Nat) : Nat := if r = 5 ∨ r = 6 then wordDom r w else bufDom r w

/-- Is a word kept as its value, where its unit has it, and an error pattern: those of regions 0 to 4 and of tables 3 and 4 of
region 5? The others are kept as they are stored. -/
def overlay (r w : Nat) : Bool := decide (r < 5) || (r = 5 && decide (tabWord 3 0 ≤ w) && decide (w < tabWord 5 0))

/-- Is a word of region 5 in the guard bitmap, which hardware writes with ones at power-up (17 R475)? -/
def guardWord (r w : Nat) : Bool := r = 5 && decide (0x44000 ≤ w) && decide (w < 0x44600)

/-- Does a repair applied to the SRAM hold a word (R425)? -/
def State.repaired (s : State) (r w : Nat) : Bool := s.memi.fuse.any (fun v => bits v.toNat 28 3 = r && Config.fuseHits v (skey r w))

/-- What a word holds while nothing has written it since its domain was powered (R415), or since a repair took its row or column
(R425): a free value (log entries 5 and 30). -/
def State.rawInit (s : State) (r w : Nat) : BitVec 72 :=
  Config.sramInit (tget (fun _ => 0) s.epochs (anyDom r w)) (if s.repaired r w then tget (fun _ => 0) s.epochs 14 else 0) (skey r w)

/-- The words that a repair holds lose what was written in them (R425). -/
def State.dropRepaired (s : State) : State :=
  { s with sram := s.sram.filter (fun p => !s.repaired (p.1 / 0x1000000) (p.1 % 0x1000000)) }

/-- What the SRAM cell of a word holds: what was written; else ones in the guard bitmap (17 R475), a free value elsewhere
(R415, log entry 5). -/
def State.cell (s : State) (r w : Nat) : Strong :=
  (tfind s.sram (skey r w)).getD (if guardWord r w then strongEnc 0xFFFFFFFF else (s.rawInit r w).extractLsb' 0 39)

/-- Remap entries of a region: number and entry, in order. -/
def State.remaps (s : State) (r : Nat) : List (Nat × Remap) :=
  (List.range 8).filterMap (fun k => (tget (fun _ => none) s.memi.remap (r * 8 + k)).map (fun e => (k, e)))

/-- The remap entry that holds a word (R419). -/
def State.remapOf (s : State) (r w : Nat) : Option (Nat × Remap) := (s.remaps r).find? (fun p => p.2.waddr = w)

/-- The stored word that accesses reach: the spare of a remapped word, else the cell (R419). -/
def State.stored (s : State) (r w : Nat) : Strong :=
  match s.remapOf r w with
  | some (_, e) => e.spare.getD (s.cell r w)
  | none => s.cell r w

/-- The data a read of the word delivers (R411). -/
def State.peek (s : State) (r w : Nat) : Word := strongRead (s.stored r w)

/-- Is the word uncorrectable? -/
def State.bad (s : State) (r w : Nat) : Bool := strongClass (s.stored r w) = .bad

/-- Milliseconds on the core-cycle counter. -/
def State.ms (s : State) : Nat := s.cyc / (s.gen.mhz * 1000)

/-- Does the MEMI page answer (it lies in CORE)? -/
def State.memiOn (s : State) : Bool := s.powered 0

/-- Error pattern of a word kept with one; before the first write since its domain was powered, its raw stored bits, whose class is
that of their own syndrome (R415). A remapped word is that of its spare (R419). -/
def State.errOf (s : State) (r w : Nat) : BitVec 72 :=
  if rHas s.memi.written (skey r w) then tget (fun _ => 0) s.memi.err (skey r w) else s.rawInit r w

/-- Class of a word of any region. -/
def State.wclass (s : State) (r w : Nat) : SynClass :=
  if overlay r w then patternClass r (s.errOf r w) else strongClass (s.stored r w)

/-! ## Writes -/

/-- The word that a log entry of region `r` is about: that of its remap entry when its reports came from the spare (R419). -/
def State.logWord (s : State) (r : Nat) (e : CeLog) : Option Nat :=
  if e.spare then (tget (fun _ => none) s.memi.remap (r * 8 + e.waddr) : Option Remap).map (fun x => x.waddr) else some e.waddr

/-- The queued write-backs of the `n` words from word `w` are dropped, for a write reached them (R423). -/
def State.dropBacks (s : State) (r w n : Nat) : State :=
  let keep (p : Nat × Nat) : Bool := !(p.1 = r && decide (w ≤ p.2) && decide (p.2 < w + n))
  { s with memi := { s.memi with wb := s.memi.wb.filter keep, early := s.memi.early.filter keep } }

/-- A write reached `n` words from word `w`: their log entries are REWRITTEN (R417) and their queued write-backs are dropped
(R423). -/
def State.wroteN (s : State) (r w n : Nat) : State :=
  let inR (x : Nat) : Bool := decide (w ≤ x) && decide (x < w + n)
  let mark (o : Option CeLog) : Option CeLog := o.map (fun e => if (s.logWord r e).any inR then { e with rewritten := true } else e)
  let log := (List.range 16).foldl (fun t i => tmod (fun _ => none) t (r * 16 + i) mark) s.memi.log
  ({ s with memi := { s.memi with log := log } } : State).dropBacks r w n

/-- A write reached a word. -/
def State.wrote (s : State) (r w : Nat) : State := s.wroteN r w 1

/-- The pattern that an armed injection for region `r` inverts (R428). -/
def Inj.mask (i : Inj) : BitVec 72 := (1#72 <<< i.posA) ^^^ (if i.two then (1#72 <<< i.posB) else 0)

/-- Store a raw word of region 5 or 6, in the spare when the word is remapped. -/
def State.storeRaw (s : State) (r w : Nat) (v : Strong) : State :=
  match s.remapOf r w with
  | some (k, e) => { s with memi := { s.memi with remap := tput (fun _ => none) s.memi.remap (r * 8 + k) (some { e with spare := some v }) } }
  | none => { s with sram := tins s.sram (skey r w) v }

/-- Store a word of region 5 or 6 as a write other than a scrubber write-back or remap copy: an armed injection inverts
its bits (R428). -/
def State.storeInj (s : State) (r w : Nat) (v : Strong) : State :=
  match s.memi.inj with
  | some i =>
    if i.region = r then
      { (s.storeRaw r w (v ^^^ (i.mask.extractLsb' 0 39))) with
        memi := { (s.storeRaw r w (v ^^^ (i.mask.extractLsb' 0 39))).memi with inj := none, injDone := some (r, w) } }
    else s.storeRaw r w v
  | none => s.storeRaw r w v

/-- A write of a whole word of region 5 or 6 (R412). -/
def State.sramPut (s : State) (r w : Nat) (d : Word) : State := (s.storeInj r w (strongEnc d)).wrote r w

/-- Flip the bits of `m` in one word (eight bytes) of a byte table. -/
def flipBytes (t : Tab Byte) (a : Nat) (m : Nat) : Tab Byte :=
  (List.range 8).foldl (fun t i => tput zeroByte t (a + i) (tget zeroByte t (a + i) ^^^ BitVec.ofNat 8 (m / 2 ^ (8 * i)))) t

/-- Trims of a target as they read with the bits of `m` inverted in word `j` of its trims: lane `j` has its read trim in bits [7:0] and
its write trim in bits [15:8], the tenth word the reference code. -/
def TargetS.flip (t : TargetS) (j m : Nat) : TargetS :=
  let x (l : List Nat) (v : Nat) : List Nat := l.set j (l.getD j 0 ^^^ v)
  if j < 9 then { t with rdTrim := x t.rdTrim (m % 256), wrTrim := x t.wrTrim (m / 256 % 256) }
  else if j = 9 then { t with ref := t.ref ^^^ (m % 256) }
  else t

/-- A log entry as it reads with the bits of `m` inverted in its word `j`: word index, count and REWRITTEN in the first, the time of the
first hit in the second. -/
def CeLog.flip (e : CeLog) (j m : Nat) : CeLog :=
  if j = 0 then { e with waddr := e.waddr ^^^ (m % 2 ^ 24), count := e.count ^^^ bits m 24 7, rewritten := e.rewritten != bit m 31 }
  else { e with first := e.first ^^^ m }

/-- A remap entry as it reads with the bits of `m` inverted in its word `j`: the word index in the first, the spare in the next two. -/
def Remap.flip (e : Remap) (j m : Nat) : Remap :=
  if j = 0 then { e with waddr := e.waddr ^^^ (m % 2 ^ 24) }
  else if j < 3 then { e with spare := e.spare.map (fun v => v ^^^ BitVec.ofNat 39 (m * 2 ^ (32 * (j - 1)))) }
  else e

/-- Flip data bits of word `w` of tables 3 and 4 of region 5. -/
def State.tabFlip (s : State) (w m : Nat) : State :=
  if w < tabWord 4 0 then
    (let k := w - tabWord 3 0
     { s with chans := tmod (fun _ => {}) s.chans (k / 128) (fun c =>
         { c with phy := { c.phy with targets := tmod (fun _ => {}) c.phy.targets (k / 16 % 8) (fun t => t.flip (k % 16) m) } }) })
  else
    (let k := w - tabWord 4 0
     if k < 224 then { s with memi := { s.memi with log := tmod (fun _ => none) s.memi.log (k / 2) (fun o => o.map (fun e => e.flip (k % 2) m)) } }
     else if 256 ≤ k then
       { s with memi := { s.memi with remap := tmod (fun _ => none) s.memi.remap ((k - 256) / 4) (fun o => o.map (fun e => e.flip (k % 4) m)) } }
     else s)

/-- Flip data bits of a word kept with a pattern where its value is: an uncorrectable word is delivered as stored (R411, R428). A spool
item is inverted when it is read, by its pattern. -/
def State.bufFlip (s : State) (r w m : Nat) : State :=
  match r with
  | 0 => { s with tbuf := flipBytes s.tbuf (8 * w) m }
  | 2 => { s with dec := { s.dec with buf := flipBytes s.dec.buf (8 * w) m } }
  | 3 => { s with map := { s.map with lines := s.map.lines.map (fun p =>
      if p.1 % 4096 = w / 256 ∧ p.2.way = w / 16 % 16 then
        (p.1, { p.2 with entries := p.2.entries.set (w % 16) (p.2.entries.getD (w % 16) 0 ^^^ BitVec.ofNat 32 m) })
      else p) } }
  | 4 => { s with lace := { s.lace with acc := flipBytes s.lace.acc (8 * w) m } }
  | 5 => s.tabFlip w m
  | _ => s

/-- `n` whole words kept with a pattern are written from word `w`: their error patterns clear (R412). -/
def State.bufMark (s : State) (r w n : Nat) : State :=
  let s := s.wroteN r w n
  { s with memi := { s.memi with
    written := rAdd s.memi.written (skey r w) (skey r w + n)
    err := s.memi.err.filter (fun p => !(decide (skey r w ≤ p.1) && decide (p.1 < skey r w + n))) } }

/-- A write of `n` whole words kept with a pattern from word `w`, other than a scrubber write-back or a remap copy: an armed injection lands
in the first word (R428). -/
def State.bufWrote (s : State) (r w n : Nat) : State :=
  let s1 := s.bufMark r w n
  match s1.memi.inj with
  | some i =>
    if i.region = r ∧ 0 < n then
      let s2 : State := { s1 with memi := { s1.memi with err := tput (fun _ => 0) s1.memi.err (skey r w) i.mask, inj := none, injDone := some (r, w) } }
      if patternClass r i.mask = .bad then s2.bufFlip r w (i.mask.toNat % 2 ^ (if strongRegion r then 32 else 64)) else s2
    else s1
  | none => s1

/-! ## Reports -/

/-- `FLT_BASE` of MEMI (15 R431). -/
def memiSrc : Nat := 21

/-- DETAIL of the MEMI sources: region in [26:24], word index in [23:0] (15 R445). -/
def memiDetail (r w : Nat) : Nat := r * 0x1000000 + w % 0x1000000

/-- The window of a log entry, in ms (R417; 0 acts as 1). -/
def State.repWin (s : State) : Nat := max 1 (s.get R.MEMI_REPEAT_WIN)

/-- The threshold of a log entry (R418; 0 acts as 1). -/
def State.repThr (s : State) : Nat := max 1 (s.get R.MEMI_REPEAT_THR)

/-- Log entry `i` of region `r`. -/
def State.logAt (s : State) (r i : Nat) : Option CeLog := tget (fun _ => none) s.memi.log (r * 16 + i)

/-- Set log entry `i` of region `r`: its words in table 4 of region 5 are written. -/
def State.setLog (s : State) (r i : Nat) (e : Option CeLog) : State :=
  ({ s with memi := { s.memi with log := tput (fun _ => none) s.memi.log (r * 16 + i) e } } : State).bufWrote 5 (logIx r i) 2

/-- Set remap entry `k` of region `r`: its words in table 4 of region 5 are written. -/
def State.setRemap (s : State) (r k : Nat) (e : Option Remap) : State :=
  ({ s with memi := { s.memi with remap := tput (fun _ => none) s.memi.remap (r * 8 + k) e } } : State).bufMark 5 (remapIx r k) 4

/-- Is a log entry's window expired (R417)? -/
def State.logOld (s : State) (e : CeLog) : Bool := s.repWin < s.ms - e.first

/-- The free log entry, else the one with the oldest expired window (R417). -/
def State.logSlot (s : State) (r : Nat) : Option Nat :=
  match (List.range 16).find? (fun i => (s.logAt r i).isNone) with
  | some i => some i
  | none =>
    let old := (List.range 16).filterMap (fun i => match s.logAt r i with
      | some e => if s.logOld e then some (e.first, i) else none
      | none => none)
    match old with
    | [] => none
    | p :: ps => some (ps.foldl (fun m q => if q.1 < m.1 then q else m) p).2

/-- An event of source `src`, unless it is not to be counted. -/
def State.countUnless (s : State) (skip : Bool) (src d : Nat) : State := if skip then s else s.count src d

/-- Promote word `w` of region `r` (R418 to R420): count at REPEAT, then copy its corrected data into the spare of a free remap entry, or
REMAP_FULL; `again` says that an earlier hit found the table full already, which counts at REMAP_FULL only. -/
def State.promote (s : State) (r w i : Nat) (again : Bool) : State :=
  let free := (List.range 8).any (fun k => (tget (fun _ => none) s.memi.remap (r * 8 + k) : Option Remap).isNone)
  let s := s.countUnless (again && !free) (memiSrc + 14) (memiDetail r w)
  match (List.range 8).find? (fun k => (tget (fun _ => none) s.memi.remap (r * 8 + k) : Option Remap).isNone) with
  | some k =>
    let s := s.setRemap r k (some ⟨w, if overlay r w then none else some (strongEnc (s.peek r w))⟩)
    let s : State := if overlay r w then { s with memi := { s.memi with
        err := tdel s.memi.err (skey r w), written := rAdd s.memi.written (skey r w) (skey r w + 1) } } else s
    let s := s.setLog r i none
    (s.raise .memi 0 2).bump (R.MEMI_REMAP_USED_CNT r)
  | none => (s.raise .memi 0 3).count (memiSrc + 15) 0

/-- A counted hit of log entry `i` (R418): at the threshold the word is promoted; a spare never is (R419). -/
def State.logHit (s : State) (r i : Nat) (e : CeLog) : State :=
  let s := s.setLog r i (some e)
  if s.repThr ≤ e.count ∧ e.spare = false then s.promote r e.waddr i (s.repThr < e.count) else s

/-- A report is not logged: LOG_FULL (R417). -/
def State.logMiss (s : State) : State := (s.raise .memi 0 7).count (memiSrc + 21) 0

/-- The log of region `r` takes a correctable report of word `w` (R417). -/
def State.logReport (s : State) (r w : Nat) : State :=
  let (key, sp) := match s.remapOf r w with
    | some (k, _) => (k, true)
    | none => (w, false)
  match (List.range 16).find? (fun i => match s.logAt r i with
      | some e => e.waddr = key ∧ e.spare = sp
      | none => false) with
  | some i =>
    match s.logAt r i with
    | none => s
    | some e =>
      if s.logOld e then s.logHit r i { e with count := 1, first := s.ms, rewritten := false }
      else if e.rewritten then s.logHit r i { e with count := e.count + 1, rewritten := false }
      else s
  | none =>
    match s.logSlot r with
    | some i => s.logHit r i ⟨key, 1, s.ms, false, sp⟩
    | none => s.logMiss

/-- A report takes its place among those of its `cyc`: lowest word index first (R417). -/
def repIns (x : CeRep) : List CeRep → List CeRep
  | [] => [x]
  | y :: ys => if x.born = y.born ∧ x.waddr < y.waddr then x :: y :: ys else y :: repIns x ys

/-- The reports of one `cyc` have been made (R417): the log of region `r` takes the first, four wait, and any others find the queue
full. -/
def State.logCycle (s : State) (r : Nat) : State :=
  match s.memi.reps.filter (fun x => x.region = r) with
  | [] => s
  | x :: rest =>
    let s : State := { s with memi := { s.memi with reps := s.memi.reps.filter (fun y => y.region ≠ r) ++ rest.take 4 } }
    (rest.drop 4).foldl (fun s _ => s.logMiss) (s.logReport r x.waddr)

/-- One `cyc` passes at the logs. -/
def State.logTick (s : State) : State := if s.memi.reps = [] then s else (List.range 7).foldl State.logCycle s

/-- Report a correctable word (R416); `scrub` says that the scrubber read it. The region's log takes it in this `cyc` or a later one
(R417). AON words with CORE off only count (R429). -/
def State.reportCe (s : State) (r w : Nat) (scrub : Bool) : State :=
  let s := s.count (memiSrc + r) (memiDetail r w)
  if !s.memiOn then s
  else
    let s := (s.raise .memi 0 0).bump (R.MEMI_CE_CNT_CNT r)
    let s : State := { s with memi := { s.memi with reps := repIns ⟨r, w, s.cyc⟩ s.memi.reps } }
    if scrub then s
    else if (s.memi.early.filter (fun p => p.1 = r)).length < 4 ∧ (r, w) ∉ s.memi.early then
      { s with memi := { s.memi with early := s.memi.early ++ [(r, w)] } }
    else s

/-- Report an uncorrectable word (R416); the origin codes are those of `LAST_UE` (R430). -/
def State.reportUe (s : State) (r w origin : Nat) : State :=
  let s := if origin = 3 then s.countDump (memiSrc + 7 + r) (memiDetail r w) else s.count (memiSrc + 7 + r) (memiDetail r w)
  if !s.memiOn then s
  else
    let s := (s.raise .memi 0 1).bump (R.MEMI_UE_CNT_CNT r)
    (s.set (R.MEMI_LAST_UE_ORIGIN r) origin).set (R.MEMI_LAST_UE_WADDR r) w

/-- Report a read of a word of region 5 or 6 by its class (R416). -/
def State.note (s : State) (r w origin : Nat) : State :=
  match strongClass (s.stored r w) with
  | .clean => s
  | .bad => s.reportUe r w origin
  | _ => s.reportCe r w (origin = 1)

/-- Report a read of `n` words from `w`. -/
def State.noteN (s : State) (r w : Nat) : Nat → State
  | 0 => s
  | n + 1 => (s.note r w 0).noteN r (w + 1) n

/-- Report a read, other than the scrubber's, of a word with an error pattern (R416). -/
def State.bufReport (s : State) (r origin : Nat) (p : Nat × BitVec 72) : State :=
  match patternClass r p.2 with
  | .clean => s
  | .bad => s.reportUe r (p.1 % 0x1000000) origin
  | _ => s.reportCe r (p.1 % 0x1000000) false

/-- A read of `n` words kept with a pattern from word `w`, with its kind: words with an error are reported (R416). Hardware has written
every word of its buffers before it reads it (R415). -/
def State.bufSeen (s : State) (r w n origin : Nat) : State :=
  (s.memi.err.filter (fun p => decide (skey r w ≤ p.1) && decide (p.1 < skey r w + n))).foldl (fun s p => s.bufReport r origin p) s

/-- A functional read of such words. -/
def State.bufRead (s : State) (r w n : Nat) : State := s.bufSeen r w n 0

/-- The data bits of a word kept with a pattern that a read delivers inverted: those of its pattern when it is uncorrectable (R411). -/
def State.badBits (s : State) (r w : Nat) : Nat :=
  let e : BitVec 72 := tget (fun _ => 0) s.memi.err (skey r w)
  if patternClass r e = .bad then e.toNat % 2 ^ (if strongRegion r then 32 else 64) else 0

/-- Is a control-port word in checker test mode (R427)? -/
def State.testMode (s : State) (r : Nat) : Bool := s.flag R.MEMI_TEST_EN && s.get R.MEMI_TEST_REGION = r

/-- The 32-bit mask of byte enables. -/
def beMask (be : BitVec 4) : Word :=
  (if be.getLsbD 0 then 0x000000FF else 0) ||| (if be.getLsbD 1 then 0x0000FF00 else 0) |||
  (if be.getLsbD 2 then 0x00FF0000 else 0) ||| (if be.getLsbD 3 then 0xFF000000 else 0)

/-- The word `old` with the enabled bytes of `new` (00 R17). -/
def mergeBe (old new : Word) (be : BitVec 4) : Word := (old &&& ~~~beMask be) ||| (new &&& beMask be)

/-- A read-modify-write of a word with mask `m` (R412): dropped with RMW_UE when the read is uncorrectable (R413). -/
def State.sramRmw (s : State) (r w : Nat) (m d : Word) : State :=
  match strongClass (s.stored r w) with
  | .bad =>
    ((s.reportUe r w 4).raise .memi 0 6).count (memiSrc + 19) (memiDetail r w)
  | .clean => s.sramPut r w ((s.peek r w &&& ~~~m) ||| (d &&& m))
  | _ => (s.reportCe r w false).sramPut r w ((s.peek r w &&& ~~~m) ||| (d &&& m))

/-- A control-port write into an SRAM window word (R412, R427). -/
def State.cpSram (s : State) (r w : Nat) (be : BitVec 4) (d : Word) : State :=
  if s.testMode r then
    (s.storeInj r w ((BitVec.ofNat 7 (s.get R.MEMI_TEST_CHK_CHK)).append (mergeBe (strongData (s.stored r w)) d be))).dropBacks r w 1
  else if be = 0xF#4 then s.sramPut r w d
  else s.sramRmw r w (beMask be) d

/-! ## Tables and contexts of region 5 -/

/-- Word index in region 5 of a window byte address (R408). -/
def winWord (a : Nat) : Nat := (a - 0x100000) / 4

/-- Hardware reads the `n` words of a context in a window of region 5 from byte address `a`: words with an error are reported (R416;
log entry 54). -/
def State.ctxSeen (s : State) (a n : Nat) : State := s.noteN 5 (winWord a) n

/-- `n` bytes of a window of region 5 from byte address `a`, as a little-endian number (00 R11). -/
def State.ctxGet (s : State) (a n : Nat) : Nat :=
  leNat ((List.range n).map (fun i =>
    BitVec.ofNat 8 ((s.peek 5 (winWord (a + i))).toNat / 2 ^ (8 * ((a + i) % 4)))))

/-- A hardware write of the bits of mask `m` of a word of region 5: of a whole word, or a read-modify-write (R412). -/
def State.ctxWord (s : State) (w : Nat) (m d : Word) : State := if m = 0xFFFFFFFF then s.sramPut 5 w d else s.sramRmw 5 w m d

/-- Store the bits of `m` of `v` in `k` words of region 5 from word `w`, the lowest word first. -/
def State.ctxWords (s : State) (w : Nat) : Nat → Nat → Nat → State
  | 0, _, _ => s
  | k + 1, m, v => (s.ctxWord w (BitVec.ofNat 32 m) (BitVec.ofNat 32 v)).ctxWords (w + 1) k (m / 2 ^ 32) (v / 2 ^ 32)

/-- Store `v` in `n` bytes of a window of region 5 from byte address `a`, little-endian, word by word (R412). -/
def State.ctxPut (s : State) (a n v : Nat) : State :=
  let o := a % 4
  s.ctxWords (winWord a) ((o + n + 3) / 4) ((256 ^ n - 1) * 256 ^ o) (v % 256 ^ n * 256 ^ o)

/-- Store bytes of a window of region 5 from byte address `a`. -/
def State.ctxBytes (s : State) (a : Nat) (bs : List Byte) : State := s.ctxPut a bs.length (leNat bs)

end Sys2Proof.Machine
end

