-- ==== Sys2Proof/Machine/Cal.lean ====
section
/-!
DEFINITION. The calendar: granted permits, slot entry, and the CAL registers with an effect of their own
(12_angle_calendar.md R370 to R374, R377).
-/

namespace Sys2Proof.Machine

/-- Integer part of θ (R359). -/
def State.angle (s : State) : Nat := s.ang.theta / 2 ^ 32 % 65536

/-- The stamp: revolution count in [31:16], angle in [15:0] (R359). -/
def State.stamp (s : State) : Nat := s.ang.rev * 65536 + s.angle

/-- The slot of the angle (R370). -/
def State.slotNow (s : State) : Nat := (s.angle + s.get R.CAL_PHASE_COUNTS) % 65536 / 16

/-- Word of SRAM region 5 that holds calendar entries `2k` and `2k + 1` (R371, 14 R408 table 0). -/
def calWord (slot : Nat) : Nat := tabWord 0 (slot / 2)

/-- The calendar entry of a slot; an uncorrectable word counts as 0 (R371). -/
def State.calEntry (s : State) (slot : Nat) : Nat :=
  if s.bad 5 (calWord slot) then 0 else bits (s.peek 5 (calWord slot)).toNat (16 * (slot % 2)) 16

/-- Does the calendar walk: `CAL.CTRL.ENABLE` and `ANGLE.CTRL.ENABLE` (R372)? -/
def State.calOn (s : State) : Bool := s.flag R.CAL_CTRL_ENABLE && s.flag R.ANGLE_CTRL_ENABLE

/-- A member of a cascade that follows the master's angle is not SYNCED (16 R456). -/
def State.unsynced (s : State) : Bool :=
  s.gen.xlink && s.flag R.XLINK_CTRL_ENABLE && s.flag R.XLINK_CFG_ANGLE_FOLLOW && !s.flag R.XLINK_STATUS_SYNCED

/-- The granted permits G = E AND NOT L (R372), less `LOCK_MASK` on a following member that is not SYNCED (16 R456). -/
def State.granted (s : State) : Nat :=
  let e := if s.calOn then s.calEntry s.ang.slot else s.get R.CAL_FIXED_ENTRY
  let l := if s.flag R.ANGLE_CTRL_MODE && s.ang.st ≠ .locked then s.get R.CAL_LOCK_MASK_PERMITS else 0
  let m := if s.unsynced then s.get R.CAL_LOCK_MASK_PERMITS else 0
  (BitVec.ofNat 16 e &&& ~~~(BitVec.ofNat 16 l) &&& ~~~(BitVec.ofNat 16 m)).toNat

/-- Is permit bit `b` of the calendar entry granted (R370, R372)? Bits 0 to 5 program starts of a group, 6 ERASE,
7 UMBRA, 8 SHADOW, 9 TRAIN, 10 SCRUB, 11 PATROL, 12 MARK. -/
def State.permit (s : State) (b : Nat) : Bool := bit s.granted b

/-- The calendar's word of the slot entered last is read, where the calendar walks (R371). -/
def State.slotRead (s : State) : State :=
  if s.calOn then
    (let w := calWord s.ang.slot
     let s := s.note 5 w 0
     if s.bad 5 w then (s.raise .cal 0 2).count 20 0 else s)
  else s

/-- Enter slot `n` forward: its word is read, and MARK is raised when G holds it, but once in a revolution where the slot is entered
again (R370, R371, R373). -/
def State.enterSlot (s : State) (n : Nat) : State :=
  let s := ({ s with ang := { s.ang with slot := n } }).slotRead
  if s.permit 12 ∧ (s.ang.rev, n) ∉ s.ang.marked then
    (({ s with ang := { s.ang with
        marked := (s.ang.marked.filter (fun (p : Nat × Nat) => p.1 = s.ang.rev ∨ p.1 = (s.ang.rev + 65535) % 65536)) ++ [(s.ang.rev, n)] } }).bump
      R.CAL_MARK_CNT_CNT).raise .cal 0 0
  else s

/-- A move of the current slot to `n` forward: the slots between are passed (R373). -/
def State.slotForward (s : State) (n : Nat) : State :=
  let d := (n + 4096 - s.ang.slot) % 4096
  if d = 0 then s
  else if d = 1 then s.enterSlot n
  else ((s.bumpBy R.CAL_SKIP_CNT_CNT (d - 1)).raise .cal 0 3).enterSlot n

/-- A move of the current slot to `n` backward: no slot is passed, and a backward entry raises no MARK (R370, R373). -/
def State.slotBack (s : State) (n : Nat) : State :=
  if n = s.ang.slot then s else ({ s with ang := { s.ang with slot := n } }).slotRead

/-- An acquisition or a forward `PHASE` move to slot `n` enters it, and the slots after it, as an advance (R373). -/
def State.slotJump (s : State) (n : Nat) : State :=
  if n = s.ang.slot then s else ({ s with ang := { s.ang with marked := [] } }).slotForward n

/-- Move θ by a signed number of 2^−32 counts: a wrap changes the revolution count (R359), and the calendar follows (R373). -/
def State.moveFine (s : State) (q : Int) : State :=
  let t : Int := (s.ang.theta : Int) + q
  let rev := if t < 0 then (s.ang.rev + 65535) % 65536 else if 2 ^ 48 ≤ t then (s.ang.rev + 1) % 65536 else s.ang.rev
  let s := { s with ang := { s.ang with theta := (t % 2 ^ 48).toNat, rev := rev } }
  if 0 ≤ q then s.slotForward s.slotNow else s.slotBack s.slotNow

/-- The slot advances with the angle (R373). -/
def execSlotEntry (s : State) : Out := .next (s.slotForward s.slotNow)

/-- Effect of a write of `CAL.DATA` (R371). -/
def calDataWr (data : Word) (s : State) : State :=
  let a := s.get R.CAL_ADDR_ENTRY / 2 * 2
  (s.cpSram 5 (calWord a) 0xF#4 data).set R.CAL_ADDR_ENTRY (a + 2)

/-- Effect of a control-port read of `CAL.DATA` (R371): the pair, and ADDR advances. In test mode the stored data (14 R427). -/
def calDataRd (s : State) : State :=
  let a := s.get R.CAL_ADDR_ENTRY / 2 * 2
  let w := calWord a
  if s.testMode 5 then
    let v := s.stored 5 w
    let s := { s with cp := { s.cp with rdata := strongData v } }
    (((s.set R.MEMI_TEST_RD_CHK (strongStored v).toNat).set R.MEMI_TEST_RD_SYN (strongSyn v).toNat).set
      R.MEMI_TEST_RD_CLASS (strongClass v).code).set R.CAL_ADDR_ENTRY (a + 2)
  else
    let s1 := s.note 5 w 2
    let s1 := if s.bad 5 w then (s1.raise .cal 0 2).count 20 0 else s1
    { (s1.set R.CAL_ADDR_ENTRY (a + 2)) with cp := { (s1.set R.CAL_ADDR_ENTRY (a + 2)).cp with rdata := s.peek 5 w } }

/-- CAL_DATA_WRITE (R371). -/
def execCalDataWrite (data : Word) (s : State) : Out :=
  .next (s.cpWr R.CAL_DATA_EVEN.addr 0xF#4 data (calDataWr data))

/-- CAL_DATA_READ (R371): while the port is not ready the request is held (02 R50). -/
def execCalDataRead (s : State) : Out :=
  .next (if s.cpReady then calDataRd s
    else { s with cp := { s.cp with held := some ⟨false, BitVec.ofNat 24 R.CAL_DATA_EVEN.addr, 0, 0⟩ } })

/-- Effect of a write of `CAL.PHASE` (R373): a move of at most 2,048 slots is forward, any other backward. -/
def calPhaseWr (data : Word) (s : State) : State :=
  let s := s.set R.CAL_PHASE_COUNTS (data.toNat % 65536)
  let d := (s.slotNow + 4096 - s.ang.slot) % 4096
  if d ≤ 2048 then s.slotJump s.slotNow else s.slotBack s.slotNow

/-- PHASE_WRITE (R373). -/
def execPhaseWrite (data : Word) (s : State) : Out :=
  .next (s.cpWr R.CAL_PHASE_COUNTS.addr 0xF#4 data (calPhaseWr data))

end Sys2Proof.Machine
end

