-- ==== Sys2Proof/Machine/Codec.lean ====
section
/-!
DEFINITION. Arithmetic of the three coding layers: CRC-32, scrambler, quasi-cyclic LDPC code with its decoder, and the
lace code (06_codeword.md R185 to R190, R196, R200, R201).
-/

namespace Sys2Proof.Machine

/-! ## CRC-32 -/

/-- One bit of the CRC register, LSB first (R185). -/
def crcBit (c : Nat) : Nat := if c % 2 = 1 then (c / 2) ^^^ 0xEDB88320 else c / 2

/-- One byte into the CRC register. -/
def crcByte (c : Nat) (b : Byte) : Nat :=
  crcBit (crcBit (crcBit (crcBit (crcBit (crcBit (crcBit (crcBit (c ^^^ b.toNat))))))))

/-- The CRC register after a list of bytes. -/
def crcRun : Nat → List Byte → Nat
  | c, [] => c
  | c, b :: bs => crcRun (crcByte c b) bs

/-- CRC-32 of IEEE 802.3 (R185). -/
def crc32 (bs : List Byte) : Nat := crcRun 0xFFFFFFFF bs ^^^ 0xFFFFFFFF

/-! ## Tile addresses (09 R268) -/

/-- CHANNEL of a tile address. -/
def taCh (t : Nat) : Nat := bits t 26 6

/-- LUN of a tile address. -/
def taLun (t : Nat) : Nat := bits t 22 4

/-- BLOCK of a tile address. -/
def taBlk (t : Nat) : Nat := bits t 11 11

/-- PAGE of a tile address. -/
def taPage (t : Nat) : Nat := bits t 0 11

/-- The tile address of the fields. -/
def taddrOf (ch lun blk page : Nat) : Nat := ch * 2 ^ 26 + lun * 2 ^ 22 + blk * 2 ^ 11 + page

/-- The unmapped address. -/
def unmapped : Nat := 0xFFFFFFFF

/-! ## Scrambler -/

/-- SEED of codeword `cw` of the tile at `t` (R188). -/
def seed (t cw : Nat) : Nat :=
  1 + (taCh t * 2654435 + taLun t * 40503 + taBlk t * 977 + taPage t * 131 + cw) % 8388607

/-- One bit of the ONFI CRC-16, polynomial 0x8005, from the top (03 R92; log entry 38). -/
def crc16Bit (c : Nat) : Nat := if 0x8000 ≤ c then (2 * c) % 65536 ^^^ 0x8005 else 2 * c

/-- One byte of the ONFI CRC-16. -/
def crc16Byte (c : Nat) (b : Byte) : Nat := (List.range 8).foldl (fun c _ => crc16Bit c) (c ^^^ (b.toNat * 256))

/-- The ONFI CRC-16 of bytes. -/
def crc16 (bs : List Byte) : Nat := bs.foldl crc16Byte 0x4F4E

/-- One step of the keystream register: s(t + 23) = s(t + 18) XOR s(t) (R187). -/
def ksStep (r : Nat) : Nat := r / 2 + (b2n (bit r 18) ^^^ b2n (bit r 0)) % 2 * 2 ^ 22

/-- Eight steps. -/
def ksStep8 (r : Nat) : Nat := ksStep (ksStep (ksStep (ksStep (ksStep (ksStep (ksStep (ksStep r)))))))

/-- `n` keystream bytes from a register value (R187). -/
def keystream : Nat → Nat → List Byte
  | 0, _ => []
  | n + 1, r => BitVec.ofNat 8 r :: keystream n (ksStep8 r)

/-- Bytes XORed with the keystream of codeword `cw` at `t`. -/
def scramble (t cw : Nat) (bs : List Byte) : List Byte :=
  List.zipWith (fun b k => b ^^^ k) bs (keystream bs.length (seed t cw))

/-! ## LDPC code -/

/-- A block column of 512 bits. -/
abbrev Col := BitVec 512

/-- Circulant shift of info column `c` in block row `r` (R189). -/
def ldpcShift (r c : Nat) : Nat := (37 * r + 59 * c + 11 * r * c) % 512

/-- Does info column `c` have a circulant in block row `r` (R189)? -/
def ldpcHas (r c : Nat) : Bool :=
  r = c % 8 || r = (c + 1) % 8 || r = (c + 3) % 8 || r = (c + 6) % 8

/-- The circulant with shift `s` applied to a column: bit j of the result is bit (j + s) mod 512 (R189). -/
def circ (s : Nat) (u : Col) : Col := u.rotateRight s

/-- The block columns of a list of bytes, 64 bytes each (R190). -/
def colsOf : Nat → List Byte → List Col
  | 0, _ => []
  | n + 1, bs => BitVec.ofNat 512 (leNat (bs.take 64)) :: colsOf n (bs.drop 64)

/-- XOR over the info columns of the circulants of block row `r` (R190). -/
def rowSum (r : Nat) : Nat → List Col → Col
  | _, [] => 0
  | c, u :: us => (if ldpcHas r c then circ (ldpcShift r c) u else 0) ^^^ rowSum r (c + 1) us

/-- Parity columns as a running sum (R190). -/
def parityCols (us : List Col) : List Col :=
  ((List.range 8).foldl (fun (acc : List Col × Col) r => let p := rowSum r 0 us ^^^ acc.2; (acc.1 ++ [p], p)) ([], 0)).1

/-- The 512 parity bytes of 4,096 scrambled info bytes (R189, R190). -/
def ldpcParity (info : List Byte) : List Byte :=
  (parityCols (colsOf 64 info)).flatMap (fun c => leBytes 64 c.toNat)

/-- Syndrome of block row `r` of a codeword of 72 columns (R189). -/
def synRow (r : Nat) (x : List Col) : Col :=
  rowSum r 0 (x.take 64) ^^^ (x.getD (64 + r) 0) ^^^ (if r = 0 then 0 else x.getD (63 + r) 0)

/-- Number of unsatisfied checks of a codeword. -/
def unsat (x : List Col) : Nat :=
  ((List.range 8).map (fun r => ((List.range 512).filter (fun j => (synRow r x).getLsbD j)).length)).sum

/-! ## Layered offset min-sum (R196) -/

/-- Saturation at ±31. -/
def sat31 (i : Int) : Int := clampI (-31) 31 i

/-- Block columns with a circulant in block row `r`, with their shifts, parity columns included. -/
def rowCols (r : Nat) : List (Nat × Nat) :=
  ((List.range 64).filter (ldpcHas r)).map (fun c => (c, ldpcShift r c)) ++
  (if r = 0 then [] else [(63 + r, 0)]) ++ [(64 + r, 0)]

/-- Messages of one check from the inputs of its bits: sign product and offset minimum of the others (R196). -/
def checkMsgs (ofs : Nat) (ins : List Int) : List Int :=
  (List.range ins.length).map (fun k =>
    let others := ins.eraseIdx k
    let neg := (others.filter (fun i => decide (i < 0))).length % 2 = 1
    let mag := others.foldl (fun m i => min m i.natAbs) 31
    let m : Int := ((mag - ofs : Nat) : Int)
    sat31 (if neg then -m else m))

/-- Posteriors of the bits, and the last message of each (check row, bit) pair. -/
abbrev MinSum := Tab Int × Tab Int

/-- One check of a layer: block row `r`, row `j` of its circulants. -/
def checkStep (ofs r j : Nat) (p : MinSum) : MinSum :=
  let ns := (rowCols r).map (fun cs => cs.1 * 512 + (j + cs.2) % 512)
  let key (n : Nat) := r * 36864 + n
  let ins := ns.map (fun n => sat31 (tget (fun _ => 0) p.1 n - tget (fun _ => 0) p.2 (key n)))
  let ms := checkMsgs ofs ins
  ((ns.zip (ins.zip ms)).foldl (fun (q : MinSum) x =>
    (tput (fun _ => 0) q.1 x.1 (sat31 (x.2.1 + x.2.2)), tput (fun _ => 0) q.2 (key x.1) x.2.2)) p)

/-- One iteration: block rows 0 to 7 in order (R196). -/
def minSumIter (ofs : Nat) (p : MinSum) : MinSum :=
  (List.range 4096).foldl (fun q k => checkStep ofs (k / 512) (k % 512) q) p

/-- Hard decisions: 1 when the posterior is negative, the read value when it is 0 (R196). -/
def decide72 (read : List Col) (post : Tab Int) : List Col :=
  (List.range 72).map (fun c =>
    (List.range 512).foldl (fun (v : Col) j =>
      let p := tget (fun _ => 0) post (c * 512 + j)
      if p < 0 then v ||| (1#512 <<< j)
      else if p = 0 ∧ (read.getD c 0).getLsbD j then v ||| (1#512 <<< j) else v) 0)

/-- The outcome of a decode job (R197, 07 R222). -/
structure DecOut where
  /-- every check is satisfied -/
  pass : Bool
  /-- iterations run -/
  iter : Nat
  /-- unsatisfied checks at the stop -/
  usc : Nat
  /-- hard decisions -/
  cols : List Col
  deriving DecidableEq, Repr

/-- Iterate until every check is satisfied or the cap is reached (R196). -/
def minSumRun (ofs : Nat) (read : List Col) : Nat → Nat → MinSum → DecOut
  | 0, i, p => let x := decide72 read p.1; ⟨unsat x = 0, i, unsat x, x⟩
  | n + 1, i, p =>
    let x := decide72 read p.1
    if unsat x = 0 then ⟨true, i, 0, x⟩ else minSumRun ofs read n (i + 1) (minSumIter ofs p)

/-- Decode a codeword whose read value is `read` and whose bit n has LLR magnitude `mag n` (R196). -/
def ldpcDecode (ofs cap : Nat) (read : List Col) (mag : Nat → Nat) : DecOut :=
  if unsat read = 0 then ⟨true, 0, 0, read⟩
  else
    let post := (List.range 36864).foldl (fun (t : Tab Int) n =>
      let m : Int := (mag n : Nat)
      tput (fun _ => 0) t n (if (read.getD (n / 512) 0).getLsbD (n % 512) then -m else m)) []
    minSumRun ofs read cap 0 (post, [])

/-- The bytes of columns. -/
def colBytes (cs : List Col) : List Byte := cs.flatMap (fun c => leBytes 64 c.toNat)

/-- Zero bits among bytes (07 R222, 13 R403). -/
def zeroBits (bs : List Byte) : Nat :=
  (bs.map (fun b => ((List.range 8).filter (fun i => !b.getLsbD i)).length)).sum

/-! ## Lace code -/

/-- Multiplication by x in GF(2^8) with polynomial 0x11D. -/
def gfX (a : Nat) : Nat := if a < 128 then 2 * a else (2 * a) ^^^ 0x11D

/-- Product in GF(2^8): `n` bits of `b`. -/
def gfMulN : Nat → Nat → Nat → Nat
  | 0, _, _ => 0
  | n + 1, a, b => (if b % 2 = 1 then a else 0) ^^^ gfMulN n (gfX a) (b / 2)

/-- Product in GF(2^8) (06, "Arithmetic"). -/
def gfMul (a b : Nat) : Nat := gfMulN 8 a b

/-- Inverse in GF(2^8): a^254. -/
def gfInv (a : Nat) : Nat :=
  let sq := fun x => gfMul x x
  let a2 := sq a; let a4 := sq a2; let a8 := sq a4; let a16 := sq a8; let a32 := sq a16; let a64 := sq a32
  gfMul a2 (gfMul a4 (gfMul a8 (gfMul a16 (gfMul a32 (gfMul a64 (sq a64))))))

/-- Coefficient c(k, i) = (k XOR (i + 4))^−1 (R201). -/
def laceC (k i : Nat) : Nat := gfInv (k ^^^ (i + 4))

/-- Bytes scaled by a coefficient. -/
def gfScale (c : Nat) (bs : List Byte) : List Byte := bs.map (fun b => BitVec.ofNat 8 (gfMul c b.toNat))

/-- Eliminate one column of an augmented row with a pivot row. -/
def gfElim (piv row : List Nat) (p : Nat) : List Nat :=
  let f := row.getD p 0
  List.zipWith (fun a b => a ^^^ gfMul f b) row piv

/-- Gauss–Jordan elimination over GF(2^8): `n` columns of the augmented matrix from column `p` on. -/
def gfSolveN : Nat → Nat → List (List Nat) → List (List Nat)
  | 0, _, m => m
  | n + 1, p, m =>
    match (List.range m.length).find? (fun i => p ≤ i ∧ (m.getD i []).getD p 0 ≠ 0) with
    | none => m
    | some i =>
      let rp := m.getD p []
      let ri := m.getD i []
      let piv := ri.map (gfMul (gfInv (ri.getD p 0)))
      let m1 := (m.set i rp).set p piv
      gfSolveN n (p + 1) ((List.range m1.length).map (fun j => if j = p then piv else gfElim piv (m1.getD j []) p))

/-- Inverse of the square matrix with entries c(k, j), k in `ks`, j in `js` (07 R233). -/
def laceInverse (ks js : List Nat) : List (List Nat) :=
  let n := ks.length
  let m := (List.range n).map (fun r => js.map (laceC (ks.getD r 0)) ++ (List.range n).map (fun c => b2n (c = r)))
  (gfSolveN n 0 m).map (fun row => row.drop n)

end Sys2Proof.Machine
end

