-- ==== Sys2Proof/Machine/MemReq.lean ====
section
/-!
DEFINITION. Requests on the memory ports and their grants (01_architecture.md R40; 02_ports.md R51, R52).
-/

namespace Sys2Proof.Machine

/-- Reads of a tag class outstanding on a port. -/
def State.mpOut (s : State) (port cls : Nat) : Nat := (s.mp.reads.filter (fun r => r.port = port ∧ r.cls = cls)).length

/-- Lines that a run of `n` bytes at `a` touches. -/
def linesOfRun (a n : Nat) : Nat := if n = 0 then 0 else (a + n - 1) / 64 - a / 64 + 1

/-- May a request be granted: a read needs a free sequence number of its tag class (02 R52)? -/
def State.mpCan (s : State) (q : MpReq) : Bool :=
  match q.read with
  | some (cls, _) => decide (s.mpOut q.port cls < 32)
  | none => true

/-- The requests of a port that may be granted: of each class the one that came first, highest class first (01 R40). -/
def State.mpHeads (s : State) (port : Nat) : List MpReq :=
  ((List.range 5).filterMap (fun c => s.mp.queue.find? (fun q => q.port = port ∧ q.cls = c))).filter s.mpCan

/-- Consecutive grants to higher classes for which the DMA class of a port has waited. -/
def State.mpStarve (s : State) (port : Nat) : Nat := tget (fun _ => 0) s.mp.starve port

/-- The request that a port grants next: the highest class, but the DMA class when it has waited for 15 grants (01 R40). -/
def State.mpPick (s : State) (port : Nat) : Option MpReq :=
  let heads := s.mpHeads port
  match heads.find? (fun q => q.cls = 4) with
  | some q => if 15 ≤ s.mpStarve port then some q else heads.head?
  | none => heads.head?

/-- Present a request: a read takes the next sequence number of its tag class and is outstanding (log entry 12), a write waits to
be accepted (02 R51, R52). -/
def State.mpPresent (s : State) (q : MpReq) : State :=
  match q.read with
  | some (cls, lines) =>
    let k := q.port * 8 + cls
    let n := tget (fun _ => 0) s.mp.nseq k
    { s with mp := { s.mp with
      reads := s.mp.reads ++ [{ port := q.port, cls := cls, seq := n, addr := q.addr, lines := lines, use := q.use }]
      nseq := tput (fun _ => 0) s.mp.nseq k ((n + 1) % 32) } }
  | none => { s with mp := { s.mp with writes := s.mp.writes ++ [{ port := q.port, addr := q.addr, data := q.data, use := q.use }] } }

/-- Grant the requests of a port, one after the other, until a write is presented or none can be granted (01 R40). -/
def State.mpGrant (s : State) (port : Nat) : Nat → State
  | 0 => s
  | n + 1 =>
    if s.mp.writes.any (fun w => w.port = port) then s
    else match s.mpPick port with
      | none => s
      | some q =>
        let waits := s.mp.queue.any (fun x => x.port = port && x.cls = 4)
        let v := if q.cls = 4 ∨ !waits then 0 else s.mpStarve port + 1
        (({ s with mp := { s.mp with queue := s.mp.queue.erase q, starve := tput (fun _ => 0) s.mp.starve port v } } : State).mpPresent q).mpGrant
          port n

/-- Grant what can be granted on a port. -/
def State.mpPump (s : State) (port : Nat) : State := s.mpGrant port (s.mp.queue.length + 1)

/-- A request arrives at its port. -/
def State.mpAsk (s : State) (q : MpReq) : State :=
  ({ s with mp := { s.mp with queue := s.mp.queue ++ [q] } } : State).mpPump q.port

/-- Ask for a read of `lines` lines from `addr`, with its class of R40 and its tag class. -/
def State.mpRead (s : State) (port cls tag addr lines : Nat) (use : MpUse) : State :=
  s.mpAsk { port := port, cls := cls, read := some (tag, lines), addr := addr, data := [], use := use }

/-- Ask for the write of a run of bytes within 4 KiB. -/
def State.mpWrite (s : State) (port cls addr : Nat) (data : List Byte) (use : MpUse) : State :=
  s.mpAsk { port := port, cls := cls, read := none, addr := addr, data := data, use := use }

/-- The parts of a run of `len` bytes at `addr` that stay within 4 KiB each (02 R51): address and length. -/
def burstParts : Nat → Nat → Nat → List (Nat × Nat)
  | 0, _, _ => []
  | n + 1, addr, len =>
    if len = 0 then []
    else
      let k := min len (4096 - addr % 4096)
      (addr, k) :: burstParts n (addr + k) (len - k)

/-- Has a port a transfer that `p` describes: waiting, presented or outstanding? -/
def State.mpHas (s : State) (p : MpUse → Bool) : Bool :=
  s.mp.queue.any (fun q => p q.use) || s.mp.writes.any (fun w => p w.use) || s.mp.reads.any (fun r => p r.use)

end Sys2Proof.Machine
end

