-- ==== Sys2Proof/Machine/Gates.lean ====
section
/-!
DEFINITION. The rotor gates with their dead time, vectors and integer trigonometry
(02_ports.md R66; 11_rotor_drive.md R329, R344, "Gates, safe-off and the back-EMF rule").
-/

namespace Sys2Proof.Machine

/-- Ask a leg to be `w` with dead time `dt` (R66): a gate of the leg turns on at once when the other one has been off
long enough, else after the rest of the dead time. -/
def Gate.ask (g : Gate) (w : Leg) (dt : Nat) : Gate :=
  match w with
  | .off =>
    if g.hi then { hi := false, lo := false, want := .off, lastOff := .high, dead := dt }
    else if g.lo then { hi := false, lo := false, want := .off, lastOff := .low, dead := dt }
    else { g with want := .off }
  | .high =>
    if g.hi then { g with want := .high }
    else if g.lo then { hi := false, lo := false, want := .high, lastOff := .low, dead := dt }
    else if g.dead = 0 ∨ g.lastOff = .high then { g with hi := true, lo := false, want := .high }
    else { g with want := .high }
  | .low =>
    if g.lo then { g with want := .low }
    else if g.hi then { hi := false, lo := false, want := .low, lastOff := .high, dead := dt }
    else if g.dead = 0 ∨ g.lastOff = .low then { g with hi := false, lo := true, want := .low }
    else { g with want := .low }

/-- One cyc of dead time passes; the gate that waits turns on when none is left. -/
def Gate.tick (g : Gate) : Gate :=
  let g := { g with dead := g.dead - 1 }
  if g.dead = 0 ∧ g.hi = false ∧ g.lo = false then
    (match g.want with
     | .off => g
     | .high => { g with hi := true }
     | .low => { g with lo := true })
  else g

/-- Ask the three legs. -/
def Gates.ask (g : Gates) (u v w : Leg) (dt : Nat) : Gates := ⟨g.u.ask u dt, g.v.ask v dt, g.w.ask w dt⟩

/-- One cyc passes at the three phases. -/
def Gates.tick (g : Gates) : Gates := ⟨g.u.tick, g.v.tick, g.w.tick⟩

/-- Are all six gates off? -/
def Gates.allOff (g : Gates) : Bool := !g.u.hi && !g.u.lo && !g.v.hi && !g.v.lo && !g.w.hi && !g.w.lo

/-- The leg of a bit: 1 high, 0 low. -/
def legOf (b : Nat) : Leg := if b = 1 then .high else .low

/-- Leg states (U, V, W) of vector Vk, 1 for high (11, "Gates, safe-off and the back-EMF rule"). -/
def vecLegs (k : Nat) : Nat × Nat × Nat :=
  match k with
  | 1 => (1, 0, 0) | 2 => (1, 1, 0) | 3 => (0, 1, 0) | 4 => (0, 1, 1) | 5 => (0, 0, 1) | 6 => (1, 0, 1) | 7 => (1, 1, 1)
  | _ => (0, 0, 0)

/-- Legs that differ between two vectors. -/
def legChanges (a b : Nat) : Nat :=
  let (u, v, w) := vecLegs a
  let (x, y, z) := vecLegs b
  (if u = x then 0 else 1) + (if v = y then 0 else 1) + (if w = z then 0 else 1)

/-- Number of high legs of a vector. -/
def highs (k : Nat) : Nat := let (u, v, w) := vecLegs k; u + v + w

/-- The phase an active vector measures (0 U, 1 V, 2 W) and the sign of the shunt current (11, "Shunt current by vector"). -/
def shuntPhase (k : Nat) : Option (Nat × Int) :=
  match k with
  | 1 => some (0, 1) | 2 => some (2, -1) | 3 => some (1, 1) | 4 => some (0, -1) | 5 => some (2, 1) | 6 => some (1, -1)
  | _ => none

/-- Arctangents of 2^−i, i from 0, in 2^−26 turns. -/
def atanTab : List Int := [
  8388608, 4952084, 2616545, 1328199, 666677, 333664, 166872, 83441, 41721, 20861, 10430, 5215, 2608, 1304, 652,
  326, 163, 81, 41, 20]

/-- Rotate (x, y) with x ≥ 0 onto the x axis; the angle in 2^−26 turns. -/
def cordic : List Int → Nat → Int → Int → Int → Int
  | [], _, _, _, a => a
  | t :: ts, i, x, y, a =>
    if 0 ≤ y then cordic ts (i + 1) (x + y / 2 ^ i) (y - x / 2 ^ i) (a + t)
    else cordic ts (i + 1) (x - y / 2 ^ i) (y + x / 2 ^ i) (a - t)

/-- Angle of the vector (x, y) in 1/65,536 of a turn, met to within one unit (R322; log entry 16). -/
def vecAngle (x y : Int) : Nat :=
  let k : Int := 2 ^ 24
  let a := if 0 ≤ x then cordic atanTab 0 (x * k) (y * k) 0 else 2 ^ 25 + cordic atanTab 0 (-x * k) (-y * k) 0
  (((a + 512) / 1024) % 65536).toNat

/-- Greatest natural number whose square is at most `n`, by bits from `2^b` down. -/
def isqrtGo : Nat → Nat → Nat → Nat
  | 0, _, r => r
  | b + 1, n, r => if (r + 2 ^ b) * (r + 2 ^ b) ≤ n then isqrtGo b n (r + 2 ^ b) else isqrtGo b n r

/-- Integer square root of numbers below 2^128. -/
def isqrt (n : Nat) : Nat := isqrtGo 64 n 0

/-- Magnitude of a vector. -/
def vecLen (x y : Int) : Nat := isqrt (x * x + y * y).toNat

/-- `a * b / 10^6` with rounding to the nearest. -/
def mulMicro (a b : Int) : Int := (a * b + 500000) / 1000000

/-- Cosine and sine × 10^6 of an angle of 1/65,536 of a turn, by rotating (1, 0) (within one unit of R322). -/
def rotGo : List Int → Nat → Int → Int → Int → Int × Int
  | [], _, x, y, _ => (x, y)
  | t :: ts, i, x, y, a =>
    if 0 ≤ a then rotGo ts (i + 1) (x - y / 2 ^ i) (y + x / 2 ^ i) (a - t)
    else rotGo ts (i + 1) (x + y / 2 ^ i) (y - x / 2 ^ i) (a + t)

/-- Cosine and sine × 10^6 of an angle in 1/65,536 of a turn. -/
def cosSin (e : Nat) : Int × Int :=
  let e := e % 65536
  let k : Int := 607252935 * 2 ^ 20 -- product of the cosines of the table's angles, × 10^9 × 2^20
  let (q, r) := (e / 16384, e % 16384)
  let (c, s) := rotGo atanTab 0 k 0 ((r : Int) * 1024)
  let f (v : Int) : Int := (v / 2 ^ 20 + 500) / 1000
  match q with
  | 0 => (f c, f s)
  | 1 => (-(f s), f c)
  | 2 => (-(f c), -(f s))
  | _ => (f s, -(f c))

end Sys2Proof.Machine
end

