-- ==== Sys2Proof/Machine/RotorOps.lean ====
section
/-!
DEFINITION. Shared operations of the rotor drive: states, gates, safe-off, the back-EMF rule, commands' checks, re-catch,
the effect of an accepted `PF_WARN` (11_rotor_drive.md R322 to R334, R353 to R356).
Quantities carry the units of R322; divisions round to within one unit (log entry 16).
-/

namespace Sys2Proof.Machine

/-- Change the drive. -/
def State.rotMap (s : State) (f : RotS → RotS) : State := { s with rot := f s.rot }

/-- Change the observer. -/
def State.obsMap (s : State) (f : Obs → Obs) : State := s.rotMap (fun r => { r with obs := f r.obs })

/-- Change step mode. -/
def State.stepMap (s : State) (f : StepS → StepS) : State := s.rotMap (fun r => { r with step := f r.step })

/-- Code of a drive state in `STATUS.STATE` (R326). -/
def RotSt.code : RotSt → Nat
  | .off => 0 | .spinCheck => 1 | .align => 2 | .ramp => 3 | .step => 4 | .flux => 5 | .holdup => 6 | .catch_ => 7
  | .coast => 8 | .asc => 9 | .tripped => 10

/-- Count an event of the drive: its DETAIL is `STATUS.STATE` (15 R445; `FLT_BASE` 6). -/
def State.rotCount (s : State) (o : Nat) : State := s.count (6 + o) s.rot.st.code

/-- Raise an event of the `ROTOR` page (R358). -/
def State.rotRaise (s : State) (b : Nat) : State := s.raise .rotor 0 b

/-- Glints accepted by the angle unit: the state is LOCKED (12 R368). -/
def State.glintOk (s : State) : Bool := s.ang.st = .locked

/-- Glint speed, mrev/s, from ω (12 R359). -/
def State.glintSpeed (s : State) : Nat := s.ang.omega * s.gen.mhz * 1000000000 / 2 ^ 48

/-- The speed estimate in 10^−9 rev/s (R322, R324, R326, R337): the observer's in flux mode and in a glint re-catch; that of the
crossings or of the ramp in step mode, COAST and a crossing re-catch; elsewhere the glints' while they are accepted, else the last
estimate. -/
def State.estN (s : State) : Int :=
  let glint : Int := if s.glintOk then s.glintSpeed * 1000000 else s.rot.step.speedN
  match s.rot.st with
  | .flux | .holdup => s.rot.obs.speedN
  | .catch_ => if s.rot.rcGlint then s.rot.obs.speedN else s.rot.step.speedN
  | .align | .ramp | .step | .coast => s.rot.step.speedN
  | .spinCheck =>
    if 2 ≤ s.rot.step.edges then s.rot.step.speedN else if s.rot.step.sawGlint then s.glintSpeed * 1000000 else glint
  | .off | .asc | .tripped => glint

/-- Do the observer and step mode run side by side in a state (R342)? -/
def RotSt.stepping : RotSt → Bool
  | .ramp | .step => true
  | _ => false

/-- Is a state one in which the drive commutates on its estimate, and loses synchronism (R354)? -/
def RotSt.running : RotSt → Bool
  | .step | .flux | .holdup => true
  | _ => false

/-- Enter a drive state; each change raises MODE_CHG (R326). The estimates of step mode and of the observer begin with the present one,
but between RAMP and STEP each goes on. Zero torque and a safe-off that waits end where the new state has no use for them (R354, R356). -/
def State.setRot (s : State) (st : RotSt) : State :=
  if s.rot.st = st then s
  else
    let v := s.estN
    let s := if s.rot.st.stepping && st.stepping then s
      else s.rotMap (fun r => { r with obs := { r.obs with speedN := v }, step := { r.step with speedN := v } })
    (s.rotMap (fun r => { r with
      st := st, zeroPf := r.zeroPf && st = .flux, zeroN := if st.running then r.zeroN else 0,
      after := if st.running then r.after else .none
      pendOff := r.pendOff && (st.running || st = .catch_ || st = .tripped) })).rotRaise 1

/-- Speed estimate, mrev/s, signed. -/
def State.speed (s : State) : Int := s.estN.tdiv 1000000

/-- Magnitude of the speed estimate, mrev/s. -/
def State.speedAbs (s : State) : Nat := s.estN.natAbs / 1000000

/-- Pole pairs. -/
def State.pp (s : State) : Nat := max 1 (s.get R.ROTOR_MOTOR_POLE_PAIRS)

/-- Line-to-line back-EMF estimate in 0.1 V: √3 × 2π × fe × PSI_NOM (R324). -/
def State.bemf (s : State) : Nat :=
  (s.pp * s.speedAbs * s.get R.ROTOR_PSI_NOM_PSI * 10882796 + 50000000000000) / 100000000000000

/-- Does BEMF exceed the link (R324)? -/
def State.bemfHigh (s : State) : Bool := s.rot.vdc < s.bemf

/-- Is the Grave state on? -/
def State.grave (s : State) : Bool := s.flag R.FAULT_STATUS_GRAVE

/-- Is an accepted `PF_WARN` latched (13 R384)? -/
def State.pf (s : State) : Bool := s.flag R.PWR_STATUS_PF

/-- Glint angle as an electrical angle, with the fraction of θ (12 R368). -/
def State.glintElec (s : State) : Nat := (s.ang.theta * s.pp / 2 ^ 32 + s.get R.ROTOR_ELEC_OFS_ANGLE) % 65536

/-- Dead time, cyc; 8 to 1,023 (02 R66). -/
def State.deadtime (s : State) : Nat := max 8 (s.get R.ROTOR_DEADTIME_CYC)

/-- Ask the legs, unless over-current or OV.HARD holds every gate off (R350, R352). -/
def State.askLegs (s : State) (u v w : Leg) : State :=
  if s.rot.ovHard || s.rot.st = .tripped || s.pins.rotOc then s
  else s.rotMap (fun r => { r with gates := r.gates.ask u v w s.deadtime })

/-- Apply vector Vk. -/
def State.askVec (s : State) (k : Nat) : State :=
  let (u, v, w) := vecLegs k
  (s.askLegs (legOf u) (legOf v) (legOf w)).rotMap (fun r => { r with vec := k })

/-- All six gates off. -/
def State.gatesOff (s : State) : State := s.rotMap (fun r => { r with gates := r.gates.ask .off .off .off s.deadtime })

/-- Gates off where a rule asks for that inside a state, all low sides on where BEMF exceeds the link (R330). -/
def State.idleGates (s : State) : State := if s.bemfHigh then s.askLegs .low .low .low else s.gatesOff

/-- Drive `ROT_CHOP`; a change is dated (R349, R351). -/
def State.setChop (s : State) (c : Bool) : State :=
  s.rotMap (fun r => if r.chop = c then r else { r with chop := c, chopAt := s.cyc })

/-- Active short circuit: all low sides on, all high sides off (R326). -/
def State.goAsc (s : State) : State := (s.setRot .asc).askLegs .low .low .low

/-- Coast, or ASC where BEMF exceeds the link (R330). -/
def State.goCoast (s : State) : State :=
  if s.bemfHigh then s.goAsc else (s.setRot .coast).gatesOff

/-- Safe-off: ASC when the speed exceeds `ASC_MIN`, else COAST (R329); nothing moves a drive that is off after OV.HARD. -/
def State.safeOff (s : State) : State :=
  if s.rot.ovHard then (s.setRot .coast).gatesOff
  else if s.get R.ROTOR_ASC_MIN_SPEED < s.speedAbs then s.goAsc
  else s.goCoast

/-- Go to OFF with the gates off, or to ASC where BEMF exceeds the link (R330). -/
def State.goOff (s : State) : State := if s.bemfHigh then s.goAsc else (s.setRot .off).gatesOff

/-- Safe-off where a cause from outside the drive asks for it: OFF stays (R326), ASC stays until its exits (R329). In TRIPPED and
during the zero torque of a loss of synchronism it waits for the higher cause to end (R356). -/
def State.safeOffCmd (s : State) : State :=
  match s.rot.st with
  | .off | .asc => s
  | .tripped => s.rotMap (fun r => { r with pendOff := true })
  | _ => if s.rot.zeroN ≠ 0 ∧ s.rot.after = .lossSync then s.rotMap (fun r => { r with pendOff := true }) else s.safeOff

/-- The safe-off of the Grave state (R328, R329; 02 R84): from OFF as well; over-current keeps its gates off (R356). -/
def State.safeOffGrave (s : State) : State :=
  match s.rot.st with
  | .tripped | .asc => s
  | _ => s.safeOff

/-- Words of the phase-advance table that read uncorrectable (R325). -/
def State.advBad (s : State) : Bool := (List.range 32).any (fun i => s.bad 5 (tabWord 1 i))

/-- The checks of a START and of ENABLE (R325): true when the drive is not ready. -/
def State.rotNotReady (s : State) : Bool :=
  let pp := s.get R.ROTOR_MOTOR_POLE_PAIRS
  let uv := s.get R.ROTOR_UV_LIM
  let off := s.get R.ROTOR_CHOP_V_OFF
  let on := s.get R.ROTOR_CHOP_V_ON
  let hard := s.get R.ROTOR_OV_HARD
  let soft := s.get R.ROTOR_OV_SOFT
  pp < 1 || 8 < pp || s.get R.ROTOR_ISH_CAL_GAIN = 0 || s.get R.ROTOR_VDC_CAL_GAIN = 0 || s.get R.ROTOR_PSI_NOM_PSI = 0 ||
  s.get R.ROTOR_MOT_IND_LS = 0 || s.get R.ROTOR_I_LIM_I = 0 || s.get R.ROTOR_TQ_LIM_MOTOR = 0 ||
  s.get R.ROTOR_SPD_LIM_SPEED = 0 || s.get R.ROTOR_FLUX_SPD_ON ≤ s.get R.ROTOR_FLUX_SPD_OFF ||
  !(decide (uv < off) && decide (off < on) && decide (on < hard) && decide (soft < hard)) || s.advBad

/-- Start the observer at an angle and a speed with rotor flux `PSI_NOM` (R341, R355). -/
def State.obsStart (s : State) (elec : Nat) (speedN : Int) : State :=
  let (c, n) := cosSin (elec + s.get R.ROTOR_ELEC_OFS_ANGLE)
  let psi : Int := s.get R.ROTOR_PSI_NOM_PSI
  let ls : Int := s.get R.ROTOR_MOT_IND_LS
  let iu := s.rot.obs.iu
  let ib := (iu + 2 * s.rot.obs.iv) * 577350 / 1000000
  s.obsMap (fun o => { o with
    psiA := psi * c + ls * iu * 1000, psiB := psi * n + ls * ib * 1000,
    elec := elec % 65536, speedN := speedN, integ := 0, syncBad := 0 })

/-- Count a failed re-catch attempt; the third consecutive one gives safe-off and RECATCH_FAIL (R326, R355). Only a success clears
the count. -/
def State.catchFail (s : State) : State :=
  let s := (s.rotMap (fun r => { r with rcFails := min 3 (r.rcFails + 1), rcFailed := true })).rotCount 4
  if 3 ≤ s.rot.rcFails then ((s.set R.ROTOR_STATUS_LAST_FAIL 3).safeOff).rotRaise 7 else s

/-- An attempt at zero torque begins: its first decision has no period behind it (R355). -/
def State.catchRun (s : State) : State :=
  s.rotMap (fun r => { r with
    rcGlint := true, shunt := { r.shunt with t0 := s.cyc, len := 0, probe := none, samples := [], old := [] } })

/-- Begin a re-catch attempt in CATCH (R355). -/
def State.catchStart (s : State) : State :=
  let s := s.rotMap (fun r => { r with rcOk := 0, rcFailed := false, rcGlint := false })
  let s := s.stepMap (fun t => { t with edges := 0, lastZc := none })
  if s.glintOk then
    (s.obsStart s.glintElec (s.glintSpeed * 1000000)).catchRun
  else if s.bemfHigh then (s.askLegs .low .low .low).catchFail
  else s.gatesOff

/-- The reaction to a chopper fault that no higher cause holds back (R351): ASC when the speed exceeds `ASC_MIN` and every phase current
is small, else the torque reference at 0. -/
def State.chopStop (s : State) : State :=
  let lim : Nat := s.get R.ROTOR_ASC_CFG_ILIM
  let small := decide (s.rot.obs.iu.natAbs ≤ lim) && decide (s.rot.obs.iv.natAbs ≤ lim) && decide ((s.rot.obs.iu + s.rot.obs.iv).natAbs ≤ lim)
  if s.get R.ROTOR_ASC_MIN_SPEED < s.speedAbs ∧ small then s.goAsc else s.rotMap (fun r => { r with zeroTq := true })

/-- Enter CATCH and begin an attempt: first ASC where BEMF exceeds the link, gates off otherwise (R354). A chopper fault that was
detected while TRIPPED is acted on first (R356). -/
def State.goCatch (s : State) : State :=
  let s := if s.rot.chopPend then (s.rotMap (fun r => { r with chopPend := false })).chopStop else s
  if s.rot.st = .asc then s
  else
    let s := s.setRot .catch_
    s.idleGates.catchStart

/-- Decision period TD, cyc: 875 to 14,000 (11, "Flux mode"). -/
def State.td (s : State) : Nat := min 14000 (max 875 (s.get R.ROTOR_DEC_PERIOD_CYC))

/-- Flux mode begins: the first period, with no sample and no prediction (R341). -/
def State.shuntStart (s : State) (len : Nat) : State :=
  s.rotMap (fun r => { r with shunt := {
    t0 := s.cyc, len := len, probe := none, prev := r.shunt.prev, samples := [], old := [], predU := 0, predV := 0, predW := 0 } })

/-- Apply zero torque for 4 periods, then what `a` says (R353, R354). -/
def State.zeroThen (s : State) (a : AfterZero) : State := s.rotMap (fun r => { r with zeroN := 4, after := a })

/-- What an accepted `PF_WARN` does to the drive (R353), unless a higher cause holds it: a loss of synchronism goes on to CATCH, which
enters HOLDUP when it succeeds (R356). -/
def State.rotorPf (s : State) : State :=
  if s.rot.zeroN ≠ 0 then s
  else match s.rot.st with
  | .flux =>
    if s.flag R.ROTOR_CTRL_HOLDUP_EN then (s.obsMap (fun o => { o with huInteg := 0 })).setRot .holdup
    else s.rotMap (fun r => { r with zeroPf := true })
  | .spinCheck | .align | .ramp | .step => s.safeOff
  | _ => s

/-- The target that the command source gives, for a source that follows registers and levels (R332). -/
def State.regTarget (s : State) : State :=
  let src := s.get R.ROTOR_CMD_SRC_SRC
  if src = 0 ∨ 5 ≤ src then s.rotMap (fun r => { r with target := s.get R.ROTOR_SPD_CMD_SPEED })
  else if src = 1 then s.rotMap (fun r => { r with target := if s.pins.rotCmd then s.get R.ROTOR_SPD_CMD_SPEED else 0 })
  else s

/-- High, low and floating phase (0 U, 1 V, 2 W) of a six-step sector, and whether the forward crossing rises (R335). -/
def sectorOf (k : Nat) : Nat × Nat × Nat × Bool :=
  match k with
  | 0 => (0, 1, 2, false) | 1 => (0, 2, 1, true) | 2 => (1, 2, 0, false) | 3 => (1, 0, 2, true) | 4 => (2, 0, 1, false)
  | _ => (2, 1, 0, true)

/-- The leg of phase `p` in a sector: the high leg follows the PWM on-time, the low leg is on (R335). -/
def sectorLeg (k p : Nat) (on : Bool) : Leg :=
  let (h, l, _, _) := sectorOf k
  if p = h then (if on then .high else .off) else if p = l then .low else .off

/-- The electrical angle at which ψr lies at `d` (10^−3 degrees) from phase U (R342). -/
def State.elecOf (s : State) (d : Nat) : Nat := (d * 65536 / 360000 + 65536 - s.get R.ROTOR_ELEC_OFS_ANGLE) % 65536

/-- The electrical angle in the middle of sector `k`, where its crossing lies (R335, R337): ψr at 240° + 60°·k, in reverse at
60° + 60°·k. -/
def State.midElec (s : State) (k : Nat) : Nat := s.elecOf ((if s.rot.rev then 60000 else 240000) + 60000 * k)

/-- The electrical angle of the commutation into sector `k` (R335, R337): 30° before the middle and the phase advance `a`
(10^−3 degrees) earlier. -/
def State.entryElec (s : State) (k a : Nat) : Nat :=
  s.elecOf (if s.rot.rev then 90000 + 60000 * k + a else 570000 + 60000 * k - a)

/-- The step sector that contains the observer's rotor angle (R341). -/
def State.elecSector (s : State) : Nat :=
  let q := (s.rot.obs.elec + s.get R.ROTOR_ELEC_OFS_ANGLE) % 65536 * 12 / 65536
  (if s.rot.rev then q + 11 else q + 5) / 2 % 6

/-- Drive the present sector, or the ALIGN vector, with the present PWM state (R335, R340): the high leg is off while zero torque is
applied (R354), and ALIGN waits after a failed attempt with all gates off, or all low sides on where BEMF exceeds the link (R330). -/
def State.askSector (s : State) : State :=
  let on := s.rot.step.onTime && s.rot.zeroN = 0
  match s.rot.st with
  | .align =>
    if s.cyc < s.rot.step.alignAt then s.idleGates
    else
    let (u, v, w) := vecLegs (if s.rot.rev then 4 else 1)
    let f (b : Nat) : Leg := if b = 1 then (if on then .high else .off) else .low
    s.askLegs (f u) (f v) (f w)
  | .ramp | .step =>
    let k := s.rot.step.sector
    s.askLegs (sectorLeg k 0 on) (sectorLeg k 1 on) (sectorLeg k 2 on)
  | _ => s

/-- The sector after the present one (R335). -/
def State.nextSector (s : State) : Nat :=
  if s.rot.rev then (s.rot.step.sector + 5) % 6 else (s.rot.step.sector + 1) % 6

/-- Start ALIGN in the direction in force, after a wait of `ms` (R340). -/
def State.goAlign (s : State) (ms : Nat) : State :=
  ((s.stepMap
    (fun t => { t with sector := 0, duty := s.get R.ROTOR_ALIGN_DUTY, onTime := true, onAt := s.cyc, since := s.cyc
                       alignAt := s.cyc + ms * s.gen.mhz * 1000, run := 0, inWin := false, delay := none,
                       toFlux := false })).setRot .align).askSector

/-- STEP begins at sector `k` with sector time `ts` and the last crossing `zc` (R341, R355). -/
def State.stepStart (s : State) (k ts : Nat) (zc : Option Nat) : State :=
  (((s.stepMap (fun t => { t with
      sector := k, ts := ts, lastZc := zc, edges := 0, commAt := s.cyc, delay := none, toFlux := false,
      onTime := true, onAt := s.cyc, since := s.cyc, cuts := [], integ := 0 })).shuntStart s.td).setRot .step).askSector

/-- The sector time at the speed estimate (R337, R341). -/
def State.tsOf (s : State) : Nat := s.gen.mhz * 1000000000 / (6 * max 1 s.speedAbs * s.pp)

/-- The state that a re-catch enters: FLUX or STEP by speed, HOLDUP in place of FLUX while `PF_WARN` is latched (R326, R355). STEP
after decisions takes its sector and Ts from the observer, after crossings from them. -/
def State.catchInto (s : State) : State :=
  if s.get R.ROTOR_FLUX_SPD_OFF * 1000 ≤ s.speedAbs then
    (if s.pf && s.flag R.ROTOR_CTRL_HOLDUP_EN then (s.obsMap (fun o => { o with huInteg := 0 })).setRot .holdup
     else s.setRot .flux)
  else if s.rot.rcGlint then s.stepStart s.elecSector s.tsOf none
  else s.stepStart s.rot.step.sector s.rot.step.ts s.rot.step.lastZc

/-- A re-catch succeeds (R326, R355): FLUX or STEP by speed, HOLDUP in place of FLUX while `PF_WARN` is latched. -/
def State.catchDone (s : State) : State :=
  let v := s.estN
  (((s.rotRaise 6).rotMap (fun r => { r with rcFails := 0, refN := v.toNat })).obsMap (fun o => { o with lost := false })).catchInto

end Sys2Proof.Machine
end

