-- ==== Sys2Proof/Machine/ChanOps.lean ====
section
/-!
DEFINITION. Access to channels, LUNs, places and groups; descriptors, their classes, permits and checks; guard and
bad-block bitmaps (04_sequencers.md R119; 05_channel_operations.md R150 to R157, R173 to R177).
-/

namespace Sys2Proof.Machine

/-! ## Access -/

/-- Channel `n`. -/
def State.ch (s : State) (n : Nat) : ChS := tget (fun _ => {}) s.chans n

/-- Change channel `n`. -/
def State.chMap (s : State) (n : Nat) (f : ChS → ChS) : State := { s with chans := tmod (fun _ => {}) s.chans n f }

/-- Change the context of channel `n`. -/
def State.ctxMap (s : State) (n : Nat) (f : CtxS → CtxS) : State := s.chMap n (fun c => { c with ctx := f c.ctx })

/-- Change the cycle engine of channel `n`. -/
def State.engMap (s : State) (n : Nat) (f : EngS → EngS) : State := s.chMap n (fun c => { c with eng := f c.eng })

/-- Change the PHY slice of channel `n`. -/
def State.phyMap (s : State) (n : Nat) (f : PhyS → PhyS) : State := s.chMap n (fun c => { c with phy := f c.phy })

/-- Change the ledger writer of channel `n`. -/
def State.ledgMap (s : State) (n : Nat) (f : LedgS → LedgS) : State := s.chMap n (fun c => { c with ledg := f c.ledg })

/-- LUN `l` of channel `n`. -/
def State.lun (s : State) (n l : Nat) : LunS := tget (fun _ => {}) s.luns (n * 16 + l)

/-- Change LUN `l` of channel `n`. -/
def State.lunMap (s : State) (n l : Nat) (f : LunS → LunS) : State := { s with luns := tmod (fun _ => {}) s.luns (n * 16 + l) f }

/-- Place `p` of channel `n`. -/
def State.place (s : State) (n p : Nat) : PlaceS := tget (fun _ => {}) (s.ch n).places p

/-- Change place `p` of channel `n`. -/
def State.placeMap (s : State) (n p : Nat) (f : PlaceS → PlaceS) : State :=
  s.chMap n (fun c => { c with places := tmod (fun _ => {}) c.places p f })

/-- Group `g`. -/
def State.grp (s : State) (g : Nat) : GrpS := tget (fun _ => {}) s.grps g

/-- Change group `g`. -/
def State.grpMap (s : State) (g : Nat) (f : GrpS → GrpS) : State := { s with grps := tmod (fun _ => {}) s.grps g f }

/-- Raise an event of `CH[n]`. -/
def State.chRaise (s : State) (n b : Nat) : State := s.raise .ch n b

/-- Count at the PHY source of channel `n`, with the event bit in DETAIL [15:8] and the LUN in [3:0] (15 R445), of a training that of LUN
bit 0 of its target. -/
def State.phyCount (s : State) (n b l : Nat) : State := s.count (80 + 3 * n) (b * 256 + l)

/-- Count at the store source of the group of channel `n`, with the event bit and the context (15 R445, R446). -/
def State.storeCount (s : State) (n b : Nat) : State := s.count (43 + n / 8) (b * 256 + n % 8)

/-- Count at the array source of channel `n`, with the event bit and the LUN. -/
def State.arrayCount (s : State) (n b l : Nat) : State := s.count (81 + 3 * n) (b * 256 + l)

/-- Count at the read-quality source of channel `n`. -/
def State.readqCount (s : State) (n b l : Nat) : State := s.count (82 + 3 * n) (b * 256 + l)

/-- Raise an event of `SEQG[g]`. -/
def State.seqRaise (s : State) (g b : Nat) : State := s.raise .seqg g b

/-- A free value of `w` bits, and the state in which it has been used (log entry 3). -/
def State.freeVal (s : State) (w : Nat) : Nat × State :=
  ((Config.freeWord s.free).toNat % 2 ^ w, { s with free := s.free + 1 })

/-- `cyc` in `us` microseconds. -/
def State.usCyc (s : State) (us : Nat) : Nat := us * s.gen.mhz

/-! ## Descriptors -/

/-- LUN of a descriptor. -/
def Desc.lun (d : Desc) : Nat := taLun d.taddr

/-- TLC flag. -/
def Desc.tlc (d : Desc) : Bool := bit d.flags 4

/-- LACE flag. -/
def Desc.lace (d : Desc) : Bool := bit d.flags 5

/-- CMPL flag. -/
def Desc.cmpl (d : Desc) : Bool := bit d.flags 3

/-- CUT flag. -/
def Desc.cut (d : Desc) : Bool := bit d.flags 2

/-- LEVEL. -/
def Desc.level (d : Desc) : Nat := d.flags % 4

/-- Origin: 0 placement, 1 ring, 2 maintenance, 3 recovery. -/
def Desc.org (d : Desc) : Nat := d.origin / 16384 % 4

/-- Is the opcode a customer one (R152)? -/
def Desc.customer (d : Desc) : Bool := 0x40 ≤ d.opcode ∧ d.opcode < 0x80

/-- Byte `k` of PARAM. -/
def Desc.par (d : Desc) (k : Nat) : Nat := d.param / 2 ^ (8 * k) % 256

/-- Half-word `h` of the descriptor (R150). -/
def Desc.half (d : Desc) (h : Nat) : Nat :=
  if h = 0 then d.flags * 256 + d.opcode
  else if h = 1 then d.origin
  else if h = 2 ∨ h = 3 then bits d.taddr (16 * (h - 2)) 16
  else if h = 4 ∨ h = 5 then bits d.tileno (16 * (h - 4)) 16
  else if h = 6 then d.dbuf * 256 + d.place
  else if h = 7 then d.mask
  else if h = 8 then d.step * 256 + d.refset
  else if h = 9 then d.count
  else if h = 10 ∨ h = 11 then bits d.rsvd (16 * (h - 10)) 16
  else if h < 16 then bits d.tag (16 * (h - 12)) 16
  else bits d.param (16 * (h - 16)) 16

/-- The descriptor of 64 bytes (R150). -/
def descOf (bs : List Byte) : Desc :=
  let u (a n : Nat) := leNat ((bs.drop a).take n)
  { opcode := u 0 1, flags := u 1 1, origin := u 2 2, taddr := u 4 4, tileno := u 8 4, place := u 0xC 1, dbuf := u 0xD 1,
    mask := u 0xE 2, refset := u 0x10 1, step := u 0x11 1, count := u 0x12 2, rsvd := u 0x14 4, tag := u 0x18 8, param := u 0x20 32 }

/-- Class of a descriptor (R152); an unassigned vendor opcode counts as urgent read (log entry 18). -/
def Desc.cls (d : Desc) : Cls :=
  if d.customer then (match d.flags / 64 % 4 with | 0 => .urgent | 1 => .program | 2 => .erase | _ => .patrol)
  else match d.opcode with
    | 0x01 => .program | 0x02 => .erase | 0x05 => .shadow | 0x06 => .patrol | _ => .urgent

/-- Rank of a class, highest first (01 R39). -/
def Cls.rank : Cls → Nat
  | .urgent => 0 | .program => 2 | .shadow => 3 | .erase => 4 | .patrol => 5

/-- Is the permit of a class granted for group `g` (R152, R159)? -/
def State.classPermit (s : State) (g : Nat) (c : Cls) : Bool :=
  match c with
  | .urgent => true | .program => s.permit g | .shadow => s.permit 8 | .erase => s.permit 6 | .patrol => s.permit 11

/-- Opcodes that act on the array for check 5 of R151. DESIGN CHOICE (log entry 18): opcodes 1 to 9, no customer opcode. -/
def Desc.array (d : Desc) : Bool := 1 ≤ d.opcode ∧ d.opcode ≤ 9

/-- Opcodes that read into a decoder-buffer place (R152). -/
def Desc.reads (d : Desc) : Bool := 3 ≤ d.opcode ∧ d.opcode ≤ 8

/-- A read whose codewords the pool decodes: READ_TILE, READ_CW, SHADOW, PATROL. -/
def Desc.decodes (d : Desc) : Bool := 3 ≤ d.opcode ∧ d.opcode ≤ 6

/-- Ladder step of a read: 7 to 255 act as 6 (07 R228). -/
def Desc.stepEff (d : Desc) : Nat := min 6 d.step

/-- Does a read ask for three strobes (06 R194)? -/
def Desc.soft (d : Desc) : Bool := (d.opcode = 3 ∨ d.opcode = 4) ∧ 4 ≤ d.stepEff

/-- Selected codewords of a read. -/
def Desc.cws (d : Desc) : List Nat :=
  if d.opcode = 4 then (List.range 16).filter (bit d.mask)
  else if d.opcode = 5 then [0, 1, 2, 3]
  else List.range 16

/-- Width in bits of what `n` values need. -/
def bitsFor (n : Nat) : Nat := if n ≤ 1 then 0 else Nat.log2 (n - 1) + 1

/-- Do the dies meet *Geometry* (R155)? -/
def Geo.ok (g : Geo) (lun2 : Bool) : Bool :=
  g.planes = 4 && g.dataBytes = 16384 && decide (2048 ≤ g.spareBytes) && decide (g.blocks ≤ 2048) &&
  decide (g.slcPages ≤ 2048) && decide (g.tlcPages ≤ 2048) && (g.rows = 3 || g.rows = 4) &&
  decide (g.pageBits + g.planeBits + g.blockBits + b2n lun2 ≤ 8 * g.rows)

/-- Pages of a block set in the mode. -/
def Geo.pages (g : Geo) (tlc : Bool) : Nat := if tlc then g.tlcPages else g.slcPages

/-- Does LUN `l` exist on channel `n` with a present target (R85, R151)? -/
def State.lunExists (s : State) (n l : Nat) : Bool :=
  (s.gen.lun2 || decide (l < 8)) && bit (s.get (R.CH_PHY_STAT_CE_PRESENT n)) (l % 8)

/-- Does the slice's state let the channel work: RUN or FALLBACK (R159)? -/
def State.phyRuns (s : State) (n : Nat) : Bool :=
  let st := s.get (R.CH_PHY_STAT_STATE n)
  st = 2 || st = 3

/-- An INIT runs on the channel. -/
def State.initRuns (s : State) (n : Nat) : Bool :=
  match (s.ch n).phy.cmd with
  | some c => c.kind = .init
  | none => false

/-- Does the block own channel `n`, and so drive its slice (02 R62)? Where the reflect port is absent it does while the CHAN
domain is powered (R65). -/
def State.ownsCh (s : State) (n : Nat) : Bool := if s.gen.refl then (s.ch n).own.owned else s.powered (chDom n)

/-- Level of `FLn_WP_N`; `none` when the slice is in a reflection pair and its outputs are high-impedance (02 R62). A slice of its own
drives the pin in every state of its domain: 0 in reset and without power, the level it keeps after a warm reset (R79, R84). -/
def State.wpPin (s : State) (n : Nat) : Option Bool := if s.gen.refl && !(s.ch n).own.owned then none else some (s.ch n).wp

/-- A rate change bars the channel's array commands, until every present target is trained at the new rate (03 R89). -/
def State.rateHold (s : State) (n : Nat) : Bool :=
  match (s.ch n).phy.cmd with
  | some c => c.rated
  | none => false

/-- Does the slice carry traffic: the block owns the channel, and its PLL does not relock (02 R62; 03 R89)? -/
def State.busMay (s : State) (n : Nat) : Bool :=
  s.ownsCh n && match (s.ch n).phy.cmd with
    | some c => !c.relock
    | none => true

/-- The first INIT of the channel runs and has not read a geometry yet. -/
def State.initEarly (s : State) (n : Nat) : Bool := s.initRuns n && (s.ch n).phy.geo.isNone

/-- Does a field exceed what stands behind it (R151 check 6)? -/
def State.descBad (s : State) (n : Nat) (d : Desc) : Bool :=
  let blk := taBlk d.taddr
  let pg := taPage d.taddr
  let beyond : Bool := match (s.ch n).phy.geo with
    | none => false
    | some g => decide (g.blocks ≤ blk) || (d.opcode ≠ 2 && decide (g.pages d.tlc ≤ pg))
  taCh d.taddr ≠ n || (!s.gen.lun2 && decide (8 ≤ d.lun)) || (!s.initEarly n && !s.lunExists n d.lun) || beyond ||
  (d.opcode = 1 && decide (7 < d.place)) ||
  (d.reads && decide (s.gen.ndec ≤ d.dbuf)) ||
  (d.opcode = 1 && (if d.tlc then d.level ≠ pg % 3 else d.level ≠ 0)) ||
  (d.opcode = 4 && d.mask = 0) ||
  (d.soft && (d.opcode = 3 || decide (4 < d.cws.length))) ||
  (d.opcode = 9 && (d.count = 0 || decide (2048 < d.mask + d.count))) ||
  (d.tlc && (!s.flag (R.CH_PFX_TLC_OK n) || d.lun = s.get (R.CH_SEAL_CFG_LUN n))) ||
  (d.opcode = 1 && d.org = 1)

/-- Checks 5 and 6 of R151. A descriptor that meets an INIT before it has read the dies' geometry waits in its slot; what the
geometry decides is checked when that INIT ends (log entry 37). -/
def State.descFits (s : State) (n : Nat) (d : Desc) : Option Nat :=
  if d.array ∧ !s.initEarly n ∧ !((s.ch n).phy.geo.map (fun g => g.ok s.gen.lun2)).getD false then some 0x27
  else if s.descBad n d then some 0x22
  else none

/-- The status with which the checks of R151 complete a descriptor at once; `none` when every check passes. -/
def State.descCheck (s : State) (n : Nat) (d : Desc) : Option Nat :=
  let st := s.get (R.CH_PHY_STAT_STATE n)
  if !s.takesWork (chDom n) then some 0x24
  else if !s.ownsCh n then some 0x25
  else if 0x80 ≤ d.opcode then some 0x21
  else if !s.initRuns n ∧ (st = 0 ∨ st = 1 ∨ st = 4) then some 0x26
  else if (s.descFits n d).isSome then s.descFits n d
  else if d.customer ∧ !s.flag (R.SEQG_STATUS_CUST_OK (n / 8)) then some 0x23
  else none

/-- Last status byte of a descriptor's LUN: its park record's, or that of the context that runs it (R153). -/
def State.lastStatus (s : State) (n : Nat) (d : Desc) : Nat :=
  if (s.ch n).ctx.desc = some d then (s.ch n).ctx.status.toNat
  else match (s.lun n d.lun).park with
    | some p => if p.desc = d then p.status.toNat else 0
    | none => 0

/-- The result half-words of a completion (R153): status byte and detail, suspend count, and the two of the opcode. -/
def State.stdRes (s : State) (n : Nat) (d : Desc) (detail h2 h3 : Nat) : List Half :=
  [BitVec.ofNat 16 (s.lastStatus n d + detail * 256), BitVec.ofNat 16 (s.lun n d.lun).susCnt, BitVec.ofNat 16 h2, BitVec.ofNat 16 h3]

/-! ## Slots and queues -/

/-- `QCFG.LUN_MAX`, 1 to 16 (R181). -/
def State.lunMax (s : State) (n : Nat) : Nat := max 1 (min 16 (s.get (R.CH_QCFG_LUN_MAX n)))

/-- Is a slot available for a descriptor (R156)? Reserved slots take urgent-read class only. -/
def State.slotFor (s : State) (n : Nat) (d : Desc) : Bool :=
  let used := (s.ch n).slots.length
  let lunUsed := ((s.ch n).slots.filter (fun x => x.desc.lun = d.lun)).length
  decide (lunUsed < s.lunMax n) &&
  (if d.cls = .urgent then decide (used < 32) else decide (used + s.get (R.CH_QCFG_URG_RSV n) < 32))

/-- The die queue of a LUN: its slots that have not started, in arrival order. -/
def State.queue (s : State) (n l : Nat) : List Slot := (s.ch n).slots.filter (fun x => x.desc.lun = l ∧ !x.started)

/-- Put a descriptor into a slot. -/
def State.enqueue (s : State) (n : Nat) (d : Desc) : State :=
  s.chMap n (fun c => { c with slots := c.slots ++ [⟨d, c.nextAge, false, false⟩], nextAge := c.nextAge + 1 })

/-- Free the slot of a started descriptor. -/
def State.freeSlot (s : State) (n : Nat) (d : Desc) : State :=
  s.chMap n (fun c => { c with slots := c.slots.eraseP (fun x => x.desc = d ∧ x.started) })

/-- An origin hands a descriptor to its channel: it waits there for its arrival (R156). -/
def State.issue (s : State) (d : Desc) : State := s.chMap (taCh d.taddr) (fun c => { c with wait := c.wait ++ [d] })

/-- Does a seal apply to the channels: an accepted `PF_WARN` or the Grave state (R120 bit 23)? -/
def State.sealApplies (s : State) : Bool := s.pf || s.grave

/-! ## Bitmaps -/

/-- Window address and bit of the guard bit of zone `blk / 32` (R176). -/
def guardAt (n l blk : Nat) : Nat × Nat := (0x210000 + 8 * (16 * n + l) + blk / 32 / 8, blk / 32 % 8)

/-- Window address and bit of the bad-block bit (R177). -/
def badAt (n l blk : Nat) : Nat × Nat := (0x220000 + n * 0x1000 + l * 0x100 + blk / 8, blk % 8)

/-- Is the zone of a tile address guarded (R176)? -/
def State.guarded (s : State) (t : Nat) : Bool :=
  let a := guardAt (taCh t) (taLun t) (taBlk t)
  bit (s.ctxGet a.1 1) a.2

/-- Is the block set marked bad? A word with an uncorrectable error counts as bad (R177). -/
def State.blkBad (s : State) (t : Nat) : Bool :=
  let a := badAt (taCh t) (taLun t) (taBlk t)
  s.bad 5 (winWord a.1) || bit (s.ctxGet a.1 1) a.2

/-- A bad-block bit has been read for a check: its word's errors are reported (R177; 14 R416). -/
def State.blkSeen (s : State) (t : Nat) : State := s.note 5 (winWord (badAt (taCh t) (taLun t) (taBlk t)).1) 0

/-- A hardware set of a bad-block bit (R168, R181), a read-modify-write (14 R412). -/
def State.blkMark (s : State) (t : Nat) : State :=
  let a := badAt (taCh t) (taLun t) (taBlk t)
  let m : Word := BitVec.ofNat 32 (2 ^ (8 * (a.1 % 4) + a.2))
  s.sramRmw 5 (winWord a.1) m m

/-- Window address of a stream context. -/
def sctx (st : Nat) : Nat := 0x180000 + 128 * st

/-- Window address of a hoop context. -/
def hctx (h : Nat) : Nat := 0x200000 + 256 * h

/-- Window address of a ring context. -/
def rctx (r : Nat) : Nat := 0x100000 + 32 * r

/-! ## Refusals (R173) -/

/-- The reason for which a program or erase address is refused on channel `n`; `none` when it is driven. `waive` says that
the seal waives WP_CLOSED (R173, 13 R388). -/
def State.refuseReason (s : State) (n t : Nat) (waive : Bool) : Option Nat :=
  if !s.flag (R.CH_CTRL_BB_VALID n) then some 4
  else if !s.flag (R.CH_CTRL_WP_OPEN n) ∧ !waive then some 5
  else if s.guarded t then some 1
  else if s.blkBad t then some 2
  else if (s.ch n).eng.charter.getLsbD (taLun t % 8) then some 3
  else none

/-- The bitmap words that the check of an address reads are noted (R177; 14 R416). -/
def State.refuseNote (s : State) (n t : Nat) (waive : Bool) : State :=
  if !s.flag (R.CH_CTRL_BB_VALID n) ∨ (!s.flag (R.CH_CTRL_WP_OPEN n) ∧ !waive) then s
  else
    let g := guardAt (taCh t) (taLun t) (taBlk t)
    let s1 := s.note 5 (winWord g.1) 0
    if s.guarded t then s1 else s1.blkSeen t

/-- Record a refusal (R173). -/
def State.recordRefusal (s : State) (n t ce cmd reason : Nat) : State :=
  let s := (s.bump (R.CH_REFUSE_CNT_CNT n)).set (R.CH_REFUSE_ADDR_TADDR n) t
  let s := ((s.set (R.CH_REFUSE_INFO_CE n) ce).set (R.CH_REFUSE_INFO_CMD n) cmd).set (R.CH_REFUSE_INFO_REASON n) reason
  let s := (s.chRaise n 0).arrayCount n 0 (taLun t)
  s.engMap n (fun e => { e with refused := true, reason := reason, discard := true, sel := none })

/-! ## Tile-buffer places -/

/-- Byte key of the place in the tile buffer. -/
def tbKey (n p : Nat) : Nat := (n * 8 + p) * 73728

/-- Raw position of tile info byte `j` (06 R182). -/
def rawPos (j : Nat) : Nat := j / 4096 * 4608 + j % 4096

/-- Bytes of a place. -/
def State.tbGet (s : State) (n p off len : Nat) : List Byte := tbytes s.tbuf (tbKey n p + off) len

/-- Store bytes into a place. -/
def State.tbPut (s : State) (n p off : Nat) (bs : List Byte) : State :=
  ({ s with tbuf := tstore s.tbuf (tbKey n p + off) bs }).bufWrote 0 (n * 73728 + p * 9216 + off / 8) ((bs.length + 7) / 8)

/-- Info bytes `j` to `j + len − 1` of the tile in a place. -/
def State.infoGet (s : State) (n p j len : Nat) : List Byte :=
  (List.range len).map (fun i => tget zeroByte s.tbuf (tbKey n p + rawPos (j + i)))

/-- Store `k` words of eight info bytes from `j` on (14 R414). -/
def State.infoWords (s : State) (n p : Nat) : Nat → Nat → List Byte → State
  | 0, _, _ => s
  | k + 1, j, bs => (s.tbPut n p (rawPos j) (bs.take 8)).infoWords n p k (j + 8) (bs.drop 8)

/-- Store info bytes from `j` on, in whole words (14 R414). -/
def State.infoPut (s : State) (n p j : Nat) (bs : List Byte) : State := s.infoWords n p ((bs.length + 7) / 8) j bs

/-- The lowest free place of a channel. -/
def State.freePlace (s : State) (n : Nat) : Option Nat := (List.range 8).find? (fun p => !(s.place n p).used)

/-- Claim a place. -/
def State.claimPlace (s : State) (n p : Nat) (v : PlaceS) : State :=
  let k := (s.ch n).nextClaim
  (s.placeMap n p (fun _ => { v with used := true, claim := k })).chMap n (fun c => { c with nextClaim := k + 1 })

/-- Release a place (01 R29). -/
def State.releasePlace (s : State) (n p : Nat) : State := s.placeMap n p (fun _ => {})

/-- Is plane `p4` of a place encoded for the address its PROG carries (06 R192, R193)? -/
def PlaceS.planeReady (v : PlaceS) (p4 : Nat) (t : Nat) : Bool :=
  (List.range 4).all (fun i => bit v.enc (4 * p4 + i)) && v.encAddr = t

/-- Is the whole tile encoded for the address? -/
def PlaceS.fullReady (v : PlaceS) (t : Nat) : Bool := (List.range 4).all (fun p => v.planeReady p t)

end Sys2Proof.Machine
end

