-- ==== Sys2Proof/Machine/LedgFind.lean ====
section
/-!
DEFINITION. Ledger entries as a recovery reads them back: which are kept, their order, the open intents and the seal group
(13_power_holdup.md R397, R400, R402).
-/

namespace Sys2Proof.Machine

/-- Block set number of a tile address without its page. -/
def taSet (t : Nat) : Nat := t / 2048

/-- Fields of a 64-byte ledger entry, byte 0 in bits [7:0] (R397). -/
def ledgEntOf (b : BitVec 512) : LedgEnt :=
  ⟨bits b.toNat 0 8, bits b.toNat 16 8, bits b.toNat 32 32, bits b.toNat 64 64, bits b.toNat 128 352⟩

/-- Is a 64-byte entry kept for channel `n`: KIND ≠ 0, CH = n and a valid CRC (R402)? -/
def ledgKeep (n : Nat) (b : BitVec 512) : Bool :=
  decide (bits b.toNat 0 8 ≠ 0) && decide (bits b.toNat 8 8 = n) && decide (crc32 (leBytes 60 b.toNat) = bits b.toNat 480 32)

/-- Put an entry at its place in SEQ order. -/
def ledgIns (e : BitVec 512) : List (BitVec 512) → List (BitVec 512)
  | [] => [e]
  | x :: xs => if (ledgEntOf e).seq < (ledgEntOf x).seq then e :: x :: xs else x :: ledgIns e xs

/-- Entries in SEQ order (R402). -/
def ledgSort (es : List (BitVec 512)) : List (BitVec 512) := es.foldl (fun l e => ledgIns e l) []

/-- Block set of an intent or done entry. -/
def LedgEnt.set (e : LedgEnt) : Nat := taSet (bits e.body 0 32)

/-- The open intents of entries in SEQ order (R400, R402): opened by ERASE_INTENT, closed by ERASE_DONE of the block set. -/
def ledgOpen (es : List (BitVec 512)) : List LedgEnt :=
  es.foldl (fun l b =>
    let e := ledgEntOf b
    let rest := l.filter (fun x => x.set ≠ e.set)
    if e.kind = 1 then rest ++ [e] else if e.kind = 2 then rest else l) []

/-- The latest seal group: from the highest-SEQ SEAL_BEGIN onward, when no ERASE entry lies above it (R402). -/
def ledgSealGroup (es : List (BitVec 512)) : List (BitVec 512) :=
  let after := (es.reverse.takeWhile (fun b => (ledgEntOf b).kind ≠ 4)).reverse
  let begins := es.filter (fun b => (ledgEntOf b).kind = 4)
  match begins.getLast? with
  | some b => if after.any (fun x => (ledgEntOf x).kind = 1 || (ledgEntOf x).kind = 2) then [] else b :: after
  | none => []

/-- The highest SEQ of entries, plus 1; 0 for none. -/
def ledgTop (es : List (BitVec 512)) : Nat := es.foldl (fun m b => max m ((ledgEntOf b).seq + 1)) 0

/-- The position whose codeword a recovery reads next on a block set, and whether it searches for the first erased one: the middle
of what may hold that, then every position below it, upward (R402 steps 1 and 2). -/
def LedgSlot.next (x : LedgSlot) : Option (Nat × Bool) :=
  if x.busy then none
  else if x.lo < x.hi then some ((x.lo + x.hi) / 2, true)
  else if x.seen < x.lo then some (x.seen, false)
  else none

/-- Has every position of a block set been read? -/
def LedgSlot.fin (x : LedgSlot) : Bool := !x.busy && decide (x.hi ≤ x.lo) && decide (x.lo ≤ x.seen)

/-- The search has read the middle position: an erased one lies at or above the end. -/
def LedgSlot.searched (x : LedgSlot) (erased : Bool) : LedgSlot :=
  let m := (x.lo + x.hi) / 2
  if erased then { x with hi := m, busy := false } else { x with lo := m + 1, busy := false }

/-- The next position has been read, and the entries `es` were kept. -/
def LedgSlot.took (x : LedgSlot) (es : List (BitVec 512)) : LedgSlot :=
  { x with seen := x.seen + 1, ents := x.ents ++ es, busy := false }

/-- The kept entries of channel `n`'s block sets, in SEQ order (R402 step 3). -/
def LedgRun.entries (x : LedgRun) (n : Nat) : List (BitVec 512) :=
  ledgSort ((x.slots.filter (fun y => y.ch = n)).flatMap (fun y => y.ents))

/-- The open intents of a channel whose block sets have both been read get their verifies (R402 step 4); the table holds 32. -/
def LedgRun.ask (x : LedgRun) (n : Nat) : LedgRun :=
  if n ∈ x.asked ∨ !(x.slots.filter (fun y => y.ch = n)).all LedgSlot.fin then x
  else { x with asked := n :: x.asked, blanks := x.blanks ++ ((ledgOpen (x.entries n)).take 32).map (fun e => { ch := n, ent := e }) }

/-- Have all reads and verifies ended? -/
def LedgRun.ended (x : LedgRun) : Bool :=
  x.slots.all LedgSlot.fin && x.blanks.all (fun y => y.res.isSome)

end Sys2Proof.Machine
end

