-- ==== Sys2Proof/Machine/RingOps.lean ====
section
/-!
DEFINITION. Ring contexts, completion records, read requests and the places of the decoder pool, as the units that
complete descriptors use them (10_rings_dma.md R295 to R307; 06_codeword.md R194).
-/

namespace Sys2Proof.Machine

/-! ## Ring contexts -/

/-- A field of ring context `r`. -/
def State.rget (s : State) (r off n : Nat) : Nat := s.ctxGet (rctx r + off) n

/-- Set a field of ring context `r`. -/
def State.rput (s : State) (r off n v : Nat) : State := s.ctxPut (rctx r + off) n v

/-- A ring beside its context. -/
def State.ring (s : State) (r : Nat) : RingS := tget (fun _ => {}) s.rng.rings r

/-- Change a ring beside its context. -/
def State.ringMap (s : State) (r : Nat) (f : RingS → RingS) : State :=
  { s with rng := { s.rng with rings := tmod (fun _ => {}) s.rng.rings r f } }

/-- Change the ring unit. -/
def State.rngMap (s : State) (f : RngS → RngS) : State := { s with rng := f s.rng }

/-- Entries of a ring. -/
def State.ringSize (s : State) (r : Nat) : Nat := 2 ^ s.rget r 0x09 1

/-- BASE of a ring. -/
def State.ringBase (s : State) (r : Nat) : Nat := s.rget r 0 6 / 64 * 64

/-- Raise a RING event and name the ring (R320). -/
def State.ringRaise (s : State) (r b : Nat) : State := (s.set R.RING_EVT_RING_RING r).raise .ring 0 b

/-- STATE [1:0] of a ring that is neither STALLED nor DRAINING: ACTIVE while entries are submitted or descriptors run, or
records are held; else IDLE (R295; log entry 28). -/
def State.ringSettle (s : State) (r : Nat) : State :=
  let st := s.rget r 0x16 1
  if st % 4 < 2 then
    let busy := s.rget r 0x10 2 ≠ s.rget r 0x12 2 ∨ (s.rget r 0x08 1 ≠ 4 ∧ s.rget r 0x14 2 ≠ 0)
    s.rput r 0x16 1 (st / 4 * 4 + b2n (decide busy))
  else s

/-- Does a completion ring have room for one more record beside those held and reserved (R300)? -/
def State.cqRoom (s : State) (cq : Nat) : Bool :=
  decide (s.rget cq 0x14 2 + (s.rget cq 0x12 2 + s.ringSize cq - s.rget cq 0x10 2) % s.ringSize cq < s.ringSize cq - 1)

/-- Is a record of a completion ring on its way to memory? The next one takes its index when it has been accepted (R302, R303). -/
def State.cqBusy (s : State) (cq : Nat) : Bool :=
  s.mpHas (fun u => match u with
    | .record r _ => decide (r = cq)
    | _ => false)

/-- Present a record of 16 bytes at TAIL of a completion ring with its phase, in the ring class of the port of parity `par`
(R299, R302). The last byte's TYPE is `typ`; `sub` is the submission ring of a ring descriptor's record. -/
def State.cqWrite (s : State) (cq par : Nat) (body : List Byte) (typ : Nat) (sub : Option Nat) : State :=
  let ph := b2n (bit (s.rget cq 0x16 1) 7)
  s.mpWrite (par % 2) 1 (s.ringBase cq + s.rget cq 0x12 2 * 16) (body.take 15 ++ [BitVec.ofNat 8 (ph * 128 + typ)]) (.record cq sub)

/-- A descriptor of a submission ring has completed: COUNT and DONE (R295). -/
def State.ringDone (s : State) (r : Nat) : State :=
  ((s.rput r 0x14 2 (s.rget r 0x14 2 - 1)).rput r 0x18 4 ((s.rget r 0x18 4 + 1) % 2 ^ 32)).ringSettle r

/-- The port has accepted a record of completion ring `cq` (R302, R303): TAIL advances, and PHASE inverts when it wraps; DONE counts;
the reservation of a ring descriptor's record ends, and its descriptor has completed (R300); with INT = 1 the ring's group is noted
and RECORD raised. -/
def State.cqWrote (s : State) (cq : Nat) (sub : Option Nat) : State :=
  let st := s.rget cq 0x16 1
  let t := (s.rget cq 0x12 2 + 1) % s.ringSize cq
  let s := (s.rput cq 0x12 2 t).rput cq 0x18 4 ((s.rget cq 0x18 4 + 1) % 2 ^ 32)
  let s := if t = 0 then s.rput cq 0x16 1 (st % 128 + (1 - b2n (bit st 7)) * 128) else s
  let s := match sub with
    | some r => (s.rput cq 0x14 2 (s.rget cq 0x14 2 - 1)).ringDone r
    | none => s
  let s := s.ringSettle cq
  if bit (s.rget cq 0x0D 1) 0 then
    let f := R.RING_SUMMARY_GROUPS (cq / 1024)
    (s.wr f.addr (s.rd f.addr ||| (1#32 <<< (cq / 32 % 32)))).ringRaise cq 0
  else s

/-- A completion record waits to be written. -/
def State.pushRec (s : State) (r : RecOut) : State := s.rngMap (fun g => { g with recs := g.recs ++ [r] })

/-! ## Places of the decoder pool -/

/-- Use of a place. -/
def State.dplace (s : State) (e : Nat) : DUse := tget (fun _ => .free) s.dec.places e

/-- Set the use of a place. -/
def State.dplaceSet (s : State) (e : Nat) (u : DUse) : State :=
  { s with dec := { s.dec with places := tput (fun _ => .free) s.dec.places e u } }

/-- The lowest free place of a DEC group that takes work (06 R194, 13 R381). -/
def State.decFree (s : State) : Option Nat :=
  (List.range s.gen.ndec).find? (fun e => s.dplace e = .free ∧ s.takesWork (decDom e))

/-- Byte key of a place. -/
def dKey (e : Nat) : Nat := e * 131072

/-- Bytes of a decoder-buffer place. -/
def State.dGet (s : State) (e off n : Nat) : List Byte := tbytes s.dec.buf (dKey e + off) n

/-- Store bytes into a decoder-buffer place. -/
def State.dPut (s : State) (e off : Nat) (bs : List Byte) : State :=
  ({ s with dec := { s.dec with buf := tstore s.dec.buf (dKey e + off) bs } }).bufWrote 2 (e * 16384 + off / 8) ((bs.length + 7) / 8)

/-- Result word of a codeword of a place (07 R222). -/
def State.resWord (s : State) (e cw : Nat) : Word := tget zeroWord s.dec.result (e * 16 + cw)

/-- Set a result word: OUTCOME, USC, STEP, ITER (07 R222). -/
def State.resPut (s : State) (e cw outcome usc step iter : Nat) : State :=
  let w : Word := BitVec.ofNat 32 (2 ^ 31 + outcome * 2 ^ 29 + usc * 2 ^ 16 + step * 256 + iter)
  { s with dec := { s.dec with result := tput zeroWord s.dec.result (e * 16 + cw) w } }

/-- OUTCOME of a codeword: 0 PASS, 1 FAIL, 2 ERASED; 3 while it is not written. -/
def State.outcome (s : State) (e cw : Nat) : Nat :=
  if bit (s.resWord e cw).toNat 31 then bits (s.resWord e cw).toNat 29 2 else 3

/-- Jobs of a place that wait or run. -/
def State.jobsOf (s : State) (e : Nat) : List Job :=
  (s.dec.hi ++ s.dec.lo ++ s.dec.run.filterMap (fun p => p.2)).filter (fun j => j.place = e)

/-- Is a tile number owned by a hoop in TLC mode (10 R307)? -/
def State.tileTlc (s : State) (t : Nat) : Bool :=
  (List.range 64).any (fun h =>
    (tget (fun _ => ({} : HoopS)) s.hoops h).st ≠ .off &&
    decide (s.ctxGet (hctx h + 4) 4 % 2 ^ 31 ≤ t) && decide (t < s.ctxGet (hctx h + 4) 4 % 2 ^ 31 + s.ctxGet (hctx h + 8) 4) &&
    bit (s.ctxGet (hctx h) 4) 1)

/-- Error bits of a strobe of a shadow probe in a place (07 R220). -/
def State.shCount (s : State) (e k : Nat) : Nat := tget (fun _ => 0) s.dec.shadow (e * 4 + k)

/-- Clear the result words and counts of a place. -/
def State.resClear (s : State) (e : Nat) : State :=
  { s with dec := { s.dec with result := s.dec.result.filter (fun p => p.1 / 16 ≠ e), shadow := s.dec.shadow.filter (fun p => p.1 / 4 ≠ e) } }

/-! ## Read requests (R307) -/

/-- Statuses of a READ ring record, highest first (R307). -/
def readOrder : List Nat := [0x33, 0x52, 0x60, 0x53, 0x41, 0x54, 0x51, 0x50, 0x00]

/-- The record of a read request whose tiles have all ended (R301, R307). -/
def State.readReqRec (s : State) (q : ReadReq) : RecOut :=
  let st := (readOrder.find? (fun c => q.ended.any (fun p => p.2 = c))).getD 0
  let low := (q.ended.filter (fun p => p.2 = st)).foldl (fun m p => min m p.1) q.count
  let bad := (q.ended.filter (fun p => p.2 ≠ 0 ∧ p.2 ≠ 0x50)).length
  ⟨s.rget q.ring 0x0A 2 % 16384, q.ring, (q.tileno + low) % 2 ^ 31 + bad * 2 ^ 32 + q.deep * 2 ^ 48, q.tag % 2 ^ 32, st, 2⟩

/-- Tile `k` of read request `id` has ended. -/
def State.readTileEnd (s : State) (id k st deep : Nat) : State :=
  match s.rng.reads.find? (fun q => q.id = id) with
  | none => s
  | some q =>
    -- a status outside the order of a READ record counts as UNCORRECTABLE (log entry 19)
    let q := { q with ended := q.ended ++ [(k, if st ∈ readOrder then st else 0x52)], deep := max q.deep deep }
    if q.ended.length < q.count then
      s.rngMap (fun g => { g with reads := g.reads.map (fun x => if x.id = id then q else x) })
    else
      (s.rngMap (fun g => { g with reads := g.reads.filter (fun x => x.id ≠ id) })).pushRec (s.readReqRec q)

/-- Change a read request. -/
def State.readMap (s : State) (id : Nat) (f : ReadReq → ReadReq) : State :=
  s.rngMap (fun g => { g with reads := g.reads.map (fun q => if q.id = id then f q else q) })

/-- The next tile of a read request, in ascending order, when it has been looked up. -/
def ReadReq.ready (q : ReadReq) : Option (Option Nat) := (q.found.find? (fun p => p.1 = q.next)).map (fun p => p.2)

/-- Serve the first request whose next tile has been looked up: an unmapped or lost tile ends without a read; the READ_TILE of
another is issued when a place is free (R307). -/
def State.issueRead (s : State) : State :=
  match s.rng.reads.find? (fun q => match q.ready with
    | some (some a) => a = unmapped || s.decFree.isSome
    | some none => true
    | none => false) with
  | none => s
  | some q =>
    let s := s.readMap q.id (fun x => { x with next := q.next + 1, found := x.found.filter (fun p => p.1 ≠ q.next) })
    match q.ready with
    | some (some a) =>
      if a = unmapped then s.readTileEnd q.id q.next 0x60 0
      else match s.decFree with
        | some e => ((s.dplaceSet e (.read q.id q.next)).resClear e).issue
            { opcode := 3, flags := if s.tileTlc (q.tileno + q.next) then 16 else 0, taddr := a, dbuf := e }
        | none => s
    | _ => s.readTileEnd q.id q.next 0x41 0

/-- Serve read requests while something can be done. -/
def State.issueReads (s : State) : Nat → State
  | 0 => s
  | n + 1 => s.issueRead.issueReads n

/-- Serve read requests: at most one step for each tile looked up. -/
def State.pumpReads (s : State) : State := s.issueReads (s.rng.reads.map (fun q => q.found.length)).sum

/-! ## The reads of an almanac LOAD (07 R239) -/

/-- Almanac channels: `CH_X`, `CH_Y`. -/
def State.almChans (s : State) : List Nat := [s.get R.DEC_ALM_CH_CH_X, s.get R.DEC_ALM_CH_CH_Y]

/-- Block set of slot A or B. -/
def State.almBlk (s : State) (b : Bool) : Nat := if b then s.get R.DEC_ALM_BLK_BLK_B else s.get R.DEC_ALM_BLK_BLK_A

/-- The page that a slot reads next, and whether as a whole tile: the middle of what may hold the first erased page, then the
pages below it, from the last one downward (07 R239 steps 2 and 3). -/
def LoadSlot.next (x : LoadSlot) : Option (Nat × Bool) :=
  if x.busy ∨ x.fin then none
  else if x.lo < x.hi then some ((x.lo + x.hi) / 2, false)
  else some (x.lo - 1 - x.seen, true)

/-- A slot ends with a record, after four pages, or with no page left. -/
def LoadSlot.settle (x : LoadSlot) : LoadSlot :=
  { x with fin := x.fin || decide (x.hi ≤ x.lo) && (x.record.isSome || decide (4 ≤ x.seen) || decide (x.lo ≤ x.seen)) }

/-- Issue the next read of slot `i` of a LOAD when a place is free; of a channel that does not run none is issued. -/
def State.loadIssue (s : State) (i : Nat) : State :=
  match s.rcv.load with
  | none => s
  | some xs =>
    match (xs[i]?).bind LoadSlot.next, s.decFree with
    | some (pg, tile), some e =>
      let n := s.almChans.getD (i / 2) 0
      let s : State := { s with rcv := { s.rcv with load := some (xs.modify i (fun x => { x with busy := true })) } }
      ((s.dplaceSet e (.almanac i)).resClear e).issue
        { opcode := if tile then 3 else 4, origin := 0xC000, taddr := taddrOf n (s.get R.DEC_ALM_CH_LUN) (s.almBlk (i % 2 = 1)) pg
          dbuf := e, mask := if tile then 0 else 1 }
    | _, _ => s

/-- Issue the reads of a LOAD that can be issued. -/
def State.loadPump (s : State) : State := (List.range 4).foldl State.loadIssue s

/-! ## The reads of a ledger recovery (13 R402, R403) -/

/-- The seal LUN of a channel. -/
def State.sealLun (s : State) (n : Nat) : Nat := s.get (R.CH_SEAL_CFG_LUN n)

/-- A ledger block set: false A, true B. -/
def State.ledgBlk (s : State) (b : Bool) : Nat := if b then s.get R.PWR_LEDG_BLK_BLK_B else s.get R.PWR_LEDG_BLK_BLK_A

/-- Positions of a ledger block set: four planes of the SLC pages (13 R396). -/
def State.ledgPositions (s : State) (n : Nat) : Nat :=
  match (s.ch n).phy.geo with
  | some g => 4 * g.slcPages
  | none => 4 * 2048

/-- Change the recovery that runs. -/
def State.ledgRun (s : State) (f : LedgRun → LedgRun) : State := { s with rcv := { s.rcv with ledg := s.rcv.ledg.map f } }

/-- Issue the next READ_CW of block set `i` of a recovery when a place is free: codeword 4q of a position (13 R396, R402). -/
def State.ledgIssue (s : State) (i : Nat) : State :=
  match s.rcv.ledg with
  | none => s
  | some x =>
    match x.slots[i]?, s.decFree with
    | some y, some e =>
      (match y.next with
       | none => s
       | some (p, _) =>
         let s := s.ledgRun (fun x => { x with slots := x.slots.modify i (fun y => { y with busy := true }) })
         ((s.dplaceSet e (.ledger i)).resClear e).issue
           { opcode := 4, origin := 0xC000, taddr := taddrOf y.ch (s.sealLun y.ch) (s.ledgBlk y.blk) (p / 4), dbuf := e
             mask := 2 ^ (4 * (p % 4)) })
    | _, _ => s

/-- Issue the BLANK_VERIFY of open intent `j` of a recovery when a place is free (13 R402, R403). -/
def State.blankIssue (s : State) (j : Nat) : State :=
  match s.rcv.ledg with
  | none => s
  | some x =>
    match x.blanks[j]?, s.decFree with
    | some y, some e =>
      if y.busy ∨ y.res.isSome then s
      else
        let s := s.ledgRun (fun x => { x with blanks := x.blanks.modify j (fun y => { y with busy := true }) })
        ((s.dplaceSet e (.blank j)).resClear e).issue
          { opcode := 7, flags := if bits y.ent.body 32 8 ≠ 0 then 16 else 0, origin := 0xC000, taddr := bits y.ent.body 0 32, dbuf := e }
    | _, _ => s

/-- Issue the reads and verifies of a recovery that can be issued. -/
def State.ledgPump (s : State) : State :=
  match s.rcv.ledg with
  | none => s
  | some x => (List.range x.blanks.length).foldl State.blankIssue ((List.range x.slots.length).foldl State.ledgIssue s)

/-- Serve the requests that wait for a decoder-buffer place (R194). -/
def State.decPump (s : State) : State := s.pumpReads.loadPump.ledgPump

/-- Return a place to the pool; requests that wait for one are served (R194). -/
def State.decRelease (s : State) (e : Nat) : State := ((s.dplaceSet e .free).resClear e).decPump

/-- A tile of a read request ends with its data in place `e`: a good one is copied, another leaves its destination
unwritten (R307). -/
def State.readTileData (s : State) (id k e st deep : Nat) : State :=
  match s.rng.reads.find? (fun q => q.id = id) with
  | none => s.decRelease e
  | some q =>
    if st = 0 ∨ st = 0x50 ∨ st = 0x51 then
      let stride := if q.trl then 65536 else 65472
      let dst := q.dest + k * stride
      let s := s.rngMap (fun g => { g with
        rb := g.rb ++ [.copy ⟨e, (List.range 16).map (fun c => (c * 4608, dst + c * 4096, min 4096 (stride - c * 4096))), none, some (id, k, st), q.ring⟩]
        reads := g.reads.map (fun x => if x.id = id then { x with deep := max x.deep deep } else x) })
      s
    else (s.decRelease e).readTileEnd id k st deep

/-- The record of a CHAN descriptor (R301). -/
def State.chanRec (s : State) (ring tag st : Nat) (res : List Half) : RecOut :=
  ⟨s.rget ring 0x0A 2 % 16384, ring, leNat (res.flatMap (fun h => leBytes 2 h.toNat)), tag % 2 ^ 32, st, 1⟩

/-- A CHAN descriptor of a ring has completed: its record, or only its count when CMPL = 0 (R300). -/
def State.chanEnd (s : State) (ring tag : Nat) (cmpl : Bool) (st : Nat) (res : List Half) : State :=
  if cmpl then s.pushRec (s.chanRec ring tag st res) else s.ringDone ring

/-- A CHAN read has completed: its place is copied when a copy is asked for, and returned (R305). -/
def State.chanReadEnd (s : State) (e ring tag : Nat) (cmpl : Bool) (d : Desc) (st : Nat) (res : List Half) : State :=
  match s.rng.chanReads.find? (fun c => c.place = e) with
  | none => (s.decRelease e).chanEnd ring tag cmpl st res
  | some c =>
    let s := s.rngMap (fun g => { g with chanReads := g.chanReads.filter (fun x => x.place ≠ e) })
    if c.copy then
      let parts : List (Nat × Nat × Nat) :=
        if d.opcode = 8 then (if st = 0 then [(0, c.dest, 18432)] else [])
        else
          let cws := d.cws
          (List.range cws.length).filterMap (fun q =>
            let k := cws.getD q 0
            if s.outcome e k = 0 then
              some (if d.soft then q * 4608 else k * 4608, c.dest + (if d.opcode = 3 then k else q) * 4096, 4096)
            else none)
      s.rngMap (fun g => { g with rb := g.rb ++ [.copy ⟨e, parts, if cmpl then some (s.chanRec ring tag st res) else none, none, ring⟩] })
    else (s.decRelease e).chanEnd ring tag cmpl st res

end Sys2Proof.Machine
end

