-- ==== Sys2Proof/Machine/LinkTx.lean ====
section
/-!
DEFINITION. The link port's transmit side: records, their sequence numbers, the kept records, and what a reflection
primary mirrors (16_cascade_reflection.md R449 to R454, R468).
-/

namespace Sys2Proof.Machine

/-- Payload flits of a record: its bytes, padded with zeros to whole flits (R452). -/
def LRec.body (r : LRec) : List (BitVec 64) :=
  let n := (r.payload.length + 7) / 8
  (List.range n).map (fun i => BitVec.ofNat 64 (leNat ((r.payload.drop (8 * i)).take 8)))

/-- The header flit of a record (R452). -/
def LRec.header (r : LRec) : BitVec 64 :=
  BitVec.ofNat 64 (r.typ * 2 ^ 56 + r.src * 2 ^ 54 + r.dst * 2 ^ 52 + b2n r.bcast * 2 ^ 51 + r.sseq * 2 ^ 32 + r.arg * 2 ^ 14 + r.body.length)

/-- The flits of a record with their tags (R452): SOR (1) with the header, DATA (0), EOR (2) with the CRC of header and payload. -/
def LRec.flits (r : LRec) : List (BitVec 64 × Nat) :=
  let bytes := (r.header :: r.body).flatMap (fun f => leBytes 8 f.toNat)
  (r.header, 1) :: r.body.map (fun f => (f, 0)) ++ [(BitVec.ofNat 64 (crc32 bytes), 2)]

/-- Change the link port. -/
def State.lnkMap (s : State) (f : LinkS → LinkS) : State := { s with lnk := f s.lnk }

/-- The cascade port is enabled. -/
def State.xlOn (s : State) : Bool := s.gen.xlink && s.flag R.XLINK_CTRL_ENABLE

/-- The reflect port is enabled. -/
def State.rfOn (s : State) : Bool := s.gen.refl && s.flag R.REFL_CTRL_ENABLE

/-- Members of the cascade: COUNT + 1 (R455). -/
def State.xlM (s : State) : Nat := s.get R.XLINK_CFG_COUNT + 1

/-- The block's index: its place in the cascade; in a pair 0 for the primary and 1 for the standby. -/
def State.linkMe (s : State) : Nat :=
  if s.xlOn then s.get R.XLINK_CFG_INDEX else if s.flag R.REFL_CFG_PRIMARY then 0 else 1

/-- Lane of a record type (R452). -/
def recLane (typ : Nat) : Nat := if typ < 0x13 then 0 else 1

/-- A block in a pair that is primary and whose peer is UP mirrors its metadata (R468). -/
def State.mirrors (s : State) : Bool := s.rfOn && s.flag R.REFL_CFG_PRIMARY && s.flag R.REFL_STATUS_PEER_UP

/-- Put a record on its lane; all but HB and ACK are kept until they are acknowledged (R454). -/
def State.linkPut (s : State) (r : LRec) : State :=
  s.lnkMap (fun l => { l with
    tx := r :: l.tx
    keep := if r.typ = 1 ∨ r.typ = 2 then l.keep else l.keep ++ [{ r := r, sent := s.cyc }] })

/-- Records of a lane in its 32-record buffer; PARTIAL records are kept in the accumulators (R454). -/
def State.linkHeld (s : State) (lane : Nat) : Nat := (s.lnk.keep.filter (fun k => recLane k.r.typ = lane ∧ k.r.typ ≠ 0x13)).length

/-- Send a new record: it takes the next SSEQ of its lane, and waits while the lane's buffer is full (R452, R454). -/
def State.linkSend (s : State) (r : LRec) : State :=
  let lane := recLane r.typ
  let q := tget (fun _ => 0) s.lnk.nseq lane
  let r := { r with src := s.linkMe, sseq := q }
  let s := s.lnkMap (fun l => { l with nseq := tput (fun _ => 0) l.nseq lane ((q + 1) % 65536) })
  if r.typ = 1 ∨ r.typ = 2 then s.linkPut r
  else if s.lnk.wait.all (fun w => recLane w.typ ≠ lane) ∧ (s.linkHeld lane < 32 ∨ r.typ = 0x13) then s.linkPut r
  else s.lnkMap (fun l => { l with wait := l.wait ++ [r] })

/-- The first waiting record of a lane, when there is room for it. -/
def State.linkReady (s : State) (lane : Nat) : Option LRec :=
  (s.lnk.wait.find? (fun r => recLane r.typ = lane)).filter (fun r => s.linkHeld lane < 32 || r.typ = 0x13)

/-- Send waiting records for which there is room now, those of a lane in order. -/
def State.linkPump (s : State) : Nat → State
  | 0 => s
  | n + 1 =>
    match s.linkReady 0 <|> s.linkReady 1 with
    | some r => ((s.lnkMap (fun l => { l with wait := l.wait.erase r })).linkPut r).linkPump n
    | none => s

/-- Does the unit that sends records of type `typ` wait, a record of it waiting for its lane's buffer (R454)? -/
def State.linkJam (s : State) (typ : Nat) : Bool := s.lnk.wait.any (fun r => r.typ = typ)

/-- A block of a pair with `CFG.PRIMARY` = 0 is the standby (R466). -/
def State.isStandby (s : State) : Bool := s.gen.refl && !s.xlOn && !s.flag R.REFL_CFG_PRIMARY

/-- Mirror a record to the standby (R468). -/
def State.mirror (s : State) (typ arg : Nat) (payload : List Byte) : State :=
  if s.mirrors then s.linkSend { typ := typ, dst := 1, arg := arg, payload := payload } else s

/-- The payload of a MAP_UPD (R452). -/
def mapUpdBytes (ups : List PassUp) : List Byte :=
  ups.flatMap (fun u => leBytes 4 u.tile ++ leBytes 4 u.addr ++ leBytes 8 u.seq ++ leBytes 8 u.serial ++ leBytes 1 u.hoop ++ List.replicate 7 0)

/-- The records of a map update: mirrored first; with SYNC_CMPL they wait for the acknowledgement (R468). -/
def State.passRecords (s : State) (ups : List PassUp) (rs : List TileRec) : State :=
  if s.mirrors then
    let q := tget (fun _ => 0) s.lnk.nseq 1
    let s := s.mirror 0x20 ups.length (mapUpdBytes ups)
    if s.flag R.REFL_CFG_SYNC_CMPL then s.lnkMap (fun l => { l with held := l.held ++ rs.map (fun r => (q, r)) })
    else { s with map := { s.map with records := s.map.records ++ rs } }
  else { s with map := { s.map with records := s.map.records ++ rs } }

/-- Mirror a hoop: bytes 0x40 to 0x9B of its context (R468). -/
def State.mirrorHoop (s : State) (h : Nat) : State :=
  if s.mirrors then s.mirror 0x21 h ((List.range 92).map (fun i => BitVec.ofNat 8 (s.ctxGet (hctx h + 0x40 + i) 1))) else s

/-- Is profile `p` set up as a cascade profile: `PSHARE` is not zero (R458)? -/
def State.cascSet (s : State) (p : Nat) : Bool := s.gen.xlink && s.rd (R.XLINK_PSHARE_SHARE0 p).addr ≠ 0

/-- Is profile `p` a cascade profile of a cascade that the block has joined (R455, R458)? -/
def State.cascProf (s : State) (p : Nat) : Bool := s.xlOn && s.rd (R.XLINK_PSHARE_SHARE0 p).addr ≠ 0

/-- SHARE of member `m` in profile `p`. -/
def State.share (s : State) (p m : Nat) : Nat := bits (s.rd (R.XLINK_PSHARE_SHARE0 p).addr).toNat (8 * m) 8

/-- Data slots of member `m` in a stripe of number `num` of profile `p` (R460). -/
def State.dSlots (s : State) (p num m : Nat) : Nat :=
  s.share p m - (if m = num % s.xlM then s.get (R.LACE_PROF0_PARITY p) else 0)

end Sys2Proof.Machine
end

