-- ==== Sys2Proof/Machine/MapOps.lean ====
section
/-!
DEFINITION. The placement map with its cache (09_placement_hoops.md R269 to R276).
-/

namespace Sys2Proof.Machine

/-! ## Cache lines -/

/-- `MAP.BASE`. -/
def State.mapBase (s : State) : Nat := s.get R.MAP_BASE_HI_ADDR * 2 ^ 32 + s.get R.MAP_BASE_LO_ADDR * 64

/-- `MAP.ENTRIES`, at most 2^31 (R294). -/
def State.mapEntries (s : State) : Nat := min (2 ^ 31) (s.get R.MAP_ENTRIES_CNT)

/-- Change the map unit. -/
def State.mapMap (s : State) (f : MapS → MapS) : State := { s with map := f s.map }

/-- Is line `l` valid in the cache? -/
def State.mapHas (s : State) (l : Nat) : Bool := (tfind s.map.lines l).isSome

/-- Entry of tile `t` in a valid line. -/
def State.mapEntry (s : State) (t : Nat) : Nat :=
  match tfind s.map.lines (t / 16) with
  | some l => (l.entries.getD (t % 16) 0xFFFFFFFF).toNat
  | none => unmapped

/-- Line `l` is read now (R271: least recently used; 14 R416). -/
def State.mapTouch (s : State) (l : Nat) : State :=
  match tfind s.map.lines l with
  | some x =>
    let s := s.bufRead 3 ((l % 4096 * 16 + x.way) * 16) 16
    s.mapMap (fun m => { m with lines := tins m.lines l { x with use := m.clock }, clock := m.clock + 1 })
  | none => s

/-- Write the entry of tile `t` in a valid line: the line becomes dirty. -/
def State.mapSet (s : State) (t a : Nat) : State :=
  match tfind s.map.lines (t / 16) with
  | some x =>
    let x' := { x with entries := x.entries.set (t % 16) (BitVec.ofNat 32 a), dirty := true }
    (s.mapMap (fun m => { m with lines := tins m.lines (t / 16) x' })).bufWrote 3 ((t / 16 % 4096 * 16 + x.way) * 16 + t % 16) 1
  | none => s

/-- Lines that an operation needs. -/
def MapOp.lines : MapOp → List Nat
  | .lookup t => [t / 16]
  | .read _ _ t => [t / 16]
  | .probe _ t => [t / 16]
  | .patrol t _ => [t / 16]
  | .set t _ => [t / 16]
  | .pass ups => (ups.map (fun u => u.tile / 16)).eraseDups

/-- Note the entry a neighbour search asked for. -/
def State.probeAnswer (s : State) (id t a : Nat) : State :=
  { s with rcv := { s.rcv with reqs := s.rcv.reqs.map (fun q =>
      if q.id = id then { q with answers := q.answers ++ [(t, a)] } else q) } }

/-- Tile `k` of a read request has been looked up, or its lookup was lost (R272; 10 R307). -/
def State.readTileFound (s : State) (id k : Nat) (a : Option Nat) : State :=
  (s.readMap id (fun q => { q with found := q.found ++ [(k, a)] })).pumpReads

/-- The contexts of the streams of tile records are read (R276; 14 R416). -/
def State.cmplSeen (s : State) (rs : List TileRec) : State := rs.foldl (fun s r => s.ctxSeen (sctx r.stream) 1) s

/-- Does the completion mode of a record's stream ask for it (R276, R277)? -/
def State.cmplAsks (s : State) (r : TileRec) : Bool :=
  let m := s.ctxGet (sctx r.stream + 3) 1 % 4
  decide (2 ≤ m) || (m = 1 && r.status ≠ 0)

/-- The answer of a lookup by firmware. -/
def State.lookupAnswer (s : State) (t : Nat) : State :=
  ((s.set R.MAP_LOOKUP_RES_TADDR (s.mapEntry t)).set R.MAP_STAT_LK_BUSY 0).set R.MAP_STAT_LK_ERR 0

/-- Write entries as one update (R273): a firmware value does not stand over that of a pass of the same `cyc`, and a lookup answered in the
same `cyc` returns the new value. -/
def State.mapUpdate (s : State) (pass : Bool) (es : List (Nat × Nat)) : State :=
  let es := es.filter (fun e => pass || decide ((s.cyc, e.1) ∉ s.map.passed))
  let s := es.foldl (fun s e => s.mapSet e.1 e.2) s
  let s := if pass then
      s.mapMap (fun m => { m with passed := m.passed.filter (fun x => x.1 = s.cyc) ++ es.map (fun e => (s.cyc, e.1)) })
    else s
  match s.map.asked with
  | some (c, t) => if c = s.cyc ∧ es.any (fun e => e.1 = t) then s.lookupAnswer t else s
  | none => s

/-- Perform an operation whose lines are valid (R272, R273). -/
def State.mapApply (s : State) (op : MapOp) : State :=
  let s := op.lines.foldl State.mapTouch s
  match op with
  | .lookup t => (s.lookupAnswer t).mapMap (fun m => { m with asked := some (s.cyc, t) })
  | .read id k t => s.readTileFound id k (some (s.mapEntry t))
  | .probe id t => s.probeAnswer id t (s.mapEntry t)
  | .patrol t e =>
    let a := s.mapEntry t
    if a = unmapped then s.decRelease e
    else s.issue { opcode := 6, flags := if s.tileTlc t then 16 else 0, origin := 0x8000, taddr := a, tileno := t, dbuf := e }
  | .set t a => s.mapUpdate false [(t, a)]
  | .pass ups =>
    let rs := ups.filterMap (fun u => u.record)
    ((s.cmplSeen rs).mapUpdate true (ups.map (fun u => (u.tile, u.addr)))).passRecords ups (rs.filter s.cmplAsks)

/-- An operation whose fill came back with `RD_ERR` (R272). -/
def State.mapLost (s : State) (op : MapOp) : State :=
  match op with
  | .lookup _ => ((s.set R.MAP_LOOKUP_RES_TADDR unmapped).set R.MAP_STAT_LK_BUSY 0).set R.MAP_STAT_LK_ERR 1
  | .read id k _ => s.readTileFound id k none
  | .probe id t => s.probeAnswer id t unmapped
  | .patrol _ e => s.decRelease e
  | .set t _ => (s.set R.MAP_LOST_TILE_TILENO t).raise .map 0 2
  | .pass ups =>
    let rs := ups.filterMap (fun u => u.record.map (fun r => { r with status := 4 }))
    (ups.foldl (fun s u => (s.set R.MAP_LOST_TILE_TILENO u.tile).raise .map 0 2) (s.cmplSeen rs)).mapMap (fun m =>
      { m with records := m.records ++ rs.filter s.cmplAsks })

/-- Write a dirty line back: the write is presented on the line's port (R271). -/
def State.mapWriteBack (s : State) (l : Nat) (entries : List Word) : State :=
  ((s.mapMap (fun m => { m with wbs := m.wbs ++ [(l, entries)] })).bump R.MAP_WB_CNT_CNT).mpWrite (l % 2) 0 (s.mapBase + 64 * l)
    (entries.flatMap (fun w => leBytes 4 w.toNat)) (.mapLine l)

/-- Ask for the fill of line `l`, unless it is outstanding (R271). A copy of the line that still waits for its write-back is
written back first, on the same port, so that the fill returns it (02 R54). -/
def State.mapFetch (s : State) (l : Nat) : State :=
  if l ∈ s.map.fills then s
  else
    let s := match s.map.evicted.find? (fun p => p.1 = l) with
      | some p => (s.mapMap (fun m => { m with evicted := m.evicted.erase p })).mapWriteBack p.1 p.2
      | none => s
    (s.mapMap (fun m => { m with fills := m.fills ++ [l] })).mpRead (l % 2) 0 0 (s.mapBase + 64 * l) 1 (.mapLine l)

/-- Does an operation that hits wait for the end of its `cyc`, behind the updates of it (R273)? The lookups of the block itself; a lookup by
firmware is answered again instead. -/
def MapOp.later : MapOp → Bool
  | .read _ _ _ => true
  | .probe _ _ => true
  | .patrol _ _ => true
  | _ => false

/-- Does a map update wait with its MAP_UPD, earlier ones waiting for the link's buffer (16 R454, R468)? -/
def State.passJam (s : State) (op : MapOp) : Bool :=
  match op with
  | .pass _ => s.mirrors && s.linkJam 0x20
  | _ => false

/-- An operation arrives at the cache: a hit is done in its `cyc`, a miss waits for its fills (R272, R273). -/
def State.mapSubmit (s : State) (op : MapOp) : State :=
  let miss := op.lines.filter (fun l => !s.mapHas l)
  let s := op.lines.foldl (fun s l => s.bump (if s.mapHas l then R.MAP_HIT_CNT_CNT else R.MAP_MISS_CNT_CNT)) s
  if miss = [] ∧ !op.later ∧ !s.passJam op then s.mapApply op
  else miss.foldl State.mapFetch (s.mapMap (fun m => { m with waiting := m.waiting ++ [op] }))

/-- Order of operations that meet (R273): firmware updates, then program passes, then lookups. -/
def MapOp.rank : MapOp → Nat
  | .set _ _ => 0
  | .pass _ => 1
  | _ => 2

/-- The waiting operation that goes next: of those whose lines are valid the lowest rank, in order of arrival (R272, R273). -/
def State.mapNext (s : State) : Option MapOp :=
  (List.range 3).findSome? (fun k => s.map.waiting.find? (fun op => op.rank = k && op.lines.all (fun l => s.mapHas l) && !s.passJam op))

/-- Perform the waiting operations whose lines are valid. -/
def State.mapDrain (s : State) : Nat → State
  | 0 => s
  | n + 1 =>
    match s.mapNext with
    | some op => ((s.mapMap (fun m => { m with waiting := m.waiting.erase op })).mapApply op).mapDrain n
    | none => s

/-- The way for a new line of a set: a free one, else that of the least recently used line, which is evicted (R271). -/
def State.mapVictim (s : State) (l : Nat) : Nat × Option Nat :=
  let set := s.map.lines.filter (fun p => p.1 % 4096 = l % 4096)
  match (List.range 16).find? (fun w => set.all (fun p => p.2.way ≠ w)) with
  | some w => (w, none)
  | none =>
    match set with
    | [] => (0, none)
    | p :: ps => let v := ps.foldl (fun m q => if q.2.use < m.2.use then q else m) p; (v.2.way, some v.1)

/-- Hardware reads the words of a line for its write-back (14 R416). -/
def State.mapSeen (s : State) (l way : Nat) : State := s.bufRead 3 ((l % 4096 * 16 + way) * 16) 16

/-- Evict a line: a dirty one waits for its write-back (R271). -/
def State.mapEvict (s : State) (l : Nat) : State :=
  match tfind s.map.lines l with
  | some x => (if x.dirty then s.mapSeen l x.way else s).mapMap (fun m => { m with lines := tdel m.lines l, evicted := if x.dirty then m.evicted ++ [(l, x.entries)] else m.evicted })
  | none => s

/-- Install a filled line. -/
def State.mapInstall (s : State) (l : Nat) (entries : List Word) : State :=
  let (w, v) := s.mapVictim l
  let s := match v with
    | some x => s.mapEvict x
    | none => s
  let s := s.mapMap (fun m => { m with lines := tins m.lines l ⟨entries, false, m.clock, w⟩, clock := m.clock + 1 })
  s.bufWrote 3 ((l % 4096 * 16 + w) * 16) 16

/-- The 16 entries of a line of 64 bytes. -/
def lineEntries (bs : List Byte) : List Word := (List.range 16).map (fun i => BitVec.ofNat 32 (leNat ((bs.drop (4 * i)).take 4)))

end Sys2Proof.Machine
end

