-- ==== Sys2Proof/Machine/LaceOps.lean ====
section
/-!
DEFINITION. Lace stripes: accumulators, landing, closing and the parity tiles' passes (06_codeword.md R200 to R211), and the shares of a cascade
(16_cascade_reflection.md R458 to R463).
-/

namespace Sys2Proof.Machine

/-- Change the lace unit. -/
def State.laceMap (s : State) (f : LaceS → LaceS) : State := { s with lace := f s.lace }

/-- Key of a span byte of accumulator `k` of a set. -/
def accKey (set k j : Nat) : Nat := (set * 4 + k) * 73728 + j

/-- XOR bytes into an accumulator from span byte `j` on. -/
def State.accXor (s : State) (set k : Nat) : Nat → List Byte → State
  | _, [] => s
  | j, b :: bs =>
    (s.laceMap (fun l => { l with acc := tput zeroByte l.acc (accKey set k j) (tget zeroByte l.acc (accKey set k j) ^^^ b) })).accXor set k (j + 1) bs

/-- Accumulate span bytes of data slot `i` into the parity rows `0` to `n − 1` (R201). -/
def State.accAdd (s : State) (set i j : Nat) (bs : List Byte) : Nat → State
  | 0 => s
  | n + 1 =>
    let w := set * 36864 + n * 9216 + j / 8
    let k := (bs.length + 7) / 8
    (((s.accAdd set i j bs n).bufRead 4 w k).accXor set n j (gfScale (laceC n i) bs)).bufWrote 4 w k

/-- Clear the accumulators of a set. -/
def State.accClear (s : State) (set : Nat) : State :=
  s.laceMap (fun l => { l with acc := l.acc.filter (fun p => p.1 / 294912 ≠ set) })

/-- Bytes of an accumulator. -/
def State.accGet (s : State) (set k j n : Nat) : List Byte := tbytes s.lace.acc (accKey set k j) n

/-- The lowest free accumulator set (R204). -/
def State.setFree (s : State) : Option Nat := (List.range 8).find? (fun a => decide (a ∉ s.lace.used))

/-- Channels of a 48-bit mask, ascending. -/
def maskChans (m : Nat) : List Nat := (List.range 48).filter (bit m)

/-- Channel mask of profile `p`. -/
def State.profMask (s : State) (p : Nat) : Nat := s.get (R.LACE_PROF1_MASK_LO p) + s.get (R.LACE_PROF2_MASK_HI p) * 2 ^ 32

/-- The open stripe of a profile. -/
def State.openStripe (s : State) (p : Nat) : Option Stripe := s.lace.stripes.find? (fun x => x.prof = p ∧ x.closed = none)

/-- Change the stripe with number `n` of a set. -/
def State.stripeMap (s : State) (num : Nat) (f : Stripe → Stripe) : State :=
  s.laceMap (fun l => { l with stripes := l.stripes.map (fun x => if x.num = num then f x else x) })

/-- Data slots of a stripe. -/
def Stripe.d (x : Stripe) : Nat := x.width - x.parity

/-- The place among this block's slots that the next landing tile takes: a freed one, else the next (R204, R208). -/
def Stripe.nextSlot (x : Stripe) : Nat :=
  match (List.range x.slots.length).find? (fun i => (x.slots.getD i ⟨0, 0, false, unmapped, false⟩).free) with
  | some i => i
  | none => x.slots.length

/-- Channels that hold a tile of the stripe. -/
def Stripe.chans (x : Stripe) : List Nat := (x.slots.filter (fun y => !y.free)).map (fun y => y.ch)

/-- Put a tile at place `i` of this block's slots. -/
def Stripe.put (x : Stripe) (i : Nat) (y : LSlot) : Stripe :=
  if i < x.slots.length then { x with slots := x.slots.set i y }
  else { x with slots := x.slots ++ [y] }

/-- Have all taken slots landed? -/
def Stripe.landed (x : Stripe) : Bool := x.slots.all (fun y => y.free || y.landed)

/-- Take the stripe out of the unit: its set returns to the pool (R207). -/
def State.setReturn (s : State) (set : Nat) : State :=
  (s.accClear set).laceMap (fun l => { l with used := l.used.erase set })

/-- Highest CLOSE of a stripe and its PARTIAL rows (16 R461). -/
def State.partClose (s : State) (x : Stripe) : Nat :=
  (s.lnk.parts.filter (fun p => p.1 = x.num)).foldl (fun m p => max m p.2.2.1) (x.closed.getD 0)

/-- Send row `k` of a member's accumulator to the next member (16 R461). -/
def State.partSend (s : State) (x : Stripe) (k close : Nat) : State :=
  (s.linkSend { typ := 0x13, dst := (s.linkMe + 1) % s.xlM, arg := k * 4 + close
                payload := leBytes 4 x.num ++ leBytes 4 0 ++ s.accGet x.set k 0 65504 }).stripeMap x.num (fun y => { y with rows := y.rows ++ [k] })

/-- The parity copies of a closed stripe: row `k` goes to the `k`-th channel of the mask without a tile (R207). -/
def parityCopies (x : Stripe) : List (Nat × Nat) :=
  let free := (maskChans x.mask).filter (fun c => decide (c ∉ x.chans))
  (List.range x.parity).map (fun k => (k, free.getD k 63))

/-- Go on with the partial parity of a stripe of a cascade whose share has closed (16 R461): the member after the holder
starts with its own rows, a later one folds a row that has arrived into its own and sends it on, the holder folds the rows
and closes when all have arrived. -/
def State.partGo (s : State) (num : Nat) : State :=
  match s.lace.stripes.find? (fun x => x.num = num ∧ x.casc ∧ x.closed.isSome ∧ !x.noParity) with
  | none => s
  | some x =>
    let h := num % s.xlM
    if s.linkMe = (h + 1) % s.xlM then
      ((List.range x.parity).filter (fun k => decide (k ∉ x.rows))).foldl (fun s k => s.partSend x k (x.closed.getD 0)) s
    else
      let mine := s.lnk.parts.filter (fun p => p.1 = num ∧ p.2.1 ∉ x.rows)
      let close := s.partClose x
      let s := mine.foldl (fun s p =>
        let s := s.accXor x.set p.2.1 0 p.2.2.2
        if s.linkMe = h then s.stripeMap num (fun y => { y with rows := y.rows ++ [p.2.1], closed := some close })
        else s.partSend x p.2.1 (max p.2.2.1 (x.closed.getD 0))) s
      let s := s.lnkMap (fun l => { l with parts := l.parts.filter (fun p => p.1 ≠ num) })
      match s.lace.stripes.find? (fun y => y.num = num) with
      | none => s
      | some y =>
        if s.linkMe = h ∧ x.rows.length < x.parity ∧ y.rows.length = y.parity then
          s.stripeMap num (fun z => { z with copies := parityCopies y })
        else s

/-- The shares that have closed and whose parity copies have not begun get no parity (16 R463). -/
def State.cascDrop (s : State) : State :=
  (s.lace.stripes.filter (fun x => x.casc && x.closed.isSome && !x.noParity && !x.fin && x.copies = [] && x.pslots = [])).foldl (fun s x =>
    (s.stripeMap x.num (fun y => { y with noParity := true, fin := true, closed := some 2, set := 255 })).setReturn x.set) s

/-- Close a stripe now (R206, R207, R211): `kind` 0 full, 1 short, 2 seal. A cascade profile's stripe that a seal closes
gets no parity (16 R463); otherwise its share closes and its partial parity goes on (16 R460, R461). -/
def State.stripeClose (s : State) (x : Stripe) (kind : Nat) : State :=
  let noPar : Bool := kind = 2 && (x.casc || !s.flag R.LACE_CTRL_SEAL_PAR)
  let s := s.stripeMap x.num (fun y => { y with
    closed := some kind, copies := if noPar || x.casc then [] else parityCopies x, noParity := noPar, fin := noPar || !x.casc })
  let s := if noPar then s.setReturn x.set else s
  let s := s.wr R.LACE_CLOSE_PROF.addr (s.rd R.LACE_CLOSE_PROF.addr &&& ~~~(1#32 <<< x.prof))
  let s := if kind = 1 then s.raise .lace 0 1 else s
  s.partGo x.num

/-- Close when full, or when a close is wanted and no tile is landing (R206); a seal closes it as such even when full (R211). -/
def State.stripeCheck (s : State) (num : Nat) : State :=
  match s.lace.stripes.find? (fun x => x.num = num ∧ x.closed = none) with
  | none => s
  | some x =>
    if !x.landed then s
    else if x.want ≠ some 2 ∧ x.cap ≤ (x.slots.filter (fun y => !y.free)).length then s.stripeClose x 0
    else match x.want with
      | some k => s.stripeClose x k
      | none => s

/-- Ask for a close of the open stripe of a profile (R206); one that a seal closes stays so (R211). -/
def State.stripeWant (s : State) (p kind : Nat) : State :=
  match s.openStripe p with
  | none => s
  | some x => (s.stripeMap x.num (fun y => { y with want := some (if y.want = some 2 then 2 else kind) })).stripeCheck x.num

/-- Is a number at hand for a new stripe of profile `p` (R204, 16 R459)? -/
def State.numReady (s : State) (p : Nat) : Bool :=
  if s.cascProf p then tget (fun _ => []) s.lnk.nums p ≠ [] else true

/-- The master keeps 4 numbers of a cascade profile issued ahead, each drawn from its own `STRIPE_NEXT` (16 R459). -/
def State.numIssue (s : State) (p : Nat) : Nat → State
  | 0 => s
  | n + 1 =>
    if s.cascProf p ∧ s.linkMe = 0 ∧ (tget (fun _ => []) s.lnk.nums p).length < 4 then
      let num := s.get R.LACE_STRIPE_NEXT_NUM
      let s := (s.set R.LACE_STRIPE_NEXT_NUM (num + 1)).linkSend { typ := 0x11, bcast := true, arg := p, payload := leBytes 4 num }
      (s.lnkMap (fun l => { l with nums := tmod (fun _ => []) l.nums p (fun q => q ++ [num]) })).numIssue p n
    else s

/-- Open a stripe of profile `p` (R204; 16 R459, R460). -/
def State.stripeOpen (s : State) (p hoop set : Nat) : State :=
  let width := s.get (R.LACE_PROF0_WIDTH p)
  let parity := s.get (R.LACE_PROF0_PARITY p)
  let put (s : State) (num cap base : Nat) (casc : Bool) : State := (s.accClear set).laceMap (fun l => { l with
    used := l.used ++ [set]
    stripes := l.stripes ++ [{ num := num, prof := p, width := width, parity := parity, mask := s.profMask p, set := set, hoop := hoop
                               last := s.cyc, cap := cap, base := base, casc := casc }] })
  if s.cascProf p then
    match tget (fun _ => []) s.lnk.nums p with
    | [] => s
    | num :: rest =>
      let s := s.lnkMap (fun l => { l with nums := tput (fun _ => []) l.nums p rest })
      let me := s.linkMe
      (put s num (s.dSlots p num me) ((List.range me).map (fun m => s.dSlots p num m)).sum true).numIssue p 4
  else
    let num := s.get R.LACE_STRIPE_NEXT_NUM
    put (s.set R.LACE_STRIPE_NEXT_NUM (num + 1)) num (width - parity) 0 false

/-- A tile of the stripe has passed at an address (R210). -/
def State.stripePass (s : State) (num ch place t : Nat) : State :=
  s.stripeMap num (fun x => { x with
    slots := x.slots.map (fun y => if y.ch = ch ∧ y.place = place ∧ y.taddr = unmapped then { y with taddr := t } else y)
    pslots := x.pslots.map (fun y => if y.2.ch = ch ∧ y.2.place = place ∧ y.2.taddr = unmapped then (y.1, { y.2 with taddr := t }) else y) })

/-- Has every parity tile of a closed stripe passed (16 R461)? -/
def Stripe.parityPassed (x : Stripe) : Bool :=
  x.closed.isSome && x.copies = [] && decide (x.pslots.length = x.parity) && x.pslots.all (fun y => y.2.taddr ≠ unmapped)

/-- Has every data and parity tile of a closed stripe passed (R210)? -/
def Stripe.complete (x : Stripe) : Bool :=
  x.closed.isSome && x.fin && x.copies = [] && x.slots.all (fun y => y.free || y.taddr ≠ unmapped) &&
  x.pslots.all (fun y => y.2.taddr ≠ unmapped)

/-- The 1,024 bytes of a stripe record (R210). -/
def stripeRecord (x : Stripe) : List Byte :=
  let a (i : Nat) : Nat :=
    if i < x.d then
      (if x.base ≤ i ∧ i < x.base + x.cap then
        (match x.slots[i - x.base]? with
         | some y => if y.free then unmapped else y.taddr
         | none => unmapped)
       else 0xFFFFFFFE)
    else if i < x.width then
      (match x.pslots.find? (fun y => y.1 = i - x.d) with
       | some y => y.2.taddr
       | none => if x.casc && !x.noParity then 0xFFFFFFFE else unmapped)
    else unmapped
  let h := leBytes 4 0x4543414C ++ leBytes 4 x.num ++ leBytes 1 x.width ++ leBytes 1 x.parity ++ leBytes 1 x.prof ++ leBytes 1 (x.closed.getD 0)
  let b := List.replicate 48 0 ++ (List.range 192).flatMap (fun i => leBytes 4 (a i)) ++ List.replicate 192 0
  h ++ leBytes 4 (crc32 (h ++ b)) ++ b

/-- Write a stripe's record, and forget the stripe; with `REC_COUNT` = 0 none is written (R210, R213). DESIGN CHOICE (log entry 91):
STRIPE_CLOSED is raised when the record goes to the port, and with `REC_COUNT` = 0 too. -/
def State.stripeRecPut (s : State) (x : Stripe) : State :=
  let n := s.get R.LACE_REC_COUNT_CNT
  let base := s.get R.LACE_REC_BASE_HI_ADDR * 2 ^ 32 + s.get R.LACE_REC_BASE_LO_ADDR * 1024
  let s := if n = 0 then s
    else (s.mpWrite (x.num % 2) 0 (base + x.num % n * 1024) (stripeRecord x) (.stripeRec x.num)).mirror 0x24 0 (stripeRecord x)
  (s.laceMap (fun l => { l with stripes := l.stripes.filter (fun y => y.num ≠ x.num) })).raise .lace 0 0

end Sys2Proof.Machine
end

