-- ==== Sys2Proof/Machine/HoopOps.lean ====
section
/-!
DEFINITION. Hoops: geometry, slots, the erase front, triggers, and the issue of programs (09_placement_hoops.md R280 to
R292); the tile trailer (06_codeword.md R184).
-/

namespace Sys2Proof.Machine

/-- The block's position in a cascade; 0 without one (06 R184). -/
def State.blkIndex (s : State) : Nat := if s.gen.xlink && s.flag R.XLINK_CTRL_ENABLE then s.get R.XLINK_CFG_INDEX else 0

/-! ## Contexts -/

/-- A field of hoop context `h`. -/
def State.hget (s : State) (h off n : Nat) : Nat := s.ctxGet (hctx h + off) n

/-- Set a field of hoop context `h`. -/
def State.hput (s : State) (h off n v : Nat) : State := s.ctxPut (hctx h + off) n v

/-- A field of stream context `st`. -/
def State.sget (s : State) (st off n : Nat) : Nat := s.ctxGet (sctx st + off) n

/-- Set a field of stream context `st`. -/
def State.sput (s : State) (st off n v : Nat) : State := s.ctxPut (sctx st + off) n v

/-- A hoop beside its context. -/
def State.hoop (s : State) (h : Nat) : HoopS := tget (fun _ => {}) s.hoops h

/-- Change a hoop beside its context. -/
def State.hoopMap (s : State) (h : Nat) (f : HoopS → HoopS) : State := { s with hoops := tmod (fun _ => {}) s.hoops h f }

/-- Encoding of a hoop's state (R292). -/
def HoopSt.code : HoopSt → Nat
  | .off => 0 | .armed => 1 | .frozen => 2 | .done => 3 | .overrun => 4

/-- Set a hoop's state register and its mirror (R289). -/
def State.hoopSet (s : State) (h : Nat) (st : HoopSt) : State :=
  ((s.hoopMap h (fun x => { x with st := st })).hput h 0x84 1 st.code).mirrorHoop h

/-- Is the hoop closed: DONE, OVERRUN or OFF (R287)? -/
def HoopSt.closed : HoopSt → Bool
  | .off => true | .done => true | .overrun => true | .armed => false | .frozen => false

/-- Raise a HOOP event and name the hoop (R294). -/
def State.hoopRaise (s : State) (h b : Nat) : State := (s.set R.HOOP_EVT_HOOP_HOOP h).raise .hoop 0 b

/-- Raise a STRM event and name the stream (R294). -/
def State.strmRaise (s : State) (st b : Nat) : State := (s.set R.STRM_EVT_STREAM_STREAM st).raise .strm 0 b

/-- Is the hoop of kind PLAIN? -/
def State.hoopPlain (s : State) (h : Nat) : Bool := bit (s.hget h 0 4) 0

/-- Is the hoop in TLC mode? -/
def State.hoopTlc (s : State) (h : Nat) : Bool := bit (s.hget h 0 4) 1

/-- ERASE_LEAD. -/
def State.hoopLead (s : State) (h : Nat) : Nat := bits (s.hget h 0 4) 8 8

/-- Member channels, ascending. -/
def State.hoopChans (s : State) (h : Nat) : List Nat := maskChans (s.hget h 0x20 8)

/-- Member LUNs, ascending. -/
def State.hoopLuns (s : State) (h : Nat) : List Nat := (List.range 16).filter (bit (s.hget h 0x1A 2))

/-- NROW (R280). -/
def State.hoopRows (s : State) (h : Nat) : Nat := s.hget h 0x16 2 + 1 - s.hget h 0x14 2

/-- Block set of row `r` (R280). -/
def State.rowBlk (s : State) (h r : Nat) : Nat := s.hget h 0x14 2 + r % max 1 (s.hoopRows h)

/-- Groups in a row (R280). -/
def State.hoopGroups (s : State) (h : Nat) : Nat := if s.hoopTlc h then s.hget h 0x18 2 / 3 else s.hget h 0x18 2

/-- A slot: LUN, page level, channel. -/
abbrev HSlot := Nat × Nat × Nat

/-- The slots of a group of row `r`, in order: LUN, then level, then channel ascending (R280). -/
def State.rowSlots (s : State) (h r : Nat) : List HSlot :=
  let lv := if s.hoopTlc h then [0, 1, 2] else [0]
  ((s.hoopLuns h).flatMap (fun l => lv.flatMap (fun v => (s.hoopChans h).map (fun c => (l, v, c))))).filter (fun x =>
    decide ((⟨r, x.2.2, x.1⟩ : Member) ∉ (s.hoop h).noSlot))

/-- Tile address of a slot of group `g` of row `r`. -/
def State.slotAddr (s : State) (h r g : Nat) (x : HSlot) : Nat :=
  taddrOf x.2.2 x.1 (s.rowBlk h r) (if s.hoopTlc h then 3 * g + x.2.1 else g)

/-- Have all erases of row `r` been issued and completed (R287)? -/
def State.rowErased (s : State) (h r : Nat) : Bool :=
  decide (r < s.hget h 0x5C 4) && (s.hoop h).erasing.all (fun m => m.row ≠ r)

/-- Address of START[i] of the row table (R286). -/
def State.rowAddr (s : State) (h i : Nat) : Nat := s.hget h 0x28 6 / 8 * 8 + 8 * i

/-- START[i] of the row table as it was read: none while it has not been, `some none` when unset (R286). -/
def State.rowRead (s : State) (h i : Nat) : Option (Option Nat) := ((s.hoop h).tbl.find? (fun p => p.1 = i)).map (fun p => p.2)

/-- START[i] when it has been read and is set. -/
def State.rowStart (s : State) (h i : Nat) : Option Nat := (s.rowRead h i).getD none

/-- Ask for START[i], unless it is held or on its way: one line in the map-cache class (R286; 02 R485). -/
def State.rowAsk (s : State) (h i : Nat) : State :=
  if (s.rowRead h i).isSome ∨ i ∈ (s.hoop h).tblAsk then s
  else (s.hoopMap h (fun x => { x with tblAsk := x.tblAsk ++ [i] })).mpRead (h % 2) 0 0 (s.rowAddr h i / 64 * 64) 1 (.rowTable h i)

/-- START[i] has come back; a line with `RD_ERR` is not used (02 R55), and the next use asks again. -/
def State.rowGot (s : State) (h i : Nat) (r : MpRead) : State :=
  let v := leNat ((r.data.drop (s.rowAddr h i % 64)).take 8)
  s.hoopMap h (fun x => { x with
    tblAsk := x.tblAsk.erase i
    tbl := if r.bad ≠ [] ∨ i ∉ x.tblAsk then x.tbl else x.tbl ++ [(i, if v = 2 ^ 64 - 1 then none else some v)] })

/-- Write START[i], in the map-cache class; `2 ^ 64 - 1` is unset (R286). -/
def State.rowStartPut (s : State) (h i v : Nat) : State :=
  let e : Option Nat := if v = 2 ^ 64 - 1 then none else some v
  (s.hoopMap h (fun x => { x with tbl := x.tbl.map (fun p => if p.1 = i then (i, e) else p) })).mpWrite (h % 2) 0 (s.rowAddr h i)
    (leBytes 8 v) (.rowTable h i)

/-- Index of row `q` in the row table (R280). -/
def State.rowIdx (s : State) (h q : Nat) : Nat := q % max 1 (s.hoopRows h)

/-- Have the entries of rows `q` and `q + 1` been read? -/
def State.rowKnown (s : State) (h q : Nat) : Bool := (s.rowRead h (s.rowIdx h q)).isSome && (s.rowRead h (s.rowIdx h (q + 1))).isSome

/-- Ask for the entries of rows `q` and `q + 1`. -/
def State.rowAsks (s : State) (h q : Nat) : State := (s.rowAsk h (s.rowIdx h q)).rowAsk h (s.rowIdx h (q + 1))

/-- RM while ARMED: max(WP − TILES, OLDEST) (R284). -/
def State.rmArmed (s : State) (h keep : Nat) : Nat := max (s.hget h 0x40 8 - keep) (s.hget h 0x50 8)

/-- RM follows while the hoop is ARMED (R284). -/
def State.rmFollow (s : State) (h : Nat) : State :=
  if (s.hoop h).st = .armed then s.hput h 0x48 8 (s.rmArmed h (s.hget h 8 4)) else s

/-- May row `q`, whose entries have been read, be erased (R285)? -/
def State.rowMayErase (s : State) (h q : Nat) : Bool :=
  (s.hoop h).st = .armed ||
  (match s.rowStart h (s.rowIdx h q) with
   | none => true
   | some _ => match s.rowStart h (s.rowIdx h (q + 1)) with
     | some x => decide (x ≤ s.hget h 0x48 8)
     | none => false)

/-! ## Slots -/

/-- The current group moves on while all its slots are taken (R281). -/
def State.groupAdvance (s : State) (h : Nat) : State :=
  let r := s.hget h 0x58 4
  let g := s.hget h 0x60 2
  if (s.hoop h).taken.length < (s.rowSlots h r).length then s
  else
    let s := s.hoopMap h (fun x => { x with taken := x.takenNext, takenNext := [] })
    if g + 1 < s.hoopGroups h then s.hput h 0x60 2 (g + 1) else ((s.hput h 0x60 2 0).hput h 0x58 4 (r + 1)).mirrorHoop h

/-- Take slot `k` of the current group. -/
def State.takeSlot (s : State) (h k : Nat) : State :=
  (s.hoopMap h (fun x => { x with taken := x.taken ++ [k] })).groupAdvance h

/-- Row and group that follow the current group. -/
def State.nextGroup (s : State) (h : Nat) : Nat × Nat :=
  if s.hget h 0x60 2 + 1 < s.hoopGroups h then (s.hget h 0x58 4, s.hget h 0x60 2 + 1) else (s.hget h 0x58 4 + 1, 0)

/-- The first free slot on channel `c` in the current group, else in the next one (R282): its address and the state with the
slot taken. -/
def State.boundSlot (s : State) (h c : Nat) : Option (Nat × State) :=
  let r := s.hget h 0x58 4
  let g := s.hget h 0x60 2
  let cur := s.rowSlots h r
  match (List.range cur.length).find? (fun k => decide (k ∉ (s.hoop h).taken) && (cur.getD k (0, 0, 99)).2.2 = c && s.rowErased h r) with
  | some k => some (s.slotAddr h r g (cur.getD k (0, 0, 0)), s.takeSlot h k)
  | none =>
    let (r', g') := s.nextGroup h
    let nxt := s.rowSlots h r'
    match (List.range nxt.length).find? (fun k => decide (k ∉ (s.hoop h).takenNext) && (nxt.getD k (0, 0, 99)).2.2 = c && s.rowErased h r') with
    | some k => some (s.slotAddr h r' g' (nxt.getD k (0, 0, 0)), s.hoopMap h (fun x => { x with takenNext := x.takenNext ++ [k] }))
    | none => none

/-! ## Programs -/

/-- The tile in a place has taken its slot: the channel's slots keep the order in which they were taken. -/
def State.slotTaken (s : State) (n p : Nat) : State :=
  (s.placeMap n p (fun x => { x with slotNo := (s.ch n).nextOrd })).chMap n (fun c => { c with nextOrd := c.nextOrd + 1 })

/-- Does a tile of profile `p` that lands on channel `c` land laced (R205; 16 R465)? -/
def State.landsLaced (s : State) (p c : Nat) : Bool :=
  decide (p < 8) && s.flag (R.LACE_PROF0_EN p) && decide (p ∉ s.lnk.barred) && decide (c ∈ maskChans (s.profMask p))

/-- Issue the PROG of a place (R275, 08 R256); a tile of which no byte has landed is marked laced when it will land so. -/
def State.issueProg (s : State) (n p : Nat) (cut : Bool) : State :=
  let v := s.place n p
  let lv := if v.tlc then taPage v.taddr % 3 else 0
  let s := (s.placeMap n p (fun x => { x with issued := true, due := none, issueNo := (s.ch n).nextOrd })).chMap n (fun c =>
    { c with nextOrd := c.nextOrd + 1 })
  let m := (n, taLun v.taddr)
  let s := if v.tlc ∧ v.hoop < 64 then
      s.hoopMap v.hoop (fun x => { x with wls := if lv = 0 then x.wls ++ [m] else if lv = 2 then x.wls.erase m else x.wls })
    else s
  s.issue { opcode := 1, flags := lv + b2n cut * 4 + b2n v.tlc * 16 + b2n (decide (v.stripe ≠ unmapped) || (v.fresh && s.landsLaced v.profile n)) * 32,
            origin := if v.kind = .almanac then 0xC000 else 0, taddr := v.taddr, tileno := v.tileno, place := p }

/-- Is the PROG of place `p` held back: by an earlier page of its LUN whose PROG has not been issued, a reserved slot's among them (05 R157;
R288), or by an open TLC wordline of another hoop on its LUN (R283)? -/
def State.progHeld (s : State) (n p : Nat) : Bool :=
  let v := s.place n p
  (List.range 8).any (fun q =>
    let w := s.place n q
    w.used && !w.issued && w.hoop = v.hoop && w.taddr ≠ unmapped && taLun w.taddr = taLun v.taddr && decide (0 < w.slotNo ∧ w.slotNo < v.slotNo)) ||
  (List.range 64).any (fun h => h ≠ v.hoop && decide ((n, taLun v.taddr) ∈ (s.hoop h).wls))

/-- Issue the PROGs of channel `n` that are due and not held back. -/
def State.progPump (s : State) (n : Nat) : Nat → State
  | 0 => s
  | k + 1 =>
    match (List.range 8).find? (fun p => (s.place n p).due.isSome && !s.progHeld n p) with
    | some p => (s.issueProg n p ((s.place n p).due.getD false)).progPump n k
    | none => s

/-- The PROG of a place is due: it is issued once no earlier page of its LUN holds it back. One that is due keeps its CUT bit (08 R256). -/
def State.wantProg (s : State) (n p : Nat) (cut : Bool) : State :=
  (s.placeMap n p (fun x => { x with due := some (x.due.getD cut) })).progPump n 8

/-! ## Trailer (06 R184) -/

/-- The first 60 bytes of the trailer of a data, FILL or almanac tile. -/
def trailerHead (v : PlaceS) : List Byte :=
  leBytes 2 2 ++ leBytes 2 v.flags ++ leBytes 2 v.stream ++ leBytes 1 v.thoop ++ leBytes 1 v.lane ++ leBytes 8 v.serial ++
  leBytes 4 v.angle ++ leBytes 4 v.len ++ leBytes 8 v.time ++ leBytes 4 v.stripe ++ leBytes 1 v.slot ++ leBytes 1 v.width ++
  leBytes 1 v.parity ++ leBytes 1 0 ++ leBytes 8 v.tileno ++ List.replicate 12 0

/-- The first `len` info bytes of the tile in a place as they stood before any scrambling. -/
def State.infoPlain (s : State) (n p len : Nat) : List Byte :=
  let v := s.place n p
  ((List.range 16).flatMap (fun k =>
    let b := s.tbGet n p (k * 4608) 4096
    if bit v.enc k then scramble v.encAddr k b else b)).take len

/-- Write the trailer with its CRC over the tile as it stands (R184, R185). -/
def State.trailerPut (s : State) (n p : Nat) (head : List Byte) : State :=
  let s := s.infoPut n p 65472 (head ++ leBytes 4 (crc32 (s.infoPlain n p 65472 ++ head)))
  s.placeMap n p (fun x => { x with whole := true })

/-- Write filler over the rest of the payload area and the trailer of the tile in a place; its stripe takes the trailer's
span bytes and the slot has landed (06 R183, R184, R191, R200). -/
def State.tileFinish (s : State) (n p : Nat) : State :=
  let v := s.place n p
  let s := s.infoPut n p v.len (List.replicate (65472 - v.len) 0)
  let h := trailerHead v
  let s := s.trailerPut n p h
  match s.lace.stripes.find? (fun x => x.num = v.stripe ∧ x.closed = none) with
  | none => s
  | some x =>
    if v.stripe = unmapped then s
    else
      let s := s.accAdd x.set v.slot 65472 (h.take 32) x.parity
      let s := s.stripeMap x.num (fun y => { y with
        last := s.cyc
        slots := y.slots.map (fun z => if z.ch = n ∧ z.place = p ∧ !z.free then { z with landed := true } else z) })
      s.stripeCheck x.num

/-! ## Triggers (R290) -/

/-- A trigger of source `src` (0 pin, 1 lane, 2 register) reaches hoop `h`, when its bit in CFG is set and the hoop is
CAPTURE; several of one `cyc` are one. -/
def State.hoopTrig (s : State) (h src time angle : Nat) : State :=
  if s.hoopPlain h || !bit (s.hget h 0 4) (2 + src) then s
  else
    let add (l : List TrigS) : List TrigS :=
      if l.any (fun t => t.time = time) then l.map (fun t => if t.time = time then { t with src := t.src ||| 2 ^ src } else t)
      else l ++ [⟨2 ^ src, time, angle⟩]
    s.hoopMap h (fun x => { x with trig := add x.trig })

/-- The tile that begins to land in a place takes the next slot of the open stripe of its profile (06 R204): while the
stripe takes tiles, and on a channel of the mask that holds none of its tiles; otherwise it stays unlaced. -/
def State.landStripe (s : State) (n p : Nat) : State :=
  match s.openStripe (s.place n p).profile with
  | none => s
  | some x =>
    if x.want.isSome ∨ x.cap ≤ x.chans.length ∨ n ∈ x.chans ∨ n ∉ maskChans x.mask then s
    else
      let i := x.nextSlot
      (s.stripeMap x.num (fun y => y.put i ⟨n, p, false, unmapped, false⟩)).placeMap n p (fun z =>
        { z with stripe := x.num, slot := x.base + i, width := x.width, parity := x.parity })

/-- Open a stripe for profile `p`, when a number and a free accumulator set are there (R204); a share without data slots
closes at once (16 R460). -/
def State.openFor (s : State) (p h : Nat) : State :=
  match s.setFree with
  | some set =>
    if s.numReady p then
      let s := s.stripeOpen p h set
      match s.openStripe p with
      | some x => if x.cap = 0 then s.stripeCheck x.num else s
      | none => s
    else s
  | none => s

/-- Make the stripe ready for a laced tile of profile `p` on channel `c`, and say whether it is: a stripe is open that takes
one more tile there (R204, R205, R206, R208; 01 R31). A stripe that already has a tile there closes short first. -/
def State.stripeReady (s : State) (p c h : Nat) : Bool × State :=
  let s := match s.openStripe p with
    | some x => if c ∈ x.chans then s.stripeWant p 1 else s
    | none => s
  let s := if (s.openStripe p).isNone then s.openFor p h else s
  let ok := match s.openStripe p with
    | some x => x.want.isNone && decide (x.chans.length < x.cap) && decide (c ∉ x.chans)
    | none => false
  (ok && s.lace.cancels.all (fun k => (s.place k.1 k.2.1).profile ≠ p), s)

/-- The tile that begins to land in a place takes its stripe slot, or is programmed unlaced with SET_MISS (06 R205). -/
def State.landIn (s : State) (n p : Nat) : State :=
  let prof := (s.place n p).profile
  if s.landsLaced prof n then s.landStripe n p else if prof < 8 then s.raise .lace 0 3 else s

/-- Make room in a stripe for the tile of a place, when it lands laced, and say whether there is. -/
def State.landRoom (s : State) (n p : Nat) : Bool × State :=
  let v := s.place n p
  if s.landsLaced v.profile n then s.stripeReady v.profile n v.hoop else (true, s)

/-- FILL tiles for reserved slots (R288): the channel writes a tile of LENGTH 0 into the reserved place; it lands in the
stream's open stripe like any data tile, and waits while no stripe takes it, or while bytes of a vanished tile are still to be removed
(06 R208). -/
def State.fillTile (s : State) (n p : Nat) : State :=
  let v := s.place n p
  let s := s.placeMap n p (fun x => { x with fillDue := true })
  if s.lace.cancels.any (fun c => c.1 = n && c.2.1 = p) then s
  else
    let (ok, s) := s.landRoom n p
    if !ok then s
    else
      let s := s.placeMap n p (fun x => { x with
        kind := .fill, flags := 16 + (x.flags &&& 4), len := 0, got := 0, reserved := none, fillDue := false
        lane := s.blkIndex * 16 + 15, time := s.cyc, angle := s.stamp })
      let s := (s.landIn n p).tileFinish n p
      if v.issued then s else s.wantProg n p false

end Sys2Proof.Machine
end

