-- ==== Sys2Proof/Machine/RcvOps.lean ====
section
/-!
DEFINITION. Read-reference offsets, read outcomes, the recovery engine and the shadow probes' update law
(07_read_recovery.md R214 to R236).
-/

namespace Sys2Proof.Machine

/-- Change the recovery engine. -/
def State.rcvMap (s : State) (f : RecS → RecS) : State := { s with rcv := f s.rcv }

/-- Raise a DEC event. -/
def State.decRaise (s : State) (b : Nat) : State := s.raise .dec 0 b

/-! ## Offsets (R214 to R217) -/

/-- Word `k` of a LUN in the table of offsets and samples (14 R408): 0, 1 offsets, 2 SLC sample, 3 TLC sample. -/
def refWord (n l k : Nat) : Nat := tabWord 2 (4 * (16 * n + l) + k)

/-- Tracked offset of a level. -/
def State.tracked (s : State) (n l v : Nat) : Int := sgn 8 (bits (s.peek 5 (refWord n l (v / 4))).toNat (8 * (v % 4)) 8)

/-- Set a tracked offset: a byte of its word, by a read-modify-write (14 R412). -/
def State.trackedPut (s : State) (n l v : Nat) (t : Int) : State :=
  s.ctxWord (refWord n l (v / 4)) (0xFF#32 <<< (8 * (v % 4))) (BitVec.ofNat 32 (unsgn 8 t) <<< (8 * (v % 4)))

/-- Sample of a LUN in a mode (R218). -/
def State.sample (s : State) (n l : Nat) (tlc : Bool) : Nat := (s.peek 5 (refWord n l (if tlc then 3 else 2))).toNat

/-- Set a sample; the probes of a sample that ends cease to exist (R219). -/
def State.samplePut (s : State) (n l : Nat) (tlc : Bool) (t : Nat) : State :=
  let s := s.sramPut 5 (refWord n l (if tlc then 3 else 2)) (BitVec.ofNat 32 t)
  if t = unmapped then s.rcvMap (fun r => { r with probes := r.probes.filter (fun x => x.1 / 8 ≠ (16 * n + l) * 2 + b2n tlc) }) else s

/-- Levels of a mode (R214). -/
def levels (tlc : Bool) : List Nat := if tlc then [1, 2, 3, 4, 5, 6, 7] else [0]

/-- Clamp an applied offset to `DEC.REF_LIM` (R215). -/
def State.refClamp (s : State) (t : Int) : Int := clampI (sgn 8 (s.get R.DEC_REF_LIM_LO)) (sgn 8 (s.get R.DEC_REF_LIM_HI)) t

/-- Shift of set `k` in a mode (R215). -/
def State.setShift (s : State) (k : Nat) (tlc : Bool) : Int :=
  if 1 ≤ k ∧ k ≤ 6 then sgn 8 (s.get (if tlc then R.DEC_SHIFT_TLC (k - 1) else R.DEC_SHIFT_SLC (k - 1))) else 0

/-- The eight tracked offsets with the shift of set `set`, level 0 first; set 7 reads at the die default (R215). -/
def State.ofsBase (s : State) (n l : Nat) (tlc : Bool) (set : Nat) : List Int :=
  (List.range 8).map (fun v => if set = 7 then 0 else s.tracked n l v + s.setShift set tlc)

/-- The eight offsets a read applies over `base`; `d v` is what a strobe adds on level v (R215, R220, R224). -/
def State.offsets (s : State) (base : List Int) (tlc : Bool) (d : Nat → Int) : List Int :=
  (List.range 8).map (fun v => if v ∈ levels tlc then s.refClamp (base.getD v 0 + d v) else 0)

/-- What pass `k` adds to the offset of level `v`: ±σ on every level of a soft read, ∓δ on the probed level of SHADOW
(R220, R224). -/
def State.strobe (s : State) (d : Desc) (k v : Nat) : Int :=
  let m : Int := if k = 1 then -1 else if k = 2 then 1 else 0
  if d.opcode = 5 then (if v = d.par 0 then m * (d.par 1 : Nat) else 0)
  else if d.soft then m * (s.get (if d.stepEff = 6 then R.DEC_LADDER_SIG2 else R.DEC_LADDER_SIG1) : Nat)
  else 0

/-- Passes of a decoded read: three strobes, or one. -/
def Desc.passes (d : Desc) : Nat := if d.soft ∨ d.opcode = 5 then 3 else 1

/-- The offsets that each pass of a read routine applies, fixed when the routine starts (R217). BLANK_VERIFY reads with the set of
`LEDG_CFG.BV_SET` (13 R403). -/
def State.readOffsets (s : State) (n : Nat) (d : Desc) : List (List Int) :=
  let base := s.ofsBase n d.lun d.tlc (if d.opcode = 7 then s.get R.PWR_LEDG_CFG_BV_SET else d.refset)
  (List.range d.passes).map (fun k => s.offsets base d.tlc (s.strobe d k))

/-- Do dies of the mode take offsets (R216)? -/
def State.refTakes (s : State) (tlc : Bool) : Bool :=
  if tlc then s.get R.DEC_REF_FEAT_TLC_LO ≠ 0 && s.get R.DEC_REF_FEAT_TLC_HI ≠ 0 else s.get R.DEC_REF_FEAT_SLC ≠ 0

/-- What a LUN last received in a mode. -/
def LunS.refSent (x : LunS) (tlc : Bool) : RefSent := if tlc then x.refTlc else x.refSlc

/-- Note what a LUN has received. -/
def LunS.refNote (x : LunS) (tlc : Bool) (r : RefSent) : LunS := if tlc then { x with refTlc := r } else { x with refSlc := r }

/-- Offsets all zero, as after a reset of the die (R216). -/
def refZero : RefSent := .known [0, 0, 0, 0, 0, 0, 0, 0]

/-- A byte of an offset. -/
def ofsByte (t : Int) : Nat := unsgn 8 t

/-- Set Features by LUN of the offsets `o`: feature addresses with their bytes (R216). -/
def State.refFeatures (s : State) (tlc : Bool) (o : List Int) : List (Nat × List Nat) :=
  let b (v : Nat) := ofsByte (o.getD v 0)
  if tlc then [(s.get R.DEC_REF_FEAT_TLC_LO, [b 1, b 2, b 3, b 4]), (s.get R.DEC_REF_FEAT_TLC_HI, [b 5, b 6, b 7, 0])]
  else [(s.get R.DEC_REF_FEAT_SLC, [b 0, 0, 0, 0])]

/-! ## Read outcomes (R222, R223) -/

/-- Is the trailer of the 16 decoded codewords of a place good: FORMAT and CRC (06 R186)? -/
def State.trailerOk (s : State) (e : Nat) : Bool :=
  let b (j : Nat) : Byte := tget zeroByte s.dec.buf (dKey e + rawPos j)
  let all := (List.range 65532).map b
  b 65472 = 2 && b 65473 = 0 && crc32 all = leNat ((List.range 4).map (fun i => b (65532 + i)))

/-- Mask of the codewords with an outcome. -/
def State.outMask (s : State) (e : Nat) (cws : List Nat) (o : Nat) : Nat :=
  (cws.filter (fun k => s.outcome e k = o)).foldl (fun m k => m + 2 ^ k) 0

/-- Channel status of a read whose decode jobs have ended: OK, ERASED, DEC_FAIL or TRAILER_MISMATCH (R223, 06 R186). -/
def State.readStatus (s : State) (d : Desc) : Nat :=
  let e := d.dbuf
  let cws := d.cws
  if d.opcode = 5 then (if cws.all (fun k => s.outcome e k = 0) then 0 else 0x56)
  else if cws.all (fun k => s.outcome e k = 0) then
    (if (d.opcode = 3 ∨ d.opcode = 6) ∧ !s.trailerOk e then 0x53 else 0)
  else if cws.all (fun k => s.outcome e k = 2) then 0x54
  else 0x55

/-! ## The ladder (R225 to R230) -/

/-- The deepest step that runs (R225). -/
def State.ladderLast (s : State) : Nat := min 7 (s.get R.DEC_LADDER2_LAST)

/-- Cap of the iterations of a step (06 R196, R225). -/
def State.stepCap (s : State) (step : Nat) : Nat :=
  let c := if 5 ≤ step then s.get R.DEC_LADDER_CAP_HI else s.get R.DEC_CFG_ITER_CAP
  max 1 (min 64 c)

/-- Log a read of tile address `t` that went deep or ended UNCORRECTABLE (R229). -/
def State.ladderLog (s : State) (t deep st : Nat) : State :=
  if s.get R.DEC_LADDER2_DEEP ≤ deep ∨ st = 0x52 then
    let s := (s.set R.DEC_LADDER_LOG_CH (taCh t)).set R.DEC_LADDER_LOG_LUN (taLun t)
    let s := (s.set R.DEC_LADDER_LOG_STEP deep).set R.DEC_LADDER_LOG_STATUS st
    let s := (s.decRaise 4).readqCount (taCh t) 4 (taLun t)
    if st = 0x52 then (s.decRaise 5).bump R.DEC_UNCORR_CNT_CNT else s
  else s

/-- Half-words of a completed ladder request (R223, 05 R153): the status byte and the suspend count of its own read with the ladder's detail
in half-word 0 [15:8], and the FAIL and ERASED masks as its place has them at the end (log entry 87). -/
def State.ladderRes (s : State) (d : Desc) (res : List Half) (detail : Nat) : List Half :=
  [BitVec.ofNat 16 ((res.getD 0 0).toNat % 256 + detail * 256), res.getD 1 0, BitVec.ofNat 16 (s.outMask d.dbuf d.cws 1),
   BitVec.ofNat 16 (s.outMask d.dbuf d.cws 2)]

/-- A trailer whose FORMAT or CRC is wrong: CRC_MISMATCH, counted at the decoder's source (06 R186). -/
def State.crcBad (s : State) : State := (s.decRaise 1).count 62 0

/-- Copy the codewords of `cws` with their result words from place `e` to place `e'`. -/
def State.cwCopy (s : State) (e e' : Nat) (cws : List Nat) : State :=
  cws.foldl (fun s k =>
    let s := s.dPut e' (k * 4608) (s.dGet e (k * 4608) 4608)
    { s with dec := { s.dec with result := tput zeroWord s.dec.result (e' * 16 + k) (s.resWord e k) } }) s

/-- Is a waiter a survivor, a peer, a LOAD or a ledger recovery, whose read never climbs to step 7 (R232, R239; 13 R402)? -/
def RWho.low : RWho → Bool
  | .survivor _ _ _ => true
  | .remote _ => true
  | .almanac _ _ => true
  | .ledger _ _ => true
  | _ => false

/-- Does a request never climb to step 7? -/
def RReq.low (q : RReq) : Bool := q.who.head?.any RWho.low

/-- Place of a waiter. -/
def RWho.place : RWho → Nat
  | .chan d _ => d.dbuf
  | .read _ _ e => e
  | .survivor _ _ e => e
  | .remote _ => 0
  | .almanac _ e => e
  | .ledger _ e => e

/-- A survivor has ended without its data: it joins the lost slots, or its parity row is not used (R232, R233). -/
def State.survivorLost (s : State) (id j : Nat) : State :=
  s.rcvMap (fun r => { r with reqs := r.reqs.map (fun q =>
    if q.id = id then { q with recon := q.recon.map (fun x =>
      { x with left := x.left.erase j, lost := if j < x.width - x.parity then x.lost ++ [j] else x.lost }) }
    else q) })

/-- A survivor has passed: its bytes are to be folded (R232). -/
def State.survivorPass (s : State) (id j e : Nat) : State := s.rcvMap (fun r => { r with folds := r.folds ++ [(id, j, e)] })

/-- Field of a record. -/
def recU (bs : List Byte) (a n : Nat) : Nat := leNat ((bs.drop a).take n)

/-- The payload length of an almanac record (R237). -/
def almLen : Nat := 18496

/-- Is a payload a valid record: MAGIC, LENGTH, CRC, FORMAT and NCH (R239)? -/
def State.almValid (s : State) (bs : List Byte) : Bool :=
  decide (almLen ≤ bs.length) && recU bs 0 4 = 0x414D4C41 && recU bs 8 4 = almLen && recU bs 0x10 2 = 1 && recU bs 0x12 1 = s.gen.nch &&
  crc32 (bs.take 12 ++ (bs.take almLen).drop 16) = recU bs 12 4

/-- The payload of an almanac record in a place. -/
def State.almPayload (s : State) (e : Nat) : List Byte :=
  ((List.range 5).flatMap (fun c => s.dGet e (c * 4608) 4096)).take almLen

/-- A read of slot `i` of a LOAD has ended (R239 steps 2 and 3): an ERASED page lies at or beyond the end of the records, any other
below it; a tile that has passed with its trailer may hold a valid record. -/
def State.loadRead (s : State) (i e st : Nat) : State :=
  let bs := s.almPayload e
  let good : Bool := (st = 0 || st = 0x50) && s.almValid bs
  let f (x : LoadSlot) : LoadSlot :=
    let m := (x.lo + x.hi) / 2
    ({ (if x.hi ≤ x.lo then { x with seen := x.seen + 1, record := if good then some bs else none }
        else if st = 0x54 then { x with hi := m } else { x with lo := m + 1 }) with busy := false }).settle
  (s.rcvMap (fun r => { r with load := r.load.map (fun xs => xs.modify i f) })).decRelease e

/-- The entries in the info bytes of codeword 4q of position `p`, of those in place `e` (13 R396). -/
def State.ledgEntries (s : State) (n p e : Nat) : List (BitVec 512) :=
  let bs := s.dGet e (4 * (p % 4) * 4608) 2048
  ((List.range 32).map (fun i => BitVec.ofNat 512 (recU bs (64 * i) 64))).filter (ledgKeep n)

/-- A read of block set `i` of a ledger recovery has ended (13 R402 steps 1 and 2): the search goes on, or the position's entries
are kept when its codeword has been decoded. -/
def State.ledgRead (s : State) (i e st : Nat) : State :=
  match s.rcv.ledg.bind (fun x => x.slots[i]?) with
  | none => s.decRelease e
  | some y =>
    let y' := if y.lo < y.hi then y.searched (st = 0x54)
      else y.took (if st = 0 ∨ st = 0x50 then s.ledgEntries y.ch y.seen e else [])
    (s.ledgRun (fun x => { x with slots := x.slots.set i y' }.ask y.ch)).decRelease e

/-- BLANK_VERIFY `j` of a ledger recovery has ended (13 R402, R404). -/
def State.blankRead (s : State) (j e st : Nat) : State :=
  (s.ledgRun (fun x => { x with blanks := x.blanks.modify j (fun y => { y with
    busy := false, res := some (if st = 0 then 0 else if st = 0x12 then 1 else 2) }) })).decRelease e

/-- Does block set `i` of a ledger recovery search for its first erased position? -/
def State.ledgSearch (s : State) (i : Nat) : Bool :=
  match s.rcv.ledg.bind (fun x => x.slots[i]?) with
  | some y => y.lo < y.hi
  | none => false

/-- Deliver an outcome to a waiter. -/
def State.rcvDeliver (s : State) (w : RWho) (st detail deep : Nat) : State :=
  match w with
  | .chan d res => s.chanReadEnd d.dbuf (d.origin % 16384) d.tag d.cmpl d st (s.ladderRes d res detail)
  | .read id k e => s.readTileData id k e st deep
  | .survivor id j e => if st = 0 ∨ st = 0x50 then s.survivorPass id j e else (s.decRelease e).survivorLost id j
  | .remote _ => s
  | .almanac i e => s.loadRead i e st
  | .ledger i e => s.ledgRead i e st

/-- Free the place of a request's group, but not under a read that runs. -/
def State.groupFree (s : State) (g : LGroup) : State :=
  match g.place with
  | some e => if g.busy then s else s.decRelease e
  | none => s

/-- Free what a request holds: the places of its groups, its accumulator set. -/
def State.rcvFree (s : State) (q : RReq) : State :=
  let s := q.groups.foldl State.groupFree s
  match q.recon with
  | some x => s.setReturn x.set
  | none => s

/-- Is the address of a waiting read that of a request held, with all its codewords covered (R227)? -/
def RReq.covers (q : RReq) (w : RWait) : Bool :=
  q.taddr = w.taddr && (List.range 16).all (fun k => !bit w.mask k || bit q.mask k)

/-- A ladder group's codewords of a mask, grouped by plane (R227). -/
def planeGroups (cws : List Nat) : List LGroup :=
  (List.range 4).filterMap (fun p =>
    let g := cws.filter (fun k => k / 4 = p)
    if g = [] then none else some { plane := p, cws := g, step := 0, busy := false, place := none, usc := [] })

/-- Requests that a read or a ring waits for, survivors apart: at most 16 are held (R227). -/
def RecS.held (r : RecS) : Nat := (r.reqs.filter (fun q => match q.who with
  | .survivor _ _ _ :: _ => false
  | .remote _ :: _ => false
  | _ => true)).length

/-- Sum of USC over codewords of a place. -/
def State.uscSum (s : State) (e : Nat) (cws : List Nat) : Nat := (cws.map (fun k => bits (s.resWord e k).toNat 16 13)).sum

/-- The request held for the tile of a failing read that the read joins or waits for (R227). A read that never climbs to step 7 minds only
requests of its own kind, and another read rather one that climbs to step 7 (R232; log entry 88). -/
def State.rcvSame (s : State) (w : RWait) : Option RReq :=
  let own := s.rcv.reqs.find? (fun q => q.taddr = w.taddr && q.low == w.who.low)
  if w.who.low ∨ own.isSome then own else s.rcv.reqs.find? (fun q => q.taddr = w.taddr)

/-- Admit a failing read: it joins the request that covers it, waits for one of the same tile, becomes a request, or waits
for a free one (R227). The codewords of the place say which fail: all of them after PHY_ERR, whose step 0 gives no sum of USC. -/
def State.rcvAdmit (s : State) (w : RWait) : State :=
  let e := w.who.place
  match s.rcvSame w with
  | some q =>
    if q.covers w then
      s.rcvMap (fun r => { r with reqs := r.reqs.map (fun x => if x.id = q.id then { x with who := x.who ++ [w.who] } else x) })
    else s.rcvMap (fun r => { r with wait := r.wait ++ [w] })
  | none =>
    let isSurv : Bool := match w.who with
      | .survivor _ _ _ => true
      | _ => false
    if s.rcv.held < 16 ∨ isSurv then
      let s := if w.phy then s.resClear e else s
      let cws := (List.range 16).filter (bit w.mask)
      let fail := cws.filter (fun k => s.outcome e k ≠ 0 ∧ s.outcome e k ≠ 2)
      let dead := cws.filter (fun k => s.outcome e k = 2)
      let gs := (planeGroups fail).map (fun g => { g with usc := [if w.phy then none else some (s.uscSum e g.cws)], sets := [w.refset] })
      s.rcvMap (fun r => { r with
        nextId := r.nextId + 1
        reqs := r.reqs ++ [{ id := r.nextId, who := [w.who], taddr := w.taddr, tlc := w.tlc, tile := w.tile, mask := w.mask,
                             tileno := w.tileno, hint := w.hint, refset := w.refset, place := e, groups := gs, dead := dead }] })
    else s.rcvMap (fun r => { r with wait := r.wait ++ [w] })

/-- Admit the waiting reads that can be admitted, in order, after a request has ended. -/
def State.rcvAdmitNext (s : State) : State :=
  let ws := s.rcv.wait
  ws.foldl State.rcvAdmit (s.rcvMap (fun r => { r with wait := [] }))

/-- A request ends with an outcome (R223, R227, R229). -/
def State.rcvEnd (s : State) (q : RReq) (st detail : Nat) : State :=
  let s := s.ladderLog q.taddr q.deep st
  let s := s.rcvFree q
  let s := s.rcvMap (fun r => { r with reqs := r.reqs.filter (fun x => x.id ≠ q.id) })
  let joined := q.who.drop 1
  let s := joined.foldl (fun s w => s.cwCopy q.place w.place ((List.range 16).filter (bit q.mask))) s
  (q.who.foldl (fun s w => s.rcvDeliver w st detail q.deep) s).rcvAdmitNext

/-- A request whose codewords have all passed: RECOVERED, or TRAILER_MISMATCH for a whole tile (R223, 06 R186). -/
def State.rcvPassed (s : State) (q : RReq) : State :=
  if q.tile ∧ !s.trailerOk q.place then s.crcBad.rcvEnd q 0x53 0 else s.rcvEnd q 0x50 q.deep

/-- Are all the codewords that a request covers ERASED? -/
def RReq.erased (q : RReq) : Bool := q.groups = [] && (List.range 16).all (fun k => !bit q.mask k || decide (k ∈ q.dead))

/-- Go on with a request after one of its groups changed: end it when every codeword has passed, or every one was ERASED (R223,
R225). -/
def State.rcvCheck (s : State) (id : Nat) : State :=
  match s.rcv.reqs.find? (fun q => q.id = id) with
  | none => s
  | some q => if q.groups = [] ∧ q.dead = [] then s.rcvPassed q else if q.erased then s.rcvEnd q 0x54 0 else s

/-- Change the group of plane `p` of request `id`. -/
def State.groupMap (s : State) (id p : Nat) (f : LGroup → LGroup) : State :=
  s.rcvMap (fun r => { r with reqs := r.reqs.map (fun q =>
    if q.id = id then { q with groups := q.groups.map (fun g => if g.plane = p then f g else g) } else q) })

/-- The decoded codeword `k` of a step's place goes into the request's place at its position (R227). For a soft read the
codeword's bytes lie at its rank in the group (R224). -/
def State.cwTake (s : State) (e e' k off : Nat) : State :=
  let s := s.dPut e' (k * 4608) (s.dGet e off 4096)
  { s with dec := { s.dec with result := tput zeroWord s.dec.result (e' * 16 + k) (s.resWord e k) } }

/-- A step's decode has ended: passed codewords leave the group; the rest go on, and step 4 keeps its place for step 5
(R226, R227). -/
def State.stepEnd (s : State) (id p : Nat) : State :=
  match s.rcv.reqs.find? (fun q => q.id = id) with
  | none => s
  | some q =>
    match q.groups.find? (fun g => g.plane = p) with
    | none => s
    | some g =>
      match g.place with
      | none => s
      | some e =>
        let off (k : Nat) := if 4 ≤ g.step then (g.asked.filter (fun x => decide (x < k))).length * 4608 else k * 4608
        let pass := g.cws.filter (fun k => s.outcome e k = 0)
        let dead := g.cws.filter (fun k => s.outcome e k = 2)
        let fail := g.cws.filter (fun k => s.outcome e k ≠ 0 ∧ s.outcome e k ≠ 2)
        let usc := if g.step ≤ 2 then g.usc ++ [some (s.uscSum e g.cws)] else g.usc
        let s := pass.foldl (fun s k => s.cwTake e q.place k (off k)) s
        let keep : Bool := g.step = 4 && fail ≠ []
        let s := if keep then s else s.decRelease e
        let s := s.rcvMap (fun r => { r with reqs := r.reqs.map (fun x =>
          if x.id = id then
            { x with
              dead := x.dead ++ dead
              groups := (x.groups.map (fun y =>
                if y.plane = p then { y with cws := fail, busy := false, place := if keep then some e else none, usc := usc } else y)).filter
                  (fun y => y.plane ≠ p ∨ fail ≠ []) }
          else x) })
        s.rcvCheck id

/-- A step read completed without decoding: PHY_ERR counts as FAIL, SEALED and any other status end the request (R227). -/
def State.stepBroken (s : State) (id p st : Nat) : State :=
  match s.rcv.reqs.find? (fun q => q.id = id) with
  | none => s
  | some q =>
    let e := ((q.groups.find? (fun g => g.plane = p)).bind (fun g => g.place)).getD 0
    let s := s.decRelease e
    if st = 0x40 then s.groupMap id p (fun g => { g with busy := false, place := none, usc := if g.step ≤ 2 then g.usc ++ [none] else g.usc })
    else
      let q := { q with groups := q.groups.filter (fun g => g.plane ≠ p) }
      if st = 0x33 then s.rcvEnd q 0x33 0 else s.rcvEnd q 0x52 6

/-! ## Shadow probes (R220, R221) -/

/-- Rounding half away from zero of a / b, b > 0. -/
def rndDiv (a b : Int) : Int := if 0 ≤ a then (2 * a + b) / (2 * b) else -((2 * -a + b) / (2 * b))

/-- The increment of a tracked offset from the three error counts (R221). -/
def shadowStep (delta gain minBits e0 e1 e2 : Nat) : Int :=
  let dl : Int := (delta : Nat)
  let d : Int := (e1 : Int) - e2
  let c : Int := (e1 : Int) + e2 - 2 * e0
  let m : Int :=
    if e0 + e1 + e2 < minBits then 0
    else if 0 < c then clampI (-dl) dl (rndDiv (dl * d) (2 * c))
    else if e1 < e2 then -dl
    else if e2 < e1 then dl
    else 0
  rndDiv (m * (gain : Nat)) 4

/-- `SHADOW_CFG.DELTA`; 0 acts as 1. -/
def State.shDelta (s : State) : Nat := max 1 (s.get R.DEC_SHADOW_CFG_DELTA)

/-- `SHADOW_CFG.GAIN`, 1 to 4. -/
def State.shGain (s : State) : Nat := max 1 (min 4 (s.get R.DEC_SHADOW_CFG_GAIN))

/-- Mirror the offsets of a LUN (16 R468). -/
def State.mirrorRef (s : State) (n l : Nat) : State :=
  if s.mirrors then s.mirror 0x25 (n * 16 + l) ((List.range 8).map (fun v => BitVec.ofNat 8 (ofsByte (s.tracked n l v)))) else s

/-- Add an increment to the tracked offset of level `v` of a LUN, held within `REF_LIM` (R221). -/
def State.ofsAdd (s : State) (n l v : Nat) (inc : Int) : State :=
  let lo := sgn 8 (s.get R.DEC_REF_LIM_LO)
  let hi := sgn 8 (s.get R.DEC_REF_LIM_HI)
  let t := s.tracked n l v + inc
  let s := (s.trackedPut n l v (clampI lo hi t)).mirrorRef n l
  if t < lo ∨ hi < t then s.decRaise 3 else s

/-- Apply the update law to level `v` of a LUN (R217, R221). -/
def State.shadowUpdate (s : State) (n l v e0 e1 e2 : Nat) : State :=
  let inc := shadowStep s.shDelta s.shGain (s.get R.DEC_SHADOW_CFG_MIN_BITS) e0 e1 e2
  let s := s.rcvMap (fun r => { r with shadowNow := r.shadowNow.filter (fun x => x.born = s.cyc) ++ [⟨n * 16 + l, v, inc, s.cyc⟩] })
  s.ofsAdd n l v inc

/-- Firmware has written the enabled bytes of word `w` of the offsets: the increments of the shadow updates of the same `cyc` are added to
what it wrote (R217). -/
def State.shadowAgain (s : State) (w : Nat) (be : BitVec 4) : State :=
  (s.rcv.shadowNow.filter (fun x => x.born = s.cyc && refWord (x.glun / 16) (x.glun % 16) (x.level / 4) = w && be.getLsbD (x.level % 4))).foldl
    (fun s x => s.ofsAdd (x.glun / 16) (x.glun % 16) x.level x.inc) s

/-- Bits in which two codewords differ. -/
def bitDiff (a b : List Byte) : Nat := (List.zipWith (fun x y => popcount 8 (x ^^^ y).toNat) a b).sum

/-! ## Completion of a decoded read -/

/-- The waiter and the ladder data of a READ_TILE or READ_CW that failed. -/
def State.waitOf (s : State) (d : Desc) (w : RWho) (phy : Bool) : RWait :=
  let q : Option (Nat × Nat) := match w with
    | .read id k _ => (s.rng.reads.find? (fun x => x.id = id)).map (fun x => (x.tileno + k, x.hint))
    | _ => none
  { who := w, taddr := d.taddr, tlc := d.tlc, tile := d.opcode = 3, mask := d.cws.foldl (fun m k => m + 2 ^ k) 0,
    tileno := (q.map (fun x => x.1)).getD 0x7FFFFFFF, hint := (q.map (fun x => x.2)).getD unmapped, refset := d.refset, phy := phy }

/-- Does a status send a step-0 read to the ladder: DEC_FAIL, PHY_ERR (R225, R228)? -/
def ladderEntry (st : Nat) : Bool := st = 0x55 || st = 0x40

/-- A read of a ring or of a read request has its channel status: it goes to the ladder, or completes (R227, R228). With
`LADDER_EN` = 0 a DEC_FAIL ends UNCORRECTABLE, LADDER_END, and PHY_ERR stands (R223, R227, R229). -/
def State.readRoute (s : State) (d : Desc) (w : RWho) (st : Nat) (res : List Half) : State :=
  if ladderEntry st ∧ d.step = 0 ∧ (s.flag R.DEC_CTRL_LADDER_EN ∨ st = 0x55) then
    if !s.flag R.DEC_CTRL_LADDER_EN then (s.ladderLog d.taddr 0 0x52).rcvDeliver w 0x52 1 0
    else if s.sealApplies then s.rcvDeliver w 0x33 0 0
    else s.rcvAdmit (s.waitOf d w (st = 0x40))
  else
    match w with
    | .chan d' _ => s.chanReadEnd d'.dbuf (d'.origin % 16384) d'.tag d'.cmpl d' st res
    | .read id k e => s.readTileData id k e st 0
    | .survivor id j e => if st = 0 then s.survivorPass id j e else (s.decRelease e).survivorLost id j
    | .remote _ => s
    | .almanac i e => s.loadRead i e st
    | .ledger i e => s.ledgRead i e st

/-- A patrol read has ended (R236). -/
def State.patrolDone (s : State) (d : Desc) (st : Nat) : State :=
  let weak := d.cws.any (fun k => s.outcome d.dbuf k = 1 ∨ s.get R.DEC_PATROL_WARN_ITER < (s.resWord d.dbuf k).toNat % 128)
  let s := if (st = 0 ∨ st = 0x55 ∨ st = 0x53 ∨ st = 0x54) ∧ weak then (s.set R.DEC_PATROL_LAST_TILENO d.tileno).decRaise 6 else s
  s.decRelease d.dbuf

/-- A shadow probe has ended (R220, R221): the decoded codewords are in strobe 0's place as codewords, the counts are those
of the three strobes against them. -/
def State.shadowDone (s : State) (n : Nat) (d : Desc) (st : Nat) (e0 e1 e2 : Nat) : State :=
  let s := if st = 0 then s.shadowUpdate n d.lun (d.par 0) e0 e1 e2
    else if st = 0x56 then s.decRaise 2 else s
  s.decRelease d.dbuf

/-- The neighbour read of a record search has ended: its STRIPE, when codeword 15 passed (R231). -/
def State.nbrDone (s : State) (id e st : Nat) : State :=
  let num := leNat (s.dGet e (rawPos (65472 + 0x20)) 4)
  let s := s.decRelease e
  if st = 0 then
    s.rcvMap (fun r => { r with reqs := r.reqs.map (fun q => if q.id = id then { q with found := q.found ++ [num] } else q) })
  else s

end Sys2Proof.Machine
end

