-- ==== Sys2Proof/Machine/Complete.lean ====
section
/-!
DEFINITION. How a channel descriptor completes: its slot, its origin, program pass, failures, erases, and the wait for
decode jobs (05_channel_operations.md R153, R154, R168; 07_read_recovery.md R218, R223; 09_placement_hoops.md R275 to R280).
-/

namespace Sys2Proof.Machine

/-! ## Program pass -/

/-- Count a completed tile in its stream's context (09 R277, R294). -/
def State.strmCount (s : State) (st : Nat) (status tile : Nat) : State :=
  if 4096 ≤ st then s
  else
    let s := (s.sput st 0x10 8 ((s.sget st 0x10 8 + 1) % 2 ^ 64)).sput st 0x24 4 tile
    if status = 1 then (s.sput st 0x18 4 ((s.sget st 0x18 4 + 1) % 2 ^ 32)).strmRaise st 1
    else if status = 2 then (s.sput st 0x1C 4 ((s.sget st 0x1C 4 + 1) % 2 ^ 32)).strmRaise st 2
    else s

/-- Status of a tile's completion record (09 R276). -/
def PlaceS.cmplStatus (v : PlaceS) : Nat :=
  if v.kind = .fill then 2 else if bit v.flags 0 then 1 else 0

/-- The map update of a place that has passed at address `t` (09 R275, R276); parity and almanac tiles have none. -/
def PlaceS.passUp (v : PlaceS) (t : Nat) : Option PassUp :=
  match v.kind with
  | .parity => none
  | .almanac => none
  | _ => some { tile := v.tileno, addr := t, hoop := v.hoop, seq := v.seq, serial := v.serial
                record := some ⟨v.tileno, t, v.stream, v.cmplStatus, v.flags % 256, v.serial⟩ }

/-- An almanac record has been programmed, or not, on channel `n` (07 R237, R238). -/
def State.saveNote (s : State) (n : Nat) (ok : Bool) : State :=
  s.rcvMap (fun r => { r with save := r.save.map (fun x => { x with
    progs := x.progs.map (fun y => if y.1 = n then (y.1, y.2.1, some ok) else y) }) })

/-- An empty sample takes the address of a program pass (07 R218): of a level-2 pass with its page reduced by 2. -/
def State.sampleAuto (s : State) (n t : Nat) (tlc : Bool) (level : Nat) : State :=
  if s.flag R.DEC_CTRL_SAMPLE_AUTO ∧ s.sample n (taLun t) tlc = unmapped ∧ (!tlc ∨ level = 2) then
    s.samplePut n (taLun t) tlc (if tlc then t - 2 else t)
  else s

/-- One tile (place, address) on channel `n` passes: its stripe notes the address, and its place is released (01 R29). -/
def State.tilePass (s : State) (n : Nat) (p : Nat × Nat) : State :=
  let v := s.place n p.1
  let s := match v.kind with
    | .almanac => s.saveNote n true
    | .parity => s
    | _ => s.strmCount v.stream v.cmplStatus v.tileno
  (if v.stripe = unmapped then s else s.stripePass v.stripe n p.1 p.2).releasePlace n p.1

/-- The tiles of `ps` (place, address) on channel `n` pass in one `cyc` (R154): their map entries are updated as one. -/
def State.tilesPass (s : State) (n : Nat) (ps : List (Nat × Nat)) : State :=
  let ups := ps.filterMap (fun p => (s.place n p.1).passUp p.2)
  let s := ps.foldl (fun s p => s.tilePass n p) s
  if ups = [] then s else s.mapSubmit (.pass ups)

/-! ## Failures -/

/-- A block set has failed (R168). -/
def State.grownBad (s : State) (n t : Nat) : State :=
  if s.flag (R.CH_CTRL_BB_AUTO n) then
    let s := (s.blkMark t).set (R.CH_BB_LAST_TADDR n) t
    ((s.bump (R.CH_BB_CNT_CNT n)).chRaise n 1).arrayCount n 1 (taLun t) |>.mirror 0x23 0 (leBytes 4 t)
  else s

/-- A tile-program that did not pass: its place stays held and may be issued again (R168, 09 R282). An almanac's outcome is noted, and
the next SAVE takes the place (07 R238; log entry 82). -/
def State.placeFailed (s : State) (n p : Nat) : State :=
  let s := if (s.place n p).kind = .almanac then s.saveNote n false else s
  s.placeMap n p (fun x => { x with issued := false, committed := false, sent := 0, slotNo := 0 })

/-- Close the open wordline of a LUN; the placement unit forgets it too. -/
def State.wlClose (s : State) (n l : Nat) : State :=
  let s := s.lunMap n l (fun x => { x with wl := none, op := if x.op = .unconfirmed then .none else x.op })
  { s with hoops := s.hoops.filterMap (fun p =>
      let h := { p.2 with wls := p.2.wls.filter (fun m => m ≠ (n, l)) }
      if h = {} then none else some (p.1, h)) }

/-- Later levels of a wordline that stand in the LUN's slots or in the channel's wait: PROGs of the same wordline. -/
def Desc.sameWl (d e : Desc) : Bool :=
  e.opcode = 1 && e.tlc && taCh e.taddr = taCh d.taddr && e.lun = d.lun && taBlk e.taddr = taBlk d.taddr &&
  taPage e.taddr / 3 = taPage d.taddr / 3

/-- The tiles of a wordline do not pass: LOADED ones and levels not started keep their places and leave their slots
(R154, R167). -/
def State.wlFail (s : State) (n : Nat) (d : Desc) : State :=
  let rest := (((s.ch n).slots.filter (fun x => !x.started)).map (fun x => x.desc) ++ (s.ch n).wait).filter d.sameWl
  let loaded := match (s.lun n d.lun).wl with
    | some w => w.loaded
    | none => []
  let s := s.chMap n (fun c => { c with
    slots := c.slots.filter (fun x => x.started || !d.sameWl x.desc)
    wait := c.wait.filter (fun x => !d.sameWl x) })
  ((loaded ++ rest).foldl (fun s x => s.placeFailed n x.place) s).wlClose n d.lun

/-! ## Completion by origin -/

/-- A PROG of channel `n` has ended with `st` (R154, R168). DESIGN CHOICE (log entry 63): a level 0 or 1 that ends with a status that R154
does not list (REFUSED_ADDR, SEQ_HALT, MEM_ERR and so on) also closes its wordline, whose tiles end with it; only PROG_FAIL, ABORTED and
SEQ_TIMEOUT mark the block set bad. -/
def State.progEnd (s : State) (n : Nat) (d : Desc) (st : Nat) : State :=
  if st = 0x01 then
    s.lunMap n d.lun (fun x => { x with wl := x.wl.map (fun w => { w with loaded := w.loaded ++ [d] }) })
  else if st = 0 then
    if d.tlc then
      let loaded := match (s.lun n d.lun).wl with
        | some w => w.loaded
        | none => []
      ((s.wlClose n d.lun).tilesPass n (loaded.map (fun x => (x.place, x.taddr)) ++ [(d.place, d.taddr)])).sampleAuto n d.taddr true d.level
    else (s.tilesPass n [(d.place, d.taddr)]).sampleAuto n d.taddr false 0
  else
    let s := if st = 0x10 ∨ (d.tlc ∧ d.level ≠ 2 ∧ (st = 0x32 ∨ st = 0x31)) then s.grownBad n d.taddr else s
    let s := s.placeFailed n d.place
    if d.tlc then s.wlFail n d else s

/-- The hoop and row of an erase of the placement unit. -/
def State.eraseOwner (s : State) (n : Nat) (d : Desc) : Option (Nat × Member) :=
  (List.range 64).findSome? (fun h =>
    ((s.hoop h).erasing.find? (fun m => m.ch = n ∧ m.lun = d.lun ∧ s.rowBlk h m.row = taBlk d.taddr)).map (fun m => (h, m)))

/-- An ERASE of the placement unit has ended: its row counts it, and a member whose erase did not pass has no slots in the
row (09 R280, R287). -/
def State.hoopErased (s : State) (n : Nat) (d : Desc) (st : Nat) : State :=
  match s.eraseOwner n d with
  | none => s
  | some (h, m) => s.hoopMap h (fun x => { x with
      erasing := x.erasing.erase m, noSlot := if st = 0 then x.noSlot else x.noSlot ++ [m] })

/-- An ERASE of channel `n` has ended. -/
def State.eraseEnd (s : State) (n : Nat) (d : Desc) (st : Nat) : State :=
  let s := if st = 0x11 then s.grownBad n d.taddr else s
  if d.org = 0 then s.hoopErased n d st
  else if d.org = 3 then
    -- the erase of a SAVE (07 R238): its channel's write has failed when it did not pass
    s.rcvMap (fun r => { r with save := r.save.map (fun x => { x with
      erase := x.erase.erase n, progs := if n ∈ x.erase ∧ st ≠ 0 then x.progs ++ [(n, none, some false)] else x.progs }) })
  else s

/-- A read of the recovery engine has ended (07 R227, R231, R232). -/
def State.recoveryRead (s : State) (d : Desc) (st : Nat) : State :=
  match s.dplace d.dbuf with
  | .ladder id p =>
    if s.rcv.reqs.all (fun q => q.id ≠ id) then s.decRelease d.dbuf
    else if st = 0 ∨ st = 0x54 ∨ st = 0x55 then s.stepEnd id p else s.stepBroken id p st
  | .survivor id j => s.readRoute d (.survivor id j d.dbuf) st [0, 0, 0, 0]
  | .nbr id _ => s.nbrDone id d.dbuf st
  | .almanac i => if d.opcode = 3 then s.readRoute d (.almanac i d.dbuf) st [0, 0, 0, 0] else s.loadRead i d.dbuf st
  | .ledger i => if s.ledgSearch i then s.ledgRead i d.dbuf st else s.readRoute d (.ledger i d.dbuf) st [0, 0, 0, 0]
  | .blank j => s.blankRead j d.dbuf st
  | _ => s.decRelease d.dbuf

/-- A descriptor of channel `n` completes with `st` and result half-words `res`: its origin takes the outcome
(R153, R154, R156). -/
def State.deliver (s : State) (n : Nat) (d : Desc) (st : Nat) (res : List Half) : State :=
  -- a PROG of a ring, which R151 refuses, names no place of the placement unit
  let s := if d.opcode = 1 ∧ d.org ≠ 1 then s.progEnd n d st else if d.opcode = 2 then s.eraseEnd n d st else s
  if d.org = 1 then
    if d.opcode = 3 ∨ d.opcode = 4 then s.readRoute d (.chan d res) st res
    else if d.opcode = 8 then s.chanReadEnd d.dbuf (d.origin % 16384) d.tag d.cmpl d st res
    else s.chanEnd (d.origin % 16384) d.tag d.cmpl st res
  else if d.org = 2 then
    (if d.opcode = 5 then s.shadowDone n d st (s.shCount d.dbuf 0) (s.shCount d.dbuf 1) (s.shCount d.dbuf 2)
     else if d.opcode = 6 then s.patrolDone d st else s)
  else if d.org = 3 then (if d.decodes ∨ d.opcode = 7 then s.recoveryRead d st else s)
  else
    match s.dplace d.dbuf, d.opcode with
    | .read id k, 3 => s.readRoute d (.read id k d.dbuf) st res
    | _, _ => s

/-- Words that a read's DONE leaves to the decode jobs: it completes after the last job of its place (07 R223). -/
def State.readPending (s : State) (d : Desc) : Bool :=
  s.dec.landed.any (fun x => x.desc.dbuf = d.dbuf) || s.jobsOf d.dbuf ≠ [] || d.cws.any (fun k => s.outcome d.dbuf k = 3)

/-- Does a read whose routine ended with `st` wait for its decode jobs (07 R223)? With a status other than OK only those of its codewords
that have landed are waited for. -/
def State.readWaits (s : State) (d : Desc) (st : Nat) : Bool :=
  if st = 0 then s.readPending d else s.dec.landed.any (fun x => x.desc.dbuf = d.dbuf) || s.jobsOf d.dbuf ≠ []

/-- Complete a read whose last decode job has ended: the FAIL mask in half-word 2 and the ERASED mask in half-word 3
(07 R223); a bad trailer raises CRC_MISMATCH (06 R186). A status other than OK that its routine gave stands. -/
def State.readFinish (s : State) (n : Nat) (r : ReadS) : State :=
  if r.st ≠ 0 then s.deliver n r.desc r.st r.res else
  let st := s.readStatus r.desc
  let s := if st = 0x53 then s.crcBad else s
  let res := [r.res.getD 0 0, r.res.getD 1 0, BitVec.ofNat 16 (s.outMask r.desc.dbuf r.desc.cws 1), BitVec.ofNat 16 (s.outMask r.desc.dbuf r.desc.cws 2)]
  s.deliver n r.desc st res

/-- A descriptor completes: a read that decodes waits for the last job of its place (07 R223). -/
def State.complete (s : State) (n : Nat) (d : Desc) (st : Nat) (res : List Half) : State :=
  let s := s.freeSlot n d
  -- a read whose place lies in a DEC group without power completes POWER_OFF (06 R195)
  let st := if d.reads ∧ d.dbuf < s.gen.ndec ∧ !s.powered (decDom d.dbuf) then 0x24 else st
  if !d.decodes then s.deliver n d st res
  else if s.readWaits d st then s.chMap n (fun c => { c with reads := c.reads ++ [⟨d, res, st⟩] })
  else s.readFinish n ⟨d, res, st⟩

/-- A descriptor that never reached a slot completes at once (R151). -/
def State.refuseDesc (s : State) (n : Nat) (d : Desc) (st : Nat) : State := s.deliver n d st (s.stdRes n d 0 0 0)

end Sys2Proof.Machine
end

