-- ==== Sys2Proof/Machine/Phy.lean ====
section
/-!
DEFINITION. The PHY slices: INIT, training, eyes, fallback, spare-lane steering and read bursts
(03_flash_bus.md R85 to R110, R486).
-/

namespace Sys2Proof.Machine

/-! ## End of a command -/

/-- A PHY command has ended with a result: PHY_DONE (R110); after an INIT that leaves the channel without a working slice
the descriptors in its slots complete with CHAN_FAILED (05 R151). -/
def State.phyFinish (s : State) (n res : Nat) : State :=
  let wasInit := s.initRuns n
  let s := ((s.set (R.CH_PHY_STAT_BUSY n) 0).set (R.CH_PHY_STAT_RESULT n) res).phyMap n (fun p => { p with cmd := none })
  let s := s.chRaise n 4
  if wasInit ∧ !s.phyRuns n then
    let ds := ((s.ch n).slots.filter (fun x => !x.started)).map (fun x => x.desc)
    let s := s.chMap n (fun c => { c with slots := c.slots.filter (fun x => x.started) })
    ds.foldl (fun s d => s.refuseDesc n d 0x26) s
  else if wasInit then
    -- what waited for the geometry is held against it now (log entry 37)
    let bad (x : Slot) : Bool := !x.started && (s.descFits n x.desc).isSome
    let ds := ((s.ch n).slots.filter bad).map (fun x => (x.desc, (s.descFits n x.desc).getD 0))
    let s := s.chMap n (fun c => { c with slots := c.slots.filter (fun x => !bad x) })
    ds.foldl (fun s d => s.refuseDesc n d.1 d.2) s
  else s

/-! ## What the slice drives by itself -/

/-- Put what is driven on a channel's bus on record, in order; an unowned slice drives nothing (02 R62). -/
def State.drive (s : State) (n : Nat) (ops : List BusOp) : State :=
  if s.ownsCh n then s.engMap n (fun e => { e with bus := ops.reverse ++ e.bus }) else s

/-- Set Features of a target with four data bytes that the spec does not list (R90, R91). -/
def featOps (addr : Nat) : List BusOp := [.cmd 0xEF, .addr [addr], .dout 4]

/-- Identification of a target (R109 step 2): Read ID at address 0x20. -/
def idOps (c : Nat) : List BusOp := [.sel c, .cmd 0x90, .addr [0x20], .din 4]

/-- Parameter pages of a target up to copy `k`, and its unique ID when it is kept (R92, R109 step 3; log entry 38). -/
def pageOps (c k : Nat) (kept : Bool) : List BusOp :=
  [.sel c, .cmd 0xEC, .addr [0], .din (256 * k)] ++ (if kept then [.cmd 0xED, .addr [0], .din 32] else [])

/-- Step 4 of INIT on a target (R91, R109): features 0x02, 0x10 with PHY_CTRL.DRIVE, 0x01, and ODT Configure. -/
def State.confOps (s : State) (n c : Nat) : List BusOp :=
  [.sel c] ++ featOps 0x02 ++ [.cmd 0xEF, .addr [0x10], .data [s.get (R.CH_PHY_CTRL_DRIVE n), 0, 0, 0]] ++ featOps 0x01 ++ [.cmd 0xE2, .dout 4]

/-- Set Features to LANE_FEAT of every target with the steered bit, or 0xFF for none (R107 step 2). -/
def State.laneOps (s : State) (n : Nat) (cs : List Nat) (f : Nat) : List BusOp :=
  cs.flatMap (fun c => [.sel c, .cmd 0xEF, .addr [bits (s.get (R.CH_XDESC_BYTES n 1)) 16 8], .data [if f < 8 then f else 0xFF, 0, 0, 0]])

/-- One sweep burst of a read training: patterns 0x35 and 0x5A, inversion mask 0xAA, 256 B (R100 step 3). -/
def rdTrainOps : List BusOp := [.cmd 0x62, .addr [0x35, 0x5A, 0xAA], .din 256]

/-- One sweep burst of a write training: 256 B of the keystream with seed 1, and their read-back (R100 step 5). -/
def wrTrainOps : List BusOp := [.cmd 0x63, .data ((keystream 256 1).map (fun b => b.toNat)), .cmd 0x64, .din 256]

/-- The steps of a target's training on its bus (R100): ZQ calibration and DCC but where the training starts at step 3, then
the 50 positions and 16 settings of the sweeps. -/
def trainOps (k : PhyKind) (from3 : Bool) (c : Nat) : List BusOp :=
  let full := k = .init ∨ k = .full
  [.sel c] ++ (if full ∧ !from3 then [.cmd 0xF9] ++ featOps 0x20 else if k = .retrain then [.cmd 0xD9] else []) ++
    (List.replicate 66 rdTrainOps).flatten ++ (if k = .retrain then [] else (List.replicate 50 wrTrainOps).flatten) ++ [.desel]

/-- A seal preempts training: ABORTED (R103). -/
def State.phyAbort (s : State) (n : Nat) : State :=
  match (s.ch n).phy.cmd with
  | some c => if c.asked then s else s.phyFinish n 6
  | none => s

/-! ## Rates -/

/-- MT/s of N and the P code (R88). -/
def rateOf (n p : Nat) : Nat := 400 * n / 2 ^ p

/-- Byte `i` of the combined descriptor in `XDESC0` to `XDESC3`. -/
def State.xbyte (s : State) (n i : Nat) : Nat := bits (s.get (R.CH_XDESC_BYTES n (i / 4))) (8 * (i % 4)) 8

/-- Is a rate supported by every kept target (R88)? -/
def State.rateOk (s : State) (n r : Nat) : Bool :=
  if r ≤ 3600 then decide (r ≤ (s.ch n).phy.cap)
  else s.get (R.CH_PHY_CTRL_MODE n) = 2 && ((r = 4000 && bit (s.xbyte n 4) 0) || (r = 4800 && bit (s.xbyte n 4) 1))

/-- The requested N and P, or the highest supported rate of the form at or below it (R88). Of two pairs of one rate the one
with the lower N is taken, and where no rate is supported 150 MT/s (N = 6, P code 4): the spec is silent on both
(DESIGN CHOICE, log entry 39). -/
def State.ratePick (s : State) (n nn pp : Nat) : Nat × Nat :=
  if s.rateOk n (rateOf nn pp) then (nn, pp)
  else
    let all := [6, 7, 8, 9, 10, 11, 12].flatMap (fun a => [0, 1, 2, 3, 4].map (fun p => (a, p)))
    let ok := all.filter (fun x => rateOf x.1 x.2 ≤ rateOf nn pp ∧ s.rateOk n (rateOf x.1 x.2))
    ok.foldl (fun m x => if rateOf m.1 m.2 < rateOf x.1 x.2 then x else m) (ok.headD (6, 4))

/-- Run at N and P: the PLL relocks, and no target has trims at the rate (R89, R110). -/
def State.rateSet (s : State) (n : Nat) (x : Nat × Nat) : State :=
  let s := ((s.set (R.CH_PHY_STAT_N_ACT n) x.1).set (R.CH_PHY_STAT_P_ACT n) x.2).set (R.CH_PHY_STAT_CE_TRAINED n) 0
  s.phyMap n (fun p => { p with rate := rateOf x.1 x.2 })

/-- Present targets, ascending. -/
def State.presentCes (s : State) (n : Nat) : List Nat := (List.range 8).filter (bit (s.get (R.CH_PHY_STAT_CE_PRESENT n)))

/-! ## INIT -/

/-- Do the bytes of a parameter-page copy carry their ONFI CRC-16 (R92; log entry 38)? -/
def pageGood (p : PageCopy) : Bool := crc16 (p.raw.take 254) = leNat ((p.raw.drop 254).take 2)

/-- The accepted copy of a target's parameter page: the first whose CRC-16 matches (R92). -/
def pageTaken (a : DieAns) : Option PageCopy := a.copies.find? pageGood

/-- Copies that are read: up to the accepted one, or all (R92). -/
def pageReads (a : DieAns) : Nat := min a.copies.length ((a.copies.findIdx pageGood) + 1)

/-- The descriptor a target counts with (R93, R94), from byte 166 of its page: zeros without the signature or with RPRE or
TDQSRE_MAX out of range. -/
def xdescOf (p : PageCopy) : Nat :=
  let v := leNat ((p.raw.drop 166).take 16)
  let sig := bits v 0 32 = 0x31525845
  let rpre := bits v 56 8
  let tq := bits v 96 16
  if sig ∧ 8 ≤ rpre ∧ rpre ≤ 32 ∧ 1500 ≤ tq ∧ tq ≤ 4000 then v else 0

/-- Two descriptors combined (R94). The SIGNATURE bytes are those of the lower target, on which the spec is silent
(DESIGN CHOICE, log entry 40). -/
def xdescJoin (a b : Nat) : Nat :=
  let mx (lo w : Nat) := max (bits a lo w) (bits b lo w) * 2 ^ lo
  let fl := bits a 40 8 &&& bits b 40 8
  let fl := if bits a 48 8 = bits b 48 8 then fl else fl / 2 * 2
  let fl := if bits a 64 16 = bits b 64 16 then fl else fl / 4 * 4 + fl % 2
  bits a 0 32 + (bits a 32 8 &&& bits b 32 8) * 2 ^ 32 + fl * 2 ^ 40 + bits a 48 8 * 2 ^ 48 + mx 56 8 + bits a 64 16 * 2 ^ 64 +
    mx 80 16 + mx 96 16

/-- The declarations of the kept dies as one (05 R155): the least of the sizes; what differs meets no geometry. -/
def geoJoin (a : Geo) (p : DiePage) : Geo :=
  { a with
    planes := if a.planes = p.planes then a.planes else 0
    dataBytes := if a.dataBytes = p.dataBytes then a.dataBytes else 0
    rows := if a.rows = p.rows ∧ a.pageBits = p.pageBits ∧ a.planeBits = p.planeBits ∧ a.blockBits = p.blockBits then a.rows else 0
    spareBytes := min a.spareBytes p.spareBytes, blocks := min a.blocks p.blocks
    slcPages := min a.slcPages p.slcPages, tlcPages := min a.tlcPages p.tlcPages }

/-- The declarations of one die. -/
def geoOf (p : DiePage) : Geo :=
  { rows := p.rows, pageBits := p.pageBits, planeBits := p.planeBits, blockBits := p.blockBits, planes := p.planes,
    dataBytes := p.dataBytes, spareBytes := p.spareBytes, blocks := p.blocks, slcPages := p.slcPages, tlcPages := p.tlcPages }

/-- A timing parameter of `t` ns in `scyc` (04 R125). -/
def scycOf (t : Nat) : Nat := (t * 7 + 7) / 8

/-- Reset (0xFF) is sent to a target: no offsets remain in its LUNs, they are busy until a status read says otherwise (R86),
and it leaves charter mode (05 R180, 07 R216). -/
def State.targetReset (s : State) (n c : Nat) : State :=
  let s := (s.drive n [.sel c, .cmd 0xFF]).engMap n (fun e => { e with charter := e.charter &&& ~~~(1#8 <<< c) })
  [c, c + 8].foldl (fun s l => s.lunMap n l (fun x => { x with refSlc := refZero, refTlc := refZero, op := .reset })) s

/-- INIT waits on `FLn_RB_N` for its resets to end (R109 step 1). -/
def State.resetsEnd (s : State) (n : Nat) (cs : List Nat) : State :=
  (cs.flatMap (fun c => [c, c + 8])).foldl (fun s l => s.lunMap n l (fun x => { x with op := .none })) s

/-- Entry `i` of the timing table at the rate in force, in ns (04 R125; 03 R95): the bus parameters that the extended rates
fix stand in entries 8 to 14, in the order of 04 R124 (log entry 41); the others are those of the timing mode. -/
def timeAt (rate : Nat) (timing : List Nat) (i : Nat) : Nat :=
  if i = 14 then 100
  else if rate ≤ 3600 then timing.getD i 0
  else match i with
    | 8 => 20 | 9 => 10 | 10 => 150 | 11 => 80 | 12 => 100 | 13 => 300
    | _ => timing.getD i 0

/-- The engine's timing for the rate in force: that of the timing modes the dies declare, or of the extended rates (R88, R95; 04 R124). -/
def State.engTime (s : State) (n : Nat) : State :=
  let p := (s.ch n).phy
  s.engMap n (fun e => { e with timing := (List.range 32).foldl (fun t i => tput (fun _ => 0) t i (scycOf (timeAt p.rate p.timing i))) [] })

/-- The bytes of `TRIM0` to `TRIM2` of a target in a direction (R110). -/
def TargetS.trimBytes (t : TargetS) (wr : Bool) : List Byte :=
  let v := if wr then t.wrTrim else t.rdTrim
  (List.range 9).map (fun l => BitVec.ofNat 8 (v.getD l 0)) ++ [0, BitVec.ofNat 8 t.ref, 0]

/-- The trims of target `c` of channel `n` are written in their words of region 5 (14 R408). -/
def State.trimWrote (s : State) (n c : Nat) : State := s.bufWrote 5 (trimIx n c) 10

/-- The trims of every target of channel `n` are read from their words (14 R416). -/
def State.trimSeen (s : State) (n : Nat) : State := s.bufRead 5 (trimIx n 0) 128

/-- The 256-B channel block of an almanac record (07 R237) as it stands: trims, zero for an absent target, lane map and rate. -/
def State.trimBlock (s : State) (n : Nat) : List Byte :=
  let t (c : Nat) : TargetS := tget (fun _ => {}) (s.ch n).phy.targets c
  (List.range 8).flatMap (fun c =>
    if bit (s.get (R.CH_PHY_STAT_CE_PRESENT n)) c then (t c).trimBytes false ++ (t c).trimBytes true else List.replicate 24 0) ++
  [BitVec.ofNat 8 (s.get (R.CH_LANE_MAP_ACTIVE n)), BitVec.ofNat 8 (s.get (R.CH_PHY_STAT_N_ACT n)), BitVec.ofNat 8 (s.get (R.CH_PHY_STAT_P_ACT n))] ++
  List.replicate 61 0

/-- The trims, lane map and rate of channel `n` go to the standby (16 R468). -/
def State.mirrorTrim (s : State) (n : Nat) : State := if s.mirrors then (s.trimSeen n).mirror 0x26 n (s.trimBlock n) else s

/-- A change `f` of the channel; where it changes `LANE_MAP`, the trims go to the standby (16 R468). -/
def State.laneMapBy (s : State) (n : Nat) (f : State → State) : State :=
  let a := (R.CH_LANE_MAP_ACTIVE n).addr
  if (f s).rd a = s.rd a then f s else (f s).mirrorTrim n

/-- Steps 4 to 6 of INIT (R109): the features, the rate with its timing parameters, the requested steering; FULL_TRAIN begins. `someBad` says
that a die with a signature has no good parameter page. -/
def State.phyStart (s : State) (n : Nat) (timing kept : List Nat) (someBad : Bool) : State :=
  let s := s.drive n (kept.flatMap (s.confOps n))
  let s := s.phyMap n (fun p => { p with timing := timing })
  let s := (s.rateSet n (s.ratePick n (s.get (R.CH_PHY_CTRL_N n)) (s.get (R.CH_PHY_CTRL_P n)))).engTime n
  let req := s.get (R.CH_LANE_MAP_REQUEST n)
  let steer : Bool := s.flag (R.CH_LANE_MAP_SPARE_OK n) && decide (req < 8)
  let s := if steer then s.drive n (s.laneOps n kept req) else s
  let s := s.laneMapBy n (fun s => s.set (R.CH_LANE_MAP_ACTIVE n) (if steer then req else 15))
  let run : PhyRun := { kind := .init, left := kept, all := kept, relock := true, rated := true, res := if someBad then 2 else 0 }
  s.phyMap n (fun p => { p with cmd := some run })

/-- Step 3 of INIT (R109): what the parameter pages of the kept targets declare, joined; the rate the dies allow. XRATE and
SPARE_OK are set here only: whether they follow a later firmware write of `XDESC0` to `XDESC3` the spec does not say
(DESIGN CHOICE, log entry 40). -/
def State.phyPages (s : State) (n : Nat) (timing : List Nat) (someBad : Bool) (kept : List (Nat × PageCopy)) : State :=
  match kept with
  | [] => s.phyFinish n 2
  | (_, p0) :: rest =>
    let xd := rest.foldl (fun a x => xdescJoin a (xdescOf x.2)) (xdescOf p0)
    let s := if s.flag (R.CH_PHY_CTRL_XDESC_KEEP n) then s
      else [0, 1, 2, 3].foldl (fun s i => s.set (R.CH_XDESC_BYTES n i) (bits xd (32 * i) 32)) s
    let s := s.set (R.CH_PHY_STAT_XRATE n) (b2n (s.xbyte n 4 ≠ 0))
    let s := s.laneMapBy n (fun s => s.set (R.CH_LANE_MAP_SPARE_OK n) (s.xbyte n 5))
    let mode := s.get (R.CH_PHY_CTRL_MODE n)
    let rate (p : DiePage) := if mode = 1 then p.ddr3 else p.lpddr4
    let cap := rest.foldl (fun m x => min m (rate x.2.decl)) (rate p0.decl)
    let s := s.phyMap n (fun p => { p with geo := some (rest.foldl (fun a x => geoJoin a x.2.decl) (geoOf p0.decl)), cap := cap })
    let nn := s.get (R.CH_PHY_CTRL_N n)
    let pp := s.get (R.CH_PHY_CTRL_P n)
    if (mode ≠ 1 ∧ mode ≠ 2) ∨ cap = 0 then s.phyFinish n 3
    else if nn < 6 ∨ 12 < nn ∨ 4 < pp then s.phyFinish n 4
    else s.phyStart n timing (kept.map (fun x => x.1)) someBad

/-- INIT forgets what it knew of the channel's dies (R109). -/
def State.phyForget (s : State) (n : Nat) : State :=
  let s := ((s.set (R.CH_PHY_STAT_STATE n) 1).set (R.CH_PHY_STAT_CE_PRESENT n) 0).set (R.CH_PHY_STAT_CE_TRAINED n) 0
  let s := (s.set (R.CH_PHY_STAT_N_ACT n) 0).set (R.CH_PHY_STAT_P_ACT n) 0
  s.phyMap n (fun p => { p with geo := none, rate := 0 })

/-- Steps 1 to 5 of INIT with the dies' answers (R109). -/
def State.phyInit (s : State) (n : Nat) (targets : Nat) (dies : List DieAns) (timing : List Nat) : State :=
  let tg := (List.range 8).filter (bit targets)
  let ans (c : Nat) : DieAns := dies.getD c ⟨false, []⟩
  let s := (tg.foldl (fun s c => s.targetReset n c) (s.phyForget n)).resetsEnd n tg
  let s := s.drive n (tg.flatMap idOps)
  let sigs := tg.filter (fun c => (ans c).sig)
  if sigs = [] then s.phyFinish n 1
  else
    let kept := sigs.filterMap (fun c => (pageTaken (ans c)).map (fun p => (c, p)))
    let s := s.drive n (sigs.flatMap (fun c => pageOps c (pageReads (ans c)) (pageTaken (ans c)).isSome) ++ [.desel])
    let s := s.set (R.CH_PHY_STAT_CE_PRESENT n) (kept.foldl (fun m x => m + 2 ^ x.1) 0)
    s.phyPages n timing (decide (kept.length < sigs.length)) kept

/-! ## Commands (R104) -/

/-- Kind of a code of `PHY_CMD.CMD`. -/
def phyKind (c : Nat) : Option PhyKind :=
  match c with
  | 1 => some .init | 2 => some .full | 3 => some .retrain | 4 => some .scan | _ => none

/-- Effect of a write of `CH[n].PHY_CMD` (R104, R110). A training command whose TARGETS names no present target ends at once
with OK, on which the spec is silent (DESIGN CHOICE, log entry 42). -/
def phyCmdWr (n : Nat) (data : Word) (s : State) : State :=
  if s.flag (R.CH_PHY_STAT_BUSY n) then (s.set (R.CH_PHY_STAT_RESULT n) 7).chRaise n 4
  else match phyKind (data.toNat % 16) with
  | none => s
  | some k =>
    let tg := bits data.toNat 8 8
    if k = .init then
      let run : PhyRun := { kind := .init, left := [], all := (List.range 8).filter (bit tg), asked := true }
      (s.set (R.CH_PHY_STAT_BUSY n) 1).phyMap n (fun p => { p with cmd := some run })
    else if !s.phyRuns n then (s.set (R.CH_PHY_STAT_RESULT n) 8).chRaise n 4
    else
      let ts := (s.presentCes n).filter (bit tg)
      let s := (s.set (R.CH_PHY_STAT_BUSY n) 1).phyMap n (fun p => { p with cmd := some { kind := k, left := ts, all := ts } })
      if ts = [] then s.phyFinish n 0 else s

/-- The word of `PHY_CMD`. -/
def phyCmdWord (targets : BitVec 8) (c : Nat) : Word := BitVec.ofNat 32 (targets.toNat * 256 + c)

/-- An INIT that has been asked for runs with the dies' answers. -/
def State.initAnswer (s : State) (n : Nat) (targets : BitVec 8) (dies : List DieAns) (timing : List Nat) : State :=
  match (s.ch n).phy.cmd with
  | some c => if s.ownsCh n ∧ c.asked ∧ c.all = (List.range 8).filter (bit targets.toNat) then s.phyInit n targets.toNat dies timing else s
  | none => s

/-- An INIT whose dies' answers are still to come waits on the channel for these targets. -/
def State.initAsked (s : State) (n : Nat) (targets : BitVec 8) : Bool :=
  match (s.ch n).phy.cmd with
  | some c => c.asked && c.all = (List.range 8).filter (bit targets.toNat)
  | none => false

/-- INIT (R109): a write of `PHY_CMD` with the dies' answers; for an INIT written before, the answers alone. -/
def execPhyInit (ch : Fin 48) (targets : BitVec 8) (dies : List DieAns) (timing : List Nat) (s : State) : Out :=
  if s.initAsked ch targets then .next (s.initAnswer ch targets dies timing)
  else .next ((s.cpWr (R.CH_PHY_CMD_CMD ch).addr 0xF#4 (phyCmdWord targets 1) (phyCmdWr ch (phyCmdWord targets 1))).initAnswer ch targets dies timing)

/-- FULL_TRAIN (R100, R104). -/
def execFullTrain (ch : Fin 48) (targets : BitVec 8) (s : State) : Out :=
  .next (s.cpWr (R.CH_PHY_CMD_CMD ch).addr 0xF#4 (phyCmdWord targets 2) (phyCmdWr ch (phyCmdWord targets 2)))

/-- READ_RETRAIN (R100, R104). -/
def execReadRetrain (ch : Fin 48) (targets : BitVec 8) (s : State) : Out :=
  .next (s.cpWr (R.CH_PHY_CMD_CMD ch).addr 0xF#4 (phyCmdWord targets 3) (phyCmdWr ch (phyCmdWord targets 3)))

/-- EYE_SCAN (R100, R104). -/
def execEyeScan (ch : Fin 48) (targets : BitVec 8) (s : State) : Out :=
  .next (s.cpWr (R.CH_PHY_CMD_CMD ch).addr 0xF#4 (phyCmdWord targets 4) (phyCmdWr ch (phyCmdWord targets 4)))

/-- PLL_LOCK (R89): the relock ends and training goes on. -/
def execPllLock (ch : Fin 48) (s : State) : Out :=
  .next (s.phyMap ch (fun p => { p with cmd := p.cmd.map (fun c => { c with relock := false }) }))

/-! ## Training of a target -/

/-- Lanes that carry a logical bit when bit `f` is steered (R106). -/
def lanesOf (f : Nat) : List Nat := (List.range 9).filter (fun l => if f < 8 then decide (l ≠ f) else decide (l ≠ 8))

/-- Logical bit of a lane (R106). -/
def laneBit (f l : Nat) : Nat := if f < l ∧ f < 8 then l - 1 else l

/-- Width of an eye with its two edges (R101). -/
def eyeWidth (e : Option (Nat × Nat)) : Nat :=
  match e with
  | some x => x.2 + 1 - x.1
  | none => 0

/-- Longest run of ones in a mask from bit `i` on: start and length, of the best so far and the current. Of two runs of one
length the lower is taken, on which the spec is silent (DESIGN CHOICE, log entry 43). -/
def bestRun (m : Nat) : Nat → Nat → Nat × Nat → Nat × Nat → Nat × Nat
  | 0, _, best, _ => best
  | k + 1, i, best, cur =>
    if bit m i then
      let cur' := if cur.2 = 0 then (i, 1) else (cur.1, cur.2 + 1)
      bestRun m k (i + 1) (if best.2 < cur'.2 then cur' else best) cur'
    else bestRun m k (i + 1) best (0, 0)

/-- Does a lane pass at position or setting `p`: all of its 256 bits compare correctly (R101)? -/
def posPass (x : List (BitVec 256)) (p : Nat) : Bool := x.getD p (BitVec.allOnes 256) = 0

/-- The mask of what passes among `n` positions. -/
def passMask (n : Nat) (f : Nat → Bool) : Nat := (List.range n).foldl (fun m i => if f i then m + 2 ^ i else m) 0

/-- The eye of a lane's sweep (R100 step 3, R101): 32 coarse positions, 9 fine ones around each edge of their longest run, and
the run of passing positions, among all that were measured, around the middle of the coarse run; `none` when no coarse
position passes (log entry 43). -/
def eyeOf (x : List (BitVec 256)) : Option (Nat × Nat) :=
  let r := bestRun (passMask 32 (fun i => posPass x (4 * i))) 32 0 (0, 0) (0, 0)
  if r.2 = 0 then none
  else
    let a := 4 * r.1
    let b := 4 * (r.1 + r.2 - 1)
    let best := 4 * (r.1 + (r.2 - 1) / 2)
    let pos := (List.range 128).filter (fun p => p % 4 = 0 ∨ (a ≤ p + 4 ∧ p ≤ a + 4) ∨ (b ≤ p + 4 ∧ p ≤ b + 4))
    let lo := ((pos.filter (fun p => decide (p ≤ best))).reverse.takeWhile (posPass x)).getLastD best
    let hi := ((pos.filter (fun p => decide (best ≤ p))).takeWhile (posPass x)).getLastD best
    some (lo, hi)

/-- The settings of the reference sweep at which every trained lane passes (R100 step 4). -/
def refPass (lanes : List Nat) (x : List (List (BitVec 256))) : Nat :=
  passMask 16 (fun i => lanes.all (fun l => posPass (x.getD l []) i))

/-- New reference code and eye height of a sweep around `ref` (R100 step 4, R101). The settings are clamped to 0 to 63. -/
def refResult (ref pass : Nat) : Nat × Nat :=
  let r := bestRun pass 16 0 (0, 0) (0, 0)
  if r.2 = 0 then (ref, 0) else (min 63 (ref + r.1 + (r.2 - 1) / 2 - 8), r.2)

/-- The list with the trained lanes replaced. -/
def laneSet (lanes : List Nat) (old : List Nat) (v : Nat → Nat) : List Nat :=
  (List.range 9).map (fun l => if l ∈ lanes then v l else old.getD l 0)

/-- Commit a target's training as a whole (R101). A trained lane on which no position passes keeps its trim and reports width
0, for the spec gives it no new one (DESIGN CHOICE, log entry 43). -/
def State.trainCommit (s : State) (n c : Nat) (k : PhyKind) (res : TrainRes) : State :=
  let lanes := lanesOf (s.get (R.CH_LANE_MAP_ACTIVE n))
  let rd (l : Nat) := eyeOf (res.rd.getD l [])
  let wr (l : Nat) := eyeOf (res.wr.getD l [])
  let mid (e : Option (Nat × Nat)) (old : Nat) := match e with
    | some x => (x.1 + x.2) / 2
    | none => old
  let s := s.phyMap n (fun p => { p with targets := tmod (fun _ => {}) p.targets c (fun t =>
    let (ref, h) := refResult t.ref (refPass lanes res.ref)
    let t := { t with rdEye := (List.range 9).map (fun l => if l ∈ lanes then eyeWidth (rd l) else 0) }
    let t := if k = .retrain then t else { t with wrEye := (List.range 9).map (fun l => if l ∈ lanes then eyeWidth (wr l) else 0) }
    let t := { t with height := h }
    if k = .scan then t
    else
      let t := { t with rdTrim := laneSet lanes t.rdTrim (fun l => mid (rd l) (t.rdTrim.getD l 64)), ref := ref }
      if k = .retrain then t else { t with wrTrim := laneSet lanes t.wrTrim (fun l => mid (wr l) (t.wrTrim.getD l 64)) }) })
  if k = .scan then s
  else s.set (R.CH_PHY_STAT_CE_TRAINED n) (s.get (R.CH_PHY_STAT_CE_TRAINED n) ||| 2 ^ c)

/-- Lanes that the training classifies as marginal or failed (R105). DESIGN CHOICE (log entry 43): the eyes are those this training has
measured, so that a READ_RETRAIN looks at the read eyes alone and not at a write eye measured before; the spec does not say. -/
def State.marginal (s : State) (n : Nat) (k : PhyKind) (res : TrainRes) : List Nat :=
  let lim := max (s.get (R.CH_EYE_LIM_MIN_TAPS n)) (s.get (R.CH_EYE_LIM_FAIL_TAPS n))
  (lanesOf (s.get (R.CH_LANE_MAP_ACTIVE n))).filter (fun l =>
    eyeWidth (eyeOf (res.rd.getD l [])) < lim ∨ (k ≠ .retrain ∧ eyeWidth (eyeOf (res.wr.getD l [])) < lim))

/-- The steered bit that FULL_TRAIN puts in force next, when it changes (R107): 15 for none. REQUEST values 8 to 14, to which
the spec gives no meaning, count as none (DESIGN CHOICE, log entry 44). -/
def State.steerNext (s : State) (n : Nat) (bad : List Nat) : Option Nat :=
  let act := s.get (R.CH_LANE_MAP_ACTIVE n)
  if !s.flag (R.CH_LANE_MAP_SPARE_OK n) then none
  else if s.flag (R.CH_PHY_CTRL_AUTO_STEER n) then
    (if act < 8 then none
     else match bad with
       | [] => none
       | l :: ls => some (ls.foldl (fun m x => min m (laneBit act x)) (laneBit act l)))
  else
    let req := s.get (R.CH_LANE_MAP_REQUEST n)
    let want := if req < 8 then req else 15
    if want = act then none else some want

/-- Is an operation outstanding on a LUN of target `c` (R103)? A routine that runs there counts as one, but not while it waits, after a
rate change, to send an array command (R89). -/
def State.targetBusy (s : State) (n c : Nat) : Bool :=
  [c, c + 8].any (fun l =>
    (s.lun n l).park.isSome || (s.lun n l).op ≠ .none || (s.lun n l).wl.isSome ||
    (match (s.ch n).ctx.desc with
     | some d => d.lun = l && (s.ch n).ctx.run = .run && !s.rateHold n
     | none => false))

/-- Go on after a target: with the next one, or end (R105, R109). -/
def State.trainNext (s : State) (n : Nat) (c : PhyRun) (rest : List Nat) : State :=
  if rest = [] then
    let s := if (c.kind = .init ∨ c.kind = .full) ∧ s.get (R.CH_PHY_STAT_STATE n) ≠ 3 then s.set (R.CH_PHY_STAT_STATE n) 2 else s
    s.phyFinish n c.res
  else s.phyMap n (fun p => { p with cmd := some { c with left := rest } })

/-- A target's FULL_TRAIN has been committed: steering, fallback or failure (R105, R107). FB_N and FB_P codes outside the ranges
of R88 give the rate they spell, for R105 names no result for them (DESIGN CHOICE, log entry 39). -/
def State.trainJudge (s : State) (n : Nat) (c : PhyRun) (rest bad : List Nat) : State :=
  match (if c.steered then none else s.steerNext n bad) with
  | some f =>
    ((s.drive n (s.laneOps n (s.presentCes n) f ++ [.desel])).set (R.CH_LANE_MAP_ACTIVE n) f).phyMap n
        (fun p => { p with cmd := some { c with left := s.presentCes n, steered := true, from3 := true } })
      |>.mirrorTrim n
  | none =>
    if bad = [] then s.trainNext n c rest
    else
      let fb := s.ratePick n (s.get (R.CH_PHY_CTRL_FB_N n)) (s.get (R.CH_PHY_CTRL_FB_P n))
      if rateOf fb.1 fb.2 < (s.ch n).phy.rate then
        let s := s.drive n ((s.presentCes n).flatMap (fun t => .sel t :: featOps 0x01) ++ [.desel])
        (((s.set (R.CH_PHY_STAT_STATE n) 3).rateSet n fb).engTime n).phyMap n
          (fun p => { p with cmd := some { c with left := s.presentCes n, relock := true, rated := true, from3 := false } })
      else ((s.set (R.CH_PHY_STAT_STATE n) 4).phyCount n 4 (c.left.headD 0)).phyFinish n 5

/-- May the next target's training start (R103)? Inside INIT it may at once. -/
def State.trainMay (s : State) (n : Nat) (c : PhyRun) (t : Nat) : Bool :=
  s.ownsCh n && !c.relock && !c.asked && (c.kind = .init || ((c.tko || s.permit 9) && !s.targetBusy n t))

/-- TRAIN_TARGET_START (R103): the next target is trained, with what its sweeps measure. -/
def execTrainTargetStart (ch : Fin 48) (res : TrainRes) (s : State) : Out :=
  match (s.ch ch).phy.cmd with
  | none => .next s
  | some c =>
    match c.left with
    | [] => .next s
    | t :: rest =>
      if !s.trainMay ch c t then .next s
      else if res.cmdFail ∧ (c.kind = .init ∨ c.kind = .full) then
        .next (((s.set (R.CH_PHY_STAT_STATE ch) 4).phyCount ch 4 t).phyFinish ch 5)
      else
        let s := (s.drive ch (trainOps c.kind c.from3 t)).trainCommit ch t c.kind res
        let s := if c.kind = .scan then s else (s.trimWrote ch t).mirrorTrim ch
        let bad := s.marginal ch c.kind res
        if c.kind = .init ∨ c.kind = .full then .next (s.trainJudge ch c rest bad)
        else .next ((if bad = [] then s else s.chRaise ch 7).trainNext ch c rest)

/-! ## Read bursts -/

/-- Decision-directed tracking of a lane in a burst (R98). -/
structure Track where
  /-- signed vote count -/
  votes : Int := 0
  /-- offset from the locked phase and the trim, in taps -/
  ofs : Int := 0
  /-- UI since the phase moved last; at lock it may move at once -/
  ui : Nat := 32
  /-- largest offset magnitude -/
  top : Nat := 0
  /-- the offset would have passed 16 taps (R99) -/
  lim : Bool := false
  deriving DecidableEq, Repr

/-- One UI of a lane: `tr` says that consecutive data decisions differ, `late` that the edge sample equals the later one. At
+8 or −8 the phase moves a tap, at most once in 32 UI (R98), and never beyond 16 taps (R99). -/
def Track.step (t : Track) (tr late : Bool) : Track :=
  let v := clampI (-8) 8 (if tr then t.votes + (if late then 1 else -1) else t.votes)
  if v.natAbs < 8 ∨ t.ui + 1 < 32 then { t with votes := v, ui := t.ui + 1 }
  else
    let o := if 0 < v then t.ofs - 1 else t.ofs + 1
    if 16 < o.natAbs then { t with votes := 0, ui := t.ui + 1, lim := true }
    else { t with votes := 0, ofs := o, ui := 0, top := max t.top o.natAbs }

/-- A lane's burst: its data decisions, each with the edge sample half a UI later (R98). -/
def trackLane : List (Bool × Bool) → Track → Track
  | (d, e) :: (d', e') :: xs, t => trackLane ((d', e') :: xs) (t.step (d != d') (e == d'))
  | _, t => t

/-- The tracking of the lanes in use in a burst. -/
def State.trackBurst (s : State) (n : Nat) (lanes : List (List (Bool × Bool))) : List Track :=
  (lanesOf (s.get (R.CH_LANE_MAP_ACTIVE n))).map (fun l => trackLane (lanes.getD l []) {})

/-- A read burst of LUN `l` missed its preamble (R97). -/
def State.preMissed (s : State) (n l : Nat) : State := ((s.bump (R.CH_TRACK_PRE_MISS n)).chRaise n 5).phyCount n 5 l

/-- A read burst of LUN `l` that has locked is tracked, with each lane's samples (R98, R99). -/
def State.trackNote (s : State) (n l : Nat) (lanes : List (List (Bool × Bool))) : State :=
  if !s.flag (R.CH_PHY_CTRL_TRACK_EN n) then s
  else
    let ts := s.trackBurst n lanes
    let s := s.set (R.CH_TRACK_MAX_OFS n) (ts.foldl (fun m t => max m t.top) (s.get (R.CH_TRACK_MAX_OFS n)))
    if ts.any (fun t => t.lim) then ((s.bump (R.CH_TRACK_LIM_CNT n)).chRaise n 6).phyCount n 6 l else s

/-- READ_BURST (R96 to R99): a running read burst locks to its preamble and is tracked, or misses it; `lanes` holds each
lane's data decisions with their edge samples. -/
def execReadBurst (ch : Fin 48) (locked : Bool) (lanes : List (List (Bool × Bool))) (s : State) : Out :=
  let l := ((s.ch ch).eng.bDesc.map Desc.lun).getD 0
  if (s.ch ch).eng.burst ≠ .inRunning then .next s
  else if locked then
    .next ((s.engMap ch (fun e => { e with preMiss := false, burst := .inLocked })).trackNote ch l lanes)
  else
    .next ((s.engMap ch (fun e => { e with burst := .none, preMiss := true })).preMissed ch l)

end Sys2Proof.Machine
end

