-- ==== Sys2Proof/Machine/LedgOps.lean ====
section
/-!
DEFINITION. The ledger writer of a channel: appending, gathering and flushing entries, and the open-intent table
(13_power_holdup.md R396 to R401).
-/

namespace Sys2Proof.Machine

/-- The number that a list of bytes spells, for an entry's body. -/
def bodyOf (bs : List Byte) : Nat := leNat (bs.take 44)

/-- The body of ERASE_INTENT and ERASE_DONE (R397). -/
def intentBody (i : Intent) : Nat :=
  bodyOf (leBytes 4 i.taddr ++ leBytes 1 i.tlc ++ leBytes 1 0 ++ leBytes 2 i.origin)

/-- The 64 bytes of an entry (R397); `bv` is byte 0x03. -/
def entryBytes (n : Nat) (e : LedgEnt) (bv : Nat) : List Byte :=
  let b := leBytes 1 e.kind ++ leBytes 1 n ++ leBytes 1 e.flags ++ leBytes 1 bv ++ leBytes 4 e.angle ++ leBytes 8 e.seq ++ leBytes 44 e.body
  b ++ leBytes 4 (crc32 b)

/-- The ledger is in use (R399). -/
def State.ledgOn (s : State) : Bool := s.flag R.PWR_LEDG_CFG_EN

/-- Is every appended entry of a channel durable (R398, R399)? -/
def State.ledgSafe (s : State) (n : Nat) : Bool := !s.ledgOn || (s.ch n).ledg.staged = []

/-- Are the staging places of a channel all taken? -/
def State.ledgFull (s : State) (n : Nat) : Bool := decide (32 ≤ (s.ch n).ledg.staged.length)

/-- Append an entry (R397, R398): nothing while EN = 0. -/
def State.ledgAppend (s : State) (n kind flags body : Nat) : State :=
  if !s.ledgOn then s
  else s.ledgMap n (fun l =>
    let staged := l.staged ++ [⟨kind, flags, s.stamp, l.seq, body⟩]
    { l with staged := staged, seq := (l.seq + 1) % 2 ^ 64
             due := l.due || decide (32 ≤ staged.length) || (!(s.ch n).sealing && s.get R.PWR_LEDG_CFG_GATHER = 0) })

/-- Append ERASE_INTENT or ERASE_DONE for an erase, and keep the open-intent table of at most 32 (R400; 16 R468). -/
def State.ledgErase (s : State) (n : Nat) (done : Bool) (d : Desc) : State :=
  let i : Intent := ⟨taSet d.taddr * 2048, b2n d.tlc, d.origin⟩
  let s := s.ledgAppend n (if done then 2 else 1) 0 (intentBody i)
  let s := if !s.ledgOn then s
    else s.ledgMap n (fun l =>
      let rest := l.intents.filter (fun x => taSet x.taddr ≠ taSet i.taddr)
      { l with intents := if done then rest else if rest.length < 32 then rest ++ [i] else l.intents })
  if s.ledgOn then s.mirror 0x22 (if done then 2 else 1) (leBytes 44 (intentBody i)) else s

/-- Tile address of position `p` of the current ledger block set (R396). -/
def State.ledgAddr (s : State) (n : Nat) : Nat :=
  let l := (s.ch n).ledg
  taddrOf n (s.sealLun n) (s.ledgBlk l.blk) (l.pos / 4)

/-- A sample whose block set is erased becomes empty (07 R218). -/
def State.sampleErase (s : State) (n t : Nat) : State :=
  [false, true].foldl (fun s tlc =>
    if s.sample n (taLun t) tlc ≠ unmapped ∧ taSet (s.sample n (taLun t) tlc) = taSet t then s.samplePut n (taLun t) tlc unmapped else s) s

/-- Row-address bytes of a tile address and plane (04 R126). DESIGN CHOICE (log entry 89): a page beyond the declared width of its field
carries into the plane and block bits. -/
def State.rowBytes (s : State) (n t plane page : Nat) : List Nat :=
  match (s.ch n).phy.geo with
  | none => []
  | some g =>
    let row := page + plane * 2 ^ g.pageBits + taBlk t * 2 ^ (g.pageBits + g.planeBits) +
      taLun t / 8 * 2 ^ (g.pageBits + g.planeBits + g.blockBits)
    (List.range g.rows).map (fun i => bits row (8 * i) 8)

/-- The prefix cycle of a mode, when `PFX` enables it (05 R163). -/
def State.prefixOps (s : State) (n : Nat) (tlc : Bool) : List BusOp :=
  if tlc then (if s.flag (R.CH_PFX_TLC_PFX_EN n) then [.cmd (s.get (R.CH_PFX_TLC n))] else [])
  else (if s.flag (R.CH_PFX_SLC_PFX_EN n) then [.cmd (s.get (R.CH_PFX_SLC n))] else [])

/-- Switch to the other ledger block set when the current one has no free position (R400): it is erased, and the open
intents are staged first, CARRIED, before the new entries. -/
def State.ledgSwitch (s : State) (n : Nat) : State :=
  let l := (s.ch n).ledg
  if l.pos < s.ledgPositions n then s
  else
    let t := taddrOf n (s.sealLun n) (s.ledgBlk (!l.blk)) 0
    let s := (s.drive n ([.sel (s.sealLun n % 8)] ++ [0, 1, 2, 3].flatMap (fun p =>
      s.prefixOps n false ++ [.cmd 0x60, .addr (s.rowBytes n t p 0), .cmd (if p = 3 then 0xD0 else 0xD1)]))).sampleErase n t
    let k := l.intents.length
    let carried := (List.range k).map (fun i =>
      (⟨1, 1, s.stamp, (l.seq + i) % 2 ^ 64, intentBody (l.intents.getD i ⟨0, 0, 0⟩)⟩ : LedgEnt))
    s.ledgMap n (fun l => { l with blk := !l.blk, pos := 0, staged := carried ++ l.staged, seq := (l.seq + k) % 2 ^ 64 })

/-- The 18,432 bytes of a position (R396): its entries in info bytes 0 to 2,047 of codeword 4q, filler 0, scrambled and encoded as
codewords 4q to 4q + 3 of the tile address `t`. -/
def positionBytes (n t q : Nat) (es : List LedgEnt) : List Byte :=
  let body := es.flatMap (fun e => entryBytes n e 0)
  (List.range 4).flatMap (fun k =>
    let info := if k = 0 then body ++ List.replicate (4096 - body.length) 0 else List.replicate 4096 0
    let x := scramble t (4 * q + k) info
    x ++ ldpcParity x)

/-- The position's program as the dies see it (R396). -/
def State.flushOps (s : State) (n : Nat) : List BusOp :=
  let l := (s.ch n).ledg
  [.sel (s.sealLun n % 8)] ++ s.prefixOps n false ++
    [.cmd 0x80, .addr ([0, 0] ++ s.rowBytes n (s.ledgAddr n) (l.pos % 4) (l.pos / 4)),
      .data ((positionBytes n (s.ledgAddr n) (l.pos % 4) (l.staged.take 32)).map (fun b => b.toNat)), .cmd 0x10, .desel]

/-- The block set that a flush has to erase first: the current one has no free position (R400). -/
def State.flushErase (s : State) (n : Nat) : Option Nat :=
  if (s.ch n).ledg.pos < s.ledgPositions n then none
  else some (taddrOf n (s.sealLun n) (s.ledgBlk (!(s.ch n).ledg.blk)) 0)

/-- May a flush start (R398): entries due, the engine queue empty and its slice carrying traffic, the seal LUN idle and, in a
seal, addressed by it (03 R103), and the writer not stopped? In a seal an erase that is suspended there leaves it idle (R388). -/
def State.flushMay (s : State) (n : Nat) : Bool :=
  let l := (s.ch n).ledg
  l.due && !l.stopped && l.staged ≠ [] && (s.ch n).eng.queue = [] && (s.ch n).eng.burst = .none && s.busMay n && !s.rateHold n &&
  (!(s.ch n).sealing || bit (s.get (R.CH_PHY_STAT_CE_TRAINED n)) (s.sealLun n % 8)) &&
  (let x := s.lun n (s.sealLun n)
   if (s.ch n).sealing then x.op = .none || (x.op = .erase && x.susp && x.suspOk) else x.park.isNone && x.op = .none)

/-- A flush has failed: after four consecutive failures the writer stops (R401). -/
def State.flushFail (s : State) (n : Nat) : State :=
  let s := s.ledgMap n (fun l => { l with fails := l.fails + 1 })
  if 4 ≤ (s.ch n).ledg.fails then ((s.ledgMap n (fun l => { l with stopped := true })).raise .pwr 0 10).count 4 0 else s

/-- A flush has ended: its position is used (R401). -/
def State.flushEnd (s : State) (n : Nat) (ok : Bool) : State :=
  if ok then
    s.ledgMap n (fun l => { l with staged := l.staged.drop 32, pos := l.pos + 1, fails := 0, due := l.staged.drop 32 ≠ [] })
  else (s.ledgMap n (fun l => { l with pos := l.pos + 1 })).flushFail n

/-- The check of an address that a flush sends (05 R173): the refusal recorded with the command byte, if there is one. -/
def State.flushRefused (s : State) (n t cmd : Nat) : Option State :=
  let w := (s.ch n).sealing
  (s.refuseReason n t w).map (fun r => (s.refuseNote n t w).recordRefusal n t (s.sealLun n % 8) cmd r)

/-- The position of a flush is programmed: `pass` is what the die reports. -/
def State.flushProg (s : State) (n : Nat) (pass : Bool) : State :=
  match s.flushRefused n (s.ledgAddr n) 0x80 with
  | some s => s.flushEnd n false
  | none => ((s.refuseNote n (s.ledgAddr n) (s.ch n).sealing).drive n (s.flushOps n)).flushEnd n pass

/-- LEDGER_FLUSH (R398): the staged entries are programmed as one position; `pass` is what the die reports. An erase that has
to come first (R400) is checked as any other (05 R173). -/
def execLedgerFlush (ch : Fin 48) (pass : Bool) (s : State) : Out :=
  if !s.flushMay ch then .next s
  else match s.flushErase ch with
    | none => .next (s.flushProg ch pass)
    | some t =>
      match s.flushRefused ch t 0x60 with
      | some s => .next (s.flushFail ch)
      | none => .next (((s.refuseNote ch t (s.ch ch).sealing).ledgSwitch ch).flushProg ch pass)

/-- LEDGER_GATHER (R398): GATHER µs have passed since a channel's first unflushed entry; in a seal the delay does not apply. -/
def execLedgerGather (ch : Fin 48) (s : State) : Out :=
  .next (if (s.ch ch).sealing then s else s.ledgMap ch (fun l => { l with due := l.due || l.staged ≠ [] }))

end Sys2Proof.Machine
end

