-- ==== Sys2Proof/Machine/SeqOps.lean ====
section
/-!
DEFINITION. What the microwords share: the fetch, conditions, flags, special selectors, the engine queue, halting and
completing (04_sequencers.md R111 to R131, R137, R483, R484).
-/

namespace Sys2Proof.Machine

/-- Word index in SRAM region 6 of address `a` of the store of channel `n` (14 R408). -/
def storeWord (n a : Nat) : Nat := n / 8 * 16384 + a % 16384

/-- The word the context of channel `n` fetches. -/
def State.fetched (s : State) (n : Nat) : Nat := (s.peek 6 (storeWord n (s.ch n).ctx.pc)).toNat

/-- Is the word at the context's PC uncorrectable (R115)? -/
def State.fetchBad (s : State) (n : Nat) : Bool := s.bad 6 (storeWord n (s.ch n).ctx.pc)

/-- Register `i` of a context. -/
def CtxS.reg (c : CtxS) (i : Nat) : Nat := (c.m.getD i 0).toNat

/-- Set register `i`. -/
def CtxS.setReg (c : CtxS) (i v : Nat) : CtxS := { c with m := c.m.set i (BitVec.ofNat 16 v) }

/-- Field d of a word. -/
def wD (w : Nat) : Nat := bits w 22 3

/-- Field a of a word. -/
def wA (w : Nat) : Nat := bits w 19 3

/-- Field b of a word. -/
def wB (w : Nat) : Nat := bits w 16 3

/-- Field imm. -/
def wImm (w : Nat) : Nat := bits w 0 16

/-- Field tgt. -/
def wTgt (w : Nat) : Nat := bits w 0 14

/-- Bit R: the value comes from register a. -/
def wR (w : Nat) : Bool := bit w 23

/-- Opcode of a word. -/
def wOp (w : Nat) : Nat := bits w 26 6

/-- Opcodes of R116. -/
def mwKnown (op : Nat) : Bool :=
  decide (op ≤ 0x0D) || (decide (0x10 ≤ op) && decide (op ≤ 0x15)) || (decide (0x20 ≤ op) && decide (op ≤ 0x28))

/-! ## Completing and halting -/

/-- The context's descriptor completes with a status, and the context has none left. -/
def State.ctxComplete (s : State) (n st : Nat) : State :=
  match (s.ch n).ctx.desc with
  | some d => (s.ctxMap n (fun c => { c with desc := none })).complete n d st (s.ch n).ctx.res
  | none => s

/-- The context halts (R116, R483): the descriptor completes SEQ_HALT, IN_TRAP clears and SEQ_HALT is raised. -/
def State.seqHalt (s : State) (n : Nat) : State :=
  let s := s.ctxMap n (fun c => { c with run := .halted, inTrap := false, touch := false, wdog := none, brk := none, statWait := false, atom := false })
  (s.ctxComplete n 0x30).seqRaise (n / 8) 3

/-- The context goes idle after DONE, PARK or TEND: what its descriptor left pending is dropped (R134), and the wake bits end
(R129). -/
def State.ctxIdle (s : State) (n : Nat) : State :=
  s.ctxMap n (fun c => { c with
    run := .idle, ce := none, wdog := none, brk := none, wakeRdy := false, wakeSusp := false, statWait := false, atom := false, atomOvr := false })

/-- The routine ends with a status: half-words 0 and 1 hold the status byte, the detail and the suspend count (05 R153). -/
def State.opFinish (s : State) (n : Nat) (d : Desc) (st detail h2 h3 : Nat) : State :=
  let res := s.stdRes n d detail h2 h3
  ((s.ctxMap n (fun c => { c with res := res })).ctxComplete n st).ctxIdle n

/-- The word at `n`'s PC has executed: PC := PC + 1, or a halt at 0x3FFF (R121). -/
def State.seqStep (s : State) (n : Nat) : State :=
  if (s.ch n).ctx.pc = 0x3FFF then s.seqHalt n else s.ctxMap n (fun c => { c with pc := c.pc + 1 })

/-- A branch taken. -/
def State.seqJump (s : State) (n t : Nat) : State := s.ctxMap n (fun c => { c with pc := t % 16384 })

/-- Run the microword with opcode `op` of channel `n` when its context runs and stands at such a word; `f` is its action,
which moves the PC itself. The word is noted as fetched, and its A bit says whether it lies in an atomic region
(R115, R130, R131). -/
def State.seqRun (s : State) (n op : Nat) (f : State → Nat → State) : State :=
  let c := (s.ch n).ctx
  if c.run ≠ .run ∨ c.statWait ∨ s.fetchBad n then s
  else
    let w := s.fetched n
    if wOp w ≠ op then s
    else
      let s := s.note 6 (storeWord n c.pc) 0
      f (s.ctxMap n (fun c => { c with atom := bit w 25 && !c.atomOvr, atomOvr := c.atomOvr && bit w 25 })) w

/-! ## Flags -/

/-- Z and N of a 16-bit result, and C (R484). -/
def CtxS.flags (c : CtxS) (r : Nat) (cy : Bool) : CtxS :=
  { c with z := r % 65536 = 0, n := bit r 15, c := cy }

/-- Result and C of an ALU function (R116, R484); `none` for functions 9 to 15. -/
def aluOp (fn a b : Nat) : Option (Nat × Bool) :=
  match fn with
  | 0 => some ((a + b) % 65536, decide (65536 ≤ a + b))
  | 1 => some ((a + 65536 - b) % 65536, decide (a < b))
  | 2 => some (a &&& b, false)
  | 3 => some (a ||| b, false)
  | 4 => some (a ^^^ b, false)
  | 5 => some (a * 2 ^ (b % 16) % 65536, if b % 16 = 0 then false else bit a (16 - b % 16))
  | 6 => some (a / 2 ^ (b % 16), if b % 16 = 0 then false else bit a (b % 16 - 1))
  | 7 => some (a, false)
  | 8 => some ((a + 65536 - b) % 65536, decide (a < b))
  | _ => none

/-- Execute an ALU word: CMP writes no register (R116). -/
def State.aluRun (s : State) (n w : Nat) : State :=
  let c := (s.ch n).ctx
  match aluOp (bits w 0 4) (c.reg (wA w)) (c.reg (wB w)) with
  | none => s.seqStep n
  | some (r, cy) =>
    (s.ctxMap n (fun c => if bits w 0 4 = 8 then c.flags r cy else (c.setReg (wD w) r).flags r cy)).seqStep n

/-! ## Conditions and selectors -/

/-- LUN of the current descriptor. -/
def State.ctxLun (s : State) (n : Nat) : Nat := ((s.ch n).ctx.desc.map Desc.lun).getD 0

/-- Tile address of seal tile `j` of a channel (13 R389). -/
def State.sealTaddr (s : State) (n j : Nat) : Nat :=
  taddrOf n (s.sealLun n) (s.get R.PWR_SEAL_AREA_BLK) (s.get R.PWR_SEAL_AREA_PAGE + j)

/-- Does the context run its seal routine (13 R388)? -/
def CtxS.inSeal (c : CtxS) : Bool := c.inTrap && c.cause = 0

/-- The tile-buffer place and the tile address that a routine's words take: those of its descriptor, and in the seal routine
those of the seal tile whose turn it is (R117; 13 R388, R389; log entry 52). -/
def State.ctxTile (s : State) (n : Nat) : Nat × Nat :=
  let c := (s.ch n).ctx
  if c.inSeal then ((s.ch n).sealS.tiles.headD 0, s.sealTaddr n (s.ch n).sealS.page)
  else match c.desc with
    | some d => (d.place, d.taddr)
    | none => (0, 0)

/-- The place of the routine's tile. -/
def State.ctxPlace (s : State) (n : Nat) : PlaceS := s.place n (s.ctxTile n).1

/-- The tile address of a routine's words. -/
def State.ctxAddr (s : State) (n : Nat) : Nat := (s.ctxTile n).2

/-- `ERS_CFG.MAXSUS` is reached on a LUN. -/
def State.susMax (s : State) (n l : Nat) : Bool := decide (s.get (R.CH_ERS_CFG_MAXSUS n) ≤ (s.lun n l).susCnt)

/-- Condition bit `i` of the context of channel `n` (R120). -/
def State.cond (s : State) (n i : Nat) : Bool :=
  let c := (s.ch n).ctx
  let e := (s.ch n).eng
  match i with
  | 0 => true
  | 1 => c.z
  | 2 => c.n
  | 3 => c.c
  | 4 => c.lc0 = 0
  | 5 => c.lc1 = 0
  | 6 => c.t0 = 0
  | 7 => c.t1 = 0
  | 8 => c.status.getLsbD 0
  | 9 => c.status.getLsbD 1
  | 10 => c.status.getLsbD 2
  | 11 => c.status.getLsbD 5
  | 12 => c.status.getLsbD 6
  | 13 => c.status.getLsbD 7
  | 14 => e.burst = .none
  | 15 => e.preMiss
  | 16 => e.refused
  | 17 => s.ledgSafe n
  | 18 => s.permit (n / 8)
  | 19 => s.permit 6
  | 20 => s.permit 8
  | 21 => s.permit 11
  | 22 => s.ang.st = .coasting
  | 23 => s.sealApplies
  | 24 => c.wakeRdy
  | 25 => c.wakeSusp
  | 26 => s.susMax n (s.ctxLun n)
  | 27 => let v := s.ctxPlace n; decide (4 ≤ v.sent) || v.planeReady v.sent (s.ctxAddr n)
  | 28 => (s.ctxPlace n).fullReady (s.ctxAddr n)
  | 29 => c.inTrap
  | 30 => bit (s.get (R.SEQG_USER_USER0 (n / 8))) (n % 8)
  | 31 => bit (s.get (R.SEQG_USER_USER1 (n / 8))) (n % 8)
  | _ => false

/-- Half-word `k` of a frame's eight words (R135). -/
def FrameS.word (f : FrameS) (i : Nat) : Nat :=
  let pair (k : Nat) := (f.m.getD k 0).toNat + (f.m.getD (k + 1) 0).toNat * 65536
  match i with
  | 0 => f.cause * 2 ^ 30 + f.entry * 2 ^ 22 + b2n f.idle * 2 ^ 21 + f.ce * 2 ^ 18 + b2n f.cev * 2 ^ 17 + b2n f.c * 2 ^ 16 +
      b2n f.n * 2 ^ 15 + b2n f.z * 2 ^ 14 + f.pc
  | 1 => pair 0
  | 2 => pair 2
  | 3 => pair 4
  | 4 => pair 6
  | 5 => f.lc0 + f.lc1 * 65536
  | 6 => f.t0
  | 7 => f.lat * 65536
  | _ => 0

/-- Bitmap of the channel's parked LUNs. -/
def State.parkedMap (s : State) (n : Nat) : Nat :=
  (List.range 16).foldl (fun m l => if (s.lun n l).park.isSome then m + 2 ^ l else m) 0

/-- What LDS reads from a selector (R119). -/
def State.ldsRead (s : State) (n sel : Nat) : Nat :=
  let c := (s.ch n).ctx
  let d := c.desc
  if sel < 0x20 then (d.map (fun x => x.half sel)).getD 0
  else if sel = 0x20 then c.status.toNat
  else if sel = 0x21 then s.ctxLun n
  else if sel = 0x22 then (d.map (fun x => x.place % 8)).getD 0
  else if sel = 0x23 then (d.map (fun x => x.dbuf)).getD 0
  else if sel = 0x24 then n
  else if sel = 0x25 then
    (if (d.map Desc.tlc).getD false then s.get (R.CH_PFX_TLC n) + (1 - s.get (R.CH_PFX_TLC_PFX_EN n)) * 32768
     else s.get (R.CH_PFX_SLC n) + (1 - s.get (R.CH_PFX_SLC_PFX_EN n)) * 32768)
  else if sel = 0x26 then (if c.inTrap then c.frame.cause * 16384 + c.frame.entry else 0)
  else if sel = 0x27 then s.parkedMap n
  else if sel = 0x28 then (s.lun n (s.ctxLun n)).susCnt
  else if 0x30 ≤ sel ∧ sel < 0x40 then (if c.inTrap then bits (c.frame.word ((sel - 0x30) / 2)) (16 * (sel % 2)) 16 else 0)
  else if 0x60 ≤ sel ∧ sel < 0x80 then tget (fun _ => 0) (s.ch n).eng.timing (sel - 0x60) % 65536
  else 0

/-- What STS writes to a selector (R119). -/
def CtxS.stsWrite (c : CtxS) (sel v : Nat) : CtxS :=
  if 0x40 ≤ sel ∧ sel < 0x44 then { c with res := c.res.set (sel - 0x40) (BitVec.ofNat 16 v) }
  else if 0x80 ≤ sel ∧ sel < 0xA0 then { c with stage := tput (fun _ => 0) c.stage (sel - 0x80) (BitVec.ofNat 16 v) }
  else c

/-! ## The engine queue -/

/-- Is the cycle engine's queue full (R116)? -/
def State.engFull (s : State) (n : Nat) : Bool := decide (16 ≤ (s.ch n).eng.queue.length)

/-- Queue an entry; after a refusal everything up to the next CE entry is discarded at once (R127). A trap routine that
queues an entry while the frame's chip enable is selected, other than SUSP, RSUM and STAT, has touched it (R137). -/
def State.engPush (s : State) (n : Nat) (e : EngE) : State :=
  let c := (s.ch n).ctx
  let isLun : Bool := match e with
    | .susp _ => true
    | .rsum _ => true
    | .stat _ => true
    | _ => false
  let touch := c.inTrap && !isLun && c.frame.cev && c.ce = some c.frame.ce
  let s := if touch then s.ctxMap n (fun c => { c with touch := true }) else s
  match e with
  | .ce _ => s.engMap n (fun g => { g with queue := g.queue ++ [e], discard := false })
  | _ => if (s.ch n).eng.discard then s else s.engMap n (fun g => { g with queue := g.queue ++ [e] })

/-- The context of channel `n` parks its descriptor: a record for its LUN with a continuation and a class, and the context
becomes free (R128). The first PARK after a poll has answered the SUSP is the suspended wait (05 R170). -/
def State.parkAt (s : State) (n : Nat) (d : Desc) (cont cls : Nat) : State :=
  let c := (s.ch n).ctx
  let age := (s.ch n).nextAge
  let s := s.lunMap n d.lun (fun l => { l with
    park := some { cont := cont, m := c.m.take 4, cls := cls, desc := d, age := age }
    suspended := l.suspended || (l.susp && l.suspOk)
    reads := if l.suspended then l.reads else 0 })
  let s := s.chMap n (fun x => { x with nextAge := age + 1 })
  (s.ctxMap n (fun c => { c with desc := none })).ctxIdle n

/-- Does the combined descriptor declare erase suspend (R118)? -/
def State.suspOk (s : State) (n : Nat) : Bool := bit (s.xbyte n 5) 1

end Sys2Proof.Machine
end

