-- ==== Sys2Proof/Machine/Seq.lean ====
section
/-!
DEFINITION. The microwords of a sequencer context (04_sequencers.md R116 to R128, R136, R137, R483, R484).
A microword that is not the one at the context's PC, or whose stall condition holds, leaves the state unchanged (log entry 1).
-/

namespace Sys2Proof.Machine

/-- NOP. -/
def execMwNop (ch : Fin 48) (s : State) : Out := .next (s.seqRun ch 0x00 (fun s _ => s.seqStep ch))

/-- JMP: PC := tgt. -/
def execMwJmp (ch : Fin 48) (s : State) : Out := .next (s.seqRun ch 0x01 (fun s w => s.seqJump ch (wTgt w)))

/-- BR: a branch when the condition has the polarity. -/
def execMwBr (ch : Fin 48) (s : State) : Out :=
  .next (s.seqRun ch 0x02 (fun s w => if s.cond ch (bits w 20 5) = bit w 19 then s.seqJump ch (wTgt w) else s.seqStep ch))

/-- CALL: m7 := PC + 1; PC := tgt (R123). -/
def execMwCall (ch : Fin 48) (s : State) : Out :=
  .next (s.seqRun ch 0x03 (fun s w => (s.ctxMap ch (fun c => c.setReg 7 (c.pc + 1))).seqJump ch (wTgt w)))

/-- RET: PC := m7[13:0]. -/
def execMwRet (ch : Fin 48) (s : State) : Out :=
  .next (s.seqRun ch 0x04 (fun s _ => s.seqJump ch ((s.ch ch).ctx.reg 7)))

/-- The packed condition bits of a DISPATCH (R122): the lowest four bits the mask selects. -/
def State.dispatchBits (s : State) (n byte mask : Nat) : Nat :=
  let sel := ((List.range 8).filter (bit mask)).take 4
  (List.range sel.length).foldl (fun v i => if s.cond n (8 * byte + sel.getD i 0) then v + 2 ^ i else v) 0

/-- DISPATCH (R122). -/
def execMwDispatch (ch : Fin 48) (s : State) : Out :=
  .next (s.seqRun ch 0x05 (fun s w =>
    s.seqJump ch (bits w 4 10 * 16 ||| s.dispatchBits ch (bits w 23 2) (bits w 15 8))))

/-- LOOP. -/
def execMwLoop (ch : Fin 48) (s : State) : Out :=
  .next (s.seqRun ch 0x06 (fun s w =>
    let k := bit w 24
    let c := (s.ch ch).ctx
    let lc := if k then c.lc1 else c.lc0
    let lc' := lc - 1
    let s := s.ctxMap ch (fun c => if k then { c with lc1 := lc' } else { c with lc0 := lc' })
    if lc' ≠ 0 then s.seqJump ch (wTgt w) else s.seqStep ch))

/-- WAITC: it holds its place while neither the condition nor the timer lets it end; a context that waits for LEDG_SAFE in a
seal makes the flush due (13 R398). -/
def execMwWaitc (ch : Fin 48) (s : State) : Out :=
  .next (s.seqRun ch 0x07 (fun s w =>
    let met := s.cond ch (bits w 20 5) = bit w 19
    let c := (s.ch ch).ctx
    let exp : Bool := bit w 17 && (if bit w 18 then c.t1 = 0 else c.t0 = 0)
    if met then (s.ctxMap ch (fun c => { c with z := false })).seqStep ch
    else if exp then (s.ctxMap ch (fun c => { c with z := true })).seqStep ch
    else if bits w 20 5 = 17 ∧ (s.ch ch).sealing then s.ledgMap ch (fun l => { l with due := l.due || l.staged ≠ [] })
    else s))

/-- TSET: Tk := value × 16^scale. -/
def execMwTset (ch : Fin 48) (s : State) : Out :=
  .next (s.seqRun ch 0x08 (fun s w =>
    let v := (if wR w then (s.ch ch).ctx.reg (wA w) else wImm w) * 16 ^ bits w 16 2
    (s.ctxMap ch (fun c => if bit w 18 then { c with t1 := v } else { c with t0 := v })).seqStep ch))

/-- PARK (R128): a park record for the LUN, unless it has one or the context is in a trap (R483). The first PARK after a
poll has answered the SUSP is the suspended wait (05 R170). -/
def execMwPark (ch : Fin 48) (s : State) : Out :=
  .next (s.seqRun ch 0x09 (fun s w =>
    let c := (s.ch ch).ctx
    match c.desc with
    | none => s.seqHalt ch
    | some d =>
      if c.inTrap ∨ (s.lun ch d.lun).park.isSome then s.seqHalt ch
      else s.parkAt ch d (wTgt w) (bits w 23 2)))

/-- The status of DONE and TEND. -/
def State.doneCode (s : State) (n w : Nat) : Nat := if bit w 8 then (s.ch n).ctx.reg (wA w) % 256 else bits w 0 8

/-- DONE: the descriptor completes (R116); in a trap it halts (R483). It holds its place while the engine queue is not empty. -/
def execMwDone (ch : Fin 48) (s : State) : Out :=
  .next (s.seqRun ch 0x0A (fun s w =>
    if (s.ch ch).eng.queue ≠ [] then s
    else if (s.ch ch).ctx.inTrap then s.seqHalt ch
    else (s.ctxComplete ch (s.doneCode ch w)).ctxIdle ch))

/-- Reselect the chip enable of a frame (R136). -/
def State.reselect (s : State) (n : Nat) (f : FrameS) : State :=
  if f.cev then s.engPush n (.ce (some f.ce)) else s

/-- TRET (R136, R137, R483). -/
def execMwTret (ch : Fin 48) (s : State) : Out :=
  .next (s.seqRun ch 0x0B (fun s _ =>
    let c := (s.ch ch).ctx
    if (s.ch ch).eng.queue ≠ [] then s
    else if !c.inTrap ∨ c.frame.idle ∨ c.touch then s.seqHalt ch
    else
      let f := c.frame
      let s := s.ctxMap ch (fun c => { c with
        pc := f.pc, m := f.m, lc0 := f.lc0, lc1 := f.lc1, z := f.z, n := f.n, c := f.c, inTrap := false,
        ce := if f.cev then some f.ce else none, ceLast := f.ce })
      s.reselect ch f))

/-- HALT. -/
def execMwHalt (ch : Fin 48) (s : State) : Out := .next (s.seqRun ch 0x0D (fun s _ => s.seqHalt ch))

/-- ILLEGAL_OPCODE: an opcode outside the table halts the context (R116). -/
def execIllegalOpcode (ch : Fin 48) (s : State) : Out :=
  .next (if mwKnown (wOp (s.fetched ch)) then s else s.seqRun ch (wOp (s.fetched ch)) (fun s _ => s.seqHalt ch))

/-- MOVI: d := imm. -/
def execMwMovi (ch : Fin 48) (s : State) : Out :=
  .next (s.seqRun ch 0x10 (fun s w => (s.ctxMap ch (fun c => c.setReg (wD w) (wImm w))).seqStep ch))

/-- ADDI: d := (d + imm) mod 2^16, with flags (R484). -/
def execMwAddi (ch : Fin 48) (s : State) : Out :=
  .next (s.seqRun ch 0x11 (fun s w =>
    let v := (s.ch ch).ctx.reg (wD w) + wImm w
    (s.ctxMap ch (fun c => (c.setReg (wD w) v).flags (v % 65536) (decide (65536 ≤ v)))).seqStep ch))

/-- Run an ALU word whose function is `fn`. -/
def State.aluIf (s : State) (n fn : Nat) : State :=
  s.seqRun n 0x12 (fun s w => s.aluRun n w) |> fun t => if bits (s.fetched n) 0 4 = fn then t else s

/-- ALU ADD. -/
def execMwAdd (ch : Fin 48) (s : State) : Out := .next (s.aluIf ch 0)

/-- ALU SUB. -/
def execMwSub (ch : Fin 48) (s : State) : Out := .next (s.aluIf ch 1)

/-- ALU AND. -/
def execMwAnd (ch : Fin 48) (s : State) : Out := .next (s.aluIf ch 2)

/-- ALU OR. -/
def execMwOr (ch : Fin 48) (s : State) : Out := .next (s.aluIf ch 3)

/-- ALU XOR. -/
def execMwXor (ch : Fin 48) (s : State) : Out := .next (s.aluIf ch 4)

/-- ALU SHL. -/
def execMwShl (ch : Fin 48) (s : State) : Out := .next (s.aluIf ch 5)

/-- ALU SHR. -/
def execMwShr (ch : Fin 48) (s : State) : Out := .next (s.aluIf ch 6)

/-- ALU MOV; functions 9 to 15 act as NOP (R116) and run here too. -/
def execMwMov (ch : Fin 48) (s : State) : Out :=
  .next (if 9 ≤ bits (s.fetched ch) 0 4 then s.seqRun ch 0x12 (fun s _ => s.seqStep ch) else s.aluIf ch 7)

/-- ALU CMP: SUB without writing d. -/
def execMwCmp (ch : Fin 48) (s : State) : Out := .next (s.aluIf ch 8)

/-- LDLC: LCk := value. -/
def execMwLdlc (ch : Fin 48) (s : State) : Out :=
  .next (s.seqRun ch 0x13 (fun s w =>
    let v := if wR w then (s.ch ch).ctx.reg (wA w) else wImm w
    (s.ctxMap ch (fun c => if bit w 24 then { c with lc1 := v } else { c with lc0 := v })).seqStep ch))

/-- LDS: d := special source. -/
def execMwLds (ch : Fin 48) (s : State) : Out :=
  .next (s.seqRun ch 0x14 (fun s w =>
    let v := s.ldsRead ch (bits w 0 12)
    (s.ctxMap ch (fun c => c.setReg (wD w) v)).seqStep ch))

/-- STS: special destination := a. -/
def execMwSts (ch : Fin 48) (s : State) : Out :=
  .next (s.seqRun ch 0x15 (fun s w => (s.ctxMap ch (fun c => c.stsWrite (bits w 0 12) (c.reg (wA w)))).seqStep ch))

/-- CE: queue a selection, or a deselection. -/
def execMwCe (ch : Fin 48) (s : State) : Out :=
  .next (s.seqRun ch 0x20 (fun s w =>
    if s.engFull ch then s
    else
      let c : Option Nat := if bit w 3 then none else some (if wR w then (s.ch ch).ctx.reg (wA w) % 8 else bits w 0 3)
      (((s.engPush ch (.ce c)).engMap ch (fun e => { e with refused := false })).ctxMap ch
        (fun x => { x with ce := c, ceLast := c.getD x.ceLast })).seqStep ch))

/-- CMD: queue one command cycle; with R = 1 and a[15] = 1 nothing. -/
def execMwCmd (ch : Fin 48) (s : State) : Out :=
  .next (s.seqRun ch 0x21 (fun s w =>
    if s.engFull ch then s
    else
      let a := (s.ch ch).ctx.reg (wA w)
      if wR w ∧ bit a 15 then s.seqStep ch
      else (s.engPush ch (.cmd (if wR w then a % 256 else bits w 0 8))).seqStep ch))

/-- Two column bytes, low first (R126). -/
def colCycles (v : Nat) : List Nat := [v % 256, v / 256 % 256]

/-- ADDR: queue address cycles in one of four forms (R126). -/
def execMwAddr (ch : Fin 48) (s : State) : Out :=
  .next (s.seqRun ch 0x22 (fun s w =>
    if s.engFull ch then s
    else
      let c := (s.ch ch).ctx
      let a := c.reg (wA w)
      let plane := if bit w 15 then c.reg (bits w 12 3) % 4 else bits w 16 2
      let t := s.ctxAddr ch
      let lun := taLun t
      let row (page : Nat) : Option (Nat × Nat × Nat) := some (lun, taBlk t, page)
      let e : EngE := match bits w 23 2 with
        | 0 => .addr [bits w 0 8] none
        | 1 => .addr (colCycles a) none
        | 2 => .addr (s.rowBytes ch t plane (taPage t + a)) (row (taPage t + a))
        | _ => .addr (colCycles a ++ s.rowBytes ch t plane (taPage t)) (row (taPage t))
      (s.engPush ch e).seqStep ch))

/-- Does a DOUT or DIN word hold its place (R116)? Not while its entry would be discarded (R127). -/
def State.burstStall (s : State) (n : Nat) : Bool :=
  !(s.ch n).eng.discard && (s.engFull n || (s.ch n).eng.burst ≠ .none)

/-- Is a burst outside R117? -/
def burstBad (off len : Nat) : Bool := len = 0 || decide (288 < len) || decide (1152 < off + len)

/-- DOUT: queue a write burst; the tile of a PROG is committed with its first one (R117, 08 R257). -/
def execMwDout (ch : Fin 48) (s : State) : Out :=
  .next (s.seqRun ch 0x23 (fun s w =>
    let c := (s.ch ch).ctx
    let off := c.reg (wA w)
    let len := c.reg (wB w)
    if s.burstStall ch then s
    else if burstBad off len then s.seqHalt ch
    else if (s.ch ch).eng.discard then (s.engPush ch (.dout off len)).seqStep ch
    else
      let s := (s.engPush ch (.dout off len)).engMap ch (fun e => { e with burst := .outQueued, bOff := off, bLen := len, bTile := s.ctxTile ch })
      let prog : Bool := c.inSeal || (match c.desc with
        | some d => d.opcode = 1
        | none => false)
      let s := if prog then s.placeMap ch (s.ctxTile ch).1 (fun v => { v with committed := true, sent := v.sent + 1 }) else s
      s.seqStep ch))

/-- DIN: queue a read burst. -/
def execMwDin (ch : Fin 48) (s : State) : Out :=
  .next (s.seqRun ch 0x24 (fun s w =>
    let c := (s.ch ch).ctx
    let off := c.reg (wA w)
    let len := c.reg (wB w)
    if s.burstStall ch then s
    else if burstBad off len then s.seqHalt ch
    else if (s.ch ch).eng.discard then (s.engPush ch (.din off len)).seqStep ch
    else ((s.engPush ch (.din off len)).engMap ch (fun e => { e with burst := .inQueued, bOff := off, bLen := len, bDesc := c.desc })).seqStep ch))

/-- SUSP: queue the erase-suspend sequence, or set Z when the dies declare none (R118). -/
def execMwSusp (ch : Fin 48) (s : State) : Out :=
  .next (s.seqRun ch 0x25 (fun s w =>
    if s.engFull ch then s
    else if !s.suspOk ch then (s.ctxMap ch (fun c => { c with z := true })).seqStep ch
    else ((s.engPush ch (.susp ((s.ch ch).ctx.reg (wA w) % 16))).ctxMap ch (fun c => { c with z := false })).seqStep ch))

/-- RSUM: queue the erase-resume sequence, or set Z (R118). -/
def execMwRsum (ch : Fin 48) (s : State) : Out :=
  .next (s.seqRun ch 0x26 (fun s w =>
    if s.engFull ch then s
    else if !s.suspOk ch then (s.ctxMap ch (fun c => { c with z := true })).seqStep ch
    else ((s.engPush ch (.rsum ((s.ch ch).ctx.reg (wA w) % 16))).ctxMap ch (fun c => { c with z := false })).seqStep ch))

/-- STAT: queue Read Status Enhanced; the word holds its place until the status byte returns, unless its entry is discarded
(R116, R127). -/
def execMwStat (ch : Fin 48) (s : State) : Out :=
  .next (s.seqRun ch 0x27 (fun s w =>
    if (s.ch ch).eng.discard then s.seqStep ch
    else if s.engFull ch then s
    else (s.engPush ch (.stat ((s.ch ch).ctx.reg (wA w) % 16))).ctxMap ch (fun c => { c with statWait := true })))

end Sys2Proof.Machine
end

