-- ==== Sys2Proof/Machine/SealOps.lean ====
section
/-!
DEFINITION. Encoding the tile of a place, and the seal of a channel: what it takes over, records and ends
(06_codeword.md R187 to R193; 13_power_holdup.md R388 to R393; 05_channel_operations.md R167, R175).
-/

namespace Sys2Proof.Machine

/-! ## Encoding -/

/-- Codeword `k` of the tile in a place, encoded for address `t`: its info bytes scrambled, then 512 parity bytes
(06 R187 to R190). -/
def State.encodedCw (s : State) (n p k t : Nat) : List Byte :=
  let info := scramble t k (s.tbGet n p (k * 4608) 4096)
  info ++ ldpcParity info

/-- Encode codeword `k` of a place (06 R192). -/
def State.encodeCw (s : State) (n p k t : Nat) : State :=
  ((s.bufRead 0 (n * 73728 + p * 9216 + k * 576) 512).tbPut n p (k * 4608) (s.encodedCw n p k t)).placeMap n p (fun v => { v with enc := v.enc ||| 2 ^ k, encAddr := t })

/-- Take the keystream out of the encoded codewords of a place, so that none is encoded. -/
def State.unscramble (s : State) (n p : Nat) : State :=
  let v := s.place n p
  let s := ((List.range 16).filter (bit v.enc)).foldl (fun s k =>
    s.tbPut n p (k * 4608) (scramble v.encAddr k (s.tbGet n p (k * 4608) 4096))) s
  s.placeMap n p (fun v => { v with enc := 0, encAddr := unmapped })

/-- Are all info bytes of codeword `k` of a place there? The last needs the trailer (06 R192). -/
def PlaceS.cwLanded (v : PlaceS) (k : Nat) : Bool := v.whole || (decide (4096 * (k + 1) ≤ v.got) && decide (k < 15))

/-- Set FLAGS.SEAL in the trailer of a place and recompute its CRC (13 R389). -/
def State.sealTrailer (s : State) (n p : Nat) : State :=
  let fl := (s.place n p).flags ||| 32
  let s := s.placeMap n p (fun v => { v with flags := fl })
  let head := s.infoGet n p 65472 60
  s.trailerPut n p (head.take 2 ++ leBytes 2 fl ++ head.drop 4)

/-! ## Write protection -/

/-- `FLn_WP_N` follows WP_OPEN and the channel's seal (05 R175), in the Grave state the seal alone (02 R84), unless the slice keeps it
after a warm reset (02 R79). -/
def State.wpUpdate (s : State) (n : Nat) : State :=
  let lv := (s.flag (R.CH_CTRL_WP_OPEN n) && !s.grave) || (s.ch n).sealing
  s.chMap n (fun c => if c.wpHeld then c else { c with wp := lv })

/-! ## What the seal takes over -/

/-- Does a program of the place run in its die, confirmed, so that the seal lets it finish (13 R388)? Not in an open wordline. -/
def State.confirmed (s : State) (n p : Nat) : Bool :=
  let mine (l : Nat) (d : Desc) : Bool := d.opcode = 1 && d.place = p && d.lun = l
  (List.range 16).any (fun l => (s.lun n l).op = .program && (s.lun n l).wl.isNone &&
    ((s.lun n l).park.any (fun k => mine l k.desc) || (s.ch n).ctx.desc.any (mine l)))

/-- Class of a place among the seal tiles (13 R389): 1 parity, 2 abandoned program, 3 whole without PROG, 4 cut by the seal. -/
def State.sealClass (s : State) (n p : Nat) : Option Nat :=
  let v := s.place n p
  if !v.used ∨ !v.whole ∨ v.kind = .almanac ∨ v.reserved.isSome ∨ s.confirmed n p then none
  else if v.kind = .parity then some 1
  else if v.issued then some 2
  else if v.sealCut then some 4
  else some 3

/-- Insert a place in the order of class, then TIME, then claim. -/
def sealInsert (x : Nat × Nat × Nat × Nat) : List (Nat × Nat × Nat × Nat) → List (Nat × Nat × Nat × Nat)
  | [] => [x]
  | y :: ys =>
    if x.1 < y.1 ∨ (x.1 = y.1 ∧ (x.2.1 < y.2.1 ∨ (x.2.1 = y.2.1 ∧ x.2.2.1 < y.2.2.1))) then x :: y :: ys else y :: sealInsert x ys

/-- The candidate places of a channel in seal order (13 R389). -/
def State.sealPlaces (s : State) (n : Nat) : List Nat :=
  let xs := (List.range 8).filterMap (fun p => (s.sealClass n p).map (fun c => (c, (s.place n p).time, (s.place n p).claim, p)))
  (xs.foldl (fun l x => sealInsert x l) []).map (fun x => x.2.2.2)

/-- `SEAL_CFG.MAXT`, at most 8 (13 R407). -/
def State.sealMax (s : State) : Nat := min 8 (s.get R.PWR_SEAL_CFG_MAXT)

/-- Does the seal address a LUN: it exists, and its target has committed trims (03 R103)? -/
def State.sealAddr (s : State) (n l : Nat) : Bool :=
  (s.gen.lun2 || decide (l < 8)) && bit (s.get (R.CH_PHY_STAT_CE_TRAINED n)) (l % 8)

/-- Seal tiles that fit: MAXT of them, below the SLC pages of a block set (13 R389). -/
def State.sealRoom (s : State) (n : Nat) : Nat :=
  if !s.sealAddr n (s.sealLun n) then 0
  else
  let pages := match (s.ch n).phy.geo with
    | some g => g.slcPages
    | none => 0
  min s.sealMax (pages - s.get R.PWR_SEAL_AREA_PAGE)

/-- Hoops that channel `n` records (13 R392). -/
def State.sealHoops (s : State) (n : Nat) : List Nat :=
  (List.range 64).filter (fun h => (s.hoop h).st ≠ .off ∧ (n = h % s.gen.nch ∨ n = (h + s.gen.nch / 2) % s.gen.nch))

/-- Reset LUN (0xFA) is sent to a LUN (03 R90): it is busy until a status read says otherwise (03 R86), no offsets remain, and
its target leaves charter mode. -/
def State.lunReset (s : State) (n l : Nat) : State :=
  let s := s.drive n [.sel (l % 8), .cmd 0xFA, .addr (s.rowBytes n (taddrOf n l 0 0) 0 0)]
  let s := s.engMap n (fun e => { e with charter := e.charter &&& ~~~(1#8 <<< (l % 8)), sel := some (l % 8), last := 0xFA })
  s.lunMap n l (fun x => { x with refSlc := refZero, refTlc := refZero, op := .reset, susp := false, suspOk := false, suspended := false })

/-- An open wordline of a LUN is abandoned (05 R167). -/
def State.wlAbandon (s : State) (n l : Nat) : State :=
  match (s.lun n l).wl with
  | none => s
  | some w => ((s.lunReset n l).wlFail n { opcode := 1, flags := 16, taddr := w.taddr }).chRaise n 9

/-- The programs of a LUN, in the context and in its park record, that the seal has ended complete SEALED (13 R388). -/
def State.sealAbort (s : State) (n l : Nat) : State :=
  let mine (d : Desc) : Bool := d.opcode = 1 && d.lun = l
  let s := match (s.ch n).ctx.desc with
    | some d => if mine d then (s.ctxMap n (fun c => { c with desc := none })).complete n d 0x33 (s.stdRes n d 0 0 0) else s
    | none => s
  match (s.lun n l).park with
  | some p => if mine p.desc then (s.lunMap n l (fun x => { x with park := none })).complete n p.desc 0x33 (s.stdRes n p.desc 0 0 0) else s
  | none => s

/-- The seal brings a LUN to rest (13 R388 steps 2 and 4): an open wordline is abandoned; a running erase is suspended, or reset where the
dies declare no suspend; a program sequence whose final confirm has not been executed is ended with Reset LUN. What else runs in the die
goes on. -/
def State.sealLunQuiet (s : State) (n l : Nat) : State :=
  let x := s.lun n l
  if x.wl.isSome then (s.wlAbandon n l).sealAbort n l
  else match x.op with
  | .erase =>
    if x.susp then s
    else if s.suspOk n then
      (s.drive n [.sel (l % 8), .cmd (s.xbyte n 8)]).lunMap n l (fun y => { y with susp := true, suspOk := false, susCnt := y.susCnt + 1 })
    else
      let s := s.lunReset n l
      if l = s.sealLun n then (s.count 5 0).chMap n (fun c => { c with sealS := { c.sealS with late := true } }) else s
  | .unconfirmed => (s.lunReset n l).sealAbort n l
  | _ => s

/-- Step 4 of the seal routine (13 R388): the other LUNs are brought to rest, once. -/
def State.sealOthers (s : State) (n : Nat) : State :=
  if !(s.ch n).sealS.quiet then s
  else
    let s := s.chMap n (fun c => { c with sealS := { c.sealS with quiet := false } })
    ((List.range 16).filter (fun l => decide (l ≠ s.sealLun n) && s.sealAddr n l)).foldl (fun s l => s.sealLunQuiet n l) s

/-- A place becomes seal tile `j` of its channel: its data are plain again, with FLAGS.SEAL (13 R389). -/
def State.sealTile (s : State) (n p j : Nat) : State :=
  ((s.unscramble n p).sealTrailer n p).placeMap n p (fun v => { v with sealRank := some j, sent := 0 })

/-- Steps 2 and 3 of the seal routine (13 R388), once the bursts and entries queued before the trap have run (step 1; 04 R138): the seal
tiles are chosen (R389) and the seal LUN is brought to rest. The other LUNs follow behind the confirm of the first seal program, or at once
when there is none (step 4; log entry 52). -/
def State.sealGo (s : State) (n : Nat) : State :=
  let c := s.ch n
  if !(c.sealing && c.sealS.wait && c.eng.queue = [] && c.eng.burst = .none) then s
  else
    let s := s.chMap n (fun c => { c with sealS := { c.sealS with wait := false } })
    let all := s.sealPlaces n
    let ps := all.take (s.sealRoom n)
    let s := if s.sealAddr n (s.sealLun n) then s.sealLunQuiet n (s.sealLun n) else s
    let s := s.chMap n (fun c => { c with sealS := { c.sealS with tiles := ps, lost := all.length - ps.length, quiet := true } })
    let s := (List.range ps.length).foldl (fun s j => s.sealTile n (ps.getD j 0) j) s
    if ps = [] then s.sealOthers n else s

/-- A channel takes its seal (13 R388, R392). -/
def State.sealBegin (s : State) (n : Nat) : State :=
  (s.chMap n (fun c => { c with sealS := { time := s.pwr.sealT0, hoops := s.sealHoops n, wait := true } })).sealGo n

/-- A parity tile that is copied while its channel's seal runs (06 R211) joins the seal tiles, behind those chosen before it
(log entry 45). -/
def State.sealJoin (s : State) (n p : Nat) : State :=
  let x := (s.ch n).sealS
  if !(s.ch n).sealing ∨ x.wait then s
  else
    let j := x.page + x.tiles.length
    if j < s.sealRoom n then
      (s.chMap n (fun c => { c with sealS := { c.sealS with tiles := c.sealS.tiles ++ [p] } })).sealTile n p j
    else s.chMap n (fun c => { c with sealS := { c.sealS with lost := c.sealS.lost + 1 } })

/-! ## Entries of the seal -/

/-- Body of SEAL_BEGIN (13 R397). -/
def State.sealBeginBody (s : State) (n : Nat) : Nat :=
  bodyOf (leBytes 8 (s.ch n).sealS.time ++ leBytes 1 s.pwr.sealCause ++ leBytes 1 s.sealMax ++ leBytes 2 (s.get R.PWR_SEAL_AREA_PAGE) ++
    leBytes 2 (s.get R.PWR_SEAL_AREA_BLK))

/-- Body of SEAL_TILE for the place `p`, seal tile `j`. -/
def State.sealTileBody (s : State) (n p j : Nat) : Nat :=
  let v := s.place n p
  bodyOf (leBytes 4 (s.sealTaddr n j) ++ leBytes 4 v.tileno ++ leBytes 8 v.serial ++ leBytes 4 v.taddr ++ leBytes 4 v.len ++
    leBytes 2 v.stream ++ leBytes 1 v.thoop ++ leBytes 1 0 ++ leBytes 2 v.flags)

/-- Body of HOOP_STATE for hoop `h`. -/
def State.hoopStateBody (s : State) (h : Nat) : Nat :=
  bodyOf (leBytes 8 (s.hget h 0x40 8) ++ leBytes 8 (s.hget h 0x48 8) ++ leBytes 8 (s.hget h 0x50 8) ++ leBytes 8 (s.hget h 0x70 8) ++
    leBytes 4 (s.hget h 0x58 4) ++ leBytes 4 (s.hget h 0x5C 4) ++ leBytes 2 (s.hget h 0x60 2) ++ leBytes 1 h ++ leBytes 1 (s.hoop h).st.code)

/-- Body of SEAL_END. -/
def State.sealEndBody (s : State) (n : Nat) : Nat :=
  let x := (s.ch n).sealS
  bodyOf (leBytes 1 x.done ++ leBytes 1 (x.lost + x.tiles.length) ++ leBytes 1 x.recorded)

/-- The turn of the channel's seal tile has ended: the next tile takes the next page (13 R388). -/
def SealS.turn (x : SealS) : SealS := { x with tiles := x.tiles.drop 1, page := x.page + 1, progd := false }

/-- A command byte of the seal routine (13 R388): 0x10 confirms the program of the tile whose turn it is; a new program that begins
with 0x80 before that tile was recorded finds it failed or refused, and abandons it. -/
def SealS.command (x : SealS) (b : Nat) : SealS :=
  if b = 0x10 then { x with progd := true }
  else if b = 0x80 ∧ x.progd then { x.turn with lost := x.lost + min 1 x.tiles.length }
  else x

/-- Does the seal routine of a channel drive its own entries: those queued before it have run (04 R138)? -/
def State.sealDrives (s : State) (n : Nat) : Bool := (s.ch n).ctx.inSeal && !(s.ch n).sealS.wait

/-- A command byte of channel `n`, and what it means to a seal routine that runs there: behind the confirm of its first program the other
LUNs are brought to rest (13 R388 step 4). -/
def State.sealCommand (s : State) (n b : Nat) : State :=
  if s.sealDrives n then
    let s := s.chMap n (fun c => { c with sealS := c.sealS.command b })
    if b = 0x10 then s.sealOthers n else s
  else s

/-- An address of the seal routine is refused: the tile's program has ended (13 R388). -/
def State.sealRefused (s : State) (n : Nat) : State :=
  if s.sealDrives n then s.chMap n (fun c => { c with sealS := { c.sealS with progd := true } }) else s

/-- Append an entry of the seal's kinds 4 to 7 (13 R388 steps 5 and 6, R390, R398). -/
def State.ledgSeal (s : State) (n kind : Nat) : State :=
  let x := (s.ch n).sealS
  if kind = 4 then s.ledgAppend n 4 (b2n x.late * 2) (s.sealBeginBody n)
  else if kind = 5 then
    match x.tiles with
    | [] => s.ledgAppend n 5 0 0
    | p :: _ =>
      let v := s.place n p
      let s := s.ledgAppend n 5 0 (s.sealTileBody n p x.page)
      let s := s.chMap n (fun c => { c with sealS := { c.sealS.turn with done := x.done + 1 } })
      let r : TileRec := ⟨v.tileno, unmapped, v.stream, 3, v.flags % 256, v.serial⟩
      if v.kind ≠ .parity ∧ v.stream < 4096 ∧ s.powered 0 then (s.cmplSeen [r]).passRecords [] ([r].filter s.cmplAsks) else s
  else if kind = 6 then
    match x.hoops with
    | [] => s.ledgAppend n 6 0 0
    | h :: hs => ((s.ctxSeen (hctx h + 0x40) 13).ledgAppend n 6 0 (s.hoopStateBody h)).chMap n (fun c => { c with sealS := { c.sealS with hoops := hs, recorded := x.recorded + 1 } })
  else s.ledgAppend n 7 0 (s.sealEndBody n)

/-! ## End of the seal -/

/-- When every channel has ended its seal, SEAL_RUN falls (13 R389, R393). -/
def State.sealDone (s : State) : State :=
  if s.flag R.PWR_STATUS_SEAL_RUN ∧ s.pwr.sealing = [] then
    let s := ((s.set R.PWR_STATUS_SEAL_RUN 0).set R.PWR_STATUS_SEAL_DONE 1).bump R.PWR_SEAL_CNT_CNT
    let s := s.set R.PWR_SEAL_TIME_CYC (s.cyc - s.pwr.sealT0)
    (s.set R.PWR_SEAL_AREA_PAGE (s.get R.PWR_SEAL_AREA_PAGE + s.sealMax)).raise .pwr 0 7
  else s

/-- A block releases a channel (02 R64). -/
def State.ownRelease (s : State) (n : Nat) : State := s.chMap n (fun c => { c with own := { c.own with req := false, owned := false, want := false } })

/-- The seal of a channel ends with TEND: every descriptor of the channel not yet completed completes SEALED (13 R388 step 7),
the tiles held in its places, sealed or abandoned, leave them (R389), the pin follows WP_OPEN again (05 R175), and in the Grave state a reflection block releases the channel (16 R467). -/
def State.sealEnd (s : State) (n : Nat) : State :=
  let s := s.sealOthers n
  let out (d : Desc) := (d, s.stdRes n d 0 0 0)
  let started := ((s.ch n).slots.filter (fun x => x.started)).map (fun x => out x.desc)
  let queued := ((s.ch n).slots.filter (fun x => !x.started)).map (fun x => out x.desc)
  let reads := (s.ch n).reads.map (fun x => (x.desc, x.res))
  let waits := (s.ch n).wait.map out
  let s := s.chMap n (fun c => { c with slots := [], reads := [], wait := [], sealing := false })
  let s := (List.range 16).foldl (fun s l => s.lunMap n l (fun x => { x with park := none, op := .none })) s
  let s := (started ++ queued ++ reads ++ waits).foldl (fun s d => s.deliver n d.1 0x33 d.2) s
  let s := ((List.range 8).filter (fun p => (s.place n p).used && (s.place n p).whole)).foldl (fun s p => s.releasePlace n p) s
  let s := s.wpUpdate n
  let s : State := { s with pwr := { s.pwr with sealing := s.pwr.sealing.erase n } }
  let s := s.sealDone
  if s.grave ∧ s.gen.refl ∧ s.flag R.REFL_CFG_GRAVE_REL ∧ (s.ch n).eng.sel.isNone then s.ownRelease n else s

end Sys2Proof.Machine
end

