-- ==== Sys2Proof/Machine/SeqTrap.lean ====
section
/-!
DEFINITION. Traps, halts and restarts of a context, the LEDG and TEND microwords, and the timers
(04_sequencers.md R115, R116, R123, R131 to R140, R483; 13_power_holdup.md R398).
-/

namespace Sys2Proof.Machine

/-- LEDG (13 R398): kinds 0 and 3 halt the context; it holds its place while the staging buffer is full. -/
def execMwLedg (ch : Fin 48) (s : State) : Out :=
  .next (s.seqRun ch 0x28 (fun s w =>
    let k := bits w 0 4
    if s.ledgOn ∧ s.ledgFull ch then s
    else if k = 0 ∨ k = 3 then s.seqHalt ch
    else
      let c := (s.ch ch).ctx
      let s :=
        if k = 1 ∨ k = 2 then (match c.desc with
          | some d => s.ledgErase ch (k = 2) d
          | none => s.ledgAppend ch k 0 0)
        else if k < 8 then s.ledgSeal ch k
        else s.ledgAppend ch k 0 (bodyOf ((List.range 22).flatMap (fun i => leBytes 2 (tget (fun _ => 0) c.stage (8 + i)).toNat)))
      s.seqStep ch))

/-- TEND (R116, R134, R483): the trapped routine is abandoned; a SEAL routine ends the channel's seal (13 R388). -/
def execMwTend (ch : Fin 48) (s : State) : Out :=
  .next (s.seqRun ch 0x0C (fun s w =>
    let c := (s.ch ch).ctx
    if (s.ch ch).eng.queue ≠ [] then s
    else if !c.inTrap then s.seqHalt ch
    else
      let st := s.doneCode ch w
      let s := if c.frame.idle then s else s.ctxComplete ch st
      let s := (s.ctxMap ch (fun c => { c with inTrap := false, touch := false })).ctxIdle ch
      -- a WDOG or BREAK that arose with no descriptor there stays pending (R134)
      let s := if c.frame.idle then s.ctxMap ch (fun x => { x with wdog := c.wdog, brk := c.brk }) else s
      if c.cause = 0 then s.sealEnd ch else s))

/-- FETCH_UE (R115): the word at the PC is uncorrectable: the context halts, its descriptor completes SEQ_HALT. -/
def execFetchUe (ch : Fin 48) (s : State) : Out :=
  if (s.ch ch).ctx.run = .run ∧ s.fetchBad ch then
    let g := ch.val / 8
    let s := s.note 6 (storeWord ch (s.ch ch).ctx.pc) 0
    let s := s.ctxMap ch (fun c => { c with run := .halted, inTrap := false, touch := false, wdog := none, brk := none, statWait := false, atom := false })
    .next (((s.ctxComplete ch 0x30).seqRaise g 7).storeCount ch 7)
  else .next s

/-- ATOM_OVR (R131): an atomic region has lasted 48 `scyc`: its later words count as A = 0. -/
def execAtomOvr (ch : Fin 48) (s : State) : Out :=
  if (s.ch ch).ctx.run = .run ∧ (s.ch ch).ctx.atom then
    let g := ch.val / 8
    .next (((s.ctxMap ch (fun c => { c with atom := false, atomOvr := true })).seqRaise g 4).storeCount ch 4)
  else .next s

/-- TIMER_EXPIRE (R123): a timer reaches 0. -/
def execTimerExpire (ch : Fin 48) (k : Fin 2) (s : State) : Out :=
  .next (s.ctxMap ch (fun c => if k = 0 then { c with t0 := 0 } else { c with t1 := 0 }))

/-- WDOG (R132): a descriptor has executed for WDOG_LIM; a halted context drops the cause (R140). DESIGN CHOICE (log entry 89): the event
WDOG is raised when the cause arises. -/
def execWdog (ch : Fin 48) (s : State) : Out :=
  let g := ch.val / 8
  if (s.ch ch).ctx.run = .run ∧ (s.ch ch).ctx.desc.isSome ∧ s.get (R.SEQG_WDOG_LIM_LIM g) ≠ 0 ∧ (s.ch ch).ctx.wdog = none then
    .next ((s.ctxMap ch (fun c => { c with wdog := some s.cyc })).seqRaise g 5)
  else .next s

/-- Effect of a write of `SEQG[g].BREAK` (R132, R140): RESTART makes halted contexts idle, then STOP raises BREAK on those not halted.
DESIGN CHOICE (log entry 89): with both bits of a halted context it is restarted first, and BREAK is then pending on it. -/
def breakWr (g : Nat) (data : Word) (s : State) : State :=
  (List.range 8).foldl (fun s c =>
    let n := 8 * g + c
    let s := if bit data.toNat (8 + c) ∧ (s.ch n).ctx.run = .halted then s.ctxMap n (fun x => { x with run := .idle, ce := none, ceLast := 0 }) else s
    if bit data.toNat c ∧ (s.ch n).ctx.run ≠ .halted then s.ctxMap n (fun x => { x with brk := x.brk <|> some s.cyc }) else s) s

/-- BREAK (R132). -/
def execSeqBreak (grp : Fin 6) (mask : BitVec 8) (s : State) : Out :=
  .next (s.cpWr (R.SEQG_BREAK_STOP grp).addr 0xF#4 (BitVec.ofNat 32 mask.toNat) (breakWr grp (BitVec.ofNat 32 mask.toNat)))

/-- RESTART (R140). -/
def execRestart (grp : Fin 6) (mask : BitVec 8) (s : State) : Out :=
  .next (s.cpWr (R.SEQG_BREAK_STOP grp).addr 0xF#4 (BitVec.ofNat 32 (mask.toNat * 256)) (breakWr grp (BitVec.ofNat 32 (mask.toNat * 256))))

/-- The highest pending cause with the time it arose (R132). -/
def CtxS.pendCause (c : CtxS) : Option (Nat × Nat) :=
  match c.sealP, c.wdog, c.brk with
  | some t, _, _ => some (0, t)
  | none, some t, _ => some (1, t)
  | none, none, some t => some (2, t)
  | none, none, none => none

/-- Is the boundary one at which a trap may be taken (R130, R140)? A halted context takes SEAL only, and SEAL is taken only with a verified
vendor image (R147). -/
def State.trapMay (s : State) (n cause : Nat) : Bool :=
  let c := (s.ch n).ctx
  !c.inTrap && (decide (cause ≠ 0) || s.flag (R.SEQG_STATUS_VEND_OK (n / 8))) &&
  (match c.run with
   | .idle => true
   | .halted => cause = 0
   | .run => !(bit (s.fetched n) 25 && !c.atomOvr))

/-- The frame of an interrupted context (R135). -/
def CtxS.trapFrame (c : CtxS) (cause lat : Nat) : FrameS :=
  { cause := cause, entry := (c.desc.map (fun d => d.opcode)).getD 0xFF, idle := c.desc.isNone, ce := c.ceLast, cev := c.ce.isSome
    c := c.c, n := c.n, z := c.z, pc := c.pc, m := c.m, lc0 := c.lc0, lc1 := c.lc1, t0 := c.t0, lat := min 65535 lat }

/-- TRAP_TAKE (R130, R133, R135, R139): the frame is written, IN_TRAP set and PC put at the vector; a SEAL trap begins the
channel's seal (13 R388). DEDUCED (log entry 89): a trap taken while a STAT word waits leaves PC at that word, so that TRET queues the
status read again; a status byte that returns meanwhile ends no word. -/
def execTrapTake (ch : Fin 48) (s : State) : Out :=
  match (s.ch ch).ctx.pendCause with
  | none => .next s
  | some (cause, t) =>
    if !s.trapMay ch cause then .next s
    else
      let lat := (s.cyc - t) / 2
      let s := s.ctxMap ch (fun c => { c with
        frame := c.trapFrame cause lat
        run := .run, inTrap := true, cause := cause, touch := false, pc := 0x40 + cause, statWait := false, atom := false
        sealP := if cause = 0 then none else c.sealP
        wdog := if cause = 1 then none else c.wdog
        brk := if cause = 2 then none else c.brk })
      let s := if cause = 0 ∧ s.get (R.SEQG_SEAL_LAT_LIM_LIM (ch.val / 8)) < lat then (s.seqRaise (ch.val / 8) 6).storeCount ch 6 else s
      .next (if cause = 0 then s.sealBegin ch else s)

end Sys2Proof.Machine
end

