-- ==== Sys2Proof/Machine/Engine.lean ====
section
/-!
DEFINITION. The cycle engine of a channel: selections, command cycles, checked addresses, bursts, status bytes and the poller
(04_sequencers.md R117, R118, R124 to R127; 05_channel_operations.md R169, R173, R180).
-/

namespace Sys2Proof.Machine

/-- Change the queue, taking the head away. -/
def State.engPop (s : State) (n : Nat) : State := s.engMap n (fun e => { e with queue := e.queue.drop 1 })

/-- Discard the queued entries up to the next CE entry: a burst among them counts as done, a STAT ends its stall (R127). -/
def State.engDrop (s : State) (n : Nat) : State :=
  let q := (s.ch n).eng.queue
  let isCe (e : EngE) : Bool := match e with
    | .ce _ => true
    | _ => false
  let dropped := q.takeWhile (fun e => !isCe e)
  let rest := q.dropWhile (fun e => !isCe e)
  let burst := dropped.any (fun e => match e with
    | .dout _ _ => true
    | .din _ _ => true
    | _ => false)
  let stat := dropped.any (fun e => match e with
    | .stat _ => true
    | _ => false)
  let s := s.engMap n (fun e => { e with queue := rest, discard := rest = [], burst := if burst then .none else e.burst })
  if stat ∧ (s.ch n).ctx.statWait then (s.ctxMap n (fun c => { c with statWait := false })).seqStep n else s

/-- May the cycle engine take its next entry: the slice carries traffic and no burst runs (R124; 02 R62; 03 R89)? -/
def State.engMay (s : State) (n : Nat) : Bool :=
  s.busMay n && ((s.ch n).eng.burst = .none || (s.ch n).eng.burst = .outQueued || (s.ch n).eng.burst = .inQueued)

/-- Refuse an address or a command entry (R127, 05 R173, R180). -/
def State.engRefuse (s : State) (n t reason : Nat) : State :=
  let e := (s.ch n).eng
  ((((s.drive n [.desel]).recordRefusal n t (e.sel.getD 0) e.last reason).engDrop n).sealRefused n)

/-- ENGINE_CE (R124): the head CE entry selects or deselects. -/
def execEngineCe (ch : Fin 48) (s : State) : Out :=
  if !s.engMay ch then .next s
  else match (s.ch ch).eng.queue with
  | .ce c :: _ =>
    .next ((((s.engPop ch).engMap ch (fun e => { e with sel := c, last := 0, row := none })).drive ch
      [match c with
       | some i => .sel i
       | none => .desel]).sealGo ch)
  | _ => .next s

/-- Command bytes a target in charter mode takes (05 R180). -/
def charterCmds : List Nat := [0x00, 0x05, 0x06, 0x30, 0xE0, 0x70, 0x78, 0xEE, 0xEF, 0xFF, 0xFA]

/-- What a driven command byte starts in the array of the LUN addressed last (05 R166, R169; 07 R218). -/
def State.cmdEffect (s : State) (n b : Nat) : State :=
  match (s.ch n).eng.row with
  | none => s
  | some (l, blk, _) =>
    if b = 0x10 then s.lunMap n l (fun x => { x with op := .program })
    else if b = 0xD0 then
      (s.lunMap n l (fun x => { x with op := .erase, run0 := some s.cyc, susCnt := 0, susp := false, suspOk := false, suspended := false })).sampleErase n
        (taddrOf n l blk 0)
    else if b = 0x30 then s.lunMap n l (fun x => if x.op = .erase then x else { x with op := .read })
    else s

/-- The first command of a level-0 routine opens the TLC wordline of its LUN (05 R166). -/
def State.wlOpen (s : State) (n : Nat) : State :=
  match (s.ch n).ctx.desc with
  | some d =>
    if d.opcode = 1 ∧ d.tlc ∧ d.level = 0 ∧ !(s.ch n).ctx.inTrap ∧ (s.ch n).eng.sel = some (d.lun % 8) ∧ (s.lun n d.lun).wl.isNone then
      s.lunMap n d.lun (fun x => { x with wl := some ⟨d.taddr, []⟩ })
    else s
  | none => s

/-- The sequence of SUSP, RSUM and STAT on the bus: selection, command byte, row of the LUN, and the selection before it
(R118). -/
def State.lunSeq (s : State) (n l b : Nat) (row : Bool) : State :=
  s.drive n ([.sel (l % 8), .cmd b] ++ (if row then [.addr (s.rowBytes n (taddrOf n l 0 0) 0 0)] else []) ++
    [match (s.ch n).eng.sel with
     | some c => .sel c
     | none => .desel])

/-- Does a command byte begin an array command, while a rate change bars those (03 R89)? A program whose opening has been sent goes on. -/
def State.arrayBar (s : State) (n b : Nat) : Bool :=
  s.rateHold n && decide (b ∈ [0x00, 0x80, 0x60]) && !(match (s.ch n).ctx.desc with
    | some d => decide ((s.lun n d.lun).op = .unconfirmed)
    | none => false)

/-- ENGINE_COMMAND (R118, R124, 05 R180): the head command entry, or a suspend, resume or status sequence. -/
def execEngineCommand (ch : Fin 48) (s : State) : Out :=
  if !s.engMay ch then .next s
  else match (s.ch ch).eng.queue with
  | .cmd b :: _ =>
    if s.arrayBar ch b then .next s
    else
    let s := s.engPop ch
    let c := (s.ch ch).eng.sel
    let inCharter : Bool := match c with
      | some i => (s.ch ch).eng.charter.getLsbD i
      | none => false
    if inCharter ∧ b ∉ charterCmds then
      let l := c.getD 0
      .next (((s.engMap ch (fun e => { e with last := b })).engRefuse ch (taddrOf ch l 0 0) 3).sealGo ch)
    else
      let s := ((s.drive ch [.cmd b]).engMap ch (fun e => { e with last := b })).wlOpen ch
      let s := if b = 0xFF then (match c with
        | some i => ([i, i + 8].foldl (fun s l => s.lunMap ch l (fun x => { x with refSlc := refZero, refTlc := refZero, op := .reset })) s).engMap ch
            (fun e => { e with charter := e.charter &&& ~~~(1#8 <<< i) })
        | none => s)
      else s.cmdEffect ch b
      .next ((s.sealCommand ch b).sealGo ch)
  | .susp l :: _ =>
    .next ((((s.engPop ch).lunSeq ch l (s.xbyte ch 8) s.gen.lun2).lunMap ch l
      (fun x => { x with susCnt := x.susCnt + 1, susp := true, suspOk := false })).sealGo ch)
  | .rsum l :: _ =>
    .next ((((s.engPop ch).lunSeq ch l (s.xbyte ch 9) s.gen.lun2).lunMap ch l
      (fun x => { x with run0 := some s.cyc, susp := false, suspOk := false, suspended := false, reads := 0 })).sealGo ch)
  | .stat l :: _ => .next (((s.engPop ch).lunSeq ch l 0x78 true).sealGo ch)
  | _ => .next s

/-- Is the last command byte one whose row addresses are checked (R127)? -/
def State.guardCmd (s : State) (n b : Nat) : Bool :=
  let g := s.get (R.SEQG_GUARD_CMD_BYTES (n / 8))
  (List.range 4).any (fun i => bits g (8 * i) 8 = b)

/-- What an address that was driven does: charter entry, Reset LUN, the opening of a program sequence (05 R180). -/
def State.addrEffect (s : State) (n : Nat) (bytes : List Nat) : State :=
  let e := (s.ch n).eng
  if e.last = 0xEF ∧ s.flag (R.CH_CHARTER_EN n) ∧ bytes = [s.get (R.CH_CHARTER_FEAT n)] then
    match e.sel with
    | some c => s.engMap n (fun e => { e with charter := e.charter ||| (1#8 <<< c) })
    | none => s
  else
    match e.row with
    | none => s
    | some (l, _, _) =>
      if e.last = 0xFA then
        (s.engMap n (fun e => { e with charter := e.charter &&& ~~~(1#8 <<< (l % 8)) })).lunMap n l
          (fun x => { x with refSlc := refZero, refTlc := refZero, op := .reset, susp := false, suspOk := false, suspended := false })
      else if e.last = 0x80 then
        s.lunMap n l (fun x => { x with op := .unconfirmed })
      else s

/-- ENGINE_ADDRESS (R126, R127, 05 R173): the head address entry is checked and driven, or refused. -/
def execEngineAddress (ch : Fin 48) (s : State) : Out :=
  if !s.engMay ch then .next s
  else match (s.ch ch).eng.queue with
  | .addr bytes row :: _ =>
    let s := s.engPop ch
    match row with
    | none => .next (((s.drive ch [.addr bytes]).addrEffect ch bytes).sealGo ch)
    | some (l, blk, pg) =>
      let t := taddrOf ch l blk pg
      let checked := s.guardCmd ch (s.ch ch).eng.last
      let why := if checked then s.refuseReason ch t (s.ch ch).sealing else none
      let s := if checked then s.refuseNote ch t (s.ch ch).sealing else s
      match why with
      | some r => .next ((s.engRefuse ch t r).sealGo ch)
      | none => .next ((((s.drive ch [.addr bytes]).engMap ch (fun e => { e with row := row })).addrEffect ch bytes).sealGo ch)
  | _ => .next s

/-- Are the planes that a write burst takes bytes from encoded (R117)? -/
def PlaceS.burstReady (v : PlaceS) (off len t : Nat) : Bool :=
  v.planeReady (off / 288) t && v.planeReady ((off + len - 1) / 288) t

/-- BURST_START (R117): the head burst starts; a write burst only when what it sends is encoded. -/
def execBurstStart (ch : Fin 48) (s : State) : Out :=
  if !s.engMay ch then .next s
  else match (s.ch ch).eng.queue with
  | .dout off len :: _ =>
    let (p, t) := (s.ch ch).eng.bTile
    if (s.place ch p).burstReady off len t then
      .next (((s.engPop ch).engMap ch (fun e => { e with burst := .outRunning })).drive ch [.dout (len * 64)])
    else .next s
  | .din _ len :: _ => .next (((s.engPop ch).engMap ch (fun e => { e with burst := .inRunning })).drive ch [.din (len * 64)])
  | _ => .next s

/-- A queued write burst whose plane is not encoded is discarded when the SEAL cause arises, with the entries behind it up
to the next CE entry (R117). -/
def State.sealDrop (s : State) (n : Nat) : State :=
  let isDout (e : EngE) : Bool := match e with
    | .dout _ _ => true
    | _ => false
  let q := (s.ch n).eng.queue
  match q.find? isDout with
  | some (.dout off len) =>
    let (p, t) := (s.ch n).eng.bTile
    if (s.place n p).burstReady off len t then s
    else
      let before := q.takeWhile (fun e => !isDout e)
      let s := (s.engMap n (fun e => { e with queue := e.queue.dropWhile (fun x => !isDout x) })).engDrop n
      s.engMap n (fun e => { e with queue := before ++ e.queue })
  | _ => s

/-- `n` bytes of an operand: missing ones read 0 (log entry 10). -/
def padBytes (n : Nat) (bs : List Byte) : List Byte := bs.take n ++ List.replicate (n - bs.length) 0

/-- Where the last byte range of the `q`-th selected codeword `k` of a read lies in its place (07 R220, R224). -/
def Desc.lastRange (d : Desc) (q k : Nat) : Nat := if d.soft ∨ d.opcode = 5 then (8 + q) * 4608 else k * 4608

/-- Bytes `[off, off + len)` of the place of a read have landed: the codewords whose last range they cover become landed
(06 R195). -/
def State.readLand (s : State) (d : Desc) (off len : Nat) : State :=
  let cws := d.cws
  let xs := ((List.range cws.length).filter (fun q =>
    let a := d.lastRange q (cws.getD q 0)
    decide (off < a + 4608) && decide (a + 4608 ≤ off + len))).map (fun q => (⟨d, cws.getD q 0⟩ : DLand))
  { s with dec := { s.dec with landed := s.dec.landed ++ xs } }

/-- BURST_DONE (R117, 06 R195): the running burst ends; the data of a read burst that has locked (03 R96) lie in the
decoder-buffer place. -/
def execBurstDone (ch : Fin 48) (data : List Byte) (s : State) : Out :=
  let e := (s.ch ch).eng
  match e.burst with
  | .outRunning => .next ((s.engMap ch (fun e => { e with burst := .none })).sealGo ch)
  | .inLocked =>
    let s := s.engMap ch (fun e => { e with burst := .none })
    let s := match e.bDesc with
     | some d =>
       let s := s.dPut d.dbuf (e.bOff * 64) (padBytes (e.bLen * 64) data)
       if d.decodes then s.readLand d (e.bOff * 64) (e.bLen * 64) else s
     | none => s
    .next (s.sealGo ch)
  | _ => .next s

/-- STATUS_RETURN (R118): the status byte of a STAT returns, and its word ends. -/
def execStatusReturn (ch : Fin 48) (status : BitVec 8) (s : State) : Out :=
  if (s.ch ch).ctx.statWait then
    .next ((s.ctxMap ch (fun c => { c with status := status, statWait := false })).seqStep ch)
  else .next s

/-- Has a LUN an operation that the poller asks about (03 R86)? -/
def LunS.polled (x : LunS) : Bool := x.park.isSome || (x.op ≠ .none && x.op ≠ .unconfirmed)

/-- Does the vendor routine of channel `n` hold the context for an array read that it has sent to the suspended LUN `l` (05 R170)? -/
def State.readPolls (s : State) (n l : Nat) : Bool :=
  let c := (s.ch n).ctx
  (s.lun n l).suspended && c.run = .run && !c.inTrap && decide (c.reg 3 = 1) &&
  (match c.desc with
   | some d => d.lun = l && (d.reads || d.opcode = 9)
   | none => false)

/-- Can bus cycles that no entry of the cycle engine asks for be driven: the slice carries traffic and the engine has run its entries
(04 R117, R124, R138)? -/
def State.opBus (s : State) (n : Nat) : Bool := s.busMay n && (s.ch n).eng.queue = [] && (s.ch n).eng.burst = .none

/-- LUN_POLL (03 R86, R118): between the entries of the cycle engine, the poller reads the status of a LUN with an operation outstanding; RDY = 1 ends the operation, or
shows that a suspend has taken effect, and makes its park record ready. The routine of a read on a suspended LUN polls it in the same way, and
takes the status byte itself (05 R170). `rb` are the levels of `FLn_RB_N`. -/
def execLunPoll (ch : Fin 48) (lun : Fin 16) (rb : BitVec 4) (status : BitVec 8) (s : State) : Out :=
  let rdy := status.getLsbD 6
  if !s.opBus ch then .next s
  else
  let s := s.phyMap ch (fun p => { p with rb := rb })
  if s.readPolls ch lun then
    let s := (s.lunSeq ch lun 0x78 true).ctxMap ch (fun c => { c with status := status })
    .next (if rdy then s.ctxMap ch (fun c => c.setReg 3 2) else s)
  else if !(s.lun ch lun).polled then .next s
  else .next ((s.lunSeq ch lun 0x78 true).lunMap ch lun (fun x => { x with
    park := x.park.map (fun p => { p with status := status, ready := p.ready || rdy })
    suspOk := x.suspOk || (rdy && x.susp)
    op := if rdy && !x.susp && x.op ≠ .unconfirmed then .none else x.op }))

end Sys2Proof.Machine
end

