-- ==== Sys2Proof/Machine/RegWr.lean ====
section
/-!
DEFINITION. A control-port write of a plain register word, by the access types of its bits (00_scope.md R14 to R17).
-/

namespace Sys2Proof.Machine

/-- Is the page's LOCK bit set (R14)? -/
def State.locked (s : State) (p : Page) (n : Nat) : Bool :=
  match p with
  | .fault => s.flag R.FAULT_CTRL_LOCK
  | .xlink => s.flag R.XLINK_CTRL_LOCK
  | .refl => s.flag R.REFL_CTRL_LOCK
  | .seqg => s.flag (R.SEQG_CTRL_LOCK n)
  | _ => false

/-- The word of row `r` after a write of `data` with byte-enable mask `m` (R14). -/
def RegRow.write (r : RegRow) (old data m : Word) (locked : Bool) : Word :=
  let w : Word := (r.rw ||| (if locked then 0 else r.rwl)) &&& m
  (((old &&& ~~~w) ||| (data &&& w)) &&& ~~~(r.w1c &&& data &&& m)) ||| (r.w1s &&& data &&& m)

/-- A write of `data` to the plain register word at `a` (R14, R15, R17). -/
def State.regMerge (s : State) (a : Nat) (be : BitVec 4) (data : Word) : State :=
  match rowAt a with
  | none => s
  | some (p, n, r) => s.wr a (r.write (s.rd a) data (beMask be) (s.locked p n))

end Sys2Proof.Machine
end

