-- ==== Sys2Proof/Machine/Store.lean ====
section
/-!
DEFINITION. The control stores: writes of their regions, the held write, verification and the group's control register
(04_sequencers.md R112, R141 to R147).
-/

namespace Sys2Proof.Machine

/-- Store and word address of a byte address in the control-store windows (R112). -/
def storeAt (a : Nat) : Option (Nat × Nat) :=
  if 0x80000 ≤ a ∧ a < 0xE0000 then some ((a - 0x80000) / 0x10000, (a - 0x80000) % 0x10000 / 4) else none

/-- Channels of a group. -/
def grpChans (g : Nat) : List Nat := (List.range 8).map (fun c => 8 * g + c)

/-- Has the group a park record? -/
def State.grpParked (s : State) (g : Nat) : Bool :=
  (grpChans g).any (fun n => (List.range 16).any (fun l => (s.lun n l).park.isSome))

/-- Is the customer region in use: a context, not halted, with its PC there, or a park record with its continuation there
(R142)? -/
def State.custUse (s : State) (n : Nat) : Bool :=
  ((s.ch n).ctx.run = .run && decide (0x3000 ≤ (s.ch n).ctx.pc)) ||
  (List.range 16).any (fun l => match (s.lun n l).park with
    | some p => decide (0x3000 ≤ p.cont)
    | none => false)

/-- The version register of a region. -/
def verRef (g region : Nat) : Fld := if region = 0 then R.SEQG_VEND_VER_VERSION g else R.SEQG_CUST_VER_VERSION g

/-- A write reaches a region that is being verified: the verification ends with CRC_FAIL (R146). -/
def State.verifySpoil (s : State) (g region : Nat) : State :=
  if (s.grp g).verify = some region then
    let s := (s.grpMap g (fun x => { x with verify := none })).set (R.SEQG_STATUS_VERIFY_BUSY g) 0
    let s := (s.set (R.SEQG_STATUS_VERIFY_RESULT g) 2).set (verRef g region) 0
    (s.set (if region = 0 then R.SEQG_STATUS_VEND_OK g else R.SEQG_STATUS_CUST_OK g) 0).seqRaise g 0
  else s

/-- A vendor-region write at the store (R141). -/
def vendorWr (g w : Nat) (be : BitVec 4) (data : Word) (s : State) : State :=
  if s.flag (R.SEQG_CTRL_ENABLE g) ∨ (grpChans g).any (fun n => (s.ch n).ctx.run = .run) ∨ s.grpParked g then s.seqRaise g 2
  else ((s.cpSram 6 (g * 16384 + w) be data).set (R.SEQG_STATUS_VEND_OK g) 0).verifySpoil g 0

/-- A customer-region write completes (R143). -/
def State.custStore (s : State) (g w : Nat) (be : BitVec 4) (data : Word) : State :=
  ((s.cpSram 6 (g * 16384 + w) be data).set (R.SEQG_STATUS_CUST_OK g) 0).verifySpoil g 1

/-- A customer-region write at the store: held while the region is in use (R142). -/
def customerWr (g w : Nat) (be : BitVec 4) (data : Word) (s : State) : State :=
  if (grpChans g).any s.custUse then
    ({ s with cp := { s.cp with hold := some ⟨g, w, be, data⟩ } }).set (R.SEQG_STATUS_HOLD_ACTIVE g) 1
  else s.custStore g w be data

/-- A control-port write of a store word (R141, R142). -/
def storeWr (a : Nat) (be : BitVec 4) (data : Word) (s : State) : State :=
  match storeAt a with
  | none => s
  | some (g, w) => if w < 0x3000 then vendorWr g w be data s else customerWr g w be data s

/-- VENDOR_STORE_WRITE (R141). -/
def execVendorStoreWrite (addr : BitVec 24) (be : BitVec 4) (data : Word) (s : State) : Out :=
  match storeAt addr.toNat with
  | some (_, w) => .next (if w < 0x3000 then s.cpWr addr.toNat be data (storeWr addr.toNat be data) else s)
  | none => .next s

/-- CUSTOMER_STORE_WRITE (R142). -/
def execCustomerStoreWrite (addr : BitVec 24) (be : BitVec 4) (data : Word) (s : State) : Out :=
  match storeAt addr.toNat with
  | some (_, w) => .next (if 0x3000 ≤ w then s.cpWr addr.toNat be data (storeWr addr.toNat be data) else s)
  | none => .next s

/-- The hold ends: HOLD_ACTIVE falls and the port is free. -/
def State.holdClear (s : State) (g : Nat) : State :=
  ({ s with cp := { s.cp with hold := none } }).set (R.SEQG_STATUS_HOLD_ACTIVE g) 0

/-- A held customer-region write completes, when the region is free (R142, R143). -/
def State.holdEnd (s : State) : State :=
  match s.cp.hold with
  | none => s
  | some h => if (grpChans h.grp).any s.custUse then s else (s.holdClear h.grp).custStore h.grp h.word h.be h.data

/-- A held customer-region write has lasted HOLD_TO: it is dropped (R143). -/
def State.holdDrop (s : State) : State :=
  match s.cp.hold with
  | none => s
  | some h => (s.holdClear h.grp).seqRaise h.grp 1

/-! ## Verification -/

/-- Effect of a write of `SEQG[g].VERIFY` (R146). -/
def verifyWr (g : Nat) (data : Word) (s : State) : State :=
  if s.flag (R.SEQG_STATUS_VERIFY_BUSY g) then s
  else (s.set (R.SEQG_STATUS_VERIFY_BUSY g) 1).grpMap g (fun x => { x with verify := some (data.toNat % 2) })

/-- VERIFY (R146). -/
def execVerify (grp : Fin 6) (data : Word) (s : State) : Out :=
  .next (s.cpWr (R.SEQG_VERIFY_REGION grp).addr 0xF#4 data (verifyWr grp data))

/-- Header word `i` of a group. -/
def State.hdr (s : State) (g i : Nat) : Nat := s.get (R.SEQG_HDR0_HEADER g i)

/-- Is the header good for a region (R145, R146)? -/
def State.hdrOk (s : State) (g region : Nat) : Bool :=
  let w (i : Nat) := s.hdr g i
  w 0 = 0x43525445 && w 1 % 65536 = region + 256 && bits (w 3) 0 16 = (if region = 0 then 0 else 0x3000) &&
  bits (w 3) 16 16 = (if region = 0 then 12288 else 4096) &&
  crc32 ((List.range 7).flatMap (fun i => leBytes 4 (w i))) = w 7

/-- First word and number of words of a region. -/
def regionWords (region : Nat) : Nat × Nat := if region = 0 then (0, 12288) else (0x3000, 4096)

/-- VERIFY_DONE (R146): the checks in order, the result, and the event. -/
def execVerifyDone (grp : Fin 6) (s : State) : Out :=
  let g := grp.val
  match (s.grp g).verify with
  | none => .next s
  | some region =>
    let (w0, n) := regionWords region
    let s := (s.grpMap g (fun x => { x with verify := none })).set (R.SEQG_STATUS_VERIFY_BUSY g) 0
    let ok := if region = 0 then R.SEQG_STATUS_VEND_OK g else R.SEQG_STATUS_CUST_OK g
    let fin (s : State) (r : Nat) : State :=
      let s := (s.set (R.SEQG_STATUS_VERIFY_RESULT g) r).set ok (b2n (r = 0))
      let s := s.set (verRef g region) (if r = 0 then s.hdr g 2 else 0)
      s.seqRaise g 0
    if !s.hdrOk g region then .next (fin s 1)
    else
      let ws := (List.range n).map (fun i => g * 16384 + w0 + i)
      let read := ws.takeWhile (fun w => !s.bad 6 w)
      let s := s.noteN 6 (g * 16384 + w0) (min n (read.length + 1))
      if read.length < n then .next (fin s 3)
      else
        let crc := crc32 (ws.flatMap (fun w => leBytes 4 (s.peek 6 w).toNat))
        .next (fin (s.set (R.SEQG_CRC_CALC_CRC g) crc) (if crc = s.hdr g 4 then 0 else 2))

/-! ## The group's control register -/

/-- Effect of a write of `SEQG[g].CTRL` (R144, R147, R149): ENABLE := 1 is refused while VEND_OK = 0; LOCK is W1S. -/
def seqgCtrlWr (g : Nat) (be : BitVec 4) (data : Word) (s : State) : State :=
  let a := (R.SEQG_CTRL_ENABLE g).addr
  let old := s.get (R.SEQG_CTRL_ENABLE g)
  let s := s.regMerge a be data
  if s.flag (R.SEQG_CTRL_ENABLE g) ∧ be.getLsbD 0 ∧ !s.flag (R.SEQG_STATUS_VEND_OK g) then
    (s.set (R.SEQG_CTRL_ENABLE g) old).seqRaise g 2
  else s

/-- SEQG_ENABLE (R147). -/
def execSeqgEnable (grp : Fin 6) (data : Word) (s : State) : Out :=
  .next (s.cpWr (R.SEQG_CTRL_ENABLE grp).addr 0xF#4 data (seqgCtrlWr grp 0xF#4 data))

/-- CUST_HOLD (R144): the same register. -/
def execCustHold (grp : Fin 6) (data : Word) (s : State) : Out :=
  .next (s.cpWr (R.SEQG_CTRL_CUST_HOLD grp).addr 0xF#4 data (seqgCtrlWr grp 0xF#4 data))

end Sys2Proof.Machine
end

