-- ==== Sys2Proof/Machine/Sched.lean ====
section
/-!
DEFINITION. The scheduler of a channel: arrival of descriptors, eligibility, picks, wakes and suspend grants, and the limits
on parked LUNs (05_channel_operations.md R151, R156 to R162, R169 to R171; 04_sequencers.md R113, R114, R129, R142 to R144).
-/

namespace Sys2Proof.Machine

/-- CHANNEL_DESCRIPTOR (R151, R156): the oldest descriptor that an origin holds for the channel arrives: it completes at once,
or takes a slot; without one its origin goes on holding it. -/
def execChannelDescriptor (ch : Fin 48) (org : Fin 4) (s : State) : Out :=
  match (s.ch ch).wait.find? (fun d => d.org = org.val) with
  | none => .next s
  | some d =>
    let s1 := s.chMap ch (fun c => { c with wait := c.wait.erase d })
    match s.descCheck ch d with
    | some st => .next (s1.refuseDesc ch d st)
    | none => .next (if s.slotFor ch d then s1.enqueue ch d else s)

/-! ## Starting and waking -/

/-- Word address of the vector of an opcode (04 R113). -/
def vectorOf (op : Nat) : Nat := if op < 0x40 then op else 0x3000 + (op - 0x40)

/-- The context starts a descriptor at its vector with cleared registers (04 R113, R114). -/
def CtxS.start (c : CtxS) (d : Desc) : CtxS :=
  { c with
    run := .run, pc := vectorOf d.opcode, m := List.replicate 8 0, lc0 := 0, lc1 := 0, z := false, n := false, c := false
    desc := some d, ce := none, ceLast := 0, res := [0, 0, 0, 0], wakeRdy := false, wakeSusp := false, statWait := false, atom := false, atomOvr := false }

/-- The context wakes a park record (04 R129); the result half-words are not part of the record (log entry 14). -/
def CtxS.wake (c : CtxS) (p : Park) (rdy : Bool) : CtxS :=
  { c.start p.desc with
    pc := p.cont, m := (p.m ++ List.replicate 8 0).take 8, status := p.status, wakeRdy := rdy, wakeSusp := !rdy }

/-- No chip enable is selected when a routine is entered (04 R114): behind what the engine still has to run. -/
def State.ceOff (s : State) (n : Nat) : State :=
  let e := (s.ch n).eng
  if e.queue = [] ∧ e.burst = .none then
    (if e.sel.isSome then (s.drive n [.desel]).engMap n (fun e => { e with sel := none, last := 0, row := none }) else s)
  else s.engMap n (fun e => { e with queue := e.queue ++ [.ce none] })

/-- A LUN's park record is woken. -/
def State.wakeLun (s : State) (n l : Nat) (p : Park) (rdy : Bool) : State :=
  ((s.lunMap n l (fun x => { x with park := none })).ceOff n).ctxMap n (fun c => c.wake p rdy)

/-- Is an opcode assigned in image series 2.1 (R152)? -/
def Desc.assigned (d : Desc) : Bool := d.customer || (decide (1 ≤ d.opcode) && decide (d.opcode ≤ 0x0D))

/-- Was a park record's wait a read (R162)? -/
def Park.isRead (p : Park) : Bool := p.desc.reads || p.desc.opcode = 0x09 || (p.desc.customer && p.cls = 0)

/-- A head descriptor starts on its LUN (R158). RESET_LUN first completes the LUN's hung record (R162); an urgent read on a
suspended LUN counts there (R170); a read routine fixes the offsets it will apply (07 R217). The routine of an opcode that
is not assigned completes BAD_OPCODE (R152). -/
def State.startHead (s : State) (n : Nat) (d : Desc) : State :=
  let l := d.lun
  let s := s.chMap n (fun c => { c with
    slots := c.slots.map (fun x => if x.desc = d ∧ !x.started then { x with started := true } else x), lastLun := l })
  let s := match (if d.opcode = 0x0C then (s.lun n l).park else none) with
    | some p => (s.lunMap n l (fun x => { x with park := none })).complete n p.desc (if p.isRead then 0x31 else 0x32) (s.stdRes n p.desc 0 0 0)
    | none => s
  let s := if d.reads ∨ d.opcode = 9 then s.noteN 5 (refWord n l 0) 2 else s
  let o := if d.reads ∨ d.opcode = 9 then s.readOffsets n d else []
  let s := s.lunMap n l (fun x => { x with
    ofs := o
    hung := if d.opcode = 0x0C then false else x.hung, reads := if x.suspended ∧ d.cls = .urgent then x.reads + 1 else x.reads })
  let s := (s.ceOff n).ctxMap n (fun c => c.start d)
  if d.assigned then s else s.opFinish n d 0x21 0 0 0

/-! ## Eligibility (R159) -/

/-- The heads of a LUN's die queue: the oldest waiting descriptor of each class (R157, R161). -/
def State.heads (s : State) (n l : Nat) : List Slot :=
  let q := s.queue n l
  [Cls.urgent, .program, .shadow, .erase, .patrol].filterMap (fun c => q.find? (fun x => x.desc.cls = c))

/-- Does the LUN let a descriptor start (R159, R160, R162, R166, R170)? DESIGN CHOICE (log entry 90): a LUN whose RESET_LUN has timed out
takes RESET_LUN only, as one with a hung park record. -/
def State.lunTakes (s : State) (n : Nat) (d : Desc) : Bool :=
  let x := s.lun n d.lun
  if d.opcode = 0x0C then
    (match x.park with
     | none => true
     | some p => p.hung)
  else
    (match x.park with
     | none => !x.hung
     | some _ => x.suspended && d.cls = .urgent) &&
    (match x.wl with
     | none => true
     | some w => d.opcode = 1 && d.tlc && taSet d.taddr = taSet w.taddr && taPage d.taddr / 3 = taPage w.taddr / 3 && d.level = w.loaded.length)

/-- Do the other two levels of a wordline stand directly behind its level 0 in the LUN's queue (R159)? -/
def State.wlBehind (s : State) (n : Nat) (d : Desc) : Bool :=
  match (s.queue n d.lun).filter (fun x => x.desc.cls = .program) with
  | a :: b :: c :: _ => a.desc = d && d.sameWl b.desc && b.desc.level = 1 && d.sameWl c.desc && c.desc.level = 2
  | _ => false

/-- May the group's contexts start work at all: domain powered, ENABLE = 1 (04 R147)? -/
def State.grpRuns (s : State) (n : Nat) : Bool := s.powered (chDom n) && s.flag (R.SEQG_CTRL_ENABLE (n / 8))

/-- Does a training command wait, under the TRAIN permit, for the target of a LUN to drain (03 R103)? -/
def State.trainWaits (s : State) (n l : Nat) : Bool :=
  match (s.ch n).phy.cmd with
  | some c => !c.asked && c.kind ≠ .init && (c.tko || s.permit 9) && c.left.head? = some (l % 8)
  | none => false

/-- Is a head descriptor eligible (R159; 03 R89, R103; 04 R142 to R144 for customer opcodes)? -/
def State.eligible (s : State) (n : Nat) (d : Desc) : Bool :=
  s.grpRuns n && s.flag (R.CH_CTRL_ENABLE n) && !s.flag (R.CH_CTRL_HOLD n) &&
  !s.initRuns n && s.phyRuns n && s.busMay n && !s.rateHold n && !s.trainWaits n d.lun && !s.sealApplies && s.classPermit (n / 8) d.cls && s.lunTakes n d &&
  (if d.opcode = 1 then
    (d.cut || (s.place n d.place).fullReady d.taddr) && (!(d.tlc && d.level = 0) || s.wlBehind n d)
   else true) &&
  (if d.customer then
    s.flag (R.SEQG_STATUS_CUST_OK (n / 8)) && !s.flag (R.SEQG_CTRL_CUST_HOLD (n / 8)) && !s.flag (R.SEQG_STATUS_HOLD_ACTIVE (n / 8))
   else true)

/-- Is the context free for a pick: idle, with no trap pending (R158)? -/
def State.ctxFree (s : State) (n : Nat) : Bool := (s.ch n).ctx.run = .idle && (s.ch n).ctx.pendCause.isNone

/-! ## The pick -/

/-- Rank of a park class, highest first: reads, programs, erases. -/
def parkRank (cls : Nat) : Nat := if cls = 0 then 0 else if cls ≤ 2 then 1 else 2

/-- Is the wake of a suspended record withheld for urgent reads (R170)? -/
def State.withheld (s : State) (n l : Nat) : Bool :=
  let x := s.lun n l
  x.suspended && (s.queue n l).any (fun y => y.desc.cls = .urgent ∧ y.desc.opcode ≠ 0x0C) &&
  decide (x.reads < max 1 (s.get (R.CH_ERS_CFG_RDMAX n)))

/-- The park record that is woken ready: of the highest class, then the oldest (R158). A hung record is not woken (R162), and
none in the customer region while a write of it is held (04 R142). -/
def State.readyPark (s : State) (n : Nat) : Option (Nat × Park) :=
  let xs : List (Nat × Park) := (List.range 16).filterMap (fun l =>
    match (s.lun n l).park with
    | some p =>
      if p.ready ∧ !p.hung ∧ !s.withheld n l ∧ !(s.flag (R.SEQG_STATUS_HOLD_ACTIVE (n / 8)) ∧ 0x3000 ≤ p.cont) then some (l, p) else none
    | none => none)
  match xs with
  | [] => none
  | x :: rest => some (rest.foldl (fun m y =>
      if parkRank y.2.cls < parkRank m.2.cls ∨ (parkRank y.2.cls = parkRank m.2.cls ∧ y.2.age < m.2.age) then y else m) x)

/-- Minimum run of an erase in µs (R181). -/
def State.minRun (s : State) (n : Nat) : Nat := min 3200 (max 50 (s.get (R.CH_ERS_CFG_MINRUN n)))

/-- The erase record that is granted a suspend (R169): the oldest. -/
def State.suspGrant (s : State) (n : Nat) : Option (Nat × Park) :=
  let xs : List (Nat × Park) := (List.range 16).filterMap (fun l =>
    let x := s.lun n l
    match x.park, x.run0 with
    | some p, some t =>
      if p.cls = 3 ∧ x.op = .erase ∧ !x.susp ∧ !p.hung ∧ x.susCnt < s.get (R.CH_ERS_CFG_MAXSUS n) ∧ t + s.usCyc (s.minRun n) ≤ s.cyc ∧
          (s.queue n l).any (fun y => y.desc.cls = .urgent ∧ y.desc.opcode ≠ 0x0C) ∧
          !(s.flag (R.SEQG_STATUS_HOLD_ACTIVE (n / 8)) ∧ 0x3000 ≤ p.cont) then some (l, p) else none
    | _, _ => none)
  match xs with
  | [] => none
  | x :: rest => some (rest.foldl (fun m y => if y.2.age < m.2.age then y else m) x)

/-- Rank of a head: an aged one stands directly below urgent read (R161). -/
def Slot.rank (x : Slot) : Nat := if x.aged then 1 else x.desc.cls.rank

/-- The head that is picked: highest rank, then oldest, then the LUN next after the one started last (R158). -/
def State.bestHead (s : State) (n : Nat) : Option Slot :=
  let last := (s.ch n).lastLun
  let xs := ((List.range 16).flatMap (s.heads n)).filter (fun x => s.eligible n x.desc)
  let key (x : Slot) : Nat := (x.rank * 2 ^ 64 + x.age) * 16 + (x.desc.lun + 15 - last) % 16
  match xs with
  | [] => none
  | x :: rest => some (rest.foldl (fun m y => if key y < key m then y else m) x)

/-- SCHEDULER_PICK (R158): a ready record, a suspend grant, or the best eligible head. -/
def execSchedulerPick (ch : Fin 48) (s : State) : Out :=
  if !s.ctxFree ch ∨ !s.grpRuns ch then .next s
  else match s.readyPark ch with
    | some (l, p) => .next (s.wakeLun ch l p true)
    | none => match s.suspGrant ch with
      | some (l, p) => .next (s.wakeLun ch l p false)
      | none => match s.bestHead ch with
        | some x => .next (s.startHead ch x.desc)
        | none => .next s

/-- CUSTOMER_OPCODE (R152; 04 R143): the oldest waiting customer descriptor completes NO_ROUTINE while the region is not
verified, else the context enters its routine, when it is the pick. -/
def execOpCustomerOpcode (ch : Fin 48) (s : State) : Out :=
  match (s.ch ch).slots.find? (fun x => x.desc.customer ∧ !x.started) with
  | none => .next s
  | some x =>
    if !s.flag (R.SEQG_STATUS_CUST_OK (ch.val / 8)) then
      .next ((s.chMap ch (fun c => { c with slots := c.slots.erase x })).complete ch x.desc 0x23 (s.stdRes ch x.desc 0 0 0))
    else if s.ctxFree ch ∧ (s.readyPark ch).isNone ∧ (s.suspGrant ch).isNone ∧ s.bestHead ch = some x then .next (s.startHead ch x.desc)
    else .next s

/-! ## Limits -/

/-- HEAD_AGED (R161): the eligible shadow, erase or patrol head of a LUN has waited AGE µs; AGE = 0 disables it. -/
def execHeadAged (ch : Fin 48) (lun : Fin 16) (s : State) : Out :=
  if s.get (R.CH_QCFG_AGE ch) = 0 then .next s
  else match (s.heads ch lun).find? (fun x => x.desc.cls.rank ≥ 3 ∧ !x.aged ∧ s.eligible ch x.desc) with
    | none => .next s
    | some x => .next (s.chMap ch (fun c => { c with slots := c.slots.map (fun y => if y = x then { y with aged := true } else y) }))

/-- LUN_HUNG (R162): a park record has been polled busy for twice the maximum time. -/
def execLunHung (ch : Fin 48) (lun : Fin 16) (s : State) : Out :=
  match (s.lun ch lun).park with
  | some p =>
    if p.ready ∨ p.hung ∨ p.desc.opcode = 0x0C then .next s
    else .next (((s.lunMap ch lun (fun x => { x with park := some { p with hung := true } })).chRaise ch 8).arrayCount ch 8 lun)
  | none => .next s

/-- RESET_LUN_TIMEOUT (R162): the LUN of a RESET_LUN has not reported ready for 10 ms. -/
def execResetLunTimeout (ch : Fin 48) (lun : Fin 16) (s : State) : Out :=
  match (s.lun ch lun).park with
  | some p =>
    if p.ready ∨ p.desc.opcode ≠ 0x0C then .next s
    else
      let res := s.stdRes ch p.desc 0 0 0
      let s := s.lunMap ch lun (fun x => { x with park := none, hung := true })
      .next (((s.complete ch p.desc 0x31 res).chRaise ch 8).arrayCount ch 8 lun)
  | none => .next s

/-- SUSP_SLOW (R171): the die has not reported ready within SUS_TO of the SUSP; under the seal the LUN is reset and the erase
abandoned, and on the seal LUN the seal is LATE (13 R391). -/
def execSuspSlow (ch : Fin 48) (lun : Fin 16) (s : State) : Out :=
  let x := s.lun ch lun
  if !x.susp ∨ x.suspOk then .next s
  else
    let s1 := (s.chRaise ch 2).arrayCount ch 2 lun
    if !(s.ch ch).sealing then .next s1
    else
      let s2 := s.lunReset ch lun
      .next (if lun.val = s.sealLun ch then (s2.count 5 0).chMap ch (fun c => { c with sealS := { c.sealS with late := true } }) else s2)

end Sys2Proof.Machine
end

