-- ==== Sys2Proof/Machine/OpRows.lean ====
section
/-!
DEFINITION. The routines of the vendor image as whole steps: what each channel opcode drives, parks and completes
(05_channel_operations.md R152, R154, R163 to R170, R178, R180; 07_read_recovery.md R216, R217, R220, R224; 13 R403).
A row acts when the channel's context runs that opcode: at its vector, or at a continuation (log entry 14).
-/

namespace Sys2Proof.Machine

/-! ## Shared parts -/

/-- Run a part of opcode `op`'s routine when the context of channel `n` runs it outside a trap. -/
def State.opRun (s : State) (n op : Nat) (f : State → Desc → State) : State :=
  let c := (s.ch n).ctx
  match c.desc with
  | some d => if c.run = .run ∧ d.opcode = op ∧ !c.inTrap ∧ !c.statWait ∧ s.opBus n then f s d else s
  | none => s

/-- A continuation of the vendor image that the spec does not give: a free address of the vendor region (log entry 14). -/
def State.freeCont (s : State) : Nat × State := let (v, s) := s.freeVal 14; (v % 0x3000, s)

/-- Park at a free continuation. -/
def State.parkFree (s : State) (n : Nat) (d : Desc) (cls : Nat) : State :=
  let (v, s) := s.freeCont
  s.parkAt n d v cls

/-- Set register `i` of the context. -/
def State.setM (s : State) (n i v : Nat) : State := s.ctxMap n (fun c => c.setReg i v)

/-- Register `i` of the context. -/
def State.getM (s : State) (n i : Nat) : Nat := (s.ch n).ctx.reg i

/-- Row and column address cycles at column `col` of a plane of the tile address `t` (04 R126). -/
def State.addr5 (s : State) (n t plane col : Nat) : BusOp := .addr ([col % 256, col / 256] ++ s.rowBytes n t plane (taPage t))

/-- An address or a command of the routine is refused: the target is deselected, and the routine completes REFUSED_ADDR with the
reason in the detail (R173, R180). -/
def State.opRefuse (s : State) (n : Nat) (d : Desc) (t cmd r : Nat) : State :=
  ((s.drive n [.desel]).recordRefusal n t (d.lun % 8) cmd r).opFinish n d 0x20 r 0 0

/-- The cycles before the first command byte that the target, in charter mode, does not take, and that byte (R180). -/
def State.charterStop (s : State) (n c : Nat) (ops : List BusOp) : Option (List BusOp × Nat) :=
  let ok (o : BusOp) : Bool := match o with
    | .cmd b => decide (b ∈ charterCmds)
    | _ => true
  if !(s.ch n).eng.charter.getLsbD c then none
  else match ops.dropWhile ok with
    | .cmd b :: _ => some (ops.takeWhile ok, b)
    | _ => none

/-- The routine drives `ops` on its target, then goes on with `k`; a refused command byte ends it (R180). -/
def State.opDrv (s : State) (n : Nat) (d : Desc) (ops : List BusOp) (k : State → State) : State :=
  let c := d.lun % 8
  match s.charterStop n c ops with
  | some (pre, b) => (s.drive n pre).opRefuse n d (taddrOf n c 0 0) b 3
  | none => k (s.drive n ops)

/-- The routine selects its target and drives `ops`, then goes on with `k`. -/
def State.opSend (s : State) (n : Nat) (d : Desc) (ops : List BusOp) (k : State → State) : State :=
  let c := d.lun % 8
  ((s.drive n [.sel c]).engMap n (fun e => { e with sel := some c, last := 0, row := none, discard := false, refused := false })).opDrv n d ops k

/-- The routine sends the row address `ops` of `t` behind the command byte `cmd`, when the check lets it (04 R127; R173). -/
def State.opRow (s : State) (n : Nat) (d : Desc) (t cmd : Nat) (ops : List BusOp) (k : State → State) : State :=
  let w := (s.ch n).sealing
  let why := if s.guardCmd n cmd then s.refuseReason n t w else none
  let s := if s.guardCmd n cmd then s.refuseNote n t w else s
  match why with
  | some r => s.opRefuse n d t cmd r
  | none => k ((s.drive n ops).engMap n (fun e => { e with last := cmd, row := some (d.lun, taBlk t, taPage t) }))

/-- Read Status Enhanced of a LUN by STAT (04 R118). -/
def State.statOps (s : State) (n l : Nat) : List BusOp :=
  [.sel (l % 8), .cmd 0x78, .addr (s.rowBytes n (taddrOf n l 0 0) 0 0), .sel (l % 8)]

/-! ## PROG (R163, R166, R148 of 04) -/

/-- The last command byte of a program: the intermediate confirm of levels 0 and 1, else 0x10 (R163). -/
def State.progLast (s : State) (n : Nat) (d : Desc) : Nat :=
  if d.tlc && d.level < 2 then s.get (R.CH_PFX_TLC_NEXT n) else 0x10

/-- Plane `p` of a program is opened, its write burst behind it: selection, prefix, 0x80 and address (04 R148). The first
command opens the wordline of a level 0 (R166). -/
def State.progOpen (s : State) (n : Nat) (d : Desc) (p : Nat) (k : State → State) : State :=
  s.opSend n d (s.prefixOps n d.tlc ++ [.cmd 0x80]) (fun s =>
    let s := s.wlOpen n
    s.opRow n d d.taddr 0x80 [s.addr5 n d.taddr p 0] (fun s =>
      let s := s.lunMap n d.lun (fun x => { x with op := .unconfirmed })
      let s := s.placeMap n d.place (fun v => { v with committed := true, sent := p + 1 })
      k ((s.ctxMap n (fun c => { c with pc := 0x0213 })).setM n 4 p)))

/-- The last plane is confirmed: levels 0 and 1 of a wordline wait TLC_BUSY, are polled once and complete, `status` being what
the die reports; others park (R163). -/
def State.progConfirm (s : State) (n : Nat) (d : Desc) (status : BitVec 8) : State :=
  let b := s.progLast n d
  let s := (s.drive n [.cmd b]).engMap n (fun e => { e with last := b })
  if d.tlc && d.level < 2 then
    let s := (s.drive n (s.statOps n d.lun)).ctxMap n (fun c => { c with status := status })
    if status.getLsbD 0 then (s.lunReset n d.lun).opFinish n d 0x10 0 0 0 else s.opFinish n d 0x01 0 0 0
  else (s.lunMap n d.lun (fun x => { x with op := .program })).parkAt n d 0x0218 (if d.tlc then 2 else 1)

/-- The routine of an SLC or level-2 program parks behind its last plane (04 R148): the write burst, and the confirm behind it, wait in the
cycle engine until the plane is encoded (04 R117). -/
def State.progPark (s : State) (n : Nat) (d : Desc) : State :=
  (s.engMap n (fun e => { e with
    queue := e.queue ++ [.dout 864 288, .cmd (s.progLast n d)], burst := .outQueued, bOff := 864, bLen := 288
    bTile := (d.place, d.taddr) })).parkAt n d 0x0218 (if d.tlc then 2 else 1)

/-- The last `k` planes of a program, the first of them opened: each burst goes once its plane is encoded (04 R117), then the
confirm and the next plane. The context runs on until the last plane has been opened. -/
def State.progGo (n : Nat) (d : Desc) (status : BitVec 8) : Nat → State → State
  | 0, s => s
  | k + 1, s =>
    if !(s.place n d.place).planeReady (3 - k) d.taddr then (if k = 0 ∧ !(d.tlc && d.level < 2) then s.progPark n d else s)
    else
      let s := s.drive n [.dout 18432]
      if k = 0 then s.progConfirm n d status
      else (s.drive n [.cmd 0x11]).progOpen n d (4 - k) (State.progGo n d status k)

/-- PROG (R163): a tile over four planes. With CUT = 1 plane 0 is opened as the routine starts, and each burst waits for its
plane (04 R148). -/
def execOpProg (ch : Fin 48) (status : BitVec 8) (s : State) : Out :=
  .next (s.opRun ch 0x01 (fun s d =>
    let c := (s.ch ch).ctx
    if c.pc = 0x0218 then s.opFinish ch d (if c.status.getLsbD 0 then 0x10 else 0) 0 0 0
    else if c.pc = 0x0213 then State.progGo ch d status (4 - c.reg 4) s
    else if s.rateHold ch ∨ !s.permit (ch.val / 8) ∨ (!d.cut ∧ !(s.place ch d.place).fullReady d.taddr) then s
    else s.progOpen ch d 0 (State.progGo ch d status 4)))

/-! ## ERASE (R164, R169, R170) -/

/-- The last `k` planes of an erase, and its park (04 R148's listing; R163). -/
def State.erasePlanes (n : Nat) (d : Desc) (t : Nat) : Nat → State → State
  | 0, s =>
    let s := (s.sampleErase n t).engMap n (fun e => { e with last := 0xD0 })
    (s.lunMap n d.lun (fun x => { x with
      op := .erase, run0 := some s.cyc, susCnt := 0, susp := false, suspOk := false, suspended := false })).parkAt n d 0x0330 3
  | k + 1, s =>
    s.opSend n d (s.prefixOps n d.tlc ++ [.cmd 0x60]) (fun s =>
      s.opRow n d t 0x60 [.addr (s.rowBytes n t (3 - k) 0)] (fun s =>
        State.erasePlanes n d t k (s.drive n (if k = 0 then [.cmd 0xD0] else .cmd 0xD1 :: s.statOps n d.lun))))

/-- The erase is sent once its intent is durable (R164). -/
def State.eraseGo (s : State) (n : Nat) (d : Desc) : State :=
  if s.rateHold n ∨ !s.ledgSafe n then s.ctxMap n (fun c => { c with pc := 0x0304 })
  else State.erasePlanes n d (taSet d.taddr * 2048) 4 s

/-- The erase's done entry and its end (R164). -/
def State.eraseDone (s : State) (n : Nat) (d : Desc) : State :=
  if s.ledgSafe n then s.opFinish n d 0 0 0 0 else s.ctxMap n (fun c => { c with pc := 0x0352 })

/-- ERASE (R164): intent, four planes, park; suspend, suspended wait and resume; done entry. -/
def execOpErase (ch : Fin 48) (s : State) : Out :=
  .next (s.opRun ch 0x02 (fun s d =>
    let c := (s.ch ch).ctx
    if c.pc = 0x0330 then
      (if c.wakeSusp then
        -- SUSP queues nothing where the dies declare no suspend (04 R118)
        (if s.suspOk ch then
          (s.lunSeq ch d.lun (s.xbyte ch 8) s.gen.lun2).lunMap ch d.lun (fun x => { x with susCnt := x.susCnt + 1, susp := true, suspOk := false })
         else s).parkAt ch d 0x0344 0
       else if c.status.getLsbD 0 then s.opFinish ch d 0x11 0 0 0
       else if s.ledgOn ∧ s.ledgFull ch then s
       else (s.ledgErase ch true d).eraseDone ch d)
    else if c.pc = 0x0344 then s.parkAt ch d 0x0345 3
    else if c.pc = 0x0345 then
      (if s.suspOk ch then
        (s.lunSeq ch d.lun (s.xbyte ch 9) s.gen.lun2).lunMap ch d.lun
          (fun x => { x with run0 := some s.cyc, susp := false, suspOk := false, suspended := false, reads := 0 })
       else s).parkAt ch d 0x0330 3
    else if c.pc = 0x0352 then s.eraseDone ch d
    else if c.pc = 0x0304 then s.eraseGo ch d
    else if !s.permit 6 ∨ (s.ledgOn ∧ s.ledgFull ch) then s
    else (s.ledgErase ch false d).eraseGo ch d))

/-! ## Reads -/

/-- Send the offsets of a pass where they differ from what the LUN last received (07 R216). -/
def State.refSend (s : State) (n : Nat) (d : Desc) (o : List Int) (k : State → State) : State :=
  if !s.refTakes d.tlc ∨ (s.lun n d.lun).refSent d.tlc = .known o then k s
  else
    s.opSend n d ((s.refFeatures d.tlc o).flatMap (fun x => [BusOp.cmd 0xD5, .addr [d.lun / 8, x.1], .data x.2]))
      (fun s => k (s.lunMap n d.lun (fun x => x.refNote d.tlc (.known o))))

/-- The array read of page `t` over the planes, the last one confirmed with 0x30 (R163). -/
def State.readPlanes (n : Nat) (d : Desc) (t : Nat) (k : State → State) : List Nat → State → State
  | [], s => k s
  | p :: ps, s =>
    s.opSend n d (s.prefixOps n d.tlc ++ [.cmd 0x00]) (fun s =>
      s.opRow n d t 0x00 [s.addr5 n t p 0] (fun s =>
        let b := if ps = [] then 0x30 else 0x32
        s.opDrv n d [.cmd b] (fun s => State.readPlanes n d t k ps (s.engMap n (fun e => { e with last := b })))))

/-- A multi-plane read of page `t` with the offsets of pass `i` (R163): the LUN parks, or on a suspended LUN the routine polls it, holding
the context (R170). Register m3 of the routine says that the array read has been sent (log entry 14). After a rate change it waits (03 R89). -/
def State.readSend (s : State) (n : Nat) (d : Desc) (t : Nat) (planes : List Nat) (i : Nat) : State :=
  if s.rateHold n then s
  else s.refSend n d ((s.lun n d.lun).ofs.getD i []) (fun s =>
    State.readPlanes n d t (fun s =>
      let s := s.setM n 3 1
      if (s.lun n d.lun).suspended then s
      else (s.lunMap n d.lun (fun x => { x with op := .read })).parkFree n d 0) planes s)

/-- Has the array read that a routine has sent ended (03 R86)? Its record's wake says so, or, on a suspended LUN, a poll of the LUN by the
routine (R170), which leaves 2 in m3. -/
def State.readReady (s : State) (n : Nat) (d : Desc) : Bool := s.getM n 3 = 2 || !(s.lun n d.lun).suspended

/-- One data output: Change Read Column Enhanced and its burst (R163). -/
def State.outCmd (s : State) (n : Nat) (d : Desc) (t plane col len : Nat) (k : State → State) : State :=
  (s.drive n [.cmd 0x06]).opRow n d t 0x06 [s.addr5 n t plane col] (fun s => k (s.drive n [.cmd 0xE0, .din len]))

/-- A data output with its preambles missed: one miss is counted and the output reissued once; a second one ends the read
with PHY_ERR (03 R97). A burst that locks is tracked (03 R98). -/
def State.burstOut (s : State) (n : Nat) (d : Desc) (t plane col len : Nat) (b : DieBurst) (bad good : State → State) : State :=
  let miss := b.miss.val
  let flag (b : Bool) (s : State) : State := s.engMap n (fun e => { e with preMiss := b })
  s.outCmd n d t plane col len (fun s =>
    if miss = 0 then good ((flag false s).trackNote n d.lun b.lanes)
    else (s.preMissed n d.lun).outCmd n d t plane col len (fun s =>
      if miss = 1 then good ((flag false s).trackNote n d.lun b.lanes) else bad (flag true (s.preMissed n d.lun))))

/-- One chunk of data output: place offset, bytes, plane, column. -/
abbrev Chunk := Nat × Nat × Nat × Nat

/-- The read ends with PHY_ERR (03 R97). -/
def State.phyErr (n : Nat) (d : Desc) (s : State) : State := s.opFinish n d 0x40 0 0 0

/-- Data output of chunks into the place of a read, burst after burst (R163), then `k`. A codeword of a decoded read has landed with its last
bytes (06 R195). -/
def State.readOut (n : Nat) (d : Desc) (t : Nat) (bad k : State → State) : List Chunk → List DieBurst → State → State
  | [], _, s => k s
  | (off, len, p, col) :: cs, bs, s =>
    let b := bs.headD ⟨0, [], []⟩
    s.burstOut n d t p col len b bad (fun s =>
      let s := s.dPut d.dbuf off (padBytes len b.bytes)
      State.readOut n d t bad k cs (bs.drop 1) (if d.decodes then s.readLand d off len else s))

/-- Chunks of pass `k` of a decoded read: whole planes for a tile, codewords for READ_CW, strobes at their places
(07 R220, R224). -/
def Desc.chunks (d : Desc) (k : Nat) : List Chunk :=
  let cws := d.cws
  if d.opcode = 3 ∨ d.opcode = 6 then [0, 1, 2, 3].map (fun p => (p * 18432, 18432, p, 0))
  else (List.range cws.length).map (fun q =>
    let c := cws.getD q 0
    (if d.soft ∨ d.opcode = 5 then (4 * k + q) * 4608 else c * 4608, 4608, c / 4, c % 4 * 4608))

/-- Planes that a read's codewords lie in. -/
def Desc.planes (d : Desc) : List Nat := [0, 1, 2, 3].filter (fun p => d.cws.any (fun c => c / 4 = p))

/-- A routine that reads for the decoder pool: per pass the offsets, the array read and the data output; after the last one
DONE leaves the completion to the jobs of its codewords (07 R223). `data` are the bursts of this pass. -/
def State.decRead (s : State) (n : Nat) (d : Desc) (data : List DieBurst) : State :=
  let k := s.getM n 0
  if s.getM n 3 = 0 then s.readSend n d d.taddr d.planes k
  else if !s.readReady n d then s
  else
    s.opSend n d [] (State.readOut n d d.taddr (State.phyErr n d) (fun s =>
      if k + 1 < d.passes then ((s.setM n 0 (k + 1)).setM n 3 0).readSend n d d.taddr d.planes (k + 1)
      else s.opFinish n d 0 0 0 0) (d.chunks k) data)

/-- READ_TILE (R163). -/
def execOpReadTile (ch : Fin 48) (data : List DieBurst) (s : State) : Out :=
  .next (s.opRun ch 0x03 (fun s d => s.decRead ch d data))

/-- READ_CW (R163). -/
def execOpReadCw (ch : Fin 48) (data : List DieBurst) (s : State) : Out :=
  .next (s.opRun ch 0x04 (fun s d => s.decRead ch d data))

/-- SHADOW (07 R220). -/
def execOpShadow (ch : Fin 48) (data : List DieBurst) (s : State) : Out :=
  .next (s.opRun ch 0x05 (fun s d => s.decRead ch d data))

/-- PATROL (07 R236). -/
def execOpPatrol (ch : Fin 48) (data : List DieBurst) (s : State) : Out :=
  .next (s.opRun ch 0x06 (fun s d => s.decRead ch d data))

/-- Page numbers that BLANK_VERIFY reads: page 0, every BV_STRIDE-th page and the last (13 R403). -/
def State.blankPages (s : State) (n : Nat) (tlc : Bool) : List Nat :=
  let np := match (s.ch n).phy.geo with
    | some g => g.pages tlc
    | none => 1
  let st := max 1 (s.get R.PWR_LEDG_CFG_BV_STRIDE)
  (List.range np).filter (fun p => p % st = 0 ∨ p + 1 = np)

/-- BLANK_VERIFY (13 R403): zero bits of each raw codeword, page by page. -/
def execOpBlankVerify (ch : Fin 48) (data : List DieBurst) (s : State) : Out :=
  .next (s.opRun ch 0x07 (fun s d =>
    let k := s.getM ch 0
    let pages := s.blankPages ch d.tlc
    let page (i : Nat) := taSet d.taddr * 2048 + pages.getD i 0
    if s.getM ch 3 = 0 then s.readSend ch d (page k) [0, 1, 2, 3] 0
    else if !s.readReady ch d then s
    else s.opSend ch d [] (State.readOut ch d (page k) (State.phyErr ch d) (fun s =>
      if (List.range 16).any (fun c => s.get R.PWR_LEDG_CFG_BV_ZMAX < zeroBits (s.dGet d.dbuf (c * 4608) 4608)) then s.opFinish ch d 0x12 0 0 0
      else if k + 1 < pages.length then ((s.setM ch 0 (k + 1)).setM ch 3 0).readSend ch d (page (k + 1)) [0, 1, 2, 3] 0
      else s.opFinish ch d 0 0 0 0) ([0, 1, 2, 3].map (fun p => (p * 18432, 18432, p, 0))) data)))

/-- READ_CHARTER (R180): charter mode, one page, and Reset to the target. -/
def execOpReadCharter (ch : Fin 48) (data : List DieBurst) (s : State) : Out :=
  .next (s.opRun ch 0x08 (fun s d =>
    let c := d.lun % 8
    if !s.flag (R.CH_CHARTER_EN ch) then s.opFinish ch d 0x22 0 0 0
    else if s.getM ch 3 = 0 then
      if s.rateHold ch then s
      else s.opSend ch d [.cmd 0xEF, .addr [s.get (R.CH_CHARTER_FEAT ch)], .dout 4, .cmd 0x00] (fun s =>
        let s := s.engMap ch (fun e => { e with charter := e.charter ||| (1#8 <<< c) })
        s.opRow ch d d.taddr 0x00 [s.addr5 ch d.taddr 0 0] (fun s =>
          let s := ((s.drive ch [.cmd 0x30]).engMap ch (fun e => { e with last := 0x30 })).setM ch 3 1
          if (s.lun ch d.lun).suspended then s else (s.lunMap ch d.lun (fun x => { x with op := .read })).parkFree ch d 0))
    else if !s.readReady ch d then s
    else s.opSend ch d [] (State.readOut ch d d.taddr (fun s => State.phyErr ch d (s.targetReset ch c))
      (fun s => (s.targetReset ch c).opFinish ch d 0 0 0 0) [(0, 18432, 0, 0)] data)))

/-- The factory marks of the planes `ps` of a page: byte 0 of the spare area of each, then `k` with whether one is not 0xFF
(R178). -/
def State.markOut (n : Nat) (d : Desc) (t : Nat) (k : Bool → State → State) : List Nat → List DieBurst → Bool → State → State
  | [], _, m, s => k m s
  | p :: ps, bs, m, s =>
    let b := bs.headD ⟨0, [], []⟩
    s.burstOut n d t p 16384 1 b (State.phyErr n d) (fun s =>
      State.markOut n d t k ps (bs.drop 1) (m || (padBytes 1 b.bytes).any (fun x => x ≠ 0xFF#8)) s)

/-- BB_SCAN (R178): the factory marks of COUNT block sets from MASK, first and last page of each. -/
def execOpBbScan (ch : Fin 48) (data : List DieBurst) (s : State) : Out :=
  .next (s.opRun ch 0x09 (fun s d =>
    let k := s.getM ch 0
    let np := match (s.ch ch).phy.geo with
      | some g => g.pages d.tlc
      | none => 1
    let page (i : Nat) := taddrOf ch d.lun (d.mask + i / 2) (if i % 2 = 0 then 0 else np - 1)
    if s.getM ch 3 = 0 then s.readSend ch d (page k) [0, 1, 2, 3] 0
    else if !s.readReady ch d then s
    else s.opSend ch d [] (State.markOut ch d (page k) (fun m s =>
      let marked : Bool := m || (k % 2 = 1 && s.getM ch 2 = 1)
      let s := s.setM ch 2 (b2n (marked && k % 2 = 0))
      let s := if k % 2 = 1 ∧ marked then (s.blkMark (page k)).setM ch 1 (s.getM ch 1 + 1) else s
      if k + 1 < 2 * d.count then ((s.setM ch 0 (k + 1)).setM ch 3 0).readSend ch d (page (k + 1)) [0, 1, 2, 3] 0
      else s.opFinish ch d 0 0 (s.getM ch 1) 0) [0, 1, 2, 3] data false)))

/-! ## Features, resets, status -/

/-- SET_REF (R152): Set Features by LUN; the record of offsets last sent becomes unknown for both modes (07 R216). -/
def execOpSetRef (ch : Fin 48) (s : State) : Out :=
  .next (s.opRun ch 0x0A (fun s d =>
    s.opSend ch d [.cmd 0xD5, .addr [d.lun / 8, d.par 0], .data [d.par 1, d.par 2, d.par 3, d.par 4]] (fun s =>
      (s.lunMap ch d.lun (fun x => { x with refSlc := .unknown, refTlc := .unknown })).opFinish ch d 0 0 0 0)))

/-- GET_FEAT (R152): Get Features by LUN; four bytes in half-words 2 and 3. -/
def execOpGetFeat (ch : Fin 48) (data : BitVec 32) (s : State) : Out :=
  .next (s.opRun ch 0x0B (fun s d =>
    s.opSend ch d [.cmd 0xD4, .addr [d.lun / 8, d.par 0], .din 4] (fun s =>
      s.opFinish ch d 0 0 (data.toNat % 65536) (data.toNat / 65536))))

/-- RESET_LUN (R162): Reset LUN and a park of class 0; on the wake it completes OK. An open wordline of the LUN is lost with
it: its tiles complete ABORTED. -/
def execOpResetLun (ch : Fin 48) (s : State) : Out :=
  .next (s.opRun ch 0x0C (fun s d =>
    if (s.ch ch).ctx.wakeRdy then s.opFinish ch d 0 0 0 0
    else
      let s := s.lunReset ch d.lun
      let s := match (s.lun ch d.lun).wl with
        | some w => s.wlFail ch { opcode := 1, flags := 16, taddr := w.taddr }
        | none => s
      s.parkFree ch d 0))

/-- STATUS (R152): Read Status Enhanced of the LUN. -/
def execOpStatus (ch : Fin 48) (status : BitVec 8) (s : State) : Out :=
  .next (s.opRun ch 0x0D (fun s d =>
    ((s.lunSeq ch d.lun 0x78 true).ctxMap ch (fun c => { c with status := status })).opFinish ch d 0 0 0 0))

/-! ## Bitmaps and pins -/

/-- Effect of a write of `CH[n].BB_MARK` (R181): ignored when the channel field is not n. -/
def bbMarkWr (n : Nat) (data : Word) (s : State) : State := if taCh data.toNat = n then s.blkMark data.toNat else s

/-- BB_MARK (R181). -/
def execBbMark (ch : Fin 48) (data : Word) (s : State) : Out := .next (s.cpWr (R.CH_BB_MARK_TADDR ch).addr 0xF#4 data (bbMarkWr ch data))

/-- Effect of a write of `CH[n].CTRL` (R175, R181): the pin follows WP_OPEN. -/
def chCtrlWr (n : Nat) (be : BitVec 4) (data : Word) (s : State) : State := (s.regMerge (R.CH_CTRL_ENABLE n).addr be data).wpUpdate n

/-- WP_OPEN (R175): a write of `CH[n].CTRL`. -/
def execWpOpen (ch : Fin 48) (data : Word) (s : State) : Out :=
  .next (s.cpWr (R.CH_CTRL_WP_OPEN ch).addr 0xF#4 data (chCtrlWr ch 0xF#4 data))

end Sys2Proof.Machine
end

