-- ==== Sys2Proof/Machine/Pool.lean ====
section
/-!
DEFINITION. The encoders and the decoder pool: encoding, re-encoding, decode jobs and their outcomes
(06_codeword.md R192 to R199; 07_read_recovery.md R220, R222 to R226).
-/

namespace Sys2Proof.Machine

/-! ## Encoding -/

/-- The address for which a place is to be encoded: its seal tile's address, else its slot's (R192; 13 R389). -/
def State.encTarget (s : State) (n p : Nat) : Nat :=
  match (s.place n p).sealRank with
  | some j => s.sealTaddr n j
  | none => (s.place n p).taddr

/-- The next codeword of a place to be encoded for its address, when its info bytes are there (R192). A place encoded for
another address is left to the re-encoding (R193). -/
def State.encNext (s : State) (n p : Nat) : Option Nat :=
  let v := s.place n p
  let t := s.encTarget n p
  if !v.used ∨ t = unmapped ∨ (v.enc ≠ 0 ∧ v.encAddr ≠ t) then none
  else match (List.range 16).find? (fun k => !bit v.enc k) with
    | some k => if v.cwLanded k then some k else none
    | none => none

/-- Rank of a place at the encoder: seal tiles in their order, then the place claimed earliest (R192). -/
def State.encRank (s : State) (n p : Nat) : Nat :=
  match (s.place n p).sealRank with
  | some j => j
  | none => 8 + (s.place n p).claim

/-- The place and codeword that the encoder takes next. -/
def State.encPick (s : State) (n : Nat) : Option (Nat × Nat) :=
  let xs : List (Nat × Nat) := (List.range 8).filterMap (fun p => (s.encNext n p).map (fun k => (p, k)))
  match xs with
  | [] => none
  | x :: rest => some (rest.foldl (fun m y => if s.encRank n y.1 < s.encRank n m.1 then y else m) x)

/-- ENCODE_CODEWORD (R192): the encoder of a channel treats its next codeword. -/
def execEncodeCodeword (ch : Fin 48) (s : State) : Out :=
  match s.encPick ch with
  | none => .next s
  | some (p, k) => .next (s.encodeCw ch p k (s.encTarget ch p))

/-- REENCODE (R193): an encoded place whose PROG carries another address is encoded again for it, the place whose
PROG was issued earliest first; other codewords go first (R192). -/
def execReencode (ch : Fin 48) (s : State) : Out :=
  if (s.encPick ch).isSome then .next s
  else
    let ps := (List.range 8).filter (fun p =>
      let v := s.place ch p
      v.used && v.issued && v.enc ≠ 0 && v.encAddr ≠ s.encTarget ch p)
    match ps with
    | [] => .next s
    | x :: rest =>
      let p := rest.foldl (fun m y => if (s.place ch y).issueNo < (s.place ch m).issueNo then y else m) x
      let cws := (List.range 16).filter (bit (s.place ch p).enc)
      .next (cws.foldl (fun s k => s.encodeCw ch p k (s.encTarget ch p)) (s.unscramble ch p))

/-! ## The end of a place's jobs -/

/-- The jobs of a place may have ended: the read that waits for them completes, or a group's step 5 has ended
(07 R223, R227). -/
def State.jobsCheck (s : State) (e : Nat) : State :=
  let w : Option (Nat × ReadS) := (List.range 48).findSome? (fun n => ((s.ch n).reads.find? (fun r => r.desc.dbuf = e)).map (fun r => (n, r)))
  match w with
  | some (n, r) =>
    if s.readWaits r.desc r.st then s
    else (s.chMap n (fun c => { c with reads := c.reads.erase r })).readFinish n r
  | none =>
    match s.dplace e with
    | .ladder id p =>
      (match (s.rcv.reqs.find? (fun q => q.id = id)).bind (fun q => q.groups.find? (fun g => g.plane = p)) with
       | some g => if g.step = 5 ∧ g.busy ∧ s.jobsOf e = [] then s.stepEnd id p else s
       | none => if s.jobsOf e = [] then s.decRelease e else s)
    | _ => s

/-! ## Jobs -/

/-- Change the decoder pool. -/
def State.decMap (s : State) (f : DecS → DecS) : State := { s with dec := f s.dec }

/-- Offset of codeword `cw` of a read in its place: its rank for strobes, else its position (R194, 07 R220, R224). -/
def Desc.cwOff (d : Desc) (cw : Nat) : Nat :=
  if d.soft ∨ d.opcode = 5 then (d.cws.filter (fun k => decide (k < cw))).length * 4608 else cw * 4608

/-- Queue a job (R195). -/
def State.pushJob (s : State) (j : Job) : State :=
  s.decMap (fun x => if j.urgent then { x with hi := x.hi ++ [j] } else { x with lo := x.lo ++ [j] })

/-- DECODE_JOB (R195; 07 R222): the oldest landed codeword is classed ERASED, or becomes a job. -/
def execDecodeJob (s : State) : Out :=
  match s.dec.landed with
  | [] => .next s
  | x :: rest =>
    let s := s.decMap (fun y => { y with landed := rest })
    let d := x.desc
    let e := d.dbuf
    let off := d.cwOff x.cw
    if zeroBits (s.dGet e off 4608) ≤ s.get R.DEC_ERASED_MAX_MAX then .next ((s.resPut e x.cw 2 0 d.stepEff 0).jobsCheck e)
    else .next (s.pushJob { place := e, cw := x.cw, off := off, soft := d.soft, mag := if d.stepEff = 3 then 2 else 3, taddr := d.taddr
                            step := d.stepEff, cap := s.stepCap d.stepEff, urgent := d.opcode = 3 ∨ d.opcode = 4 })

/-- The lowest-numbered engine that is free and takes work (R195). -/
def State.engFree (s : State) : Option Nat :=
  (List.range s.gen.ndec).find? (fun e => (tget (fun _ => none) s.dec.run e : Option Job).isNone && s.takesWork (decDom e))

/-- DECODE_START (R195): a free engine takes the oldest job of the first queue, or of the second. -/
def execDecodeStart (s : State) : Out :=
  match s.engFree with
  | none => .next s
  | some e =>
    match s.dec.hi, s.dec.lo with
    | j :: js, _ => .next (s.decMap (fun x => { x with hi := js, run := tput (fun _ => none) x.run e (some j) }))
    | [], j :: js => .next (s.decMap (fun x => { x with lo := js, run := tput (fun _ => none) x.run e (some j) }))
    | [], [] => .next s

/-- LLR of a code magnitude (R196, R212). -/
def State.llr (s : State) (m : Nat) : Nat :=
  match m with
  | 0 => s.get R.DEC_LLR_MAP_M0
  | 1 => s.get R.DEC_LLR_MAP_M1
  | 2 => s.get R.DEC_LLR_MAP_M2
  | _ => s.get R.DEC_LLR_MAP_M3

/-- Magnitude of bit `n` of a soft codeword: strobes 1 and 2 compared with strobe 0 (07 R224). -/
def softMag (a b c : List Col) (n : Nat) : Nat :=
  let x (v : List Col) : Bool := (v.getD (n / 512) 0).getLsbD (n % 512)
  if x a = x b ∧ x a = x c then 3 else if x a ≠ x b ∧ x a ≠ x c then 0 else 1

/-- What the engine decides for a job (R196). -/
def State.decodeJob (s : State) (j : Job) : DecOut :=
  let cols (o : Nat) := colsOf 72 (s.dGet j.place o 4608)
  let read := cols j.off
  let mag (n : Nat) : Nat := s.llr (if j.soft then softMag read (cols (j.off + 4 * 4608)) (cols (j.off + 8 * 4608)) n else j.mag)
  ldpcDecode (s.get R.DEC_CFG_OFFSET) j.cap read mag

/-- A shadow probe's counts: bits of its strobes that differ from the decoded codeword (07 R220). -/
def State.shadowCount (s : State) (j : Job) (x : DecOut) : State :=
  match s.dplace j.place with
  | .shadow _ =>
    [0, 1, 2].foldl (fun s k =>
      let d := bitDiff (s.dGet j.place (j.off + 4 * k * 4608) 4608) (colBytes x.cols)
      s.decMap (fun y => { y with shadow := tput (fun _ => 0) y.shadow (j.place * 4 + k) (tget (fun _ => 0) y.shadow (j.place * 4 + k) + d) })) s
  | _ => s

/-- DECODE_DONE (R197; 07 R222): an engine's job stops: counters, write-back of the descrambled info on PASS, result word. -/
def execDecodeDone (engine : Fin 24) (s : State) : Out :=
  match (tget (fun _ => none) s.dec.run engine : Option Job) with
  | none => .next s
  | some j =>
    let x := s.decodeJob j
    let s := s.bufRead 2 (j.place * 16384 + j.off / 8) 576
    let s := s.decMap (fun y => { y with run := tput (fun _ => none) y.run engine none })
    let s := (s.bump (if x.pass then R.DEC_CW_PASS_CNT else R.DEC_CW_FAIL_CNT)).bumpBy R.DEC_ITER_SUM_CNT x.iter
    let s := s.set R.DEC_ITER_MAX_MAX (max x.iter (s.get R.DEC_ITER_MAX_MAX))
    let s := if x.pass then s.shadowCount j x else s.decRaise 0
    let s := if x.pass then s.dPut j.place j.off (scramble j.taddr j.cw ((colBytes x.cols).take 4096)) else s
    .next ((s.resPut j.place j.cw (b2n (!x.pass)) x.usc j.step x.iter).jobsCheck j.place)

end Sys2Proof.Machine
end

