-- ==== Sys2Proof/Machine/Lace.lean ====
section
/-!
DEFINITION. The lace unit's commands: profiles, closes, cancelled tiles, parity copies and stripe records
(06_codeword.md R203 to R211; 16_cascade_reflection.md R458, R462).
-/

namespace Sys2Proof.Machine

/-- Do the fields of a profile pass the checks of EN := 1 (R203; 16 R458 for a cascade profile)? -/
def State.profOk (s : State) (p : Nat) : Bool :=
  let w := s.get (R.LACE_PROF0_WIDTH p)
  let k := s.get (R.LACE_PROF0_PARITY p)
  let cs := maskChans (s.profMask p)
  decide (1 ≤ k) && decide (k ≤ 4) && decide (1 ≤ w - k) && cs.all (fun c => decide (c < s.gen.nch)) &&
  (if s.cascSet p then
    decide (w ≤ 192) && cs.length = s.share p (s.get R.XLINK_CFG_INDEX) && ((List.range s.xlM).map (s.share p)).sum = w &&
    (List.range s.xlM).all (fun m => decide (k ≤ s.share p m))
   else decide (w ≤ s.gen.nch) && cs.length = w)

/-- Effect of a write of word `k` of `LACE.PROF[p]` (R203): with EN = 1 only a write that clears EN has an effect, while the
profile has no open stripe (DESIGN CHOICE, log entry 91: with one the write is dropped, not put off); EN := 1 is refused with PROF_REFUSED when a check fails. -/
def profWr (p k : Nat) (be : BitVec 4) (data : Word) (s : State) : State :=
  let en := R.LACE_PROF0_EN p
  let a := en.addr + 4 * k
  if s.flag en then
    (if k = 0 ∧ be.getLsbD 0 ∧ !bit data.toNat 0 ∧ (s.openStripe p).isNone then s.set en 0 else s)
  else
    let s := s.regMerge a be data
    if k = 0 ∧ s.flag en then
      if s.profOk p then (s.lnkMap (fun l => { l with barred := l.barred.erase p })).numIssue p 4
      else (s.set en 0).raise .lace 0 2
    else s

/-- PROFILE_ENABLE (R203): a write of a profile's word 0. -/
def execProfileEnable (prof : Fin 8) (data : Word) (s : State) : Out :=
  .next (s.cpWr (R.LACE_PROF0_EN prof).addr 0xF#4 data (profWr prof 0 0xF#4 data))

/-- STRIPE_CLOSE_TIMEOUT (R206): no tile of the profile has landed for CLOSE_TO µs; 0 never closes. -/
def execStripeCloseTimeout (prof : Fin 8) (s : State) : Out :=
  .next (if s.get (R.LACE_PROF3_CLOSE_TO prof) = 0 then s else s.stripeWant prof 1)

/-- Effect of a write of `LACE.CLOSE` (R206, R213): W1S, the bits of profiles without an open stripe have no effect. -/
def laceCloseWr (data : Word) (s : State) : State :=
  (List.range 8).foldl (fun s p =>
    if bit data.toNat p ∧ (s.openStripe p).isSome then
      (s.wr R.LACE_CLOSE_PROF.addr (s.rd R.LACE_CLOSE_PROF.addr ||| (1#32 <<< p))).stripeWant p 1
    else s) s

/-- LACE_CLOSE (R206). -/
def execLaceClose (data : Word) (s : State) : Out := .next (s.cpWr R.LACE_CLOSE_PROF.addr 0xF#4 data (laceCloseWr data))

/-- The bytes of the tile that vanished first are accumulated a second time, and its slot is free again (R208). -/
def State.cancelNext (s : State) : State :=
  match s.lace.cancels with
  | [] => s
  | (n, p, got) :: rest =>
    let s := s.laceMap (fun l => { l with cancels := rest })
    let v := s.place n p
    match s.lace.stripes.find? (fun x => x.num = v.stripe ∧ x.closed = none) with
    | none => s
    | some x =>
      let s := s.accAdd x.set v.slot 0 (s.infoPlain n p got) x.parity
      let s := s.stripeMap x.num (fun y => { y with
        slots := y.slots.map (fun z => if z.ch = n ∧ z.place = p ∧ !z.free then { z with free := true } else z) })
      let s := s.placeMap n p (fun z => { z with stripe := unmapped, slot := 0, width := 0, parity := 0, enc := 0, encAddr := unmapped })
      s.stripeCheck x.num

/-- STRIPE_CANCEL (R208). -/
def execStripeCancel (s : State) : Out := .next s.cancelNext

/-- All cancellations that wait. -/
def State.cancelAll (s : State) : State := (List.range s.lace.cancels.length).foldl (fun s _ => s.cancelNext) s

/-- The first 60 bytes of the trailer of a parity tile (R184, R202): its span's last bytes lie in it. -/
def State.parityHead (s : State) (x : Stripe) (k : Nat) : List Byte :=
  leBytes 2 2 ++ leBytes 2 (8 + (if x.closed = some 2 then 32 else 0)) ++ leBytes 2 0xFFFF ++ leBytes 1 0xFF ++ leBytes 1 (s.blkIndex * 16 + 15) ++
  s.accGet x.set k 65472 24 ++ leBytes 4 x.num ++ leBytes 1 (x.d + k) ++ leBytes 1 x.width ++ leBytes 1 x.parity ++ leBytes 1 0 ++
  leBytes 8 0x7FFFFFFF ++ s.accGet x.set k 65496 8 ++ List.replicate 4 0

/-- A channel-bound tile takes the first free slot on its channel in the current or the next group of its hoop, and its PROG
is issued; otherwise, and once a seal applies, it waits in its place (09 R282; 13 R389). -/
def State.boundIssue (s : State) (n p : Nat) : State :=
  if s.sealApplies then s
  else match s.boundSlot (s.place n p).hoop n with
    | some (t, s) => ((s.placeMap n p (fun v => { v with taddr := t })).slotTaken n p).wantProg n p false
    | none => s

/-- PARITY_COPY (R207): accumulator `k` of a set is copied with its trailer into a free place of its channel; with the last
copy the set returns to the pool. -/
def execParityCopy (set : Fin 8) (k : Fin 4) (s : State) : Out :=
  match s.lace.stripes.find? (fun x => x.set = set.val ∧ x.closed.isSome ∧ x.copies.any (fun c => c.1 = k.val)) with
  | none => .next s
  | some x =>
    match x.copies.find? (fun c => c.1 = k.val) with
    | none => .next s
    | some (_, n) =>
      match s.freePlace n with
      | none => .next s
      | some p =>
        let s := s.claimPlace n p { kind := .parity, flags := 8 + (if x.closed = some 2 then 32 else 0), hoop := x.hoop
                                    lane := s.blkIndex * 16 + 15, stripe := x.num, slot := x.d + k.val, width := x.width, parity := x.parity
                                    profile := x.prof, tlc := s.hoopTlc x.hoop, time := s.cyc, len := 65472, got := 65472 }
        let s := s.bufRead 4 (x.set * 36864 + k.val * 9216) 8188
        let s := (s.infoPut n p 0 (s.accGet x.set k 0 65472)).trailerPut n p (s.parityHead x k)
        let left := x.copies.filter (fun c => c.1 ≠ k.val)
        let s := s.stripeMap x.num (fun y => { y with copies := left, pslots := y.pslots ++ [(k.val, ⟨n, p, true, unmapped, false⟩)] })
        let s := if left = [] then s.setReturn x.set else s
        .next ((s.boundIssue n p).sealJoin n p)

/-- May the record of a closed stripe be written (R210, R211)? Once a seal applies, it need not wait for the passes. -/
def State.recordDue (s : State) (x : Stripe) : Bool := x.complete || (s.sealApplies && x.closed.isSome && x.copies = [])

/-- STRIPE_RECORD (R210): the record of the oldest stripe whose tiles have all passed; once a seal applies also of one whose tiles have not,
and with CLOSE = 2 (R211). The parity holder of a stripe of a cascade sends STRIPE_DONE once every parity tile has passed (16 R461, R462). -/
def execStripeRecord (s : State) : Out :=
  match s.lace.stripes.find? s.recordDue with
  | some x => .next (s.stripeRecPut (if s.sealApplies then { x with closed := some 2 } else x))
  | none =>
    match s.lace.stripes.find? (fun x => x.casc ∧ !x.fin ∧ s.linkMe = x.num % s.xlM ∧ x.parityPassed) with
    | some x =>
      let s := s.linkSend { typ := 0x14, bcast := true, arg := x.closed.getD 0, payload := leBytes 4 x.num }
      let s := s.stripeMap x.num (fun y => { y with fin := true })
      .next (if ({ x with fin := true }).complete then s.stripeRecPut { x with fin := true } else s)
    | none => .next s

end Sys2Proof.Machine
end

