-- ==== Sys2Proof/Machine/Recover.lean ====
section
/-!
DEFINITION. The walkers, the retry ladder and lace reconstruction (07_read_recovery.md R218 to R236;
16_cascade_reflection.md R464).
-/

namespace Sys2Proof.Machine

/-! ## Walkers -/

/-- The probes of channel `n` that exist: LUN, mode and level, in the order of ties (R219). -/
def State.probesOf (s : State) (n : Nat) : List (Nat × Bool × Nat) :=
  if !s.flag R.DEC_CTRL_SHADOW_EN then []
  else (List.range 16).flatMap (fun l => [false, true].flatMap (fun tlc =>
    if s.sample n l tlc ≠ unmapped ∧ s.refTakes tlc then (levels tlc).map (fun v => (l, tlc, v)) else []))

/-- Key of a probe in the walker's table. -/
def probeKey (n : Nat) (p : Nat × Bool × Nat) : Nat := ((16 * n + p.1) * 2 + b2n p.2.1) * 8 + p.2.2

/-- Keep the walkers' table in step with the probes that exist on channels `ns`: one that has come into existence is due at once, one
that has ceased to exist is forgotten (R219). -/
def State.probeSync (s : State) (ns : List Nat) : State :=
  let keys := ns.flatMap (fun n => (s.probesOf n).map (probeKey n))
  s.rcvMap (fun r =>
    let old := r.probes.filter (fun x => decide (x.1 / 256 ∉ ns) || decide (x.1 ∈ keys))
    { r with probes := (keys.filter (fun k => (tfind old k).isNone)).foldl (fun t k => tins t k (some s.cyc)) old })

/-- The walkers notice probes that have come into existence or ceased to exist, once in each `cyc`. -/
def State.probeTick (s : State) : State :=
  if s.flag R.DEC_CTRL_SHADOW_EN ∨ s.rcv.probes ≠ [] then s.probeSync (List.range s.gen.nch) else s

/-- Core-cycle count at which a probe falls due (R219). -/
def State.probeDue (s : State) (n : Nat) (p : Nat × Bool × Nat) : Nat :=
  (tget (fun _ => none) s.rcv.probes (probeKey n p) : Option Nat).getD s.cyc

/-- The most overdue probe of a channel; ties go to the lower LUN, then the lower level. -/
def State.probePick (s : State) (n : Nat) : Option (Nat × Bool × Nat) :=
  match (s.probesOf n).filter (fun p => s.probeDue n p ≤ s.cyc) with
  | [] => none
  | x :: rest => some (rest.foldl (fun m y => if s.probeDue n y < s.probeDue n m then y else m) x)

/-- Page level that carries TLC level `v` (R240). -/
def State.lvlPage (s : State) (v : Nat) : Nat := bits (s.get R.DEC_LVL_PAGE_MAP) (2 * (v - 1)) 2

/-- SHADOW_PROBE_DUE (R219): the walker of a channel issues its most overdue probe, one at a time, when a place is free;
it falls due again after the period. -/
def execShadowProbeDue (ch : Fin 48) (s : State) : Out :=
  let s := s.probeSync [ch.val]
  if !s.flag R.DEC_CTRL_SHADOW_EN ∨ s.sealApplies ∨ (List.range s.gen.ndec).any (fun e => s.dplace e = .shadow ch) then .next s
  else match s.probePick ch, s.decFree with
    | some p, some e =>
      let t := s.sample ch p.1 p.2.1 + (if p.2.1 then s.lvlPage p.2.2 else 0)
      let s := s.note 5 (refWord ch p.1 (if p.2.1 then 3 else 2)) 0
      let due := s.cyc + s.usCyc (1000 * max 1 (s.get R.DEC_SHADOW_CFG_PERIOD))
      let s := s.rcvMap (fun r => { r with probes := tput (fun _ => none) r.probes (probeKey ch p) (some due) })
      .next (((s.dplaceSet e (.shadow ch)).resClear e).issue
        { opcode := 5, flags := if p.2.1 then 16 else 0, origin := 0x8000, taddr := t, dbuf := e
          param := p.2.2 + s.shDelta * 256 })
    | _, _ => .next s

/-- PATROL_ISSUE (R236): the walker looks up its next tile number and reads it when it is mapped. -/
def execPatrolIssue (s : State) : Out :=
  let lo := s.get R.DEC_PATROL_LO_TILENO
  let hi := s.get R.DEC_PATROL_HI_TILENO
  let n := s.get R.DEC_PATROL_NEXT_TILENO
  let t := if lo ≤ n ∧ n < hi then n else lo
  if !s.flag R.DEC_CTRL_PATROL_EN ∨ s.sealApplies ∨ hi ≤ lo then .next s
  else match s.decFree with
    | none => .next s
    | some e =>
      let s := s.set R.DEC_PATROL_NEXT_TILENO (if t + 1 < hi then t + 1 else lo)
      if s.mapEntries ≤ t then .next s else .next (((s.dplaceSet e .patrol).resClear e).mapSubmit (.patrol t e))

/-! ## The ladder -/

/-- Change request `id`. -/
def State.reqMap (s : State) (id : Nat) (f : RReq → RReq) : State :=
  s.rcvMap (fun r => { r with reqs := r.reqs.map (fun q => if q.id = id then f q else q) })

/-- The sets of steps 0 to 2 (R225). -/
def State.stepSets (s : State) (q : RReq) : List Nat := [q.refset, s.get R.DEC_LADDER_SET1 % 8, s.get R.DEC_LADDER_SET2 % 8]

/-- BEST: of the sets used at steps 0 to 2, that of the smallest sum of USC, the lower step in a tie (R226); a step whose read gave
PHY_ERR has no sum. -/
def bestSet (q : RReq) (g : LGroup) : Nat :=
  let xs : List (Nat × Nat) := (g.usc.zip g.sets).filterMap (fun p => p.1.map (fun u => (u, p.2)))
  match xs with
  | [] => q.refset
  | x :: rest => (rest.foldl (fun (m : Nat × Nat) y => if y.1 < m.1 then y else m) x).2

/-- Centre set of a step (R225). -/
def State.stepSet (s : State) (q : RReq) (g : LGroup) (step : Nat) : Nat :=
  if step = 1 ∨ step = 2 then (s.stepSets q).getD step 0 else bestSet q g

/-- The first request with a group that waits for a step, and that group. -/
def State.ladderPick (s : State) : Option (RReq × LGroup) :=
  s.rcv.reqs.findSome? (fun q => if q.recon.isSome then none else (q.groups.find? (fun g => !g.busy)).map (fun g => (q, g)))

/-- Step 5 of a group: decode jobs of the first queue on step 4's strobes (R227). -/
def State.deepJobs (s : State) (q : RReq) (g : LGroup) (e : Nat) : State :=
  let s := s.decMap (fun x => { x with result := x.result.filter (fun p => p.1 / 16 ≠ e) })
  g.cws.foldl (fun s k =>
    s.pushJob { place := e, cw := k, off := (g.asked.filter (fun x => decide (x < k))).length * 4608, soft := true, mag := 0, taddr := q.taddr, step := 5, cap := s.stepCap 5, urgent := true }) s

/-- Steps end for a group: reconstruction is asked for, or the request ends UNCORRECTABLE, LADDER_END (R225). -/
def State.ladderOut (s : State) (q : RReq) (g : LGroup) : State :=
  if q.low ∨ s.ladderLast < 7 ∨ !s.flag R.DEC_CTRL_RECON_EN then s.rcvEnd q 0x52 1
  else
    let s := match g.place with
      | some e => s.decRelease e
      | none => s
    s.reqMap q.id (fun x => { x with groups := x.groups.filter (fun y => y.plane ≠ g.plane), dead := x.dead ++ g.cws })

/-- LADDER_STEP (R227): the next step of the first group that waits for one. -/
def execLadderStep (s : State) : Out :=
  if s.sealApplies then .next s
  else match s.ladderPick with
    | none => .next s
    | some (q, g) =>
      let step := g.step + 1
      if 6 < step ∨ s.ladderLast < step then .next (s.ladderOut q g)
      else
        let go (s : State) (e : Nat) : State :=
          (s.reqMap q.id (fun x => { x with deep := max x.deep step })).groupMap q.id g.plane (fun y => { y with
            step := step, busy := true, place := some e, asked := if step = 5 then y.asked else y.cws
            sets := if step ≤ 2 then y.sets ++ [s.stepSet q g step] else y.sets })
        match (if step = 5 then g.place else none) with
        | some e => .next ((go s e).deepJobs q g e)
        | none =>
          if step = 5 then .next (s.groupMap q.id g.plane (fun y => { y with step := 5 }))
          else match s.decFree with
            | none => .next s
            | some e =>
              let k := s.stepSet q g step
              .next (((((go s e).dplaceSet e (.ladder q.id g.plane)).resClear e)).issue
                { opcode := 4, flags := if q.tlc then 16 else 0, origin := 0xC000, taddr := q.taddr, dbuf := e
                  mask := g.cws.foldl (fun m k => m + 2 ^ k) 0, refset := k, step := step })

/-! ## Stripe records (R231) -/

/-- Ask for the record of stripe `num` for request `id`: 16 lines on the stripe's port; with `REC_COUNT` = 0 there is none (06 R210;
02 R485). -/
def State.recAsk (s : State) (id num : Nat) : State :=
  let n := s.get R.LACE_REC_COUNT_CNT
  let s := s.reqMap id (fun q => { q with rd := some (num, if n = 0 then some [] else none) })
  if n = 0 then s
  else s.mpRead (num % 2) 0 0 (s.get R.LACE_REC_BASE_HI_ADDR * 2 ^ 32 + s.get R.LACE_REC_BASE_LO_ADDR * 1024 + num % n * 1024) 16 (.stripeRead id num)

/-- A record asked for has come back. With an `RD_ERR` line it is not used, and the request that needed it ends MEM_ERR (02 R55); a peer's
request is then answered as without a record. -/
def State.recGot (s : State) (id num : Nat) (r : MpRead) : State :=
  match s.rcv.reqs.find? (fun q => q.id = id && q.rd = some (num, none)) with
  | none => s
  | some q =>
    if r.bad = [] ∨ q.low then s.reqMap id (fun q => { q with rd := some (num, some (if r.bad = [] then r.data else [])) })
    else s.rcvEnd q 0x41 0

/-- Do MAGIC, CRC and STRIPE of a record check? -/
def recGood (bs : List Byte) (num : Nat) : Bool :=
  bs.length = 1024 && recU bs 0 4 = 0x4543414C && recU bs 4 4 = num && crc32 (bs.take 12 ++ bs.drop 16) = recU bs 12 4

/-- Addresses of the slots of a record. -/
def recAddrs (bs : List Byte) : List Nat := (List.range (recU bs 8 1)).map (fun i => recU bs (0x40 + 4 * i) 4)

/-- A slot held by another member (06 R210). -/
def remoteSlot : Nat := 0xFFFFFFFE

/-- Start a reconstruction with a record; `slot` is the failing tile's slot, none for a peer's request (R232; 16 R464). -/
def State.reconStart (s : State) (q : RReq) (num : Nat) (bs : List Byte) (slot : Option Nat) : State :=
  match s.setFree with
  | none => s
  | some set =>
    let addrs := recAddrs bs
    let own := (List.range addrs.length).filter (fun j => some j ≠ slot ∧ addrs.getD j unmapped ≠ unmapped ∧ addrs.getD j unmapped ≠ remoteSlot)
    let far : Bool := slot.isSome && addrs.any (fun a => a = remoteSlot) && s.xlOn
    let peers := if far then (List.range s.xlM).filter (fun m => m ≠ s.linkMe) else []
    let mask := q.dead.foldl (fun m k => m ||| 2 ^ k) 0
    let w := recU bs 8 1
    let p := recU bs 9 1
    let x : ReconS := { stripe := num, width := w, parity := p, addrs := addrs, slot := slot.getD 255, mask := mask, set := set
                        left := own, todo := own, lost := match slot with
                          | some i => if i < w - p then [i] else []
                          | none => []
                        rows := [], peers := peers, prof := recU bs 10 1 }
    let s := (s.accClear set).laceMap (fun l => { l with used := l.used ++ [set] })
    let s := s.reqMap q.id (fun y => { y with recon := some x })
    if far then s.linkSend { typ := 0x15, bcast := true, payload := leBytes 4 num ++ leBytes 2 mask } else s

/-- The block's own slots in stripe `num`, parity slots of the holder among them, when no record says the profile: those of every cascade
profile (16 R458, R460, R464). -/
def State.ownSlots (s : State) (num : Nat) : List Nat :=
  ((List.range 8).filter s.cascProf).flatMap (fun p =>
    let w := s.get (R.LACE_PROF0_WIDTH p)
    let k := s.get (R.LACE_PROF0_PARITY p)
    let base := ((List.range s.linkMe).map (fun i => s.dSlots p num i)).sum
    (List.range (s.dSlots p num s.linkMe)).map (fun i => base + i) ++
      (if s.linkMe = num % s.xlM then (List.range k).map (fun i => w - k + i) else []))

/-- A peer's request for stripe `num` is answered with its rows and its lost slots, all of its own without a record (16 R452, R464); a
contribution of codeword 15 is its 4,064 span bytes, padded to 4,128 (log entry 26). -/
def State.reconReply (s : State) (m num : Nat) (x : Option ReconS) : State :=
  let bitmap (l : List Nat) : List Byte := (List.range 24).map (fun b => BitVec.ofNat 8 ((List.range 8).foldl (fun a i => if b * 8 + i ∈ l then a + 2 ^ i else a) 0))
  match x with
  | none => s.linkSend { typ := 0x17, dst := m, payload := bitmap (s.ownSlots num) }
  | some r =>
    let cws := (List.range 16).filter (bit r.mask)
    let s := (List.range r.parity).foldl (fun s k => cws.foldl (fun s c =>
      let bs := if c = 15 then s.accGet r.set k 61440 4064 ++ List.replicate 64 0 else s.accGet r.set k (c * 4096) 4096
      s.linkSend { typ := 0x16, dst := m, arg := k * 4 + c * 16, payload := bs }) s) s
    let d := r.width - r.parity
    let par := ((List.range r.parity).filter (fun k =>
      r.addrs.getD (d + k) unmapped ≠ unmapped ∧ r.addrs.getD (d + k) unmapped ≠ remoteSlot ∧ k ∉ r.rows)).map (fun k => d + k)
    s.linkSend { typ := 0x17, dst := m, payload := bitmap (r.lost ++ par) }

/-- A peer's request ends. -/
def State.remoteEnd (s : State) (q : RReq) (m : Nat) (x : Option ReconS) : State :=
  let s := s.reconReply m q.hint x
  let s := s.rcvFree q
  (s.rcvMap (fun r => { r with reqs := r.reqs.filter (fun y => y.id ≠ q.id) })).rcvAdmitNext

/-- STRIPE, SLOT of the tile's own trailer, when codeword 15 of the request has passed (R231). -/
def State.ownStripe (s : State) (q : RReq) : Option (Nat × Nat) :=
  if bit q.mask 15 ∧ s.outcome q.place 15 = 0 then
    some (leNat (s.dGet q.place (rawPos (65472 + 0x20)) 4), leNat (s.dGet q.place (rawPos (65472 + 0x24)) 1))
  else none

/-- What the record of stripe `num` says for a request whose own trailer may name the slot (R231, R233). -/
inductive RecSays where
  /-- it does not qualify -/
  | none
  /-- it qualifies with the failing tile's slot -/
  | slot (i : Nat)
  /-- the request ends UNCORRECTABLE with a detail -/
  | ends (detail : Nat)
  deriving DecidableEq, Repr

/-- Examine a record (R231, R233). -/
def recSays (bs : List Byte) (num taddr : Nat) (own : Option Nat) : RecSays :=
  let addrs := recAddrs bs
  let w := recU bs 8 1
  let p := recU bs 9 1
  let sealed : Bool := recU bs 11 1 = 2
  if !recGood bs num then .none
  else match (List.range addrs.length).find? (fun i => addrs.getD i unmapped = taddr) with
    | some i => if sealed ∧ (List.range p).all (fun k => addrs.getD (w - p + k) unmapped = unmapped) then .ends 3 else .slot i
    | none =>
      match own with
      | some i => if sealed ∧ addrs.getD i 0 = unmapped then .ends 5 else .none
      | none => .none

/-- Is an accumulator set free for a reconstruction: `SETS_FREE` ≥ 2 (R232)? -/
def State.setsRoom (s : State) : Bool := decide (s.lace.used.length ≤ 6)

/-- Neighbours of a tile number: −1, +1, −2, +2 and so on, `RECON.PROBE` of them (R231). -/
def State.neighbours (s : State) (t : Nat) : List Nat :=
  (((List.range (s.get R.DEC_RECON_PROBE)).map (fun i => if i % 2 = 0 then (t : Int) - (i / 2 + 1 : Nat) else (t : Int) + (i / 2 + 1 : Nat))).filter
    (fun x => decide (0 ≤ x) && decide (x < (s.mapEntries : Int)))).map Int.toNat

/-- Stripe numbers about `n` (R231). -/
def State.searchNums (s : State) (n : Nat) : List Nat :=
  let w := s.get R.DEC_RECON_WIN
  (List.range (2 * w + 1)).map (fun i => (n + i + 2 ^ 32 - w) % 2 ^ 32)

/-- Is a neighbour's read of request `id` still to come? -/
def State.nbrPending (s : State) (id : Nat) : Bool :=
  (List.range s.gen.ndec).any (fun e => match s.dplace e with
    | .nbr i _ => i = id
    | _ => false)

/-- One move of the neighbour search of a request, none while it waits (R231): ask for the next record about a number found, else read
the next neighbour; NO_STRIPE when none is left. -/
def State.searchMove (s : State) (q : RReq) : Option State :=
  if !q.searched then
    let ts := if q.tileno = 0x7FFFFFFF then [] else s.neighbours q.tileno
    some (ts.foldl (fun s t => s.mapSubmit (.probe q.id t)) (s.reqMap q.id (fun x => { x with searched := true, probes := ts })))
  else match q.nums, q.found with
    | k :: rest, _ => some ((s.reqMap q.id (fun x => { x with nums := rest })).recAsk q.id k)
    | [], n :: rest => some (s.reqMap q.id (fun x => { x with found := rest, nums := s.searchNums n }))
    | [], [] =>
      if s.nbrPending q.id then none
      else match q.probes with
        | [] => some (s.rcvEnd q 0x52 2)
        | t :: rest =>
          let s' := s.reqMap q.id (fun x => { x with probes := rest })
          match q.answers.find? (fun a => a.1 = t), s.decFree with
          | some (_, a), f =>
            if a = unmapped then some s'
            else f.map (fun e => ((s'.dplaceSet e (.nbr q.id t)).resClear e).issue
              { opcode := 4, flags := if s.tileTlc t then 16 else 0, origin := 0xC000, taddr := a, dbuf := e, mask := 0x8000 })
          | none, _ => none

/-- Is a tile address a slot of a hoop in TLC mode? Of an address that no hoop owns, the failing tile's mode is taken. -/
def State.addrTlc (s : State) (t : Nat) (tlc : Bool) : Bool :=
  match (List.range 64).find? (fun h => (s.hoop h).st ≠ .off ∧ taCh t ∈ s.hoopChans h ∧ taLun t ∈ s.hoopLuns h ∧
      s.hget h 0x14 2 ≤ taBlk t ∧ taBlk t ≤ s.hget h 0x16 2) with
  | some h => s.hoopTlc h
  | none => tlc

/-- Issue the next survivor read of a reconstruction (R232), in the mode of its slot. -/
def State.survivorIssue (s : State) (q : RReq) (x : ReconS) : Option State :=
  match x.todo, s.decFree with
  | j :: rest, some e =>
    let s := s.reqMap q.id (fun y => { y with recon := some { x with todo := rest } })
    let t := x.addrs.getD j unmapped
    some (((s.dplaceSet e (.survivor q.id j)).resClear e).issue
      { opcode := 4, flags := if s.addrTlc t q.tlc then 16 else 0, origin := 0xC000, taddr := t, dbuf := e, mask := x.mask })
  | _, _ => none

/-- Go on with the stripe number of a request's own trailer or hint: its record is read and used, or none qualifies (R231). -/
def State.numMove (s : State) (q : RReq) (num : Nat) : Option State :=
  match q.rd with
  | none => some (s.recAsk q.id num)
  | some _ => some (s.rcvEnd q 0x52 2)

/-- Is a request through with the ladder, with codewords to be rebuilt? -/
def RReq.wantsRecon (q : RReq) : Bool := q.groups = [] && q.dead ≠ []

/-- The next move of a request that wants reconstruction; none while it waits for a set, a place or a read (R231, R232). -/
def State.reconMove (s : State) (q : RReq) : Option State :=
  if !q.wantsRecon then none
  else match q.recon, q.who with
    | some x, _ => s.survivorIssue q x
    | none, .remote m :: _ =>
      (match q.rd with
       | none => some (s.recAsk q.id q.hint)
       | some (_, none) => none
       | some (_, some bs) =>
         if !recGood bs q.hint then some (s.remoteEnd q m none) else if s.setsRoom then some (s.reconStart q q.hint bs none) else none)
    | none, _ =>
      if q.low ∨ s.ladderLast < 7 ∨ !s.flag R.DEC_CTRL_RECON_EN then some (s.rcvEnd q 0x52 1)
      else
        -- step 7 has begun (R225, R229)
        let q := { q with deep := 7 }
        let s := s.reqMap q.id (fun y => { y with deep := 7 })
        let own := s.ownStripe q
        let more (s : State) : Option State :=
          match own with
          | some (n, _) => s.numMove q n
          | none => if q.hint ≠ unmapped then s.numMove q q.hint else s.searchMove q
        match q.rd with
        | none => more s
        | some (_, none) => none
        | some (k, some bs) =>
          match recSays bs k q.taddr (own.map (fun p => p.2)) with
          | .slot i => if s.setsRoom then some (s.reconStart q k bs (some i)) else none
          | .ends d => some (s.rcvEnd q 0x52 d)
          | .none =>
            if own.isNone ∧ q.hint = unmapped then
              (s.searchMove q).map (fun t => if q.nums = [] then t.reqMap q.id (fun y => { y with rd := none }) else t)
            else more s

/-- RECONSTRUCT (R231, R232): the first request that can move goes on: it reads its stripe's record, takes a set while two are free,
and issues its survivor reads one by one. -/
def execReconstruct (s : State) : Out :=
  if s.sealApplies then .next s else .next ((s.rcv.reqs.findSome? s.reconMove).getD s)

/-! ## Folding and solving -/

/-- Span positions of codeword `c` of a tile in a place: place offset, first span byte, bytes; `par` for a parity tile
(06 R200, R202). -/
def spanParts (c : Nat) (par : Bool) : List (Nat × Nat × Nat) :=
  if c < 15 then [(c * 4608, c * 4096, 4096)]
  else if par then [(c * 4608, 61440, 4032), (c * 4608 + 4032 + 8, 65472, 24), (c * 4608 + 4032 + 0x30, 65496, 8)]
  else [(c * 4608, 61440, 4032), (c * 4608 + 4032, 65472, 32)]

/-- Fold one part of a codeword (place offset, span byte, length) of slot `j` from place `e` into the accumulators (R232). -/
def State.foldPart (s : State) (x : ReconS) (j e : Nat) (p : Nat × Nat × Nat) : State :=
  let d := x.width - x.parity
  let bs := s.dGet e p.1 p.2.2
  if d ≤ j then s.accXor x.set (j - d) p.2.1 bs
  else (List.range x.parity).foldl (fun s k => s.accXor x.set k p.2.1 (gfScale (laceC k j) bs)) s

/-- Fold slot `j` of a reconstruction from place `e` into its accumulators (R232). -/
def State.foldSlot (s : State) (x : ReconS) (j e : Nat) : State :=
  let parts := ((List.range 16).filter (bit x.mask)).flatMap (fun c => spanParts c (decide (x.width - x.parity ≤ j)))
  parts.foldl (fun s p => s.foldPart x j e p) s

/-- SURVIVOR_FOLD (R232): the oldest passed survivor is folded, and its place is free. -/
def execSurvivorFold (s : State) : Out :=
  match s.rcv.folds with
  | [] => .next s
  | (id, j, e) :: rest =>
    let s := s.rcvMap (fun r => { r with folds := rest })
    match (s.rcv.reqs.find? (fun q => q.id = id)).bind (fun q => q.recon) with
    | none => .next (s.decRelease e)
    | some x =>
      let s := (s.foldSlot x j e).decRelease e
      .next (s.reqMap id (fun q => { q with recon := q.recon.map (fun y =>
        { y with left := y.left.erase j, rows := if y.width - y.parity ≤ j then y.rows ++ [j - (y.width - y.parity)] else y.rows }) }))

/-- Insert a number in rising order. -/
def insNat (x : Nat) : List Nat → List Nat
  | [] => [x]
  | y :: ys => if x < y then x :: y :: ys else if x = y then y :: ys else y :: insNat x ys

/-- Numbers in rising order, each once. -/
def sortNat (l : List Nat) : List Nat := l.foldl (fun a x => insNat x a) []

/-- XOR of byte lists scaled by coefficients. -/
def gfCombine (n : Nat) (xs : List (Nat × List Byte)) : List Byte :=
  xs.foldl (fun a x => List.zipWith (fun u v => u ^^^ v) a (gfScale x.1 x.2)) (List.replicate n 0)

/-- `n` span bytes from `j` of the failing slot, from the accumulators: the Cauchy system of the lost data slots, and for a parity slot
its row completed with them (R233). -/
def State.solveSpan (s : State) (x : ReconS) (ks lost : List Nat) (j n : Nat) : List Byte :=
  let inv := laceInverse ks lost
  let acc := ks.map (fun k => s.accGet x.set k j n)
  let lostData (r : Nat) : List Byte := gfCombine n ((inv.getD r []).zip acc)
  let d := x.width - x.parity
  if x.slot < d then lostData ((lost.findIdx? (fun i => i = x.slot)).getD 0)
  else
    let k := x.slot - d
    gfCombine n ((1, s.accGet x.set k j n) :: (List.range lost.length).map (fun r => (laceC k (lost.getD r 0), lostData r)))

/-- Put a rebuilt codeword into the request's place, with its result word (R233, R234). -/
def State.rebuildCw (s : State) (q : RReq) (x : ReconS) (ks lost : List Nat) (c : Nat) : State :=
  let e := q.place
  let s := if c < 15 then s.dPut e (c * 4608) (s.solveSpan x ks lost (c * 4096) 4096)
    else
      let info := s.solveSpan x ks lost 61440 4032
      let t := s.solveSpan x ks lost 65472 32
      let tail := leBytes 4 x.stripe ++ leBytes 1 x.slot ++ leBytes 1 x.width ++ leBytes 1 x.parity ++ leBytes 1 0 ++ leBytes 8 q.tileno ++ List.replicate 12 0
      s.dPut e (c * 4608) (info ++ t ++ tail)
  s.resPut e c 0 0 7 0

/-- The trailer CRC of a rebuilt tile, computed over it (R234). -/
def State.rebuildCrc (s : State) (e : Nat) : State :=
  let bs := (List.range 65532).map (fun j => tget zeroByte s.dec.buf (dKey e + rawPos j))
  s.dPut e (rawPos 65532) (leBytes 4 (crc32 bs))

/-- Has every survivor and every peer of a reconstruction ended? -/
def State.reconReady (s : State) (q : RReq) : Bool :=
  match q.recon with
  | some x => x.todo = [] && x.left = [] && x.peers = [] && s.rcv.folds.all (fun f => f.1 ≠ q.id)
  | none => false

/-- LACE_SOLVE (R233, R234): the first reconstruction whose survivors have all ended is solved, or answered to its peer. -/
def execLaceSolve (s : State) : Out :=
  match s.rcv.reqs.find? s.reconReady with
  | none => .next s
  | some q =>
    match q.recon, q.who with
    | some x, .remote m :: _ => .next (s.remoteEnd q m (some x))
    | some x, _ =>
      let lost := sortNat x.lost
      let u := lost.length
      let ks := (sortNat x.rows).take u
      if ks.length < u then .next (s.rcvEnd q 0x52 4)
      else
        let cws := (List.range 16).filter (bit x.mask)
        let s := cws.foldl (fun s c => s.rebuildCw q x ks lost c) s
        let s := s.bump R.DEC_RECON_CNT_CNT
        if bit x.mask 15 then .next ((s.rebuildCrc q.place).rcvEnd q 0x51 (128 + u % 8))
        else if q.tile ∧ !s.trailerOk q.place then .next (s.crcBad.rcvEnd q 0x53 0)
        else .next (s.rcvEnd q 0x51 (u % 8))
    | none, _ => .next s

/-- Slots of member `m` in a reconstruction that are held elsewhere. -/
def State.peerSlots (s : State) (x : ReconS) (m : Nat) : List Nat :=
  let base := ((List.range m).map (fun i => s.dSlots x.prof x.stripe i)).sum
  (List.range (s.dSlots x.prof x.stripe m)).map (fun i => base + i)

/-- A member's answer ends: its lost slots join the lost set, no other member's (R235; 16 R464). -/
def State.peerEnd (s : State) (id m : Nat) (lost : List Nat) : State :=
  s.reqMap id (fun q => { q with recon := q.recon.map (fun x =>
    { x with peers := x.peers.erase m
             lost := x.lost ++ lost.filter (fun j => decide (j < x.width - x.parity) && decide (j ∈ s.peerSlots x m) && x.addrs.getD j unmapped = remoteSlot) }) })

/-- RECON_TIMEOUT (R235): a member has not answered the oldest request that waits for it within XTO: its slots are lost. -/
def execReconTimeout (member : Fin 4) (s : State) : Out :=
  match s.rcv.reqs.find? (fun q => match q.recon with
      | some x => decide (member.val ∈ x.peers)
      | none => false) with
  | some q => .next (match q.recon with
      | some x => s.peerEnd q.id member (s.peerSlots x member)
      | none => s)
  | none => .next s

end Sys2Proof.Machine
end

