-- ==== Sys2Proof/Machine/Almanac.lean ====
section
/-!
DEFINITION. The almanac: saving and loading calibration records (07_read_recovery.md R237 to R239).
-/

namespace Sys2Proof.Machine

/-- `UNIT_VER` of every page (00_scope.md R2, R3). -/
def State.unitVer (s : State) : Nat := 0x02010000 + s.gen.build.toNat

/-- The record as it stands, with sequence number `seq` (R237): offsets, trims, lane maps and rates. -/
def State.almBytes (s : State) (seq : Nat) : List Byte :=
  let head := leBytes 4 0x414D4C41 ++ leBytes 4 seq ++ leBytes 4 almLen
  let luns := if s.gen.lun2 then 16 else 8
  let ofs : List Byte := (List.range 768).flatMap (fun i =>
    if i / 16 < s.gen.nch ∧ i % 16 < luns then (List.range 8).map (fun v => BitVec.ofNat 8 (ofsByte (s.tracked (i / 16) (i % 16) v))) else List.replicate 8 0)
  let trims : List Byte := (List.range 48).flatMap (fun n => if n < s.gen.nch then s.trimBlock n else List.replicate 256 0)
  let body := leBytes 2 1 ++ leBytes 1 s.gen.nch ++ leBytes 1 luns ++ leBytes 4 s.unitVer ++ leBytes 8 s.cyc ++ List.replicate 32 0 ++ ofs ++ trims
  head ++ leBytes 4 (crc32 (head ++ body)) ++ body

/-- The words of the offsets and of the trims are read for a record (14 R416). -/
def State.almSeen (s : State) : State :=
  (List.range s.gen.nch).foldl State.trimSeen ((List.range (16 * s.gen.nch)).foldl (fun s i => s.noteN 5 (tabWord 2 (4 * i)) 2) s)

/-- Next page of a slot. -/
def State.almPage (s : State) (b : Bool) : Nat := if b then s.get R.DEC_ALM_PAGE_NEXT_B else s.get R.DEC_ALM_PAGE_NEXT_A

/-- Set the next page of a slot. -/
def State.almPageSet (s : State) (b : Bool) (p : Nat) : State := s.set (if b then R.DEC_ALM_PAGE_NEXT_B else R.DEC_ALM_PAGE_NEXT_A) p

/-- Slot of a sequence number: A when even, B when odd (R237). -/
def almSlot (seq : Nat) : Bool := seq % 2 = 1

/-- An almanac command ends with its result (R238). -/
def State.almEnd (s : State) (r : Nat) : State :=
  ((s.set R.DEC_ALM_STAT_BUSY 0).set R.DEC_ALM_STAT_RESULT r).decRaise 7

/-- Change the SAVE that runs. -/
def State.saveMap (s : State) (f : SaveS → SaveS) : State := s.rcvMap (fun r => { r with save := r.save.map f })

/-- The place of channel `n` that a record of the almanac takes: one that a program which did not pass has left held, else a free one
(R238, 05 R168). -/
def State.almPlace (s : State) (n : Nat) : Option Nat :=
  match (List.range 8).find? (fun p => (s.place n p).used && (s.place n p).kind = .almanac && !(s.place n p).issued) with
  | some p => some p
  | none => s.freePlace n

/-- Put the record of the SAVE into a place of channel `n` and issue its program, once the slot's erase has ended and a place is
free (R238). -/
def State.saveOn (s : State) (n : Nat) : State :=
  match s.rcv.save with
  | none => s
  | some x =>
    if x.progs.any (fun y => y.1 = n) ∨ n ∈ x.erase then s
    else match s.almPlace n with
      | none => s
      | some p =>
        let b := almSlot x.seq
        let t := taddrOf n (s.get R.DEC_ALM_CH_LUN) (s.almBlk b) (s.almPage b)
        let s := s.claimPlace n p { kind := .almanac, stream := 0xFFFE, lane := s.blkIndex * 16 + 15, serial := x.seq, angle := s.stamp, len := almLen
                                    got := almLen, time := s.cyc, tileno := 0x7FFFFFFE, taddr := t }
        let s := (s.infoPut n p 0 x.bytes).tileFinish n p
        (s.saveMap (fun y => { y with progs := y.progs ++ [(n, some p, none)] })).issueProg n p false

/-- SLC pages of the almanac's block sets on channel `n`. -/
def State.almPages (s : State) (n : Nat) : Nat :=
  match (s.ch n).phy.geo with
  | some g => g.slcPages
  | none => 2048

/-- A SAVE begins (R238): the record is built from what stands now; a slot without a next page is erased first. -/
def State.saveStart (s : State) : State :=
  let seq := (s.get R.DEC_ALM_SEQ_SEQ + 1) % 2 ^ 32
  let b := almSlot seq
  let bytes := s.almBytes seq
  let s := s.almSeen
  let s := (s.set R.DEC_ALM_STAT_BUSY 1).rcvMap (fun r => { r with save := some { seq := seq, bytes := bytes } })
  let full : Bool := s.almChans.any (fun n => decide (s.almPages n ≤ s.almPage b))
  if full then
    let s := s.almPageSet b 0
    s.almChans.foldl (fun s n =>
      (s.saveMap (fun x => { x with erase := x.erase ++ [n] })).issue
        { opcode := 2, origin := 0xC000, taddr := taddrOf n (s.get R.DEC_ALM_CH_LUN) (s.almBlk b) 0 }) s
  else s.almChans.foldl State.saveOn s

/-- A LOAD begins (R239 steps 1 and 2): every offset is 0, there are no samples, and the search on the four slots begins. -/
def State.loadStart (s : State) : State :=
  let s := s.set R.DEC_ALM_STAT_BUSY 1
  let s := (List.range (16 * s.gen.nch)).foldl (fun s i =>
    let w (k : Nat) := tabWord 2 (4 * i + k)
    (((s.sramPut 5 (w 0) 0).sramPut 5 (w 1) 0).sramPut 5 (w 2) 0xFFFFFFFF).sramPut 5 (w 3) 0xFFFFFFFF) s
  let slot (i : Nat) : LoadSlot :=
    let n := s.almChans.getD (i / 2) 0
    { hi := s.almPages n, fin := !s.phyRuns n }
  (s.rcvMap (fun r => { r with load := some ((List.range 4).map slot), loadTook := false, probes := [] })).loadPump

/-- Effect of a write of `DEC.ALM_CMD` (R238, R239). -/
def almWr (data : Word) (s : State) : State :=
  let cmd := data.toNat % 4
  if s.flag R.DEC_ALM_STAT_BUSY then s
  else if cmd = 2 then
    if s.get R.DEC_ALM_CH_CH_X = s.get R.DEC_ALM_CH_CH_Y ∨ !s.rcv.loaded then s.almEnd 4 else s.saveStart
  else if cmd = 1 then s.loadStart
  else s

/-- LOAD (R239): a write of `DEC.ALM_CMD`. -/
def execAlmLoad (data : Word) (s : State) : Out := .next (s.cpWr R.DEC_ALM_CMD_CMD.addr 0xF#4 data (almWr data))

/-- SAVE (R238): a write of `DEC.ALM_CMD`. -/
def execAlmSave (data : Word) (s : State) : Out := .next (s.cpWr R.DEC_ALM_CMD_CMD.addr 0xF#4 data (almWr data))

/-- The candidates of a LOAD (R239): the records found, with the number of their slot. -/
def almCands (xs : List LoadSlot) : List (Nat × List Byte) :=
  (List.range xs.length).filterMap (fun i => ((xs[i]?).bind (fun x => x.record)).map (fun bs => (i, bs)))

/-- The candidate of the highest SEQ; `CH_X` is preferred between equal ones (R239). -/
def almBest : List (Nat × List Byte) → Option (Nat × List Byte)
  | [] => none
  | x :: xs => some (xs.foldl (fun m y => if recU m.2 4 4 < recU y.2 4 4 then y else m) x)

/-- Load a record (R239 steps 5 and 6): buffer, offsets and steering requests of channels in state OFF. -/
def State.almTake (s : State) (i : Nat) (bs : List Byte) : State :=
  let a := s.get R.DEC_ALM_BUF_HI_ADDR * 2 ^ 32 + s.get R.DEC_ALM_BUF_LO_ADDR * 64
  let s := s.rngMap (fun g => { g with rb := g.rb ++ [.write a bs] })
  let s := (List.range (16 * s.gen.nch)).foldl (fun s k =>
    (s.sramPut 5 (tabWord 2 (4 * k)) (BitVec.ofNat 32 (recU bs (0x40 + 8 * k) 4))).sramPut 5 (tabWord 2 (4 * k + 1)) (BitVec.ofNat 32 (recU bs (0x44 + 8 * k) 4))) s
  let s := (List.range s.gen.nch).foldl (fun s n =>
    if s.get (R.CH_PHY_STAT_STATE n) = 0 then
      s.laneMapBy n (fun s => s.set (R.CH_LANE_MAP_REQUEST n) (recU bs (0x1840 + 256 * n + 192) 1)) else s) s
  ((s.set R.DEC_ALM_STAT_SRC_CH (i / 2)).set R.DEC_ALM_STAT_SRC_SLOT (i % 2)).set R.DEC_ALM_SEQ_SEQ (recU bs 4 4)

/-- Are bytes for a buffer still to be accepted by the memory port? -/
def State.rbWrites (s : State) : Bool :=
  s.rng.rb.any (fun j => match j with
    | .write _ _ => true
    | _ => false) || s.mpHas (fun u => decide (u = .rb))

/-- The reads of a LOAD have ended (R239 steps 4 to 6): the next pages, and the chosen record. -/
def State.loadTake (s : State) (xs : List LoadSlot) : State :=
  let hi (i : Nat) : Nat := match xs[i]? with
    | some x => if s.phyRuns (s.almChans.getD (i / 2) 0) then x.lo else 0
    | none => 0
  let s := ((s.almPageSet false (max (hi 0) (hi 2))).almPageSet true (max (hi 1) (hi 3))).rcvMap (fun r => { r with loadTook := true })
  match almBest (almCands xs) with
  | some (i, bs) => s.almTake i bs
  | none => s.set R.DEC_ALM_SEQ_SEQ 0

/-- A LOAD goes on (R239): once its reads have ended its record is taken, and it ends when the record has been written. -/
def State.loadEnd (s : State) (xs : List LoadSlot) : State :=
  if !xs.all (fun x => x.fin) then s.loadPump
  else
    let s := if s.rcv.loadTook then s else s.loadTake xs
    if s.rbWrites then s
    else (s.rcvMap (fun r => { r with load := none, loadTook := false, loaded := true })).almEnd (if (almBest (almCands xs)).isSome then 0 else 2)

/-- A SAVE goes on: programs that waited for a place or an erase are issued, and with both outcomes it ends (R238); a place whose program
did not pass stays held (05 R154, R168). -/
def State.saveEnd (s : State) : State :=
  let s := s.almChans.foldl State.saveOn s
  match s.rcv.save with
  | none => s
  | some x =>
    let ended := x.progs.filter (fun y => y.2.2.isSome)
    if ended.length < 2 then s
    else
      let ok := (x.progs.filter (fun y => y.2.2 = some true)).length
      let s := s.rcvMap (fun r => { r with save := none })
      if ok = 0 then s.almEnd 3
      else
        let s := (s.set R.DEC_ALM_SEQ_SEQ x.seq).almPageSet (almSlot x.seq) (s.almPage (almSlot x.seq) + 1)
        s.almEnd (if ok = 2 then 0 else 1)

/-- ALM_DONE (R238, R239): the running almanac command goes on, and ends when all its work has. -/
def execAlmDone (s : State) : Out :=
  .next (match s.rcv.load with
    | some xs => s.loadEnd xs
    | none => s.saveEnd)

end Sys2Proof.Machine
end

