-- ==== Sys2Proof/Machine/RotorFlux.lean ====
section
/-!
DEFINITION. Flux mode: observer, plausibility, speed and hold-up loops, comparators and switching table, single-shunt
reconstruction, and the decision of a period (11_rotor_drive.md R333, R341 to R348, R353 to R355; 12 R369).
-/

namespace Sys2Proof.Machine

/-- Length of a probe slice, cyc (R346). -/
def State.twin (s : State) : Nat := s.deadtime + s.get R.ROTOR_PROBE_SETTLE + s.get R.ROTOR_PROBE2_APERT

/-- Slices of the present period: vector, start, length, vector before it (R345, R346). -/
def State.slices (s : State) : List (Nat × Nat × Nat × Nat) :=
  let h := s.rot.shunt
  match h.probe with
  | some (k, _) => [(k, 0, s.twin, h.prev), (s.rot.vec, s.twin, h.len - s.twin, k)]
  | none => [(s.rot.vec, 0, h.len, h.prev)]

/-- Volt-cycles of a slice: three times the α part in 0.1 V × cyc, and √3 times the β part, dead time corrected by the sign of
each phase current in the direction that the leg switches (R342): with current out of the leg a rise comes late by the dead time, with
current into it a fall. -/
def State.sliceVolt (s : State) (k len prev : Nat) : Int × Int :=
  let (u, v, w) := vecLegs k
  let (a, b, c) := vecLegs prev
  let vd : Int := s.rot.vdc
  let dt : Int := min len s.deadtime
  let iw := -(s.rot.obs.iu + s.rot.obs.iv)
  let cor (x y : Nat) (i : Int) : Int :=
    if x = 1 ∧ y = 0 ∧ 0 < i then -(vd * dt) else if x = 0 ∧ y = 1 ∧ i < 0 then vd * dt else 0
  let cu := cor u a s.rot.obs.iu
  let cv := cor v b s.rot.obs.iv
  let cw := cor w c iw
  let n : Int := u + v + w
  (vd * (3 * u - n) * len + (2 * cu - cv - cw), vd * ((v : Int) - w) * len + (cv - cw))

/-- Volt-cycles of the link over `n` cyc between the high and the low leg of sector `k` (R335, R342). -/
def State.cutVolt (s : State) (k n : Nat) : Int × Int :=
  let (h, l, _, _) := sectorOf k
  let d : Int := s.rot.vdc * n
  let v (p : Nat) : Int := if p = h then d else if p = l then -d else 0
  ((2 * v 0 - v 1 - v 2) / 2, (v 1 - v 2) / 2)

/-- Volt-cycles of the period: in flux mode those of its slices, in STEP and RAMP those of the on-times recorded in it (R342). -/
def State.periodVolt (s : State) : Int × Int :=
  match s.rot.st with
  | .step | .ramp => s.rot.step.cuts.foldl (fun acc x =>
      let (p, q) := s.cutVolt x.1 x.2
      (acc.1 + p, acc.2 + q)) (0, 0)
  | _ => s.slices.foldl (fun acc x =>
      let (k, _, len, prev) := x
      let (p, q) := s.sliceVolt k len prev
      (acc.1 + p, acc.2 + q)) (0, 0)

/-- Sample window of a slice: start and end as core-cycle counter values (R345). -/
def State.window (s : State) (x : Nat × Nat × Nat × Nat) : Nat × Nat :=
  let (k, st, len, prev) := x
  let t := s.rot.shunt.t0 + st
  ((if legChanges k prev = 0 then t else t + s.deadtime + s.get R.ROTOR_PROBE_SETTLE), t + len)

/-- Mean of numbers, rounded down. -/
def mean (l : List Int) : Int := if l.isEmpty then 0 else l.sum / l.length

/-- The sample windows of the period's slices of active vectors (R345); a slice that ends before its window would start has none. -/
def State.windows (s : State) : List ShuntWin :=
  s.slices.filterMap (fun x =>
    let (a, b) := s.window x
    match shuntPhase x.1 with
    | none => none
    | some (p, sg) => if b ≤ a then none else some ⟨p, sg, a, b, false⟩)

/-- Currents of the samples dated inside a window. -/
def ShuntWin.take (w : ShuntWin) (l : List (Int × Nat)) : List Int := (l.filter (fun q => w.start ≤ q.2 ∧ q.2 < w.stop)).map (·.1)

/-- The phase current that a window of at least `ap` cyc yields from samples (R345). -/
def ShuntWin.yield (w : ShuntWin) (ap : Nat) (l : List (Int × Nat)) : Option (Nat × Int) :=
  if w.stop < w.start + ap ∨ (w.take l).isEmpty then none else some (w.phase, w.sign * mean (w.take l))

/-- Has a window stayed without a sample, now that every sample dated inside it has arrived (R67, R345)? -/
def State.winMissed (s : State) (w : ShuntWin) : Bool := !w.hit && decide (w.stop + s.get R.ROTOR_ADC_LAT_CYC ≤ s.rot.shunt.t0 + s.rot.shunt.len)

/-- The windows of the period that ends and of those before it that samples still concern, each marked where a sample has
arrived. -/
def State.openWins (s : State) : List ShuntWin :=
  (s.rot.shunt.old ++ s.windows).map (fun w => { w with hit := w.hit || !(w.take s.rot.shunt.samples).isEmpty })

/-- The windows that stay open to the next decision (R343): a sample may still arrive, or lies in the last 96 cyc. -/
def State.keptWins (s : State) : List ShuntWin :=
  s.openWins.filter (fun w => !s.winMissed w && decide (s.rot.shunt.t0 + s.rot.shunt.len < w.stop + max 96 (s.get R.ROTOR_ADC_LAT_CYC)))

/-- The samples dated in the last 96 cyc of the period wait for the next decision, the others are used (R343). -/
def State.usedSamples (s : State) : List (Int × Nat) := s.rot.shunt.samples.filter (fun q => q.2 + 96 ≤ s.rot.shunt.t0 + s.rot.shunt.len)

/-- The samples that wait for the next decision (R343). -/
def State.lateSamples (s : State) : List (Int × Nat) := s.rot.shunt.samples.filter (fun q => s.rot.shunt.t0 + s.rot.shunt.len < q.2 + 96)

/-- The phase currents that the ended period measures, and late samples of the periods before it (R343, R345). -/
def State.yields (s : State) : List (Nat × Int) :=
  (s.windows ++ s.rot.shunt.old).filterMap (fun w => w.yield (s.get R.ROTOR_PROBE2_APERT) s.usedSamples)

/-- Current of phase `p`: 0 U, 1 V, 2 W. -/
def State.iph (s : State) (p : Nat) : Int :=
  if p = 0 then s.rot.obs.iu else if p = 1 then s.rot.obs.iv else -(s.rot.obs.iu + s.rot.obs.iv)

/-- Prediction run of phase `p`. -/
def Shunt.pred (h : Shunt) (p : Nat) : Nat := if p = 0 then h.predU else if p = 1 then h.predV else h.predW

/-- Set the prediction run of phase `p`. -/
def Shunt.setPred (h : Shunt) (p n : Nat) : Shunt :=
  if p = 0 then { h with predU := n } else if p = 1 then { h with predV := n } else { h with predW := n }

/-- Back EMF of phase `p` from ψr and the speed, in units of 5·10^−49 V (R347). -/
def State.phaseEmf (s : State) (p : Nat) : Int :=
  let ls : Int := s.get R.ROTOR_MOT_IND_LS
  let ra := (s.rot.obs.psiA - ls * s.rot.obs.iu * 1000) * 1000000000
  let rb := s.rot.obs.psiB * 1000000000 - ls * (s.rot.obs.iu + 2 * s.rot.obs.iv) * 577350269 * 1000
  let w : Int := (if s.rot.rev then -1 else 1) * s.rot.obs.speedN * s.pp * 6283185307
  let ea := -(w * rb)
  let eb := w * ra
  if p = 0 then 2 * ea * 1000000000
  else if p = 1 then -ea * 1000000000 + eb * 1732050808 else -ea * 1000000000 - eb * 1732050808

/-- Predicted current of phase `p` after the period (R347): one division at the end. -/
def State.predict (s : State) (p : Nat) : Int :=
  let len : Int := s.rot.shunt.len
  let (a3, bq) := s.periodVolt
  let ls : Int := max 1 (s.get R.ROTOR_MOT_IND_LS)
  let rs : Int := s.get R.ROTOR_MOT_RES_RS
  let i := s.iph p
  -- six times the phase voltage × cyc: U = α, V = (−α + √3 β)/2, W = (−α − √3 β)/2
  let v6 := if p = 0 then 2 * a3 else if p = 1 then -a3 + 3 * bq else -a3 - 3 * bq
  i + ((5000 * v6 - 3 * rs * i * len) * 10 ^ 47 - 15000 * len * s.phaseEmf p) / (300 * 10 ^ 47 * s.gen.mhz * ls)

/-- Reconstruct the phase currents of the ended period (R345 to R347). -/
def State.reconstruct (s : State) : State :=
  let ys := s.yields
  let meas (p : Nat) : Option Int := (ys.find? (fun y => y.1 = p)).map (·.2)
  let got := (List.range 3).filter (fun p => (meas p).isSome)
  let s0 := s.openWins.foldl (fun t w => if s.winMissed w then (t.rotRaise 14).rotCount 8 else t) s
  let val (p : Nat) : Int := match meas p with
    | some i => i
    | none => s.predict p
  let (iu, iv) :=
    if got.length ≤ 1 then
      (match meas 2 with
       | some w => (val 0, -(val 0) - w)
       | none => (val 0, val 1))
    else match meas 0, meas 1, meas 2 with
      | some u, some v, _ => (u, v)
      | some u, none, some w => (u, -(u + w))
      | none, some v, some w => (-(v + w), v)
      | _, _, _ => (val 0, val 1)
  let run (h : Shunt) (p : Nat) : Shunt :=
    if 2 ≤ got.length ∨ p ∈ got then h.setPred p 0 else h.setPred p (h.pred p + 1)
  let h := run (run (run s0.rot.shunt 0) 1) 2
  let missing := if 2 ≤ got.length then 0 else 3 - got.length
  ((s0.rotMap (fun r => { r with shunt := { h with old := s.keptWins, samples := s.lateSamples }, obs := { r.obs with iu := iu, iv := iv } })).bumpBy
    R.ROTOR_PROBE_CNT_PRED missing)

/-- The currents of a period in STEP or RAMP: the shunt carries the current of the sector's high leg during the on-time, the low leg
returns it, and the floating phase carries none; without a sample the high leg's current is predicted (R342, R347; log entry 95). -/
def State.stepCurrents (s : State) : State :=
  let (h, l, _, _) := sectorOf s.rot.step.sector
  let use := (s.usedSamples.filter (fun q => s.rot.step.commAt ≤ q.2)).map (·.1)
  let i := if use.isEmpty then s.predict h else mean use
  let f (p : Nat) : Int := if p = h then i else if p = l then -i else 0
  s.rotMap (fun r => { r with obs := { r.obs with iu := f 0, iv := f 1 }, shunt := { r.shunt with samples := s.lateSamples } })

/-- Advance the observer over the ended period (R342). -/
def State.observe (s : State) : State :=
  let o := s.rot.obs
  let mhz : Int := s.gen.mhz
  let len : Int := s.rot.shunt.len
  let (a3, bq) := s.periodVolt
  let ls : Int := s.get R.ROTOR_MOT_IND_LS
  let rs : Int := s.get R.ROTOR_MOT_RES_RS
  let wc : Int := s.get R.ROTOR_OBS_WC
  let bw : Int := s.get R.ROTOR_OBS_SPD_BW
  let psi : Int := s.get R.ROTOR_PSI_NOM_PSI
  let ib := (o.iu + 2 * o.iv) * 577350 / 1000000
  let (c, n) := cosSin (o.elec + s.get R.ROTOR_ELEC_OFS_ANGLE)
  let la := ls * o.iu * 1000
  let lb := ls * ib * 1000
  let leak (p q : Int) : Int := wc * (p - q) * len / (mhz * 1000000)
  let pa := o.psiA + a3 * 100000 / (3 * mhz) - rs * o.iu * len * 10 / mhz - leak o.psiA (psi * c + la)
  let pb := o.psiB + bq * 100000 * 577350 / (1000000 * mhz) - rs * ib * len * 10 / mhz - leak o.psiB (psi * n + lb)
  let e := (vecAngle (pa - la) (pb - lb) + 65536 - s.get R.ROTOR_ELEC_OFS_ANGLE) % 65536
  let de := sgn 16 (e + 65536 - o.elec)
  let turn := if s.rot.rev then -de else de
  let raw := turn * 1000000000 * mhz * 1000000 / (65536 * s.pp * max 1 len)
  let alpha := min 1000000 (6283185 * bw * len / (mhz * 1000000))
  let spd := o.speedN + (raw - o.speedN) * alpha / 1000000
  let tq := 15 * s.pp * (pa * ib - pb * o.iu) / 1000000000000
  s.obsMap (fun o => { o with psiA := pa, psiB := pb, elec := e, speedN := spd, turn := turn, torque := tq })

/-- Magnitude of the rotor flux, pWb. -/
def State.psiR (s : State) : Nat :=
  let o := s.rot.obs
  let ls : Int := s.get R.ROTOR_MOT_IND_LS
  let ib := (o.iu + 2 * o.iv) * 577350 / 1000000
  vecLen (o.psiA - ls * o.iu * 1000) (o.psiB - ls * ib * 1000)

/-- Does a change of speed `d` (10^−9 rev/s) within `len` cyc exceed `ACC_LIM` (R354)? -/
def State.accOver (s : State) (d : Int) (len : Nat) : Bool := decide (s.get R.ROTOR_ACC_LIM_ACC * 1000 * len < d.natAbs * s.gen.mhz)

/-- Is the observer implausible, `prev` being the speed before the period (R354)? The run of decisions off the glint angle
has been counted. -/
def State.implausible (s : State) (prev : Int) : Bool :=
  let psi := s.get R.ROTOR_PSI_NOM_PSI * 1000000
  s.accOver (s.rot.obs.speedN - prev) s.rot.shunt.len ||
  decide (s.psiR * 2 < psi) || decide (psi * 3 < s.psiR * 2) ||
  decide (max 1 (s.get R.ROTOR_SYNC_N) ≤ s.rot.obs.syncBad)

/-- Count decisions whose observer angle is more than 30° electrical off the glint angle (R354). -/
def State.syncCount (s : State) : State :=
  let off := (sgn 16 (s.rot.obs.elec + 65536 - s.glintElec)).natAbs
  s.obsMap (fun o => { o with syncBad := if s.glintOk ∧ 5461 < off then o.syncBad + 1 else 0 })

/-- Highest speed reference, mrev/s (R323). -/
def State.refMax (s : State) : Nat := min (s.get R.ROTOR_SPD_LIM_SPEED) (min 8000000 (32000000 / s.pp))

/-- Move the reference towards the target at the ramp rates (R333). -/
def State.rampRef (s : State) : State :=
  let t := min s.rot.target s.refMax * 1000000
  let up := s.get R.ROTOR_RAMP_ACC * 1000 * s.rot.shunt.len / s.gen.mhz
  let dn := s.get R.ROTOR_RAMP_DEC * 1000 * s.rot.shunt.len / s.gen.mhz
  s.rotMap (fun r => { r with refN := if r.refN ≤ t then min t (r.refN + up) else max t (r.refN - dn) })

/-- Torque reference of the period (R343, R348, R353), with the integrators moved. -/
def State.torqueRef (s : State) : Int × State :=
  let len : Int := s.rot.shunt.len
  let mhz : Int := s.gen.mhz
  let soft (t : Int) : Int := if s.rot.softClamp || s.rot.chopFlt then max 0 t else t
  match s.rot.st with
  | .holdup =>
    let e : Int := (s.get R.ROTOR_HU_V_VREF : Int) - s.rot.vdc
    let i := s.rot.obs.huInteg + e * len
    let t := clampI 0 (s.get R.ROTOR_HU_V_TQ) ((s.get R.ROTOR_HU_PI_KP) * e / 10 + (s.get R.ROTOR_HU_PI_KI) * i / (10 * mhz * 1000))
    (soft (-t), s.obsMap (fun o => { o with huInteg := i }))
  | .flux =>
    let e : Int := (s.rot.refN : Int) / 1000000 - s.speed
    let i := s.rot.obs.integ + e * len
    let t := clampI (-(s.get R.ROTOR_TQ_LIM_BRAKE : Int)) (s.get R.ROTOR_TQ_LIM_MOTOR)
      ((s.get R.ROTOR_SPD_PI_KP) * e / 1000 + (s.get R.ROTOR_SPD_PI_KI) * i / (1000 * mhz * 1000000))
    (if s.rot.zeroTq || s.rot.zeroPf then 0 else soft t, s.obsMap (fun o => { o with integ := i }))
  | _ => (0, s)

/-- Torque comparator (R344). -/
def tqComp (old e band : Int) : Int :=
  if band ≤ e then 1 else if e ≤ -band then -1
  else if old = 1 ∧ e ≤ 0 then 0 else if old = -1 ∧ 0 ≤ e then 0 else old

/-- Flux comparator (R344). -/
def flComp (old e band : Int) : Int := if band ≤ e then 1 else if e ≤ -band then -1 else old

/-- Flux sector 1 to 6 of the angle of ψs (R344). -/
def fluxSector (th : Nat) : Nat := (6 * th + 32768) / 65536 % 6 + 1

/-- Wrap a vector index into 1 to 6. -/
def wrapVec (k : Int) : Nat := ((k - 1) % 6).toNat + 1

/-- The zero vector reached from vector `k` with fewer leg changes; a zero vector is kept (R344). -/
def zeroVec (k : Nat) : Nat :=
  if k = 0 ∨ k = 7 then k else if legChanges k 0 ≤ legChanges k 7 then 0 else 7

/-- Switching table (R344): in reverse the torque columns +1 and −1 exchange. -/
def switchVec (rev : Bool) (fl tq : Int) (sec prev : Nat) : Nat :=
  let tq := if rev then -tq else tq
  if tq = 0 then zeroVec prev
  else if fl = 1 then wrapVec ((sec : Int) + tq)
  else wrapVec ((sec : Int) + 2 * tq)

/-- The active vector that measures phase `p`, reached from `k` with the fewest leg changes, single-high vectors winning ties
(R346). -/
def probeVec (p k : Nat) : Nat :=
  let (a, b) := if p = 0 then (1, 4) else if p = 1 then (3, 6) else (5, 2)
  if legChanges k a ≤ legChanges k b then a else b

/-- The phase among `l` with the longest prediction run; the first of equals. -/
def longest (h : Shunt) : List Nat → Nat
  | [] => 0
  | p :: l => l.foldl (fun m q => if h.pred m < h.pred q then q else m) p

/-- The phase that main vector `k` alone would measure over the next period: its window lasts at least `APERT` (R345, R346). -/
def State.mainPhase (s : State) (k : Nat) : Option Nat :=
  let wait := if legChanges k s.rot.vec = 0 then 0 else s.deadtime + s.get R.ROTOR_PROBE_SETTLE
  if s.td < wait + s.get R.ROTOR_PROBE2_APERT then none else (shuntPhase k).map (·.1)

/-- Plan the next period with main vector `k` (R346, R347): its probe and its length; forced probes are announced. -/
def State.planPeriod (s : State) (k : Nat) : State :=
  let td := s.td
  let h := s.rot.shunt
  let main := s.mainPhase k
  let lim := max 1 (s.get R.ROTOR_PROBE_PRED_MAX)
  let start (s : State) (len : Nat) (pr : Option (Nat × Nat)) : State :=
    s.rotMap (fun r => { r with shunt := { r.shunt with
      t0 := s.cyc, len := len, probe := pr, prev := r.vec } })
  let forced := (List.range 3).filter (fun p => lim ≤ h.pred p)
  match forced with
  | _ :: _ =>
    let p := longest h forced
    if s.grave then start s td none
    else
      start (((s.rotRaise 10).bump R.ROTOR_PROBE_CNT_FORCED).rotCount 8) (td + s.twin) (some (probeVec p k, p))
  | [] =>
    let want := longest h ((List.range 3).filter (fun p => main ≠ some p))
    let need : Bool := match main with
      | none => (true : Bool)
      | some m => decide (m = longest h (List.range 3))
    if need ∧ s.twin * 256 ≤ td * s.get R.ROTOR_PROBE_PS_MAX then start s td (some (probeVec want k, want))
    else start s td none

/-- Drive the slices of the period that begins: the probe first, else the main vector, which then follows after TWIN
(`State.shuntTick`). -/
def State.driveVec (s : State) (k : Nat) : State :=
  let s := s.planPeriod k
  match s.rot.shunt.probe with
  | some (p, _) => (s.askVec p).rotMap (fun r => { r with vec := k })
  | none => s.askVec k

/-- The observer rate in the units of ω, within its u32 (12 R359, R369). -/
def State.omegaObs (s : State) : Nat := min (2 ^ 32 - 1) (s.rot.obs.speedN * 2 ^ 48 / (1000000000 * s.gen.mhz * 1000000)).toNat

/-- Is fusion available (12 R369)? -/
def State.fusion (s : State) : Bool :=
  s.flag R.ANGLE_CTRL_FUSE_EN && !s.rot.obs.lost &&
    (s.rot.st = .step || s.rot.st = .flux || s.rot.st = .holdup)

/-- What a decision of the drive after a period of `len` cyc does to ω, and in COASTING to θ (12 R369): θ has moved with ω over the period, and
now makes up the difference to the observer's mechanical increment. -/
def State.fuse (s : State) (len : Nat) : State :=
  if s.fusion then
    match s.ang.st with
    | .locked =>
      let k := s.get R.ANGLE_FUSE_FUSE_SHIFT
      if k = 15 then s
      else { s with ang := { s.ang with omega := ((s.ang.omega : Int) + ((s.omegaObs : Int) - s.ang.omega) / 2 ^ k).toNat } }
    | .coasting =>
      let s := s.moveFine (s.rot.obs.turn * 2 ^ 32 / s.pp - len * s.ang.omega)
      { s with ang := { s.ang with omega := s.omegaObs } }
    | _ => s
  else s

/-- Loss of synchronism (R354); `prev` is the last plausible speed, which the drive uses on (R324). -/
def State.lossSync (s : State) (prev : Int) : State :=
  let hu := s.rot.st = .holdup
  let s := (s.rotRaise 5).rotCount 3
  let s := s.obsMap (fun o => { o with lost := true, syncBad := 0, speedN := prev })
  let s := if hu then s.rotRaise 11 else s
  s.zeroThen .lossSync

/-- What follows the last period of zero torque (R353, R354). -/
def State.zeroEnd (s : State) : State :=
  match s.rot.after with
  | .none => s
  | .holdupEnd => ((s.rotMap (fun r => { r with after := .none })).safeOff).rotRaise 11
  | .lossSync =>
    let s := (s.rotMap (fun r => { r with after := .none })).goCatch
    if s.rot.pendOff then s.safeOff else s

/-- A probe slice ends TWIN after the start of its period, and the main vector follows (R346). -/
def State.shuntTick (s : State) : State :=
  let on : Bool := match s.rot.st with
    | .flux | .holdup => true
    | .catch_ => s.rot.rcGlint && !s.rot.rcFailed
    | _ => false
  if on ∧ s.rot.shunt.probe.isSome ∧ s.cyc = s.rot.shunt.t0 + s.twin then s.askVec s.rot.vec else s

/-- The vector of the next period from the comparators (R344), torque relative to the direction in force. -/
def State.nextVec (s : State) (tref : Int) : State :=
  let o := s.rot.obs
  let t := if s.rot.rev then -o.torque else o.torque
  let mag : Int := vecLen o.psiA o.psiB / 1000000
  let tq := tqComp o.tqCmp (tref - t) (s.get R.ROTOR_BANDS_TQ)
  let fl := flComp o.flCmp ((s.get R.ROTOR_PSI_NOM_PSI : Int) - mag) (s.get R.ROTOR_BANDS_FLUX)
  let sec := fluxSector (vecAngle o.psiA o.psiB)
  let s := s.obsMap (fun o => { o with tqCmp := tq, flCmp := fl })
  let s := s.stepMap (fun t => { t with sector := sec - 1 })
  s.driveVec (switchVec s.rot.rev fl tq sec s.rot.vec)

/-- The handover from FLUX to STEP (R341). -/
def State.fluxToStep (s : State) : State := s.stepStart s.elecSector s.tsOf none

/-- The vector of the next period by the torque reference (R343, R344). -/
def State.runVec (s : State) : State :=
  let (t, s) := s.torqueRef
  s.nextVec t

/-- A decision in FLUX or HOLDUP after the observer has been advanced (R326, R353). -/
def State.decideRun (s : State) : State :=
  let sec := fluxSector (vecAngle s.rot.obs.psiA s.rot.obs.psiB)
  if s.rot.st = .holdup ∧ s.speedAbs < s.get R.ROTOR_HU_MIN_SPD_SPEED then
    (s.zeroThen .holdupEnd).driveVec (zeroVec s.rot.vec)
  else if s.rot.st = .flux ∧ s.speedAbs < s.get R.ROTOR_FLUX_SPD_OFF * 1000 ∧ s.rot.refN = 0 then s.goCoast
  else if s.rot.st = .flux ∧ s.speedAbs < s.get R.ROTOR_FLUX_SPD_OFF * 1000 ∧ sec ≠ s.rot.step.sector + 1 then s.fluxToStep
  else s.runVec

/-- FLUX_DECISION (R326, R333, R341 to R348, R353 to R355; 12 R368, R369): the decision at the end of a period. In STEP and
RAMP the observer runs and the reference moves; in CATCH it confirms a glint re-catch; in the other states nothing runs. -/
def execFluxDecision (s : State) : Out :=
  let prev := s.rot.obs.speedN
  match s.rot.st with
  | .flux | .holdup =>
    if s.rot.zeroN ≠ 0 then
      (let s := (s.rotMap (fun r => { r with zeroN := r.zeroN - 1 })).driveVec (zeroVec s.rot.vec)
       .next (if s.rot.zeroN = 0 then s.zeroEnd else s))
    else
      let s := s.reconstruct.observe.syncCount.rampRef
      let s := s.fuse s.rot.shunt.len
      .next (if s.implausible prev then (s.lossSync prev).driveVec (zeroVec s.rot.vec) else s.decideRun)
  | .step | .ramp =>
    if s.rot.zeroN ≠ 0 then
      (let s := (s.rotMap (fun r => { r with zeroN := r.zeroN - 1 }))
       .next (if s.rot.zeroN = 0 then s.zeroEnd else s))
    else
      let s := (s.stepMap (fun t => t.cut s.cyc)).stepCurrents.observe.syncCount
      let s := if s.rot.st = .ramp then s else s.rampRef.fuse s.rot.shunt.len
      let bad := s.implausible prev
      let s := s.rotMap (fun r => { r with shunt := { r.shunt with t0 := s.cyc, len := s.td }, step := { r.step with cuts := [] } })
      .next (if s.rot.st = .ramp then s
          else if bad then (s.lossSync prev).askSector
          else if s.rot.refN = 0 then s.goCoast
          else s)
  | .catch_ =>
    if s.rot.rcGlint && !s.rot.rcFailed then
      (let s := s.reconstruct.observe.syncCount
       if s.implausible prev then .next (((s.rotMap (fun r => { r with rcOk := 0 })).obsMap (fun o => { o with speedN := prev })).nextVec 0)
       else
         let s := s.rotMap (fun r => { r with rcOk := r.rcOk + 1 })
         .next (if s.get R.ROTOR_RECATCH_CONFIRM ≤ s.rot.rcOk then
             (let s := s.catchDone
              if s.rot.st = .step then s else s.runVec)
           else s.nextVec 0))
    else .next s
  | _ => .next s

end Sys2Proof.Machine
end

