-- ==== Sys2Proof/Machine/Angle.lean ====
section
/-!
DEFINITION. The angle unit: marks, misses, states, the virtual rotor (12_angle_calendar.md R359 to R369, R375, R376).
A mark is taken at its arrival: θ(t) is the θ the state holds (log entry 1).
-/

namespace Sys2Proof.Machine

/-- Change the angle unit. -/
def State.angMap (s : State) (f : AngS → AngS) : State := { s with ang := f s.ang }

/-- Number of facets: 0 acts as 1, above 64 as 64 (R364, R376). -/
def State.facets (s : State) : Nat := min 64 (max 1 (s.get R.ANGLE_GEOM_FACETS))

/-- Halo half-width in counts; 0 acts as 1. -/
def State.halo (s : State) : Nat := max 1 (s.get R.ANGLE_GEOM_HALO)

/-- Signed offset of facet `k` (R364). -/
def State.facetOfs (s : State) (k : Nat) : Int :=
  sgn 8 (bits (s.rd ((R.ANGLE_FACET_OFS_OFS0 0).addr + 4 * (k / 4))).toNat (8 * (k % 4)) 8)

/-- Predicted position of facet `k` (R364). -/
def State.facetPos (s : State) (k : Nat) : Nat :=
  let n := s.facets
  ((((k * 65536 + n / 2) / n : Nat) + s.facetOfs k) % 65536).toNat

/-- Expect facet `k` at its first passage after the stamp `b` (R365): its position and halo take the registers' present values (12, "ANGLE
registers"). -/
def State.expect (s : State) (k b : Nat) : State :=
  let g := (s.facetPos k + 65536 - b % 65536) % 65536
  s.angMap (fun a => { a with facet := k, win := ((b + (if g = 0 then 65536 else g)) % 2 ^ 32, s.halo) })

/-- The error of θ against the expected facet, as a signed count modulo 65,536 (R366). -/
def State.markErr (s : State) : Int := sgn 16 (s.ang.win.1 % 65536 + 65536 - s.angle)

/-- How far the expected passage of the expected facet lies ahead, in counts (R365): with one facet a whole revolution after a mark. -/
def State.markGap (s : State) : Int := sgn 32 (s.ang.win.1 + 2 ^ 32 - s.stamp)

/-- Facet spacing after facet `k` (R364). -/
def State.facetGap (s : State) (k : Nat) : Nat :=
  if s.facets = 1 then 65536 else (s.facetPos ((k + 1) % s.facets) + 65536 - s.facetPos k) % 65536

/-- Does the halo fit every facet spacing (R361)? -/
def State.haloFits (s : State) : Bool := (List.range s.facets).all (fun k => decide (2 * s.halo < s.facetGap k))

/-- Enter LOCKED, COASTING or SEARCH with its event and its fault source (R362, R375). -/
def State.angGo (s : State) (st : AngSt) : State :=
  let s := s.angMap (fun a => { a with st := st })
  match st with
  | .locked => s.raise .angle 0 0
  | .coasting => (s.raise .angle 0 1).count 17 0
  | .search => ((s.angMap (fun a => { a with omega := s.get R.ANGLE_VSTEP_RATE, missRun := 0, accRun := 0 })).raise .angle 0 2).count 18 0
  | _ => s

/-- Move θ by `c` counts (R366). -/
def State.moveTheta (s : State) (c : Int) : State := s.moveFine (c * 2 ^ 32)

/-- The interval between accepted key marks (R376, `REV_CYC`). -/
def State.keyMark (s : State) : State :=
  let s1 := match s.ang.lastKey with
    | some t => s.set R.ANGLE_REV_CYC_CYC (s.cyc - t)
    | none => s
  s1.angMap (fun a => { a with lastKey := some s.cyc })

/-- A key slip: `SLIP_CNT` and its fault source (R367, R375). -/
def State.slip (s : State) : State := (s.bump R.ANGLE_SLIP_CNT_CNT).count 19 0

/-- A glint that is accepted while the drive watches for one is noted (11 R326). -/
def State.glintSeen (s : State) : State :=
  if s.rot.st = .spinCheck then s.stepMap (fun t => { t with sawGlint := true }) else s

/-- An accepted mark of facet `k` with error `e` (R366, R376): `LAST_ERR`, `ACC_CNT`, and the drive's spin check. -/
def State.markTaken (s : State) (k : Nat) (e : Int) : State :=
  (((s.set R.ANGLE_LAST_ERR_ERR (unsgn 16 e)).set R.ANGLE_LAST_ERR_FACET k).bump R.ANGLE_ACC_CNT_CNT).glintSeen

/-- Acquisition at a key mark (R366, R367): θ(t) = P(0), facet 1 mod N expected, the observer rate where fusion is available. -/
def State.acquire (s : State) : State :=
  let e := sgn 16 (s.facetPos 0 + 65536 - s.angle)
  let s := s.angMap (fun a => { a with
    st := .acquire, theta := s.facetPos 0 * 2 ^ 32, missRun := 0, accRun := 0,
    last := some ⟨0, s.cyc, a.rev * 65536 + s.facetPos 0⟩, anyNext := !s.fusion,
    omega := if s.fusion then s.omegaObs else a.omega })
  (((s.expect (1 % s.facets) s.stamp).markTaken 0 e).keyMark).slotJump s.slotNow

/-- The rate after an accepted mark of the expected facet (R366, R367). -/
def State.rateAt (s : State) : Nat :=
  match s.ang.last with
  | none => s.ang.omega
  | some m =>
    let dc0 := (s.ang.win.1 % 65536 + 65536 - s.facetPos m.facet) % 65536
    let dc := if dc0 = 0 then 65536 else dc0
    let dt := s.cyc - m.cyc
    let w := s.ang.omega
    if dt = 0 then w
    else if s.ang.anyNext then dc * 2 ^ 32 / dt % 2 ^ 32
    else if 65536 < (s.stamp + 2 ^ 32 - m.stamp) % 2 ^ 32 then w
    else if ((dt * w : Nat) - (dc * 2 ^ 32 : Nat) : Int).natAbs * 1000 ≤ dc * 2 ^ 32 * s.get R.ANGLE_TRACK_RATE_TOL then
      ((w : Int) + ((dc * 2 ^ 32 / dt : Nat) - (w : Int)) / 2 ^ s.get R.ANGLE_TRACK_RATE_SHIFT).toNat % 2 ^ 32
    else w

/-- Accept a mark as the expected facet (R365, R366); `inHalo` says that it lay in the halo. -/
def State.acceptMark (s : State) (inHalo : Bool) : State :=
  let k := s.ang.facet
  let e := s.markErr
  let slew : Int := s.get R.ANGLE_TRACK_SLEW
  let w := s.rateAt
  let here := s.stamp
  let s := (s.moveTheta (clampI (-slew) slew e))
  let s := if slew < e.natAbs then s.raise .angle 0 6 else s
  let s := s.markTaken k e
  -- the passage of facet k that this mark is taken for: the one nearest to θ
  let base := (((s.stamp : Int) + s.markErr) % 2 ^ 32).toNat
  let s := s.angMap (fun a => { a with
    omega := w, last := some ⟨k, s.cyc, here⟩, anyNext := false, missRun := 0,
    accRun := if inHalo then a.accRun + 1 else a.accRun })
  let s := s.expect ((k + 1) % s.facets) base
  if max 1 (s.get R.ANGLE_TRACK_ACQ_N) ≤ s.ang.accRun ∧ (s.ang.st = .acquire ∨ s.ang.st = .coasting) then
    (s.angMap (fun a => { a with accRun := 0 })).angGo .locked
  else s

/-- A mark in ACQUIRE, LOCKED or COASTING (R365, R367). -/
def State.trackMark (s : State) (key : Bool) : State :=
  let k := s.ang.facet
  if s.ang.anyNext then
    (let s := if key then s.keyMark else s
     s.acceptMark false)
  else if s.ang.win.2 < s.markGap.natAbs then ((s.bump R.ANGLE_SPUR_CNT_CNT).raise .angle 0 3).count 16 0
  else if s.ang.st = .acquire then
    (if key ∧ k ≠ 0 then s.slip.acquire
     else (if key then s.keyMark else s).acceptMark true)
  else if key ∧ k ≠ 0 then (s.slip.raise .angle 0 5).keyMark.acceptMark true
  else if key = false ∧ k = 0 then s.slip.acceptMark true
  else (if key then s.keyMark else s).acceptMark true

/-- GLINT (R360, R365 to R368): a level of `GLINT`, with `GLINT_KEY` sampled at a rising edge (02 R68). -/
def execGlint (level key : Bool) (s : State) : Out :=
  let rise : Bool := level && !s.pins.glint
  let s := { s with pins := { s.pins with glint := level, glintKey := key } }
  .next (if !rise then s
    else match s.ang.st with
      | .search => if key then s.acquire else s
      | .acquire | .locked | .coasting => s.trackMark key
      | _ => s)

/-- FACET_MISS (R362, R365): the angle has passed the halo of the expected facet with no mark accepted. A mark that is accepted
regardless of the halo is not missed (R367). -/
def execFacetMiss (s : State) : Out :=
  .next (if s.ang.anyNext ∨ -(s.ang.win.2 : Int) ≤ s.markGap then s
    else match s.ang.st with
    | .acquire | .locked | .coasting =>
      let s := ((s.bump R.ANGLE_MISS_CNT_CNT).raise .angle 0 4).count 15 0
      let s := (s.expect ((s.ang.facet + 1) % s.facets) s.ang.win.1).angMap (fun a => { a with missRun := a.missRun + 1, accRun := 0 })
      if max 1 (s.get R.ANGLE_TRACK_MISS_K) ≤ s.ang.missRun then
        (if s.ang.st = .acquire then s.angGo .search
         else if s.ang.st = .locked then s.angGo .coasting
         else s)
      else s
    | _ => s)

/-- COAST_MAX_EXPIRE (R362): no mark accepted for `FUSE.COAST_MAX` ms in COASTING. -/
def execCoastMaxExpire (s : State) : Out := .next (if s.ang.st = .coasting then s.angGo .search else s)

/-- Effect of a write of `ANGLE.CTRL` (R361, R362): MODE changes only while ENABLE = 0; ENABLE := 1 with bad settings is
refused. -/
def angCtrlWr (data : Word) (s : State) : State :=
  let en := s.flag R.ANGLE_CTRL_ENABLE
  let s := s.set R.ANGLE_CTRL_FUSE_EN (b2n (data.getLsbD 9))
  let mode := data.getLsbD 8
  let s :=
    if mode = s.flag R.ANGLE_CTRL_MODE then s
    else if en then s.raise .angle 0 7
    else s.set R.ANGLE_CTRL_MODE (b2n mode)
  if data.getLsbD 0 then
    (if en then s
     else if s.flag R.ANGLE_CTRL_MODE && (!s.gen.rotor || !s.haloFits) then s.raise .angle 0 7
     else
       let s := s.set R.ANGLE_CTRL_ENABLE 1
       let st : AngSt := if s.flag R.ANGLE_CTRL_MODE then .search else .virtual
       let s := s.angMap (fun a => { a with st := st, omega := s.get R.ANGLE_VSTEP_RATE, missRun := 0, accRun := 0, last := none,
                                            anyNext := false, lastKey := none, umbraRev := [] })
       (if st = .search then s.raise .angle 0 2 else s).slotRead)
  else
    (s.set R.ANGLE_CTRL_ENABLE 0).angMap (fun a => { a with
      st := .off, theta := 0, omega := 0, rev := 0, facet := 0, missRun := 0, accRun := 0, last := none, anyNext := false,
      lastKey := none, slot := (({ s with ang := { s.ang with theta := 0 } } : State)).slotNow, marked := [] })

/-- ANGLE_ENABLE: a write of `ANGLE.CTRL` (R361, R362). -/
def execAngleEnable (data : Word) (s : State) : Out :=
  .next (s.cpWr R.ANGLE_CTRL_ENABLE.addr 0xF#4 data (angCtrlWr data))

/-- Effect of a write of `ANGLE.VSTEP` (R363): the rate of VIRTUAL and SEARCH from the next cyc, no jump of θ. -/
def vstepWr (data : Word) (s : State) : State :=
  let s := s.set R.ANGLE_VSTEP_RATE data.toNat
  match s.ang.st with
  | .virtual | .search => s.angMap (fun a => { a with omega := data.toNat })
  | _ => s

/-- VSTEP_WRITE (R363). -/
def execVstepWrite (data : Word) (s : State) : Out :=
  .next (s.cpWr R.ANGLE_VSTEP_RATE.addr 0xF#4 data (vstepWr data))

end Sys2Proof.Machine
end

