-- ==== Sys2Proof/Machine/MapRows.lean ====
section
/-!
DEFINITION. The commands of the map cache, the tile completion records and the streams
(09_placement_hoops.md R270 to R279; 10_rings_dma.md R300, R302).
-/

namespace Sys2Proof.Machine

/-- The first ended memory-port read of a kind of transfer, taken out of the port. -/
def State.mpTake (s : State) (p : MpUse → Bool) : Option (MpRead × State) :=
  match s.mp.done.find? (fun r => p r.use) with
  | some r => some (r, { s with mp := { s.mp with done := s.mp.done.erase r } })
  | none => none

/-! ## Cache lines -/

/-- Lines that waiting operations need and that are neither valid nor on their way are fetched (R272). -/
def State.mapRefetch (s : State) : State :=
  ((s.map.waiting.flatMap MapOp.lines).filter (fun l => !s.mapHas l)).foldl State.mapFetch s

/-- The end of a `cyc`: operations that wait and whose lines are valid are done, updates first (R273). -/
def State.mapTick (s : State) : State :=
  if s.map.waiting = [] then s else (s.mapDrain s.map.waiting.length).mapRefetch

/-- Perform what waits and can run now, and fetch what is missing. -/
def State.mapSettle (s : State) : State := (s.mapDrain s.map.waiting.length).mapRefetch

/-- A fill of line `l` has returned with `RD_ERR` (R272): no line is installed, and every operation that waits for it ends
without an entry. -/
def State.mapFillErr (s : State) (l : Nat) : State :=
  let lost := s.map.waiting.filter (fun op => decide (l ∈ op.lines))
  lost.foldl State.mapLost (s.mapMap (fun m => { m with waiting := m.waiting.filter (fun op => decide (l ∉ op.lines)) }))

/-- MAP_FILL (R271, R272): the fill that ended first is installed, and what waits for it proceeds. -/
def execMapFill (s : State) : Out :=
  match s.mpTake (fun u => match u with | .mapLine _ => true | _ => false) with
  | none => .next s
  | some (r, s) =>
    match r.use with
    | .mapLine l =>
      let s := s.mapMap (fun m => { m with fills := m.fills.erase l })
      .next (if r.bad ≠ [] then (s.mapFillErr l).mapSettle else (s.mapInstall l (lineEntries r.data)).mapSettle)
    | _ => .next s

/-- MAP_WRITE_BACK (R271): the dirty line evicted first is written back. -/
def execMapWriteBack (s : State) : Out :=
  match s.map.evicted with
  | [] => .next s
  | p :: rest => .next ((s.mapMap (fun m => { m with evicted := rest })).mapWriteBack p.1 p.2)

/-! ## FLUSH and INVAL -/

/-- Effect of a write of `MAP.CMD` (R274): every line dirty now is written back, after the copies evicted before it; ignored while BUSY. -/
def mapCmdWr (data : Word) (s : State) : State :=
  let op := data.toNat % 4
  if s.flag R.MAP_STAT_BUSY ∨ op = 0 ∨ op = 3 then s
  else
    let dirty := s.map.lines.filter (fun p => p.2.dirty)
    let out := (s.map.evicted ++ s.map.wbs).map (fun p => p.1)
    let older := s.map.evicted
    let s := dirty.foldl (fun s p => s.mapSeen p.1 p.2.way) s
    let s := (older ++ dirty.map (fun p => (p.1, p.2.entries))).foldl (fun s p => s.mapWriteBack p.1 p.2) (s.mapMap (fun m => { m with evicted := [] }))
    let s := s.mapMap (fun m => { m with
      lines := m.lines.map (fun p => (p.1, { p.2 with dirty := false }))
      flush := some (dirty.map (fun p => p.1) ++ out, op = 2) })
    s.set R.MAP_STAT_BUSY 1

/-- FLUSH (R274): a write of 1 to `MAP.CMD`. -/
def execMapFlush (s : State) : Out := .next (s.cpWr R.MAP_CMD_OP.addr 0xF#4 1 (mapCmdWr 1))

/-- INVAL (R274): a write of 2 to `MAP.CMD`. -/
def execMapInval (s : State) : Out := .next (s.cpWr R.MAP_CMD_OP.addr 0xF#4 2 (mapCmdWr 2))

/-- FLUSH_DONE (R274): the lines of the running FLUSH or INVAL have been written back; INVAL then invalidates every line. -/
def execFlushDone (s : State) : Out :=
  match s.map.flush with
  | none => .next s
  | some (ls, inval) =>
    if (s.map.evicted ++ s.map.wbs).any (fun p => decide (p.1 ∈ ls)) then .next s
    else
      let s := s.mapMap (fun m => { m with flush := none, lines := if inval then [] else m.lines })
      .next (((s.set R.MAP_STAT_BUSY 0).raise .map 0 0).mapRefetch)

/-! ## Lookups, updates and the base -/

/-- Effect of a write of `MAP.LOOKUP_TILE` (R272). -/
def lookupWr (data : Word) (s : State) : State := (s.set R.MAP_STAT_LK_BUSY 1).mapSubmit (.lookup (data.toNat % 2 ^ 31))

/-- LOOKUP_TILE (R272). -/
def execLookupTile (data : Word) (s : State) : Out := .next (s.cpWr R.MAP_LOOKUP_TILE_TILENO.addr 0xF#4 data (lookupWr data))

/-- Effect of a write of `MAP.SET_ADDR` (R272, R273). -/
def setAddrWr (data : Word) (s : State) : State := s.mapSubmit (.set (s.get R.MAP_SET_TILE_TILENO) data.toNat)

/-- SET_ADDR (R273). -/
def execSetAddr (data : Word) (s : State) : Out := .next (s.cpWr R.MAP_SET_ADDR_TADDR.addr 0xF#4 data (setAddrWr data))

/-- Is any hoop enabled? -/
def State.anyHoop (s : State) : Bool := (List.range 64).any (fun h => (s.hoop h).st ≠ .off)

/-- Effect of a write of `MAP.BASE_LO`, `BASE_HI` or `ENTRIES` (R270). -/
def mapBaseWr (reg : Nat) (be : BitVec 4) (data : Word) (s : State) : State :=
  if s.anyHoop then s.raise .map 0 1 else s.regMerge (R.MAP_BASE_LO_ADDR.addr + 4 * reg) be data

/-- MAP_BASE_WRITE (R270): a write of BASE_LO, BASE_HI or ENTRIES, numbered 0 to 2. -/
def execMapBaseWrite (reg : Fin 3) (data : Word) (s : State) : Out :=
  .next (s.cpWr (R.MAP_BASE_LO_ADDR.addr + 4 * reg) 0xF#4 data (mapBaseWr reg 0xF#4 data))

/-! ## Tile completion records -/

/-- The first 15 bytes of a tile completion record (R276). -/
def tileRecBytes (r : TileRec) : List Byte :=
  leBytes 4 r.tileno ++ leBytes 4 r.taddr ++ leBytes 2 r.stream ++ leBytes 1 r.status ++ leBytes 1 r.flags ++ leBytes 3 r.serial

/-- TILE_COMPLETION (R276): the record of the map update applied first, whose completion ring has no record on its way, goes to that
ring; without room there it is dropped, LOST counts and CQ_OVERFLOW is raised (10 R300). -/
def execTileCompletion (s : State) : Out :=
  match s.map.records.find? (fun r => !s.cqBusy (s.sget r.stream 4 2 % 16384)) with
  | none => .next s
  | some r =>
    let s := s.mapMap (fun m => { m with records := m.records.erase r })
    let cq := s.sget r.stream 4 2 % 16384
    .next (if (s.ring cq).en && s.cqRoom cq then s.cqWrite cq cq (tileRecBytes r) 0 none
      else (s.rput cq 0x1C 4 ((s.rget cq 0x1C 4 + 1) % 2 ^ 32)).ringRaise cq 3)

/-! ## Streams -/

/-- Is a stream enabled? -/
def State.strmOn (s : State) (st : Nat) : Bool := tget (fun _ => false) s.strms st

/-- Set EN of a stream, its mirror in CMPL [7] and the count of enabled streams (R277, R294). -/
def State.strmSet (s : State) (st : Nat) (en : Bool) : State :=
  let s : State := { s with strms := tput (fun _ => false) s.strms st en }
  (s.sput st 3 1 (s.sget st 3 1 % 128 + b2n en * 128)).set R.STRM_ENABLED_CNT s.strms.length

/-- The code of the first check of ENABLE that fails; 0 when all pass (R278). -/
def State.strmCheck (s : State) (st : Nat) : Nat :=
  let h := s.sget st 0 1
  let p := s.sget st 1 1
  if s.strmOn st then 1
  else if 64 ≤ h ∨ (s.hoop h).st = .off then 2
  else if s.gen.nlane ≤ s.sget st 2 1 % 16 then 3
  else if p ≠ 0xFF ∧ (8 ≤ p ∨ !s.flag (R.LACE_PROF0_EN p) ∨ !(maskChans (s.profMask p)).all (fun c => decide (c ∈ s.hoopChans h))) then 4
  else 0

/-- Places of a stream's or a hoop's reserved slots: channel and place. -/
def State.reservedPlaces (s : State) (p : PlaceS → Bool) : List (Nat × Nat) :=
  (List.range s.gen.nch).flatMap (fun n =>
    ((List.range 8).filter (fun k => (s.place n k).reserved.isSome && p (s.place n k))).map (fun k => (n, k)))

/-- Fill reserved slots at once (R288). -/
def State.fillAll (s : State) (ps : List (Nat × Nat)) : State := ps.foldl (fun s p => s.fillTile p.1 p.2) s.cancelAll

/-- Effect of a write of `STRM.CMD` (R278). -/
def strmCmdWr (data : Word) (s : State) : State :=
  let st := bits data.toNat 16 12
  let op := data.toNat % 4
  if op = 1 then
    let r := s.strmCheck st
    (if r = 0 then s.strmSet st true else s).set R.STRM_CMD_STAT_RESULT r
  else if op = 2 then
    let s := s.set R.STRM_CMD_STAT_RESULT 0
    if s.strmOn st then (s.strmSet st false).fillAll (s.reservedPlaces (fun v => v.stream = st)) else s
  else s

/-- The word of a command register with the operation in [1:0] and a number in [27:16]. -/
def cmdWord (x op : Nat) : Word := BitVec.ofNat 32 (x * 65536 + op)

/-- STREAM_ENABLE (R278). -/
def execStreamEnable (stream : BitVec 12) (s : State) : Out :=
  .next (s.cpWr R.STRM_CMD_OP.addr 0xF#4 (cmdWord stream.toNat 1) (strmCmdWr (cmdWord stream.toNat 1)))

/-- STREAM_DISABLE (R278). -/
def execStreamDisable (stream : BitVec 12) (s : State) : Out :=
  .next (s.cpWr R.STRM_CMD_OP.addr 0xF#4 (cmdWord stream.toNat 2) (strmCmdWr (cmdWord stream.toNat 2)))

end Sys2Proof.Machine
end

