-- ==== Sys2Proof/Machine/HoopRows.lean ====
section
/-!
DEFINITION. The commands of the hoops: enable, disable, re-arm, triggers, the erase front, relocation and fill tiles
(09_placement_hoops.md R280 to R294).
-/

namespace Sys2Proof.Machine

/-! ## Enable checks (R293) -/

/-- Does a block set that the block keeps for itself lie in the hoop's range on a member LUN (check 4)? -/
def State.hoopKept (s : State) (h : Nat) : Bool :=
  let lo := s.hget h 0x14 2
  let hi := s.hget h 0x16 2
  let inR (b : Nat) : Bool := decide (lo ≤ b) && decide (b ≤ hi)
  let luns := s.hoopLuns h
  (s.hoopChans h).any (fun c =>
    (decide (s.sealLun c ∈ luns) && (inR (s.get R.PWR_LEDG_BLK_BLK_A) || inR (s.get R.PWR_LEDG_BLK_BLK_B) || inR (s.get R.PWR_SEAL_AREA_BLK))) ||
    ((c = s.get R.DEC_ALM_CH_CH_X || c = s.get R.DEC_ALM_CH_CH_Y) && decide (s.get R.DEC_ALM_CH_LUN ∈ luns) &&
      (inR (s.get R.DEC_ALM_BLK_BLK_A) || inR (s.get R.DEC_ALM_BLK_BLK_B))))

/-- BASE of a hoop. -/
def State.hoopBase (s : State) (h : Nat) : Nat := s.hget h 4 4 % 2 ^ 31

/-- TILES of a hoop. -/
def State.hoopTiles (s : State) (h : Nat) : Nat := s.hget h 8 4

/-- Do the tile-number ranges of two hoops meet? -/
def State.hoopsMeet (s : State) (h k : Nat) : Bool :=
  decide (s.hoopBase h < s.hoopBase k + s.hoopTiles k) && decide (s.hoopBase k < s.hoopBase h + s.hoopTiles h)

/-- The code of the first check of ENABLE that fails; 0 when all pass (R293). -/
def State.hoopCheck (s : State) (h : Nat) : Nat :=
  let tiles := s.hoopTiles h
  let top := s.hoopBase h + tiles
  let chans := s.hoopChans h
  let luns := s.hoopLuns h
  let lead := s.hoopLead h
  let pages := s.hget h 0x18 2
  if tiles = 0 ∨ s.mapEntries < top ∨ 0x7FFFFFFE < top then 1
  else if (List.range 64).any (fun k => k ≠ h && (s.hoop k).st ≠ .off && s.hoopsMeet h k) then 2
  else if chans = [] ∨ luns = [] ∨ chans.any (fun c => decide (s.gen.nch ≤ c)) ∨ (!s.gen.lun2 ∧ luns.any (fun l => decide (8 ≤ l))) then 3
  else if 2048 ≤ s.hget h 0x16 2 ∨ s.hget h 0x16 2 + 1 < s.hget h 0x14 2 + lead + 2 ∨ lead = 0 ∨ s.hoopKept h then 4
  else if pages = 0 ∨ 2048 < pages ∨ (s.hoopTlc h ∧ pages % 3 ≠ 0) then 5
  else if tiles < s.hget h 0x0C 4 ∨ s.hget h 0x5C 4 < s.hget h 0x58 4 ∨ s.hoopGroups h ≤ s.hget h 0x60 2 then 6
  else if s.hoopTlc h ∧ chans.any (fun c => !s.flag (R.CH_PFX_TLC_OK c) || decide (s.sealLun c ∈ luns)) then 7
  else if (s.hoop h).st ≠ .off then 8
  else 0

/-- Members whose block set of row `r` is marked bad. -/
def State.badMembers (s : State) (h r : Nat) : List Member :=
  ((s.hoopLuns h).flatMap (fun l => (s.hoopChans h).map (fun c => (⟨r, c, l⟩ : Member)))).filter (fun m =>
    s.blkBad (taddrOf m.ch m.lun (s.rowBlk h r) 0))

/-- The bitmap words of a row's members have been read: those with an error are reported (05 R177, 14 R416). -/
def State.membersSeen (s : State) (h r : Nat) : State :=
  ((s.hoopLuns h).flatMap (fun l => (s.hoopChans h).map (fun c => (c, l)))).foldl (fun s m => s.blkSeen (taddrOf m.1 m.2 (s.rowBlk h r) 0)) s

/-- Allocation of a hoop starts at the first slot of the current group. A row that is already erased keeps its members without slots when this
hoop erased it; a restored one has slots on the members whose block set is not marked bad now (R280; log entry 93). Erases and wordlines
still running since an earlier DISABLE keep their rows and LUNs waiting (R283, R287). -/
def State.hoopAlloc (s : State) (h : Nat) : State :=
  let row := s.hget h 0x58 4
  let rows := (List.range (min (s.hget h 0x5C 4 - row) (s.hoopRows h))).map (fun i => row + i)
  let known := (s.hoop h).fronted.filter (fun p => decide (p.1 ∈ rows) && decide (p.2 = s.rowBlk h p.1))
  let mine (r : Nat) : Bool := known.any (fun p => p.1 = r)
  let bad := (rows.filter (fun r => !mine r)).flatMap (s.badMembers h)
  s.hoopMap h (fun x => { x with
    taken := [], takenNext := [], noSlot := x.noSlot.filter (fun m => mine m.row) ++ bad, stall := [], tbl := [], tblAsk := []
    fronted := known, startRow := x.startRow.filter mine })

/-- Arm a hoop that passes the checks (R289). -/
def State.hoopArm (s : State) (h : Nat) : State := ((s.hoopAlloc h).hoopSet h .armed).rmFollow h

/-! ## Commands -/

/-- Effect of a write of `HOOP.CMD` (R289, R293, R294); a standby's hoops stay OFF (16 R469). -/
def hoopCmdWr (data : Word) (s : State) : State :=
  let h := bits data.toNat 16 6
  let op := data.toNat % 4
  let st := (s.hoop h).st
  if op = 1 then
    let r := if s.isStandby then 8 else s.hoopCheck h
    (if r = 0 then s.hoopArm h else s).set R.HOOP_CMD_STAT_RESULT r
  else if op = 2 then
    if st = .off then s.set R.HOOP_CMD_STAT_RESULT 8
    else
      let s := (s.hoopSet h .off).hoopMap h (fun x => { x with stall := [] })
      (s.fillAll (s.reservedPlaces (fun v => v.hoop = h))).set R.HOOP_CMD_STAT_RESULT 0
  else if op = 3 then
    if st = .done ∨ st = .overrun then ((s.hoopSet h .armed).rmFollow h).set R.HOOP_CMD_STAT_RESULT 0
    else s.set R.HOOP_CMD_STAT_RESULT 8
  else s

/-- HOOP_ENABLE (R293). -/
def execHoopEnable (hoop : Fin 64) (s : State) : Out :=
  .next (s.cpWr R.HOOP_CMD_OP.addr 0xF#4 (cmdWord hoop 1) (hoopCmdWr (cmdWord hoop 1)))

/-- HOOP_DISABLE (R289). -/
def execHoopDisable (hoop : Fin 64) (s : State) : Out :=
  .next (s.cpWr R.HOOP_CMD_OP.addr 0xF#4 (cmdWord hoop 2) (hoopCmdWr (cmdWord hoop 2)))

/-- REARM (R289). -/
def execRearm (hoop : Fin 64) (s : State) : Out :=
  .next (s.cpWr R.HOOP_CMD_OP.addr 0xF#4 (cmdWord hoop 3) (hoopCmdWr (cmdWord hoop 3)))

/-! ## Triggers (R289 to R291) -/

/-- A hoop enters DONE (R289): no tile of it waits any more (R287). -/
def State.hoopDone (s : State) (h : Nat) : State := ((s.hoopSet h .done).hoopMap h (fun x => { x with stall := [] })).hoopRaise h 1

/-- Tiles of a hoop that are being ingested when its trigger freezes the rewind mark carry TRIG (06 R184). DESIGN CHOICE (log entry 91): a
tile is being ingested while it holds a place and is not whole, not while it stands in the spool or waits at its header. -/
def State.trigTiles (s : State) (h : Nat) : State :=
  (List.range s.gen.nch).foldl (fun s n =>
    ((List.range 8).filter (fun p =>
      let v := s.place n p
      v.used && v.kind = .data && v.hoop = h && !v.whole && v.reserved.isNone)).foldl (fun s p =>
        s.placeMap n p (fun v => { v with flags := v.flags ||| 2 })) s) s

/-- HOOP_TRIGGER (R289, R290): the oldest trigger on its way to a hoop takes effect; on a standby the reflect port alone writes `TRIG_IGN`
(16 R469). -/
def execHoopTrigger (hoop : Fin 64) (s : State) : Out :=
  match (s.hoop hoop).trig with
  | [] => .next s
  | t :: rest =>
    let h : Nat := hoop
    let s := s.hoopMap h (fun x => { x with trig := rest })
    if (s.hoop h).st = .armed then
      let wp := s.hget h 0x40 8
      let s := s.hput h 0x48 8 (s.rmArmed h (s.hget h 0x0C 4))
      let s := ((((s.hput h 0x70 8 wp).hput h 0x78 8 t.time).hput h 0x80 4 t.angle).hput h 0x85 1 t.src).hput h 0x88 4 0
      let s := (((s.trigTiles h).hoopSet h .frozen).hoopMap h (fun x => { x with frozeAt := some s.cyc })).hoopRaise h 0
      .next (if s.hget h 0x10 4 = 0 then s.hoopDone h else s)
    else .next ((if s.isStandby then s else s.hput h 0x98 4 (sat (2 ^ 32 - 1) (s.hget h 0x98 4 + 1))).hoopRaise h 6)

/-- The trigger of source `src` reaches every hoop of `hs`. -/
def State.trigHoops (s : State) (src : Nat) (hs : List Nat) : State := hs.foldl (fun s h => s.hoopTrig h src s.cyc s.stamp) s

/-- Effect of a write of `HOOP.TRIG0` or `TRIG1` (R290). -/
def trigWr (which : Nat) (data : Word) (s : State) : State :=
  s.trigHoops 2 (((List.range 32).filter (bit data.toNat)).map (fun b => 32 * which + b))

/-- TRIG_REG (R290): a write of `TRIG0` or `TRIG1`. -/
def execTrigReg (which : Fin 2) (data : Word) (s : State) : Out :=
  .next (s.cpWr (R.HOOP_TRIG0_HOOPS.addr + 4 * which) 0xF#4 data (trigWr which data))

/-- TRIG_IN (R290; 16 R457): a rising edge triggers the hoops with TRIG_PIN; the master of a cascade with TRIG_FWD sends TRIG
to the members, and a member whose CFG.TRIG_FWD is 1 ignores its own pin. -/
def execTrigIn (level : Bool) (s : State) : Out :=
  let edge : Bool := level && !s.pins.trigIn
  -- edges closer than 4 cyc to the one before them are one trigger (02 R70; log entry 34)
  let rise : Bool := edge && s.pins.trigAt.all (fun t => decide (t + 4 ≤ s.cyc))
  let s : State := { s with pins := { s.pins with trigIn := level, trigAt := if edge then some s.cyc else s.pins.trigAt } }
  let fwd := s.xlOn && s.flag R.XLINK_CFG_TRIG_FWD
  if !rise || !s.powered 0 then .next s
  else if fwd && s.linkMe ≠ 0 then .next s
  else
    let s := if fwd then s.linkSend { typ := 0x12, bcast := true, payload := leBytes 8 s.cyc ++ leBytes 4 s.stamp } else s
    .next (s.trigHoops 0 (List.range 64))

/-! ## Erase front (R283, R285, R286) -/

/-- Has a member of a hoop an open TLC wordline, of any hoop (R283)? -/
def State.memberOpen (s : State) (h : Nat) : Bool :=
  (List.range 64).any (fun k => (s.hoop k).wls.any (fun m => decide (m.1 ∈ s.hoopChans h) && decide (m.2 ∈ s.hoopLuns h)))

/-- ERASE_FRONT (R285): the ERASE of row EF goes to every member whose block set is not marked bad; while a member has an
open TLC wordline it waits (R283). The row-table entries it needs are read first (R286). -/
def execEraseFront (hoop : Fin 64) (s : State) : Out :=
  let h : Nat := hoop
  let q := s.hget h 0x5C 4
  if (s.hoop h).st = .off ∨ s.sealApplies ∨ s.hget h 0x58 4 + s.hoopLead h < q then .next s
  else if !s.rowKnown h q then .next (s.rowAsks h q)
  else if !s.rowMayErase h q ∨ s.memberOpen h then .next s
  else
    let all := (s.hoopLuns h).flatMap (fun l => (s.hoopChans h).map (fun c => (⟨q, c, l⟩ : Member)))
    let bad := s.badMembers h q
    let good := all.filter (fun m => decide (m ∉ bad))
    let s := match s.rowStart h (s.rowIdx h (q + 1)) with
      | some x => s.hput h 0x50 8 x
      | none => s
    let s := if (s.rowStart h (s.rowIdx h q)).isSome then s.rowStartPut h (s.rowIdx h q) (2 ^ 64 - 1) else s
    let row := s.hget h 0x58 4
    let i := s.rowIdx h q
    let s := ((s.ctxSeen (hctx h) 40).membersSeen h q).hoopMap h (fun x => { x with
      tbl := x.tbl.filter (fun p => p.1 ≠ i), fronted := x.fronted.filter (fun p => decide (row ≤ p.1)) ++ [(q, s.rowBlk h q)], erasing := x.erasing ++ good, noSlot := x.noSlot.filter (fun m => decide (row ≤ m.row)) ++ bad })
    let s := (s.hput h 0x5C 4 ((q + 1) % 2 ^ 32)).rmFollow h
    .next (good.foldl (fun s m => s.issue
      { opcode := 2, flags := b2n (s.hoopTlc h) * 16, taddr := taddrOf m.ch m.lun (s.rowBlk h q) 0 }) s)

/-! ## Relocation and fill tiles (R282, R288) -/

/-- Is every block set of the hoop on a channel marked bad? -/
def State.noGood (s : State) (h n : Nat) : Bool :=
  (s.hoopLuns h).all (fun l => (List.range (s.hoopRows h)).all (fun r => s.blkBad (taddrOf n l (s.rowBlk h r) 0)))

/-- RELOCATE (R282): a channel-bound tile whose program has not been issued, or has failed, takes the next free slot on its
channel; NO_SLOT is raised when none can come. -/
def execRelocate (ch : Fin 48) (place : Fin 8) (s : State) : Out :=
  let v := s.place ch place
  if !v.used ∨ !v.whole ∨ v.issued ∨ v.due.isSome ∨ v.kind = .almanac ∨ 64 ≤ v.hoop ∨ v.sealRank.isSome ∨ s.sealApplies then .next s
  else if s.noGood v.hoop ch then .next (s.hoopRaise v.hoop 5)
  else
    let s' := s.boundIssue ch place
    if (s'.place ch place).slotNo = v.slotNo ∨ v.taddr = unmapped then .next s'
    else .next ((s'.hput v.hoop 0x94 4 (sat (2 ^ 32 - 1) (s'.hget v.hoop 0x94 4 + 1))).hoopRaise v.hoop 4)

/-- FILL_TIMEOUT (R288): FILL_TO has run on a reserved slot, and the channel writes a FILL tile into its place. -/
def execFillTimeout (ch : Fin 48) (place : Fin 8) (s : State) : Out :=
  let v := s.place ch place
  .next (if v.reserved.isNone ∨ s.sealApplies then s else s.fillTile ch place)

end Sys2Proof.Machine
end

