-- ==== Sys2Proof/Machine/Number.lean ====
section
/-!
DEFINITION. How the placement unit gives a tile its channel, place, slot, tile number, serial and stripe slot
(09_placement_hoops.md R267, R279 to R291; 06_codeword.md R204, R205; 08_ingest_spool.md R256).
-/

namespace Sys2Proof.Machine

/-- Fields of the header flit (08 R242): STREAM. -/
def hdrStream (v : BitVec 64) : Nat := bits v.toNat 0 12

/-- HOOP. -/
def hdrHoop (v : BitVec 64) : Nat := bits v.toNat 12 8

/-- LENGTH. -/
def hdrLen (v : BitVec 64) : Nat := bits v.toNat 20 17

/-- TRIG. -/
def hdrTrig (v : BitVec 64) : Bool := bit v.toNat 37

/-- The hoop of a tile: the header's, or that of the stream context (08 R242). -/
def State.hdrHoopOf (s : State) (v : BitVec 64) : Nat := if hdrHoop v = 0xFF then s.sget (hdrStream v) 0 1 else hdrHoop v

/-- Is the hoop closed for a tile (R287)? -/
def State.hoopShut (s : State) (h : Nat) : Bool := decide (64 ≤ h) || (s.hoop h).st.closed

/-- Count a tile refused or dropped while its hoop is closed: OVR_CNT (R287). -/
def State.ovrCount (s : State) (h : Nat) : State :=
  if h < 64 then s.hput h 0x8C 4 (sat (2 ^ 32 - 1) (s.hget h 0x8C 4 + 1)) else s

/-- A tile of stream `st` is discarded because its hoop has closed (R287). -/
def State.tileDrop (s : State) (st h : Nat) : State :=
  ((s.ovrCount h).sput st 0x20 4 (sat (2 ^ 32 - 1) (s.sget st 0x20 4 + 1))).strmRaise st 3

/-- The hoop closes with OVERRUN (R287, R289). -/
def State.hoopOverrun (s : State) (h : Nat) : State :=
  (((s.hoopSet h .overrun).hoopMap h (fun x => { x with stall := [] })).hoopRaise h 2).count 61 h

/-- A wait of the tile of lane `n` for its row's erases begins (R287). -/
def State.stallStart (s : State) (h n : Nat) : State :=
  if (s.hoop h).stall.any (fun p => p.1 = n) then s else (s.hoopMap h (fun x => { x with stall := x.stall ++ [(n, s.cyc)] })).hoopRaise h 3

/-- The wait of the tile of lane `n` has ended (R287). -/
def State.stallEnd (s : State) (h n : Nat) : State :=
  if (s.hoop h).stall.any (fun p => p.1 = n) then s.hoopMap h (fun x => { x with stall := x.stall.filter (fun p => p.1 ≠ n) }) else s

/-- Has the rewind mark of a hoop frozen in this `cyc`, so that a tile numbered now counts before the trigger (R291)? -/
def State.hoopLate (s : State) (h : Nat) : Bool :=
  (s.hoop h).frozeAt = some s.cyc && ((s.hoop h).st = .frozen || (s.hoop h).st = .done)

/-- Is it known whether a data tile of row `r` has been numbered: since this block numbered one or erased the row, or from its entry START as
it was read (R286)? -/
def State.startKnown (s : State) (h r : Nat) : Bool :=
  (s.hoop h).startRow = some r || (s.hoop h).fronted.any (fun p => p.1 = r) || (s.rowRead h (s.rowIdx h r)).isSome

/-- Has a data tile of row `r` been numbered (R286)? -/
def State.rowBegun (s : State) (h r : Nat) : Bool :=
  (s.hoop h).startRow = some r ||
  (!(s.hoop h).fronted.any (fun p => p.1 = r) && (s.rowStart h (s.rowIdx h r)).isSome)

/-- The first data tile of row `r` has been numbered: START is written (R286). -/
def State.rowBegin (s : State) (h r seq : Nat) : State :=
  let s := if s.rowBegun h r then s else s.rowStartPut h (s.rowIdx h r) seq
  s.hoopMap h (fun y => { y with startRow := some r })

/-- A tile numbered in the `cyc` in which the rewind mark froze counts before the trigger: TRIG_SEQ and RM take it in (R291). -/
def State.lateCount (s : State) (h : Nat) : State :=
  let s := s.hput h 0x70 8 (s.hget h 0x40 8)
  (s.hput h 0x48 8 (s.rmArmed h (s.hget h 0x0C 4))).mirrorHoop h

/-- Groups whose slots are all taken, and rows without slots, are left behind (R281). -/
def State.groupSettle (s : State) (h : Nat) : Nat → State
  | 0 => s
  | n + 1 =>
    let r := s.hget h 0x58 4
    if s.rowErased h r && decide ((s.rowSlots h r).length ≤ (s.hoop h).taken.length) then (s.groupAdvance h).groupSettle h n else s

/-! ## Slots -/

/-- Does channel `c` suit a tile of profile `p`: not laced, or in the mask and without a tile of the open stripe (R281)? -/
def State.laceSuits (s : State) (p c : Nat) : Bool :=
  if p < 8 ∧ s.flag (R.LACE_PROF0_EN p) = true then
    decide (c ∈ maskChans (s.profMask p)) && (match s.openStripe p with
      | some x => decide (c ∉ x.chans)
      | none => true)
  else true

/-- The channel of slot `k` of a list of slots. -/
def slotChan (slots : List HSlot) (k : Nat) : Nat := (slots.getD k (0, 0, 0)).2.2

/-- The slot that a data tile takes (R281): the first free one of the current group whose channel has a free place and, for a
laced tile, lies in the mask and holds no tile of the open stripe; else the first whose channel has a free place. -/
def State.pickSlot (s : State) (h p : Nat) : Option Nat :=
  let slots := s.rowSlots h (s.hget h 0x58 4)
  let free := (List.range slots.length).filter (fun k =>
    decide (k ∉ (s.hoop h).taken) && (s.freePlace (slotChan slots k)).isSome)
  match free.find? (fun k => s.laceSuits p (slotChan slots k)) with
  | some k => some k
  | none => free.head?

/-- Count a tile number given while FROZEN, or in the `cyc` in which the rewind mark froze (R289, R291). -/
def State.postCount (s : State) (h : Nat) : State :=
  if s.hoopLate h then s.lateCount h
  else if (s.hoop h).st = .frozen then
    let c := s.hget h 0x88 4 + 1
    let s := s.hput h 0x88 4 c
    if s.hget h 0x10 4 ≤ c then s.hoopDone h else s
  else s

/-- Give a tile of lane `n` with header item `it` slot `k` of the current group, the next tile number and the next serial,
and place `p` of the slot's channel (R267, R279, R284, R286). -/
def State.numberTile (s : State) (n : Nat) (it : Item) (k p : Nat) : State :=
  let st := hdrStream it.v
  let h := s.hdrHoopOf it.v
  let r := s.hget h 0x58 4
  let x := (s.rowSlots h r).getD k (0, 0, 0)
  let c := x.2.2
  let seq := s.hget h 0x40 8
  let serial := s.sget st 8 8
  let late := s.hoopLate h
  let pre : Bool := ((s.hoop h).st = .armed || late) && !s.hoopPlain h
  let v : PlaceS :=
    { kind := .data, flags := b2n (hdrTrig it.v || late) * 2 + b2n pre * 4, stream := st, hoop := h
      thoop := if s.hoopPlain h then 0xFF else h, lane := s.blkIndex * 16 + n, serial := serial, seq := seq, angle := it.stamp.2
      len := hdrLen it.v, time := it.stamp.1, profile := s.sget st 1 1, tileno := (s.hoopBase h + seq % max 1 (s.hoopTiles h)) % 2 ^ 31
      taddr := s.slotAddr h r (s.hget h 0x60 2) x, tlc := s.hoopTlc h }
  let s := s.claimPlace c p v
  let s := (s.hput h 0x40 8 ((seq + 1) % 2 ^ 64)).sput st 8 8 ((serial + 1) % 2 ^ 64)
  let s := s.rowBegin h r seq
  (((s.slotTaken c p).postCount h).rmFollow h).takeSlot h k

/-! ## Landing -/

/-- Change lane `n`. -/
def State.laneMap (s : State) (n : Nat) (f : LaneS → LaneS) : State := { s with lanes := tmod (fun _ => {}) s.lanes n f }

/-- Lane `n`. -/
def State.lane (s : State) (n : Nat) : LaneS := tget (fun _ => {}) s.lanes n

/-- The tile of lane `n` has its channel `c` and its place `p`: its payload may land, and a tile at or above CT_THRESH has its PROG issued
with CUT = 1 (08 R256). Its stripe slot is taken with its first byte (06 R204). -/
def State.landBegin (s : State) (n c p : Nat) : State :=
  let v := s.place c p
  let s := s.placeMap c p (fun v => { v with fresh := true })
  let s := s.laneMap n (fun l => { l with asm := .landing, ch := c, place := p })
  let thr := s.get (R.LANE_CFG_CT_THRESH n)
  if thr ≠ 0 ∧ thr * 512 ≤ v.len ∧ !v.issued then s.wantProg c p true else s

/-- The reserved place of a stream in a hoop (R288). -/
def State.reservedFor (s : State) (st h : Nat) : Option (Nat × Nat) :=
  (s.reservedPlaces (fun v => v.stream = st && v.hoop = h && !v.fillDue)).head?

/-- May a tile of profile `p` on channel `c` have its place: it lands unlaced, a stripe of the profile is open, or one can be opened; else
it stays in the spool (R204; 01 R31). -/
def State.stripeCould (s : State) (p c : Nat) : Bool :=
  !s.landsLaced p c || (s.openStripe p).isSome || (s.setFree.isSome && s.numReady p)

/-- The header of lane `n` takes a reserved slot with its place, tile number and serial (R288), unless bytes of the vanished
tile are still to be removed from its stripe (06 R208). -/
def State.takeReserved (s : State) (n c p : Nat) : State :=
  let it := (s.lane n).hdr
  if s.lace.cancels.any (fun k => k.1 = c ∧ k.2.1 = p) then s
  else
    let go (s : State) : State :=
      (s.placeMap c p (fun v => { v with
        flags := (v.flags &&& 4) + b2n (hdrTrig it.v) * 2, reserved := none, lane := s.blkIndex * 16 + n
        angle := it.stamp.2, time := it.stamp.1, len := hdrLen it.v, got := 0, profile := s.sget (hdrStream it.v) 1 1
        enc := 0, encAddr := unmapped })).landBegin n c p
    if s.stripeCould (s.sget (hdrStream it.v) 1 1) c then go s else s

/-- The assembler of lane `n` discards its tile (R287). -/
def State.dropHeader (s : State) (n : Nat) : State :=
  let v := (s.lane n).hdr.v
  (s.tileDrop (hdrStream v) (s.hdrHoopOf v)).laneMap n (fun l => { l with asm := .dropping })

/-- Has the slot file of a channel room for the PROG of one more tile on a LUN, beside those of the tiles it holds (05 R156)? -/
def State.progRoom (s : State) (n lun : Nat) : Bool :=
  let held := (List.range 8).filter (fun p => let v := s.place n p; v.used && !v.issued && v.taddr ≠ unmapped)
  let wait := (s.ch n).wait.filter (fun d => d.cls = .program)
  let mine := (held.filter (fun p => taLun (s.place n p).taddr = lun)).length + (wait.filter (fun d => d.lun = lun)).length
  decide (((s.ch n).slots.filter (fun x => x.desc.lun = lun)).length + mine < s.lunMax n) &&
  decide ((s.ch n).slots.length + held.length + wait.length + s.get (R.CH_QCFG_URG_RSV n) < 32)

/-- Number the tile of lane `n` in the current group, once a slot with a free place and a stripe are there (R281) and the channel has
room for its PROG; until then the tile stays in the spool (05 R156). -/
def State.numberNew (s : State) (n : Nat) : State :=
  let it := (s.lane n).hdr
  let h := s.hdrHoopOf it.v
  let prof := s.sget (hdrStream it.v) 1 1
  if !s.startKnown h (s.hget h 0x58 4) then s.rowAsk h (s.rowIdx h (s.hget h 0x58 4))
  else match s.pickSlot h prof with
  | none => s
  | some k =>
    let c := ((s.rowSlots h (s.hget h 0x58 4)).getD k (0, 0, 0)).2.2
    match s.freePlace c with
    | none => s
    | some p =>
      if !s.progRoom c ((s.rowSlots h (s.hget h 0x58 4)).getD k (0, 0, 0)).1 then s
      else if s.stripeCould prof c then (s.numberTile n it k p).landBegin n c p
      else s

/-- TILE_NUMBER (R281, R287, R288): the header that a lane's assembler holds is served. -/
def execTileNumber (lane : Fin 12) (s : State) : Out :=
  let n : Nat := lane
  let it := (s.lane n).hdr
  let h := s.hdrHoopOf it.v
  if (s.lane n).asm ≠ .header ∨ s.sealApplies then .next s
  else if s.hoopShut h ∧ !s.hoopLate h then .next (s.dropHeader n)
  else match s.reservedFor (hdrStream it.v) h with
    | some (c, p) => .next (s.takeReserved n c p)
    | none =>
      let s := s.ctxSeen (hctx h) 40
      let late := s.hoopLate h
      if (s.hoop h).st = .frozen ∧ !late ∧ s.hoopTiles h ≤ s.hget h 0x40 8 - s.hget h 0x48 8 then .next ((s.hoopOverrun h).dropHeader n)
      else
        let s := s.groupSettle h 2100
        let r := s.hget h 0x58 4
        if s.rowErased h r then .next ((s.stallEnd h n).numberNew n)
        else if (s.hoop h).st ≠ .frozen ∨ late ∨ r < s.hget h 0x5C 4 then .next (s.stallStart h n)
        else if !s.rowKnown h (s.hget h 0x5C 4) then .next ((s.stallStart h n).rowAsks h (s.hget h 0x5C 4))
        else if s.rowMayErase h (s.hget h 0x5C 4) then .next (s.stallStart h n)
        else .next ((s.hoopOverrun h).dropHeader n)

end Sys2Proof.Machine
end

