-- ==== Sys2Proof/Machine/Lanes.lean ====
section
/-!
DEFINITION. The ingest lanes: framing, the spool's three tiers, the tile assembler, and the ends of tiles
(08_ingest_spool.md R241 to R266; 12_angle_calendar.md R374).
-/

namespace Sys2Proof.Machine

/-! ## The spool -/

/-- Head and tail capacities, items of a block, and the least head of rule 2 (R248, R251). -/
def headMax : Nat := 24576
/-- Tail capacity. -/
def tailMax : Nat := 7168
/-- Items of a middle-tier block. -/
def blockItems : Nat := 496

/-- Raise a LANE event. -/
def State.laneRaise (s : State) (n b : Nat) : State := s.raise .lane n b

/-- Unusable spool items (R253): SPOOL_UE is raised, and the lane's spool source counts. -/
def State.spoolUe (s : State) (n : Nat) : State := (s.laneRaise n 5).count (49 + n) 0

/-- Count discarded flits and items. -/
def State.discard (s : State) (n : Nat) : State := s.bump (R.LANE_DISC_CNT_CNT n)

/-- Word in region 1 of the first value word of an item (R248; 14 R408): head items first, then tail items, then tags
(log entry 27). -/
def itemWord (n : Nat) (tail : Bool) (pos : Nat) : Nat := n * 65536 + (if tail then 49152 else 0) + 2 * pos

/-- Word of the tags of an item. -/
def tagWord (n : Nat) (tail : Bool) (pos : Nat) : Nat := n * 65536 + 63488 + ((if tail then headMax else 0) + pos) / 16

/-- An item is written on chip: its two value words, and the tag word when its sixteen tags are whole (14 R414). -/
def State.itemWrote (s : State) (n : Nat) (tail : Bool) (pos : Nat) : State :=
  let s := s.bufWrote 1 (itemWord n tail pos) 2
  if pos % 16 = 15 then s.bufWrote 1 (tagWord n tail pos) 1 else s

/-- Read an on-chip item's words: report their errors, and deliver it; an uncorrectable word comes as it is stored, and makes the item
unusable (14 R411, R416; R253). -/
def State.itemRead (s : State) (n : Nat) (tail : Bool) (pos : Nat) (it : Item) : Item × State :=
  let w := itemWord n tail pos
  let t := tagWord n tail pos
  let bad := [w, w + 1, t].any (fun a => patternClass 1 (tget (fun _ => 0) s.memi.err (skey 1 a)) = .bad)
  let it := { it with
    v := it.v ^^^ BitVec.ofNat 64 (s.badBits 1 w + s.badBits 1 (w + 1) * 2 ^ 32)
    tag := it.tag ^^^ BitVec.ofNat 2 (bits (s.badBits 1 t) (2 * (pos % 16)) 2), bad := it.bad || bad }
  let s := (s.bufRead 1 w 2).bufRead 1 t 1
  (it, if bad then s.spoolUe n else s)

/-- Items that hold head places: those in the head and those whose spill write is not accepted (R251). -/
def LaneS.headUsed (l : LaneS) : Nat := l.head.length + l.spilling

/-- Append items to the tail. -/
def State.tailAppend (s : State) (n : Nat) : List Item → State
  | [] => s
  | it :: rest =>
    let pos := (s.lane n).tailAt
    ((s.laneMap n (fun l => { l with tail := l.tail ++ [it], tailAt := (pos + 1) % tailMax })).itemWrote n true pos).tailAppend n rest

/-- The oldest item of the head is read, and leaves it. -/
def State.headPop (s : State) (n : Nat) : Option (Item × State) :=
  let l := s.lane n
  match l.head with
  | [] => none
  | it :: rest =>
    let pos := (l.headAt + headMax - l.head.length) % headMax
    let (it, s) := s.itemRead n false pos it
    some (it, s.laneMap n (fun l => { l with head := rest }))

/-- May rule 2 act? -/
def State.directMay (s : State) (n : Nat) : Bool :=
  let l := s.lane n
  l.midN = 0 && decide (l.tail.length < tailMax) && decide (2048 ≤ l.head.length)

/-- One item passes from the head to the tail. -/
def State.headToTail (s : State) (n : Nat) : State :=
  if !s.directMay n then s
  else match s.headPop n with
    | some (it, s) => s.tailAppend n [it]
    | none => s

/-- Push an item onto the head (R249); a full head first passes its oldest item to the tail when rule 2 lets it (R251). -/
def State.lanePush (s : State) (n : Nat) (it : Item) : State :=
  let s := if headMax ≤ (s.lane n).headUsed then s.headToTail n else s
  let pos := (s.lane n).headAt
  (s.laneMap n (fun l => { l with head := l.head ++ [{ it with born := some s.cyc }], headAt := (pos + 1) % headMax, freed := none })).itemWrote n false pos

/-- `MID_BLOCKS` of lane `n`. -/
def State.midBlocks (s : State) (n : Nat) : Nat := min 1048576 (s.get (R.SPOOL_MID_BLOCKS_CNT n))

/-- A block's worth of spill budget is held (R254). -/
def State.budget (s : State) : Bool := decide (64 * 1024 ≤ s.spool.tokens)

/-- Lane `n` takes the budget of a block. -/
def State.budgetTake (s : State) (n : Nat) : State := { s with spool := { tokens := s.spool.tokens - 64 * 1024, last := n } }

/-- The middle tier is full (R250). -/
def State.midFull (s : State) (n : Nat) : Bool := decide (s.midBlocks n ≤ (s.lane n).midN) || !s.budget

/-- The spool is full (R250). -/
def State.spoolFull (s : State) (n : Nat) : Bool :=
  decide (headMax ≤ (s.lane n).headUsed) && s.midFull n && (decide (0 < (s.lane n).midN) || decide (tailMax ≤ (s.lane n).tail.length))

/-- The spool takes a push in this `cyc` (R248 to R250): a place of the head is free, or becomes free as its oldest item passes to the tail,
or a pop of this `cyc` has freed one. Items whose spill write the port has not accepted hold their places (log entry 47). -/
def State.spoolRoom (s : State) (n : Nat) : Bool :=
  decide ((s.lane n).headUsed < headMax) || s.directMay n || (s.lane n).freed = some s.cyc

/-- Byte address of middle-tier block `b` of lane `n` (R252). -/
def State.midAddr (s : State) (n b : Nat) : Nat :=
  s.get (R.SPOOL_MID_BASE_HI_ADDR n) * 2 ^ 32 + s.get (R.SPOOL_MID_BASE_LO_ADDR n) * 4096 + b * 4096

/-- The 4,096 bytes of a block of 496 items (R252). -/
def blockBytes (items : List Item) : List Byte :=
  let vals := items.flatMap (fun i => leBytes 8 i.v.toNat)
  let tags := (List.range 124).map (fun k => BitVec.ofNat 8
    (((items.drop (4 * k)).take 4).foldr (fun i a => i.tag.toNat + 4 * a) 0))
  vals ++ tags ++ leBytes 4 (crc32 (vals ++ tags))

/-- The items of a block, and whether its CRC matches (R252, R253). -/
def blockItemsOf (bs : List Byte) : Bool × List Item :=
  (leNat ((bs.drop 4092).take 4) = crc32 (bs.take 4092),
   (List.range blockItems).map (fun f =>
    { v := BitVec.ofNat 64 (leNat ((bs.drop (8 * f)).take 8)), tag := BitVec.ofNat 2 ((bs.getD (3968 + f / 4) 0).toNat / 4 ^ (f % 4)) }))

/-- Hand stamps to the SOT items of a list, oldest first (R245). -/
def stampItems : List Item → List (Nat × Nat) → List Item
  | [], _ => []
  | i :: is, ss =>
    if i.tag = 1 then
      (match ss with
       | [] => i :: stampItems is []
       | t :: ts => { i with stamp := t } :: stampItems is ts)
    else i :: stampItems is ss

/-! ## Framing -/

/-- Leave state IN_TILE or enter another: a write of 0 to ENABLE that waited takes effect (R264). -/
def State.laneSt (s : State) (n : Nat) (st : FrameSt) : State :=
  let en := s.flag (R.LANE_CTRL_ENABLE n)
  s.laneMap n (fun l => { l with st := st, enabled := if l.st = .inTile then en else l.enabled })

/-- Is `LNn_READY` 1 (R57, R58, R84, R249, R250, R259, R260, R262, R264)? The spool takes a push, and no WITHDRAW waits but that of a DROP
of this `cyc`; the lane takes a header only while its domain is not asked to power down. -/
def State.laneReady (s : State) (n : Nat) : Bool :=
  let l := s.lane n
  s.powered (laneDom n) && l.linkup && l.enabled && !s.isStandby && (!l.wd || l.dropAt = some s.cyc) && !s.grave && s.spoolRoom n &&
  (s.takesWork (laneDom n) || l.st = .inTile)

/-- The reason of the first header check that fails; 0 when all pass (R244). -/
def State.headerCheck (s : State) (n : Nat) (v : BitVec 64) : Nat :=
  let len := hdrLen v
  let st := hdrStream v
  if len = 0 ∨ 65472 < len then 1
  else if len % 8 ≠ 0 then 2
  else if bits v.toNat 38 26 ≠ 0 then 3
  else if !s.strmOn st then 4
  else if s.sget st 2 1 % 64 ≠ s.blkIndex * 16 + n then 5
  else if hdrHoop v ≠ 0xFF ∧ hdrHoop v ≠ s.sget st 0 1 then 6
  else if s.hoopShut (s.hdrHoopOf v) then 7
  else 0

/-- A header that is not taken ends the tile in progress short: the item pushed only marks the end (R243, R257; log entry 48). -/
def State.laneCutShort (s : State) (n : Nat) (v : BitVec 64) : State :=
  if (s.lane n).st = .inTile then s.lanePush n { v := v, tag := 1, rej := true } else s

/-- A header transfers (R243 to R246). In state IN_TILE the tile in progress ends: the header pushed marks that. A lane whose
domain is asked to power down takes no further header (R262): the tile in progress ends, and the rest of the new one is
discarded (log entry 49). -/
def State.laneSot (s : State) (n : Nat) (v : BitVec 64) : State :=
  if !s.takesWork (laneDom n) then (s.laneCutShort n v).laneSt n .discard
  else
  let s := if hdrStream v < 4096 ∧ s.powered 0 then s.ctxSeen (sctx (hdrStream v)) 32 else s
  let r := s.headerCheck n v
  let h := s.hdrHoopOf v
  if r = 0 then
    let s := (s.lanePush n { v := v, tag := 1, stamp := (s.cyc, s.stamp) }).bump (R.LANE_TILE_CNT_CNT n)
    let s := (s.laneSt n .inTile).laneMap n (fun l => { l with flits := 0, want := hdrLen v / 8 })
    if hdrTrig v ∧ h < 64 then s.hoopTrig h 1 s.cyc s.stamp else s
  else
    let s := s.laneCutShort n v
    let s := if r = 7 then s.ovrCount h else s
    let s := (s.set (R.LANE_REJ_INFO_STREAM n) (hdrStream v)).set (R.LANE_REJ_INFO_REASON n) r
    let s := (s.bump (R.LANE_REJ_CNT_CNT n)).laneRaise n 0
    let s := if hdrTrig v then s.laneRaise n 6 else s
    s.laneSt n .discard

/-- A DATA flit, or an EOT flit, transfers (R243). -/
def State.laneFlit (s : State) (n : Nat) (v : BitVec 64) (eot : Bool) : State :=
  let l := s.lane n
  match l.st with
  | .inTile =>
    let k := l.flits + 1
    let s := s.laneMap n (fun l => { l with flits := k })
    if eot then (s.lanePush n { v := v, tag := 2 }).laneSt n .outside
    else if k = l.want then (s.lanePush n { v := v, tag := 2 }).laneSt n .excess
    else s.lanePush n { v := v, tag := 0 }
  | .outside => (s.discard n).laneRaise n 2
  | .excess =>
    let s := (s.discard n).laneRaise n 1
    if eot then s.laneSt n .outside else s
  | .discard =>
    let s := s.discard n
    if eot then s.laneSt n .outside else s

/-- A flit transfers while the granted permits hold UMBRA (12 R374): the first of a revolution raises UMBRA_LIT, once also where the angle
steps back into a revolution. -/
def State.umbraFlit (s : State) : State :=
  if s.permit 7 then
    let s := s.bump R.CAL_UMBRA_FLITS_CNT
    let r := s.ang.rev
    if r ∈ s.ang.umbraRev then s
    else { (s.raise .cal 0 1) with ang := { s.ang with
        umbraRev := r :: s.ang.umbraRev.filter (fun q => q = (r + 1) % 65536 ∨ q = (r + 65535) % 65536) } }
  else s

/-- The framing logic takes a transferred flit (R243). -/
def State.laneTake (s : State) (n : Nat) (v : BitVec 64) (tag : BitVec 2) : State :=
  if tag = 1 then s.laneSot n v else s.laneFlit n v (tag = 2)

/-- Note what a flit did to its lane, from the lane as it was before (R259). -/
def State.flitNote (s : State) (n : Nat) (l : LaneS) (tag : BitVec 2) : State :=
  s.laneMap n (fun x => { x with note := some ⟨s.cyc, l.st, l.flits, decide (x.headAt ≠ l.headAt), tag = 1 && x.st = .inTile⟩ })

/-- LANE_FLIT (R243): a flit transfers when `LNn_READY` is 1; IDLE is discarded and not counted (02 R58). One that transfers in the `cyc` of
a DROP belongs to the dropped tile and is discarded (R259). -/
def execLaneFlit (lane : Fin 12) (value : BitVec 64) (tag : BitVec 2) (s : State) : Out :=
  if !s.laneReady lane ∨ tag = 3 then .next s
  else if (s.lane lane).dropAt = some s.cyc then .next (s.umbraFlit.discard lane)
  else .next ((s.umbraFlit.laneTake lane value tag).flitNote lane (s.lane lane) tag)

/-- A lane reset (R258): in IN_TILE a WITHDRAW is due; the state becomes OUTSIDE. -/
def State.laneRst (s : State) (n : Nat) (link : Bool) : State :=
  let inT : Bool := (s.lane n).st = .inTile
  let s := if inT && link then s.laneRaise n 7 else s
  (s.laneSt n .outside).laneMap n (fun l => { l with wd := l.wd || inT })

/-- LINK_DOWN (R258): `LNn_LINKUP` falls. -/
def execLinkDown (lane : Fin 12) (s : State) : Out :=
  if !(s.lane lane).linkup then .next s
  else
    let s := s.laneMap lane (fun l => { l with linkup := false })
    .next (if s.powered (laneDom lane) then s.laneRst lane true else s)

/-- LINKUP_RETURN (02 R59): `LNn_LINKUP` rises; the framing starts at the next SOT. -/
def execLinkupReturn (lane : Fin 12) (s : State) : Out := .next (s.laneMap lane (fun l => { l with linkup := true }))

/-- The flit that transferred in this `cyc` belongs to the tile that is dropped: its item leaves the spool again and is discarded, and a
tile that it opened is not counted (R259; log entry 92). -/
def State.flitUndo (s : State) (n : Nat) (f : FlitNote) : State :=
  let s := if f.opened then s.set (R.LANE_TILE_CNT_CNT n) (s.get (R.LANE_TILE_CNT_CNT n) - 1) else s
  let s := if f.pushed then
      (s.laneMap n (fun l => { l with head := l.head.dropLast, headAt := (l.headAt + headMax - 1) % headMax })).discard n
    else s
  s.laneMap n (fun l => { l with flits := f.flits })

/-- DROP acts on the tile in state IN_TILE, as the state was at the beginning of the `cyc` (R259). -/
def State.laneDrop (s : State) (n : Nat) : State :=
  let drop (s : State) : State := (s.laneSt n .discard).laneMap n (fun l => { l with wd := true, dropAt := some s.cyc, note := none })
  match (s.lane n).note.filter (fun f => f.born = s.cyc) with
  | some f => if f.st = .inTile then drop (s.flitUndo n f) else s
  | none => if (s.lane n).st = .inTile then drop s else s

/-- Effect of a write of `LANE[n].CMD` (R258, R259). -/
def laneCmdWr (n : Nat) (data : Word) (s : State) : State :=
  if bit data.toNat 1 then s.laneRst n false else if bit data.toNat 0 then s.laneDrop n else s

/-- LANE_RESET (R258): a write of `CMD.RESET`. -/
def execLaneReset (lane : Fin 12) (s : State) : Out := .next (s.cpWr (R.LANE_CMD_RESET lane).addr 0xF#4 2 (laneCmdWr lane 2))

/-- DROP (R259): a write of `CMD.DROP`. -/
def execDrop (lane : Fin 12) (s : State) : Out := .next (s.cpWr (R.LANE_CMD_RESET lane).addr 0xF#4 1 (laneCmdWr lane 1))

/-- WITHDRAW_PUSH (R260): the WITHDRAW that is due enters the spool when it has a place. -/
def execWithdrawPush (lane : Fin 12) (s : State) : Out :=
  if !(s.lane lane).wd ∨ !s.spoolRoom lane then .next s
  else .next ((s.laneMap lane (fun l => { l with wd := false })).lanePush lane { v := 2, tag := 3 })

/-- Effect of a write of `LANE[n].CTRL` (R264); a standby's lanes stay disabled (16 R466). -/
def laneCtrlWr (n : Nat) (be : BitVec 4) (data : Word) (s : State) : State :=
  let s := s.regMerge (R.LANE_CTRL_ENABLE n).addr be data
  let s := if s.isStandby then s.set (R.LANE_CTRL_ENABLE n) 0 else s
  let en := s.flag (R.LANE_CTRL_ENABLE n)
  s.laneMap n (fun l => { l with enabled := en || (l.enabled && l.st = .inTile) })

/-- LANE_ENABLE (R264). -/
def execLaneEnable (lane : Fin 12) (data : Word) (s : State) : Out :=
  .next (s.cpWr (R.LANE_CTRL_ENABLE lane).addr 0xF#4 data (laneCtrlWr lane 0xF#4 data))

/-! ## Movement between tiers (R251) -/

/-- HEAD_TO_TAIL (R251 rule 2): up to two items. -/
def execHeadToTail (lane : Fin 12) (s : State) : Out :=
  if !s.powered (laneDom lane) then .next s else .next ((s.headToTail lane).headToTail lane)

/-- May the tail read its oldest block that is not requested (R251 rule 4, R254)? -/
def State.drainMay (s : State) (n : Nat) : Bool :=
  let l := s.lane n
  decide (l.drains < l.midN) && decide (l.drains < 8) && decide (l.tail.length + blockItems * (l.drains + 1) ≤ tailMax) && s.budget

/-- Take `k` items from the head. -/
def State.headTake (s : State) (n : Nat) : Nat → List Item × State
  | 0 => ([], s)
  | k + 1 => match s.headPop n with
    | none => ([], s)
    | some (it, s) => let (is, s) := s.headTake n k; (it :: is, s)

/-- May the head spill (R251 rule 3)? -/
def State.spillMay (s : State) (n : Nat) : Bool :=
  let l := s.lane n
  decide (headMax ≤ l.headUsed) && decide (blockItems ≤ l.head.length) && (decide (0 < l.midN) || decide (tailMax ≤ l.tail.length)) &&
  !s.midFull n

/-- A lane wants a block's worth of the spill budget. -/
def State.spoolWants (s : State) (n : Nat) : Bool := s.powered (laneDom n) && (s.drainMay n || s.spillMay n)

/-- It is the turn of lane `n` (R254): the first lane that wants the budget after the one that was served last. -/
def State.spoolTurn (s : State) (n : Nat) : Bool :=
  s.powered 0 && ((List.range 12).map (fun k => (s.spool.last + 1 + k) % 12)).find? (fun k => s.spoolWants k) = some n

/-- SPILL_WRITE (R251 rule 3, R252, R254): the oldest 496 items of a full head become a middle-tier block; a drain read of the
lane goes first. -/
def execSpillWrite (lane : Fin 12) (s : State) : Out :=
  let n : Nat := lane
  let l := s.lane n
  if !s.spoolTurn n ∨ s.drainMay n then .next s
  else
    let b := (l.midAt + l.midN) % max 1 (s.midBlocks n)
    let (items, s) := s.headTake n blockItems
    let stamps := (items.filter (fun i => i.tag = 1)).map (fun i => i.stamp)
    let bads := ((List.range items.length).filter (fun i => (items.getD i { v := 0, tag := 0 }).bad)).map (fun i => b * blockItems + i)
    let rejs := ((List.range items.length).filter (fun i => (items.getD i { v := 0, tag := 0 }).rej)).map (fun i => b * blockItems + i)
    let s := (s.budgetTake n).laneMap n (fun l => { l with
      midN := l.midN + 1, midStamps := l.midStamps ++ stamps, midSots := l.midSots ++ [stamps.length]
      midBad := l.midBad ++ bads, midRej := l.midRej ++ rejs, spilling := l.spilling + blockItems })
    let s := (s.mpWrite (n % 2) 2 (s.midAddr n b) (blockBytes items) (.spool n b)).bump (R.SPOOL_SPILL_CNT_CNT n)
    let used := (s.lane n).midN
    let s := if s.get (R.SPOOL_MID_MAX_CNT n) < used then s.set (R.SPOOL_MID_MAX_CNT n) used else s
    .next (if used = s.midBlocks n then s.raise .spool 0 n else s)

/-- DRAIN_READ (R251 rule 4, R254): a read of the oldest block that is not requested. -/
def execDrainRead (lane : Fin 12) (s : State) : Out :=
  let n : Nat := lane
  let l := s.lane n
  if !s.spoolTurn n ∨ !s.drainMay n then .next s
  else
    let b := (l.midAt + l.drains) % max 1 (s.midBlocks n)
    let s := (s.budgetTake n).laneMap n (fun l => { l with drains := l.drains + 1 })
    .next (s.mpRead (n % 2) 3 2 (s.midAddr n b) 64 (.spool n b))

/-- DRAIN_RETURN (R253): a drain read has ended, and its items enter the tail. -/
def execDrainReturn (lane : Fin 12) (s : State) : Out :=
  let n : Nat := lane
  match s.mpTake (fun u => match u with | .spool k _ => k = n | _ => false) with
  | none => .next s
  | some (r, s) =>
    let l := s.lane n
    if l.midN = 0 then .next s
    else
      let (ok, items) := blockItemsOf r.data
      let good : Bool := ok && r.bad = []
      let k := l.midSots.headD 0
      let items := if good then stampItems items (l.midStamps.take k) else items
      let items := (List.range items.length).map (fun i =>
        let it := items.getD i { v := 0, tag := 0 }
        { it with bad := !good || decide (l.midAt * blockItems + i ∈ l.midBad), rej := decide (l.midAt * blockItems + i ∈ l.midRej) })
      let s := s.laneMap n (fun l => { l with
        midBad := l.midBad.filter (fun x => x / blockItems ≠ l.midAt), midRej := l.midRej.filter (fun x => x / blockItems ≠ l.midAt), midAt := (l.midAt + 1) % max 1 (s.midBlocks n)
        midN := l.midN - 1, drains := l.drains - 1, midStamps := l.midStamps.drop k, midSots := l.midSots.drop 1 })
      let s := if good then s else s.spoolUe n
      .next (s.tailAppend n items)

/-- Effect of a write of `MID_BASE_LO`, `MID_BASE_HI` or `MID_BLOCKS` of lane `n` (R266). -/
def midBaseWr (n reg : Nat) (be : BitVec 4) (data : Word) (s : State) : State :=
  if !s.powered (laneDom n) then s
  else if 0 < (s.lane n).midN ∨ 0 < (s.lane n).spilling then s.raise .spool 0 n
  else (s.regMerge ((R.SPOOL_MID_BASE_LO_ADDR n).addr + 4 * reg) be data).laneMap n (fun l => { l with midAt := 0 })

/-- MID_BASE_WRITE (R266): a write of `MID_BASE_LO`, `MID_BASE_HI` or `MID_BLOCKS`, numbered 0 to 2. -/
def execMidBaseWrite (lane : Fin 12) (reg : Fin 3) (data : Word) (s : State) : Out :=
  .next (s.cpWr ((R.SPOOL_MID_BASE_LO_ADDR lane).addr + 4 * reg) 0xF#4 data (midBaseWr lane reg 0xF#4 data))

/-! ## The tile assembler -/

/-- The item that a pop of this `cyc` sees: the oldest of the tail, else of the head while the middle tier is empty (R251 rule 1), unless it
was pushed in this `cyc` (R249). -/
def State.frontItem (s : State) (n : Nat) : Option Item :=
  let l := s.lane n
  (if l.tail = [] ∧ l.midN = 0 then l.head.head? else l.tail.head?).filter (fun i => i.born ≠ some s.cyc)

/-- The item that a pop returns, and the state without it (R249, R251 rule 1). -/
def State.popItem (s : State) (n : Nat) : Option (Item × State) :=
  let l := s.lane n
  if (s.frontItem n).isNone then none
  else match l.tail with
  | it :: rest =>
    let pos := (l.tailAt + tailMax - l.tail.length % tailMax) % tailMax
    let (it, s) := s.itemRead n true pos it
    some (it, s.laneMap n (fun l => { l with tail := rest }))
  | [] => s.headPop n

/-- The tile of lane `n` ends short and committed: FLAGS.TRUNC, and LENGTH holds the bytes received (R257). -/
def State.endTrunc (s : State) (n : Nat) : State :=
  let l := s.lane n
  let s := s.placeMap l.ch l.place (fun v => { v with flags := v.flags ||| 1, len := v.got })
  (((s.bump (R.LANE_TRUNC_CNT_CNT n)).laneRaise n 3).laneMap n (fun l => { l with asm := .ending }))

/-- The tile of lane `n` vanishes (R257): its slot, place, number and serial stay reserved (09 R288), and the bytes that landed
are to be removed from its stripe (06 R208). -/
def State.vanish (s : State) (n : Nat) (next : AsmSt) : State :=
  let l := s.lane n
  let v := s.place l.ch l.place
  let s := if v.stripe = unmapped then s else s.laceMap (fun x => { x with cancels := x.cancels ++ [(l.ch, l.place, v.got)] })
  let s := s.placeMap l.ch l.place (fun v => { v with
    reserved := some s.cyc, got := 0, fresh := false, len := 0, flags := v.flags &&& 4
    enc := if v.stripe = unmapped then 0 else v.enc, encAddr := if v.stripe = unmapped then unmapped else v.encAddr })
  ((s.bump (R.LANE_VANISH_CNT_CNT n)).laneRaise n 4).laneMap n (fun l => { l with asm := next })

/-- The tile of lane `n` ends as by WITHDRAW (R257): TRUNC when its first DOUT has been queued, else it vanishes. -/
def State.withdraw (s : State) (n : Nat) (next : AsmSt) : State :=
  let l := s.lane n
  if (s.place l.ch l.place).committed then s.endTrunc n else s.vanish n next

/-- Before the first byte of the tile of lane `n` lands, payload or filler: the tile takes its stripe slot, or is programmed unlaced with
SET_MISS (06 R204, R205). It waits while no stripe takes it. -/
def State.landFirst (s : State) (n : Nat) : Bool × State :=
  let l := s.lane n
  if !(s.place l.ch l.place).fresh then (true, s)
  else
    let (ok, s) := s.landRoom l.ch l.place
    (ok, if ok then (s.landIn l.ch l.place).placeMap l.ch l.place (fun v => { v with fresh := false }) else s)

/-- Eight payload bytes land in the place of lane `n`; its stripe accumulates them (06 R191, R200). -/
def State.landBytes (s : State) (n : Nat) (v : BitVec 64) : State :=
  let l := s.lane n
  let p := s.place l.ch l.place
  let bs := leBytes 8 v.toNat
  let s := (s.infoPut l.ch l.place p.got bs).placeMap l.ch l.place (fun x => { x with got := x.got + 8 })
  if p.stripe = unmapped then s
  else match s.lace.stripes.find? (fun x => x.num = p.stripe ∧ x.closed = none) with
    | some x => (s.accAdd x.set p.slot p.got bs x.parity).stripeMap x.num (fun y => { y with last := s.cyc })
    | none => s

/-- A payload item of the tile in progress (R255, R257). -/
def State.landItem (s : State) (n : Nat) (it : Item) : State :=
  let s := s.landBytes n it.v
  if it.tag = 2 then
    let l := s.lane n
    let v := s.place l.ch l.place
    if v.got < v.len then s.endTrunc n else s.laneMap n (fun l => { l with asm := .ending })
  else s

/-- A SOT item is popped: the assembler holds the header, or discards a tile of a closed hoop (09 R287); one whose header was not
taken opens no tile. -/
def State.popSot (s : State) (n : Nat) (it : Item) : State :=
  if it.rej then s.laneMap n (fun l => { l with asm := .idle })
  else
  let s := s.laneMap n (fun l => { l with hdr := it, asm := .header })
  if s.hoopShut (s.hdrHoopOf it.v) then s.dropHeader n else s

/-- A usable item is popped. -/
def State.popGood (s : State) (n : Nat) (it : Item) : State :=
  if it.tag = 1 then s.popSot n it
  else match (s.lane n).asm with
    | .landing => if it.tag = 3 then s.withdraw n .idle else s.landItem n it
    | .skipping => s.discard n
    | .dropping => if it.tag = 0 then s else s.laneMap n (fun l => { l with asm := .idle })
    | _ => if it.tag = 3 then s else s.discard n

/-- An unusable item is popped (R253): the tile in progress ends as by WITHDRAW, and items are discarded up to the next usable
SOT item. -/
def State.popBad (s : State) (n : Nat) : State :=
  let s := s.discard n
  if (s.lane n).asm = .landing then (s.withdraw n .skipping).laneMap n (fun l => { l with skip := l.asm = .ending }) else s.laneMap n (fun l => { l with asm := .skipping })

/-- ASSEMBLER_POP (R251, R255): the assembler pops one item. It holds while a header waits for its place or a trailer is to be
written, while no stripe takes the tile whose first byte comes next (06 R204), and once a seal applies (13 R389); a SOT item that ends the
tile in progress stays in the spool. -/
def execAssemblerPop (lane : Fin 12) (s : State) : Out :=
  let n : Nat := lane
  let asm := (s.lane n).asm
  if !s.powered (laneDom n) ∨ s.sealApplies ∨ asm = .header ∨ asm = .ending then .next s
  else
    let lands : Bool := asm = .landing && (s.frontItem n).any (fun i => i.tag = 0 || i.tag = 2)
    let (ok, s) := if lands then s.landFirst n else (true, s)
    if !ok then .next s
    else match s.popItem n with
    | none => .next s
    | some (it, s') =>
      let s' := if s.spoolFull n then s'.laneMap n (fun l => { l with freed := some s.cyc }) else s'
      if it.bad then .next (s'.popBad n)
      else if it.tag = 1 ∧ asm = .landing then .next (s.endTrunc n)
      else .next (s'.popGood n it)

/-- TILE_END (R255, R256): the channel writes filler and trailer, and a tile whose PROG has not been issued has it issued. -/
def execTileEnd (lane : Fin 12) (s : State) : Out :=
  let n : Nat := lane
  let l := s.lane n
  if l.asm ≠ .ending then .next s
  else
    let (ok, s) := s.landFirst n
    if !ok then .next s
    else
    let s := (s.tileFinish l.ch l.place).laneMap n (fun l => { l with asm := if l.skip then .skipping else .idle, skip := false })
    .next (if (s.place l.ch l.place).issued ∨ s.sealApplies then s else s.wantProg l.ch l.place false)

end Sys2Proof.Machine
end

