-- ==== Sys2Proof/Machine/Rings.lean ====
section
/-!
DEFINITION. The rings: enable, doorbells, fetching with its ownership bits, CHAN and READ entries, the copies of their data,
and completion records (10_rings_dma.md R295 to R308, R319).
-/

namespace Sys2Proof.Machine

/-! ## Enable, disable and doorbells -/

/-- KIND of a ring: 1 CHAN, 2 READ, 3 DMA, 4 COMPLETION. -/
def State.ringKind (s : State) (r : Nat) : Nat := s.rget r 8 1

/-- Completion ring of a submission ring. -/
def State.ringCq (s : State) (r : Nat) : Nat := s.rget r 0x0A 2 % 16384

/-- STATE [1:0] of a ring. -/
def State.ringSt (s : State) (r : Nat) : Nat := s.rget r 0x16 1 % 4

/-- Set STATE [1:0] of a ring. -/
def State.ringStSet (s : State) (r st : Nat) : State := s.rput r 0x16 1 (s.rget r 0x16 1 / 4 * 4 + st)

/-- Enabled rings. -/
def State.ringsOn (s : State) : List Nat := (s.rng.rings.filter (fun p => p.2.en)).map (fun p => p.1)

/-- Set EN of a ring, its mirror in FLAGS [7] and the count of enabled rings (R295, R320). -/
def State.ringEn (s : State) (r : Nat) (en : Bool) : State :=
  let s := s.ringMap r (fun _ => { en := en })
  (s.rput r 0x0D 1 (s.rget r 0x0D 1 % 128 + b2n en * 128)).set R.RING_ENABLED_CNT s.ringsOn.length

/-- The code of the first check of ENABLE that fails; 0 when all pass (R296). -/
def State.ringCheck (s : State) (r : Nat) : Nat :=
  let k := s.ringKind r
  let sz := s.rget r 9 1
  if (s.ring r).en then 1
  else if k = 0 ∨ 4 < k then 2
  else if sz = 0 ∨ 16 < sz then 3
  else if k ≠ 4 ∧ !((s.ring (s.ringCq r)).en && s.ringKind (s.ringCq r) = 4) then 4
  else if k = 3 ∧ 7 < s.rget r 0x0C 1 then 5
  else 0

/-- Is a completion ring named by an enabled ring or by an enabled stream (R296)? -/
def State.cqInUse (s : State) (r : Nat) : Bool :=
  s.ringsOn.any (fun x => s.ringKind x ≠ 4 && s.ringCq x = r) || s.strms.any (fun p => p.2 && s.sget p.1 4 2 % 16384 = r)

/-- Effect of a write of `RING.CMD` (R296). -/
def ringCmdWr (data : Word) (s : State) : State :=
  let r := bits data.toNat 16 14
  let op := data.toNat % 4
  if op = 1 then
    let c := s.ringCheck r
    let s := if c = 0 then ((((s.ringEn r true).rput r 0x10 2 0).rput r 0x12 2 0).rput r 0x14 2 0).rput r 0x16 1 128 else s
    s.set R.RING_CMD_STAT_RESULT c
  else if op = 2 then
    if !(s.ring r).en then s.set R.RING_CMD_STAT_RESULT 7
    else if s.ringKind r = 4 then
      (if s.cqInUse r then s.set R.RING_CMD_STAT_RESULT 6 else (s.ringEn r false).set R.RING_CMD_STAT_RESULT 0)
    else (s.ringStSet r 3).set R.RING_CMD_STAT_RESULT 0
  else s

/-- RING_ENABLE (R296). -/
def execRingEnable (ring : BitVec 14) (s : State) : Out :=
  .next (s.cpWr R.RING_CMD_OP.addr 0xF#4 (cmdWord ring.toNat 1) (ringCmdWr (cmdWord ring.toNat 1)))

/-- RING_DISABLE (R296). -/
def execRingDisable (ring : BitVec 14) (s : State) : Out :=
  .next (s.cpWr R.RING_CMD_OP.addr 0xF#4 (cmdWord ring.toNat 2) (ringCmdWr (cmdWord ring.toNat 2)))

/-- DRAINED (R296): a draining ring whose COUNT is 0 becomes disabled. -/
def execDrained (ring : BitVec 14) (s : State) : Out :=
  let r := ring.toNat
  if !(s.ring r).en ∨ s.ringKind r = 4 ∨ s.ringSt r ≠ 3 ∨ s.rget r 0x14 2 ≠ 0 ∨ (s.ring r).busy ≠ 0 then .next s
  else .next ((s.ringEn r false).ringRaise r 5)

/-- The reason for which a doorbell is refused; 0 when it is accepted (R297). -/
def State.dbCheck (s : State) (r t : Nat) : Nat :=
  let n := s.ringSize r
  let head := s.rget r 0x10 2
  let held := (s.rget r 0x12 2 + n - head) % n
  let new := (t + n - head) % n
  if !(s.ring r).en then 1
  else if n ≤ t then 2
  else if s.ringKind r ≠ 4 ∧ s.ringSt r = 3 then 3
  else if s.ringKind r = 4 then (if held < new then 4 else 0)
  else if new < held then 4
  else 0

/-- Effect of a write of `RING.DOORBELL` (R297, R298). -/
def doorbellWr (data : Word) (s : State) : State :=
  let r := bits data.toNat 0 14
  let t := bits data.toNat 16 16
  let c := s.dbCheck r t
  if c ≠ 0 then ((s.set R.RING_DB_INFO_RING r).set R.RING_DB_INFO_REASON c).ringRaise r 1
  else if s.ringKind r = 4 then (s.rput r 0x10 2 t).ringSettle r
  else
    let s := s.rput r 0x12 2 t
    let s := if s.ringSt r = 2 then (s.ringStSet r 1).ringMap r (fun x => { x with tries := 0, wait := false }) else s
    s.ringSettle r

/-- DOORBELL (R297). -/
def execDoorbell (data : Word) (s : State) : Out := .next (s.cpWr R.RING_DOORBELL_RING.addr 0xF#4 data (doorbellWr data))

/-! ## Fetching (R298 to R300) -/

/-- Does an origin hold an entry of ring `r`: fetched and not yet handed on, or waiting for a slot of its channel (05 R156)? -/
def State.ringHeld (s : State) (r : Nat) : Bool :=
  (s.rng.chanq ++ s.rng.readq ++ s.rng.dmaq).any (fun p => p.1 = r) && s.ringKind r ≠ 3 ||
  s.chans.any (fun p => p.2.wait.any (fun d => d.org = 1 && d.origin % 16384 = r))

/-- Entries that ring `r` may fetch in one burst now (R298, R300, R319). -/
def State.fetchable (s : State) (r : Nat) : Nat :=
  let n := s.ringSize r
  let head := s.rget r 0x10 2
  let sub := (s.rget r 0x12 2 + n - head) % n
  let cq := s.ringCq r
  let m := s.ringSize cq
  let held := (s.rget cq 0x12 2 + m - s.rget cq 0x10 2) % m
  let room := m - 1 - (s.rget cq 0x14 2 + held)
  let a := s.ringBase r + 64 * head
  if !(s.ring r).en ∨ s.ringKind r = 4 ∨ 2 ≤ s.ringSt r ∨ (s.ring r).busy ≠ 0 ∨ (s.ring r).wait ∨ !(s.ring cq).en ∨
    (s.ringKind r ≠ 3 ∧ s.sealApplies) ∨ s.ringHeld r then 0
  else min (min 16 sub) (min room (min (n - head) ((4096 - a % 4096) / 64)))

/-- Read the entries from HEAD on: each reserves a record (R298, R300). -/
def State.ringIssue (s : State) (r : Nat) : State :=
  let k := s.fetchable r
  if k = 0 then s
  else
    let cq := s.ringCq r
    let s := (s.rput cq 0x14 2 (s.rget cq 0x14 2 + k)).ringMap r (fun x => { x with busy := k })
    s.mpRead (r % 2) 1 1 (s.ringBase r + 64 * s.rget r 0x10 2) k (.entry r)

/-- RING_FETCH (R298): the ring unit reads submitted entries; what they hold comes with their beats (MEMORY_READ_RETURN). -/
def execRingFetch (ring : BitVec 14) (s : State) : Out := .next (if s.powered 0 then s.ringIssue ring.toNat else s)

/-- OWN_RETRY (R298): an entry whose OWN read 0 is fetched again. -/
def execOwnRetry (ring : BitVec 14) (s : State) : Out :=
  let r := ring.toNat
  .next (if (s.ring r).wait then (s.ringMap r (fun x => { x with wait := false })).ringIssue r else s)

/-- The entry at HEAD has OWN = 1: it is copied, HEAD advances and OWN is cleared in memory (R298); a CHAN descriptor without
CMPL gives its reservation back (R300). -/
def State.entryTake (s : State) (r : Nat) (e : List Byte) : State :=
  let head := s.rget r 0x10 2
  let a := s.ringBase r + 64 * head
  let k := s.ringKind r
  let s := (s.rput r 0x10 2 ((head + 1) % s.ringSize r)).rput r 0x14 2 (s.rget r 0x14 2 + 1)
  let s := (s.ringMap r (fun x => { x with tries := 0 })).mpWrite (r % 2) 1 (a + 63) [0] (.entry r)
  let cq := s.ringCq r
  if k = 1 then
    (let s := if bit (e.getD 1 0).toNat 3 then s else s.rput cq 0x14 2 (s.rget cq 0x14 2 - 1)
     s.rngMap (fun g => { g with chanq := g.chanq ++ [(r, e)] }))
  else if k = 2 then s.rngMap (fun g => { g with readq := g.readq ++ [(r, e)] })
  else s.rngMap (fun g => { g with dmaq := g.dmaq ++ [(r, e)] })

/-- Handle the entries of a fetch in order (R298): `data` are its bytes, `k` entries are left, `i` is the number of the next; the
number of entries used and the state. -/
def State.entriesGot (s : State) (r : Nat) (data : List Byte) (bad : List Nat) : Nat → Nat → Nat × State
  | 0, i => (i, s)
  | k + 1, i =>
    if !(s.ring r).en ∨ 2 ≤ s.ringSt r then (i, s)
    else if i ∈ bad then (i, (s.ringStSet r 2).ringRaise r 6)
    else
      let e := (data.drop (64 * i)).take 64
      if bit (e.getD 63 0).toNat 7 then (s.entryTake r e).entriesGot r data bad k (i + 1)
      else if (s.ring r).tries < max 1 (s.get R.RING_OWN_RETRY_TRIES) then
        (i, s.ringMap r (fun x => { x with tries := x.tries + 1, wait := true }))
      else (i, ((s.ringStSet r 2).rput r 0x1C 4 ((s.rget r 0x1C 4 + 1) % 2 ^ 32)).ringRaise r 2)

/-- A fetch of ring `r` has ended: its entries are handled, and the reservations of those not used are given back. -/
def State.ringGot (s : State) (r : Nat) (data : List Byte) (bad : List Nat) : State :=
  let k := (s.ring r).busy
  let cq := s.ringCq r
  let s := (s.ctxSeen (rctx r) 8).ctxSeen (rctx cq) 8
  let (used, s) := s.entriesGot r data bad k 0
  ((s.rput cq 0x14 2 (s.rget cq 0x14 2 - (k - used))).ringMap r (fun x => { x with busy := 0 })).ringSettle r

/-! ## Shared windows (R308) -/

/-- Does an external range lie wholly inside an enabled window that permits the access? -/
def State.winOk (s : State) (a n : Nat) (wr : Bool) : Bool :=
  !s.flag R.DMA_CTRL_WIN_EN || (List.range 8).any (fun k =>
    let base := s.get (R.DMA_WIN_BASE_HI_ADDR k) * 2 ^ 32 + s.get (R.DMA_WIN_BASE_LO_ADDR k) * 4096
    s.get (R.DMA_WIN_SIZE_PAGES k) ≠ 0 && s.flag (if wr then R.DMA_WIN_CFG_W k else R.DMA_WIN_CFG_R k) &&
    decide (base ≤ a) && decide (a + n ≤ base + s.get (R.DMA_WIN_SIZE_PAGES k) * 4096))

/-! ## CHAN entries (R305) -/

/-- The opcodes for which the ring unit takes a place and copies the data. -/
def Desc.ringReads (d : Desc) : Bool := d.opcode = 3 || d.opcode = 4 || d.opcode = 8

/-- Bytes copied for a CHAN read. -/
def Desc.clen (d : Desc) : Nat := if d.opcode = 3 then 65536 else if d.opcode = 4 then 4096 * d.cws.length else 18432

/-- The status with which the ring unit refuses a CHAN entry; `none` when it is handed on. -/
def State.chanRefuse (s : State) (d : Desc) : Option Nat :=
  let dest := d.param % 2 ^ 48
  let dlen := d.param / 2 ^ 64 % 2 ^ 32
  if s.gen.nch ≤ taCh d.taddr then some 0x22
  else if !d.ringReads ∨ dlen = 0 then none
  else if dlen < d.clen then some 0x22
  else if dest % 64 ≠ 0 then some 0x61
  else if !s.winOk dest d.clen true then some 0x64
  else none

/-- CHAN_ENTRY (R305): the oldest entry fetched from a CHAN ring goes to its channel, a read with a place taken for it. -/
def execChanEntry (ring : BitVec 14) (s : State) : Out :=
  let r := ring.toNat
  match s.rng.chanq.find? (fun p => p.1 = r) with
  | none => .next s
  | some (_, e) =>
    let d := { descOf e with origin := 0x4000 + r }
    let pop (s : State) : State := s.rngMap (fun g => { g with chanq := g.chanq.eraseP (fun p => p.1 = r) })
    match s.chanRefuse d with
    | some st => .next ((pop s).chanEnd r d.tag d.cmpl st (s.stdRes (taCh d.taddr) d 0 0 0))
    | none =>
      if d.ringReads then
        match s.decFree with
        | none => .next s
        | some p =>
          let s := ((pop s).dplaceSet p (.chan r)).resClear p
          let copy : Bool := d.param / 2 ^ 64 % 2 ^ 32 ≠ 0
          let s := s.rngMap (fun g => { g with chanReads := g.chanReads ++ [⟨r, p, d.param % 2 ^ 48, copy⟩] })
          .next (s.issue { d with dbuf := p })
      else .next ((pop s).issue d)

/-! ## READ entries (R306, R307) -/

/-- The status with which a READ entry is refused; `none` when it runs. -/
def State.readRefuse (s : State) (q : ReadReq) (count dlen : Nat) : Option Nat :=
  let stride := if q.trl then 65536 else 65472
  if count = 0 ∨ 4095 < count ∨ s.mapEntries < q.tileno + count ∨ dlen < count * stride then some 0x22
  else if q.dest % 64 ≠ 0 then some 0x61
  else if !s.winOk q.dest (count * stride) true then some 0x64
  else none

/-- READ_ENTRY (R307): the oldest entry fetched from a READ ring is checked, and its tiles are looked up in order. -/
def execReadEntry (ring : BitVec 14) (s : State) : Out :=
  let r := ring.toNat
  match s.rng.readq.find? (fun p => p.1 = r) with
  | none => .next s
  | some (_, e) =>
    let u (a n : Nat) := leNat ((e.drop a).take n)
    let id := s.rng.nextRead
    let q : ReadReq := { id := id, ring := r, tag := u 0x18 8, tileno := u 0 4 % 2 ^ 31, count := u 4 2, dest := u 8 8 % 2 ^ 48
                         trl := bit (u 6 1) 0, hint := u 0x14 4 }
    let s := s.rngMap (fun g => { g with readq := g.readq.eraseP (fun p => p.1 = r) })
    match s.readRefuse q q.count (u 0x10 4) with
    | some st => .next (s.pushRec ⟨s.ringCq r, r, 0, q.tag % 2 ^ 32, st, 2⟩)
    | none =>
      let s := s.rngMap (fun g => { g with nextRead := id + 1, reads := g.reads ++ [q] })
      .next ((List.range q.count).foldl (fun s k => s.mapSubmit (.read id k (q.tileno + k))) s)

/-! ## Copies and records -/

/-- What follows a copy whose last burst has been issued: the place returns to the pool, and the record or the end of the tile
(R305, R307). -/
def State.copyEnd (s : State) (c : CopyS) : State :=
  let s := s.decRelease c.place
  let s := match c.recOut with
    | some x => s.pushRec x
    | none => if c.tile.isNone then s.ringDone c.ring else s
  match c.tile with
  | some (id, k, st) => s.readTileEnd id k st 0
  | none => s

/-- Set the work of RB. -/
def State.rbSet (s : State) (l : List RbJob) : State := s.rngMap (fun g => { g with rb := l })

/-- One burst of a copy, on the port of its ring; after the last one the copy has ended (R305, R307). -/
def State.copyBurst (s : State) (c : CopyS) (rest : List RbJob) : State :=
  match c.parts with
  | [] => (s.rbSet rest).copyEnd c
  | (off, dst, n) :: ps =>
    let k := min n (4096 - dst % 4096)
    let parts := if k < n then (off + k, dst + k, n - k) :: ps else ps
    let s := (s.bufRead 2 (c.place * 16384 + off / 8) ((k + 7) / 8)).mpWrite (c.ring % 2) 4 dst (s.dGet c.place off k) (.copy c.ring)
    if parts = [] then (s.rbSet rest).copyEnd c else s.rbSet (.copy { c with parts := parts } :: rest)

/-- Reads of RB asked for and not returned: at most 8 (R316). -/
def State.rbReads (s : State) : Nat :=
  let p (u : MpUse) : Bool := match u with
    | .gdt _ _ => true
    | _ => false
  (s.mp.queue.filter (fun q => p q.use)).length + (s.mp.reads.filter (fun r => p r.use)).length

/-- Has RB a burst to issue? -/
def State.rbReady (s : State) : Bool :=
  match s.rng.rb with
  | [] => false
  | .gdt _ _ _ _ :: _ => decide (s.rbReads < 8)
  | _ => true

/-- One burst of RB's oldest work (R316, 02 R485). -/
def State.rbBurst (s : State) : State :=
  if !s.rbReady then s
  else match s.rng.rb with
    | [] => s
    | .copy c :: rest => s.copyBurst c rest
    | .write a bs :: rest =>
      let k := min bs.length (4096 - a % 4096)
      ((if bs.length ≤ k then s.rbSet rest else s.rbSet (.write (a + k) (bs.drop k) :: rest))).mpWrite 0 4 a (bs.take k) .rb
    | .gdt n a pos stop :: rest =>
      let k := min (stop - pos) (4096 - (a + pos) % 4096)
      ((if stop ≤ pos + k then s.rbSet rest else s.rbSet (.gdt n a (pos + k) stop :: rest))).mpRead 0 4 3 (a + pos) ((k + 63) / 64) (.gdt n pos)

/-- Up to `n` bursts of RB. -/
def State.rbTurn (s : State) : Nat → State
  | 0 => s
  | n + 1 => if s.rbReady then s.rbBurst.rbTurn n else s

/-- A job for RB. -/
def State.rbAdd (s : State) (j : RbJob) : State := s.rbSet (s.rng.rb ++ [j])

/-- Is RB's oldest work a copy? -/
def State.rbCopies (s : State) : Bool :=
  match s.rng.rb with
  | .copy _ :: _ => true
  | _ => false

/-- Bursts of a copy until it has ended. -/
def State.copyAll (s : State) (rest : List RbJob) : Nat → State
  | 0 => s
  | n + 1 => if s.rng.rb = rest ∨ !s.rbCopies then s else s.rbBurst.copyAll rest n

/-- RESULT_COPY (R305, R307): the copy that came first goes to its destination. -/
def execResultCopy (s : State) : Out :=
  .next (match s.rng.rb with
    | .copy c :: rest => s.copyAll rest (2 * c.parts.length + 2)
    | _ => s)

/-- The first 15 bytes of a completion record of a ring descriptor (R301). -/
def recBytes (r : RecOut) : List Byte := leBytes 8 r.data ++ leBytes 4 r.tag ++ leBytes 2 r.src ++ leBytes 1 r.status

/-- Do copied data of a descriptor of ring `r` still wait for their port's grant? A record is written after its data have been
issued (R303); those of a DMA descriptor have been accepted before it completes. -/
def State.dataWaits (s : State) (r : Nat) : Bool :=
  s.mp.queue.any (fun q => q.read.isNone && (match q.use with
    | .copy k => k = r
    | _ => false))

/-- The record written next: the oldest whose completion ring has no record on its way and whose data have been issued (R302,
R303). -/
def State.recNext (s : State) : Option RecOut := s.rng.recs.find? (fun r => !s.cqBusy r.cq && !s.dataWaits r.src)

/-- COMPLETION_RECORD (R302): the record is presented at TAIL of its completion ring; it counts as written, its reservation ends and
its descriptor has completed when the port accepts it (MEMORY_WRITE_ACCEPTED). -/
def execCompletionRecord (s : State) : Out :=
  match s.recNext with
  | none => .next s
  | some r => .next ((s.rngMap (fun g => { g with recs := g.recs.erase r })).cqWrite r.cq r.src (recBytes r) r.typ (some r.src))

end Sys2Proof.Machine
end

