-- ==== Sys2Proof/Machine/Power.lean ====
section
/-!
DEFINITION. The power controller: domain commands and their handshake, holders, what a domain without power loses, the
accepted `PF_WARN` and the start of a seal (13_power_holdup.md R378 to R393; 02_ports.md R81 to R83).
-/

namespace Sys2Proof.Machine

/-- Change a domain. -/
def State.domMap (s : State) (d : Nat) (f : DomS → DomS) : State :=
  { s with pwr := { s.pwr with doms := tmod (fun _ => {}) s.pwr.doms d f } }

/-- Put a domain in a state. -/
def State.domSet (s : State) (d : Nat) (st : DomSt) : State := s.domMap d (fun x => { x with st := st })

/-- Code of a domain state in `DOM_STATE0` and `DOM_STATE1` (R379). -/
def DomSt.code : DomSt → Nat
  | .off => 0 | .powering => 1 | .on => 2 | .quiescing => 3 | .poweringDown => 4 | .lost => 5

/-- Raise a PWR event (R407). -/
def State.pwrRaise (s : State) (b : Nat) : State := s.raise .pwr 0 b

/-! ## Power-down holders (R380) -/

/-- Lanes of a LANE domain. -/
def domLanes (d : Nat) : List Nat := (List.range 12).filter (fun n => laneDom n = d)

/-- Channels of a CHAN domain. -/
def domChans (d : Nat) : List Nat := (List.range 48).filter (fun n => chDom n = d)

/-- Engines and places of a DEC domain. -/
def domEngs (d : Nat) : List Nat := (List.range 24).filter (fun e => decDom e = d)

/-- Holder SPOOL: a lane has items, or a tile in progress. -/
def State.laneBusy (s : State) (n : Nat) : Bool :=
  let l := s.lane n
  l.st = .inTile || l.wd || l.head ≠ [] || l.tail ≠ [] || l.midN ≠ 0 || l.spilling ≠ 0 ||
  (match l.asm with
   | .header => true
   | .landing => true
   | .ending => true
   | _ => false)

/-- Holder CHANNEL: a descriptor in a slot, a park record, a running context or a PHY command. -/
def State.chanBusy (s : State) (n : Nat) : Bool :=
  (s.ch n).slots ≠ [] || (List.range 16).any (fun l => (s.lun n l).park.isSome) || (s.ch n).ctx.run = .run || (s.ch n).phy.cmd.isSome

/-- Holder PLACE. -/
def State.placeBusy (s : State) (n : Nat) : Bool := (List.range 8).any (fun p => (s.place n p).used)

/-- Does the on-chip range of a running DMA descriptor lie in a domain (R380, code 7)? Ranges of COPY and FILL lie in CORE; a
DUMP source takes in every page of its range. -/
def State.dmaIn (s : State) (d : Nat) (bs : List Byte) : Bool :=
  let u (a n : Nat) := leNat ((bs.drop a).take n)
  u 0 1 = 7 &&
  (let src := u 8 8 % 2 ^ 24
   let len := u 4 4
   (List.range (min 4096 (len / 4096 + 2))).any (fun i => decide ((src / 4096 + i) * 4096 < src + len) && s.addrDom ((src / 4096 + i) * 4096) = some d) ||
   -- the SPOOL page holds registers of the LANE groups (log entry 50)
   (List.range 96).any (fun i => decide (src ≤ 0xA100 + 4 * i) && decide (0xA100 + 4 * i < src + len) && s.addrDom (0xA100 + 4 * i) = some d))

/-- Holder DMA: for CORE any channel with a descriptor, for another domain a descriptor that touches it, taken by a channel or fetched
and waiting for one. -/
def State.dmaBusy (s : State) (d : Nat) : Bool :=
  s.rng.dma.any (fun p => match p.2.desc with
    | some x => d = 0 || s.dmaIn d x.2
    | none => false) ||
  s.rng.dmaq.any (fun p => d = 0 || s.dmaIn d p.2)

/-- The lowest holder code of a domain that applies (R380). -/
def State.holder (s : State) (d : Nat) : Option Nat :=
  let hs : List (Bool × Nat) := [
    ((domLanes d).any s.laneBusy, 1),
    ((domChans d).any s.chanBusy, 2),
    ((domChans d).any s.placeBusy, 3),
    ((domChans d).any (fun n => (s.ch n).ledg.staged ≠ []), 4),
    ((domEngs d).any (fun e => s.dplace e ≠ .free || (tget (fun _ => none) s.dec.run e : Option Job).isSome), 5),
    (d = 0 && s.ringsOn.any (fun r => s.rget r 0x14 2 ≠ 0), 6),
    (s.dmaBusy d, 7),
    (d = 0 && (s.map.flush.isSome || s.map.fills ≠ [] || s.map.wbs ≠ [] || s.map.evicted ≠ [] ||
      s.lace.stripes.any (fun x => x.closed.isNone || x.copies ≠ [])), 8),
    (d = 0 && (s.mp.reads ≠ [] || s.mp.queue ≠ [] || s.mp.writes ≠ [] || s.mp.done ≠ []), 9)]
  (hs.find? (fun p => p.1)).map (fun p => p.2)

/-! ## A domain without power -/

/-- The bits of a register word that survive a warm reset and a power-down (00 R22). -/
def keepMask (a : Nat) : Word :=
  match rowAt a with
  | none => 0
  | some (_, _, r) => r.keep

/-- The fields whose reset values the latched straps give, of the addresses of `p` (16 R450, R466). -/
def State.strapRegs (s : State) (p : Nat → Bool) : State :=
  let s := if s.gen.xlink ∧ p R.XLINK_CFG_INDEX.addr then s.set R.XLINK_CFG_INDEX s.cp.xlIdx.toNat else s
  if s.gen.refl ∧ p R.REFL_CFG_PRIMARY.addr ∧ s.cp.rfPrimary then
    ((s.set R.REFL_CFG_PRIMARY 1).set R.REFL_CLAIM_LO_CH (2 ^ min 32 s.gen.nch - 1)).set R.REFL_CLAIM_HI_CH (2 ^ (s.gen.nch - 32) - 1)
  else s

/-- The register words of the addresses of `p` take their reset values, kept bits apart (00 R22). -/
def State.regsReset (s : State) (p : Nat → Bool) : State :=
  let t : State := { s with regs := s.regs.filterMap (fun x =>
      if p x.1 then
        (let v := (x.2 &&& keepMask x.1) ||| (resetVal x.1 &&& ~~~keepMask x.1)
         if v = resetVal x.1 then none else some (x.1, v))
      else some x) }
  t.strapRegs p

/-- Does a register address lie on a page of a domain? -/
def addrIn (d a : Nat) : Bool :=
  match spoolLane a with
  | some n => laneDom n = d
  | none =>
    match pageOfIndex (a / 0x1000) with
    | some (p, n) => pageDom p n = d
    | none => false

/-- Count the valid remap entries of a region (14 R430). -/
def State.remapCount (s : State) (r : Nat) : State := s.set (R.MEMI_REMAP_USED_CNT r) (s.remaps r).length

/-- Keys of the words of a domain that are kept with a pattern, as ranges (14 R408; 01 R25). -/
def domKeys (d : Nat) : List (Nat × Nat) :=
  let keys (r w n : Nat) : Nat × Nat := (skey r w, skey r w + n)
  if d = 0 then [keys 3 0 0x1000000, keys 4 0 0x1000000, keys 5 (tabWord 3 0) 0x10000, (skey 5 (tabWord 4 0), skey 5 (remapIx 5 0)),
    (skey 5 (remapIx 6 0), skey 5 (tabWord 5 0))]
  else if d ≤ 3 then [keys 1 ((3 - d) * 4 * 65536) (4 * 65536)]
  else if d ≤ 9 then [keys 0 ((9 - d) * 8 * 73728) (8 * 73728)]
  else if d ≤ 12 then [keys 2 ((12 - d) * 8 * 16384) (8 * 16384)]
  else []

/-- The SRAM of a domain loses its content (01 R27): its words are as at power-up, with a new epoch; the remap entries of its
words are clear (14 R421), and so are their queued write-backs. -/
def State.sramLose (s : State) (d : Nat) : State :=
  let s : State := { s with
    sram := s.sram.filter (fun p => decide (wordDom (p.1 / 0x1000000) (p.1 % 0x1000000) ≠ d))
    epochs := tmod (fun _ => 0) s.epochs d (fun k => k + 1)
    memi := { s.memi with
      err := s.memi.err.filter (fun p => decide (anyDom (p.1 / 0x1000000) (p.1 % 0x1000000) ≠ d))
      written := (domKeys d).foldl (fun t p => rDel t p.1 p.2) s.memi.written
      wb := s.memi.wb.filter (fun p => decide (anyDom p.1 p.2 ≠ d)), early := s.memi.early.filter (fun p => decide (anyDom p.1 p.2 ≠ d))
      remap := s.memi.remap.filter (fun p => match p.2 with
        | some e => decide (anyDom (p.1 / 8) e.waddr ≠ d)
        | none => false) } }
  (List.range 7).foldl State.remapCount s

/-- The units of CORE lose their state; the repair records and the remap table of region 5 lie in AON (14 R421, R425). -/
def State.coreLose (s : State) : State :=
  { s with map := {}, strms := [], hoops := [], lace := {}, dec := {}, rcv := {}, spool := {}, rng := {}, lnk := {}, mp := {}
           memi := { fuse := s.memi.fuse, remap := s.memi.remap.filter (fun p => p.1 / 8 = 5), err := s.memi.err, written := s.memi.written } }

/-- A lane loses its state, and no tile of it waits any more (09 R287); the level of `LNn_LINKUP` stays. -/
def State.laneLose (s : State) (n : Nat) : State :=
  ((List.range 64).foldl (fun s h => s.stallEnd h n) s).laneMap n (fun l => { linkup := l.linkup })

/-- A channel loses its state; what its origins hold for it stays with them (05 R156), and what the power controller holds for its ledger
stays there, in AON (01 R25; R400, R407). -/
def State.chanLose (s : State) (n : Nat) : State :=
  let c := s.ch n
  let s := s.chMap n (fun _ => { wait := c.wait, ledg := c.ledg })
  let s := (List.range 16).foldl (fun s l => s.lunMap n l (fun _ => {})) s
  { s with tbuf := s.tbuf.filter (fun p => decide (p.1 / 73728 / 8 ≠ n)) }

/-- A DEC group loses its places. -/
def State.decLose (s : State) (d : Nat) : State :=
  s.decMap (fun x => { x with
    buf := x.buf.filter (fun p => decide (decDom (p.1 / 131072) ≠ d))
    result := x.result.filter (fun p => decide (decDom (p.1 / 16) ≠ d))
    shadow := x.shadow.filter (fun p => decide (decDom (p.1 / 4) ≠ d)) })

/-- A domain is isolated and held in reset: its pages take their reset values and its units and SRAM lose their content. -/
def State.domLose (s : State) (d : Nat) : State :=
  let s := (s.regsReset (addrIn d)).sramLose d
  let s := if d = 0 then s.coreLose else s
  let s := (domLanes d).foldl State.laneLose s
  let s := (domChans d).foldl State.chanLose s
  let s : State := { s with grps := s.grps.filter (fun p => decide (9 - p.1 ≠ d)) }
  if 10 ≤ d then s.decLose d else s

/-! ## Domain commands (R378 to R383) -/

/-- A domain takes work again: requests that wait for a decoder-buffer place of it are served (06 R194; 10 R307). -/
def State.domWork (s : State) (d : Nat) : State := if 10 ≤ d then s.decPump else s

/-- Carry out UP (1) or DOWN (2) for a domain: its result and the state (R378 to R383, R442 of chapter 15). An UP meets a
domain that a warm reset is powering down by waiting (02 R79). DESIGN CHOICE (log entry 51): for an UP that waits, the dependency
on CORE is looked at when the power-down has ended; the spec names no time. -/
def State.domCmd (s : State) (d op : Nat) : Nat × State :=
  let st := (s.dom d).st
  if !s.domPresent d then (1, s)
  else if s.pf then (4, s)
  else if op = 1 then
    (match st with
     | .quiescing => (0, (s.domSet d .on).domWork d)
     | .off =>
       if d ≠ 0 ∧ (s.dom 0).st ≠ .on then (3, s) else (0, s.domMap d (fun x => { x with st := .powering, init := false }))
     | .poweringDown => if (s.dom d).warm then (0, s.domMap d (fun x => { x with wantUp := true })) else (2, s)
     | _ => (2, s))
  else if s.grave ∨ st ≠ .on then (2, s)
  else if d = 0 ∧ (List.range 13).any (fun k => k ≠ 0 && (s.dom k).st ≠ .off) then (3, s)
  else (0, s.domSet d .quiescing)

/-- Effect of a write of `PWR.DOM_CMD` (R379, R380, R407). -/
def domCmdWr (data : Word) (s : State) : State :=
  let op := data.toNat % 4
  if op = 1 ∨ op = 2 then
    (let (r, s) := s.domCmd (bits data.toNat 16 4) op
     s.set R.PWR_DOM_RES_RESULT r)
  else s

/-- UP (R379). -/
def execDomUp (dom : Fin 13) (s : State) : Out :=
  .next (s.cpWr R.PWR_DOM_CMD_OP.addr 0xF#4 (cmdWord dom 1) (domCmdWr (cmdWord dom 1)))

/-- DOWN (R380). -/
def execDomDown (dom : Fin 13) (s : State) : Out :=
  .next (s.cpWr R.PWR_DOM_CMD_OP.addr 0xF#4 (cmdWord dom 2) (domCmdWr (cmdWord dom 2)))

/-- STAGGER_EXPIRE (R379; 02 R81): a domain in POWERING raises its `PD_REQ` once `PD_ACK` reads 0. -/
def execStaggerExpire (dom : Fin 13) (s : State) : Out :=
  let x := s.dom dom
  .next (if x.st = .powering ∧ !x.req ∧ !x.ack then s.domMap dom (fun y => { y with req := true, ignore := false }) else s)

/-- PD_ACK_RISE (R379; 02 R82, R83): a requested domain leaves isolation, its repairs are applied again and its reset is
released; a rise that nothing asked for is ignored. -/
def execPdAckRise (dom : Fin 13) (s : State) : Out :=
  if !s.domPresent dom then .next s
  else
    let s := s.domMap dom (fun y => { y with ack := true })
    .next (if (s.dom dom).st = .powering ∧ (s.dom dom).req then s.domMap dom (fun y => { y with init := true }) else s)

/-- Hardware writes the SRAM of a domain that has been powered up (17 R475): the map cache for CORE, beside the guard bitmap, whose words
read so while nothing else has been written; the spool tiers of a LANE group. -/
def State.upWrite (s : State) (d : Nat) : State :=
  if d = 0 then s.bufWrote 3 0 1048576
  else if d ≤ 3 then s.bufWrote 1 ((3 - d) * 4 * 65536) (4 * 65536)
  else s

/-- The registers of a domain that has been powered up have their reset values. The MEMI page of CORE shows the remap entries that AON holds
(14 R421), and a FUSE_BAD raised while it had no power (14 R426; log entry 58). -/
def State.upRegs (s : State) (d : Nat) : State :=
  let ev := s.rd (pageBase .memi 0 + 0x10)
  let s := s.regsReset (addrIn d)
  if d = 0 then ((List.range 7).foldl State.remapCount s).wr (pageBase .memi 0 + 0x10) (ev &&& 0x200#32) else s

/-- UP_DONE (17 R475): hardware has written the domain's SRAM, and the domain is ON. -/
def execUpDone (dom : Fin 13) (s : State) : Out :=
  if (s.dom dom).st = .powering ∧ (s.dom dom).init then
    .next (((((s.upRegs dom).upWrite dom).domMap dom (fun y => { y with st := .on, init := false })).pwrRaise 0).domWork dom)
  else .next s

/-- PD_ACK_TIMEOUT (02 R82): `PD_ACK` has not risen, and the domain returns to OFF. -/
def execPdAckTimeout (dom : Fin 13) (s : State) : Out :=
  if (s.dom dom).st = .powering ∧ (s.dom dom).req ∧ !(s.dom dom).ack then
    .next (((s.domMap dom (fun y => { y with st := .off, req := false, ignore := true })).pwrRaise 3).count 2 0)
  else .next s

/-! ## Loss of a domain (02 R82; 06 R195) -/

/-- A lane whose power is lost: its tile in progress ends as by WITHDRAW (08 R257). -/
def State.lanePowerLost (s : State) (n : Nat) : State :=
  let s := if (s.lane n).asm = .landing then s.withdraw n .idle else s
  let l := s.lane n
  let s := if l.asm = .ending then
      (let s := s.tileFinish l.ch l.place
       if (s.place l.ch l.place).issued ∨ s.sealApplies then s else s.wantProg l.ch l.place false)
    else s
  s.laneLose n

/-- A channel whose power is lost: its descriptors complete POWER_OFF, and a tile landing in it is discarded. -/
def State.chanPowerLost (s : State) (n : Nat) : State :=
  let ds := (s.ch n).slots.map (fun x => (x.desc, s.stdRes n x.desc 0 0 0)) ++ (s.ch n).reads.map (fun x => (x.desc, x.res))
  let s := s.chMap n (fun c => { c with slots := [], reads := [] })
  let s := ds.foldl (fun s d => s.deliver n d.1 0x24 d.2) s
  let s := (List.range 12).foldl (fun s i =>
    if (s.lane i).ch = n ∧ ((s.lane i).asm = .landing ∨ (s.lane i).asm = .ending) then s.laneMap i (fun l => { l with asm := .skipping }) else s) s
  s.chanLose n

/-- A job goes back to the head of its queue (06 R195). -/
def State.jobBack (s : State) (j : Job) : State :=
  s.decMap (fun x => if j.urgent then { x with hi := j :: x.hi } else { x with lo := j :: x.lo })

/-- A copy from a lost place ends with POWER_OFF instead. -/
def State.copyLost (s : State) (c : CopyS) : State :=
  let s := match c.recOut with
    | some r => s.pushRec { r with status := 0x24, data := 0 }
    | none => if c.tile.isNone then s.ringDone c.ring else s
  match c.tile with
  | some (id, k, _) => s.readTileEnd id k 0x24 0
  | none => s

/-- The jobs of a lost DEC group return to the head of their queues; what its places held is gone. -/
def State.jobsLost (s : State) (d : Nat) : State :=
  let inD (e : Nat) : Bool := decDom e = d
  let jobs := (domEngs d).filterMap (fun e => (tget (fun _ => none) s.dec.run e : Option Job))
  let s := jobs.reverse.foldl State.jobBack (s.decMap (fun x => { x with run := x.run.filter (fun p => !inD p.1) }))
  (s.decMap (fun x => { x with
    landed := x.landed.filter (fun y => !inD y.desc.dbuf), hi := x.hi.filter (fun j => !inD j.place), lo := x.lo.filter (fun j => !inD j.place)
    run := x.run.filter (fun p => match p.2 with
      | some j => !inD j.place
      | none => true) })).decLose d

/-- The channel reads that a lost DEC group's places serve complete with POWER_OFF. -/
def State.readsLost (s : State) (d : Nat) : State :=
  let reads := (List.range 48).flatMap (fun n => ((s.ch n).reads.filter (fun r => decDom r.desc.dbuf = d)).map (fun r => (n, r)))
  reads.foldl (fun s x => (s.chMap x.1 (fun c => { c with reads := c.reads.erase x.2 })).deliver x.1 x.2.desc 0x24 x.2.res) s

/-- Survivors in a lost DEC group's places are lost to their reconstructions. -/
def State.foldsLost (s : State) (d : Nat) : State :=
  let folds := s.rcv.folds.filter (fun f => decDom f.2.2 = d)
  let s := s.rcvMap (fun r => { r with folds := r.folds.filter (fun f => !decide (decDom f.2.2 = d)) })
  folds.foldl (fun s f => (s.decRelease f.2.2).survivorLost f.1 f.2.1) s

/-- Results in a lost DEC group's places are lost to their rings. -/
def State.copiesLost (s : State) (d : Nat) : State :=
  let lost : RbJob → Option CopyS := fun j => match j with
    | .copy c => if decDom c.place = d then some c else none
    | _ => none
  let copies := s.rng.rb.filterMap lost
  let s := s.rbSet (s.rng.rb.filter (fun j => (lost j).isNone))
  copies.foldl (fun s c => (s.decRelease c.place).copyLost c) s

/-- A DEC group whose power is lost (06 R195): running jobs return to the head of their queues; what its places held is gone,
and the reads they serve complete with POWER_OFF. -/
def State.decPowerLost (s : State) (d : Nat) : State :=
  let s := ((s.jobsLost d).readsLost d).foldsLost d
  let s := (s.rcv.reqs.filter (fun q => decDom q.place = d)).foldl (fun s q => s.rcvEnd q 0x24 0) s
  s.copiesLost d

/-- A CHAN domain no longer has channels that seal (R393). -/
def State.sealLeave (s : State) (d : Nat) : State :=
  ({ s with pwr := { s.pwr with sealing := s.pwr.sealing.filter (fun n => decide (chDom n ≠ d)) } }).sealDone

/-- DOMAIN_LOST (02 R82): `PD_ACK` falls; while `PD_REQ` is 1 the domain is isolated at once, and transfers that target it
complete with POWER_OFF. -/
def execDomainLost (dom : Fin 13) (s : State) : Out :=
  let x := s.dom dom
  let s := s.domMap dom (fun y => { y with ack := false })
  if !x.req ∨ !x.ack then .next s
  else
    let s := s.domMap dom (fun y => { y with st := .lost, init := false })
    let s := (domLanes dom).foldl State.lanePowerLost s
    let s := (domChans dom).foldl State.chanPowerLost s
    let s := if 10 ≤ dom.val then s.decPowerLost dom else s
    .next ((((s.domLose dom).sealLeave dom).pwrRaise 4).count 1 0)

/-! ## Power-down (R380, R382) -/

/-- QUIESCE_DONE (R380): no holder applies; the domain is isolated and reset, and `PD_REQ` falls. -/
def execQuiesceDone (dom : Fin 13) (s : State) : Out :=
  if (s.dom dom).st = .quiescing ∧ (s.holder dom).isNone then
    .next (((s.domMap dom (fun y => { y with st := .poweringDown, req := false })).domLose dom).sealLeave dom)
  else .next s

/-- QUIESCE_TO (R382): a holder still applies, and the power-down is refused. -/
def execQuiesceTo (dom : Fin 13) (s : State) : Out :=
  match (s.dom dom).st, s.holder dom with
  | .quiescing, some c =>
    let s := s.domSet dom .on
    let s := (s.set R.PWR_QTO_INFO_DOMAIN dom).set R.PWR_QTO_INFO_HOLDER c
    .next (((s.pwrRaise 2).count 3 (s.rd R.PWR_QTO_INFO_HOLDER.addr).toNat).domWork dom)
  | _, _ => .next s

/-- DOWN_DONE (R380; 02 R81): `PD_ACK` reads 0; a domain that powers down is OFF, and an UP that waited for it runs. -/
def execDownDone (dom : Fin 13) (s : State) : Out :=
  let x := s.dom dom
  if x.req then .next s
  else
    let s := s.domMap dom (fun y => { y with ack := false, ignore := false })
    if x.st ≠ .poweringDown then .next s
    else
      let s := (s.domMap dom (fun y => { y with st := .off, warm := false, wantUp := false })).pwrRaise 1
      .next (if x.wantUp then (s.domCmd dom 1).2 else s)

/-! ## The seal begins (R385, R389, R393) -/

/-- The assembler of a lane stops: a tile partly landed is completed with filler and trailer and carries TRUNC (R389); the rest of
its items will be discarded. -/
def State.laneCut (s : State) (n : Nat) : State :=
  let l := s.lane n
  let s := if (l.asm = .landing ∨ l.asm = .ending) ∧ (s.place l.ch l.place).fresh then
      (s.landIn l.ch l.place).placeMap l.ch l.place (fun v => { v with fresh := false })
    else s
  match l.asm with
  | .landing =>
    let s := s.placeMap l.ch l.place (fun v => { v with flags := v.flags ||| 1, len := v.got, sealCut := true })
    (s.tileFinish l.ch l.place).laneMap n (fun l => { l with asm := .skipping })
  | .ending => (s.tileFinish l.ch l.place).laneMap n (fun l => { l with asm := if l.skip then .skipping else .idle, skip := false })
  | _ => s

/-- One request of the recovery engine completes SEALED; another member's ends without a contribution. -/
def State.reqSealed (s : State) (q : RReq) : State :=
  match q.who with
  | .remote m :: _ => s.remoteEnd q m none
  | _ => s.rcvEnd q 0x33 0

/-- Every request that the recovery engine holds completes SEALED (07 R230). -/
def State.rcvSealed (s : State) : State :=
  let ws := s.rcv.wait
  let s := s.rcvMap (fun r => { r with wait := [] })
  let s := ws.foldl (fun s w => s.rcvDeliver w.who 0x33 0 0) s
  s.rcv.reqs.foldl State.reqSealed s

/-- The CHAN and READ entries that the ring unit has fetched and not handed on, and the tiles of read requests not yet read,
complete SEALED (10 R319). -/
def State.ringsSealed (s : State) : State :=
  let cs := s.rng.chanq
  let rs := s.rng.readq
  let s := s.rngMap (fun g => { g with chanq := [], readq := [] })
  let s := cs.foldl (fun s p => let d := descOf p.2; s.chanEnd p.1 d.tag d.cmpl 0x33 (s.stdRes (taCh d.taddr) d 0 0 0)) s
  let s := rs.foldl (fun s p => s.pushRec ⟨s.ringCq p.1, p.1, 0, leNat ((p.2.drop 0x18).take 4), 0x33, 2⟩) s
  s.rng.reads.foldl (fun s q =>
    let s := s.readMap q.id (fun x => { x with next := q.count, found := [] })
    (List.range (q.count - q.next)).foldl (fun s i => s.readTileEnd q.id (q.next + i) 0x33 0) s) s

/-- A channel takes the seal (R393): its SEAL cause is pending, a queued write burst that is not encoded is dropped (04 R117), `FLn_WP_N` follows it (05 R175), and training is aborted (03 R103). -/
def State.chanSeal (s : State) (n : Nat) : State :=
  ((s.chMap n (fun c => { c with sealing := true, ctx := { c.ctx with sealP := some s.cyc } })).sealDrop n).wpUpdate n |>.phyAbort n

/-- A seal begins with its cause, 0 for `PF_WARN` and 1 for Grave (R385, R389, R393); a seal that runs goes on. -/
def State.sealStart (s : State) (cause : Nat) : State :=
  if s.flag R.PWR_STATUS_SEAL_RUN then s
  else
    let ns := (List.range s.gen.nch).filter (fun n => s.flag (R.SEQG_STATUS_VEND_OK (n / 8)) && s.powered (chDom n))
    let s : State := { s with pwr := { s.pwr with sealing := ns, sealT0 := s.cyc, sealCause := cause } }
    let s := (s.set R.PWR_STATUS_SEAL_RUN 1).set R.PWR_STATUS_SEAL_DONE 0
    let s := if s.powered 0 then (List.range 8).foldl (fun s p => s.stripeWant p 2) s else s
    let s := (List.range s.gen.nlane).foldl State.laneCut s
    let s := if s.powered 0 then s.cascDrop else s
    let s := ns.foldl State.chanSeal s
    let s := if s.powered 0 then s.rcvSealed.ringsSealed else s
    s.sealDone

/-- `PF_WARN` is accepted (R384, R385). -/
def State.acceptPf (s : State) : State :=
  let s := (s.set R.PWR_STATUS_PF 1).pwrRaise 6
  let s := (List.range 13).foldl (fun s d => if (s.dom d).st = .quiescing then s.domSet d .on else s) s
  let s := s.rotorPf.sealStart 0
  if s.flag R.PWR_SEAL_CFG_MAPFLUSH ∧ s.powered 0 then mapCmdWr 1 s else s

/-- Accept `PF_WARN` when its level is 1 while PF_EN is 1 and none is latched (R384). -/
def State.pfCheck (s : State) : State :=
  if s.pins.pfWarn ∧ s.flag R.PWR_CTRL_PF_EN ∧ !s.pf then s.acceptPf else s

/-- PF_WARN (R384): the synchronised level of the pin. -/
def execPfWarn (level : Bool) (s : State) : Out :=
  let s : State := { s with pins := { s.pins with pfWarn := level } }
  .next s.pfCheck

/-- The ROT reaction (15 R439): `ROTOR.CTRL.ENABLE` is cleared, and the drive goes to safe-off. -/
def State.rotReact (s : State) : State :=
  if !s.gen.rotor then s
  else ((s.set R.ROTOR_CTRL_ENABLE 0).setChop false).safeOffCmd

/-- Effect of a write of `PWR.PF_CMD` (R386); a ROT reaction that waited for the clear acts (15 R439). -/
def pfCmdWr (data : Word) (s : State) : State :=
  if !bit data.toNat 0 then s
  else if s.pins.pfWarn ∨ s.flag R.PWR_STATUS_SEAL_RUN then s.pwrRaise 8
  else
    let s := (s.set R.PWR_STATUS_PF 0).rotMap (fun r => { r with zeroPf := false })
    if s.flt.rotWait then ({ s with flt := { s.flt with rotWait := false } }).rotReact else s

/-- PF_CLEAR (R386). -/
def execPfClear (s : State) : Out := .next (s.cpWr R.PWR_PF_CMD_CLEAR.addr 0xF#4 1 (pfCmdWr 1))

end Sys2Proof.Machine
end

