-- ==== Sys2Proof/Machine/Memi.lean ====
section
/-!
DEFINITION. The memory-integrity unit's own commands: the scrubber, remap clears, test mode, injection and the fuse stream
(14_memory_integrity.md R421 to R428; 02_ports.md R76).
-/

namespace Sys2Proof.Machine

/-! ## Scrubber -/

/-- The words of a region that the walk reads, as ranges of first word and length, ascending (R408; log entry 29). -/
def State.walkRanges (s : State) (r : Nat) : List (Nat × Nat) :=
  match r with
  | 0 => [(0, s.gen.nch * 73728)]
  | 1 => [(0, s.gen.nlane * 65536)]
  | 2 => [(0, s.gen.ndec * 16384)]
  | 3 => [(0, 1048576)]
  | 4 => [(0, 294912)]
  | 5 => [(0, 0x41000), (0x44000, 0x600), (0x48000, s.gen.nch * 0x400), (tabWord 0 0, 2048), (tabWord 1 0, 32),
          (tabWord 2 0, s.gen.nch * 64), (tabWord 3 0, s.gen.nch * 128), (tabWord 4 0, 480), (tabWord 5 0, 256)]
  | _ => [(0, s.gen.nch / 8 * 16384)]

/-- The first word of a range at or after `w` whose domain is ON; words of one domain come in runs of at least 16 KiB words
or a whole range, and a run without power is left at once. -/
def State.walkIn (s : State) (r lo len w : Nat) : Option Nat :=
  let cands := max lo w :: (List.range 64).map (fun k => match r with
    | 0 => (k + 1) * 73728
    | 1 => (k + 1) * 65536
    | _ => (k + 1) * 16384)
  cands.find? (fun x => decide (max lo w ≤ x) && decide (x < lo + len) && (anyDom r x = 13 || (s.dom (anyDom r x)).st = .on))

/-- The next word of a region's walk from `w` on; none when the walk wraps. -/
def State.walkNext (s : State) (r w : Nat) : Option Nat :=
  (s.walkRanges r).findSome? (fun p => if p.1 + p.2 ≤ w then none else s.walkIn r p.1 p.2 w)

/-- Is a region's scrubber on, with its permit (R422)? -/
def State.scrubOn (s : State) (r : Nat) : Bool :=
  s.memiOn && s.flag R.MEMI_CTRL_ENABLE && bit (s.get R.MEMI_SCRUB_EN_REGIONS) r && (s.permit 10 || s.flag R.MEMI_CTRL_PERMIT_IGN) &&
  !s.testMode r

/-- The write-back of a region that the walk's next qualifying `cyc` takes, of the queue `q`: its word's domain is ON (R422, R423). -/
def State.scrubDue (s : State) (r : Nat) (q : List (Nat × Nat)) : Option (Nat × Nat) :=
  q.find? (fun p => p.1 = r && (anyDom r p.2 = 13 || (s.dom (anyDom r p.2)).st = .on))

/-- A scrubber read of a word: reported, and a correctable one is to be written back (R416, R423). -/
def State.scrubWord (s : State) (r w : Nat) : State :=
  match s.wclass r w with
  | .clean => s
  | .bad => s.reportUe r w 1
  | _ =>
    let s := s.reportCe r w true
    { s with memi := { s.memi with wb := s.memi.wb ++ [(r, w)] } }

/-- A lap ends (R424). -/
def State.lapEnd (s : State) (r : Nat) : State :=
  let t := s.cyc - tget (fun _ => 0) s.memi.lap0 r
  let s := ((s.set (R.MEMI_LAP_TIME_CYC r) (sat (2 ^ 32 - 1) t)).bump (R.MEMI_LAP_CNT_CNT r)).raise .memi 0 5
  { s with memi := { s.memi with
    walk := tput (fun _ => 0) s.memi.walk r 0, lap0 := tput (fun _ => 0) s.memi.lap0 r s.cyc, starved := tput (fun _ => false) s.memi.starved r false } }

/-- SCRUB_READ (R422, R424): the walk of a region reads its next word, or wraps; queued write-backs go first. Words whose domain is not ON
are skipped, and while the region has no other the walk stays where it is. -/
def execScrubRead (region : Fin 7) (s : State) : Out :=
  let r : Nat := region
  if !s.scrubOn r ∨ (s.scrubDue r (s.memi.wb ++ s.memi.early)).isSome then .next s
  else
  -- a region's first lap begins with its first read
  let s : State := if (tfind s.memi.lap0 r).isSome then s else { s with memi := { s.memi with lap0 := tput (fun _ => 0) s.memi.lap0 r s.cyc } }
  match s.walkNext r (tget (fun _ => 0) s.memi.walk r) with
    | none => .next (if (s.walkNext r 0).isNone then s else s.lapEnd r)
    | some w =>
      let s : State := { s with memi := { s.memi with walk := tput (fun _ => 0) s.memi.walk r (w + 1) } }
      let s := s.scrubWord r w
      .next (if (s.walkNext r (w + 1)).isNone then s.lapEnd r else s)

/-- Write a corrected word back (R423). What a buffer word that nothing had written is corrected to, nothing reads (R415). -/
def State.scrubBack (s : State) (r w : Nat) : State :=
  if overlay r w then s.bufMark r w 1 else (s.storeRaw r w (strongEnc (s.peek r w))).wrote r w

/-- SCRUB_WRITEBACK (R423): the corrected word of the walk's read is written back; else the early write-back queued first reads its word
again and corrects it. A write that reached the word has dropped it from the queue. -/
def execScrubWriteback (region : Fin 7) (s : State) : Out :=
  let r : Nat := region
  if !s.scrubOn r then .next s
  else match s.scrubDue r s.memi.wb with
    | some (_, w) => .next (s.scrubBack r w)
    | none =>
      match s.scrubDue r s.memi.early with
      | none => .next s
      | some (_, w) =>
        let s : State := { s with memi := { s.memi with early := s.memi.early.erase (r, w) } }
        match s.wclass r w with
        | .clean => .next s
        | .bad => .next (s.reportUe r w 1)
        | _ => .next ((s.reportCe r w true).scrubBack r w)

/-- STARVED (R424): a lap has run for LAP_LIM ms, once per lap. -/
def execStarved (region : Fin 7) (s : State) : Out :=
  let r : Nat := region
  if !s.memiOn ∨ !s.flag R.MEMI_CTRL_ENABLE ∨ !bit (s.get R.MEMI_SCRUB_EN_REGIONS) r ∨ s.get (R.MEMI_LAP_LIM_MS r) = 0 ∨ tget (fun _ => false) s.memi.starved r then .next s
  else
    let s : State := { s with memi := { s.memi with starved := tput (fun _ => false) s.memi.starved r true } }
    .next ((s.raise .memi 0 4).count (memiSrc + 16) 0)

/-! ## Remap clear, test mode and injection -/

/-- Effect of a write of `MEMI.REMAP_CLR` (R421): the spare's data goes back to the SRAM word, and the entry is free. -/
def remapClrWr (data : Word) (s : State) : State :=
  let r := bits data.toNat 28 3
  let k := data.toNat % 8
  match (tget (fun _ => none) s.memi.remap (r * 8 + k) : Option Remap) with
  | none => s
  | some e =>
    let s := s.setRemap r k none
    let s : State := match e.spare with
      | some v => { s with sram := tins s.sram (skey r e.waddr) (strongEnc (strongRead v)) }
      | none => { s with memi := { s.memi with err := tdel s.memi.err (skey r e.waddr) } }
    (s.wrote r e.waddr).remapCount r

/-- REMAP_CLR (R421). -/
def execRemapClr (data : Word) (s : State) : Out := .next (s.cpWr R.MEMI_REMAP_CLR_ENTRY.addr 0xF#4 data (remapClrWr data))

/-- Effect of a write of `MEMI.TEST` (R427): a REGION other than 5 or 6 leaves EN at 0. -/
def memiTestWr (be : BitVec 4) (data : Word) (s : State) : State :=
  let s := s.regMerge R.MEMI_TEST_EN.addr be data
  if s.get R.MEMI_TEST_REGION = 5 ∨ s.get R.MEMI_TEST_REGION = 6 then s else s.set R.MEMI_TEST_EN 0

/-- TEST (R427). -/
def execMemiTest (data : Word) (s : State) : Out := .next (s.cpWr R.MEMI_TEST_EN.addr 0xF#4 data (memiTestWr 0xF#4 data))

/-- Bits of a stored word of a region (R408 to R410). -/
def wordBits (r : Nat) : Nat := if r = 1 ∨ r = 3 ∨ r = 5 ∨ r = 6 then 39 else if r = 0 ∨ r = 2 ∨ r = 4 then 72 else 0

/-- Effect of a write of `MEMI.INJECT` (R428): a position beyond the word leaves ARM at 0. -/
def injectWr (be : BitVec 4) (data : Word) (s : State) : State :=
  let s := s.regMerge R.MEMI_INJECT_ARM.addr be data
  let r := s.get R.MEMI_INJECT_REGION
  let two := s.flag R.MEMI_INJECT_TWO
  let a := s.get R.MEMI_INJECT_POS_A
  let b := s.get R.MEMI_INJECT_POS_B
  if s.flag R.MEMI_INJECT_ARM then
    if a < wordBits r ∧ (!two ∨ b < wordBits r) then { s with memi := { s.memi with inj := some ⟨r, two, a, b⟩ } }
    else ({ s with memi := { s.memi with inj := none } }).set R.MEMI_INJECT_ARM 0
  else { s with memi := { s.memi with inj := none } }

/-- INJECT (R428). -/
def execMemiInject (data : Word) (s : State) : Out := .next (s.cpWr R.MEMI_INJECT_ARM.addr 0xF#4 data (injectWr 0xF#4 data))

/-- INJ_DONE (R428): the write to the region has stored the inverted bits; its word index is shown, and ARM clears. -/
def execInjDone (s : State) : Out :=
  match s.memi.injDone with
  | none => .next s
  | some (r, w) =>
    let s : State := { s with memi := { s.memi with injDone := none } }
    let s := (s.set R.MEMI_INJ_ADDR_REGION r).set R.MEMI_INJ_ADDR_WADDR w
    .next ((s.set R.MEMI_INJECT_ARM 0).raise .memi 0 8)

/-! ## The fuse stream (R76; R425, R426) -/

/-- The macro, spare and line that a record names, for the rule that a spare serves once. -/
def fuseSpare (v : Word) : Nat × Nat × Nat × Nat :=
  (bits v.toNat 28 3, bits v.toNat 27 1, bits v.toNat 16 11, bits v.toNat 14 2)

/-- Is a record refused, given the records applied before it (R426)? Which macros and lines exist, the macro map of the
generated block says (log entry 30). -/
def fuseBad (applied : List Word) (v : Word) : Bool :=
  decide (bits v.toNat 12 2 ≠ 0) || bits v.toNat 28 3 = 7 || (bit v.toNat 27 && decide (2 ≤ bits v.toNat 14 2)) || !Config.fuseLine v ||
  applied.any (fun u => fuseSpare u = fuseSpare v)

/-- Apply one received record (R425, R426); one with V = 0 repairs nothing. -/
def State.fuseApply (s : State) (v : Word) : State :=
  if !bit v.toNat 31 then s
  else if fuseBad s.memi.fuse v then ((s.bump R.MEMI_FUSE_STAT_BAD).count (memiSrc + 20) 0).raise .memi 0 9
  else ({ s with memi := { s.memi with fuse := s.memi.fuse ++ [v] } }).bump R.MEMI_FUSE_STAT_APPLIED

/-- The fuse stream has ended: the records received are applied in arrival order, and the rows and columns repaired in AON hold undefined
content (R425); those of another domain do so from its power-up on, as all its words. -/
def State.fuseEnd (s : State) : State :=
  let rs := s.memi.fuse
  let s : State := { s with cp := { s.cp with fuseOpen := false }, memi := { s.memi with fuse := [] } }
  let s := rs.foldl State.fuseApply s
  ({ s with epochs := tmod (fun _ => 0) s.epochs 14 (fun k => k + (if s.memi.fuse = [] then 0 else 1)) } : State).dropRepaired

/-- FUSE_RECORD (R76): a record transfers while `FUSE_READY` is 1, at most 1,024 of them; the last one ends the stream. -/
def execFuseRecord (record : Word) (last : Bool) (s : State) : Out :=
  if !s.cp.fuseOpen ∨ s.cp.rst ≠ .none ∨ s.grave ∨ 1024 ≤ s.cp.fuseCnt then .next s
  else
    let s : State := { s with cp := { s.cp with fuseCnt := s.cp.fuseCnt + 1 }, memi := { s.memi with fuse := s.memi.fuse ++ [record] } }
    .next (if last then s.fuseEnd else s)

/-- FUSE_TIMEOUT (R76): no last record has arrived; the records received are applied, FUSE_TO is set. -/
def execFuseTimeout (s : State) : Out :=
  if !s.cp.fuseOpen ∨ s.cp.rst ≠ .none then .next s
  else .next (((s.fuseEnd.set R.SYS_STATUS_FUSE_TO 1).raise .sys 0 1).count 0 0)

end Sys2Proof.Machine
end

