-- ==== Sys2Proof/Machine/Faults.lean ====
section
/-!
DEFINITION. The fault collector: counting, promotion, classes and reactions, the Grave state, the first-fault record and
the log; events of the pages; the DC-link sample, which can enter the Grave state
(15_faults.md R431 to R446; 17_bringup_registers.md R478, R479; 11_rotor_drive.md R348 to R350).
-/

namespace Sys2Proof.Machine

/-- Source `n` of the collector. -/
def State.src (s : State) (n : Nat) : SrcS := tget (fun _ => {}) s.flt.srcs n

/-- Change source `n`. -/
def State.srcMap (s : State) (n : Nat) (f : SrcS → SrcS) : State :=
  { s with flt := { s.flt with srcs := tmod (fun _ => {}) s.flt.srcs n f } }

/-- Raise a FAULT event (R448). -/
def State.fltRaise (s : State) (b : Nat) : State := s.raise .fault 0 b

/-- Base class of a source: 3 acts as 2, OV_HARD (8) apart (R448, R437). -/
def State.srcBase (s : State) (n : Nat) : Nat := if n = 8 then 3 else min 2 (s.get (R.FAULT_SRC_CFG_BASE n))

/-- Promoted class of a source: below the base class it acts as the base class (R435). -/
def State.srcProm (s : State) (n : Nat) : Nat := if n = 8 then 3 else max (s.srcBase n) (s.get (R.FAULT_SRC_CFG_PROM n))

/-- Threshold of a source (R448; 0 acts as 1). -/
def State.srcThr (s : State) (n : Nat) : Nat := max 1 (s.get (R.FAULT_SRC_CFG_THR n))

/-- Switchable domain that holds a source's instance (R439): none in AON, for firmware sources and for `DEC` + 0. -/
def srcDom (n : Nat) : Option Nat :=
  if n < 21 then none
  else if n < 43 then some 0
  else if n < 49 then some (9 - (n - 43))
  else if n < 61 then some (laneDom (n - 49))
  else if n = 62 then none
  else if n < 68 then some 0
  else if 80 ≤ n ∧ n < 224 then some (chDom ((n - 80) / 3))
  else none

/-- The entry into the Grave state (R442): safe-off, the seal with CAUSE 1, and `FLn_WP_N` to the seal alone (02 R84); the source of entry
is recorded, of those of one `cyc` the lowest. -/
def State.goGrave (s : State) (src : Nat) : State :=
  if s.grave then
    (if s.flt.graveAt = some s.cyc ∧ src < s.get R.FAULT_GRAVE_SRC_SOURCE then s.set R.FAULT_GRAVE_SRC_SOURCE src else s)
  else
    let s : State := { s with flt := { s.flt with graveAt := some s.cyc } }
    let s := s.set R.FAULT_STATUS_GRAVE 1
    let s := (s.set R.FAULT_GRAVE_SRC_VALID 1).set R.FAULT_GRAVE_SRC_SOURCE src
    let s := if s.gen.rotor then s.safeOffGrave else s
    (List.range s.gen.nch).foldl State.wpUpdate (s.sealStart 1)

/-- The reactions of Severe and Grave (R439). -/
def State.react (s : State) (n : Nat) : State :=
  let s := if s.flag (R.FAULT_SRC_CFG_ROT n) ∧ n ≠ 8 then
      (if s.pf then { s with flt := { s.flt with rotWait := true } } else s.rotReact)
    else s
  match srcDom n with
  | some d => if s.flag (R.FAULT_SRC_CFG_DOM n) then (let (r, s) := s.domCmd d 2; s.set R.PWR_DOM_RES_RESULT r) else s
  | none => s

/-- An event enters the log's queue of 8, or is counted as lost (R445). -/
def State.logPush (s : State) (e : LogEnt) : State :=
  if s.flt.logq.length < 8 then { s with flt := { s.flt with logq := s.flt.logq ++ [e] } }
  else (s.bump R.FAULT_LOG_LOST_CNT).fltRaise 3

/-- The first-fault record takes an event while it is not valid (R444). -/
def State.firstTake (s : State) (n cls : Nat) (detail : Word) : State :=
  if s.flag R.FAULT_FIRST_VALID then s
  else
    let s := ((s.set R.FAULT_FIRST_VALID 1).set R.FAULT_FIRST_CLASS cls).set R.FAULT_FIRST_SOURCE n
    let s := (s.wr R.FAULT_FIRST_TIME_LO_CYC.addr (BitVec.ofNat 32 s.cyc)).wr R.FAULT_FIRST_TIME_HI_CYC.addr (BitVec.ofNat 32 (s.cyc / 2 ^ 32))
    s.wr R.FAULT_FIRST_DETAIL_DETAIL.addr detail

/-- The source after one more event: its window opens or goes on, and the event at which COUNT first exceeds THR promotes (R434). -/
def State.srcCount (s : State) (n : Nat) : SrcS × Bool :=
  let x := s.src n
  let c := if x.isOpen then x.count + 1 else 1
  let was := x.isOpen && x.promoted
  let promo := !was && decide (s.srcThr n < c)
  ({ x with isOpen := true, count := min 256 c, promoted := was || promo, total := sat 65535 (x.total + 1) }, promo)

/-- An uncorrectable word dumped in the Grave state changes nothing but the log (R447; log entry 76). -/
def State.faultDumped (s : State) (n : Nat) (detail : Word) : State :=
  if s.srcBase n = 0 then s else s.logPush ⟨s.cyc, n, s.srcBase n, false, (s.src n).total, detail⟩

/-- Apply an event to its source (R434 to R444). -/
def State.fault (s : State) (e : FltEv) : State :=
  let n := e.src
  if e.dump ∧ s.grave then s.faultDumped n e.detail
  else
  let (x, promo) := s.srcCount n
  let base := s.srcBase n
  let cls := if promo then s.srcProm n else base
  let s := s.srcMap n (fun _ => { x with state := max x.state cls })
  let s := if cls = 3 then s.goGrave n else s
  if cls = 0 then s
  else
    let s := s.firstTake n cls e.detail
    let s := if base ≠ 0 ∧ base ≠ cls then s.fltRaise (base - 1) else s
    let s := (s.fltRaise (cls - 1)).logPush ⟨s.cyc, n, cls, promo, x.total, e.detail⟩
    if 2 ≤ cls then s.react n else s

/-- The events that reach the collector next: those raised in the same `cyc` as the oldest, one of each source; a second one of a
source follows in the next `cyc` (R432). -/
def FltS.batch (f : FltS) : List FltEv :=
  (f.inflight.takeWhile (fun e => decide (f.inflight.head?.map (fun x => x.born) = some e.born))).foldl
    (fun l e => if l.any (fun x => decide (x.src = e.src)) then l else l ++ [e]) []

/-- The class that an event applies: the promoted class when it promotes its source (R435). -/
def State.faultCls (s : State) (e : FltEv) : Nat := if (s.srcCount e.src).2 then s.srcProm e.src else s.srcBase e.src

/-- Put an event at its place among those of one `cyc`: the highest class first, the lowest source between equal classes (R442,
R444, R445). -/
def State.faultIns (s : State) (e : FltEv) : List FltEv → List FltEv
  | [] => [e]
  | x :: xs =>
    if s.faultCls x < s.faultCls e ∨ (s.faultCls x = s.faultCls e ∧ e.src < x.src) then e :: x :: xs else x :: s.faultIns e xs

/-- FAULT_EVENT (R432, R434, R441): the events raised in the oldest `cyc` reach the collector, which updates every source. -/
def execFaultEvent (s : State) : Out :=
  let b := s.flt.batch
  let es := b.foldl (fun l e => s.faultIns e l) []
  let s : State := { s with flt := { s.flt with inflight := b.foldl (fun q e => q.erase e) s.flt.inflight } }
  .next (es.foldl State.fault s)

/-- WINDOW_CLOSE (R434): WIN ms have passed since the source's window opened. -/
def execWindowClose (source : Fin 256) (s : State) : Out :=
  .next (s.srcMap source (fun x => { x with isOpen := false, count := 0, promoted := false }))

/-- The four words of a log entry (R445). -/
def LogEnt.words (e : LogEnt) : List Word :=
  [BitVec.ofNat 32 e.time, BitVec.ofNat 32 (e.time / 2 ^ 32),
   BitVec.ofNat 32 (e.src + (e.cls + b2n e.promo * 8) * 256 + e.total % 65536 * 65536), e.detail]

/-- Write an entry at `LOG_HEAD` (R445). -/
def State.logWrite (s : State) (e : LogEnt) : State :=
  let i := s.get R.FAULT_LOG_HEAD_IDX
  let s := e.words.zipIdx.foldl (fun s p => s.sramPut 5 (tabWord 5 (4 * i + p.2)) p.1) s
  (s.set R.FAULT_LOG_HEAD_IDX (i + 1)).bump R.FAULT_LOG_CNT_CNT

/-- LOG_WRITE (R445): the queue writes its oldest entry. -/
def execLogWrite (s : State) : Out :=
  match s.flt.logq with
  | [] => .next s
  | e :: es => .next (({ s with flt := { s.flt with logq := es } }).logWrite e)

/-- Effect of a write of `FAULT.SRC_STAT[n]` (R436). -/
def srcAckWr (n : Nat) (data : Word) (s : State) : State :=
  if bit data.toNat 31 ∧ (s.src n).state ≠ 3 ∧ s.srcPresent n then
    s.srcMap n (fun x => { x with state := 0, count := 0, isOpen := false, promoted := false })
  else s

/-- SRC_ACK (R436). -/
def execSrcAck (source : Fin 256) (s : State) : Out :=
  .next (s.cpWr (R.FAULT_SRC_STAT_ACK source).addr 0xF#4 0x80000000 (srcAckWr source 0x80000000))

/-- Effect of a write of `FAULT.FW_RAISE` (R433). -/
def fwRaiseWr (data : Word) (s : State) : State :=
  let n := data.toNat % 256
  if 224 ≤ n then s.count n (s.get R.FAULT_FW_DETAIL_DETAIL) else s

/-- FW_RAISE (R433). -/
def execFwRaise (source : BitVec 8) (s : State) : Out :=
  .next (s.cpWr R.FAULT_FW_RAISE_SOURCE.addr 0xF#4 (source.setWidth 32) (fwRaiseWr (source.setWidth 32)))

/-- Effect of a write of `FAULT.FIRST` (R444): the whole record clears, but not in the Grave state. -/
def firstWr (data : Word) (s : State) : State :=
  if bit data.toNat 31 ∧ !s.grave then
    ((((s.wr R.FAULT_FIRST_VALID.addr 0).wr R.FAULT_FIRST_TIME_LO_CYC.addr 0).wr R.FAULT_FIRST_TIME_HI_CYC.addr 0)).wr
      R.FAULT_FIRST_DETAIL_DETAIL.addr 0
  else s

/-- FIRST_CLEAR (R444). -/
def execFirstClear (s : State) : Out :=
  .next (s.cpWr R.FAULT_FIRST_VALID.addr 0xF#4 0x80000000 (firstWr 0x80000000))

/-- Effect of a write of `EVT_FORCE` at a page's offset 0x01C (00 R19; 17 R478): each 1 raises its event and counts nowhere. -/
def evtForceWr (a : Nat) (data : Word) (s : State) : State :=
  match pageOfIndex (a / 0x1000) with
  | some (p, n) => (List.range 32).foldl (fun s b => if bit data.toNat b then s.raise p n b else s) s
  | none => s

/-- EVT_FORCE (R478): a write of `EVT_FORCE` on the 4 KiB page `page` of the control window. -/
def execEvtForce (page : BitVec 12) (data : Word) (s : State) : Out :=
  .next (s.cpWr (page.toNat * 0x1000 + 0x1C) 0xF#4 data (evtForceWr (page.toNat * 0x1000 + 0x1C) data))

/-- PULSE_END (R479): PULSE_W cyc have passed since the last raise that the line shows. -/
def execPulseEnd (line : Fin 4) (s : State) : Out :=
  .next { s with pins := { s.pins with pulse := s.pins.pulse &&& ~~~(1#4 <<< line.val) } }

/-! ## The DC-link sample -/

/-- The DC link of a sample, in 0.1 V (11 R322). -/
def State.vdcOf (s : State) (value : BitVec 12) : Nat :=
  (clampI 0 65535 ((((value.toNat : Int) - (s.get R.ROTOR_VDC_CAL_OFS : Nat)) * (s.get R.ROTOR_VDC_CAL_GAIN : Nat)).fdiv 4096)).toNat

/-- The level of `ROT_CHOP` that a link sample gives (R349). -/
def State.chopNext (s : State) (v : Nat) : Bool :=
  if !s.flag R.ROTOR_CTRL_ENABLE || s.rot.chopFlt then false
  else if s.get R.ROTOR_CHOP_V_ON ≤ v then true
  else if v ≤ s.get R.ROTOR_CHOP_V_OFF then false
  else s.rot.chop

/-- VDC_SAMPLE (R348 to R350): the sample drives the clamp and the chopper; at OV.HARD all gates and the chopper turn off and
the block enters the Grave state. -/
def execVdcSample (value : BitVec 12) (s : State) : Out :=
  if !s.gen.rotor ∨ s.cp.rst = .cold then .next s
  else
    let v := s.vdcOf value
    let soft := s.get R.ROTOR_OV_SOFT
    let clamp := if soft ≤ v then true else if v * 100 ≤ soft * 98 then false else s.rot.softClamp
    let c := s.chopNext v
    let s := (s.rotMap (fun r => { r with vdc := v, softClamp := clamp, chopV0 := if c ∧ !r.chop then v else r.chopV0 })).setChop c
    if v < s.get R.ROTOR_OV_HARD then .next s
    else
      let s := (s.gatesOff.setChop false).rotMap (fun r => { r with ovHard := true })
      .next (((s.rotRaise 4).rotCount 2).goGrave 8)

end Sys2Proof.Machine
end

