-- ==== Sys2Proof/Machine/LedgRec.lean ====
section
/-!
DEFINITION. Ledger recovery at boot, and the enabling of the ledger (13_power_holdup.md R399, R402 to R404).
-/

namespace Sys2Proof.Machine

/-- What the recovery of a channel yields. -/
structure LedgRes where
  /-- channel -/
  ch : Nat
  /-- a valid entry was found -/
  valid : Bool
  /-- open intents with the outcome of their BLANK_VERIFY -/
  opens : List (LedgEnt × Nat)
  /-- seal group -/
  group : List (BitVec 512)
  /-- block set of the highest SEQ: true for B -/
  blk : Bool
  /-- its next position -/
  pos : Nat
  /-- next SEQ -/
  seq : Nat
  deriving DecidableEq, Repr

/-- The recovery of channel `n` from what its block sets hold (R402). -/
def ledgResOf (x : LedgRun) (n : Nat) : LedgRes :=
  let of (b : Bool) := x.slots.filter (fun y => y.ch = n && y.blk == b)
  let ents (b : Bool) := (of b).flatMap (fun y => y.ents)
  let es := x.entries n
  let inB := decide (ledgTop (ents false) < ledgTop (ents true))
  { ch := n, valid := es ≠ []
    opens := (x.blanks.filter (fun y => y.ch = n)).map (fun y => (y.ent, y.res.getD 2))
    group := ledgSealGroup es
    blk := inB
    pos := ((of inB).map (fun y => y.lo)).sum
    seq := (max (ledgTop (ents false)) (ledgTop (ents true))) % 2 ^ 64 }

/-- Bytes of a channel's entry copies (R404). -/
def LedgRes.bytes (r : LedgRes) : List Byte :=
  r.opens.flatMap (fun p => entryBytes r.ch p.1 p.2) ++ r.group.flatMap (fun b => leBytes 64 b.toNat)

/-- A mask of the channels whose result satisfies `p`. -/
def ledgMask (rs : List LedgRes) (p : LedgRes → Bool) : Nat := ((rs.filter p).map (fun r => 2 ^ r.ch)).sum

/-- The recovery buffer (R404); `noMask` is NOLEDGER_MASK. -/
def ledgBuf (rs : List LedgRes) (noMask : Nat) : List Byte :=
  let copies := rs.flatMap LedgRes.bytes
  let opens := (rs.map (fun r => r.opens.length)).sum
  let fails := (rs.map (fun r => (r.opens.filter (fun p => p.2 = 1)).length)).sum
  let head := leBytes 4 0x4744454C ++ leBytes 4 (copies.length / 64) ++ leBytes 4 opens ++ leBytes 4 fails ++
    leBytes 8 (ledgMask rs (fun r => r.group ≠ [])) ++
    leBytes 8 (ledgMask rs (fun r => r.group ≠ [] && r.group.all (fun b => (ledgEntOf b).kind ≠ 7))) ++
    leBytes 8 noMask ++ List.replicate 20 0
  head ++ leBytes 4 (crc32 (head ++ copies)) ++ copies

/-- Does the recovery cover channel `n`: its `PHY_STAT.STATE` is RUN or FALLBACK (R402)? -/
def State.ledgCovers (s : State) (n : Nat) : Bool := decide (n < s.gen.nch) && s.powered (chDom n) && s.phyRuns n

/-- A recovery begins: the searches on both block sets of every channel that runs (R402 step 1). -/
def State.ledgStart (s : State) : State :=
  let slot (n : Nat) (b : Bool) : LedgSlot := { ch := n, blk := b, hi := s.ledgPositions n }
  let slots := ((List.range s.gen.nch).filter s.ledgCovers).flatMap (fun n => [slot n false, slot n true])
  ((s.set R.PWR_LEDG_STAT_BUSY 1).rcvMap (fun r => { r with ledg := some { slots := slots } })).ledgPump

/-- Effect of a write of `PWR.LEDG_CMD` (R402). -/
def ledgCmdWr (data : Word) (s : State) : State :=
  if !bit data.toNat 0 ∨ s.flag R.PWR_LEDG_STAT_BUSY then s
  else if s.get R.PWR_LEDG_BLK_BLK_A = s.get R.PWR_LEDG_BLK_BLK_B ∨ s.ledgOn then s.set R.PWR_LEDG_STAT_RESULT 2
  else s.ledgStart

/-- RECOVER (R402). -/
def execRecover (s : State) : Out := .next (s.cpWr R.PWR_LEDG_CMD_RECOVER.addr 0xF#4 1 (ledgCmdWr 1))

/-- A channel's ledger writer goes on from what was found (R402). -/
def State.ledgLoad (s : State) (r : LedgRes) : State :=
  let left := (r.opens.filter (fun p => p.2 ≠ 0)).map (fun p =>
    (⟨bits p.1.body 0 32, bits p.1.body 32 8, bits p.1.body 48 16⟩ : Intent))
  s.ledgMap r.ch (fun l => { l with blk := r.blk, pos := r.pos, seq := r.seq, intents := left })

/-- The channels with a valid entry, of those a recovery covers (R402). -/
def State.ledgFound (s : State) (x : LedgRun) : List LedgRes :=
  (((List.range s.gen.nch).filter (fun n => x.slots.any (fun y => decide (y.ch = n)))).map (ledgResOf x)).filter (fun r => r.valid)

/-- The results of a recovery are taken (R402 step 5): the recovery buffer is written, and the ledger writers go on from what was
found. -/
def State.ledgTake (s : State) (x : LedgRun) : State :=
  let rs := s.ledgFound x
  let noMask := (((List.range s.gen.nch).filter (fun n => rs.all (fun r => decide (r.ch ≠ n)))).map (fun n => 2 ^ n)).sum
  let addr := s.get R.PWR_LEDG_BUF_LO_ADDR * 64 + s.get R.PWR_LEDG_BUF_HI_ADDR * 2 ^ 32
  let s := if s.powered 0 then s.rbAdd (.write addr (ledgBuf rs noMask)) else s
  (rs.foldl State.ledgLoad s).ledgRun (fun x => { x with took := true })

/-- A recovery ends with a result and `opens` open intents (R402, R407). -/
def State.ledgFinish (s : State) (res opens : Nat) : State :=
  let s := (s.set R.PWR_LEDG_STAT_RESULT res).set R.PWR_LEDG_STAT_BUSY 0
  let s := (s.set R.PWR_LEDG_STAT_OPEN opens).rcvMap (fun r => { r with ledg := none })
  let s : State := { s with pwr := { s.pwr with recovered := s.pwr.recovered || res ≠ 3 } }
  s.pwrRaise 9

/-- LEDG_DONE (R402): a recovery goes on; once the reads and verifies of every channel have ended its results are taken, and it
ends when the recovery buffer has been written. `err`: a buffer write met `RD_ERR`. One whose state went with the power of CORE
ends MEM_ERR (log entry 53). -/
def execLedgDone (err : Bool) (s : State) : Out :=
  if !s.flag R.PWR_LEDG_STAT_BUSY then .next s
  else match s.rcv.ledg with
    | none => .next (s.ledgFinish 3 0)
    | some x =>
      if !x.ended then .next s.ledgPump
      else
        let s := if x.took then s else s.ledgTake x
        if s.rbWrites then .next s
        else
          let rs := s.ledgFound x
          .next (s.ledgFinish (if err then 3 else if rs = [] then 1 else 0) ((rs.map (fun r => r.opens.length)).sum))

/-- Effect of a write of `PWR.LEDG_CFG` (R399): a write of EN = 1 without a successful RECOVER is ignored. -/
def ledgCfgWr (be : BitVec 4) (data : Word) (s : State) : State :=
  if be.getLsbD 0 ∧ bit data.toNat 0 ∧ !s.pwr.recovered then s.pwrRaise 5
  else s.regMerge R.PWR_LEDG_CFG_EN.addr be data

/-- LEDG_EN_WRITE (R399). -/
def execLedgEnWrite (data : Word) (s : State) : Out :=
  .next (s.cpWr R.PWR_LEDG_CFG_EN.addr 0xF#4 data (ledgCfgWr 0xF#4 data))

end Sys2Proof.Machine
end

