-- ==== Sys2Proof/Machine/Links.lean ====
section
/-!
DEFINITION. The link port's receive side, the cascade and the reflection pair: records, acknowledgements, members, partial
parity, mirrored metadata, ownership and takeover (16_cascade_reflection.md R449 to R471; 02_ports.md R62 to R64).
-/

namespace Sys2Proof.Machine

/-- A record's header with its fields by type (R452). -/
def hdrRec (h : LHdr) (typ arg : Nat) (payload : List Byte) : LRec :=
  { typ := typ, src := h.src, dst := h.dst, bcast := h.bcast, sseq := h.sseq.toNat, arg := arg, payload := payload }

/-- Bytes of a list, cut or padded with zeros to `n`. -/
def bytesTo (n : Nat) (bs : List Byte) : List Byte := (bs ++ List.replicate n 0).take n

/-! ## Ownership (02 R63, R64; R466) -/

/-- Is the channel's bit of `CLAIM` 1? -/
def State.claimBit (s : State) (n : Nat) : Bool :=
  if n < 32 then bit (s.get R.REFL_CLAIM_LO_CH) n else bit (s.get R.REFL_CLAIM_HI_CH) (n - 32)

/-- Does the slice claim its channel: its domain is ON, and its `CLAIM` bit is 1 or a takeover claims it (R466, R471); not
once a Grave block releases its channels (R467)? -/
def State.claims (s : State) (n : Nat) : Bool :=
  s.gen.refl && decide (n < s.gen.nch) && s.takesWork (chDom n) && (s.claimBit n || (s.ch n).own.want) &&
  !(s.grave && s.flag R.REFL_CFG_GRAVE_REL)

/-- Change the ownership of a channel. -/
def State.ownMap (s : State) (n : Nat) (f : OwnS → OwnS) : State := s.chMap n (fun c => { c with own := f c.own })

/-- OWN_GRANT (02 R63 steps 1 and 2): the grant reads 1 while the block waits to claim, and it sets `FLn_OWN_REQ`. -/
def execOwnGrant (ch : Fin 48) (s : State) : Out :=
  .next (if s.claims ch ∧ !(s.ch ch).own.req ∧ !(s.ch ch).own.conflict then s.ownMap ch (fun o => { o with req := true }) else s)

/-- OWN_ACQUIRE (02 R63 steps 4 to 6): the grant is sampled again after OWN_SETTLE; `both` says that both blocks are primary. -/
def execOwnAcquire (ch : Fin 48) (gnt both : Bool) (s : State) : Out :=
  if !(s.ch ch).own.req ∨ (s.ch ch).own.owned then .next s
  else if gnt then .next (s.ownMap ch (fun o => { o with owned := true }))
  else if !s.flag R.REFL_CFG_PRIMARY then .next (s.ownMap ch (fun o => { o with req := false }))
  else if both then .next (((s.ownMap ch (fun o => { o with req := false, want := false, conflict := true })).raise .refl 0 4).count 67 0)
  else .next s

/-- Are the slots and park records of a channel empty (R466)? -/
def State.chanEmpty (s : State) (n : Nat) : Bool := (s.ch n).slots = [] && (List.range 16).all (fun l => (s.lun n l).park.isNone)

/-- OWN_RELEASE (02 R64; R466, R467): a channel that is no longer claimed and is empty, or whose seal has ended in the Grave
state, is released once no chip enable is low. -/
def execOwnRelease (ch : Fin 48) (s : State) : Out :=
  let o := (s.ch ch).own
  let idle : Bool := s.chanEmpty ch && !s.claimBit ch && !o.want
  let grave : Bool := s.grave && s.flag R.REFL_CFG_GRAVE_REL && decide (ch.val ∉ s.pwr.sealing)
  .next (if s.gen.refl ∧ o.owned ∧ (s.ch ch).eng.sel.isNone ∧ (idle ∨ grave) then s.ownRelease ch else s)

/-- Effect of a write of `REFL.CLAIM_LO` or `CLAIM_HI` (R466): a bit written to 0 also ends a takeover's claim. -/
def claimWr (reg : Nat) (be : BitVec 4) (data : Word) (s : State) : State :=
  let s := s.regMerge (R.REFL_CLAIM_LO_CH.addr + 4 * reg) be data
  (List.range s.gen.nch).foldl (fun s n => if n / 32 = reg ∧ !s.claimBit n then s.ownMap n (fun o => { o with want := false }) else s) s

/-- CLAIM_WRITE (R466). -/
def execClaimWrite (reg : Fin 2) (data : Word) (s : State) : Out :=
  .next (s.cpWr (R.REFL_CLAIM_LO_CH.addr + 4 * reg) 0xF#4 data (claimWr reg 0xF#4 data))

/-! ## Enabling a port (R449, R455) -/

/-- A port's link state ends with its ENABLE: nothing is kept, expected or held. -/
def State.linkStop (s : State) : State :=
  let rs := s.lnk.held.map (fun p => p.2)
  let s := s.lnkMap (fun l => { l with nseq := [], exp := [], keep := [], wait := [], seen := [], own := false, parts := [], held := [] })
  { s with map := { s.map with records := s.map.records ++ rs } }

/-- Effect of a write of `XLINK.CTRL` (R449, R455): ENABLE is refused with CFG_REFUSED when COUNT is 0, INDEX lies beyond it,
or the reflect port is enabled. -/
def xlCtrlWr (be : BitVec 4) (data : Word) (s : State) : State :=
  let was := s.flag R.XLINK_CTRL_ENABLE
  let t := s.regMerge R.XLINK_CTRL_ENABLE.addr be data
  if !was ∧ t.flag R.XLINK_CTRL_ENABLE then
    if s.get R.XLINK_CFG_COUNT = 0 ∨ s.get R.XLINK_CFG_COUNT < s.get R.XLINK_CFG_INDEX ∨ s.rfOn then
      (t.set R.XLINK_CTRL_ENABLE 0).raise .xlink 0 4
    else (List.range 8).foldl (fun s p => if s.flag (R.LACE_PROF0_EN p) ∧ s.cascProf p then s.numIssue p 4 else s) t
  else if was ∧ !t.flag R.XLINK_CTRL_ENABLE then t.linkStop.wr R.XLINK_STATUS_UP.addr 0
  else t

/-- XLINK_ENABLE (R455): a write of `XLINK.CTRL`. -/
def execXlinkEnable (data : Word) (s : State) : Out :=
  .next (s.cpWr R.XLINK_CTRL_ENABLE.addr 0xF#4 data (xlCtrlWr 0xF#4 data))

/-- Effect of a write of `REFL.CTRL` (R449, R474): OWN_CLR ends the holds of 02 R63; ENABLE is refused with CFG_REFUSED while the
cascade port is enabled. R474 gives that event no bit on this page: it is raised at bit 6, the lowest free one (log entry 46). -/
def rfCtrlWr (be : BitVec 4) (data : Word) (s : State) : State :=
  let s := if be.getLsbD 1 ∧ bit data.toNat 8 then
      (List.range s.gen.nch).foldl (fun s n => s.ownMap n (fun o => { o with conflict := false })) s
    else s
  let was := s.flag R.REFL_CTRL_ENABLE
  let t := s.regMerge R.REFL_CTRL_ENABLE.addr be data
  if !was ∧ t.flag R.REFL_CTRL_ENABLE ∧ s.xlOn then (t.set R.REFL_CTRL_ENABLE 0).raise .refl 0 6
  else if was ∧ !t.flag R.REFL_CTRL_ENABLE then t.linkStop.wr R.REFL_STATUS_PEER_UP.addr 0
  else t

/-- REFL_ENABLE (R449): a write of `REFL.CTRL`. -/
def execReflEnable (data : Word) (s : State) : Out := .next (s.cpWr R.REFL_CTRL_ENABLE.addr 0xF#4 data (rfCtrlWr 0xF#4 data))

/-- OWN_CLR (R474). -/
def execOwnClr (s : State) : Out :=
  let data : Word := s.rd R.REFL_CTRL_ENABLE.addr ||| 0x100
  .next (s.cpWr R.REFL_CTRL_OWN_CLR.addr 0xF#4 data (rfCtrlWr 0xF#4 data))

/-! ## Acknowledgement (R454) -/

/-- The stripe that a PARTIAL record names. -/
def LRec.stripe (r : LRec) : Nat := leNat (r.payload.take 4)

/-- Is a row of a stripe sent and not acknowledged? -/
def State.partKept (s : State) (num : Nat) : Bool :=
  s.lnk.keep.any (fun k => k.r.typ = 0x13 && k.r.stripe = num) || s.lnk.wait.any (fun r => r.typ = 0x13 && r.stripe = num)

/-- A member whose rows have all been acknowledged gives its set back (R462). -/
def State.partFree (s : State) : State :=
  (s.lace.stripes.filter (fun x => x.casc && x.closed.isSome && x.set ≠ 255 && s.linkMe ≠ x.num % s.xlM &&
    x.rows.length = x.parity && !s.partKept x.num)).foldl (fun s x => (s.stripeMap x.num (fun y => { y with set := 255 })).setReturn x.set) s

/-- Tile records whose MAP_UPD has been acknowledged are written (R468). -/
def State.heldFree (s : State) : State :=
  let open_ (q : Nat) : Bool := s.lnk.keep.any (fun k => k.r.typ = 0x20 && k.r.sseq = q) || s.lnk.wait.any (fun r => r.typ = 0x20 && r.sseq = q)
  let rs := (s.lnk.held.filter (fun p => !open_ p.1)).map (fun p => p.2)
  let s := s.lnkMap (fun l => { l with held := l.held.filter (fun p => open_ p.1) })
  { s with map := { s.map with records := s.map.records ++ rs } }

/-- Kept records that satisfy `p` are acknowledged, and waiting ones take their room. -/
def State.linkAcked (s : State) (p : LRec → Bool) : State :=
  ((s.lnkMap (fun l => { l with keep := l.keep.filter (fun k => !p k.r) })).linkPump 64).partFree.heldFree

/-- Is `q` at most `m` in the order of sequence numbers? -/
def seqUpTo (q m : Nat) : Bool := decide ((m + 65536 - q) % 65536 < 32768)

/-- The cascade is UP when the HB of every other member has arrived and the member's own has returned (R455). -/
def State.upCheck (s : State) : State :=
  if !s.flag R.XLINK_STATUS_UP ∧ s.lnk.own ∧ (List.range s.xlM).all (fun m => m = s.linkMe || decide (m ∈ s.lnk.seen)) then
    (s.set R.XLINK_STATUS_UP 1).raise .xlink 0 0
  else s

/-- The block's own broadcast returns: it is acknowledged, and an HB gives the round trip from the counter it carries (R453 to R455). -/
def State.linkReturn (s : State) (r : LRec) : State :=
  if r.typ = 1 then
    ((s.set R.XLINK_RTT_CYC (sat (2 ^ 20 - 1) (s.cyc - leNat (r.payload.take 8)))).lnkMap (fun l => { l with own := true })).upCheck
  else s.linkAcked (fun k => k.bcast && recLane k.typ = recLane r.typ && k.sseq = r.sseq)

/-! ## Receiving (R453) -/

/-- Is the port of a record's type enabled (R449, R452)? -/
def State.linkOn (s : State) (typ : Nat) : Bool :=
  if typ < 0x10 then s.xlOn || s.rfOn else if typ < 0x20 then s.xlOn else s.rfOn

/-- A record of a matching CRC arrives (R453): it is taken into account when it is addressed to the block and next in order,
and acknowledged (R454); a member of a cascade forwards what is not for it, and other members' broadcasts, and removes its own. -/
def State.linkTake (s : State) (r : LRec) (f : State → State) : State :=
  if !s.linkOn r.typ then s
  else if s.xlOn ∧ r.bcast ∧ r.src = s.linkMe then s.linkReturn r
  else
    let key := r.src * 2 + recLane r.typ
    let inOrder : Bool := r.sseq = tget (fun _ => 0) s.lnk.exp key
    let mine : Bool := r.bcast || r.dst = s.linkMe
    let s := if inOrder then s.lnkMap (fun l => { l with exp := tput (fun _ => 0) l.exp key ((r.sseq + 1) % 65536) }) else s
    let s := if s.xlOn ∧ (!mine ∨ r.bcast) then s.lnkMap (fun l => { l with tx := r :: l.tx }) else s
    if !mine ∨ !inOrder then s
    else
      let s := if !r.bcast ∧ r.typ ≠ 1 ∧ r.typ ≠ 2 then
          s.linkSend { typ := 2, dst := r.src, arg := recLane r.typ, payload := leBytes 2 r.sseq }
        else s
      f s

/-- RECORD_REJECT (R453): a record is dropped; one with a CRC error is counted. -/
def execRecordReject (crc : Bool) (s : State) : Out :=
  .next (if !crc then s
    else if s.xlOn then ((s.bump R.XLINK_ERR_CNT_CNT).raise .xlink 0 3).count 63 0
    else if s.rfOn then ((s.bump R.REFL_ERR_CNT_CNT).raise .refl 0 5).count 65 0
    else s)

/-! ## Losses (R454, R465, R470) -/

/-- Records that satisfy `p` can no longer be acknowledged: their destination is lost, or their resends are used up. -/
def State.linkForget (s : State) (p : LRec → Bool) : State :=
  let s := s.lnkMap (fun l => { l with keep := l.keep.filter (fun k => !p k.r), wait := l.wait.filter (fun r => !p r) })
  (s.linkPump 64).partFree.heldFree

/-- A member is lost (R465): what is kept for it alone goes; records for the others stay. -/
def State.memberLost (s : State) (m : Nat) : State :=
  let s := (s.set R.XLINK_STATUS_LOST (s.get R.XLINK_STATUS_LOST ||| 2 ^ m)).set R.XLINK_STATUS_UP 0
  let s := (s.raise .xlink 0 2).count 64 0
  let ps := (List.range 8).filter (fun p => s.flag (R.LACE_PROF0_EN p) && s.cascProf p)
  let s := s.lnkMap (fun l => { l with seen := l.seen.erase m, own := false, barred := l.barred ++ ps.filter (fun p => decide (p ∉ l.barred)) })
  let s := ps.foldl (fun s p => s.stripeWant p 2) s
  s.cascDrop.linkForget (fun r => !r.bcast && r.dst = m)

/-- MEMBER_LOST (R465): no HB from a member for four periods; one that is lost already stays so. -/
def execMemberLost (member : Fin 4) (s : State) : Out :=
  .next (if s.xlOn ∧ member.val < s.xlM ∧ member.val ≠ s.linkMe ∧ !bit (s.get R.XLINK_STATUS_LOST) member then
      s.memberLost member
    else s)

/-- The peer is lost (R470); one that is lost already stays so, and what is kept for it goes. -/
def State.peerLost (s : State) : State :=
  if s.flag R.REFL_STATUS_SOLO then s.linkForget (fun _ => true)
  else
  let s := (s.set R.REFL_STATUS_SOLO 1).set R.REFL_STATUS_PEER_UP 0
  let s := ((s.raise .refl 0 1).count 66 0).linkForget (fun _ => true)
  s.lnkMap (fun l => { l with lostAt := s.cyc, tko := l.tko || (!s.flag R.REFL_CFG_PRIMARY && s.flag R.REFL_CFG_AUTO_TKO) })

/-- PEER_LOST (R470). -/
def execPeerLost (s : State) : Out := .next (if s.rfOn then s.peerLost else s)

/-- The destination of record `r`, whose resends are used up, is lost (R454): the record goes. A broadcast names no destination: the next
member of the ring is (log entry 54). -/
def State.linkLost (s : State) (r : LRec) : State :=
  if s.xlOn then
    let m := if r.bcast then (s.linkMe + 1) % s.xlM else r.dst
    let t := s.linkForget (fun x => x = r)
    if bit (s.get R.XLINK_STATUS_LOST) m then t else t.memberLost m
  else if s.rfOn then s.peerLost
  else s

/-- RESEND (R454): the oldest record of a lane, unacknowledged within `RTO.US`, is resent with every later one of the lane; after
`RTO.TRIES` resends its destination is lost. -/
def execResend (lane : Fin 2) (s : State) : Out :=
  let ks := s.lnk.keep.filter (fun k => recLane k.r.typ = lane.val)
  match ks with
  | [] => .next s
  | k :: _ =>
    let tries := max 1 (if s.xlOn then s.get R.XLINK_RTO_TRIES else s.get R.REFL_RTO_TRIES)
    if tries ≤ k.tries then
      .next (s.linkLost k.r)
    else
      let s := s.lnkMap (fun l => { l with
        tx := (ks.map (fun x => x.r)).reverse ++ l.tx
        keep := l.keep.map (fun x => if recLane x.r.typ = lane.val then { x with tries := x.tries + 1, sent := s.cyc } else x) })
      .next (if s.xlOn then s.bumpBy R.XLINK_RESEND_CNT_CNT ks.length else s)

/-! ## Heartbeats (R455, R470) -/

/-- HEARTBEAT_SEND (R452, R455): an HB goes to every member, or to the peer. -/
def execHeartbeatSend (s : State) : Out :=
  let arg := b2n s.grave + 2 * b2n s.pf + 4 * b2n (s.flag R.PWR_STATUS_SEAL_RUN)
  let r : LRec := { typ := 1, arg := arg, payload := leBytes 8 s.cyc }
  .next (if s.xlOn then s.linkSend { r with bcast := true }
    else if s.rfOn then s.linkSend { r with dst := 1 - s.linkMe }
    else s)

/-- An HB of member or peer `m` is taken into account (R455, R465, R470). -/
def State.hbTaken (s : State) (m : Nat) (grave : Bool) : State :=
  if s.xlOn then
    ((s.lnkMap (fun l => { l with seen := if m ∈ l.seen then l.seen else l.seen ++ [m] })).set R.XLINK_STATUS_LOST
      (s.get R.XLINK_STATUS_LOST - s.get R.XLINK_STATUS_LOST / 2 ^ m % 2 * 2 ^ m)).upCheck
  else if grave then s.peerLost
  else
    let t := (s.set R.REFL_STATUS_PEER_UP 1).set R.REFL_STATUS_SOLO 0
    if s.flag R.REFL_STATUS_PEER_UP then t else t.raise .refl 0 0

/-- HB (R455, R470). -/
def execRecHb (hdr : LHdr) (grave pf sealing : Bool) (time : BitVec 64) (s : State) : Out :=
  .next (s.linkTake (hdrRec hdr 1 (b2n grave + 2 * b2n pf + 4 * b2n sealing) (leBytes 8 time.toNat)) (fun s => s.hbTaken hdr.src grave))

/-- ACK (R454): the records that the block has sent to the origin of the ACK on a lane, up to a sequence number, are acknowledged. -/
def execRecAck (hdr : LHdr) (lane : Fin 2) (upTo : BitVec 16) (s : State) : Out :=
  .next (s.linkTake (hdrRec hdr 2 lane (leBytes 2 upTo.toNat)) (fun s =>
    s.linkAcked (fun k => !k.bcast && k.dst = hdr.src.val && recLane k.typ = lane.val && seqUpTo k.sseq upTo.toNat)))

/-! ## Angle and triggers (R456, R457) -/

/-- SYNC_SEND (R456): the master's angle, rate and counter; while a SYNC waits for the buffer, its sender waits too (R454). -/
def execSyncSend (s : State) : Out :=
  .next (if s.xlOn ∧ s.linkMe = 0 ∧ !s.linkJam 0x10 then
      s.linkSend { typ := 0x10, bcast := true, payload := leBytes 8 s.ang.theta ++ leBytes 4 s.ang.omega ++ leBytes 8 s.cyc }
    else s)

/-- An error beyond SLEW raises its event (R456). -/
def State.slewed (s : State) (far : Bool) : State := if far then s.raise .angle 0 6 else s

/-- Steer θ and its rate to the master's (R456): at most SLEW counts a SYNC. -/
def State.syncSteer (s : State) (theta omega hop : Nat) : State :=
  let slew : Int := s.get R.ANGLE_TRACK_SLEW * 2 ^ 32
  let e := sgn 48 ((theta + omega * hop) % 2 ^ 48 + 2 ^ 48 - s.ang.theta)
  ((s.angMap (fun a => { a with omega := omega })).moveFine (clampI (-slew) slew e)).slewed (decide (slew < e.natAbs))

/-- The time offset to the master's counter (R456). -/
def State.timeOffset (s : State) (ofs : Nat) : State :=
  (s.wr R.XLINK_TIME_OFS_LO_CYC.addr (BitVec.ofNat 32 ofs)).wr R.XLINK_TIME_OFS_HI_CYC.addr (BitVec.ofNat 32 (ofs / 2 ^ 32))

/-- A SYNC is taken by a following member whose angle unit runs in VIRTUAL mode (R456); while a member is lost the steering
stops (R465). -/
def State.syncTaken (s : State) (theta omega time : Nat) : State :=
  if !s.flag R.XLINK_CFG_ANGLE_FOLLOW ∨ s.linkMe = 0 then s
  else
    let hop := s.get R.XLINK_HOP_LAT_CYC * s.linkMe
    let s := if s.ang.st = .virtual ∧ s.get R.XLINK_STATUS_LOST = 0 then s.syncSteer theta omega hop else s
    let ofs := ((time : Int) - (s.cyc : Nat) - (hop : Nat)) % 2 ^ 64
    (s.timeOffset ofs.toNat).set R.XLINK_STATUS_SYNCED 1

/-- SYNC (R456). -/
def execRecSync (hdr : LHdr) (theta : BitVec 48) (omega : BitVec 32) (time : BitVec 64) (s : State) : Out :=
  .next (s.linkTake (hdrRec hdr 0x10 0 (leBytes 8 theta.toNat ++ leBytes 4 omega.toNat ++ leBytes 8 time.toNat))
    (fun s => s.syncTaken theta.toNat omega.toNat time.toNat))

/-- SYNC_LOST (R456): no SYNC has arrived for `SYNC.TO` µs. -/
def execSyncLost (s : State) : Out :=
  .next (if s.flag R.XLINK_STATUS_SYNCED then (s.set R.XLINK_STATUS_SYNCED 0).raise .xlink 0 1 else s)

/-- TRIG (R457): the pin's trigger reaches the member's own hoops, with the record's stamps; the master's time is converted
with `TIME_OFS`. -/
def execRecTrig (hdr : LHdr) (time : BitVec 64) (stamp : BitVec 32) (s : State) : Out :=
  .next (s.linkTake (hdrRec hdr 0x12 0 (leBytes 8 time.toNat ++ leBytes 4 stamp.toNat)) (fun s =>
    let ofs := s.get R.XLINK_TIME_OFS_LO_CYC + s.get R.XLINK_TIME_OFS_HI_CYC * 2 ^ 32
    (List.range 64).foldl (fun s h => s.hoopTrig h 0 ((time.toNat + 2 ^ 64 - ofs) % 2 ^ 64) stamp.toNat) s))

/-! ## Stripes of a cascade (R459 to R464) -/

/-- NUM (R459). -/
def execRecNum (hdr : LHdr) (prof : Fin 8) (num : BitVec 32) (s : State) : Out :=
  .next (s.linkTake (hdrRec hdr 0x11 prof (leBytes 4 num.toNat)) (fun s =>
    s.lnkMap (fun l => { l with nums := tmod (fun _ => []) l.nums prof (fun q => q ++ [num.toNat]) })))

/-- PARTIAL (R461): a row arrives; it waits until the share has closed. -/
def execRecPartial (hdr : LHdr) (row : Fin 4) (close : BitVec 2) (stripe : BitVec 32) (data : List Byte) (s : State) : Out :=
  let bs := bytesTo 65504 data
  .next (s.linkTake (hdrRec hdr 0x13 (row.val * 4 + close.toNat) (leBytes 4 stripe.toNat ++ leBytes 4 0 ++ bs)) (fun s =>
    (s.lnkMap (fun l => { l with parts := l.parts ++ [(stripe.toNat, row.val, close.toNat, bs)] })).partGo stripe.toNat))

/-- STRIPE_DONE (R462): the member's stripe record may be written. -/
def execRecStripeDone (hdr : LHdr) (close : BitVec 2) (stripe : BitVec 32) (s : State) : Out :=
  .next (s.linkTake (hdrRec hdr 0x14 close.toNat (leBytes 4 stripe.toNat)) (fun s =>
    s.stripeMap stripe.toNat (fun x => if x.casc then { x with fin := true, closed := some (max (x.closed.getD 0) close.toNat) } else x)))

/-- RECON_REQ (R464): the recovery engine computes the contributions of the member's own slots for the requester. -/
def execRecReconReq (hdr : LHdr) (stripe : BitVec 32) (mask : BitVec 16) (s : State) : Out :=
  .next (s.linkTake (hdrRec hdr 0x15 0 (leBytes 4 stripe.toNat ++ leBytes 2 mask.toNat)) (fun s =>
    s.rcvMap (fun r => { r with
      nextId := r.nextId + 1
      reqs := r.reqs ++ [{ id := r.nextId, who := [.remote hdr.src], taddr := unmapped, tlc := false, tile := false, mask := mask.toNat
                           tileno := 0x7FFFFFFF, hint := stripe.toNat, refset := 0, place := 0, groups := []
                           dead := (List.range 16).filter (bit mask.toNat) }] })))

/-- The oldest request that waits for an answer of member `m` (07 R235). -/
def State.reconFor (s : State) (m : Nat) : Option (RReq × ReconS) :=
  s.rcv.reqs.findSome? (fun q => match q.recon with
    | some x => if m ∈ x.peers then some (q, x) else none
    | none => none)

/-- RECON_RSP (07 R235): a contribution of a row and a codeword is added into the requester's accumulator. -/
def execRecReconRsp (hdr : LHdr) (row : Fin 4) (cw : Fin 16) (data : List Byte) (s : State) : Out :=
  let bs := bytesTo (if cw.val = 15 then 4128 else 4096) data
  .next (s.linkTake (hdrRec hdr 0x16 (row.val * 4 + cw.val * 16) bs) (fun s =>
    match s.reconFor hdr.src with
    | some (_, x) => s.accXor x.set row (cw.val * 4096) (if cw.val = 15 then bs.take 4064 else bs)
    | none => s))

/-- RECON_END (07 R235): the member's lost slots join the lost set; parity rows that the holder has are at hand. -/
def execRecReconEnd (hdr : LHdr) (lost : BitVec 192) (s : State) : Out :=
  .next (s.linkTake (hdrRec hdr 0x17 0 (leBytes 24 lost.toNat)) (fun s =>
    match s.reconFor hdr.src with
    | some (q, x) =>
      let d := x.width - x.parity
      let rows := if hdr.src.val = x.stripe % s.xlM then (List.range x.parity).filter (fun k => !lost.getLsbD (d + k)) else []
      let s := s.reqMap q.id (fun y => { y with recon := y.recon.map (fun z => { z with rows := z.rows ++ rows }) })
      s.peerEnd q.id hdr.src ((List.range x.width).filter (fun j => lost.getLsbD j))
    | none => s))

/-! ## The standby's copies (R469) -/

/-- Does the block apply mirrored records: it is the standby? -/
def State.standby (s : State) : Bool := s.rfOn && !s.flag R.REFL_CFG_PRIMARY

/-- A mirrored entry is applied as a firmware write applies one, and the highest passed sequence of its hoop is kept (R469, R471). -/
def State.mapMirror (s : State) (u : LMap) : State :=
  let s := s.mapSubmit (.set u.tile.toNat u.addr.toNat)
  if u.hoop = 0xFF then s
  else s.lnkMap (fun l => { l with passed := tmod (fun _ => (0, unmapped)) l.passed u.hoop.toNat (fun p =>
    if p.2 = unmapped ∨ p.1 ≤ u.seq.toNat then (u.seq.toNat, u.addr.toNat) else p) })

/-- MAP_UPD (R469). -/
def execRecMapUpd (hdr : LHdr) (ups : List LMap) (s : State) : Out :=
  let us := ups.take 3
  .next (s.linkTake (hdrRec hdr 0x20 us.length (mapUpdBytes (us.map (fun u =>
      { tile := u.tile.toNat, addr := u.addr.toNat, record := none, hoop := u.hoop.toNat, seq := u.seq.toNat, serial := u.serial.toNat }))))
    (fun s => if s.standby then us.foldl State.mapMirror s else s))

/-- HOOP (R469): bytes 0x40 to 0x9B of the hoop's context, which stays OFF. -/
def execRecHoop (hdr : LHdr) (hoop : Fin 64) (data : List Byte) (s : State) : Out :=
  let bs := bytesTo 92 data
  .next (s.linkTake (hdrRec hdr 0x21 hoop bs) (fun s => if s.standby then s.ctxBytes (hctx hoop + 0x40) bs else s))

/-- INTENT (R469): the mirrored open-intent list, 32 per channel, and the mirrored done erases. -/
def execRecIntent (hdr : LHdr) (done : Bool) (body : BitVec 352) (s : State) : Out :=
  let t := bits body.toNat 0 32
  .next (s.linkTake (hdrRec hdr 0x22 (if done then 2 else 1) (leBytes 44 body.toNat)) (fun s =>
    if !s.standby then s
    else s.lnkMap (fun l =>
      let rest := (tget (fun _ => []) l.intents (taCh t)).filter (fun (x : Intent) => taSet x.taddr ≠ taSet t)
      let key := (taCh t, taLun t, taBlk t)
      { l with
        intents := tput (fun _ => []) l.intents (taCh t)
          (if done then rest else if rest.length < 32 then rest ++ [⟨t, bits body.toNat 32 8, bits body.toNat 48 16⟩] else rest)
        erased := if done then l.erased.erase key ++ [key] else l.erased.erase key })))

/-- BAD (R469). -/
def execRecBad (hdr : LHdr) (taddr : BitVec 32) (s : State) : Out :=
  .next (s.linkTake (hdrRec hdr 0x23 0 (leBytes 4 taddr.toNat)) (fun s => if s.standby then s.blkMark taddr.toNat else s))

/-- STRIPE_REC (R469): the record is written at the standby's own `LACE.REC_BASE`. -/
def execRecStripeRec (hdr : LHdr) (data : List Byte) (s : State) : Out :=
  let bs := bytesTo 1024 data
  .next (s.linkTake (hdrRec hdr 0x24 0 bs) (fun s =>
    let n := s.get R.LACE_REC_COUNT_CNT
    let num := recU bs 4 4
    if !s.standby ∨ n = 0 then s
    else s.mpWrite (num % 2) 0 (s.get R.LACE_REC_BASE_HI_ADDR * 2 ^ 32 + s.get R.LACE_REC_BASE_LO_ADDR * 1024 + num % n * 1024) bs (.stripeRec num)))

/-- REF (R469): offsets of the levels of a LUN. -/
def execRecRef (hdr : LHdr) (glun : Fin 768) (offs : BitVec 64) (s : State) : Out :=
  .next (s.linkTake (hdrRec hdr 0x25 glun (leBytes 8 offs.toNat)) (fun s =>
    if !s.standby then s
    else (List.range 8).foldl (fun s v => s.trackedPut (glun / 16) (glun % 16) v (sgn 8 (bits offs.toNat (8 * v) 8))) s))

/-- Trims and reference code of a target from the 24 bytes of a channel block (07 R237; 03 R110). -/
def trimOf (t : TargetS) (bs : List Byte) : TargetS :=
  let v (i : Nat) : Nat := (bs.getD i 0).toNat
  { t with rdTrim := (List.range 9).map v, wrTrim := (List.range 9).map (fun i => v (12 + i)), ref := v 10 }

/-- TRIM (R469): trims, the lane map requested and the rate of a channel. -/
def execRecTrim (hdr : LHdr) (ch : Fin 48) (data : List Byte) (s : State) : Out :=
  let bs := bytesTo 256 data
  .next (s.linkTake (hdrRec hdr 0x26 ch bs) (fun s =>
    if !s.standby ∨ !s.powered (chDom ch) then s
    else
      let ces := (List.range 8).foldl (fun m c => if ((bs.drop (24 * c)).take 24).all (fun b => b = 0) then m else m + 2 ^ c) 0
      let s := s.lnkMap (fun l => { l with ces := tput (fun _ => 0) l.ces ch ces })
      let s := (List.range 8).foldl (fun s c => (s.phyMap ch (fun p => { p with
        targets := tmod (fun _ => {}) p.targets c (fun t => trimOf t ((bs.drop (24 * c)).take 24)) })).trimWrote ch c) s
      ((s.set (R.CH_LANE_MAP_REQUEST ch) (recU bs 192 1)).set (R.CH_PHY_CTRL_N ch) (recU bs 193 1)).set (R.CH_PHY_CTRL_P ch) (recU bs 194 1)))

/-- HOOP_RECORD_PERIOD (R468): every 1 ms the primary sends a HOOP record for each hoop, unless one still waits for the buffer (R454). -/
def execHoopRecordPeriod (s : State) : Out := .next (if s.linkJam 0x21 then s else (List.range 64).foldl State.mirrorHoop s)

/-! ## Takeover (R471) -/

/-- Change the channels that a takeover still has to set up. -/
def State.tkoMap (s : State) (f : List Nat → List Nat) : State := s.lnkMap (fun l => { l with tkoLeft := l.tkoLeft.map f })

/-- Step 1 of a takeover: every channel is claimed (02 R63; R466); one without power is claimed once it is ON, or fails. -/
def State.tkoClaim (s : State) : State :=
  if s.lnk.tkoLeft.isSome then s
  else
    let ns := List.range s.gen.nch
    (ns.foldl (fun s n => s.ownMap n (fun o => { o with want := true })) s).lnkMap (fun l => { l with tkoLeft := some ns })

/-- Steps 2 and 3 on a granted channel: the PHY runs with what was mirrored, every present LUN is reset, and READ_RETRAIN begins. Where no
INIT has found the targets, those are present that the mirrored block lists (DEDUCED, log entry 96). -/
def State.tkoChannel (s : State) (n : Nat) : State :=
  let s := s.tkoMap (fun l => l.erase n)
  let s := if s.get (R.CH_PHY_STAT_CE_PRESENT n) = 0 then s.set (R.CH_PHY_STAT_CE_PRESENT n) (tget (fun _ => 0) s.lnk.ces n) else s
  let s := (s.rateSet n (s.get (R.CH_PHY_CTRL_N n), s.get (R.CH_PHY_CTRL_P n))).engTime n
  let s := (s.set (R.CH_LANE_MAP_ACTIVE n) (s.get (R.CH_LANE_MAP_REQUEST n))).set (R.CH_PHY_STAT_STATE n) 2
  let s := ((List.range 16).filter (s.lunExists n)).foldl (fun s l => s.lunReset n l) s
  let cs := s.presentCes n
  if cs = [] then s
  else s.phyMap n (fun p => { p with cmd := some { kind := .retrain, left := cs, all := cs, tko := true } })

/-- The row of a hoop that holds a block set: the latest up to its ROW. -/
def State.rowOfBlk (s : State) (h blk : Nat) : Nat :=
  let rows := max 1 (s.hoopRows h)
  let row := s.hget h 0x58 4
  let back := (row % rows + rows - (blk - s.hget h 0x14 2) % rows) % rows
  row - back

/-- Have all members of a hoop's row a mirrored done erase? -/
def State.rowDone (s : State) (h r : Nat) : Bool :=
  (s.hoopChans h).all (fun c => (s.hoopLuns h).all (fun l => decide ((c, l, s.rowBlk h r) ∈ s.lnk.erased)))

/-- Restore a mirrored hoop that was not OFF. -/
def State.tkoHoop (s : State) (h : Nat) : State :=
  let st : Option HoopSt := match s.hget h 0x84 1 % 8 with
    | 1 => some .armed
    | 2 => some .frozen
    | 3 => some .done
    | 4 => some .overrun
    | _ => none
  match st with
  | none => s
  | some st =>
    let s := s.hoopMap h (fun x => { x with st := st })
    -- without a mirrored passed tile WP and ROW stay as mirrored
    let (s, r) := match tfind s.lnk.passed h with
      | none => (s, s.hget h 0x58 4)
      | some (q, a) =>
        let r := s.rowOfBlk h (taBlk a) + 1
        ((s.hput h 0x40 8 (q + 1)).hput h 0x58 4 r, r)
    let n := s.hoopRows h
    let ef := ((List.range n).find? (fun i => !s.rowDone h (r + i))).getD n + r
    (((s.hput h 0x60 2 0).hput h 0x5C 4 ef).hoopAlloc h).rmFollow h

/-- Steps 4 and 5 of a takeover: hoops and open intents are restored, and the block is primary. -/
def State.tkoEnd (s : State) : State :=
  let s := (List.range 64).foldl State.tkoHoop s
  let s := (List.range s.gen.nch).foldl (fun s n => s.ledgMap n (fun l =>
    { l with intents := (l.intents ++ (tget (fun _ => []) s.lnk.intents n).filter (fun i => decide (i ∉ l.intents))).take 32 })) s
  let s := (s.set R.REFL_CFG_PRIMARY 1).set R.REFL_TKO_TIME_CYC (sat (2 ^ 32 - 1) (s.cyc - s.lnk.lostAt))
  (s.lnkMap (fun l => { l with tko := false, tkoLeft := none })).raise .refl 0 2

/-- Is a channel still to be granted, or in the training of a takeover? -/
def State.tkoBusy (s : State) : Bool :=
  s.lnk.tkoLeft ≠ some [] || (List.range s.gen.nch).any (fun n => (s.ch n).phy.cmd.any (fun c => c.tko))

/-- TAKEOVER (R470, R471): a takeover that has been started goes on: its claims, the channels granted since, and, once none is waiting
and their training has ended, its end. -/
def execTakeover (s : State) : Out :=
  if !s.rfOn ∨ !s.lnk.tko then .next s
  else
    let s := s.tkoClaim
    let s := s.tkoMap (fun l => l.filter (fun n => (s.ch n).own.want))
    let s := ((s.lnk.tkoLeft.getD []).filter (fun n => (s.ch n).own.owned)).foldl State.tkoChannel s
    .next (if s.tkoBusy then s else s.tkoEnd)

/-- TAKEOVER_FAIL (R471): a channel not granted within `TKO_TO` stays unowned. -/
def execTakeoverFail (ch : Fin 48) (s : State) : Out :=
  .next (if s.rfOn ∧ (s.ch ch).own.want ∧ !(s.ch ch).own.owned then
      ((s.ownMap ch (fun o => { o with want := false, req := false })).tkoMap (fun l => l.erase ch)).raise .refl 0 3
    else s)

/-- Effect of a write of `REFL.CMD` (R470): TAKEOVER starts a takeover in any case. -/
def reflCmdWr (data : Word) (s : State) : State := if bit data.toNat 0 ∧ s.rfOn then s.lnkMap (fun l => { l with tko := true }) else s

end Sys2Proof.Machine
end

