-- ==== Sys2Proof/Machine/Views.lean ====
section
/-!
DEFINITION. What a read of the control window returns: the stored register words, and the fields that show what the units hold
(00_scope.md R7, R14, R15, R19, R20; 02_ports.md R47, R48, R72; 15_faults.md R431, R440; 17_bringup_registers.md R476 to R482;
each page's register table).
-/

namespace Sys2Proof.Machine

/-- Set fields given as lowest bit, width and value. -/
def setFields (w : Word) (fs : List (Nat × Nat × Nat)) : Word := fs.foldl (fun w f => putBits w f.1 f.2.1 f.2.2) w

/-- The number whose bits of `xs` for which `p` holds are 1. -/
def bitmap (n : Nat) (p : Nat → Bool) : Nat := (List.range n).foldr (fun i a => if p i then a + 2 ^ i else a) 0

/-! ## The common header -/

/-- TYPE of a page (R20). -/
def pageType : Page → Nat
  | .sys => 1 | .pwr => 2 | .fault => 3 | .memi => 4 | .dma => 5 | .ring => 6 | .strm => 7 | .hoop => 8 | .map => 9
  | .spool => 0xA | .lace => 0xB | .dec => 0xC | .angle => 0xD | .rotor => 0xE | .xlink => 0xF | .refl => 0x10 | .cal => 0x11
  | .lane => 0x20 | .ch => 0x30 | .seqg => 0x40

/-- `FLT_BASE` of a page; none where the unit has no fault sources (15 R431). -/
def pageFlt (p : Page) (n : Nat) : Option Nat :=
  match p with
  | .sys => some 0 | .pwr => some 1 | .rotor => some 6 | .angle => some 15 | .cal => some 20 | .memi => some 21
  | .seqg => some (43 + n) | .lane => some (49 + n) | .hoop => some 61 | .dec => some 62 | .xlink => some 63 | .refl => some 65
  | .ch => some (80 + 3 * n) | .fault => some 224
  | .dma | .ring | .strm | .map | .spool | .lace => none

/-- Event bits of the page at `base` that are pending (17 R478). -/
def State.evtPend (s : State) (base : Nat) : Word := s.rd (base + 0x10) &&& s.rd (base + 0x14)

/-- Is a pending event routed to a line (17 R478)? -/
def State.lineHigh (s : State) (l : Nat) : Bool :=
  (s.regs.filter (fun p => p.1 < 0x80000 ∧ p.1 % 0x1000 = 0x10)).any (fun p =>
    (List.range 32).any (fun b => bit (s.evtPend (p.1 - 0x10)).toNat b && bits (s.rd (p.1 + 0x10)).toNat (2 * (b / 2)) 2 = l))

/-- Level of `EVT_OUT[l]` (17 R479). -/
def State.evtOut (s : State) (l : Nat) : Bool :=
  let cfg := bits (s.rd R.SYS_EVT_LINE_LINE0.addr).toNat (8 * l) 8
  bit cfg 7 && (if bit cfg 6 then s.pins.pulse.getLsbD l else s.lineHigh l)

/-- Has a source that class as its STATE? -/
def State.srcIs (s : State) (cls : Nat) : Bool := s.flt.srcs.any (fun p => p.2.state = cls)

/-- Level of `FAULT_OUT` (15 R440); while the warm reset lasts the level at its assertion (02 R84; log entry 32). -/
def State.faultOut (s : State) : Bool :=
  match s.cp.rst with
  | .cold => true
  | .warm => s.cp.fout
  | .none => s.grave || s.srcIs 2 || (s.flag R.FAULT_CFG_OUT_DEG && s.srcIs 1)

/-! ## Fields that show a unit's state -/

/-- Words of `SYS` (17 R476). -/
def State.viewSys (s : State) (o : Nat) (w : Word) : Word :=
  match o with
  | 0x40 => s.cp.idLot
  | 0x44 => s.cp.idDie.setWidth 32
  | 0x48 => setFields 0 [(24, 6, s.gen.nch), (16, 5, s.gen.nlane), (8, 5, s.gen.ndec), (4, 1, b2n s.gen.lun2),
      (2, 1, b2n s.gen.refl), (1, 1, b2n s.gen.xlink), (0, 1, b2n s.gen.rotor)]
  | 0x50 => BitVec.ofNat 32 s.cyc
  | 0x54 => BitVec.ofNat 32 (s.cyc / 2 ^ 32)
  | 0x60 =>
    let r := s.gen.rotor
    setFields 0 [(13, 4, bitmap 4 s.evtOut), (12, 1, b2n s.faultOut), (11, 1, b2n s.pins.pfWarn), (10, 1, b2n s.pins.trigIn),
      (9, 1, b2n s.pins.glintKey), (8, 1, b2n s.pins.glint), (7, 1, b2n (r && s.pins.rotCmd)), (6, 1, b2n (r && s.pins.chopFb)),
      (5, 1, b2n (r && s.pins.rotOc)), (2, 3, if r then s.pins.rotZc.toNat else 0)]
  | _ => w

/-- Words of `PWR` (13, "PWR registers"). -/
def State.viewPwr (s : State) (o : Nat) (w : Word) : Word :=
  let st (d : Nat) : Nat := if s.domPresent d then (s.dom d).st.code else 0
  let l := (s.ch (s.get R.PWR_LEDG_SEL_CH)).ledg
  match o with
  | 0xC => putBits w 4 1 (b2n s.pins.pfWarn)
  | 0x48 => setFields 0 ((List.range 10).map (fun d => (3 * d, 3, st d)))
  | 0x4C => setFields 0 ((List.range 3).map (fun d => (3 * d, 3, st (10 + d))))
  | 0x90 => setFields 0 [(31, 1, b2n l.blk), (0, 14, l.pos)]
  | 0x94 => BitVec.ofNat 32 l.seq
  | _ => w

/-- Words of `FAULT` (15 R448); the words of an absent or reserved source read 0 (R431). -/
def State.viewFault (s : State) (o : Nat) (w : Word) : Word :=
  if o = 0xC then setFields w [(30, 1, b2n (s.srcIs 2)), (29, 1, b2n (s.srcIs 1)), (28, 1, b2n s.faultOut)]
  else if 0x400 ≤ o ∧ o < 0xC00 then
    (let n := (o - 0x400) / 8
     let x := s.src n
     if !s.srcPresent n then 0
     else if o % 8 = 4 then setFields 0 [(24, 2, x.state), (16, 8, min 255 x.count), (0, 16, x.total)]
     else w)
  else w

/-- Words of `MEMI` (14 R430). -/
def State.viewMemi (s : State) (o : Nat) (w : Word) : Word :=
  let e := s.logAt (s.get R.MEMI_LOG_SEL_REGION) (s.get R.MEMI_LOG_SEL_ENTRY)
  if o = 0x50 then
    (match e with
     | some x => setFields 0 [(31, 1, 1), (24, 7, sat 127 x.count), (0, 24, x.waddr)]
     | none => 0)
  else if o = 0x54 then
    (match e with
     | some x => BitVec.ofNat 32 (s.ms - x.first)
     | none => 0)
  else if 0x200 ≤ o ∧ o < 0x2E0 then
    (match (tget (fun _ => none) s.memi.remap ((o - 0x200) / 0x20 * 8 + o % 0x20 / 4) : Option Remap) with
     | some x => setFields 0 [(31, 1, 1), (0, 24, x.waddr)]
     | none => 0)
  else w

/-- A DMA channel. -/
def State.dmaCh (s : State) (c : Nat) : DmaCh := tget (fun _ => {}) s.rng.dma c

/-- Field of `n` bytes at byte `a` of a descriptor (00 R11). -/
def dfield (bs : List Byte) (a n : Nat) : Nat := leNat ((bs.drop a).take n)

/-- Steps of a DMA descriptor (10 R310 to R314). -/
def dmaSteps (bs : List Byte) : Nat :=
  let len := dfield bs 4 4
  match dfield bs 0 1 with
  | 0 | 1 => len / 64
  | 2 | 3 => dfield bs 0x28 4
  | 4 | 5 => len / (64 * max 1 (dfield bs 2 1))
  | 6 => len / 1024
  | _ => len / 64

/-- Encoding of a DMA channel's state (10, `CH_STAT`). -/
def DmaSt.code : DmaSt → Nat
  | .idle => 0 | .running => 1 | .pausing => 2 | .paused => 3

/-- Words of `DMA` (10, "DMA registers"). -/
def State.viewDma (s : State) (o : Nat) (w : Word) : Word :=
  if 0x100 ≤ o ∧ o < 0x200 then
    (let x := s.dmaCh ((o - 0x100) / 0x20)
     let (r, bs) := x.desc.getD (0, [])
     match o % 0x20 with
     | 0x8 => setFields 0 [(16, 14, r), (8, 8, dfield bs 0 1), (0, 3, x.st.code)]
     | 0xC => BitVec.ofNat 32 x.prog
     | 0x10 => BitVec.ofNat 32 (dmaSteps bs)
     | 0x14 => BitVec.ofNat 32 (dfield bs 0x18 4)
     | _ => w)
  else w

/-- Words of `HOOP`, `MAP` and `LACE` (09 R292, "MAP registers"; 06, "LACE registers"). -/
def State.viewHoop (s : State) (o : Nat) (w : Word) : Word :=
  match o with
  | 0x54 => BitVec.ofNat 32 (bitmap 32 (fun h => (s.hoop h).st = .armed))
  | 0x58 => BitVec.ofNat 32 (bitmap 32 (fun h => (s.hoop (32 + h)).st = .armed))
  | _ => w

/-- Words of `MAP`. -/
def State.viewMap (s : State) (o : Nat) (w : Word) : Word :=
  if o = 0x50 then putBits w 16 16 (sat 0xFFFF ((s.map.lines.filter (fun p => p.2.dirty)).length + s.map.evicted.length)) else w

/-- Words of `LACE`. -/
def State.viewLace (s : State) (o : Nat) (w : Word) : Word :=
  match o with
  | 0xD0 => setFields 0 [(8, 8, bitmap 8 (fun a => s.lace.stripes.any (fun x => x.set = a ∧ x.copies ≠ []))),
      (0, 8, bitmap 8 (fun p => s.lace.stripes.any (fun x => x.prof = p ∧ x.closed.isNone)))]
  | 0xD8 => BitVec.ofNat 32 (8 - s.lace.used.length)
  | _ => w

/-- Words of `SPOOL` (08 R266). -/
def State.viewSpool (s : State) (o : Nat) (w : Word) : Word :=
  if 0x100 ≤ o ∧ o < 0x280 then
    (let l := s.lane ((o - 0x100) / 0x20)
     match o % 0x20 with
     | 0xC => setFields 0 [(16, 15, l.tail.length), (0, 15, l.head.length)]
     | 0x10 => BitVec.ofNat 32 l.midN
     | _ => w)
  else w

/-- Words of `DEC` (06, "DEC registers"). -/
def State.viewDec (s : State) (o : Nat) (w : Word) : Word :=
  match o with
  | 0x48 => BitVec.ofNat 32 (bitmap s.gen.ndec (fun e => s.dplace e = .free))
  | 0x4C => BitVec.ofNat 32 (bitmap s.gen.ndec (fun e => (tget (fun _ => none) s.dec.run e : Option Job).isSome))
  | 0x50 => setFields 0 [(16, 16, s.dec.lo.length), (0, 16, s.dec.hi.length)]
  | _ => w

/-- Encoding of the angle unit's state (12 R362). -/
def AngSt.code : AngSt → Nat
  | .off => 0 | .virtual => 1 | .search => 2 | .acquire => 3 | .locked => 4 | .coasting => 5

/-- Words of `ANGLE` (12 R376). -/
def State.viewAngle (s : State) (o : Nat) (w : Word) : Word :=
  match o with
  | 0xC => setFields 0 [(16, 6, s.ang.facet), (8, 8, sat 255 s.ang.missRun), (0, 3, s.ang.st.code)]
  | 0x90 => BitVec.ofNat 32 s.stamp
  | 0x94 => BitVec.ofNat 32 s.ang.omega
  | _ => w

/-- Words of `ROTOR` (11 R358). -/
def State.viewRotor (s : State) (o : Nat) (w : Word) : Word :=
  let r := s.rot
  match o with
  | 0xC => setFields w [(24, 2, sat 3 r.rcFails), (16, 3, r.vec), (12, 3, r.step.sector), (10, 1, b2n r.chop), (9, 1, b2n s.glintOk),
      (8, 1, b2n s.pf), (7, 1, b2n s.grave), (6, 1, b2n r.chopFlt), (5, 1, b2n (r.zeroTq || r.zeroPf || r.chopFlt)), (4, 1, b2n r.rev), (0, 4, r.st.code)]
  | 0x100 => setFields 0 [(31, 1, b2n (s.estN < 0)), (0, 24, s.speedAbs)]
  | 0x104 => BitVec.ofNat 32 (r.obs.elec % 65536)
  | 0x108 => setFields 0 [(16, 16, unsgn 16 r.obs.torque), (0, 16, vecLen r.obs.psiA r.obs.psiB / 1000000)]
  | 0x10C => setFields 0 [(16, 16, unsgn 16 r.obs.iv), (0, 16, unsgn 16 r.obs.iu)]
  | 0x110 => BitVec.ofNat 32 r.vdc
  | _ => w

/-- Words of `REFL` (16 R466): the channels owned. -/
def State.viewRefl (s : State) (o : Nat) (w : Word) : Word :=
  match o with
  | 0x50 => BitVec.ofNat 32 (bitmap 32 (fun n => (s.ch n).own.owned))
  | 0x54 => BitVec.ofNat 32 (bitmap 16 (fun n => (s.ch (32 + n)).own.owned))
  | _ => w

/-- Words of `CAL` (12, "CAL registers"). -/
def State.viewCal (s : State) (o : Nat) (w : Word) : Word :=
  if o = 0xC then setFields 0 [(16, 16, s.granted), (0, 12, s.ang.slot)] else w

/-- Encoding of a lane's framing state (08 R243). -/
def FrameSt.code : FrameSt → Nat
  | .outside => 0 | .inTile => 1 | .excess => 2 | .discard => 3

/-- Words of `LANE[n]` (08 R265). -/
def State.viewLane (s : State) (n o : Nat) (w : Word) : Word :=
  let l := s.lane n
  if o = 0xC then
    setFields 0 [(10, 1, b2n l.wd), (9, 1, b2n (s.spoolFull n)), (8, 1, b2n (0 < l.midN)), (6, 2, l.st.code),
      (5, 1, b2n (l.st = .inTile)), (4, 1, b2n l.enabled), (0, 1, b2n l.linkup)]
  else w

/-- The head of a LUN's die queue (05 R157, R161): of the heads of its classes the one of highest rank. -/
def State.dieHead (s : State) (n l : Nat) : Option Slot :=
  match s.heads n l with
  | [] => none
  | x :: rest => some (rest.foldl (fun m y => if y.rank < m.rank then y else m) x)

/-- STATE of `DIE_Q` (05, `CH[n].DIE_Q`; log entry 31): HUNG, RUNNING, SUSPENDED, PARKED, WORDLINE and IDLE in this order. -/
def State.dieState (s : State) (n l : Nat) : Nat :=
  let x := s.lun n l
  let c := (s.ch n).ctx
  if x.hung || (match x.park with
    | some p => p.hung
    | none => false) then 5
  else if c.run = .run && (match c.desc with
    | some d => d.lun = l
    | none => false) then 1
  else if x.suspended then 3
  else if x.park.isSome then 2
  else if x.wl.isSome then 4
  else 0

/-- The bytes shown as EYE0 to EYE2 of a target in a direction (03, layout of EYEk). -/
def TargetS.eyeBytes (t : TargetS) (wr : Bool) : List Byte :=
  let v := if wr then t.wrEye else t.rdEye
  (List.range 9).map (fun l => BitVec.ofNat 8 (v.getD l 0)) ++ [0, BitVec.ofNat 8 t.height, 0]

/-- Words of `CH[n]` (05, "Channel registers"; 03, "PHY registers"). -/
def State.viewCh (s : State) (n o : Nat) (w : Word) : Word :=
  let sel := s.get (R.CH_DIE_SEL_LUN n)
  let x := s.lun n sel
  let q := s.queue n sel
  let t : TargetS := tget (fun _ => {}) (s.ch n).phy.targets (s.get (R.CH_EYE_SEL_CE n))
  let wr := s.flag (R.CH_EYE_SEL_DIR n)
  let used := (s.ch n).slots.length
  if o = 0xC then
    setFields 0 [(16, 16, bitmap 16 (fun l => (s.lun n l).park.isSome)), (0, 16, bitmap 16 (fun l => (s.lun n l).suspended))]
  else if o = 0x5C then
    setFields 0 [(29, 3, s.dieState n sel), (28, 1, b2n ((s.dieHead n sel).any (fun y => y.aged))), (24, 4, x.susCnt), (16, 5, q.length),
      (8, 5, (q.filter (fun y => y.desc.cls = .urgent)).length),
      (0, 8, match s.dieHead n sel with
        | some y => y.desc.opcode
        | none => 0xFF)]
  else if o = 0x60 then
    setFields 0 [(16, 16, match x.run0 with
      | some t0 => sat 0xFFFF ((s.cyc - t0) / s.gen.mhz)
      | none => 0)]
  else if o = 0x90 then setFields 0 [(8, 6, min (s.get (R.CH_QCFG_URG_RSV n)) (32 - used)), (0, 6, 32 - used)]
  else if 0x118 ≤ o ∧ o < 0x124 then BitVec.ofNat 32 (leNat (((t.eyeBytes wr).drop (o - 0x118)).take 4))
  else if 0x124 ≤ o ∧ o < 0x130 then BitVec.ofNat 32 (leNat (((t.trimBytes wr).drop (o - 0x124)).take 4))
  else w

/-- Words of `SEQG[g]` (04, "SEQG registers"). -/
def State.viewSeqg (s : State) (g o : Nat) (w : Word) : Word :=
  if o = 0xC then
    setFields w [(24, 8, bitmap 8 (fun c => (s.ch (8 * g + c)).ctx.run = .halted)), (16, 8, bitmap 8 (fun c => s.custUse (8 * g + c))),
      (8, 8, bitmap 8 (fun c => (s.ch (8 * g + c)).ctx.run = .idle))]
  else if 0x400 ≤ o ∧ o < 0x500 then
    BitVec.ofNat 32 ((s.ch (8 * g + (o - 0x400) / 0x20)).ctx.frame.word (o % 0x20 / 4))
  else w

/-- A word of a page beside the common header, where `w` is the stored word. -/
def State.viewPage (s : State) (p : Page) (n o : Nat) (w : Word) : Word :=
  match p with
  | .sys => s.viewSys o w | .pwr => s.viewPwr o w | .fault => s.viewFault o w | .memi => s.viewMemi o w | .dma => s.viewDma o w
  | .hoop => s.viewHoop o w | .map => s.viewMap o w | .spool => s.viewSpool o w | .lace => s.viewLace o w | .dec => s.viewDec o w
  | .angle => s.viewAngle o w | .rotor => s.viewRotor o w | .refl => s.viewRefl o w | .cal => s.viewCal o w
  | .lane => s.viewLane n o w | .ch => s.viewCh n o w | .seqg => s.viewSeqg n o w
  | .ring | .strm | .xlink => w

/-- A word of a present page (R19). -/
def State.viewReg (s : State) (p : Page) (n a : Nat) : Word :=
  let o := a % 0x1000
  match o with
  | 0x0 => BitVec.ofNat 32 (pageType p * 65536 + n * 256 + 1)
  | 0x4 => BitVec.ofNat 32 (0x02010000 + s.gen.build.toNat)
  | 0x18 => s.evtPend (a - 0x18)
  | 0x24 => (match pageFlt p n with
    | some b => BitVec.ofNat 32 b
    | none => 0x80000000)
  | _ => s.viewPage p n o (s.rd a)

/-! ## Reads -/

/-- The SRAM word that a word address of the control window reaches: a store or window, or a register that stands for a word of
the miscellaneous tables (14 R408; 07, `REF_IDX`; 11 R325; 12 R371; 15 R445). -/
def State.sramAt (s : State) (a : Nat) : Option (Nat × Nat) :=
  let lun := s.get R.DEC_REF_IDX_LUN
  if 0x80000 ≤ a ∧ a < 0xE0000 then some (6, (a - 0x80000) / 4)
  else if 0x100000 ≤ a ∧ a < 0x250000 then some (5, winWord a)
  else if 0xC0B8 ≤ a ∧ a < 0xC0C8 then (if lun < 16 * s.gen.nch then some (5, tabWord 2 (4 * lun + (a - 0xC0B8) / 4)) else none)
  else if 0xE200 ≤ a ∧ a < 0xE280 then some (5, tabWord 1 ((a - 0xE200) / 4))
  else if a = R.CAL_DATA_EVEN.addr then some (5, calWord (s.get R.CAL_ADDR_ENTRY / 2 * 2))
  else if 0x3C00 ≤ a ∧ a < 0x4000 then some (5, tabWord 5 ((a - 0x3C00) / 4))
  else none

/-- The SRAM word `v` at word address `a` as a read delivers it: the unused bits of `ROTOR.ADV` read 0 (00 R15), and EN of a
stream (09 R277), EN of a ring (10 R295) and STATE of a hoop (09 R289) show the block's own state whatever the cells hold; on a
standby STATE shows what the port has written (16 R469). -/
def State.mirrored (s : State) (a : Nat) (v : Word) : Word :=
  if 0xE200 ≤ a ∧ a < 0xE280 then v &&& 0xFF
  else if 0x100000 ≤ a ∧ a < 0x180000 then (if a % 32 = 0xC then putBits v 15 1 (b2n (s.ring ((a - 0x100000) / 32)).en) else v)
  else if 0x180000 ≤ a ∧ a < 0x200000 then (if a % 128 = 0 then putBits v 31 1 (b2n (s.strmOn ((a - 0x180000) / 128))) else v)
  else if 0x200000 ≤ a ∧ a < 0x204000 ∧ a % 256 = 0x84 then
    (if s.flag R.REFL_CTRL_ENABLE ∧ !s.flag R.REFL_CFG_PRIMARY ∧ (tfind s.sram (skey 5 (winWord a))).isSome then v
     else putBits v 0 3 (s.hoop ((a - 0x200000) / 256)).st.code)
  else v

/-- The word that a read without side effects returns (02 R47; 10 R314): 0 from an absent page, a reserved offset and a domain
without power. -/
def State.readWord (s : State) (addr : Nat) : Word :=
  let a := addr / 4 * 4
  match s.addrDom a with
  | none => 0
  | some d =>
    if !s.powered d then 0
    else match s.sramAt a with
      | some (r, w) => s.mirrored a (s.peek r w)
      | none =>
        match pageOfIndex (a / 0x1000) with
        | some (p, n) => s.viewReg p n a
        | none => 0

/-- A control-port read of an SRAM word: the word's errors are reported; in checker test mode the stored data (14 R416, R427). -/
def State.sramRead (s : State) (a r w : Nat) : State :=
  if s.testMode r then
    let v := s.stored r w
    let s : State := { s with cp := { s.cp with rdata := strongData v } }
    ((s.set R.MEMI_TEST_RD_CHK (strongStored v).toNat).set R.MEMI_TEST_RD_SYN (strongSyn v).toNat).set R.MEMI_TEST_RD_CLASS
      (strongClass v).code
  else
    let s1 := s.note r w 2
    { s1 with cp := { s1.cp with rdata := s.mirrored a (s.peek r w) } }

/-- The words of tables 3 and 4 of region 5 that a control-port read of a register reads, as first word and number: the trims of the
selected target, the selected log entry, a remap entry (14 R408, R416; log entry 29). -/
def State.tableAt (s : State) (a : Nat) : Nat × Nat :=
  let o := a % 0x1000
  match pageOfIndex (a / 0x1000) with
  | some (.ch, n) =>
    if 0x124 ≤ o ∧ o < 0x130 then (trimIx n (s.get (R.CH_EYE_SEL_CE n)) + (o - 0x124), if o = 0x12C then 2 else 4) else (0, 0)
  | some (.memi, _) =>
    if 0x50 ≤ o ∧ o < 0x58 then (logIx (s.get R.MEMI_LOG_SEL_REGION) (s.get R.MEMI_LOG_SEL_ENTRY), 2)
    else if 0x200 ≤ o ∧ o < 0x2E0 then (remapIx ((o - 0x200) / 0x20) (o % 0x20 / 4), 1)
    else (0, 0)
  | _ => (0, 0)

/-- A control-port read (02 R46 to R50): `CP_RDATA` and the side effects. -/
def State.cpRead (s : State) (addr : Nat) : State :=
  let a := addr / 4 * 4
  match s.addrDom a with
  | none => { s with cp := { s.cp with rdata := 0 } }
  | some d =>
    if !s.powered d then
      let s := s.offAccess addr
      { s with cp := { s.cp with rdata := 0 } }
    else if a = R.CAL_DATA_EVEN.addr then calDataRd s
    else match s.sramAt a with
      | some (r, w) => s.sramRead a r w
      | none =>
        let t := s.tableAt a
        let s1 := if t.2 = 0 then s else s.bufSeen 5 t.1 t.2 2
        { s1 with cp := { s1.cp with rdata := s.readWord a } }

end Sys2Proof.Machine
end

