-- ==== Sys2Proof/Machine/Window.lean ====
section
/-!
DEFINITION. Writes into the context, bitmap and store windows, with the context bytes that ignore them
(14_memory_integrity.md R412, R427; 09_placement_hoops.md R277, R292; 10_rings_dma.md R295, R314; 16_cascade_reflection.md R469).
-/

namespace Sys2Proof.Machine

/-- What a write of the context word at `a` finds: the enables of the bytes it may write, the data with the read-only mirror bits
in place, and whether bytes are locked with an event. Stream bytes 0x00 to 0x0F (R277), hoop bytes 0x00 to 0x6F (R292) and ring
bytes 0x00 to 0x1F (R295) are not written while the stream or ring is enabled and the hoop not OFF; on a standby the
reflect port alone writes hoop bytes 0x40 to 0x9B (16, "What the standby does with a record"). -/
def State.ctxLock (s : State) (a : Nat) (be : BitVec 4) (data : Word) : BitVec 4 × Word :=
  if a < 0x180000 then
    (let r := (a - 0x100000) / 32
     if (s.ring r).en then (0, data)
     else (be, if a % 32 = 0xC then putBits data 15 1 0 else data))
  else if a < 0x200000 then
    (let st := (a - 0x180000) / 128
     if s.strmOn st then (if a % 128 < 0x10 then 0 else be, data)
     else (be, if a % 128 = 0 then putBits data 31 1 0 else data))
  else if a < 0x204000 then
    (let h := (a - 0x200000) / 256
     let o := a % 256
     if ((s.hoop h).st ≠ .off ∧ o < 0x70) ∨ (s.isStandby ∧ 0x40 ≤ o ∧ o < 0x9C) then (0, data)
     else (be, if o = 0x84 then putBits data 0 3 (s.hoop h).st.code else data))
  else (be, data)

/-- The event of a write that a context byte ignores: CTX_LOCKED (R277) and LOCKED (R295). -/
def State.ctxRefused (s : State) (a : Nat) : State :=
  if a < 0x180000 then (if a % 32 < 0x10 then s.ringRaise ((a - 0x100000) / 32) 4 else s)
  else if a < 0x200000 then s.strmRaise ((a - 0x180000) / 128) 0
  else s

/-- A write of a window word by the control port, or by the DMA engine (R314), for which checker test mode does not apply. -/
def State.windowWrite (s : State) (a : Nat) (be : BitVec 4) (data : Word) (port : Bool) : State :=
  let (be', d) := s.ctxLock a be data
  if be ≠ 0 ∧ be' = 0 then s.ctxRefused a
  else if be = 0 then s
  else if port then s.cpSram 5 (winWord a) be' d
  else s.sramPut 5 (winWord a) d

/-- Effect of a control-port write of a window word. -/
def windowWr (a : Nat) (be : BitVec 4) (data : Word) (s : State) : State :=
  if 0x80000 ≤ a ∧ a < 0xE0000 then storeWr a be data s else s.windowWrite a be data true

/-- SRAM_WINDOW_WRITE (R412): a control-port write into a context, bitmap or store window. -/
def execSramWindowWrite (addr : BitVec 24) (be : BitVec 4) (data : Word) (s : State) : Out :=
  let a := addr.toNat / 4 * 4
  if (0x80000 ≤ a ∧ a < 0xE0000) ∨ (0x100000 ≤ a ∧ a < 0x250000) then .next (s.cpWr a be data (windowWr a be data)) else .next s

end Sys2Proof.Machine
end

