-- ==== Sys2Proof/Machine/Dma.lean ====
section
/-!
DEFINITION. The DMA engine: descriptors and their checks, the modes, arbitration, pause, resume and abort
(10_rings_dma.md R308 to R319).
-/

namespace Sys2Proof.Machine

/-! ## Descriptors (R309 to R315) -/

/-- Change a DMA channel. -/
def State.dmaMap (s : State) (c : Nat) (f : DmaCh → DmaCh) : State :=
  s.rngMap (fun g => { g with dma := tmod (fun _ => {}) g.dma c f })

/-- Raise a DMA event (R321). -/
def State.dmaRaise (s : State) (b : Nat) : State := s.raise .dma 0 b

/-- The fields of a DMA descriptor (R309). -/
structure DmaD where
  /-- MODE -/
  mode : Nat
  /-- SRC lies on chip -/
  srcOn : Bool
  /-- DST lies on chip -/
  dstOn : Bool
  /-- P0: planes or sample width -/
  p0 : Nat
  /-- P1: sample size -/
  p1 : Nat
  /-- LENGTH -/
  len : Nat
  /-- SRC -/
  src : Nat
  /-- DST -/
  dst : Nat
  /-- TAG -/
  tag : Nat
  /-- IDX -/
  idx : Nat
  /-- ICOUNT -/
  icount : Nat
  /-- UNIT -/
  unit : Nat
  /-- AUX -/
  aux : Nat

/-- Read a DMA descriptor: an external address has 48 bits, an on-chip one 24 (R309). -/
def dmaOf (bs : List Byte) : DmaD :=
  let f := dfield bs 1 1
  let m := dfield bs 0 1
  let on (b : Nat) : Nat := if bit f b then 24 else 48
  { mode := m, srcOn := bit f 0, dstOn := bit f 1, p0 := dfield bs 2 1, p1 := dfield bs 3 1, len := dfield bs 4 4
    src := dfield bs 8 8 % 2 ^ on 0, dst := dfield bs 0x10 8 % 2 ^ on 1, tag := dfield bs 0x18 8, idx := dfield bs 0x20 8 % 2 ^ 48
    icount := dfield bs 0x28 4, unit := dfield bs 0x2C 4, aux := dfield bs 0x30 8 }

/-- A range that a descriptor names: on chip, written, first byte, bytes. -/
abbrev DmaRange := Bool × Bool × Nat × Nat

/-- The ranges that a descriptor reads or writes (R308, R310). -/
def DmaD.ranges (d : DmaD) : List DmaRange :=
  match d.mode with
  | 0 => [(d.srcOn, false, d.src, d.len), (d.dstOn, true, d.dst, d.len)]
  | 1 => [(d.dstOn, true, d.dst, d.len)]
  | 2 => [(d.srcOn, false, d.src, d.aux), (d.dstOn, true, d.dst, d.len), (false, false, d.idx, 4 * d.icount)]
  | 3 => [(d.srcOn, false, d.src, d.len), (d.dstOn, true, d.dst, d.aux), (false, false, d.idx, 4 * d.icount)]
  | 6 => [(d.srcOn, false, d.src, d.len), (d.dstOn, true, d.dst, d.p0 * (d.len / 16))]
  | _ => [(d.srcOn, false, d.src, d.len), (d.dstOn, true, d.dst, d.len)]

/-- Is a space allowed (R314)? -/
def DmaD.spaceOk (d : DmaD) : Bool :=
  let win (on : Bool) (a n : Nat) : Bool := !on || (decide (0x100000 ≤ a) && decide (a + n ≤ 0x250000))
  match d.mode with
  | 0 => win d.srcOn d.src d.len && win d.dstOn d.dst d.len
  | 1 => win d.dstOn d.dst d.len
  | 7 => d.srcOn && !d.dstOn && decide (d.src + d.len ≤ 0x1000000)
  | _ => !d.srcOn && !d.dstOn

/-- Do two ranges of the same space meet? -/
def rangesMeet (x y : DmaRange) : Bool :=
  x.1 = y.1 && decide (x.2.2.1 < y.2.2.1 + y.2.2.2) && decide (y.2.2.1 < x.2.2.1 + x.2.2.2)

/-- Do two ranges of a list meet? -/
def anyMeet : List DmaRange → Bool
  | [] => false
  | x :: xs => xs.any (rangesMeet x) || anyMeet xs

/-- The status of the first check that fails; `none` when all pass (R315). -/
def State.dmaCheck (s : State) (d : DmaD) : Option Nat :=
  let planes := d.mode = 4 ∨ d.mode = 5
  if 7 < d.mode ∨ (planes ∧ (d.p0 < 2 ∨ 4 < d.p0 ∨ d.p1 ∉ [1, 2, 4, 8])) ∨ (d.mode = 6 ∧ d.p0 ∉ [10, 12, 16]) then some 0x65
  else if d.len = 0 ∨ (planes ∧ d.len % (64 * d.p0) ≠ 0) ∨ (d.mode = 6 ∧ d.len % 1024 ≠ 0) ∨
      d.ranges.any (fun r => !r.1 && decide (2 ^ 48 < r.2.2.1 + r.2.2.2)) then some 0x62
  else if d.len % 64 ≠ 0 ∨ d.unit % 64 ≠ 0 ∨ d.src % 64 ≠ 0 ∨ d.dst % 64 ≠ 0 ∨ d.idx % 64 ≠ 0 then some 0x61
  else if (d.mode = 2 ∨ d.mode = 3) ∧ (d.icount = 0 ∨ 65536 < d.icount ∨ d.unit = 0 ∨ d.len ≠ d.icount * d.unit) then some 0x63
  else if !d.spaceOk then some 0x66
  else if d.ranges.any (fun r => !r.1 && !s.winOk r.2.2.1 r.2.2.2 r.2.1) then some 0x64
  else if anyMeet d.ranges then some 0x67
  else if (s.dom 0).st = .quiescing then some 0x24
  else none

/-! ## Taking and completing descriptors (R315, R316) -/

/-- DMA channel of a ring. -/
def State.ringDma (s : State) (r : Nat) : Nat := s.rget r 0x0C 1

/-- Is the record of a descriptor of a channel on its way to memory (R316)? -/
def State.dmaRecOut (s : State) (c : Nat) : Bool :=
  s.mpHas (fun u => match u with
    | .record _ (some r) => s.ringKind r = 3 && s.ringDma r = c
    | _ => false)

/-- The descriptor that an idle channel takes next: the oldest of the ring that follows the one served last, when no record of the
channel waits to be written (R316). -/
def State.dmaNext (s : State) (c : Nat) : Option (Nat × List Byte) :=
  let x := s.dmaCh c
  if x.st ≠ .idle ∨ s.rng.recs.any (fun r => r.typ = 3 && s.ringDma r.src = c) ∨ s.dmaRecOut c then none
  else
    let key (r : Nat) : Nat := (r + 16383 - x.last) % 16384
    match s.rng.dmaq.filter (fun p => s.ringDma p.1 = c) with
    | [] => none
    | p :: ps =>
      let r := (ps.foldl (fun m q => if key q.1 < key m.1 then q else m) p).1
      s.rng.dmaq.find? (fun q => q.1 = r)

/-- The record of a DMA descriptor (R301). -/
def State.dmaRec (s : State) (r tag data st : Nat) : State := s.pushRec ⟨s.ringCq r, r, data, tag % 2 ^ 32, st, 3⟩

/-- An idle channel takes its next descriptor: refused, or RUNNING (R315, R316). -/
def State.dmaTake (s : State) (c : Nat) : State :=
  match s.dmaNext c with
  | none => s
  | some (r, bs) =>
    let d := dmaOf bs
    let s := s.rngMap (fun g => { g with dmaq := g.dmaq.eraseP (fun p => p.1 = r) })
    match s.dmaCheck d with
    | some st =>
      let s := s.dmaMap c (fun x => { x with last := r })
      let s := ((s.set R.DMA_REFUSE_INFO_RING r).set R.DMA_REFUSE_INFO_STATUS st).bump R.DMA_REFUSE_CNT_CNT
      (s.dmaRec r d.tag 0 st).dmaRaise 8
    | none => s.dmaMap c (fun _ => { st := .running, desc := some (r, bs), last := r })

/-- The descriptor of a channel completes with a status and DATA; a channel that was PAUSING becomes PAUSED, one that was PAUSED
stays so (R318). -/
def State.dmaEnd (s : State) (c st data : Nat) : State :=
  match (s.dmaCh c).desc with
  | none => s
  | some (r, bs) =>
    let was := (s.dmaCh c).st
    let s := s.dmaMap c (fun x => { st := if was = .running then .idle else .paused, last := x.last })
    let s := s.dmaRec r (dmaOf bs).tag data st
    if was = .pausing then s.dmaRaise c else s

/-- DATA of a descriptor that has run: steps completed, and its steps (R301). -/
def State.dmaData (s : State) (c : Nat) : Nat :=
  let x := s.dmaCh c
  x.prog % 2 ^ 32 + dmaSteps (x.desc.getD (0, [])).2 * 2 ^ 32

/-- Is a transfer one of DMA channel `c`? -/
def MpUse.ofDma (c : Nat) : MpUse → Bool
  | .dma k _ => k = c
  | .dmaData k _ _ _ => k = c
  | .dmaTable k _ => k = c
  | .dmaIndex k _ => k = c
  | _ => false

/-- Has a channel an access outstanding? -/
def State.dmaOut (s : State) (c : Nat) : Bool := s.mpHas (MpUse.ofDma c)

/-- Reads of a channel asked for and not returned: at most 8 (R316). -/
def State.dmaReads (s : State) (c : Nat) : Nat :=
  (s.mp.queue.filter (fun q => q.read.isSome && q.use.ofDma c)).length + (s.mp.reads.filter (fun r => r.use.ofDma c)).length

/-- The descriptor of a channel ends when its last step is completed, or, after a failure, when its accesses have ended
(R317). -/
def State.dmaSettle (s : State) (c : Nat) : State :=
  let x := s.dmaCh c
  match x.fail with
  | some (st, data) => if s.dmaOut c then s else s.dmaEnd c st (data.getD (s.dmaData c))
  | none => if x.desc.isSome ∧ dmaSteps (x.desc.getD (0, [])).2 ≤ x.prog then s.dmaEnd c 0 (s.dmaData c) else s

/-- `k` steps of a channel's descriptor are completed: their writes have been accepted (R317, R318). -/
def State.dmaDone (s : State) (c k : Nat) : State := (s.dmaMap c (fun x => { x with prog := max x.prog k })).dmaSettle c

/-- A channel's descriptor fails; the first failure counts. -/
def State.dmaFail (s : State) (c st : Nat) (data : Option Nat) : State :=
  s.dmaMap c (fun x => { x with fail := if x.fail.isSome then x.fail else some (st, data) })

/-! ## Data -/

/-- A word of on-chip space has been read: an SRAM word with an error is reported with an origin (R314). -/
def State.wordSeen (s : State) (origin w : Nat) : State :=
  if (s.addrDom w).any s.powered then
    (match s.sramAt w with
     | some (r, k) => s.note r k origin
     | none => s)
  else s

/-- Bytes of on-chip space, read without side effects; SRAM words with an error are reported with an origin (R314). -/
def State.chipGet (s : State) (a n origin : Nat) : List Byte × State :=
  let ws := (List.range (n / 4)).map (fun i => a + 4 * i)
  (ws.flatMap (fun w => leBytes 4 (s.readWord w).toNat), ws.foldl (fun s w => s.wordSeen origin w) s)

/-- Write bytes to on-chip space: whole words, by the rules of a control-port write (R314). -/
def State.chipPut (s : State) (a : Nat) (bs : List Byte) : State :=
  (List.range (bs.length / 4)).foldl (fun s i =>
    let w := a + 4 * i
    if (s.addrDom w).any s.powered then s.windowWrite w 0xF#4 (BitVec.ofNat 32 (leNat ((bs.drop (4 * i)).take 4))) false else s) s

/-- Write a run of bytes on the port, in bursts within 4 KiB; with the last one's acceptance `k` steps are completed, with that of the
others `k0`. -/
def State.dmaWrite (s : State) (c port k0 k a : Nat) (bs : List Byte) : State :=
  let ps := burstParts (bs.length / 4096 + 2) a bs.length
  (List.range ps.length).foldl (fun s i =>
    let p := ps.getD i (0, 0)
    s.mpWrite port 4 p.1 ((bs.drop (p.1 - a)).take p.2) (.dma c (if i + 1 = ps.length then k else k0))) s

/-- Write bytes where DST lies: with the last of them `k` steps are completed. -/
def State.dmaPut (s : State) (c port : Nat) (on : Bool) (k a : Nat) (bs : List Byte) : State :=
  if on then (s.chipPut a bs).dmaDone c k else s.dmaWrite c port (s.dmaCh c).prog k a bs

/-- Byte `b` of the interleaved step of N planes of 64 bytes with samples of S bytes: its place in the planes laid end to end
(R311). -/
def interleaveAt (n sz b : Nat) : Nat := (b / sz % n) * 64 + (b / sz / n) * sz + b % sz

/-- Byte `b` of plane `p` of a step: its place in the interleaved step (R311). -/
def deinterleaveAt (n sz p b : Nat) : Nat := (b / sz * n + p) * sz + b % sz

/-- The 64 bytes of bit plane `b` of 512 samples (R312). -/
def bitPlane (src : List Byte) (b : Nat) : List Byte :=
  let samples := (List.range 512).map (fun i => leNat ((src.drop (2 * i)).take 2))
  (List.range 64).map (fun j => BitVec.ofNat 8 (bitmap 8 (fun i => bit (samples.getD (8 * j + i) 0) b)))

/-- The writes of a step of modes 4 to 6. -/
def DmaD.planeWrites (d : DmaD) (k : Nat) (bs : List Byte) : List (Nat × List Byte) :=
  match d.mode with
  | 4 => [(d.dst + 64 * d.p0 * k, (List.range (64 * d.p0)).map (fun b => bs.getD (interleaveAt d.p0 d.p1 b) 0))]
  | 5 => (List.range d.p0).map (fun p =>
      (d.dst + p * (d.len / d.p0) + 64 * k, (List.range 64).map (fun b => bs.getD (deinterleaveAt d.p0 d.p1 p b) 0)))
  | _ => (List.range d.p0).map (fun j => (d.dst + j * (d.len / 16) + 64 * k, bitPlane bs (d.p0 - 1 - j)))

/-! ## Bursts (R310 to R316) -/

/-- Bytes of data that a descriptor reads, or writes with nothing to read. -/
def DmaD.total (d : DmaD) : Nat := d.len

/-- Bytes of one step (R310): what is read, or written. -/
def DmaD.stepBytes (d : DmaD) : Nat :=
  match d.mode with
  | 2 | 3 => max 1 d.unit
  | 4 | 5 => 64 * max 1 d.p0
  | 6 => 1024
  | _ => 64

/-- Bytes from `a` to the end of its 4 KiB; an on-chip side does not bound a burst. -/
def burstRoom (on : Bool) (a : Nat) : Nat := if on then 4096 else 4096 - a % 4096

/-- The burst from position `pos` with the index entry `e` of its element: source, destination and bytes (R310 to R313, R316). -/
def DmaD.burst (d : DmaD) (pos e : Nat) : Nat × Nat × Nat :=
  match d.mode with
  | 1 => (0, d.dst + pos, min (d.len - pos) (burstRoom d.dstOn (d.dst + pos)))
  | 2 =>
    let src := d.src + e * d.unit + pos % d.unit
    (src, d.dst + pos, min (d.unit - pos % d.unit) (min (burstRoom false src) (burstRoom false (d.dst + pos))))
  | 3 =>
    let dst := d.dst + e * d.unit + pos % d.unit
    (d.src + pos, dst, min (d.unit - pos % d.unit) (min (burstRoom false (d.src + pos)) (burstRoom false dst)))
  | 4 =>
    let k := pos / d.stepBytes
    let p := pos % d.stepBytes / 64
    (d.src + p * (d.len / max 1 d.p0) + 64 * k, 0, 64)
  | 5 | 6 => (d.src + pos, 0, min (d.len - pos) (burstRoom false (d.src + pos)))
  | _ => (d.src + pos, d.dst + pos, min (d.len - pos) (min (burstRoom d.srcOn (d.src + pos)) (burstRoom d.dstOn (d.dst + pos))))

/-- Modes with an index table. -/
def DmaD.indexed (d : DmaD) : Bool := d.mode = 2 || d.mode = 3

/-- The descriptor that a channel runs. -/
def State.dmaDesc (s : State) (c : Nat) : DmaD := dmaOf ((s.dmaCh c).desc.getD (0, [])).2

/-- Port of a channel's descriptor (R299). -/
def State.dmaPort (s : State) (c : Nat) : Nat := ((s.dmaCh c).desc.getD (0, [])).1 % 2

/-- Is a step partly issued, or the table check not ended: what PAUSING still lets run (R318)? -/
def State.dmaMid (s : State) (c : Nat) : Bool :=
  let x := s.dmaCh c
  let d := s.dmaDesc c
  (d.indexed && !x.checked) || x.asked || x.el.isSome || decide (x.pos % d.stepBytes ≠ 0)

/-- Has a channel a burst to issue (R316, R318)? -/
def State.dmaReady (s : State) (c : Nat) : Bool :=
  let x := s.dmaCh c
  let d := s.dmaDesc c
  x.desc.isSome && x.fail.isNone && decide (s.dmaReads c < 8) && (x.st = .running || (x.st = .pausing && s.dmaMid c)) &&
  (if d.indexed && !x.checked then decide (x.tpos < 4 * d.icount)
   else decide (x.pos < d.total) && (!d.indexed || x.el.isSome || !x.asked))

/-- Ask for the next part of the index table, for its check (R313). -/
def State.tableBurst (s : State) (c : Nat) (d : DmaD) : State :=
  let p := (s.dmaCh c).tpos
  let n := min (4 * d.icount - p) (burstRoom false (d.idx + p))
  (s.dmaMap c (fun x => { x with tpos := p + n })).mpRead (s.dmaPort c) 4 3 (d.idx + p) ((n + 63) / 64) (.dmaTable c p)

/-- Ask for the index entry of the element at the channel's position: its line of the table is read again (R313). -/
def State.indexBurst (s : State) (c : Nat) (d : DmaD) : State :=
  let j := (s.dmaCh c).pos / d.stepBytes
  (s.dmaMap c (fun x => { x with asked := true })).mpRead (s.dmaPort c) 4 3 ((d.idx + 4 * j) / 64 * 64) 1 (.dmaIndex c j)

/-- Issue the burst at the channel's position (R310 to R314): a read on the port, or, with nothing to read from external memory, the
write itself. While PAUSING it ends with the step that is partly issued (R318). -/
def State.dataBurst (s : State) (c : Nat) (d : DmaD) : State :=
  let pos := (s.dmaCh c).pos
  let (src, dst, n) := d.burst pos ((s.dmaCh c).el.getD 0)
  let n := if (s.dmaCh c).st = .pausing then min n (d.stepBytes - pos % d.stepBytes) else n
  let port := s.dmaPort c
  let s := s.dmaMap c (fun x => { x with
    pos := pos + n
    el := if d.indexed ∧ (pos + n) % d.stepBytes = 0 then none else x.el
    asked := x.asked && !(d.indexed && decide ((pos + n) % d.stepBytes = 0)) })
  if d.mode = 1 then
    s.dmaPut c port d.dstOn ((pos + n) / 64) dst ((List.range n).map (fun b => BitVec.ofNat 8 (d.aux / 2 ^ (8 * (b % 8)))))
  else if d.srcOn then
    let (bs, s) := s.chipGet src n (if d.mode = 7 then 3 else 0)
    s.dmaPut c port d.dstOn ((pos + n) / 64) dst bs
  else s.mpRead port 4 3 src ((n + 63) / 64) (.dmaData c pos n dst)

/-- One burst of the descriptor that a channel runs. -/
def State.dmaBurst (s : State) (c : Nat) : State :=
  let d := s.dmaDesc c
  if !s.dmaReady c then s
  else if d.indexed ∧ !(s.dmaCh c).checked then s.tableBurst c d
  else if d.indexed ∧ (s.dmaCh c).el.isNone then s.indexBurst c d
  else s.dataBurst c d

/-! ## Returned reads (R313, R317) -/

/-- A read of a channel has come back with `RD_ERR`: the descriptor fails with MEM_ERR. -/
def State.dmaErr (s : State) (c : Nat) : State := (s.dmaRaise 9).dmaFail c 0x41 none

/-- A part of the index table has come back: every entry must lie in the indexed region (R313). -/
def State.tableGot (s : State) (c pos : Nat) (r : MpRead) : State :=
  let d := s.dmaDesc c
  if (s.dmaCh c).fail.isSome then s
  else if r.bad ≠ [] then s.dmaErr c
  else
    let j0 := pos / 4
    let n := min (r.data.length / 4) (d.icount - j0)
    match (List.range n).find? (fun i => decide (d.aux < (leNat ((r.data.drop (4 * i)).take 4) + 1) * d.unit)) with
    | some i => (s.dmaRaise 10).dmaFail c 0x63 (some ((j0 + i) * 2 ^ 32))
    | none => s.dmaMap c (fun x => { x with tgot := pos + 4 * n, checked := decide (4 * d.icount ≤ pos + 4 * n) })

/-- The index entry of element `j` has come back again; one that fails now ends the descriptor (R313). -/
def State.indexGot (s : State) (c j : Nat) (r : MpRead) : State :=
  let d := s.dmaDesc c
  let e := leNat ((r.data.drop ((d.idx + 4 * j) % 64)).take 4)
  if (s.dmaCh c).fail.isSome then s
  else if r.bad ≠ [] then s.dmaErr c
  else if d.aux < (e + 1) * d.unit then (s.dmaRaise 10).dmaFail c 0x63 none
  else s.dmaMap c (fun x => { x with el := some e })

/-- Write the steps of modes 4 to 6 whose bytes have all come back (R311, R312). -/
def State.stepsOut (s : State) (c : Nat) (d : DmaD) : Nat → State
  | 0 => s
  | n + 1 =>
    let x := s.dmaCh c
    if x.got.length < d.stepBytes then s
    else
      let ws := d.planeWrites x.out (x.got.take d.stepBytes)
      let s := s.dmaMap c (fun y => { y with got := y.got.drop d.stepBytes, out := y.out + 1 })
      let s := (List.range ws.length).foldl (fun s i =>
        let w := ws.getD i (0, [])
        s.dmaWrite c (s.dmaPort c) x.out (if i + 1 = ws.length then x.out + 1 else x.out) w.1 w.2) s
      s.stepsOut c d n

/-- Data of a channel have come back: what lies before a line with `RD_ERR` is written (R310 to R313, R317). -/
def State.dataGot (s : State) (c pos n dst : Nat) (r : MpRead) : State :=
  let d := s.dmaDesc c
  if (s.dmaCh c).fail.isSome then s
  else
    let good := match r.bad with
      | [] => n
      | b :: _ => min n (64 * b)
    let bs := r.data.take good
    let s := if d.mode < 4 then s.dmaPut c (s.dmaPort c) d.dstOn ((pos + good) / d.stepBytes) dst bs
      else (s.dmaMap c (fun x => { x with got := x.got ++ bs })).stepsOut c d 64
    if r.bad ≠ [] then s.dmaErr c else s

/-- A read of a DMA channel has ended. -/
def State.dmaGot (s : State) (r : MpRead) : State :=
  match r.use with
  | .dmaTable c pos => (s.tableGot c pos r).dmaSettle c
  | .dmaIndex c j => (s.indexGot c j r).dmaSettle c
  | .dmaData c pos n dst => (s.dataGot c pos n dst r).dmaSettle c
  | _ => s

/-! ## The modes -/

/-- A burst of a descriptor of one mode: the one that runs, or the one that an idle channel takes. -/
def State.dmaMode (s : State) (m c : Nat) : State :=
  match (s.dmaCh c).desc with
  | some (_, bs) => if dfield bs 0 1 = m ∧ s.powered 0 then s.dmaBurst c else s
  | none =>
    match s.dmaNext c with
    | some (_, bs) => if dfield bs 0 1 = m ∧ s.powered 0 then (s.dmaTake c).dmaBurst c else s
    | none => s

/-- COPY (R310): the next burst. -/
def execDmaCopy (ch : Fin 8) (s : State) : Out := .next (s.dmaMode 0 ch)

/-- FILL (R310): the next burst. -/
def execDmaFill (ch : Fin 8) (s : State) : Out := .next (s.dmaMode 1 ch)

/-- GATHER (R313): the next burst: of the table check, an index entry, or of an element. -/
def execDmaGather (ch : Fin 8) (s : State) : Out := .next (s.dmaMode 2 ch)

/-- SCATTER (R313): the next burst. -/
def execDmaScatter (ch : Fin 8) (s : State) : Out := .next (s.dmaMode 3 ch)

/-- INTERLEAVE (R311): the next burst. -/
def execDmaInterleave (ch : Fin 8) (s : State) : Out := .next (s.dmaMode 4 ch)

/-- DEINTERLEAVE (R311): the next burst. -/
def execDmaDeinterleave (ch : Fin 8) (s : State) : Out := .next (s.dmaMode 5 ch)

/-- BITSLICE (R312): the next burst. -/
def execDmaBitslice (ch : Fin 8) (s : State) : Out := .next (s.dmaMode 6 ch)

/-- DUMP (R314): the next burst. -/
def execDmaDump (ch : Fin 8) (s : State) : Out := .next (s.dmaMode 7 ch)

/-! ## Arbitration (R316) -/

/-- Bursts of a channel in its turn. -/
def State.dmaTurn (s : State) (c : Nat) : Nat → State
  | 0 => s
  | n + 1 => if s.dmaReady c then (s.dmaBurst c).dmaTurn c n else s

/-- Has requester `q` work: a channel with a burst or a descriptor to take, or RB (8)? -/
def State.dmaWork (s : State) (q : Nat) : Bool := if q = 8 then s.rbReady else s.dmaReady q || (s.dmaNext q).isSome

/-- DMA_BURST (R316): the next requester with work, in the order 0 to 7 and RB, has its turn: at most its weight of bursts. -/
def execDmaBurst (s : State) : Out :=
  match ((List.range 9).map (fun i => (s.rng.turn + 1 + i) % 9)).find? s.dmaWork with
  | none => .next s
  | some q =>
    let s := s.rngMap (fun g => { g with turn := q })
    if !s.powered 0 then .next s
    else if q = 8 then .next (s.rbTurn (max 1 (s.get R.DMA_CFG_RB_WEIGHT)))
    else
      let s := if s.dmaReady q then s else s.dmaTake q
      .next (s.dmaTurn q (max 1 (s.get (R.DMA_CH_CFG_WEIGHT q))))

/-! ## Pause, resume and abort (R318) -/

/-- Effect of a write of `DMA.CH_CMD[c]`: the highest bit wins (R321). -/
def dmaCmdWr (c : Nat) (data : Word) (s : State) : State :=
  let x := s.dmaCh c
  if bit data.toNat 2 then (if x.st = .paused then s.dmaEnd c 0x32 (s.dmaData c) else s)
  else if bit data.toNat 1 then
    (if x.st = .paused then s.dmaMap c (fun y => { y with st := if y.desc.isSome then .running else .idle }) else s)
  else if bit data.toNat 0 then
    (match x.st with
     | .running => s.dmaMap c (fun y => { y with st := .pausing })
     | .idle => (s.dmaMap c (fun y => { y with st := .paused })).dmaRaise c
     | _ => s)
  else s

/-- PAUSE (R318). -/
def execDmaPause (ch : Fin 8) (s : State) : Out := .next (s.cpWr (R.DMA_CH_CMD_PAUSE ch).addr 0xF#4 1 (dmaCmdWr ch 1))

/-- RESUME (R318). -/
def execDmaResume (ch : Fin 8) (s : State) : Out := .next (s.cpWr (R.DMA_CH_CMD_RESUME ch).addr 0xF#4 2 (dmaCmdWr ch 2))

/-- ABORT (R318). -/
def execDmaAbort (ch : Fin 8) (s : State) : Out := .next (s.cpWr (R.DMA_CH_CMD_ABORT ch).addr 0xF#4 4 (dmaCmdWr ch 4))

/-- PAUSED (R318): every step that a PAUSING channel has started is completed, its writes accepted; a table check has ended. -/
def execDmaPaused (ch : Fin 8) (s : State) : Out :=
  .next (if (s.dmaCh ch).st = .pausing ∧ !s.dmaOut ch ∧ !s.dmaMid ch then (s.dmaMap ch (fun x => { x with st := .paused })).dmaRaise ch else s)

end Sys2Proof.Machine
end

