-- ==== Sys2Proof/Machine/Gdt.lean ====
section
/-!
DEFINITION. The loads of the grown-defect table, read by requester RB on `MP0` (05_channel_operations.md R178, R179; 02_ports.md R485).
-/

namespace Sys2Proof.Machine

/-- Change the load of a channel. -/
def State.gdtMap (s : State) (n : Nat) (f : GdtS → GdtS) : State := s.chMap n (fun c => { c with gdt := f c.gdt })

/-- Effect of a write of `CH[n].GDT_CMD` (R179): the header of the table is asked for. -/
def gdtWr (n : Nat) (data : Word) (s : State) : State :=
  if bit data.toNat 0 ∧ !s.flag (R.CH_GDT_STAT_BUSY n) then
    ((s.set (R.CH_GDT_STAT_BUSY n) 1).gdtMap n (fun _ => {})).rbAdd
      (.gdt n (s.get (R.CH_GDT_HI_ADDR n) * 2 ^ 32 + s.get (R.CH_GDT_LO_ADDR n) * 64) 0 64)
  else s

/-- GDT_START (R179). -/
def execGdtStart (ch : Fin 48) (data : Word) (s : State) : Out := .next (s.cpWr (R.CH_GDT_CMD_START ch).addr 0xF#4 data (gdtWr ch data))

/-- A field of the table of a channel. -/
def State.gdtU (s : State) (n o : Nat) : Nat := leNat (((s.ch n).gdt.data.drop o).take 4)

/-- A part of the table has come back, from byte `pos`; after the header the entries are asked for (R178, R179). -/
def State.gdtGot (s : State) (n pos : Nat) (r : MpRead) : State :=
  let s := s.gdtMap n (fun g => { g with data := g.data ++ r.data, err := g.err || r.bad ≠ [] })
  if pos ≠ 0 then s
  else
    let k := s.gdtU n 4
    let more : Bool := r.bad = [] && s.gdtU n 0 = 0x54444745 && decide (k ≤ 65536) && decide (0 < k)
    let s := s.gdtMap n (fun g => { g with want := some (if more then 64 + 4 * k else 64) })
    if more then s.rbAdd (.gdt n r.addr 64 (64 + 4 * k)) else s

/-- GDT_DONE (R179): every part has come back: the checks in order, then the bits of the channel's entries. `SET` counts the bits
that the load sets, each once. -/
def execGdtDone (ch : Fin 48) (s : State) : Out :=
  let g := (s.ch ch).gdt
  if !s.flag (R.CH_GDT_STAT_BUSY ch) ∨ g.want.all (fun w => decide (g.data.length < w)) then .next s
  else
    let fin (s : State) (r k : Nat) : State :=
      ((((s.set (R.CH_GDT_STAT_BUSY ch) 0).set (R.CH_GDT_STAT_RESULT ch) r).set (R.CH_GDT_STAT_SET ch) k).gdtMap ch (fun _ => {})).chRaise ch 3
    let k := s.gdtU ch 4
    if g.err then .next (fin s 4 0)
    else if s.gdtU ch 0 ≠ 0x54444745 then .next (fin s 1 0)
    else if 65536 < k then .next (fin s 3 0)
    else if crc32 (g.data.take 12 ++ (g.data.drop 0x40).take (4 * k)) ≠ s.gdtU ch 12 then .next (fin s 2 0)
    else
      let es := (((List.range k).map (fun j => s.gdtU ch (0x40 + 4 * j))).filter (fun t => taCh t = ch.val)).map (fun t => t / 2048 * 2048)
      let es := es.eraseDups
      .next (fin (es.foldl (fun s t => s.blkMark t) s) 0 es.length)

end Sys2Proof.Machine
end

