-- ==== Sys2Proof/Machine/MemPort.lean ====
section
/-!
DEFINITION. The memory ports' answers: read beats and accepted writes (02_ports.md R51 to R55, R79; 10_rings_dma.md R303).
-/

namespace Sys2Proof.Machine

/-- A beat with `RD_ERR` = 1 counts at its port's source, and MP_ERR is raised (R55; 14 R429). -/
def State.mpErr (s : State) (port : Nat) : State := (s.raise .memi 0 10).count (memiSrc + 17 + port) 0

/-- A warm reset powers CORE down when its ports have finished their part: the accepted bursts, and the beats of every outstanding
tag (R79). -/
def State.portsDrained (s : State) : State :=
  if (s.dom 0).warm ∧ (s.dom 0).st = .poweringDown ∧ s.mp.reads = [] ∧ s.mp.writes = [] then s.domMap 0 (fun y => { y with req := false })
  else s

/-- A read has ended: its transfer goes on, or uses the data at a command of its own (R53). -/
def State.mpEnded (s : State) (r : MpRead) : State :=
  match r.use with
  | .entry k => s.ringGot k r.data r.bad
  | .dmaData .. => s.dmaGot r
  | .dmaTable .. => s.dmaGot r
  | .dmaIndex .. => s.dmaGot r
  | .gdt n pos => s.gdtGot n pos r
  | .rowTable h i => s.rowGot h i r
  | .stripeRead id num => s.recGot id num r
  | .none => s.portsDrained
  | _ => { s with mp := { s.mp with done := s.mp.done ++ [r] } }

/-- MEMORY_READ_RETURN (R53): the next beat of the read of a tag class that a port has issued first. A beat with `RD_ERR` is no data
(R55). With the last beat the read ends. -/
def execMemoryReadReturn (port : Fin 2) (cls : Fin 4) (data : Line) (last err : Bool) (s : State) : Out :=
  match s.mp.reads.find? (fun r => r.port = port.val ∧ r.cls = cls.val) with
  | none => .next s
  | some r =>
    if last ≠ decide (r.beat + 1 = r.lines) then .next s
    else
      let s : State := if err ∧ r.use ≠ .none then s.mpErr port else s
      let r' := { r with beat := r.beat + 1, data := r.data ++ (if err then List.replicate 64 0 else leBytes 64 data.toNat)
                         bad := if err then r.bad ++ [r.beat] else r.bad }
      if !last then .next { s with mp := { s.mp with reads := s.mp.reads.map (fun x => if x = r then r' else x) } }
      else
        let s : State := { s with mp := { s.mp with reads := s.mp.reads.erase r } }
        .next ((s.mpPump port).mpEnded r')

/-- Lines of a write. -/
def MpWrite.lines (w : MpWrite) : Nat := linesOfRun w.addr w.data.length

/-- Bytes of a write before its line `k`. -/
def MpWrite.before (w : MpWrite) (k : Nat) : Nat := min w.data.length (64 * k - w.addr % 64)

/-- Values of a spool block in its lines up to `k`: eight in each of the first 62 (08 R251, R252). -/
def spoolItems (k : Nat) : Nat := 8 * min k 62

/-- What follows the acceptance of the whole of a write (R303). -/
def State.mpWrote (s : State) (w : MpWrite) : State :=
  match w.use with
  | .mapLine l => s.mapMap (fun m => { m with wbs := m.wbs.eraseP (fun p => p.1 = l) })
  | .record cq sub => s.cqWrote cq sub
  | .dma c k => s.dmaDone c k
  | .none => s.portsDrained
  | _ => s

/-- MEMORY_WRITE_ACCEPTED (R51, R303): a port accepts up to `beats` + 1 further lines of the write it presents, and external memory holds
them; the head places of the items they carry are free (08 R251). With its last line the write is accepted, and the port grants its
next request. -/
def execMemoryWriteAccepted (port : Fin 2) (beats : Fin 64) (s : State) : Out :=
  match s.mp.writes.find? (fun w => w.port = port.val) with
  | none => .next s
  | some w =>
    let k := min w.lines (w.beat + beats.val + 1)
    let lo := w.before w.beat
    let hi := w.before k
    let s : State := { s with ext := tstore s.ext (w.addr + lo) ((w.data.drop lo).take (hi - lo)) }
    let s := match w.use with
      | .spool n _ => s.laneMap n (fun x => { x with spilling := x.spilling - (spoolItems k - spoolItems w.beat) })
      | _ => s
    if k < w.lines then .next { s with mp := { s.mp with writes := s.mp.writes.map (fun x => if x = w then { w with beat := k } else x) } }
    else .next ((({ s with mp := { s.mp with writes := s.mp.writes.erase w } } : State).mpPump port).mpWrote w)

end Sys2Proof.Machine
end

