-- ==== Sys2Proof/Machine/Rotor.lean ====
section
/-!
DEFINITION. The commands of the rotor drive but the link sample and the decision (11_rotor_drive.md R326 to R341, R345, R351,
R352, R355, R357).
-/

namespace Sys2Proof.Machine

/-! ## ROTOR.CMD -/

/-- Load `CMD_STAT.RESULT`: 0 OK, 1 STATE, 2 NOT_READY, 3 DISABLED (R327, R358). -/
def State.rotRes (s : State) (r : Nat) : State := s.set R.ROTOR_CMD_STAT_RESULT r

/-- A command of `ROTOR.CMD` that is valid where `ok` holds and then does `f` (R327). -/
def State.rotCmd (s : State) (ok : Bool) (f : State → State) : State :=
  if !s.flag R.ROTOR_CTRL_ENABLE then s.rotRes 3
  else if s.grave || !ok then s.rotRes 1
  else f (s.rotRes 0)

/-- The phase-advance table is read for the checks of R325: its errors are reported. -/
def State.advRead (s : State) : State := s.noteN 5 (tabWord 1 0) 32

/-- START (R326, R327): the direction of `SPD_CMD` comes into force. -/
def rotStart (s : State) : State :=
  s.rotCmd (s.rot.st = .off || s.rot.st = .coast) (fun s =>
    let s := s.advRead
    if s.rotNotReady then s.rotRes 2
    else
      let s := (s.rotMap (fun r => { r with rev := s.flag R.ROTOR_SPD_CMD_DIR })).regTarget
      let s := s.stepMap (fun t => { t with edges := 0, lastZc := none, tries := 0, sawGlint := false, against := false })
      if s.rot.st = .coast then s.goCatch else s.setRot .spinCheck)

/-- The target falls to 0, and a drive that is starting goes OFF (R327). -/
def State.stopNow (s : State) : State :=
  let s := s.rotMap (fun r => { r with target := 0 })
  match s.rot.st with
  | .spinCheck | .align | .ramp => s.goOff
  | _ => s

/-- STOP (R327). -/
def rotStop (s : State) : State :=
  s.rotCmd (match s.rot.st with | .spinCheck | .align | .ramp | .step | .flux => true | _ => false) State.stopNow

/-- COAST (R326): safe-off from any state but OFF and TRIPPED. -/
def rotCoast (s : State) : State :=
  s.rotCmd (!(s.rot.st = .off || s.rot.st = .tripped)) (fun s => s.safeOffCmd)

/-- RUN (R327): back to speed control. -/
def rotRun (s : State) : State :=
  s.rotCmd (s.rot.st = .holdup || (s.rot.st = .flux && s.rot.zeroTq)) (fun s =>
    ((s.rotMap (fun r => { r with zeroTq := false })).obsMap (fun o => { o with integ := 0 })).setRot .flux)

/-- Over-current (R352): all six gates off, TRIPPED, in every state. -/
def State.ocTrip (s : State) : State :=
  (((s.gatesOff.setRot .tripped).rotRaise 2).bump R.ROTOR_TRIP_CNT_OC).rotCount 0

/-- CLEAR (R327): leaves TRIPPED, and clears a chopper fault when the feedback agrees with `ROT_CHOP`. A `ROT_OC` that is still 1 trips
the drive again. -/
def rotClear (s : State) : State :=
  s.rotCmd (s.rot.st = .tripped) (fun s =>
    let s := s.setRot .off
    let s := if s.pins.chopFb = s.rot.chop then s.rotMap (fun r => { r with chopFlt := false, chopPend := false, zeroTq := false }) else s
    if s.pins.rotOc then s.ocTrip else s)

/-- A write of `ROTOR.CMD` (R327, R358): codes other than 1 to 5 do nothing. -/
def rotCmdWr (data : Word) (s : State) : State :=
  match data.toNat % 16 with
  | 1 => rotStart s | 2 => rotStop s | 3 => rotCoast s | 4 => rotRun s | 5 => rotClear s
  | _ => s

/-- START of `ROTOR.CMD` (R327). -/
def execRotorStart (s : State) : Out := .next (s.cpWr R.ROTOR_CMD_OP.addr 0xF#4 1 rotStart)

/-- STOP of `ROTOR.CMD` (R327). -/
def execRotorStop (s : State) : Out := .next (s.cpWr R.ROTOR_CMD_OP.addr 0xF#4 2 rotStop)

/-- COAST of `ROTOR.CMD` (R326, R327). -/
def execRotorCoast (s : State) : Out := .next (s.cpWr R.ROTOR_CMD_OP.addr 0xF#4 3 rotCoast)

/-- RUN of `ROTOR.CMD` (R327). -/
def execRotorRun (s : State) : Out := .next (s.cpWr R.ROTOR_CMD_OP.addr 0xF#4 4 rotRun)

/-- CLEAR of `ROTOR.CMD` (R327). -/
def execRotorClear (s : State) : Out := .next (s.cpWr R.ROTOR_CMD_OP.addr 0xF#4 5 rotClear)

/-- Effect of a write of `ROTOR.CTRL` (R325, R326, R358): ENABLE := 1 is refused with NOT_READY when the checks fail;
ENABLE := 0 gives safe-off. -/
def rotCtrlWr (data : Word) (s : State) : State :=
  let was := s.flag R.ROTOR_CTRL_ENABLE
  let s := ((s.set R.ROTOR_CTRL_FLUX_EN (b2n (data.getLsbD 8))).set R.ROTOR_CTRL_HOLDUP_EN (b2n (data.getLsbD 9))).set
    R.ROTOR_CTRL_OC_AUTO (b2n (data.getLsbD 10))
  if data.getLsbD 0 then
    (if was then s
     else
       let s := s.advRead
       if s.rotNotReady then s.rotRes 2 else (s.set R.ROTOR_CTRL_ENABLE 1).rotRes 0)
  else ((s.set R.ROTOR_CTRL_ENABLE 0).setChop false).safeOffCmd

/-- ROTOR_ENABLE: a write of `ROTOR.CTRL` (R326). -/
def execRotorEnable (data : Word) (s : State) : Out :=
  .next (s.cpWr R.ROTOR_CTRL_ENABLE.addr 0xF#4 data (rotCtrlWr data))

/-- A new direction at low speed: from STEP or FLUX it comes into force, the gates are turned off, and ALIGN begins, or COAST with
target 0 (R330, R334). In other states it waits for the next START. -/
def State.turnRound (s : State) : State :=
  match s.rot.st with
  | .step | .flux =>
    let s := s.rotMap (fun r => { r with
      rev := s.flag R.ROTOR_SPD_CMD_DIR, obs := { r.obs with speedN := -r.obs.speedN }, step := { r.step with speedN := -r.step.speedN } })
    if s.rot.target ≠ 0 then s.idleGates.goAlign 0 else s.goCoast
  | _ => s

/-- Effect of a write of `SPD_CMD` (R334). -/
def spdCmdWr (data : Word) (s : State) : State :=
  let dir := data.getLsbD 31
  let s := s.set R.ROTOR_SPD_CMD_SPEED (data.toNat % 2 ^ 24)
  if dir = s.flag R.ROTOR_SPD_CMD_DIR then s.regTarget
  else
    let busy := match s.rot.st with | .step | .flux | .holdup | .catch_ | .asc => true | _ => false
    if busy && decide (s.get R.ROTOR_REV_THRESH_SPEED < s.speedAbs) then (s.rotRaise 9).regTarget
    else
      ((s.set R.ROTOR_SPD_CMD_DIR (b2n dir)).regTarget).turnRound

/-- SPD_CMD_WRITE (R334). -/
def execSpdCmdWrite (data : Word) (s : State) : Out :=
  .next (s.cpWr R.ROTOR_SPD_CMD_SPEED.addr 0xF#4 data (spdCmdWr data))

/-! ## Over-current -/

/-- OC_TRIP (R352): a level of `ROT_OC`; at 1 all six gates off, TRIPPED, in every state. -/
def execOcTrip (level : Bool) (s : State) : Out :=
  let held : Bool := s.pins.rotOc && s.rot.st = .tripped
  let s := { s with pins := { s.pins with rotOc := level } }
  if !level ∨ held ∨ !s.gen.rotor ∨ s.cp.rst = .cold then .next s else .next s.ocTrip

/-- OC_HOLD_EXPIRE (R326): `ROT_OC` has read 0 for `OC_HOLD` µs; with `OC_AUTO` the drive goes to CATCH, or to the safe-off that the
Grave state or an ENABLE cleared while TRIPPED asks for (R328, R356). -/
def execOcHoldExpire (s : State) : Out :=
  .next (if !s.pins.rotOc ∧ s.rot.st = .tripped ∧ s.flag R.ROTOR_CTRL_OC_AUTO then
      (if s.grave ∨ s.rot.pendOff then s.safeOff else s.goCatch)
    else s)

/-! ## Speed command -/

/-- Average over the last 2^AVG periods of the measured edges, or over those there are: period sum, high-time sum, count (R332). -/
def State.cmdAvg (s : State) : Option (Nat × Nat × Nat) :=
  let n := min (2 ^ s.get R.ROTOR_CMD_SRC_AVG) (max 1 (s.rot.cmdRise.length - 1))
  match s.rot.cmdRise, s.rot.cmdRise[n]? with
  | t :: _, some t0 => if t0 < t then some (t - t0, (s.rot.cmdHigh.take n).sum, n) else none
  | _, _ => none

/-- ROT_CMD_EDGE (R332): LEVEL follows the level; FREQ and DUTY measure between rising edges; the other sources take nothing from it. -/
def execRotCmdEdge (level : Bool) (s : State) : Out :=
  let s := { s with pins := { s.pins with rotCmd := level } }
  let s :=
    if level then
      s.rotMap (fun r => { r with cmdRise := (s.cyc :: r.cmdRise).take 129, cmdHigh := (0 :: r.cmdHigh).take 129, cmdWait := r.cmdWait - 1 })
    else
      match s.rot.cmdRise, s.rot.cmdHigh with
      | t :: _, _ :: hs => s.rotMap (fun r => { r with cmdHigh := (s.cyc - t) :: hs })
      | _, _ => s
  let src := s.get R.ROTOR_CMD_SRC_SRC
  let k := s.get R.ROTOR_CMD_SCALE_SCALE
  if src = 2 ∨ src = 3 then
    (if !level || s.rot.cmdWait ≠ 0 then .next s
     else match s.cmdAvg with
       | none => .next s
       | some (p, _, n) =>
         let h := ((s.rot.cmdHigh.drop 1).take n).sum
         .next (s.rotMap (fun r => { r with target :=
           if src = 2 then s.gen.mhz * 1000000 * n * k / (1024 * p) else h * k / p })))
  else .next (if src = 1 then s.regTarget else s)

/-- ACMD_SAMPLE (R332, R67): ANALOG mode takes its target from the sample. -/
def execAcmdSample (value : BitVec 12) (s : State) : Out :=
  .next (if s.get R.ROTOR_CMD_SRC_SRC = 4 then
      s.rotMap (fun r => { r with target := (value.toNat - s.get R.ROTOR_ACMD_CAL_OFS) * s.get R.ROTOR_CMD_SCALE_SCALE / 4096 })
    else s)

/-- CMD_LOST (R332): in FREQ and DUTY the target becomes 0 until two further rising edges have arrived. -/
def execCmdLost (s : State) : Out :=
  let src := s.get R.ROTOR_CMD_SRC_SRC
  .next (if src = 2 ∨ src = 3 then
      ((s.rotMap (fun r => { r with target := 0, cmdRise := [], cmdHigh := [], cmdWait := 2 })).rotRaise 8).rotCount 6
    else s)

/-! ## Start-up and step mode -/

/-- SPIN_CHECK_END (R326). -/
def execSpinCheckEnd (s : State) : Out :=
  .next (if s.rot.st ≠ .spinCheck then s
    else if s.rot.step.edges < 2 ∧ s.rot.step.sawGlint = false then s.goAlign 0
    else if s.get R.ROTOR_REV_THRESH_SPEED < s.speedAbs then
      (if s.rot.step.against then
        (((s.set R.ROTOR_STATUS_LAST_FAIL 1).goOff).rotRaise 0).rotCount 5
       else s.goCatch)
    else s.goAlign 0)

/-- ALIGN_END (R340): RAMP begins at the sector after the alignment. -/
def execAlignEnd (s : State) : Out :=
  .next (if s.rot.st ≠ .align then s
    else
      let s := s.stepMap (fun t => { t with
        sector := s.nextSector, duty := s.get R.ROTOR_RAMP_T_DUTY, rampT0 := s.cyc, commAt := s.cyc, run := 0, inWin := false,
        lastZc := none, delay := none, onTime := true, onAt := s.cyc, since := s.cyc, cuts := [] })
      ((s.setRot .ramp).shuntStart s.td).askSector)

/-- Electrical frequency of the ramp, in 10^−3 Hz: linear from F0 to F1 over `RAMP_T.MS`, then F1 (R340). -/
def State.rampMilliHz (s : State) : Nat :=
  let f0 := s.get R.ROTOR_RAMP_F_F0
  let f1 := s.get R.ROTOR_RAMP_F_F1
  let t := s.cyc - s.rot.step.rampT0
  let tt := s.get R.ROTOR_RAMP_T_MS * s.gen.mhz * 1000
  if tt ≤ t then f1 * 1000 else ((f0 * 1000 : Int) + ((f1 : Int) - f0) * 1000 * t / tt).toNat

/-- OPEN_LOOP_COMMUTATION (R335, R340): the next sector of the ramp; a sector without a crossing in its window ends the run. -/
def execOpenLoopCommutation (s : State) : Out :=
  .next (if s.rot.st ≠ .ramp then s
    else
      let spd : Int := s.rampMilliHz * 1000000 / s.pp
      let s := (s.stepMap (fun t => { t.cut s.cyc with
        sector := s.nextSector, commAt := s.cyc, run := if t.inWin then t.run else 0, inWin := false, speedN := spd }))
      s.askSector)

/-- RAMP_END (R330, R340): the attempt has held F1 for 4 sectors without handover; with the gates off, or ASC where BEMF exceeds the
link, the drive waits and realigns, or ends with START_FAIL after `ZC.TRIES` attempts. -/
def execRampEnd (s : State) : Out :=
  .next (if s.rot.st ≠ .ramp then s
    else
      let s := s.stepMap (fun t => { t with tries := t.tries + 1 })
      if s.get R.ROTOR_ZC_TRIES ≤ s.rot.step.tries then
        (((s.set R.ROTOR_STATUS_LAST_FAIL 2).goOff).rotRaise 0).rotCount 5
      else s.goAlign (s.get R.ROTOR_ZC_SPIN_WIN))

/-- Phase advance in 10^−3 degrees at the electrical frequency `f` (10^−3 Hz), from table `ADV`; 29° at most (R338). -/
def State.advance (s : State) (f : Nat) : Nat :=
  let st := max 1 (s.get R.ROTOR_ADV_STEP_HZ) * 1000
  let a (i : Nat) : Int := if s.bad 5 (tabWord 1 i) then 0 else (s.peek 5 (tabWord 1 i)).toNat % 256
  let i := f / st
  let v : Int := if i < 31 then a i * 250 + (a (i + 1) - a i) * 250 * (f - i * st : Nat) / st else a 31 * 250
  min 29000 v.toNat

/-- TABLE_UE when a word the advance uses reads uncorrectable (R338). -/
def State.advNote (s : State) (f : Nat) : State :=
  let i := min 31 (f / (max 1 (s.get R.ROTOR_ADV_STEP_HZ) * 1000))
  let s1 := s.noteN 5 (tabWord 1 i) (if i < 31 then 2 else 1)
  if s.bad 5 (tabWord 1 i) || (i < 31 && s.bad 5 (tabWord 1 (i + 1))) then s1.rotRaise 13 else s1

/-- Index 0 to 5 of an edge in the forward order of crossings (R335). -/
def edgeIndex (phase : Nat) (level : Bool) : Nat :=
  if phase = 0 then (if level then 5 else 2) else if phase = 1 then (if level then 1 else 4) else (if level then 3 else 0)

/-- Speed of a sector time, 10^−9 rev/s (R337). -/
def State.tsSpeed (s : State) (ts : Nat) : Int := s.gen.mhz * 1000000 * 1000000000 / (6 * max 1 ts * s.pp)

/-- The first synchronised cyc of an edge that has now been held for `ZC.FILT` cyc (R336). -/
def State.zcFirst (s : State) : Nat := s.cyc - s.get R.ROTOR_ZC_FILT

/-- The date of that edge: less the depth of the synchroniser, 3 flip-flops (R336; 02 R72). -/
def State.zcDate (s : State) : Nat := s.zcFirst - 3

/-- The present sector time: of the ramp in RAMP, of the crossings in STEP (R337, R340). -/
def State.presentTs (s : State) : Nat :=
  if s.rot.st = .ramp then s.gen.mhz * 1000000000 / (6 * max 1 s.rampMilliHz) else s.rot.step.ts

/-- Does an edge first seen at `t` lie in the blanking interval that runs from each commutation of RAMP and STEP (R336)? -/
def State.blanked (s : State) (t : Nat) : Bool :=
  s.rot.st.stepping &&
    decide (t < s.rot.step.commAt + max (s.get R.ROTOR_BLANK_MIN) (s.get R.ROTOR_BLANK_DEG * s.presentTs / 60))

/-- A crossing counts: with the one before it, it gives the sector time and the speed (R336, R337). -/
def State.sectorTimed (s : State) : State :=
  (match s.rot.step.lastZc with
   | some t0 => s.stepMap (fun t => { t with ts := s.zcDate - t0, speedN := s.tsSpeed (s.zcDate - t0) })
   | none => s).stepMap (fun t => { t with lastZc := some s.zcDate, edges := t.edges + 1 })

/-- A crossing seen with the gates off, in SPIN_CHECK, CATCH or COAST: sector time, speed, direction and sector (R326, R335, R355). In
reverse the edge belongs to the sector whose forward crossing has the other polarity. -/
def State.freeCrossing (s : State) (phase : Nat) (level : Bool) : State :=
  let k := edgeIndex phase level
  let t := s.rot.step
  let back := decide (t.lastPhase = (k + 1) % 6)
  let bad : Bool := back ≠ s.rot.rev
  let rev := if t.lastZc.isSome then back else s.rot.rev
  let s := if t.lastZc.isSome then s.sectorTimed.stepMap (fun t => { t with against := bad, speedN := if bad then -t.speedN else t.speedN })
    else s.sectorTimed
  s.stepMap (fun t => { t with lastPhase := k, sector := if rev then (k + 3) % 6 else k })

/-- The commutation that follows a counted crossing in STEP (R326, R337): its delay, and whether it hands over to FLUX. -/
def State.stepGo (s : State) : State :=
  let f := s.rot.step.speedN.natAbs * s.pp / 1000000
  let s1 := s.advNote f
  let fast := s1.flag R.ROTOR_CTRL_FLUX_EN && decide (s1.get R.ROTOR_FLUX_SPD_ON * 1000 ≤ s1.speedAbs)
  s1.stepMap (fun t => { t with delay := some (t.ts * (30000 - s.advance f) / 60000), adv := s.advance f, toFlux := fast })

/-- Counted crossing in STEP (R336, R337): sector time, speed, and the commutation delay. -/
def State.stepCrossing (s : State) : State := s.sectorTimed.stepGo

/-- A crossing in a re-catch by crossings (R355): the first two give sector, Ts and direction. Above FLUX_OFF flux mode then begins at
zero torque and its decisions confirm; below, further crossings confirm that pass the one test of R354 that needs no observer. -/
def State.catchCrossing (s : State) (phase : Nat) (level : Bool) : State :=
  let prev := s.rot.step.speedN
  let timed := decide (2 ≤ s.rot.step.edges)
  let s := s.freeCrossing phase level
  if s.rot.step.edges < 2 then s
  else if s.rot.step.against then s.catchFail
  else if s.get R.ROTOR_FLUX_SPD_OFF * 1000 ≤ s.speedAbs then
    ((s.obsStart (s.midElec s.rot.step.sector) s.rot.step.speedN).rotMap (fun r => { r with rcOk := 0 })).catchRun
  else
    let ok := !s.accOver (s.rot.step.speedN - prev) s.rot.step.ts
    let s := s.rotMap (fun r => { r with rcOk := if timed then (if ok then r.rcOk + 1 else 0) else r.rcOk })
    if s.get R.ROTOR_RECATCH_CONFIRM ≤ s.rot.rcOk then
      ((s.obsStart (s.midElec s.rot.step.sector) s.rot.step.speedN).catchDone).stepGo
    else s

/-- ZERO_CROSSING (R326, R336, R337, R340, R355): a comparator has changed, and `counted` says that it has held its level for `ZC.FILT`
cyc up to now (log entry 94). The crossing counts outside the blanking interval. -/
def execZeroCrossing (phase : Fin 3) (level counted : Bool) (s : State) : Out :=
  let zc := s.pins.rotZc
  let m : BitVec 3 := 1#3 <<< phase.val
  let s := { s with pins := { s.pins with rotZc := if level then zc ||| m else zc &&& ~~~m } }
  let (_, _, fl, up) := sectorOf s.rot.step.sector
  let expected : Bool := phase.val = fl && level = (up ≠ s.rot.rev)
  if !counted ∨ s.cp.rst = .cold ∨ s.blanked s.zcFirst then .next s
  else match s.rot.st with
  | .spinCheck | .coast => .next (s.freeCrossing phase level)
  | .catch_ =>
    .next (if s.rot.rcGlint || s.rot.rcFailed then s else s.catchCrossing phase level)
  | .ramp =>
    if !expected then .next s
    else
      let dt := s.zcDate - s.rot.step.commAt
      -- electrical angle since the commutation, 10^−3 degrees
      let a := 360 * s.rampMilliHz * dt / (s.gen.mhz * 1000000)
      let good := decide (10000 ≤ a) && decide (a ≤ 50000)
      let spd := s.rot.step.speedN
      let s := s.sectorTimed.stepMap (fun t => { t with inWin := t.inWin || good, run := if good ∧ !t.inWin then t.run + 1 else t.run })
      if good ∧ s.get R.ROTOR_ZC_HANDOVER ≤ s.rot.step.run then
        .next (((s.setRot .step).rotMap (fun r => { r with refN := r.step.speedN.toNat })).stepGo)
      else .next (s.stepMap (fun t => { t with speedN := spd }))
  | .step => if expected then .next s.stepCrossing else .next s
  | _ => .next s

/-- COMMUTATE (R326, R335, R337, R341): the delay after a crossing expires; the next sector, or FLUX. -/
def execCommutate (s : State) : Out :=
  .next (if s.rot.st ≠ .step ∨ s.rot.step.delay.isNone then s
    else
      let s := s.stepMap (fun t => { t.cut s.cyc with sector := s.nextSector, commAt := s.cyc, delay := none, inWin := false })
      if s.rot.step.toFlux then
        let s := s.obsStart (s.entryElec s.rot.step.sector s.rot.step.adv) s.rot.step.speedN
        let s := (s.stepMap (fun t => { t with toFlux := false })).setRot .flux
        (s.shuntStart 0).runVec
      else s.askSector)

/-- Duty of the step speed loop, 0 to 65,535 (R339), with its integrator moved over one PWM period. -/
def State.stepDuty (s : State) : State :=
  let e : Int := (s.rot.refN : Int) / 1000000 - s.speed
  let i := s.rot.step.integ + e * s.get R.ROTOR_STEP_PWM_PERIOD
  let d := clampI 0 65535 ((s.get R.ROTOR_STEP_PI_KP) * e / 1000 + (s.get R.ROTOR_STEP_PI_KI) * i / (1000 * s.gen.mhz * 1000000))
  s.stepMap (fun t => { t with integ := i, duty := d.toNat })

/-- PWM_PERIOD (R339): a new on-time of the high leg. -/
def execPwmPeriod (s : State) : Out :=
  .next (match s.rot.st with
    | .step =>
      let s := s.stepDuty
      (s.stepMap (fun t => t.turnOn s.cyc)).askSector
    | .align | .ramp => (s.stepMap (fun t => t.turnOn s.cyc)).askSector
    | _ => s)

/-- The on-time of the high leg ends with its share of the PWM period (R339). -/
def State.pwmTick (s : State) : State :=
  match s.rot.st with
  | .step | .align | .ramp =>
    let t := s.rot.step
    if t.onTime ∧ t.onAt + t.duty * s.get R.ROTOR_STEP_PWM_PERIOD / 65536 ≤ s.cyc then
      (s.stepMap (fun t => t.turnOff s.cyc)).askSector
    else s
  | _ => s

/-- A shunt sample joins those of the period (R345). -/
def State.keepSample (s : State) (i : Int) (t : Nat) : State :=
  s.rotMap (fun r => { r with shunt := { r.shunt with samples := r.shunt.samples ++ [(i, t)] } })

/-- Does a sample dated `t` in STEP or RAMP show the current of the high leg (log entry 95)? It lies in the on-time, past dead time and
settling. -/
def State.stepSampled (s : State) (t : Nat) : Bool :=
  s.rot.st.stepping && (s.rot.step.onTime || decide (t < s.rot.step.offAt)) &&
    decide (max s.rot.step.onAt s.rot.step.commAt + s.deadtime + s.get R.ROTOR_PROBE_SETTLE ≤ t)

/-- ISH_SAMPLE (R67, R322, R339, R345): a shunt sample, dated at its strobe less the converter latency. -/
def execIshSample (value : BitVec 12) (s : State) : Out :=
  let i : Int := ((value.toNat : Int) - s.get R.ROTOR_ISH_CAL_OFS) * s.get R.ROTOR_ISH_CAL_GAIN / 4096
  let t := s.cyc - s.get R.ROTOR_ADC_LAT_CYC
  .next (match s.rot.st with
    | .step | .align | .ramp =>
      let u := if s.stepSampled t then s.keepSample i t else s
      if s.rot.step.onTime ∧ s.rot.step.onAt ≤ t ∧ (s.get R.ROTOR_I_LIM_I : Int) < i then
        (u.stepMap (fun t => t.turnOff s.cyc)).askSector
      else u
    | .flux | .holdup | .catch_ => s.keepSample i t
    | _ => s)

/-! ## Chopper, re-catch, exits -/

/-- Is a chopper fault there (R351)? `ROT_CHOP` has been 1 for `CHOP_T.T` µs and the link is not below its value at the rise, or the
feedback has differed for more than `CHOP_T.FB_T` cyc since the later of the last changes. -/
def State.chopBad (s : State) : Bool :=
  (s.rot.chop && decide (s.rot.chopAt + s.get R.ROTOR_CHOP_T_T * s.gen.mhz ≤ s.cyc) && decide (s.rot.chopV0 ≤ s.rot.vdc)) ||
  (s.pins.chopFb != s.rot.chop && decide (max s.rot.fbAt s.rot.chopAt + s.get R.ROTOR_CHOP_T_FB_T < s.cyc))

/-- A synchronised level of `ROT_CHOP_FB`; a change is dated (R351). -/
def State.chopLevel (s : State) (fb : Bool) : State :=
  if s.pins.chopFb = fb then s
  else { s with pins := { s.pins with chopFb := fb }, rot := { s.rot with fbAt := s.cyc } }

/-- CHOP_FAULT (R351, R356): a level of `ROT_CHOP_FB`; `fault` says that one of the times of R351 has run out. A fault that the state
shows latches, drives `ROT_CHOP` to 0, and stops returning energy unless a higher cause holds the gates. -/
def execChopFault (fb fault : Bool) (s : State) : Out :=
  let s := s.chopLevel fb
  if !fault ∨ !s.chopBad ∨ s.rot.chopFlt ∨ !s.gen.rotor ∨ s.cp.rst = .cold then .next s
  else
  let s := (s.rotMap (fun r => { r with chopFlt := true })).setChop false
  let s := ((s.rotRaise 3).bump R.ROTOR_TRIP_CNT_CHOP).rotCount 1
  .next (if s.rot.ovHard ∨ s.grave then s
    else if s.rot.st = .tripped then s.rotMap (fun r => { r with chopPend := true })
    else s.chopStop)

/-- RECATCH_TIMEOUT (R355): the attempt fails, and the next one begins unless it was the third. -/
def execRecatchTimeout (s : State) : Out :=
  .next (if s.rot.st ≠ .catch_ then s
    else
      let s := if s.rot.rcFailed then s else s.catchFail
      if s.rot.st = .catch_ then s.catchStart else s)

/-- ASC_EXIT (R329): by the glint speed where glints are accepted, else after `ASC_CFG.HOLD`. -/
def execAscExit (s : State) : Out :=
  .next (if s.rot.st ≠ .asc then s
    else if s.glintOk then
      (if s.glintSpeed < s.get R.ROTOR_ASC_MIN_SPEED ∧ !s.bemfHigh then (s.setRot .coast).gatesOff else s)
    else (s.setRot .coast).gatesOff)

/-- COAST_TIMEOUT (R326). -/
def execCoastTimeout (s : State) : Out := .next (if s.rot.st = .coast then s.setRot .off else s)

/-- UNDERVOLT (R357): outside HOLDUP the drive goes to safe-off. -/
def execUndervolt (s : State) : Out :=
  .next (if s.rot.st = .holdup ∨ s.get R.ROTOR_UV_LIM ≤ s.rot.vdc then s
    else (((s.set R.ROTOR_STATUS_LAST_FAIL 4).safeOffCmd).rotRaise 12).rotCount 7)

end Sys2Proof.Machine
end

