-- ==== Sys2Proof/Machine/Port.lean ====
section
/-!
DEFINITION. Control-port writes by address: every register with an effect of its own has the effect of its command; every
other one stores, sets or clears its bits (00_scope.md R14 to R17, R19; 02_ports.md R46 to R50; 17_bringup_registers.md R480, R482);
the end of a held store write (04_sequencers.md R142, R143).
-/

namespace Sys2Proof.Machine

/-- A write of `CH[n].TRIM0` to `TRIM2` (03 R110): trims of the selected target and direction; REF is read only. -/
def trimWr (n o : Nat) (be : BitVec 4) (data : Word) (s : State) : State :=
  let put (l : List Nat) : List Nat := (List.range 4).foldl (fun l i =>
    let lane := o - 0x124 + i
    if be.getLsbD i ∧ lane ≤ 8 then l.set lane (bits data.toNat (8 * i) 7) else l) l
  let ce := s.get (R.CH_EYE_SEL_CE n)
  let wr := s.flag (R.CH_EYE_SEL_DIR n)
  (s.phyMap n (fun p => { p with targets := tmod (fun _ => {}) p.targets ce (fun t =>
    if wr then { t with wrTrim := put t.wrTrim } else { t with rdTrim := put t.rdTrim }) })).trimWrote n ce

/-- Does the register word at offset `o` of the `ROTOR` page take writes while the drive is not OFF (11, "ROTOR registers")? -/
def rotorOpen (o : Nat) : Bool := o ∈ [0x54, 0x58, 0x84, 0xB4, 0xF4, 0xFC, 0x114, 0x118]

/-- A write of a word of `ROTOR` that has no row of its own. -/
def rotorWr (a : Nat) (be : BitVec 4) (data : Word) (s : State) : State :=
  let o := a % 0x1000
  if o = 0x4C then (s.regMerge a be data).regTarget
  else if o < 0x40 ∨ rotorOpen o ∨ s.rot.st = .off then s.regMerge a be data
  else s

/-- A write of `ANGLE.GEOM`: FACETS is written only while ENABLE = 0 (12, "ANGLE registers"). -/
def geomWr (a : Nat) (be : BitVec 4) (data : Word) (s : State) : State :=
  let n := s.get R.ANGLE_GEOM_FACETS
  let t := s.regMerge a be data
  if s.flag R.ANGLE_CTRL_ENABLE then t.set R.ANGLE_GEOM_FACETS n else t

/-- Effect of a write of `CAL.CTRL` (12 R371, R372): where the calendar begins to walk, the current slot's word is read. -/
def calCtrlWr (a : Nat) (be : BitVec 4) (data : Word) (s : State) : State :=
  let t := s.regMerge a be data
  if s.calOn then t else t.slotRead

/-- A write of `FAULT.SRC_CFG[s]` (15 R431, R437): ignored for OV_HARD, and for absent and reserved sources. -/
def srcCfgWr (n a : Nat) (be : BitVec 4) (data : Word) (s : State) : State :=
  if n = 8 ∨ !s.srcPresent n then s else s.regMerge a be data

/-- A write of `CH[n].LANE_MAP`: a change goes to the standby with the trims (16 R468). -/
def laneMapWr (n a : Nat) (be : BitVec 4) (data : Word) (s : State) : State :=
  s.laneMapBy n (fun s => s.regMerge a be data)

/-- Write of a word of the pages in AON and of the data-path units: offset `o` at address `a`; `d` is the data of the enabled bytes,
`w` the word after the merge. -/
def pageWr (p : Page) (n o a : Nat) (be : BitVec 4) (data d w : Word) (s : State) : State :=
  match p with
  | .sys | .memi =>
    if p = .sys then s.regMerge a be data
    else (match o with
      | 0x48 => remapClrWr d s | 0x58 => memiTestWr be data s | 0x64 => injectWr be data s
      | _ => s.regMerge a be data)
  | .pwr => (match o with
      | 0x8 => (s.regMerge a be data).pfCheck
      | 0x40 => domCmdWr d s | 0x60 => pfCmdWr d s | 0x78 => ledgCfgWr be data s | 0x7C => ledgCmdWr d s
      | _ => s.regMerge a be data)
  | .fault =>
    if 0x400 ≤ o ∧ o < 0xC00 then
      (if o % 8 = 4 then srcAckWr ((o - 0x400) / 8) d s else srcCfgWr ((o - 0x400) / 8) a be data s)
    else (match o with
      | 0x44 => firstWr d s | 0x64 => fwRaiseWr d s
      | _ => s.regMerge a be data)
  | .dma => if 0x100 ≤ o ∧ o < 0x200 ∧ o % 0x20 = 4 then dmaCmdWr ((o - 0x100) / 0x20) d s else s.regMerge a be data
  | .ring => (match o with
      | 0x40 => ringCmdWr d s | 0x48 => doorbellWr d s
      | _ => s.regMerge a be data)
  | .strm => if o = 0x40 then strmCmdWr d s else s.regMerge a be data
  | .hoop => (match o with
      | 0x40 => hoopCmdWr d s | 0x48 => trigWr 0 d s | 0x4C => trigWr 1 d s
      | _ => s.regMerge a be data)
  | .map => (match o with
      | 0x40 => mapBaseWr 0 be data s | 0x44 => mapBaseWr 1 be data s | 0x48 => mapBaseWr 2 be data s
      | 0x4C => mapCmdWr d s | 0x54 => lookupWr d s | 0x60 => setAddrWr d s
      | _ => s.regMerge a be data)
  | .spool =>
    if 0x100 ≤ o ∧ o < 0x280 ∧ o % 0x20 < 0xC then midBaseWr ((o - 0x100) / 0x20) (o % 0x20 / 4) be data s else s.regMerge a be data
  | .lace =>
    if 0x40 ≤ o ∧ o < 0xC0 then profWr ((o - 0x40) / 16) (o % 16 / 4) be data s
    else if o = 0xD4 then laceCloseWr d s
    else s.regMerge a be data
  | .dec => if o = 0x100 then almWr d s else s.regMerge a be data
  | .angle => (match o with
      | 0x8 => angCtrlWr w s | 0x40 => vstepWr w s | 0x44 => geomWr a be data s
      | _ => s.regMerge a be data)
  | .rotor => (match o with
      | 0x8 => rotCtrlWr w s | 0x40 => rotCmdWr d s | 0x48 => spdCmdWr w s
      | _ => rotorWr a be data s)
  | .xlink => if o = 0x8 then xlCtrlWr be data s else s.regMerge a be data
  | .refl => (match o with
      | 0x8 => rfCtrlWr be data s | 0x48 => claimWr 0 be data s | 0x4C => claimWr 1 be data s | 0x68 => reflCmdWr d s
      | _ => s.regMerge a be data)
  | .cal => (match o with
      | 0x8 => calCtrlWr a be data s
      | 0x50 => calPhaseWr w s
      | _ => s.regMerge a be data)
  | .lane => (match o with
      | 0x8 => laneCtrlWr n be data s | 0x44 => laneCmdWr n d s
      | _ => s.regMerge a be data)
  | .ch =>
    if 0x124 ≤ o ∧ o < 0x130 then trimWr n o be data s
    else (match o with
      | 0x8 => chCtrlWr n be data s | 0x70 => bbMarkWr n d s | 0x88 => gdtWr n d s | 0x104 => phyCmdWr n d s
      | 0x10C => laneMapWr n a be data s
      | _ => s.regMerge a be data)
  | .seqg => (match o with
      | 0x8 => seqgCtrlWr n be data s | 0x40 => verifyWr n d s | 0x58 => breakWr n d s
      | _ => s.regMerge a be data)

/-- Effect of a control-port write of a register word at the word address `a` (R14, R19; 17 R478). -/
def regWr (a : Nat) (be : BitVec 4) (data : Word) (s : State) : State :=
  let d := data &&& beMask be
  match pageOfIndex (a / 0x1000) with
  | none => s
  | some (p, n) =>
    let o := a % 0x1000
    if o = 0x18 then s.wr (a - 8) (s.rd (a - 8) &&& ~~~d)
    else if o = 0x1C then evtForceWr a d s
    else if be = 0 then s
    else pageWr p n o a be data d (mergeBe (s.rd a) data be) s

/-- Effect of a control-port write at the word address `a` of a powered domain. -/
def cpEffect (a : Nat) (be : BitVec 4) (data : Word) (s : State) : State :=
  if 0x80000 ≤ a then windowWr a be data s
  else if a = R.CAL_DATA_EVEN.addr then
    (if be = 0xF#4 then calDataWr data s
     else
       let e := s.get R.CAL_ADDR_ENTRY / 2 * 2
       (if be = 0 then s else s.cpSram 5 (calWord e) be data).set R.CAL_ADDR_ENTRY (e + 2))
  else match s.sramAt a with
    | some (r, w) =>
      if (0x3C00 ≤ a ∧ a < 0x4000) ∨ (0xE200 ≤ a ∧ a < 0xE280 ∧ s.rot.st ≠ .off) ∨ be = 0 then s
      else (s.cpSram r w be (if 0xE200 ≤ a ∧ a < 0xE280 then data &&& 0xFF else data)).shadowAgain w be
    | none => regWr a be data s

/-- Perform the request that the port holds, once it is ready (R50). -/
def State.cpPump (s : State) : State :=
  match s.cp.held with
  | none => s
  | some q =>
    if !s.cpReady then s
    else
      let s : State := { s with cp := { s.cp with held := none } }
      let a := q.addr.toNat / 4 * 4
      if q.we then s.cpWr a q.be q.data (cpEffect a q.be q.data) else s.cpRead a

/-- REGISTER_WRITE (R14): a control-port write at any address of the control window. -/
def execRegisterWrite (addr : BitVec 24) (be : BitVec 4) (data : Word) (s : State) : Out :=
  let a := addr.toNat / 4 * 4
  .next (s.cpWr a be data (cpEffect a be data))

/-- OFF_ACCESS (R48): an access to a powered-down domain; while the port is not ready it is held (R50). -/
def execOffAccess (addr : BitVec 24) (we : Bool) (be : BitVec 4) (data : Word) (s : State) : Out :=
  if !s.cpReady then .next { s with cp := { s.cp with held := some ⟨we, addr, be, data⟩ } }
  else match s.addrDom addr.toNat with
    | none => .next s
    | some d =>
      if s.powered d then .next s
      else
        let s := s.offAccess addr.toNat
        .next (if we then s else { s with cp := { s.cp with rdata := 0 } })

/-- STORE_HOLD_END (04 R142, R143): the held write completes, and the port takes the next request. -/
def execStoreHoldEnd (s : State) : Out := .next s.holdEnd.cpPump

/-- HOLD_DROP (04 R143): the held write is dropped, and the port takes the next request. -/
def execHoldDrop (s : State) : Out := .next s.holdDrop.cpPump

end Sys2Proof.Machine
end

