-- ==== Sys2Proof/Machine/Resets.lean ====
section
/-!
DEFINITION. The resets: assertion and release of `PORST_N` and `WRST_N`, readiness of the control port, and the end of the hold of
`FLn_WP_N` (00_scope.md R21 to R24; 02_ports.md R49, R50, R75 to R80, R84; 11_rotor_drive.md R328; 15_faults.md R443, R445;
17_bringup_registers.md R477).
-/

namespace Sys2Proof.Machine

/-- `PD_ACK` levels, with every domain OFF. -/
def acksOnly (t : Tab DomS) : Tab DomS :=
  (t.map (fun p => (p.1, ({ ack := p.2.ack } : DomS)))).filter (fun p => p.2 ≠ {})

/-- Levels of `LNn_LINKUP`, with every lane reset. -/
def linksOnly (t : Tab LaneS) : Tab LaneS :=
  (t.map (fun p => (p.1, ({ linkup := p.2.linkup } : LaneS)))).filter (fun p => p.2 ≠ {})

/-- A latch of the straps: XL_IDX and RF_PRIMARY are the reset values of their fields (16 R450, R466). -/
def strapAddr (a : Nat) : Bool :=
  a = R.XLINK_CFG_INDEX.addr || a = R.REFL_CFG_PRIMARY.addr || a = R.REFL_CLAIM_LO_CH.addr || a = R.REFL_CLAIM_HI_CH.addr

/-- Domains that have not been OFF lose their SRAM (01 R27). -/
def State.sramReset (s : State) : State := (List.range 13).foldl (fun s d => if (s.dom d).st = .off then s else s.sramLose d) s

/-- COLD_RESET (R21, R80): `PORST_N` falls. Every register and unit takes its reset value, the Grave state and the repair records
clear, every domain is without power; SRAM in AON and external memory keep what they hold (R24). -/
def execColdReset (s : State) : Out :=
  let t := s.sramReset.dropRepaired
  let r : State := { State.reset with
    pending := s.pending, free := s.free, gen := s.gen, ext := s.ext, sram := t.sram, epochs := t.epochs
    pins := { s.pins with pulse := 0, trigAt := none }
    cp := { rst := .cold, held := s.cp.held, idLot := s.cp.idLot, idDie := s.cp.idDie, xlIdx := s.cp.xlIdx, rfPrimary := s.cp.rfPrimary }
    pwr := { doms := acksOnly s.pwr.doms }, lanes := linksOnly s.lanes }
  .next (r.strapRegs (fun _ => true))

/-- Does a channel hold `FLn_WP_N` when a warm reset falls (R79): its slice has power, or an earlier warm reset holds it still? -/
def State.slicePowered (s : State) (n : Nat) : Bool := decide (n < s.gen.nch) && s.powered (chDom n) || (s.ch n).wpHeld

/-- A channel after a warm reset: its unit lost its state; a powered slice keeps `FLn_WP_N`, and its ownership, until its dies are
ready (R79). -/
def State.chanWarm (s : State) (n : Nat) : State :=
  let hold := s.slicePowered n
  let c := s.ch n
  let s := s.chanLose n
  s.chMap n (fun x => { x with wait := [], ledg := {}, wp := hold && c.wp, wpHeld := hold, own := if hold then c.own else {} })

/-- A domain at a warm reset (R79): it is isolated and held in reset; its power request falls, once the slices of a CHAN group
or the memory ports of CORE have ended their part. -/
def State.domWarm (s : State) (d : Nat) : State :=
  let x := s.dom d
  if x.st = .off then s
  else
    let hold := (domChans d).any (fun n => (s.ch n).wpHeld) || (d = 0 && (s.mp.reads ≠ [] || s.mp.writes ≠ []))
    s.domMap d (fun y => { y with st := .poweringDown, req := y.req && hold, init := false, warm := true, wantUp := false })

/-- The drive after a warm reset (11 R328): ASC or COAST by its speed estimate `v` at the assertion, against the reset value of
`ASC_MIN` (02 R84); gates that OV.HARD turned off stay off until cold reset. Every other field, the estimate among them, takes its
reset value (00 R22). -/
def State.rotWarm (s : State) (v : Int) : State :=
  if !s.gen.rotor then s
  else ((s.rotMap (fun r => { gates := r.gates, ovHard := r.ovHard, step := { speedN := v } })).safeOff).rotMap (fun r =>
    { gates := r.gates, ovHard := r.ovHard, st := r.st })

/-- The fault collector after a warm reset: source states and totals stay (R22); windows close, and events not yet logged are lost. -/
def FltS.warm (f : FltS) : FltS :=
  { srcs := (f.srcs.map (fun p => (p.1, ({ state := p.2.state, total := p.2.total } : SrcS)))).filter (fun p => p.2 ≠ {}) }

/-- The memory ports after a warm reset (R79): no new command; the bursts whose command
a port has granted (log entry 78) are finished, and the beats of
every outstanding read are discarded. -/
def MpS.warm (m : MpS) : MpS :=
  { reads := m.reads.map (fun r => { r with use := .none }), nseq := m.nseq, writes := m.writes.map (fun w => { w with use := .none }) }

/-- WARM_RESET (R79): `WRST_N` falls. With `PORST_N` low the reset is a cold one (R23). -/
def execWarmReset (s : State) : Out :=
  if s.cp.rst = .cold then .next s
  else
    let time := s.cyc
    let v := s.estN
    let s : State := { s with
      cp := { s.cp with rst := .warm, wasCold := false, ready := false, hold := none, rdata := 0, fout := s.faultOut }
      mp := s.mp.warm, pins := { s.pins with pulse := 0, trigAt := none }, flt := s.flt.warm, ang := {} }
    let s := (List.range 48).foldl State.chanWarm s
    let s := s.sramReset
    let s := (List.range 13).foldl State.domWarm s
    let s := (List.range 12).foldl State.laneLose { s with grps := [] }
    let s : State := { s.coreLose with mp := s.mp }
    let s := (s.regsReset (fun _ => true)).rotWarm v
    let s := s.wr (pageBase .rotor 0 + 0x10) 0
    let s := (s.set R.SYS_STATUS_WARM 1).bump R.FAULT_RST_CNT_CNT
    let s : State := { s with
      pwr := { doms := s.pwr.doms }, memi := { fuse := s.memi.fuse }, cyc := 0 }
    .next (s.logWrite ⟨time, 0, 7, false, 0, BitVec.ofNat 32 (s.get R.FAULT_RST_CNT_CNT)⟩)

/-- WP_HOLD_END (R79): the dies of a slice have been ready for 1 µs, or 20 ms have passed. `FLn_WP_N` falls, or the channel is
released; with the last slice of a group its power request falls. -/
def execWpHoldEnd (ch : Fin 48) (s : State) : Out :=
  if !(s.ch ch).wpHeld then .next s
  else
    let s := s.chMap ch (fun c => { c with wp := false, wpHeld := false, own := {} })
    let d := chDom ch
    .next (if (s.dom d).warm ∧ (s.dom d).st = .poweringDown ∧ (domChans d).all (fun n => !(s.ch n).wpHeld) then
        s.domMap d (fun y => { y with req := false }) else s)

/-- RESET_RELEASE (R75, R77; 17 R477): the asserted input rises. The core-cycle counter starts; after a cold reset the identity
inputs and the straps are latched. -/
def execResetRelease (lot : BitVec 32) (die : BitVec 24) (xlIdx : BitVec 2) (rfPrimary : Bool) (s : State) : Out :=
  match s.cp.rst with
  | .none => .next s
  | .warm => .next { s with cp := { s.cp with rst := .none }, cyc := 0 }
  | .cold =>
    let s : State := { s with
      cp := { s.cp with rst := .none, idLot := lot, idDie := die, xlIdx := xlIdx, rfPrimary := rfPrimary }, cyc := 0 }
    .next (s.regsReset strapAddr)

/-- PORT_READY (R50, R78): the fuse stream has ended, and the port is ready; a request that is held is sampled. -/
def execPortReady (s : State) : Out :=
  if s.cp.rst ≠ .none ∨ s.cp.fuseOpen ∨ s.cp.ready then .next s
  else .next ({ s with cp := { s.cp with ready := true } } : State).cpPump

end Sys2Proof.Machine
end

