-- ==== Sys2Proof/Machine/Dispatch.lean ====
section
/-!
DEFINITION. Which meaning each command has: one arm per constructor of `Instr`.
-/

namespace Sys2Proof.Machine

def exec (i : Instr) (s : State) : Host.Outcome State Fault Refusal :=
  match i with
  | .coldReset => Sys2Proof.Machine.execColdReset s
  | .warmReset => Sys2Proof.Machine.execWarmReset s
  | .fuseRecord record last => Sys2Proof.Machine.execFuseRecord record last s
  | .fuseTimeout => Sys2Proof.Machine.execFuseTimeout s
  | .portReady => Sys2Proof.Machine.execPortReady s
  | .registerWrite addr be data => Sys2Proof.Machine.execRegisterWrite addr be data s
  | .offAccess addr we be data => Sys2Proof.Machine.execOffAccess addr we be data s
  | .sramWindowWrite addr be data => Sys2Proof.Machine.execSramWindowWrite addr be data s
  | .vendorStoreWrite addr be data => Sys2Proof.Machine.execVendorStoreWrite addr be data s
  | .customerStoreWrite addr be data => Sys2Proof.Machine.execCustomerStoreWrite addr be data s
  | .storeHoldEnd => Sys2Proof.Machine.execStoreHoldEnd s
  | .holdDrop => Sys2Proof.Machine.execHoldDrop s
  | .memoryReadReturn port cls data last err => Sys2Proof.Machine.execMemoryReadReturn port cls data last err s
  | .memoryWriteAccepted port beats => Sys2Proof.Machine.execMemoryWriteAccepted port beats s
  | .laneFlit lane value tag => Sys2Proof.Machine.execLaneFlit lane value tag s
  | .linkDown lane => Sys2Proof.Machine.execLinkDown lane s
  | .laneReset lane => Sys2Proof.Machine.execLaneReset lane s
  | .drop lane => Sys2Proof.Machine.execDrop lane s
  | .withdrawPush lane => Sys2Proof.Machine.execWithdrawPush lane s
  | .laneEnable lane data => Sys2Proof.Machine.execLaneEnable lane data s
  | .headToTail lane => Sys2Proof.Machine.execHeadToTail lane s
  | .spillWrite lane => Sys2Proof.Machine.execSpillWrite lane s
  | .drainRead lane => Sys2Proof.Machine.execDrainRead lane s
  | .drainReturn lane => Sys2Proof.Machine.execDrainReturn lane s
  | .midBaseWrite lane reg data => Sys2Proof.Machine.execMidBaseWrite lane reg data s
  | .assemblerPop lane => Sys2Proof.Machine.execAssemblerPop lane s
  | .tileNumber lane => Sys2Proof.Machine.execTileNumber lane s
  | .tileEnd lane => Sys2Proof.Machine.execTileEnd lane s
  | .stripeCancel => Sys2Proof.Machine.execStripeCancel s
  | .fillTimeout ch place => Sys2Proof.Machine.execFillTimeout ch place s
  | .relocate ch place => Sys2Proof.Machine.execRelocate ch place s
  | .eraseFront hoop => Sys2Proof.Machine.execEraseFront hoop s
  | .phyInit ch targets dies timing => Sys2Proof.Machine.execPhyInit ch targets dies timing s
  | .fullTrain ch targets => Sys2Proof.Machine.execFullTrain ch targets s
  | .readRetrain ch targets => Sys2Proof.Machine.execReadRetrain ch targets s
  | .eyeScan ch targets => Sys2Proof.Machine.execEyeScan ch targets s
  | .trainTargetStart ch res => Sys2Proof.Machine.execTrainTargetStart ch res s
  | .pllLock ch => Sys2Proof.Machine.execPllLock ch s
  | .readBurst ch locked lanes => Sys2Proof.Machine.execReadBurst ch locked lanes s
  | .ownAcquire ch gnt both => Sys2Proof.Machine.execOwnAcquire ch gnt both s
  | .ownRelease ch => Sys2Proof.Machine.execOwnRelease ch s
  | .ownClr => Sys2Proof.Machine.execOwnClr s
  | .claimWrite reg data => Sys2Proof.Machine.execClaimWrite reg data s
  | .mwNop ch => Sys2Proof.Machine.execMwNop ch s
  | .mwJmp ch => Sys2Proof.Machine.execMwJmp ch s
  | .mwBr ch => Sys2Proof.Machine.execMwBr ch s
  | .mwCall ch => Sys2Proof.Machine.execMwCall ch s
  | .mwRet ch => Sys2Proof.Machine.execMwRet ch s
  | .mwDispatch ch => Sys2Proof.Machine.execMwDispatch ch s
  | .mwLoop ch => Sys2Proof.Machine.execMwLoop ch s
  | .mwWaitc ch => Sys2Proof.Machine.execMwWaitc ch s
  | .mwTset ch => Sys2Proof.Machine.execMwTset ch s
  | .mwPark ch => Sys2Proof.Machine.execMwPark ch s
  | .mwDone ch => Sys2Proof.Machine.execMwDone ch s
  | .mwTret ch => Sys2Proof.Machine.execMwTret ch s
  | .mwTend ch => Sys2Proof.Machine.execMwTend ch s
  | .mwHalt ch => Sys2Proof.Machine.execMwHalt ch s
  | .illegalOpcode ch => Sys2Proof.Machine.execIllegalOpcode ch s
  | .mwMovi ch => Sys2Proof.Machine.execMwMovi ch s
  | .mwAddi ch => Sys2Proof.Machine.execMwAddi ch s
  | .mwAdd ch => Sys2Proof.Machine.execMwAdd ch s
  | .mwSub ch => Sys2Proof.Machine.execMwSub ch s
  | .mwAnd ch => Sys2Proof.Machine.execMwAnd ch s
  | .mwOr ch => Sys2Proof.Machine.execMwOr ch s
  | .mwXor ch => Sys2Proof.Machine.execMwXor ch s
  | .mwShl ch => Sys2Proof.Machine.execMwShl ch s
  | .mwShr ch => Sys2Proof.Machine.execMwShr ch s
  | .mwMov ch => Sys2Proof.Machine.execMwMov ch s
  | .mwCmp ch => Sys2Proof.Machine.execMwCmp ch s
  | .mwLdlc ch => Sys2Proof.Machine.execMwLdlc ch s
  | .mwLds ch => Sys2Proof.Machine.execMwLds ch s
  | .mwSts ch => Sys2Proof.Machine.execMwSts ch s
  | .mwCe ch => Sys2Proof.Machine.execMwCe ch s
  | .mwCmd ch => Sys2Proof.Machine.execMwCmd ch s
  | .mwAddr ch => Sys2Proof.Machine.execMwAddr ch s
  | .mwDout ch => Sys2Proof.Machine.execMwDout ch s
  | .mwDin ch => Sys2Proof.Machine.execMwDin ch s
  | .mwSusp ch => Sys2Proof.Machine.execMwSusp ch s
  | .mwRsum ch => Sys2Proof.Machine.execMwRsum ch s
  | .mwStat ch => Sys2Proof.Machine.execMwStat ch s
  | .mwLedg ch => Sys2Proof.Machine.execMwLedg ch s
  | .fetchUe ch => Sys2Proof.Machine.execFetchUe ch s
  | .atomOvr ch => Sys2Proof.Machine.execAtomOvr ch s
  | .timerExpire ch k => Sys2Proof.Machine.execTimerExpire ch k s
  | .wdog ch => Sys2Proof.Machine.execWdog ch s
  | .seqBreak grp mask => Sys2Proof.Machine.execSeqBreak grp mask s
  | .restart grp mask => Sys2Proof.Machine.execRestart grp mask s
  | .trapTake ch => Sys2Proof.Machine.execTrapTake ch s
  | .engineCe ch => Sys2Proof.Machine.execEngineCe ch s
  | .engineCommand ch => Sys2Proof.Machine.execEngineCommand ch s
  | .engineAddress ch => Sys2Proof.Machine.execEngineAddress ch s
  | .burstStart ch => Sys2Proof.Machine.execBurstStart ch s
  | .burstDone ch data => Sys2Proof.Machine.execBurstDone ch data s
  | .statusReturn ch status => Sys2Proof.Machine.execStatusReturn ch status s
  | .lunPoll ch lun rb status => Sys2Proof.Machine.execLunPoll ch lun rb status s
  | .schedulerPick ch => Sys2Proof.Machine.execSchedulerPick ch s
  | .headAged ch lun => Sys2Proof.Machine.execHeadAged ch lun s
  | .lunHung ch lun => Sys2Proof.Machine.execLunHung ch lun s
  | .resetLunTimeout ch lun => Sys2Proof.Machine.execResetLunTimeout ch lun s
  | .suspSlow ch lun => Sys2Proof.Machine.execSuspSlow ch lun s
  | .channelDescriptor ch org => Sys2Proof.Machine.execChannelDescriptor ch org s
  | .opProg ch status => Sys2Proof.Machine.execOpProg ch status s
  | .opErase ch => Sys2Proof.Machine.execOpErase ch s
  | .opReadTile ch data => Sys2Proof.Machine.execOpReadTile ch data s
  | .opReadCw ch data => Sys2Proof.Machine.execOpReadCw ch data s
  | .opShadow ch data => Sys2Proof.Machine.execOpShadow ch data s
  | .opPatrol ch data => Sys2Proof.Machine.execOpPatrol ch data s
  | .opBlankVerify ch data => Sys2Proof.Machine.execOpBlankVerify ch data s
  | .opReadCharter ch data => Sys2Proof.Machine.execOpReadCharter ch data s
  | .opBbScan ch data => Sys2Proof.Machine.execOpBbScan ch data s
  | .opSetRef ch => Sys2Proof.Machine.execOpSetRef ch s
  | .opGetFeat ch data => Sys2Proof.Machine.execOpGetFeat ch data s
  | .opResetLun ch => Sys2Proof.Machine.execOpResetLun ch s
  | .opStatus ch status => Sys2Proof.Machine.execOpStatus ch status s
  | .opCustomerOpcode ch => Sys2Proof.Machine.execOpCustomerOpcode ch s
  | .bbMark ch data => Sys2Proof.Machine.execBbMark ch data s
  | .wpOpen ch data => Sys2Proof.Machine.execWpOpen ch data s
  | .gdtStart ch data => Sys2Proof.Machine.execGdtStart ch data s
  | .gdtDone ch => Sys2Proof.Machine.execGdtDone ch s
  | .encodeCodeword ch => Sys2Proof.Machine.execEncodeCodeword ch s
  | .reencode ch => Sys2Proof.Machine.execReencode ch s
  | .decodeJob => Sys2Proof.Machine.execDecodeJob s
  | .decodeStart => Sys2Proof.Machine.execDecodeStart s
  | .decodeDone engine => Sys2Proof.Machine.execDecodeDone engine s
  | .shadowProbeDue ch => Sys2Proof.Machine.execShadowProbeDue ch s
  | .patrolIssue => Sys2Proof.Machine.execPatrolIssue s
  | .ladderStep => Sys2Proof.Machine.execLadderStep s
  | .reconstruct => Sys2Proof.Machine.execReconstruct s
  | .survivorFold => Sys2Proof.Machine.execSurvivorFold s
  | .laceSolve => Sys2Proof.Machine.execLaceSolve s
  | .reconTimeout member => Sys2Proof.Machine.execReconTimeout member s
  | .parityCopy set k => Sys2Proof.Machine.execParityCopy set k s
  | .stripeCloseTimeout prof => Sys2Proof.Machine.execStripeCloseTimeout prof s
  | .laceClose data => Sys2Proof.Machine.execLaceClose data s
  | .stripeRecord => Sys2Proof.Machine.execStripeRecord s
  | .profileEnable prof data => Sys2Proof.Machine.execProfileEnable prof data s
  | .almLoad data => Sys2Proof.Machine.execAlmLoad data s
  | .almSave data => Sys2Proof.Machine.execAlmSave data s
  | .almDone => Sys2Proof.Machine.execAlmDone s
  | .tileCompletion => Sys2Proof.Machine.execTileCompletion s
  | .mapFill => Sys2Proof.Machine.execMapFill s
  | .mapWriteBack => Sys2Proof.Machine.execMapWriteBack s
  | .mapFlush => Sys2Proof.Machine.execMapFlush s
  | .mapInval => Sys2Proof.Machine.execMapInval s
  | .flushDone => Sys2Proof.Machine.execFlushDone s
  | .lookupTile data => Sys2Proof.Machine.execLookupTile data s
  | .setAddr data => Sys2Proof.Machine.execSetAddr data s
  | .mapBaseWrite reg data => Sys2Proof.Machine.execMapBaseWrite reg data s
  | .streamEnable stream => Sys2Proof.Machine.execStreamEnable stream s
  | .streamDisable stream => Sys2Proof.Machine.execStreamDisable stream s
  | .hoopEnable hoop => Sys2Proof.Machine.execHoopEnable hoop s
  | .hoopDisable hoop => Sys2Proof.Machine.execHoopDisable hoop s
  | .rearm hoop => Sys2Proof.Machine.execRearm hoop s
  | .hoopTrigger hoop => Sys2Proof.Machine.execHoopTrigger hoop s
  | .trigReg which data => Sys2Proof.Machine.execTrigReg which data s
  | .trigIn level => Sys2Proof.Machine.execTrigIn level s
  | .ringEnable ring => Sys2Proof.Machine.execRingEnable ring s
  | .ringDisable ring => Sys2Proof.Machine.execRingDisable ring s
  | .drained ring => Sys2Proof.Machine.execDrained ring s
  | .doorbell data => Sys2Proof.Machine.execDoorbell data s
  | .ringFetch ring => Sys2Proof.Machine.execRingFetch ring s
  | .ownRetry ring => Sys2Proof.Machine.execOwnRetry ring s
  | .chanEntry ring => Sys2Proof.Machine.execChanEntry ring s
  | .readEntry ring => Sys2Proof.Machine.execReadEntry ring s
  | .resultCopy => Sys2Proof.Machine.execResultCopy s
  | .completionRecord => Sys2Proof.Machine.execCompletionRecord s
  | .dmaCopy ch => Sys2Proof.Machine.execDmaCopy ch s
  | .dmaFill ch => Sys2Proof.Machine.execDmaFill ch s
  | .dmaGather ch => Sys2Proof.Machine.execDmaGather ch s
  | .dmaScatter ch => Sys2Proof.Machine.execDmaScatter ch s
  | .dmaInterleave ch => Sys2Proof.Machine.execDmaInterleave ch s
  | .dmaDeinterleave ch => Sys2Proof.Machine.execDmaDeinterleave ch s
  | .dmaBitslice ch => Sys2Proof.Machine.execDmaBitslice ch s
  | .dmaDump ch => Sys2Proof.Machine.execDmaDump ch s
  | .dmaBurst => Sys2Proof.Machine.execDmaBurst s
  | .dmaPause ch => Sys2Proof.Machine.execDmaPause ch s
  | .dmaPaused ch => Sys2Proof.Machine.execDmaPaused ch s
  | .dmaResume ch => Sys2Proof.Machine.execDmaResume ch s
  | .dmaAbort ch => Sys2Proof.Machine.execDmaAbort ch s
  | .rotorStart => Sys2Proof.Machine.execRotorStart s
  | .rotorStop => Sys2Proof.Machine.execRotorStop s
  | .rotorCoast => Sys2Proof.Machine.execRotorCoast s
  | .rotorRun => Sys2Proof.Machine.execRotorRun s
  | .rotorClear => Sys2Proof.Machine.execRotorClear s
  | .rotorEnable data => Sys2Proof.Machine.execRotorEnable data s
  | .spdCmdWrite data => Sys2Proof.Machine.execSpdCmdWrite data s
  | .ocTrip level => Sys2Proof.Machine.execOcTrip level s
  | .ocHoldExpire => Sys2Proof.Machine.execOcHoldExpire s
  | .zeroCrossing phase level counted => Sys2Proof.Machine.execZeroCrossing phase level counted s
  | .commutate => Sys2Proof.Machine.execCommutate s
  | .ishSample value => Sys2Proof.Machine.execIshSample value s
  | .vdcSample value => Sys2Proof.Machine.execVdcSample value s
  | .acmdSample value => Sys2Proof.Machine.execAcmdSample value s
  | .rotCmdEdge level => Sys2Proof.Machine.execRotCmdEdge level s
  | .cmdLost => Sys2Proof.Machine.execCmdLost s
  | .fluxDecision => Sys2Proof.Machine.execFluxDecision s
  | .chopFault fb fault => Sys2Proof.Machine.execChopFault fb fault s
  | .spinCheckEnd => Sys2Proof.Machine.execSpinCheckEnd s
  | .alignEnd => Sys2Proof.Machine.execAlignEnd s
  | .rampEnd => Sys2Proof.Machine.execRampEnd s
  | .recatchTimeout => Sys2Proof.Machine.execRecatchTimeout s
  | .ascExit => Sys2Proof.Machine.execAscExit s
  | .coastTimeout => Sys2Proof.Machine.execCoastTimeout s
  | .undervolt => Sys2Proof.Machine.execUndervolt s
  | .glint level key => Sys2Proof.Machine.execGlint level key s
  | .facetMiss => Sys2Proof.Machine.execFacetMiss s
  | .coastMaxExpire => Sys2Proof.Machine.execCoastMaxExpire s
  | .angleEnable data => Sys2Proof.Machine.execAngleEnable data s
  | .vstepWrite data => Sys2Proof.Machine.execVstepWrite data s
  | .slotEntry => Sys2Proof.Machine.execSlotEntry s
  | .calDataWrite data => Sys2Proof.Machine.execCalDataWrite data s
  | .calDataRead => Sys2Proof.Machine.execCalDataRead s
  | .phaseWrite data => Sys2Proof.Machine.execPhaseWrite data s
  | .domUp dom => Sys2Proof.Machine.execDomUp dom s
  | .domDown dom => Sys2Proof.Machine.execDomDown dom s
  | .staggerExpire dom => Sys2Proof.Machine.execStaggerExpire dom s
  | .pdAckRise dom => Sys2Proof.Machine.execPdAckRise dom s
  | .upDone dom => Sys2Proof.Machine.execUpDone dom s
  | .pdAckTimeout dom => Sys2Proof.Machine.execPdAckTimeout dom s
  | .domainLost dom => Sys2Proof.Machine.execDomainLost dom s
  | .quiesceDone dom => Sys2Proof.Machine.execQuiesceDone dom s
  | .quiesceTo dom => Sys2Proof.Machine.execQuiesceTo dom s
  | .downDone dom => Sys2Proof.Machine.execDownDone dom s
  | .pfWarn level => Sys2Proof.Machine.execPfWarn level s
  | .pfClear => Sys2Proof.Machine.execPfClear s
  | .ledgerGather ch => Sys2Proof.Machine.execLedgerGather ch s
  | .ledgerFlush ch pass => Sys2Proof.Machine.execLedgerFlush ch pass s
  | .recover => Sys2Proof.Machine.execRecover s
  | .ledgDone err => Sys2Proof.Machine.execLedgDone err s
  | .ledgEnWrite data => Sys2Proof.Machine.execLedgEnWrite data s
  | .scrubRead region => Sys2Proof.Machine.execScrubRead region s
  | .scrubWriteback region => Sys2Proof.Machine.execScrubWriteback region s
  | .starved region => Sys2Proof.Machine.execStarved region s
  | .remapClr data => Sys2Proof.Machine.execRemapClr data s
  | .memiTest data => Sys2Proof.Machine.execMemiTest data s
  | .memiInject data => Sys2Proof.Machine.execMemiInject data s
  | .injDone => Sys2Proof.Machine.execInjDone s
  | .faultEvent => Sys2Proof.Machine.execFaultEvent s
  | .windowClose source => Sys2Proof.Machine.execWindowClose source s
  | .logWrite => Sys2Proof.Machine.execLogWrite s
  | .srcAck source => Sys2Proof.Machine.execSrcAck source s
  | .fwRaise source => Sys2Proof.Machine.execFwRaise source s
  | .firstClear => Sys2Proof.Machine.execFirstClear s
  | .evtForce page data => Sys2Proof.Machine.execEvtForce page data s
  | .pulseEnd line => Sys2Proof.Machine.execPulseEnd line s
  | .verify grp data => Sys2Proof.Machine.execVerify grp data s
  | .verifyDone grp => Sys2Proof.Machine.execVerifyDone grp s
  | .seqgEnable grp data => Sys2Proof.Machine.execSeqgEnable grp data s
  | .custHold grp data => Sys2Proof.Machine.execCustHold grp data s
  | .xlinkEnable data => Sys2Proof.Machine.execXlinkEnable data s
  | .reflEnable data => Sys2Proof.Machine.execReflEnable data s
  | .heartbeatSend => Sys2Proof.Machine.execHeartbeatSend s
  | .syncSend => Sys2Proof.Machine.execSyncSend s
  | .recordReject crc => Sys2Proof.Machine.execRecordReject crc s
  | .resend lane => Sys2Proof.Machine.execResend lane s
  | .recHb hdr grave pf sealing time => Sys2Proof.Machine.execRecHb hdr grave pf sealing time s
  | .recAck hdr lane upTo => Sys2Proof.Machine.execRecAck hdr lane upTo s
  | .recSync hdr theta omega time => Sys2Proof.Machine.execRecSync hdr theta omega time s
  | .syncLost => Sys2Proof.Machine.execSyncLost s
  | .recNum hdr prof num => Sys2Proof.Machine.execRecNum hdr prof num s
  | .recTrig hdr time stamp => Sys2Proof.Machine.execRecTrig hdr time stamp s
  | .recPartial hdr row close stripe data => Sys2Proof.Machine.execRecPartial hdr row close stripe data s
  | .recStripeDone hdr close stripe => Sys2Proof.Machine.execRecStripeDone hdr close stripe s
  | .recReconReq hdr stripe mask => Sys2Proof.Machine.execRecReconReq hdr stripe mask s
  | .recReconRsp hdr row cw data => Sys2Proof.Machine.execRecReconRsp hdr row cw data s
  | .recReconEnd hdr lost => Sys2Proof.Machine.execRecReconEnd hdr lost s
  | .memberLost member => Sys2Proof.Machine.execMemberLost member s
  | .recMapUpd hdr ups => Sys2Proof.Machine.execRecMapUpd hdr ups s
  | .recHoop hdr hoop data => Sys2Proof.Machine.execRecHoop hdr hoop data s
  | .recIntent hdr done body => Sys2Proof.Machine.execRecIntent hdr done body s
  | .recBad hdr taddr => Sys2Proof.Machine.execRecBad hdr taddr s
  | .recStripeRec hdr data => Sys2Proof.Machine.execRecStripeRec hdr data s
  | .recRef hdr glun offs => Sys2Proof.Machine.execRecRef hdr glun offs s
  | .recTrim hdr ch data => Sys2Proof.Machine.execRecTrim hdr ch data s
  | .peerLost => Sys2Proof.Machine.execPeerLost s
  | .takeover => Sys2Proof.Machine.execTakeover s
  | .takeoverFail ch => Sys2Proof.Machine.execTakeoverFail ch s
  | .linkupReturn lane => Sys2Proof.Machine.execLinkupReturn lane s
  | .resetRelease lot die xlIdx rfPrimary => Sys2Proof.Machine.execResetRelease lot die xlIdx rfPrimary s
  | .wpHoldEnd ch => Sys2Proof.Machine.execWpHoldEnd ch s
  | .pwmPeriod => Sys2Proof.Machine.execPwmPeriod s
  | .openLoopCommutation => Sys2Proof.Machine.execOpenLoopCommutation s
  | .hoopRecordPeriod => Sys2Proof.Machine.execHoopRecordPeriod s
  | .ownGrant ch => Sys2Proof.Machine.execOwnGrant ch s

end Sys2Proof.Machine
end

