-- ==== Sys2Proof/Machine/Tick.lean ====
section
/-!
DEFINITION. What one core cycle does while no command waits (log entry 2): the counters and timers that the spec lets run on by
themselves. Everything that happens at a moment of its own is a command.
-/

namespace Sys2Proof.Machine

/-- θ advances by ω; a wrap counts a revolution (12 R359). -/
def AngS.tick (a : AngS) : AngS :=
  if a.st = .off then a
  else
    let t := a.theta + a.omega
    { a with theta := t % 2 ^ 48, rev := (a.rev + t / 2 ^ 48) % 65536 }

/-- T0 and T1 of every context count down by 1 and stop at 0 (04 R123). -/
def timersDown (t : Tab ChS) : Tab ChS :=
  (t.map (fun p => (p.1, { p.2 with ctx := { p.2.ctx with t0 := p.2.ctx.t0 - 1, t1 := p.2.ctx.t1 - 1 } }))).filter (fun p => p.2 ≠ {})

/-- A column in which `LNn_LINKUP` is 1 and `LNn_READY` 0 is counted (08 R265). -/
def State.bpCount (s : State) (n : Nat) : State :=
  if s.powered (laneDom n) ∧ (s.lane n).linkup ∧ !s.laneReady n then s.bump (R.LANE_BP_CYC_CNT n) else s

/-- `STALL_US` of a hoop counts each microsecond in which a tile waits for its row's erases (09 R287). -/
def State.stallCount (s : State) (h : Nat) : State :=
  match (s.hoop h).stall.head? with
  | some (_, t) => if t < s.cyc ∧ (s.cyc - t) % s.gen.mhz = 0 then s.hput h 0x90 4 (sat (2 ^ 32 - 1) (s.hget h 0x90 4 + 1)) else s
  | none => s

/-- One core cycle passes: nothing in a cold reset, the gates' dead time alone in a warm one (02 R84); else the lookups of the map (09 R273), the core-cycle counter (17 R477), θ, the rest of the gates' dead
time (02 R66), the spill budget (08 R254), in every second cycle the sequencer timers, the counts of lanes and hoops, and the walkers' probes (07 R219), the end of a PWM on-time (11 R339), the end of a
probe slice (11 R346). -/
def State.tick (s : State) : State :=
  if s.cp.rst = .cold then s
  else if s.cp.rst = .warm then { s with rot := { s.rot with gates := s.rot.gates.tick } }
  else
    let s := s.logTick.mapTick
    let budget := min 131072 (s.spool.tokens + min 914 (s.get R.SPOOL_BW_LINES))
    let s : State := { s with
      cyc := s.cyc + 1, ang := s.ang.tick, rot := { s.rot with gates := s.rot.gates.tick }
      spool := if s.powered 0 then { s.spool with tokens := budget } else s.spool
      chans := if s.cyc % 2 = 1 then timersDown s.chans else s.chans }
    ((List.range s.gen.nlane).foldl State.bpCount ((List.range 64).foldl State.stallCount s)).probeTick.pwmTick.shuntTick

end Sys2Proof.Machine
end

