-- ==== Sys2Proof/WellFormed.lean ====
section
/-!
DEFINITION. Which commands can occur: the lengths of an operand that a record, a burst or a die's answer carries.
`exec` is total on the others as well (it reads missing bytes as 0 and passes over surplus ones), and no agent of the spec sends one.
-/

namespace Sys2Proof

/-- A routine's data output: at most 16 bursts of at most 18,432 B each (04_sequencers.md R117; 05 R163), with the samples of at most 9
lanes (03 R98). -/
def placeBytes (d : List DieBurst) : Bool :=
  decide (d.length ≤ 16) &&
  d.all (fun b => decide (b.bytes.length ≤ 18432) && decide (b.lanes.length ≤ 9) && b.lanes.all (fun l => decide (l.length ≤ 18432)))

/-- Can this command occur? -/
def Instr.wellFormed : Instr → Bool
  -- 03 R109: one answer for each of 8 targets, and the 32 timing parameters of 04 R125
  | .phyInit _ _ dies timing => decide (dies.length = 8) && dies.all (fun d => d.copies.all (fun c => decide (c.raw.length = 256))) && decide (timing.length = 32)
  -- 03 R100, R101: 8 data lanes and the spare
  | .trainTargetStart _ res => decide (res.rd.length = 9) && res.rd.all (fun l => decide (l.length = 128)) && decide (res.wr.length = 9) &&
    res.wr.all (fun l => decide (l.length = 128)) && decide (res.ref.length = 9) && res.ref.all (fun l => decide (l.length = 16))
  -- 03 R96: 9 lanes, one data and one edge sample in each UI of at most 18,432
  | .readBurst _ _ lanes => decide (lanes.length = 9) && lanes.all (fun l => decide (l.length ≤ 18432))
  -- 04 R117: a burst has at most 18,432 B
  | .burstDone _ data => decide (data.length ≤ 18432)
  | .opReadTile _ data => placeBytes data
  | .opReadCw _ data => placeBytes data
  | .opShadow _ data => placeBytes data
  | .opPatrol _ data => placeBytes data
  | .opBlankVerify _ data => placeBytes data
  | .opReadCharter _ data => placeBytes data
  | .opBbScan _ data => placeBytes data
  -- 16 R452: the payload of each record type
  | .recPartial _ _ _ _ data => decide (data.length = 65504)
  | .recReconRsp _ _ cw data => decide (data.length = if cw = 15 then 4128 else 4096)
  | .recMapUpd _ ups => decide (1 ≤ ups.length ∧ ups.length ≤ 3)
  | .recHoop _ _ data => decide (data.length = 92)
  | .recStripeRec _ data => decide (data.length = 1024)
  | .recTrim _ _ data => decide (data.length = 256)
  -- no operand of a length that varies
  | .coldReset => true
  | .ledgDone _ => true
  | .warmReset => true
  | .fuseRecord _ _ => true
  | .fuseTimeout => true
  | .portReady => true
  | .registerWrite _ _ _ => true
  | .offAccess _ _ _ _ => true
  | .sramWindowWrite _ _ _ => true
  | .vendorStoreWrite _ _ _ => true
  | .customerStoreWrite _ _ _ => true
  | .storeHoldEnd => true
  | .holdDrop => true
  | .memoryReadReturn _ _ _ _ _ => true
  | .memoryWriteAccepted _ _ => true
  | .laneFlit _ _ _ => true
  | .linkDown _ => true
  | .laneReset _ => true
  | .drop _ => true
  | .withdrawPush _ => true
  | .laneEnable _ _ => true
  | .headToTail _ => true
  | .spillWrite _ => true
  | .drainRead _ => true
  | .drainReturn _ => true
  | .midBaseWrite _ _ _ => true
  | .assemblerPop _ => true
  | .tileNumber _ => true
  | .tileEnd _ => true
  | .stripeCancel => true
  | .fillTimeout _ _ => true
  | .relocate _ _ => true
  | .eraseFront _ => true
  | .fullTrain _ _ => true
  | .readRetrain _ _ => true
  | .eyeScan _ _ => true
  | .pllLock _ => true
  | .ownAcquire _ _ _ => true
  | .ownRelease _ => true
  | .ownClr => true
  | .claimWrite _ _ => true
  | .mwNop _ => true
  | .mwJmp _ => true
  | .mwBr _ => true
  | .mwCall _ => true
  | .mwRet _ => true
  | .mwDispatch _ => true
  | .mwLoop _ => true
  | .mwWaitc _ => true
  | .mwTset _ => true
  | .mwPark _ => true
  | .mwDone _ => true
  | .mwTret _ => true
  | .mwTend _ => true
  | .mwHalt _ => true
  | .illegalOpcode _ => true
  | .mwMovi _ => true
  | .mwAddi _ => true
  | .mwAdd _ => true
  | .mwSub _ => true
  | .mwAnd _ => true
  | .mwOr _ => true
  | .mwXor _ => true
  | .mwShl _ => true
  | .mwShr _ => true
  | .mwMov _ => true
  | .mwCmp _ => true
  | .mwLdlc _ => true
  | .mwLds _ => true
  | .mwSts _ => true
  | .mwCe _ => true
  | .mwCmd _ => true
  | .mwAddr _ => true
  | .mwDout _ => true
  | .mwDin _ => true
  | .mwSusp _ => true
  | .mwRsum _ => true
  | .mwStat _ => true
  | .mwLedg _ => true
  | .fetchUe _ => true
  | .atomOvr _ => true
  | .timerExpire _ _ => true
  | .wdog _ => true
  | .seqBreak _ _ => true
  | .restart _ _ => true
  | .trapTake _ => true
  | .engineCe _ => true
  | .engineCommand _ => true
  | .engineAddress _ => true
  | .burstStart _ => true
  | .statusReturn _ _ => true
  | .lunPoll _ _ _ _ => true
  | .schedulerPick _ => true
  | .headAged _ _ => true
  | .lunHung _ _ => true
  | .resetLunTimeout _ _ => true
  | .suspSlow _ _ => true
  | .channelDescriptor _ _ => true
  | .opProg _ _ => true
  | .opErase _ => true
  | .opSetRef _ => true
  | .opGetFeat _ _ => true
  | .opResetLun _ => true
  | .opStatus _ _ => true
  | .opCustomerOpcode _ => true
  | .bbMark _ _ => true
  | .wpOpen _ _ => true
  | .gdtStart _ _ => true
  | .dmaCopy _ => true
  | .dmaGather _ => true
  | .dmaScatter _ => true
  | .dmaInterleave _ => true
  | .dmaDeinterleave _ => true
  | .dmaBitslice _ => true
  | .gdtDone _ => true
  | .encodeCodeword _ => true
  | .reencode _ => true
  | .decodeJob => true
  | .decodeStart => true
  | .decodeDone _ => true
  | .shadowProbeDue _ => true
  | .patrolIssue => true
  | .ladderStep => true
  | .reconstruct => true
  | .survivorFold => true
  | .laceSolve => true
  | .reconTimeout _ => true
  | .parityCopy _ _ => true
  | .stripeCloseTimeout _ => true
  | .laceClose _ => true
  | .stripeRecord => true
  | .profileEnable _ _ => true
  | .almLoad _ => true
  | .almSave _ => true
  | .almDone => true
  | .tileCompletion => true
  | .mapFill => true
  | .mapWriteBack => true
  | .mapFlush => true
  | .mapInval => true
  | .flushDone => true
  | .lookupTile _ => true
  | .setAddr _ => true
  | .mapBaseWrite _ _ => true
  | .streamEnable _ => true
  | .streamDisable _ => true
  | .hoopEnable _ => true
  | .hoopDisable _ => true
  | .rearm _ => true
  | .hoopTrigger _ => true
  | .trigReg _ _ => true
  | .trigIn _ => true
  | .ringEnable _ => true
  | .ringDisable _ => true
  | .drained _ => true
  | .doorbell _ => true
  | .ringFetch _ => true
  | .ownRetry _ => true
  | .chanEntry _ => true
  | .readEntry _ => true
  | .resultCopy => true
  | .completionRecord => true
  | .dmaFill _ => true
  | .dmaDump _ => true
  | .dmaBurst => true
  | .dmaPause _ => true
  | .dmaPaused _ => true
  | .dmaResume _ => true
  | .dmaAbort _ => true
  | .rotorStart => true
  | .rotorStop => true
  | .rotorCoast => true
  | .rotorRun => true
  | .rotorClear => true
  | .rotorEnable _ => true
  | .spdCmdWrite _ => true
  | .ocTrip _ => true
  | .ocHoldExpire => true
  | .zeroCrossing _ _ _ => true
  | .commutate => true
  | .ishSample _ => true
  | .vdcSample _ => true
  | .acmdSample _ => true
  | .rotCmdEdge _ => true
  | .cmdLost => true
  | .fluxDecision => true
  | .chopFault _ _ => true
  | .spinCheckEnd => true
  | .alignEnd => true
  | .rampEnd => true
  | .recatchTimeout => true
  | .ascExit => true
  | .coastTimeout => true
  | .undervolt => true
  | .glint _ _ => true
  | .facetMiss => true
  | .coastMaxExpire => true
  | .angleEnable _ => true
  | .vstepWrite _ => true
  | .slotEntry => true
  | .calDataWrite _ => true
  | .calDataRead => true
  | .phaseWrite _ => true
  | .domUp _ => true
  | .domDown _ => true
  | .staggerExpire _ => true
  | .pdAckRise _ => true
  | .upDone _ => true
  | .pdAckTimeout _ => true
  | .domainLost _ => true
  | .quiesceDone _ => true
  | .quiesceTo _ => true
  | .downDone _ => true
  | .pfWarn _ => true
  | .pfClear => true
  | .ledgerGather _ => true
  | .ledgerFlush _ _ => true
  | .recover => true
  | .ledgEnWrite _ => true
  | .scrubRead _ => true
  | .scrubWriteback _ => true
  | .starved _ => true
  | .remapClr _ => true
  | .memiTest _ => true
  | .memiInject _ => true
  | .injDone => true
  | .faultEvent => true
  | .windowClose _ => true
  | .logWrite => true
  | .srcAck _ => true
  | .fwRaise _ => true
  | .firstClear => true
  | .evtForce _ _ => true
  | .pulseEnd _ => true
  | .verify _ _ => true
  | .verifyDone _ => true
  | .seqgEnable _ _ => true
  | .custHold _ _ => true
  | .xlinkEnable _ => true
  | .reflEnable _ => true
  | .heartbeatSend => true
  | .syncSend => true
  | .recordReject _ => true
  | .resend _ => true
  | .recHb _ _ _ _ _ => true
  | .recAck _ _ _ => true
  | .recSync _ _ _ _ => true
  | .syncLost => true
  | .recNum _ _ _ => true
  | .recTrig _ _ _ => true
  | .recStripeDone _ _ _ => true
  | .recReconReq _ _ _ => true
  | .recReconEnd _ _ => true
  | .memberLost _ => true
  | .recIntent _ _ _ => true
  | .recBad _ _ => true
  | .recRef _ _ _ => true
  | .peerLost => true
  | .takeover => true
  | .takeoverFail _ => true
  | .linkupReturn _ => true
  | .resetRelease _ _ _ _ => true
  | .wpHoldEnd _ => true
  | .pwmPeriod => true
  | .openLoopCommutation => true
  | .hoopRecordPeriod => true
  | .ownGrant _ => true

end Sys2Proof
end

