-- ==== Sys2Proof/Safety.lean ====
section
/-!
DEFINITION. What counts as a safe state, and the terms the statements use.
-/

namespace Sys2Proof.Machine

/-- Never both gates of a leg (02_ports.md R66). -/
def Gate.apart (g : Gate) : Bool := !(g.hi && g.lo)

/-- Never both gates of any phase (R66). -/
def Gates.apart (g : Gates) : Bool := g.u.apart && g.v.apart && g.w.apart

/-- The rotor bridge is never short-circuited through a leg (R66). -/
abbrev State.legsApart (s : State) : Prop := s.rot.gates.apart = true

/-- External memory in its canonical form: addresses strictly rising, no listed byte equal to what an unlisted one reads as. -/
abbrev Memory.wf (t : Tab Byte) : Bool := twf zeroByte t

/-- The answer of a command is the state `t`. -/
abbrev Answers (c : Instr) (s t : State) : Prop := exec c s = .next t

/-- The control port takes a write at `a` now: it is ready, and `a` lies in a present page or window whose domain has power
(02_ports.md R47, R48, R50; 00_scope.md R7). -/
def State.portTakes (s : State) (a : Nat) : Prop := s.cpReady = true ∧ ∃ d, s.addrDom a = some d ∧ s.powered d = true

/-- Bit `b` of `EVT_RAW` of a page: the event has been raised (17_bringup_registers.md R478). -/
def State.event (s : State) (p : Page) (n b : Nat) : Bool := (s.rd (pageBase p n + 0x10)).getLsbD b

/-- Every register word outside `as` reads in `t` as in `s`. -/
def State.wordsKept (s t : State) (as : List Nat) : Prop := ∀ a, a ∉ as → t.rd a = s.rd a

/-- The address of `EVT_RAW` of a page (00_scope.md R19). -/
def evtAddr (p : Page) (n : Nat) : Nat := pageBase p n + 0x10

/-- In `t` only domain `d`, the register words `as`, the pulse lines and the events on their way to the collector may differ. -/
def State.domOnly (s t : State) (d : Nat) (as : List Nat) : Prop :=
  (∀ k, k ≠ d → t.dom k = s.dom k) ∧ s.wordsKept t as ∧
  t = { s with pwr := { s.pwr with doms := t.pwr.doms }, regs := t.regs, pins := t.pins, flt := t.flt }

/-! ## Sequencer contexts (04_sequencers.md) -/

/-- The state once the word at the PC of channel `n` has been fetched: a corrected error in it is reported, and a clean word
changes nothing (R115). -/
def State.seen (s : State) (n : Nat) : State := s.note 6 (storeWord n (s.ch n).ctx.pc) 0

/-- The context of channel `n` runs and fetches the word `w`, corrected where an error was correctable (R112, R115). -/
def State.runsWord (s : State) (n w : Nat) : Prop :=
  (s.ch n).ctx.run = .run ∧ (s.ch n).ctx.statWait = false ∧ s.fetchBad n = false ∧ s.fetched n = w

/-- The context of channel `n` as the A bit of the word it executes leaves it (R130, R131). -/
def State.ctxAt (s : State) (n : Nat) : CtxS :=
  { (s.ch n).ctx with
    atom := bit (s.fetched n) 25 && !(s.ch n).ctx.atomOvr
    atomOvr := (s.ch n).ctx.atomOvr && bit (s.fetched n) 25 }

/-- `t` is `s` but for channel `n`, which is `x`. -/
def State.chanIs (s t : State) (n : Nat) (x : ChS) : Prop :=
  t.ch n = x ∧ (∀ k, k ≠ n → t.ch k = s.ch k) ∧ t = { s with chans := t.chans }

/-- `t` is `s` after the fetch, but for the context of channel `n`, which is `c`. -/
def State.ctxIs (s t : State) (n : Nat) (c : CtxS) : Prop := (s.seen n).chanIs t n { s.ch n with ctx := c }

/-- A context after HALT (R116, R483). -/
def CtxS.halted (c : CtxS) : CtxS :=
  { c with run := .halted, inTrap := false, touch := false, wdog := none, brk := none, statWait := false, atom := false, desc := none }

/-- A context after DONE, PARK or TEND (R116, R129, R134). -/
def CtxS.ended (c : CtxS) : CtxS :=
  { c with run := .idle, ce := none, wdog := none, brk := none, wakeRdy := false, wakeSusp := false, statWait := false, atom := false, atomOvr := false, desc := none }

/-- A customer descriptor of a ring that asks for a record: what completes it is its record alone (R150, R152, R301). -/
def Desc.asks (d : Desc) : Prop := d.org = 1 ∧ d.customer = true ∧ d.cmpl = true

/-- `t` is `u` but for channel `n`, whose context is `c`, whose slot of `d` is free and whose descriptor `d` has its completion
record with status `st`; register words outside `as` are kept. -/
def State.completes (u t : State) (n : Nat) (d : Desc) (st : Nat) (c : CtxS) (as : List Nat) : Prop :=
  t.ch n = { u.ch n with ctx := c, slots := (u.ch n).slots.eraseP (fun x => x.desc = d ∧ x.started) } ∧
  (∀ k, k ≠ n → t.ch k = u.ch k) ∧ t.rng.recs = u.rng.recs ++ [u.chanRec (d.origin % 16384) d.tag st (u.ch n).ctx.res] ∧
  u.wordsKept t as ∧ t = { u with chans := t.chans, rng := { u.rng with recs := t.rng.recs }, regs := t.regs, pins := t.pins }

end Sys2Proof.Machine
end

