-- ==== Sys2Proof/Certificates/Slice0/Obligations.lean ====
section
/-!
DEFINITION. The statements about the block, chapter by chapter of the spec.
-/

open Sys2Proof Sys2Proof.Machine

/-- For every command c, queue q and state s: a step of s with c in front of q is exec of c on s with the queue q (the model's queue
of waiting commands, log entries 1 and 17). -/
def Obligations.StepRunsTheFrontCommand : Prop :=
  ∀ (c : Instr) (q : List Instr) (s : State), step { s with pending := c :: q } = exec c { s with pending := q }

/-- The model's choice (log entry 2): a step on an empty queue is one cyc. While PORST_N is low nothing changes; while WRST_N alone
is low the gates' dead times run and nothing else changes. Otherwise the core-cycle counter goes up by 1, θ advances by ω modulo
2^48 with a wrap counted in the revolution count unless the angle unit is OFF, and external memory, the control port and the
power controller are as before, and with no lookup waiting at the map the memory ports too. With no lookup and no integrity
report waiting, no lane, no tile waiting at a hoop, no shadow walk and the drive OFF, nothing else changes but the gates' dead
times, the spill budget and the sequencer timers. -/
def Obligations.EmptyQueueLetsOneCyclePass : Prop :=
  ∀ s : State, s.pending = [] →
    (s.cp.rst = .cold → step s = .next s) ∧
    (s.cp.rst = .warm → step s = .next { s with rot := { s.rot with gates := s.rot.gates.tick } }) ∧
    (s.cp.rst = .none → ∃ t, step s = .next t ∧ t.cyc = s.cyc + 1 ∧
      (s.ang.st = .off → t.ang = s.ang) ∧
      (s.ang.st ≠ .off → t.ang = { s.ang with
        theta := (s.ang.theta + s.ang.omega) % 2 ^ 48, rev := (s.ang.rev + (s.ang.theta + s.ang.omega) / 2 ^ 48) % 65536 }) ∧
      t.ext = s.ext ∧ t.cp = s.cp ∧ t.pwr = s.pwr ∧ (s.map.waiting = [] → t.mp = s.mp)) ∧
    (s.cp.rst = .none → s.map.waiting = [] → s.memi.reps = [] → s.gen.nlane = 0 → (∀ h, (s.hoop h).stall = []) → s.flag R.DEC_CTRL_SHADOW_EN = false → s.rcv.probes = [] →
      s.rot.st = .off → ∃ t, step s = .next t ∧ t.rot = { s.rot with gates := s.rot.gates.tick } ∧
      t = { s with cyc := t.cyc, ang := t.ang, rot := t.rot, spool := t.spool, chans := t.chans })

/-- For every command c and state s, exec c s answers a next state: no command stops the block. Its queue of waiting commands and
its generation parameters are those of s. -/
def Obligations.EveryCommandAnswersAndLeavesTheQueue : Prop :=
  ∀ (c : Instr) (s : State), ∃ t, exec c s = .next t ∧ t.pending = s.pending ∧ t.gen = s.gen

/-- In the state after reset every register word has its reset value, the control port is not ready and the fuse stream is open, the
core-cycle counter is 0, every switchable domain is OFF without a power request, no gate is on, nothing is in flight on the
memory ports, and external memory lists nothing, in its canonical form. -/
def Obligations.ResetStateIsAsTheSpecSays : Prop :=
  (∀ a, State.reset.rd a = resetVal a) ∧ State.reset.cp.ready = false ∧ State.reset.cp.fuseOpen = true ∧ State.reset.cyc = 0 ∧
  (∀ d, (State.reset.dom d).st = .off ∧ (State.reset.dom d).req = false) ∧ State.reset.legsApart ∧ State.reset.rot.gates = {} ∧
  State.reset.mp.reads = [] ∧ State.reset.mp.writes = [] ∧ Memory.wf State.reset.ext = true ∧ State.reset.pending = []

/-- For every state s in which the two gate commands of each phase are not both 1, and every state t that a step of s answers,
whatever command is in front of the queue: in t the two gate commands of each phase are not both 1 (the first sentence of R66). -/
def Obligations.NeverBothGatesOfAPhase : Prop :=
  ∀ s t : State, s.legsApart → step s = .next t → t.legsApart

/-- For every state s whose external memory lists its bytes in strictly rising order of addresses and lists no byte equal to what an
unlisted address reads as, and every state t that a step of s answers, external memory of t is in that form (the form is the
model's, log entry 6). -/
def Obligations.ExternalMemoryStaysCanonical : Prop :=
  ∀ s t : State, Memory.wf s.ext = true → step s = .next t → Memory.wf t.ext = true

/-- COLD_RESET answers a state that is the reset state but for: the queue, the generation parameters, the free-value counter,
external memory (all as before), SRAM and its power-up counts, the pin levels, the asserted reset, a control-port request held
during it (R50), the identity and straps not yet relatched, and the levels of PD_ACK and LINKUP. Every register word outside the
strap-loaded ones (XLINK.CFG, REFL.CFG, REFL.CLAIM_LO, CLAIM_HI) reads its reset value, and the Grave state is clear.
RESET_RELEASE after it latches the lot, the die word and the straps and starts the core-cycle counter at 0, and no other
register word changes; after a warm reset it starts the counter alone. Completion (exec answers next with the form's own effect,
from these conditions alone) is stated for: coldReset, resetRelease. -/
def Obligations.ColdResetAndReleaseReset : Prop :=
  (∀ s : State, ∃ t, exec .coldReset s = .next t ∧
    (∀ a, strapAddr a = false → t.rd a = resetVal a) ∧ t.grave = false ∧ t.cp.rst = .cold ∧ t.cp.fuseOpen = true ∧ t.cp.ready = false ∧
    t.cp.held = s.cp.held ∧ (∀ d, (t.dom d).st = .off ∧ (t.dom d).req = false) ∧ t.rot = {} ∧ t.ext = s.ext ∧
    t = { State.reset with
      pending := s.pending, free := s.free, gen := s.gen, ext := s.ext, regs := t.regs, sram := t.sram, epochs := t.epochs
      pins := { s.pins with pulse := 0, trigAt := none }, cp := t.cp, pwr := { doms := t.pwr.doms }, lanes := t.lanes }) ∧
  (∀ (s : State) (lot : BitVec 32) (die : BitVec 24) (xl : BitVec 2) (rf : Bool), s.cp.rst = .cold →
    ∃ t, exec (.resetRelease lot die xl rf) s = .next t ∧
      t.cp = { s.cp with rst := .none, idLot := lot, idDie := die, xlIdx := xl, rfPrimary := rf } ∧ t.cyc = 0 ∧
      (∀ a, strapAddr a = false → t.rd a = s.rd a) ∧ t = { s with cp := t.cp, cyc := 0, regs := t.regs }) ∧
  (∀ (s : State) (lot : BitVec 32) (die : BitVec 24) (xl : BitVec 2) (rf : Bool), s.cp.rst = .warm →
    exec (.resetRelease lot die xl rf) s = .next { s with cp := { s.cp with rst := .none }, cyc := 0 })

/-- WARM_RESET, while PORST_N is high, makes the control port not ready and keeps a request held on it, drops a held store write,
isolates every domain that is not OFF (POWERING_DOWN), returns the angle unit, the map cache, the rings, the decoder pool and
the links to their reset state, gives up the requests no port has issued and keeps every issued write and outstanding read until
its beats have passed, clears the core-cycle counter, keeps external memory, sets STATUS.WARM, and counts in RST_CNT, which
holds at its greatest value. A slice with power keeps FLn_WP_N and its ownership. WP_HOLD_END then drops FLn_WP_N and releases
the channel, and changes nothing but that channel and the power request of its group, which falls with the last slice that is
held. Completion (exec answers next with the form's own effect, from these conditions alone) is stated for: warmReset,
wpHoldEnd. -/
def Obligations.WarmResetKeepsMemoryAndIsolatesDomains : Prop :=
  (∀ s : State, s.cp.rst ≠ .cold → ∃ t, exec .warmReset s = .next t ∧ t.cp.rst = .warm ∧ t.cp.ready = false ∧ t.cp.held = s.cp.held ∧
    t.cp.hold = none ∧ t.cyc = 0 ∧ t.ext = s.ext ∧ t.ang = {} ∧ t.map = {} ∧ t.rng = {} ∧ t.dec = {} ∧ t.lnk = {} ∧
    t.mp.queue = [] ∧ t.mp.done = [] ∧ t.mp.reads = s.mp.reads.map (fun r => { r with use := .none }) ∧
    t.mp.writes = s.mp.writes.map (fun w => { w with use := .none }) ∧
    t.flag R.SYS_STATUS_WARM = true ∧
    t.get R.FAULT_RST_CNT_CNT = sat R.FAULT_RST_CNT_CNT.max (s.get R.FAULT_RST_CNT_CNT + 1) ∧
    (∀ d < 13, (t.dom d).st = if (s.dom d).st = .off then .off else .poweringDown) ∧
    (∀ n < 48, (t.ch n).wpHeld = s.slicePowered n ∧ (t.ch n).wp = (s.slicePowered n && (s.ch n).wp) ∧ (t.ch n).slots = [] ∧
      (t.ch n).own = if s.slicePowered n then (s.ch n).own else {})) ∧
  (∀ (s : State) (ch : Fin 48), (s.ch ch).wpHeld = true → ∃ t, exec (.wpHoldEnd ch) s = .next t ∧
    (t.ch ch).wp = false ∧ (t.ch ch).wpHeld = false ∧ (t.ch ch).own = {} ∧ (∀ n, n ≠ ch.val → t.ch n = s.ch n) ∧
    (∀ d, d ≠ chDom ch → t.dom d = s.dom d) ∧
    ((s.dom (chDom ch)).warm = true → (s.dom (chDom ch)).st = .poweringDown →
      (∀ n ∈ domChans (chDom ch), n ≠ ch.val → (s.ch n).wpHeld = false) → (t.dom (chDom ch)).req = false) ∧
    t = { s with chans := t.chans, pwr := { s.pwr with doms := t.pwr.doms } })

/-- FUSE_RECORD, while the stream is open, no reset is asserted, the block is not in Grave and fewer than 1,024 records have come,
keeps the record; the last one closes the stream and the records are applied; a single valid record is then a repair in force
and counts in FUSE_STAT.APPLIED, or, where it is refused, counts in FUSE_STAT.BAD and repairs nothing. FUSE_TIMEOUT closes the
stream, sets SYS.STATUS.FUSE_TO, raises FUSE_TIMEOUT and counts at source 0. SRAM keeps its words where no repair is in force.
Outside FUSE_STAT, STATUS and the two event words every register word keeps its value. PORT_READY then makes the control port
ready; with no held request nothing else changes, and a held write or read of SYS.SCRATCH is then performed. Completion (exec
answers next with the form's own effect, from these conditions alone) is stated for: fuseRecord, fuseTimeout, portReady. -/
def Obligations.FuseStreamEndsWithTheLastRecord : Prop :=
  (∀ (s : State) (r : Word), s.cp.fuseOpen = true → s.cp.rst = .none → s.grave = false → s.cp.fuseCnt < 1024 →
    exec (.fuseRecord r false) s = .next { s with
      cp := { s.cp with fuseCnt := s.cp.fuseCnt + 1 }, memi := { s.memi with fuse := s.memi.fuse ++ [r] } }) ∧
  (∀ (s : State) (r : Word), s.cp.fuseOpen = true → s.cp.rst = .none → s.grave = false → s.cp.fuseCnt < 1024 →
    ∃ t, exec (.fuseRecord r true) s = .next t ∧ t.cp = { s.cp with fuseCnt := s.cp.fuseCnt + 1, fuseOpen := false } ∧
      s.wordsKept t [R.MEMI_FUSE_STAT_BAD.addr, R.MEMI_FUSE_STAT_APPLIED.addr, evtAddr .memi 0] ∧
      t = { s with cp := t.cp, memi := { s.memi with fuse := t.memi.fuse }, regs := t.regs, pins := t.pins, flt := t.flt, sram := t.sram, epochs := t.epochs } ∧
      (t.memi.fuse = [] → t.sram = s.sram)) ∧
  (∀ (s : State) (r : Word), s.cp.fuseOpen = true → s.cp.rst = .none → s.grave = false → s.cp.fuseCnt < 1024 → s.memi.fuse = [] →
    r.getLsbD 31 = true → ∃ t, exec (.fuseRecord r true) s = .next t ∧ t.memi.fuse = (if fuseBad [] r then [] else [r]) ∧
      t.get R.MEMI_FUSE_STAT_APPLIED = sat R.MEMI_FUSE_STAT_APPLIED.max (s.get R.MEMI_FUSE_STAT_APPLIED + if fuseBad [] r then 0 else 1) ∧
      t.get R.MEMI_FUSE_STAT_BAD = sat R.MEMI_FUSE_STAT_BAD.max (s.get R.MEMI_FUSE_STAT_BAD + if fuseBad [] r then 1 else 0)) ∧
  (∀ s : State, s.cp.fuseOpen = true → s.cp.rst = .none →
    ∃ t, exec .fuseTimeout s = .next t ∧ t.cp = { s.cp with fuseOpen := false } ∧ t.get R.SYS_STATUS_FUSE_TO = 1 ∧
      t.event .sys 0 1 = true ∧ t.flt.inflight.getLast? = some ⟨0, 0, s.cyc, false⟩ ∧
      s.wordsKept t [R.MEMI_FUSE_STAT_BAD.addr, R.MEMI_FUSE_STAT_APPLIED.addr, evtAddr .memi 0, R.SYS_STATUS_FUSE_TO.addr, evtAddr .sys 0] ∧
      t = { s with cp := t.cp, memi := { s.memi with fuse := t.memi.fuse }, regs := t.regs, pins := t.pins, flt := t.flt, sram := t.sram, epochs := t.epochs } ∧
      (t.memi.fuse = [] → t.sram = s.sram)) ∧
  (∀ s : State, s.cp.rst = .none → s.cp.fuseOpen = false → s.cp.ready = false → s.cp.held = none →
    exec .portReady s = .next { s with cp := { s.cp with ready := true } }) ∧
  (∀ (s u : State) (be : BitVec 4) (d : Word), s.cp.rst = .none → s.cp.fuseOpen = false → s.cp.ready = false → s.cp.hold = none →
    u = { s with cp := { s.cp with ready := true, held := none } } → be ≠ 0 →
    (s.cp.held = some ⟨true, 0x64#24, be, d⟩ → exec .portReady s = .next (u.wr 0x64 ((s.rd 0x64 &&& ~~~beMask be) ||| (d &&& beMask be)))) ∧
    (s.cp.held = some ⟨false, 0x64#24, be, d⟩ → exec .portReady s = .next { u with cp := { u.cp with rdata := s.rd 0x64 } }))

/-- REGISTER_WRITE at any address, by the state of the port: not ready, the request is held and nothing else changes; no page or
window there, nothing changes; the domain without power, OFF_ADDR takes the address, OFF_ACCESS is raised, and no other register
word changes. Taken, a write of SYS.SCRATCH gives the word the enabled bytes of the data and keeps the others, and a write of
EVT_EN of any present page with power gives that word the enabled bytes; every other word and all other state stays. Completion
(exec answers next with the form's own effect, from these conditions alone) is stated for: registerWrite. -/
def Obligations.RegisterWriteReachesItsWord : Prop :=
  (∀ (s : State) (a : BitVec 24) (be : BitVec 4) (d : Word), s.cpReady = false →
    exec (.registerWrite a be d) s = .next { s with cp := { s.cp with held := some ⟨true, BitVec.ofNat 24 (a.toNat / 4 * 4), be, d⟩ } }) ∧
  (∀ (s : State) (a : BitVec 24) (be : BitVec 4) (d : Word), s.cpReady = true → s.addrDom (a.toNat / 4 * 4) = none →
    exec (.registerWrite a be d) s = .next s) ∧
  (∀ (s : State) (a : BitVec 24) (be : BitVec 4) (d : Word) (k : Nat), s.cpReady = true → s.addrDom (a.toNat / 4 * 4) = some k →
    s.powered k = false → ∃ t, exec (.registerWrite a be d) s = .next t ∧ t.get R.SYS_OFF_ADDR_ADDR = a.toNat / 4 * 4 ∧
      t.event .sys 0 0 = true ∧ s.wordsKept t [R.SYS_OFF_ADDR_ADDR.addr, evtAddr .sys 0] ∧ t = { s with regs := t.regs, pins := t.pins }) ∧
  (∀ (s : State) (be : BitVec 4) (d : Word), s.portTakes 0x64 → be ≠ 0 →
    exec (.registerWrite 0x64#24 be d) s = .next (s.wr 0x64 ((s.rd 0x64 &&& ~~~beMask be) ||| (d &&& beMask be)))) ∧
  (∀ (s : State) (k : Fin 103) (d : Word), s.portTakes (k.val * 0x1000 + 0x14) →
    ∃ t, exec (.registerWrite (BitVec.ofNat 24 (k.val * 0x1000 + 0x14)) 0xF#4 d) s = .next t ∧ t.rd (k.val * 0x1000 + 0x14) = d ∧
      s.wordsKept t [k.val * 0x1000 + 0x14] ∧ t = { s with regs := t.regs })

/-- OFF_ACCESS for every address, direction and data. When the port is ready and the address lies in a present page or window whose
domain has no power: the event bit OFF_ACCESS of SYS is 1 afterwards, OFF_ADDR holds the address of the word (bits [1:0] 0: the
model's reading, log entry 33), a read's CP_RDATA is 0, no other register word changes and no other state but the pulse lines.
While the port is not ready the request is held and nothing else changes. HOLD_DROP, with a customer-region write held and no
request waiting, drops the write, clears HOLD_ACTIVE of its group and raises the group's event HOLD_DROP; the store and every
other word are as before. Completion (exec answers next with the form's own effect, from these conditions alone) is stated for:
offAccess, holdDrop. -/
def Obligations.OffAccessReportsTheAddress : Prop :=
  (∀ (s : State) (a : BitVec 24) (we : Bool) (be : BitVec 4) (d : Word) (k : Nat), s.cpReady = true → s.addrDom a.toNat = some k →
    s.powered k = false → ∃ t, exec (.offAccess a we be d) s = .next t ∧ t.event .sys 0 0 = true ∧
      t.get R.SYS_OFF_ADDR_ADDR = a.toNat / 4 * 4 ∧
      t.cp = (if we then s.cp else { s.cp with rdata := 0 }) ∧ s.wordsKept t [R.SYS_OFF_ADDR_ADDR.addr, evtAddr .sys 0] ∧
      t = { s with regs := t.regs, pins := t.pins, cp := t.cp }) ∧
  (∀ (s : State) (a : BitVec 24) (we : Bool) (be : BitVec 4) (d : Word), s.cpReady = false →
    exec (.offAccess a we be d) s = .next { s with cp := { s.cp with held := some ⟨we, a, be, d⟩ } }) ∧
  (∀ (s : State) (h : HeldWrite), s.cp.hold = some h → s.cp.held = none → ∃ t, exec .holdDrop s = .next t ∧ t.cp.hold = none ∧
    t.event .seqg h.grp 1 = true ∧ t.get (R.SEQG_STATUS_HOLD_ACTIVE h.grp) = 0 ∧
    s.wordsKept t [evtAddr .seqg h.grp, (R.SEQG_STATUS_HOLD_ACTIVE h.grp).addr] ∧ t.sram = s.sram ∧ t.ext = s.ext)

/-- MEMORY_READ_RETURN serves the read that its port has issued first in its class. A beat without RD_ERR that is not the last adds
its 64 bytes to the read's data and changes nothing else. One with RD_ERR marks the beat as no data, raises MP_ERR, counts at
the port's source, and changes no other register word. The last beat takes the read off the outstanding ones; one whose reader
uses the data at a command of its own (a map line, a spool block) is then ended with its data and its marks (no other read
waiting for a tag), and nothing else changes. Completion (exec answers next with the form's own effect, from these conditions
alone) is stated for: memoryReadReturn. -/
def Obligations.MemoryReadBeatsCompleteInOrder : Prop :=
  ∀ (s : State) (port : Fin 2) (cls : Fin 4) (d : Line) (r : MpRead),
    s.mp.reads.find? (fun x => x.port = port.val ∧ x.cls = cls.val) = some r →
    (r.beat + 1 ≠ r.lines → exec (.memoryReadReturn port cls d false false) s = .next { s with
      mp := { s.mp with reads := s.mp.reads.map (fun x => if x = r then
        { r with beat := r.beat + 1, data := r.data ++ leBytes 64 d.toNat } else x) } }) ∧
    (r.beat + 1 ≠ r.lines → r.use ≠ .none → ∃ t, exec (.memoryReadReturn port cls d false true) s = .next t ∧ t.event .memi 0 10 = true ∧
      t.flt.inflight = s.flt.inflight ++ [⟨38 + port, 0, s.cyc, false⟩] ∧
      t.mp = { s.mp with reads := s.mp.reads.map (fun x => if x = r then
        { r with beat := r.beat + 1, data := r.data ++ List.replicate 64 0, bad := r.bad ++ [r.beat] } else x) } ∧
      s.wordsKept t [evtAddr .memi 0] ∧ t = { s with mp := t.mp, regs := t.regs, pins := t.pins, flt := t.flt }) ∧
    (r.beat + 1 = r.lines → s.mp.queue = [] → ((∃ k, r.use = .mapLine k) ∨ (∃ n b, r.use = .spool n b)) →
      exec (.memoryReadReturn port cls d true false) s = .next { s with
        mp := { s.mp with reads := s.mp.reads.erase r
                          done := s.mp.done ++ [{ r with beat := r.beat + 1, data := r.data ++ leBytes 64 d.toNat }] } })

/-- MEMORY_WRITE_ACCEPTED takes further lines of the write that its port presents. Accepting every line that is left: each byte of
the write's data from those lines reads back from external memory at its address and every byte of external memory outside the
write's run is as before. With nothing else waiting for the port, the write of requester RB is no longer presented and nothing
else changes. Accepting only part of the lines, the write stays presented with the lines counted, and nothing else changes but
external memory within its run (the spool's head places apart). Completion (exec answers next with the form's own effect, from
these conditions alone) is stated for: memoryWriteAccepted. -/
def Obligations.AcceptedWriteIsVisibleInMemory : Prop :=
  ∀ (s : State) (port : Fin 2) (k : Fin 64) (w : MpWrite), s.mp.writes.find? (fun x => x.port = port.val) = some w →
    (w.lines ≤ w.beat + k + 1 → ∃ t, exec (.memoryWriteAccepted port k) s = .next t ∧
      (∀ i, w.before w.beat ≤ i → i < w.data.length → some (tget zeroByte t.ext (w.addr + i)) = w.data[i]?) ∧
      (∀ a, a < w.addr ∨ w.addr + w.data.length ≤ a → tget zeroByte t.ext a = tget zeroByte s.ext a) ∧
      t.rot = s.rot ∧ t.ang = s.ang ∧ t.cyc = s.cyc) ∧
    (w.lines ≤ w.beat + k + 1 → w.use = .rb → s.mp.queue = [] → exec (.memoryWriteAccepted port k) s = .next { s with
      ext := tstore s.ext (w.addr + w.before w.beat) (w.data.drop (w.before w.beat)), mp := { s.mp with writes := s.mp.writes.erase w } }) ∧
    (w.beat + k + 1 < w.lines → w.use = .rb → ∃ t, exec (.memoryWriteAccepted port k) s = .next t ∧
      (∀ a, a < w.addr ∨ w.addr + w.data.length ≤ a → tget zeroByte t.ext a = tget zeroByte s.ext a) ∧
      t = { s with ext := t.ext, mp := { s.mp with writes := s.mp.writes.map (fun x => if x = w then { w with beat := w.beat + k + 1 } else x) } })

/-- OWN_GRANT sets FLn_OWN_REQ of a slice that claims, is not claiming yet and has no conflict. OWN_ACQUIRE with the grant makes a
claiming slice own its channel; without it a standby drops its claim; when both blocks are primary the claim falls, OWN_CONFLICT
is raised and counted. OWN_RELEASE of an owned channel with every chip enable high, not claimed, without slots or park records,
gives it up. OWN_CLR ends the conflicts. CLAIM_WRITE sets the word. Nothing else changes. Completion (exec answers next with the
form's own effect, from these conditions alone) is stated for: ownAcquire, ownRelease, ownClr, claimWrite, ownGrant. -/
def Obligations.ChannelOwnershipHandshake : Prop :=
  (∀ (s : State) (n : Fin 48), s.claims n = true → (s.ch n).own.req = false → (s.ch n).own.conflict = false →
    ∃ t, exec (.ownGrant n) s = .next t ∧ (t.ch n).own = { (s.ch n).own with req := true } ∧
      (∀ k, k ≠ n.val → t.ch k = s.ch k) ∧ t = { s with chans := t.chans }) ∧
  (∀ (s : State) (n : Fin 48) (both : Bool), (s.ch n).own.req = true → (s.ch n).own.owned = false →
    ∃ t, exec (.ownAcquire n true both) s = .next t ∧ (t.ch n).own = { (s.ch n).own with owned := true } ∧
      (∀ k, k ≠ n.val → t.ch k = s.ch k) ∧ t = { s with chans := t.chans }) ∧
  (∀ (s : State) (n : Fin 48) (both : Bool), (s.ch n).own.req = true → (s.ch n).own.owned = false →
    s.flag R.REFL_CFG_PRIMARY = false → ∃ t, exec (.ownAcquire n false both) s = .next t ∧
      (t.ch n).own = { (s.ch n).own with req := false } ∧ (∀ k, k ≠ n.val → t.ch k = s.ch k) ∧ t = { s with chans := t.chans }) ∧
  (∀ (s : State) (n : Fin 48), (s.ch n).own.req = true → (s.ch n).own.owned = false → s.flag R.REFL_CFG_PRIMARY = true →
    s.gen.refl = true → ∃ t, exec (.ownAcquire n false true) s = .next t ∧
      (t.ch n).own = { (s.ch n).own with req := false, want := false, conflict := true } ∧ t.event .refl 0 4 = true ∧
      t.flt.inflight = s.flt.inflight ++ [⟨67, 0, s.cyc, false⟩] ∧ (∀ k, k ≠ n.val → t.ch k = s.ch k) ∧ s.wordsKept t [evtAddr .refl 0] ∧
      t = { s with chans := t.chans, regs := t.regs, pins := t.pins, flt := t.flt }) ∧
  (∀ (s : State) (n : Fin 48), s.gen.refl = true → (s.ch n).own.owned = true → (s.ch n).eng.sel = none → s.chanEmpty n = true →
    s.claimBit n = false → (s.ch n).own.want = false → ∃ t, exec (.ownRelease n) s = .next t ∧ (t.ch n).own.owned = false ∧
      (t.ch n).own.req = false ∧ (∀ k, k ≠ n.val → t.ch k = s.ch k) ∧ t = { s with chans := t.chans }) ∧
  (∀ (s : State) (n : Fin 48), (s.ch n).own.owned = true → (s.ch n).eng.sel ≠ none → exec (.ownRelease n) s = .next s) ∧
  (∀ s : State, s.portTakes R.REFL_CTRL_OWN_CLR.addr → s.flag R.REFL_CTRL_ENABLE = false →
    ∃ t, exec .ownClr s = .next t ∧ (∀ n, n < s.gen.nch → (t.ch n).own.conflict = false) ∧
      s.wordsKept t [] ∧ t = { s with regs := t.regs, chans := t.chans }) ∧
  (∀ (s : State) (reg : Fin 2) (d : Word), s.portTakes (R.REFL_CLAIM_LO_CH.addr + 4 * reg) →
    ∃ t, exec (.claimWrite reg d) s = .next t ∧
      t.rd (R.REFL_CLAIM_LO_CH.addr + 4 * reg) = (if reg = 0 then d else (s.rd R.REFL_CLAIM_HI_CH.addr &&& 0xFFFF0000#32) ||| (d &&& 0xFFFF#32)) ∧
      s.wordsKept t [R.REFL_CLAIM_LO_CH.addr + 4 * reg] ∧ t = { s with regs := t.regs, chans := t.chans })

/-- EVT_FORCE on a present page with power: afterwards bit b of EVT_RAW is 1 exactly if it was 1 or bit b of the data is 1, for
every b from 0 to 31; no other register word changes, no fault source counts, and nothing else changes but the pulse lines.
PULSE_END ends the pulse of its line and changes nothing else. Completion (exec answers next with the form's own effect, from
these conditions alone) is stated for: evtForce, pulseEnd. -/
def Obligations.EventsAreForcedAndPulsesEnd : Prop :=
  (∀ (s : State) (k : BitVec 12) (d : Word) (p : Page) (n : Nat), pageOfIndex k.toNat = some (p, n) →
    s.portTakes (k.toNat * 0x1000 + 0x1C) → ∃ t, exec (.evtForce k d) s = .next t ∧
      (∀ b, b < 32 → t.event p n b = (s.event p n b || d.getLsbD b)) ∧ s.wordsKept t [evtAddr p n] ∧
      t = { s with regs := t.regs, pins := t.pins }) ∧
  (∀ (s : State) (l : Fin 4), exec (.pulseEnd l) s = .next { s with pins := { s.pins with pulse := s.pins.pulse &&& ~~~(1#4 <<< l.val) } })

/-- FULL_TRAIN, READ_RETRAIN and EYE_SCAN on a slice that is not busy and in RUN or FALLBACK, with a present target in the mask:
BUSY becomes 1 and the slice runs the command on the present targets of the mask in ascending order; no other word of the
channel and no other state changes. While BUSY is 1, each of them sets RESULT to BUSY (7), raises PHY_DONE and changes nothing
else; while the slice is not busy and not in RUN or FALLBACK, each sets RESULT to NOT_INIT (8) and raises PHY_DONE. Completion
(exec answers next with the form's own effect, from these conditions alone) is stated for: fullTrain, readRetrain, eyeScan. -/
def Obligations.PhyCommandsStartOnceAndWait : Prop :=
  ∀ (s : State) (n : Fin 48) (m : BitVec 8), s.portTakes (R.CH_PHY_CMD_CMD n).addr →
    ∀ q ∈ ([(.full, .fullTrain n m), (.retrain, .readRetrain n m), (.scan, .eyeScan n m)] : List (PhyKind × Instr)),
    (∀ ts, ts = (s.presentCes n).filter (bit m.toNat) → s.flag (R.CH_PHY_STAT_BUSY n) = false → s.phyRuns n = true → ts ≠ [] →
      ∃ t, exec q.2 s = .next t ∧ (t.ch n).phy = { (s.ch n).phy with cmd := some { kind := q.1, left := ts, all := ts } } ∧
        t.flag (R.CH_PHY_STAT_BUSY n) = true ∧ (∀ k, k ≠ n.val → t.ch k = s.ch k) ∧
        s.wordsKept t [(R.CH_PHY_STAT_BUSY n).addr] ∧ t = { s with chans := t.chans, regs := t.regs }) ∧
    (s.flag (R.CH_PHY_STAT_BUSY n) = true → ∃ t, exec q.2 s = .next t ∧ t.get (R.CH_PHY_STAT_RESULT n) = 7 ∧ t.event .ch n 4 = true ∧
        s.wordsKept t [(R.CH_PHY_STAT_RESULT n).addr, evtAddr .ch n] ∧ t = { s with regs := t.regs, pins := t.pins }) ∧
    (s.flag (R.CH_PHY_STAT_BUSY n) = false → s.phyRuns n = false → ∃ t, exec q.2 s = .next t ∧ t.get (R.CH_PHY_STAT_RESULT n) = 8 ∧ t.event .ch n 4 = true ∧
        s.wordsKept t [(R.CH_PHY_STAT_RESULT n).addr, evtAddr .ch n] ∧ t = { s with regs := t.regs, pins := t.pins })

/-- INIT on an idle slice that the block owns. When no target of the mask answers with the ONFI signature and no descriptor waits in
a slot: RESULT is NO_DIE (1), BUSY 0, STATE 1, PHY_DONE is raised, no target is present and the slice has no geometry and no
command; only PHY_STAT and the channel's event word change. When target c alone is asked for, answers with the signature and
with a parameter-page copy whose CRC-16 matches, MODE is NV-DDR3 or NV-LPDDR4, the page declares a rate for it, and N and P are
in range: target c alone is present, BUSY is 1, the geometry is the page's, and an INIT training of target c waits for the PLL
to relock; no other channel changes. Completion (exec answers next with the form's own effect, from these conditions alone) is
stated for: phyInit. -/
def Obligations.InitFindsDiesAndStartsTraining : Prop :=
  (∀ (s : State) (n : Fin 48) (m : BitVec 8) (dies : List DieAns) (tm : List Nat), s.portTakes (R.CH_PHY_CMD_CMD n).addr →
    s.ownsCh n = true → s.flag (R.CH_PHY_STAT_BUSY n) = false → (s.ch n).slots = [] → s.initAsked n m = false → (∀ d ∈ dies, d.sig = false) →
    ∃ t, exec (.phyInit n m dies tm) s = .next t ∧ t.get (R.CH_PHY_STAT_RESULT n) = 1 ∧ t.flag (R.CH_PHY_STAT_BUSY n) = false ∧
      t.get (R.CH_PHY_STAT_STATE n) = 1 ∧
      t.get (R.CH_PHY_STAT_CE_PRESENT n) = 0 ∧ (t.ch n).phy.geo = none ∧ (t.ch n).phy.cmd = none ∧ t.event .ch n 4 = true ∧
      s.wordsKept t [(R.CH_PHY_STAT_BUSY n).addr, evtAddr .ch n] ∧ (∀ k, k ≠ n.val → t.ch k = s.ch k) ∧
      t = { s with chans := t.chans, luns := t.luns, regs := t.regs, pins := t.pins }) ∧
  (∀ (s : State) (n : Fin 48) (c : Fin 8) (dies : List DieAns) (tm : List Nat) (a : DieAns) (p : PageCopy),
    s.portTakes (R.CH_PHY_CMD_CMD n).addr → s.ownsCh n = true → s.flag (R.CH_PHY_STAT_BUSY n) = false → s.initAsked n (1#8 <<< c.val) = false →
    dies[c.val]? = some a → a.sig = true → pageTaken a = some p →
    ((s.get (R.CH_PHY_CTRL_MODE n) = 1 ∧ p.decl.ddr3 ≠ 0) ∨ (s.get (R.CH_PHY_CTRL_MODE n) = 2 ∧ p.decl.lpddr4 ≠ 0)) →
    6 ≤ s.get (R.CH_PHY_CTRL_N n) → s.get (R.CH_PHY_CTRL_N n) ≤ 12 → s.get (R.CH_PHY_CTRL_P n) ≤ 4 →
    ∃ t, exec (.phyInit n (1#8 <<< c.val) dies tm) s = .next t ∧
      (t.ch n).phy.cmd = some { kind := .init, left := [c.val], all := [c.val], relock := true, rated := true } ∧
      (t.ch n).phy.geo = some (geoOf p.decl) ∧ t.get (R.CH_PHY_STAT_CE_PRESENT n) = 2 ^ c.val ∧ t.flag (R.CH_PHY_STAT_BUSY n) = true ∧
      (∀ k, k ≠ n.val → t.ch k = s.ch k) ∧ (s.mirrors = false → t = { s with chans := t.chans, luns := t.luns, regs := t.regs }))

/-- TRAIN_TARGET_START of any training command whose next target may be trained, with what its sweeps measure and no command-cycle
failure: each lane in use whose read sweep has an eye takes its width (right − left + 1), and, except in EYE_SCAN, its read trim
is (left + right) div 2; INIT and FULL_TRAIN do the same for the write sweep, READ_RETRAIN leaves write trims and eyes; EYE_SCAN
leaves trims and reference code. READ_RETRAIN marks the target trained and tells the standby; EYE_SCAN leaves CE_TRAINED and
changes nothing but the slice and its channel's words. A command-cycle failure in FULL_TRAIN ends the command: STATE 4 (FAILED),
RESULT TRAIN_FAIL (5), PHY_DONE. PLL_LOCK ends the relock and changes nothing else. Completion (exec answers next with the
form's own effect, from these conditions alone) is stated for: trainTargetStart, pllLock. -/
def Obligations.TrainingCommitsAsAWhole : Prop :=
  (∀ (s : State) (n : Fin 48) (res : TrainRes) (c : PhyRun) (g : Nat) (rest lanes : List Nat), (s.ch n).phy.cmd = some c →
    c.left = g :: rest → s.trainMay n c g = true → g < 8 → res.cmdFail = false → lanes = lanesOf (s.get (R.CH_LANE_MAP_ACTIVE n)) →
    ∃ t, exec (.trainTargetStart n res) s = .next t ∧
      ∀ a, a = (tget (fun _ => {}) (s.ch n).phy.targets g : TargetS) → ∀ b, b = (tget (fun _ => {}) (t.ch n).phy.targets g : TargetS) →
      (∀ l, l < 9 → ∀ e, l ∈ lanes → eyeOf (res.rd.getD l []) = some e → b.rdEye[l]? = some (e.2 + 1 - e.1) ∧
        (c.kind ≠ .scan → a.rdTrim.length = 9 → b.rdTrim[l]? = some ((e.1 + e.2) / 2))) ∧
      (c.kind = .init ∨ c.kind = .full → ∀ l, l < 9 → ∀ e, l ∈ lanes → eyeOf (res.wr.getD l []) = some e →
        b.wrEye[l]? = some (e.2 + 1 - e.1) ∧ (a.wrTrim.length = 9 → b.wrTrim[l]? = some ((e.1 + e.2) / 2))) ∧
      (c.kind = .retrain → b.wrTrim = a.wrTrim ∧ b.wrEye = a.wrEye ∧ bit (t.get (R.CH_PHY_STAT_CE_TRAINED n)) g = true) ∧
      (c.kind = .scan → b.rdTrim = a.rdTrim ∧ b.wrTrim = a.wrTrim ∧ b.ref = a.ref ∧
        t.get (R.CH_PHY_STAT_CE_TRAINED n) = s.get (R.CH_PHY_STAT_CE_TRAINED n)) ∧
      (∀ k, k ≠ n.val → t.ch k = s.ch k) ∧
      (c.kind = .retrain → t = { s with chans := t.chans, regs := t.regs, pins := t.pins, lnk := t.lnk, memi := t.memi, flt := t.flt }) ∧
      (c.kind = .scan → t = { s with chans := t.chans, regs := t.regs, pins := t.pins })) ∧
  (∀ (s : State) (n : Fin 48) (res : TrainRes) (c : PhyRun) (g : Nat) (rest : List Nat), (s.ch n).phy.cmd = some c → c.kind = .full →
    c.left = g :: rest → s.trainMay n c g = true → res.cmdFail = true → ∃ t, exec (.trainTargetStart n res) s = .next t ∧
      t.get (R.CH_PHY_STAT_STATE n) = 4 ∧ t.get (R.CH_PHY_STAT_RESULT n) = 5 ∧ t.flag (R.CH_PHY_STAT_BUSY n) = false ∧
      t.event .ch n 4 = true ∧ (t.ch n).phy = { (s.ch n).phy with cmd := none } ∧ (∀ k, k ≠ n.val → t.ch k = s.ch k) ∧
      s.wordsKept t [(R.CH_PHY_STAT_STATE n).addr, evtAddr .ch n] ∧
      t = { s with chans := t.chans, regs := t.regs, pins := t.pins, flt := t.flt }) ∧
  (∀ (s : State) (n : Fin 48), ∃ t, exec (.pllLock n) s = .next t ∧
    (t.ch n).phy = { (s.ch n).phy with cmd := (s.ch n).phy.cmd.map (fun c => { c with relock := false }) } ∧
    (∀ k, k ≠ n.val → t.ch k = s.ch k) ∧ t = { s with chans := t.chans })

/-- READ_BURST on a running data-in burst. One that locks leaves the burst locked with PRE_MISS 0; with tracking on MAX_OFS takes
the greatest offset and a lane at its limit raises TRACK_LIM; with tracking off nothing else changes. One that misses its
preamble ends the burst, sets PRE_MISS, counts in TRACK.PRE_MISS (held at its greatest value), raises PREAMBLE_MISS and counts
at the channel's PHY source with its LUN. Without a running burst nothing changes. LUN_POLL of a LUN with a park record or an
operation, on a slice that carries traffic and whose engine has run its entries, keeps the status byte in the park record; with
RDY (bit 6) the record is ready, a pending suspend has taken effect, and a running operation that is neither suspended nor
unconfirmed has ended. A routine that reads from a suspended LUN takes the status byte itself. No other LUN and no other channel
changes. Completion (exec answers next with the form's own effect, from these conditions alone) is stated for: readBurst,
lunPoll. -/
def Obligations.ReadBurstsLockOrMiss : Prop :=
  (∀ (s : State) (n : Fin 48) (o : List (List (Bool × Bool))), (s.ch n).eng.burst = .inRunning →
    (∃ t, exec (.readBurst n true o) s = .next t ∧ (t.ch n).eng.burst = .inLocked ∧ (t.ch n).eng.preMiss = false ∧
      (∀ k, k ≠ n.val → t.ch k = s.ch k)) ∧
    (s.flag (R.CH_PHY_CTRL_TRACK_EN n) = true → ∃ t, exec (.readBurst n true o) s = .next t ∧
      t.get (R.CH_TRACK_MAX_OFS n) = (s.trackBurst n o).foldl (fun m x => max m x.top) (s.get (R.CH_TRACK_MAX_OFS n)) % 2 ^ (R.CH_TRACK_MAX_OFS n).wid ∧
      ((s.trackBurst n o).any (fun x => x.lim) = true → t.event .ch n 6 = true) ∧ t = { s with chans := t.chans, regs := t.regs, pins := t.pins, flt := t.flt }) ∧
    (s.flag (R.CH_PHY_CTRL_TRACK_EN n) = false → ∃ t, exec (.readBurst n true o) s = .next t ∧
      (t.ch n).eng = { (s.ch n).eng with preMiss := false, burst := .inLocked } ∧
      (∀ k, k ≠ n.val → t.ch k = s.ch k) ∧ t = { s with chans := t.chans })) ∧
  (∀ (s : State) (n : Fin 48) (k : Bool) (o : List (List (Bool × Bool))), (s.ch n).eng.burst ≠ .inRunning → exec (.readBurst n k o) s = .next s) ∧
  (∀ (s : State) (n : Fin 48) (o : List (List (Bool × Bool))), (s.ch n).eng.burst = .inRunning → n.val < s.gen.nch →
    ∃ t, exec (.readBurst n false o) s = .next t ∧ (t.ch n).eng = { (s.ch n).eng with burst := .none, preMiss := true } ∧
      t.get (R.CH_TRACK_PRE_MISS n) = min 255 (s.get (R.CH_TRACK_PRE_MISS n) + 1) ∧ t.event .ch n 5 = true ∧
      t.flt.inflight = s.flt.inflight ++ [⟨80 + 3 * n, BitVec.ofNat 32 (0x500 + ((s.ch n).eng.bDesc.map Desc.lun).getD 0), s.cyc, false⟩] ∧ s.wordsKept t [(R.CH_TRACK_PRE_MISS n).addr, evtAddr .ch n] ∧
      t = { s with chans := t.chans, regs := t.regs, pins := t.pins, flt := t.flt }) ∧
  (∀ (s : State) (n : Fin 48) (l : Fin 16) (rb : BitVec 4) (b : BitVec 8), s.opBus n = true → s.readPolls n l = false → (s.lun n l).polled = true →
    ∃ t, exec (.lunPoll n l rb b) s = .next t ∧
    (t.lun n l).park = (s.lun n l).park.map (fun p => { p with status := b, ready := p.ready || b.getLsbD 6 }) ∧
    (t.lun n l).suspOk = ((s.lun n l).suspOk || (b.getLsbD 6 && (s.lun n l).susp)) ∧
    (b.getLsbD 6 = true → (s.lun n l).susp = false → (s.lun n l).op ≠ .unconfirmed → (t.lun n l).op = .none) ∧
    (b.getLsbD 6 = false → (t.lun n l).op = (s.lun n l).op) ∧ (t.ch n).phy = { (s.ch n).phy with rb := rb } ∧
    (∀ k j, k * 16 + j ≠ n.val * 16 + l.val → t.lun k j = s.lun k j) ∧ (∀ k, k ≠ n.val → t.ch k = s.ch k) ∧
    t = { s with luns := t.luns, chans := t.chans }) ∧
  (∀ (s : State) (n : Fin 48) (l : Fin 16) (rb : BitVec 4) (b : BitVec 8), s.opBus n = true → s.readPolls n l = true → ∃ t, exec (.lunPoll n l rb b) s = .next t ∧
    (t.ch n).ctx.status = b ∧ (b.getLsbD 6 = true → (t.ch n).ctx.reg 3 = 2) ∧ (b.getLsbD 6 = false → (t.ch n).ctx.reg 3 = 1) ∧ (∀ k, k ≠ n.val → t.ch k = s.ch k) ∧ t = { s with chans := t.chans })

/-- A context that runs and fetches the word: NOP gives PC + 1; JMP gives tgt; BR gives tgt when the condition has the polarity and
PC + 1 otherwise; CALL puts PC + 1 into m7 and gives tgt; RET gives m7[13:0]; DISPATCH gives base in bits 13 to 4 and the lowest
four selected conditions, in ascending order, in bits 0 to 3; LOOP decrements the counter, not below 0, and branches while the
new count is not 0. PC + 1 holds for a PC other than 0x3FFF. Nothing else changes but the report of a corrected fetch.
Completion (exec answers next with the form's own effect, from these conditions alone) is stated for: mwNop, mwJmp, mwBr,
mwCall, mwRet, mwDispatch, mwLoop. -/
def Obligations.ControlFlowWordsMoveThePc : Prop :=
  ∀ (s : State) (n : Fin 48) (w : Nat), s.runsWord n w →
    (wOp w = 0x00 → (s.ch n).ctx.pc ≠ 0x3FFF → ∃ t, exec (.mwNop n) s = .next t ∧ s.ctxIs t n { s.ctxAt n with pc := (s.ch n).ctx.pc + 1 }) ∧
    (wOp w = 0x01 → ∃ t, exec (.mwJmp n) s = .next t ∧ s.ctxIs t n { s.ctxAt n with pc := wTgt w }) ∧
    (wOp w = 0x02 → (s.seen n).cond n (bits w 20 5) = bit w 19 → ∃ t, exec (.mwBr n) s = .next t ∧
      s.ctxIs t n { s.ctxAt n with pc := wTgt w }) ∧
    (wOp w = 0x02 → (s.seen n).cond n (bits w 20 5) ≠ bit w 19 → (s.ch n).ctx.pc ≠ 0x3FFF → ∃ t, exec (.mwBr n) s = .next t ∧
      s.ctxIs t n { s.ctxAt n with pc := (s.ch n).ctx.pc + 1 }) ∧
    (wOp w = 0x03 → ∃ t, exec (.mwCall n) s = .next t ∧
      s.ctxIs t n { s.ctxAt n with pc := wTgt w, m := (s.ch n).ctx.m.set 7 (BitVec.ofNat 16 ((s.ch n).ctx.pc + 1)) }) ∧
    (wOp w = 0x04 → ∃ t, exec (.mwRet n) s = .next t ∧ s.ctxIs t n { s.ctxAt n with pc := (s.ch n).ctx.reg 7 % 16384 }) ∧
    (wOp w = 0x05 → ∃ t, exec (.mwDispatch n) s = .next t ∧ s.ctxIs t n { s.ctxAt n with pc := (t.ch n).ctx.pc } ∧ (t.ch n).ctx.pc / 16 = bits w 4 10 ∧
      ∀ i, i < 4 → bit (t.ch n).ctx.pc i = (match ((List.range 8).filter (bit (bits w 15 8)))[i]? with
        | some k => (s.seen n).cond n (8 * bits w 23 2 + k)
        | none => false)) ∧
    (wOp w = 0x06 → bit w 24 = false → ∃ t, exec (.mwLoop n) s = .next t ∧
      (2 ≤ (s.ch n).ctx.lc0 → s.ctxIs t n { s.ctxAt n with lc0 := (s.ch n).ctx.lc0 - 1, pc := wTgt w }) ∧
      ((s.ch n).ctx.lc0 ≤ 1 → (s.ch n).ctx.pc ≠ 0x3FFF → s.ctxIs t n { s.ctxAt n with lc0 := 0, pc := (s.ch n).ctx.pc + 1 })) ∧
    (wOp w = 0x06 → bit w 24 = true → ∃ t, exec (.mwLoop n) s = .next t ∧
      (2 ≤ (s.ch n).ctx.lc1 → s.ctxIs t n { s.ctxAt n with lc1 := (s.ch n).ctx.lc1 - 1, pc := wTgt w }) ∧
      ((s.ch n).ctx.lc1 ≤ 1 → (s.ch n).ctx.pc ≠ 0x3FFF → s.ctxIs t n { s.ctxAt n with lc1 := 0, pc := (s.ch n).ctx.pc + 1 }))

/-- With a and b the registers of the word: ADD, SUB, AND, OR, XOR, SHL and SHR by b[3:0], and MOV write the 16-bit result to d and
set Z (result 0), N (bit 15) and C (the carry, the borrow a < b, 0, or the last bit shifted out); CMP sets the flags of SUB and
writes no register; functions 9 to 15 change neither; ADDI adds the immediate to d with the carry in C; MOVI writes the
immediate and leaves the flags. Each moves the PC by one (PC other than 0x3FFF) and changes nothing else but the report of a
corrected fetch. Completion (exec answers next with the form's own effect, from these conditions alone) is stated for: mwMovi,
mwAddi, mwAdd, mwSub, mwAnd, mwOr, mwXor, mwShl, mwShr, mwMov, mwCmp. -/
def Obligations.AluWordsComputeResultAndFlags : Prop :=
  ∀ (s : State) (n : Fin 48) (w : Nat), s.runsWord n w → (s.ch n).ctx.pc ≠ 0x3FFF → ∀ a, a = (s.ch n).ctx.reg (wA w) → ∀ b, b = (s.ch n).ctx.reg (wB w) →
    (wOp w = 0x12 → ∀ q ∈ ([
        (.mwAdd n, 0, (a + b) % 65536, decide (65536 ≤ a + b)),
        (.mwSub n, 1, (a + 65536 - b) % 65536, decide (a < b)),
        (.mwAnd n, 2, a &&& b, false), (.mwOr n, 3, a ||| b, false), (.mwXor n, 4, a ^^^ b, false),
        (.mwShl n, 5, a * 2 ^ (b % 16) % 65536, decide (b % 16 ≠ 0) && bit a (16 - b % 16)),
        (.mwShr n, 6, a / 2 ^ (b % 16), decide (b % 16 ≠ 0) && bit a (b % 16 - 1)),
        (.mwMov n, 7, a, false)] : List (Instr × Nat × Nat × Bool)), bits w 0 4 = q.2.1 →
      ∃ t, exec q.1 s = .next t ∧ s.ctxIs t n { s.ctxAt n with
        pc := (s.ch n).ctx.pc + 1, m := (s.ch n).ctx.m.set (wD w) (BitVec.ofNat 16 q.2.2.1), z := decide (q.2.2.1 = 0), n := bit q.2.2.1 15, c := q.2.2.2 }) ∧
    (wOp w = 0x12 → bits w 0 4 = 8 → ∃ t, exec (.mwCmp n) s = .next t ∧ s.ctxIs t n { s.ctxAt n with
      pc := (s.ch n).ctx.pc + 1, z := decide (a = b), n := bit ((a + 65536 - b) % 65536) 15, c := decide (a < b) }) ∧
    (wOp w = 0x12 → 9 ≤ bits w 0 4 → ∃ t, exec (.mwMov n) s = .next t ∧ s.ctxIs t n { s.ctxAt n with pc := (s.ch n).ctx.pc + 1 }) ∧
    (wOp w = 0x11 → ∀ v, v = (s.ch n).ctx.reg (wD w) + wImm w → ∃ t, exec (.mwAddi n) s = .next t ∧ s.ctxIs t n { s.ctxAt n with
      pc := (s.ch n).ctx.pc + 1, m := (s.ch n).ctx.m.set (wD w) (BitVec.ofNat 16 v), z := decide (v % 65536 = 0), n := bit v 15, c := decide (65536 ≤ v) }) ∧
    (wOp w = 0x10 → ∃ t, exec (.mwMovi n) s = .next t ∧ s.ctxIs t n { s.ctxAt n with
      pc := (s.ch n).ctx.pc + 1, m := (s.ch n).ctx.m.set (wD w) (BitVec.ofNat 16 (wImm w)) })

/-- WAITC whose condition holds ends with Z = 0; one that times out with the condition unmet ends with Z = 1; one that neither ends
(and is not the seal's wait for LEDG_SAFE) keeps its place. TSET loads the timer with the value times 16 to the scale, LDLC the
counter; TIMER_EXPIRE makes the timer 0. LDS loads the status byte, the LUN, the channel number, the suspend count, a timing
entry, and 0 from an unlisted selector; STS writes result half-words and staging half-words, and ignores an unlisted selector.
LEDG of a kind from 8 to 15 with the ledger off only moves the PC. Nothing else changes but the report of a corrected fetch.
Completion (exec answers next with the form's own effect, from these conditions alone) is stated for: mwWaitc, mwTset, mwLdlc,
mwLds, mwSts, mwLedg, timerExpire. -/
def Obligations.TimersWaitsAndSelectors : Prop :=
  (∀ (s : State) (n : Fin 48) (w : Nat), s.runsWord n w →
    let c := s.ctxAt n
    let p := (s.ch n).ctx.pc + 1
    let u := s.seen n
    (wOp w = 0x07 → u.cond n (bits w 20 5) = bit w 19 → p ≠ 0x4000 → ∃ t, exec (.mwWaitc n) s = .next t ∧ s.ctxIs t n { c with pc := p, z := false }) ∧
    (wOp w = 0x07 → u.cond n (bits w 20 5) ≠ bit w 19 → bit w 17 = true → (if bit w 18 then c.t1 else c.t0) = 0 → p ≠ 0x4000 →
      ∃ t, exec (.mwWaitc n) s = .next t ∧ s.ctxIs t n { c with pc := p, z := true }) ∧
    (wOp w = 0x07 → u.cond n (bits w 20 5) ≠ bit w 19 → (bit w 17 = false ∨ (if bit w 18 then c.t1 else c.t0) ≠ 0) → bits w 20 5 ≠ 17 →
      ∃ t, exec (.mwWaitc n) s = .next t ∧ s.ctxIs t n c) ∧
    (wOp w = 0x08 → p ≠ 0x4000 → ∀ v, v = (if wR w then c.reg (wA w) else wImm w) * 16 ^ bits w 16 2 → ∃ t, exec (.mwTset n) s = .next t ∧
      s.ctxIs t n (if bit w 18 then { c with pc := p, t1 := v } else { c with pc := p, t0 := v })) ∧
    (wOp w = 0x13 → p ≠ 0x4000 → ∀ v, v = (if wR w then c.reg (wA w) else wImm w) → ∃ t, exec (.mwLdlc n) s = .next t ∧
      s.ctxIs t n (if bit w 24 then { c with pc := p, lc1 := v } else { c with pc := p, lc0 := v })) ∧
    (wOp w = 0x14 → p ≠ 0x4000 → ∀ q ∈ [(0x20, c.status.toNat), (0x21, s.ctxLun n), (0x24, n.val), (0x28, (s.lun n (s.ctxLun n)).susCnt)] ++
        (List.range 32).map (fun k => (0x60 + k, tget (fun _ => 0) (s.ch n).eng.timing k % 65536)) ++
        ((List.range 7).map (fun k => 0x29 + k) ++ (List.range 32).map (fun k => 0x40 + k)).map (fun k => (k, 0)),
      bits w 0 12 = q.1 → ∃ t, exec (.mwLds n) s = .next t ∧ s.ctxIs t n { c with pc := p, m := c.m.set (wD w) (BitVec.ofNat 16 q.2) }) ∧
    (wOp w = 0x14 → p ≠ 0x4000 → 0x80 ≤ bits w 0 12 → ∃ t, exec (.mwLds n) s = .next t ∧ s.ctxIs t n { c with pc := p, m := c.m.set (wD w) 0#16 }) ∧
    (wOp w = 0x15 → p ≠ 0x4000 → ∃ t, exec (.mwSts n) s = .next t ∧
      (∀ k, k < 4 → bits w 0 12 = 0x40 + k → s.ctxIs t n { c with pc := p, res := c.res.set k (BitVec.ofNat 16 (c.reg (wA w))) }) ∧
      (∀ k, k < 32 → bits w 0 12 = 0x80 + k → s.ctxIs t n { c with pc := p, stage := tput (fun _ => 0) c.stage k (BitVec.ofNat 16 (c.reg (wA w))) }) ∧
      (bits w 0 12 < 0x40 ∨ (0x44 ≤ bits w 0 12 ∧ bits w 0 12 < 0x80) ∨ 0xA0 ≤ bits w 0 12 → s.ctxIs t n { c with pc := p })) ∧
    (wOp w = 0x28 → p ≠ 0x4000 → 8 ≤ bits w 0 4 → u.ledgOn = false → ∃ t, exec (.mwLedg n) s = .next t ∧ s.ctxIs t n { c with pc := p })) ∧
  (∀ (s : State) (n : Fin 48) (k : Fin 2), ∃ t, exec (.timerExpire n k) s = .next t ∧
    s.chanIs t n { s.ch n with ctx := if k = 0 then { (s.ch n).ctx with t0 := 0 } else { (s.ch n).ctx with t1 := 0 } })

/-- Outside a trap, with fewer than 16 entries queued and none being discarded (CE: in any case), each word queues its entry: CE the
selection or deselection, ending a discard and REFUSED; CMD its byte, or nothing with R = 1 and a[15] = 1; ADDR forms 0 to 3;
DOUT (of a descriptor that is no PROG) and DIN a burst of legal size with no other burst, BURST_DONE then 0; SUSP and RSUM the
sequence with Z = 0 where the dies declare erase suspend, else no entry and Z = 1; STAT its read, keeping its place. While
entries are discarded, a DIN queues none and moves on. PC + 1 holds for a PC other than 0x3FFF. Nothing else changes but the
report of a corrected fetch. Completion (exec answers next with the form's own effect, from these conditions alone) is stated
for: mwCe, mwCmd, mwAddr, mwDout, mwDin, mwSusp, mwRsum, mwStat. -/
def Obligations.BusWordsQueueOneEntry : Prop :=
  ∀ (s : State) (n : Fin 48) (w : Nat), s.runsWord n w → (s.ch n).eng.queue.length < 16 → (s.ch n).ctx.inTrap = false → (s.ch n).ctx.pc ≠ 0x3FFF →
    let c : CtxS := { s.ctxAt n with pc := (s.ch n).ctx.pc + 1 }
    let e := (s.ch n).eng
    let a := c.reg (wA w)
    let u := s.seen n
    (wOp w = 0x20 → ∀ k : Option Nat, k = (if bit w 3 then none else some (if wR w then a % 8 else bits w 0 3)) → ∃ t, exec (.mwCe n) s = .next t ∧
      u.chanIs t n { s.ch n with ctx := { c with ce := k, ceLast := k.getD c.ceLast }, eng := { e with queue := e.queue ++ [.ce k], discard := false, refused := false } }) ∧
    (wOp w = 0x21 → wR w = true → bit a 15 = true → ∃ t, exec (.mwCmd n) s = .next t ∧ s.ctxIs t n c) ∧
    (e.discard = false →
      (wOp w = 0x21 → (wR w = false ∨ bit a 15 = false) → ∃ t, exec (.mwCmd n) s = .next t ∧
        u.chanIs t n { s.ch n with ctx := c, eng := { e with queue := e.queue ++ [.cmd (if wR w then a % 256 else bits w 0 8)] } }) ∧
      (wOp w = 0x22 → ∀ pl, pl = (if bit w 15 then c.reg (bits w 12 3) % 4 else bits w 16 2) → ∀ ta, ta = s.ctxAddr n → ∀ lun, lun = taLun ta →
        ∀ q ∈ ([(0, .addr [bits w 0 8] none), (1, .addr [a % 256, a / 256 % 256] none),
            (2, .addr (s.rowBytes n ta pl (taPage ta + a)) (some (lun, taBlk ta, taPage ta + a))),
            (3, .addr ([a % 256, a / 256 % 256] ++ s.rowBytes n ta pl (taPage ta)) (some (lun, taBlk ta, taPage ta)))] : List (Nat × EngE)), bits w 23 2 = q.1 →
          ∃ t, exec (.mwAddr n) s = .next t ∧ u.chanIs t n { s.ch n with ctx := c, eng := { e with queue := e.queue ++ [q.2] } }) ∧
      (wOp w = 0x23 → e.burst = .none → (∀ d, c.desc = some d → d.opcode ≠ 1) → ∀ len, len = c.reg (wB w) → 0 < len → len ≤ 288 → a + len ≤ 1152 →
        ∃ t, exec (.mwDout n) s = .next t ∧ u.chanIs t n { s.ch n with ctx := c, eng := { e with
          queue := e.queue ++ [.dout a len], burst := .outQueued, bOff := a, bLen := len, bTile := u.ctxTile n } }) ∧
      (wOp w = 0x24 → e.burst = .none → ∀ len, len = c.reg (wB w) → 0 < len → len ≤ 288 → a + len ≤ 1152 →
        ∃ t, exec (.mwDin n) s = .next t ∧ u.chanIs t n { s.ch n with ctx := c, eng := { e with
          queue := e.queue ++ [.din a len], burst := .inQueued, bOff := a, bLen := len, bDesc := c.desc } }) ∧
      (wOp w = 0x25 → u.suspOk n = true → ∃ t, exec (.mwSusp n) s = .next t ∧
        u.chanIs t n { s.ch n with ctx := { c with z := false }, eng := { e with queue := e.queue ++ [.susp (a % 16)] } }) ∧
      (wOp w = 0x26 → u.suspOk n = true → ∃ t, exec (.mwRsum n) s = .next t ∧
        u.chanIs t n { s.ch n with ctx := { c with z := false }, eng := { e with queue := e.queue ++ [.rsum (a % 16)] } }) ∧
      (wOp w = 0x27 → ∃ t, exec (.mwStat n) s = .next t ∧ u.chanIs t n { s.ch n with
        ctx := { s.ctxAt n with statWait := true }, eng := { e with queue := e.queue ++ [.stat (a % 16)] } })) ∧
    (wOp w = 0x25 → u.suspOk n = false → ∃ t, exec (.mwSusp n) s = .next t ∧ s.ctxIs t n { c with z := true }) ∧
    (wOp w = 0x26 → u.suspOk n = false → ∃ t, exec (.mwRsum n) s = .next t ∧ s.ctxIs t n { c with z := true }) ∧
    (wOp w = 0x24 → e.discard = true → burstBad a (c.reg (wB w)) = false → ∃ t, exec (.mwDin n) s = .next t ∧ s.ctxIs t n c)

/-- PARK of a descriptor whose LUN has no record, outside a trap, stores the continuation, m0 to m3, the class and the descriptor
for the LUN and frees the context. DONE outside a trap, with the engine queue empty, completes the descriptor of a ring with its
status and result half-words and frees the context. TRAP_TAKE of a pending WDOG (no SEAL pending) at a permitted boundary writes
the frame, sets IN_TRAP, puts PC at 0x0041 and drops that cause alone. TRET, with the queue empty, no TOUCH and a frame with
IDLE = 0, restores PC, m0 to m7, counters and flags, clears IN_TRAP and reselects the chip enable when CEV = 1. TEND of a WDOG
or BREAK routine completes the descriptor with its status. Completion (exec answers next with the form's own effect, from these
conditions alone) is stated for: mwPark, mwDone, mwTret, mwTend, trapTake. -/
def Obligations.ParkDoneAndTrapWords : Prop :=
  (∀ (s : State) (n : Fin 48) (w : Nat) (d : Desc), s.runsWord n w → wOp w = 0x09 → (s.ch n).ctx.desc = some d → (s.ch n).ctx.inTrap = false →
    (s.lun n d.lun).park = none → ∃ t, exec (.mwPark n) s = .next t ∧
      (t.lun n d.lun).park = some { cont := wTgt w, m := (s.ch n).ctx.m.take 4, cls := bits w 23 2, desc := d, age := (s.ch n).nextAge } ∧
      (t.lun n d.lun).op = (s.lun n d.lun).op ∧ (∀ k l, k * 16 + l ≠ n.val * 16 + d.lun → t.lun k l = s.lun k l) ∧
      t.ch n = { s.ch n with ctx := (s.ctxAt n).ended, nextAge := (s.ch n).nextAge + 1 } ∧ (∀ k, k ≠ n.val → t.ch k = s.ch k) ∧
      t = { s.seen n with chans := t.chans, luns := t.luns }) ∧
  (∀ (s : State) (n : Fin 48) (w : Nat) (d : Desc), s.runsWord n w → wOp w = 0x0A → (s.ch n).ctx.desc = some d → d.asks →
    (s.ch n).ctx.inTrap = false → (s.ch n).eng.queue = [] → ∃ t, exec (.mwDone n) s = .next t ∧
      (s.seen n).completes t n d (if bit w 8 then (s.ch n).ctx.reg (wA w) % 256 else bits w 0 8) (s.ctxAt n).ended []) ∧
  (∀ (s : State) (n : Fin 48) (t0 : Nat) (d : Desc), (s.ch n).ctx.run = .run → (s.ch n).ctx.inTrap = false → (s.ch n).ctx.sealP = none →
    (s.ch n).ctx.wdog = some t0 → (s.ch n).ctx.desc = some d → bit (s.fetched n) 25 = false ∨ (s.ch n).ctx.atomOvr = true →
    ∃ t, exec (.trapTake n) s = .next t ∧ let c := (s.ch n).ctx
      s.chanIs t n { s.ch n with ctx := { c with
        inTrap := true, cause := 1, pc := 0x41, wdog := none, touch := false, statWait := false, atom := false
        frame := { cause := 1, entry := d.opcode, idle := false, ce := c.ceLast, cev := c.ce.isSome, c := c.c, n := c.n, z := c.z, pc := c.pc
                   m := c.m, lc0 := c.lc0, lc1 := c.lc1, t0 := c.t0, lat := min 65535 ((s.cyc - t0) / 2) } } }) ∧
  (∀ (s : State) (n : Fin 48) (w : Nat), s.runsWord n w → wOp w = 0x0B → (s.ch n).eng.queue = [] → (s.ch n).ctx.inTrap = true →
    (s.ch n).ctx.frame.idle = false → (s.ch n).ctx.touch = false → ∃ t, exec (.mwTret n) s = .next t ∧ let f := (s.ch n).ctx.frame
      let c : CtxS := { s.ctxAt n with pc := f.pc, m := f.m, lc0 := f.lc0, lc1 := f.lc1, z := f.z, n := f.n, c := f.c, inTrap := false, ce := if f.cev then some f.ce else none, ceLast := f.ce }
      (f.cev = false → s.ctxIs t n c) ∧
      (f.cev = true → (s.seen n).chanIs t n { s.ch n with ctx := c, eng := { (s.ch n).eng with queue := [.ce (some f.ce)], discard := false } })) ∧
  (∀ (s : State) (n : Fin 48) (w : Nat) (d : Desc), s.runsWord n w → wOp w = 0x0C → (s.ch n).eng.queue = [] → (s.ch n).ctx.inTrap = true →
    (s.ch n).ctx.cause ≠ 0 → (s.ch n).ctx.frame.idle = false → (s.ch n).ctx.desc = some d → d.asks → ∃ t, exec (.mwTend n) s = .next t ∧
      (s.seen n).completes t n d (if bit w 8 then (s.ch n).ctx.reg (wA w) % 256 else bits w 0 8) { (s.ctxAt n).ended with inTrap := false, touch := false } [])

/-- The context halts, its descriptor completes with SEQ_HALT (0x30) and the event SEQ_HALT is raised, on HALT; on an opcode outside
the table; on DONE in a trap and TRET or TEND outside one (engine queue empty); on PARK in a trap; on LEDG of kind 0 or 3; on
DIN of length 0 or above 288; on NOP at 0x3FFF; HALT and an opcode outside the table halt a context without a descriptor too.
FETCH_UE of an uncorrectable word halts the context the same way, raises FETCH_UE and counts. Other channels, registers and
memory stay. Completion (exec answers next with the form's own effect, from these conditions alone) is stated for: mwHalt,
illegalOpcode, fetchUe. -/
def Obligations.HaltsCompleteSeqHalt : Prop :=
  (∀ (s : State) (n : Fin 48) (w : Nat) (d : Desc), s.runsWord n w → (s.ch n).ctx.desc = some d → d.asks → (s.ch n).eng.queue = [] →
    ∀ q ∈ ([
      (.mwHalt n, decide (wOp w = 0x0D)), (.illegalOpcode n, !mwKnown (wOp w)),
      (.mwDone n, decide (wOp w = 0x0A) && (s.ch n).ctx.inTrap), (.mwPark n, decide (wOp w = 0x09) && (s.ch n).ctx.inTrap),
      (.mwTret n, decide (wOp w = 0x0B) && !(s.ch n).ctx.inTrap), (.mwTend n, decide (wOp w = 0x0C) && !(s.ch n).ctx.inTrap),
      (.mwLedg n, decide (wOp w = 0x28) && (decide (bits w 0 4 = 0) || decide (bits w 0 4 = 3))),
      (.mwDin n, decide (wOp w = 0x24) && (decide ((s.ch n).ctx.reg (wB w) = 0) || decide (288 < (s.ch n).ctx.reg (wB w)))),
      (.mwNop n, decide (wOp w = 0) && decide ((s.ch n).ctx.pc = 0x3FFF))]   : List (Instr × Bool)), q.2 = true →
    ∃ t, exec q.1 s = .next t ∧ t.event .seqg (n / 8) 3 = true ∧ (s.seen n).completes t n d 0x30 (s.ctxAt n).halted [evtAddr .seqg (n / 8)]) ∧
  (∀ (s : State) (n : Fin 48) (w : Nat), s.runsWord n w → (s.ch n).ctx.desc = none →
    (wOp w = 0x0D → ∃ t, exec (.mwHalt n) s = .next t ∧ t.event .seqg (n / 8) 3 = true ∧ t.ch n = { s.ch n with ctx := (s.ctxAt n).halted } ∧ (∀ k, k ≠ n.val → t.ch k = s.ch k) ∧
      t = { s.seen n with chans := t.chans, regs := t.regs, pins := t.pins }) ∧
    (mwKnown (wOp w) = false → ∃ t, exec (.illegalOpcode n) s = .next t ∧ t.event .seqg (n / 8) 3 = true ∧ t.ch n = { s.ch n with ctx := (s.ctxAt n).halted } ∧ (∀ k, k ≠ n.val → t.ch k = s.ch k) ∧
      t = { s.seen n with chans := t.chans, regs := t.regs, pins := t.pins })) ∧
  (∀ (s : State) (n : Fin 48) (d : Desc), (s.ch n).ctx.run = .run → s.fetchBad n = true → (s.ch n).ctx.desc = some d → d.asks →
    ∃ t, exec (.fetchUe n) s = .next t ∧ t.event .seqg (n / 8) 7 = true ∧ (t.ch n).ctx = (s.ch n).ctx.halted ∧
      t.flt.inflight = (s.seen n).flt.inflight ++ [⟨43 + n / 8, BitVec.ofNat 32 (0x700 + n % 8), s.cyc, false⟩] ∧
      t.rng.recs = s.rng.recs ++ [(s.seen n).chanRec (d.origin % 16384) d.tag 0x30 (s.ch n).ctx.res] ∧
      (∀ k, k ≠ n.val → t.ch k = s.ch k) ∧ (s.seen n).wordsKept t [evtAddr .seqg (n / 8)] ∧ t.rot = s.rot ∧ t.ext = s.ext ∧ t.pwr = s.pwr)

/-- On a slice that carries traffic, with no burst running and outside a seal: ENGINE_CE selects or deselects. ENGINE_COMMAND of a
byte that starts nothing (no row addressed, not 0xFF, the target not in charter mode) drives it (no first command of a TLC
wordline), and one that begins an array command while a rate change bars those waits. ENGINE_ADDRESS without a row drives its
bytes; with a row of a guarded command it is refused where the array rules give a reason: no row cycle is driven, the target is
deselected, REFUSED is 1, the queue is emptied and the refusal is on record. BURST_START starts a read burst, and a write burst
when every plane that it takes bytes from in the tile of its DOUT is encoded; otherwise it waits. BURST_DONE ends a running
write burst, and a read burst that has locked, whose data then lie in its place (a descriptor with no decode). STATUS_RETURN
gives the waiting context its status byte and moves it on. Nothing else changes. Completion (exec answers next with the form's
own effect, from these conditions alone) is stated for: engineCe, engineCommand, engineAddress, burstStart, burstDone,
statusReturn. -/
def Obligations.EngineRunsItsQueueInOrder : Prop :=
  (∀ (s : State) (n : Fin 48) (c : Option Nat) (q : List EngE), (s.ch n).eng.queue = .ce c :: q → s.engMay n = true → (s.ch n).sealing = false → (s.ch n).ctx.inSeal = false → ∃ t, exec (.engineCe n) s = .next t ∧
    s.chanIs t n { s.ch n with eng := { (s.ch n).eng with
      queue := q, sel := c, last := 0, row := none, bus := (match c with | some i => .sel i | none => .desel) :: (s.ch n).eng.bus } }) ∧
  (∀ (s : State) (n : Fin 48) (b : Nat) (q : List EngE), (s.ch n).eng.queue = .cmd b :: q → b ≠ 0xFF → s.arrayBar n b = false → (s.ch n).eng.row = none →
    s.engMay n = true → (s.ch n).sealing = false → (s.ch n).ctx.inSeal = false → (∀ d, (s.ch n).ctx.desc = some d → d.opcode = 1 → d.tlc = false) →
    (∀ i, (s.ch n).eng.sel = some i → (s.ch n).eng.charter.getLsbD i = false) → ∃ t, exec (.engineCommand n) s = .next t ∧
    s.chanIs t n { s.ch n with eng := { (s.ch n).eng with queue := q, last := b, bus := .cmd b :: (s.ch n).eng.bus } }) ∧
  (∀ (s : State) (n : Fin 48) (l blk pg : Nat) (q : List EngE), (s.ch n).eng.queue = .cmd 0x10 :: q → (s.ch n).eng.row = some (l, blk, pg) →
    s.engMay n = true → (s.ch n).sealing = false → (s.ch n).ctx.inSeal = false → (∀ d, (s.ch n).ctx.desc = some d → d.opcode = 1 → d.tlc = false) →
    (s.ch n).eng.charter = 0 → ∃ t, exec (.engineCommand n) s = .next t ∧ t.lun n l = { s.lun n l with op := .program } ∧
    (t.ch n).eng = { (s.ch n).eng with queue := q, last := 0x10, bus := .cmd 0x10 :: (s.ch n).eng.bus } ∧
    (∀ k j, k * 16 + j ≠ n.val * 16 + l → t.lun k j = s.lun k j) ∧ t = { s with chans := t.chans, luns := t.luns }) ∧
  (∀ (s : State) (n : Fin 48) (l : Nat) (q : List EngE), (s.ch n).eng.queue = .susp l :: q → s.engMay n = true → (s.ch n).sealing = false → (s.ch n).ctx.inSeal = false → ∃ t, exec (.engineCommand n) s = .next t ∧
    t.lun n l = { s.lun n l with susCnt := (s.lun n l).susCnt + 1, susp := true, suspOk := false } ∧
    (t.ch n).eng.queue = q ∧ (t.ch n).eng.sel = (s.ch n).eng.sel ∧ t = { s with chans := t.chans, luns := t.luns }) ∧
  (∀ (s : State) (n : Fin 48) (bs : List Nat) (q : List EngE), (s.ch n).eng.queue = .addr bs none :: q → s.engMay n = true → (s.ch n).sealing = false → (s.ch n).ctx.inSeal = false → (s.ch n).eng.last ∉ [0xEF, 0xFA, 0x80] →
    ∃ t, exec (.engineAddress n) s = .next t ∧ s.chanIs t n { s.ch n with eng := { (s.ch n).eng with queue := q, bus := .addr bs :: (s.ch n).eng.bus } }) ∧
  (∀ (s : State) (n : Fin 48) (bs : List Nat) (l blk pg r : Nat), (s.ch n).eng.queue = [.addr bs (some (l, blk, pg))] → l < 16 → s.engMay n = true → (s.ch n).sealing = false → (s.ch n).ctx.inSeal = false → 
    s.guardCmd n (s.ch n).eng.last = true → s.refuseReason n (taddrOf n l blk pg) (s.ch n).sealing = some r →
    ∃ t, exec (.engineAddress n) s = .next t ∧ (t.ch n).eng.queue = [] ∧ (t.ch n).eng.refused = true ∧ (t.ch n).eng.sel = none ∧
      (t.ch n).eng.bus = .desel :: (s.ch n).eng.bus ∧ t.get (R.CH_REFUSE_INFO_REASON n) = r ∧ t.event .ch n 0 = true ∧
      (∀ k, k ≠ n.val → t.ch k = s.ch k) ∧ t.luns = s.luns ∧ t.ext = s.ext ∧ t.rot = s.rot) ∧
  (∀ (s : State) (n : Fin 48) (off len : Nat) (q : List EngE), (s.ch n).eng.queue = .din off len :: q → s.engMay n = true → (s.ch n).sealing = false → (s.ch n).ctx.inSeal = false → ∃ t, exec (.burstStart n) s = .next t ∧
    s.chanIs t n { s.ch n with eng := { (s.ch n).eng with queue := q, burst := .inRunning, bus := .din (len * 64) :: (s.ch n).eng.bus } }) ∧
  (∀ (s : State) (n : Fin 48) (off len : Nat) (q : List EngE), (s.ch n).eng.queue = .dout off len :: q → s.engMay n = true → (s.ch n).sealing = false → (s.ch n).ctx.inSeal = false → ∃ t, exec (.burstStart n) s = .next t ∧
    ((s.place n (s.ch n).eng.bTile.1).burstReady off len (s.ch n).eng.bTile.2 = true → s.chanIs t n { s.ch n with eng := { (s.ch n).eng with
      queue := q, burst := .outRunning, bus := .dout (len * 64) :: (s.ch n).eng.bus } }) ∧
    ((s.place n (s.ch n).eng.bTile.1).burstReady off len (s.ch n).eng.bTile.2 = false → t = s)) ∧
  (∀ (s : State) (n : Fin 48) (b : Nat) (q : List EngE), (s.ch n).eng.queue = .cmd b :: q → s.arrayBar n b = true → exec (.engineCommand n) s = .next s) ∧
  (∀ (s : State) (n : Fin 48) (data : List Byte), (s.ch n).eng.burst = .outRunning → (s.ch n).sealing = false → (s.ch n).ctx.inSeal = false → ∃ t, exec (.burstDone n data) s = .next t ∧
    s.chanIs t n { s.ch n with eng := { (s.ch n).eng with burst := .none } }) ∧
  (∀ (s : State) (n : Fin 48) (data : List Byte) (d : Desc), (s.ch n).eng.burst = .inLocked → (s.ch n).sealing = false → (s.ch n).ctx.inSeal = false → (s.ch n).eng.bDesc = some d → d.decodes = false →
    data.length = (s.ch n).eng.bLen * 64 → ∃ t, exec (.burstDone n data) s = .next t ∧ (t.ch n).eng.burst = .none ∧
      t.dGet d.dbuf ((s.ch n).eng.bOff * 64) data.length = data ∧ (∀ k, k ≠ n.val → t.ch k = s.ch k) ∧ t.regs = s.regs ∧ t.luns = s.luns) ∧
  (∀ (s : State) (n : Fin 48) (b : BitVec 8), (s.ch n).ctx.statWait = true → (s.ch n).ctx.pc ≠ 0x3FFF → ∃ t, exec (.statusReturn n b) s = .next t ∧
    s.chanIs t n { s.ch n with ctx := { (s.ch n).ctx with status := b, statWait := false, pc := (s.ch n).ctx.pc + 1 } })

/-- ATOM_OVR of a context in an atomic region ends the region, raises ATOM_OVR and counts. WDOG of a running context with a
descriptor, a limit and no WDOG pending makes the cause pending and raises WDOG. BREAK makes the cause pending on each context
of its mask that is not halted; RESTART makes each halted context of its mask idle; the other contexts of the group, the other
channels and everything else stay. Completion (exec answers next with the form's own effect, from these conditions alone) is
stated for: atomOvr, wdog, seqBreak, restart. -/
def Obligations.ContextsAreSupervised : Prop :=
  (∀ (s : State) (n : Fin 48), (s.ch n).ctx.run = .run → (s.ch n).ctx.atom = true → n.val < s.gen.nch → ∃ t, exec (.atomOvr n) s = .next t ∧
    t.ch n = { s.ch n with ctx := { (s.ch n).ctx with atom := false, atomOvr := true } } ∧ (∀ k, k ≠ n.val → t.ch k = s.ch k) ∧
    t.event .seqg (n / 8) 4 = true ∧ t.flt.inflight = s.flt.inflight ++ [⟨43 + n / 8, BitVec.ofNat 32 (0x400 + n % 8), s.cyc, false⟩] ∧ s.wordsKept t [evtAddr .seqg (n / 8)] ∧
    t = { s with chans := t.chans, regs := t.regs, pins := t.pins, flt := t.flt }) ∧
  (∀ (s : State) (n : Fin 48), (s.ch n).ctx.run = .run → (s.ch n).ctx.desc.isSome = true → s.get (R.SEQG_WDOG_LIM_LIM (n / 8)) ≠ 0 →
    (s.ch n).ctx.wdog = none → ∃ t, exec (.wdog n) s = .next t ∧ t.ch n = { s.ch n with ctx := { (s.ch n).ctx with wdog := some s.cyc } } ∧
    (∀ k, k ≠ n.val → t.ch k = s.ch k) ∧ t.event .seqg (n / 8) 5 = true ∧ s.wordsKept t [evtAddr .seqg (n / 8)] ∧
    t = { s with chans := t.chans, regs := t.regs, pins := t.pins }) ∧
  (∀ (s : State) (g : Fin 6) (m : BitVec 8), s.portTakes (R.SEQG_BREAK_STOP g).addr → ∃ t, exec (.seqBreak g m) s = .next t ∧
    (∀ c, c < 8 → t.ch (8 * g + c) = if m.getLsbD c = true ∧ (s.ch (8 * g + c)).ctx.run ≠ .halted
      then { s.ch (8 * g + c) with ctx := { (s.ch (8 * g + c)).ctx with brk := (s.ch (8 * g + c)).ctx.brk <|> some s.cyc } } else s.ch (8 * g + c)) ∧
    (∀ k, k / 8 ≠ g.val → t.ch k = s.ch k) ∧ t = { s with chans := t.chans }) ∧
  (∀ (s : State) (g : Fin 6) (m : BitVec 8), s.portTakes (R.SEQG_BREAK_STOP g).addr → ∃ t, exec (.restart g m) s = .next t ∧
    (∀ c, c < 8 → t.ch (8 * g + c) = if m.getLsbD c = true ∧ (s.ch (8 * g + c)).ctx.run = .halted
      then { s.ch (8 * g + c) with ctx := { (s.ch (8 * g + c)).ctx with run := .idle, ce := none, ceLast := 0 } } else s.ch (8 * g + c)) ∧
    (∀ k, k / 8 ≠ g.val → t.ch k = s.ch k) ∧ t = { s with chans := t.chans })

/-- A vendor-region write is accepted only while ENABLE = 0, no context of the group runs and the group has no park record: outside
checker test mode and with no error injection armed the addressed store word then reads the write's enabled bytes over its old
ones, every other store word reads as before, and VEND_OK is 0; otherwise it raises WRITE_REFUSED and changes nothing else. A
customer-region write while no context or record stands in the region does the same to its word and clears CUST_OK; otherwise it
is held, HOLD_ACTIVE is 1 and the store is as it was. STORE_HOLD_END of a held write whose region is free writes it and ends the
hold. VERIFY starts a verification when none runs. VERIFY_DONE of a bad header gives BAD_HDR (1), clears the OK bit, the copied
version and BUSY and raises VERIFY_DONE. ENABLE = 1 with VEND_OK = 0 leaves ENABLE and raises WRITE_REFUSED; with VEND_OK = 1 it
sets it; CUST_HOLD is set by its bit. Completion (exec answers next with the form's own effect, from these conditions alone) is
stated for: vendorStoreWrite, customerStoreWrite, storeHoldEnd, verify, verifyDone, seqgEnable, custHold. -/
def Obligations.StoreIsWrittenOnlyWhenUnused : Prop :=
  (∀ (s : State) (a : BitVec 24) (be : BitVec 4) (data : Word) (g w : Nat), s.portTakes a.toNat → storeAt a.toNat = some (g, w) → w < 0x3000 →
    (s.grp g).verify = none → s.testMode 6 = false → s.memi.inj = none →
    let free := s.flag (R.SEQG_CTRL_ENABLE g) = false ∧ (∀ c, c < 8 → (s.ch (8 * g + c)).ctx.run ≠ .run) ∧ (∀ c, c < 8 → ∀ l, l < 16 → (s.lun (8 * g + c) l).park = none)
    (free → (be = 0xF#4 ∨ s.bad 6 (g * 16384 + w) = false) → ∃ t, exec (.vendorStoreWrite a be data) s = .next t ∧ t.flag (R.SEQG_STATUS_VEND_OK g) = false ∧
      t.peek 6 (g * 16384 + w) = mergeBe (s.peek 6 (g * 16384 + w)) data be ∧ (∀ k, k ≠ g * 16384 + w → t.peek 6 k = s.peek 6 k) ∧
      t.chans = s.chans ∧ t.cp = s.cp ∧ t.rot = s.rot ∧ t.ext = s.ext) ∧
    (¬ free → ∃ t, exec (.vendorStoreWrite a be data) s = .next t ∧ t.event .seqg g 2 = true ∧ s.wordsKept t [evtAddr .seqg g] ∧
      t = { s with regs := t.regs, pins := t.pins })) ∧
  (∀ (s : State) (a : BitVec 24) (be : BitVec 4) (data : Word) (g w : Nat), s.portTakes a.toNat → storeAt a.toNat = some (g, w) → 0x3000 ≤ w →
    (s.grp g).verify = none → s.testMode 6 = false → s.memi.inj = none →
    ((∀ c, c < 8 → s.custUse (8 * g + c) = false) → (be = 0xF#4 ∨ s.bad 6 (g * 16384 + w) = false) →
      ∃ t, exec (.customerStoreWrite a be data) s = .next t ∧ t.flag (R.SEQG_STATUS_CUST_OK g) = false ∧
      t.peek 6 (g * 16384 + w) = mergeBe (s.peek 6 (g * 16384 + w)) data be ∧ (∀ k, k ≠ g * 16384 + w → t.peek 6 k = s.peek 6 k) ∧
      t.chans = s.chans ∧ t.cp = s.cp ∧ t.rot = s.rot ∧ t.ext = s.ext) ∧
    ((∃ c, c < 8 ∧ s.custUse (8 * g + c) = true) → ∃ t, exec (.customerStoreWrite a be data) s = .next t ∧ t.flag (R.SEQG_STATUS_HOLD_ACTIVE g) = true ∧
      t.cp = { s.cp with hold := some ⟨g, w, be, data⟩ } ∧ s.wordsKept t [(R.SEQG_STATUS_HOLD_ACTIVE g).addr] ∧ t = { s with regs := t.regs, cp := t.cp })) ∧
  (∀ (s : State) (h : HeldWrite), s.cp.hold = some h → s.cp.held = none → (s.grp h.grp).verify = none → s.testMode 6 = false → s.memi.inj = none →
    (∀ c, c < 8 → s.custUse (8 * h.grp + c) = false) → (h.be = 0xF#4 ∨ s.bad 6 (h.grp * 16384 + h.word) = false) →
    ∃ t, exec .storeHoldEnd s = .next t ∧ t.cp = { s.cp with hold := none } ∧ t.flag (R.SEQG_STATUS_HOLD_ACTIVE h.grp) = false ∧
      t.peek 6 (h.grp * 16384 + h.word) = mergeBe (s.peek 6 (h.grp * 16384 + h.word)) h.data h.be ∧
      (∀ k, k ≠ h.grp * 16384 + h.word → t.peek 6 k = s.peek 6 k) ∧
      t.flag (R.SEQG_STATUS_CUST_OK h.grp) = false ∧ t.chans = s.chans ∧ t.rot = s.rot ∧ t.ext = s.ext) ∧
  (∀ (s : State) (g : Fin 6) (data : Word), s.portTakes (R.SEQG_VERIFY_REGION g).addr → s.flag (R.SEQG_STATUS_VERIFY_BUSY g) = false →
    ∃ t, exec (.verify g data) s = .next t ∧ t.flag (R.SEQG_STATUS_VERIFY_BUSY g) = true ∧ (t.grp g).verify = some (data.toNat % 2) ∧
      (∀ k, k ≠ g.val → t.grp k = s.grp k) ∧ s.wordsKept t [(R.SEQG_STATUS_VERIFY_BUSY g).addr] ∧ t = { s with grps := t.grps, regs := t.regs }) ∧
  (∀ (s : State) (g : Fin 6) (r : Nat), r < 2 → (s.grp g).verify = some r → s.hdrOk g r = false → ∃ t, exec (.verifyDone g) s = .next t ∧
      t.get (R.SEQG_STATUS_VERIFY_RESULT g) = 1 ∧ t.flag (R.SEQG_STATUS_VERIFY_BUSY g) = false ∧
      t.flag (if r = 0 then R.SEQG_STATUS_VEND_OK g else R.SEQG_STATUS_CUST_OK g) = false ∧
      t.get (if r = 0 then R.SEQG_VEND_VER_VERSION g else R.SEQG_CUST_VER_VERSION g) = 0 ∧ t.event .seqg g 0 = true ∧
      (t.grp g).verify = none ∧ t = { s with grps := t.grps, regs := t.regs, pins := t.pins }) ∧
  (∀ (s : State) (g : Fin 6) (data : Word), s.portTakes (R.SEQG_CTRL_ENABLE g).addr → data.getLsbD 0 = true →
    (s.flag (R.SEQG_STATUS_VEND_OK g) = true → ∃ t, exec (.seqgEnable g data) s = .next t ∧ t.flag (R.SEQG_CTRL_ENABLE g) = true ∧
      s.wordsKept t [(R.SEQG_CTRL_ENABLE g).addr] ∧ t = { s with regs := t.regs }) ∧
    (s.flag (R.SEQG_STATUS_VEND_OK g) = false → s.flag (R.SEQG_CTRL_ENABLE g) = false → ∃ t, exec (.seqgEnable g data) s = .next t ∧
      t.flag (R.SEQG_CTRL_ENABLE g) = false ∧ t.event .seqg g 2 = true ∧ s.wordsKept t [(R.SEQG_CTRL_ENABLE g).addr, evtAddr .seqg g] ∧
      t = { s with regs := t.regs, pins := t.pins })) ∧
  (∀ (s : State) (g : Fin 6) (data : Word), s.portTakes (R.SEQG_CTRL_CUST_HOLD g).addr → data.getLsbD 0 = false →
    ∃ t, exec (.custHold g data) s = .next t ∧ t.flag (R.SEQG_CTRL_CUST_HOLD g) = data.getLsbD (R.SEQG_CTRL_CUST_HOLD g).lsb ∧
      t.flag (R.SEQG_CTRL_ENABLE g) = false ∧ s.wordsKept t [(R.SEQG_CTRL_ENABLE g).addr] ∧ t = { s with regs := t.regs })

/-- SCHEDULER_PICK on a free context of an enabled group: a ready record is woken with m0 to m3, cleared m4 to m7, counters and
flags, and WAKE_RDY; of the ready records that are neither hung nor suspended none ranks above it, and none of its rank is
older. With none ready an erase granted a suspend is woken with WAKE_SUSP; with neither, the best eligible head starts at its
vector with cleared registers. CHANNEL_DESCRIPTOR takes a slot when the checks pass and one is free. CUSTOMER_OPCODE starts a
customer descriptor that is the pick. HEAD_AGED marks the aged head. LUN_HUNG marks the record, raises LUN_HUNG and counts.
RESET_LUN_TIMEOUT leaves the LUN hung, and SUSP_SLOW outside a seal raises SUSP_SLOW and counts. Completion (exec answers next
with the form's own effect, from these conditions alone) is stated for: schedulerPick, headAged, lunHung, resetLunTimeout,
suspSlow, channelDescriptor, opCustomerOpcode. -/
def Obligations.SchedulerWakesGrantsOrStarts : Prop :=
  (∀ (s : State) (n : Fin 48) (l : Nat) (p : Park), s.ctxFree n = true → s.grpRuns n = true → s.readyPark n = some (l, p) →
    ∃ t, exec (.schedulerPick n) s = .next t ∧ (t.ch n).ctx = (s.ch n).ctx.wake p true ∧ t.lun n l = { s.lun n l with park := none } ∧
      (t.ch n).ctx.run = .run ∧ (t.ch n).ctx.pc = p.cont ∧ (t.ch n).ctx.wakeRdy = true ∧ (t.ch n).ctx.desc = some p.desc ∧
      (s.lun n l).park = some p ∧ p.ready = true ∧
      (s.flag (R.SEQG_STATUS_HOLD_ACTIVE (n / 8)) = false → ∀ k q, k < 16 → (s.lun n k).park = some q → q.ready = true → q.hung = false → (s.lun n k).suspended = false →
        parkRank p.cls < parkRank q.cls ∨ (parkRank p.cls = parkRank q.cls ∧ p.age ≤ q.age)) ∧
      (∀ k, k ≠ n.val → t.ch k = s.ch k) ∧ t = { s with chans := t.chans, luns := t.luns }) ∧
  (∀ (s : State) (n : Fin 48) (l : Nat) (p : Park), s.ctxFree n = true → s.grpRuns n = true → s.readyPark n = none → s.suspGrant n = some (l, p) →
    ∃ t, exec (.schedulerPick n) s = .next t ∧ (t.ch n).ctx = (s.ch n).ctx.wake p false ∧ (t.ch n).ctx.wakeSusp = true ∧ p.cls = 3 ∧
      t.lun n l = { s.lun n l with park := none } ∧ (∀ k, k ≠ n.val → t.ch k = s.ch k) ∧ t = { s with chans := t.chans, luns := t.luns }) ∧
  (∀ (s : State) (n : Fin 48) (x : Slot), s.ctxFree n = true → s.grpRuns n = true → s.readyPark n = none → s.suspGrant n = none →
    s.bestHead n = some x → x.desc.opcode ≠ 0x0C → x.desc.assigned = true → ∃ t, exec (.schedulerPick n) s = .next t ∧
      (t.ch n).ctx.run = .run ∧ (t.ch n).ctx.desc = some x.desc ∧ (t.ch n).ctx.pc = vectorOf x.desc.opcode ∧ (t.ch n).ctx.m = List.replicate 8 0 ∧
      (t.ch n).ctx.lc0 = 0 ∧ (t.ch n).ctx.lc1 = 0 ∧ (t.ch n).ctx.z = false ∧ (t.ch n).ctx.n = false ∧ (t.ch n).ctx.c = false ∧ (t.ch n).ctx.ce = none ∧
      (t.ch n).lastLun = x.desc.lun ∧ (∀ k, k ≠ n.val → t.ch k = s.ch k) ∧
      t = { s with chans := t.chans, luns := t.luns, regs := t.regs, pins := t.pins, flt := t.flt, memi := t.memi } ∧
      (x.desc.reads = false → x.desc.opcode ≠ 9 → t = { s with chans := t.chans, luns := t.luns })) ∧
  (∀ (s : State) (n : Fin 48) (x : Slot), s.ctxFree n = true → s.grpRuns n = true → s.readyPark n = none → s.suspGrant n = none →
    s.bestHead n = some x → x.desc.opcode ≠ 0x0C → x.desc.assigned = false → x.desc.org = 1 → x.desc.cmpl = true → ∃ t, exec (.schedulerPick n) s = .next t ∧
      (t.ch n).ctx.run = .idle ∧ (t.ch n).ctx.desc = none ∧
      t.rng.recs = s.rng.recs ++ [s.chanRec (x.desc.origin % 16384) x.desc.tag 0x21 ((s.stdRes n x.desc 0 0 0).set 0 (BitVec.ofNat 16 (s.ch n).ctx.status.toNat))]) ∧
  (∀ (s : State) (n : Fin 48) (o : Fin 4) (d : Desc), (s.ch n).wait.find? (fun d => d.org = o.val) = some d → s.descCheck n d = none → s.slotFor n d = true →
    ∃ t, exec (.channelDescriptor n o) s = .next t ∧ s.chanIs t n { s.ch n with
      wait := (s.ch n).wait.erase d, slots := (s.ch n).slots ++ [{ desc := d, age := (s.ch n).nextAge }], nextAge := (s.ch n).nextAge + 1 }) ∧
  (∀ (s : State) (n : Fin 48) (x : Slot), (s.ch n).slots.find? (fun x => x.desc.customer ∧ !x.started) = some x →
    s.flag (R.SEQG_STATUS_CUST_OK (n / 8)) = true → s.ctxFree n = true → s.readyPark n = none → s.suspGrant n = none → s.bestHead n = some x →
    ∃ t, exec (.opCustomerOpcode n) s = .next t ∧ (t.ch n).ctx.run = .run ∧ (t.ch n).ctx.desc = some x.desc ∧
      (t.ch n).ctx.pc = 0x3000 + (x.desc.opcode - 0x40) ∧ (∀ k, k ≠ n.val → t.ch k = s.ch k) ∧ t = { s with chans := t.chans, luns := t.luns }) ∧
  (∀ (s : State) (n : Fin 48) (x : Slot), (s.ch n).slots.find? (fun x => x.desc.customer ∧ !x.started) = some x →
    s.flag (R.SEQG_STATUS_CUST_OK (n / 8)) = false → x.desc.org = 1 → x.desc.cmpl = true → ∃ t, exec (.opCustomerOpcode n) s = .next t ∧
      t = { s with chans := t.chans, rng := { s.rng with recs := s.rng.recs ++ [s.chanRec (x.desc.origin % 16384) x.desc.tag 0x23 (s.stdRes n x.desc 0 0 0)] } } ∧
      t.ch n = { s.ch n with slots := (s.ch n).slots.erase x } ∧ (∀ k, k ≠ n.val → t.ch k = s.ch k)) ∧
  (∀ (s : State) (n : Fin 48) (l : Fin 16) (x : Slot), s.get (R.CH_QCFG_AGE n) ≠ 0 →
    (s.heads n l).find? (fun x => x.desc.cls.rank ≥ 3 ∧ !x.aged ∧ s.eligible n x.desc) = some x → ∃ t, exec (.headAged n l) s = .next t ∧
      s.chanIs t n { s.ch n with slots := (s.ch n).slots.map (fun y => if y = x then { y with aged := true } else y) }) ∧
  (∀ (s : State) (n : Fin 48) (l : Fin 16) (p : Park), (s.lun n l).park = some p → p.ready = false → p.hung = false → p.desc.opcode ≠ 0x0C → n.val < s.gen.nch →
    ∃ t, exec (.lunHung n l) s = .next t ∧ t.lun n l = { s.lun n l with park := some { p with hung := true } } ∧ t.event .ch n 8 = true ∧
      t.flt.inflight = s.flt.inflight ++ [⟨81 + 3 * n, BitVec.ofNat 32 (8 * 256 + l), s.cyc, false⟩] ∧ s.wordsKept t [evtAddr .ch n] ∧
      t = { s with luns := t.luns, regs := t.regs, pins := t.pins, flt := t.flt }) ∧
  (∀ (s : State) (n : Fin 48) (l : Fin 16) (p : Park), (s.lun n l).park = some p → p.ready = false → p.desc.opcode = 0x0C → p.desc.org = 1 → p.desc.cmpl = true →
    ∃ t, exec (.resetLunTimeout n l) s = .next t ∧ (t.lun n l).park = none ∧ (t.lun n l).hung = true ∧ t.event .ch n 8 = true ∧
      t.rng.recs = s.rng.recs ++ [s.chanRec (p.desc.origin % 16384) p.desc.tag 0x31 (s.stdRes n p.desc 0 0 0)] ∧ s.wordsKept t [evtAddr .ch n] ∧
      (∀ k, k ≠ n.val → t.ch k = s.ch k) ∧ t.ext = s.ext ∧ t.rot = s.rot ∧ t.sram = s.sram) ∧
  (∀ (s : State) (n : Fin 48) (l : Fin 16), (s.lun n l).susp = true → (s.lun n l).suspOk = false → (s.ch n).sealing = false → n.val < s.gen.nch →
    ∃ t, exec (.suspSlow n l) s = .next t ∧ t.event .ch n 2 = true ∧ t.flt.inflight = s.flt.inflight ++ [⟨81 + 3 * n, BitVec.ofNat 32 (2 * 256 + l), s.cyc, false⟩] ∧
      s.wordsKept t [evtAddr .ch n] ∧ t = { s with regs := t.regs, pins := t.pins, flt := t.flt })

/-- The context of a channel runs a routine outside a trap, its slice carries traffic with an idle engine and no rate change, and
its target is not in charter mode. PROG (its tile encoded, PROG permitted, its address allowed) drives the four planes, then
parks for the program, or for TLC levels 0 and 1 polls once and ends with the LUN unconfirmed. ERASE (permitted, ledger off, its
address allowed) drives the four planes and parks for the erase. READ_TILE, READ_CW, SHADOW, PATROL, BLANK_VERIFY, BB_SCAN and
READ_CHARTER (enabled), on a LUN that is not suspended and with no read command guarded, start the array read and park for a
read at a free continuation (the model's, log entries 3 and 14). With their array read sent and ended and no missed preamble
READ_TILE, READ_CW, SHADOW and PATROL drive the data output of their last pass and end, BLANK_VERIFY and BB_SCAN end with their
last page, and READ_CHARTER ends with Reset to the target. RESET_LUN on a LUN without an open wordline resets it and parks.
SET_REF, GET_FEAT and STATUS of a ring complete with OK and the status byte, the suspend count and the four bytes read (0
otherwise) in the result half-words, after driving their cycles. Other channels and memory stay. Completion (exec answers next
with the form's own effect, from these conditions alone) is stated for: opProg, opErase, opReadTile, opReadCw, opShadow,
opPatrol, opBlankVerify, opReadCharter, opBbScan, opSetRef, opResetLun, opGetFeat, opStatus. -/
def Obligations.RoutinesDriveParkAndComplete : Prop :=
  (∀ (s : State) (n : Fin 48) (d : Desc), (s.ch n).ctx.run = .run → (s.ch n).ctx.desc = some d → (s.ch n).ctx.inTrap = false →
    (s.ch n).ctx.statWait = false → s.opBus n = true → (s.ch n).eng.charter.getLsbD (d.lun % 8) = false →
    (∀ st : BitVec 8, d.opcode = 1 → (s.ch n).ctx.pc ∉ [0x0213, 0x0218] → s.rateHold n = false → s.permit (n / 8) = true → (s.place n d.place).fullReady d.taddr = true →
      (s.guardCmd n 0x80 = true → s.refuseReason n d.taddr (s.ch n).sealing = none) →
      ∀ w : List BusOp, w = [0, 1, 2, 3].flatMap (fun p => [.sel (d.lun % 8)] ++ s.prefixOps n d.tlc ++
        [.cmd 0x80, s.addr5 n d.taddr p 0, .dout 18432, .cmd (if p < 3 then 0x11 else s.progLast n d)]) →
      (d.tlc = false ∨ d.level = 2 → ∃ t, exec (.opProg n st) s = .next t ∧ (t.lun n d.lun).op = .program ∧
        (t.lun n d.lun).park.map (fun p => (p.cont, p.cls, p.desc)) = some (0x0218, if d.tlc then 2 else 1, d) ∧ (t.ch n).ctx.run = .idle ∧
        (t.ch n).eng.bus = w.reverse ++ (s.ch n).eng.bus ∧ (t.place n d.place).committed = true ∧ (∀ k, k ≠ n.val → t.ch k = s.ch k) ∧
        t = { s with chans := t.chans, luns := t.luns, regs := t.regs, pins := t.pins, flt := t.flt, memi := t.memi }) ∧
      (d.tlc = true → d.level < 2 → st.getLsbD 0 = false → ∃ t, exec (.opProg n st) s = .next t ∧ (t.lun n d.lun).op = .unconfirmed ∧
        (t.lun n d.lun).park = (s.lun n d.lun).park ∧ (t.ch n).ctx.run = .idle ∧ (t.ch n).ctx.desc = none ∧ (t.ch n).ctx.status = st ∧
        (t.ch n).eng.bus = (w ++ s.statOps n d.lun).reverse ++ (s.ch n).eng.bus ∧ (t.place n d.place).committed = true ∧ t.ext = s.ext ∧ t.rot = s.rot)) ∧
    (d.opcode = 2 → (s.ch n).ctx.pc ∉ [0x0304, 0x0330, 0x0344, 0x0345, 0x0352] → s.rateHold n = false → s.permit 6 = true → s.ledgOn = false →
      (s.guardCmd n 0x60 = true → s.refuseReason n (taSet d.taddr * 2048) (s.ch n).sealing = none) →
      ∀ w : List BusOp, w = [0, 1, 2, 3].flatMap (fun p => [.sel (d.lun % 8)] ++ s.prefixOps n d.tlc ++
        [.cmd 0x60, .addr (s.rowBytes n (taSet d.taddr * 2048) p 0)] ++ (if p < 3 then .cmd 0xD1 :: s.statOps n d.lun else [.cmd 0xD0])) →
      ∃ t, exec (.opErase n) s = .next t ∧ (t.lun n d.lun).op = .erase ∧ (t.lun n d.lun).run0 = some s.cyc ∧ (t.lun n d.lun).susCnt = 0 ∧
        (t.lun n d.lun).park.map (fun p => (p.cont, p.cls, p.desc)) = some (0x0330, 3, d) ∧ (t.ch n).ctx.run = .idle ∧
        (t.ch n).eng.bus = w.reverse ++ (s.ch n).eng.bus ∧ (∀ k, k ≠ n.val → t.ch k = s.ch k) ∧ t.ext = s.ext ∧ t.pwr = s.pwr ∧ t.rot = s.rot) ∧
    (∀ x : List DieBurst, ∀ q ∈ ([(3, .opReadTile n x), (4, .opReadCw n x), (5, .opShadow n x), (6, .opPatrol n x), (7, .opBlankVerify n x),
        (8, .opReadCharter n x), (9, .opBbScan n x)] : List (Nat × Instr)), d.opcode = q.1 → s.getM n 3 = 0 → s.rateHold n = false → (s.lun n d.lun).suspended = false →
        s.guardCmd n 0x00 = false → (d.opcode = 8 → s.flag (R.CH_CHARTER_EN n) = true) → (3 ≤ d.opcode → d.opcode ≤ 6 → d.planes ≠ []) →
      ∃ t, exec q.2 s = .next t ∧ (t.lun n d.lun).op = .read ∧ (t.lun n d.lun).park.map (fun p => (p.cls, p.desc)) = some (0, d) ∧
        (t.ch n).ctx.run = .idle ∧ (t.ch n).ctx.desc = none ∧ (t.ch n).eng.sel = some (d.lun % 8) ∧ (t.ch n).eng.bus.head? = some (.cmd 0x30) ∧
        (t.ch n).eng.charter.getLsbD (d.lun % 8) = decide (d.opcode = 8) ∧
        t.free = s.free + 1 ∧ (∀ k, k ≠ n.val → t.ch k = s.ch k) ∧ t = { s with chans := t.chans, luns := t.luns, free := t.free }) ∧
    (∀ x : List DieBurst, ∀ q ∈ ([(3, .opReadTile n x), (4, .opReadCw n x), (5, .opShadow n x), (6, .opPatrol n x)] : List (Nat × Instr)), d.opcode = q.1 → s.getM n 3 ≠ 0 → s.readReady n d = true → s.getM n 0 + 1 = d.passes → s.guardCmd n 0x06 = false → (∀ b ∈ x, b.miss = 0) →
      ∃ t, exec q.2 s = .next t ∧ (t.ch n).ctx.run = .idle ∧ (t.ch n).ctx.desc = none ∧ (t.ch n).eng.preMiss = (if d.cws = [] then (s.ch n).eng.preMiss else false) ∧
        (t.ch n).eng.bus = (BusOp.sel (d.lun % 8) :: (d.chunks (s.getM n 0)).flatMap (fun (c : Chunk) =>
          [BusOp.cmd 0x06, s.addr5 n d.taddr c.2.2.1 c.2.2.2, .cmd 0xE0, .din c.2.1])).reverse ++ (s.ch n).eng.bus) ∧
    (∀ x : List DieBurst, ∀ q ∈ ([(7, .opBlankVerify n x, decide ((s.blankPages n d.tlc).length ≤ s.getM n 0 + 1)), (9, .opBbScan n x, decide (2 * d.count ≤ s.getM n 0 + 1))] : List (Nat × Instr × Bool)),
      d.opcode = q.1 → q.2.2 = true → s.getM n 3 ≠ 0 → s.readReady n d = true → s.guardCmd n 0x06 = false → (∀ b ∈ x, b.miss = 0) →
      ∃ t, exec q.2.1 s = .next t ∧ (t.ch n).ctx.run = .idle ∧ (t.ch n).ctx.desc = none ∧ (t.ch n).eng.sel = some (d.lun % 8)) ∧
    (d.opcode = 0x0C → (s.ch n).ctx.wakeRdy = false → (s.lun n d.lun).wl = none → ∃ t, exec (.opResetLun n) s = .next t ∧
      (t.lun n d.lun).op = .reset ∧ (t.lun n d.lun).park.map (fun p => (p.cls, p.desc)) = some (0, d) ∧ (t.ch n).ctx.run = .idle ∧
      (t.ch n).eng.sel = some (d.lun % 8) ∧ (t.ch n).eng.last = 0xFA ∧ t.free = s.free + 1 ∧ (∀ k, k ≠ n.val → t.ch k = s.ch k) ∧
      t = { s with chans := t.chans, luns := t.luns, free := t.free }) ∧
    (∀ (b : BitVec 32) (st : BitVec 8), d.org = 1 → d.cmpl = true → ∀ q ∈ ([
        (0x0A, .opSetRef n, (s.ch n).ctx.status, 0#32, [.data [d.par 1, d.par 2, d.par 3, d.par 4], .addr [d.lun / 8, d.par 0], .cmd 0xD5, .sel (d.lun % 8)]),
        (0x0B, .opGetFeat n b, (s.ch n).ctx.status, b, [.din 4, .addr [d.lun / 8, d.par 0], .cmd 0xD4, .sel (d.lun % 8)]),
        (0x0D, .opStatus n st, st, 0#32, [(match (s.ch n).eng.sel with | some c => .sel c | none => .desel), .addr (s.rowBytes n (taddrOf n d.lun 0 0) 0 0), .cmd 0x78, .sel (d.lun % 8)])] :
        List (Nat × Instr × BitVec 8 × BitVec 32 × List BusOp)), d.opcode = q.1 →
      ∃ t, exec q.2.1 s = .next t ∧ t.rng.recs = s.rng.recs ++ [s.chanRec (d.origin % 16384) d.tag 0
          [BitVec.ofNat 16 q.2.2.1.toNat, BitVec.ofNat 16 (s.lun n d.lun).susCnt, q.2.2.2.1.extractLsb' 0 16, q.2.2.2.1.extractLsb' 16 16]] ∧
        (t.ch n).ctx.run = .idle ∧ (t.ch n).ctx.desc = none ∧ (t.ch n).eng.bus = q.2.2.2.2 ++ (s.ch n).eng.bus ∧
        (∀ k, k ≠ n.val → t.ch k = s.ch k) ∧ t = { s with chans := t.chans, luns := t.luns, rng := t.rng })) ∧
  (∀ (s : State) (n : Fin 48) (d : Desc) (x : List DieBurst), (s.ch n).ctx.run = .run → (s.ch n).ctx.desc = some d → (s.ch n).ctx.inTrap = false → (s.ch n).ctx.statWait = false → s.opBus n = true →
    d.opcode = 8 → s.flag (R.CH_CHARTER_EN n) = true → s.getM n 3 ≠ 0 → s.readReady n d = true → s.guardCmd n 0x06 = false → (∀ b ∈ x, b.miss = 0) →
    ∃ t, exec (.opReadCharter n x) s = .next t ∧ (t.ch n).ctx.run = .idle ∧ (t.ch n).ctx.desc = none ∧ (t.ch n).eng.charter.getLsbD (d.lun % 8) = false ∧
      (t.ch n).eng.bus = [.cmd 0xFF, .sel (d.lun % 8), .din 18432, .cmd 0xE0, s.addr5 n d.taddr 0 0, .cmd 0x06, .sel (d.lun % 8)] ++ (s.ch n).eng.bus)

/-- A write of CH[n].CTRL sets WP_OPEN, and FLn_WP_N follows it or the running seal (a slice that keeps its level after a warm reset
aside). BB_MARK of another channel's address changes nothing; of its own, with no injection armed and the word of the bitmap
clean, its bit of the bitmap is set and every other word of on-chip memory keeps its content. GDT_START with START = 1 while
idle sets BUSY and asks for the table's header. GDT_DONE, all parts of the table having come back, ends a load with memory error
4, of a wrong first word 1, of more than 65,536 entries 3, of a wrong CRC 2: each clears BUSY, gives SET 0, raises GDT_DONE and
marks no block set; a good table with no entry of this channel ends with result 0. Completion (exec answers next with the form's
own effect, from these conditions alone) is stated for: bbMark, wpOpen, gdtStart, gdtDone. -/
def Obligations.ChannelPinsAndBadBlocks : Prop :=
  (∀ (s : State) (n : Fin 48) (x : Word), s.portTakes (R.CH_CTRL_WP_OPEN n).addr → ∃ t, exec (.wpOpen n x) s = .next t ∧
    t.flag (R.CH_CTRL_WP_OPEN n) = x.getLsbD (R.CH_CTRL_WP_OPEN n).lsb ∧
    ((s.ch n).wpHeld = false → t.ch n = { s.ch n with wp := x.getLsbD (R.CH_CTRL_WP_OPEN n).lsb || (s.ch n).sealing }) ∧
    ((s.ch n).wpHeld = true → t.ch n = s.ch n) ∧ (∀ k, k ≠ n.val → t.ch k = s.ch k) ∧ s.wordsKept t [(R.CH_CTRL_WP_OPEN n).addr] ∧
    t = { s with regs := t.regs, chans := t.chans }) ∧
  (∀ (s : State) (n : Fin 48) (x : Word), s.portTakes (R.CH_BB_MARK_TADDR n).addr → taCh x.toNat ≠ n.val → exec (.bbMark n x) s = .next s) ∧
  (∀ (s : State) (n : Fin 48) (x : Word), s.portTakes (R.CH_BB_MARK_TADDR n).addr → taCh x.toNat = n.val →
    ∀ a, a = badAt n (taLun x.toNat) (taBlk x.toNat) → s.memi.inj = none → strongClass (s.stored 5 (winWord a.1)) = .clean →
    ∃ t, exec (.bbMark n x) s = .next t ∧ t.blkBad x.toNat = true ∧
      (∀ w, w ≠ winWord a.1 → t.peek 5 w = s.peek 5 w) ∧
      t.peek 5 (winWord a.1) = s.peek 5 (winWord a.1) ||| BitVec.ofNat 32 (2 ^ (8 * (a.1 % 4) + a.2)) ∧
      t = { s with sram := t.sram, memi := t.memi }) ∧
  (∀ (s : State) (n : Fin 48) (x : Word), s.portTakes (R.CH_GDT_CMD_START n).addr → x.getLsbD 0 = true → s.flag (R.CH_GDT_STAT_BUSY n) = false →
    ∃ t, exec (.gdtStart n x) s = .next t ∧ t.flag (R.CH_GDT_STAT_BUSY n) = true ∧ s.wordsKept t [(R.CH_GDT_STAT_BUSY n).addr] ∧
      t.ch n = { s.ch n with gdt := {} } ∧ (∀ k, k ≠ n.val → t.ch k = s.ch k) ∧ t = { s with chans := t.chans, regs := t.regs, rng := t.rng } ∧
      t.rng = { s.rng with rb := s.rng.rb ++ [.gdt n (s.get (R.CH_GDT_HI_ADDR n) * 2 ^ 32 + s.get (R.CH_GDT_LO_ADDR n) * 64) 0 64] }) ∧
  (∀ (s : State) (n : Fin 48) (w : Nat) (g : GdtS), s.flag (R.CH_GDT_STAT_BUSY n) = true → (s.ch n).gdt = g → g.want = some w → w ≤ g.data.length →
    ∀ k, k = s.gdtU n 4 → ∀ q ∈ [(4, g.err), (1, !g.err && decide (s.gdtU n 0 ≠ 0x54444745)),
        (3, !g.err && decide (s.gdtU n 0 = 0x54444745) && decide (65536 < k)),
        (2, !g.err && decide (s.gdtU n 0 = 0x54444745) && decide (k ≤ 65536) &&
          decide (crc32 (g.data.take 12 ++ (g.data.drop 0x40).take (4 * k)) ≠ s.gdtU n 12)),
        (0, !g.err && decide (s.gdtU n 0 = 0x54444745) && decide (k = 0) && decide (crc32 (g.data.take 12) = s.gdtU n 12))], q.2 = true →
      ∃ t, exec (.gdtDone n) s = .next t ∧ t.get (R.CH_GDT_STAT_RESULT n) = q.1 ∧ t.get (R.CH_GDT_STAT_SET n) = 0 ∧
        t.flag (R.CH_GDT_STAT_BUSY n) = false ∧ t.event .ch n 3 = true ∧ s.wordsKept t [(R.CH_GDT_STAT_BUSY n).addr, evtAddr .ch n] ∧
        t.ch n = { s.ch n with gdt := {} } ∧ (∀ k, k ≠ n.val → t.ch k = s.ch k) ∧ t = { s with chans := t.chans, regs := t.regs, pins := t.pins })

/-- ENCODE_CODEWORD sets the ENC bit of the codeword picked and the address it is encoded for; with no injection armed the place
then holds the scrambled info bytes and their parity. REENCODE of a place whose PROG carries another address keeps its ENC mask
and takes the new address. DECODE_JOB of a landed codeword with more zero bits than ERASED_MAX queues one job, in the first
queue for a read of opcode 3 or 4, else in the second; one with no more becomes ERASED and, where no read waits for its place
and no ladder holds it, nothing more. DECODE_START gives the oldest job of the first queue, else of the second, to the lowest
engine that is free and takes work. DECODE_DONE of an engine frees it, writes the result word and counts PASS or FAIL, where no
read and no ladder waits for the place. Completion (exec answers next with the form's own effect, from these conditions alone)
is stated for: encodeCodeword, reencode, decodeJob, decodeStart, decodeDone. -/
def Obligations.EncodersAndPoolRunTheirJobs : Prop :=
  (∀ (s : State) (n : Fin 48) (p k : Nat), s.encPick n = some (p, k) → ∃ t, exec (.encodeCodeword n) s = .next t ∧
    (t.place n p).enc = (s.place n p).enc ||| 2 ^ k ∧ (t.place n p).encAddr = s.encTarget n p ∧
    (s.memi.inj = none → t.tbGet n p (k * 4608) 4608 = s.encodedCw n p k (s.encTarget n p)) ∧
    (∀ j, j ≠ p → t.place n j = s.place n j) ∧ (∀ j, j ≠ n.val → t.ch j = s.ch j) ∧
    t = { s with chans := t.chans, tbuf := t.tbuf, memi := t.memi, sram := t.sram, regs := t.regs, pins := t.pins, flt := t.flt }) ∧
  (∀ (s : State) (n : Fin 48) (p : Fin 8), s.encPick n = none → (s.place n p).used = true → (s.place n p).issued = true → (s.place n p).enc ≠ 0 →
    (s.place n p).enc < 65536 → (s.place n p).encAddr ≠ s.encTarget n p →
    (∀ j : Fin 8, j ≠ p → (s.place n j).used = true → (s.place n j).issued = true → (s.place n j).enc = 0 ∨ (s.place n j).encAddr = s.encTarget n j) →
    ∃ t, exec (.reencode n) s = .next t ∧ (t.place n p).enc = (s.place n p).enc ∧ (t.place n p).encAddr = s.encTarget n p ∧
      (∀ j : Fin 8, j ≠ p → t.place n j = s.place n j) ∧ (∀ j, j ≠ n.val → t.ch j = s.ch j) ∧
      t = { s with chans := t.chans, tbuf := t.tbuf, memi := t.memi, sram := t.sram, regs := t.regs, pins := t.pins, flt := t.flt }) ∧
  (∀ (s : State) (x : DLand) (xs : List DLand), s.dec.landed = x :: xs →
    s.get R.DEC_ERASED_MAX_MAX < zeroBits (s.dGet x.desc.dbuf (x.desc.cwOff x.cw) 4608) →
    ∃ t, exec .decodeJob s = .next t ∧ ∃ j : Job, j.place = x.desc.dbuf ∧ j.cw = x.cw ∧ j.off = x.desc.cwOff x.cw ∧ j.soft = x.desc.soft ∧
      j.taddr = x.desc.taddr ∧ j.step = x.desc.stepEff ∧ j.cap = s.stepCap x.desc.stepEff ∧
      ((x.desc.opcode = 3 ∨ x.desc.opcode = 4) → t = { s with dec := { s.dec with landed := xs, hi := s.dec.hi ++ [j] } }) ∧
      (x.desc.opcode ≠ 3 → x.desc.opcode ≠ 4 → t = { s with dec := { s.dec with landed := xs, lo := s.dec.lo ++ [j] } })) ∧
  (∀ (s : State) (x : DLand) (xs : List DLand), s.dec.landed = x :: xs →
    zeroBits (s.dGet x.desc.dbuf (x.desc.cwOff x.cw) 4608) ≤ s.get R.DEC_ERASED_MAX_MAX →
    (∀ n, n < 48 → ∀ r ∈ (s.ch n).reads, r.desc.dbuf ≠ x.desc.dbuf) → (∀ id p, s.dplace x.desc.dbuf ≠ .ladder id p) →
    ∃ t, exec .decodeJob s = .next t ∧ t = { s with dec := { s.dec with landed := xs, result := t.dec.result } } ∧
      tget zeroWord t.dec.result (x.desc.dbuf * 16 + x.cw) = BitVec.ofNat 32 (2 ^ 31 + 2 * 2 ^ 29 + x.desc.stepEff * 256)) ∧
  (∀ (s : State) (e : Nat) (j : Job) (js : List Job), e < s.gen.ndec → s.takesWork (decDom e) = true → s.dec.run.all (fun q => q.1 ≠ e) = true →
    (∀ k, k < e → s.takesWork (decDom k) = true → (tget (fun _ => none) s.dec.run k : Option Job) ≠ none) →
    ((s.dec.hi = j :: js → ∃ t, exec .decodeStart s = .next t ∧ t = { s with dec := { s.dec with hi := js, run := t.dec.run } } ∧
        (tget (fun _ => none) t.dec.run e : Option Job) = some j ∧ ∀ k, k ≠ e → (tget (fun _ => none) t.dec.run k : Option Job) = tget (fun _ => none) s.dec.run k) ∧
     (s.dec.hi = [] → s.dec.lo = j :: js → ∃ t, exec .decodeStart s = .next t ∧ t = { s with dec := { s.dec with lo := js, run := t.dec.run } } ∧
        (tget (fun _ => none) t.dec.run e : Option Job) = some j ∧ ∀ k, k ≠ e → (tget (fun _ => none) t.dec.run k : Option Job) = tget (fun _ => none) s.dec.run k))) ∧
  (∀ (s : State) (e : Fin 24) (j : Job), (tget (fun _ => none) s.dec.run e : Option Job) = some j →
    (∀ n, n < 48 → ∀ r ∈ (s.ch n).reads, r.desc.dbuf ≠ j.place) → (∀ id p, s.dplace j.place ≠ .ladder id p) →
    ∃ t, exec (.decodeDone e) s = .next t ∧ t = { s with dec := t.dec, memi := t.memi, sram := t.sram, regs := t.regs, pins := t.pins, flt := t.flt } ∧
      (tget (fun _ => none) t.dec.run e : Option Job) = none ∧ t.dec.hi = s.dec.hi ∧ t.dec.lo = s.dec.lo ∧ t.dec.landed = s.dec.landed ∧
      t.dec.places = s.dec.places ∧
      tget zeroWord t.dec.result (j.place * 16 + j.cw) = BitVec.ofNat 32 (2 ^ 31 + b2n (!(s.decodeJob j).pass) * 2 ^ 29 +
        (s.decodeJob j).usc * 2 ^ 16 + j.step * 256 + (s.decodeJob j).iter) ∧
      ((s.decodeJob j).pass = true → t.get R.DEC_CW_PASS_CNT = min (2 ^ R.DEC_CW_PASS_CNT.wid - 1) (s.get R.DEC_CW_PASS_CNT + 1) ∧ t.get R.DEC_CW_FAIL_CNT = s.get R.DEC_CW_FAIL_CNT) ∧
      ((s.decodeJob j).pass = false → t.get R.DEC_CW_FAIL_CNT = min (2 ^ R.DEC_CW_FAIL_CNT.wid - 1) (s.get R.DEC_CW_FAIL_CNT + 1) ∧ t.get R.DEC_CW_PASS_CNT = s.get R.DEC_CW_PASS_CNT ∧
        t.event .dec 0 0 = true ∧ t.dec.buf = s.dec.buf))

/-- For a stripe open in its profile, alone of its number: STRIPE_CLOSE_TIMEOUT (CLOSE_TO not 0) and LACE_CLOSE of the profile note
the close while a tile is landing; with all taken slots landed and room left, a profile that is no cascade profile is closed
short with its parity copies named and SHORT_CLOSE raised. STRIPE_CANCEL takes the first vanished tile of no open stripe off the
list, and frees the slot of one of an open stripe. PARITY_COPY of a closed stripe claims the lowest free place of its channel
for a parity tile and takes the copy off the list, and while a seal applies nothing but the lace unit, the channel and the
buffer's memories changes. STRIPE_RECORD with REC_COUNT 0 forgets a complete stripe and raises STRIPE_RECORD's event; with
REC_COUNT not 0 it writes the record, once a seal applies with CLOSE = 2. PROFILE_ENABLE of a word with EN sets EN when the
fields pass, and raises PROF_REFUSED with EN left 0 when they do not. Completion (exec answers next with the form's own effect,
from these conditions alone) is stated for: stripeCancel, parityCopy, stripeCloseTimeout, laceClose, stripeRecord,
profileEnable. -/
def Obligations.LaceStripesCloseCopyAndRecord : Prop :=
  (∀ (s : State) (p : Fin 8) (x : Stripe) (w : Word), s.openStripe p = some x → x.want ≠ some 2 → s.lace.stripes.filter (fun y => y.num = x.num) = [x] →
    s.portTakes R.LACE_CLOSE_PROF.addr → s.get (R.LACE_PROF3_CLOSE_TO p) ≠ 0 → w = 1#32 <<< p.val →
    (x.landed = false → (∃ t, exec (.stripeCloseTimeout p) s = .next t ∧ t.lace.stripes = s.lace.stripes.map (fun y => if y = x then { y with want := some 1 } else y) ∧
        t = { s with lace := { s.lace with stripes := t.lace.stripes } }) ∧
      (∃ t, exec (.laceClose w) s = .next t ∧ t.lace.stripes = s.lace.stripes.map (fun y => if y = x then { y with want := some 1 } else y) ∧
        (t.rd R.LACE_CLOSE_PROF.addr).getLsbD p = true ∧ s.wordsKept t [R.LACE_CLOSE_PROF.addr] ∧
        t = { s with lace := { s.lace with stripes := t.lace.stripes }, regs := t.regs })) ∧
    (x.landed = true → x.casc = false → (x.slots.filter (fun y => !y.free)).length < x.cap →
      ∀ c ∈ [Instr.stripeCloseTimeout p, Instr.laceClose w], ∃ t, exec c s = .next t ∧
        t.lace.stripes = s.lace.stripes.map (fun y => if y = x then { y with want := some 1, closed := some 1, copies := parityCopies x, noParity := false, fin := true } else y) ∧
        (t.rd R.LACE_CLOSE_PROF.addr).getLsbD p = false ∧ t.event .lace 0 1 = true ∧ s.wordsKept t [R.LACE_CLOSE_PROF.addr, evtAddr .lace 0] ∧
        t = { s with lace := { s.lace with stripes := t.lace.stripes }, regs := t.regs, pins := t.pins })) ∧
  (∀ (s : State) (n p g : Nat) (r : List (Nat × Nat × Nat)), s.lace.cancels = (n, p, g) :: r →
    (s.lace.stripes.find? (fun x => x.num = (s.place n p).stripe ∧ x.closed = none) = none →
      exec .stripeCancel s = .next { s with lace := { s.lace with cancels := r } }) ∧
    (∀ x, s.lace.stripes.find? (fun x => x.num = (s.place n p).stripe ∧ x.closed = none) = some x → x.want = none → (x.slots.filter (fun y => !y.free)).length < x.cap →
      s.lace.stripes.filter (fun y => y.num = x.num) = [x] →
      ∃ t, exec .stripeCancel s = .next t ∧ t.lace.cancels = r ∧ t.lace.stripes = s.lace.stripes.map (fun y => if y = x then
          { y with slots := y.slots.map (fun z => if z.ch = n ∧ z.place = p ∧ !z.free then { z with free := true } else z) } else y) ∧
        (t.place n p).stripe = 0xFFFFFFFF ∧ (t.place n p).enc = 0 ∧ (∀ j, j ≠ p → t.place n j = s.place n j) ∧ (∀ k, k ≠ n → t.ch k = s.ch k) ∧ t.ext = s.ext ∧ t.pwr = s.pwr)) ∧
  (∀ (s : State) (a : Fin 8) (k : Fin 4) (x : Stripe) (n p : Nat), s.lace.stripes.find? (fun y => y.set = a.val ∧ y.closed.isSome ∧ y.copies.any (fun c => c.1 = k.val)) = some x →
    x.copies.find? (fun c => c.1 = k.val) = some (k.val, n) → s.freePlace n = some p →
    ∃ t, exec (.parityCopy a k) s = .next t ∧ (t.place n p).used = true ∧ (t.place n p).kind = .parity ∧ (t.place n p).whole = true ∧
      (t.place n p).stripe = x.num ∧ (t.place n p).slot = x.d + k ∧ (t.place n p).width = x.width ∧ (t.place n p).parity = x.parity ∧
      (∀ j, j ≠ p → t.place n j = s.place n j) ∧ t.ext = s.ext ∧ t.rot = s.rot ∧ t.pwr = s.pwr ∧
      (x.copies = [(k.val, n)] → t.lace.used = s.lace.used.erase a) ∧ (x.copies ≠ [(k.val, n)] → (∀ c ∈ x.copies, c.1 = k.val → c = (k.val, n)) → x.copies.Nodup → t.lace.used = s.lace.used) ∧
      (s.sealApplies = true → (∀ j, j ≠ n → t.ch j = s.ch j) ∧ t = { s with lace := t.lace, chans := t.chans, tbuf := t.tbuf, memi := t.memi, sram := t.sram, regs := t.regs, pins := t.pins, flt := t.flt })) ∧
  (∀ (s : State) (x : Stripe), s.lace.stripes.find? s.recordDue = some x →
    (s.get R.LACE_REC_COUNT_CNT = 0 → ∃ t, exec .stripeRecord s = .next t ∧ t.lace.stripes = s.lace.stripes.filter (fun y => y.num ≠ x.num) ∧
      t.event .lace 0 0 = true ∧ s.wordsKept t [evtAddr .lace 0] ∧ t = { s with lace := { s.lace with stripes := t.lace.stripes }, regs := t.regs, pins := t.pins }) ∧
    (s.get R.LACE_REC_COUNT_CNT ≠ 0 → s.mirrors = false → ∃ t, exec .stripeRecord s = .next t ∧ t.lace.stripes = s.lace.stripes.filter (fun y => y.num ≠ x.num) ∧
      t.event .lace 0 0 = true ∧ t.mp.writes.length = s.mp.writes.length + 1 ∧
      t.mp.writes.getLast?.map (fun w => (w.data, w.use)) = some (stripeRecord (if s.sealApplies then { x with closed := some 2 } else x), .stripeRec x.num) ∧ t.chans = s.chans ∧ t.rng = s.rng)) ∧
  (∀ (s : State) (p : Fin 8) (w : Word), s.portTakes (R.LACE_PROF0_EN p).addr → s.flag (R.LACE_PROF0_EN p) = false → w.getLsbD 0 = true →
    ∀ u, u = s.regMerge (R.LACE_PROF0_EN p).addr 0xF#4 w →
      (u.profOk p = false → ∃ t, exec (.profileEnable p w) s = .next t ∧ t.flag (R.LACE_PROF0_EN p) = false ∧ t.event .lace 0 2 = true ∧
        s.wordsKept t [(R.LACE_PROF0_EN p).addr, evtAddr .lace 0] ∧ t = { s with regs := t.regs, pins := t.pins }) ∧
      (u.profOk p = true → s.cascProf p = false → ∃ t, exec (.profileEnable p w) s = .next t ∧ t.flag (R.LACE_PROF0_EN p) = true ∧
        s.wordsKept t [(R.LACE_PROF0_EN p).addr] ∧ t = { s with regs := t.regs, lnk := { s.lnk with barred := s.lnk.barred.erase p } }))

/-- SHADOW_PROBE_DUE issues a SHADOW descriptor of the probe picked and notes when it falls due again. PATROL_ISSUE moves NEXT on,
and for a tile number whose map line is not held keeps a place and waits for the map. LADDER_STEP of the group picked issues a
READ_CW of its codewords at the next step, runs step 5 on step 4's place, or ends the steps and marks its codewords for
reconstruction. RECONSTRUCT of the first request that can move asks for its stripe's record, starts from the record that names
the tile (UNCORRECTABLE when the record does not check), and issues the next survivor read. SURVIVOR_FOLD takes the survivor off
the list, and frees its place. LACE_SOLVE ends the request, counts RECON_CNT and returns the set when the parity rows suffice;
else it ends UNCORRECTABLE. RECON_TIMEOUT ends a member's answer. Completion (exec answers next with the form's own effect, from
these conditions alone) is stated for: shadowProbeDue, patrolIssue, ladderStep, reconstruct, survivorFold, laceSolve,
reconTimeout. -/
def Obligations.LadderAndReconstructionAdvance : Prop :=
  (∀ (s : State) (n : Fin 48) (p : Nat × Bool × Nat) (e : Nat), s.flag R.DEC_CTRL_SHADOW_EN = true → s.sealApplies = false →
    (∀ k < s.gen.ndec, s.dplace k ≠ .shadow n) → (s.probeSync [n.val]).probePick n = some p → s.decFree = some e →
    ∀ a, a = s.sample n p.1 p.2.1 + (if p.2.1 then s.lvlPage p.2.2 else 0) →
    ∃ t, exec (.shadowProbeDue n) s = .next t ∧ t.dplace e = .shadow n ∧ (tget (fun _ => none) t.rcv.probes (probeKey n p) : Option Nat) = some (s.cyc + s.usCyc (1000 * max 1 (s.get R.DEC_SHADOW_CFG_PERIOD))) ∧
      t.ch (taCh a) = { s.ch (taCh a) with wait := (s.ch (taCh a)).wait ++ [{ opcode := 5, flags := if p.2.1 then 16 else 0, origin := 0x8000, taddr := a, dbuf := e, param := p.2.2 + s.shDelta * 256 }] } ∧
      (∀ k, k ≠ taCh a → t.ch k = s.ch k) ∧ (∀ k, k ≠ e → t.dplace k = s.dplace k) ∧ t = { s with dec := t.dec, rcv := { s.rcv with probes := t.rcv.probes }, chans := t.chans }) ∧
  (∀ (s : State) (e : Nat), s.flag R.DEC_CTRL_PATROL_EN = true → s.sealApplies = false → s.decFree = some e →
    s.get R.DEC_PATROL_LO_TILENO ≤ s.get R.DEC_PATROL_NEXT_TILENO → s.get R.DEC_PATROL_NEXT_TILENO < s.get R.DEC_PATROL_HI_TILENO →
    ∀ k, k = s.get R.DEC_PATROL_NEXT_TILENO → (s.mapEntries ≤ k ∨ s.mapHas (k / 16) = false) →
    ∃ t, exec .patrolIssue s = .next t ∧ t.get R.DEC_PATROL_NEXT_TILENO = (if k + 1 < s.get R.DEC_PATROL_HI_TILENO then k + 1 else s.get R.DEC_PATROL_LO_TILENO) ∧
      s.wordsKept t [R.DEC_PATROL_NEXT_TILENO.addr, R.MAP_MISS_CNT_CNT.addr] ∧
      (s.mapEntries ≤ k → t = { s with regs := t.regs }) ∧
      (k < s.mapEntries → t.dplace e = .patrol ∧ t.map.waiting = s.map.waiting ++ [.patrol k e] ∧ k / 16 ∈ t.map.fills ∧ (∀ j, j ≠ e → t.dplace j = s.dplace j) ∧ t.chans = s.chans ∧ t.rng = s.rng)) ∧
  (∀ (s : State) (q : RReq) (g : LGroup), s.sealApplies = false → s.ladderPick = some (q, g) → s.rcv.reqs.filter (fun r => r.id = q.id) = [q] → q.groups.filter (fun h => h.plane = g.plane) = [g] →
    (∀ e, g.step ≤ 5 → g.step ≠ 4 → g.step + 1 ≤ s.ladderLast → s.decFree = some e → ∃ t, exec .ladderStep s = .next t ∧
      t.rcv.reqs = s.rcv.reqs.map (fun r => if r = q then { q with deep := max q.deep (g.step + 1), groups := q.groups.map (fun h => if h = g then { g with step := g.step + 1, busy := true, place := some e, asked := g.cws, sets := if g.step ≤ 1 then g.sets ++ [s.stepSet q g (g.step + 1)] else g.sets } else h) } else r) ∧
      t.dplace e = .ladder q.id g.plane ∧ (∀ k, k ≠ e → t.dplace k = s.dplace k) ∧
      t.ch (taCh q.taddr) = { s.ch (taCh q.taddr) with wait := (s.ch (taCh q.taddr)).wait ++ [{ opcode := 4, flags := if q.tlc then 16 else 0, origin := 0xC000, taddr := q.taddr, dbuf := e, mask := g.cws.foldl (fun m k => m + 2 ^ k) 0, refset := s.stepSet q g (g.step + 1), step := g.step + 1 }] } ∧
      (∀ k, k ≠ taCh q.taddr → t.ch k = s.ch k) ∧ t = { s with dec := t.dec, rcv := { s.rcv with reqs := t.rcv.reqs }, chans := t.chans }) ∧
    (∀ e, g.step = 4 → 5 ≤ s.ladderLast → g.place = some e → ∃ t, exec .ladderStep s = .next t ∧
      t.rcv.reqs = s.rcv.reqs.map (fun r => if r = q then { q with deep := max q.deep 5, groups := q.groups.map (fun h => if h = g then { g with step := 5, busy := true } else h) } else r) ∧
      t.dec.hi.length = s.dec.hi.length + g.cws.length ∧ (t.dec.hi.drop s.dec.hi.length).map (fun j => (j.place, j.cw, j.step, j.cap, j.soft)) = g.cws.map (fun k => (e, k, 5, s.stepCap 5, true)) ∧
      t = { s with dec := t.dec, rcv := { s.rcv with reqs := t.rcv.reqs } }) ∧
    (s.ladderLast = 7 → g.step = 6 → g.place = none → q.low = false → s.flag R.DEC_CTRL_RECON_EN = true → exec .ladderStep s = .next { s with rcv := { s.rcv with reqs := s.rcv.reqs.map (fun r => if r = q then { q with groups := q.groups.filter (fun h => h ≠ g), dead := q.dead ++ g.cws } else r) } })) ∧
  (∀ (s : State) (q : RReq), s.sealApplies = false → s.rcv.reqs.find? (fun r => (s.reconMove r).isSome) = some q → s.rcv.reqs.filter (fun r => r.id = q.id) = [q] → q.wantsRecon = true →
    (∀ (x : ReconS) (j e : Nat) (r : List Nat), q.recon = some x → x.todo = j :: r → s.decFree = some e → ∀ a, a = x.addrs.getD j unmapped → ∃ t, exec .reconstruct s = .next t ∧
      t.rcv.reqs = s.rcv.reqs.map (fun y => if y = q then { q with recon := some { x with todo := r } } else y) ∧ t.dplace e = .survivor q.id j ∧
      t.ch (taCh a) = { s.ch (taCh a) with wait := (s.ch (taCh a)).wait ++
        [{ opcode := 4, flags := if s.addrTlc a q.tlc then 16 else 0, origin := 0xC000, taddr := a, dbuf := e, mask := x.mask }] } ∧
      (∀ k, k ≠ taCh a → t.ch k = s.ch k) ∧ t = { s with dec := t.dec, rcv := { s.rcv with reqs := t.rcv.reqs }, chans := t.chans }) ∧
    (q.recon = none → q.low = false → s.ladderLast = 7 → s.flag R.DEC_CTRL_RECON_EN = true → s.ownStripe q = none → q.hint ≠ unmapped →
      (∀ c, c = s.get R.LACE_REC_COUNT_CNT → c ≠ 0 → q.rd = none → ∃ t, exec .reconstruct s = .next t ∧
        t.rcv.reqs = s.rcv.reqs.map (fun y => if y = q then { q with deep := 7, rd := some (q.hint, none) } else y) ∧
        t.mp = (s.mpRead (q.hint % 2) 0 0 (s.get R.LACE_REC_BASE_HI_ADDR * 2 ^ 32 + s.get R.LACE_REC_BASE_LO_ADDR * 1024 + q.hint % c * 1024) 16 (.stripeRead q.id q.hint)).mp ∧
        t = { s with rcv := { s.rcv with reqs := t.rcv.reqs }, mp := t.mp }) ∧
      (∀ a i b, s.setsRoom = true → s.setFree = some a → q.rd = some (q.hint, some b) →
        recGood b q.hint = true → recU b 11 1 ≠ 2 → (recAddrs b).findIdx? (fun y => y = q.taddr) = some i → (∀ y ∈ recAddrs b, y ≠ remoteSlot) →
        ∃ t, exec .reconstruct s = .next t ∧ t.lace.used = s.lace.used ++ [a] ∧ t.rcv.reqs = s.rcv.reqs.map (fun y => if y = q then { q with deep := 7, recon := some { stripe := q.hint, width := recU b 8 1, parity := recU b 9 1, addrs := recAddrs b, slot := i, mask := q.dead.foldl (fun m k => m ||| 2 ^ k) 0, set := a, left := (List.range (recAddrs b).length).filter (fun j => j ≠ i ∧ (recAddrs b).getD j unmapped ≠ unmapped), todo := (List.range (recAddrs b).length).filter (fun j => j ≠ i ∧ (recAddrs b).getD j unmapped ≠ unmapped), lost := if i < recU b 8 1 - recU b 9 1 then [i] else [], rows := [], peers := [], prof := recU b 10 1 } } else y) ∧
          t = { s with lace := t.lace, rcv := { s.rcv with reqs := t.rcv.reqs } }) ∧
      (∀ b, q.rd = some (q.hint, some b) → recGood b q.hint = false → q.who.map (fun w => match w with | .chan _ _ => true | _ => false) = [true] → s.rcv.wait = [] →
        ∃ t, exec .reconstruct s = .next t ∧ (∀ y ∈ t.rcv.reqs, y.id ≠ q.id) ∧ t.get R.DEC_LADDER_LOG_STATUS = 0x52 ∧ t.event .dec 0 5 = true))) ∧
  (∀ (s : State) (id j e : Nat) (r : List (Nat × Nat × Nat)), s.rcv.folds = (id, j, e) :: r → s.rng.reads = [] → ∃ t, exec .survivorFold s = .next t ∧ t.rcv.folds = r ∧ t.dplace e = .free ∧
    (∀ k, k ≠ e → t.dplace k = s.dplace k) ∧ (∀ q ∈ s.rcv.reqs, q.id ≠ id → q ∈ t.rcv.reqs) ∧
    (∀ (q : RReq) (x : ReconS), s.rcv.reqs.filter (fun r => r.id = id) = [q] → q.recon = some x → t.rcv.reqs = s.rcv.reqs.map (fun y => if y = q then { q with recon := some { x with left := x.left.erase j, rows := if x.width - x.parity ≤ j then x.rows ++ [j - (x.width - x.parity)] else x.rows } } else y)) ∧
    t.chans = s.chans ∧ t.dec.buf = s.dec.buf ∧ t.regs = s.regs) ∧
  (∀ (s : State) (q : RReq) (x : ReconS) (d : Desc) (res : List Half), s.rcv.reqs.find? s.reconReady = some q → q.recon = some x → q.who = [.chan d res] → q.groups = [] → s.rcv.wait = [] →
    (sortNat x.rows).length < (sortNat x.lost).length → ∃ t, exec .laceSolve s = .next t ∧ (∀ y ∈ t.rcv.reqs, y.id ≠ q.id) ∧ t.lace.used = s.lace.used.erase x.set ∧
      t.get R.DEC_LADDER_LOG_STATUS = 0x52 ∧ t.event .dec 0 5 = true ∧ t.get R.DEC_RECON_CNT_CNT = s.get R.DEC_RECON_CNT_CNT) ∧
  (∀ (s : State) (q : RReq) (x : ReconS) (d : Desc) (res : List Half), s.rcv.reqs.find? s.reconReady = some q → q.recon = some x → q.who = [.chan d res] → q.groups = [] → s.rcv.wait = [] → q.tile = false →
    (sortNat x.lost).length ≤ (sortNat x.rows).length → ∃ t, exec .laceSolve s = .next t ∧ (∀ y ∈ t.rcv.reqs, y.id ≠ q.id) ∧ t.lace.used = s.lace.used.erase x.set ∧
      t.get R.DEC_RECON_CNT_CNT = min (2 ^ R.DEC_RECON_CNT_CNT.wid - 1) (s.get R.DEC_RECON_CNT_CNT + 1) ∧ t.get R.DEC_UNCORR_CNT_CNT = s.get R.DEC_UNCORR_CNT_CNT ∧ t.ext = s.ext ∧ t.tbuf = s.tbuf) ∧
  (∀ (s : State) (m : Fin 4) (q : RReq) (x : ReconS), s.rcv.reqs.find? (fun q => match q.recon with | some x => decide (m.val ∈ x.peers) | none => false) = some q → q.recon = some x →
    s.rcv.reqs.filter (fun r => r.id = q.id) = [q] → exec (.reconTimeout m) s = .next { s with rcv := { s.rcv with reqs := s.rcv.reqs.map (fun y => if y = q then { q with recon := some { x with peers := x.peers.erase m, lost := x.lost ++ (s.peerSlots x m).filter (fun j => decide (j < x.width - x.parity) && x.addrs.getD j unmapped = remoteSlot) } } else y) } })

/-- While BUSY is 0, LOAD sets BUSY and begins its search; SAVE with CH_X equal to CH_Y, or before a LOAD, ends with result 4;
otherwise it sets BUSY and takes the record of the next SEQ as it stands: with room on the slot it puts it into the lowest free
place of each channel, with the slot full it erases both block sets first and sets their page to 0. ALM_DONE of a LOAD whose
slots have all ended: without a valid record it ends with result 2 and SEQ 0; with one it takes the highest SEQ found, its
source and the record for the buffer, and once the buffer is written it ends with result 0. ALM_DONE of a SAVE whose two
programs have ended gives result 0, 1 or 3 and moves SEQ and the slot's page unless both failed. Each end clears BUSY and raises
ALM_DONE. Completion (exec answers next with the form's own effect, from these conditions alone) is stated for: almLoad,
almSave, almDone. -/
def Obligations.AlmanacSavesAndLoads : Prop :=
  (∀ (s : State) (w : Word), s.portTakes R.DEC_ALM_CMD_CMD.addr → s.flag R.DEC_ALM_STAT_BUSY = false →
    (w.toNat % 4 = 1 → ∃ t, exec (.almLoad w) s = .next t ∧ t.flag R.DEC_ALM_STAT_BUSY = true ∧ t.rcv.load.map List.length = some 4 ∧
      t.rcv = { s.rcv with load := t.rcv.load, loadTook := false, probes := [] } ∧ s.wordsKept t [R.DEC_ALM_STAT_BUSY.addr] ∧ t.ext = s.ext ∧ t.rng = s.rng) ∧
    (w.toNat % 4 = 2 → (s.get R.DEC_ALM_CH_CH_X = s.get R.DEC_ALM_CH_CH_Y ∨ s.rcv.loaded = false) → ∃ t, exec (.almSave w) s = .next t ∧ t.get R.DEC_ALM_STAT_RESULT = 4 ∧
      t.flag R.DEC_ALM_STAT_BUSY = false ∧ t.event .dec 0 7 = true ∧ s.wordsKept t [R.DEC_ALM_STAT_BUSY.addr, evtAddr .dec 0] ∧ t = { s with regs := t.regs, pins := t.pins }) ∧
    (w.toNat % 4 = 2 → ∀ x, x = s.get R.DEC_ALM_CH_CH_X → ∀ y, y = s.get R.DEC_ALM_CH_CH_Y → x ≠ y → s.rcv.loaded = true → ∀ k, k = (s.get R.DEC_ALM_SEQ_SEQ + 1) % 2 ^ 32 →
      ((∀ n ∈ [x, y], s.almPage (almSlot k) < s.almPages n) → ∀ p r, s.freePlace x = some p → s.freePlace y = some r →
        ∃ t, exec (.almSave w) s = .next t ∧ t.flag R.DEC_ALM_STAT_BUSY = true ∧
          t.rcv = { s.rcv with save := some { seq := k, bytes := s.almBytes k, progs := [(x, some p, none), (y, some r, none)] } } ∧
          (∀ q ∈ [(x, p), (y, r)], (t.place q.1 q.2).kind = .almanac ∧ (t.place q.1 q.2).serial = k ∧ (t.place q.1 q.2).issued = true ∧
            (t.place q.1 q.2).whole = true ∧ (t.place q.1 q.2).taddr = taddrOf q.1 (s.get R.DEC_ALM_CH_LUN) (s.almBlk (almSlot k)) (s.almPage (almSlot k))) ∧
          s.wordsKept t [R.DEC_ALM_STAT_BUSY.addr] ∧ t.ext = s.ext ∧ t.dec = s.dec) ∧
      ((∃ n ∈ [x, y], s.almPages n ≤ s.almPage (almSlot k)) → ∃ t, exec (.almSave w) s = .next t ∧ t.flag R.DEC_ALM_STAT_BUSY = true ∧ t.almPage (almSlot k) = 0 ∧
        t.almPage (!almSlot k) = s.almPage (!almSlot k) ∧ t.rcv = { s.rcv with save := some { seq := k, bytes := s.almBytes k, erase := [x, y] } } ∧
        (∀ n ∈ [x, y], (t.ch n).wait = (s.ch n).wait ++ [{ opcode := 2, origin := 0xC000, taddr := taddrOf n (s.get R.DEC_ALM_CH_LUN) (s.almBlk (almSlot k)) 0 }]) ∧
        t = { s with regs := t.regs, rcv := t.rcv, chans := t.chans }))) ∧
  (∀ (s : State) (xs : List LoadSlot), s.rcv.load = some xs → xs.all (fun x => x.fin) = true →
    (s.rcv.loadTook = false → almBest (almCands xs) = none → s.rbWrites = false → ∃ t, exec .almDone s = .next t ∧ t.get R.DEC_ALM_STAT_RESULT = 2 ∧ t.get R.DEC_ALM_SEQ_SEQ = 0 ∧
      t.rcv = { s.rcv with load := none, loadTook := false, loaded := true } ∧
      t.flag R.DEC_ALM_STAT_BUSY = false ∧ t.event .dec 0 7 = true ∧ t = { s with regs := t.regs, pins := t.pins, rcv := t.rcv }) ∧
    (∀ i b, s.rcv.loadTook = false → almBest (almCands xs) = some (i, b) → ∃ t, exec .almDone s = .next t ∧ t.get R.DEC_ALM_SEQ_SEQ = recU b 4 4 ∧
      t.get R.DEC_ALM_STAT_SRC_CH = i / 2 % 2 ∧ t.get R.DEC_ALM_STAT_SRC_SLOT = i % 2 ∧ t.rcv = { s.rcv with loadTook := true } ∧
      t.rng = { s.rng with rb := s.rng.rb ++ [.write (s.get R.DEC_ALM_BUF_HI_ADDR * 2 ^ 32 + s.get R.DEC_ALM_BUF_LO_ADDR * 64) b] } ∧
      t = { s with regs := t.regs, rcv := t.rcv, rng := t.rng, sram := t.sram, memi := t.memi }) ∧
    (s.rcv.loadTook = true → almBest (almCands xs) ≠ none → s.rbWrites = false → ∃ t, exec .almDone s = .next t ∧ t.get R.DEC_ALM_STAT_RESULT = 0 ∧
      t.rcv = { s.rcv with load := none, loadTook := false, loaded := true } ∧
      t.flag R.DEC_ALM_STAT_BUSY = false ∧ t.event .dec 0 7 = true ∧ s.wordsKept t [R.DEC_ALM_STAT_BUSY.addr, evtAddr .dec 0] ∧ t = { s with regs := t.regs, pins := t.pins, rcv := t.rcv })) ∧
  (∀ (s : State) (x : SaveS) (a b : Nat × Option Nat × Option Bool) (u v : Bool), s.rcv.load = none → s.rcv.save = some x → x.progs = [a, b] → s.almChans = [a.1, b.1] →
    a.2.2 = some u → b.2.2 = some v → x.seq < 2 ^ 32 → ∃ t, exec .almDone s = .next t ∧ t.rcv = { s.rcv with save := none } ∧ t.get R.DEC_ALM_STAT_RESULT = (if u && v then 0 else if u || v then 1 else 3) ∧
      t.get R.DEC_ALM_SEQ_SEQ = (if u || v then x.seq else s.get R.DEC_ALM_SEQ_SEQ) ∧
      ((u || v) = true → s.almPage (almSlot x.seq) + 1 < 2 ^ 11 → t.almPage (almSlot x.seq) = s.almPage (almSlot x.seq) + 1) ∧ t.flag R.DEC_ALM_STAT_BUSY = false ∧ t.event .dec 0 7 = true ∧
      t = { s with regs := t.regs, pins := t.pins, rcv := t.rcv, chans := t.chans } ∧ (u = true → v = true → t.chans = s.chans))

/-- On a ready lane: a DATA flit short of LENGTH enters the head as a DATA item; an EOT flit, or the last flit LENGTH asks for, as
an EOT item, and ends the tile (state OUTSIDE, or EXCESS); a flit in OUTSIDE, EXCESS or DISCARD is counted in DISC_CNT, with its
event in the first two, and EOT leaves EXCESS and DISCARD. An accepted header enters as a SOT item with its stamp, and counts in
TILE_CNT; a rejected one leaves its stream and reason in REJ_INFO, counts in REJ_CNT and discards the tile, and inside a tile
its item enters the head to end that tile (as the model marks it, log entry 48); in a domain that is asked to power down the
tile in progress ends so too (log entry 49). No permit UMBRA covers these flits; a report on the stream's context words, a
trigger and an overrun aside, nothing else changes. LINK_DOWN, LANE_RESET and DROP in a tile ask for a WITHDRAW; the flit of a
DROP's own cyc is counted in DISC_CNT and leaves nothing in the spool, before the DROP or after it (log entry 92); WITHDRAW_PUSH
puts it into the head; LANE_ENABLE, in a standby always a 0, takes effect at once outside a tile and, for a 0, at the tile's end
inside one; LINKUP_RETURN sets the link bit. Completion (exec answers next with the form's own effect, from these conditions
alone) is stated for: laneFlit, linkDown, laneReset, drop, withdrawPush, laneEnable, linkupReturn. -/
def Obligations.LaneFramesItsFlits : Prop :=
  (∀ (s : State) (n : Fin 12) (v : BitVec 64), s.laneReady n = true → s.permit 7 = false → (s.lane n).headUsed < headMax → (s.lane n).dropAt ≠ some s.cyc → ∀ l, l = s.lane n →
    (∀ g : BitVec 2, g ≠ 1 → g ≠ 3 → ∀ it, it = ({ v := v, tag := if g = 2 ∨ l.flits + 1 = l.want then 2 else 0, born := some s.cyc } : Item) → l.st = .inTile →
      ∃ t, exec (.laneFlit n v g) s = .next t ∧ t.lane n = { l with
        flits := l.flits + 1, head := l.head ++ [it], headAt := (l.headAt + 1) % 24576, freed := none
        st := if g = 2 then .outside else if l.flits + 1 = l.want then .excess else .inTile, note := some ⟨s.cyc, l.st, l.flits, true, false⟩
        enabled := if g = 2 ∨ l.flits + 1 = l.want then s.flag (R.LANE_CTRL_ENABLE n) else l.enabled } ∧
        (∀ k, k ≠ n.val → t.lane k = s.lane k) ∧ t = { s with lanes := t.lanes, memi := t.memi }) ∧
    (∀ g : BitVec 2, g ≠ 1 → g ≠ 3 → ∀ q ∈ ([(.outside, .outside, some 2), (.excess, .outside, some 1), (.discard, .outside, none)] : List (FrameSt × FrameSt × Option Nat)), l.st = q.1 →
      ∃ t, exec (.laneFlit n v g) s = .next t ∧ t.get (R.LANE_DISC_CNT_CNT n) = min (2 ^ 32 - 1) (s.get (R.LANE_DISC_CNT_CNT n) + 1) ∧
        t.lane n = { l with st := if g = 2 then q.2.1 else q.1, note := some ⟨s.cyc, l.st, l.flits, false, false⟩ } ∧ (∀ b ∈ q.2.2, t.event .lane n b = true) ∧
        s.wordsKept t [(R.LANE_DISC_CNT_CNT n).addr, evtAddr .lane n] ∧ (∀ k, k ≠ n.val → t.lane k = s.lane k) ∧
        t = { s with lanes := t.lanes, regs := t.regs, pins := t.pins }) ∧
    (s.takesWork (laneDom n) = false → ∃ t, exec (.laneFlit n v 1) s = .next t ∧ t.lane n = { l with
        head := l.head ++ [{ v := v, tag := 1, rej := true, born := some s.cyc }], headAt := (l.headAt + 1) % 24576, freed := none, st := .discard
        enabled := s.flag (R.LANE_CTRL_ENABLE n), note := some ⟨s.cyc, l.st, l.flits, true, false⟩ } ∧
      (∀ k, k ≠ n.val → t.lane k = s.lane k) ∧ t = { s with lanes := t.lanes, memi := t.memi }) ∧
    (s.takesWork (laneDom n) = true → ∀ u, u = (if hdrStream v < 4096 ∧ s.powered 0 then s.ctxSeen (sctx (hdrStream v)) 32 else s) →
      (u.headerCheck n v = 0 → ∃ t, exec (.laneFlit n v 1) s = .next t ∧ t.lane n = { l with
          head := l.head ++ [{ v := v, tag := 1, stamp := (s.cyc, s.stamp), born := some s.cyc }], headAt := (l.headAt + 1) % 24576, freed := none, st := .inTile, flits := 0, want := hdrLen v / 8, note := some ⟨s.cyc, l.st, l.flits, true, true⟩
          enabled := if l.st = .inTile then s.flag (R.LANE_CTRL_ENABLE n) else l.enabled } ∧
        t.get (R.LANE_TILE_CNT_CNT n) = min (2 ^ 32 - 1) (u.get (R.LANE_TILE_CNT_CNT n) + 1) ∧ (∀ k, k ≠ n.val → t.lane k = s.lane k) ∧
        ((hdrTrig v = false ∨ 64 ≤ s.hdrHoopOf v) → u.wordsKept t [(R.LANE_TILE_CNT_CNT n).addr] ∧ t = { u with lanes := t.lanes, memi := t.memi, regs := t.regs })) ∧
      (u.headerCheck n v ≠ 0 → ∃ t, exec (.laneFlit n v 1) s = .next t ∧
        t.lane n = (if l.st = .inTile then { l with head := l.head ++ [{ v := v, tag := 1, rej := true, born := some s.cyc }], headAt := (l.headAt + 1) % 24576, freed := none, st := .discard, enabled := s.flag (R.LANE_CTRL_ENABLE n), note := some ⟨s.cyc, l.st, l.flits, true, false⟩ }
          else { l with st := .discard, note := some ⟨s.cyc, l.st, l.flits, false, false⟩ }) ∧
        t.get (R.LANE_REJ_INFO_STREAM n) = hdrStream v ∧ t.get (R.LANE_REJ_INFO_REASON n) = u.headerCheck n v ∧
        t.get (R.LANE_REJ_CNT_CNT n) = min (2 ^ 32 - 1) (u.get (R.LANE_REJ_CNT_CNT n) + 1) ∧ t.event .lane n 0 = true ∧ (hdrTrig v = true → t.event .lane n 6 = true) ∧
        (∀ k, k ≠ n.val → t.lane k = s.lane k) ∧
        (u.headerCheck n v ≠ 7 → u.wordsKept t [(R.LANE_REJ_INFO_STREAM n).addr, (R.LANE_REJ_CNT_CNT n).addr, evtAddr .lane n] ∧
          t = { u with lanes := t.lanes, memi := t.memi, regs := t.regs, pins := t.pins })))) ∧
  (∀ (s : State) (n : Fin 12) (v : BitVec 64) (g : BitVec 2), s.laneReady n = true → s.permit 7 = false → g ≠ 3 → (s.lane n).dropAt = some s.cyc →
    ∃ t, exec (.laneFlit n v g) s = .next t ∧ t.get (R.LANE_DISC_CNT_CNT n) = min (2 ^ 32 - 1) (s.get (R.LANE_DISC_CNT_CNT n) + 1) ∧
      s.wordsKept t [(R.LANE_DISC_CNT_CNT n).addr] ∧ t = { s with regs := t.regs }) ∧
  (∀ (s : State) (n : Fin 12), (s.lane n).linkup = true → s.powered (laneDom n) = true → ∃ t, exec (.linkDown n) s = .next t ∧
    t.lane n = { s.lane n with linkup := false, st := .outside, wd := (s.lane n).wd || decide ((s.lane n).st = .inTile), enabled := if (s.lane n).st = .inTile then s.flag (R.LANE_CTRL_ENABLE n) else (s.lane n).enabled } ∧
    ((s.lane n).st = .inTile → t.event .lane n 7 = true) ∧ s.wordsKept t [evtAddr .lane n] ∧ (∀ k, k ≠ n.val → t.lane k = s.lane k) ∧
    t = { s with lanes := t.lanes, regs := t.regs, pins := t.pins }) ∧
  (∀ (s : State) (n : Fin 12), ∃ t, exec (.linkupReturn n) s = .next t ∧ t.lane n = { s.lane n with linkup := true } ∧
    (∀ k, k ≠ n.val → t.lane k = s.lane k) ∧ t = { s with lanes := t.lanes }) ∧
  (∀ (s : State) (n : Fin 12), s.portTakes (R.LANE_CMD_RESET n).addr → (s.lane n).st = .inTile → (∀ f, (s.lane n).note = some f → f.born ≠ s.cyc) → ∀ q ∈ [(Instr.laneReset n, FrameSt.outside), (Instr.drop n, FrameSt.discard)],
    ∃ t, exec q.1 s = .next t ∧ t.lane n = { s.lane n with st := q.2, wd := true, enabled := s.flag (R.LANE_CTRL_ENABLE n), dropAt := if q.2 = .discard then some s.cyc else (s.lane n).dropAt, note := if q.2 = .discard then none else (s.lane n).note } ∧
      (∀ k, k ≠ n.val → t.lane k = s.lane k) ∧ t = { s with lanes := t.lanes }) ∧
  (∀ (s : State) (n : Fin 12) (v : BitVec 64) (g : BitVec 2), s.portTakes (R.LANE_CMD_RESET n).addr → s.laneReady n = true → s.permit 7 = false → (s.lane n).headUsed < headMax → (s.lane n).dropAt ≠ some s.cyc →
    (s.lane n).headAt < 24576 → g ≠ 1 → g ≠ 3 → (s.lane n).st = .inTile →
    ∃ t, exec (.laneFlit n v g) s = .next t ∧ ∃ u, exec (.drop n) t = .next u ∧ u.lane n = { s.lane n with st := .discard, wd := true, enabled := s.flag (R.LANE_CTRL_ENABLE n), dropAt := some s.cyc, note := none, freed := none } ∧
      u.get (R.LANE_DISC_CNT_CNT n) = min (2 ^ 32 - 1) (s.get (R.LANE_DISC_CNT_CNT n) + 1) ∧ s.wordsKept u [(R.LANE_DISC_CNT_CNT n).addr] ∧
      (∀ k, k ≠ n.val → u.lane k = s.lane k) ∧ u = { s with lanes := u.lanes, regs := u.regs, memi := t.memi }) ∧
  (∀ (s : State) (n : Fin 12), (s.lane n).wd = true → (s.lane n).headUsed < headMax → ∃ t, exec (.withdrawPush n) s = .next t ∧
    t.lane n = { s.lane n with wd := false, head := (s.lane n).head ++ [{ v := 2, tag := 3, born := some s.cyc }], headAt := ((s.lane n).headAt + 1) % 24576, freed := none } ∧
    (∀ k, k ≠ n.val → t.lane k = s.lane k) ∧ t = { s with lanes := t.lanes, memi := t.memi }) ∧
  (∀ (s : State) (n : Fin 12) (w : Word), s.portTakes (R.LANE_CTRL_ENABLE n).addr → ∃ t, exec (.laneEnable n w) s = .next t ∧
    t.flag (R.LANE_CTRL_ENABLE n) = (w.getLsbD 0 && !s.isStandby) ∧
    t.lane n = { s.lane n with enabled := (w.getLsbD 0 && !s.isStandby) || ((s.lane n).enabled && decide ((s.lane n).st = .inTile)) } ∧
    s.wordsKept t [(R.LANE_CTRL_ENABLE n).addr] ∧ (∀ k, k ≠ n.val → t.lane k = s.lane k) ∧ t = { s with lanes := t.lanes, regs := t.regs })

/-- With no error in the lane's words, HEAD_TO_TAIL passes the two oldest items while the middle tier is empty, the tail has room
for both and the head holds more than 2,048. SPILL_WRITE of the lane whose turn it is, its head full and the way to the tail
blocked, presents the block of the oldest 496 items at the middle tier's end and takes its budget. DRAIN_READ of the lane whose
turn it is asks for the oldest block not requested. DRAIN_RETURN takes the oldest block out, and its 496 items enter the tail:
each marked unusable, with SPOOL_UE, when the read came with an error or the block's CRC does not match. A write of MID_BASE or
MID_BLOCKS is taken while the middle tier is empty and no spill is under way; otherwise it is ignored and raises the lane's
SPOOL event. Completion (exec answers next with the form's own effect, from these conditions alone) is stated for: headToTail,
spillWrite, drainRead, drainReturn, midBaseWrite. -/
def Obligations.SpoolMovesItemsBetweenTiers : Prop :=
  (∀ (s : State) (n : Fin 12) (x y : Item) (r : List Item), s.powered (laneDom n) = true → s.memi.err = [] → (s.lane n).head = x :: y :: r → 2047 ≤ r.length →
    (s.lane n).midN = 0 → (s.lane n).tail.length + 1 < 7168 → ∃ t, exec (.headToTail n) s = .next t ∧
      t.lane n = { s.lane n with head := r, tail := (s.lane n).tail ++ [x, y], tailAt := (((s.lane n).tailAt + 1) % 7168 + 1) % 7168 } ∧
      (∀ k, k ≠ n.val → t.lane k = s.lane k) ∧ t = { s with lanes := t.lanes, memi := t.memi }) ∧
  (∀ (s : State) (n : Fin 12), s.spoolTurn n = true → s.drainMay n = false → s.memi.err = [] →
    ∀ b, b = ((s.lane n).midAt + (s.lane n).midN) % max 1 (s.midBlocks n) →
    ∃ t, exec (.spillWrite n) s = .next t ∧ (t.lane n).head = (s.lane n).head.drop 496 ∧ (t.lane n).midN = (s.lane n).midN + 1 ∧ (t.lane n).spilling = (s.lane n).spilling + 496 ∧
      (t.lane n).tail = (s.lane n).tail ∧ (t.lane n).midAt = (s.lane n).midAt ∧
      t.mp = (s.mpWrite (n.val % 2) 2 (s.midAddr n b) (blockBytes ((s.lane n).head.take 496)) (.spool n b)).mp ∧ t.spool = { tokens := s.spool.tokens - 65536, last := n } ∧
      t.get (R.SPOOL_SPILL_CNT_CNT n) = min (2 ^ 32 - 1) (s.get (R.SPOOL_SPILL_CNT_CNT n) + 1) ∧
      ((t.lane n).midN = s.midBlocks n → t.event .spool 0 n = true) ∧ (∀ k, k ≠ n.val → t.lane k = s.lane k) ∧ t.ext = s.ext ∧ t.chans = s.chans) ∧
  (∀ (s : State) (n : Fin 12), s.spoolTurn n = true → s.drainMay n = true →
    ∀ b, b = ((s.lane n).midAt + (s.lane n).drains) % max 1 (s.midBlocks n) →
    ∃ t, exec (.drainRead n) s = .next t ∧ t.lane n = { s.lane n with drains := (s.lane n).drains + 1 } ∧ t.spool = { tokens := s.spool.tokens - 65536, last := n } ∧
      t.mp = (s.mpRead (n.val % 2) 3 2 (s.midAddr n b) 64 (.spool n b)).mp ∧
      (∀ k, k ≠ n.val → t.lane k = s.lane k) ∧ t = { s with lanes := t.lanes, spool := t.spool, mp := t.mp }) ∧
  (∀ (s : State) (n : Fin 12) (r : MpRead), s.mp.done.find? (fun r => match r.use with | .spool k _ => decide (k = n.val) | _ => false) = some r → (s.lane n).midN ≠ 0 →
    ∀ g, g = ((blockItemsOf r.data).1 && decide (r.bad = [])) →
    ∃ t, exec (.drainReturn n) s = .next t ∧ (t.lane n).midN = (s.lane n).midN - 1 ∧ (t.lane n).drains = (s.lane n).drains - 1 ∧ (t.lane n).head = (s.lane n).head ∧
      (t.lane n).midAt = ((s.lane n).midAt + 1) % max 1 (s.midBlocks n) ∧ (t.lane n).tail.length = (s.lane n).tail.length + 496 ∧ (t.lane n).tail.take (s.lane n).tail.length = (s.lane n).tail ∧
      (g = true → (s.lane n).midBad = [] → ((t.lane n).tail.drop (s.lane n).tail.length).map (fun i => (i.v, i.tag, i.bad)) = (blockItemsOf r.data).2.map (fun i => (i.v, i.tag, false))) ∧
      (g = false → (∀ i ∈ (t.lane n).tail.drop (s.lane n).tail.length, i.bad = true) ∧ t.event .lane n 5 = true) ∧
      s.wordsKept t [evtAddr .lane n] ∧ (∀ k, k ≠ n.val → t.lane k = s.lane k) ∧
      t = { s with lanes := t.lanes, memi := t.memi, regs := t.regs, pins := t.pins, flt := t.flt, mp := { s.mp with done := s.mp.done.erase r } }) ∧
  (∀ (s : State) (n : Fin 12) (k : Fin 3) (w : Word), ∀ a, a = (R.SPOOL_MID_BASE_LO_ADDR n).addr + 4 * k → s.portTakes a →
    ((s.lane n).midN = 0 → (s.lane n).spilling = 0 → ∃ t, exec (.midBaseWrite n k w) s = .next t ∧ t.lane n = { s.lane n with midAt := 0 } ∧
      t.rd a = (s.regMerge a 0xF#4 w).rd a ∧ s.wordsKept t [a] ∧ (∀ j, j ≠ n.val → t.lane j = s.lane j) ∧ t = { s with lanes := t.lanes, regs := t.regs }) ∧
    ((0 < (s.lane n).midN ∨ 0 < (s.lane n).spilling) → ∃ t, exec (.midBaseWrite n k w) s = .next t ∧ t.event .spool 0 n = true ∧ s.wordsKept t [evtAddr .spool 0] ∧
      t = { s with regs := t.regs, pins := t.pins }))

/-- With no error in the lane's words and no seal, popping the tail's first usable item: a SOT item of an open hoop becomes the
header; a DATA item lands eight bytes in the place of an unlaced tile, an EOT item too, and the tile ends, short with TRUNC when
bytes are missing; a WITHDRAW truncates a tile whose DOUT was queued, and makes another vanish, its slot reserved; an item
outside a tile is discarded and counted, a control item is not. A SOT item that ends a tile stays in the spool and truncates it.
TILE_END makes the place whole, and issues its PROG when none was issued, no seal applies and no earlier page of its LUN holds
it back. Completion (exec answers next with the form's own effect, from these conditions alone) is stated for: assemblerPop,
tileEnd. -/
def Obligations.AssemblerLandsAndEndsTiles : Prop :=
  (∀ (s : State) (n : Fin 12) (it : Item) (r : List Item), s.powered (laneDom n) = true → s.sealApplies = false → s.memi.err = [] → (s.lane n).tail = it :: r → it.bad = false → it.born ≠ some s.cyc →
    ∀ l, l = (if s.spoolFull n then { s.lane n with freed := some s.cyc } else s.lane n) → ∀ v, v = s.place l.ch l.place →
    (it.tag = 1 → it.rej = false → l.asm = .idle → s.hoopShut (s.hdrHoopOf it.v) = false → ∃ t, exec (.assemblerPop n) s = .next t ∧ t.lane n = { l with tail := r, hdr := it, asm := .header } ∧
      (∀ k, k ≠ n.val → t.lane k = s.lane k) ∧ t = { s with lanes := t.lanes }) ∧
    (it.tag = 1 → it.rej = true → l.asm = .idle → ∃ t, exec (.assemblerPop n) s = .next t ∧ t.lane n = { l with tail := r } ∧
      (∀ k, k ≠ n.val → t.lane k = s.lane k) ∧ t = { s with lanes := t.lanes }) ∧
    (it.tag = 1 → l.asm = .landing → ∃ t, exec (.assemblerPop n) s = .next t ∧ t.lane n = { s.lane n with asm := .ending } ∧ (t.place l.ch l.place) = { v with flags := v.flags ||| 1, len := v.got } ∧
      t.get (R.LANE_TRUNC_CNT_CNT n) = min (2 ^ 32 - 1) (s.get (R.LANE_TRUNC_CNT_CNT n) + 1) ∧ t.event .lane n 3 = true ∧ s.wordsKept t [(R.LANE_TRUNC_CNT_CNT n).addr, evtAddr .lane n] ∧
      (∀ k, k ≠ l.place → t.place l.ch k = s.place l.ch k) ∧ (∀ k, k ≠ l.ch → t.ch k = s.ch k) ∧ t = { s with lanes := t.lanes, chans := t.chans, regs := t.regs, pins := t.pins }) ∧
    ((it.tag = 0 ∨ it.tag = 2) → l.asm = .landing → v.stripe = unmapped → (v.fresh = true → 8 ≤ v.profile) → v.got % 8 = 0 → ∃ t, exec (.assemblerPop n) s = .next t ∧ (t.lane n).tail = r ∧
      (it.tag = 0 → t.lane n = { l with tail := r } ∧ t.place l.ch l.place = { v with got := v.got + 8, fresh := false } ∧ t.regs = s.regs) ∧
      (it.tag = 2 → (t.lane n).asm = .ending ∧ (v.len ≤ v.got + 8 → t.place l.ch l.place = { v with got := v.got + 8, fresh := false }) ∧
        (v.got + 8 < v.len → t.place l.ch l.place = { v with got := v.got + 8, fresh := false, flags := v.flags ||| 1, len := v.got + 8 } ∧ t.event .lane n 3 = true)) ∧
      (s.memi.inj = none → ∀ i, i < 8 → tget zeroByte t.tbuf (tbKey l.ch l.place + rawPos (v.got + i)) = it.v.extractLsb' (8 * i) 8) ∧
      (∀ k, k ≠ n.val → t.lane k = s.lane k) ∧ (∀ k, k ≠ l.place → t.place l.ch k = s.place l.ch k) ∧ (∀ k, k ≠ l.ch → t.ch k = s.ch k) ∧
      t = { s with lanes := t.lanes, chans := t.chans, tbuf := t.tbuf, memi := t.memi, regs := t.regs, pins := t.pins }) ∧
    (it.tag = 3 → l.asm = .landing → v.committed = true → ∃ t, exec (.assemblerPop n) s = .next t ∧ t.lane n = { l with tail := r, asm := .ending } ∧
      t.place l.ch l.place = { v with flags := v.flags ||| 1, len := v.got } ∧ t.event .lane n 3 = true) ∧
    (it.tag = 3 → l.asm = .landing → v.committed = false → ∃ t, exec (.assemblerPop n) s = .next t ∧ t.lane n = { l with tail := r, asm := .idle } ∧
      (t.place l.ch l.place).reserved = some s.cyc ∧ (t.place l.ch l.place).got = 0 ∧ (t.place l.ch l.place).tileno = v.tileno ∧ (t.place l.ch l.place).taddr = v.taddr ∧ (t.place l.ch l.place).serial = v.serial ∧
      t.get (R.LANE_VANISH_CNT_CNT n) = min (2 ^ 32 - 1) (s.get (R.LANE_VANISH_CNT_CNT n) + 1) ∧ t.event .lane n 4 = true ∧
      t.lace.cancels = s.lace.cancels ++ (if v.stripe = unmapped then [] else [(l.ch, l.place, v.got)]) ∧ (∀ k, k ≠ l.ch → t.ch k = s.ch k)) ∧
    (it.tag = 3 → l.asm = .idle → ∃ t, exec (.assemblerPop n) s = .next t ∧ t.lane n = { l with tail := r } ∧ (∀ k, k ≠ n.val → t.lane k = s.lane k) ∧ t = { s with lanes := t.lanes }) ∧
    ((it.tag = 0 ∨ it.tag = 2) → l.asm = .idle → ∃ t, exec (.assemblerPop n) s = .next t ∧ t.lane n = { l with tail := r } ∧
      t.get (R.LANE_DISC_CNT_CNT n) = min (2 ^ 32 - 1) (s.get (R.LANE_DISC_CNT_CNT n) + 1) ∧ s.wordsKept t [(R.LANE_DISC_CNT_CNT n).addr] ∧ (∀ k, k ≠ n.val → t.lane k = s.lane k) ∧ t = { s with lanes := t.lanes, regs := t.regs })) ∧
  (∀ (s : State) (n : Fin 12), (s.lane n).asm = .ending → ∀ l, l = s.lane n → ∀ v, v = s.place l.ch l.place → v.stripe = unmapped → (v.fresh = true → 8 ≤ v.profile) →
    ∃ t, exec (.tileEnd n) s = .next t ∧ t.lane n = { l with asm := if l.skip then .skipping else .idle, skip := false } ∧ (∀ k, k ≠ n.val → t.lane k = s.lane k) ∧
      ((v.issued = true ∨ s.sealApplies = true) → t.place l.ch l.place = { v with whole := true, fresh := false } ∧ (∀ k, k ≠ l.ch → t.ch k = s.ch k) ∧
        t = { s with lanes := t.lanes, chans := t.chans, tbuf := t.tbuf, memi := t.memi, regs := t.regs, pins := t.pins, flt := t.flt, sram := t.sram }) ∧
      (v.issued = false → s.sealApplies = false → s.progHeld l.ch l.place = false → l.place < 8 → (∀ k, k < 8 → k ≠ l.place → (s.place l.ch k).due = none) →
        t.place l.ch l.place = { v with whole := true, fresh := false, issued := true, due := none, issueNo := (s.ch l.ch).nextOrd } ∧
        (t.ch (taCh v.taddr)).wait = (s.ch (taCh v.taddr)).wait ++ [{ opcode := 1, flags := (if v.tlc then taPage v.taddr % 3 else 0) + (if v.due = some true then 4 else 0) + b2n v.tlc * 16, origin := if v.kind = .almanac then 0xC000 else 0
                                                                      taddr := v.taddr, tileno := v.tileno, place := l.place }]))

/-- For each of the three registers and every data: while any hoop is enabled, a write that the control port takes changes no
register word but EVT_RAW of the MAP page, whose bit 1, CFG_REFUSED, is 1 afterwards, and nothing else but pulse lines. While
none is, the write stores the data in the register. Completion (exec answers next with the form's own effect, from these
conditions alone) is stated for: mapBaseWrite. -/
def Obligations.MapBaseIsGuarded : Prop :=
  ∀ (s : State) (k : Fin 3) (w : Word), ∀ a, a = R.MAP_BASE_LO_ADDR.addr + 4 * k.val → s.portTakes a →
    (∀ h, h < 64 → (s.hoop h).st ≠ .off → ∃ t, exec (.mapBaseWrite k w) s = .next t ∧ t.event .map 0 1 = true ∧ s.wordsKept t [evtAddr .map 0] ∧
      t = { s with regs := t.regs, pins := t.pins }) ∧
    ((∀ h, h < 64 → (s.hoop h).st = .off) → ∃ t, exec (.mapBaseWrite k w) s = .next t ∧ t.rd a = (s.regMerge a 0xF#4 w).rd a ∧ s.wordsKept t [a] ∧ t = { s with regs := t.regs })

/-- LOOKUP_TILE whose line is held answers its entry; else it waits with LK_BUSY and its line is asked for. SET_ADDR whose line is
held writes the entry and marks the line dirty; else it waits. MAP_FILL of a good line into a set with a free way, for which one
lookup waits, installs the line and answers the lookup; with an error the lookup answers the unmapped address with LK_ERR, and a
SET_ADDR is lost with its tile number and event. MAP_WRITE_BACK presents the line evicted first. FLUSH and INVAL present every
line evicted and every dirty line, and set BUSY; FLUSH_DONE clears BUSY and raises FLUSH_DONE, and after INVAL holds no line.
The first tile record whose ring has none on its way is presented at its ring's tail when the ring is enabled and has room; else
it is dropped and CQ_OVERFLOW is raised. Completion (exec answers next with the form's own effect, from these conditions alone)
is stated for: tileCompletion, mapFill, mapWriteBack, mapFlush, mapInval, flushDone, lookupTile, setAddr. -/
def Obligations.MapCacheServesAndFlushes : Prop :=
  (∀ (s : State) (w : Word) (i : Nat), s.portTakes R.MAP_LOOKUP_TILE_TILENO.addr → i = w.toNat % 2 ^ 31 →
    (∀ x, tfind s.map.lines (i / 16) = some x → ∃ t, exec (.lookupTile w) s = .next t ∧ t.get R.MAP_LOOKUP_RES_TADDR = (x.entries.getD (i % 16) 0xFFFFFFFF).toNat ∧
      t.flag R.MAP_STAT_LK_BUSY = false ∧ t.flag R.MAP_STAT_LK_ERR = false ∧ (∀ l, t.mapHas l = s.mapHas l) ∧ t.map.waiting = s.map.waiting ∧ t.map.fills = s.map.fills ∧
      t.chans = s.chans ∧ t.mp = s.mp ∧ t.hoops = s.hoops) ∧
    (s.mapHas (i / 16) = false → i / 16 ∉ s.map.fills → (∀ p ∈ s.map.evicted, p.1 ≠ i / 16) → ∃ t, exec (.lookupTile w) s = .next t ∧ t.flag R.MAP_STAT_LK_BUSY = true ∧
      t.map = { s.map with waiting := s.map.waiting ++ [.lookup i], fills := s.map.fills ++ [i / 16] } ∧
      t.mp = (s.mpRead (i / 16 % 2) 0 0 (s.mapBase + 64 * (i / 16)) 1 (.mapLine (i / 16))).mp ∧
      s.wordsKept t [R.MAP_STAT_LK_BUSY.addr, R.MAP_MISS_CNT_CNT.addr] ∧ t = { s with map := t.map, regs := t.regs, mp := t.mp })) ∧
  (∀ (s : State) (w : Word) (i : Nat), s.portTakes R.MAP_SET_ADDR_TADDR.addr → i = s.get R.MAP_SET_TILE_TILENO →
    (∀ x, tfind s.map.lines (i / 16) = some x → s.memi.inj = none → ∃ t, exec (.setAddr w) s = .next t ∧
      (tfind t.map.lines (i / 16)).map (fun y => (y.entries, y.dirty, y.way)) = some (x.entries.set (i % 16) w, true, x.way) ∧
      (∀ l, l ≠ i / 16 → tfind t.map.lines l = tfind s.map.lines l) ∧ t.map.waiting = s.map.waiting ∧ t.chans = s.chans ∧ t.mp = s.mp) ∧
    (s.mapHas (i / 16) = false → ∃ t, exec (.setAddr w) s = .next t ∧ t.map.waiting = s.map.waiting ++ [.set i w.toNat] ∧ i / 16 ∈ t.map.fills ∧ t.map.lines = s.map.lines)) ∧
  (∀ (s : State) (r : MpRead) (l i : Nat), s.mp.done.find? (fun r => match r.use with | .mapLine _ => true | _ => false) = some r → r.use = .mapLine l →
    (r.bad = [] → i / 16 = l → s.map.waiting = [.lookup i] → (∃ w, w < 16 ∧ ∀ p ∈ s.map.lines, p.1 % 4096 = l % 4096 → p.2.way ≠ w) → s.memi.inj = none → ∃ t, exec .mapFill s = .next t ∧
      t.map.waiting = [] ∧ t.map.fills = s.map.fills.erase l ∧ (tfind t.map.lines l).map (fun y => (y.entries, y.dirty)) = some (lineEntries r.data, false) ∧
      t.get R.MAP_LOOKUP_RES_TADDR = ((lineEntries r.data).getD (i % 16) 0).toNat ∧ t.flag R.MAP_STAT_LK_BUSY = false ∧ t.flag R.MAP_STAT_LK_ERR = false ∧
      (∀ k, k ≠ l → tfind t.map.lines k = tfind s.map.lines k) ∧ t.mp = { s.mp with done := s.mp.done.erase r }) ∧
    (r.bad ≠ [] → i / 16 = l → s.map.waiting = [.lookup i] → ∃ t, exec .mapFill s = .next t ∧ t.map = { s.map with waiting := [], fills := s.map.fills.erase l } ∧
      t.get R.MAP_LOOKUP_RES_TADDR = 0xFFFFFFFF ∧ t.flag R.MAP_STAT_LK_BUSY = false ∧ t.flag R.MAP_STAT_LK_ERR = true ∧ t = { s with map := t.map, regs := t.regs, mp := { s.mp with done := s.mp.done.erase r } }) ∧
    (∀ a, r.bad ≠ [] → i / 16 = l → i < 2 ^ 31 → s.map.waiting = [.set i a] → ∃ t, exec .mapFill s = .next t ∧ t.map = { s.map with waiting := [], fills := s.map.fills.erase l } ∧
      t.get R.MAP_LOST_TILE_TILENO = i ∧ t.event .map 0 2 = true)) ∧
  (∀ (s : State) (l : Nat) (e : List Word) (r : List (Nat × List Word)), s.map.evicted = (l, e) :: r → ∃ t, exec .mapWriteBack s = .next t ∧
    t.map = { s.map with evicted := r, wbs := s.map.wbs ++ [(l, e)] } ∧ t.mp = (s.mpWrite (l % 2) 0 (s.mapBase + 64 * l) (e.flatMap (fun w => leBytes 4 w.toNat)) (.mapLine l)).mp ∧
    t.get R.MAP_WB_CNT_CNT = min (2 ^ R.MAP_WB_CNT_CNT.wid - 1) (s.get R.MAP_WB_CNT_CNT + 1) ∧ s.wordsKept t [R.MAP_WB_CNT_CNT.addr] ∧ t = { s with map := t.map, regs := t.regs, mp := t.mp }) ∧
  (∀ (s : State), s.portTakes R.MAP_CMD_OP.addr → s.flag R.MAP_STAT_BUSY = false → ∀ q ∈ [(Instr.mapFlush, false), (Instr.mapInval, true)], ∃ t, exec q.1 s = .next t ∧
    t.flag R.MAP_STAT_BUSY = true ∧ t.map.flush = some ((s.map.lines.filter (fun p => p.2.dirty)).map (fun p => p.1) ++ (s.map.evicted ++ s.map.wbs).map (fun p => p.1), q.2) ∧
    t.map.lines = s.map.lines.map (fun p => (p.1, { p.2 with dirty := false })) ∧ t.map.evicted = [] ∧ t.map.wbs = s.map.wbs ++ s.map.evicted ++ (s.map.lines.filter (fun p => p.2.dirty)).map (fun p => (p.1, p.2.entries)) ∧
    t.mp.queue.length + t.mp.writes.length + t.mp.reads.length = s.mp.queue.length + s.mp.writes.length + s.mp.reads.length + s.map.evicted.length + (s.map.lines.filter (fun p => p.2.dirty)).length ∧
    s.wordsKept t [R.MAP_STAT_BUSY.addr, R.MAP_WB_CNT_CNT.addr] ∧ t = { s with map := t.map, regs := t.regs, mp := t.mp }) ∧
  (∀ (s : State) (ls : List Nat) (v : Bool), s.map.flush = some (ls, v) → (∀ p ∈ s.map.evicted ++ s.map.wbs, p.1 ∉ ls) → s.map.waiting = [] → ∃ t, exec .flushDone s = .next t ∧
    t.map = { s.map with flush := none, lines := if v then [] else s.map.lines } ∧ t.flag R.MAP_STAT_BUSY = false ∧ t.event .map 0 0 = true ∧
    s.wordsKept t [R.MAP_STAT_BUSY.addr, evtAddr .map 0] ∧ t = { s with map := t.map, regs := t.regs, pins := t.pins }) ∧
  (∀ (s : State) (r : TileRec), s.map.records.find? (fun x => !s.cqBusy (s.sget x.stream 4 2 % 16384)) = some r → ∀ cq, cq = s.sget r.stream 4 2 % 16384 →
    ((s.ring cq).en = true → s.cqRoom cq = true → ∃ t, exec .tileCompletion s = .next t ∧ t.map = { s.map with records := s.map.records.erase r } ∧
      t.mp = (s.mpWrite (cq % 2) 1 (s.ringBase cq + s.rget cq 0x12 2 * 16) (tileRecBytes r ++ [BitVec.ofNat 8 (b2n (bit (s.rget cq 0x16 1) 7) * 128)]) (.record cq none)).mp ∧
      t = { s with map := t.map, mp := t.mp }) ∧
    ((s.ring cq).en = false → ∃ t, exec .tileCompletion s = .next t ∧ t.map = { s.map with records := s.map.records.erase r } ∧ t.get R.RING_EVT_RING_RING = cq ∧ t.event .ring 0 3 = true ∧
      s.wordsKept t [R.RING_EVT_RING_RING.addr, evtAddr .ring 0] ∧ t = { s with map := t.map, regs := t.regs, pins := t.pins, sram := t.sram, memi := t.memi, flt := t.flt }))

/-- STREAM_ENABLE and HOOP_ENABLE leave the code of the first failed check in RESULT and change nothing else, or enable the stream,
or arm the hoop with no slot taken and its running erases and open wordlines as they were (a standby's hoop is refused with
RESULT 8). STREAM_DISABLE and HOOP_DISABLE with no slot reserved disable; HOOP_DISABLE of an OFF hoop and REARM of a hoop
neither DONE nor OVERRUN give RESULT 8; REARM of one that is arms it. TRIG_REG, and a rising edge of TRIG_IN outside a cascade,
send a trigger of their source, merged with one of the same cyc, to every CAPTURE hoop whose CFG bit is set (and whose bit is
written); an edge less than 4 cyc after the last one sends none. HOOP_TRIGGER of the oldest freezes an ARMED hoop, or ends it at
once, and raises FROZEN; a hoop in another state raises the event for an ignored trigger. HOOP_RECORD_PERIOD sends 64 HOOP
records when the block mirrors and none waits for the buffer, and nothing otherwise. Completion (exec answers next with the
form's own effect, from these conditions alone) is stated for: streamEnable, streamDisable, hoopEnable, hoopDisable, rearm,
hoopTrigger, trigReg, trigIn, hoopRecordPeriod. -/
def Obligations.HoopsAndStreamsChangeState : Prop :=
  (∀ (s : State) (x : BitVec 12), s.portTakes R.STRM_CMD_OP.addr → ∃ t, exec (.streamEnable x) s = .next t ∧ t.get R.STRM_CMD_STAT_RESULT = s.strmCheck x.toNat ∧
    (s.strmCheck x.toNat ≠ 0 → s.wordsKept t [R.STRM_CMD_STAT_RESULT.addr] ∧ t = { s with regs := t.regs }) ∧
    (s.strmCheck x.toNat = 0 → t.strmOn x.toNat = true ∧ (∀ k, k ≠ x.toNat → t.strmOn k = s.strmOn k) ∧ s.wordsKept t [R.STRM_CMD_STAT_RESULT.addr, R.STRM_ENABLED_CNT.addr, evtAddr .memi 0] ∧ t.hoops = s.hoops ∧ t.chans = s.chans ∧ t.rng = s.rng)) ∧
  (∀ (s : State) (x : BitVec 12), s.portTakes R.STRM_CMD_OP.addr → s.reservedPlaces (fun v => decide (v.stream = x.toNat)) = [] → s.lace.cancels = [] →
    ∃ t, exec (.streamDisable x) s = .next t ∧ t.get R.STRM_CMD_STAT_RESULT = 0 ∧ t.strmOn x.toNat = false ∧ (∀ k, k ≠ x.toNat → t.strmOn k = s.strmOn k) ∧ t.hoops = s.hoops ∧ t.chans = s.chans ∧ t.rng = s.rng) ∧
  (∀ (s : State) (h : Fin 64), s.portTakes R.HOOP_CMD_OP.addr → ∃ t, exec (.hoopEnable h) s = .next t ∧ t.get R.HOOP_CMD_STAT_RESULT = (if s.isStandby then 8 else s.hoopCheck h) ∧
    (s.hoopCheck h ≠ 0 ∨ s.isStandby = true → s.wordsKept t [R.HOOP_CMD_STAT_RESULT.addr] ∧ t = { s with regs := t.regs }) ∧
    (s.hoopCheck h = 0 → s.isStandby = false → (t.hoop h).st = .armed ∧ (t.hoop h).taken = [] ∧ (t.hoop h).takenNext = [] ∧ (t.hoop h).erasing = (s.hoop h).erasing ∧ (t.hoop h).wls = (s.hoop h).wls ∧ (∀ k, k ≠ h.val → t.hoop k = s.hoop k) ∧
      t.chans = s.chans ∧ t.strms = s.strms ∧ t.ext = s.ext ∧ t.rng = s.rng)) ∧
  (∀ (s : State) (h : Fin 64), s.portTakes R.HOOP_CMD_OP.addr →
    ((s.hoop h).st = .off → ∃ t, exec (.hoopDisable h) s = .next t ∧ t.get R.HOOP_CMD_STAT_RESULT = 8 ∧ s.wordsKept t [R.HOOP_CMD_STAT_RESULT.addr] ∧ t = { s with regs := t.regs }) ∧
    ((s.hoop h).st ≠ .off → s.reservedPlaces (fun v => decide (v.hoop = h.val)) = [] → s.lace.cancels = [] → ∃ t, exec (.hoopDisable h) s = .next t ∧ t.get R.HOOP_CMD_STAT_RESULT = 0 ∧
      t.hoop h = { s.hoop h with st := .off, stall := [] } ∧ (∀ k, k ≠ h.val → t.hoop k = s.hoop k) ∧ t.chans = s.chans ∧ t.strms = s.strms ∧ t.ext = s.ext) ∧
    ((s.hoop h).st ≠ .done → (s.hoop h).st ≠ .overrun → ∃ t, exec (.rearm h) s = .next t ∧ t.get R.HOOP_CMD_STAT_RESULT = 8 ∧ s.wordsKept t [R.HOOP_CMD_STAT_RESULT.addr] ∧ t = { s with regs := t.regs }) ∧
    (((s.hoop h).st = .done ∨ (s.hoop h).st = .overrun) → ∃ t, exec (.rearm h) s = .next t ∧ t.get R.HOOP_CMD_STAT_RESULT = 0 ∧ t.hoop h = { s.hoop h with st := .armed } ∧
      (∀ k, k ≠ h.val → t.hoop k = s.hoop k) ∧ t.chans = s.chans ∧ t.strms = s.strms ∧ t.ext = s.ext)) ∧
  (∀ (s : State) (h : Fin 64) (g : TrigS) (r : List TrigS), (s.hoop h).trig = g :: r →
    ((s.hoop h).st = .armed → ∃ t, exec (.hoopTrigger h) s = .next t ∧ (t.hoop h).trig = r ∧ ((t.hoop h).st = .frozen ∨ ((t.hoop h).st = .done ∧ t.event .hoop 0 1 = true)) ∧ t.event .hoop 0 0 = true ∧
      t.get R.HOOP_EVT_HOOP_HOOP = h ∧ (∀ k, k ≠ h.val → t.hoop k = s.hoop k) ∧ t.rng = s.rng ∧ t.ext = s.ext ∧ t.strms = s.strms) ∧
    ((s.hoop h).st ≠ .armed → ∃ t, exec (.hoopTrigger h) s = .next t ∧ t.hoop h = { s.hoop h with trig := r } ∧ t.event .hoop 0 6 = true ∧ t.get R.HOOP_EVT_HOOP_HOOP = h ∧
      (∀ k, k ≠ h.val → t.hoop k = s.hoop k) ∧ t.chans = s.chans ∧ t.rng = s.rng ∧ t.ext = s.ext ∧ t.strms = s.strms)) ∧
  (∀ (s : State) (k : Fin 2) (w : Word), s.portTakes (R.HOOP_TRIG0_HOOPS.addr + 4 * k.val) → ∃ t, exec (.trigReg k w) s = .next t ∧ t = { s with hoops := t.hoops } ∧
    (∀ b, b < 32 → w.getLsbD b = true → s.hoopPlain (32 * k.val + b) = false → bit (s.hget (32 * k.val + b) 0 4) 4 = true → ∀ l, l = (s.hoop (32 * k.val + b)).trig →
      t.hoop (32 * k.val + b) = { s.hoop (32 * k.val + b) with trig := if l.any (fun g => g.time = s.cyc) then l.map (fun g => if g.time = s.cyc then { g with src := g.src ||| 4 } else g) else l ++ [⟨4, s.cyc, s.stamp⟩] }) ∧
    (∀ b, b < 32 → (w.getLsbD b = false ∨ s.hoopPlain (32 * k.val + b) = true ∨ bit (s.hget (32 * k.val + b) 0 4) 4 = false) → t.hoop (32 * k.val + b) = s.hoop (32 * k.val + b))) ∧
  (∀ (s : State), s.powered 0 = true → s.xlOn = false → s.pins.trigIn = false → (∀ c, s.pins.trigAt = some c → c + 4 ≤ s.cyc) →
    ∃ t, exec (.trigIn true) s = .next t ∧ t = { s with hoops := t.hoops, pins := { s.pins with trigIn := true, trigAt := some s.cyc } } ∧
    (∀ h, h < 64 → s.hoopPlain h = false → bit (s.hget h 0 4) 2 = true → ∀ l, l = (s.hoop h).trig →
      t.hoop h = { s.hoop h with trig := if l.any (fun g => g.time = s.cyc) then l.map (fun g => if g.time = s.cyc then { g with src := g.src ||| 1 } else g) else l ++ [⟨1, s.cyc, s.stamp⟩] }) ∧
    (∀ h, h < 64 → (s.hoopPlain h = true ∨ bit (s.hget h 0 4) 2 = false) → t.hoop h = s.hoop h)) ∧
  (∀ (s : State) (c : Nat), s.pins.trigAt = some c → s.cyc < c + 4 → s.pins.trigIn = false →
    exec (.trigIn true) s = .next { s with pins := { s.pins with trigIn := true, trigAt := some s.cyc } }) ∧
  (∀ (s : State), exec (.trigIn false) s = .next { s with pins := { s.pins with trigIn := false } }) ∧
  (∀ (s : State), ∃ t, exec .hoopRecordPeriod s = .next t ∧ t = { s with lnk := t.lnk } ∧ (s.mirrors = false ∨ s.linkJam 0x21 = true → t = s) ∧
    (s.mirrors = true → s.linkJam 0x21 = false → tget (fun _ => 0) s.lnk.nseq 1 < 65536 → tget (fun _ => 0) t.lnk.nseq 1 = (tget (fun _ => 0) s.lnk.nseq 1 + 64) % 65536))

/-- TILE_NUMBER without a seal: the header of a closed hoop (not frozen in this very cyc) is dropped and counted; one whose row is
not erased starts the wait and raises STALL's event; one of an armed hoop with an erased row whose entry START is known, a slot
and a place free, no slot reserved for its stream, unlaced and below the cut threshold takes the place with its stream, serial,
tile number and address, and begins to land. FILL_TIMEOUT of a reserved slot that does not land laced writes a whole FILL tile
of LENGTH 0 there, issued unless an earlier page holds it back. RELOCATE gives a channel-bound tile the slot found and issues
its PROG, or raises NO_SLOT in a hoop without a good block set on the channel. ERASE_FRONT asks for the row-table entries that
it has not read; with them it issues an ERASE to every member of the row that is not marked bad and keeps them as erasing.
Completion (exec answers next with the form's own effect, from these conditions alone) is stated for: tileNumber, fillTimeout,
relocate, eraseFront. -/
def Obligations.TilesAreNumberedFilledAndErased : Prop :=
  (∀ (s : State) (n : Fin 12), (s.lane n).asm = .header → s.sealApplies = false → ∀ it, it = (s.lane n).hdr → ∀ h, h = s.hdrHoopOf it.v →
    (s.hoopShut h = true → s.hoopLate h = false → ∃ t, exec (.tileNumber n) s = .next t ∧ t.lane n = { s.lane n with asm := .dropping } ∧ t.get R.STRM_EVT_STREAM_STREAM = hdrStream it.v ∧ t.event .strm 0 3 = true ∧
      (∀ k, k ≠ n.val → t.lane k = s.lane k) ∧ t.hoops = s.hoops ∧ t.chans = s.chans ∧ t.rng = s.rng) ∧
    (s.hoopShut h = false → s.reservedFor (hdrStream it.v) h = none → ∀ u, u = s.ctxSeen (hctx h) 40 → (u.hoop h).st = .armed →
      (u.rowErased h (u.hget h 0x58 4) = false → (∀ p ∈ (u.hoop h).stall, p.1 ≠ n.val) →
        ∃ t, exec (.tileNumber n) s = .next t ∧ t.hoop h = { u.hoop h with stall := (u.hoop h).stall ++ [(n.val, u.cyc)] } ∧ (∀ k, k ≠ h → t.hoop k = u.hoop k) ∧ t.get R.HOOP_EVT_HOOP_HOOP = h ∧ t.event .hoop 0 3 = true ∧
          u.wordsKept t [R.HOOP_EVT_HOOP_HOOP.addr, evtAddr .hoop 0] ∧ t = { u with hoops := t.hoops, regs := t.regs, pins := t.pins }) ∧
      (∀ k p, u.rowErased h (u.hget h 0x58 4) = true → u.startKnown h (u.hget h 0x58 4) = true → (u.hoop h).taken.length < (u.rowSlots h (u.hget h 0x58 4)).length → 8 ≤ u.sget (hdrStream it.v) 1 1 →
        u.pickSlot h (u.sget (hdrStream it.v) 1 1) = some k → (u.get (R.LANE_CFG_CT_THRESH n) = 0 ∨ hdrLen it.v < u.get (R.LANE_CFG_CT_THRESH n) * 512) →
        ∀ x, x = (u.rowSlots h (u.hget h 0x58 4)).getD k (0, 0, 0) → u.freePlace x.2.2 = some p → u.progRoom x.2.2 x.1 = true →
        ∃ t, exec (.tileNumber n) s = .next t ∧ t.lane n = { u.lane n with asm := .landing, ch := x.2.2, place := p } ∧ (∀ k, k ≠ n.val → t.lane k = u.lane k) ∧
          (t.place x.2.2 p).used = true ∧ (t.place x.2.2 p).stream = hdrStream it.v ∧ (t.place x.2.2 p).hoop = h ∧ (t.place x.2.2 p).serial = u.sget (hdrStream it.v) 8 8 ∧
          (t.place x.2.2 p).len = hdrLen it.v ∧ (t.place x.2.2 p).time = it.stamp.1 ∧ (t.place x.2.2 p).angle = it.stamp.2 ∧ (t.place x.2.2 p).got = 0 ∧ (t.place x.2.2 p).issued = false ∧
          (t.place x.2.2 p).slotNo = (u.ch x.2.2).nextOrd ∧ (t.place x.2.2 p).tileno = (u.hoopBase h + u.hget h 0x40 8 % max 1 (u.hoopTiles h)) % 2 ^ 31 ∧
          (t.place x.2.2 p).taddr = u.slotAddr h (u.hget h 0x58 4) (u.hget h 0x60 2) x ∧ (∀ j, j ≠ p → t.place x.2.2 j = u.place x.2.2 j) ∧ (∀ j, j ≠ x.2.2 → t.ch j = u.ch j) ∧ t.rng = u.rng))) ∧
  (∀ (s : State) (n : Fin 48) (p : Fin 8) (c : Nat), ∀ v, v = s.place n p → v.reserved = some c → s.sealApplies = false → s.lace.cancels = [] → s.landsLaced v.profile n = false → v.stripe = unmapped →
    ∃ t, exec (.fillTimeout n p) s = .next t ∧ (t.place n p).kind = .fill ∧ (t.place n p).len = 0 ∧ (t.place n p).whole = true ∧ (t.place n p).reserved = none ∧
      (t.place n p).tileno = v.tileno ∧ (t.place n p).taddr = v.taddr ∧ (t.place n p).stripe = unmapped ∧ (v.profile < 8 → t.event .lace 0 3 = true) ∧ t.rng = s.rng ∧ t.ext = s.ext ∧
      ((v.issued = true ∨ s.progHeld n p = true) → (t.place n p).issued = v.issued) ∧
      ((∀ j, j < 8 → j ≠ p.val → (s.place n j).due = none) → (∀ j, j ≠ p.val → t.place n j = s.place n j) ∧ (v.issued = false → s.progHeld n p = false → (t.place n p).issued = true))) ∧
  (∀ (s : State) (n : Fin 48) (p : Fin 8), ∀ v, v = s.place n p → v.used = true → v.whole = true → v.issued = false → v.due = none → v.kind ≠ .almanac → v.hoop < 64 →
    v.sealRank = none → s.sealApplies = false →
    (s.noGood v.hoop n = true → ∃ t, exec (.relocate n p) s = .next t ∧ t.event .hoop 0 5 = true ∧ t.get R.HOOP_EVT_HOOP_HOOP = v.hoop ∧
      s.wordsKept t [R.HOOP_EVT_HOOP_HOOP.addr, evtAddr .hoop 0] ∧ t = { s with regs := t.regs, pins := t.pins }) ∧
    (∀ a u, s.noGood v.hoop n = false → s.boundSlot v.hoop n = some (a, u) → (∀ j, j < 8 → j ≠ p.val → (s.place n j).due = none ∧ ((s.place n j).used = false ∨ (s.place n j).issued = true)) →
      (∀ h, h < 64 → h ≠ v.hoop → (n.val, taLun a) ∉ (s.hoop h).wls) → v.slotNo ≠ (s.ch n).nextOrd →
      ∃ t, exec (.relocate n p) s = .next t ∧ (t.place n p).taddr = a ∧ (t.place n p).issued = true ∧ (∀ j, j ≠ p.val → t.place n j = s.place n j) ∧
        (t.ch (taCh a)).wait.any (fun d => decide (d.opcode = 1 ∧ d.taddr = a ∧ d.place = p.val)) = true ∧ (v.taddr ≠ unmapped → t.event .hoop 0 4 = true))) ∧
  (∀ (s : State) (h : Fin 64), ∀ q, q = s.hget h 0x5C 4 → (s.hoop h).st ≠ .off → s.sealApplies = false → q ≤ s.hget h 0x58 4 + s.hoopLead h →
    (s.rowKnown h q = false → ∃ t, exec (.eraseFront h) s = .next t ∧ (∀ i ∈ [s.rowIdx h q, s.rowIdx h (q + 1)], (s.rowRead h i).isSome = true ∨ i ∈ (t.hoop h).tblAsk) ∧
      (∀ k, k ≠ h.val → t.hoop k = s.hoop k) ∧ t = { s with hoops := t.hoops, mp := t.mp }) ∧
    (s.rowKnown h q = true → s.rowMayErase h q = true → s.memberOpen h = false →
      ∀ g, g = ((s.hoopLuns h).flatMap (fun l => (s.hoopChans h).map (fun c => (⟨q, c, l⟩ : Member)))).filter (fun m => decide (m ∉ s.badMembers h q)) →
      ∃ t, exec (.eraseFront h) s = .next t ∧ (t.hoop h).erasing = (s.hoop h).erasing ++ g ∧ (t.hoop h).st = (s.hoop h).st ∧ (t.hoop h).taken = (s.hoop h).taken ∧
        (∀ m ∈ s.badMembers h q, m ∈ (t.hoop h).noSlot) ∧
        (∀ m ∈ g, ∀ a, a = taddrOf m.ch m.lun (s.rowBlk h q) 0 → (t.ch (taCh a)).wait.any (fun d => decide (d.opcode = 2 ∧ d.taddr = a)) = true) ∧ (∀ k, k ≠ h.val → t.hoop k = s.hoop k) ∧ t.rng = s.rng ∧ t.lanes = s.lanes))

/-- RING_ENABLE leaves the code of the first failed check in RESULT, and enables the ring when none fails. RING_DISABLE of a
disabled ring gives 7, of a completion ring in use 6, of another completion ring disables it, of a submission ring lets it
drain; DRAINED then disables it and raises the event. A refused DOORBELL leaves ring and reason in DB_INFO and raises
DB_REFUSED; an accepted one touches the context alone. RING_FETCH and OWN_RETRY ask for the entries that may be fetched.
CHAN_ENTRY refuses an entry with a record, or hands it to its channel, a read with a place. READ_ENTRY refuses with a record, or
waits for the lookup of its tile. RESULT_COPY presents the bytes, frees the place and queues the record. COMPLETION_RECORD asks
for the write of the oldest record that may go, at its ring's TAIL with its phase. Completion (exec answers next with the form's
own effect, from these conditions alone) is stated for: ringEnable, ringDisable, drained, doorbell, ringFetch, ownRetry,
chanEntry, readEntry, resultCopy, completionRecord. -/
def Obligations.RingsTakeCommandsFetchAndComplete : Prop :=
  (∀ (s : State) (r : BitVec 14), s.portTakes R.RING_CMD_OP.addr →
    (∃ t, exec (.ringEnable r) s = .next t ∧ t.get R.RING_CMD_STAT_RESULT = s.ringCheck r.toNat ∧
      (s.ringCheck r.toNat ≠ 0 → s.wordsKept t [R.RING_CMD_STAT_RESULT.addr] ∧ t = { s with regs := t.regs }) ∧
      (s.ringCheck r.toNat = 0 → t.ring r.toNat = { en := true } ∧ (∀ k, k ≠ r.toNat → t.ring k = s.ring k) ∧ s.wordsKept t [R.RING_CMD_STAT_RESULT.addr, R.RING_ENABLED_CNT.addr] ∧
        t = { s with regs := t.regs, sram := t.sram, memi := t.memi, rng := { s.rng with rings := t.rng.rings } })) ∧
    ((s.ring r.toNat).en = false → ∃ t, exec (.ringDisable r) s = .next t ∧ t.get R.RING_CMD_STAT_RESULT = 7 ∧ s.wordsKept t [R.RING_CMD_STAT_RESULT.addr] ∧ t = { s with regs := t.regs }) ∧
    ((s.ring r.toNat).en = true → s.ringKind r.toNat = 4 → s.cqInUse r.toNat = true → ∃ t, exec (.ringDisable r) s = .next t ∧ t.get R.RING_CMD_STAT_RESULT = 6 ∧
      s.wordsKept t [R.RING_CMD_STAT_RESULT.addr] ∧ t = { s with regs := t.regs }) ∧
    ((s.ring r.toNat).en = true → s.ringKind r.toNat = 4 → s.cqInUse r.toNat = false → ∃ t, exec (.ringDisable r) s = .next t ∧ t.get R.RING_CMD_STAT_RESULT = 0 ∧ (t.ring r.toNat).en = false ∧
      (∀ k, k ≠ r.toNat → t.ring k = s.ring k) ∧ t = { s with regs := t.regs, sram := t.sram, memi := t.memi, rng := { s.rng with rings := t.rng.rings } }) ∧
    ((s.ring r.toNat).en = true → s.ringKind r.toNat ≠ 4 → ∃ t, exec (.ringDisable r) s = .next t ∧ t.get R.RING_CMD_STAT_RESULT = 0 ∧ s.wordsKept t [R.RING_CMD_STAT_RESULT.addr] ∧
      t = { s with regs := t.regs, sram := t.sram, memi := t.memi })) ∧
  (∀ (s : State) (r : BitVec 14), (s.ring r.toNat).en = true → s.ringKind r.toNat ≠ 4 → s.ringSt r.toNat = 3 → s.rget r.toNat 0x14 2 = 0 → (s.ring r.toNat).busy = 0 →
    ∃ t, exec (.drained r) s = .next t ∧ (t.ring r.toNat).en = false ∧ (∀ k, k ≠ r.toNat → t.ring k = s.ring k) ∧ t.event .ring 0 5 = true ∧ t.get R.RING_EVT_RING_RING = r.toNat ∧
      t = { s with regs := t.regs, pins := t.pins, sram := t.sram, memi := t.memi, rng := { s.rng with rings := t.rng.rings } }) ∧
  (∀ (s : State) (w : Word) (r x : Nat), s.portTakes R.RING_DOORBELL_RING.addr → r = bits w.toNat 0 14 → x = bits w.toNat 16 16 →
    (s.dbCheck r x ≠ 0 → ∃ t, exec (.doorbell w) s = .next t ∧ t.get R.RING_DB_INFO_RING = r ∧ t.get R.RING_DB_INFO_REASON = s.dbCheck r x ∧ t.event .ring 0 1 = true ∧ t.get R.RING_EVT_RING_RING = r ∧
      s.wordsKept t [R.RING_DB_INFO_RING.addr, R.RING_EVT_RING_RING.addr, evtAddr .ring 0] ∧ t = { s with regs := t.regs, pins := t.pins }) ∧
    (s.dbCheck r x = 0 → ∃ t, exec (.doorbell w) s = .next t ∧ t = { s with sram := t.sram, memi := t.memi, rng := { s.rng with rings := t.rng.rings } } ∧ (∀ k, k ≠ r → t.ring k = s.ring k) ∧
      (t.ring r).en = (s.ring r).en)) ∧
  (∀ (s : State) (r : BitVec 14) (k : Nat), k ≠ 0 →
    (s.powered 0 = true → s.fetchable r.toNat = k → ∃ t, exec (.ringFetch r) s = .next t ∧ (t.ring r.toNat).busy = k ∧ (∀ j, j ≠ r.toNat → t.ring j = s.ring j) ∧
      t.mp = (s.mpRead (r.toNat % 2) 1 1 (s.ringBase r.toNat + 64 * s.rget r.toNat 0x10 2) k (.entry r.toNat)).mp ∧ s.wordsKept t [] ∧ t.rng.recs = s.rng.recs ∧ t.chans = s.chans) ∧
    ((s.ring r.toNat).wait = true → (s.ringMap r.toNat (fun x => { x with wait := false })).fetchable r.toNat = k → ∃ t, exec (.ownRetry r) s = .next t ∧ (t.ring r.toNat).busy = k ∧ (t.ring r.toNat).wait = false ∧
      t.mp = (s.mpRead (r.toNat % 2) 1 1 (s.ringBase r.toNat + 64 * s.rget r.toNat 0x10 2) k (.entry r.toNat)).mp ∧ t.rng.recs = s.rng.recs)) ∧
  (∀ (s : State) (r : BitVec 14) (e : List Byte), s.rng.chanq.find? (fun p => p.1 = r.toNat) = some (r.toNat, e) → ∀ d, d = { descOf e with origin := 0x4000 + r.toNat } →
    (∀ st, s.chanRefuse d = some st → d.cmpl = true → ∃ t, exec (.chanEntry r) s = .next t ∧ t = { s with rng := { s.rng with
      chanq := s.rng.chanq.eraseP (fun p => p.1 = r.toNat), recs := s.rng.recs ++ [s.chanRec r.toNat d.tag st (s.stdRes (taCh d.taddr) d 0 0 0)] } }) ∧
    (s.chanRefuse d = none → d.ringReads = false → ∃ t, exec (.chanEntry r) s = .next t ∧ t.ch (taCh d.taddr) = { s.ch (taCh d.taddr) with wait := (s.ch (taCh d.taddr)).wait ++ [d] } ∧
      (∀ k, k ≠ taCh d.taddr → t.ch k = s.ch k) ∧ t = { s with chans := t.chans, rng := { s.rng with chanq := s.rng.chanq.eraseP (fun p => p.1 = r.toNat) } }) ∧
    (∀ p, s.chanRefuse d = none → d.ringReads = true → s.decFree = some p → ∃ t, exec (.chanEntry r) s = .next t ∧ t.dplace p = .chan r.toNat ∧
      t.ch (taCh d.taddr) = { s.ch (taCh d.taddr) with wait := (s.ch (taCh d.taddr)).wait ++ [{ d with dbuf := p }] } ∧ (∀ k, k ≠ taCh d.taddr → t.ch k = s.ch k) ∧ (∀ k, k ≠ p → t.dplace k = s.dplace k) ∧
      t.rng.chanReads = s.rng.chanReads ++ [⟨r.toNat, p, d.param % 2 ^ 48, decide (d.param / 2 ^ 64 % 2 ^ 32 ≠ 0)⟩] ∧
      t = { s with chans := t.chans, dec := t.dec, rng := { s.rng with chanq := s.rng.chanq.eraseP (fun p => p.1 = r.toNat), chanReads := t.rng.chanReads } })) ∧
  (∀ (s : State) (r : BitVec 14) (e : List Byte), s.rng.readq.find? (fun p => p.1 = r.toNat) = some (r.toNat, e) →
    ∀ q, q = ({ id := s.rng.nextRead, ring := r.toNat, tag := leNat ((e.drop 0x18).take 8), tileno := leNat ((e.drop 0).take 4) % 2 ^ 31, count := leNat ((e.drop 4).take 2), dest := leNat ((e.drop 8).take 8) % 2 ^ 48, trl := bit (leNat ((e.drop 6).take 1)) 0, hint := leNat ((e.drop 0x14).take 4) } : ReadReq) →
    (∀ st, s.readRefuse q q.count (leNat ((e.drop 0x10).take 4)) = some st → ∃ t, exec (.readEntry r) s = .next t ∧ t = { s with rng := { s.rng with
      readq := s.rng.readq.eraseP (fun p => p.1 = r.toNat), recs := s.rng.recs ++ [⟨s.ringCq r.toNat, r.toNat, 0, q.tag % 2 ^ 32, st, 2⟩] } }) ∧
    (s.readRefuse q q.count (leNat ((e.drop 0x10).take 4)) = none → q.count = 1 → s.mapHas (q.tileno / 16) = false → ∃ t, exec (.readEntry r) s = .next t ∧
      t.rng = { s.rng with readq := s.rng.readq.eraseP (fun p => p.1 = r.toNat), nextRead := s.rng.nextRead + 1, reads := s.rng.reads ++ [q] } ∧
      t.map.waiting = s.map.waiting ++ [.read q.id 0 q.tileno] ∧ q.tileno / 16 ∈ t.map.fills ∧ t.map.lines = s.map.lines ∧ t.chans = s.chans)) ∧
  (∀ (s : State) (c : CopyS) (rest : List RbJob) (x : RecOut) (o a : Nat), s.rng.rb = .copy c :: rest → c.parts = [(o, a, 4096)] → a % 4096 = 0 → c.recOut = some x → c.tile = none → s.rng.reads = [] →
    s.rcv.load = none → s.rcv.ledg = none → ∃ t, exec .resultCopy s = .next t ∧ t.mp = (s.mpWrite (c.ring % 2) 4 a (s.dGet c.place o 4096) (.copy c.ring)).mp ∧ t.dplace c.place = .free ∧
      (∀ k, k ≠ c.place → t.dplace k = s.dplace k) ∧ t.rng = { s.rng with rb := rest, recs := s.rng.recs ++ [x] } ∧ t.chans = s.chans ∧ t.ext = s.ext) ∧
  (∀ (s : State) (x : RecOut), s.recNext = some x → ∃ t, exec .completionRecord s = .next t ∧
    t.mp = (s.mpWrite (x.src % 2) 1 (s.ringBase x.cq + s.rget x.cq 0x12 2 * 16) (recBytes x ++ [BitVec.ofNat 8 (b2n (bit (s.rget x.cq 0x16 1) 7) * 128 + x.typ)]) (.record x.cq (some x.src))).mp ∧
    t = { s with mp := t.mp, rng := { s.rng with recs := s.rng.recs.erase x } })

/-- With the descriptor of its mode running: COPY asks for the read of the bytes to the end of its 4 KiB, or writes what it reads on
chip; FILL writes its pattern; DUMP writes registers; GATHER and SCATTER read their table, then the index of each element, then
the element; INTERLEAVE, DEINTERLEAVE and BITSLICE read their sources. Returned data are written to the destination, transposed
by the mode; table parts and indexes are taken. A step is complete when its write has been accepted; with the last one the
record of status 0 is queued and the channel is IDLE. A refused descriptor leaves its ring and status in REFUSE_INFO and its
record. PAUSE, PAUSED, RESUME and ABORT change the channel's state, ABORT with the record of status 0x32. DMA_BURST gives the
turn to the first requester with work. Completion (exec answers next with the form's own effect, from these conditions alone) is
stated for: memoryReadReturn, memoryWriteAccepted, dmaCopy, dmaFill, dmaGather, dmaScatter, dmaInterleave, dmaDeinterleave,
dmaBitslice, dmaDump, dmaBurst, dmaPause, dmaPaused, dmaResume, dmaAbort. -/
def Obligations.DmaChannelsMoveBytes : Prop :=
  (∀ (s : State) (c : Fin 8) (r : Nat) (b : List Byte), s.powered 0 = true → (s.dmaCh c).desc = some (r, b) → (s.dmaCh c).st = .running → (s.dmaCh c).fail = none → s.dmaReads c < 8 → ∀ d, d = dmaOf b → ∀ k, k = (s.dmaCh c).pos → k < d.len →
    (∀ n, n = min (d.len - k) (min (4096 - (d.src + k) % 4096) (burstRoom d.dstOn (d.dst + k))) → d.mode = 0 → d.srcOn = false → ∃ t, exec (.dmaCopy c) s = .next t ∧ t.dmaCh c = { s.dmaCh c with pos := k + n } ∧
      t.mp = (s.mpRead (r % 2) 4 3 (d.src + k) ((n + 63) / 64) (.dmaData c k n (d.dst + k))).mp ∧ (∀ j, j ≠ c.val → t.dmaCh j = s.dmaCh j) ∧ t = { s with mp := t.mp, rng := { s.rng with dma := t.rng.dma } }) ∧
    (∀ n, n = min (d.len - k) (4096 - (d.dst + k) % 4096) → (d.mode = 0 ∨ d.mode = 7) → d.srcOn = true → d.dstOn = false → ∀ i ∈ (if d.mode = 0 then [Instr.dmaCopy c] else [Instr.dmaDump c]), ∃ t, exec i s = .next t ∧
      t.dmaCh c = { s.dmaCh c with pos := k + n } ∧ t.ext = s.ext ∧ t.chans = s.chans ∧
      t.mp = (s.mpWrite (r % 2) 4 (d.dst + k) (((List.range (n / 4)).map (fun i => d.src + k + 4 * i)).flatMap (fun a => leBytes 4 (s.readWord a).toNat)) (.dma c ((k + n) / 64))).mp) ∧
    (∀ n, n = min (d.len - k) (4096 - (d.dst + k) % 4096) → d.mode = 1 → d.dstOn = false → ∃ t, exec (.dmaFill c) s = .next t ∧ t.dmaCh c = { s.dmaCh c with pos := k + n } ∧
      t.mp = (s.mpWrite (r % 2) 4 (d.dst + k) ((List.range n).map (fun i => BitVec.ofNat 8 (d.aux / 2 ^ (8 * (i % 8))))) (.dma c ((k + n) / 64))).mp ∧ t = { s with mp := t.mp, rng := { s.rng with dma := t.rng.dma } }) ∧
    (∀ n, n = min (d.len - k) 4096 → d.mode = 1 → d.dstOn = true → exec (.dmaFill c) s = .next (((s.dmaMap c (fun x => { x with pos := k + n })).chipPut (d.dst + k)
      ((List.range n).map (fun i => BitVec.ofNat 8 (d.aux / 2 ^ (8 * (i % 8)))))).dmaDone c ((k + n) / 64))) ∧
    (∀ n, n = min (d.len - k) 4096 → d.mode = 0 → d.srcOn = true → d.dstOn = true → exec (.dmaCopy c) s = .next ((((s.dmaMap c (fun x => { x with pos := k + n })).chipGet (d.src + k) n 0).2.chipPut (d.dst + k)
      (((List.range (n / 4)).map (fun i => d.src + k + 4 * i)).flatMap (fun a => leBytes 4 ((s.dmaMap c (fun x => { x with pos := k + n })).readWord a).toNat))).dmaDone c ((k + n) / 64))) ∧
    ((d.mode = 2 ∨ d.mode = 3) → ∀ i ∈ (if d.mode = 2 then [Instr.dmaGather c] else [Instr.dmaScatter c]),
      (∀ n, n = min (4 * d.icount - (s.dmaCh c).tpos) (4096 - (d.idx + (s.dmaCh c).tpos) % 4096) → (s.dmaCh c).checked = false → (s.dmaCh c).tpos < 4 * d.icount → ∃ t, exec i s = .next t ∧ t.dmaCh c = { s.dmaCh c with tpos := (s.dmaCh c).tpos + n } ∧
        t.mp = (s.mpRead (r % 2) 4 3 (d.idx + (s.dmaCh c).tpos) ((n + 63) / 64) (.dmaTable c (s.dmaCh c).tpos)).mp ∧ t = { s with mp := t.mp, rng := { s.rng with dma := t.rng.dma } }) ∧
      (0 < d.unit → (s.dmaCh c).checked = true → (s.dmaCh c).el = none → (s.dmaCh c).asked = false → ∃ t, exec i s = .next t ∧ t.dmaCh c = { s.dmaCh c with asked := true } ∧
        t.mp = (s.mpRead (r % 2) 4 3 ((d.idx + 4 * (k / d.unit)) / 64 * 64) 1 (.dmaIndex c (k / d.unit))).mp ∧ t = { s with mp := t.mp, rng := { s.rng with dma := t.rng.dma } }) ∧
      (∀ e, some e = (s.dmaCh c).el → 0 < d.unit → (s.dmaCh c).checked = true → ∀ src, src = d.src + (if d.mode = 2 then e * d.unit + k % d.unit else k) → ∀ dst, dst = d.dst + (if d.mode = 3 then e * d.unit + k % d.unit else k) →
        ∀ n, n = min (d.unit - k % d.unit) (min (4096 - src % 4096) (4096 - dst % 4096)) → ∃ t, exec i s = .next t ∧ (t.dmaCh c).pos = k + n ∧
        (t.dmaCh c).el = (if (k + n) % d.unit = 0 then none else some e) ∧ t.mp = (s.mpRead (r % 2) 4 3 src ((n + 63) / 64) (.dmaData c k n dst)).mp ∧ t = { s with mp := t.mp, rng := { s.rng with dma := t.rng.dma } })) ∧
    (d.mode = 4 → 2 ≤ d.p0 → d.p0 ≤ 4 → ∃ t, exec (.dmaInterleave c) s = .next t ∧ t.dmaCh c = { s.dmaCh c with pos := k + 64 } ∧
      t.mp = (s.mpRead (r % 2) 4 3 (d.src + k % (64 * d.p0) / 64 * (d.len / d.p0) + 64 * (k / (64 * d.p0))) 1 (.dmaData c k 64 0)).mp ∧ t = { s with mp := t.mp, rng := { s.rng with dma := t.rng.dma } }) ∧
    (∀ n, n = min (d.len - k) (4096 - (d.src + k) % 4096) → (d.mode = 5 ∨ d.mode = 6) → ∀ i ∈ (if d.mode = 5 then [Instr.dmaDeinterleave c] else [Instr.dmaBitslice c]), ∃ t, exec i s = .next t ∧ t.dmaCh c = { s.dmaCh c with pos := k + n } ∧
      t.mp = (s.mpRead (r % 2) 4 3 (d.src + k) ((n + 63) / 64) (.dmaData c k n 0)).mp ∧ t = { s with mp := t.mp, rng := { s.rng with dma := t.rng.dma } })) ∧
  (∀ (s : State) (c : Fin 8) (r : Nat) (b : List Byte) (p : Fin 2) (w : Line) (x : MpRead), (s.dmaCh c).desc = some (r, b) → (s.dmaCh c).fail = none → s.mp.reads.find? (fun y => y.port = p.val ∧ y.cls = 3) = some x →
    x.beat + 1 = x.lines → x.bad = [] → ∀ u, u = ({ s with mp := { s.mp with reads := s.mp.reads.erase x } } : State).mpPump p → ∀ d, d = dmaOf b → ∀ y, y = x.data ++ leBytes 64 w.toNat → (s.dmaCh c).prog < dmaSteps b →
    (∀ k n dst, x.use = .dmaData c k n dst → 0 < n → n ≤ y.length → d.mode < 4 → d.dstOn = false → dst % 4096 + n ≤ 4096 → ∀ m, m = (if d.mode < 2 then 64 else d.unit) → 0 < m → ∃ t, exec (.memoryReadReturn p 3 w true false) s = .next t ∧
      t.mp = (u.mpWrite (r % 2) 4 dst (y.take n) (.dma c ((k + n) / m))).mp ∧ t = { u with mp := t.mp }) ∧
    (∀ k n dst, x.use = .dmaData c k n dst → n ≤ y.length → ∀ g, g = (s.dmaCh c).got ++ y.take n → ∀ o, o = (s.dmaCh c).out →
      (d.mode = 4 → 2 ≤ d.p0 → d.p0 ≤ 4 → g.length = 64 * d.p0 → (d.dst + 64 * d.p0 * o) % 4096 + 64 * d.p0 ≤ 4096 → ∃ t, exec (.memoryReadReturn p 3 w true false) s = .next t ∧ t.dmaCh c = { s.dmaCh c with got := [], out := o + 1 } ∧
        t.mp = (u.mpWrite (r % 2) 4 (d.dst + 64 * d.p0 * o) ((List.range (64 * d.p0)).map (fun i => g.getD (interleaveAt d.p0 d.p1 i) 0)) (.dma c (o + 1))).mp ∧ t.ext = s.ext) ∧
      (d.mode = 5 → 2 ≤ d.p0 → d.p0 ≤ 4 → g.length = 64 * d.p0 → d.dst % 64 = 0 → d.len % (64 * d.p0) = 0 → ∃ t, exec (.memoryReadReturn p 3 w true false) s = .next t ∧ t.dmaCh c = { s.dmaCh c with got := [], out := o + 1 } ∧
        t.mp = ((List.range d.p0).foldl (fun v q => v.mpWrite (r % 2) 4 (d.dst + q * (d.len / d.p0) + 64 * o) ((List.range 64).map (fun i => g.getD (deinterleaveAt d.p0 d.p1 q i) 0)) (.dma c (if q + 1 = d.p0 then o + 1 else o))) u).mp ∧ t.ext = s.ext) ∧
      (d.mode = 6 → 0 < d.p0 → d.p0 ≤ 16 → g.length = 1024 → d.dst % 64 = 0 → d.len % 1024 = 0 → ∃ t, exec (.memoryReadReturn p 3 w true false) s = .next t ∧ t.dmaCh c = { s.dmaCh c with got := [], out := o + 1 } ∧
        t.mp = ((List.range d.p0).foldl (fun v q => v.mpWrite (r % 2) 4 (d.dst + q * (d.len / 16) + 64 * o) (bitPlane g (d.p0 - 1 - q)) (.dma c (if q + 1 = d.p0 then o + 1 else o))) u).mp ∧ t.ext = s.ext)) ∧
    (∀ k, x.use = .dmaTable c k → k % 4 = 0 → ∀ n, n = min (y.length / 4) (d.icount - k / 4) → (∀ i, i < n → (leNat ((y.drop (4 * i)).take 4) + 1) * d.unit ≤ d.aux) → ∃ t, exec (.memoryReadReturn p 3 w true false) s = .next t ∧
      t.dmaCh c = { s.dmaCh c with tgot := k + 4 * n, checked := decide (4 * d.icount ≤ k + 4 * n) } ∧ t = { u with rng := { s.rng with dma := t.rng.dma } }) ∧
    (∀ j, x.use = .dmaIndex c j → ∀ e, e = leNat ((y.drop ((d.idx + 4 * j) % 64)).take 4) → (e + 1) * d.unit ≤ d.aux → ∃ t, exec (.memoryReadReturn p 3 w true false) s = .next t ∧ t.dmaCh c = { s.dmaCh c with el := some e } ∧
      t = { u with rng := { s.rng with dma := t.rng.dma } })) ∧
  (∀ (s : State) (c : Fin 8) (r m : Nat) (b : List Byte) (p : Fin 2) (n : Fin 64) (w : MpWrite), (s.dmaCh c).desc = some (r, b) → (s.dmaCh c).fail = none → (s.dmaCh c).st = .running → s.mp.writes.find? (fun y => y.port = p.val) = some w → w.use = .dma c m → w.lines ≤ w.beat + n + 1 →
    ∃ t, exec (.memoryWriteAccepted p n) s = .next t ∧
      (∀ k, k = max (s.dmaCh c).prog m → (k < dmaSteps b → t.dmaCh c = { s.dmaCh c with prog := k } ∧ t.rng.recs = s.rng.recs) ∧
        (dmaSteps b ≤ k → t.dmaCh c = { last := (s.dmaCh c).last } ∧ t.rng.recs = s.rng.recs ++ [⟨s.ringCq r, r, k % 2 ^ 32 + dmaSteps b * 2 ^ 32, (dmaOf b).tag % 2 ^ 32, 0, 3⟩]))) ∧
  (∀ (s : State) (c : Fin 8) (r st : Nat) (b : List Byte), s.powered 0 = true → (s.dmaCh c).desc = none → s.dmaNext c = some (r, b) → s.dmaCheck (dmaOf b) = some st → (dmaOf b).mode = 1 → r < 16384 → ∃ t, exec (.dmaFill c) s = .next t ∧
    t.get R.DMA_REFUSE_INFO_RING = r ∧ t.get R.DMA_REFUSE_INFO_STATUS = st ∧ t.event .dma 0 8 = true ∧ t.rng.recs = s.rng.recs ++ [⟨s.ringCq r, r, 0, (dmaOf b).tag % 2 ^ 32, st, 3⟩] ∧
    t.dmaCh c = { s.dmaCh c with last := r } ∧ t.mp = s.mp ∧ t.ext = s.ext) ∧
  (∀ (s : State) (c : Fin 8), s.portTakes (R.DMA_CH_CMD_PAUSE c).addr →
    ((s.dmaCh c).st = .running → ∃ t, exec (.dmaPause c) s = .next t ∧ t.dmaCh c = { s.dmaCh c with st := .pausing } ∧ t = { s with rng := { s.rng with dma := t.rng.dma } }) ∧
    ((s.dmaCh c).st = .idle → ∃ t, exec (.dmaPause c) s = .next t ∧ t.dmaCh c = { s.dmaCh c with st := .paused } ∧ t.event .dma 0 c = true ∧ s.wordsKept t [evtAddr .dma 0] ∧
      t = { s with regs := t.regs, pins := t.pins, rng := { s.rng with dma := t.rng.dma } }) ∧
    ((s.dmaCh c).st = .paused → ∃ t, exec (.dmaResume c) s = .next t ∧ t.dmaCh c = { s.dmaCh c with st := if (s.dmaCh c).desc.isSome then .running else .idle } ∧ t = { s with rng := { s.rng with dma := t.rng.dma } }) ∧
    (∀ r b, (s.dmaCh c).st = .paused → (s.dmaCh c).desc = some (r, b) → ∃ t, exec (.dmaAbort c) s = .next t ∧ t.dmaCh c = { st := .paused, last := (s.dmaCh c).last } ∧
      t.rng.recs = s.rng.recs ++ [⟨s.ringCq r, r, (s.dmaCh c).prog % 2 ^ 32 + dmaSteps b * 2 ^ 32, (dmaOf b).tag % 2 ^ 32, 0x32, 3⟩] ∧ t = { s with rng := { s.rng with dma := t.rng.dma, recs := t.rng.recs } })) ∧
  (∀ (s : State) (c : Fin 8), (s.dmaCh c).st = .pausing → s.dmaOut c = false → s.dmaMid c = false → ∃ t, exec (.dmaPaused c) s = .next t ∧ t.dmaCh c = { s.dmaCh c with st := .paused } ∧ t.event .dma 0 c = true ∧
    s.wordsKept t [evtAddr .dma 0] ∧ t = { s with regs := t.regs, pins := t.pins, rng := { s.rng with dma := t.rng.dma } }) ∧
  (∀ (s : State) (q : Nat), s.powered 0 = true → ((List.range 9).map (fun i => (s.rng.turn + 1 + i) % 9)).find? s.dmaWork = some q → ∃ t, exec .dmaBurst s = .next t ∧ t.rng.turn = q ∧
    (q = 8 → s.get R.DMA_CFG_RB_WEIGHT ≤ 1 → t = (s.rngMap (fun g => { g with turn := 8 })).rbBurst))

/-- While disabled every command of ROTOR.CMD answers DISABLED, in the Grave state STATE, and both change nothing else. START, STOP,
COAST, RUN and CLEAR answer STATE in a state that does not permit them. START answers NOT_READY when a check fails, and goes
from OFF to SPIN_CHECK or from COAST to CATCH. STOP sets the target to 0 and takes a starting drive to OFF, or to ASC with BEMF
above the link. COAST gives ASC above ASC_MIN or with BEMF above the link, else COAST with the gates off; during the zero torque
of a loss of synchronism it waits. RUN returns to speed control. CLEAR leaves TRIPPED. A CTRL write enables a ready drive and
answers NOT_READY otherwise. SPD_CMD sets speed and target, and refuses a reversal at speed. ROT_OC at 1 turns the gates off in
every state (OC_TRIP), and once it has fallen OC_HOLD_EXPIRE re-catches with OC_AUTO, or goes to the safe-off that waits. ASC
and COAST end, and UNDERVOLT below UV_LIM records its failure. Completion (exec answers next with the form's own effect, from
these conditions alone) is stated for: rotorStart, rotorStop, rotorCoast, rotorRun, rotorClear, rotorEnable, spdCmdWrite,
ocTrip, ocHoldExpire, ascExit, coastTimeout, undervolt. -/
def Obligations.DriveCommandsAnswerAndAct : Prop :=
  (∀ s : State, s.portTakes R.ROTOR_CMD_OP.addr →
    (∀ c ∈ [Instr.rotorStart, .rotorStop, .rotorCoast, .rotorRun, .rotorClear],
      (s.flag R.ROTOR_CTRL_ENABLE = false → ∃ t, exec c s = .next t ∧ t.get R.ROTOR_CMD_STAT_RESULT = 3 ∧ s.wordsKept t [R.ROTOR_CMD_STAT_RESULT.addr] ∧ t = { s with regs := t.regs }) ∧
      (s.flag R.ROTOR_CTRL_ENABLE = true → s.grave = true → ∃ t, exec c s = .next t ∧ t.get R.ROTOR_CMD_STAT_RESULT = 1 ∧ s.wordsKept t [R.ROTOR_CMD_STAT_RESULT.addr] ∧ t = { s with regs := t.regs })) ∧
    (s.flag R.ROTOR_CTRL_ENABLE = true → s.grave = false →
      (∀ c ∈ (if s.rot.st = .off then [Instr.rotorStop, .rotorCoast, .rotorRun, .rotorClear] else if s.rot.st = .tripped then [.rotorStart, .rotorStop, .rotorCoast, .rotorRun] else if s.rot.st = .coast then [.rotorStop, .rotorRun, .rotorClear] else if s.rot.st = .holdup then [.rotorStart, .rotorStop, .rotorClear] else [.rotorStart, .rotorClear]),
        ∃ t, exec c s = .next t ∧ t.get R.ROTOR_CMD_STAT_RESULT = 1 ∧ s.wordsKept t [R.ROTOR_CMD_STAT_RESULT.addr] ∧ t = { s with regs := t.regs }) ∧
      (s.rot.st = .off ∨ s.rot.st = .coast → s.rotNotReady = true → ∃ t, exec .rotorStart s = .next t ∧ t.get R.ROTOR_CMD_STAT_RESULT = 2 ∧ t.rot = s.rot ∧
        (s.advRead = s → s.wordsKept t [R.ROTOR_CMD_STAT_RESULT.addr] ∧ t = { s with regs := t.regs })) ∧
      (s.rot.st = .off → s.rotNotReady = false → s.advRead = s → ∃ t, exec .rotorStart s = .next t ∧ t.get R.ROTOR_CMD_STAT_RESULT = 0 ∧ t.rot.st = .spinCheck ∧ t.rot.rev = s.flag R.ROTOR_SPD_CMD_DIR ∧ t.rot.gates = s.rot.gates ∧
        (s.get R.ROTOR_CMD_SRC_SRC = 0 → t.rot.target = s.get R.ROTOR_SPD_CMD_SPEED) ∧ t.event .rotor 0 1 = true ∧ s.wordsKept t [R.ROTOR_CMD_STAT_RESULT.addr, evtAddr .rotor 0] ∧ t = { s with regs := t.regs, pins := t.pins, rot := t.rot }) ∧
      (s.rot.st = .coast → s.rotNotReady = false → s.advRead = s → s.glintOk = false → s.bemfHigh = false → s.rot.chopPend = false → ∃ t, exec .rotorStart s = .next t ∧ t.get R.ROTOR_CMD_STAT_RESULT = 0 ∧ t.rot.st = .catch_ ∧ t.rot.rev = s.flag R.ROTOR_SPD_CMD_DIR ∧
        t.rot.gates.allOff = true ∧ t.rot.rcOk = 0 ∧ t.rot.step.edges = 0 ∧ t.event .rotor 0 1 = true ∧ t = { s with regs := t.regs, pins := t.pins, rot := t.rot }) ∧
      (s.rot.st = .step ∨ s.rot.st = .flux → ∃ t, exec .rotorStop s = .next t ∧ t.get R.ROTOR_CMD_STAT_RESULT = 0 ∧ s.wordsKept t [R.ROTOR_CMD_STAT_RESULT.addr] ∧ t = { s with regs := t.regs, rot := { s.rot with target := 0 } }) ∧
      (s.rot.st = .spinCheck ∨ s.rot.st = .align ∨ s.rot.st = .ramp → ∃ t, exec .rotorStop s = .next t ∧ t.get R.ROTOR_CMD_STAT_RESULT = 0 ∧ t.rot.target = 0 ∧ t.event .rotor 0 1 = true ∧
        (s.bemfHigh = false → t.rot.st = .off ∧ t.rot.gates.allOff = true) ∧ (s.bemfHigh = true → t.rot.st = .asc) ∧ s.wordsKept t [R.ROTOR_CMD_STAT_RESULT.addr, evtAddr .rotor 0] ∧ t = { s with regs := t.regs, pins := t.pins, rot := t.rot }) ∧
      (s.rot.st ∉ [RotSt.off, .tripped, .asc] → s.rot.zeroN ≠ 0 → s.rot.after = .lossSync → ∃ t, exec .rotorCoast s = .next t ∧ t.get R.ROTOR_CMD_STAT_RESULT = 0 ∧
        s.wordsKept t [R.ROTOR_CMD_STAT_RESULT.addr] ∧ t = { s with regs := t.regs, rot := { s.rot with pendOff := true } }) ∧
      (s.rot.st ∉ [RotSt.off, .tripped, .asc] → s.rot.zeroN = 0 ∨ s.rot.after ≠ .lossSync → s.rot.ovHard = false → s.pins.rotOc = false → ∃ t, exec .rotorCoast s = .next t ∧ t.get R.ROTOR_CMD_STAT_RESULT = 0 ∧ t.rot.target = s.rot.target ∧
        (s.get R.ROTOR_ASC_MIN_SPEED < s.speedAbs ∨ s.bemfHigh = true → t.rot.st = .asc ∧ [t.rot.gates.u, t.rot.gates.v, t.rot.gates.w].all (fun g => !g.hi && g.want = .low) = true) ∧
        (s.speedAbs ≤ s.get R.ROTOR_ASC_MIN_SPEED → s.bemfHigh = false → t.rot.st = .coast ∧ t.rot.gates.allOff = true) ∧ s.wordsKept t [R.ROTOR_CMD_STAT_RESULT.addr, evtAddr .rotor 0] ∧ t = { s with regs := t.regs, pins := t.pins, rot := t.rot }) ∧
      (s.rot.st = .holdup ∨ (s.rot.st = .flux ∧ s.rot.zeroTq = true) → ∃ t, exec .rotorRun s = .next t ∧ t.get R.ROTOR_CMD_STAT_RESULT = 0 ∧ t.rot = { s.rot with st := .flux, zeroTq := false, obs := { s.rot.obs with integ := 0 }, step := { s.rot.step with speedN := if s.rot.st = .holdup then s.rot.obs.speedN else s.rot.step.speedN } } ∧
        s.wordsKept t [R.ROTOR_CMD_STAT_RESULT.addr, evtAddr .rotor 0] ∧ t = { s with regs := t.regs, pins := t.pins, rot := t.rot }) ∧
      (s.rot.st = .tripped → s.pins.rotOc = false → ∃ t, exec .rotorClear s = .next t ∧ t.get R.ROTOR_CMD_STAT_RESULT = 0 ∧ t.event .rotor 0 1 = true ∧
        (s.pins.chopFb ≠ s.rot.chop → t.rot = { s.rot with st := .off, zeroPf := false, zeroN := 0, after := .none, pendOff := false, obs := { s.rot.obs with speedN := s.estN }, step := { s.rot.step with speedN := s.estN } }) ∧
        (s.pins.chopFb = s.rot.chop → t.rot = { s.rot with st := .off, zeroPf := false, zeroN := 0, after := .none, pendOff := false, chopFlt := false, chopPend := false, zeroTq := false, obs := { s.rot.obs with speedN := s.estN }, step := { s.rot.step with speedN := s.estN } }) ∧
        s.wordsKept t [R.ROTOR_CMD_STAT_RESULT.addr, evtAddr .rotor 0] ∧ t = { s with regs := t.regs, pins := t.pins, rot := t.rot }) ∧
      (s.rot.st = .tripped → s.pins.rotOc = true → ∃ t, exec .rotorClear s = .next t ∧ t.get R.ROTOR_CMD_STAT_RESULT = 0 ∧ t.rot.st = .tripped ∧ t.rot.gates.allOff = true ∧ t.event .rotor 0 2 = true))) ∧
  (∀ (s : State) (w : Word), s.portTakes R.ROTOR_CTRL_ENABLE.addr →
    (w.getLsbD 0 = true → s.flag R.ROTOR_CTRL_ENABLE = false → s.advRead = s → ∃ t, exec (.rotorEnable w) s = .next t ∧ t.flag R.ROTOR_CTRL_ENABLE = !s.rotNotReady ∧ t.get R.ROTOR_CMD_STAT_RESULT = (if s.rotNotReady then 2 else 0) ∧
      t.flag R.ROTOR_CTRL_FLUX_EN = w.getLsbD 8 ∧ t.flag R.ROTOR_CTRL_HOLDUP_EN = w.getLsbD 9 ∧ t.flag R.ROTOR_CTRL_OC_AUTO = w.getLsbD 10 ∧ s.wordsKept t [R.ROTOR_CTRL_ENABLE.addr, R.ROTOR_CMD_STAT_RESULT.addr] ∧ t = { s with regs := t.regs }) ∧
    (w.getLsbD 0 = false → s.rot.st = .off ∨ s.rot.st = .tripped → ∃ t, exec (.rotorEnable w) s = .next t ∧ t.flag R.ROTOR_CTRL_ENABLE = false ∧ s.wordsKept t [R.ROTOR_CTRL_ENABLE.addr] ∧
      t = { s with regs := t.regs, rot := { s.rot with chop := false, chopAt := if s.rot.chop then s.cyc else s.rot.chopAt, pendOff := s.rot.pendOff || s.rot.st = .tripped } })) ∧
  (∀ (s : State) (w : Word), s.portTakes R.ROTOR_SPD_CMD_SPEED.addr → s.get R.ROTOR_CMD_SRC_SRC = 0 →
    (w.getLsbD 31 = s.flag R.ROTOR_SPD_CMD_DIR → ∃ t, exec (.spdCmdWrite w) s = .next t ∧ t.get R.ROTOR_SPD_CMD_SPEED = w.toNat % 2 ^ 24 ∧ s.wordsKept t [R.ROTOR_SPD_CMD_SPEED.addr] ∧ t = { s with regs := t.regs, rot := { s.rot with target := w.toNat % 2 ^ 24 } }) ∧
    (w.getLsbD 31 ≠ s.flag R.ROTOR_SPD_CMD_DIR → s.rot.st ∈ [RotSt.step, .flux, .holdup, .catch_, .asc] → s.get R.ROTOR_REV_THRESH_SPEED < s.speedAbs → ∃ t, exec (.spdCmdWrite w) s = .next t ∧ t.event .rotor 0 9 = true ∧
      t.get R.ROTOR_SPD_CMD_SPEED = w.toNat % 2 ^ 24 ∧ t.flag R.ROTOR_SPD_CMD_DIR = s.flag R.ROTOR_SPD_CMD_DIR ∧ s.wordsKept t [R.ROTOR_SPD_CMD_SPEED.addr, evtAddr .rotor 0] ∧ t = { s with regs := t.regs, pins := t.pins, rot := { s.rot with target := w.toNat % 2 ^ 24 } }) ∧
    (w.getLsbD 31 ≠ s.flag R.ROTOR_SPD_CMD_DIR → s.rot.st ∉ [RotSt.step, .flux, .holdup, .catch_, .asc] → ∃ t, exec (.spdCmdWrite w) s = .next t ∧ t.flag R.ROTOR_SPD_CMD_DIR = w.getLsbD 31 ∧
      s.wordsKept t [R.ROTOR_SPD_CMD_SPEED.addr] ∧ t = { s with regs := t.regs, rot := { s.rot with target := w.toNat % 2 ^ 24 } }) ∧
    (w.getLsbD 31 ≠ s.flag R.ROTOR_SPD_CMD_DIR → s.rot.st = .step ∨ s.rot.st = .flux → s.speedAbs ≤ s.get R.ROTOR_REV_THRESH_SPEED → s.rot.ovHard = false → ∃ t, exec (.spdCmdWrite w) s = .next t ∧ t.flag R.ROTOR_SPD_CMD_DIR = w.getLsbD 31 ∧
      (w.toNat % 2 ^ 24 ≠ 0 → t.rot.st = .align ∧ t.rot.rev = w.getLsbD 31 ∧ t.rot.step.sector = 0) ∧ s.wordsKept t [R.ROTOR_SPD_CMD_SPEED.addr, evtAddr .rotor 0])) ∧
  (∀ s : State,
    (s.gen.rotor = true → s.cp.rst ≠ .cold → s.pins.rotOc = false ∨ s.rot.st ≠ .tripped → ∃ t, exec (.ocTrip true) s = .next t ∧ t.rot.st = .tripped ∧ t.rot.gates.allOff = true ∧ t.pins.rotOc = true ∧ t.event .rotor 0 2 = true ∧ t.rot.chop = s.rot.chop ∧
      (s.srcPresent 6 = true → t.flt.inflight = s.flt.inflight ++ [⟨6, 10#32, s.cyc, false⟩]) ∧ s.wordsKept t [evtAddr .rotor 0, R.ROTOR_TRIP_CNT_OC.addr] ∧ t = { s with regs := t.regs, pins := t.pins, rot := t.rot, flt := t.flt }) ∧
    (exec (.ocTrip false) s = .next { s with pins := { s.pins with rotOc := false } }) ∧
    (s.pins.rotOc = true ∨ s.rot.st ≠ .tripped ∨ s.flag R.ROTOR_CTRL_OC_AUTO = false → exec .ocHoldExpire s = .next s) ∧
    (s.pins.rotOc = false → s.rot.st = .tripped → s.flag R.ROTOR_CTRL_OC_AUTO = true → s.grave = false → s.rot.pendOff = false → s.glintOk = false → s.bemfHigh = false → s.rot.chopPend = false → ∃ t, exec .ocHoldExpire s = .next t ∧ t.rot.st = .catch_ ∧
      t.rot.gates.allOff = true ∧ t.rot.rcOk = 0 ∧ t.event .rotor 0 1 = true ∧ s.wordsKept t [evtAddr .rotor 0] ∧ t = { s with regs := t.regs, pins := t.pins, rot := t.rot }) ∧
    (s.pins.rotOc = false → s.rot.st = .tripped → s.flag R.ROTOR_CTRL_OC_AUTO = true → s.rot.pendOff = true → ∃ t, exec .ocHoldExpire s = .next t ∧ (t.rot.st = .asc ∨ (t.rot.st = .coast ∧ t.rot.gates.allOff = true)) ∧
      t.rot.pendOff = false ∧ t.event .rotor 0 1 = true ∧ s.wordsKept t [evtAddr .rotor 0] ∧ t = { s with regs := t.regs, pins := t.pins, rot := t.rot }) ∧
    (s.rot.st ≠ .coast → exec .coastTimeout s = .next s) ∧
    (s.rot.st = .coast → ∃ t, exec .coastTimeout s = .next t ∧ t.rot = { s.rot with st := .off, zeroPf := false, zeroN := 0, after := .none, pendOff := false, obs := { s.rot.obs with speedN := s.rot.step.speedN } } ∧ t.event .rotor 0 1 = true ∧ s.wordsKept t [evtAddr .rotor 0] ∧
      t = { s with regs := t.regs, pins := t.pins, rot := t.rot }) ∧
    (s.rot.st ≠ .asc ∨ (s.glintOk = true ∧ (s.get R.ROTOR_ASC_MIN_SPEED ≤ s.glintSpeed ∨ s.bemfHigh = true)) → exec .ascExit s = .next s) ∧
    (s.rot.st = .asc → (s.glintOk = true → s.glintSpeed < s.get R.ROTOR_ASC_MIN_SPEED ∧ s.bemfHigh = false) → ∃ t, exec .ascExit s = .next t ∧ t.rot.st = .coast ∧ t.rot.gates.allOff = true ∧ t.event .rotor 0 1 = true ∧ s.wordsKept t [evtAddr .rotor 0] ∧
      t = { s with regs := t.regs, pins := t.pins, rot := t.rot }) ∧
    (s.rot.st = .holdup ∨ s.get R.ROTOR_UV_LIM ≤ s.rot.vdc → exec .undervolt s = .next s) ∧
    (s.rot.st ≠ .holdup → s.rot.vdc < s.get R.ROTOR_UV_LIM → ∃ t, exec .undervolt s = .next t ∧ t.get R.ROTOR_STATUS_LAST_FAIL = 4 ∧ t.event .rotor 0 12 = true ∧ (s.rot.st ∈ [RotSt.off, .asc] → t.rot = s.rot) ∧
      (s.rot.st = .tripped ∨ (s.rot.st ∉ [RotSt.off, .asc] ∧ s.rot.zeroN ≠ 0 ∧ s.rot.after = .lossSync) → t.rot = { s.rot with pendOff := true }) ∧
      (s.rot.st ∉ [RotSt.off, .tripped, .asc] → s.rot.zeroN = 0 ∨ s.rot.after ≠ .lossSync → t.rot.st = .asc ∨ (t.rot.st = .coast ∧ t.rot.gates.allOff = true)) ∧
      (s.srcPresent 13 = true → t.flt.inflight = s.flt.inflight ++ [⟨13, BitVec.ofNat 32 t.rot.st.code, s.cyc, false⟩]) ∧ s.wordsKept t [evtAddr .rotor 0, R.ROTOR_STATUS_LAST_FAIL.addr] ∧ t = { s with regs := t.regs, pins := t.pins, rot := t.rot, flt := t.flt }))

/-- The events of start-up and step mode: spin check, align, ramp, crossing, commutation and PWM each move the drive as its state
asks; a comparator edge that is not counted, or lies in the blanking interval, changes its pin alone. A current sample above
I_LIM within the on-time ends it in STEP, ALIGN and RAMP, and joins the period's samples in FLUX. A link sample sets the clamp
and the chopper, and at OV.HARD turns all gates and the chopper off, raises OV_HARD and enters Grave. Analog samples, levels and
lost edges of the speed command set the target. A chopper fault that the state shows latches, turns the chopper off, raises its
event and gives ASC at speed with small currents, else zero torque; while TRIPPED it waits. A re-catch timeout fails the attempt
and begins the next, and the third failure gives safe-off. Completion (exec answers next with the form's own effect, from these
conditions alone) is stated for: zeroCrossing, commutate, ishSample, vdcSample, acmdSample, rotCmdEdge, cmdLost, chopFault,
spinCheckEnd, alignEnd, rampEnd, recatchTimeout, pwmPeriod, openLoopCommutation. -/
def Obligations.StepModeSamplesAndCrossings : Prop :=
  (∀ s : State,
    (s.rot.st = .spinCheck → s.rot.step.edges < 2 → s.rot.step.sawGlint = false → ∃ t, exec .spinCheckEnd s = .next t ∧ t.rot.st = .align ∧ t.rot.rev = s.rot.rev ∧ t.rot.step.duty = s.get R.ROTOR_ALIGN_DUTY ∧ t.rot.step.sector = 0 ∧
      t.event .rotor 0 1 = true ∧ s.wordsKept t [evtAddr .rotor 0] ∧ t = { s with regs := t.regs, pins := t.pins, rot := t.rot }) ∧
    (s.rot.st = .spinCheck → 2 ≤ s.rot.step.edges → s.get R.ROTOR_REV_THRESH_SPEED < s.speedAbs → s.rot.step.against = true → s.bemfHigh = false → ∃ t, exec .spinCheckEnd s = .next t ∧ t.rot.st = .off ∧ t.rot.gates.allOff = true ∧ t.get R.ROTOR_STATUS_LAST_FAIL = 1 ∧
      t.event .rotor 0 0 = true ∧ s.wordsKept t [evtAddr .rotor 0, R.ROTOR_STATUS_LAST_FAIL.addr] ∧ t = { s with regs := t.regs, pins := t.pins, rot := t.rot, flt := t.flt }) ∧
    (s.rot.st = .align → ∃ t, exec .alignEnd s = .next t ∧ t.rot.st = .ramp ∧ t.rot.step.sector = s.nextSector ∧ t.rot.step.duty = s.get R.ROTOR_RAMP_T_DUTY ∧ t.rot.step.rampT0 = s.cyc ∧ t.event .rotor 0 1 = true ∧ s.wordsKept t [evtAddr .rotor 0] ∧
      t = { s with regs := t.regs, pins := t.pins, rot := t.rot }) ∧
    (s.rot.st = .ramp → s.get R.ROTOR_ZC_TRIES > s.rot.step.tries + 1 → ∃ t, exec .rampEnd s = .next t ∧ t.rot.st = .align ∧ t.rot.step.tries = s.rot.step.tries + 1 ∧ t.rot.step.alignAt = s.cyc + s.get R.ROTOR_ZC_SPIN_WIN * s.gen.mhz * 1000 ∧ s.wordsKept t [evtAddr .rotor 0] ∧ t = { s with regs := t.regs, pins := t.pins, rot := t.rot }) ∧
    (s.rot.st = .ramp → s.get R.ROTOR_ZC_TRIES ≤ s.rot.step.tries + 1 → s.bemfHigh = false → ∃ t, exec .rampEnd s = .next t ∧ t.rot.st = .off ∧ t.rot.gates.allOff = true ∧ t.get R.ROTOR_STATUS_LAST_FAIL = 2 ∧ t.event .rotor 0 0 = true ∧
      s.wordsKept t [evtAddr .rotor 0, R.ROTOR_STATUS_LAST_FAIL.addr] ∧ t = { s with regs := t.regs, pins := t.pins, rot := t.rot, flt := t.flt }) ∧
    (s.rot.st = .ramp → ∃ t, exec .openLoopCommutation s = .next t ∧ t.rot.step = { s.rot.step.cut s.cyc with sector := s.nextSector, commAt := s.cyc, run := if s.rot.step.inWin then s.rot.step.run else 0, inWin := false, speedN := s.rampMilliHz * 1000000 / s.pp } ∧ t.rot.st = .ramp ∧ t = { s with rot := t.rot }) ∧
    (s.rot.st = .step → s.rot.step.delay.isSome = true → s.rot.step.toFlux = false → ∃ t, exec .commutate s = .next t ∧ t.rot = { s.rot with gates := t.rot.gates, step := { s.rot.step.cut s.cyc with sector := s.nextSector, commAt := s.cyc, delay := none, inWin := false } } ∧
      t = { s with rot := t.rot }) ∧
    (s.rot.st = .step → s.rot.step.delay.isSome = true → s.rot.step.toFlux = true → ∃ t, exec .commutate s = .next t ∧ t.rot.st = .flux ∧ t.rot.obs.elec = s.entryElec s.nextSector s.rot.step.adv ∧ t.rot.obs.speedN = s.rot.step.speedN ∧ t.rot.obs.integ = 0 ∧
      t.event .rotor 0 1 = true ∧ s.wordsKept t [evtAddr .rotor 0] ∧ t = { s with regs := t.regs, pins := t.pins, rot := t.rot }) ∧
    (s.rot.st = .align ∨ s.rot.st = .ramp → ∃ t, exec .pwmPeriod s = .next t ∧ t.rot.step = s.rot.step.turnOn s.cyc ∧ t.rot.step.onTime = decide (s.rot.step.duty ≠ 0) ∧ t.rot.step.onAt = s.cyc ∧ t = { s with rot := { s.rot with step := t.rot.step, gates := t.rot.gates } }) ∧
    (s.rot.st = .step → ∃ t, exec .pwmPeriod s = .next t ∧ t.rot.step.duty ≤ 65535 ∧ t.rot.step.onTime = decide (t.rot.step.duty ≠ 0) ∧ t.rot.step.sector = s.rot.step.sector ∧ t = { s with rot := { s.rot with step := t.rot.step, gates := t.rot.gates } })) ∧
  (∀ (s : State) (p : Fin 3) (l : Bool),
    (s.cp.rst ≠ .cold → s.rot.st = .step → s.blanked s.zcFirst = false → (s.rot.step.sector + p.val) % 3 = 2 → l = ((s.rot.step.sector % 2 = 1) ≠ s.rot.rev) → s.rot.step.sector < 6 → s.rot.step.lastZc.isSome = true → ∃ t, exec (.zeroCrossing p l true) s = .next t ∧ t.rot.step.ts = s.zcDate - s.rot.step.lastZc.getD 0 ∧
      t.rot.step.lastZc = some s.zcDate ∧ t.rot.step.speedN = s.tsSpeed t.rot.step.ts ∧ t.rot.step.delay.isSome = true ∧ t.rot.step.sector = s.rot.step.sector ∧ t.pins.rotZc.getLsbD p = l ∧ t.rot.gates = s.rot.gates ∧ t.rot.st = .step) ∧
    (s.cp.rst ≠ .cold → s.rot.st = .spinCheck ∨ s.rot.st = .coast → ∃ t, exec (.zeroCrossing p l true) s = .next t ∧ t.rot.step.edges = s.rot.step.edges + 1 ∧ t.rot.step.lastZc = some s.zcDate ∧ t.rot.step.lastPhase = edgeIndex p l ∧ t.pins.rotZc.getLsbD p = l ∧
      t.rot.gates = s.rot.gates ∧ t = { s with pins := t.pins, rot := t.rot }) ∧
    (∀ c : Bool, c = false ∨ s.blanked s.zcFirst = true → ∃ t, exec (.zeroCrossing p l c) s = .next t ∧ t.pins.rotZc.getLsbD p = l ∧ (∀ q : Fin 3, q ≠ p → t.pins.rotZc.getLsbD q = s.pins.rotZc.getLsbD q) ∧ t = { s with pins := { s.pins with rotZc := t.pins.rotZc } })) ∧
  (∀ (s : State) (v : BitVec 12),
    (s.rot.st ∈ [RotSt.step, .align, .ramp] → s.rot.step.onTime = true → s.rot.step.onAt ≤ s.cyc - s.get R.ROTOR_ADC_LAT_CYC → ∀ i : Int, i = ((v.toNat : Int) - s.get R.ROTOR_ISH_CAL_OFS) * s.get R.ROTOR_ISH_CAL_GAIN / 4096 →
      ∃ t, exec (.ishSample v) s = .next t ∧ t.rot.step = (if i ≤ s.get R.ROTOR_I_LIM_I then s.rot.step else s.rot.step.turnOff s.cyc) ∧
        t.rot.shunt = (if s.stepSampled (s.cyc - s.get R.ROTOR_ADC_LAT_CYC) then { s.rot.shunt with samples := s.rot.shunt.samples ++ [(i, s.cyc - s.get R.ROTOR_ADC_LAT_CYC)] } else s.rot.shunt) ∧
        t = { s with rot := { s.rot with step := t.rot.step, gates := t.rot.gates, shunt := t.rot.shunt } }) ∧
    (s.rot.st ∈ [RotSt.flux, .holdup, .catch_] → ∃ t, exec (.ishSample v) s = .next t ∧
      t.rot.shunt.samples = s.rot.shunt.samples ++ [(((v.toNat : Int) - s.get R.ROTOR_ISH_CAL_OFS) * s.get R.ROTOR_ISH_CAL_GAIN / 4096, s.cyc - s.get R.ROTOR_ADC_LAT_CYC)] ∧ t = { s with rot := { s.rot with shunt := { s.rot.shunt with samples := t.rot.shunt.samples } } }) ∧
    (∀ x, x = s.vdcOf v → s.gen.rotor = true → s.cp.rst ≠ .cold →
      (x < s.get R.ROTOR_OV_HARD → ∃ t, exec (.vdcSample v) s = .next t ∧ t.rot.vdc = x ∧ (s.get R.ROTOR_OV_SOFT ≤ x → t.rot.softClamp = true) ∧ (x * 100 ≤ s.get R.ROTOR_OV_SOFT * 98 → x < s.get R.ROTOR_OV_SOFT → t.rot.softClamp = false) ∧
        (s.flag R.ROTOR_CTRL_ENABLE = false ∨ s.rot.chopFlt = true → t.rot.chop = false) ∧ (s.flag R.ROTOR_CTRL_ENABLE = true → s.rot.chopFlt = false → s.get R.ROTOR_CHOP_V_ON ≤ x → t.rot.chop = true) ∧
        (x ≤ s.get R.ROTOR_CHOP_V_OFF → x < s.get R.ROTOR_CHOP_V_ON → t.rot.chop = false) ∧ t = { s with rot := { s.rot with vdc := x, softClamp := t.rot.softClamp, chop := t.rot.chop, chopV0 := t.rot.chopV0, chopAt := if t.rot.chop = s.rot.chop then s.rot.chopAt else s.cyc } }) ∧
      (s.get R.ROTOR_OV_HARD ≤ x → ∃ t, exec (.vdcSample v) s = .next t ∧ t.rot.vdc = x ∧ t.rot.gates.allOff = true ∧ t.rot.chop = false ∧ t.rot.ovHard = true ∧ t.event .rotor 0 4 = true ∧ t.grave = true)) ∧
    (s.get R.ROTOR_CMD_SRC_SRC = 4 → exec (.acmdSample v) s = .next { s with rot := { s.rot with target := (v.toNat - s.get R.ROTOR_ACMD_CAL_OFS) * s.get R.ROTOR_CMD_SCALE_SCALE / 4096 } }) ∧
    (s.get R.ROTOR_CMD_SRC_SRC ≠ 4 → exec (.acmdSample v) s = .next s)) ∧
  (∀ (s : State) (l : Bool),
    (s.get R.ROTOR_CMD_SRC_SRC = 1 → ∃ t, exec (.rotCmdEdge l) s = .next t ∧ t.pins.rotCmd = l ∧ t.rot.target = (if l then s.get R.ROTOR_SPD_CMD_SPEED else 0) ∧ t = { s with pins := t.pins, rot := t.rot }) ∧
    (s.get R.ROTOR_CMD_SRC_SRC = 0 ∨ 4 ≤ s.get R.ROTOR_CMD_SRC_SRC → ∃ t, exec (.rotCmdEdge l) s = .next t ∧ t.pins.rotCmd = l ∧ t.rot.target = s.rot.target ∧ t = { s with pins := t.pins, rot := t.rot }) ∧
    (∀ t0 h, s.get R.ROTOR_CMD_SRC_SRC = 2 → s.get R.ROTOR_CMD_SRC_AVG = 0 → s.rot.cmdWait = 0 → s.rot.cmdRise.head? = some t0 → s.rot.cmdHigh.head? = some h → t0 < s.cyc → l = true → ∃ t, exec (.rotCmdEdge l) s = .next t ∧
      t.rot.target = s.gen.mhz * 1000000 * s.get R.ROTOR_CMD_SCALE_SCALE / (1024 * (s.cyc - t0)) ∧ t.rot.gates = s.rot.gates) ∧
    (∀ t0 h, s.get R.ROTOR_CMD_SRC_SRC = 3 → s.get R.ROTOR_CMD_SRC_AVG = 0 → s.rot.cmdWait = 0 → s.rot.cmdRise.head? = some t0 → s.rot.cmdHigh.head? = some h → t0 < s.cyc → l = true → ∃ t, exec (.rotCmdEdge l) s = .next t ∧
      t.rot.target = h * s.get R.ROTOR_CMD_SCALE_SCALE / (s.cyc - t0) ∧ t.rot.gates = s.rot.gates) ∧
    (s.get R.ROTOR_CMD_SRC_SRC = 2 ∨ s.get R.ROTOR_CMD_SRC_SRC = 3 → ∃ t, exec .cmdLost s = .next t ∧ t.rot = { s.rot with target := 0, cmdRise := [], cmdHigh := [], cmdWait := 2 } ∧ t.event .rotor 0 8 = true ∧
      (s.srcPresent 12 = true → t.flt.inflight = s.flt.inflight ++ [⟨12, BitVec.ofNat 32 s.rot.st.code, s.cyc, false⟩]) ∧ s.wordsKept t [evtAddr .rotor 0] ∧ t = { s with regs := t.regs, pins := t.pins, rot := t.rot, flt := t.flt }) ∧
    (∀ u, u = s.chopLevel l → u.pins = { s.pins with chopFb := l } ∧ (s.pins.chopFb = l → u = s) ∧ (s.pins.chopFb ≠ l → u = { s with pins := u.pins, rot := { s.rot with fbAt := s.cyc } }) ∧
      exec (.chopFault l false) s = .next u ∧ (u.chopBad = false → exec (.chopFault l true) s = .next u)) ∧
    (∀ r, r = { (s.chopLevel l).rot with chopFlt := true, chop := false, chopAt := if s.rot.chop then s.cyc else s.rot.chopAt } → (s.chopLevel l).chopBad = true → s.gen.rotor = true → s.cp.rst ≠ .cold → s.rot.chopFlt = false → ∃ t, exec (.chopFault l true) s = .next t ∧ t.pins.chopFb = l ∧ t.rot.chopFlt = true ∧ t.rot.chop = false ∧ t.event .rotor 0 3 = true ∧
      (s.srcPresent 7 = true → t.flt.inflight = s.flt.inflight ++ [⟨7, BitVec.ofNat 32 s.rot.st.code, s.cyc, false⟩]) ∧
      (s.rot.ovHard = true ∨ s.grave = true → t.rot = r) ∧
      (s.rot.ovHard = false → s.grave = false → s.rot.st = .tripped → t.rot = { r with chopPend := true }) ∧
      (∀ small, small = [0, 1, 2].all (fun p => (s.iph p).natAbs ≤ s.get R.ROTOR_ASC_CFG_ILIM) → s.rot.st ≠ .tripped → s.rot.ovHard = false → s.grave = false →
        (s.speedAbs ≤ s.get R.ROTOR_ASC_MIN_SPEED ∨ small = false → t.rot = { r with zeroTq := true }) ∧ (s.get R.ROTOR_ASC_MIN_SPEED < s.speedAbs → small = true → t.rot.st = .asc)) ∧
      s.wordsKept t [evtAddr .rotor 0, R.ROTOR_TRIP_CNT_CHOP.addr] ∧ t = { s with regs := t.regs, pins := t.pins, rot := t.rot, flt := t.flt })) ∧
  (∀ s : State, s.rot.st = .catch_ → s.rot.rcFailed = true → s.rot.rcGlint = false → s.glintOk = false → s.bemfHigh = false → ∃ t, exec .recatchTimeout s = .next t ∧ t.rot.rcFails = s.rot.rcFails ∧ t.rot.rcFailed = false ∧ t.rot.rcOk = 0 ∧ t.rot.gates.allOff = true ∧ t = { s with rot := t.rot }) ∧
  (∀ s : State, s.rot.st = .catch_ → s.rot.rcFailed = false →
    (s.rot.rcFails < 2 → s.rot.rcGlint = false → s.glintOk = false → s.bemfHigh = false → ∃ t, exec .recatchTimeout s = .next t ∧ t.rot.st = .catch_ ∧ t.rot.rcFails = s.rot.rcFails + 1 ∧ t.rot.rcOk = 0 ∧ t.rot.gates.allOff = true ∧ s.wordsKept t [] ∧ t = { s with rot := t.rot, flt := t.flt }) ∧
    (2 ≤ s.rot.rcFails → ∃ t, exec .recatchTimeout s = .next t ∧ t.rot.rcFails = 3 ∧ t.get R.ROTOR_STATUS_LAST_FAIL = 3 ∧ t.event .rotor 0 7 = true ∧ (t.rot.st = .asc ∨ (t.rot.st = .coast ∧ t.rot.gates.allOff = true)) ∧
      s.wordsKept t [evtAddr .rotor 0, R.ROTOR_STATUS_LAST_FAIL.addr] ∧ t = { s with regs := t.regs, pins := t.pins, rot := t.rot, flt := t.flt }))

/-- Outside FLUX, HOLDUP, STEP, RAMP and CATCH a decision changes nothing. While zero-torque periods remain, a decision in FLUX
counts one and drives the zero vector reached with fewer leg changes. With u the state after reconstruction, observer, reference
ramp and fusion: an implausible observer raises LOSS_SYNC, counts it, asks for 4 periods of zero torque and drives the zero
vector; a plausible one in FLUX at or above FLUX_OFF moves the comparators by R344 and takes the vector of the switching table,
which keeps the speed command and the memory ports as they were. In STEP a plausible observer whose reference is not 0 leaves
the state STEP; with the reference 0 the drive coasts. In RAMP the observer runs and the drive goes on. Completion (exec answers
next with the form's own effect, from these conditions alone) is stated for: fluxDecision. -/
def Obligations.DecisionsChooseTheVector : Prop :=
  (∀ s : State, s.rot.st ∉ [RotSt.flux, .holdup, .step, .ramp, .catch_] → exec .fluxDecision s = .next s) ∧
  (∀ s : State, s.rot.st = .flux ∨ s.rot.st = .holdup → 1 < s.rot.zeroN → ∃ t, exec .fluxDecision s = .next t ∧ t.rot.zeroN = s.rot.zeroN - 1 ∧ t.rot.vec = zeroVec s.rot.vec ∧ t.rot.st = s.rot.st ∧ t.rot.obs = s.rot.obs ∧ t.ang = s.ang) ∧
  (∀ s : State, s.rot.st = .flux ∨ s.rot.st = .holdup → s.rot.zeroN = 0 → ∀ w, w = s.reconstruct.observe.syncCount.rampRef → ∀ u, u = w.fuse w.rot.shunt.len →
    (u.implausible s.rot.obs.speedN = true → ∃ t, exec .fluxDecision s = .next t ∧ t.event .rotor 0 5 = true ∧ t.rot.zeroN = 4 ∧ t.rot.after = .lossSync ∧ t.rot.obs.lost = true ∧ t.rot.obs.speedN = s.rot.obs.speedN ∧ t.rot.vec = zeroVec s.rot.vec ∧ t.rot.st = s.rot.st ∧
      (s.rot.st = .holdup → t.event .rotor 0 11 = true) ∧ t.ang = u.ang) ∧
    (∀ tref, tref = (u.torqueRef).1 → ∀ v, v = u.rot.obs → u.implausible s.rot.obs.speedN = false → s.rot.st = .flux → s.get R.ROTOR_FLUX_SPD_OFF * 1000 ≤ u.speedAbs → ∃ t, exec .fluxDecision s = .next t ∧
      t.rot.obs.tqCmp = tqComp v.tqCmp (tref - (if s.rot.rev then -v.torque else v.torque)) (s.get R.ROTOR_BANDS_TQ) ∧
      t.rot.obs.flCmp = flComp v.flCmp ((s.get R.ROTOR_PSI_NOM_PSI : Int) - (vecLen v.psiA v.psiB / 1000000 : Nat)) (s.get R.ROTOR_BANDS_FLUX) ∧
      t.rot.vec = switchVec s.rot.rev t.rot.obs.flCmp t.rot.obs.tqCmp (fluxSector (vecAngle v.psiA v.psiB)) s.rot.vec ∧ t.rot.st = .flux ∧ t.rot.target = s.rot.target ∧ t.rot.refN = u.rot.refN ∧ t.mp = s.mp ∧ t.chans = s.chans)) ∧
  (∀ s : State, s.rot.st = .step → s.rot.zeroN = 0 → ∀ w, w = (s.stepMap (fun t => t.cut s.cyc)).stepCurrents.observe.syncCount.rampRef → ∀ v, v = w.fuse w.rot.shunt.len →
    ∀ u, u = v.rotMap (fun r => { r with shunt := { r.shunt with t0 := s.cyc, len := s.td }, step := { r.step with cuts := [] } }) → v.implausible s.rot.obs.speedN = false →
    (u.rot.refN ≠ 0 → exec .fluxDecision s = .next u) ∧
    (u.rot.refN = 0 → ∃ t, exec .fluxDecision s = .next t ∧ (u.bemfHigh = true → t.rot.st = .asc) ∧ (u.bemfHigh = false → t.rot.st = .coast ∧ t.rot.gates.allOff = true) ∧ t.event .rotor 0 1 = true)) ∧
  (∀ s : State, s.rot.st = .ramp → s.rot.zeroN = 0 → ∃ t, exec .fluxDecision s = .next t ∧ t.rot.st = .ramp ∧ t.rot.gates = s.rot.gates ∧ t.rot.refN = s.rot.refN ∧ t.rot.step.cuts = [] ∧
    t.rot.shunt.t0 = s.cyc ∧ t.rot.shunt.len = s.td ∧ t = { s with rot := t.rot })

/-- A level of GLINT that is no rising edge, and any mark in OFF or VIRTUAL, moves the inputs alone. In SEARCH only a key mark acts:
θ takes P(0), facet 1 mod N is expected, the state is ACQUIRE. In ACQUIRE, LOCKED and COASTING a mark outside the halo counts as
spurious and leaves the unit alone; one inside, with the key exactly at facet 0, moves θ by the clamped error, advances the
expected facet and writes LAST_ERR; with the key elsewhere, or facet 0 without it outside ACQUIRE, SLIP_CNT counts. Once the
angle has passed the halo, a miss counts, advances the facet, and at MISS_K sends ACQUIRE to SEARCH and LOCKED to COASTING.
COAST_MAX ends COASTING in SEARCH. ENABLE goes to VIRTUAL or SEARCH, is refused where R361 says, and its 0 gives OFF with θ 0;
MODE is kept while enabled. VSTEP sets the rate of VIRTUAL and SEARCH without a jump of θ. Completion (exec answers next with
the form's own effect, from these conditions alone) is stated for: glint, facetMiss, coastMaxExpire, angleEnable, vstepWrite. -/
def Obligations.AngleUnitTracksMarks : Prop :=
  (∀ (s : State) (l key : Bool), ∀ u, u = ({ s with pins := { s.pins with glint := l, glintKey := key } } : State) →
    (l = false ∨ s.pins.glint = true ∨ s.ang.st = .off ∨ s.ang.st = .virtual ∨ (s.ang.st = .search ∧ key = false) → exec (.glint l key) s = .next u) ∧
    (l = true → s.pins.glint = false → key = true → s.ang.st = .search → ∃ t, exec (.glint l key) s = .next t ∧ t.ang.st = .acquire ∧ t.ang.theta = s.facetPos 0 * 2 ^ 32 ∧ t.ang.facet = 1 % s.facets ∧ t.ang.omega = (if s.fusion then s.omegaObs else s.ang.omega) ∧
      t.ang.anyNext = !s.fusion ∧ t.ang.rev = s.ang.rev ∧ t.get R.ANGLE_ACC_CNT_CNT = sat R.ANGLE_ACC_CNT_CNT.max (s.get R.ANGLE_ACC_CNT_CNT + 1) ∧ t.get R.ANGLE_LAST_ERR_ERR = (s.facetPos 0 + 65536 - s.angle) % 65536 ∧
      t.get R.ANGLE_LAST_ERR_FACET = 0 ∧ t.ang.lastKey = some s.cyc ∧ t.rot = s.glintSeen.rot) ∧
    (∀ k, k = s.ang.facet → ∀ e, e = sgn 16 (s.ang.win.1 + 65536 - s.angle) → l = true → s.pins.glint = false → s.ang.st = .acquire ∨ s.ang.st = .locked ∨ s.ang.st = .coasting → s.ang.anyNext = false →
      (s.ang.win.2 < s.markGap.natAbs → ∃ t, exec (.glint l key) s = .next t ∧ t.ang = s.ang ∧ t.event .angle 0 3 = true ∧ t.get R.ANGLE_SPUR_CNT_CNT = sat R.ANGLE_SPUR_CNT_CNT.max (s.get R.ANGLE_SPUR_CNT_CNT + 1) ∧
        (s.srcPresent 16 = true → t.flt.inflight = s.flt.inflight ++ [⟨16, 0#32, s.cyc, false⟩]) ∧ s.wordsKept t [evtAddr .angle 0, R.ANGLE_SPUR_CNT_CNT.addr] ∧ t = { u with regs := t.regs, pins := t.pins, flt := t.flt }) ∧
      (s.markGap.natAbs ≤ s.ang.win.2 → key = decide (k = 0) → ∀ c, c = clampI (-(s.get R.ANGLE_TRACK_SLEW : Int)) (s.get R.ANGLE_TRACK_SLEW) e → ∃ t, exec (.glint l key) s = .next t ∧
        t.ang.theta = (((s.ang.theta : Int) + c * 2 ^ 32) % 2 ^ 48).toNat ∧ t.ang.facet = (k + 1) % s.facets ∧ t.ang.win = (s.expect ((k + 1) % s.facets) (((t.stamp : Int) + (e - c)) % 2 ^ 32).toNat).ang.win ∧ t.ang.missRun = 0 ∧ t.ang.omega = s.rateAt ∧ t.get R.ANGLE_LAST_ERR_ERR = unsgn 16 e ∧ t.get R.ANGLE_LAST_ERR_FACET = k % 64 ∧
        (s.get R.ANGLE_TRACK_SLEW < e.natAbs → t.event .angle 0 6 = true) ∧ t.get R.ANGLE_ACC_CNT_CNT = sat R.ANGLE_ACC_CNT_CNT.max (s.get R.ANGLE_ACC_CNT_CNT + 1) ∧
        (s.ang.st = .locked → t.ang.st = .locked) ∧ (s.ang.accRun + 1 < s.get R.ANGLE_TRACK_ACQ_N → t.ang.st = s.ang.st) ∧
        (max 1 (s.get R.ANGLE_TRACK_ACQ_N) ≤ s.ang.accRun + 1 → t.ang.st = .locked ∧ (s.ang.st ≠ .locked → t.event .angle 0 0 = true)) ∧
        t.rot = s.glintSeen.rot ∧ t.chans = s.chans) ∧
      (s.markGap.natAbs ≤ s.ang.win.2 → key ≠ decide (k = 0) → ∃ t, exec (.glint l key) s = .next t ∧ (key = true ∨ s.ang.st ≠ .acquire → t.get R.ANGLE_SLIP_CNT_CNT = sat R.ANGLE_SLIP_CNT_CNT.max (s.get R.ANGLE_SLIP_CNT_CNT + 1)) ∧
        (key = false → s.ang.st = .acquire → t.get R.ANGLE_SLIP_CNT_CNT = s.get R.ANGLE_SLIP_CNT_CNT) ∧
        (key = true → s.ang.st ≠ .acquire → t.event .angle 0 5 = true) ∧ (key = true → s.ang.st = .acquire → t.ang.theta = s.facetPos 0 * 2 ^ 32 ∧ t.ang.facet = 1 % s.facets) ∧
        (s.ang.st ≠ .acquire ∨ key = false → t.ang.facet = (k + 1) % s.facets)))) ∧
  (∀ s : State,
    (s.ang.anyNext = true ∨ -(s.ang.win.2 : Int) ≤ s.markGap ∨ s.ang.st = .off ∨ s.ang.st = .virtual ∨ s.ang.st = .search → exec .facetMiss s = .next s) ∧
    (s.ang.anyNext = false → s.markGap < -(s.ang.win.2 : Int) → s.ang.st = .acquire ∨ s.ang.st = .locked ∨ s.ang.st = .coasting → ∃ t, exec .facetMiss s = .next t ∧ t.event .angle 0 4 = true ∧ t.get R.ANGLE_MISS_CNT_CNT = sat R.ANGLE_MISS_CNT_CNT.max (s.get R.ANGLE_MISS_CNT_CNT + 1) ∧
      t.ang.facet = (s.ang.facet + 1) % s.facets ∧ t.ang.win = (s.expect ((s.ang.facet + 1) % s.facets) s.ang.win.1).ang.win ∧ t.ang.theta = s.ang.theta ∧ (s.srcPresent 15 = true → t.flt.inflight.take (s.flt.inflight.length + 1) = s.flt.inflight ++ [⟨15, 0#32, s.cyc, false⟩]) ∧
      (s.ang.missRun + 1 < s.get R.ANGLE_TRACK_MISS_K → t.ang.st = s.ang.st ∧ t.ang.omega = s.ang.omega) ∧ (max 1 (s.get R.ANGLE_TRACK_MISS_K) ≤ s.ang.missRun + 1 → (s.ang.st = .acquire → t.ang.st = .search ∧ t.ang.omega = s.get R.ANGLE_VSTEP_RATE ∧ t.event .angle 0 2 = true) ∧
        (s.ang.st ≠ .acquire → t.ang.st = .coasting ∧ t.ang.omega = s.ang.omega)) ∧ s.wordsKept t [evtAddr .angle 0, R.ANGLE_MISS_CNT_CNT.addr] ∧ t = { s with regs := t.regs, pins := t.pins, flt := t.flt, ang := t.ang }) ∧
    (s.ang.st ≠ .coasting → exec .coastMaxExpire s = .next s) ∧
    (s.ang.st = .coasting → ∃ t, exec .coastMaxExpire s = .next t ∧ t.ang = { s.ang with st := .search, omega := s.get R.ANGLE_VSTEP_RATE, missRun := 0, accRun := 0 } ∧ t.event .angle 0 2 = true ∧ (s.srcPresent 18 = true → t.flt.inflight = s.flt.inflight ++ [⟨18, 0#32, s.cyc, false⟩]) ∧
      s.wordsKept t [evtAddr .angle 0] ∧ t = { s with regs := t.regs, pins := t.pins, flt := t.flt, ang := t.ang })) ∧
  (∀ (s : State) (w : Word), s.portTakes R.ANGLE_CTRL_ENABLE.addr → s.flag R.CAL_CTRL_ENABLE = false ∨ strongClass (s.stored 5 (calWord s.ang.slot)) = .clean →
    (w.getLsbD 0 = true → s.flag R.ANGLE_CTRL_ENABLE = false → w.getLsbD 8 = false → ∃ t, exec (.angleEnable w) s = .next t ∧ t.flag R.ANGLE_CTRL_ENABLE = true ∧ t.flag R.ANGLE_CTRL_MODE = false ∧ t.ang.st = .virtual ∧ t.ang.omega = s.get R.ANGLE_VSTEP_RATE ∧ t.ang.theta = s.ang.theta ∧
      s.wordsKept t [R.ANGLE_CTRL_ENABLE.addr] ∧ t = { s with regs := t.regs, ang := t.ang }) ∧
    (w.getLsbD 0 = true → s.flag R.ANGLE_CTRL_ENABLE = false → w.getLsbD 8 = true → s.gen.rotor = true → s.haloFits = true → ∃ t, exec (.angleEnable w) s = .next t ∧ t.flag R.ANGLE_CTRL_ENABLE = true ∧ t.flag R.ANGLE_CTRL_MODE = true ∧ t.ang.st = .search ∧ t.ang.omega = s.get R.ANGLE_VSTEP_RATE ∧
      t.event .angle 0 2 = true ∧ s.wordsKept t [R.ANGLE_CTRL_ENABLE.addr, evtAddr .angle 0] ∧ t = { s with regs := t.regs, pins := t.pins, ang := t.ang }) ∧
    (w.getLsbD 0 = true → s.flag R.ANGLE_CTRL_ENABLE = false → w.getLsbD 8 = true → s.gen.rotor = false ∨ s.haloFits = false → ∃ t, exec (.angleEnable w) s = .next t ∧ t.flag R.ANGLE_CTRL_ENABLE = false ∧ t.event .angle 0 7 = true ∧
      s.wordsKept t [R.ANGLE_CTRL_ENABLE.addr, evtAddr .angle 0] ∧ t = { s with regs := t.regs, pins := t.pins }) ∧
    (w.getLsbD 0 = true → s.flag R.ANGLE_CTRL_ENABLE = true → w.getLsbD 8 ≠ s.flag R.ANGLE_CTRL_MODE → ∃ t, exec (.angleEnable w) s = .next t ∧ t.flag R.ANGLE_CTRL_ENABLE = true ∧ t.flag R.ANGLE_CTRL_MODE = s.flag R.ANGLE_CTRL_MODE ∧ t.event .angle 0 7 = true ∧
      s.wordsKept t [R.ANGLE_CTRL_ENABLE.addr, evtAddr .angle 0] ∧ t = { s with regs := t.regs, pins := t.pins }) ∧
    (w.getLsbD 0 = false → w.getLsbD 8 = s.flag R.ANGLE_CTRL_MODE → ∃ t, exec (.angleEnable w) s = .next t ∧ t.flag R.ANGLE_CTRL_ENABLE = false ∧ t.ang.st = .off ∧ t.ang.theta = 0 ∧ t.ang.rev = 0 ∧ t.ang.omega = 0 ∧ s.wordsKept t [R.ANGLE_CTRL_ENABLE.addr] ∧
      t = { s with regs := t.regs, ang := t.ang })) ∧
  (∀ (s : State) (w : Word), s.portTakes R.ANGLE_VSTEP_RATE.addr → ∃ t, exec (.vstepWrite w) s = .next t ∧ t.get R.ANGLE_VSTEP_RATE = w.toNat ∧ s.wordsKept t [R.ANGLE_VSTEP_RATE.addr] ∧
    t = { s with regs := t.regs, ang := { s.ang with omega := if s.ang.st = .virtual ∨ s.ang.st = .search then w.toNat else s.ang.omega } })

/-- A slot entry with the angle in the slot entered last changes nothing. With the calendar off, an advance by one slot enters it;
if the fixed entry grants MARK, MARK_CNT and MARK follow, once per slot and revolution. A jump forward counts the slots it
passes in SKIP_CNT and raises SKIP. A PHASE write is a forward move up to 2,048 slots and else a backward one, which passes no
slot; the forward move is an advance, in which each slot may raise MARK again. With the calendar on, entering a slot whose word
reads uncorrectable raises CAL_UE and counts it. A CAL.DATA write stores the pair, which reads back, and a read returns it; both
advance ADDR by 2 modulo 4,096. While the port is not ready the read is held. Completion (exec answers next with the form's own
effect, from these conditions alone) is stated for: slotEntry, calDataWrite, calDataRead, phaseWrite. -/
def Obligations.CalendarSlotsAndRegisters : Prop :=
  (∀ (s : State) (n : Nat), n = s.slotNow → ∀ d, d = (n + 4096 - s.ang.slot) % 4096 →
    (d = 0 → exec .slotEntry s = .next s) ∧
    (d ≠ 0 → s.calOn = false → bit (s.granted) 12 = false ∨ (s.ang.rev, n) ∈ s.ang.marked → ∃ t, exec .slotEntry s = .next t ∧ t.ang = { s.ang with slot := n } ∧ (d = 1 → t = { s with ang := t.ang }) ∧
      (d ≠ 1 → t.get R.CAL_SKIP_CNT_CNT = sat R.CAL_SKIP_CNT_CNT.max (s.get R.CAL_SKIP_CNT_CNT + (d - 1)) ∧ t.event .cal 0 3 = true ∧ s.wordsKept t [R.CAL_SKIP_CNT_CNT.addr, evtAddr .cal 0] ∧ t = { s with regs := t.regs, pins := t.pins, ang := t.ang })) ∧
    (d = 1 → s.calOn = false → bit (s.granted) 12 = true → (s.ang.rev, n) ∉ s.ang.marked → ∃ t, exec .slotEntry s = .next t ∧ t.ang.slot = n ∧ (s.ang.rev, n) ∈ t.ang.marked ∧ t.get R.CAL_MARK_CNT_CNT = sat R.CAL_MARK_CNT_CNT.max (s.get R.CAL_MARK_CNT_CNT + 1) ∧
      t.event .cal 0 0 = true ∧ s.wordsKept t [R.CAL_MARK_CNT_CNT.addr, evtAddr .cal 0] ∧ t = { s with regs := t.regs, pins := t.pins, ang := { s.ang with slot := n, marked := t.ang.marked } }) ∧
    (d = 1 → s.calOn = true → s.bad 5 (calWord n) = true → ∃ t, exec .slotEntry s = .next t ∧ t.ang = { s.ang with slot := n } ∧ t.event .cal 0 2 = true ∧ (s.srcPresent 20 = true → ⟨20, 0#32, s.cyc, false⟩ ∈ t.flt.inflight) ∧
      (s.powered 0 = true → t.event .memi 0 1 = true ∧ t.get (R.MEMI_LAST_UE_WADDR 5) = calWord n) ∧ t.granted = 0)) ∧
  (∀ (s : State) (w : Word), s.portTakes R.CAL_PHASE_COUNTS.addr → s.calOn = false → bit (s.get R.CAL_FIXED_ENTRY) 12 = false → ∀ n, n = (s.angle + w.toNat % 65536) % 65536 / 16 → ∀ d, d = (n + 4096 - s.ang.slot) % 4096 →
    ∀ m, m = (if d = 0 ∨ 2048 < d then s.ang.marked else []) → ∃ t, exec (.phaseWrite w) s = .next t ∧ t.get R.CAL_PHASE_COUNTS = w.toNat % 65536 ∧ t.slotNow = n ∧ (s.ang.slot < 4096 → t.ang.slot = n) ∧
      (d ≤ 1 ∨ 2048 < d → s.wordsKept t [R.CAL_PHASE_COUNTS.addr] ∧ t = { s with regs := t.regs, ang := { s.ang with slot := t.ang.slot, marked := m } }) ∧
      (1 < d → d ≤ 2048 → t.get R.CAL_SKIP_CNT_CNT = sat R.CAL_SKIP_CNT_CNT.max (s.get R.CAL_SKIP_CNT_CNT + (d - 1)) ∧ t.event .cal 0 3 = true ∧ s.wordsKept t [R.CAL_PHASE_COUNTS.addr, R.CAL_SKIP_CNT_CNT.addr, evtAddr .cal 0] ∧
        t = { s with regs := t.regs, pins := t.pins, ang := { s.ang with slot := t.ang.slot, marked := m } })) ∧
  (∀ (s : State) (a : Nat), a = s.get R.CAL_ADDR_ENTRY / 2 * 2 →
    (∀ w : Word, s.portTakes R.CAL_DATA_EVEN.addr → s.testMode 5 = false → s.memi.inj = none → ∃ t, exec (.calDataWrite w) s = .next t ∧ t.peek 5 (calWord a) = w ∧ t.bad 5 (calWord a) = false ∧ t.get R.CAL_ADDR_ENTRY = (a + 2) % 4096 ∧
      t.calEntry a = w.toNat % 65536 ∧ t.calEntry (a + 1) = w.toNat / 65536 ∧ s.wordsKept t [R.CAL_ADDR_ENTRY.addr] ∧ t = { s with regs := t.regs, sram := t.sram, memi := t.memi }) ∧
    (s.cpReady = true → s.testMode 5 = false → strongClass (s.stored 5 (calWord a)) = .clean → ∃ t, exec .calDataRead s = .next t ∧ t.cp = { s.cp with rdata := s.peek 5 (calWord a) } ∧ t.get R.CAL_ADDR_ENTRY = (a + 2) % 4096 ∧
      s.wordsKept t [R.CAL_ADDR_ENTRY.addr] ∧ t = { s with cp := t.cp, regs := t.regs }) ∧
    (s.cpReady = true → s.testMode 5 = false → s.bad 5 (calWord a) = true → ∃ t, exec .calDataRead s = .next t ∧ t.event .cal 0 2 = true ∧ t.get R.CAL_ADDR_ENTRY = (a + 2) % 4096 ∧ (s.srcPresent 20 = true → ⟨20, 0#32, s.cyc, false⟩ ∈ t.flt.inflight) ∧ t.sram = s.sram ∧ t.ang = s.ang) ∧
    (s.cpReady = false → exec .calDataRead s = .next { s with cp := { s.cp with held := some ⟨false, BitVec.ofNat 24 R.CAL_DATA_EVEN.addr, 0, 0⟩ } }))

/-- DOM_UP for a present domain that is OFF, while no PF_WARN is latched and CORE is ON (or the domain is CORE), puts it in POWERING
and sets DOM_RES to OK (0); UP takes a QUIESCING domain back ON, waits for a warm-reset power-down, and answers DEPENDENCY
without CORE and STATE in the other states. STAGGER_EXPIRE raises PD_REQ of a domain in POWERING once its PD_ACK reads 0.
PD_ACK_RISE for a requested domain releases its reset. UP_DONE for a domain in initialisation puts it ON and raises UP_DONE; the
kept bits aside, the register words of its pages take their reset values. No other domain and nothing else changes. Completion
(exec answers next with the form's own effect, from these conditions alone) is stated for: domUp, staggerExpire, pdAckRise,
upDone. -/
def Obligations.DomainPowersUp : Prop :=
  (∀ (s : State) (d : Fin 13), s.portTakes R.PWR_DOM_CMD_OP.addr → s.domPresent d = true → s.pf = false → (s.dom d).st = .off →
    (d = 0 ∨ (s.dom 0).st = .on) → ∃ t, exec (.domUp d) s = .next t ∧ t.dom d = { s.dom d with st := .powering, init := false } ∧
      t.get R.PWR_DOM_RES_RESULT = 0 ∧ s.domOnly t d [R.PWR_DOM_RES_RESULT.addr]) ∧
  (∀ (s : State) (d : Fin 13), s.portTakes R.PWR_DOM_CMD_OP.addr → s.domPresent d = true → s.pf = false →
    ((s.dom d).st = .quiescing → ∃ t, exec (.domUp d) s = .next t ∧ t.dom d = { s.dom d with st := .on } ∧
      (d.val < 10 ∨ (s.rng.reads = [] ∧ s.rcv.load = none ∧ s.rcv.ledg = none) → t.get R.PWR_DOM_RES_RESULT = 0 ∧ s.domOnly t d [R.PWR_DOM_RES_RESULT.addr])) ∧
    ((s.dom d).st = .poweringDown → (s.dom d).warm = true → ∃ t, exec (.domUp d) s = .next t ∧ t.dom d = { s.dom d with wantUp := true } ∧ t.get R.PWR_DOM_RES_RESULT = 0 ∧ s.domOnly t d [R.PWR_DOM_RES_RESULT.addr]) ∧
    ((s.dom d).st = .off → d ≠ 0 → (s.dom 0).st ≠ .on → ∃ t, exec (.domUp d) s = .next t ∧ t.get R.PWR_DOM_RES_RESULT = 3 ∧ s.wordsKept t [R.PWR_DOM_RES_RESULT.addr] ∧ t = { s with regs := t.regs }) ∧
    ((s.dom d).st = .powering ∨ (s.dom d).st = .on ∨ (s.dom d).st = .lost → ∃ t, exec (.domUp d) s = .next t ∧ t.get R.PWR_DOM_RES_RESULT = 2 ∧ s.wordsKept t [R.PWR_DOM_RES_RESULT.addr] ∧ t = { s with regs := t.regs })) ∧
  (∀ (s : State) (d : Fin 13), (s.dom d).st = .powering → (s.dom d).req = false → (s.dom d).ack = false →
    ∃ t, exec (.staggerExpire d) s = .next t ∧ t.dom d = { s.dom d with req := true, ignore := false } ∧ s.domOnly t d []) ∧
  (∀ (s : State) (d : Fin 13), s.domPresent d = true → (s.dom d).st = .powering → (s.dom d).req = true →
    ∃ t, exec (.pdAckRise d) s = .next t ∧ t.dom d = { s.dom d with ack := true, init := true } ∧ s.domOnly t d []) ∧
  (∀ (s : State) (d : Fin 13), (s.dom d).st = .powering → (s.dom d).init = true →
    ∃ t, exec (.upDone d) s = .next t ∧ t.dom d = { s.dom d with st := .on, init := false } ∧ t.event .pwr 0 0 = true ∧
      (∀ k, k ≠ d.val → t.dom k = s.dom k) ∧
      (∀ a, addrIn d a = false → a ≠ evtAddr .pwr 0 → t.rd a = s.rd a) ∧
      (d ≠ 0 → s.regs.Pairwise (fun x y => x.1 ≠ y.1) → ∀ a, addrIn d a = true → t.rd a = (s.rd a &&& keepMask a) ||| (resetVal a &&& ~~~keepMask a)) ∧
      (d.val < 10 ∨ (s.rng.reads = [] ∧ s.rcv.load = none ∧ s.rcv.ledg = none) → s.memi.inj = none →
        t = { s with pwr := { s.pwr with doms := t.pwr.doms }, regs := t.regs, pins := t.pins, memi := t.memi }))

/-- For a domain that the generated block does not have, whose PD_REQ and PD_ACK bits read 0: DOM_UP and DOM_DOWN answer DOM_RES 1
and leave the domain as it is, and PD_ACK_RISE changes nothing (R83). For every domain, UP while its PD_ACK still reads 1 raises
no PD_REQ: STAGGER_EXPIRE then changes nothing (R81). -/
def Obligations.PowerRequestsOfAbsentDomainsStayZero : Prop :=
  (∀ (s : State) (d : Fin 13), s.domPresent d = false → exec (.pdAckRise d) s = .next s) ∧
  (∀ (s : State) (d : Fin 13), s.portTakes R.PWR_DOM_CMD_OP.addr → s.domPresent d = false →
    ∀ c ∈ [Instr.domUp d, .domDown d], ∃ t, exec c s = .next t ∧ t.get R.PWR_DOM_RES_RESULT = 1 ∧
      s.wordsKept t [R.PWR_DOM_RES_RESULT.addr] ∧ t = { s with regs := t.regs }) ∧
  (∀ (s : State) (d : Fin 13), (s.dom d).ack = true → exec (.staggerExpire d) s = .next s)

/-- DOM_DOWN for a present domain that is ON, with no PF_WARN latched, outside the Grave state and, for CORE, with every other
domain OFF, puts it in QUIESCING with DOM_RES OK. QUIESCE_DONE without a holder drops PD_REQ and puts it in POWERING_DOWN.
QUIESCE_TO with holder c puts it back ON, writes its number and c to QTO_INFO, raises QUIESCE_TO and counts at source 3.
DOWN_DONE puts a domain in POWERING_DOWN that no UP waits for OFF and raises DOWN_DONE. Other domains stay. Completion (exec
answers next with the form's own effect, from these conditions alone) is stated for: domDown, quiesceDone, quiesceTo, downDone. -/
def Obligations.DomainPowersDown : Prop :=
  (∀ (s : State) (d : Fin 13), s.portTakes R.PWR_DOM_CMD_OP.addr → s.domPresent d = true → s.pf = false → s.grave = false →
    (s.dom d).st = .on → (d = 0 → ∀ k, 0 < k → k < 13 → (s.dom k).st = .off) → ∃ t, exec (.domDown d) s = .next t ∧
      t.dom d = { s.dom d with st := .quiescing } ∧ t.get R.PWR_DOM_RES_RESULT = 0 ∧ s.domOnly t d [R.PWR_DOM_RES_RESULT.addr]) ∧
  (∀ (s : State) (d : Fin 13), (s.dom d).st = .quiescing → s.holder d = none →
    ∃ t, exec (.quiesceDone d) s = .next t ∧ t.dom d = { s.dom d with st := .poweringDown, req := false } ∧
      (∀ k, k ≠ d.val → t.dom k = s.dom k) ∧ t.ext = s.ext ∧ t.rot = s.rot ∧ t.ang = s.ang ∧ t.cyc = s.cyc ∧ t.cp = s.cp) ∧
  (∀ (s : State) (d : Fin 13) (c : Nat), (s.dom d).st = .quiescing → s.holder d = some c →
    ∃ t, exec (.quiesceTo d) s = .next t ∧ t.dom d = { s.dom d with st := .on } ∧
      (d.val < 10 ∨ (s.rng.reads = [] ∧ s.rcv.load = none ∧ s.rcv.ledg = none) → t.get R.PWR_QTO_INFO_DOMAIN = d ∧
      t.get R.PWR_QTO_INFO_HOLDER = c ∧ t.event .pwr 0 2 = true ∧
      t.flt.inflight = s.flt.inflight ++ [⟨3, t.rd R.PWR_QTO_INFO_HOLDER.addr, s.cyc, false⟩] ∧
      s.domOnly t d [R.PWR_QTO_INFO_HOLDER.addr, evtAddr .pwr 0])) ∧
  (∀ (s : State) (d : Fin 13), (s.dom d).st = .poweringDown → (s.dom d).req = false → (s.dom d).wantUp = false →
    ∃ t, exec (.downDone d) s = .next t ∧ t.dom d = { s.dom d with st := .off, ack := false, ignore := false, warm := false } ∧
      t.event .pwr 0 1 = true ∧ s.domOnly t d [evtAddr .pwr 0])

/-- PD_ACK_TIMEOUT for a requested domain in POWERING whose PD_ACK has not risen clears PD_REQ, returns it to OFF, ignores a later
rise, raises PD_ACK_TIMEOUT and counts at source 2; nothing else changes. DOMAIN_LOST for a domain whose PD_REQ and PD_ACK are 1
puts it in the LOST state (its PD_REQ stays), raises DOMAIN_LOST and counts at source 1; the other domains, external memory, the
rotor drive, the angle unit and the core-cycle counter stay. Completion (exec answers next with the form's own effect, from
these conditions alone) is stated for: pdAckTimeout, domainLost. -/
def Obligations.DomainTimesOutOrIsLost : Prop :=
  (∀ (s : State) (d : Fin 13), (s.dom d).st = .powering → (s.dom d).req = true → (s.dom d).ack = false →
    ∃ t, exec (.pdAckTimeout d) s = .next t ∧ t.dom d = { s.dom d with st := .off, req := false, ignore := true } ∧
      t.event .pwr 0 3 = true ∧ t.flt.inflight = s.flt.inflight ++ [⟨2, 0, s.cyc, false⟩] ∧ s.domOnly t d [evtAddr .pwr 0]) ∧
  (∀ (s : State) (d : Fin 13), (s.dom d).req = true → (s.dom d).ack = true →
    ∃ t, exec (.domainLost d) s = .next t ∧ t.dom d = { s.dom d with st := .lost, ack := false, init := false } ∧
      t.event .pwr 0 4 = true ∧ t.flt.inflight.getLast? = some ⟨1, 0, s.cyc, false⟩ ∧ (∀ k, k ≠ d.val → t.dom k = s.dom k) ∧
      t.rot = s.rot ∧ t.ang = s.ang ∧ t.cyc = s.cyc ∧ t.ext = s.ext)

/-- PF_WARN rising while PF_EN is 1 and none is latched is accepted; external memory, the angle unit and the control port stay. With
every domain OFF, the drive OFF and no lane at work, STATUS.PF is latched, PF_ACCEPT is raised, and the seal, having no channel,
ends at once: SEAL_RUN 0, SEAL_DONE 1 and the event SEAL_DONE. At any other level or setting PF_WARN changes the synchronised
pin alone. CLEAR of PF_CMD with the pin low and no seal running clears STATUS.PF and, with no reaction waiting, nothing else;
with the pin high or a seal running it leaves STATUS.PF and raises PF_CLR_REFUSED. Completion (exec answers next with the form's
own effect, from these conditions alone) is stated for: pfWarn, pfClear. -/
def Obligations.PowerLossWarningIsAcceptedOnce : Prop :=
  (∀ s : State, s.flag R.PWR_CTRL_PF_EN = true → s.pf = false →
    ∃ t, exec (.pfWarn true) s = .next t ∧ t.pins.pfWarn = true ∧ t.cyc = s.cyc ∧ t.ext = s.ext ∧ t.ang = s.ang ∧ t.cp = s.cp) ∧
  (∀ s : State, s.flag R.PWR_CTRL_PF_EN = true → s.pf = false → s.flag R.PWR_STATUS_SEAL_RUN = false → s.rot.st = .off →
    (∀ d < 13, (s.dom d).st = .off) → (∀ n < s.gen.nlane, (s.lane n).asm = .idle) →
    ∃ t, exec (.pfWarn true) s = .next t ∧ t.pf = true ∧ t.flag R.PWR_STATUS_SEAL_RUN = false ∧ t.flag R.PWR_STATUS_SEAL_DONE = true ∧
      t.event .pwr 0 6 = true ∧ t.event .pwr 0 7 = true ∧
      s.wordsKept t [R.PWR_STATUS_PF.addr, evtAddr .pwr 0, R.PWR_SEAL_CNT_CNT.addr, R.PWR_SEAL_TIME_CYC.addr, R.PWR_SEAL_AREA_PAGE.addr] ∧
      t = { s with regs := t.regs, pins := t.pins, pwr := { s.pwr with sealing := [], sealT0 := s.cyc, sealCause := 0 } }) ∧
  (∀ (s : State) (l : Bool), (l = false ∨ s.flag R.PWR_CTRL_PF_EN = false ∨ s.pf = true) →
    exec (.pfWarn l) s = .next { s with pins := { s.pins with pfWarn := l } }) ∧
  (∀ s : State, s.portTakes R.PWR_PF_CMD_CLEAR.addr → s.pins.pfWarn = false → s.flag R.PWR_STATUS_SEAL_RUN = false →
    s.flt.rotWait = false → ∃ t, exec .pfClear s = .next t ∧ t.pf = false ∧ s.wordsKept t [R.PWR_STATUS_PF.addr] ∧
      t = { s with regs := t.regs, rot := { s.rot with zeroPf := false } }) ∧
  (∀ s : State, s.portTakes R.PWR_PF_CMD_CLEAR.addr → (s.pins.pfWarn = true ∨ s.flag R.PWR_STATUS_SEAL_RUN = true) →
    ∃ t, exec .pfClear s = .next t ∧ t.event .pwr 0 8 = true ∧ t.pf = s.pf ∧ s.wordsKept t [evtAddr .pwr 0] ∧
      t = { s with regs := t.regs, pins := t.pins })

/-- LEDGER_GATHER outside a seal makes staged entries due and changes nothing else. LEDGER_FLUSH, when a flush may start, the block
set has a position left and the array rules allow the address, drives the position's program on the bus, uses the position and,
on a pass, drops the up to 32 entries it held; a failed one keeps them and counts. LEDG_EN_WRITE of EN = 1 after a successful
RECOVER sets EN; without one it raises CMD_REFUSED and changes no other word. RECOVER with BLK_A and BLK_B apart and the ledger
off makes LEDG_STAT.BUSY 1 and starts the searches; else it answers 2. LEDG_DONE, when every read has ended, takes the results
and queues the recovery buffer; when that has been written it clears BUSY, gives the result and raises LEDG_DONE. Completion
(exec answers next with the form's own effect, from these conditions alone) is stated for: ledgerGather, ledgerFlush, recover,
ledgDone, ledgEnWrite. -/
def Obligations.LedgerIsGatheredFlushedAndRecovered : Prop :=
  (∀ (s : State) (n : Fin 48), ((s.ch n).sealing = true → exec (.ledgerGather n) s = .next s) ∧
    ((s.ch n).sealing = false → ∃ t, exec (.ledgerGather n) s = .next t ∧
      (t.ch n).ledg = { (s.ch n).ledg with due := (s.ch n).ledg.due || decide ((s.ch n).ledg.staged ≠ []) } ∧
      (∀ k, k ≠ n.val → t.ch k = s.ch k) ∧ t = { s with chans := t.chans })) ∧
  (∀ (s : State) (n : Fin 48), s.flushMay n = true → (s.ch n).ledg.pos < s.ledgPositions n →
    s.refuseReason n (s.ledgAddr n) (s.ch n).sealing = none → s.refuseNote n (s.ledgAddr n) (s.ch n).sealing = s → s.ownsCh n = true →
    (∃ t, exec (.ledgerFlush n true) s = .next t ∧
      (t.ch n).ledg = { (s.ch n).ledg with
        staged := (s.ch n).ledg.staged.drop 32, pos := (s.ch n).ledg.pos + 1, fails := 0, due := decide ((s.ch n).ledg.staged.drop 32 ≠ []) } ∧
      (t.ch n).eng.bus = (s.flushOps n).reverse ++ (s.ch n).eng.bus ∧ (∀ k, k ≠ n.val → t.ch k = s.ch k) ∧
      t = { s with chans := t.chans }) ∧
    ((s.ch n).ledg.fails < 3 → ∃ t, exec (.ledgerFlush n false) s = .next t ∧
      (t.ch n).ledg = { (s.ch n).ledg with pos := (s.ch n).ledg.pos + 1, fails := (s.ch n).ledg.fails + 1 } ∧
      (t.ch n).eng.bus = (s.flushOps n).reverse ++ (s.ch n).eng.bus ∧ (∀ k, k ≠ n.val → t.ch k = s.ch k) ∧
      t = { s with chans := t.chans }) ∧
    (3 ≤ (s.ch n).ledg.fails → ∃ t, exec (.ledgerFlush n false) s = .next t ∧ (t.ch n).ledg.stopped = true ∧ (t.ch n).ledg.staged = (s.ch n).ledg.staged ∧ t.event .pwr 0 10 = true ∧
      t.flt.inflight = s.flt.inflight ++ [⟨4, 0, s.cyc, false⟩])) ∧
  (∀ (s : State) (d : Word), s.portTakes R.PWR_LEDG_CFG_EN.addr → d.getLsbD 0 = true →
    (s.pwr.recovered = true → ∃ t, exec (.ledgEnWrite d) s = .next t ∧ t.flag R.PWR_LEDG_CFG_EN = true ∧ s.wordsKept t [R.PWR_LEDG_CFG_EN.addr] ∧
      t = { s with regs := t.regs }) ∧
    (s.pwr.recovered = false → ∃ t, exec (.ledgEnWrite d) s = .next t ∧ t.event .pwr 0 5 = true ∧ s.wordsKept t [evtAddr .pwr 0] ∧
      t = { s with regs := t.regs, pins := t.pins })) ∧
  (∀ s : State, s.portTakes R.PWR_LEDG_CMD_RECOVER.addr → s.flag R.PWR_LEDG_STAT_BUSY = false →
    (s.ledgOn = false → s.get R.PWR_LEDG_BLK_BLK_A ≠ s.get R.PWR_LEDG_BLK_BLK_B → ∃ t, exec .recover s = .next t ∧
      t.flag R.PWR_LEDG_STAT_BUSY = true ∧ t.rcv.ledg.isSome = true ∧ t.rot = s.rot ∧ t.ang = s.ang ∧ t.ext = s.ext ∧
      ((∀ k < s.gen.nch, s.ledgCovers k = false) → s.wordsKept t [R.PWR_LEDG_STAT_BUSY.addr] ∧ t = { s with regs := t.regs, rcv := { s.rcv with ledg := some { slots := [] } } })) ∧
    (s.ledgOn = true ∨ s.get R.PWR_LEDG_BLK_BLK_A = s.get R.PWR_LEDG_BLK_BLK_B → ∃ t, exec .recover s = .next t ∧
      t.get R.PWR_LEDG_STAT_RESULT = 2 ∧ t.flag R.PWR_LEDG_STAT_BUSY = false ∧ s.wordsKept t [R.PWR_LEDG_STAT_BUSY.addr] ∧ t = { s with regs := t.regs })) ∧
  (∀ (s : State) (err : Bool), s.flag R.PWR_LEDG_STAT_BUSY = true →
    (s.rcv.ledg = none → ∃ t, exec (.ledgDone err) s = .next t ∧ t.flag R.PWR_LEDG_STAT_BUSY = false ∧ t.get R.PWR_LEDG_STAT_RESULT = 3 ∧ t.pwr = s.pwr ∧ t.event .pwr 0 9 = true) ∧
    (∀ x, some x = s.rcv.ledg → x.ended = true →
      (x.took = false → s.powered 0 = true → s.ledgFound x = [] → ∃ t, exec (.ledgDone err) s = .next t ∧ t.flag R.PWR_LEDG_STAT_BUSY = true ∧ t.rcv.ledg = some { x with took := true } ∧
        t.rng.rb = s.rng.rb ++ [.write (s.get R.PWR_LEDG_BUF_LO_ADDR * 64 + s.get R.PWR_LEDG_BUF_HI_ADDR * 2 ^ 32) (ledgBuf [] (((List.range s.gen.nch).map (fun k => 2 ^ k)).sum))] ∧ t.regs = s.regs) ∧
      (x.took = true → s.rbWrites = false → ∃ t, exec (.ledgDone err) s = .next t ∧ t.flag R.PWR_LEDG_STAT_BUSY = false ∧
        t.get R.PWR_LEDG_STAT_RESULT = (if err = true then 3 else if s.ledgFound x = [] then 1 else 0) ∧ t.pwr = { s.pwr with recovered := s.pwr.recovered || !err } ∧ t.rcv = { s.rcv with ledg := none } ∧
        t.event .pwr 0 9 = true ∧ s.wordsKept t [R.PWR_LEDG_STAT_BUSY.addr, evtAddr .pwr 0] ∧ t = { s with regs := t.regs, pins := t.pins, pwr := t.pwr, rcv := t.rcv })))

/-- A whole-word write into a window that no lock covers stores the word, which reads back correct; a narrow one merges into a clean
word, and is dropped at an uncorrectable one with RMW_UE. Bytes 0x00 to 0x0F of an enabled ring's context keep their value and
raise LOCKED. A scrub read without ENABLE, SCRUB_EN or permit changes nothing; one of a clean word moves the walk alone, of a
correctable one queues its write-back and counts, of an uncorrectable one reports it. A write-back leaves the corrected word
clean and unchanged in value. While one is due, the walk does not read. STARVED is raised once per lap of an enabled region. A
remap clear puts the spare's data back. TEST takes EN with region 5 or 6 alone. INJECT arms a position inside the word, and
INJ_DONE shows where it landed. Completion (exec answers next with the form's own effect, from these conditions alone) is stated
for: sramWindowWrite, scrubRead, scrubWriteback, starved, remapClr, memiTest, memiInject, injDone. -/
def Obligations.MemoryIntegrityCommands : Prop :=
  (∀ (s : State) (x : BitVec 24) (be : BitVec 4) (d : Word), ∀ a, a = x.toNat / 4 * 4 → s.portTakes a →
    (∀ r, r = (a - 0x100000) / 32 → 0x100000 ≤ a → a < 0x180000 → (s.ring r).en = true → a % 32 < 0x10 → be ≠ 0#4 → ∃ t, exec (.sramWindowWrite x be d) s = .next t ∧ t.event .ring 0 4 = true ∧ t.get R.RING_EVT_RING_RING = r ∧
      s.wordsKept t [evtAddr .ring 0, R.RING_EVT_RING_RING.addr] ∧ t = { s with regs := t.regs, pins := t.pins }) ∧
    ((0x204000 ≤ a ∧ a < 0x250000) ∨ (0x100000 ≤ a ∧ a < 0x180000 ∧ (s.ring ((a - 0x100000) / 32)).en = false ∧ a % 32 ≠ 0xC) → s.testMode 5 = false → s.memi.inj = none → ∀ w, w = winWord a →
      (be = 0xF#4 → ∃ t, exec (.sramWindowWrite x be d) s = .next t ∧ t.peek 5 w = d ∧ t.bad 5 w = false ∧ (∀ v, v ≠ w → v < 0x1000000 → s.remapOf 5 w = none → t.stored 5 v = s.stored 5 v) ∧ t = { s with sram := t.sram, memi := t.memi }) ∧
      (be ≠ 0#4 → be ≠ 0xF#4 → strongClass (s.stored 5 w) = .clean → ∃ t, exec (.sramWindowWrite x be d) s = .next t ∧ t.peek 5 w = mergeBe (s.peek 5 w) d be ∧ t.bad 5 w = false ∧ t = { s with sram := t.sram, memi := t.memi }) ∧
      (be ≠ 0#4 → be ≠ 0xF#4 → s.bad 5 w = true → s.powered 0 = true → ∃ t, exec (.sramWindowWrite x be d) s = .next t ∧ t.event .memi 0 6 = true ∧ t.get (R.MEMI_LAST_UE_ORIGIN 5) = 4 ∧ t.get (R.MEMI_LAST_UE_WADDR 5) = w % 2 ^ 24 ∧
        (s.srcPresent 40 = true → ⟨40, BitVec.ofNat 32 (memiDetail 5 w), s.cyc, false⟩ ∈ t.flt.inflight) ∧ t = { s with regs := t.regs, pins := t.pins, flt := t.flt }) ∧
      (be = 0#4 → exec (.sramWindowWrite x be d) s = .next s))) ∧
  (∀ (s : State) (r : Fin 7),
    (s.scrubOn r = false → exec (.scrubRead r) s = .next s ∧ exec (.scrubWriteback r) s = .next s) ∧
    (∀ w, w = (s.walkNext r (tget (fun _ => 0) s.memi.walk r)).getD 0 → s.scrubOn r = true → (s.walkNext r (tget (fun _ => 0) s.memi.walk r)).isSome = true → (s.walkNext r (w + 1)).isSome = true → (s.memi.wb ++ s.memi.early).all (fun p => p.1 ≠ r.val) = true → (tfind s.memi.lap0 r).isSome = true →
      (s.wclass r w = .clean → exec (.scrubRead r) s = .next { s with memi := { s.memi with walk := tput (fun _ => 0) s.memi.walk r (w + 1) } }) ∧
      ((s.wclass r w).fixable = true → ∃ t, exec (.scrubRead r) s = .next t ∧ t.memi.wb = s.memi.wb ++ [(r.val, w)] ∧ t.event .memi 0 0 = true ∧ t.get (R.MEMI_CE_CNT_CNT r) = sat (R.MEMI_CE_CNT_CNT r).max (s.get (R.MEMI_CE_CNT_CNT r) + 1) ∧
        (s.srcPresent (21 + r) = true → ⟨21 + r, BitVec.ofNat 32 (memiDetail r w), s.cyc, false⟩ ∈ t.flt.inflight) ∧ t = { s with regs := t.regs, pins := t.pins, flt := t.flt, memi := t.memi }) ∧
      (s.wclass r w = .bad → ∃ t, exec (.scrubRead r) s = .next t ∧ t.memi = { s.memi with walk := tput (fun _ => 0) s.memi.walk r (w + 1) } ∧ t.event .memi 0 1 = true ∧ t.get (R.MEMI_LAST_UE_ORIGIN r) = 1 ∧ t.get (R.MEMI_LAST_UE_WADDR r) = w % 2 ^ 24 ∧
        (s.srcPresent (28 + r) = true → ⟨28 + r, BitVec.ofNat 32 (memiDetail r w), s.cyc, false⟩ ∈ t.flt.inflight) ∧ t = { s with regs := t.regs, pins := t.pins, flt := t.flt, memi := t.memi })) ∧
    (s.scrubOn r = true → s.scrubDue r (s.memi.wb ++ s.memi.early) ≠ none → exec (.scrubRead r) s = .next s) ∧
    (∀ w, w = ((s.scrubDue r s.memi.wb).getD (0, 0)).2 → s.scrubOn r = true → (s.scrubDue r s.memi.wb).isSome = true → ∃ t, exec (.scrubWriteback r) s = .next t ∧ (r.val, w) ∉ t.memi.wb ∧ t.wclass r w = .clean ∧
      (r.val = 5 ∨ r.val = 6 → t.peek r w = s.peek r w) ∧ t.regs = s.regs ∧ t = { s with sram := t.sram, memi := t.memi }) ∧
    (s.powered 0 = false ∨ s.flag R.MEMI_CTRL_ENABLE = false ∨ bit (s.get R.MEMI_SCRUB_EN_REGIONS) r = false ∨ s.get (R.MEMI_LAP_LIM_MS r) = 0 ∨ tget (fun _ => false) s.memi.starved r = true → exec (.starved r) s = .next s) ∧
    (s.powered 0 = true → s.flag R.MEMI_CTRL_ENABLE = true → bit (s.get R.MEMI_SCRUB_EN_REGIONS) r = true → s.get (R.MEMI_LAP_LIM_MS r) ≠ 0 → tget (fun _ => false) s.memi.starved r = false → ∃ t, exec (.starved r) s = .next t ∧ tget (fun _ => false) t.memi.starved r = true ∧ t.event .memi 0 4 = true ∧
      (s.srcPresent 37 = true → t.flt.inflight = s.flt.inflight ++ [⟨37, 0#32, s.cyc, false⟩]) ∧ s.wordsKept t [evtAddr .memi 0] ∧ t = { s with regs := t.regs, pins := t.pins, flt := t.flt, memi := { s.memi with starved := t.memi.starved } })) ∧
  (∀ (s : State) (d : Word), ∀ r, r = bits d.toNat 28 3 → ∀ k, k = d.toNat % 8 → s.portTakes R.MEMI_REMAP_CLR_ENTRY.addr → ∀ o : Option Remap, o = tget (fun _ => none) s.memi.remap (r * 8 + k) →
    (o = none → exec (.remapClr d) s = .next s) ∧
    (∀ e, e = o.getD ⟨0, none⟩ → o.isSome = true → r < 7 → ∃ t, exec (.remapClr d) s = .next t ∧ tget (fun _ => none) t.memi.remap (r * 8 + k) = (none : Option Remap) ∧ t.get (R.MEMI_REMAP_USED_CNT r) = (t.remaps r).length ∧
      (∀ v, e.spare = some v → tfind t.sram (skey r e.waddr) = some (strongEnc (strongRead v))) ∧ (e.spare = none → t.sram = s.sram) ∧ s.wordsKept t [(R.MEMI_REMAP_USED_CNT r).addr] ∧ t = { s with regs := t.regs, sram := t.sram, memi := t.memi })) ∧
  (∀ (s : State) (d : Word), s.portTakes R.MEMI_TEST_EN.addr → ∃ t, exec (.memiTest d) s = .next t ∧ t.get R.MEMI_TEST_REGION = bits d.toNat 4 3 ∧ t.flag R.MEMI_TEST_EN = (bit d.toNat 0 && (bits d.toNat 4 3 = 5 || bits d.toNat 4 3 = 6)) ∧
    s.wordsKept t [R.MEMI_TEST_EN.addr] ∧ t = { s with regs := t.regs }) ∧
  (∀ (s : State) (d : Word), ∀ n, n = wordBits (bits d.toNat 28 3) → s.portTakes R.MEMI_INJECT_ARM.addr → bit d.toNat 31 = true →
    (bits d.toNat 0 7 < n → bit d.toNat 24 = false ∨ bits d.toNat 8 7 < n → ∃ t, exec (.memiInject d) s = .next t ∧ t.memi = { s.memi with inj := some ⟨bits d.toNat 28 3, bit d.toNat 24, bits d.toNat 0 7, bits d.toNat 8 7⟩ } ∧ t.flag R.MEMI_INJECT_ARM = true ∧
      s.wordsKept t [R.MEMI_INJECT_ARM.addr] ∧ t = { s with regs := t.regs, memi := t.memi }) ∧
    (n ≤ bits d.toNat 0 7 → ∃ t, exec (.memiInject d) s = .next t ∧ t.memi = { s.memi with inj := none } ∧ t.flag R.MEMI_INJECT_ARM = false ∧ s.wordsKept t [R.MEMI_INJECT_ARM.addr] ∧ t = { s with regs := t.regs, memi := t.memi })) ∧
  (∀ (s : State) (p : Nat × Nat), s.memi.injDone = some p → ∃ t, exec .injDone s = .next t ∧ t.memi = { s.memi with injDone := none } ∧ t.get R.MEMI_INJ_ADDR_REGION = p.1 % 8 ∧ t.get R.MEMI_INJ_ADDR_WADDR = p.2 % 2 ^ 24 ∧ t.flag R.MEMI_INJECT_ARM = false ∧
    t.event .memi 0 8 = true ∧ s.wordsKept t [R.MEMI_INJ_ADDR_REGION.addr, R.MEMI_INJECT_ARM.addr, evtAddr .memi 0] ∧ t = { s with regs := t.regs, pins := t.pins, memi := t.memi })

/-- For every state whose control port takes the write and every source number: from 224 on, one event of the source, with FW_DETAIL
as its detail, is on its way to the collector and nothing else changes; with no other event on its way, the next FAULT_EVENT
adds one to the source's TOTAL, which saturates. For a number below 224 the write changes nothing. Completion (exec answers next
with the form's own effect, from these conditions alone) is stated for: faultEvent, fwRaise. -/
def Obligations.FirmwareRaisesCountAtFirmwareSources : Prop :=
  ∀ (s : State) (n : BitVec 8), s.portTakes R.FAULT_FW_RAISE_SOURCE.addr →
    (224 ≤ n.toNat → exec (.fwRaise n) s = .next { s with flt := { s.flt with inflight := s.flt.inflight ++ [⟨n.toNat, BitVec.ofNat 32 (s.get R.FAULT_FW_DETAIL_DETAIL), s.cyc, false⟩] } } ∧
      (s.flt.inflight = [] → ∀ u, u = ({ s with flt := { s.flt with inflight := s.flt.inflight ++ [⟨n.toNat, BitVec.ofNat 32 (s.get R.FAULT_FW_DETAIL_DETAIL), s.cyc, false⟩] } } : State) → ∃ t, exec .faultEvent u = .next t ∧ (t.src n.toNat).total = sat 65535 ((s.src n.toNat).total + 1))) ∧
    (n.toNat < 224 → exec (.fwRaise n) s = .next s)

/-- FAULT_EVENT takes the events of the oldest cyc, one of each source, and leaves the other sources as they are. With one such
event, COUNT is 1 in a new window or goes up by one, TOTAL goes up saturating, STATE takes the highest class applied. At base
class Notice short of promotion nothing else changes. Degraded raises its event, enters the log queue and, if none is valid, the
first-fault record. Severe with ROT clears ROTOR.CTRL.ENABLE unless an accepted PF_WARN is latched. Grave enters the Grave state
with its source, of one cyc the lowest; an uncorrectable word that a DUMP reads in it changes the log alone. WINDOW_CLOSE
returns COUNT to 0. LOG_WRITE stores the queue's oldest entry at LOG_HEAD, which advances. SRC_ACK clears STATE and COUNT and
closes the window of a source whose STATE is not Grave. FIRST_CLEAR clears the record outside the Grave state and does nothing
in it. Completion (exec answers next with the form's own effect, from these conditions alone) is stated for: faultEvent,
windowClose, logWrite, srcAck, firstClear. -/
def Obligations.FaultEventsCountPromoteAndReact : Prop :=
  (∀ s : State, s.flt.inflight = [] → exec .faultEvent s = .next s) ∧
  (∀ (s : State) (n : Fin 256), s.flt.batch.all (fun e => e.src ≠ n.val) = true → ∃ t, exec .faultEvent s = .next t ∧ t.src n = s.src n) ∧
  (∀ (s : State) (e : FltEv), e ∈ s.flt.batch → e.dump = false → ∃ t, exec .faultEvent s = .next t ∧ (t.src e.src).total = sat 65535 ((s.src e.src).total + 1) ∧ (t.src e.src).isOpen = true) ∧
  (∀ (s : State) (e : FltEv), s.flt.batch = [e] → s.flt.inflight.head? = some e → (e.dump = true → s.grave = false) → ∀ c, c = (if (s.src e.src).isOpen then (s.src e.src).count + 1 else 1) → ∀ p, p = (!((s.src e.src).isOpen && (s.src e.src).promoted) && decide (s.srcThr e.src < c)) → ∀ k, k = (if p then s.srcProm e.src else s.srcBase e.src) →
    (∃ t, exec .faultEvent s = .next t ∧ t.flt.inflight.take (s.flt.inflight.length - 1) = s.flt.inflight.drop 1 ∧
      t.src e.src = { (s.src e.src) with isOpen := true, count := min 256 c, promoted := ((s.src e.src).isOpen && (s.src e.src).promoted) || p, total := sat 65535 ((s.src e.src).total + 1), state := max (s.src e.src).state k } ∧
      (∀ n, n ≠ e.src → t.src n = s.src n)) ∧
    (k = 0 → ∃ t, exec .faultEvent s = .next t ∧ t = { s with flt := { s.flt with inflight := s.flt.inflight.drop 1, srcs := t.flt.srcs } }) ∧
    (k = 1 → s.flag R.FAULT_FIRST_VALID = false → s.flt.logq.length < 8 → ∃ t, exec .faultEvent s = .next t ∧ t.event .fault 0 0 = true ∧ t.flt.logq = s.flt.logq ++ [⟨s.cyc, e.src, 1, p, (t.src e.src).total, e.detail⟩] ∧
      t.flag R.FAULT_FIRST_VALID = true ∧ t.get R.FAULT_FIRST_CLASS = 1 ∧ t.get R.FAULT_FIRST_SOURCE = e.src % 256 ∧ t.rd R.FAULT_FIRST_DETAIL_DETAIL.addr = e.detail ∧ t.rd R.FAULT_FIRST_TIME_LO_CYC.addr = BitVec.ofNat 32 s.cyc ∧ t.rd R.FAULT_FIRST_TIME_HI_CYC.addr = BitVec.ofNat 32 (s.cyc / 2 ^ 32) ∧
      s.wordsKept t [evtAddr .fault 0, R.FAULT_FIRST_VALID.addr, R.FAULT_FIRST_DETAIL_DETAIL.addr, R.FAULT_FIRST_TIME_LO_CYC.addr, R.FAULT_FIRST_TIME_HI_CYC.addr] ∧ t = { s with regs := t.regs, pins := t.pins, flt := t.flt }) ∧
    (k = 1 → s.flag R.FAULT_FIRST_VALID = true → 8 ≤ s.flt.logq.length → ∃ t, exec .faultEvent s = .next t ∧ t.flt.logq = s.flt.logq ∧ t.event .fault 0 3 = true ∧ t.get R.FAULT_LOG_LOST_CNT = sat R.FAULT_LOG_LOST_CNT.max (s.get R.FAULT_LOG_LOST_CNT + 1) ∧
      s.wordsKept t [evtAddr .fault 0, R.FAULT_LOG_LOST_CNT.addr] ∧ t = { s with regs := t.regs, pins := t.pins, flt := t.flt }) ∧
    (k = 2 → s.flag (R.FAULT_SRC_CFG_ROT e.src) = true → s.flag (R.FAULT_SRC_CFG_DOM e.src) = false → s.gen.rotor = true → s.flt.logq.length < 8 → ∃ t, exec .faultEvent s = .next t ∧ t.event .fault 0 1 = true ∧ t.flt.logq.map (fun l => (l.src, l.cls)) = s.flt.logq.map (fun l => (l.src, l.cls)) ++ [(e.src, 2)] ∧
      (s.pf = false → t.flag R.ROTOR_CTRL_ENABLE = false ∧ (s.rot.st ∉ [RotSt.off, .tripped, .asc] → t.rot.st = .asc ∨ (t.rot.st = .coast ∧ t.rot.gates.allOff = true))) ∧ (s.pf = true → t.rot = s.rot ∧ t.flt.rotWait = true)) ∧
    (k = 3 → s.grave = false → ∃ t, exec .faultEvent s = .next t ∧ t.grave = true ∧ t.get R.FAULT_GRAVE_SRC_SOURCE = e.src % 256 ∧ t.event .fault 0 2 = true ∧ t.ext = s.ext) ∧
    (k = 3 → s.grave = true → ∃ t, exec .faultEvent s = .next t ∧ t.grave = true ∧
      t.get R.FAULT_GRAVE_SRC_SOURCE = (if s.flt.graveAt = some s.cyc ∧ e.src < s.get R.FAULT_GRAVE_SRC_SOURCE then e.src % 256 else s.get R.FAULT_GRAVE_SRC_SOURCE))) ∧
  (∀ (s : State) (e : FltEv), s.flt.batch = [e] → s.flt.inflight.head? = some e → e.dump = true → s.grave = true → ∃ t, exec .faultEvent s = .next t ∧ (∀ n, t.src n = s.src n) ∧
    s.wordsKept t [evtAddr .fault 0, R.FAULT_LOG_LOST_CNT.addr] ∧ t = { s with regs := t.regs, pins := t.pins, flt := { s.flt with inflight := s.flt.inflight.drop 1, logq := t.flt.logq } }) ∧
  (∀ (s : State) (n : Fin 256), ∃ t, exec (.windowClose n) s = .next t ∧ t.src n = { (s.src n) with isOpen := false, count := 0, promoted := false } ∧ (∀ k, k ≠ n.val → t.src k = s.src k) ∧ t = { s with flt := { s.flt with srcs := t.flt.srcs } }) ∧
  (∀ s : State, s.flt.logq = [] → exec .logWrite s = .next s) ∧
  (∀ (s : State) (e : LogEnt), s.flt.logq.head? = some e → s.memi.inj = none → ∀ i, i = s.get R.FAULT_LOG_HEAD_IDX → ∃ t, exec .logWrite s = .next t ∧ t.flt.logq = s.flt.logq.drop 1 ∧
    t.peek 5 (tabWord 5 (4 * i)) = BitVec.ofNat 32 e.time ∧ t.peek 5 (tabWord 5 (4 * i + 1)) = BitVec.ofNat 32 (e.time / 2 ^ 32) ∧ t.peek 5 (tabWord 5 (4 * i + 2)) = BitVec.ofNat 32 (e.src + (e.cls + b2n e.promo * 8) * 256 + e.total % 65536 * 65536) ∧
    t.peek 5 (tabWord 5 (4 * i + 3)) = e.detail ∧ t.get R.FAULT_LOG_HEAD_IDX = (i + 1) % 64 ∧ t.get R.FAULT_LOG_CNT_CNT = sat R.FAULT_LOG_CNT_CNT.max (s.get R.FAULT_LOG_CNT_CNT + 1) ∧
    s.wordsKept t [R.FAULT_LOG_HEAD_IDX.addr, R.FAULT_LOG_CNT_CNT.addr] ∧ t = { s with regs := t.regs, sram := t.sram, memi := t.memi, flt := { s.flt with logq := t.flt.logq } }) ∧
  (∀ (s : State) (n : Fin 256), s.portTakes (R.FAULT_SRC_STAT_ACK n).addr → s.srcPresent n = true →
    ((s.src n).state = 3 → exec (.srcAck n) s = .next s) ∧
    ((s.src n).state ≠ 3 → ∃ t, exec (.srcAck n) s = .next t ∧ t.src n = { (s.src n) with state := 0, count := 0, isOpen := false, promoted := false } ∧ (∀ k, k ≠ n.val → t.src k = s.src k) ∧ t = { s with flt := { s.flt with srcs := t.flt.srcs } })) ∧
  (∀ s : State, s.portTakes R.FAULT_FIRST_VALID.addr →
    (s.grave = true → exec .firstClear s = .next s) ∧
    (s.grave = false → ∃ t, exec .firstClear s = .next t ∧ [R.FAULT_FIRST_VALID.addr, R.FAULT_FIRST_TIME_LO_CYC.addr, R.FAULT_FIRST_TIME_HI_CYC.addr, R.FAULT_FIRST_DETAIL_DETAIL.addr].all (fun a => t.rd a = 0#32) = true ∧
      s.wordsKept t [R.FAULT_FIRST_VALID.addr, R.FAULT_FIRST_TIME_LO_CYC.addr, R.FAULT_FIRST_TIME_HI_CYC.addr, R.FAULT_FIRST_DETAIL_DETAIL.addr] ∧ t = { s with regs := t.regs }))

/-- ENABLE of the cascade port is refused with CFG_REFUSED as R455 says, and clears UP when written 0; ENABLE of the reflect port is
refused with CFG_REFUSED beside an enabled cascade port (at bit 6: the model's choice, log entry 46). A record of a port that is
off changes nothing; one that is for another member is forwarded alone. HB, SYNC (unless one waits for the buffer) and resends
put their records on the lanes with the next SSEQ of the lane. A CRC error is counted and raises LINK_ERR. Records taken in
order are forwarded or acknowledged, and act: HB joins the members seen, the own HB gives RTT; SYNC sets rate, angle and
TIME_OFS; NUM adds a number; TRIG reaches the hoops; PARTIAL waits; STRIPE_DONE marks its stripe; RECON_REQ becomes a request;
RECON_RSP adds into the accumulator; RECON_END ends the member's answer. An ACK frees kept records. A lost member sets its bit
in LOST, and what is kept for it alone goes. Completion (exec answers next with the form's own effect, from these conditions
alone) is stated for: xlinkEnable, reflEnable, heartbeatSend, syncSend, recordReject, resend, recHb, recAck, recSync, syncLost,
recNum, recTrig, recPartial, recStripeDone, recReconReq, recReconRsp, recReconEnd, memberLost, recMapUpd. -/
def Obligations.LinkPortAndCascadeRecords : Prop :=
  (∀ (s : State) (w : Word),
    (s.portTakes R.XLINK_CTRL_ENABLE.addr →
      (bit w.toNat 0 = true → s.flag R.XLINK_CTRL_ENABLE = false → s.get R.XLINK_CFG_COUNT = 0 ∨ s.get R.XLINK_CFG_COUNT < s.get R.XLINK_CFG_INDEX ∨ s.rfOn = true → ∃ t, exec (.xlinkEnable w) s = .next t ∧ t.flag R.XLINK_CTRL_ENABLE = false ∧ t.event .xlink 0 4 = true ∧
        s.wordsKept t [R.XLINK_CTRL_ENABLE.addr, evtAddr .xlink 0] ∧ t = { s with regs := t.regs, pins := t.pins }) ∧
      (bit w.toNat 0 = true → s.flag R.XLINK_CTRL_ENABLE = false → 0 < s.get R.XLINK_CFG_COUNT → s.get R.XLINK_CFG_INDEX ≤ s.get R.XLINK_CFG_COUNT → s.rfOn = false → (List.range 8).all (fun p => !s.flag (R.LACE_PROF0_EN p)) = true → ∃ t, exec (.xlinkEnable w) s = .next t ∧ t.flag R.XLINK_CTRL_ENABLE = true ∧
        s.wordsKept t [R.XLINK_CTRL_ENABLE.addr] ∧ t = { s with regs := t.regs }) ∧
      (bit w.toNat 0 = false → s.flag R.XLINK_CTRL_ENABLE = true → s.lnk.held = [] → ∃ t, exec (.xlinkEnable w) s = .next t ∧ t.flag R.XLINK_CTRL_ENABLE = false ∧ t.rd R.XLINK_STATUS_UP.addr = 0#32 ∧ t.lnk.keep = [] ∧ t.lnk.wait = [] ∧ t.lnk.nseq = [] ∧ t.lnk.exp = [] ∧
        s.wordsKept t [R.XLINK_CTRL_ENABLE.addr, R.XLINK_STATUS_UP.addr] ∧ t = { s with regs := t.regs, lnk := t.lnk })) ∧
    (s.portTakes R.REFL_CTRL_ENABLE.addr → bit w.toNat 0 = true → bit w.toNat 8 = false → s.flag R.REFL_CTRL_ENABLE = false →
      (s.xlOn = false → ∃ t, exec (.reflEnable w) s = .next t ∧ t.flag R.REFL_CTRL_ENABLE = true ∧ s.wordsKept t [R.REFL_CTRL_ENABLE.addr] ∧ t = { s with regs := t.regs }) ∧
      (s.xlOn = true → ∃ t, exec (.reflEnable w) s = .next t ∧ t.flag R.REFL_CTRL_ENABLE = false ∧ t.event .refl 0 6 = true ∧ s.wordsKept t [R.REFL_CTRL_ENABLE.addr, evtAddr .refl 0] ∧ t = { s with regs := t.regs, pins := t.pins }))) ∧
  (∀ (s : State) (h : LHdr) (d : List Byte) (a : BitVec 32) (p : Fin 8) (u : LMap),
    (s.xlOn = false → s.rfOn = false → ∀ o ∈ [exec (.recHb h false false false 5) s, exec (.recAck h 0 3) s, exec (.recSync h 1 2 3) s, exec (.recNum h p a) s, exec (.recTrig h 7 a) s, exec (.recPartial h 0 0 a d) s, exec (.recStripeDone h 0 a) s, exec (.recReconReq h a 1) s, exec (.recReconRsp h 0 0 d) s, exec (.recReconEnd h 0) s, exec (.recMapUpd h [u]) s, exec (.recHoop h 0 d) s, exec (.recIntent h false 1) s, exec (.recBad h a) s, exec (.recStripeRec h d) s, exec (.recRef h 0 0) s, exec (.recTrim h 0 d) s],
      o = .next s) ∧
    (s.xlOn = true → h.bcast = false → h.dst.val ≠ s.linkMe → ∀ o ∈ [exec (.recHb h false false false 5) s, exec (.recAck h 0 3) s, exec (.recSync h 1 2 3) s, exec (.recNum h p a) s, exec (.recTrig h 7 a) s, exec (.recPartial h 0 0 a d) s, exec (.recStripeDone h 0 a) s, exec (.recReconReq h a 1) s, exec (.recReconRsp h 0 0 d) s, exec (.recReconEnd h 0) s],
      ∃ t, o = .next t ∧ t = { s with lnk := { s.lnk with tx := t.lnk.tx, exp := t.lnk.exp } } ∧ t.lnk.tx.drop 1 = s.lnk.tx ∧ t.lnk.tx.head?.map (fun r => (r.src, r.dst, r.sseq)) = some (h.src.val, h.dst.val, h.sseq.toNat))) ∧
  (∀ s : State,
    (s.xlOn = false → s.rfOn = false → exec .heartbeatSend s = .next s ∧ exec .syncSend s = .next s) ∧
    (s.xlOn = true → ∃ t, exec .heartbeatSend s = .next t ∧ t.lnk.tx = { typ := 1, src := s.linkMe, bcast := true, sseq := tget (fun _ => 0) s.lnk.nseq 0, arg := b2n s.grave + 2 * b2n s.pf + 4 * b2n (s.flag R.PWR_STATUS_SEAL_RUN), payload := leBytes 8 s.cyc } :: s.lnk.tx ∧
      t = { s with lnk := { s.lnk with tx := t.lnk.tx, nseq := t.lnk.nseq } } ∧ tget (fun _ => 0) t.lnk.nseq 0 = (tget (fun _ => 0) s.lnk.nseq 0 + 1) % 65536) ∧
    (s.xlOn = false → s.rfOn = true → ∃ t, exec .heartbeatSend s = .next t ∧ (t.lnk.tx.map (fun r => (r.typ, r.dst, r.sseq))).take 1 = [(1, 1 - s.linkMe, tget (fun _ => 0) s.lnk.nseq 0)] ∧ t.lnk.keep = s.lnk.keep ∧ t = { s with lnk := t.lnk }) ∧
    (s.xlOn = true → s.linkMe = 0 → s.lnk.wait = [] → s.linkHeld 0 < 32 → ∃ t, exec .syncSend s = .next t ∧ t.lnk.tx = { typ := 0x10, src := 0, bcast := true, sseq := tget (fun _ => 0) s.lnk.nseq 0, payload := leBytes 8 s.ang.theta ++ leBytes 4 s.ang.omega ++ leBytes 8 s.cyc } :: s.lnk.tx ∧
      t.lnk.keep.length = s.lnk.keep.length + 1 ∧ t = { s with lnk := { s.lnk with tx := t.lnk.tx, nseq := t.lnk.nseq, keep := t.lnk.keep } }) ∧
    (s.linkJam 0x10 = true → exec .syncSend s = .next s) ∧
    (exec (.recordReject false) s = .next s) ∧
    (s.xlOn = true → ∃ t, exec (.recordReject true) s = .next t ∧ t.get R.XLINK_ERR_CNT_CNT = sat R.XLINK_ERR_CNT_CNT.max (s.get R.XLINK_ERR_CNT_CNT + 1) ∧ t.event .xlink 0 3 = true ∧ (s.srcPresent 63 = true → t.flt.inflight = s.flt.inflight ++ [⟨63, 0#32, s.cyc, false⟩]) ∧
      s.wordsKept t [R.XLINK_ERR_CNT_CNT.addr, evtAddr .xlink 0] ∧ t = { s with regs := t.regs, pins := t.pins, flt := t.flt }) ∧
    (s.flag R.XLINK_STATUS_SYNCED = false → exec .syncLost s = .next s) ∧
    (s.flag R.XLINK_STATUS_SYNCED = true → ∃ t, exec .syncLost s = .next t ∧ t.flag R.XLINK_STATUS_SYNCED = false ∧ t.event .xlink 0 1 = true ∧ s.wordsKept t [R.XLINK_STATUS_SYNCED.addr, evtAddr .xlink 0] ∧ t = { s with regs := t.regs, pins := t.pins })) ∧
  (∀ (s : State) (l : Fin 2) (ks : List LKeep), ks = s.lnk.keep.filter (fun k => recLane k.r.typ = l.val) →
    (ks = [] → exec (.resend l) s = .next s) ∧
    (∀ k, ks.head? = some k → s.xlOn = true → k.tries < max 1 (s.get R.XLINK_RTO_TRIES) → ∃ t, exec (.resend l) s = .next t ∧ t.lnk.tx = (ks.map (fun x => x.r)).reverse ++ s.lnk.tx ∧ t.lnk.keep.map (fun x => x.r) = s.lnk.keep.map (fun x => x.r) ∧
      t.get R.XLINK_RESEND_CNT_CNT = sat R.XLINK_RESEND_CNT_CNT.max (s.get R.XLINK_RESEND_CNT_CNT + ks.length) ∧ t = { s with regs := t.regs, lnk := { s.lnk with tx := t.lnk.tx, keep := t.lnk.keep } }) ∧
    (∀ k, ks.head? = some k → s.xlOn = true → max 1 (s.get R.XLINK_RTO_TRIES) ≤ k.tries → k.r.bcast = false → k.r.dst < 4 →
      (bit (s.get R.XLINK_STATUS_LOST) k.r.dst = false → ∃ t, exec (.resend l) s = .next t ∧ bit (t.get R.XLINK_STATUS_LOST) k.r.dst = true ∧ t.event .xlink 0 2 = true ∧ (∀ x ∈ t.lnk.keep, x.r.bcast = true ∨ x.r.dst ≠ k.r.dst)) ∧
      (bit (s.get R.XLINK_STATUS_LOST) k.r.dst = true → s.lnk.wait = [] → s.lnk.held = [] → s.lace.stripes = [] → exec (.resend l) s = .next { s with lnk := { s.lnk with keep := s.lnk.keep.filter (fun x => x.r ≠ k.r) } }))) ∧
  (∀ (s : State) (m : Fin 4), s.xlOn = true → bit (s.get R.XLINK_STATUS_LOST) m = true → exec (.memberLost m) s = .next s) ∧
  (∀ (s : State) (m : Fin 4), s.xlOn = true → m.val < s.xlM → m.val ≠ s.linkMe → bit (s.get R.XLINK_STATUS_LOST) m = false → ∃ t, exec (.memberLost m) s = .next t ∧ bit (t.get R.XLINK_STATUS_LOST) m = true ∧ t.flag R.XLINK_STATUS_UP = false ∧ t.event .xlink 0 2 = true ∧
    (s.srcPresent 64 = true → ⟨64, 0#32, s.cyc, false⟩ ∈ t.flt.inflight) ∧ (∀ x ∈ t.lnk.keep, x.r.bcast = true ∨ x.r.dst ≠ m.val) ∧ (∀ r ∈ t.lnk.wait, r.bcast = true ∨ r.dst ≠ m.val) ∧ t.ext = s.ext ∧ t.rot = s.rot) ∧
  (∀ (s : State) (h : LHdr) (z : BitVec 64), s.xlOn = true → h.bcast = true → h.src.val = s.linkMe → ∃ t, exec (.recHb h false false false z) s = .next t ∧ t.get R.XLINK_RTT_CYC = sat (2 ^ 20 - 1) (s.cyc - z.toNat) ∧ t.lnk = { s.lnk with own := true }) ∧
  (∀ (s : State) (h : LHdr), s.xlOn = true → h.bcast = true → h.src.val ≠ s.linkMe → h.sseq.toNat = tget (fun _ => 0) s.lnk.exp (h.src.val * 2) →
    (∀ (g x y : Bool) (z : BitVec 64), ∃ t, exec (.recHb h g x y z) s = .next t ∧ h.src.val ∈ t.lnk.seen ∧ t.lnk.tx.drop 1 = s.lnk.tx ∧ tget (fun _ => 0) t.lnk.exp (h.src.val * 2) = (h.sseq.toNat + 1) % 65536 ∧ bit (t.get R.XLINK_STATUS_LOST) h.src = false ∧
      ((List.range s.xlM).all (fun m => m = s.linkMe || decide (m = h.src.val) || decide (m ∈ s.lnk.seen)) = true → s.lnk.own = true → t.flag R.XLINK_STATUS_UP = true) ∧ s.wordsKept t [R.XLINK_STATUS_UP.addr, evtAddr .xlink 0] ∧ t = { s with regs := t.regs, pins := t.pins, lnk := t.lnk }) ∧
    (∀ (th : BitVec 48) (om : BitVec 32) (z : BitVec 64), s.flag R.XLINK_CFG_ANGLE_FOLLOW = true → s.linkMe ≠ 0 → s.get R.XLINK_STATUS_LOST = 0 → ∀ hop, hop = s.get R.XLINK_HOP_LAT_CYC * s.linkMe → ∀ e, e = sgn 48 ((th.toNat + om.toNat * hop) % 2 ^ 48 + 2 ^ 48 - s.ang.theta) →
      ∃ t, exec (.recSync h th om z) s = .next t ∧ t.flag R.XLINK_STATUS_SYNCED = true ∧ ((t.get R.XLINK_TIME_OFS_LO_CYC + t.get R.XLINK_TIME_OFS_HI_CYC * 2 ^ 32 : Nat) : Int) = ((z.toNat : Int) - s.cyc - hop) % 2 ^ 64 ∧
        (s.ang.st = .virtual → t.ang.omega = om.toNat ∧ (e.natAbs ≤ s.get R.ANGLE_TRACK_SLEW * 2 ^ 32 → s.ang.theta < 2 ^ 48 → t.ang.theta = (th.toNat + om.toNat * hop) % 2 ^ 48) ∧ (s.get R.ANGLE_TRACK_SLEW * 2 ^ 32 < e.natAbs → t.event .angle 0 6 = true)) ∧
        (s.ang.st ≠ .virtual → t.ang = s.ang) ∧ t.rot = s.rot ∧ t.chans = s.chans) ∧
    (∀ (p : Fin 8) (n : BitVec 32), ∃ t, exec (.recNum h p n) s = .next t ∧ tget (fun _ => []) t.lnk.nums p = tget (fun _ => []) s.lnk.nums p ++ [n.toNat] ∧ (∀ k, k ≠ p.val → tget (fun _ => []) t.lnk.nums k = tget (fun _ => []) s.lnk.nums k) ∧ t.lnk.tx.drop 1 = s.lnk.tx ∧ t = { s with lnk := t.lnk }) ∧
    (∀ (z : BitVec 64) (st : BitVec 32) (k : Fin 64), s.hoopPlain k = false → bit (s.hget k 0 4) 2 = true → (s.hoop k).trig = [] → ∃ t, exec (.recTrig h z st) s = .next t ∧
      (t.hoop k).trig = [⟨1, (z.toNat + 2 ^ 64 - (s.get R.XLINK_TIME_OFS_LO_CYC + s.get R.XLINK_TIME_OFS_HI_CYC * 2 ^ 32)) % 2 ^ 64, st.toNat⟩] ∧ t = { s with hoops := t.hoops, lnk := t.lnk })) ∧
  (∀ (s : State) (h : LHdr) (a : BitVec 32), s.xlOn = true → h.src.val ≠ s.linkMe → h.sseq.toNat = tget (fun _ => 0) s.lnk.exp (h.src.val * 2 + 1) → h.bcast = true ∨ h.dst.val = s.linkMe →
    (∀ (k : Fin 4) (c : BitVec 2) (d : List Byte), s.lace.stripes.all (fun x => x.num ≠ a.toNat) = true → ∃ t, exec (.recPartial h k c a d) s = .next t ∧ t.lnk.parts = s.lnk.parts ++ [(a.toNat, k.val, c.toNat, bytesTo 65504 d)] ∧ t.lnk.tx.drop 1 = s.lnk.tx ∧ t = { s with lnk := t.lnk }) ∧
    (∀ c : BitVec 2, ∃ t, exec (.recStripeDone h c a) s = .next t ∧ t.lace.stripes = s.lace.stripes.map (fun x => if x.num = a.toNat ∧ x.casc = true then { x with fin := true, closed := some (max (x.closed.getD 0) c.toNat) } else x) ∧ t.lace.acc = s.lace.acc ∧ t = { s with lace := t.lace, lnk := t.lnk }) ∧
    (∀ m : BitVec 16, ∃ t, exec (.recReconReq h a m) s = .next t ∧ t.rcv.reqs.take s.rcv.reqs.length = s.rcv.reqs ∧ (t.rcv.reqs.drop s.rcv.reqs.length).map (fun q => (q.id, q.mask, q.hint, q.tileno)) = [(s.rcv.nextId, m.toNat, a.toNat, 0x7FFFFFFF)] ∧
      t.rcv.nextId = s.rcv.nextId + 1 ∧ t = { s with rcv := t.rcv, lnk := t.lnk }) ∧
    (∀ (k : Fin 4) (c : Fin 16) (d : List Byte), s.reconFor h.src = none → ∃ t, exec (.recReconRsp h k c d) s = .next t ∧ t = { s with lnk := t.lnk } ∧ t.lnk.parts = s.lnk.parts) ∧
    (∀ (k : Fin 4) (c : Fin 16) (d : List Byte) (q : RReq × ReconS), s.reconFor h.src = some q → c.val < 15 → d.length = 4096 → ∃ t, exec (.recReconRsp h k c d) s = .next t ∧ t = { s with lnk := t.lnk, lace := { s.lace with acc := t.lace.acc } } ∧
      (∀ i, i < 4096 → tget zeroByte t.lace.acc (accKey q.2.set k (c.val * 4096 + i)) = tget zeroByte s.lace.acc (accKey q.2.set k (c.val * 4096 + i)) ^^^ d.getD i 0)) ∧
    (∀ (b : BitVec 192) (q : RReq × ReconS), s.reconFor h.src = some q → ∃ t, exec (.recReconEnd h b) s = .next t ∧ t.rcv.reqs.any (fun y => y.id = q.1.id && (y.recon.map (fun z => z.peers)) = some (q.2.peers.erase h.src.val)) = true ∧ t.lace = s.lace ∧ t = { s with rcv := t.rcv, lnk := t.lnk })) ∧
  (∀ (s : State) (h : LHdr) (l : Fin 2) (n : BitVec 16), s.xlOn = true → h.bcast = false → h.dst.val = s.linkMe → h.sseq.toNat = tget (fun _ => 0) s.lnk.exp (h.src.val * 2) → s.lnk.wait = [] →
    ∃ t, exec (.recAck h l n) s = .next t ∧ t.lnk.keep = s.lnk.keep.filter (fun k => !(!k.r.bcast && k.r.dst = h.src.val && recLane k.r.typ = l.val && seqUpTo k.r.sseq n.toNat)) ∧ t.lnk.tx = s.lnk.tx ∧ t.rot = s.rot)

/-- With the reflect port enabled on a standby, a record addressed to it and next in order is acknowledged and applied: a map update
waits for its line or hits it, and the highest passed sequence of its hoop is kept; hoop bytes 0x40 to 0x9B read as received; an
intent joins or leaves the mirrored list; a block set is marked bad; a stripe record is presented at the standby's own area;
offsets and trims read as received. One out of order changes nothing. An HB makes the peer UP. PEER_LOST sets SOLO, counts,
forgets what is kept and starts a takeover on a standby with AUTO_TKO. A takeover claims every channel, sets up each one granted
with its PHY in RUN and a READ_RETRAIN, and when none is left restores the hoops' states, joins the mirrored intents, sets
PRIMARY and TKO_TIME and raises TAKEOVER_DONE. A channel not granted is given up with TAKEOVER_FAIL. Completion (exec answers
next with the form's own effect, from these conditions alone) is stated for: recordReject, recHb, recMapUpd, recHoop, recIntent,
recBad, recStripeRec, recRef, recTrim, peerLost, takeover, takeoverFail. -/
def Obligations.ReflectionPairMirrorsAndTakesOver : Prop :=
  (∀ (s : State) (h : LHdr), s.xlOn = false → s.standby = true → s.lnk.wait = [] → h.bcast = false → h.dst.val = s.linkMe → ∀ q, q = tget (fun _ => 0) s.lnk.exp (h.src.val * 2 + 1) →
    (h.sseq.toNat ≠ q → ∀ (d : List Byte) (a : BitVec 32) (u : LMap), ∀ o ∈ [exec (.recMapUpd h [u]) s, exec (.recHoop h 0 d) s, exec (.recIntent h false 1) s, exec (.recBad h a) s, exec (.recStripeRec h d) s, exec (.recRef h 0 0) s, exec (.recTrim h 0 d) s], o = .next s) ∧
    (h.sseq.toNat = q → ∀ r, r = ({ typ := 2, src := s.linkMe, dst := h.src, sseq := tget (fun _ => 0) s.lnk.nseq 0, arg := 1, payload := leBytes 2 q } : LRec) →
      (∀ u : LMap, s.mapHas (u.tile.toNat / 16) = false → u.hoop ≠ 0xFF#8 → ∃ t, exec (.recMapUpd h [u]) s = .next t ∧ t.lnk.tx = r :: s.lnk.tx ∧ t.map.waiting = s.map.waiting ++ [.set u.tile.toNat u.addr.toNat] ∧ u.tile.toNat / 16 ∈ t.map.fills ∧
        ((tget (fun _ => (0, unmapped)) s.lnk.passed u.hoop.toNat).2 = unmapped ∨ (tget (fun _ => (0, unmapped)) s.lnk.passed u.hoop.toNat).1 ≤ u.seq.toNat → tget (fun _ => (0, unmapped)) t.lnk.passed u.hoop.toNat = (u.seq.toNat, u.addr.toNat)) ∧ t.chans = s.chans) ∧
      (∀ (k : Fin 64) (d : List Byte), d.length = 92 → s.memi.inj = none → ∃ t, exec (.recHoop h k d) s = .next t ∧ t.lnk.tx = r :: s.lnk.tx ∧ (∀ i, i < 92 → t.ctxGet (hctx k + 0x40 + i) 1 = (d.getD i 0).toNat) ∧ t.hoops = s.hoops ∧ t = { s with lnk := t.lnk, sram := t.sram, memi := t.memi }) ∧
      (∀ b : BitVec 352, ∀ x, x = bits b.toNat 0 32 →
        (∃ t, exec (.recIntent h true b) s = .next t ∧ t.lnk.tx = r :: s.lnk.tx ∧ (taCh x, taLun x, taBlk x) ∈ t.lnk.erased ∧ (tget (fun _ => []) t.lnk.intents (taCh x)).all (fun (y : Intent) => taSet y.taddr ≠ taSet x) = true ∧ t = { s with lnk := t.lnk }) ∧
        ((tget (fun _ => []) s.lnk.intents (taCh x)).length < 32 → ∃ t, exec (.recIntent h false b) s = .next t ∧ t.lnk.tx = r :: s.lnk.tx ∧ ⟨x, bits b.toNat 32 8, bits b.toNat 48 16⟩ ∈ tget (fun _ => []) t.lnk.intents (taCh x) ∧ t = { s with lnk := t.lnk })) ∧
      (∀ a : BitVec 32, s.bad 5 (winWord (badAt (taCh a.toNat) (taLun a.toNat) (taBlk a.toNat)).1) = false → s.memi.inj = none → ∃ t, exec (.recBad h a) s = .next t ∧ t.lnk.tx = r :: s.lnk.tx ∧ t.blkBad a.toNat = true ∧ t.chans = s.chans) ∧
      (∀ d : List Byte, d.length = 1024 → s.get R.LACE_REC_COUNT_CNT ≠ 0 → ∃ t, exec (.recStripeRec h d) s = .next t ∧ t.lnk.tx = r :: s.lnk.tx ∧
        t.mp = (s.mpWrite (recU d 4 4 % 2) 0 (s.get R.LACE_REC_BASE_HI_ADDR * 2 ^ 32 + s.get R.LACE_REC_BASE_LO_ADDR * 1024 + recU d 4 4 % s.get R.LACE_REC_COUNT_CNT * 1024) d (.stripeRec (recU d 4 4))).mp ∧ t = { s with lnk := t.lnk, mp := t.mp }) ∧
      (∀ (g : Fin 768) (o : BitVec 64), s.memi.inj = none → ∃ t, exec (.recRef h g o) s = .next t ∧ t.lnk.tx = r :: s.lnk.tx ∧ (∀ v, v < 8 → t.tracked (g / 16) (g % 16) v = sgn 8 (bits o.toNat (8 * v) 8)) ∧ t = { s with lnk := t.lnk, sram := t.sram, memi := t.memi }) ∧
      (∀ (n : Fin 48) (d : List Byte), s.powered (chDom n) = true → d.length = 256 → ∃ t, exec (.recTrim h n d) s = .next t ∧ t.lnk.tx = r :: s.lnk.tx ∧ t.get (R.CH_LANE_MAP_REQUEST n) = recU d 192 1 % 2 ^ (R.CH_LANE_MAP_REQUEST n).wid ∧
        t.get (R.CH_PHY_CTRL_N n) = recU d 193 1 % 2 ^ (R.CH_PHY_CTRL_N n).wid ∧ t.get (R.CH_PHY_CTRL_P n) = recU d 194 1 % 2 ^ (R.CH_PHY_CTRL_P n).wid ∧ (∀ c, c < 8 → tget (fun _ => {}) (t.ch n).phy.targets c = trimOf (tget (fun _ => {}) (s.ch n).phy.targets c) ((d.drop (24 * c)).take 24)) ∧
        (∀ c, c < 8 → bit (tget (fun _ => 0) t.lnk.ces n.val) c = !(((d.drop (24 * c)).take 24).all (fun y => y = 0))) ∧ (∀ k, k ≠ n.val → t.ch k = s.ch k)))) ∧
  (∀ (s : State) (h : LHdr) (x y : Bool) (z : BitVec 64), s.xlOn = false → s.rfOn = true → h.bcast = false → h.dst.val = s.linkMe → h.sseq.toNat = tget (fun _ => 0) s.lnk.exp (h.src.val * 2) →
    ∃ t, exec (.recHb h false x y z) s = .next t ∧ t.flag R.REFL_STATUS_PEER_UP = true ∧ t.flag R.REFL_STATUS_SOLO = false ∧ (s.flag R.REFL_STATUS_PEER_UP = false → t.event .refl 0 0 = true) ∧ t.lnk.tx = s.lnk.tx ∧ t = { s with regs := t.regs, pins := t.pins, lnk := t.lnk }) ∧
  (∀ s : State,
    (s.xlOn = false → s.rfOn = true → ∃ t, exec (.recordReject true) s = .next t ∧ t.get R.REFL_ERR_CNT_CNT = sat R.REFL_ERR_CNT_CNT.max (s.get R.REFL_ERR_CNT_CNT + 1) ∧ t.event .refl 0 5 = true ∧ (s.srcPresent 65 = true → t.flt.inflight = s.flt.inflight ++ [⟨65, 0#32, s.cyc, false⟩])) ∧
    (s.rfOn = false → exec .peerLost s = .next s ∧ exec .takeover s = .next s ∧ (∀ n, exec (.takeoverFail n) s = .next s)) ∧
    (s.lnk.tko = false → exec .takeover s = .next s) ∧
    (s.rfOn = true → s.flag R.REFL_STATUS_SOLO = true → s.lnk.held = [] → s.lace.stripes = [] → exec .peerLost s = .next { s with lnk := { s.lnk with keep := [], wait := [] } }) ∧
    (s.rfOn = true → s.flag R.REFL_STATUS_SOLO = false → ∃ t, exec .peerLost s = .next t ∧ t.flag R.REFL_STATUS_SOLO = true ∧ t.flag R.REFL_STATUS_PEER_UP = false ∧ t.event .refl 0 1 = true ∧ (s.srcPresent 66 = true → t.flt.inflight = s.flt.inflight ++ [⟨66, 0#32, s.cyc, false⟩]) ∧ t.lnk.keep = [] ∧ t.lnk.wait = [] ∧
      t.lnk.lostAt = s.cyc ∧ t.lnk.tko = (s.lnk.tko || (!s.flag R.REFL_CFG_PRIMARY && s.flag R.REFL_CFG_AUTO_TKO)) ∧ t.ext = s.ext)) ∧
  (∀ s : State, s.rfOn = true → s.lnk.tko = true →
    (s.lnk.tkoLeft = none → (List.range s.gen.nch).all (fun n => !(s.ch n).own.owned) = true → 0 < s.gen.nch → ∃ t, exec .takeover s = .next t ∧
      t.lnk = { s.lnk with tkoLeft := some (List.range s.gen.nch) } ∧
      (∀ n : Fin 48, t.ch n = if n.val < s.gen.nch then { s.ch n with own := { (s.ch n).own with want := true } } else s.ch n) ∧ t = { s with lnk := t.lnk, chans := t.chans }) ∧
    (∀ n : Fin 48, s.lnk.tkoLeft = some [n.val] → (s.ch n).own.want = true → (s.ch n).own.owned = true → n.val < s.gen.nch → s.presentCes n ≠ [] → ∃ t, exec .takeover s = .next t ∧ t.lnk.tkoLeft = some [] ∧ t.lnk.tko = true ∧
      t.get (R.CH_PHY_STAT_STATE n) = 2 ∧ t.get (R.CH_LANE_MAP_ACTIVE n) = s.get (R.CH_LANE_MAP_REQUEST n) % 2 ^ (R.CH_LANE_MAP_ACTIVE n).wid ∧
      (t.ch n).phy.cmd = some { kind := .retrain, left := s.presentCes n, all := s.presentCes n, tko := true } ∧ (∀ k, k ≠ n.val → t.ch k = s.ch k)) ∧
    (s.lnk.tkoLeft = some [] → (List.range s.gen.nch).any (fun n => (s.ch n).phy.cmd.any (fun c => c.tko)) = false → ∃ t, exec .takeover s = .next t ∧ t.flag R.REFL_CFG_PRIMARY = true ∧ t.get R.REFL_TKO_TIME_CYC = sat (2 ^ 32 - 1) (s.cyc - s.lnk.lostAt) ∧
      t.event .refl 0 2 = true ∧ t.lnk.tko = false ∧ t.lnk.tkoLeft = none ∧
      (∀ n : Fin 48, n.val < s.gen.nch → (t.ch n).own = (s.ch n).own ∧ (t.ch n).phy = (s.ch n).phy ∧
        ((s.ch n).ledg.intents.length + (tget (fun _ => []) s.lnk.intents n).length ≤ 32 → (tget (fun _ => []) s.lnk.intents n).all (fun i => decide (i ∈ (t.ch n).ledg.intents)) = true)) ∧
      (s.lnk.passed = [] → ∀ k : Fin 64, (s.hget k 0x84 1 % 8 = 1 → (t.hoop k).st = .armed) ∧ (s.hget k 0x84 1 % 8 = 2 → (t.hoop k).st = .frozen) ∧ (s.hget k 0x84 1 % 8 = 3 → (t.hoop k).st = .done) ∧ (s.hget k 0x84 1 % 8 = 4 → (t.hoop k).st = .overrun) ∧
        (s.hget k 0x84 1 % 8 = 0 → t.hoop k = s.hoop k)))) ∧
  (∀ (s : State) (n : Fin 48), s.rfOn = true →
    ((s.ch n).own.want = false ∨ (s.ch n).own.owned = true → exec (.takeoverFail n) s = .next s) ∧
    ((s.ch n).own.want = true → (s.ch n).own.owned = false → ∃ t, exec (.takeoverFail n) s = .next t ∧ t.ch n = { s.ch n with own := { (s.ch n).own with want := false, req := false } } ∧ (∀ k, k ≠ n.val → t.ch k = s.ch k) ∧ t.event .refl 0 3 = true ∧
      t.lnk = { s.lnk with tkoLeft := s.lnk.tkoLeft.map (fun l => l.erase n.val) } ∧ t = { s with regs := t.regs, pins := t.pins, chans := t.chans, lnk := t.lnk }))
end

