-- ==== Sys2Proof/Laws/State.lean ====
section
/-!
SUPPORT. Each basic update of State and each field: what the field is after the update, by rfl, so that no proof unfolds an update.
-/

namespace Sys2Proof.Machine

/-! ## angMap -/

@[simp] theorem State.angMap_pending (s : State) (f : AngS → AngS) : (s.angMap f).pending = s.pending := (rfl)
@[simp] theorem State.angMap_free (s : State) (f : AngS → AngS) : (s.angMap f).free = s.free := (rfl)
@[simp] theorem State.angMap_gen (s : State) (f : AngS → AngS) : (s.angMap f).gen = s.gen := (rfl)
@[simp] theorem State.angMap_cyc (s : State) (f : AngS → AngS) : (s.angMap f).cyc = s.cyc := (rfl)
@[simp] theorem State.angMap_cp (s : State) (f : AngS → AngS) : (s.angMap f).cp = s.cp := (rfl)
@[simp] theorem State.angMap_pins (s : State) (f : AngS → AngS) : (s.angMap f).pins = s.pins := (rfl)
@[simp] theorem State.angMap_regs (s : State) (f : AngS → AngS) : (s.angMap f).regs = s.regs := (rfl)
@[simp] theorem State.angMap_sram (s : State) (f : AngS → AngS) : (s.angMap f).sram = s.sram := (rfl)
@[simp] theorem State.angMap_epochs (s : State) (f : AngS → AngS) : (s.angMap f).epochs = s.epochs := (rfl)
@[simp] theorem State.angMap_ext (s : State) (f : AngS → AngS) : (s.angMap f).ext = s.ext := (rfl)
@[simp] theorem State.angMap_mp (s : State) (f : AngS → AngS) : (s.angMap f).mp = s.mp := (rfl)
@[simp] theorem State.angMap_pwr (s : State) (f : AngS → AngS) : (s.angMap f).pwr = s.pwr := (rfl)
@[simp] theorem State.angMap_flt (s : State) (f : AngS → AngS) : (s.angMap f).flt = s.flt := (rfl)
@[simp] theorem State.angMap_memi (s : State) (f : AngS → AngS) : (s.angMap f).memi = s.memi := (rfl)
@[simp] theorem State.angMap_ang (s : State) (f : AngS → AngS) : (s.angMap f).ang = f s.ang := (rfl)
@[simp] theorem State.angMap_rot (s : State) (f : AngS → AngS) : (s.angMap f).rot = s.rot := (rfl)
@[simp] theorem State.angMap_chans (s : State) (f : AngS → AngS) : (s.angMap f).chans = s.chans := (rfl)
@[simp] theorem State.angMap_luns (s : State) (f : AngS → AngS) : (s.angMap f).luns = s.luns := (rfl)
@[simp] theorem State.angMap_grps (s : State) (f : AngS → AngS) : (s.angMap f).grps = s.grps := (rfl)
@[simp] theorem State.angMap_tbuf (s : State) (f : AngS → AngS) : (s.angMap f).tbuf = s.tbuf := (rfl)
@[simp] theorem State.angMap_map (s : State) (f : AngS → AngS) : (s.angMap f).map = s.map := (rfl)
@[simp] theorem State.angMap_strms (s : State) (f : AngS → AngS) : (s.angMap f).strms = s.strms := (rfl)
@[simp] theorem State.angMap_hoops (s : State) (f : AngS → AngS) : (s.angMap f).hoops = s.hoops := (rfl)
@[simp] theorem State.angMap_lace (s : State) (f : AngS → AngS) : (s.angMap f).lace = s.lace := (rfl)
@[simp] theorem State.angMap_dec (s : State) (f : AngS → AngS) : (s.angMap f).dec = s.dec := (rfl)
@[simp] theorem State.angMap_rcv (s : State) (f : AngS → AngS) : (s.angMap f).rcv = s.rcv := (rfl)
@[simp] theorem State.angMap_lanes (s : State) (f : AngS → AngS) : (s.angMap f).lanes = s.lanes := (rfl)
@[simp] theorem State.angMap_spool (s : State) (f : AngS → AngS) : (s.angMap f).spool = s.spool := (rfl)
@[simp] theorem State.angMap_rng (s : State) (f : AngS → AngS) : (s.angMap f).rng = s.rng := (rfl)
@[simp] theorem State.angMap_lnk (s : State) (f : AngS → AngS) : (s.angMap f).lnk = s.lnk := (rfl)

/-! ## chMap -/

@[simp] theorem State.chMap_pending (s : State) (n : Nat) (f : ChS → ChS) : (s.chMap n f).pending = s.pending := (rfl)
@[simp] theorem State.chMap_free (s : State) (n : Nat) (f : ChS → ChS) : (s.chMap n f).free = s.free := (rfl)
@[simp] theorem State.chMap_gen (s : State) (n : Nat) (f : ChS → ChS) : (s.chMap n f).gen = s.gen := (rfl)
@[simp] theorem State.chMap_cyc (s : State) (n : Nat) (f : ChS → ChS) : (s.chMap n f).cyc = s.cyc := (rfl)
@[simp] theorem State.chMap_cp (s : State) (n : Nat) (f : ChS → ChS) : (s.chMap n f).cp = s.cp := (rfl)
@[simp] theorem State.chMap_pins (s : State) (n : Nat) (f : ChS → ChS) : (s.chMap n f).pins = s.pins := (rfl)
@[simp] theorem State.chMap_regs (s : State) (n : Nat) (f : ChS → ChS) : (s.chMap n f).regs = s.regs := (rfl)
@[simp] theorem State.chMap_sram (s : State) (n : Nat) (f : ChS → ChS) : (s.chMap n f).sram = s.sram := (rfl)
@[simp] theorem State.chMap_epochs (s : State) (n : Nat) (f : ChS → ChS) : (s.chMap n f).epochs = s.epochs := (rfl)
@[simp] theorem State.chMap_ext (s : State) (n : Nat) (f : ChS → ChS) : (s.chMap n f).ext = s.ext := (rfl)
@[simp] theorem State.chMap_mp (s : State) (n : Nat) (f : ChS → ChS) : (s.chMap n f).mp = s.mp := (rfl)
@[simp] theorem State.chMap_pwr (s : State) (n : Nat) (f : ChS → ChS) : (s.chMap n f).pwr = s.pwr := (rfl)
@[simp] theorem State.chMap_flt (s : State) (n : Nat) (f : ChS → ChS) : (s.chMap n f).flt = s.flt := (rfl)
@[simp] theorem State.chMap_memi (s : State) (n : Nat) (f : ChS → ChS) : (s.chMap n f).memi = s.memi := (rfl)
@[simp] theorem State.chMap_ang (s : State) (n : Nat) (f : ChS → ChS) : (s.chMap n f).ang = s.ang := (rfl)
@[simp] theorem State.chMap_rot (s : State) (n : Nat) (f : ChS → ChS) : (s.chMap n f).rot = s.rot := (rfl)
@[simp] theorem State.chMap_chans (s : State) (n : Nat) (f : ChS → ChS) : (s.chMap n f).chans = tmod (fun _ => {}) s.chans n f := (rfl)
@[simp] theorem State.chMap_luns (s : State) (n : Nat) (f : ChS → ChS) : (s.chMap n f).luns = s.luns := (rfl)
@[simp] theorem State.chMap_grps (s : State) (n : Nat) (f : ChS → ChS) : (s.chMap n f).grps = s.grps := (rfl)
@[simp] theorem State.chMap_tbuf (s : State) (n : Nat) (f : ChS → ChS) : (s.chMap n f).tbuf = s.tbuf := (rfl)
@[simp] theorem State.chMap_map (s : State) (n : Nat) (f : ChS → ChS) : (s.chMap n f).map = s.map := (rfl)
@[simp] theorem State.chMap_strms (s : State) (n : Nat) (f : ChS → ChS) : (s.chMap n f).strms = s.strms := (rfl)
@[simp] theorem State.chMap_hoops (s : State) (n : Nat) (f : ChS → ChS) : (s.chMap n f).hoops = s.hoops := (rfl)
@[simp] theorem State.chMap_lace (s : State) (n : Nat) (f : ChS → ChS) : (s.chMap n f).lace = s.lace := (rfl)
@[simp] theorem State.chMap_dec (s : State) (n : Nat) (f : ChS → ChS) : (s.chMap n f).dec = s.dec := (rfl)
@[simp] theorem State.chMap_rcv (s : State) (n : Nat) (f : ChS → ChS) : (s.chMap n f).rcv = s.rcv := (rfl)
@[simp] theorem State.chMap_lanes (s : State) (n : Nat) (f : ChS → ChS) : (s.chMap n f).lanes = s.lanes := (rfl)
@[simp] theorem State.chMap_spool (s : State) (n : Nat) (f : ChS → ChS) : (s.chMap n f).spool = s.spool := (rfl)
@[simp] theorem State.chMap_rng (s : State) (n : Nat) (f : ChS → ChS) : (s.chMap n f).rng = s.rng := (rfl)
@[simp] theorem State.chMap_lnk (s : State) (n : Nat) (f : ChS → ChS) : (s.chMap n f).lnk = s.lnk := (rfl)

/-! ## lunMap -/

@[simp] theorem State.lunMap_pending (s : State) (n l : Nat) (f : LunS → LunS) : (s.lunMap n l f).pending = s.pending := (rfl)
@[simp] theorem State.lunMap_free (s : State) (n l : Nat) (f : LunS → LunS) : (s.lunMap n l f).free = s.free := (rfl)
@[simp] theorem State.lunMap_gen (s : State) (n l : Nat) (f : LunS → LunS) : (s.lunMap n l f).gen = s.gen := (rfl)
@[simp] theorem State.lunMap_cyc (s : State) (n l : Nat) (f : LunS → LunS) : (s.lunMap n l f).cyc = s.cyc := (rfl)
@[simp] theorem State.lunMap_cp (s : State) (n l : Nat) (f : LunS → LunS) : (s.lunMap n l f).cp = s.cp := (rfl)
@[simp] theorem State.lunMap_pins (s : State) (n l : Nat) (f : LunS → LunS) : (s.lunMap n l f).pins = s.pins := (rfl)
@[simp] theorem State.lunMap_regs (s : State) (n l : Nat) (f : LunS → LunS) : (s.lunMap n l f).regs = s.regs := (rfl)
@[simp] theorem State.lunMap_sram (s : State) (n l : Nat) (f : LunS → LunS) : (s.lunMap n l f).sram = s.sram := (rfl)
@[simp] theorem State.lunMap_epochs (s : State) (n l : Nat) (f : LunS → LunS) : (s.lunMap n l f).epochs = s.epochs := (rfl)
@[simp] theorem State.lunMap_ext (s : State) (n l : Nat) (f : LunS → LunS) : (s.lunMap n l f).ext = s.ext := (rfl)
@[simp] theorem State.lunMap_mp (s : State) (n l : Nat) (f : LunS → LunS) : (s.lunMap n l f).mp = s.mp := (rfl)
@[simp] theorem State.lunMap_pwr (s : State) (n l : Nat) (f : LunS → LunS) : (s.lunMap n l f).pwr = s.pwr := (rfl)
@[simp] theorem State.lunMap_flt (s : State) (n l : Nat) (f : LunS → LunS) : (s.lunMap n l f).flt = s.flt := (rfl)
@[simp] theorem State.lunMap_memi (s : State) (n l : Nat) (f : LunS → LunS) : (s.lunMap n l f).memi = s.memi := (rfl)
@[simp] theorem State.lunMap_ang (s : State) (n l : Nat) (f : LunS → LunS) : (s.lunMap n l f).ang = s.ang := (rfl)
@[simp] theorem State.lunMap_rot (s : State) (n l : Nat) (f : LunS → LunS) : (s.lunMap n l f).rot = s.rot := (rfl)
@[simp] theorem State.lunMap_chans (s : State) (n l : Nat) (f : LunS → LunS) : (s.lunMap n l f).chans = s.chans := (rfl)
@[simp] theorem State.lunMap_luns (s : State) (n l : Nat) (f : LunS → LunS) : (s.lunMap n l f).luns = tmod (fun _ => {}) s.luns (n * 16 + l) f := (rfl)
@[simp] theorem State.lunMap_grps (s : State) (n l : Nat) (f : LunS → LunS) : (s.lunMap n l f).grps = s.grps := (rfl)
@[simp] theorem State.lunMap_tbuf (s : State) (n l : Nat) (f : LunS → LunS) : (s.lunMap n l f).tbuf = s.tbuf := (rfl)
@[simp] theorem State.lunMap_map (s : State) (n l : Nat) (f : LunS → LunS) : (s.lunMap n l f).map = s.map := (rfl)
@[simp] theorem State.lunMap_strms (s : State) (n l : Nat) (f : LunS → LunS) : (s.lunMap n l f).strms = s.strms := (rfl)
@[simp] theorem State.lunMap_hoops (s : State) (n l : Nat) (f : LunS → LunS) : (s.lunMap n l f).hoops = s.hoops := (rfl)
@[simp] theorem State.lunMap_lace (s : State) (n l : Nat) (f : LunS → LunS) : (s.lunMap n l f).lace = s.lace := (rfl)
@[simp] theorem State.lunMap_dec (s : State) (n l : Nat) (f : LunS → LunS) : (s.lunMap n l f).dec = s.dec := (rfl)
@[simp] theorem State.lunMap_rcv (s : State) (n l : Nat) (f : LunS → LunS) : (s.lunMap n l f).rcv = s.rcv := (rfl)
@[simp] theorem State.lunMap_lanes (s : State) (n l : Nat) (f : LunS → LunS) : (s.lunMap n l f).lanes = s.lanes := (rfl)
@[simp] theorem State.lunMap_spool (s : State) (n l : Nat) (f : LunS → LunS) : (s.lunMap n l f).spool = s.spool := (rfl)
@[simp] theorem State.lunMap_rng (s : State) (n l : Nat) (f : LunS → LunS) : (s.lunMap n l f).rng = s.rng := (rfl)
@[simp] theorem State.lunMap_lnk (s : State) (n l : Nat) (f : LunS → LunS) : (s.lunMap n l f).lnk = s.lnk := (rfl)

/-! ## grpMap -/

@[simp] theorem State.grpMap_pending (s : State) (g : Nat) (f : GrpS → GrpS) : (s.grpMap g f).pending = s.pending := (rfl)
@[simp] theorem State.grpMap_free (s : State) (g : Nat) (f : GrpS → GrpS) : (s.grpMap g f).free = s.free := (rfl)
@[simp] theorem State.grpMap_gen (s : State) (g : Nat) (f : GrpS → GrpS) : (s.grpMap g f).gen = s.gen := (rfl)
@[simp] theorem State.grpMap_cyc (s : State) (g : Nat) (f : GrpS → GrpS) : (s.grpMap g f).cyc = s.cyc := (rfl)
@[simp] theorem State.grpMap_cp (s : State) (g : Nat) (f : GrpS → GrpS) : (s.grpMap g f).cp = s.cp := (rfl)
@[simp] theorem State.grpMap_pins (s : State) (g : Nat) (f : GrpS → GrpS) : (s.grpMap g f).pins = s.pins := (rfl)
@[simp] theorem State.grpMap_regs (s : State) (g : Nat) (f : GrpS → GrpS) : (s.grpMap g f).regs = s.regs := (rfl)
@[simp] theorem State.grpMap_sram (s : State) (g : Nat) (f : GrpS → GrpS) : (s.grpMap g f).sram = s.sram := (rfl)
@[simp] theorem State.grpMap_epochs (s : State) (g : Nat) (f : GrpS → GrpS) : (s.grpMap g f).epochs = s.epochs := (rfl)
@[simp] theorem State.grpMap_ext (s : State) (g : Nat) (f : GrpS → GrpS) : (s.grpMap g f).ext = s.ext := (rfl)
@[simp] theorem State.grpMap_mp (s : State) (g : Nat) (f : GrpS → GrpS) : (s.grpMap g f).mp = s.mp := (rfl)
@[simp] theorem State.grpMap_pwr (s : State) (g : Nat) (f : GrpS → GrpS) : (s.grpMap g f).pwr = s.pwr := (rfl)
@[simp] theorem State.grpMap_flt (s : State) (g : Nat) (f : GrpS → GrpS) : (s.grpMap g f).flt = s.flt := (rfl)
@[simp] theorem State.grpMap_memi (s : State) (g : Nat) (f : GrpS → GrpS) : (s.grpMap g f).memi = s.memi := (rfl)
@[simp] theorem State.grpMap_ang (s : State) (g : Nat) (f : GrpS → GrpS) : (s.grpMap g f).ang = s.ang := (rfl)
@[simp] theorem State.grpMap_rot (s : State) (g : Nat) (f : GrpS → GrpS) : (s.grpMap g f).rot = s.rot := (rfl)
@[simp] theorem State.grpMap_chans (s : State) (g : Nat) (f : GrpS → GrpS) : (s.grpMap g f).chans = s.chans := (rfl)
@[simp] theorem State.grpMap_luns (s : State) (g : Nat) (f : GrpS → GrpS) : (s.grpMap g f).luns = s.luns := (rfl)
@[simp] theorem State.grpMap_grps (s : State) (g : Nat) (f : GrpS → GrpS) : (s.grpMap g f).grps = tmod (fun _ => {}) s.grps g f := (rfl)
@[simp] theorem State.grpMap_tbuf (s : State) (g : Nat) (f : GrpS → GrpS) : (s.grpMap g f).tbuf = s.tbuf := (rfl)
@[simp] theorem State.grpMap_map (s : State) (g : Nat) (f : GrpS → GrpS) : (s.grpMap g f).map = s.map := (rfl)
@[simp] theorem State.grpMap_strms (s : State) (g : Nat) (f : GrpS → GrpS) : (s.grpMap g f).strms = s.strms := (rfl)
@[simp] theorem State.grpMap_hoops (s : State) (g : Nat) (f : GrpS → GrpS) : (s.grpMap g f).hoops = s.hoops := (rfl)
@[simp] theorem State.grpMap_lace (s : State) (g : Nat) (f : GrpS → GrpS) : (s.grpMap g f).lace = s.lace := (rfl)
@[simp] theorem State.grpMap_dec (s : State) (g : Nat) (f : GrpS → GrpS) : (s.grpMap g f).dec = s.dec := (rfl)
@[simp] theorem State.grpMap_rcv (s : State) (g : Nat) (f : GrpS → GrpS) : (s.grpMap g f).rcv = s.rcv := (rfl)
@[simp] theorem State.grpMap_lanes (s : State) (g : Nat) (f : GrpS → GrpS) : (s.grpMap g f).lanes = s.lanes := (rfl)
@[simp] theorem State.grpMap_spool (s : State) (g : Nat) (f : GrpS → GrpS) : (s.grpMap g f).spool = s.spool := (rfl)
@[simp] theorem State.grpMap_rng (s : State) (g : Nat) (f : GrpS → GrpS) : (s.grpMap g f).rng = s.rng := (rfl)
@[simp] theorem State.grpMap_lnk (s : State) (g : Nat) (f : GrpS → GrpS) : (s.grpMap g f).lnk = s.lnk := (rfl)

/-! ## hoopMap -/

@[simp] theorem State.hoopMap_pending (s : State) (h : Nat) (f : HoopS → HoopS) : (s.hoopMap h f).pending = s.pending := (rfl)
@[simp] theorem State.hoopMap_free (s : State) (h : Nat) (f : HoopS → HoopS) : (s.hoopMap h f).free = s.free := (rfl)
@[simp] theorem State.hoopMap_gen (s : State) (h : Nat) (f : HoopS → HoopS) : (s.hoopMap h f).gen = s.gen := (rfl)
@[simp] theorem State.hoopMap_cyc (s : State) (h : Nat) (f : HoopS → HoopS) : (s.hoopMap h f).cyc = s.cyc := (rfl)
@[simp] theorem State.hoopMap_cp (s : State) (h : Nat) (f : HoopS → HoopS) : (s.hoopMap h f).cp = s.cp := (rfl)
@[simp] theorem State.hoopMap_pins (s : State) (h : Nat) (f : HoopS → HoopS) : (s.hoopMap h f).pins = s.pins := (rfl)
@[simp] theorem State.hoopMap_regs (s : State) (h : Nat) (f : HoopS → HoopS) : (s.hoopMap h f).regs = s.regs := (rfl)
@[simp] theorem State.hoopMap_sram (s : State) (h : Nat) (f : HoopS → HoopS) : (s.hoopMap h f).sram = s.sram := (rfl)
@[simp] theorem State.hoopMap_epochs (s : State) (h : Nat) (f : HoopS → HoopS) : (s.hoopMap h f).epochs = s.epochs := (rfl)
@[simp] theorem State.hoopMap_ext (s : State) (h : Nat) (f : HoopS → HoopS) : (s.hoopMap h f).ext = s.ext := (rfl)
@[simp] theorem State.hoopMap_mp (s : State) (h : Nat) (f : HoopS → HoopS) : (s.hoopMap h f).mp = s.mp := (rfl)
@[simp] theorem State.hoopMap_pwr (s : State) (h : Nat) (f : HoopS → HoopS) : (s.hoopMap h f).pwr = s.pwr := (rfl)
@[simp] theorem State.hoopMap_flt (s : State) (h : Nat) (f : HoopS → HoopS) : (s.hoopMap h f).flt = s.flt := (rfl)
@[simp] theorem State.hoopMap_memi (s : State) (h : Nat) (f : HoopS → HoopS) : (s.hoopMap h f).memi = s.memi := (rfl)
@[simp] theorem State.hoopMap_ang (s : State) (h : Nat) (f : HoopS → HoopS) : (s.hoopMap h f).ang = s.ang := (rfl)
@[simp] theorem State.hoopMap_rot (s : State) (h : Nat) (f : HoopS → HoopS) : (s.hoopMap h f).rot = s.rot := (rfl)
@[simp] theorem State.hoopMap_chans (s : State) (h : Nat) (f : HoopS → HoopS) : (s.hoopMap h f).chans = s.chans := (rfl)
@[simp] theorem State.hoopMap_luns (s : State) (h : Nat) (f : HoopS → HoopS) : (s.hoopMap h f).luns = s.luns := (rfl)
@[simp] theorem State.hoopMap_grps (s : State) (h : Nat) (f : HoopS → HoopS) : (s.hoopMap h f).grps = s.grps := (rfl)
@[simp] theorem State.hoopMap_tbuf (s : State) (h : Nat) (f : HoopS → HoopS) : (s.hoopMap h f).tbuf = s.tbuf := (rfl)
@[simp] theorem State.hoopMap_map (s : State) (h : Nat) (f : HoopS → HoopS) : (s.hoopMap h f).map = s.map := (rfl)
@[simp] theorem State.hoopMap_strms (s : State) (h : Nat) (f : HoopS → HoopS) : (s.hoopMap h f).strms = s.strms := (rfl)
@[simp] theorem State.hoopMap_hoops (s : State) (h : Nat) (f : HoopS → HoopS) : (s.hoopMap h f).hoops = tmod (fun _ => {}) s.hoops h f := (rfl)
@[simp] theorem State.hoopMap_lace (s : State) (h : Nat) (f : HoopS → HoopS) : (s.hoopMap h f).lace = s.lace := (rfl)
@[simp] theorem State.hoopMap_dec (s : State) (h : Nat) (f : HoopS → HoopS) : (s.hoopMap h f).dec = s.dec := (rfl)
@[simp] theorem State.hoopMap_rcv (s : State) (h : Nat) (f : HoopS → HoopS) : (s.hoopMap h f).rcv = s.rcv := (rfl)
@[simp] theorem State.hoopMap_lanes (s : State) (h : Nat) (f : HoopS → HoopS) : (s.hoopMap h f).lanes = s.lanes := (rfl)
@[simp] theorem State.hoopMap_spool (s : State) (h : Nat) (f : HoopS → HoopS) : (s.hoopMap h f).spool = s.spool := (rfl)
@[simp] theorem State.hoopMap_rng (s : State) (h : Nat) (f : HoopS → HoopS) : (s.hoopMap h f).rng = s.rng := (rfl)
@[simp] theorem State.hoopMap_lnk (s : State) (h : Nat) (f : HoopS → HoopS) : (s.hoopMap h f).lnk = s.lnk := (rfl)

/-! ## laceMap -/

@[simp] theorem State.laceMap_pending (s : State) (f : LaceS → LaceS) : (s.laceMap f).pending = s.pending := (rfl)
@[simp] theorem State.laceMap_free (s : State) (f : LaceS → LaceS) : (s.laceMap f).free = s.free := (rfl)
@[simp] theorem State.laceMap_gen (s : State) (f : LaceS → LaceS) : (s.laceMap f).gen = s.gen := (rfl)
@[simp] theorem State.laceMap_cyc (s : State) (f : LaceS → LaceS) : (s.laceMap f).cyc = s.cyc := (rfl)
@[simp] theorem State.laceMap_cp (s : State) (f : LaceS → LaceS) : (s.laceMap f).cp = s.cp := (rfl)
@[simp] theorem State.laceMap_pins (s : State) (f : LaceS → LaceS) : (s.laceMap f).pins = s.pins := (rfl)
@[simp] theorem State.laceMap_regs (s : State) (f : LaceS → LaceS) : (s.laceMap f).regs = s.regs := (rfl)
@[simp] theorem State.laceMap_sram (s : State) (f : LaceS → LaceS) : (s.laceMap f).sram = s.sram := (rfl)
@[simp] theorem State.laceMap_epochs (s : State) (f : LaceS → LaceS) : (s.laceMap f).epochs = s.epochs := (rfl)
@[simp] theorem State.laceMap_ext (s : State) (f : LaceS → LaceS) : (s.laceMap f).ext = s.ext := (rfl)
@[simp] theorem State.laceMap_mp (s : State) (f : LaceS → LaceS) : (s.laceMap f).mp = s.mp := (rfl)
@[simp] theorem State.laceMap_pwr (s : State) (f : LaceS → LaceS) : (s.laceMap f).pwr = s.pwr := (rfl)
@[simp] theorem State.laceMap_flt (s : State) (f : LaceS → LaceS) : (s.laceMap f).flt = s.flt := (rfl)
@[simp] theorem State.laceMap_memi (s : State) (f : LaceS → LaceS) : (s.laceMap f).memi = s.memi := (rfl)
@[simp] theorem State.laceMap_ang (s : State) (f : LaceS → LaceS) : (s.laceMap f).ang = s.ang := (rfl)
@[simp] theorem State.laceMap_rot (s : State) (f : LaceS → LaceS) : (s.laceMap f).rot = s.rot := (rfl)
@[simp] theorem State.laceMap_chans (s : State) (f : LaceS → LaceS) : (s.laceMap f).chans = s.chans := (rfl)
@[simp] theorem State.laceMap_luns (s : State) (f : LaceS → LaceS) : (s.laceMap f).luns = s.luns := (rfl)
@[simp] theorem State.laceMap_grps (s : State) (f : LaceS → LaceS) : (s.laceMap f).grps = s.grps := (rfl)
@[simp] theorem State.laceMap_tbuf (s : State) (f : LaceS → LaceS) : (s.laceMap f).tbuf = s.tbuf := (rfl)
@[simp] theorem State.laceMap_map (s : State) (f : LaceS → LaceS) : (s.laceMap f).map = s.map := (rfl)
@[simp] theorem State.laceMap_strms (s : State) (f : LaceS → LaceS) : (s.laceMap f).strms = s.strms := (rfl)
@[simp] theorem State.laceMap_hoops (s : State) (f : LaceS → LaceS) : (s.laceMap f).hoops = s.hoops := (rfl)
@[simp] theorem State.laceMap_lace (s : State) (f : LaceS → LaceS) : (s.laceMap f).lace = f s.lace := (rfl)
@[simp] theorem State.laceMap_dec (s : State) (f : LaceS → LaceS) : (s.laceMap f).dec = s.dec := (rfl)
@[simp] theorem State.laceMap_rcv (s : State) (f : LaceS → LaceS) : (s.laceMap f).rcv = s.rcv := (rfl)
@[simp] theorem State.laceMap_lanes (s : State) (f : LaceS → LaceS) : (s.laceMap f).lanes = s.lanes := (rfl)
@[simp] theorem State.laceMap_spool (s : State) (f : LaceS → LaceS) : (s.laceMap f).spool = s.spool := (rfl)
@[simp] theorem State.laceMap_rng (s : State) (f : LaceS → LaceS) : (s.laceMap f).rng = s.rng := (rfl)
@[simp] theorem State.laceMap_lnk (s : State) (f : LaceS → LaceS) : (s.laceMap f).lnk = s.lnk := (rfl)

/-! ## lnkMap -/

@[simp] theorem State.lnkMap_pending (s : State) (f : LinkS → LinkS) : (s.lnkMap f).pending = s.pending := (rfl)
@[simp] theorem State.lnkMap_free (s : State) (f : LinkS → LinkS) : (s.lnkMap f).free = s.free := (rfl)
@[simp] theorem State.lnkMap_gen (s : State) (f : LinkS → LinkS) : (s.lnkMap f).gen = s.gen := (rfl)
@[simp] theorem State.lnkMap_cyc (s : State) (f : LinkS → LinkS) : (s.lnkMap f).cyc = s.cyc := (rfl)
@[simp] theorem State.lnkMap_cp (s : State) (f : LinkS → LinkS) : (s.lnkMap f).cp = s.cp := (rfl)
@[simp] theorem State.lnkMap_pins (s : State) (f : LinkS → LinkS) : (s.lnkMap f).pins = s.pins := (rfl)
@[simp] theorem State.lnkMap_regs (s : State) (f : LinkS → LinkS) : (s.lnkMap f).regs = s.regs := (rfl)
@[simp] theorem State.lnkMap_sram (s : State) (f : LinkS → LinkS) : (s.lnkMap f).sram = s.sram := (rfl)
@[simp] theorem State.lnkMap_epochs (s : State) (f : LinkS → LinkS) : (s.lnkMap f).epochs = s.epochs := (rfl)
@[simp] theorem State.lnkMap_ext (s : State) (f : LinkS → LinkS) : (s.lnkMap f).ext = s.ext := (rfl)
@[simp] theorem State.lnkMap_mp (s : State) (f : LinkS → LinkS) : (s.lnkMap f).mp = s.mp := (rfl)
@[simp] theorem State.lnkMap_pwr (s : State) (f : LinkS → LinkS) : (s.lnkMap f).pwr = s.pwr := (rfl)
@[simp] theorem State.lnkMap_flt (s : State) (f : LinkS → LinkS) : (s.lnkMap f).flt = s.flt := (rfl)
@[simp] theorem State.lnkMap_memi (s : State) (f : LinkS → LinkS) : (s.lnkMap f).memi = s.memi := (rfl)
@[simp] theorem State.lnkMap_ang (s : State) (f : LinkS → LinkS) : (s.lnkMap f).ang = s.ang := (rfl)
@[simp] theorem State.lnkMap_rot (s : State) (f : LinkS → LinkS) : (s.lnkMap f).rot = s.rot := (rfl)
@[simp] theorem State.lnkMap_chans (s : State) (f : LinkS → LinkS) : (s.lnkMap f).chans = s.chans := (rfl)
@[simp] theorem State.lnkMap_luns (s : State) (f : LinkS → LinkS) : (s.lnkMap f).luns = s.luns := (rfl)
@[simp] theorem State.lnkMap_grps (s : State) (f : LinkS → LinkS) : (s.lnkMap f).grps = s.grps := (rfl)
@[simp] theorem State.lnkMap_tbuf (s : State) (f : LinkS → LinkS) : (s.lnkMap f).tbuf = s.tbuf := (rfl)
@[simp] theorem State.lnkMap_map (s : State) (f : LinkS → LinkS) : (s.lnkMap f).map = s.map := (rfl)
@[simp] theorem State.lnkMap_strms (s : State) (f : LinkS → LinkS) : (s.lnkMap f).strms = s.strms := (rfl)
@[simp] theorem State.lnkMap_hoops (s : State) (f : LinkS → LinkS) : (s.lnkMap f).hoops = s.hoops := (rfl)
@[simp] theorem State.lnkMap_lace (s : State) (f : LinkS → LinkS) : (s.lnkMap f).lace = s.lace := (rfl)
@[simp] theorem State.lnkMap_dec (s : State) (f : LinkS → LinkS) : (s.lnkMap f).dec = s.dec := (rfl)
@[simp] theorem State.lnkMap_rcv (s : State) (f : LinkS → LinkS) : (s.lnkMap f).rcv = s.rcv := (rfl)
@[simp] theorem State.lnkMap_lanes (s : State) (f : LinkS → LinkS) : (s.lnkMap f).lanes = s.lanes := (rfl)
@[simp] theorem State.lnkMap_spool (s : State) (f : LinkS → LinkS) : (s.lnkMap f).spool = s.spool := (rfl)
@[simp] theorem State.lnkMap_rng (s : State) (f : LinkS → LinkS) : (s.lnkMap f).rng = s.rng := (rfl)
@[simp] theorem State.lnkMap_lnk (s : State) (f : LinkS → LinkS) : (s.lnkMap f).lnk = f s.lnk := (rfl)

/-! ## mapMap -/

@[simp] theorem State.mapMap_pending (s : State) (f : MapS → MapS) : (s.mapMap f).pending = s.pending := (rfl)
@[simp] theorem State.mapMap_free (s : State) (f : MapS → MapS) : (s.mapMap f).free = s.free := (rfl)
@[simp] theorem State.mapMap_gen (s : State) (f : MapS → MapS) : (s.mapMap f).gen = s.gen := (rfl)
@[simp] theorem State.mapMap_cyc (s : State) (f : MapS → MapS) : (s.mapMap f).cyc = s.cyc := (rfl)
@[simp] theorem State.mapMap_cp (s : State) (f : MapS → MapS) : (s.mapMap f).cp = s.cp := (rfl)
@[simp] theorem State.mapMap_pins (s : State) (f : MapS → MapS) : (s.mapMap f).pins = s.pins := (rfl)
@[simp] theorem State.mapMap_regs (s : State) (f : MapS → MapS) : (s.mapMap f).regs = s.regs := (rfl)
@[simp] theorem State.mapMap_sram (s : State) (f : MapS → MapS) : (s.mapMap f).sram = s.sram := (rfl)
@[simp] theorem State.mapMap_epochs (s : State) (f : MapS → MapS) : (s.mapMap f).epochs = s.epochs := (rfl)
@[simp] theorem State.mapMap_ext (s : State) (f : MapS → MapS) : (s.mapMap f).ext = s.ext := (rfl)
@[simp] theorem State.mapMap_mp (s : State) (f : MapS → MapS) : (s.mapMap f).mp = s.mp := (rfl)
@[simp] theorem State.mapMap_pwr (s : State) (f : MapS → MapS) : (s.mapMap f).pwr = s.pwr := (rfl)
@[simp] theorem State.mapMap_flt (s : State) (f : MapS → MapS) : (s.mapMap f).flt = s.flt := (rfl)
@[simp] theorem State.mapMap_memi (s : State) (f : MapS → MapS) : (s.mapMap f).memi = s.memi := (rfl)
@[simp] theorem State.mapMap_ang (s : State) (f : MapS → MapS) : (s.mapMap f).ang = s.ang := (rfl)
@[simp] theorem State.mapMap_rot (s : State) (f : MapS → MapS) : (s.mapMap f).rot = s.rot := (rfl)
@[simp] theorem State.mapMap_chans (s : State) (f : MapS → MapS) : (s.mapMap f).chans = s.chans := (rfl)
@[simp] theorem State.mapMap_luns (s : State) (f : MapS → MapS) : (s.mapMap f).luns = s.luns := (rfl)
@[simp] theorem State.mapMap_grps (s : State) (f : MapS → MapS) : (s.mapMap f).grps = s.grps := (rfl)
@[simp] theorem State.mapMap_tbuf (s : State) (f : MapS → MapS) : (s.mapMap f).tbuf = s.tbuf := (rfl)
@[simp] theorem State.mapMap_map (s : State) (f : MapS → MapS) : (s.mapMap f).map = f s.map := (rfl)
@[simp] theorem State.mapMap_strms (s : State) (f : MapS → MapS) : (s.mapMap f).strms = s.strms := (rfl)
@[simp] theorem State.mapMap_hoops (s : State) (f : MapS → MapS) : (s.mapMap f).hoops = s.hoops := (rfl)
@[simp] theorem State.mapMap_lace (s : State) (f : MapS → MapS) : (s.mapMap f).lace = s.lace := (rfl)
@[simp] theorem State.mapMap_dec (s : State) (f : MapS → MapS) : (s.mapMap f).dec = s.dec := (rfl)
@[simp] theorem State.mapMap_rcv (s : State) (f : MapS → MapS) : (s.mapMap f).rcv = s.rcv := (rfl)
@[simp] theorem State.mapMap_lanes (s : State) (f : MapS → MapS) : (s.mapMap f).lanes = s.lanes := (rfl)
@[simp] theorem State.mapMap_spool (s : State) (f : MapS → MapS) : (s.mapMap f).spool = s.spool := (rfl)
@[simp] theorem State.mapMap_rng (s : State) (f : MapS → MapS) : (s.mapMap f).rng = s.rng := (rfl)
@[simp] theorem State.mapMap_lnk (s : State) (f : MapS → MapS) : (s.mapMap f).lnk = s.lnk := (rfl)

/-! ## decMap -/

@[simp] theorem State.decMap_pending (s : State) (f : DecS → DecS) : (s.decMap f).pending = s.pending := (rfl)
@[simp] theorem State.decMap_free (s : State) (f : DecS → DecS) : (s.decMap f).free = s.free := (rfl)
@[simp] theorem State.decMap_gen (s : State) (f : DecS → DecS) : (s.decMap f).gen = s.gen := (rfl)
@[simp] theorem State.decMap_cyc (s : State) (f : DecS → DecS) : (s.decMap f).cyc = s.cyc := (rfl)
@[simp] theorem State.decMap_cp (s : State) (f : DecS → DecS) : (s.decMap f).cp = s.cp := (rfl)
@[simp] theorem State.decMap_pins (s : State) (f : DecS → DecS) : (s.decMap f).pins = s.pins := (rfl)
@[simp] theorem State.decMap_regs (s : State) (f : DecS → DecS) : (s.decMap f).regs = s.regs := (rfl)
@[simp] theorem State.decMap_sram (s : State) (f : DecS → DecS) : (s.decMap f).sram = s.sram := (rfl)
@[simp] theorem State.decMap_epochs (s : State) (f : DecS → DecS) : (s.decMap f).epochs = s.epochs := (rfl)
@[simp] theorem State.decMap_ext (s : State) (f : DecS → DecS) : (s.decMap f).ext = s.ext := (rfl)
@[simp] theorem State.decMap_mp (s : State) (f : DecS → DecS) : (s.decMap f).mp = s.mp := (rfl)
@[simp] theorem State.decMap_pwr (s : State) (f : DecS → DecS) : (s.decMap f).pwr = s.pwr := (rfl)
@[simp] theorem State.decMap_flt (s : State) (f : DecS → DecS) : (s.decMap f).flt = s.flt := (rfl)
@[simp] theorem State.decMap_memi (s : State) (f : DecS → DecS) : (s.decMap f).memi = s.memi := (rfl)
@[simp] theorem State.decMap_ang (s : State) (f : DecS → DecS) : (s.decMap f).ang = s.ang := (rfl)
@[simp] theorem State.decMap_rot (s : State) (f : DecS → DecS) : (s.decMap f).rot = s.rot := (rfl)
@[simp] theorem State.decMap_chans (s : State) (f : DecS → DecS) : (s.decMap f).chans = s.chans := (rfl)
@[simp] theorem State.decMap_luns (s : State) (f : DecS → DecS) : (s.decMap f).luns = s.luns := (rfl)
@[simp] theorem State.decMap_grps (s : State) (f : DecS → DecS) : (s.decMap f).grps = s.grps := (rfl)
@[simp] theorem State.decMap_tbuf (s : State) (f : DecS → DecS) : (s.decMap f).tbuf = s.tbuf := (rfl)
@[simp] theorem State.decMap_map (s : State) (f : DecS → DecS) : (s.decMap f).map = s.map := (rfl)
@[simp] theorem State.decMap_strms (s : State) (f : DecS → DecS) : (s.decMap f).strms = s.strms := (rfl)
@[simp] theorem State.decMap_hoops (s : State) (f : DecS → DecS) : (s.decMap f).hoops = s.hoops := (rfl)
@[simp] theorem State.decMap_lace (s : State) (f : DecS → DecS) : (s.decMap f).lace = s.lace := (rfl)
@[simp] theorem State.decMap_dec (s : State) (f : DecS → DecS) : (s.decMap f).dec = f s.dec := (rfl)
@[simp] theorem State.decMap_rcv (s : State) (f : DecS → DecS) : (s.decMap f).rcv = s.rcv := (rfl)
@[simp] theorem State.decMap_lanes (s : State) (f : DecS → DecS) : (s.decMap f).lanes = s.lanes := (rfl)
@[simp] theorem State.decMap_spool (s : State) (f : DecS → DecS) : (s.decMap f).spool = s.spool := (rfl)
@[simp] theorem State.decMap_rng (s : State) (f : DecS → DecS) : (s.decMap f).rng = s.rng := (rfl)
@[simp] theorem State.decMap_lnk (s : State) (f : DecS → DecS) : (s.decMap f).lnk = s.lnk := (rfl)

/-! ## rcvMap -/

@[simp] theorem State.rcvMap_pending (s : State) (f : RecS → RecS) : (s.rcvMap f).pending = s.pending := (rfl)
@[simp] theorem State.rcvMap_free (s : State) (f : RecS → RecS) : (s.rcvMap f).free = s.free := (rfl)
@[simp] theorem State.rcvMap_gen (s : State) (f : RecS → RecS) : (s.rcvMap f).gen = s.gen := (rfl)
@[simp] theorem State.rcvMap_cyc (s : State) (f : RecS → RecS) : (s.rcvMap f).cyc = s.cyc := (rfl)
@[simp] theorem State.rcvMap_cp (s : State) (f : RecS → RecS) : (s.rcvMap f).cp = s.cp := (rfl)
@[simp] theorem State.rcvMap_pins (s : State) (f : RecS → RecS) : (s.rcvMap f).pins = s.pins := (rfl)
@[simp] theorem State.rcvMap_regs (s : State) (f : RecS → RecS) : (s.rcvMap f).regs = s.regs := (rfl)
@[simp] theorem State.rcvMap_sram (s : State) (f : RecS → RecS) : (s.rcvMap f).sram = s.sram := (rfl)
@[simp] theorem State.rcvMap_epochs (s : State) (f : RecS → RecS) : (s.rcvMap f).epochs = s.epochs := (rfl)
@[simp] theorem State.rcvMap_ext (s : State) (f : RecS → RecS) : (s.rcvMap f).ext = s.ext := (rfl)
@[simp] theorem State.rcvMap_mp (s : State) (f : RecS → RecS) : (s.rcvMap f).mp = s.mp := (rfl)
@[simp] theorem State.rcvMap_pwr (s : State) (f : RecS → RecS) : (s.rcvMap f).pwr = s.pwr := (rfl)
@[simp] theorem State.rcvMap_flt (s : State) (f : RecS → RecS) : (s.rcvMap f).flt = s.flt := (rfl)
@[simp] theorem State.rcvMap_memi (s : State) (f : RecS → RecS) : (s.rcvMap f).memi = s.memi := (rfl)
@[simp] theorem State.rcvMap_ang (s : State) (f : RecS → RecS) : (s.rcvMap f).ang = s.ang := (rfl)
@[simp] theorem State.rcvMap_rot (s : State) (f : RecS → RecS) : (s.rcvMap f).rot = s.rot := (rfl)
@[simp] theorem State.rcvMap_chans (s : State) (f : RecS → RecS) : (s.rcvMap f).chans = s.chans := (rfl)
@[simp] theorem State.rcvMap_luns (s : State) (f : RecS → RecS) : (s.rcvMap f).luns = s.luns := (rfl)
@[simp] theorem State.rcvMap_grps (s : State) (f : RecS → RecS) : (s.rcvMap f).grps = s.grps := (rfl)
@[simp] theorem State.rcvMap_tbuf (s : State) (f : RecS → RecS) : (s.rcvMap f).tbuf = s.tbuf := (rfl)
@[simp] theorem State.rcvMap_map (s : State) (f : RecS → RecS) : (s.rcvMap f).map = s.map := (rfl)
@[simp] theorem State.rcvMap_strms (s : State) (f : RecS → RecS) : (s.rcvMap f).strms = s.strms := (rfl)
@[simp] theorem State.rcvMap_hoops (s : State) (f : RecS → RecS) : (s.rcvMap f).hoops = s.hoops := (rfl)
@[simp] theorem State.rcvMap_lace (s : State) (f : RecS → RecS) : (s.rcvMap f).lace = s.lace := (rfl)
@[simp] theorem State.rcvMap_dec (s : State) (f : RecS → RecS) : (s.rcvMap f).dec = s.dec := (rfl)
@[simp] theorem State.rcvMap_rcv (s : State) (f : RecS → RecS) : (s.rcvMap f).rcv = f s.rcv := (rfl)
@[simp] theorem State.rcvMap_lanes (s : State) (f : RecS → RecS) : (s.rcvMap f).lanes = s.lanes := (rfl)
@[simp] theorem State.rcvMap_spool (s : State) (f : RecS → RecS) : (s.rcvMap f).spool = s.spool := (rfl)
@[simp] theorem State.rcvMap_rng (s : State) (f : RecS → RecS) : (s.rcvMap f).rng = s.rng := (rfl)
@[simp] theorem State.rcvMap_lnk (s : State) (f : RecS → RecS) : (s.rcvMap f).lnk = s.lnk := (rfl)

/-! ## rngMap -/

@[simp] theorem State.rngMap_pending (s : State) (f : RngS → RngS) : (s.rngMap f).pending = s.pending := (rfl)
@[simp] theorem State.rngMap_free (s : State) (f : RngS → RngS) : (s.rngMap f).free = s.free := (rfl)
@[simp] theorem State.rngMap_gen (s : State) (f : RngS → RngS) : (s.rngMap f).gen = s.gen := (rfl)
@[simp] theorem State.rngMap_cyc (s : State) (f : RngS → RngS) : (s.rngMap f).cyc = s.cyc := (rfl)
@[simp] theorem State.rngMap_cp (s : State) (f : RngS → RngS) : (s.rngMap f).cp = s.cp := (rfl)
@[simp] theorem State.rngMap_pins (s : State) (f : RngS → RngS) : (s.rngMap f).pins = s.pins := (rfl)
@[simp] theorem State.rngMap_regs (s : State) (f : RngS → RngS) : (s.rngMap f).regs = s.regs := (rfl)
@[simp] theorem State.rngMap_sram (s : State) (f : RngS → RngS) : (s.rngMap f).sram = s.sram := (rfl)
@[simp] theorem State.rngMap_epochs (s : State) (f : RngS → RngS) : (s.rngMap f).epochs = s.epochs := (rfl)
@[simp] theorem State.rngMap_ext (s : State) (f : RngS → RngS) : (s.rngMap f).ext = s.ext := (rfl)
@[simp] theorem State.rngMap_mp (s : State) (f : RngS → RngS) : (s.rngMap f).mp = s.mp := (rfl)
@[simp] theorem State.rngMap_pwr (s : State) (f : RngS → RngS) : (s.rngMap f).pwr = s.pwr := (rfl)
@[simp] theorem State.rngMap_flt (s : State) (f : RngS → RngS) : (s.rngMap f).flt = s.flt := (rfl)
@[simp] theorem State.rngMap_memi (s : State) (f : RngS → RngS) : (s.rngMap f).memi = s.memi := (rfl)
@[simp] theorem State.rngMap_ang (s : State) (f : RngS → RngS) : (s.rngMap f).ang = s.ang := (rfl)
@[simp] theorem State.rngMap_rot (s : State) (f : RngS → RngS) : (s.rngMap f).rot = s.rot := (rfl)
@[simp] theorem State.rngMap_chans (s : State) (f : RngS → RngS) : (s.rngMap f).chans = s.chans := (rfl)
@[simp] theorem State.rngMap_luns (s : State) (f : RngS → RngS) : (s.rngMap f).luns = s.luns := (rfl)
@[simp] theorem State.rngMap_grps (s : State) (f : RngS → RngS) : (s.rngMap f).grps = s.grps := (rfl)
@[simp] theorem State.rngMap_tbuf (s : State) (f : RngS → RngS) : (s.rngMap f).tbuf = s.tbuf := (rfl)
@[simp] theorem State.rngMap_map (s : State) (f : RngS → RngS) : (s.rngMap f).map = s.map := (rfl)
@[simp] theorem State.rngMap_strms (s : State) (f : RngS → RngS) : (s.rngMap f).strms = s.strms := (rfl)
@[simp] theorem State.rngMap_hoops (s : State) (f : RngS → RngS) : (s.rngMap f).hoops = s.hoops := (rfl)
@[simp] theorem State.rngMap_lace (s : State) (f : RngS → RngS) : (s.rngMap f).lace = s.lace := (rfl)
@[simp] theorem State.rngMap_dec (s : State) (f : RngS → RngS) : (s.rngMap f).dec = s.dec := (rfl)
@[simp] theorem State.rngMap_rcv (s : State) (f : RngS → RngS) : (s.rngMap f).rcv = s.rcv := (rfl)
@[simp] theorem State.rngMap_lanes (s : State) (f : RngS → RngS) : (s.rngMap f).lanes = s.lanes := (rfl)
@[simp] theorem State.rngMap_spool (s : State) (f : RngS → RngS) : (s.rngMap f).spool = s.spool := (rfl)
@[simp] theorem State.rngMap_rng (s : State) (f : RngS → RngS) : (s.rngMap f).rng = f s.rng := (rfl)
@[simp] theorem State.rngMap_lnk (s : State) (f : RngS → RngS) : (s.rngMap f).lnk = s.lnk := (rfl)

/-! ## rotMap -/

@[simp] theorem State.rotMap_pending (s : State) (f : RotS → RotS) : (s.rotMap f).pending = s.pending := (rfl)
@[simp] theorem State.rotMap_free (s : State) (f : RotS → RotS) : (s.rotMap f).free = s.free := (rfl)
@[simp] theorem State.rotMap_gen (s : State) (f : RotS → RotS) : (s.rotMap f).gen = s.gen := (rfl)
@[simp] theorem State.rotMap_cyc (s : State) (f : RotS → RotS) : (s.rotMap f).cyc = s.cyc := (rfl)
@[simp] theorem State.rotMap_cp (s : State) (f : RotS → RotS) : (s.rotMap f).cp = s.cp := (rfl)
@[simp] theorem State.rotMap_pins (s : State) (f : RotS → RotS) : (s.rotMap f).pins = s.pins := (rfl)
@[simp] theorem State.rotMap_regs (s : State) (f : RotS → RotS) : (s.rotMap f).regs = s.regs := (rfl)
@[simp] theorem State.rotMap_sram (s : State) (f : RotS → RotS) : (s.rotMap f).sram = s.sram := (rfl)
@[simp] theorem State.rotMap_epochs (s : State) (f : RotS → RotS) : (s.rotMap f).epochs = s.epochs := (rfl)
@[simp] theorem State.rotMap_ext (s : State) (f : RotS → RotS) : (s.rotMap f).ext = s.ext := (rfl)
@[simp] theorem State.rotMap_mp (s : State) (f : RotS → RotS) : (s.rotMap f).mp = s.mp := (rfl)
@[simp] theorem State.rotMap_pwr (s : State) (f : RotS → RotS) : (s.rotMap f).pwr = s.pwr := (rfl)
@[simp] theorem State.rotMap_flt (s : State) (f : RotS → RotS) : (s.rotMap f).flt = s.flt := (rfl)
@[simp] theorem State.rotMap_memi (s : State) (f : RotS → RotS) : (s.rotMap f).memi = s.memi := (rfl)
@[simp] theorem State.rotMap_ang (s : State) (f : RotS → RotS) : (s.rotMap f).ang = s.ang := (rfl)
@[simp] theorem State.rotMap_rot (s : State) (f : RotS → RotS) : (s.rotMap f).rot = f s.rot := (rfl)
@[simp] theorem State.rotMap_chans (s : State) (f : RotS → RotS) : (s.rotMap f).chans = s.chans := (rfl)
@[simp] theorem State.rotMap_luns (s : State) (f : RotS → RotS) : (s.rotMap f).luns = s.luns := (rfl)
@[simp] theorem State.rotMap_grps (s : State) (f : RotS → RotS) : (s.rotMap f).grps = s.grps := (rfl)
@[simp] theorem State.rotMap_tbuf (s : State) (f : RotS → RotS) : (s.rotMap f).tbuf = s.tbuf := (rfl)
@[simp] theorem State.rotMap_map (s : State) (f : RotS → RotS) : (s.rotMap f).map = s.map := (rfl)
@[simp] theorem State.rotMap_strms (s : State) (f : RotS → RotS) : (s.rotMap f).strms = s.strms := (rfl)
@[simp] theorem State.rotMap_hoops (s : State) (f : RotS → RotS) : (s.rotMap f).hoops = s.hoops := (rfl)
@[simp] theorem State.rotMap_lace (s : State) (f : RotS → RotS) : (s.rotMap f).lace = s.lace := (rfl)
@[simp] theorem State.rotMap_dec (s : State) (f : RotS → RotS) : (s.rotMap f).dec = s.dec := (rfl)
@[simp] theorem State.rotMap_rcv (s : State) (f : RotS → RotS) : (s.rotMap f).rcv = s.rcv := (rfl)
@[simp] theorem State.rotMap_lanes (s : State) (f : RotS → RotS) : (s.rotMap f).lanes = s.lanes := (rfl)
@[simp] theorem State.rotMap_spool (s : State) (f : RotS → RotS) : (s.rotMap f).spool = s.spool := (rfl)
@[simp] theorem State.rotMap_rng (s : State) (f : RotS → RotS) : (s.rotMap f).rng = s.rng := (rfl)
@[simp] theorem State.rotMap_lnk (s : State) (f : RotS → RotS) : (s.rotMap f).lnk = s.lnk := (rfl)

/-! ## srcMap -/

@[simp] theorem State.srcMap_pending (s : State) (n : Nat) (f : SrcS → SrcS) : (s.srcMap n f).pending = s.pending := (rfl)
@[simp] theorem State.srcMap_free (s : State) (n : Nat) (f : SrcS → SrcS) : (s.srcMap n f).free = s.free := (rfl)
@[simp] theorem State.srcMap_gen (s : State) (n : Nat) (f : SrcS → SrcS) : (s.srcMap n f).gen = s.gen := (rfl)
@[simp] theorem State.srcMap_cyc (s : State) (n : Nat) (f : SrcS → SrcS) : (s.srcMap n f).cyc = s.cyc := (rfl)
@[simp] theorem State.srcMap_cp (s : State) (n : Nat) (f : SrcS → SrcS) : (s.srcMap n f).cp = s.cp := (rfl)
@[simp] theorem State.srcMap_pins (s : State) (n : Nat) (f : SrcS → SrcS) : (s.srcMap n f).pins = s.pins := (rfl)
@[simp] theorem State.srcMap_regs (s : State) (n : Nat) (f : SrcS → SrcS) : (s.srcMap n f).regs = s.regs := (rfl)
@[simp] theorem State.srcMap_sram (s : State) (n : Nat) (f : SrcS → SrcS) : (s.srcMap n f).sram = s.sram := (rfl)
@[simp] theorem State.srcMap_epochs (s : State) (n : Nat) (f : SrcS → SrcS) : (s.srcMap n f).epochs = s.epochs := (rfl)
@[simp] theorem State.srcMap_ext (s : State) (n : Nat) (f : SrcS → SrcS) : (s.srcMap n f).ext = s.ext := (rfl)
@[simp] theorem State.srcMap_mp (s : State) (n : Nat) (f : SrcS → SrcS) : (s.srcMap n f).mp = s.mp := (rfl)
@[simp] theorem State.srcMap_pwr (s : State) (n : Nat) (f : SrcS → SrcS) : (s.srcMap n f).pwr = s.pwr := (rfl)
@[simp] theorem State.srcMap_memi (s : State) (n : Nat) (f : SrcS → SrcS) : (s.srcMap n f).memi = s.memi := (rfl)
@[simp] theorem State.srcMap_ang (s : State) (n : Nat) (f : SrcS → SrcS) : (s.srcMap n f).ang = s.ang := (rfl)
@[simp] theorem State.srcMap_rot (s : State) (n : Nat) (f : SrcS → SrcS) : (s.srcMap n f).rot = s.rot := (rfl)
@[simp] theorem State.srcMap_chans (s : State) (n : Nat) (f : SrcS → SrcS) : (s.srcMap n f).chans = s.chans := (rfl)
@[simp] theorem State.srcMap_luns (s : State) (n : Nat) (f : SrcS → SrcS) : (s.srcMap n f).luns = s.luns := (rfl)
@[simp] theorem State.srcMap_grps (s : State) (n : Nat) (f : SrcS → SrcS) : (s.srcMap n f).grps = s.grps := (rfl)
@[simp] theorem State.srcMap_tbuf (s : State) (n : Nat) (f : SrcS → SrcS) : (s.srcMap n f).tbuf = s.tbuf := (rfl)
@[simp] theorem State.srcMap_map (s : State) (n : Nat) (f : SrcS → SrcS) : (s.srcMap n f).map = s.map := (rfl)
@[simp] theorem State.srcMap_strms (s : State) (n : Nat) (f : SrcS → SrcS) : (s.srcMap n f).strms = s.strms := (rfl)
@[simp] theorem State.srcMap_hoops (s : State) (n : Nat) (f : SrcS → SrcS) : (s.srcMap n f).hoops = s.hoops := (rfl)
@[simp] theorem State.srcMap_lace (s : State) (n : Nat) (f : SrcS → SrcS) : (s.srcMap n f).lace = s.lace := (rfl)
@[simp] theorem State.srcMap_dec (s : State) (n : Nat) (f : SrcS → SrcS) : (s.srcMap n f).dec = s.dec := (rfl)
@[simp] theorem State.srcMap_rcv (s : State) (n : Nat) (f : SrcS → SrcS) : (s.srcMap n f).rcv = s.rcv := (rfl)
@[simp] theorem State.srcMap_lanes (s : State) (n : Nat) (f : SrcS → SrcS) : (s.srcMap n f).lanes = s.lanes := (rfl)
@[simp] theorem State.srcMap_spool (s : State) (n : Nat) (f : SrcS → SrcS) : (s.srcMap n f).spool = s.spool := (rfl)
@[simp] theorem State.srcMap_rng (s : State) (n : Nat) (f : SrcS → SrcS) : (s.srcMap n f).rng = s.rng := (rfl)
@[simp] theorem State.srcMap_lnk (s : State) (n : Nat) (f : SrcS → SrcS) : (s.srcMap n f).lnk = s.lnk := (rfl)

/-! ## domMap -/

@[simp] theorem State.domMap_pending (s : State) (d : Nat) (f : DomS → DomS) : (s.domMap d f).pending = s.pending := (rfl)
@[simp] theorem State.domMap_free (s : State) (d : Nat) (f : DomS → DomS) : (s.domMap d f).free = s.free := (rfl)
@[simp] theorem State.domMap_gen (s : State) (d : Nat) (f : DomS → DomS) : (s.domMap d f).gen = s.gen := (rfl)
@[simp] theorem State.domMap_cyc (s : State) (d : Nat) (f : DomS → DomS) : (s.domMap d f).cyc = s.cyc := (rfl)
@[simp] theorem State.domMap_cp (s : State) (d : Nat) (f : DomS → DomS) : (s.domMap d f).cp = s.cp := (rfl)
@[simp] theorem State.domMap_pins (s : State) (d : Nat) (f : DomS → DomS) : (s.domMap d f).pins = s.pins := (rfl)
@[simp] theorem State.domMap_regs (s : State) (d : Nat) (f : DomS → DomS) : (s.domMap d f).regs = s.regs := (rfl)
@[simp] theorem State.domMap_sram (s : State) (d : Nat) (f : DomS → DomS) : (s.domMap d f).sram = s.sram := (rfl)
@[simp] theorem State.domMap_epochs (s : State) (d : Nat) (f : DomS → DomS) : (s.domMap d f).epochs = s.epochs := (rfl)
@[simp] theorem State.domMap_ext (s : State) (d : Nat) (f : DomS → DomS) : (s.domMap d f).ext = s.ext := (rfl)
@[simp] theorem State.domMap_mp (s : State) (d : Nat) (f : DomS → DomS) : (s.domMap d f).mp = s.mp := (rfl)
@[simp] theorem State.domMap_flt (s : State) (d : Nat) (f : DomS → DomS) : (s.domMap d f).flt = s.flt := (rfl)
@[simp] theorem State.domMap_memi (s : State) (d : Nat) (f : DomS → DomS) : (s.domMap d f).memi = s.memi := (rfl)
@[simp] theorem State.domMap_ang (s : State) (d : Nat) (f : DomS → DomS) : (s.domMap d f).ang = s.ang := (rfl)
@[simp] theorem State.domMap_rot (s : State) (d : Nat) (f : DomS → DomS) : (s.domMap d f).rot = s.rot := (rfl)
@[simp] theorem State.domMap_chans (s : State) (d : Nat) (f : DomS → DomS) : (s.domMap d f).chans = s.chans := (rfl)
@[simp] theorem State.domMap_luns (s : State) (d : Nat) (f : DomS → DomS) : (s.domMap d f).luns = s.luns := (rfl)
@[simp] theorem State.domMap_grps (s : State) (d : Nat) (f : DomS → DomS) : (s.domMap d f).grps = s.grps := (rfl)
@[simp] theorem State.domMap_tbuf (s : State) (d : Nat) (f : DomS → DomS) : (s.domMap d f).tbuf = s.tbuf := (rfl)
@[simp] theorem State.domMap_map (s : State) (d : Nat) (f : DomS → DomS) : (s.domMap d f).map = s.map := (rfl)
@[simp] theorem State.domMap_strms (s : State) (d : Nat) (f : DomS → DomS) : (s.domMap d f).strms = s.strms := (rfl)
@[simp] theorem State.domMap_hoops (s : State) (d : Nat) (f : DomS → DomS) : (s.domMap d f).hoops = s.hoops := (rfl)
@[simp] theorem State.domMap_lace (s : State) (d : Nat) (f : DomS → DomS) : (s.domMap d f).lace = s.lace := (rfl)
@[simp] theorem State.domMap_dec (s : State) (d : Nat) (f : DomS → DomS) : (s.domMap d f).dec = s.dec := (rfl)
@[simp] theorem State.domMap_rcv (s : State) (d : Nat) (f : DomS → DomS) : (s.domMap d f).rcv = s.rcv := (rfl)
@[simp] theorem State.domMap_lanes (s : State) (d : Nat) (f : DomS → DomS) : (s.domMap d f).lanes = s.lanes := (rfl)
@[simp] theorem State.domMap_spool (s : State) (d : Nat) (f : DomS → DomS) : (s.domMap d f).spool = s.spool := (rfl)
@[simp] theorem State.domMap_rng (s : State) (d : Nat) (f : DomS → DomS) : (s.domMap d f).rng = s.rng := (rfl)
@[simp] theorem State.domMap_lnk (s : State) (d : Nat) (f : DomS → DomS) : (s.domMap d f).lnk = s.lnk := (rfl)

/-! ## laneMap -/

@[simp] theorem State.laneMap_pending (s : State) (n : Nat) (f : LaneS → LaneS) : (s.laneMap n f).pending = s.pending := (rfl)
@[simp] theorem State.laneMap_free (s : State) (n : Nat) (f : LaneS → LaneS) : (s.laneMap n f).free = s.free := (rfl)
@[simp] theorem State.laneMap_gen (s : State) (n : Nat) (f : LaneS → LaneS) : (s.laneMap n f).gen = s.gen := (rfl)
@[simp] theorem State.laneMap_cyc (s : State) (n : Nat) (f : LaneS → LaneS) : (s.laneMap n f).cyc = s.cyc := (rfl)
@[simp] theorem State.laneMap_cp (s : State) (n : Nat) (f : LaneS → LaneS) : (s.laneMap n f).cp = s.cp := (rfl)
@[simp] theorem State.laneMap_pins (s : State) (n : Nat) (f : LaneS → LaneS) : (s.laneMap n f).pins = s.pins := (rfl)
@[simp] theorem State.laneMap_regs (s : State) (n : Nat) (f : LaneS → LaneS) : (s.laneMap n f).regs = s.regs := (rfl)
@[simp] theorem State.laneMap_sram (s : State) (n : Nat) (f : LaneS → LaneS) : (s.laneMap n f).sram = s.sram := (rfl)
@[simp] theorem State.laneMap_epochs (s : State) (n : Nat) (f : LaneS → LaneS) : (s.laneMap n f).epochs = s.epochs := (rfl)
@[simp] theorem State.laneMap_ext (s : State) (n : Nat) (f : LaneS → LaneS) : (s.laneMap n f).ext = s.ext := (rfl)
@[simp] theorem State.laneMap_mp (s : State) (n : Nat) (f : LaneS → LaneS) : (s.laneMap n f).mp = s.mp := (rfl)
@[simp] theorem State.laneMap_pwr (s : State) (n : Nat) (f : LaneS → LaneS) : (s.laneMap n f).pwr = s.pwr := (rfl)
@[simp] theorem State.laneMap_flt (s : State) (n : Nat) (f : LaneS → LaneS) : (s.laneMap n f).flt = s.flt := (rfl)
@[simp] theorem State.laneMap_memi (s : State) (n : Nat) (f : LaneS → LaneS) : (s.laneMap n f).memi = s.memi := (rfl)
@[simp] theorem State.laneMap_ang (s : State) (n : Nat) (f : LaneS → LaneS) : (s.laneMap n f).ang = s.ang := (rfl)
@[simp] theorem State.laneMap_rot (s : State) (n : Nat) (f : LaneS → LaneS) : (s.laneMap n f).rot = s.rot := (rfl)
@[simp] theorem State.laneMap_chans (s : State) (n : Nat) (f : LaneS → LaneS) : (s.laneMap n f).chans = s.chans := (rfl)
@[simp] theorem State.laneMap_luns (s : State) (n : Nat) (f : LaneS → LaneS) : (s.laneMap n f).luns = s.luns := (rfl)
@[simp] theorem State.laneMap_grps (s : State) (n : Nat) (f : LaneS → LaneS) : (s.laneMap n f).grps = s.grps := (rfl)
@[simp] theorem State.laneMap_tbuf (s : State) (n : Nat) (f : LaneS → LaneS) : (s.laneMap n f).tbuf = s.tbuf := (rfl)
@[simp] theorem State.laneMap_map (s : State) (n : Nat) (f : LaneS → LaneS) : (s.laneMap n f).map = s.map := (rfl)
@[simp] theorem State.laneMap_strms (s : State) (n : Nat) (f : LaneS → LaneS) : (s.laneMap n f).strms = s.strms := (rfl)
@[simp] theorem State.laneMap_hoops (s : State) (n : Nat) (f : LaneS → LaneS) : (s.laneMap n f).hoops = s.hoops := (rfl)
@[simp] theorem State.laneMap_lace (s : State) (n : Nat) (f : LaneS → LaneS) : (s.laneMap n f).lace = s.lace := (rfl)
@[simp] theorem State.laneMap_dec (s : State) (n : Nat) (f : LaneS → LaneS) : (s.laneMap n f).dec = s.dec := (rfl)
@[simp] theorem State.laneMap_rcv (s : State) (n : Nat) (f : LaneS → LaneS) : (s.laneMap n f).rcv = s.rcv := (rfl)
@[simp] theorem State.laneMap_lanes (s : State) (n : Nat) (f : LaneS → LaneS) : (s.laneMap n f).lanes = tmod (fun _ => {}) s.lanes n f := (rfl)
@[simp] theorem State.laneMap_spool (s : State) (n : Nat) (f : LaneS → LaneS) : (s.laneMap n f).spool = s.spool := (rfl)
@[simp] theorem State.laneMap_rng (s : State) (n : Nat) (f : LaneS → LaneS) : (s.laneMap n f).rng = s.rng := (rfl)
@[simp] theorem State.laneMap_lnk (s : State) (n : Nat) (f : LaneS → LaneS) : (s.laneMap n f).lnk = s.lnk := (rfl)

/-! ## wr -/

@[simp] theorem State.wr_pending (s : State) (a : Nat) (v : Word) : (s.wr a v).pending = s.pending := (rfl)
@[simp] theorem State.wr_free (s : State) (a : Nat) (v : Word) : (s.wr a v).free = s.free := (rfl)
@[simp] theorem State.wr_gen (s : State) (a : Nat) (v : Word) : (s.wr a v).gen = s.gen := (rfl)
@[simp] theorem State.wr_cyc (s : State) (a : Nat) (v : Word) : (s.wr a v).cyc = s.cyc := (rfl)
@[simp] theorem State.wr_cp (s : State) (a : Nat) (v : Word) : (s.wr a v).cp = s.cp := (rfl)
@[simp] theorem State.wr_pins (s : State) (a : Nat) (v : Word) : (s.wr a v).pins = s.pins := (rfl)
@[simp] theorem State.wr_regs (s : State) (a : Nat) (v : Word) : (s.wr a v).regs = tput resetVal s.regs a v := (rfl)
@[simp] theorem State.wr_sram (s : State) (a : Nat) (v : Word) : (s.wr a v).sram = s.sram := (rfl)
@[simp] theorem State.wr_epochs (s : State) (a : Nat) (v : Word) : (s.wr a v).epochs = s.epochs := (rfl)
@[simp] theorem State.wr_ext (s : State) (a : Nat) (v : Word) : (s.wr a v).ext = s.ext := (rfl)
@[simp] theorem State.wr_mp (s : State) (a : Nat) (v : Word) : (s.wr a v).mp = s.mp := (rfl)
@[simp] theorem State.wr_pwr (s : State) (a : Nat) (v : Word) : (s.wr a v).pwr = s.pwr := (rfl)
@[simp] theorem State.wr_flt (s : State) (a : Nat) (v : Word) : (s.wr a v).flt = s.flt := (rfl)
@[simp] theorem State.wr_memi (s : State) (a : Nat) (v : Word) : (s.wr a v).memi = s.memi := (rfl)
@[simp] theorem State.wr_ang (s : State) (a : Nat) (v : Word) : (s.wr a v).ang = s.ang := (rfl)
@[simp] theorem State.wr_rot (s : State) (a : Nat) (v : Word) : (s.wr a v).rot = s.rot := (rfl)
@[simp] theorem State.wr_chans (s : State) (a : Nat) (v : Word) : (s.wr a v).chans = s.chans := (rfl)
@[simp] theorem State.wr_luns (s : State) (a : Nat) (v : Word) : (s.wr a v).luns = s.luns := (rfl)
@[simp] theorem State.wr_grps (s : State) (a : Nat) (v : Word) : (s.wr a v).grps = s.grps := (rfl)
@[simp] theorem State.wr_tbuf (s : State) (a : Nat) (v : Word) : (s.wr a v).tbuf = s.tbuf := (rfl)
@[simp] theorem State.wr_map (s : State) (a : Nat) (v : Word) : (s.wr a v).map = s.map := (rfl)
@[simp] theorem State.wr_strms (s : State) (a : Nat) (v : Word) : (s.wr a v).strms = s.strms := (rfl)
@[simp] theorem State.wr_hoops (s : State) (a : Nat) (v : Word) : (s.wr a v).hoops = s.hoops := (rfl)
@[simp] theorem State.wr_lace (s : State) (a : Nat) (v : Word) : (s.wr a v).lace = s.lace := (rfl)
@[simp] theorem State.wr_dec (s : State) (a : Nat) (v : Word) : (s.wr a v).dec = s.dec := (rfl)
@[simp] theorem State.wr_rcv (s : State) (a : Nat) (v : Word) : (s.wr a v).rcv = s.rcv := (rfl)
@[simp] theorem State.wr_lanes (s : State) (a : Nat) (v : Word) : (s.wr a v).lanes = s.lanes := (rfl)
@[simp] theorem State.wr_spool (s : State) (a : Nat) (v : Word) : (s.wr a v).spool = s.spool := (rfl)
@[simp] theorem State.wr_rng (s : State) (a : Nat) (v : Word) : (s.wr a v).rng = s.rng := (rfl)
@[simp] theorem State.wr_lnk (s : State) (a : Nat) (v : Word) : (s.wr a v).lnk = s.lnk := (rfl)

/-! ## set -/

@[simp] theorem State.set_pending (s : State) (f : Fld) (v : Nat) : (s.set f v).pending = s.pending := (rfl)
@[simp] theorem State.set_free (s : State) (f : Fld) (v : Nat) : (s.set f v).free = s.free := (rfl)
@[simp] theorem State.set_gen (s : State) (f : Fld) (v : Nat) : (s.set f v).gen = s.gen := (rfl)
@[simp] theorem State.set_cyc (s : State) (f : Fld) (v : Nat) : (s.set f v).cyc = s.cyc := (rfl)
@[simp] theorem State.set_cp (s : State) (f : Fld) (v : Nat) : (s.set f v).cp = s.cp := (rfl)
@[simp] theorem State.set_pins (s : State) (f : Fld) (v : Nat) : (s.set f v).pins = s.pins := (rfl)
@[simp] theorem State.set_sram (s : State) (f : Fld) (v : Nat) : (s.set f v).sram = s.sram := (rfl)
@[simp] theorem State.set_epochs (s : State) (f : Fld) (v : Nat) : (s.set f v).epochs = s.epochs := (rfl)
@[simp] theorem State.set_ext (s : State) (f : Fld) (v : Nat) : (s.set f v).ext = s.ext := (rfl)
@[simp] theorem State.set_mp (s : State) (f : Fld) (v : Nat) : (s.set f v).mp = s.mp := (rfl)
@[simp] theorem State.set_pwr (s : State) (f : Fld) (v : Nat) : (s.set f v).pwr = s.pwr := (rfl)
@[simp] theorem State.set_flt (s : State) (f : Fld) (v : Nat) : (s.set f v).flt = s.flt := (rfl)
@[simp] theorem State.set_memi (s : State) (f : Fld) (v : Nat) : (s.set f v).memi = s.memi := (rfl)
@[simp] theorem State.set_ang (s : State) (f : Fld) (v : Nat) : (s.set f v).ang = s.ang := (rfl)
@[simp] theorem State.set_rot (s : State) (f : Fld) (v : Nat) : (s.set f v).rot = s.rot := (rfl)
@[simp] theorem State.set_chans (s : State) (f : Fld) (v : Nat) : (s.set f v).chans = s.chans := (rfl)
@[simp] theorem State.set_luns (s : State) (f : Fld) (v : Nat) : (s.set f v).luns = s.luns := (rfl)
@[simp] theorem State.set_grps (s : State) (f : Fld) (v : Nat) : (s.set f v).grps = s.grps := (rfl)
@[simp] theorem State.set_tbuf (s : State) (f : Fld) (v : Nat) : (s.set f v).tbuf = s.tbuf := (rfl)
@[simp] theorem State.set_map (s : State) (f : Fld) (v : Nat) : (s.set f v).map = s.map := (rfl)
@[simp] theorem State.set_strms (s : State) (f : Fld) (v : Nat) : (s.set f v).strms = s.strms := (rfl)
@[simp] theorem State.set_hoops (s : State) (f : Fld) (v : Nat) : (s.set f v).hoops = s.hoops := (rfl)
@[simp] theorem State.set_lace (s : State) (f : Fld) (v : Nat) : (s.set f v).lace = s.lace := (rfl)
@[simp] theorem State.set_dec (s : State) (f : Fld) (v : Nat) : (s.set f v).dec = s.dec := (rfl)
@[simp] theorem State.set_rcv (s : State) (f : Fld) (v : Nat) : (s.set f v).rcv = s.rcv := (rfl)
@[simp] theorem State.set_lanes (s : State) (f : Fld) (v : Nat) : (s.set f v).lanes = s.lanes := (rfl)
@[simp] theorem State.set_spool (s : State) (f : Fld) (v : Nat) : (s.set f v).spool = s.spool := (rfl)
@[simp] theorem State.set_rng (s : State) (f : Fld) (v : Nat) : (s.set f v).rng = s.rng := (rfl)
@[simp] theorem State.set_lnk (s : State) (f : Fld) (v : Nat) : (s.set f v).lnk = s.lnk := (rfl)

end Sys2Proof.Machine
end

