-- ==== Sys2Proof/Laws/KeepBase.lean ====
section
/-!
SUPPORT. What folds of the operations of the model leave unchanged, of the fields that few commands change: the queue, the generation
parameters, the rotor drive, external memory, the core-cycle counter, the control port, the angle unit and the power controller.
-/

namespace Sys2Proof.Machine

@[simp] theorem foldl_pending {β : Type} (g : State → β → State) (h : ∀ s x, (g s x).pending = s.pending) (l : List β) (s : State) :
    (l.foldl g s).pending = s.pending := by
  induction l generalizing s with
  | nil => rfl
  | cons x l ih => rw [List.foldl_cons, ih, h]

@[simp] theorem foldl_gen {β : Type} (g : State → β → State) (h : ∀ s x, (g s x).gen = s.gen) (l : List β) (s : State) :
    (l.foldl g s).gen = s.gen := by
  induction l generalizing s with
  | nil => rfl
  | cons x l ih => rw [List.foldl_cons, ih, h]

@[simp] theorem foldl_rot {β : Type} (g : State → β → State) (h : ∀ s x, (g s x).rot = s.rot) (l : List β) (s : State) :
    (l.foldl g s).rot = s.rot := by
  induction l generalizing s with
  | nil => rfl
  | cons x l ih => rw [List.foldl_cons, ih, h]

@[simp] theorem foldl_ext {β : Type} (g : State → β → State) (h : ∀ s x, (g s x).ext = s.ext) (l : List β) (s : State) :
    (l.foldl g s).ext = s.ext := by
  induction l generalizing s with
  | nil => rfl
  | cons x l ih => rw [List.foldl_cons, ih, h]

@[simp] theorem foldl_cyc {β : Type} (g : State → β → State) (h : ∀ s x, (g s x).cyc = s.cyc) (l : List β) (s : State) :
    (l.foldl g s).cyc = s.cyc := by
  induction l generalizing s with
  | nil => rfl
  | cons x l ih => rw [List.foldl_cons, ih, h]

@[simp] theorem foldl_cp {β : Type} (g : State → β → State) (h : ∀ s x, (g s x).cp = s.cp) (l : List β) (s : State) :
    (l.foldl g s).cp = s.cp := by
  induction l generalizing s with
  | nil => rfl
  | cons x l ih => rw [List.foldl_cons, ih, h]

@[simp] theorem foldl_ang {β : Type} (g : State → β → State) (h : ∀ s x, (g s x).ang = s.ang) (l : List β) (s : State) :
    (l.foldl g s).ang = s.ang := by
  induction l generalizing s with
  | nil => rfl
  | cons x l ih => rw [List.foldl_cons, ih, h]

@[simp] theorem foldl_pwr {β : Type} (g : State → β → State) (h : ∀ s x, (g s x).pwr = s.pwr) (l : List β) (s : State) :
    (l.foldl g s).pwr = s.pwr := by
  induction l generalizing s with
  | nil => rfl
  | cons x l ih => rw [List.foldl_cons, ih, h]

@[simp] theorem foldr_pending {β : Type} (g : β → State → State) (h : ∀ x s, (g x s).pending = s.pending) (l : List β) (s : State) :
    (l.foldr g s).pending = s.pending := by
  induction l with
  | nil => rfl
  | cons x l ih => rw [List.foldr_cons, h, ih]

@[simp] theorem foldr_gen {β : Type} (g : β → State → State) (h : ∀ x s, (g x s).gen = s.gen) (l : List β) (s : State) :
    (l.foldr g s).gen = s.gen := by
  induction l with
  | nil => rfl
  | cons x l ih => rw [List.foldr_cons, h, ih]

@[simp] theorem foldr_rot {β : Type} (g : β → State → State) (h : ∀ x s, (g x s).rot = s.rot) (l : List β) (s : State) :
    (l.foldr g s).rot = s.rot := by
  induction l with
  | nil => rfl
  | cons x l ih => rw [List.foldr_cons, h, ih]

@[simp] theorem foldr_ext {β : Type} (g : β → State → State) (h : ∀ x s, (g x s).ext = s.ext) (l : List β) (s : State) :
    (l.foldr g s).ext = s.ext := by
  induction l with
  | nil => rfl
  | cons x l ih => rw [List.foldr_cons, h, ih]

@[simp] theorem foldr_cyc {β : Type} (g : β → State → State) (h : ∀ x s, (g x s).cyc = s.cyc) (l : List β) (s : State) :
    (l.foldr g s).cyc = s.cyc := by
  induction l with
  | nil => rfl
  | cons x l ih => rw [List.foldr_cons, h, ih]

@[simp] theorem foldr_cp {β : Type} (g : β → State → State) (h : ∀ x s, (g x s).cp = s.cp) (l : List β) (s : State) :
    (l.foldr g s).cp = s.cp := by
  induction l with
  | nil => rfl
  | cons x l ih => rw [List.foldr_cons, h, ih]

@[simp] theorem foldr_ang {β : Type} (g : β → State → State) (h : ∀ x s, (g x s).ang = s.ang) (l : List β) (s : State) :
    (l.foldr g s).ang = s.ang := by
  induction l with
  | nil => rfl
  | cons x l ih => rw [List.foldr_cons, h, ih]

@[simp] theorem foldr_pwr {β : Type} (g : β → State → State) (h : ∀ x s, (g x s).pwr = s.pwr) (l : List β) (s : State) :
    (l.foldr g s).pwr = s.pwr := by
  induction l with
  | nil => rfl
  | cons x l ih => rw [List.foldr_cons, h, ih]

end Sys2Proof.Machine
end

