-- ==== Sys2Proof/Laws/KeepData.lean ====
section
/-!
SUPPORT. What each operation leaves unchanged, of the fields that few commands change (see KeepBase): registers, memories, tables and the completion of descriptors.
-/

namespace Sys2Proof.Machine

/-! ## Machine/Regs.lean -/

@[simp] theorem State.wr_keep (s : State) (a : Nat) (v : Word) :
    (s.wr a v).pending = s.pending ∧ (s.wr a v).gen = s.gen ∧ (s.wr a v).rot = s.rot ∧ (s.wr a v).ext = s.ext ∧ (s.wr a v).cyc = s.cyc ∧ (s.wr a v).cp = s.cp ∧ (s.wr a v).ang = s.ang ∧ (s.wr a v).pwr = s.pwr := by
  unfold State.wr
  simp

@[simp] theorem State.set_keep (s : State) (f : Fld) (v : Nat) :
    (s.set f v).pending = s.pending ∧ (s.set f v).gen = s.gen ∧ (s.set f v).rot = s.rot ∧ (s.set f v).ext = s.ext ∧ (s.set f v).cyc = s.cyc ∧ (s.set f v).cp = s.cp ∧ (s.set f v).ang = s.ang ∧ (s.set f v).pwr = s.pwr := by
  unfold State.set
  simp

@[simp] theorem State.bumpBy_keep (s : State) (f : Fld) (k : Nat) :
    (s.bumpBy f k).pending = s.pending ∧ (s.bumpBy f k).gen = s.gen ∧ (s.bumpBy f k).rot = s.rot ∧ (s.bumpBy f k).ext = s.ext ∧ (s.bumpBy f k).cyc = s.cyc ∧ (s.bumpBy f k).cp = s.cp ∧ (s.bumpBy f k).ang = s.ang ∧ (s.bumpBy f k).pwr = s.pwr := by
  unfold State.bumpBy
  simp

@[simp] theorem State.bump_keep (s : State) (f : Fld) :
    (s.bump f).pending = s.pending ∧ (s.bump f).gen = s.gen ∧ (s.bump f).rot = s.rot ∧ (s.bump f).ext = s.ext ∧ (s.bump f).cyc = s.cyc ∧ (s.bump f).cp = s.cp ∧ (s.bump f).ang = s.ang ∧ (s.bump f).pwr = s.pwr := by
  unfold State.bump
  simp

@[simp] theorem State.bumpWrap_keep (s : State) (f : Fld) :
    (s.bumpWrap f).pending = s.pending ∧ (s.bumpWrap f).gen = s.gen ∧ (s.bumpWrap f).rot = s.rot ∧ (s.bumpWrap f).ext = s.ext ∧ (s.bumpWrap f).cyc = s.cyc ∧ (s.bumpWrap f).cp = s.cp ∧ (s.bumpWrap f).ang = s.ang ∧ (s.bumpWrap f).pwr = s.pwr := by
  unfold State.bumpWrap
  simp

@[simp] theorem State.raise_keep (s : State) (p : Page) (n b : Nat) :
    (s.raise p n b).pending = s.pending ∧ (s.raise p n b).gen = s.gen ∧ (s.raise p n b).rot = s.rot ∧ (s.raise p n b).ext = s.ext ∧ (s.raise p n b).cyc = s.cyc ∧ (s.raise p n b).cp = s.cp ∧ (s.raise p n b).ang = s.ang ∧ (s.raise p n b).pwr = s.pwr := by
  unfold State.raise
  dsimp only
  (repeat' apply And.intro) <;> (repeat' split) <;> simp

@[simp] theorem State.count_keep (s : State) (src : Nat) (detail : Nat) :
    (s.count src detail).pending = s.pending ∧ (s.count src detail).gen = s.gen ∧ (s.count src detail).rot = s.rot ∧ (s.count src detail).ext = s.ext ∧ (s.count src detail).cyc = s.cyc ∧ (s.count src detail).cp = s.cp ∧ (s.count src detail).ang = s.ang ∧ (s.count src detail).pwr = s.pwr := by
  unfold State.count
  simp [apply_ite State.pending, apply_ite State.gen, apply_ite State.rot, apply_ite State.ext, apply_ite State.cyc, apply_ite State.cp, apply_ite State.ang, apply_ite State.pwr]

@[simp] theorem State.countDump_keep (s : State) (src : Nat) (detail : Nat) :
    (s.countDump src detail).pending = s.pending ∧ (s.countDump src detail).gen = s.gen ∧ (s.countDump src detail).rot = s.rot ∧ (s.countDump src detail).ext = s.ext ∧ (s.countDump src detail).cyc = s.cyc ∧ (s.countDump src detail).cp = s.cp ∧ (s.countDump src detail).ang = s.ang ∧ (s.countDump src detail).pwr = s.pwr := by
  unfold State.countDump
  simp [apply_ite State.pending, apply_ite State.gen, apply_ite State.rot, apply_ite State.ext, apply_ite State.cyc, apply_ite State.cp, apply_ite State.ang, apply_ite State.pwr]

@[simp] theorem State.offAccess_keep (s : State) (a : Nat) :
    (s.offAccess a).pending = s.pending ∧ (s.offAccess a).gen = s.gen ∧ (s.offAccess a).rot = s.rot ∧ (s.offAccess a).ext = s.ext ∧ (s.offAccess a).cyc = s.cyc ∧ (s.offAccess a).cp = s.cp ∧ (s.offAccess a).ang = s.ang ∧ (s.offAccess a).pwr = s.pwr := by
  unfold State.offAccess
  simp

@[simp] theorem State.cpWr_pending (s : State) (a : Nat) (be : BitVec 4) (data : Word) (f : State → State) (h : ∀ t : State, (f t).pending = t.pending) :
    (s.cpWr a be data f).pending = s.pending := by
  unfold State.cpWr
  (repeat' split) <;> simp [h]

@[simp] theorem State.cpWr_gen (s : State) (a : Nat) (be : BitVec 4) (data : Word) (f : State → State) (h : ∀ t : State, (f t).gen = t.gen) :
    (s.cpWr a be data f).gen = s.gen := by
  unfold State.cpWr
  (repeat' split) <;> simp [h]

@[simp] theorem State.cpWr_rot (s : State) (a : Nat) (be : BitVec 4) (data : Word) (f : State → State) (h : ∀ t : State, (f t).rot = t.rot) :
    (s.cpWr a be data f).rot = s.rot := by
  unfold State.cpWr
  (repeat' split) <;> simp [h]

@[simp] theorem State.cpWr_ext (s : State) (a : Nat) (be : BitVec 4) (data : Word) (f : State → State) (h : ∀ t : State, (f t).ext = t.ext) :
    (s.cpWr a be data f).ext = s.ext := by
  unfold State.cpWr
  (repeat' split) <;> simp [h]

@[simp] theorem State.cpWr_cyc (s : State) (a : Nat) (be : BitVec 4) (data : Word) (f : State → State) (h : ∀ t : State, (f t).cyc = t.cyc) :
    (s.cpWr a be data f).cyc = s.cyc := by
  unfold State.cpWr
  (repeat' split) <;> simp [h]

@[simp] theorem State.cpWr_ang (s : State) (a : Nat) (be : BitVec 4) (data : Word) (f : State → State) (h : ∀ t : State, (f t).ang = t.ang) :
    (s.cpWr a be data f).ang = s.ang := by
  unfold State.cpWr
  (repeat' split) <;> simp [h]

@[simp] theorem State.cpWr_pwr (s : State) (a : Nat) (be : BitVec 4) (data : Word) (f : State → State) (h : ∀ t : State, (f t).pwr = t.pwr) :
    (s.cpWr a be data f).pwr = s.pwr := by
  unfold State.cpWr
  (repeat' split) <;> simp [h]

/-! ## Machine/Sram.lean -/

@[simp] theorem State.dropRepaired_keep (s : State) :
    (s.dropRepaired).pending = s.pending ∧ (s.dropRepaired).gen = s.gen ∧ (s.dropRepaired).rot = s.rot ∧ (s.dropRepaired).ext = s.ext ∧ (s.dropRepaired).cyc = s.cyc ∧ (s.dropRepaired).cp = s.cp ∧ (s.dropRepaired).ang = s.ang ∧ (s.dropRepaired).pwr = s.pwr := by
  unfold State.dropRepaired
  simp

@[simp] theorem State.dropBacks_keep (s : State) (r w n : Nat) :
    (s.dropBacks r w n).pending = s.pending ∧ (s.dropBacks r w n).gen = s.gen ∧ (s.dropBacks r w n).rot = s.rot ∧ (s.dropBacks r w n).ext = s.ext ∧ (s.dropBacks r w n).cyc = s.cyc ∧ (s.dropBacks r w n).cp = s.cp ∧ (s.dropBacks r w n).ang = s.ang ∧ (s.dropBacks r w n).pwr = s.pwr := by
  unfold State.dropBacks
  simp

@[simp] theorem State.wroteN_keep (s : State) (r w n : Nat) :
    (s.wroteN r w n).pending = s.pending ∧ (s.wroteN r w n).gen = s.gen ∧ (s.wroteN r w n).rot = s.rot ∧ (s.wroteN r w n).ext = s.ext ∧ (s.wroteN r w n).cyc = s.cyc ∧ (s.wroteN r w n).cp = s.cp ∧ (s.wroteN r w n).ang = s.ang ∧ (s.wroteN r w n).pwr = s.pwr := by
  unfold State.wroteN
  simp

@[simp] theorem State.wrote_keep (s : State) (r w : Nat) :
    (s.wrote r w).pending = s.pending ∧ (s.wrote r w).gen = s.gen ∧ (s.wrote r w).rot = s.rot ∧ (s.wrote r w).ext = s.ext ∧ (s.wrote r w).cyc = s.cyc ∧ (s.wrote r w).cp = s.cp ∧ (s.wrote r w).ang = s.ang ∧ (s.wrote r w).pwr = s.pwr := by
  unfold State.wrote
  simp

@[simp] theorem State.storeRaw_keep (s : State) (r w : Nat) (v : Strong) :
    (s.storeRaw r w v).pending = s.pending ∧ (s.storeRaw r w v).gen = s.gen ∧ (s.storeRaw r w v).rot = s.rot ∧ (s.storeRaw r w v).ext = s.ext ∧ (s.storeRaw r w v).cyc = s.cyc ∧ (s.storeRaw r w v).cp = s.cp ∧ (s.storeRaw r w v).ang = s.ang ∧ (s.storeRaw r w v).pwr = s.pwr := by
  unfold State.storeRaw
  (repeat' split) <;> simp

@[simp] theorem State.storeInj_keep (s : State) (r w : Nat) (v : Strong) :
    (s.storeInj r w v).pending = s.pending ∧ (s.storeInj r w v).gen = s.gen ∧ (s.storeInj r w v).rot = s.rot ∧ (s.storeInj r w v).ext = s.ext ∧ (s.storeInj r w v).cyc = s.cyc ∧ (s.storeInj r w v).cp = s.cp ∧ (s.storeInj r w v).ang = s.ang ∧ (s.storeInj r w v).pwr = s.pwr := by
  unfold State.storeInj
  (repeat' split) <;> simp

@[simp] theorem State.sramPut_keep (s : State) (r w : Nat) (d : Word) :
    (s.sramPut r w d).pending = s.pending ∧ (s.sramPut r w d).gen = s.gen ∧ (s.sramPut r w d).rot = s.rot ∧ (s.sramPut r w d).ext = s.ext ∧ (s.sramPut r w d).cyc = s.cyc ∧ (s.sramPut r w d).cp = s.cp ∧ (s.sramPut r w d).ang = s.ang ∧ (s.sramPut r w d).pwr = s.pwr := by
  unfold State.sramPut
  simp

@[simp] theorem State.tabFlip_keep (s : State) (w m : Nat) :
    (s.tabFlip w m).pending = s.pending ∧ (s.tabFlip w m).gen = s.gen ∧ (s.tabFlip w m).rot = s.rot ∧ (s.tabFlip w m).ext = s.ext ∧ (s.tabFlip w m).cyc = s.cyc ∧ (s.tabFlip w m).cp = s.cp ∧ (s.tabFlip w m).ang = s.ang ∧ (s.tabFlip w m).pwr = s.pwr := by
  unfold State.tabFlip
  simp [apply_ite State.pending, apply_ite State.gen, apply_ite State.rot, apply_ite State.ext, apply_ite State.cyc, apply_ite State.cp, apply_ite State.ang, apply_ite State.pwr]

@[simp] theorem State.bufFlip_keep (s : State) (r w m : Nat) :
    (s.bufFlip r w m).pending = s.pending ∧ (s.bufFlip r w m).gen = s.gen ∧ (s.bufFlip r w m).rot = s.rot ∧ (s.bufFlip r w m).ext = s.ext ∧ (s.bufFlip r w m).cyc = s.cyc ∧ (s.bufFlip r w m).cp = s.cp ∧ (s.bufFlip r w m).ang = s.ang ∧ (s.bufFlip r w m).pwr = s.pwr := by
  unfold State.bufFlip
  (repeat' split) <;> simp

@[simp] theorem State.bufMark_keep (s : State) (r w n : Nat) :
    (s.bufMark r w n).pending = s.pending ∧ (s.bufMark r w n).gen = s.gen ∧ (s.bufMark r w n).rot = s.rot ∧ (s.bufMark r w n).ext = s.ext ∧ (s.bufMark r w n).cyc = s.cyc ∧ (s.bufMark r w n).cp = s.cp ∧ (s.bufMark r w n).ang = s.ang ∧ (s.bufMark r w n).pwr = s.pwr := by
  unfold State.bufMark
  simp

@[simp] theorem State.bufWrote_keep (s : State) (r w n : Nat) :
    (s.bufWrote r w n).pending = s.pending ∧ (s.bufWrote r w n).gen = s.gen ∧ (s.bufWrote r w n).rot = s.rot ∧ (s.bufWrote r w n).ext = s.ext ∧ (s.bufWrote r w n).cyc = s.cyc ∧ (s.bufWrote r w n).cp = s.cp ∧ (s.bufWrote r w n).ang = s.ang ∧ (s.bufWrote r w n).pwr = s.pwr := by
  unfold State.bufWrote
  dsimp only
  (repeat' apply And.intro) <;> (repeat' split) <;> simp

@[simp] theorem State.setLog_keep (s : State) (r i : Nat) (e : Option CeLog) :
    (s.setLog r i e).pending = s.pending ∧ (s.setLog r i e).gen = s.gen ∧ (s.setLog r i e).rot = s.rot ∧ (s.setLog r i e).ext = s.ext ∧ (s.setLog r i e).cyc = s.cyc ∧ (s.setLog r i e).cp = s.cp ∧ (s.setLog r i e).ang = s.ang ∧ (s.setLog r i e).pwr = s.pwr := by
  unfold State.setLog
  simp

@[simp] theorem State.setRemap_keep (s : State) (r k : Nat) (e : Option Remap) :
    (s.setRemap r k e).pending = s.pending ∧ (s.setRemap r k e).gen = s.gen ∧ (s.setRemap r k e).rot = s.rot ∧ (s.setRemap r k e).ext = s.ext ∧ (s.setRemap r k e).cyc = s.cyc ∧ (s.setRemap r k e).cp = s.cp ∧ (s.setRemap r k e).ang = s.ang ∧ (s.setRemap r k e).pwr = s.pwr := by
  unfold State.setRemap
  simp

@[simp] theorem State.countUnless_keep (s : State) (skip : Bool) (src d : Nat) :
    (s.countUnless skip src d).pending = s.pending ∧ (s.countUnless skip src d).gen = s.gen ∧ (s.countUnless skip src d).rot = s.rot ∧ (s.countUnless skip src d).ext = s.ext ∧ (s.countUnless skip src d).cyc = s.cyc ∧ (s.countUnless skip src d).cp = s.cp ∧ (s.countUnless skip src d).ang = s.ang ∧ (s.countUnless skip src d).pwr = s.pwr := by
  unfold State.countUnless
  simp [apply_ite State.pending, apply_ite State.gen, apply_ite State.rot, apply_ite State.ext, apply_ite State.cyc, apply_ite State.cp, apply_ite State.ang, apply_ite State.pwr]

@[simp] theorem State.promote_keep (s : State) (r w i : Nat) (again : Bool) :
    (s.promote r w i again).pending = s.pending ∧ (s.promote r w i again).gen = s.gen ∧ (s.promote r w i again).rot = s.rot ∧ (s.promote r w i again).ext = s.ext ∧ (s.promote r w i again).cyc = s.cyc ∧ (s.promote r w i again).cp = s.cp ∧ (s.promote r w i again).ang = s.ang ∧ (s.promote r w i again).pwr = s.pwr := by
  unfold State.promote
  dsimp only
  (repeat' apply And.intro) <;> (repeat' split) <;> simp

@[simp] theorem State.logHit_keep (s : State) (r i : Nat) (e : CeLog) :
    (s.logHit r i e).pending = s.pending ∧ (s.logHit r i e).gen = s.gen ∧ (s.logHit r i e).rot = s.rot ∧ (s.logHit r i e).ext = s.ext ∧ (s.logHit r i e).cyc = s.cyc ∧ (s.logHit r i e).cp = s.cp ∧ (s.logHit r i e).ang = s.ang ∧ (s.logHit r i e).pwr = s.pwr := by
  unfold State.logHit
  simp [apply_ite State.pending, apply_ite State.gen, apply_ite State.rot, apply_ite State.ext, apply_ite State.cyc, apply_ite State.cp, apply_ite State.ang, apply_ite State.pwr]

@[simp] theorem State.logMiss_keep (s : State) :
    (s.logMiss).pending = s.pending ∧ (s.logMiss).gen = s.gen ∧ (s.logMiss).rot = s.rot ∧ (s.logMiss).ext = s.ext ∧ (s.logMiss).cyc = s.cyc ∧ (s.logMiss).cp = s.cp ∧ (s.logMiss).ang = s.ang ∧ (s.logMiss).pwr = s.pwr := by
  unfold State.logMiss
  simp

@[simp] theorem State.logReport_keep (s : State) (r w : Nat) :
    (s.logReport r w).pending = s.pending ∧ (s.logReport r w).gen = s.gen ∧ (s.logReport r w).rot = s.rot ∧ (s.logReport r w).ext = s.ext ∧ (s.logReport r w).cyc = s.cyc ∧ (s.logReport r w).cp = s.cp ∧ (s.logReport r w).ang = s.ang ∧ (s.logReport r w).pwr = s.pwr := by
  unfold State.logReport
  (repeat' split) <;> simp

@[simp] theorem State.logCycle_keep (s : State) (r : Nat) :
    (s.logCycle r).pending = s.pending ∧ (s.logCycle r).gen = s.gen ∧ (s.logCycle r).rot = s.rot ∧ (s.logCycle r).ext = s.ext ∧ (s.logCycle r).cyc = s.cyc ∧ (s.logCycle r).cp = s.cp ∧ (s.logCycle r).ang = s.ang ∧ (s.logCycle r).pwr = s.pwr := by
  unfold State.logCycle
  (repeat' split) <;> simp

@[simp] theorem State.logTick_keep (s : State) :
    (s.logTick).pending = s.pending ∧ (s.logTick).gen = s.gen ∧ (s.logTick).rot = s.rot ∧ (s.logTick).ext = s.ext ∧ (s.logTick).cyc = s.cyc ∧ (s.logTick).cp = s.cp ∧ (s.logTick).ang = s.ang ∧ (s.logTick).pwr = s.pwr := by
  unfold State.logTick
  simp [apply_ite State.pending, apply_ite State.gen, apply_ite State.rot, apply_ite State.ext, apply_ite State.cyc, apply_ite State.cp, apply_ite State.ang, apply_ite State.pwr]

@[simp] theorem State.reportCe_keep (s : State) (r w : Nat) (scrub : Bool) :
    (s.reportCe r w scrub).pending = s.pending ∧ (s.reportCe r w scrub).gen = s.gen ∧ (s.reportCe r w scrub).rot = s.rot ∧ (s.reportCe r w scrub).ext = s.ext ∧ (s.reportCe r w scrub).cyc = s.cyc ∧ (s.reportCe r w scrub).cp = s.cp ∧ (s.reportCe r w scrub).ang = s.ang ∧ (s.reportCe r w scrub).pwr = s.pwr := by
  unfold State.reportCe
  simp [apply_ite State.pending, apply_ite State.gen, apply_ite State.rot, apply_ite State.ext, apply_ite State.cyc, apply_ite State.cp, apply_ite State.ang, apply_ite State.pwr]

@[simp] theorem State.reportUe_keep (s : State) (r w origin : Nat) :
    (s.reportUe r w origin).pending = s.pending ∧ (s.reportUe r w origin).gen = s.gen ∧ (s.reportUe r w origin).rot = s.rot ∧ (s.reportUe r w origin).ext = s.ext ∧ (s.reportUe r w origin).cyc = s.cyc ∧ (s.reportUe r w origin).cp = s.cp ∧ (s.reportUe r w origin).ang = s.ang ∧ (s.reportUe r w origin).pwr = s.pwr := by
  unfold State.reportUe
  simp [apply_ite State.pending, apply_ite State.gen, apply_ite State.rot, apply_ite State.ext, apply_ite State.cyc, apply_ite State.cp, apply_ite State.ang, apply_ite State.pwr]

@[simp] theorem State.note_keep (s : State) (r w origin : Nat) :
    (s.note r w origin).pending = s.pending ∧ (s.note r w origin).gen = s.gen ∧ (s.note r w origin).rot = s.rot ∧ (s.note r w origin).ext = s.ext ∧ (s.note r w origin).cyc = s.cyc ∧ (s.note r w origin).cp = s.cp ∧ (s.note r w origin).ang = s.ang ∧ (s.note r w origin).pwr = s.pwr := by
  unfold State.note
  (repeat' split) <;> simp

@[simp] theorem State.noteN_keep (s : State) (r w : Nat) (y0 : Nat) :
    (s.noteN r w y0).pending = s.pending ∧ (s.noteN r w y0).gen = s.gen ∧ (s.noteN r w y0).rot = s.rot ∧ (s.noteN r w y0).ext = s.ext ∧ (s.noteN r w y0).cyc = s.cyc ∧ (s.noteN r w y0).cp = s.cp ∧ (s.noteN r w y0).ang = s.ang ∧ (s.noteN r w y0).pwr = s.pwr := by
  induction y0 generalizing s w with
  | zero => simp [State.noteN]
  | succ n ih =>
    unfold State.noteN
    simp [ih]

@[simp] theorem State.bufReport_keep (s : State) (r origin : Nat) (p : Nat × BitVec 72) :
    (s.bufReport r origin p).pending = s.pending ∧ (s.bufReport r origin p).gen = s.gen ∧ (s.bufReport r origin p).rot = s.rot ∧ (s.bufReport r origin p).ext = s.ext ∧ (s.bufReport r origin p).cyc = s.cyc ∧ (s.bufReport r origin p).cp = s.cp ∧ (s.bufReport r origin p).ang = s.ang ∧ (s.bufReport r origin p).pwr = s.pwr := by
  unfold State.bufReport
  (repeat' split) <;> simp

@[simp] theorem State.bufSeen_keep (s : State) (r w n origin : Nat) :
    (s.bufSeen r w n origin).pending = s.pending ∧ (s.bufSeen r w n origin).gen = s.gen ∧ (s.bufSeen r w n origin).rot = s.rot ∧ (s.bufSeen r w n origin).ext = s.ext ∧ (s.bufSeen r w n origin).cyc = s.cyc ∧ (s.bufSeen r w n origin).cp = s.cp ∧ (s.bufSeen r w n origin).ang = s.ang ∧ (s.bufSeen r w n origin).pwr = s.pwr := by
  unfold State.bufSeen
  simp

@[simp] theorem State.bufRead_keep (s : State) (r w n : Nat) :
    (s.bufRead r w n).pending = s.pending ∧ (s.bufRead r w n).gen = s.gen ∧ (s.bufRead r w n).rot = s.rot ∧ (s.bufRead r w n).ext = s.ext ∧ (s.bufRead r w n).cyc = s.cyc ∧ (s.bufRead r w n).cp = s.cp ∧ (s.bufRead r w n).ang = s.ang ∧ (s.bufRead r w n).pwr = s.pwr := by
  unfold State.bufRead
  simp

@[simp] theorem State.sramRmw_keep (s : State) (r w : Nat) (m d : Word) :
    (s.sramRmw r w m d).pending = s.pending ∧ (s.sramRmw r w m d).gen = s.gen ∧ (s.sramRmw r w m d).rot = s.rot ∧ (s.sramRmw r w m d).ext = s.ext ∧ (s.sramRmw r w m d).cyc = s.cyc ∧ (s.sramRmw r w m d).cp = s.cp ∧ (s.sramRmw r w m d).ang = s.ang ∧ (s.sramRmw r w m d).pwr = s.pwr := by
  unfold State.sramRmw
  (repeat' split) <;> simp

@[simp] theorem State.cpSram_keep (s : State) (r w : Nat) (be : BitVec 4) (d : Word) :
    (s.cpSram r w be d).pending = s.pending ∧ (s.cpSram r w be d).gen = s.gen ∧ (s.cpSram r w be d).rot = s.rot ∧ (s.cpSram r w be d).ext = s.ext ∧ (s.cpSram r w be d).cyc = s.cyc ∧ (s.cpSram r w be d).cp = s.cp ∧ (s.cpSram r w be d).ang = s.ang ∧ (s.cpSram r w be d).pwr = s.pwr := by
  unfold State.cpSram
  simp [apply_ite State.pending, apply_ite State.gen, apply_ite State.rot, apply_ite State.ext, apply_ite State.cyc, apply_ite State.cp, apply_ite State.ang, apply_ite State.pwr]

@[simp] theorem State.ctxSeen_keep (s : State) (a n : Nat) :
    (s.ctxSeen a n).pending = s.pending ∧ (s.ctxSeen a n).gen = s.gen ∧ (s.ctxSeen a n).rot = s.rot ∧ (s.ctxSeen a n).ext = s.ext ∧ (s.ctxSeen a n).cyc = s.cyc ∧ (s.ctxSeen a n).cp = s.cp ∧ (s.ctxSeen a n).ang = s.ang ∧ (s.ctxSeen a n).pwr = s.pwr := by
  unfold State.ctxSeen
  simp

@[simp] theorem State.ctxWord_keep (s : State) (w : Nat) (m d : Word) :
    (s.ctxWord w m d).pending = s.pending ∧ (s.ctxWord w m d).gen = s.gen ∧ (s.ctxWord w m d).rot = s.rot ∧ (s.ctxWord w m d).ext = s.ext ∧ (s.ctxWord w m d).cyc = s.cyc ∧ (s.ctxWord w m d).cp = s.cp ∧ (s.ctxWord w m d).ang = s.ang ∧ (s.ctxWord w m d).pwr = s.pwr := by
  unfold State.ctxWord
  simp [apply_ite State.pending, apply_ite State.gen, apply_ite State.rot, apply_ite State.ext, apply_ite State.cyc, apply_ite State.cp, apply_ite State.ang, apply_ite State.pwr]

@[simp] theorem State.ctxWords_keep (s : State) (w : Nat) (y0 : Nat) (y1 : Nat) (y2 : Nat) :
    (s.ctxWords w y0 y1 y2).pending = s.pending ∧ (s.ctxWords w y0 y1 y2).gen = s.gen ∧ (s.ctxWords w y0 y1 y2).rot = s.rot ∧ (s.ctxWords w y0 y1 y2).ext = s.ext ∧ (s.ctxWords w y0 y1 y2).cyc = s.cyc ∧ (s.ctxWords w y0 y1 y2).cp = s.cp ∧ (s.ctxWords w y0 y1 y2).ang = s.ang ∧ (s.ctxWords w y0 y1 y2).pwr = s.pwr := by
  induction y0 generalizing s w y1 y2 with
  | zero => simp [State.ctxWords]
  | succ n ih =>
    unfold State.ctxWords
    simp [ih]

@[simp] theorem State.ctxPut_keep (s : State) (a n v : Nat) :
    (s.ctxPut a n v).pending = s.pending ∧ (s.ctxPut a n v).gen = s.gen ∧ (s.ctxPut a n v).rot = s.rot ∧ (s.ctxPut a n v).ext = s.ext ∧ (s.ctxPut a n v).cyc = s.cyc ∧ (s.ctxPut a n v).cp = s.cp ∧ (s.ctxPut a n v).ang = s.ang ∧ (s.ctxPut a n v).pwr = s.pwr := by
  unfold State.ctxPut
  simp

@[simp] theorem State.ctxBytes_keep (s : State) (a : Nat) (bs : List Byte) :
    (s.ctxBytes a bs).pending = s.pending ∧ (s.ctxBytes a bs).gen = s.gen ∧ (s.ctxBytes a bs).rot = s.rot ∧ (s.ctxBytes a bs).ext = s.ext ∧ (s.ctxBytes a bs).cyc = s.cyc ∧ (s.ctxBytes a bs).cp = s.cp ∧ (s.ctxBytes a bs).ang = s.ang ∧ (s.ctxBytes a bs).pwr = s.pwr := by
  unfold State.ctxBytes
  simp

/-! ## Machine/Cal.lean -/

@[simp] theorem State.slotRead_keep (s : State) :
    (s.slotRead).pending = s.pending ∧ (s.slotRead).gen = s.gen ∧ (s.slotRead).rot = s.rot ∧ (s.slotRead).ext = s.ext ∧ (s.slotRead).cyc = s.cyc ∧ (s.slotRead).cp = s.cp ∧ (s.slotRead).ang = s.ang ∧ (s.slotRead).pwr = s.pwr := by
  unfold State.slotRead
  simp [apply_ite State.pending, apply_ite State.gen, apply_ite State.rot, apply_ite State.ext, apply_ite State.cyc, apply_ite State.cp, apply_ite State.ang, apply_ite State.pwr]

@[simp] theorem State.enterSlot_keep (s : State) (n : Nat) :
    (s.enterSlot n).pending = s.pending ∧ (s.enterSlot n).gen = s.gen ∧ (s.enterSlot n).rot = s.rot ∧ (s.enterSlot n).ext = s.ext ∧ (s.enterSlot n).cyc = s.cyc ∧ (s.enterSlot n).cp = s.cp ∧ (s.enterSlot n).pwr = s.pwr := by
  unfold State.enterSlot
  simp [apply_ite State.pending, apply_ite State.gen, apply_ite State.rot, apply_ite State.ext, apply_ite State.cyc, apply_ite State.cp, apply_ite State.pwr]

@[simp] theorem State.slotForward_keep (s : State) (n : Nat) :
    (s.slotForward n).pending = s.pending ∧ (s.slotForward n).gen = s.gen ∧ (s.slotForward n).rot = s.rot ∧ (s.slotForward n).ext = s.ext ∧ (s.slotForward n).cyc = s.cyc ∧ (s.slotForward n).cp = s.cp ∧ (s.slotForward n).pwr = s.pwr := by
  unfold State.slotForward
  simp [apply_ite State.pending, apply_ite State.gen, apply_ite State.rot, apply_ite State.ext, apply_ite State.cyc, apply_ite State.cp, apply_ite State.pwr]

@[simp] theorem State.slotBack_keep (s : State) (n : Nat) :
    (s.slotBack n).pending = s.pending ∧ (s.slotBack n).gen = s.gen ∧ (s.slotBack n).rot = s.rot ∧ (s.slotBack n).ext = s.ext ∧ (s.slotBack n).cyc = s.cyc ∧ (s.slotBack n).cp = s.cp ∧ (s.slotBack n).pwr = s.pwr := by
  unfold State.slotBack
  simp [apply_ite State.pending, apply_ite State.gen, apply_ite State.rot, apply_ite State.ext, apply_ite State.cyc, apply_ite State.cp, apply_ite State.pwr]

@[simp] theorem State.slotJump_keep (s : State) (n : Nat) :
    (s.slotJump n).pending = s.pending ∧ (s.slotJump n).gen = s.gen ∧ (s.slotJump n).rot = s.rot ∧ (s.slotJump n).ext = s.ext ∧ (s.slotJump n).cyc = s.cyc ∧ (s.slotJump n).cp = s.cp ∧ (s.slotJump n).pwr = s.pwr := by
  unfold State.slotJump
  simp [apply_ite State.pending, apply_ite State.gen, apply_ite State.rot, apply_ite State.ext, apply_ite State.cyc, apply_ite State.cp, apply_ite State.pwr]

@[simp] theorem State.moveFine_keep (s : State) (q : Int) :
    (s.moveFine q).pending = s.pending ∧ (s.moveFine q).gen = s.gen ∧ (s.moveFine q).rot = s.rot ∧ (s.moveFine q).ext = s.ext ∧ (s.moveFine q).cyc = s.cyc ∧ (s.moveFine q).cp = s.cp ∧ (s.moveFine q).pwr = s.pwr := by
  unfold State.moveFine
  simp [apply_ite State.pending, apply_ite State.gen, apply_ite State.rot, apply_ite State.ext, apply_ite State.cyc, apply_ite State.cp, apply_ite State.pwr]

@[simp] theorem calDataWr_keep (data : Word) (s : State) :
    (calDataWr data s).pending = s.pending ∧ (calDataWr data s).gen = s.gen ∧ (calDataWr data s).rot = s.rot ∧ (calDataWr data s).ext = s.ext ∧ (calDataWr data s).cyc = s.cyc ∧ (calDataWr data s).cp = s.cp ∧ (calDataWr data s).ang = s.ang ∧ (calDataWr data s).pwr = s.pwr := by
  unfold calDataWr
  simp

@[simp] theorem calDataRd_keep (s : State) :
    (calDataRd s).pending = s.pending ∧ (calDataRd s).gen = s.gen ∧ (calDataRd s).rot = s.rot ∧ (calDataRd s).ext = s.ext ∧ (calDataRd s).cyc = s.cyc ∧ (calDataRd s).ang = s.ang ∧ (calDataRd s).pwr = s.pwr := by
  unfold calDataRd
  simp [apply_ite State.pending, apply_ite State.gen, apply_ite State.rot, apply_ite State.ext, apply_ite State.cyc, apply_ite State.ang, apply_ite State.pwr]

@[simp] theorem calPhaseWr_keep (data : Word) (s : State) :
    (calPhaseWr data s).pending = s.pending ∧ (calPhaseWr data s).gen = s.gen ∧ (calPhaseWr data s).rot = s.rot ∧ (calPhaseWr data s).ext = s.ext ∧ (calPhaseWr data s).cyc = s.cyc ∧ (calPhaseWr data s).cp = s.cp ∧ (calPhaseWr data s).pwr = s.pwr := by
  unfold calPhaseWr
  simp [apply_ite State.pending, apply_ite State.gen, apply_ite State.rot, apply_ite State.ext, apply_ite State.cyc, apply_ite State.cp, apply_ite State.pwr]

/-! ## Machine/Codec.lean -/

/-! ## Machine/MemReq.lean -/

@[simp] theorem State.mpPresent_keep (s : State) (q : MpReq) :
    (s.mpPresent q).pending = s.pending ∧ (s.mpPresent q).gen = s.gen ∧ (s.mpPresent q).rot = s.rot ∧ (s.mpPresent q).ext = s.ext ∧ (s.mpPresent q).cyc = s.cyc ∧ (s.mpPresent q).cp = s.cp ∧ (s.mpPresent q).ang = s.ang ∧ (s.mpPresent q).pwr = s.pwr := by
  unfold State.mpPresent
  (repeat' split) <;> simp

@[simp] theorem State.mpGrant_keep (s : State) (port : Nat) (y0 : Nat) :
    (s.mpGrant port y0).pending = s.pending ∧ (s.mpGrant port y0).gen = s.gen ∧ (s.mpGrant port y0).rot = s.rot ∧ (s.mpGrant port y0).ext = s.ext ∧ (s.mpGrant port y0).cyc = s.cyc ∧ (s.mpGrant port y0).cp = s.cp ∧ (s.mpGrant port y0).ang = s.ang ∧ (s.mpGrant port y0).pwr = s.pwr := by
  induction y0 generalizing s with
  | zero => simp [State.mpGrant]
  | succ n ih =>
    unfold State.mpGrant
    (repeat' split) <;> simp [ih]

@[simp] theorem State.mpPump_keep (s : State) (port : Nat) :
    (s.mpPump port).pending = s.pending ∧ (s.mpPump port).gen = s.gen ∧ (s.mpPump port).rot = s.rot ∧ (s.mpPump port).ext = s.ext ∧ (s.mpPump port).cyc = s.cyc ∧ (s.mpPump port).cp = s.cp ∧ (s.mpPump port).ang = s.ang ∧ (s.mpPump port).pwr = s.pwr := by
  unfold State.mpPump
  simp

@[simp] theorem State.mpAsk_keep (s : State) (q : MpReq) :
    (s.mpAsk q).pending = s.pending ∧ (s.mpAsk q).gen = s.gen ∧ (s.mpAsk q).rot = s.rot ∧ (s.mpAsk q).ext = s.ext ∧ (s.mpAsk q).cyc = s.cyc ∧ (s.mpAsk q).cp = s.cp ∧ (s.mpAsk q).ang = s.ang ∧ (s.mpAsk q).pwr = s.pwr := by
  unfold State.mpAsk
  simp

@[simp] theorem State.mpRead_keep (s : State) (port cls tag addr lines : Nat) (use : MpUse) :
    (s.mpRead port cls tag addr lines use).pending = s.pending ∧ (s.mpRead port cls tag addr lines use).gen = s.gen ∧ (s.mpRead port cls tag addr lines use).rot = s.rot ∧ (s.mpRead port cls tag addr lines use).ext = s.ext ∧ (s.mpRead port cls tag addr lines use).cyc = s.cyc ∧ (s.mpRead port cls tag addr lines use).cp = s.cp ∧ (s.mpRead port cls tag addr lines use).ang = s.ang ∧ (s.mpRead port cls tag addr lines use).pwr = s.pwr := by
  unfold State.mpRead
  simp

@[simp] theorem State.mpWrite_keep (s : State) (port cls addr : Nat) (data : List Byte) (use : MpUse) :
    (s.mpWrite port cls addr data use).pending = s.pending ∧ (s.mpWrite port cls addr data use).gen = s.gen ∧ (s.mpWrite port cls addr data use).rot = s.rot ∧ (s.mpWrite port cls addr data use).ext = s.ext ∧ (s.mpWrite port cls addr data use).cyc = s.cyc ∧ (s.mpWrite port cls addr data use).cp = s.cp ∧ (s.mpWrite port cls addr data use).ang = s.ang ∧ (s.mpWrite port cls addr data use).pwr = s.pwr := by
  unfold State.mpWrite
  simp

/-! ## Machine/RotorOps.lean -/

@[simp] theorem State.rotMap_keep (s : State) (f : RotS → RotS) :
    (s.rotMap f).pending = s.pending ∧ (s.rotMap f).gen = s.gen ∧ (s.rotMap f).ext = s.ext ∧ (s.rotMap f).cyc = s.cyc ∧ (s.rotMap f).cp = s.cp ∧ (s.rotMap f).ang = s.ang ∧ (s.rotMap f).pwr = s.pwr := by
  unfold State.rotMap
  simp

@[simp] theorem State.obsMap_keep (s : State) (f : Obs → Obs) :
    (s.obsMap f).pending = s.pending ∧ (s.obsMap f).gen = s.gen ∧ (s.obsMap f).ext = s.ext ∧ (s.obsMap f).cyc = s.cyc ∧ (s.obsMap f).cp = s.cp ∧ (s.obsMap f).ang = s.ang ∧ (s.obsMap f).pwr = s.pwr := by
  unfold State.obsMap
  simp

@[simp] theorem State.stepMap_keep (s : State) (f : StepS → StepS) :
    (s.stepMap f).pending = s.pending ∧ (s.stepMap f).gen = s.gen ∧ (s.stepMap f).ext = s.ext ∧ (s.stepMap f).cyc = s.cyc ∧ (s.stepMap f).cp = s.cp ∧ (s.stepMap f).ang = s.ang ∧ (s.stepMap f).pwr = s.pwr := by
  unfold State.stepMap
  simp

@[simp] theorem State.rotCount_keep (s : State) (o : Nat) :
    (s.rotCount o).pending = s.pending ∧ (s.rotCount o).gen = s.gen ∧ (s.rotCount o).rot = s.rot ∧ (s.rotCount o).ext = s.ext ∧ (s.rotCount o).cyc = s.cyc ∧ (s.rotCount o).cp = s.cp ∧ (s.rotCount o).ang = s.ang ∧ (s.rotCount o).pwr = s.pwr := by
  unfold State.rotCount
  simp

@[simp] theorem State.rotRaise_keep (s : State) (b : Nat) :
    (s.rotRaise b).pending = s.pending ∧ (s.rotRaise b).gen = s.gen ∧ (s.rotRaise b).rot = s.rot ∧ (s.rotRaise b).ext = s.ext ∧ (s.rotRaise b).cyc = s.cyc ∧ (s.rotRaise b).cp = s.cp ∧ (s.rotRaise b).ang = s.ang ∧ (s.rotRaise b).pwr = s.pwr := by
  unfold State.rotRaise
  simp

@[simp] theorem State.setRot_keep (s : State) (st : RotSt) :
    (s.setRot st).pending = s.pending ∧ (s.setRot st).gen = s.gen ∧ (s.setRot st).ext = s.ext ∧ (s.setRot st).cyc = s.cyc ∧ (s.setRot st).cp = s.cp ∧ (s.setRot st).ang = s.ang ∧ (s.setRot st).pwr = s.pwr := by
  unfold State.setRot
  simp [apply_ite State.pending, apply_ite State.gen, apply_ite State.ext, apply_ite State.cyc, apply_ite State.cp, apply_ite State.ang, apply_ite State.pwr]

@[simp] theorem State.askLegs_keep (s : State) (u v w : Leg) :
    (s.askLegs u v w).pending = s.pending ∧ (s.askLegs u v w).gen = s.gen ∧ (s.askLegs u v w).ext = s.ext ∧ (s.askLegs u v w).cyc = s.cyc ∧ (s.askLegs u v w).cp = s.cp ∧ (s.askLegs u v w).ang = s.ang ∧ (s.askLegs u v w).pwr = s.pwr := by
  unfold State.askLegs
  simp [apply_ite State.pending, apply_ite State.gen, apply_ite State.ext, apply_ite State.cyc, apply_ite State.cp, apply_ite State.ang, apply_ite State.pwr]

@[simp] theorem State.askVec_keep (s : State) (k : Nat) :
    (s.askVec k).pending = s.pending ∧ (s.askVec k).gen = s.gen ∧ (s.askVec k).ext = s.ext ∧ (s.askVec k).cyc = s.cyc ∧ (s.askVec k).cp = s.cp ∧ (s.askVec k).ang = s.ang ∧ (s.askVec k).pwr = s.pwr := by
  unfold State.askVec
  simp

@[simp] theorem State.gatesOff_keep (s : State) :
    (s.gatesOff).pending = s.pending ∧ (s.gatesOff).gen = s.gen ∧ (s.gatesOff).ext = s.ext ∧ (s.gatesOff).cyc = s.cyc ∧ (s.gatesOff).cp = s.cp ∧ (s.gatesOff).ang = s.ang ∧ (s.gatesOff).pwr = s.pwr := by
  unfold State.gatesOff
  simp

@[simp] theorem State.idleGates_keep (s : State) :
    (s.idleGates).pending = s.pending ∧ (s.idleGates).gen = s.gen ∧ (s.idleGates).ext = s.ext ∧ (s.idleGates).cyc = s.cyc ∧ (s.idleGates).cp = s.cp ∧ (s.idleGates).ang = s.ang ∧ (s.idleGates).pwr = s.pwr := by
  unfold State.idleGates
  simp [apply_ite State.pending, apply_ite State.gen, apply_ite State.ext, apply_ite State.cyc, apply_ite State.cp, apply_ite State.ang, apply_ite State.pwr]

@[simp] theorem State.setChop_keep (s : State) (c : Bool) :
    (s.setChop c).pending = s.pending ∧ (s.setChop c).gen = s.gen ∧ (s.setChop c).ext = s.ext ∧ (s.setChop c).cyc = s.cyc ∧ (s.setChop c).cp = s.cp ∧ (s.setChop c).ang = s.ang ∧ (s.setChop c).pwr = s.pwr := by
  unfold State.setChop
  simp

@[simp] theorem State.goAsc_keep (s : State) :
    (s.goAsc).pending = s.pending ∧ (s.goAsc).gen = s.gen ∧ (s.goAsc).ext = s.ext ∧ (s.goAsc).cyc = s.cyc ∧ (s.goAsc).cp = s.cp ∧ (s.goAsc).ang = s.ang ∧ (s.goAsc).pwr = s.pwr := by
  unfold State.goAsc
  simp

@[simp] theorem State.goCoast_keep (s : State) :
    (s.goCoast).pending = s.pending ∧ (s.goCoast).gen = s.gen ∧ (s.goCoast).ext = s.ext ∧ (s.goCoast).cyc = s.cyc ∧ (s.goCoast).cp = s.cp ∧ (s.goCoast).ang = s.ang ∧ (s.goCoast).pwr = s.pwr := by
  unfold State.goCoast
  simp [apply_ite State.pending, apply_ite State.gen, apply_ite State.ext, apply_ite State.cyc, apply_ite State.cp, apply_ite State.ang, apply_ite State.pwr]

@[simp] theorem State.safeOff_keep (s : State) :
    (s.safeOff).pending = s.pending ∧ (s.safeOff).gen = s.gen ∧ (s.safeOff).ext = s.ext ∧ (s.safeOff).cyc = s.cyc ∧ (s.safeOff).cp = s.cp ∧ (s.safeOff).ang = s.ang ∧ (s.safeOff).pwr = s.pwr := by
  unfold State.safeOff
  simp [apply_ite State.pending, apply_ite State.gen, apply_ite State.ext, apply_ite State.cyc, apply_ite State.cp, apply_ite State.ang, apply_ite State.pwr]

@[simp] theorem State.goOff_keep (s : State) :
    (s.goOff).pending = s.pending ∧ (s.goOff).gen = s.gen ∧ (s.goOff).ext = s.ext ∧ (s.goOff).cyc = s.cyc ∧ (s.goOff).cp = s.cp ∧ (s.goOff).ang = s.ang ∧ (s.goOff).pwr = s.pwr := by
  unfold State.goOff
  simp [apply_ite State.pending, apply_ite State.gen, apply_ite State.ext, apply_ite State.cyc, apply_ite State.cp, apply_ite State.ang, apply_ite State.pwr]

@[simp] theorem State.safeOffCmd_keep (s : State) :
    (s.safeOffCmd).pending = s.pending ∧ (s.safeOffCmd).gen = s.gen ∧ (s.safeOffCmd).ext = s.ext ∧ (s.safeOffCmd).cyc = s.cyc ∧ (s.safeOffCmd).cp = s.cp ∧ (s.safeOffCmd).ang = s.ang ∧ (s.safeOffCmd).pwr = s.pwr := by
  unfold State.safeOffCmd
  (repeat' split) <;> simp

@[simp] theorem State.safeOffGrave_keep (s : State) :
    (s.safeOffGrave).pending = s.pending ∧ (s.safeOffGrave).gen = s.gen ∧ (s.safeOffGrave).ext = s.ext ∧ (s.safeOffGrave).cyc = s.cyc ∧ (s.safeOffGrave).cp = s.cp ∧ (s.safeOffGrave).ang = s.ang ∧ (s.safeOffGrave).pwr = s.pwr := by
  unfold State.safeOffGrave
  (repeat' split) <;> simp

@[simp] theorem State.obsStart_keep (s : State) (elec : Nat) (speedN : Int) :
    (s.obsStart elec speedN).pending = s.pending ∧ (s.obsStart elec speedN).gen = s.gen ∧ (s.obsStart elec speedN).ext = s.ext ∧ (s.obsStart elec speedN).cyc = s.cyc ∧ (s.obsStart elec speedN).cp = s.cp ∧ (s.obsStart elec speedN).ang = s.ang ∧ (s.obsStart elec speedN).pwr = s.pwr := by
  unfold State.obsStart
  simp

@[simp] theorem State.catchFail_keep (s : State) :
    (s.catchFail).pending = s.pending ∧ (s.catchFail).gen = s.gen ∧ (s.catchFail).ext = s.ext ∧ (s.catchFail).cyc = s.cyc ∧ (s.catchFail).cp = s.cp ∧ (s.catchFail).ang = s.ang ∧ (s.catchFail).pwr = s.pwr := by
  unfold State.catchFail
  simp [apply_ite State.pending, apply_ite State.gen, apply_ite State.ext, apply_ite State.cyc, apply_ite State.cp, apply_ite State.ang, apply_ite State.pwr]

@[simp] theorem State.catchRun_keep (s : State) :
    (s.catchRun).pending = s.pending ∧ (s.catchRun).gen = s.gen ∧ (s.catchRun).ext = s.ext ∧ (s.catchRun).cyc = s.cyc ∧ (s.catchRun).cp = s.cp ∧ (s.catchRun).ang = s.ang ∧ (s.catchRun).pwr = s.pwr := by
  unfold State.catchRun
  simp

@[simp] theorem State.catchStart_keep (s : State) :
    (s.catchStart).pending = s.pending ∧ (s.catchStart).gen = s.gen ∧ (s.catchStart).ext = s.ext ∧ (s.catchStart).cyc = s.cyc ∧ (s.catchStart).cp = s.cp ∧ (s.catchStart).ang = s.ang ∧ (s.catchStart).pwr = s.pwr := by
  unfold State.catchStart
  simp [apply_ite State.pending, apply_ite State.gen, apply_ite State.ext, apply_ite State.cyc, apply_ite State.cp, apply_ite State.ang, apply_ite State.pwr]

@[simp] theorem State.chopStop_keep (s : State) :
    (s.chopStop).pending = s.pending ∧ (s.chopStop).gen = s.gen ∧ (s.chopStop).ext = s.ext ∧ (s.chopStop).cyc = s.cyc ∧ (s.chopStop).cp = s.cp ∧ (s.chopStop).ang = s.ang ∧ (s.chopStop).pwr = s.pwr := by
  unfold State.chopStop
  simp [apply_ite State.pending, apply_ite State.gen, apply_ite State.ext, apply_ite State.cyc, apply_ite State.cp, apply_ite State.ang, apply_ite State.pwr]

@[simp] theorem State.goCatch_keep (s : State) :
    (s.goCatch).pending = s.pending ∧ (s.goCatch).gen = s.gen ∧ (s.goCatch).ext = s.ext ∧ (s.goCatch).cyc = s.cyc ∧ (s.goCatch).cp = s.cp ∧ (s.goCatch).ang = s.ang ∧ (s.goCatch).pwr = s.pwr := by
  unfold State.goCatch
  simp [apply_ite State.pending, apply_ite State.gen, apply_ite State.ext, apply_ite State.cyc, apply_ite State.cp, apply_ite State.ang, apply_ite State.pwr]

@[simp] theorem State.shuntStart_keep (s : State) (len : Nat) :
    (s.shuntStart len).pending = s.pending ∧ (s.shuntStart len).gen = s.gen ∧ (s.shuntStart len).ext = s.ext ∧ (s.shuntStart len).cyc = s.cyc ∧ (s.shuntStart len).cp = s.cp ∧ (s.shuntStart len).ang = s.ang ∧ (s.shuntStart len).pwr = s.pwr := by
  unfold State.shuntStart
  simp

@[simp] theorem State.zeroThen_keep (s : State) (a : AfterZero) :
    (s.zeroThen a).pending = s.pending ∧ (s.zeroThen a).gen = s.gen ∧ (s.zeroThen a).ext = s.ext ∧ (s.zeroThen a).cyc = s.cyc ∧ (s.zeroThen a).cp = s.cp ∧ (s.zeroThen a).ang = s.ang ∧ (s.zeroThen a).pwr = s.pwr := by
  unfold State.zeroThen
  simp

@[simp] theorem State.rotorPf_keep (s : State) :
    (s.rotorPf).pending = s.pending ∧ (s.rotorPf).gen = s.gen ∧ (s.rotorPf).ext = s.ext ∧ (s.rotorPf).cyc = s.cyc ∧ (s.rotorPf).cp = s.cp ∧ (s.rotorPf).ang = s.ang ∧ (s.rotorPf).pwr = s.pwr := by
  unfold State.rotorPf
  (repeat' split) <;> simp

@[simp] theorem State.regTarget_keep (s : State) :
    (s.regTarget).pending = s.pending ∧ (s.regTarget).gen = s.gen ∧ (s.regTarget).ext = s.ext ∧ (s.regTarget).cyc = s.cyc ∧ (s.regTarget).cp = s.cp ∧ (s.regTarget).ang = s.ang ∧ (s.regTarget).pwr = s.pwr := by
  unfold State.regTarget
  simp [apply_ite State.pending, apply_ite State.gen, apply_ite State.ext, apply_ite State.cyc, apply_ite State.cp, apply_ite State.ang, apply_ite State.pwr]

@[simp] theorem State.askSector_keep (s : State) :
    (s.askSector).pending = s.pending ∧ (s.askSector).gen = s.gen ∧ (s.askSector).ext = s.ext ∧ (s.askSector).cyc = s.cyc ∧ (s.askSector).cp = s.cp ∧ (s.askSector).ang = s.ang ∧ (s.askSector).pwr = s.pwr := by
  unfold State.askSector
  dsimp only
  generalize vecLegs (if s.rot.rev then 4 else 1) = p
  obtain ⟨u, v, w⟩ := p
  (repeat' apply And.intro) <;> split <;> first | (simp; done) | (split <;> simp)

@[simp] theorem State.goAlign_keep (s : State) (ms : Nat) :
    (s.goAlign ms).pending = s.pending ∧ (s.goAlign ms).gen = s.gen ∧ (s.goAlign ms).ext = s.ext ∧ (s.goAlign ms).cyc = s.cyc ∧ (s.goAlign ms).cp = s.cp ∧ (s.goAlign ms).ang = s.ang ∧ (s.goAlign ms).pwr = s.pwr := by
  unfold State.goAlign
  simp

@[simp] theorem State.stepStart_keep (s : State) (k ts : Nat) (zc : Option Nat) :
    (s.stepStart k ts zc).pending = s.pending ∧ (s.stepStart k ts zc).gen = s.gen ∧ (s.stepStart k ts zc).ext = s.ext ∧ (s.stepStart k ts zc).cyc = s.cyc ∧ (s.stepStart k ts zc).cp = s.cp ∧ (s.stepStart k ts zc).ang = s.ang ∧ (s.stepStart k ts zc).pwr = s.pwr := by
  unfold State.stepStart
  simp

@[simp] theorem State.catchInto_keep (s : State) :
    (s.catchInto).pending = s.pending ∧ (s.catchInto).gen = s.gen ∧ (s.catchInto).ext = s.ext ∧ (s.catchInto).cyc = s.cyc ∧ (s.catchInto).cp = s.cp ∧ (s.catchInto).ang = s.ang ∧ (s.catchInto).pwr = s.pwr := by
  unfold State.catchInto
  simp [apply_ite State.pending, apply_ite State.gen, apply_ite State.ext, apply_ite State.cyc, apply_ite State.cp, apply_ite State.ang, apply_ite State.pwr]

@[simp] theorem State.catchDone_keep (s : State) :
    (s.catchDone).pending = s.pending ∧ (s.catchDone).gen = s.gen ∧ (s.catchDone).ext = s.ext ∧ (s.catchDone).cyc = s.cyc ∧ (s.catchDone).cp = s.cp ∧ (s.catchDone).ang = s.ang ∧ (s.catchDone).pwr = s.pwr := by
  unfold State.catchDone
  simp [apply_ite State.pending, apply_ite State.gen, apply_ite State.ext, apply_ite State.cyc, apply_ite State.cp, apply_ite State.ang, apply_ite State.pwr]

/-! ## Machine/ChanOps.lean -/

@[simp] theorem State.chMap_keep (s : State) (n : Nat) (f : ChS → ChS) :
    (s.chMap n f).pending = s.pending ∧ (s.chMap n f).gen = s.gen ∧ (s.chMap n f).rot = s.rot ∧ (s.chMap n f).ext = s.ext ∧ (s.chMap n f).cyc = s.cyc ∧ (s.chMap n f).cp = s.cp ∧ (s.chMap n f).ang = s.ang ∧ (s.chMap n f).pwr = s.pwr := by
  unfold State.chMap
  simp

@[simp] theorem State.ctxMap_keep (s : State) (n : Nat) (f : CtxS → CtxS) :
    (s.ctxMap n f).pending = s.pending ∧ (s.ctxMap n f).gen = s.gen ∧ (s.ctxMap n f).rot = s.rot ∧ (s.ctxMap n f).ext = s.ext ∧ (s.ctxMap n f).cyc = s.cyc ∧ (s.ctxMap n f).cp = s.cp ∧ (s.ctxMap n f).ang = s.ang ∧ (s.ctxMap n f).pwr = s.pwr := by
  unfold State.ctxMap
  simp

@[simp] theorem State.engMap_keep (s : State) (n : Nat) (f : EngS → EngS) :
    (s.engMap n f).pending = s.pending ∧ (s.engMap n f).gen = s.gen ∧ (s.engMap n f).rot = s.rot ∧ (s.engMap n f).ext = s.ext ∧ (s.engMap n f).cyc = s.cyc ∧ (s.engMap n f).cp = s.cp ∧ (s.engMap n f).ang = s.ang ∧ (s.engMap n f).pwr = s.pwr := by
  unfold State.engMap
  simp

@[simp] theorem State.phyMap_keep (s : State) (n : Nat) (f : PhyS → PhyS) :
    (s.phyMap n f).pending = s.pending ∧ (s.phyMap n f).gen = s.gen ∧ (s.phyMap n f).rot = s.rot ∧ (s.phyMap n f).ext = s.ext ∧ (s.phyMap n f).cyc = s.cyc ∧ (s.phyMap n f).cp = s.cp ∧ (s.phyMap n f).ang = s.ang ∧ (s.phyMap n f).pwr = s.pwr := by
  unfold State.phyMap
  simp

@[simp] theorem State.ledgMap_keep (s : State) (n : Nat) (f : LedgS → LedgS) :
    (s.ledgMap n f).pending = s.pending ∧ (s.ledgMap n f).gen = s.gen ∧ (s.ledgMap n f).rot = s.rot ∧ (s.ledgMap n f).ext = s.ext ∧ (s.ledgMap n f).cyc = s.cyc ∧ (s.ledgMap n f).cp = s.cp ∧ (s.ledgMap n f).ang = s.ang ∧ (s.ledgMap n f).pwr = s.pwr := by
  unfold State.ledgMap
  simp

@[simp] theorem State.lunMap_keep (s : State) (n l : Nat) (f : LunS → LunS) :
    (s.lunMap n l f).pending = s.pending ∧ (s.lunMap n l f).gen = s.gen ∧ (s.lunMap n l f).rot = s.rot ∧ (s.lunMap n l f).ext = s.ext ∧ (s.lunMap n l f).cyc = s.cyc ∧ (s.lunMap n l f).cp = s.cp ∧ (s.lunMap n l f).ang = s.ang ∧ (s.lunMap n l f).pwr = s.pwr := by
  unfold State.lunMap
  simp

@[simp] theorem State.placeMap_keep (s : State) (n p : Nat) (f : PlaceS → PlaceS) :
    (s.placeMap n p f).pending = s.pending ∧ (s.placeMap n p f).gen = s.gen ∧ (s.placeMap n p f).rot = s.rot ∧ (s.placeMap n p f).ext = s.ext ∧ (s.placeMap n p f).cyc = s.cyc ∧ (s.placeMap n p f).cp = s.cp ∧ (s.placeMap n p f).ang = s.ang ∧ (s.placeMap n p f).pwr = s.pwr := by
  unfold State.placeMap
  simp

@[simp] theorem State.grpMap_keep (s : State) (g : Nat) (f : GrpS → GrpS) :
    (s.grpMap g f).pending = s.pending ∧ (s.grpMap g f).gen = s.gen ∧ (s.grpMap g f).rot = s.rot ∧ (s.grpMap g f).ext = s.ext ∧ (s.grpMap g f).cyc = s.cyc ∧ (s.grpMap g f).cp = s.cp ∧ (s.grpMap g f).ang = s.ang ∧ (s.grpMap g f).pwr = s.pwr := by
  unfold State.grpMap
  simp

@[simp] theorem State.chRaise_keep (s : State) (n b : Nat) :
    (s.chRaise n b).pending = s.pending ∧ (s.chRaise n b).gen = s.gen ∧ (s.chRaise n b).rot = s.rot ∧ (s.chRaise n b).ext = s.ext ∧ (s.chRaise n b).cyc = s.cyc ∧ (s.chRaise n b).cp = s.cp ∧ (s.chRaise n b).ang = s.ang ∧ (s.chRaise n b).pwr = s.pwr := by
  unfold State.chRaise
  simp

@[simp] theorem State.phyCount_keep (s : State) (n b l : Nat) :
    (s.phyCount n b l).pending = s.pending ∧ (s.phyCount n b l).gen = s.gen ∧ (s.phyCount n b l).rot = s.rot ∧ (s.phyCount n b l).ext = s.ext ∧ (s.phyCount n b l).cyc = s.cyc ∧ (s.phyCount n b l).cp = s.cp ∧ (s.phyCount n b l).ang = s.ang ∧ (s.phyCount n b l).pwr = s.pwr := by
  unfold State.phyCount
  simp

@[simp] theorem State.storeCount_keep (s : State) (n b : Nat) :
    (s.storeCount n b).pending = s.pending ∧ (s.storeCount n b).gen = s.gen ∧ (s.storeCount n b).rot = s.rot ∧ (s.storeCount n b).ext = s.ext ∧ (s.storeCount n b).cyc = s.cyc ∧ (s.storeCount n b).cp = s.cp ∧ (s.storeCount n b).ang = s.ang ∧ (s.storeCount n b).pwr = s.pwr := by
  unfold State.storeCount
  simp

@[simp] theorem State.arrayCount_keep (s : State) (n b l : Nat) :
    (s.arrayCount n b l).pending = s.pending ∧ (s.arrayCount n b l).gen = s.gen ∧ (s.arrayCount n b l).rot = s.rot ∧ (s.arrayCount n b l).ext = s.ext ∧ (s.arrayCount n b l).cyc = s.cyc ∧ (s.arrayCount n b l).cp = s.cp ∧ (s.arrayCount n b l).ang = s.ang ∧ (s.arrayCount n b l).pwr = s.pwr := by
  unfold State.arrayCount
  simp

@[simp] theorem State.readqCount_keep (s : State) (n b l : Nat) :
    (s.readqCount n b l).pending = s.pending ∧ (s.readqCount n b l).gen = s.gen ∧ (s.readqCount n b l).rot = s.rot ∧ (s.readqCount n b l).ext = s.ext ∧ (s.readqCount n b l).cyc = s.cyc ∧ (s.readqCount n b l).cp = s.cp ∧ (s.readqCount n b l).ang = s.ang ∧ (s.readqCount n b l).pwr = s.pwr := by
  unfold State.readqCount
  simp

@[simp] theorem State.seqRaise_keep (s : State) (g b : Nat) :
    (s.seqRaise g b).pending = s.pending ∧ (s.seqRaise g b).gen = s.gen ∧ (s.seqRaise g b).rot = s.rot ∧ (s.seqRaise g b).ext = s.ext ∧ (s.seqRaise g b).cyc = s.cyc ∧ (s.seqRaise g b).cp = s.cp ∧ (s.seqRaise g b).ang = s.ang ∧ (s.seqRaise g b).pwr = s.pwr := by
  unfold State.seqRaise
  simp

@[simp] theorem State.freeVal_keep (s : State) (w : Nat) :
    (s.freeVal w).2.pending = s.pending ∧ (s.freeVal w).2.gen = s.gen ∧ (s.freeVal w).2.rot = s.rot ∧ (s.freeVal w).2.ext = s.ext ∧ (s.freeVal w).2.cyc = s.cyc ∧ (s.freeVal w).2.cp = s.cp ∧ (s.freeVal w).2.ang = s.ang ∧ (s.freeVal w).2.pwr = s.pwr := by
  unfold State.freeVal
  simp

@[simp] theorem State.enqueue_keep (s : State) (n : Nat) (d : Desc) :
    (s.enqueue n d).pending = s.pending ∧ (s.enqueue n d).gen = s.gen ∧ (s.enqueue n d).rot = s.rot ∧ (s.enqueue n d).ext = s.ext ∧ (s.enqueue n d).cyc = s.cyc ∧ (s.enqueue n d).cp = s.cp ∧ (s.enqueue n d).ang = s.ang ∧ (s.enqueue n d).pwr = s.pwr := by
  unfold State.enqueue
  simp

@[simp] theorem State.freeSlot_keep (s : State) (n : Nat) (d : Desc) :
    (s.freeSlot n d).pending = s.pending ∧ (s.freeSlot n d).gen = s.gen ∧ (s.freeSlot n d).rot = s.rot ∧ (s.freeSlot n d).ext = s.ext ∧ (s.freeSlot n d).cyc = s.cyc ∧ (s.freeSlot n d).cp = s.cp ∧ (s.freeSlot n d).ang = s.ang ∧ (s.freeSlot n d).pwr = s.pwr := by
  unfold State.freeSlot
  simp

@[simp] theorem State.issue_keep (s : State) (d : Desc) :
    (s.issue d).pending = s.pending ∧ (s.issue d).gen = s.gen ∧ (s.issue d).rot = s.rot ∧ (s.issue d).ext = s.ext ∧ (s.issue d).cyc = s.cyc ∧ (s.issue d).cp = s.cp ∧ (s.issue d).ang = s.ang ∧ (s.issue d).pwr = s.pwr := by
  unfold State.issue
  simp

@[simp] theorem State.blkSeen_keep (s : State) (t : Nat) :
    (s.blkSeen t).pending = s.pending ∧ (s.blkSeen t).gen = s.gen ∧ (s.blkSeen t).rot = s.rot ∧ (s.blkSeen t).ext = s.ext ∧ (s.blkSeen t).cyc = s.cyc ∧ (s.blkSeen t).cp = s.cp ∧ (s.blkSeen t).ang = s.ang ∧ (s.blkSeen t).pwr = s.pwr := by
  unfold State.blkSeen
  simp

@[simp] theorem State.blkMark_keep (s : State) (t : Nat) :
    (s.blkMark t).pending = s.pending ∧ (s.blkMark t).gen = s.gen ∧ (s.blkMark t).rot = s.rot ∧ (s.blkMark t).ext = s.ext ∧ (s.blkMark t).cyc = s.cyc ∧ (s.blkMark t).cp = s.cp ∧ (s.blkMark t).ang = s.ang ∧ (s.blkMark t).pwr = s.pwr := by
  unfold State.blkMark
  simp

@[simp] theorem State.refuseNote_keep (s : State) (n t : Nat) (waive : Bool) :
    (s.refuseNote n t waive).pending = s.pending ∧ (s.refuseNote n t waive).gen = s.gen ∧ (s.refuseNote n t waive).rot = s.rot ∧ (s.refuseNote n t waive).ext = s.ext ∧ (s.refuseNote n t waive).cyc = s.cyc ∧ (s.refuseNote n t waive).cp = s.cp ∧ (s.refuseNote n t waive).ang = s.ang ∧ (s.refuseNote n t waive).pwr = s.pwr := by
  unfold State.refuseNote
  simp [apply_ite State.pending, apply_ite State.gen, apply_ite State.rot, apply_ite State.ext, apply_ite State.cyc, apply_ite State.cp, apply_ite State.ang, apply_ite State.pwr]

@[simp] theorem State.recordRefusal_keep (s : State) (n t ce cmd reason : Nat) :
    (s.recordRefusal n t ce cmd reason).pending = s.pending ∧ (s.recordRefusal n t ce cmd reason).gen = s.gen ∧ (s.recordRefusal n t ce cmd reason).rot = s.rot ∧ (s.recordRefusal n t ce cmd reason).ext = s.ext ∧ (s.recordRefusal n t ce cmd reason).cyc = s.cyc ∧ (s.recordRefusal n t ce cmd reason).cp = s.cp ∧ (s.recordRefusal n t ce cmd reason).ang = s.ang ∧ (s.recordRefusal n t ce cmd reason).pwr = s.pwr := by
  unfold State.recordRefusal
  simp

@[simp] theorem State.tbPut_keep (s : State) (n p off : Nat) (bs : List Byte) :
    (s.tbPut n p off bs).pending = s.pending ∧ (s.tbPut n p off bs).gen = s.gen ∧ (s.tbPut n p off bs).rot = s.rot ∧ (s.tbPut n p off bs).ext = s.ext ∧ (s.tbPut n p off bs).cyc = s.cyc ∧ (s.tbPut n p off bs).cp = s.cp ∧ (s.tbPut n p off bs).ang = s.ang ∧ (s.tbPut n p off bs).pwr = s.pwr := by
  unfold State.tbPut
  simp

@[simp] theorem State.infoWords_keep (s : State) (n p : Nat) (y0 : Nat) (y1 : Nat) (y2 : List Byte) :
    (s.infoWords n p y0 y1 y2).pending = s.pending ∧ (s.infoWords n p y0 y1 y2).gen = s.gen ∧ (s.infoWords n p y0 y1 y2).rot = s.rot ∧ (s.infoWords n p y0 y1 y2).ext = s.ext ∧ (s.infoWords n p y0 y1 y2).cyc = s.cyc ∧ (s.infoWords n p y0 y1 y2).cp = s.cp ∧ (s.infoWords n p y0 y1 y2).ang = s.ang ∧ (s.infoWords n p y0 y1 y2).pwr = s.pwr := by
  induction y0 generalizing s y1 y2 with
  | zero => simp [State.infoWords]
  | succ n ih =>
    unfold State.infoWords
    simp [ih]

@[simp] theorem State.infoPut_keep (s : State) (n p j : Nat) (bs : List Byte) :
    (s.infoPut n p j bs).pending = s.pending ∧ (s.infoPut n p j bs).gen = s.gen ∧ (s.infoPut n p j bs).rot = s.rot ∧ (s.infoPut n p j bs).ext = s.ext ∧ (s.infoPut n p j bs).cyc = s.cyc ∧ (s.infoPut n p j bs).cp = s.cp ∧ (s.infoPut n p j bs).ang = s.ang ∧ (s.infoPut n p j bs).pwr = s.pwr := by
  unfold State.infoPut
  simp

@[simp] theorem State.claimPlace_keep (s : State) (n p : Nat) (v : PlaceS) :
    (s.claimPlace n p v).pending = s.pending ∧ (s.claimPlace n p v).gen = s.gen ∧ (s.claimPlace n p v).rot = s.rot ∧ (s.claimPlace n p v).ext = s.ext ∧ (s.claimPlace n p v).cyc = s.cyc ∧ (s.claimPlace n p v).cp = s.cp ∧ (s.claimPlace n p v).ang = s.ang ∧ (s.claimPlace n p v).pwr = s.pwr := by
  unfold State.claimPlace
  simp

@[simp] theorem State.releasePlace_keep (s : State) (n p : Nat) :
    (s.releasePlace n p).pending = s.pending ∧ (s.releasePlace n p).gen = s.gen ∧ (s.releasePlace n p).rot = s.rot ∧ (s.releasePlace n p).ext = s.ext ∧ (s.releasePlace n p).cyc = s.cyc ∧ (s.releasePlace n p).cp = s.cp ∧ (s.releasePlace n p).ang = s.ang ∧ (s.releasePlace n p).pwr = s.pwr := by
  unfold State.releasePlace
  simp

/-! ## Machine/RingOps.lean -/

@[simp] theorem State.rput_keep (s : State) (r off n v : Nat) :
    (s.rput r off n v).pending = s.pending ∧ (s.rput r off n v).gen = s.gen ∧ (s.rput r off n v).rot = s.rot ∧ (s.rput r off n v).ext = s.ext ∧ (s.rput r off n v).cyc = s.cyc ∧ (s.rput r off n v).cp = s.cp ∧ (s.rput r off n v).ang = s.ang ∧ (s.rput r off n v).pwr = s.pwr := by
  unfold State.rput
  simp

@[simp] theorem State.ringMap_keep (s : State) (r : Nat) (f : RingS → RingS) :
    (s.ringMap r f).pending = s.pending ∧ (s.ringMap r f).gen = s.gen ∧ (s.ringMap r f).rot = s.rot ∧ (s.ringMap r f).ext = s.ext ∧ (s.ringMap r f).cyc = s.cyc ∧ (s.ringMap r f).cp = s.cp ∧ (s.ringMap r f).ang = s.ang ∧ (s.ringMap r f).pwr = s.pwr := by
  unfold State.ringMap
  simp

@[simp] theorem State.rngMap_keep (s : State) (f : RngS → RngS) :
    (s.rngMap f).pending = s.pending ∧ (s.rngMap f).gen = s.gen ∧ (s.rngMap f).rot = s.rot ∧ (s.rngMap f).ext = s.ext ∧ (s.rngMap f).cyc = s.cyc ∧ (s.rngMap f).cp = s.cp ∧ (s.rngMap f).ang = s.ang ∧ (s.rngMap f).pwr = s.pwr := by
  unfold State.rngMap
  simp

@[simp] theorem State.ringRaise_keep (s : State) (r b : Nat) :
    (s.ringRaise r b).pending = s.pending ∧ (s.ringRaise r b).gen = s.gen ∧ (s.ringRaise r b).rot = s.rot ∧ (s.ringRaise r b).ext = s.ext ∧ (s.ringRaise r b).cyc = s.cyc ∧ (s.ringRaise r b).cp = s.cp ∧ (s.ringRaise r b).ang = s.ang ∧ (s.ringRaise r b).pwr = s.pwr := by
  unfold State.ringRaise
  simp

@[simp] theorem State.ringSettle_keep (s : State) (r : Nat) :
    (s.ringSettle r).pending = s.pending ∧ (s.ringSettle r).gen = s.gen ∧ (s.ringSettle r).rot = s.rot ∧ (s.ringSettle r).ext = s.ext ∧ (s.ringSettle r).cyc = s.cyc ∧ (s.ringSettle r).cp = s.cp ∧ (s.ringSettle r).ang = s.ang ∧ (s.ringSettle r).pwr = s.pwr := by
  unfold State.ringSettle
  simp [apply_ite State.pending, apply_ite State.gen, apply_ite State.rot, apply_ite State.ext, apply_ite State.cyc, apply_ite State.cp, apply_ite State.ang, apply_ite State.pwr]

@[simp] theorem State.cqWrite_keep (s : State) (cq par : Nat) (body : List Byte) (typ : Nat) (sub : Option Nat) :
    (s.cqWrite cq par body typ sub).pending = s.pending ∧ (s.cqWrite cq par body typ sub).gen = s.gen ∧ (s.cqWrite cq par body typ sub).rot = s.rot ∧ (s.cqWrite cq par body typ sub).ext = s.ext ∧ (s.cqWrite cq par body typ sub).cyc = s.cyc ∧ (s.cqWrite cq par body typ sub).cp = s.cp ∧ (s.cqWrite cq par body typ sub).ang = s.ang ∧ (s.cqWrite cq par body typ sub).pwr = s.pwr := by
  unfold State.cqWrite
  simp

@[simp] theorem State.ringDone_keep (s : State) (r : Nat) :
    (s.ringDone r).pending = s.pending ∧ (s.ringDone r).gen = s.gen ∧ (s.ringDone r).rot = s.rot ∧ (s.ringDone r).ext = s.ext ∧ (s.ringDone r).cyc = s.cyc ∧ (s.ringDone r).cp = s.cp ∧ (s.ringDone r).ang = s.ang ∧ (s.ringDone r).pwr = s.pwr := by
  unfold State.ringDone
  simp

@[simp] theorem State.cqWrote_keep (s : State) (cq : Nat) (sub : Option Nat) :
    (s.cqWrote cq sub).pending = s.pending ∧ (s.cqWrote cq sub).gen = s.gen ∧ (s.cqWrote cq sub).rot = s.rot ∧ (s.cqWrote cq sub).ext = s.ext ∧ (s.cqWrote cq sub).cyc = s.cyc ∧ (s.cqWrote cq sub).cp = s.cp ∧ (s.cqWrote cq sub).ang = s.ang ∧ (s.cqWrote cq sub).pwr = s.pwr := by
  unfold State.cqWrote
  (repeat' split) <;> simp [apply_ite State.pending, apply_ite State.gen, apply_ite State.rot, apply_ite State.ext, apply_ite State.cyc, apply_ite State.cp, apply_ite State.ang, apply_ite State.pwr]

@[simp] theorem State.pushRec_keep (s : State) (r : RecOut) :
    (s.pushRec r).pending = s.pending ∧ (s.pushRec r).gen = s.gen ∧ (s.pushRec r).rot = s.rot ∧ (s.pushRec r).ext = s.ext ∧ (s.pushRec r).cyc = s.cyc ∧ (s.pushRec r).cp = s.cp ∧ (s.pushRec r).ang = s.ang ∧ (s.pushRec r).pwr = s.pwr := by
  unfold State.pushRec
  simp

@[simp] theorem State.dplaceSet_keep (s : State) (e : Nat) (u : DUse) :
    (s.dplaceSet e u).pending = s.pending ∧ (s.dplaceSet e u).gen = s.gen ∧ (s.dplaceSet e u).rot = s.rot ∧ (s.dplaceSet e u).ext = s.ext ∧ (s.dplaceSet e u).cyc = s.cyc ∧ (s.dplaceSet e u).cp = s.cp ∧ (s.dplaceSet e u).ang = s.ang ∧ (s.dplaceSet e u).pwr = s.pwr := by
  unfold State.dplaceSet
  simp

@[simp] theorem State.dPut_keep (s : State) (e off : Nat) (bs : List Byte) :
    (s.dPut e off bs).pending = s.pending ∧ (s.dPut e off bs).gen = s.gen ∧ (s.dPut e off bs).rot = s.rot ∧ (s.dPut e off bs).ext = s.ext ∧ (s.dPut e off bs).cyc = s.cyc ∧ (s.dPut e off bs).cp = s.cp ∧ (s.dPut e off bs).ang = s.ang ∧ (s.dPut e off bs).pwr = s.pwr := by
  unfold State.dPut
  simp

@[simp] theorem State.resPut_keep (s : State) (e cw outcome usc step iter : Nat) :
    (s.resPut e cw outcome usc step iter).pending = s.pending ∧ (s.resPut e cw outcome usc step iter).gen = s.gen ∧ (s.resPut e cw outcome usc step iter).rot = s.rot ∧ (s.resPut e cw outcome usc step iter).ext = s.ext ∧ (s.resPut e cw outcome usc step iter).cyc = s.cyc ∧ (s.resPut e cw outcome usc step iter).cp = s.cp ∧ (s.resPut e cw outcome usc step iter).ang = s.ang ∧ (s.resPut e cw outcome usc step iter).pwr = s.pwr := by
  unfold State.resPut
  simp

@[simp] theorem State.resClear_keep (s : State) (e : Nat) :
    (s.resClear e).pending = s.pending ∧ (s.resClear e).gen = s.gen ∧ (s.resClear e).rot = s.rot ∧ (s.resClear e).ext = s.ext ∧ (s.resClear e).cyc = s.cyc ∧ (s.resClear e).cp = s.cp ∧ (s.resClear e).ang = s.ang ∧ (s.resClear e).pwr = s.pwr := by
  unfold State.resClear
  simp

@[simp] theorem State.readTileEnd_keep (s : State) (id k st deep : Nat) :
    (s.readTileEnd id k st deep).pending = s.pending ∧ (s.readTileEnd id k st deep).gen = s.gen ∧ (s.readTileEnd id k st deep).rot = s.rot ∧ (s.readTileEnd id k st deep).ext = s.ext ∧ (s.readTileEnd id k st deep).cyc = s.cyc ∧ (s.readTileEnd id k st deep).cp = s.cp ∧ (s.readTileEnd id k st deep).ang = s.ang ∧ (s.readTileEnd id k st deep).pwr = s.pwr := by
  unfold State.readTileEnd
  (repeat' split) <;> simp [apply_ite State.pending, apply_ite State.gen, apply_ite State.rot, apply_ite State.ext, apply_ite State.cyc, apply_ite State.cp, apply_ite State.ang, apply_ite State.pwr]

@[simp] theorem State.readMap_keep (s : State) (id : Nat) (f : ReadReq → ReadReq) :
    (s.readMap id f).pending = s.pending ∧ (s.readMap id f).gen = s.gen ∧ (s.readMap id f).rot = s.rot ∧ (s.readMap id f).ext = s.ext ∧ (s.readMap id f).cyc = s.cyc ∧ (s.readMap id f).cp = s.cp ∧ (s.readMap id f).ang = s.ang ∧ (s.readMap id f).pwr = s.pwr := by
  unfold State.readMap
  simp

@[simp] theorem State.issueRead_keep (s : State) :
    (s.issueRead).pending = s.pending ∧ (s.issueRead).gen = s.gen ∧ (s.issueRead).rot = s.rot ∧ (s.issueRead).ext = s.ext ∧ (s.issueRead).cyc = s.cyc ∧ (s.issueRead).cp = s.cp ∧ (s.issueRead).ang = s.ang ∧ (s.issueRead).pwr = s.pwr := by
  unfold State.issueRead
  dsimp only
  (repeat' apply And.intro) <;> (repeat' split) <;> simp

@[simp] theorem State.issueReads_keep (s : State) (y0 : Nat) :
    (s.issueReads y0).pending = s.pending ∧ (s.issueReads y0).gen = s.gen ∧ (s.issueReads y0).rot = s.rot ∧ (s.issueReads y0).ext = s.ext ∧ (s.issueReads y0).cyc = s.cyc ∧ (s.issueReads y0).cp = s.cp ∧ (s.issueReads y0).ang = s.ang ∧ (s.issueReads y0).pwr = s.pwr := by
  induction y0 generalizing s with
  | zero => simp [State.issueReads]
  | succ n ih =>
    unfold State.issueReads
    simp [ih]

@[simp] theorem State.pumpReads_keep (s : State) :
    (s.pumpReads).pending = s.pending ∧ (s.pumpReads).gen = s.gen ∧ (s.pumpReads).rot = s.rot ∧ (s.pumpReads).ext = s.ext ∧ (s.pumpReads).cyc = s.cyc ∧ (s.pumpReads).cp = s.cp ∧ (s.pumpReads).ang = s.ang ∧ (s.pumpReads).pwr = s.pwr := by
  unfold State.pumpReads
  simp

@[simp] theorem State.loadIssue_keep (s : State) (i : Nat) :
    (s.loadIssue i).pending = s.pending ∧ (s.loadIssue i).gen = s.gen ∧ (s.loadIssue i).rot = s.rot ∧ (s.loadIssue i).ext = s.ext ∧ (s.loadIssue i).cyc = s.cyc ∧ (s.loadIssue i).cp = s.cp ∧ (s.loadIssue i).ang = s.ang ∧ (s.loadIssue i).pwr = s.pwr := by
  unfold State.loadIssue
  (repeat' split) <;> simp

@[simp] theorem State.loadPump_keep (s : State) :
    (s.loadPump).pending = s.pending ∧ (s.loadPump).gen = s.gen ∧ (s.loadPump).rot = s.rot ∧ (s.loadPump).ext = s.ext ∧ (s.loadPump).cyc = s.cyc ∧ (s.loadPump).cp = s.cp ∧ (s.loadPump).ang = s.ang ∧ (s.loadPump).pwr = s.pwr := by
  unfold State.loadPump
  simp

@[simp] theorem State.ledgRun_keep (s : State) (f : LedgRun → LedgRun) :
    (s.ledgRun f).pending = s.pending ∧ (s.ledgRun f).gen = s.gen ∧ (s.ledgRun f).rot = s.rot ∧ (s.ledgRun f).ext = s.ext ∧ (s.ledgRun f).cyc = s.cyc ∧ (s.ledgRun f).cp = s.cp ∧ (s.ledgRun f).ang = s.ang ∧ (s.ledgRun f).pwr = s.pwr := by
  unfold State.ledgRun
  simp

@[simp] theorem State.ledgIssue_keep (s : State) (i : Nat) :
    (s.ledgIssue i).pending = s.pending ∧ (s.ledgIssue i).gen = s.gen ∧ (s.ledgIssue i).rot = s.rot ∧ (s.ledgIssue i).ext = s.ext ∧ (s.ledgIssue i).cyc = s.cyc ∧ (s.ledgIssue i).cp = s.cp ∧ (s.ledgIssue i).ang = s.ang ∧ (s.ledgIssue i).pwr = s.pwr := by
  unfold State.ledgIssue
  (repeat' split) <;> simp

@[simp] theorem State.blankIssue_keep (s : State) (j : Nat) :
    (s.blankIssue j).pending = s.pending ∧ (s.blankIssue j).gen = s.gen ∧ (s.blankIssue j).rot = s.rot ∧ (s.blankIssue j).ext = s.ext ∧ (s.blankIssue j).cyc = s.cyc ∧ (s.blankIssue j).cp = s.cp ∧ (s.blankIssue j).ang = s.ang ∧ (s.blankIssue j).pwr = s.pwr := by
  unfold State.blankIssue
  (repeat' split) <;> simp

@[simp] theorem State.ledgPump_keep (s : State) :
    (s.ledgPump).pending = s.pending ∧ (s.ledgPump).gen = s.gen ∧ (s.ledgPump).rot = s.rot ∧ (s.ledgPump).ext = s.ext ∧ (s.ledgPump).cyc = s.cyc ∧ (s.ledgPump).cp = s.cp ∧ (s.ledgPump).ang = s.ang ∧ (s.ledgPump).pwr = s.pwr := by
  unfold State.ledgPump
  (repeat' split) <;> simp

@[simp] theorem State.decPump_keep (s : State) :
    (s.decPump).pending = s.pending ∧ (s.decPump).gen = s.gen ∧ (s.decPump).rot = s.rot ∧ (s.decPump).ext = s.ext ∧ (s.decPump).cyc = s.cyc ∧ (s.decPump).cp = s.cp ∧ (s.decPump).ang = s.ang ∧ (s.decPump).pwr = s.pwr := by
  unfold State.decPump
  simp

@[simp] theorem State.decRelease_keep (s : State) (e : Nat) :
    (s.decRelease e).pending = s.pending ∧ (s.decRelease e).gen = s.gen ∧ (s.decRelease e).rot = s.rot ∧ (s.decRelease e).ext = s.ext ∧ (s.decRelease e).cyc = s.cyc ∧ (s.decRelease e).cp = s.cp ∧ (s.decRelease e).ang = s.ang ∧ (s.decRelease e).pwr = s.pwr := by
  unfold State.decRelease
  simp

@[simp] theorem State.readTileData_keep (s : State) (id k e st deep : Nat) :
    (s.readTileData id k e st deep).pending = s.pending ∧ (s.readTileData id k e st deep).gen = s.gen ∧ (s.readTileData id k e st deep).rot = s.rot ∧ (s.readTileData id k e st deep).ext = s.ext ∧ (s.readTileData id k e st deep).cyc = s.cyc ∧ (s.readTileData id k e st deep).cp = s.cp ∧ (s.readTileData id k e st deep).ang = s.ang ∧ (s.readTileData id k e st deep).pwr = s.pwr := by
  unfold State.readTileData
  (repeat' split) <;> simp

@[simp] theorem State.chanEnd_keep (s : State) (ring tag : Nat) (cmpl : Bool) (st : Nat) (res : List Half) :
    (s.chanEnd ring tag cmpl st res).pending = s.pending ∧ (s.chanEnd ring tag cmpl st res).gen = s.gen ∧ (s.chanEnd ring tag cmpl st res).rot = s.rot ∧ (s.chanEnd ring tag cmpl st res).ext = s.ext ∧ (s.chanEnd ring tag cmpl st res).cyc = s.cyc ∧ (s.chanEnd ring tag cmpl st res).cp = s.cp ∧ (s.chanEnd ring tag cmpl st res).ang = s.ang ∧ (s.chanEnd ring tag cmpl st res).pwr = s.pwr := by
  unfold State.chanEnd
  simp [apply_ite State.pending, apply_ite State.gen, apply_ite State.rot, apply_ite State.ext, apply_ite State.cyc, apply_ite State.cp, apply_ite State.ang, apply_ite State.pwr]

@[simp] theorem State.chanReadEnd_keep (s : State) (e ring tag : Nat) (cmpl : Bool) (d : Desc) (st : Nat) (res : List Half) :
    (s.chanReadEnd e ring tag cmpl d st res).pending = s.pending ∧ (s.chanReadEnd e ring tag cmpl d st res).gen = s.gen ∧ (s.chanReadEnd e ring tag cmpl d st res).rot = s.rot ∧ (s.chanReadEnd e ring tag cmpl d st res).ext = s.ext ∧ (s.chanReadEnd e ring tag cmpl d st res).cyc = s.cyc ∧ (s.chanReadEnd e ring tag cmpl d st res).cp = s.cp ∧ (s.chanReadEnd e ring tag cmpl d st res).ang = s.ang ∧ (s.chanReadEnd e ring tag cmpl d st res).pwr = s.pwr := by
  unfold State.chanReadEnd
  (repeat' split) <;> simp

/-! ## Machine/LinkTx.lean -/

@[simp] theorem State.lnkMap_keep (s : State) (f : LinkS → LinkS) :
    (s.lnkMap f).pending = s.pending ∧ (s.lnkMap f).gen = s.gen ∧ (s.lnkMap f).rot = s.rot ∧ (s.lnkMap f).ext = s.ext ∧ (s.lnkMap f).cyc = s.cyc ∧ (s.lnkMap f).cp = s.cp ∧ (s.lnkMap f).ang = s.ang ∧ (s.lnkMap f).pwr = s.pwr := by
  unfold State.lnkMap
  simp

@[simp] theorem State.linkPut_keep (s : State) (r : LRec) :
    (s.linkPut r).pending = s.pending ∧ (s.linkPut r).gen = s.gen ∧ (s.linkPut r).rot = s.rot ∧ (s.linkPut r).ext = s.ext ∧ (s.linkPut r).cyc = s.cyc ∧ (s.linkPut r).cp = s.cp ∧ (s.linkPut r).ang = s.ang ∧ (s.linkPut r).pwr = s.pwr := by
  unfold State.linkPut
  simp

@[simp] theorem State.linkSend_keep (s : State) (r : LRec) :
    (s.linkSend r).pending = s.pending ∧ (s.linkSend r).gen = s.gen ∧ (s.linkSend r).rot = s.rot ∧ (s.linkSend r).ext = s.ext ∧ (s.linkSend r).cyc = s.cyc ∧ (s.linkSend r).cp = s.cp ∧ (s.linkSend r).ang = s.ang ∧ (s.linkSend r).pwr = s.pwr := by
  unfold State.linkSend
  simp [apply_ite State.pending, apply_ite State.gen, apply_ite State.rot, apply_ite State.ext, apply_ite State.cyc, apply_ite State.cp, apply_ite State.ang, apply_ite State.pwr]

@[simp] theorem State.linkPump_keep (s : State) (y0 : Nat) :
    (s.linkPump y0).pending = s.pending ∧ (s.linkPump y0).gen = s.gen ∧ (s.linkPump y0).rot = s.rot ∧ (s.linkPump y0).ext = s.ext ∧ (s.linkPump y0).cyc = s.cyc ∧ (s.linkPump y0).cp = s.cp ∧ (s.linkPump y0).ang = s.ang ∧ (s.linkPump y0).pwr = s.pwr := by
  induction y0 generalizing s with
  | zero => simp [State.linkPump]
  | succ n ih =>
    unfold State.linkPump
    (repeat' split) <;> simp [ih]

@[simp] theorem State.mirror_keep (s : State) (typ arg : Nat) (payload : List Byte) :
    (s.mirror typ arg payload).pending = s.pending ∧ (s.mirror typ arg payload).gen = s.gen ∧ (s.mirror typ arg payload).rot = s.rot ∧ (s.mirror typ arg payload).ext = s.ext ∧ (s.mirror typ arg payload).cyc = s.cyc ∧ (s.mirror typ arg payload).cp = s.cp ∧ (s.mirror typ arg payload).ang = s.ang ∧ (s.mirror typ arg payload).pwr = s.pwr := by
  unfold State.mirror
  simp [apply_ite State.pending, apply_ite State.gen, apply_ite State.rot, apply_ite State.ext, apply_ite State.cyc, apply_ite State.cp, apply_ite State.ang, apply_ite State.pwr]

@[simp] theorem State.passRecords_keep (s : State) (ups : List PassUp) (rs : List TileRec) :
    (s.passRecords ups rs).pending = s.pending ∧ (s.passRecords ups rs).gen = s.gen ∧ (s.passRecords ups rs).rot = s.rot ∧ (s.passRecords ups rs).ext = s.ext ∧ (s.passRecords ups rs).cyc = s.cyc ∧ (s.passRecords ups rs).cp = s.cp ∧ (s.passRecords ups rs).ang = s.ang ∧ (s.passRecords ups rs).pwr = s.pwr := by
  unfold State.passRecords
  simp [apply_ite State.pending, apply_ite State.gen, apply_ite State.rot, apply_ite State.ext, apply_ite State.cyc, apply_ite State.cp, apply_ite State.ang, apply_ite State.pwr]

@[simp] theorem State.mirrorHoop_keep (s : State) (h : Nat) :
    (s.mirrorHoop h).pending = s.pending ∧ (s.mirrorHoop h).gen = s.gen ∧ (s.mirrorHoop h).rot = s.rot ∧ (s.mirrorHoop h).ext = s.ext ∧ (s.mirrorHoop h).cyc = s.cyc ∧ (s.mirrorHoop h).cp = s.cp ∧ (s.mirrorHoop h).ang = s.ang ∧ (s.mirrorHoop h).pwr = s.pwr := by
  unfold State.mirrorHoop
  simp [apply_ite State.pending, apply_ite State.gen, apply_ite State.rot, apply_ite State.ext, apply_ite State.cyc, apply_ite State.cp, apply_ite State.ang, apply_ite State.pwr]

/-! ## Machine/MapOps.lean -/

@[simp] theorem State.mapMap_keep (s : State) (f : MapS → MapS) :
    (s.mapMap f).pending = s.pending ∧ (s.mapMap f).gen = s.gen ∧ (s.mapMap f).rot = s.rot ∧ (s.mapMap f).ext = s.ext ∧ (s.mapMap f).cyc = s.cyc ∧ (s.mapMap f).cp = s.cp ∧ (s.mapMap f).ang = s.ang ∧ (s.mapMap f).pwr = s.pwr := by
  unfold State.mapMap
  simp

@[simp] theorem State.mapTouch_keep (s : State) (l : Nat) :
    (s.mapTouch l).pending = s.pending ∧ (s.mapTouch l).gen = s.gen ∧ (s.mapTouch l).rot = s.rot ∧ (s.mapTouch l).ext = s.ext ∧ (s.mapTouch l).cyc = s.cyc ∧ (s.mapTouch l).cp = s.cp ∧ (s.mapTouch l).ang = s.ang ∧ (s.mapTouch l).pwr = s.pwr := by
  unfold State.mapTouch
  (repeat' split) <;> simp

@[simp] theorem State.mapSet_keep (s : State) (t a : Nat) :
    (s.mapSet t a).pending = s.pending ∧ (s.mapSet t a).gen = s.gen ∧ (s.mapSet t a).rot = s.rot ∧ (s.mapSet t a).ext = s.ext ∧ (s.mapSet t a).cyc = s.cyc ∧ (s.mapSet t a).cp = s.cp ∧ (s.mapSet t a).ang = s.ang ∧ (s.mapSet t a).pwr = s.pwr := by
  unfold State.mapSet
  (repeat' split) <;> simp

@[simp] theorem State.probeAnswer_keep (s : State) (id t a : Nat) :
    (s.probeAnswer id t a).pending = s.pending ∧ (s.probeAnswer id t a).gen = s.gen ∧ (s.probeAnswer id t a).rot = s.rot ∧ (s.probeAnswer id t a).ext = s.ext ∧ (s.probeAnswer id t a).cyc = s.cyc ∧ (s.probeAnswer id t a).cp = s.cp ∧ (s.probeAnswer id t a).ang = s.ang ∧ (s.probeAnswer id t a).pwr = s.pwr := by
  unfold State.probeAnswer
  simp

@[simp] theorem State.readTileFound_keep (s : State) (id k : Nat) (a : Option Nat) :
    (s.readTileFound id k a).pending = s.pending ∧ (s.readTileFound id k a).gen = s.gen ∧ (s.readTileFound id k a).rot = s.rot ∧ (s.readTileFound id k a).ext = s.ext ∧ (s.readTileFound id k a).cyc = s.cyc ∧ (s.readTileFound id k a).cp = s.cp ∧ (s.readTileFound id k a).ang = s.ang ∧ (s.readTileFound id k a).pwr = s.pwr := by
  unfold State.readTileFound
  simp

@[simp] theorem State.cmplSeen_keep (s : State) (rs : List TileRec) :
    (s.cmplSeen rs).pending = s.pending ∧ (s.cmplSeen rs).gen = s.gen ∧ (s.cmplSeen rs).rot = s.rot ∧ (s.cmplSeen rs).ext = s.ext ∧ (s.cmplSeen rs).cyc = s.cyc ∧ (s.cmplSeen rs).cp = s.cp ∧ (s.cmplSeen rs).ang = s.ang ∧ (s.cmplSeen rs).pwr = s.pwr := by
  unfold State.cmplSeen
  simp

@[simp] theorem State.lookupAnswer_keep (s : State) (t : Nat) :
    (s.lookupAnswer t).pending = s.pending ∧ (s.lookupAnswer t).gen = s.gen ∧ (s.lookupAnswer t).rot = s.rot ∧ (s.lookupAnswer t).ext = s.ext ∧ (s.lookupAnswer t).cyc = s.cyc ∧ (s.lookupAnswer t).cp = s.cp ∧ (s.lookupAnswer t).ang = s.ang ∧ (s.lookupAnswer t).pwr = s.pwr := by
  unfold State.lookupAnswer
  simp

@[simp] theorem State.mapUpdate_keep (s : State) (pass : Bool) (es : List (Nat × Nat)) :
    (s.mapUpdate pass es).pending = s.pending ∧ (s.mapUpdate pass es).gen = s.gen ∧ (s.mapUpdate pass es).rot = s.rot ∧ (s.mapUpdate pass es).ext = s.ext ∧ (s.mapUpdate pass es).cyc = s.cyc ∧ (s.mapUpdate pass es).cp = s.cp ∧ (s.mapUpdate pass es).ang = s.ang ∧ (s.mapUpdate pass es).pwr = s.pwr := by
  unfold State.mapUpdate
  dsimp only
  (repeat' apply And.intro) <;> (repeat' split) <;> simp

@[simp] theorem State.mapApply_keep (s : State) (op : MapOp) :
    (s.mapApply op).pending = s.pending ∧ (s.mapApply op).gen = s.gen ∧ (s.mapApply op).rot = s.rot ∧ (s.mapApply op).ext = s.ext ∧ (s.mapApply op).cyc = s.cyc ∧ (s.mapApply op).cp = s.cp ∧ (s.mapApply op).ang = s.ang ∧ (s.mapApply op).pwr = s.pwr := by
  unfold State.mapApply
  (repeat' split) <;> simp [apply_ite State.pending, apply_ite State.gen, apply_ite State.rot, apply_ite State.ext, apply_ite State.cyc, apply_ite State.cp, apply_ite State.ang, apply_ite State.pwr]

@[simp] theorem State.mapLost_keep (s : State) (op : MapOp) :
    (s.mapLost op).pending = s.pending ∧ (s.mapLost op).gen = s.gen ∧ (s.mapLost op).rot = s.rot ∧ (s.mapLost op).ext = s.ext ∧ (s.mapLost op).cyc = s.cyc ∧ (s.mapLost op).cp = s.cp ∧ (s.mapLost op).ang = s.ang ∧ (s.mapLost op).pwr = s.pwr := by
  unfold State.mapLost
  (repeat' split) <;> simp

@[simp] theorem State.mapWriteBack_keep (s : State) (l : Nat) (entries : List Word) :
    (s.mapWriteBack l entries).pending = s.pending ∧ (s.mapWriteBack l entries).gen = s.gen ∧ (s.mapWriteBack l entries).rot = s.rot ∧ (s.mapWriteBack l entries).ext = s.ext ∧ (s.mapWriteBack l entries).cyc = s.cyc ∧ (s.mapWriteBack l entries).cp = s.cp ∧ (s.mapWriteBack l entries).ang = s.ang ∧ (s.mapWriteBack l entries).pwr = s.pwr := by
  unfold State.mapWriteBack
  simp

@[simp] theorem State.mapFetch_keep (s : State) (l : Nat) :
    (s.mapFetch l).pending = s.pending ∧ (s.mapFetch l).gen = s.gen ∧ (s.mapFetch l).rot = s.rot ∧ (s.mapFetch l).ext = s.ext ∧ (s.mapFetch l).cyc = s.cyc ∧ (s.mapFetch l).cp = s.cp ∧ (s.mapFetch l).ang = s.ang ∧ (s.mapFetch l).pwr = s.pwr := by
  unfold State.mapFetch
  (repeat' split) <;> simp

@[simp] theorem State.mapSubmit_keep (s : State) (op : MapOp) :
    (s.mapSubmit op).pending = s.pending ∧ (s.mapSubmit op).gen = s.gen ∧ (s.mapSubmit op).rot = s.rot ∧ (s.mapSubmit op).ext = s.ext ∧ (s.mapSubmit op).cyc = s.cyc ∧ (s.mapSubmit op).cp = s.cp ∧ (s.mapSubmit op).ang = s.ang ∧ (s.mapSubmit op).pwr = s.pwr := by
  unfold State.mapSubmit
  simp [apply_ite State.pending, apply_ite State.gen, apply_ite State.rot, apply_ite State.ext, apply_ite State.cyc, apply_ite State.cp, apply_ite State.ang, apply_ite State.pwr]

@[simp] theorem State.mapDrain_keep (s : State) (y0 : Nat) :
    (s.mapDrain y0).pending = s.pending ∧ (s.mapDrain y0).gen = s.gen ∧ (s.mapDrain y0).rot = s.rot ∧ (s.mapDrain y0).ext = s.ext ∧ (s.mapDrain y0).cyc = s.cyc ∧ (s.mapDrain y0).cp = s.cp ∧ (s.mapDrain y0).ang = s.ang ∧ (s.mapDrain y0).pwr = s.pwr := by
  induction y0 generalizing s with
  | zero => simp [State.mapDrain]
  | succ n ih =>
    unfold State.mapDrain
    (repeat' split) <;> simp [ih]

@[simp] theorem State.mapSeen_keep (s : State) (l way : Nat) :
    (s.mapSeen l way).pending = s.pending ∧ (s.mapSeen l way).gen = s.gen ∧ (s.mapSeen l way).rot = s.rot ∧ (s.mapSeen l way).ext = s.ext ∧ (s.mapSeen l way).cyc = s.cyc ∧ (s.mapSeen l way).cp = s.cp ∧ (s.mapSeen l way).ang = s.ang ∧ (s.mapSeen l way).pwr = s.pwr := by
  unfold State.mapSeen
  simp

@[simp] theorem State.mapEvict_keep (s : State) (l : Nat) :
    (s.mapEvict l).pending = s.pending ∧ (s.mapEvict l).gen = s.gen ∧ (s.mapEvict l).rot = s.rot ∧ (s.mapEvict l).ext = s.ext ∧ (s.mapEvict l).cyc = s.cyc ∧ (s.mapEvict l).cp = s.cp ∧ (s.mapEvict l).ang = s.ang ∧ (s.mapEvict l).pwr = s.pwr := by
  unfold State.mapEvict
  (repeat' split) <;> simp

@[simp] theorem State.mapInstall_keep (s : State) (l : Nat) (entries : List Word) :
    (s.mapInstall l entries).pending = s.pending ∧ (s.mapInstall l entries).gen = s.gen ∧ (s.mapInstall l entries).rot = s.rot ∧ (s.mapInstall l entries).ext = s.ext ∧ (s.mapInstall l entries).cyc = s.cyc ∧ (s.mapInstall l entries).cp = s.cp ∧ (s.mapInstall l entries).ang = s.ang ∧ (s.mapInstall l entries).pwr = s.pwr := by
  unfold State.mapInstall
  (repeat' split) <;> simp

/-! ## Machine/LaceOps.lean -/

@[simp] theorem State.laceMap_keep (s : State) (f : LaceS → LaceS) :
    (s.laceMap f).pending = s.pending ∧ (s.laceMap f).gen = s.gen ∧ (s.laceMap f).rot = s.rot ∧ (s.laceMap f).ext = s.ext ∧ (s.laceMap f).cyc = s.cyc ∧ (s.laceMap f).cp = s.cp ∧ (s.laceMap f).ang = s.ang ∧ (s.laceMap f).pwr = s.pwr := by
  unfold State.laceMap
  simp

@[simp] theorem State.accXor_keep (s : State) (set k : Nat) (y0 : Nat) (y1 : List Byte) :
    (s.accXor set k y0 y1).pending = s.pending ∧ (s.accXor set k y0 y1).gen = s.gen ∧ (s.accXor set k y0 y1).rot = s.rot ∧ (s.accXor set k y0 y1).ext = s.ext ∧ (s.accXor set k y0 y1).cyc = s.cyc ∧ (s.accXor set k y0 y1).cp = s.cp ∧ (s.accXor set k y0 y1).ang = s.ang ∧ (s.accXor set k y0 y1).pwr = s.pwr := by
  induction y1 generalizing s y0 with
  | nil => simp [State.accXor]
  | cons b bs ih =>
    unfold State.accXor
    simp [ih]

@[simp] theorem State.accAdd_keep (s : State) (set i j : Nat) (bs : List Byte) (y0 : Nat) :
    (s.accAdd set i j bs y0).pending = s.pending ∧ (s.accAdd set i j bs y0).gen = s.gen ∧ (s.accAdd set i j bs y0).rot = s.rot ∧ (s.accAdd set i j bs y0).ext = s.ext ∧ (s.accAdd set i j bs y0).cyc = s.cyc ∧ (s.accAdd set i j bs y0).cp = s.cp ∧ (s.accAdd set i j bs y0).ang = s.ang ∧ (s.accAdd set i j bs y0).pwr = s.pwr := by
  induction y0 generalizing s with
  | zero => simp [State.accAdd]
  | succ n ih =>
    unfold State.accAdd
    simp [ih]

@[simp] theorem State.accClear_keep (s : State) (set : Nat) :
    (s.accClear set).pending = s.pending ∧ (s.accClear set).gen = s.gen ∧ (s.accClear set).rot = s.rot ∧ (s.accClear set).ext = s.ext ∧ (s.accClear set).cyc = s.cyc ∧ (s.accClear set).cp = s.cp ∧ (s.accClear set).ang = s.ang ∧ (s.accClear set).pwr = s.pwr := by
  unfold State.accClear
  simp

@[simp] theorem State.stripeMap_keep (s : State) (num : Nat) (f : Stripe → Stripe) :
    (s.stripeMap num f).pending = s.pending ∧ (s.stripeMap num f).gen = s.gen ∧ (s.stripeMap num f).rot = s.rot ∧ (s.stripeMap num f).ext = s.ext ∧ (s.stripeMap num f).cyc = s.cyc ∧ (s.stripeMap num f).cp = s.cp ∧ (s.stripeMap num f).ang = s.ang ∧ (s.stripeMap num f).pwr = s.pwr := by
  unfold State.stripeMap
  simp

@[simp] theorem State.setReturn_keep (s : State) (set : Nat) :
    (s.setReturn set).pending = s.pending ∧ (s.setReturn set).gen = s.gen ∧ (s.setReturn set).rot = s.rot ∧ (s.setReturn set).ext = s.ext ∧ (s.setReturn set).cyc = s.cyc ∧ (s.setReturn set).cp = s.cp ∧ (s.setReturn set).ang = s.ang ∧ (s.setReturn set).pwr = s.pwr := by
  unfold State.setReturn
  simp

@[simp] theorem State.partSend_keep (s : State) (x : Stripe) (k close : Nat) :
    (s.partSend x k close).pending = s.pending ∧ (s.partSend x k close).gen = s.gen ∧ (s.partSend x k close).rot = s.rot ∧ (s.partSend x k close).ext = s.ext ∧ (s.partSend x k close).cyc = s.cyc ∧ (s.partSend x k close).cp = s.cp ∧ (s.partSend x k close).ang = s.ang ∧ (s.partSend x k close).pwr = s.pwr := by
  unfold State.partSend
  simp

@[simp] theorem State.partGo_keep (s : State) (num : Nat) :
    (s.partGo num).pending = s.pending ∧ (s.partGo num).gen = s.gen ∧ (s.partGo num).rot = s.rot ∧ (s.partGo num).ext = s.ext ∧ (s.partGo num).cyc = s.cyc ∧ (s.partGo num).cp = s.cp ∧ (s.partGo num).ang = s.ang ∧ (s.partGo num).pwr = s.pwr := by
  unfold State.partGo
  dsimp only
  (repeat' apply And.intro) <;> (repeat' split) <;> simp [apply_ite State.pending, apply_ite State.gen, apply_ite State.rot, apply_ite State.ext, apply_ite State.cyc, apply_ite State.cp, apply_ite State.ang, apply_ite State.pwr]

@[simp] theorem State.cascDrop_keep (s : State) :
    (s.cascDrop).pending = s.pending ∧ (s.cascDrop).gen = s.gen ∧ (s.cascDrop).rot = s.rot ∧ (s.cascDrop).ext = s.ext ∧ (s.cascDrop).cyc = s.cyc ∧ (s.cascDrop).cp = s.cp ∧ (s.cascDrop).ang = s.ang ∧ (s.cascDrop).pwr = s.pwr := by
  unfold State.cascDrop
  simp

@[simp] theorem State.stripeClose_keep (s : State) (x : Stripe) (kind : Nat) :
    (s.stripeClose x kind).pending = s.pending ∧ (s.stripeClose x kind).gen = s.gen ∧ (s.stripeClose x kind).rot = s.rot ∧ (s.stripeClose x kind).ext = s.ext ∧ (s.stripeClose x kind).cyc = s.cyc ∧ (s.stripeClose x kind).cp = s.cp ∧ (s.stripeClose x kind).ang = s.ang ∧ (s.stripeClose x kind).pwr = s.pwr := by
  unfold State.stripeClose
  simp [apply_ite State.pending, apply_ite State.gen, apply_ite State.rot, apply_ite State.ext, apply_ite State.cyc, apply_ite State.cp, apply_ite State.ang, apply_ite State.pwr]

@[simp] theorem State.stripeCheck_keep (s : State) (num : Nat) :
    (s.stripeCheck num).pending = s.pending ∧ (s.stripeCheck num).gen = s.gen ∧ (s.stripeCheck num).rot = s.rot ∧ (s.stripeCheck num).ext = s.ext ∧ (s.stripeCheck num).cyc = s.cyc ∧ (s.stripeCheck num).cp = s.cp ∧ (s.stripeCheck num).ang = s.ang ∧ (s.stripeCheck num).pwr = s.pwr := by
  unfold State.stripeCheck
  (repeat' split) <;> simp

@[simp] theorem State.stripeWant_keep (s : State) (p kind : Nat) :
    (s.stripeWant p kind).pending = s.pending ∧ (s.stripeWant p kind).gen = s.gen ∧ (s.stripeWant p kind).rot = s.rot ∧ (s.stripeWant p kind).ext = s.ext ∧ (s.stripeWant p kind).cyc = s.cyc ∧ (s.stripeWant p kind).cp = s.cp ∧ (s.stripeWant p kind).ang = s.ang ∧ (s.stripeWant p kind).pwr = s.pwr := by
  unfold State.stripeWant
  (repeat' split) <;> simp

@[simp] theorem State.numIssue_keep (s : State) (p : Nat) (y0 : Nat) :
    (s.numIssue p y0).pending = s.pending ∧ (s.numIssue p y0).gen = s.gen ∧ (s.numIssue p y0).rot = s.rot ∧ (s.numIssue p y0).ext = s.ext ∧ (s.numIssue p y0).cyc = s.cyc ∧ (s.numIssue p y0).cp = s.cp ∧ (s.numIssue p y0).ang = s.ang ∧ (s.numIssue p y0).pwr = s.pwr := by
  induction y0 generalizing s with
  | zero => simp [State.numIssue]
  | succ n ih =>
    unfold State.numIssue
    (repeat' split) <;> simp [ih]

@[simp] theorem State.stripeOpen_keep (s : State) (p hoop set : Nat) :
    (s.stripeOpen p hoop set).pending = s.pending ∧ (s.stripeOpen p hoop set).gen = s.gen ∧ (s.stripeOpen p hoop set).rot = s.rot ∧ (s.stripeOpen p hoop set).ext = s.ext ∧ (s.stripeOpen p hoop set).cyc = s.cyc ∧ (s.stripeOpen p hoop set).cp = s.cp ∧ (s.stripeOpen p hoop set).ang = s.ang ∧ (s.stripeOpen p hoop set).pwr = s.pwr := by
  unfold State.stripeOpen
  (repeat' split) <;> simp

@[simp] theorem State.stripePass_keep (s : State) (num ch place t : Nat) :
    (s.stripePass num ch place t).pending = s.pending ∧ (s.stripePass num ch place t).gen = s.gen ∧ (s.stripePass num ch place t).rot = s.rot ∧ (s.stripePass num ch place t).ext = s.ext ∧ (s.stripePass num ch place t).cyc = s.cyc ∧ (s.stripePass num ch place t).cp = s.cp ∧ (s.stripePass num ch place t).ang = s.ang ∧ (s.stripePass num ch place t).pwr = s.pwr := by
  unfold State.stripePass
  simp

@[simp] theorem State.stripeRecPut_keep (s : State) (x : Stripe) :
    (s.stripeRecPut x).pending = s.pending ∧ (s.stripeRecPut x).gen = s.gen ∧ (s.stripeRecPut x).rot = s.rot ∧ (s.stripeRecPut x).ext = s.ext ∧ (s.stripeRecPut x).cyc = s.cyc ∧ (s.stripeRecPut x).cp = s.cp ∧ (s.stripeRecPut x).ang = s.ang ∧ (s.stripeRecPut x).pwr = s.pwr := by
  unfold State.stripeRecPut
  simp [apply_ite State.pending, apply_ite State.gen, apply_ite State.rot, apply_ite State.ext, apply_ite State.cyc, apply_ite State.cp, apply_ite State.ang, apply_ite State.pwr]

/-! ## Machine/HoopOps.lean -/

@[simp] theorem State.hput_keep (s : State) (h off n v : Nat) :
    (s.hput h off n v).pending = s.pending ∧ (s.hput h off n v).gen = s.gen ∧ (s.hput h off n v).rot = s.rot ∧ (s.hput h off n v).ext = s.ext ∧ (s.hput h off n v).cyc = s.cyc ∧ (s.hput h off n v).cp = s.cp ∧ (s.hput h off n v).ang = s.ang ∧ (s.hput h off n v).pwr = s.pwr := by
  unfold State.hput
  simp

@[simp] theorem State.sput_keep (s : State) (st off n v : Nat) :
    (s.sput st off n v).pending = s.pending ∧ (s.sput st off n v).gen = s.gen ∧ (s.sput st off n v).rot = s.rot ∧ (s.sput st off n v).ext = s.ext ∧ (s.sput st off n v).cyc = s.cyc ∧ (s.sput st off n v).cp = s.cp ∧ (s.sput st off n v).ang = s.ang ∧ (s.sput st off n v).pwr = s.pwr := by
  unfold State.sput
  simp

@[simp] theorem State.hoopMap_keep (s : State) (h : Nat) (f : HoopS → HoopS) :
    (s.hoopMap h f).pending = s.pending ∧ (s.hoopMap h f).gen = s.gen ∧ (s.hoopMap h f).rot = s.rot ∧ (s.hoopMap h f).ext = s.ext ∧ (s.hoopMap h f).cyc = s.cyc ∧ (s.hoopMap h f).cp = s.cp ∧ (s.hoopMap h f).ang = s.ang ∧ (s.hoopMap h f).pwr = s.pwr := by
  unfold State.hoopMap
  simp

@[simp] theorem State.hoopSet_keep (s : State) (h : Nat) (st : HoopSt) :
    (s.hoopSet h st).pending = s.pending ∧ (s.hoopSet h st).gen = s.gen ∧ (s.hoopSet h st).rot = s.rot ∧ (s.hoopSet h st).ext = s.ext ∧ (s.hoopSet h st).cyc = s.cyc ∧ (s.hoopSet h st).cp = s.cp ∧ (s.hoopSet h st).ang = s.ang ∧ (s.hoopSet h st).pwr = s.pwr := by
  unfold State.hoopSet
  simp

@[simp] theorem State.hoopRaise_keep (s : State) (h b : Nat) :
    (s.hoopRaise h b).pending = s.pending ∧ (s.hoopRaise h b).gen = s.gen ∧ (s.hoopRaise h b).rot = s.rot ∧ (s.hoopRaise h b).ext = s.ext ∧ (s.hoopRaise h b).cyc = s.cyc ∧ (s.hoopRaise h b).cp = s.cp ∧ (s.hoopRaise h b).ang = s.ang ∧ (s.hoopRaise h b).pwr = s.pwr := by
  unfold State.hoopRaise
  simp

@[simp] theorem State.strmRaise_keep (s : State) (st b : Nat) :
    (s.strmRaise st b).pending = s.pending ∧ (s.strmRaise st b).gen = s.gen ∧ (s.strmRaise st b).rot = s.rot ∧ (s.strmRaise st b).ext = s.ext ∧ (s.strmRaise st b).cyc = s.cyc ∧ (s.strmRaise st b).cp = s.cp ∧ (s.strmRaise st b).ang = s.ang ∧ (s.strmRaise st b).pwr = s.pwr := by
  unfold State.strmRaise
  simp

@[simp] theorem State.rowAsk_keep (s : State) (h i : Nat) :
    (s.rowAsk h i).pending = s.pending ∧ (s.rowAsk h i).gen = s.gen ∧ (s.rowAsk h i).rot = s.rot ∧ (s.rowAsk h i).ext = s.ext ∧ (s.rowAsk h i).cyc = s.cyc ∧ (s.rowAsk h i).cp = s.cp ∧ (s.rowAsk h i).ang = s.ang ∧ (s.rowAsk h i).pwr = s.pwr := by
  unfold State.rowAsk
  simp [apply_ite State.pending, apply_ite State.gen, apply_ite State.rot, apply_ite State.ext, apply_ite State.cyc, apply_ite State.cp, apply_ite State.ang, apply_ite State.pwr]

@[simp] theorem State.rowGot_keep (s : State) (h i : Nat) (r : MpRead) :
    (s.rowGot h i r).pending = s.pending ∧ (s.rowGot h i r).gen = s.gen ∧ (s.rowGot h i r).rot = s.rot ∧ (s.rowGot h i r).ext = s.ext ∧ (s.rowGot h i r).cyc = s.cyc ∧ (s.rowGot h i r).cp = s.cp ∧ (s.rowGot h i r).ang = s.ang ∧ (s.rowGot h i r).pwr = s.pwr := by
  unfold State.rowGot
  simp

@[simp] theorem State.rowStartPut_keep (s : State) (h i v : Nat) :
    (s.rowStartPut h i v).pending = s.pending ∧ (s.rowStartPut h i v).gen = s.gen ∧ (s.rowStartPut h i v).rot = s.rot ∧ (s.rowStartPut h i v).ext = s.ext ∧ (s.rowStartPut h i v).cyc = s.cyc ∧ (s.rowStartPut h i v).cp = s.cp ∧ (s.rowStartPut h i v).ang = s.ang ∧ (s.rowStartPut h i v).pwr = s.pwr := by
  unfold State.rowStartPut
  simp

@[simp] theorem State.rowAsks_keep (s : State) (h q : Nat) :
    (s.rowAsks h q).pending = s.pending ∧ (s.rowAsks h q).gen = s.gen ∧ (s.rowAsks h q).rot = s.rot ∧ (s.rowAsks h q).ext = s.ext ∧ (s.rowAsks h q).cyc = s.cyc ∧ (s.rowAsks h q).cp = s.cp ∧ (s.rowAsks h q).ang = s.ang ∧ (s.rowAsks h q).pwr = s.pwr := by
  unfold State.rowAsks
  simp

@[simp] theorem State.rmFollow_keep (s : State) (h : Nat) :
    (s.rmFollow h).pending = s.pending ∧ (s.rmFollow h).gen = s.gen ∧ (s.rmFollow h).rot = s.rot ∧ (s.rmFollow h).ext = s.ext ∧ (s.rmFollow h).cyc = s.cyc ∧ (s.rmFollow h).cp = s.cp ∧ (s.rmFollow h).ang = s.ang ∧ (s.rmFollow h).pwr = s.pwr := by
  unfold State.rmFollow
  simp [apply_ite State.pending, apply_ite State.gen, apply_ite State.rot, apply_ite State.ext, apply_ite State.cyc, apply_ite State.cp, apply_ite State.ang, apply_ite State.pwr]

@[simp] theorem State.groupAdvance_keep (s : State) (h : Nat) :
    (s.groupAdvance h).pending = s.pending ∧ (s.groupAdvance h).gen = s.gen ∧ (s.groupAdvance h).rot = s.rot ∧ (s.groupAdvance h).ext = s.ext ∧ (s.groupAdvance h).cyc = s.cyc ∧ (s.groupAdvance h).cp = s.cp ∧ (s.groupAdvance h).ang = s.ang ∧ (s.groupAdvance h).pwr = s.pwr := by
  unfold State.groupAdvance
  simp [apply_ite State.pending, apply_ite State.gen, apply_ite State.rot, apply_ite State.ext, apply_ite State.cyc, apply_ite State.cp, apply_ite State.ang, apply_ite State.pwr]

@[simp] theorem State.takeSlot_keep (s : State) (h k : Nat) :
    (s.takeSlot h k).pending = s.pending ∧ (s.takeSlot h k).gen = s.gen ∧ (s.takeSlot h k).rot = s.rot ∧ (s.takeSlot h k).ext = s.ext ∧ (s.takeSlot h k).cyc = s.cyc ∧ (s.takeSlot h k).cp = s.cp ∧ (s.takeSlot h k).ang = s.ang ∧ (s.takeSlot h k).pwr = s.pwr := by
  unfold State.takeSlot
  simp

theorem State.boundSlot_keep (s : State) (h c a : Nat) (t : State) (e : s.boundSlot h c = some (a, t)) :
    t.pending = s.pending ∧ t.gen = s.gen ∧ t.rot = s.rot ∧ t.ext = s.ext ∧ t.cyc = s.cyc ∧ t.cp = s.cp ∧ t.ang = s.ang ∧ t.pwr = s.pwr := by
  unfold State.boundSlot at e
  dsimp only at e
  split at e
  · injection e with e; injection e with _ e; subst e; simp
  · split at e
    · injection e with e; injection e with _ e; subst e; simp
    · cases e

@[simp] theorem State.slotTaken_keep (s : State) (n p : Nat) :
    (s.slotTaken n p).pending = s.pending ∧ (s.slotTaken n p).gen = s.gen ∧ (s.slotTaken n p).rot = s.rot ∧ (s.slotTaken n p).ext = s.ext ∧ (s.slotTaken n p).cyc = s.cyc ∧ (s.slotTaken n p).cp = s.cp ∧ (s.slotTaken n p).ang = s.ang ∧ (s.slotTaken n p).pwr = s.pwr := by
  unfold State.slotTaken
  simp

@[simp] theorem State.issueProg_keep (s : State) (n p : Nat) (cut : Bool) :
    (s.issueProg n p cut).pending = s.pending ∧ (s.issueProg n p cut).gen = s.gen ∧ (s.issueProg n p cut).rot = s.rot ∧ (s.issueProg n p cut).ext = s.ext ∧ (s.issueProg n p cut).cyc = s.cyc ∧ (s.issueProg n p cut).cp = s.cp ∧ (s.issueProg n p cut).ang = s.ang ∧ (s.issueProg n p cut).pwr = s.pwr := by
  unfold State.issueProg
  simp [apply_ite State.pending, apply_ite State.gen, apply_ite State.rot, apply_ite State.ext, apply_ite State.cyc, apply_ite State.cp, apply_ite State.ang, apply_ite State.pwr]

@[simp] theorem State.progPump_keep (s : State) (n : Nat) (y0 : Nat) :
    (s.progPump n y0).pending = s.pending ∧ (s.progPump n y0).gen = s.gen ∧ (s.progPump n y0).rot = s.rot ∧ (s.progPump n y0).ext = s.ext ∧ (s.progPump n y0).cyc = s.cyc ∧ (s.progPump n y0).cp = s.cp ∧ (s.progPump n y0).ang = s.ang ∧ (s.progPump n y0).pwr = s.pwr := by
  induction y0 generalizing s with
  | zero => simp [State.progPump]
  | succ n ih =>
    unfold State.progPump
    (repeat' split) <;> simp [ih]

@[simp] theorem State.wantProg_keep (s : State) (n p : Nat) (cut : Bool) :
    (s.wantProg n p cut).pending = s.pending ∧ (s.wantProg n p cut).gen = s.gen ∧ (s.wantProg n p cut).rot = s.rot ∧ (s.wantProg n p cut).ext = s.ext ∧ (s.wantProg n p cut).cyc = s.cyc ∧ (s.wantProg n p cut).cp = s.cp ∧ (s.wantProg n p cut).ang = s.ang ∧ (s.wantProg n p cut).pwr = s.pwr := by
  unfold State.wantProg
  simp

@[simp] theorem State.trailerPut_keep (s : State) (n p : Nat) (head : List Byte) :
    (s.trailerPut n p head).pending = s.pending ∧ (s.trailerPut n p head).gen = s.gen ∧ (s.trailerPut n p head).rot = s.rot ∧ (s.trailerPut n p head).ext = s.ext ∧ (s.trailerPut n p head).cyc = s.cyc ∧ (s.trailerPut n p head).cp = s.cp ∧ (s.trailerPut n p head).ang = s.ang ∧ (s.trailerPut n p head).pwr = s.pwr := by
  unfold State.trailerPut
  simp

@[simp] theorem State.tileFinish_keep (s : State) (n p : Nat) :
    (s.tileFinish n p).pending = s.pending ∧ (s.tileFinish n p).gen = s.gen ∧ (s.tileFinish n p).rot = s.rot ∧ (s.tileFinish n p).ext = s.ext ∧ (s.tileFinish n p).cyc = s.cyc ∧ (s.tileFinish n p).cp = s.cp ∧ (s.tileFinish n p).ang = s.ang ∧ (s.tileFinish n p).pwr = s.pwr := by
  unfold State.tileFinish
  dsimp only
  (repeat' apply And.intro) <;> (repeat' split) <;> simp

@[simp] theorem State.hoopTrig_keep (s : State) (h src time angle : Nat) :
    (s.hoopTrig h src time angle).pending = s.pending ∧ (s.hoopTrig h src time angle).gen = s.gen ∧ (s.hoopTrig h src time angle).rot = s.rot ∧ (s.hoopTrig h src time angle).ext = s.ext ∧ (s.hoopTrig h src time angle).cyc = s.cyc ∧ (s.hoopTrig h src time angle).cp = s.cp ∧ (s.hoopTrig h src time angle).ang = s.ang ∧ (s.hoopTrig h src time angle).pwr = s.pwr := by
  unfold State.hoopTrig
  simp [apply_ite State.pending, apply_ite State.gen, apply_ite State.rot, apply_ite State.ext, apply_ite State.cyc, apply_ite State.cp, apply_ite State.ang, apply_ite State.pwr]

@[simp] theorem State.landStripe_keep (s : State) (n p : Nat) :
    (s.landStripe n p).pending = s.pending ∧ (s.landStripe n p).gen = s.gen ∧ (s.landStripe n p).rot = s.rot ∧ (s.landStripe n p).ext = s.ext ∧ (s.landStripe n p).cyc = s.cyc ∧ (s.landStripe n p).cp = s.cp ∧ (s.landStripe n p).ang = s.ang ∧ (s.landStripe n p).pwr = s.pwr := by
  unfold State.landStripe
  (repeat' split) <;> simp

@[simp] theorem State.openFor_keep (s : State) (p h : Nat) :
    (s.openFor p h).pending = s.pending ∧ (s.openFor p h).gen = s.gen ∧ (s.openFor p h).rot = s.rot ∧ (s.openFor p h).ext = s.ext ∧ (s.openFor p h).cyc = s.cyc ∧ (s.openFor p h).cp = s.cp ∧ (s.openFor p h).ang = s.ang ∧ (s.openFor p h).pwr = s.pwr := by
  unfold State.openFor
  dsimp only
  (repeat' apply And.intro) <;> (repeat' split) <;> simp

@[simp] theorem State.stripeReady_keep (s : State) (p c h : Nat) :
    (s.stripeReady p c h).2.pending = s.pending ∧ (s.stripeReady p c h).2.gen = s.gen ∧ (s.stripeReady p c h).2.rot = s.rot ∧ (s.stripeReady p c h).2.ext = s.ext ∧ (s.stripeReady p c h).2.cyc = s.cyc ∧ (s.stripeReady p c h).2.cp = s.cp ∧ (s.stripeReady p c h).2.ang = s.ang ∧ (s.stripeReady p c h).2.pwr = s.pwr := by
  unfold State.stripeReady
  (repeat' split) <;> simp [apply_ite State.pending, apply_ite State.gen, apply_ite State.rot, apply_ite State.ext, apply_ite State.cyc, apply_ite State.cp, apply_ite State.ang, apply_ite State.pwr]

@[simp] theorem State.landIn_keep (s : State) (n p : Nat) :
    (s.landIn n p).pending = s.pending ∧ (s.landIn n p).gen = s.gen ∧ (s.landIn n p).rot = s.rot ∧ (s.landIn n p).ext = s.ext ∧ (s.landIn n p).cyc = s.cyc ∧ (s.landIn n p).cp = s.cp ∧ (s.landIn n p).ang = s.ang ∧ (s.landIn n p).pwr = s.pwr := by
  unfold State.landIn
  simp [apply_ite State.pending, apply_ite State.gen, apply_ite State.rot, apply_ite State.ext, apply_ite State.cyc, apply_ite State.cp, apply_ite State.ang, apply_ite State.pwr]

@[simp] theorem State.landRoom_keep (s : State) (n p : Nat) :
    (s.landRoom n p).2.pending = s.pending ∧ (s.landRoom n p).2.gen = s.gen ∧ (s.landRoom n p).2.rot = s.rot ∧ (s.landRoom n p).2.ext = s.ext ∧ (s.landRoom n p).2.cyc = s.cyc ∧ (s.landRoom n p).2.cp = s.cp ∧ (s.landRoom n p).2.ang = s.ang ∧ (s.landRoom n p).2.pwr = s.pwr := by
  unfold State.landRoom
  dsimp only
  (repeat' apply And.intro) <;> (repeat' split) <;> simp

@[simp] theorem State.fillTile_keep (s : State) (n p : Nat) :
    (s.fillTile n p).pending = s.pending ∧ (s.fillTile n p).gen = s.gen ∧ (s.fillTile n p).rot = s.rot ∧ (s.fillTile n p).ext = s.ext ∧ (s.fillTile n p).cyc = s.cyc ∧ (s.fillTile n p).cp = s.cp ∧ (s.fillTile n p).ang = s.ang ∧ (s.fillTile n p).pwr = s.pwr := by
  unfold State.fillTile
  simp [apply_ite State.pending, apply_ite State.gen, apply_ite State.rot, apply_ite State.ext, apply_ite State.cyc, apply_ite State.cp, apply_ite State.ang, apply_ite State.pwr]

/-! ## Machine/RcvOps.lean -/

@[simp] theorem State.rcvMap_keep (s : State) (f : RecS → RecS) :
    (s.rcvMap f).pending = s.pending ∧ (s.rcvMap f).gen = s.gen ∧ (s.rcvMap f).rot = s.rot ∧ (s.rcvMap f).ext = s.ext ∧ (s.rcvMap f).cyc = s.cyc ∧ (s.rcvMap f).cp = s.cp ∧ (s.rcvMap f).ang = s.ang ∧ (s.rcvMap f).pwr = s.pwr := by
  unfold State.rcvMap
  simp

@[simp] theorem State.decRaise_keep (s : State) (b : Nat) :
    (s.decRaise b).pending = s.pending ∧ (s.decRaise b).gen = s.gen ∧ (s.decRaise b).rot = s.rot ∧ (s.decRaise b).ext = s.ext ∧ (s.decRaise b).cyc = s.cyc ∧ (s.decRaise b).cp = s.cp ∧ (s.decRaise b).ang = s.ang ∧ (s.decRaise b).pwr = s.pwr := by
  unfold State.decRaise
  simp

@[simp] theorem State.trackedPut_keep (s : State) (n l v : Nat) (t : Int) :
    (s.trackedPut n l v t).pending = s.pending ∧ (s.trackedPut n l v t).gen = s.gen ∧ (s.trackedPut n l v t).rot = s.rot ∧ (s.trackedPut n l v t).ext = s.ext ∧ (s.trackedPut n l v t).cyc = s.cyc ∧ (s.trackedPut n l v t).cp = s.cp ∧ (s.trackedPut n l v t).ang = s.ang ∧ (s.trackedPut n l v t).pwr = s.pwr := by
  unfold State.trackedPut
  simp

@[simp] theorem State.samplePut_keep (s : State) (n l : Nat) (tlc : Bool) (t : Nat) :
    (s.samplePut n l tlc t).pending = s.pending ∧ (s.samplePut n l tlc t).gen = s.gen ∧ (s.samplePut n l tlc t).rot = s.rot ∧ (s.samplePut n l tlc t).ext = s.ext ∧ (s.samplePut n l tlc t).cyc = s.cyc ∧ (s.samplePut n l tlc t).cp = s.cp ∧ (s.samplePut n l tlc t).ang = s.ang ∧ (s.samplePut n l tlc t).pwr = s.pwr := by
  unfold State.samplePut
  simp [apply_ite State.pending, apply_ite State.gen, apply_ite State.rot, apply_ite State.ext, apply_ite State.cyc, apply_ite State.cp, apply_ite State.ang, apply_ite State.pwr]

@[simp] theorem State.ladderLog_keep (s : State) (t deep st : Nat) :
    (s.ladderLog t deep st).pending = s.pending ∧ (s.ladderLog t deep st).gen = s.gen ∧ (s.ladderLog t deep st).rot = s.rot ∧ (s.ladderLog t deep st).ext = s.ext ∧ (s.ladderLog t deep st).cyc = s.cyc ∧ (s.ladderLog t deep st).cp = s.cp ∧ (s.ladderLog t deep st).ang = s.ang ∧ (s.ladderLog t deep st).pwr = s.pwr := by
  unfold State.ladderLog
  simp [apply_ite State.pending, apply_ite State.gen, apply_ite State.rot, apply_ite State.ext, apply_ite State.cyc, apply_ite State.cp, apply_ite State.ang, apply_ite State.pwr]

@[simp] theorem State.crcBad_keep (s : State) :
    (s.crcBad).pending = s.pending ∧ (s.crcBad).gen = s.gen ∧ (s.crcBad).rot = s.rot ∧ (s.crcBad).ext = s.ext ∧ (s.crcBad).cyc = s.cyc ∧ (s.crcBad).cp = s.cp ∧ (s.crcBad).ang = s.ang ∧ (s.crcBad).pwr = s.pwr := by
  unfold State.crcBad
  simp

@[simp] theorem State.cwCopy_keep (s : State) (e e' : Nat) (cws : List Nat) :
    (s.cwCopy e e' cws).pending = s.pending ∧ (s.cwCopy e e' cws).gen = s.gen ∧ (s.cwCopy e e' cws).rot = s.rot ∧ (s.cwCopy e e' cws).ext = s.ext ∧ (s.cwCopy e e' cws).cyc = s.cyc ∧ (s.cwCopy e e' cws).cp = s.cp ∧ (s.cwCopy e e' cws).ang = s.ang ∧ (s.cwCopy e e' cws).pwr = s.pwr := by
  unfold State.cwCopy
  simp

@[simp] theorem State.survivorLost_keep (s : State) (id j : Nat) :
    (s.survivorLost id j).pending = s.pending ∧ (s.survivorLost id j).gen = s.gen ∧ (s.survivorLost id j).rot = s.rot ∧ (s.survivorLost id j).ext = s.ext ∧ (s.survivorLost id j).cyc = s.cyc ∧ (s.survivorLost id j).cp = s.cp ∧ (s.survivorLost id j).ang = s.ang ∧ (s.survivorLost id j).pwr = s.pwr := by
  unfold State.survivorLost
  simp

@[simp] theorem State.survivorPass_keep (s : State) (id j e : Nat) :
    (s.survivorPass id j e).pending = s.pending ∧ (s.survivorPass id j e).gen = s.gen ∧ (s.survivorPass id j e).rot = s.rot ∧ (s.survivorPass id j e).ext = s.ext ∧ (s.survivorPass id j e).cyc = s.cyc ∧ (s.survivorPass id j e).cp = s.cp ∧ (s.survivorPass id j e).ang = s.ang ∧ (s.survivorPass id j e).pwr = s.pwr := by
  unfold State.survivorPass
  simp

@[simp] theorem State.loadRead_keep (s : State) (i e st : Nat) :
    (s.loadRead i e st).pending = s.pending ∧ (s.loadRead i e st).gen = s.gen ∧ (s.loadRead i e st).rot = s.rot ∧ (s.loadRead i e st).ext = s.ext ∧ (s.loadRead i e st).cyc = s.cyc ∧ (s.loadRead i e st).cp = s.cp ∧ (s.loadRead i e st).ang = s.ang ∧ (s.loadRead i e st).pwr = s.pwr := by
  unfold State.loadRead
  simp

@[simp] theorem State.ledgRead_keep (s : State) (i e st : Nat) :
    (s.ledgRead i e st).pending = s.pending ∧ (s.ledgRead i e st).gen = s.gen ∧ (s.ledgRead i e st).rot = s.rot ∧ (s.ledgRead i e st).ext = s.ext ∧ (s.ledgRead i e st).cyc = s.cyc ∧ (s.ledgRead i e st).cp = s.cp ∧ (s.ledgRead i e st).ang = s.ang ∧ (s.ledgRead i e st).pwr = s.pwr := by
  unfold State.ledgRead
  (repeat' split) <;> simp

@[simp] theorem State.blankRead_keep (s : State) (j e st : Nat) :
    (s.blankRead j e st).pending = s.pending ∧ (s.blankRead j e st).gen = s.gen ∧ (s.blankRead j e st).rot = s.rot ∧ (s.blankRead j e st).ext = s.ext ∧ (s.blankRead j e st).cyc = s.cyc ∧ (s.blankRead j e st).cp = s.cp ∧ (s.blankRead j e st).ang = s.ang ∧ (s.blankRead j e st).pwr = s.pwr := by
  unfold State.blankRead
  simp

@[simp] theorem State.rcvDeliver_keep (s : State) (w : RWho) (st detail deep : Nat) :
    (s.rcvDeliver w st detail deep).pending = s.pending ∧ (s.rcvDeliver w st detail deep).gen = s.gen ∧ (s.rcvDeliver w st detail deep).rot = s.rot ∧ (s.rcvDeliver w st detail deep).ext = s.ext ∧ (s.rcvDeliver w st detail deep).cyc = s.cyc ∧ (s.rcvDeliver w st detail deep).cp = s.cp ∧ (s.rcvDeliver w st detail deep).ang = s.ang ∧ (s.rcvDeliver w st detail deep).pwr = s.pwr := by
  unfold State.rcvDeliver
  (repeat' split) <;> simp

@[simp] theorem State.groupFree_keep (s : State) (g : LGroup) :
    (s.groupFree g).pending = s.pending ∧ (s.groupFree g).gen = s.gen ∧ (s.groupFree g).rot = s.rot ∧ (s.groupFree g).ext = s.ext ∧ (s.groupFree g).cyc = s.cyc ∧ (s.groupFree g).cp = s.cp ∧ (s.groupFree g).ang = s.ang ∧ (s.groupFree g).pwr = s.pwr := by
  unfold State.groupFree
  (repeat' split) <;> simp

@[simp] theorem State.rcvFree_keep (s : State) (q : RReq) :
    (s.rcvFree q).pending = s.pending ∧ (s.rcvFree q).gen = s.gen ∧ (s.rcvFree q).rot = s.rot ∧ (s.rcvFree q).ext = s.ext ∧ (s.rcvFree q).cyc = s.cyc ∧ (s.rcvFree q).cp = s.cp ∧ (s.rcvFree q).ang = s.ang ∧ (s.rcvFree q).pwr = s.pwr := by
  unfold State.rcvFree
  (repeat' split) <;> simp

@[simp] theorem State.rcvAdmit_keep (s : State) (w : RWait) :
    (s.rcvAdmit w).pending = s.pending ∧ (s.rcvAdmit w).gen = s.gen ∧ (s.rcvAdmit w).rot = s.rot ∧ (s.rcvAdmit w).ext = s.ext ∧ (s.rcvAdmit w).cyc = s.cyc ∧ (s.rcvAdmit w).cp = s.cp ∧ (s.rcvAdmit w).ang = s.ang ∧ (s.rcvAdmit w).pwr = s.pwr := by
  unfold State.rcvAdmit
  (repeat' split) <;> simp [apply_ite State.pending, apply_ite State.gen, apply_ite State.rot, apply_ite State.ext, apply_ite State.cyc, apply_ite State.cp, apply_ite State.ang, apply_ite State.pwr]

@[simp] theorem State.rcvAdmitNext_keep (s : State) :
    (s.rcvAdmitNext).pending = s.pending ∧ (s.rcvAdmitNext).gen = s.gen ∧ (s.rcvAdmitNext).rot = s.rot ∧ (s.rcvAdmitNext).ext = s.ext ∧ (s.rcvAdmitNext).cyc = s.cyc ∧ (s.rcvAdmitNext).cp = s.cp ∧ (s.rcvAdmitNext).ang = s.ang ∧ (s.rcvAdmitNext).pwr = s.pwr := by
  unfold State.rcvAdmitNext
  simp

@[simp] theorem State.rcvEnd_keep (s : State) (q : RReq) (st detail : Nat) :
    (s.rcvEnd q st detail).pending = s.pending ∧ (s.rcvEnd q st detail).gen = s.gen ∧ (s.rcvEnd q st detail).rot = s.rot ∧ (s.rcvEnd q st detail).ext = s.ext ∧ (s.rcvEnd q st detail).cyc = s.cyc ∧ (s.rcvEnd q st detail).cp = s.cp ∧ (s.rcvEnd q st detail).ang = s.ang ∧ (s.rcvEnd q st detail).pwr = s.pwr := by
  unfold State.rcvEnd
  simp

@[simp] theorem State.rcvPassed_keep (s : State) (q : RReq) :
    (s.rcvPassed q).pending = s.pending ∧ (s.rcvPassed q).gen = s.gen ∧ (s.rcvPassed q).rot = s.rot ∧ (s.rcvPassed q).ext = s.ext ∧ (s.rcvPassed q).cyc = s.cyc ∧ (s.rcvPassed q).cp = s.cp ∧ (s.rcvPassed q).ang = s.ang ∧ (s.rcvPassed q).pwr = s.pwr := by
  unfold State.rcvPassed
  simp [apply_ite State.pending, apply_ite State.gen, apply_ite State.rot, apply_ite State.ext, apply_ite State.cyc, apply_ite State.cp, apply_ite State.ang, apply_ite State.pwr]

@[simp] theorem State.rcvCheck_keep (s : State) (id : Nat) :
    (s.rcvCheck id).pending = s.pending ∧ (s.rcvCheck id).gen = s.gen ∧ (s.rcvCheck id).rot = s.rot ∧ (s.rcvCheck id).ext = s.ext ∧ (s.rcvCheck id).cyc = s.cyc ∧ (s.rcvCheck id).cp = s.cp ∧ (s.rcvCheck id).ang = s.ang ∧ (s.rcvCheck id).pwr = s.pwr := by
  unfold State.rcvCheck
  (repeat' split) <;> simp

@[simp] theorem State.groupMap_keep (s : State) (id p : Nat) (f : LGroup → LGroup) :
    (s.groupMap id p f).pending = s.pending ∧ (s.groupMap id p f).gen = s.gen ∧ (s.groupMap id p f).rot = s.rot ∧ (s.groupMap id p f).ext = s.ext ∧ (s.groupMap id p f).cyc = s.cyc ∧ (s.groupMap id p f).cp = s.cp ∧ (s.groupMap id p f).ang = s.ang ∧ (s.groupMap id p f).pwr = s.pwr := by
  unfold State.groupMap
  simp

@[simp] theorem State.cwTake_keep (s : State) (e e' k off : Nat) :
    (s.cwTake e e' k off).pending = s.pending ∧ (s.cwTake e e' k off).gen = s.gen ∧ (s.cwTake e e' k off).rot = s.rot ∧ (s.cwTake e e' k off).ext = s.ext ∧ (s.cwTake e e' k off).cyc = s.cyc ∧ (s.cwTake e e' k off).cp = s.cp ∧ (s.cwTake e e' k off).ang = s.ang ∧ (s.cwTake e e' k off).pwr = s.pwr := by
  unfold State.cwTake
  simp

@[simp] theorem State.stepEnd_keep (s : State) (id p : Nat) :
    (s.stepEnd id p).pending = s.pending ∧ (s.stepEnd id p).gen = s.gen ∧ (s.stepEnd id p).rot = s.rot ∧ (s.stepEnd id p).ext = s.ext ∧ (s.stepEnd id p).cyc = s.cyc ∧ (s.stepEnd id p).cp = s.cp ∧ (s.stepEnd id p).ang = s.ang ∧ (s.stepEnd id p).pwr = s.pwr := by
  unfold State.stepEnd
  (repeat' split) <;> simp [apply_ite State.pending, apply_ite State.gen, apply_ite State.rot, apply_ite State.ext, apply_ite State.cyc, apply_ite State.cp, apply_ite State.ang, apply_ite State.pwr]

@[simp] theorem State.stepBroken_keep (s : State) (id p st : Nat) :
    (s.stepBroken id p st).pending = s.pending ∧ (s.stepBroken id p st).gen = s.gen ∧ (s.stepBroken id p st).rot = s.rot ∧ (s.stepBroken id p st).ext = s.ext ∧ (s.stepBroken id p st).cyc = s.cyc ∧ (s.stepBroken id p st).cp = s.cp ∧ (s.stepBroken id p st).ang = s.ang ∧ (s.stepBroken id p st).pwr = s.pwr := by
  unfold State.stepBroken
  (repeat' split) <;> simp

@[simp] theorem State.mirrorRef_keep (s : State) (n l : Nat) :
    (s.mirrorRef n l).pending = s.pending ∧ (s.mirrorRef n l).gen = s.gen ∧ (s.mirrorRef n l).rot = s.rot ∧ (s.mirrorRef n l).ext = s.ext ∧ (s.mirrorRef n l).cyc = s.cyc ∧ (s.mirrorRef n l).cp = s.cp ∧ (s.mirrorRef n l).ang = s.ang ∧ (s.mirrorRef n l).pwr = s.pwr := by
  unfold State.mirrorRef
  simp [apply_ite State.pending, apply_ite State.gen, apply_ite State.rot, apply_ite State.ext, apply_ite State.cyc, apply_ite State.cp, apply_ite State.ang, apply_ite State.pwr]

@[simp] theorem State.ofsAdd_keep (s : State) (n l v : Nat) (inc : Int) :
    (s.ofsAdd n l v inc).pending = s.pending ∧ (s.ofsAdd n l v inc).gen = s.gen ∧ (s.ofsAdd n l v inc).rot = s.rot ∧ (s.ofsAdd n l v inc).ext = s.ext ∧ (s.ofsAdd n l v inc).cyc = s.cyc ∧ (s.ofsAdd n l v inc).cp = s.cp ∧ (s.ofsAdd n l v inc).ang = s.ang ∧ (s.ofsAdd n l v inc).pwr = s.pwr := by
  unfold State.ofsAdd
  simp [apply_ite State.pending, apply_ite State.gen, apply_ite State.rot, apply_ite State.ext, apply_ite State.cyc, apply_ite State.cp, apply_ite State.ang, apply_ite State.pwr]

@[simp] theorem State.shadowUpdate_keep (s : State) (n l v e0 e1 e2 : Nat) :
    (s.shadowUpdate n l v e0 e1 e2).pending = s.pending ∧ (s.shadowUpdate n l v e0 e1 e2).gen = s.gen ∧ (s.shadowUpdate n l v e0 e1 e2).rot = s.rot ∧ (s.shadowUpdate n l v e0 e1 e2).ext = s.ext ∧ (s.shadowUpdate n l v e0 e1 e2).cyc = s.cyc ∧ (s.shadowUpdate n l v e0 e1 e2).cp = s.cp ∧ (s.shadowUpdate n l v e0 e1 e2).ang = s.ang ∧ (s.shadowUpdate n l v e0 e1 e2).pwr = s.pwr := by
  unfold State.shadowUpdate
  simp [apply_ite State.pending, apply_ite State.gen, apply_ite State.rot, apply_ite State.ext, apply_ite State.cyc, apply_ite State.cp, apply_ite State.ang, apply_ite State.pwr]

@[simp] theorem State.shadowAgain_keep (s : State) (w : Nat) (be : BitVec 4) :
    (s.shadowAgain w be).pending = s.pending ∧ (s.shadowAgain w be).gen = s.gen ∧ (s.shadowAgain w be).rot = s.rot ∧ (s.shadowAgain w be).ext = s.ext ∧ (s.shadowAgain w be).cyc = s.cyc ∧ (s.shadowAgain w be).cp = s.cp ∧ (s.shadowAgain w be).ang = s.ang ∧ (s.shadowAgain w be).pwr = s.pwr := by
  unfold State.shadowAgain
  simp

@[simp] theorem State.readRoute_keep (s : State) (d : Desc) (w : RWho) (st : Nat) (res : List Half) :
    (s.readRoute d w st res).pending = s.pending ∧ (s.readRoute d w st res).gen = s.gen ∧ (s.readRoute d w st res).rot = s.rot ∧ (s.readRoute d w st res).ext = s.ext ∧ (s.readRoute d w st res).cyc = s.cyc ∧ (s.readRoute d w st res).cp = s.cp ∧ (s.readRoute d w st res).ang = s.ang ∧ (s.readRoute d w st res).pwr = s.pwr := by
  unfold State.readRoute
  (repeat' split) <;> simp

@[simp] theorem State.patrolDone_keep (s : State) (d : Desc) (st : Nat) :
    (s.patrolDone d st).pending = s.pending ∧ (s.patrolDone d st).gen = s.gen ∧ (s.patrolDone d st).rot = s.rot ∧ (s.patrolDone d st).ext = s.ext ∧ (s.patrolDone d st).cyc = s.cyc ∧ (s.patrolDone d st).cp = s.cp ∧ (s.patrolDone d st).ang = s.ang ∧ (s.patrolDone d st).pwr = s.pwr := by
  unfold State.patrolDone
  simp [apply_ite State.pending, apply_ite State.gen, apply_ite State.rot, apply_ite State.ext, apply_ite State.cyc, apply_ite State.cp, apply_ite State.ang, apply_ite State.pwr]

@[simp] theorem State.shadowDone_keep (s : State) (n : Nat) (d : Desc) (st : Nat) (e0 e1 e2 : Nat) :
    (s.shadowDone n d st e0 e1 e2).pending = s.pending ∧ (s.shadowDone n d st e0 e1 e2).gen = s.gen ∧ (s.shadowDone n d st e0 e1 e2).rot = s.rot ∧ (s.shadowDone n d st e0 e1 e2).ext = s.ext ∧ (s.shadowDone n d st e0 e1 e2).cyc = s.cyc ∧ (s.shadowDone n d st e0 e1 e2).cp = s.cp ∧ (s.shadowDone n d st e0 e1 e2).ang = s.ang ∧ (s.shadowDone n d st e0 e1 e2).pwr = s.pwr := by
  unfold State.shadowDone
  simp [apply_ite State.pending, apply_ite State.gen, apply_ite State.rot, apply_ite State.ext, apply_ite State.cyc, apply_ite State.cp, apply_ite State.ang, apply_ite State.pwr]

@[simp] theorem State.nbrDone_keep (s : State) (id e st : Nat) :
    (s.nbrDone id e st).pending = s.pending ∧ (s.nbrDone id e st).gen = s.gen ∧ (s.nbrDone id e st).rot = s.rot ∧ (s.nbrDone id e st).ext = s.ext ∧ (s.nbrDone id e st).cyc = s.cyc ∧ (s.nbrDone id e st).cp = s.cp ∧ (s.nbrDone id e st).ang = s.ang ∧ (s.nbrDone id e st).pwr = s.pwr := by
  unfold State.nbrDone
  simp [apply_ite State.pending, apply_ite State.gen, apply_ite State.rot, apply_ite State.ext, apply_ite State.cyc, apply_ite State.cp, apply_ite State.ang, apply_ite State.pwr]

/-! ## Machine/Complete.lean -/

@[simp] theorem State.strmCount_keep (s : State) (st : Nat) (status tile : Nat) :
    (s.strmCount st status tile).pending = s.pending ∧ (s.strmCount st status tile).gen = s.gen ∧ (s.strmCount st status tile).rot = s.rot ∧ (s.strmCount st status tile).ext = s.ext ∧ (s.strmCount st status tile).cyc = s.cyc ∧ (s.strmCount st status tile).cp = s.cp ∧ (s.strmCount st status tile).ang = s.ang ∧ (s.strmCount st status tile).pwr = s.pwr := by
  unfold State.strmCount
  simp [apply_ite State.pending, apply_ite State.gen, apply_ite State.rot, apply_ite State.ext, apply_ite State.cyc, apply_ite State.cp, apply_ite State.ang, apply_ite State.pwr]

@[simp] theorem State.saveNote_keep (s : State) (n : Nat) (ok : Bool) :
    (s.saveNote n ok).pending = s.pending ∧ (s.saveNote n ok).gen = s.gen ∧ (s.saveNote n ok).rot = s.rot ∧ (s.saveNote n ok).ext = s.ext ∧ (s.saveNote n ok).cyc = s.cyc ∧ (s.saveNote n ok).cp = s.cp ∧ (s.saveNote n ok).ang = s.ang ∧ (s.saveNote n ok).pwr = s.pwr := by
  unfold State.saveNote
  simp

@[simp] theorem State.sampleAuto_keep (s : State) (n t : Nat) (tlc : Bool) (level : Nat) :
    (s.sampleAuto n t tlc level).pending = s.pending ∧ (s.sampleAuto n t tlc level).gen = s.gen ∧ (s.sampleAuto n t tlc level).rot = s.rot ∧ (s.sampleAuto n t tlc level).ext = s.ext ∧ (s.sampleAuto n t tlc level).cyc = s.cyc ∧ (s.sampleAuto n t tlc level).cp = s.cp ∧ (s.sampleAuto n t tlc level).ang = s.ang ∧ (s.sampleAuto n t tlc level).pwr = s.pwr := by
  unfold State.sampleAuto
  simp [apply_ite State.pending, apply_ite State.gen, apply_ite State.rot, apply_ite State.ext, apply_ite State.cyc, apply_ite State.cp, apply_ite State.ang, apply_ite State.pwr]

@[simp] theorem State.tilePass_keep (s : State) (n : Nat) (p : Nat × Nat) :
    (s.tilePass n p).pending = s.pending ∧ (s.tilePass n p).gen = s.gen ∧ (s.tilePass n p).rot = s.rot ∧ (s.tilePass n p).ext = s.ext ∧ (s.tilePass n p).cyc = s.cyc ∧ (s.tilePass n p).cp = s.cp ∧ (s.tilePass n p).ang = s.ang ∧ (s.tilePass n p).pwr = s.pwr := by
  unfold State.tilePass
  dsimp only
  (repeat' apply And.intro) <;> (repeat' split) <;> simp

@[simp] theorem State.tilesPass_keep (s : State) (n : Nat) (ps : List (Nat × Nat)) :
    (s.tilesPass n ps).pending = s.pending ∧ (s.tilesPass n ps).gen = s.gen ∧ (s.tilesPass n ps).rot = s.rot ∧ (s.tilesPass n ps).ext = s.ext ∧ (s.tilesPass n ps).cyc = s.cyc ∧ (s.tilesPass n ps).cp = s.cp ∧ (s.tilesPass n ps).ang = s.ang ∧ (s.tilesPass n ps).pwr = s.pwr := by
  unfold State.tilesPass
  simp [apply_ite State.pending, apply_ite State.gen, apply_ite State.rot, apply_ite State.ext, apply_ite State.cyc, apply_ite State.cp, apply_ite State.ang, apply_ite State.pwr]

@[simp] theorem State.grownBad_keep (s : State) (n t : Nat) :
    (s.grownBad n t).pending = s.pending ∧ (s.grownBad n t).gen = s.gen ∧ (s.grownBad n t).rot = s.rot ∧ (s.grownBad n t).ext = s.ext ∧ (s.grownBad n t).cyc = s.cyc ∧ (s.grownBad n t).cp = s.cp ∧ (s.grownBad n t).ang = s.ang ∧ (s.grownBad n t).pwr = s.pwr := by
  unfold State.grownBad
  simp [apply_ite State.pending, apply_ite State.gen, apply_ite State.rot, apply_ite State.ext, apply_ite State.cyc, apply_ite State.cp, apply_ite State.ang, apply_ite State.pwr]

@[simp] theorem State.placeFailed_keep (s : State) (n p : Nat) :
    (s.placeFailed n p).pending = s.pending ∧ (s.placeFailed n p).gen = s.gen ∧ (s.placeFailed n p).rot = s.rot ∧ (s.placeFailed n p).ext = s.ext ∧ (s.placeFailed n p).cyc = s.cyc ∧ (s.placeFailed n p).cp = s.cp ∧ (s.placeFailed n p).ang = s.ang ∧ (s.placeFailed n p).pwr = s.pwr := by
  unfold State.placeFailed
  simp [apply_ite State.pending, apply_ite State.gen, apply_ite State.rot, apply_ite State.ext, apply_ite State.cyc, apply_ite State.cp, apply_ite State.ang, apply_ite State.pwr]

@[simp] theorem State.wlClose_keep (s : State) (n l : Nat) :
    (s.wlClose n l).pending = s.pending ∧ (s.wlClose n l).gen = s.gen ∧ (s.wlClose n l).rot = s.rot ∧ (s.wlClose n l).ext = s.ext ∧ (s.wlClose n l).cyc = s.cyc ∧ (s.wlClose n l).cp = s.cp ∧ (s.wlClose n l).ang = s.ang ∧ (s.wlClose n l).pwr = s.pwr := by
  unfold State.wlClose
  simp

@[simp] theorem State.wlFail_keep (s : State) (n : Nat) (d : Desc) :
    (s.wlFail n d).pending = s.pending ∧ (s.wlFail n d).gen = s.gen ∧ (s.wlFail n d).rot = s.rot ∧ (s.wlFail n d).ext = s.ext ∧ (s.wlFail n d).cyc = s.cyc ∧ (s.wlFail n d).cp = s.cp ∧ (s.wlFail n d).ang = s.ang ∧ (s.wlFail n d).pwr = s.pwr := by
  unfold State.wlFail
  simp

@[simp] theorem State.progEnd_keep (s : State) (n : Nat) (d : Desc) (st : Nat) :
    (s.progEnd n d st).pending = s.pending ∧ (s.progEnd n d st).gen = s.gen ∧ (s.progEnd n d st).rot = s.rot ∧ (s.progEnd n d st).ext = s.ext ∧ (s.progEnd n d st).cyc = s.cyc ∧ (s.progEnd n d st).cp = s.cp ∧ (s.progEnd n d st).ang = s.ang ∧ (s.progEnd n d st).pwr = s.pwr := by
  unfold State.progEnd
  simp [apply_ite State.pending, apply_ite State.gen, apply_ite State.rot, apply_ite State.ext, apply_ite State.cyc, apply_ite State.cp, apply_ite State.ang, apply_ite State.pwr]

@[simp] theorem State.hoopErased_keep (s : State) (n : Nat) (d : Desc) (st : Nat) :
    (s.hoopErased n d st).pending = s.pending ∧ (s.hoopErased n d st).gen = s.gen ∧ (s.hoopErased n d st).rot = s.rot ∧ (s.hoopErased n d st).ext = s.ext ∧ (s.hoopErased n d st).cyc = s.cyc ∧ (s.hoopErased n d st).cp = s.cp ∧ (s.hoopErased n d st).ang = s.ang ∧ (s.hoopErased n d st).pwr = s.pwr := by
  unfold State.hoopErased
  (repeat' split) <;> simp

@[simp] theorem State.eraseEnd_keep (s : State) (n : Nat) (d : Desc) (st : Nat) :
    (s.eraseEnd n d st).pending = s.pending ∧ (s.eraseEnd n d st).gen = s.gen ∧ (s.eraseEnd n d st).rot = s.rot ∧ (s.eraseEnd n d st).ext = s.ext ∧ (s.eraseEnd n d st).cyc = s.cyc ∧ (s.eraseEnd n d st).cp = s.cp ∧ (s.eraseEnd n d st).ang = s.ang ∧ (s.eraseEnd n d st).pwr = s.pwr := by
  unfold State.eraseEnd
  simp [apply_ite State.pending, apply_ite State.gen, apply_ite State.rot, apply_ite State.ext, apply_ite State.cyc, apply_ite State.cp, apply_ite State.ang, apply_ite State.pwr]

@[simp] theorem State.recoveryRead_keep (s : State) (d : Desc) (st : Nat) :
    (s.recoveryRead d st).pending = s.pending ∧ (s.recoveryRead d st).gen = s.gen ∧ (s.recoveryRead d st).rot = s.rot ∧ (s.recoveryRead d st).ext = s.ext ∧ (s.recoveryRead d st).cyc = s.cyc ∧ (s.recoveryRead d st).cp = s.cp ∧ (s.recoveryRead d st).ang = s.ang ∧ (s.recoveryRead d st).pwr = s.pwr := by
  unfold State.recoveryRead
  (repeat' split) <;> simp

@[simp] theorem State.deliver_keep (s : State) (n : Nat) (d : Desc) (st : Nat) (res : List Half) :
    (s.deliver n d st res).pending = s.pending ∧ (s.deliver n d st res).gen = s.gen ∧ (s.deliver n d st res).rot = s.rot ∧ (s.deliver n d st res).ext = s.ext ∧ (s.deliver n d st res).cyc = s.cyc ∧ (s.deliver n d st res).cp = s.cp ∧ (s.deliver n d st res).ang = s.ang ∧ (s.deliver n d st res).pwr = s.pwr := by
  unfold State.deliver
  dsimp only
  (repeat' apply And.intro) <;> (repeat' split) <;> simp

@[simp] theorem State.readFinish_keep (s : State) (n : Nat) (r : ReadS) :
    (s.readFinish n r).pending = s.pending ∧ (s.readFinish n r).gen = s.gen ∧ (s.readFinish n r).rot = s.rot ∧ (s.readFinish n r).ext = s.ext ∧ (s.readFinish n r).cyc = s.cyc ∧ (s.readFinish n r).cp = s.cp ∧ (s.readFinish n r).ang = s.ang ∧ (s.readFinish n r).pwr = s.pwr := by
  unfold State.readFinish
  simp [apply_ite State.pending, apply_ite State.gen, apply_ite State.rot, apply_ite State.ext, apply_ite State.cyc, apply_ite State.cp, apply_ite State.ang, apply_ite State.pwr]

@[simp] theorem State.complete_keep (s : State) (n : Nat) (d : Desc) (st : Nat) (res : List Half) :
    (s.complete n d st res).pending = s.pending ∧ (s.complete n d st res).gen = s.gen ∧ (s.complete n d st res).rot = s.rot ∧ (s.complete n d st res).ext = s.ext ∧ (s.complete n d st res).cyc = s.cyc ∧ (s.complete n d st res).cp = s.cp ∧ (s.complete n d st res).ang = s.ang ∧ (s.complete n d st res).pwr = s.pwr := by
  unfold State.complete
  simp [apply_ite State.pending, apply_ite State.gen, apply_ite State.rot, apply_ite State.ext, apply_ite State.cyc, apply_ite State.cp, apply_ite State.ang, apply_ite State.pwr]

@[simp] theorem State.refuseDesc_keep (s : State) (n : Nat) (d : Desc) (st : Nat) :
    (s.refuseDesc n d st).pending = s.pending ∧ (s.refuseDesc n d st).gen = s.gen ∧ (s.refuseDesc n d st).rot = s.rot ∧ (s.refuseDesc n d st).ext = s.ext ∧ (s.refuseDesc n d st).cyc = s.cyc ∧ (s.refuseDesc n d st).cp = s.cp ∧ (s.refuseDesc n d st).ang = s.ang ∧ (s.refuseDesc n d st).pwr = s.pwr := by
  unfold State.refuseDesc
  simp

end Sys2Proof.Machine
end

