-- ==== Sys2Proof/Laws/KeepChannel.lean ====
section
/-!
SUPPORT. What each operation leaves unchanged, of the fields that few commands change (see KeepBase): channels, sequencers, stores and the scheduler.
-/

namespace Sys2Proof.Machine

/-! ## Machine/Phy.lean -/

@[simp] theorem State.phyFinish_keep (s : State) (n res : Nat) :
    (s.phyFinish n res).pending = s.pending ∧ (s.phyFinish n res).gen = s.gen ∧ (s.phyFinish n res).rot = s.rot ∧ (s.phyFinish n res).ext = s.ext ∧ (s.phyFinish n res).cyc = s.cyc ∧ (s.phyFinish n res).cp = s.cp ∧ (s.phyFinish n res).ang = s.ang ∧ (s.phyFinish n res).pwr = s.pwr := by
  unfold State.phyFinish
  simp [apply_ite State.pending, apply_ite State.gen, apply_ite State.rot, apply_ite State.ext, apply_ite State.cyc, apply_ite State.cp, apply_ite State.ang, apply_ite State.pwr]

@[simp] theorem State.drive_keep (s : State) (n : Nat) (ops : List BusOp) :
    (s.drive n ops).pending = s.pending ∧ (s.drive n ops).gen = s.gen ∧ (s.drive n ops).rot = s.rot ∧ (s.drive n ops).ext = s.ext ∧ (s.drive n ops).cyc = s.cyc ∧ (s.drive n ops).cp = s.cp ∧ (s.drive n ops).ang = s.ang ∧ (s.drive n ops).pwr = s.pwr := by
  unfold State.drive
  simp [apply_ite State.pending, apply_ite State.gen, apply_ite State.rot, apply_ite State.ext, apply_ite State.cyc, apply_ite State.cp, apply_ite State.ang, apply_ite State.pwr]

@[simp] theorem State.phyAbort_keep (s : State) (n : Nat) :
    (s.phyAbort n).pending = s.pending ∧ (s.phyAbort n).gen = s.gen ∧ (s.phyAbort n).rot = s.rot ∧ (s.phyAbort n).ext = s.ext ∧ (s.phyAbort n).cyc = s.cyc ∧ (s.phyAbort n).cp = s.cp ∧ (s.phyAbort n).ang = s.ang ∧ (s.phyAbort n).pwr = s.pwr := by
  unfold State.phyAbort
  (repeat' split) <;> simp

@[simp] theorem State.rateSet_keep (s : State) (n : Nat) (x : Nat × Nat) :
    (s.rateSet n x).pending = s.pending ∧ (s.rateSet n x).gen = s.gen ∧ (s.rateSet n x).rot = s.rot ∧ (s.rateSet n x).ext = s.ext ∧ (s.rateSet n x).cyc = s.cyc ∧ (s.rateSet n x).cp = s.cp ∧ (s.rateSet n x).ang = s.ang ∧ (s.rateSet n x).pwr = s.pwr := by
  unfold State.rateSet
  simp

@[simp] theorem State.targetReset_keep (s : State) (n c : Nat) :
    (s.targetReset n c).pending = s.pending ∧ (s.targetReset n c).gen = s.gen ∧ (s.targetReset n c).rot = s.rot ∧ (s.targetReset n c).ext = s.ext ∧ (s.targetReset n c).cyc = s.cyc ∧ (s.targetReset n c).cp = s.cp ∧ (s.targetReset n c).ang = s.ang ∧ (s.targetReset n c).pwr = s.pwr := by
  unfold State.targetReset
  simp

@[simp] theorem State.resetsEnd_keep (s : State) (n : Nat) (cs : List Nat) :
    (s.resetsEnd n cs).pending = s.pending ∧ (s.resetsEnd n cs).gen = s.gen ∧ (s.resetsEnd n cs).rot = s.rot ∧ (s.resetsEnd n cs).ext = s.ext ∧ (s.resetsEnd n cs).cyc = s.cyc ∧ (s.resetsEnd n cs).cp = s.cp ∧ (s.resetsEnd n cs).ang = s.ang ∧ (s.resetsEnd n cs).pwr = s.pwr := by
  unfold State.resetsEnd
  simp

@[simp] theorem State.engTime_keep (s : State) (n : Nat) :
    (s.engTime n).pending = s.pending ∧ (s.engTime n).gen = s.gen ∧ (s.engTime n).rot = s.rot ∧ (s.engTime n).ext = s.ext ∧ (s.engTime n).cyc = s.cyc ∧ (s.engTime n).cp = s.cp ∧ (s.engTime n).ang = s.ang ∧ (s.engTime n).pwr = s.pwr := by
  unfold State.engTime
  simp

@[simp] theorem State.trimWrote_keep (s : State) (n c : Nat) :
    (s.trimWrote n c).pending = s.pending ∧ (s.trimWrote n c).gen = s.gen ∧ (s.trimWrote n c).rot = s.rot ∧ (s.trimWrote n c).ext = s.ext ∧ (s.trimWrote n c).cyc = s.cyc ∧ (s.trimWrote n c).cp = s.cp ∧ (s.trimWrote n c).ang = s.ang ∧ (s.trimWrote n c).pwr = s.pwr := by
  unfold State.trimWrote
  simp

@[simp] theorem State.trimSeen_keep (s : State) (n : Nat) :
    (s.trimSeen n).pending = s.pending ∧ (s.trimSeen n).gen = s.gen ∧ (s.trimSeen n).rot = s.rot ∧ (s.trimSeen n).ext = s.ext ∧ (s.trimSeen n).cyc = s.cyc ∧ (s.trimSeen n).cp = s.cp ∧ (s.trimSeen n).ang = s.ang ∧ (s.trimSeen n).pwr = s.pwr := by
  unfold State.trimSeen
  simp

@[simp] theorem State.mirrorTrim_keep (s : State) (n : Nat) :
    (s.mirrorTrim n).pending = s.pending ∧ (s.mirrorTrim n).gen = s.gen ∧ (s.mirrorTrim n).rot = s.rot ∧ (s.mirrorTrim n).ext = s.ext ∧ (s.mirrorTrim n).cyc = s.cyc ∧ (s.mirrorTrim n).cp = s.cp ∧ (s.mirrorTrim n).ang = s.ang ∧ (s.mirrorTrim n).pwr = s.pwr := by
  unfold State.mirrorTrim
  simp [apply_ite State.pending, apply_ite State.gen, apply_ite State.rot, apply_ite State.ext, apply_ite State.cyc, apply_ite State.cp, apply_ite State.ang, apply_ite State.pwr]

@[simp] theorem State.laneMapBy_pending (s : State) (n : Nat) (f : State → State) (h : ∀ t : State, (f t).pending = t.pending) :
    (s.laneMapBy n f).pending = s.pending := by
  unfold State.laneMapBy
  dsimp only
  split <;> simp [h]

@[simp] theorem State.laneMapBy_gen (s : State) (n : Nat) (f : State → State) (h : ∀ t : State, (f t).gen = t.gen) :
    (s.laneMapBy n f).gen = s.gen := by
  unfold State.laneMapBy
  dsimp only
  split <;> simp [h]

@[simp] theorem State.laneMapBy_rot (s : State) (n : Nat) (f : State → State) (h : ∀ t : State, (f t).rot = t.rot) :
    (s.laneMapBy n f).rot = s.rot := by
  unfold State.laneMapBy
  dsimp only
  split <;> simp [h]

@[simp] theorem State.laneMapBy_ext (s : State) (n : Nat) (f : State → State) (h : ∀ t : State, (f t).ext = t.ext) :
    (s.laneMapBy n f).ext = s.ext := by
  unfold State.laneMapBy
  dsimp only
  split <;> simp [h]

@[simp] theorem State.laneMapBy_cyc (s : State) (n : Nat) (f : State → State) (h : ∀ t : State, (f t).cyc = t.cyc) :
    (s.laneMapBy n f).cyc = s.cyc := by
  unfold State.laneMapBy
  dsimp only
  split <;> simp [h]

@[simp] theorem State.laneMapBy_cp (s : State) (n : Nat) (f : State → State) (h : ∀ t : State, (f t).cp = t.cp) :
    (s.laneMapBy n f).cp = s.cp := by
  unfold State.laneMapBy
  dsimp only
  split <;> simp [h]

@[simp] theorem State.laneMapBy_ang (s : State) (n : Nat) (f : State → State) (h : ∀ t : State, (f t).ang = t.ang) :
    (s.laneMapBy n f).ang = s.ang := by
  unfold State.laneMapBy
  dsimp only
  split <;> simp [h]

@[simp] theorem State.laneMapBy_pwr (s : State) (n : Nat) (f : State → State) (h : ∀ t : State, (f t).pwr = t.pwr) :
    (s.laneMapBy n f).pwr = s.pwr := by
  unfold State.laneMapBy
  dsimp only
  split <;> simp [h]

@[simp] theorem State.phyStart_keep (s : State) (n : Nat) (timing kept : List Nat) (someBad : Bool) :
    (s.phyStart n timing kept someBad).pending = s.pending ∧ (s.phyStart n timing kept someBad).gen = s.gen ∧ (s.phyStart n timing kept someBad).rot = s.rot ∧ (s.phyStart n timing kept someBad).ext = s.ext ∧ (s.phyStart n timing kept someBad).cyc = s.cyc ∧ (s.phyStart n timing kept someBad).cp = s.cp ∧ (s.phyStart n timing kept someBad).ang = s.ang ∧ (s.phyStart n timing kept someBad).pwr = s.pwr := by
  unfold State.phyStart
  simp [apply_ite State.pending, apply_ite State.gen, apply_ite State.rot, apply_ite State.ext, apply_ite State.cyc, apply_ite State.cp, apply_ite State.ang, apply_ite State.pwr]

@[simp] theorem State.phyPages_keep (s : State) (n : Nat) (timing : List Nat) (someBad : Bool) (kept : List (Nat × PageCopy)) :
    (s.phyPages n timing someBad kept).pending = s.pending ∧ (s.phyPages n timing someBad kept).gen = s.gen ∧ (s.phyPages n timing someBad kept).rot = s.rot ∧ (s.phyPages n timing someBad kept).ext = s.ext ∧ (s.phyPages n timing someBad kept).cyc = s.cyc ∧ (s.phyPages n timing someBad kept).cp = s.cp ∧ (s.phyPages n timing someBad kept).ang = s.ang ∧ (s.phyPages n timing someBad kept).pwr = s.pwr := by
  unfold State.phyPages
  (repeat' split) <;> simp [apply_ite State.pending, apply_ite State.gen, apply_ite State.rot, apply_ite State.ext, apply_ite State.cyc, apply_ite State.cp, apply_ite State.ang, apply_ite State.pwr]

@[simp] theorem State.phyForget_keep (s : State) (n : Nat) :
    (s.phyForget n).pending = s.pending ∧ (s.phyForget n).gen = s.gen ∧ (s.phyForget n).rot = s.rot ∧ (s.phyForget n).ext = s.ext ∧ (s.phyForget n).cyc = s.cyc ∧ (s.phyForget n).cp = s.cp ∧ (s.phyForget n).ang = s.ang ∧ (s.phyForget n).pwr = s.pwr := by
  unfold State.phyForget
  simp

@[simp] theorem State.phyInit_keep (s : State) (n : Nat) (targets : Nat) (dies : List DieAns) (timing : List Nat) :
    (s.phyInit n targets dies timing).pending = s.pending ∧ (s.phyInit n targets dies timing).gen = s.gen ∧ (s.phyInit n targets dies timing).rot = s.rot ∧ (s.phyInit n targets dies timing).ext = s.ext ∧ (s.phyInit n targets dies timing).cyc = s.cyc ∧ (s.phyInit n targets dies timing).cp = s.cp ∧ (s.phyInit n targets dies timing).ang = s.ang ∧ (s.phyInit n targets dies timing).pwr = s.pwr := by
  unfold State.phyInit
  simp [apply_ite State.pending, apply_ite State.gen, apply_ite State.rot, apply_ite State.ext, apply_ite State.cyc, apply_ite State.cp, apply_ite State.ang, apply_ite State.pwr]

@[simp] theorem phyCmdWr_keep (n : Nat) (data : Word) (s : State) :
    (phyCmdWr n data s).pending = s.pending ∧ (phyCmdWr n data s).gen = s.gen ∧ (phyCmdWr n data s).rot = s.rot ∧ (phyCmdWr n data s).ext = s.ext ∧ (phyCmdWr n data s).cyc = s.cyc ∧ (phyCmdWr n data s).cp = s.cp ∧ (phyCmdWr n data s).ang = s.ang ∧ (phyCmdWr n data s).pwr = s.pwr := by
  unfold phyCmdWr
  (repeat' split) <;> simp [apply_ite State.pending, apply_ite State.gen, apply_ite State.rot, apply_ite State.ext, apply_ite State.cyc, apply_ite State.cp, apply_ite State.ang, apply_ite State.pwr]

@[simp] theorem State.initAnswer_keep (s : State) (n : Nat) (targets : BitVec 8) (dies : List DieAns) (timing : List Nat) :
    (s.initAnswer n targets dies timing).pending = s.pending ∧ (s.initAnswer n targets dies timing).gen = s.gen ∧ (s.initAnswer n targets dies timing).rot = s.rot ∧ (s.initAnswer n targets dies timing).ext = s.ext ∧ (s.initAnswer n targets dies timing).cyc = s.cyc ∧ (s.initAnswer n targets dies timing).cp = s.cp ∧ (s.initAnswer n targets dies timing).ang = s.ang ∧ (s.initAnswer n targets dies timing).pwr = s.pwr := by
  unfold State.initAnswer
  (repeat' split) <;> simp

@[simp] theorem State.trainCommit_keep (s : State) (n c : Nat) (k : PhyKind) (res : TrainRes) :
    (s.trainCommit n c k res).pending = s.pending ∧ (s.trainCommit n c k res).gen = s.gen ∧ (s.trainCommit n c k res).rot = s.rot ∧ (s.trainCommit n c k res).ext = s.ext ∧ (s.trainCommit n c k res).cyc = s.cyc ∧ (s.trainCommit n c k res).cp = s.cp ∧ (s.trainCommit n c k res).ang = s.ang ∧ (s.trainCommit n c k res).pwr = s.pwr := by
  unfold State.trainCommit
  simp [apply_ite State.pending, apply_ite State.gen, apply_ite State.rot, apply_ite State.ext, apply_ite State.cyc, apply_ite State.cp, apply_ite State.ang, apply_ite State.pwr]

@[simp] theorem State.trainNext_keep (s : State) (n : Nat) (c : PhyRun) (rest : List Nat) :
    (s.trainNext n c rest).pending = s.pending ∧ (s.trainNext n c rest).gen = s.gen ∧ (s.trainNext n c rest).rot = s.rot ∧ (s.trainNext n c rest).ext = s.ext ∧ (s.trainNext n c rest).cyc = s.cyc ∧ (s.trainNext n c rest).cp = s.cp ∧ (s.trainNext n c rest).ang = s.ang ∧ (s.trainNext n c rest).pwr = s.pwr := by
  unfold State.trainNext
  simp [apply_ite State.pending, apply_ite State.gen, apply_ite State.rot, apply_ite State.ext, apply_ite State.cyc, apply_ite State.cp, apply_ite State.ang, apply_ite State.pwr]

@[simp] theorem State.trainJudge_keep (s : State) (n : Nat) (c : PhyRun) (rest bad : List Nat) :
    (s.trainJudge n c rest bad).pending = s.pending ∧ (s.trainJudge n c rest bad).gen = s.gen ∧ (s.trainJudge n c rest bad).rot = s.rot ∧ (s.trainJudge n c rest bad).ext = s.ext ∧ (s.trainJudge n c rest bad).cyc = s.cyc ∧ (s.trainJudge n c rest bad).cp = s.cp ∧ (s.trainJudge n c rest bad).ang = s.ang ∧ (s.trainJudge n c rest bad).pwr = s.pwr := by
  unfold State.trainJudge
  (repeat' split) <;> simp [apply_ite State.pending, apply_ite State.gen, apply_ite State.rot, apply_ite State.ext, apply_ite State.cyc, apply_ite State.cp, apply_ite State.ang, apply_ite State.pwr]

@[simp] theorem State.preMissed_keep (s : State) (n l : Nat) :
    (s.preMissed n l).pending = s.pending ∧ (s.preMissed n l).gen = s.gen ∧ (s.preMissed n l).rot = s.rot ∧ (s.preMissed n l).ext = s.ext ∧ (s.preMissed n l).cyc = s.cyc ∧ (s.preMissed n l).cp = s.cp ∧ (s.preMissed n l).ang = s.ang ∧ (s.preMissed n l).pwr = s.pwr := by
  unfold State.preMissed
  simp

@[simp] theorem State.trackNote_keep (s : State) (n l : Nat) (lanes : List (List (Bool × Bool))) :
    (s.trackNote n l lanes).pending = s.pending ∧ (s.trackNote n l lanes).gen = s.gen ∧ (s.trackNote n l lanes).rot = s.rot ∧ (s.trackNote n l lanes).ext = s.ext ∧ (s.trackNote n l lanes).cyc = s.cyc ∧ (s.trackNote n l lanes).cp = s.cp ∧ (s.trackNote n l lanes).ang = s.ang ∧ (s.trackNote n l lanes).pwr = s.pwr := by
  unfold State.trackNote
  simp [apply_ite State.pending, apply_ite State.gen, apply_ite State.rot, apply_ite State.ext, apply_ite State.cyc, apply_ite State.cp, apply_ite State.ang, apply_ite State.pwr]

/-! ## Machine/LedgOps.lean -/

@[simp] theorem State.ledgAppend_keep (s : State) (n kind flags body : Nat) :
    (s.ledgAppend n kind flags body).pending = s.pending ∧ (s.ledgAppend n kind flags body).gen = s.gen ∧ (s.ledgAppend n kind flags body).rot = s.rot ∧ (s.ledgAppend n kind flags body).ext = s.ext ∧ (s.ledgAppend n kind flags body).cyc = s.cyc ∧ (s.ledgAppend n kind flags body).cp = s.cp ∧ (s.ledgAppend n kind flags body).ang = s.ang ∧ (s.ledgAppend n kind flags body).pwr = s.pwr := by
  unfold State.ledgAppend
  simp [apply_ite State.pending, apply_ite State.gen, apply_ite State.rot, apply_ite State.ext, apply_ite State.cyc, apply_ite State.cp, apply_ite State.ang, apply_ite State.pwr]

@[simp] theorem State.ledgErase_keep (s : State) (n : Nat) (done : Bool) (d : Desc) :
    (s.ledgErase n done d).pending = s.pending ∧ (s.ledgErase n done d).gen = s.gen ∧ (s.ledgErase n done d).rot = s.rot ∧ (s.ledgErase n done d).ext = s.ext ∧ (s.ledgErase n done d).cyc = s.cyc ∧ (s.ledgErase n done d).cp = s.cp ∧ (s.ledgErase n done d).ang = s.ang ∧ (s.ledgErase n done d).pwr = s.pwr := by
  unfold State.ledgErase
  simp [apply_ite State.pending, apply_ite State.gen, apply_ite State.rot, apply_ite State.ext, apply_ite State.cyc, apply_ite State.cp, apply_ite State.ang, apply_ite State.pwr]

@[simp] theorem State.sampleErase_keep (s : State) (n t : Nat) :
    (s.sampleErase n t).pending = s.pending ∧ (s.sampleErase n t).gen = s.gen ∧ (s.sampleErase n t).rot = s.rot ∧ (s.sampleErase n t).ext = s.ext ∧ (s.sampleErase n t).cyc = s.cyc ∧ (s.sampleErase n t).cp = s.cp ∧ (s.sampleErase n t).ang = s.ang ∧ (s.sampleErase n t).pwr = s.pwr := by
  unfold State.sampleErase
  simp [apply_ite State.pending, apply_ite State.gen, apply_ite State.rot, apply_ite State.ext, apply_ite State.cyc, apply_ite State.cp, apply_ite State.ang, apply_ite State.pwr]

@[simp] theorem State.ledgSwitch_keep (s : State) (n : Nat) :
    (s.ledgSwitch n).pending = s.pending ∧ (s.ledgSwitch n).gen = s.gen ∧ (s.ledgSwitch n).rot = s.rot ∧ (s.ledgSwitch n).ext = s.ext ∧ (s.ledgSwitch n).cyc = s.cyc ∧ (s.ledgSwitch n).cp = s.cp ∧ (s.ledgSwitch n).ang = s.ang ∧ (s.ledgSwitch n).pwr = s.pwr := by
  unfold State.ledgSwitch
  simp [apply_ite State.pending, apply_ite State.gen, apply_ite State.rot, apply_ite State.ext, apply_ite State.cyc, apply_ite State.cp, apply_ite State.ang, apply_ite State.pwr]

@[simp] theorem State.flushFail_keep (s : State) (n : Nat) :
    (s.flushFail n).pending = s.pending ∧ (s.flushFail n).gen = s.gen ∧ (s.flushFail n).rot = s.rot ∧ (s.flushFail n).ext = s.ext ∧ (s.flushFail n).cyc = s.cyc ∧ (s.flushFail n).cp = s.cp ∧ (s.flushFail n).ang = s.ang ∧ (s.flushFail n).pwr = s.pwr := by
  unfold State.flushFail
  simp [apply_ite State.pending, apply_ite State.gen, apply_ite State.rot, apply_ite State.ext, apply_ite State.cyc, apply_ite State.cp, apply_ite State.ang, apply_ite State.pwr]

@[simp] theorem State.flushEnd_keep (s : State) (n : Nat) (ok : Bool) :
    (s.flushEnd n ok).pending = s.pending ∧ (s.flushEnd n ok).gen = s.gen ∧ (s.flushEnd n ok).rot = s.rot ∧ (s.flushEnd n ok).ext = s.ext ∧ (s.flushEnd n ok).cyc = s.cyc ∧ (s.flushEnd n ok).cp = s.cp ∧ (s.flushEnd n ok).ang = s.ang ∧ (s.flushEnd n ok).pwr = s.pwr := by
  unfold State.flushEnd
  simp [apply_ite State.pending, apply_ite State.gen, apply_ite State.rot, apply_ite State.ext, apply_ite State.cyc, apply_ite State.cp, apply_ite State.ang, apply_ite State.pwr]

theorem State.flushRefused_keep (s : State) (n t cmd : Nat) (u : State) (e : s.flushRefused n t cmd = some u) :
    u.pending = s.pending ∧ u.gen = s.gen ∧ u.rot = s.rot ∧ u.ext = s.ext ∧ u.cyc = s.cyc ∧ u.cp = s.cp ∧ u.ang = s.ang ∧ u.pwr = s.pwr := by
  obtain ⟨r, -, e⟩ := Option.map_eq_some_iff.mp e
  subst e
  simp

@[simp] theorem State.flushProg_keep (s : State) (n : Nat) (pass : Bool) :
    (s.flushProg n pass).pending = s.pending ∧ (s.flushProg n pass).gen = s.gen ∧ (s.flushProg n pass).rot = s.rot ∧ (s.flushProg n pass).ext = s.ext ∧ (s.flushProg n pass).cyc = s.cyc ∧ (s.flushProg n pass).cp = s.cp ∧ (s.flushProg n pass).ang = s.ang ∧ (s.flushProg n pass).pwr = s.pwr := by
  unfold State.flushProg
  split
  · rename_i u e
    simp [State.flushRefused_keep _ _ _ _ _ e]
  · simp

/-! ## Machine/SeqOps.lean -/

@[simp] theorem State.ctxComplete_keep (s : State) (n st : Nat) :
    (s.ctxComplete n st).pending = s.pending ∧ (s.ctxComplete n st).gen = s.gen ∧ (s.ctxComplete n st).rot = s.rot ∧ (s.ctxComplete n st).ext = s.ext ∧ (s.ctxComplete n st).cyc = s.cyc ∧ (s.ctxComplete n st).cp = s.cp ∧ (s.ctxComplete n st).ang = s.ang ∧ (s.ctxComplete n st).pwr = s.pwr := by
  unfold State.ctxComplete
  (repeat' split) <;> simp

@[simp] theorem State.seqHalt_keep (s : State) (n : Nat) :
    (s.seqHalt n).pending = s.pending ∧ (s.seqHalt n).gen = s.gen ∧ (s.seqHalt n).rot = s.rot ∧ (s.seqHalt n).ext = s.ext ∧ (s.seqHalt n).cyc = s.cyc ∧ (s.seqHalt n).cp = s.cp ∧ (s.seqHalt n).ang = s.ang ∧ (s.seqHalt n).pwr = s.pwr := by
  unfold State.seqHalt
  simp

@[simp] theorem State.ctxIdle_keep (s : State) (n : Nat) :
    (s.ctxIdle n).pending = s.pending ∧ (s.ctxIdle n).gen = s.gen ∧ (s.ctxIdle n).rot = s.rot ∧ (s.ctxIdle n).ext = s.ext ∧ (s.ctxIdle n).cyc = s.cyc ∧ (s.ctxIdle n).cp = s.cp ∧ (s.ctxIdle n).ang = s.ang ∧ (s.ctxIdle n).pwr = s.pwr := by
  unfold State.ctxIdle
  simp

@[simp] theorem State.opFinish_keep (s : State) (n : Nat) (d : Desc) (st detail h2 h3 : Nat) :
    (s.opFinish n d st detail h2 h3).pending = s.pending ∧ (s.opFinish n d st detail h2 h3).gen = s.gen ∧ (s.opFinish n d st detail h2 h3).rot = s.rot ∧ (s.opFinish n d st detail h2 h3).ext = s.ext ∧ (s.opFinish n d st detail h2 h3).cyc = s.cyc ∧ (s.opFinish n d st detail h2 h3).cp = s.cp ∧ (s.opFinish n d st detail h2 h3).ang = s.ang ∧ (s.opFinish n d st detail h2 h3).pwr = s.pwr := by
  unfold State.opFinish
  simp

@[simp] theorem State.seqStep_keep (s : State) (n : Nat) :
    (s.seqStep n).pending = s.pending ∧ (s.seqStep n).gen = s.gen ∧ (s.seqStep n).rot = s.rot ∧ (s.seqStep n).ext = s.ext ∧ (s.seqStep n).cyc = s.cyc ∧ (s.seqStep n).cp = s.cp ∧ (s.seqStep n).ang = s.ang ∧ (s.seqStep n).pwr = s.pwr := by
  unfold State.seqStep
  simp [apply_ite State.pending, apply_ite State.gen, apply_ite State.rot, apply_ite State.ext, apply_ite State.cyc, apply_ite State.cp, apply_ite State.ang, apply_ite State.pwr]

@[simp] theorem State.seqJump_keep (s : State) (n t : Nat) :
    (s.seqJump n t).pending = s.pending ∧ (s.seqJump n t).gen = s.gen ∧ (s.seqJump n t).rot = s.rot ∧ (s.seqJump n t).ext = s.ext ∧ (s.seqJump n t).cyc = s.cyc ∧ (s.seqJump n t).cp = s.cp ∧ (s.seqJump n t).ang = s.ang ∧ (s.seqJump n t).pwr = s.pwr := by
  unfold State.seqJump
  simp

@[simp] theorem State.seqRun_pending (s : State) (n op : Nat) (f : State → Nat → State) (h : ∀ (t : State) (w : Nat), (f t w).pending = t.pending) :
    (s.seqRun n op f).pending = s.pending := by
  unfold State.seqRun
  dsimp only
  (repeat' split) <;> simp [h]

@[simp] theorem State.seqRun_gen (s : State) (n op : Nat) (f : State → Nat → State) (h : ∀ (t : State) (w : Nat), (f t w).gen = t.gen) :
    (s.seqRun n op f).gen = s.gen := by
  unfold State.seqRun
  dsimp only
  (repeat' split) <;> simp [h]

@[simp] theorem State.seqRun_rot (s : State) (n op : Nat) (f : State → Nat → State) (h : ∀ (t : State) (w : Nat), (f t w).rot = t.rot) :
    (s.seqRun n op f).rot = s.rot := by
  unfold State.seqRun
  dsimp only
  (repeat' split) <;> simp [h]

@[simp] theorem State.seqRun_ext (s : State) (n op : Nat) (f : State → Nat → State) (h : ∀ (t : State) (w : Nat), (f t w).ext = t.ext) :
    (s.seqRun n op f).ext = s.ext := by
  unfold State.seqRun
  dsimp only
  (repeat' split) <;> simp [h]

@[simp] theorem State.seqRun_cyc (s : State) (n op : Nat) (f : State → Nat → State) (h : ∀ (t : State) (w : Nat), (f t w).cyc = t.cyc) :
    (s.seqRun n op f).cyc = s.cyc := by
  unfold State.seqRun
  dsimp only
  (repeat' split) <;> simp [h]

@[simp] theorem State.seqRun_cp (s : State) (n op : Nat) (f : State → Nat → State) (h : ∀ (t : State) (w : Nat), (f t w).cp = t.cp) :
    (s.seqRun n op f).cp = s.cp := by
  unfold State.seqRun
  dsimp only
  (repeat' split) <;> simp [h]

@[simp] theorem State.seqRun_ang (s : State) (n op : Nat) (f : State → Nat → State) (h : ∀ (t : State) (w : Nat), (f t w).ang = t.ang) :
    (s.seqRun n op f).ang = s.ang := by
  unfold State.seqRun
  dsimp only
  (repeat' split) <;> simp [h]

@[simp] theorem State.seqRun_pwr (s : State) (n op : Nat) (f : State → Nat → State) (h : ∀ (t : State) (w : Nat), (f t w).pwr = t.pwr) :
    (s.seqRun n op f).pwr = s.pwr := by
  unfold State.seqRun
  dsimp only
  (repeat' split) <;> simp [h]

@[simp] theorem State.aluRun_keep (s : State) (n w : Nat) :
    (s.aluRun n w).pending = s.pending ∧ (s.aluRun n w).gen = s.gen ∧ (s.aluRun n w).rot = s.rot ∧ (s.aluRun n w).ext = s.ext ∧ (s.aluRun n w).cyc = s.cyc ∧ (s.aluRun n w).cp = s.cp ∧ (s.aluRun n w).ang = s.ang ∧ (s.aluRun n w).pwr = s.pwr := by
  unfold State.aluRun
  dsimp only
  (repeat' apply And.intro) <;> (repeat' split) <;> simp

@[simp] theorem State.engPush_keep (s : State) (n : Nat) (e : EngE) :
    (s.engPush n e).pending = s.pending ∧ (s.engPush n e).gen = s.gen ∧ (s.engPush n e).rot = s.rot ∧ (s.engPush n e).ext = s.ext ∧ (s.engPush n e).cyc = s.cyc ∧ (s.engPush n e).cp = s.cp ∧ (s.engPush n e).ang = s.ang ∧ (s.engPush n e).pwr = s.pwr := by
  unfold State.engPush
  (repeat' split) <;> simp [apply_ite State.pending, apply_ite State.gen, apply_ite State.rot, apply_ite State.ext, apply_ite State.cyc, apply_ite State.cp, apply_ite State.ang, apply_ite State.pwr]

@[simp] theorem State.parkAt_keep (s : State) (n : Nat) (d : Desc) (cont cls : Nat) :
    (s.parkAt n d cont cls).pending = s.pending ∧ (s.parkAt n d cont cls).gen = s.gen ∧ (s.parkAt n d cont cls).rot = s.rot ∧ (s.parkAt n d cont cls).ext = s.ext ∧ (s.parkAt n d cont cls).cyc = s.cyc ∧ (s.parkAt n d cont cls).cp = s.cp ∧ (s.parkAt n d cont cls).ang = s.ang ∧ (s.parkAt n d cont cls).pwr = s.pwr := by
  unfold State.parkAt
  simp

/-! ## Machine/Seq.lean -/

@[simp] theorem State.reselect_keep (s : State) (n : Nat) (f : FrameS) :
    (s.reselect n f).pending = s.pending ∧ (s.reselect n f).gen = s.gen ∧ (s.reselect n f).rot = s.rot ∧ (s.reselect n f).ext = s.ext ∧ (s.reselect n f).cyc = s.cyc ∧ (s.reselect n f).cp = s.cp ∧ (s.reselect n f).ang = s.ang ∧ (s.reselect n f).pwr = s.pwr := by
  unfold State.reselect
  simp [apply_ite State.pending, apply_ite State.gen, apply_ite State.rot, apply_ite State.ext, apply_ite State.cyc, apply_ite State.cp, apply_ite State.ang, apply_ite State.pwr]

@[simp] theorem State.aluIf_keep (s : State) (n fn : Nat) :
    (s.aluIf n fn).pending = s.pending ∧ (s.aluIf n fn).gen = s.gen ∧ (s.aluIf n fn).rot = s.rot ∧ (s.aluIf n fn).ext = s.ext ∧ (s.aluIf n fn).cyc = s.cyc ∧ (s.aluIf n fn).cp = s.cp ∧ (s.aluIf n fn).ang = s.ang ∧ (s.aluIf n fn).pwr = s.pwr := by
  unfold State.aluIf
  simp [apply_ite State.pending, apply_ite State.gen, apply_ite State.rot, apply_ite State.ext, apply_ite State.cyc, apply_ite State.cp, apply_ite State.ang, apply_ite State.pwr]

/-! ## Machine/SealOps.lean -/

@[simp] theorem State.encodeCw_keep (s : State) (n p k t : Nat) :
    (s.encodeCw n p k t).pending = s.pending ∧ (s.encodeCw n p k t).gen = s.gen ∧ (s.encodeCw n p k t).rot = s.rot ∧ (s.encodeCw n p k t).ext = s.ext ∧ (s.encodeCw n p k t).cyc = s.cyc ∧ (s.encodeCw n p k t).cp = s.cp ∧ (s.encodeCw n p k t).ang = s.ang ∧ (s.encodeCw n p k t).pwr = s.pwr := by
  unfold State.encodeCw
  simp

@[simp] theorem State.unscramble_keep (s : State) (n p : Nat) :
    (s.unscramble n p).pending = s.pending ∧ (s.unscramble n p).gen = s.gen ∧ (s.unscramble n p).rot = s.rot ∧ (s.unscramble n p).ext = s.ext ∧ (s.unscramble n p).cyc = s.cyc ∧ (s.unscramble n p).cp = s.cp ∧ (s.unscramble n p).ang = s.ang ∧ (s.unscramble n p).pwr = s.pwr := by
  unfold State.unscramble
  simp

@[simp] theorem State.sealTrailer_keep (s : State) (n p : Nat) :
    (s.sealTrailer n p).pending = s.pending ∧ (s.sealTrailer n p).gen = s.gen ∧ (s.sealTrailer n p).rot = s.rot ∧ (s.sealTrailer n p).ext = s.ext ∧ (s.sealTrailer n p).cyc = s.cyc ∧ (s.sealTrailer n p).cp = s.cp ∧ (s.sealTrailer n p).ang = s.ang ∧ (s.sealTrailer n p).pwr = s.pwr := by
  unfold State.sealTrailer
  simp

@[simp] theorem State.wpUpdate_keep (s : State) (n : Nat) :
    (s.wpUpdate n).pending = s.pending ∧ (s.wpUpdate n).gen = s.gen ∧ (s.wpUpdate n).rot = s.rot ∧ (s.wpUpdate n).ext = s.ext ∧ (s.wpUpdate n).cyc = s.cyc ∧ (s.wpUpdate n).cp = s.cp ∧ (s.wpUpdate n).ang = s.ang ∧ (s.wpUpdate n).pwr = s.pwr := by
  unfold State.wpUpdate
  simp

@[simp] theorem State.lunReset_keep (s : State) (n l : Nat) :
    (s.lunReset n l).pending = s.pending ∧ (s.lunReset n l).gen = s.gen ∧ (s.lunReset n l).rot = s.rot ∧ (s.lunReset n l).ext = s.ext ∧ (s.lunReset n l).cyc = s.cyc ∧ (s.lunReset n l).cp = s.cp ∧ (s.lunReset n l).ang = s.ang ∧ (s.lunReset n l).pwr = s.pwr := by
  unfold State.lunReset
  simp

@[simp] theorem State.wlAbandon_keep (s : State) (n l : Nat) :
    (s.wlAbandon n l).pending = s.pending ∧ (s.wlAbandon n l).gen = s.gen ∧ (s.wlAbandon n l).rot = s.rot ∧ (s.wlAbandon n l).ext = s.ext ∧ (s.wlAbandon n l).cyc = s.cyc ∧ (s.wlAbandon n l).cp = s.cp ∧ (s.wlAbandon n l).ang = s.ang ∧ (s.wlAbandon n l).pwr = s.pwr := by
  unfold State.wlAbandon
  (repeat' split) <;> simp

@[simp] theorem State.sealAbort_keep (s : State) (n l : Nat) :
    (s.sealAbort n l).pending = s.pending ∧ (s.sealAbort n l).gen = s.gen ∧ (s.sealAbort n l).rot = s.rot ∧ (s.sealAbort n l).ext = s.ext ∧ (s.sealAbort n l).cyc = s.cyc ∧ (s.sealAbort n l).cp = s.cp ∧ (s.sealAbort n l).ang = s.ang ∧ (s.sealAbort n l).pwr = s.pwr := by
  unfold State.sealAbort
  dsimp only
  (repeat' apply And.intro) <;> (repeat' split) <;> simp

@[simp] theorem State.sealLunQuiet_keep (s : State) (n l : Nat) :
    (s.sealLunQuiet n l).pending = s.pending ∧ (s.sealLunQuiet n l).gen = s.gen ∧ (s.sealLunQuiet n l).rot = s.rot ∧ (s.sealLunQuiet n l).ext = s.ext ∧ (s.sealLunQuiet n l).cyc = s.cyc ∧ (s.sealLunQuiet n l).cp = s.cp ∧ (s.sealLunQuiet n l).ang = s.ang ∧ (s.sealLunQuiet n l).pwr = s.pwr := by
  unfold State.sealLunQuiet
  dsimp only
  (repeat' apply And.intro) <;> (repeat' split) <;> simp

@[simp] theorem State.sealOthers_keep (s : State) (n : Nat) :
    (s.sealOthers n).pending = s.pending ∧ (s.sealOthers n).gen = s.gen ∧ (s.sealOthers n).rot = s.rot ∧ (s.sealOthers n).ext = s.ext ∧ (s.sealOthers n).cyc = s.cyc ∧ (s.sealOthers n).cp = s.cp ∧ (s.sealOthers n).ang = s.ang ∧ (s.sealOthers n).pwr = s.pwr := by
  unfold State.sealOthers
  simp [apply_ite State.pending, apply_ite State.gen, apply_ite State.rot, apply_ite State.ext, apply_ite State.cyc, apply_ite State.cp, apply_ite State.ang, apply_ite State.pwr]

@[simp] theorem State.sealTile_keep (s : State) (n p j : Nat) :
    (s.sealTile n p j).pending = s.pending ∧ (s.sealTile n p j).gen = s.gen ∧ (s.sealTile n p j).rot = s.rot ∧ (s.sealTile n p j).ext = s.ext ∧ (s.sealTile n p j).cyc = s.cyc ∧ (s.sealTile n p j).cp = s.cp ∧ (s.sealTile n p j).ang = s.ang ∧ (s.sealTile n p j).pwr = s.pwr := by
  unfold State.sealTile
  simp

@[simp] theorem State.sealGo_keep (s : State) (n : Nat) :
    (s.sealGo n).pending = s.pending ∧ (s.sealGo n).gen = s.gen ∧ (s.sealGo n).rot = s.rot ∧ (s.sealGo n).ext = s.ext ∧ (s.sealGo n).cyc = s.cyc ∧ (s.sealGo n).cp = s.cp ∧ (s.sealGo n).ang = s.ang ∧ (s.sealGo n).pwr = s.pwr := by
  unfold State.sealGo
  simp [apply_ite State.pending, apply_ite State.gen, apply_ite State.rot, apply_ite State.ext, apply_ite State.cyc, apply_ite State.cp, apply_ite State.ang, apply_ite State.pwr]

@[simp] theorem State.sealBegin_keep (s : State) (n : Nat) :
    (s.sealBegin n).pending = s.pending ∧ (s.sealBegin n).gen = s.gen ∧ (s.sealBegin n).rot = s.rot ∧ (s.sealBegin n).ext = s.ext ∧ (s.sealBegin n).cyc = s.cyc ∧ (s.sealBegin n).cp = s.cp ∧ (s.sealBegin n).ang = s.ang ∧ (s.sealBegin n).pwr = s.pwr := by
  unfold State.sealBegin
  simp

@[simp] theorem State.sealJoin_keep (s : State) (n p : Nat) :
    (s.sealJoin n p).pending = s.pending ∧ (s.sealJoin n p).gen = s.gen ∧ (s.sealJoin n p).rot = s.rot ∧ (s.sealJoin n p).ext = s.ext ∧ (s.sealJoin n p).cyc = s.cyc ∧ (s.sealJoin n p).cp = s.cp ∧ (s.sealJoin n p).ang = s.ang ∧ (s.sealJoin n p).pwr = s.pwr := by
  unfold State.sealJoin
  simp [apply_ite State.pending, apply_ite State.gen, apply_ite State.rot, apply_ite State.ext, apply_ite State.cyc, apply_ite State.cp, apply_ite State.ang, apply_ite State.pwr]

@[simp] theorem State.sealCommand_keep (s : State) (n b : Nat) :
    (s.sealCommand n b).pending = s.pending ∧ (s.sealCommand n b).gen = s.gen ∧ (s.sealCommand n b).rot = s.rot ∧ (s.sealCommand n b).ext = s.ext ∧ (s.sealCommand n b).cyc = s.cyc ∧ (s.sealCommand n b).cp = s.cp ∧ (s.sealCommand n b).ang = s.ang ∧ (s.sealCommand n b).pwr = s.pwr := by
  unfold State.sealCommand
  simp [apply_ite State.pending, apply_ite State.gen, apply_ite State.rot, apply_ite State.ext, apply_ite State.cyc, apply_ite State.cp, apply_ite State.ang, apply_ite State.pwr]

@[simp] theorem State.sealRefused_keep (s : State) (n : Nat) :
    (s.sealRefused n).pending = s.pending ∧ (s.sealRefused n).gen = s.gen ∧ (s.sealRefused n).rot = s.rot ∧ (s.sealRefused n).ext = s.ext ∧ (s.sealRefused n).cyc = s.cyc ∧ (s.sealRefused n).cp = s.cp ∧ (s.sealRefused n).ang = s.ang ∧ (s.sealRefused n).pwr = s.pwr := by
  unfold State.sealRefused
  simp [apply_ite State.pending, apply_ite State.gen, apply_ite State.rot, apply_ite State.ext, apply_ite State.cyc, apply_ite State.cp, apply_ite State.ang, apply_ite State.pwr]

@[simp] theorem State.ledgSeal_keep (s : State) (n kind : Nat) :
    (s.ledgSeal n kind).pending = s.pending ∧ (s.ledgSeal n kind).gen = s.gen ∧ (s.ledgSeal n kind).rot = s.rot ∧ (s.ledgSeal n kind).ext = s.ext ∧ (s.ledgSeal n kind).cyc = s.cyc ∧ (s.ledgSeal n kind).cp = s.cp ∧ (s.ledgSeal n kind).ang = s.ang ∧ (s.ledgSeal n kind).pwr = s.pwr := by
  unfold State.ledgSeal
  dsimp only
  (repeat' apply And.intro) <;> (repeat' split) <;> simp

@[simp] theorem State.sealDone_keep (s : State) :
    (s.sealDone).pending = s.pending ∧ (s.sealDone).gen = s.gen ∧ (s.sealDone).rot = s.rot ∧ (s.sealDone).ext = s.ext ∧ (s.sealDone).cyc = s.cyc ∧ (s.sealDone).cp = s.cp ∧ (s.sealDone).ang = s.ang ∧ (s.sealDone).pwr = s.pwr := by
  unfold State.sealDone
  simp [apply_ite State.pending, apply_ite State.gen, apply_ite State.rot, apply_ite State.ext, apply_ite State.cyc, apply_ite State.cp, apply_ite State.ang, apply_ite State.pwr]

@[simp] theorem State.ownRelease_keep (s : State) (n : Nat) :
    (s.ownRelease n).pending = s.pending ∧ (s.ownRelease n).gen = s.gen ∧ (s.ownRelease n).rot = s.rot ∧ (s.ownRelease n).ext = s.ext ∧ (s.ownRelease n).cyc = s.cyc ∧ (s.ownRelease n).cp = s.cp ∧ (s.ownRelease n).ang = s.ang ∧ (s.ownRelease n).pwr = s.pwr := by
  unfold State.ownRelease
  simp

@[simp] theorem State.sealEnd_keep (s : State) (n : Nat) :
    (s.sealEnd n).pending = s.pending ∧ (s.sealEnd n).gen = s.gen ∧ (s.sealEnd n).rot = s.rot ∧ (s.sealEnd n).ext = s.ext ∧ (s.sealEnd n).cyc = s.cyc ∧ (s.sealEnd n).cp = s.cp ∧ (s.sealEnd n).ang = s.ang := by
  unfold State.sealEnd
  simp [apply_ite State.pending, apply_ite State.gen, apply_ite State.rot, apply_ite State.ext, apply_ite State.cyc, apply_ite State.cp, apply_ite State.ang]

/-! ## Machine/SeqTrap.lean -/

@[simp] theorem breakWr_keep (g : Nat) (data : Word) (s : State) :
    (breakWr g data s).pending = s.pending ∧ (breakWr g data s).gen = s.gen ∧ (breakWr g data s).rot = s.rot ∧ (breakWr g data s).ext = s.ext ∧ (breakWr g data s).cyc = s.cyc ∧ (breakWr g data s).cp = s.cp ∧ (breakWr g data s).ang = s.ang ∧ (breakWr g data s).pwr = s.pwr := by
  unfold breakWr
  simp [apply_ite State.pending, apply_ite State.gen, apply_ite State.rot, apply_ite State.ext, apply_ite State.cyc, apply_ite State.cp, apply_ite State.ang, apply_ite State.pwr]

/-! ## Machine/Engine.lean -/

@[simp] theorem State.engPop_keep (s : State) (n : Nat) :
    (s.engPop n).pending = s.pending ∧ (s.engPop n).gen = s.gen ∧ (s.engPop n).rot = s.rot ∧ (s.engPop n).ext = s.ext ∧ (s.engPop n).cyc = s.cyc ∧ (s.engPop n).cp = s.cp ∧ (s.engPop n).ang = s.ang ∧ (s.engPop n).pwr = s.pwr := by
  unfold State.engPop
  simp

@[simp] theorem State.engDrop_keep (s : State) (n : Nat) :
    (s.engDrop n).pending = s.pending ∧ (s.engDrop n).gen = s.gen ∧ (s.engDrop n).rot = s.rot ∧ (s.engDrop n).ext = s.ext ∧ (s.engDrop n).cyc = s.cyc ∧ (s.engDrop n).cp = s.cp ∧ (s.engDrop n).ang = s.ang ∧ (s.engDrop n).pwr = s.pwr := by
  unfold State.engDrop
  simp [apply_ite State.pending, apply_ite State.gen, apply_ite State.rot, apply_ite State.ext, apply_ite State.cyc, apply_ite State.cp, apply_ite State.ang, apply_ite State.pwr]

@[simp] theorem State.engRefuse_keep (s : State) (n t reason : Nat) :
    (s.engRefuse n t reason).pending = s.pending ∧ (s.engRefuse n t reason).gen = s.gen ∧ (s.engRefuse n t reason).rot = s.rot ∧ (s.engRefuse n t reason).ext = s.ext ∧ (s.engRefuse n t reason).cyc = s.cyc ∧ (s.engRefuse n t reason).cp = s.cp ∧ (s.engRefuse n t reason).ang = s.ang ∧ (s.engRefuse n t reason).pwr = s.pwr := by
  unfold State.engRefuse
  simp

@[simp] theorem State.cmdEffect_keep (s : State) (n b : Nat) :
    (s.cmdEffect n b).pending = s.pending ∧ (s.cmdEffect n b).gen = s.gen ∧ (s.cmdEffect n b).rot = s.rot ∧ (s.cmdEffect n b).ext = s.ext ∧ (s.cmdEffect n b).cyc = s.cyc ∧ (s.cmdEffect n b).cp = s.cp ∧ (s.cmdEffect n b).ang = s.ang ∧ (s.cmdEffect n b).pwr = s.pwr := by
  unfold State.cmdEffect
  (repeat' split) <;> simp

@[simp] theorem State.wlOpen_keep (s : State) (n : Nat) :
    (s.wlOpen n).pending = s.pending ∧ (s.wlOpen n).gen = s.gen ∧ (s.wlOpen n).rot = s.rot ∧ (s.wlOpen n).ext = s.ext ∧ (s.wlOpen n).cyc = s.cyc ∧ (s.wlOpen n).cp = s.cp ∧ (s.wlOpen n).ang = s.ang ∧ (s.wlOpen n).pwr = s.pwr := by
  unfold State.wlOpen
  (repeat' split) <;> simp

@[simp] theorem State.lunSeq_keep (s : State) (n l b : Nat) (row : Bool) :
    (s.lunSeq n l b row).pending = s.pending ∧ (s.lunSeq n l b row).gen = s.gen ∧ (s.lunSeq n l b row).rot = s.rot ∧ (s.lunSeq n l b row).ext = s.ext ∧ (s.lunSeq n l b row).cyc = s.cyc ∧ (s.lunSeq n l b row).cp = s.cp ∧ (s.lunSeq n l b row).ang = s.ang ∧ (s.lunSeq n l b row).pwr = s.pwr := by
  unfold State.lunSeq
  simp

@[simp] theorem State.addrEffect_keep (s : State) (n : Nat) (bytes : List Nat) :
    (s.addrEffect n bytes).pending = s.pending ∧ (s.addrEffect n bytes).gen = s.gen ∧ (s.addrEffect n bytes).rot = s.rot ∧ (s.addrEffect n bytes).ext = s.ext ∧ (s.addrEffect n bytes).cyc = s.cyc ∧ (s.addrEffect n bytes).cp = s.cp ∧ (s.addrEffect n bytes).ang = s.ang ∧ (s.addrEffect n bytes).pwr = s.pwr := by
  unfold State.addrEffect
  dsimp only
  (repeat' apply And.intro) <;> (repeat' split) <;> simp

@[simp] theorem State.sealDrop_keep (s : State) (n : Nat) :
    (s.sealDrop n).pending = s.pending ∧ (s.sealDrop n).gen = s.gen ∧ (s.sealDrop n).rot = s.rot ∧ (s.sealDrop n).ext = s.ext ∧ (s.sealDrop n).cyc = s.cyc ∧ (s.sealDrop n).cp = s.cp ∧ (s.sealDrop n).ang = s.ang ∧ (s.sealDrop n).pwr = s.pwr := by
  unfold State.sealDrop
  dsimp only
  (repeat' apply And.intro) <;> (repeat' split) <;> simp

@[simp] theorem State.readLand_keep (s : State) (d : Desc) (off len : Nat) :
    (s.readLand d off len).pending = s.pending ∧ (s.readLand d off len).gen = s.gen ∧ (s.readLand d off len).rot = s.rot ∧ (s.readLand d off len).ext = s.ext ∧ (s.readLand d off len).cyc = s.cyc ∧ (s.readLand d off len).cp = s.cp ∧ (s.readLand d off len).ang = s.ang ∧ (s.readLand d off len).pwr = s.pwr := by
  unfold State.readLand
  simp

/-! ## Machine/RegWr.lean -/

@[simp] theorem State.regMerge_keep (s : State) (a : Nat) (be : BitVec 4) (data : Word) :
    (s.regMerge a be data).pending = s.pending ∧ (s.regMerge a be data).gen = s.gen ∧ (s.regMerge a be data).rot = s.rot ∧ (s.regMerge a be data).ext = s.ext ∧ (s.regMerge a be data).cyc = s.cyc ∧ (s.regMerge a be data).cp = s.cp ∧ (s.regMerge a be data).ang = s.ang ∧ (s.regMerge a be data).pwr = s.pwr := by
  unfold State.regMerge
  (repeat' split) <;> simp

/-! ## Machine/Store.lean -/

@[simp] theorem State.verifySpoil_keep (s : State) (g region : Nat) :
    (s.verifySpoil g region).pending = s.pending ∧ (s.verifySpoil g region).gen = s.gen ∧ (s.verifySpoil g region).rot = s.rot ∧ (s.verifySpoil g region).ext = s.ext ∧ (s.verifySpoil g region).cyc = s.cyc ∧ (s.verifySpoil g region).cp = s.cp ∧ (s.verifySpoil g region).ang = s.ang ∧ (s.verifySpoil g region).pwr = s.pwr := by
  unfold State.verifySpoil
  simp [apply_ite State.pending, apply_ite State.gen, apply_ite State.rot, apply_ite State.ext, apply_ite State.cyc, apply_ite State.cp, apply_ite State.ang, apply_ite State.pwr]

@[simp] theorem vendorWr_keep (g w : Nat) (be : BitVec 4) (data : Word) (s : State) :
    (vendorWr g w be data s).pending = s.pending ∧ (vendorWr g w be data s).gen = s.gen ∧ (vendorWr g w be data s).rot = s.rot ∧ (vendorWr g w be data s).ext = s.ext ∧ (vendorWr g w be data s).cyc = s.cyc ∧ (vendorWr g w be data s).cp = s.cp ∧ (vendorWr g w be data s).ang = s.ang ∧ (vendorWr g w be data s).pwr = s.pwr := by
  unfold vendorWr
  simp [apply_ite State.pending, apply_ite State.gen, apply_ite State.rot, apply_ite State.ext, apply_ite State.cyc, apply_ite State.cp, apply_ite State.ang, apply_ite State.pwr]

@[simp] theorem State.custStore_keep (s : State) (g w : Nat) (be : BitVec 4) (data : Word) :
    (s.custStore g w be data).pending = s.pending ∧ (s.custStore g w be data).gen = s.gen ∧ (s.custStore g w be data).rot = s.rot ∧ (s.custStore g w be data).ext = s.ext ∧ (s.custStore g w be data).cyc = s.cyc ∧ (s.custStore g w be data).cp = s.cp ∧ (s.custStore g w be data).ang = s.ang ∧ (s.custStore g w be data).pwr = s.pwr := by
  unfold State.custStore
  simp

@[simp] theorem customerWr_keep (g w : Nat) (be : BitVec 4) (data : Word) (s : State) :
    (customerWr g w be data s).pending = s.pending ∧ (customerWr g w be data s).gen = s.gen ∧ (customerWr g w be data s).rot = s.rot ∧ (customerWr g w be data s).ext = s.ext ∧ (customerWr g w be data s).cyc = s.cyc ∧ (customerWr g w be data s).ang = s.ang ∧ (customerWr g w be data s).pwr = s.pwr := by
  unfold customerWr
  simp [apply_ite State.pending, apply_ite State.gen, apply_ite State.rot, apply_ite State.ext, apply_ite State.cyc, apply_ite State.ang, apply_ite State.pwr]

@[simp] theorem storeWr_keep (a : Nat) (be : BitVec 4) (data : Word) (s : State) :
    (storeWr a be data s).pending = s.pending ∧ (storeWr a be data s).gen = s.gen ∧ (storeWr a be data s).rot = s.rot ∧ (storeWr a be data s).ext = s.ext ∧ (storeWr a be data s).cyc = s.cyc ∧ (storeWr a be data s).ang = s.ang ∧ (storeWr a be data s).pwr = s.pwr := by
  unfold storeWr
  (repeat' split) <;> simp

@[simp] theorem State.holdClear_keep (s : State) (g : Nat) :
    (s.holdClear g).pending = s.pending ∧ (s.holdClear g).gen = s.gen ∧ (s.holdClear g).rot = s.rot ∧ (s.holdClear g).ext = s.ext ∧ (s.holdClear g).cyc = s.cyc ∧ (s.holdClear g).ang = s.ang ∧ (s.holdClear g).pwr = s.pwr := by
  unfold State.holdClear
  simp

@[simp] theorem State.holdEnd_keep (s : State) :
    (s.holdEnd).pending = s.pending ∧ (s.holdEnd).gen = s.gen ∧ (s.holdEnd).rot = s.rot ∧ (s.holdEnd).ext = s.ext ∧ (s.holdEnd).cyc = s.cyc ∧ (s.holdEnd).ang = s.ang ∧ (s.holdEnd).pwr = s.pwr := by
  unfold State.holdEnd
  (repeat' split) <;> simp

@[simp] theorem State.holdDrop_keep (s : State) :
    (s.holdDrop).pending = s.pending ∧ (s.holdDrop).gen = s.gen ∧ (s.holdDrop).rot = s.rot ∧ (s.holdDrop).ext = s.ext ∧ (s.holdDrop).cyc = s.cyc ∧ (s.holdDrop).ang = s.ang ∧ (s.holdDrop).pwr = s.pwr := by
  unfold State.holdDrop
  (repeat' split) <;> simp

@[simp] theorem verifyWr_keep (g : Nat) (data : Word) (s : State) :
    (verifyWr g data s).pending = s.pending ∧ (verifyWr g data s).gen = s.gen ∧ (verifyWr g data s).rot = s.rot ∧ (verifyWr g data s).ext = s.ext ∧ (verifyWr g data s).cyc = s.cyc ∧ (verifyWr g data s).cp = s.cp ∧ (verifyWr g data s).ang = s.ang ∧ (verifyWr g data s).pwr = s.pwr := by
  unfold verifyWr
  simp [apply_ite State.pending, apply_ite State.gen, apply_ite State.rot, apply_ite State.ext, apply_ite State.cyc, apply_ite State.cp, apply_ite State.ang, apply_ite State.pwr]

@[simp] theorem seqgCtrlWr_keep (g : Nat) (be : BitVec 4) (data : Word) (s : State) :
    (seqgCtrlWr g be data s).pending = s.pending ∧ (seqgCtrlWr g be data s).gen = s.gen ∧ (seqgCtrlWr g be data s).rot = s.rot ∧ (seqgCtrlWr g be data s).ext = s.ext ∧ (seqgCtrlWr g be data s).cyc = s.cyc ∧ (seqgCtrlWr g be data s).cp = s.cp ∧ (seqgCtrlWr g be data s).ang = s.ang ∧ (seqgCtrlWr g be data s).pwr = s.pwr := by
  unfold seqgCtrlWr
  simp [apply_ite State.pending, apply_ite State.gen, apply_ite State.rot, apply_ite State.ext, apply_ite State.cyc, apply_ite State.cp, apply_ite State.ang, apply_ite State.pwr]

/-! ## Machine/Sched.lean -/

@[simp] theorem State.ceOff_keep (s : State) (n : Nat) :
    (s.ceOff n).pending = s.pending ∧ (s.ceOff n).gen = s.gen ∧ (s.ceOff n).rot = s.rot ∧ (s.ceOff n).ext = s.ext ∧ (s.ceOff n).cyc = s.cyc ∧ (s.ceOff n).cp = s.cp ∧ (s.ceOff n).ang = s.ang ∧ (s.ceOff n).pwr = s.pwr := by
  unfold State.ceOff
  simp [apply_ite State.pending, apply_ite State.gen, apply_ite State.rot, apply_ite State.ext, apply_ite State.cyc, apply_ite State.cp, apply_ite State.ang, apply_ite State.pwr]

@[simp] theorem State.wakeLun_keep (s : State) (n l : Nat) (p : Park) (rdy : Bool) :
    (s.wakeLun n l p rdy).pending = s.pending ∧ (s.wakeLun n l p rdy).gen = s.gen ∧ (s.wakeLun n l p rdy).rot = s.rot ∧ (s.wakeLun n l p rdy).ext = s.ext ∧ (s.wakeLun n l p rdy).cyc = s.cyc ∧ (s.wakeLun n l p rdy).cp = s.cp ∧ (s.wakeLun n l p rdy).ang = s.ang ∧ (s.wakeLun n l p rdy).pwr = s.pwr := by
  unfold State.wakeLun
  simp

@[simp] theorem State.startHead_keep (s : State) (n : Nat) (d : Desc) :
    (s.startHead n d).pending = s.pending ∧ (s.startHead n d).gen = s.gen ∧ (s.startHead n d).rot = s.rot ∧ (s.startHead n d).ext = s.ext ∧ (s.startHead n d).cyc = s.cyc ∧ (s.startHead n d).cp = s.cp ∧ (s.startHead n d).ang = s.ang ∧ (s.startHead n d).pwr = s.pwr := by
  unfold State.startHead
  dsimp only
  (repeat' apply And.intro) <;> (repeat' split) <;> simp

/-! ## Machine/OpRows.lean -/

@[simp] theorem State.opRun_pending (s : State) (n op : Nat) (f : State → Desc → State) (h : ∀ (t : State) (d : Desc), (f t d).pending = t.pending) :
    (s.opRun n op f).pending = s.pending := by
  unfold State.opRun
  dsimp only
  (repeat' split) <;> simp [h]

@[simp] theorem State.opRun_gen (s : State) (n op : Nat) (f : State → Desc → State) (h : ∀ (t : State) (d : Desc), (f t d).gen = t.gen) :
    (s.opRun n op f).gen = s.gen := by
  unfold State.opRun
  dsimp only
  (repeat' split) <;> simp [h]

@[simp] theorem State.opRun_rot (s : State) (n op : Nat) (f : State → Desc → State) (h : ∀ (t : State) (d : Desc), (f t d).rot = t.rot) :
    (s.opRun n op f).rot = s.rot := by
  unfold State.opRun
  dsimp only
  (repeat' split) <;> simp [h]

@[simp] theorem State.opRun_ext (s : State) (n op : Nat) (f : State → Desc → State) (h : ∀ (t : State) (d : Desc), (f t d).ext = t.ext) :
    (s.opRun n op f).ext = s.ext := by
  unfold State.opRun
  dsimp only
  (repeat' split) <;> simp [h]

@[simp] theorem State.opRun_cyc (s : State) (n op : Nat) (f : State → Desc → State) (h : ∀ (t : State) (d : Desc), (f t d).cyc = t.cyc) :
    (s.opRun n op f).cyc = s.cyc := by
  unfold State.opRun
  dsimp only
  (repeat' split) <;> simp [h]

@[simp] theorem State.opRun_cp (s : State) (n op : Nat) (f : State → Desc → State) (h : ∀ (t : State) (d : Desc), (f t d).cp = t.cp) :
    (s.opRun n op f).cp = s.cp := by
  unfold State.opRun
  dsimp only
  (repeat' split) <;> simp [h]

@[simp] theorem State.opRun_ang (s : State) (n op : Nat) (f : State → Desc → State) (h : ∀ (t : State) (d : Desc), (f t d).ang = t.ang) :
    (s.opRun n op f).ang = s.ang := by
  unfold State.opRun
  dsimp only
  (repeat' split) <;> simp [h]

@[simp] theorem State.opRun_pwr (s : State) (n op : Nat) (f : State → Desc → State) (h : ∀ (t : State) (d : Desc), (f t d).pwr = t.pwr) :
    (s.opRun n op f).pwr = s.pwr := by
  unfold State.opRun
  dsimp only
  (repeat' split) <;> simp [h]

@[simp] theorem State.freeCont_keep (s : State) :
    (s.freeCont).2.pending = s.pending ∧ (s.freeCont).2.gen = s.gen ∧ (s.freeCont).2.rot = s.rot ∧ (s.freeCont).2.ext = s.ext ∧ (s.freeCont).2.cyc = s.cyc ∧ (s.freeCont).2.cp = s.cp ∧ (s.freeCont).2.ang = s.ang ∧ (s.freeCont).2.pwr = s.pwr := by
  unfold State.freeCont
  simp

@[simp] theorem State.parkFree_keep (s : State) (n : Nat) (d : Desc) (cls : Nat) :
    (s.parkFree n d cls).pending = s.pending ∧ (s.parkFree n d cls).gen = s.gen ∧ (s.parkFree n d cls).rot = s.rot ∧ (s.parkFree n d cls).ext = s.ext ∧ (s.parkFree n d cls).cyc = s.cyc ∧ (s.parkFree n d cls).cp = s.cp ∧ (s.parkFree n d cls).ang = s.ang ∧ (s.parkFree n d cls).pwr = s.pwr := by
  unfold State.parkFree
  simp

@[simp] theorem State.setM_keep (s : State) (n i v : Nat) :
    (s.setM n i v).pending = s.pending ∧ (s.setM n i v).gen = s.gen ∧ (s.setM n i v).rot = s.rot ∧ (s.setM n i v).ext = s.ext ∧ (s.setM n i v).cyc = s.cyc ∧ (s.setM n i v).cp = s.cp ∧ (s.setM n i v).ang = s.ang ∧ (s.setM n i v).pwr = s.pwr := by
  unfold State.setM
  simp

@[simp] theorem State.opRefuse_keep (s : State) (n : Nat) (d : Desc) (t cmd r : Nat) :
    (s.opRefuse n d t cmd r).pending = s.pending ∧ (s.opRefuse n d t cmd r).gen = s.gen ∧ (s.opRefuse n d t cmd r).rot = s.rot ∧ (s.opRefuse n d t cmd r).ext = s.ext ∧ (s.opRefuse n d t cmd r).cyc = s.cyc ∧ (s.opRefuse n d t cmd r).cp = s.cp ∧ (s.opRefuse n d t cmd r).ang = s.ang ∧ (s.opRefuse n d t cmd r).pwr = s.pwr := by
  unfold State.opRefuse
  simp

@[simp] theorem State.opDrv_pending (s : State) (n : Nat) (d : Desc) (ops : List BusOp) (k : State → State) (h : ∀ t : State, (k t).pending = t.pending) :
    (s.opDrv n d ops k).pending = s.pending := by
  unfold State.opDrv
  dsimp only
  (repeat' split) <;> simp [h]

@[simp] theorem State.opDrv_gen (s : State) (n : Nat) (d : Desc) (ops : List BusOp) (k : State → State) (h : ∀ t : State, (k t).gen = t.gen) :
    (s.opDrv n d ops k).gen = s.gen := by
  unfold State.opDrv
  dsimp only
  (repeat' split) <;> simp [h]

@[simp] theorem State.opDrv_rot (s : State) (n : Nat) (d : Desc) (ops : List BusOp) (k : State → State) (h : ∀ t : State, (k t).rot = t.rot) :
    (s.opDrv n d ops k).rot = s.rot := by
  unfold State.opDrv
  dsimp only
  (repeat' split) <;> simp [h]

@[simp] theorem State.opDrv_ext (s : State) (n : Nat) (d : Desc) (ops : List BusOp) (k : State → State) (h : ∀ t : State, (k t).ext = t.ext) :
    (s.opDrv n d ops k).ext = s.ext := by
  unfold State.opDrv
  dsimp only
  (repeat' split) <;> simp [h]

@[simp] theorem State.opDrv_cyc (s : State) (n : Nat) (d : Desc) (ops : List BusOp) (k : State → State) (h : ∀ t : State, (k t).cyc = t.cyc) :
    (s.opDrv n d ops k).cyc = s.cyc := by
  unfold State.opDrv
  dsimp only
  (repeat' split) <;> simp [h]

@[simp] theorem State.opDrv_cp (s : State) (n : Nat) (d : Desc) (ops : List BusOp) (k : State → State) (h : ∀ t : State, (k t).cp = t.cp) :
    (s.opDrv n d ops k).cp = s.cp := by
  unfold State.opDrv
  dsimp only
  (repeat' split) <;> simp [h]

@[simp] theorem State.opDrv_ang (s : State) (n : Nat) (d : Desc) (ops : List BusOp) (k : State → State) (h : ∀ t : State, (k t).ang = t.ang) :
    (s.opDrv n d ops k).ang = s.ang := by
  unfold State.opDrv
  dsimp only
  (repeat' split) <;> simp [h]

@[simp] theorem State.opDrv_pwr (s : State) (n : Nat) (d : Desc) (ops : List BusOp) (k : State → State) (h : ∀ t : State, (k t).pwr = t.pwr) :
    (s.opDrv n d ops k).pwr = s.pwr := by
  unfold State.opDrv
  dsimp only
  (repeat' split) <;> simp [h]

@[simp] theorem State.opSend_pending (s : State) (n : Nat) (d : Desc) (ops : List BusOp) (k : State → State) (h : ∀ t : State, (k t).pending = t.pending) :
    (s.opSend n d ops k).pending = s.pending := by
  simp [State.opSend, h]

@[simp] theorem State.opSend_gen (s : State) (n : Nat) (d : Desc) (ops : List BusOp) (k : State → State) (h : ∀ t : State, (k t).gen = t.gen) :
    (s.opSend n d ops k).gen = s.gen := by
  simp [State.opSend, h]

@[simp] theorem State.opSend_rot (s : State) (n : Nat) (d : Desc) (ops : List BusOp) (k : State → State) (h : ∀ t : State, (k t).rot = t.rot) :
    (s.opSend n d ops k).rot = s.rot := by
  simp [State.opSend, h]

@[simp] theorem State.opSend_ext (s : State) (n : Nat) (d : Desc) (ops : List BusOp) (k : State → State) (h : ∀ t : State, (k t).ext = t.ext) :
    (s.opSend n d ops k).ext = s.ext := by
  simp [State.opSend, h]

@[simp] theorem State.opSend_cyc (s : State) (n : Nat) (d : Desc) (ops : List BusOp) (k : State → State) (h : ∀ t : State, (k t).cyc = t.cyc) :
    (s.opSend n d ops k).cyc = s.cyc := by
  simp [State.opSend, h]

@[simp] theorem State.opSend_cp (s : State) (n : Nat) (d : Desc) (ops : List BusOp) (k : State → State) (h : ∀ t : State, (k t).cp = t.cp) :
    (s.opSend n d ops k).cp = s.cp := by
  simp [State.opSend, h]

@[simp] theorem State.opSend_ang (s : State) (n : Nat) (d : Desc) (ops : List BusOp) (k : State → State) (h : ∀ t : State, (k t).ang = t.ang) :
    (s.opSend n d ops k).ang = s.ang := by
  simp [State.opSend, h]

@[simp] theorem State.opSend_pwr (s : State) (n : Nat) (d : Desc) (ops : List BusOp) (k : State → State) (h : ∀ t : State, (k t).pwr = t.pwr) :
    (s.opSend n d ops k).pwr = s.pwr := by
  simp [State.opSend, h]

@[simp] theorem State.opRow_pending (s : State) (n : Nat) (d : Desc) (t cmd : Nat) (ops : List BusOp) (k : State → State) (h : ∀ t : State, (k t).pending = t.pending) :
    (s.opRow n d t cmd ops k).pending = s.pending := by
  unfold State.opRow
  dsimp only
  (repeat' split) <;> simp [h]

@[simp] theorem State.opRow_gen (s : State) (n : Nat) (d : Desc) (t cmd : Nat) (ops : List BusOp) (k : State → State) (h : ∀ t : State, (k t).gen = t.gen) :
    (s.opRow n d t cmd ops k).gen = s.gen := by
  unfold State.opRow
  dsimp only
  (repeat' split) <;> simp [h]

@[simp] theorem State.opRow_rot (s : State) (n : Nat) (d : Desc) (t cmd : Nat) (ops : List BusOp) (k : State → State) (h : ∀ t : State, (k t).rot = t.rot) :
    (s.opRow n d t cmd ops k).rot = s.rot := by
  unfold State.opRow
  dsimp only
  (repeat' split) <;> simp [h]

@[simp] theorem State.opRow_ext (s : State) (n : Nat) (d : Desc) (t cmd : Nat) (ops : List BusOp) (k : State → State) (h : ∀ t : State, (k t).ext = t.ext) :
    (s.opRow n d t cmd ops k).ext = s.ext := by
  unfold State.opRow
  dsimp only
  (repeat' split) <;> simp [h]

@[simp] theorem State.opRow_cyc (s : State) (n : Nat) (d : Desc) (t cmd : Nat) (ops : List BusOp) (k : State → State) (h : ∀ t : State, (k t).cyc = t.cyc) :
    (s.opRow n d t cmd ops k).cyc = s.cyc := by
  unfold State.opRow
  dsimp only
  (repeat' split) <;> simp [h]

@[simp] theorem State.opRow_cp (s : State) (n : Nat) (d : Desc) (t cmd : Nat) (ops : List BusOp) (k : State → State) (h : ∀ t : State, (k t).cp = t.cp) :
    (s.opRow n d t cmd ops k).cp = s.cp := by
  unfold State.opRow
  dsimp only
  (repeat' split) <;> simp [h]

@[simp] theorem State.opRow_ang (s : State) (n : Nat) (d : Desc) (t cmd : Nat) (ops : List BusOp) (k : State → State) (h : ∀ t : State, (k t).ang = t.ang) :
    (s.opRow n d t cmd ops k).ang = s.ang := by
  unfold State.opRow
  dsimp only
  (repeat' split) <;> simp [h]

@[simp] theorem State.opRow_pwr (s : State) (n : Nat) (d : Desc) (t cmd : Nat) (ops : List BusOp) (k : State → State) (h : ∀ t : State, (k t).pwr = t.pwr) :
    (s.opRow n d t cmd ops k).pwr = s.pwr := by
  unfold State.opRow
  dsimp only
  (repeat' split) <;> simp [h]

@[simp] theorem State.progOpen_pending (s : State) (n : Nat) (d : Desc) (p : Nat) (k : State → State) (h0 : ∀ t : State, (k t).pending = t.pending) :
    (s.progOpen n d p k).pending = s.pending := by
  simp [State.progOpen, h0]

@[simp] theorem State.progOpen_gen (s : State) (n : Nat) (d : Desc) (p : Nat) (k : State → State) (h0 : ∀ t : State, (k t).gen = t.gen) :
    (s.progOpen n d p k).gen = s.gen := by
  simp [State.progOpen, h0]

@[simp] theorem State.progOpen_rot (s : State) (n : Nat) (d : Desc) (p : Nat) (k : State → State) (h0 : ∀ t : State, (k t).rot = t.rot) :
    (s.progOpen n d p k).rot = s.rot := by
  simp [State.progOpen, h0]

@[simp] theorem State.progOpen_ext (s : State) (n : Nat) (d : Desc) (p : Nat) (k : State → State) (h0 : ∀ t : State, (k t).ext = t.ext) :
    (s.progOpen n d p k).ext = s.ext := by
  simp [State.progOpen, h0]

@[simp] theorem State.progOpen_cyc (s : State) (n : Nat) (d : Desc) (p : Nat) (k : State → State) (h0 : ∀ t : State, (k t).cyc = t.cyc) :
    (s.progOpen n d p k).cyc = s.cyc := by
  simp [State.progOpen, h0]

@[simp] theorem State.progOpen_cp (s : State) (n : Nat) (d : Desc) (p : Nat) (k : State → State) (h0 : ∀ t : State, (k t).cp = t.cp) :
    (s.progOpen n d p k).cp = s.cp := by
  simp [State.progOpen, h0]

@[simp] theorem State.progOpen_ang (s : State) (n : Nat) (d : Desc) (p : Nat) (k : State → State) (h0 : ∀ t : State, (k t).ang = t.ang) :
    (s.progOpen n d p k).ang = s.ang := by
  simp [State.progOpen, h0]

@[simp] theorem State.progOpen_pwr (s : State) (n : Nat) (d : Desc) (p : Nat) (k : State → State) (h0 : ∀ t : State, (k t).pwr = t.pwr) :
    (s.progOpen n d p k).pwr = s.pwr := by
  simp [State.progOpen, h0]

@[simp] theorem State.progConfirm_keep (s : State) (n : Nat) (d : Desc) (status : BitVec 8) :
    (s.progConfirm n d status).pending = s.pending ∧ (s.progConfirm n d status).gen = s.gen ∧ (s.progConfirm n d status).rot = s.rot ∧ (s.progConfirm n d status).ext = s.ext ∧ (s.progConfirm n d status).cyc = s.cyc ∧ (s.progConfirm n d status).cp = s.cp ∧ (s.progConfirm n d status).ang = s.ang ∧ (s.progConfirm n d status).pwr = s.pwr := by
  unfold State.progConfirm
  simp [apply_ite State.pending, apply_ite State.gen, apply_ite State.rot, apply_ite State.ext, apply_ite State.cyc, apply_ite State.cp, apply_ite State.ang, apply_ite State.pwr]

@[simp] theorem State.progPark_keep (s : State) (n : Nat) (d : Desc) :
    (s.progPark n d).pending = s.pending ∧ (s.progPark n d).gen = s.gen ∧ (s.progPark n d).rot = s.rot ∧ (s.progPark n d).ext = s.ext ∧ (s.progPark n d).cyc = s.cyc ∧ (s.progPark n d).cp = s.cp ∧ (s.progPark n d).ang = s.ang ∧ (s.progPark n d).pwr = s.pwr := by
  unfold State.progPark
  simp

@[simp] theorem State.erasePlanes_keep (n : Nat) (d : Desc) (t k : Nat) (s : State) :
    (State.erasePlanes n d t k s).pending = s.pending ∧ (State.erasePlanes n d t k s).gen = s.gen ∧ (State.erasePlanes n d t k s).rot = s.rot ∧ (State.erasePlanes n d t k s).ext = s.ext ∧ (State.erasePlanes n d t k s).cyc = s.cyc ∧ (State.erasePlanes n d t k s).cp = s.cp ∧ (State.erasePlanes n d t k s).ang = s.ang ∧ (State.erasePlanes n d t k s).pwr = s.pwr := by
  induction k generalizing s with
  | zero => simp [State.erasePlanes]
  | succ k ih =>
    unfold State.erasePlanes
    simp [ih]

@[simp] theorem State.eraseGo_keep (s : State) (n : Nat) (d : Desc) :
    (s.eraseGo n d).pending = s.pending ∧ (s.eraseGo n d).gen = s.gen ∧ (s.eraseGo n d).rot = s.rot ∧ (s.eraseGo n d).ext = s.ext ∧ (s.eraseGo n d).cyc = s.cyc ∧ (s.eraseGo n d).cp = s.cp ∧ (s.eraseGo n d).ang = s.ang ∧ (s.eraseGo n d).pwr = s.pwr := by
  unfold State.eraseGo
  simp [apply_ite State.pending, apply_ite State.gen, apply_ite State.rot, apply_ite State.ext, apply_ite State.cyc, apply_ite State.cp, apply_ite State.ang, apply_ite State.pwr]

@[simp] theorem State.eraseDone_keep (s : State) (n : Nat) (d : Desc) :
    (s.eraseDone n d).pending = s.pending ∧ (s.eraseDone n d).gen = s.gen ∧ (s.eraseDone n d).rot = s.rot ∧ (s.eraseDone n d).ext = s.ext ∧ (s.eraseDone n d).cyc = s.cyc ∧ (s.eraseDone n d).cp = s.cp ∧ (s.eraseDone n d).ang = s.ang ∧ (s.eraseDone n d).pwr = s.pwr := by
  unfold State.eraseDone
  simp [apply_ite State.pending, apply_ite State.gen, apply_ite State.rot, apply_ite State.ext, apply_ite State.cyc, apply_ite State.cp, apply_ite State.ang, apply_ite State.pwr]

@[simp] theorem State.refSend_pending (s : State) (n : Nat) (d : Desc) (o : List Int) (k : State → State) (h : ∀ t : State, (k t).pending = t.pending) :
    (s.refSend n d o k).pending = s.pending := by
  unfold State.refSend
  (repeat' split) <;> simp [h]

@[simp] theorem State.refSend_gen (s : State) (n : Nat) (d : Desc) (o : List Int) (k : State → State) (h : ∀ t : State, (k t).gen = t.gen) :
    (s.refSend n d o k).gen = s.gen := by
  unfold State.refSend
  (repeat' split) <;> simp [h]

@[simp] theorem State.refSend_rot (s : State) (n : Nat) (d : Desc) (o : List Int) (k : State → State) (h : ∀ t : State, (k t).rot = t.rot) :
    (s.refSend n d o k).rot = s.rot := by
  unfold State.refSend
  (repeat' split) <;> simp [h]

@[simp] theorem State.refSend_ext (s : State) (n : Nat) (d : Desc) (o : List Int) (k : State → State) (h : ∀ t : State, (k t).ext = t.ext) :
    (s.refSend n d o k).ext = s.ext := by
  unfold State.refSend
  (repeat' split) <;> simp [h]

@[simp] theorem State.refSend_cyc (s : State) (n : Nat) (d : Desc) (o : List Int) (k : State → State) (h : ∀ t : State, (k t).cyc = t.cyc) :
    (s.refSend n d o k).cyc = s.cyc := by
  unfold State.refSend
  (repeat' split) <;> simp [h]

@[simp] theorem State.refSend_cp (s : State) (n : Nat) (d : Desc) (o : List Int) (k : State → State) (h : ∀ t : State, (k t).cp = t.cp) :
    (s.refSend n d o k).cp = s.cp := by
  unfold State.refSend
  (repeat' split) <;> simp [h]

@[simp] theorem State.refSend_ang (s : State) (n : Nat) (d : Desc) (o : List Int) (k : State → State) (h : ∀ t : State, (k t).ang = t.ang) :
    (s.refSend n d o k).ang = s.ang := by
  unfold State.refSend
  (repeat' split) <;> simp [h]

@[simp] theorem State.refSend_pwr (s : State) (n : Nat) (d : Desc) (o : List Int) (k : State → State) (h : ∀ t : State, (k t).pwr = t.pwr) :
    (s.refSend n d o k).pwr = s.pwr := by
  unfold State.refSend
  (repeat' split) <;> simp [h]

@[simp] theorem State.readPlanes_pending (s : State) (n : Nat) (d : Desc) (t : Nat) (k : State → State) (l : List Nat) (h0 : ∀ t : State, (k t).pending = t.pending) :
    (State.readPlanes n d t k l s).pending = s.pending := by
  induction l generalizing s with
  | nil => simp [State.readPlanes, h0]
  | cons c l ih =>
    unfold State.readPlanes
    refine State.opSend_pending _ _ _ _ _ (fun t => State.opRow_pending _ _ _ _ _ _ _ (fun t => ?_)) |>.trans rfl
    dsimp only
    simp [ih]

@[simp] theorem State.readPlanes_gen (s : State) (n : Nat) (d : Desc) (t : Nat) (k : State → State) (l : List Nat) (h0 : ∀ t : State, (k t).gen = t.gen) :
    (State.readPlanes n d t k l s).gen = s.gen := by
  induction l generalizing s with
  | nil => simp [State.readPlanes, h0]
  | cons c l ih =>
    unfold State.readPlanes
    refine State.opSend_gen _ _ _ _ _ (fun t => State.opRow_gen _ _ _ _ _ _ _ (fun t => ?_)) |>.trans rfl
    dsimp only
    simp [ih]

@[simp] theorem State.readPlanes_rot (s : State) (n : Nat) (d : Desc) (t : Nat) (k : State → State) (l : List Nat) (h0 : ∀ t : State, (k t).rot = t.rot) :
    (State.readPlanes n d t k l s).rot = s.rot := by
  induction l generalizing s with
  | nil => simp [State.readPlanes, h0]
  | cons c l ih =>
    unfold State.readPlanes
    refine State.opSend_rot _ _ _ _ _ (fun t => State.opRow_rot _ _ _ _ _ _ _ (fun t => ?_)) |>.trans rfl
    dsimp only
    simp [ih]

@[simp] theorem State.readPlanes_ext (s : State) (n : Nat) (d : Desc) (t : Nat) (k : State → State) (l : List Nat) (h0 : ∀ t : State, (k t).ext = t.ext) :
    (State.readPlanes n d t k l s).ext = s.ext := by
  induction l generalizing s with
  | nil => simp [State.readPlanes, h0]
  | cons c l ih =>
    unfold State.readPlanes
    refine State.opSend_ext _ _ _ _ _ (fun t => State.opRow_ext _ _ _ _ _ _ _ (fun t => ?_)) |>.trans rfl
    dsimp only
    simp [ih]

@[simp] theorem State.readPlanes_cyc (s : State) (n : Nat) (d : Desc) (t : Nat) (k : State → State) (l : List Nat) (h0 : ∀ t : State, (k t).cyc = t.cyc) :
    (State.readPlanes n d t k l s).cyc = s.cyc := by
  induction l generalizing s with
  | nil => simp [State.readPlanes, h0]
  | cons c l ih =>
    unfold State.readPlanes
    refine State.opSend_cyc _ _ _ _ _ (fun t => State.opRow_cyc _ _ _ _ _ _ _ (fun t => ?_)) |>.trans rfl
    dsimp only
    simp [ih]

@[simp] theorem State.readPlanes_cp (s : State) (n : Nat) (d : Desc) (t : Nat) (k : State → State) (l : List Nat) (h0 : ∀ t : State, (k t).cp = t.cp) :
    (State.readPlanes n d t k l s).cp = s.cp := by
  induction l generalizing s with
  | nil => simp [State.readPlanes, h0]
  | cons c l ih =>
    unfold State.readPlanes
    refine State.opSend_cp _ _ _ _ _ (fun t => State.opRow_cp _ _ _ _ _ _ _ (fun t => ?_)) |>.trans rfl
    dsimp only
    simp [ih]

@[simp] theorem State.readPlanes_ang (s : State) (n : Nat) (d : Desc) (t : Nat) (k : State → State) (l : List Nat) (h0 : ∀ t : State, (k t).ang = t.ang) :
    (State.readPlanes n d t k l s).ang = s.ang := by
  induction l generalizing s with
  | nil => simp [State.readPlanes, h0]
  | cons c l ih =>
    unfold State.readPlanes
    refine State.opSend_ang _ _ _ _ _ (fun t => State.opRow_ang _ _ _ _ _ _ _ (fun t => ?_)) |>.trans rfl
    dsimp only
    simp [ih]

@[simp] theorem State.readPlanes_pwr (s : State) (n : Nat) (d : Desc) (t : Nat) (k : State → State) (l : List Nat) (h0 : ∀ t : State, (k t).pwr = t.pwr) :
    (State.readPlanes n d t k l s).pwr = s.pwr := by
  induction l generalizing s with
  | nil => simp [State.readPlanes, h0]
  | cons c l ih =>
    unfold State.readPlanes
    refine State.opSend_pwr _ _ _ _ _ (fun t => State.opRow_pwr _ _ _ _ _ _ _ (fun t => ?_)) |>.trans rfl
    dsimp only
    simp [ih]

@[simp] theorem State.readSend_keep (s : State) (n : Nat) (d : Desc) (t : Nat) (planes : List Nat) (i : Nat) :
    (s.readSend n d t planes i).pending = s.pending ∧ (s.readSend n d t planes i).gen = s.gen ∧ (s.readSend n d t planes i).rot = s.rot ∧ (s.readSend n d t planes i).ext = s.ext ∧ (s.readSend n d t planes i).cyc = s.cyc ∧ (s.readSend n d t planes i).cp = s.cp ∧ (s.readSend n d t planes i).ang = s.ang ∧ (s.readSend n d t planes i).pwr = s.pwr := by
  unfold State.readSend
  by_cases hr : s.rateHold n = true
  · simp [hr]
  rw [if_neg hr]
  refine ⟨State.refSend_pending _ _ _ _ _ (fun t => State.readPlanes_pending _ _ _ _ _ _ (fun t => ?_)), State.refSend_gen _ _ _ _ _ (fun t => State.readPlanes_gen _ _ _ _ _ _ (fun t => ?_)), State.refSend_rot _ _ _ _ _ (fun t => State.readPlanes_rot _ _ _ _ _ _ (fun t => ?_)), State.refSend_ext _ _ _ _ _ (fun t => State.readPlanes_ext _ _ _ _ _ _ (fun t => ?_)), State.refSend_cyc _ _ _ _ _ (fun t => State.readPlanes_cyc _ _ _ _ _ _ (fun t => ?_)), State.refSend_cp _ _ _ _ _ (fun t => State.readPlanes_cp _ _ _ _ _ _ (fun t => ?_)), State.refSend_ang _ _ _ _ _ (fun t => State.readPlanes_ang _ _ _ _ _ _ (fun t => ?_)), State.refSend_pwr _ _ _ _ _ (fun t => State.readPlanes_pwr _ _ _ _ _ _ (fun t => ?_))⟩ <;>
    (dsimp only; split <;> simp)

@[simp] theorem State.outCmd_pending (s : State) (n : Nat) (d : Desc) (t plane col len : Nat) (k : State → State) (h0 : ∀ t : State, (k t).pending = t.pending) :
    (s.outCmd n d t plane col len k).pending = s.pending := by
  simp [State.outCmd, h0]

@[simp] theorem State.outCmd_gen (s : State) (n : Nat) (d : Desc) (t plane col len : Nat) (k : State → State) (h0 : ∀ t : State, (k t).gen = t.gen) :
    (s.outCmd n d t plane col len k).gen = s.gen := by
  simp [State.outCmd, h0]

@[simp] theorem State.outCmd_rot (s : State) (n : Nat) (d : Desc) (t plane col len : Nat) (k : State → State) (h0 : ∀ t : State, (k t).rot = t.rot) :
    (s.outCmd n d t plane col len k).rot = s.rot := by
  simp [State.outCmd, h0]

@[simp] theorem State.outCmd_ext (s : State) (n : Nat) (d : Desc) (t plane col len : Nat) (k : State → State) (h0 : ∀ t : State, (k t).ext = t.ext) :
    (s.outCmd n d t plane col len k).ext = s.ext := by
  simp [State.outCmd, h0]

@[simp] theorem State.outCmd_cyc (s : State) (n : Nat) (d : Desc) (t plane col len : Nat) (k : State → State) (h0 : ∀ t : State, (k t).cyc = t.cyc) :
    (s.outCmd n d t plane col len k).cyc = s.cyc := by
  simp [State.outCmd, h0]

@[simp] theorem State.outCmd_cp (s : State) (n : Nat) (d : Desc) (t plane col len : Nat) (k : State → State) (h0 : ∀ t : State, (k t).cp = t.cp) :
    (s.outCmd n d t plane col len k).cp = s.cp := by
  simp [State.outCmd, h0]

@[simp] theorem State.outCmd_ang (s : State) (n : Nat) (d : Desc) (t plane col len : Nat) (k : State → State) (h0 : ∀ t : State, (k t).ang = t.ang) :
    (s.outCmd n d t plane col len k).ang = s.ang := by
  simp [State.outCmd, h0]

@[simp] theorem State.outCmd_pwr (s : State) (n : Nat) (d : Desc) (t plane col len : Nat) (k : State → State) (h0 : ∀ t : State, (k t).pwr = t.pwr) :
    (s.outCmd n d t plane col len k).pwr = s.pwr := by
  simp [State.outCmd, h0]

@[simp] theorem State.burstOut_pending (s : State) (n : Nat) (d : Desc) (t plane col len : Nat) (b : DieBurst) (bad good : State → State) (h0 : ∀ t : State, (bad t).pending = t.pending) (h1 : ∀ t : State, (good t).pending = t.pending) :
    (s.burstOut n d t plane col len b bad good).pending = s.pending := by
  unfold State.burstOut
  dsimp only
  simp [h0, h1, apply_ite]

@[simp] theorem State.burstOut_gen (s : State) (n : Nat) (d : Desc) (t plane col len : Nat) (b : DieBurst) (bad good : State → State) (h0 : ∀ t : State, (bad t).gen = t.gen) (h1 : ∀ t : State, (good t).gen = t.gen) :
    (s.burstOut n d t plane col len b bad good).gen = s.gen := by
  unfold State.burstOut
  dsimp only
  simp [h0, h1, apply_ite]

@[simp] theorem State.burstOut_rot (s : State) (n : Nat) (d : Desc) (t plane col len : Nat) (b : DieBurst) (bad good : State → State) (h0 : ∀ t : State, (bad t).rot = t.rot) (h1 : ∀ t : State, (good t).rot = t.rot) :
    (s.burstOut n d t plane col len b bad good).rot = s.rot := by
  unfold State.burstOut
  dsimp only
  simp [h0, h1, apply_ite]

@[simp] theorem State.burstOut_ext (s : State) (n : Nat) (d : Desc) (t plane col len : Nat) (b : DieBurst) (bad good : State → State) (h0 : ∀ t : State, (bad t).ext = t.ext) (h1 : ∀ t : State, (good t).ext = t.ext) :
    (s.burstOut n d t plane col len b bad good).ext = s.ext := by
  unfold State.burstOut
  dsimp only
  simp [h0, h1, apply_ite]

@[simp] theorem State.burstOut_cyc (s : State) (n : Nat) (d : Desc) (t plane col len : Nat) (b : DieBurst) (bad good : State → State) (h0 : ∀ t : State, (bad t).cyc = t.cyc) (h1 : ∀ t : State, (good t).cyc = t.cyc) :
    (s.burstOut n d t plane col len b bad good).cyc = s.cyc := by
  unfold State.burstOut
  dsimp only
  simp [h0, h1, apply_ite]

@[simp] theorem State.burstOut_cp (s : State) (n : Nat) (d : Desc) (t plane col len : Nat) (b : DieBurst) (bad good : State → State) (h0 : ∀ t : State, (bad t).cp = t.cp) (h1 : ∀ t : State, (good t).cp = t.cp) :
    (s.burstOut n d t plane col len b bad good).cp = s.cp := by
  unfold State.burstOut
  dsimp only
  simp [h0, h1, apply_ite]

@[simp] theorem State.burstOut_ang (s : State) (n : Nat) (d : Desc) (t plane col len : Nat) (b : DieBurst) (bad good : State → State) (h0 : ∀ t : State, (bad t).ang = t.ang) (h1 : ∀ t : State, (good t).ang = t.ang) :
    (s.burstOut n d t plane col len b bad good).ang = s.ang := by
  unfold State.burstOut
  dsimp only
  simp [h0, h1, apply_ite]

@[simp] theorem State.burstOut_pwr (s : State) (n : Nat) (d : Desc) (t plane col len : Nat) (b : DieBurst) (bad good : State → State) (h0 : ∀ t : State, (bad t).pwr = t.pwr) (h1 : ∀ t : State, (good t).pwr = t.pwr) :
    (s.burstOut n d t plane col len b bad good).pwr = s.pwr := by
  unfold State.burstOut
  dsimp only
  simp [h0, h1, apply_ite]

@[simp] theorem State.phyErr_keep (n : Nat) (d : Desc) (s : State) :
    (State.phyErr n d s).pending = s.pending ∧ (State.phyErr n d s).gen = s.gen ∧ (State.phyErr n d s).rot = s.rot ∧ (State.phyErr n d s).ext = s.ext ∧ (State.phyErr n d s).cyc = s.cyc ∧ (State.phyErr n d s).cp = s.cp ∧ (State.phyErr n d s).ang = s.ang ∧ (State.phyErr n d s).pwr = s.pwr := by
  unfold State.phyErr
  simp

@[simp] theorem State.readOut_pending (s : State) (n : Nat) (d : Desc) (t : Nat) (bad k : State → State) (l : List Chunk) (bs : List DieBurst) (h0 : ∀ t : State, (bad t).pending = t.pending) (h1 : ∀ t : State, (k t).pending = t.pending) :
    (State.readOut n d t bad k l bs s).pending = s.pending := by
  induction l generalizing s bs with
  | nil => simp [State.readOut, h1]
  | cons c l ih =>
    obtain ⟨o, w, p, q⟩ := c
    simp [State.readOut, h0, ih, apply_ite State.pending]

@[simp] theorem State.readOut_gen (s : State) (n : Nat) (d : Desc) (t : Nat) (bad k : State → State) (l : List Chunk) (bs : List DieBurst) (h0 : ∀ t : State, (bad t).gen = t.gen) (h1 : ∀ t : State, (k t).gen = t.gen) :
    (State.readOut n d t bad k l bs s).gen = s.gen := by
  induction l generalizing s bs with
  | nil => simp [State.readOut, h1]
  | cons c l ih =>
    obtain ⟨o, w, p, q⟩ := c
    simp [State.readOut, h0, ih, apply_ite State.gen]

@[simp] theorem State.readOut_rot (s : State) (n : Nat) (d : Desc) (t : Nat) (bad k : State → State) (l : List Chunk) (bs : List DieBurst) (h0 : ∀ t : State, (bad t).rot = t.rot) (h1 : ∀ t : State, (k t).rot = t.rot) :
    (State.readOut n d t bad k l bs s).rot = s.rot := by
  induction l generalizing s bs with
  | nil => simp [State.readOut, h1]
  | cons c l ih =>
    obtain ⟨o, w, p, q⟩ := c
    simp [State.readOut, h0, ih, apply_ite State.rot]

@[simp] theorem State.readOut_ext (s : State) (n : Nat) (d : Desc) (t : Nat) (bad k : State → State) (l : List Chunk) (bs : List DieBurst) (h0 : ∀ t : State, (bad t).ext = t.ext) (h1 : ∀ t : State, (k t).ext = t.ext) :
    (State.readOut n d t bad k l bs s).ext = s.ext := by
  induction l generalizing s bs with
  | nil => simp [State.readOut, h1]
  | cons c l ih =>
    obtain ⟨o, w, p, q⟩ := c
    simp [State.readOut, h0, ih, apply_ite State.ext]

@[simp] theorem State.readOut_cyc (s : State) (n : Nat) (d : Desc) (t : Nat) (bad k : State → State) (l : List Chunk) (bs : List DieBurst) (h0 : ∀ t : State, (bad t).cyc = t.cyc) (h1 : ∀ t : State, (k t).cyc = t.cyc) :
    (State.readOut n d t bad k l bs s).cyc = s.cyc := by
  induction l generalizing s bs with
  | nil => simp [State.readOut, h1]
  | cons c l ih =>
    obtain ⟨o, w, p, q⟩ := c
    simp [State.readOut, h0, ih, apply_ite State.cyc]

@[simp] theorem State.readOut_cp (s : State) (n : Nat) (d : Desc) (t : Nat) (bad k : State → State) (l : List Chunk) (bs : List DieBurst) (h0 : ∀ t : State, (bad t).cp = t.cp) (h1 : ∀ t : State, (k t).cp = t.cp) :
    (State.readOut n d t bad k l bs s).cp = s.cp := by
  induction l generalizing s bs with
  | nil => simp [State.readOut, h1]
  | cons c l ih =>
    obtain ⟨o, w, p, q⟩ := c
    simp [State.readOut, h0, ih, apply_ite State.cp]

@[simp] theorem State.readOut_ang (s : State) (n : Nat) (d : Desc) (t : Nat) (bad k : State → State) (l : List Chunk) (bs : List DieBurst) (h0 : ∀ t : State, (bad t).ang = t.ang) (h1 : ∀ t : State, (k t).ang = t.ang) :
    (State.readOut n d t bad k l bs s).ang = s.ang := by
  induction l generalizing s bs with
  | nil => simp [State.readOut, h1]
  | cons c l ih =>
    obtain ⟨o, w, p, q⟩ := c
    simp [State.readOut, h0, ih, apply_ite State.ang]

@[simp] theorem State.readOut_pwr (s : State) (n : Nat) (d : Desc) (t : Nat) (bad k : State → State) (l : List Chunk) (bs : List DieBurst) (h0 : ∀ t : State, (bad t).pwr = t.pwr) (h1 : ∀ t : State, (k t).pwr = t.pwr) :
    (State.readOut n d t bad k l bs s).pwr = s.pwr := by
  induction l generalizing s bs with
  | nil => simp [State.readOut, h1]
  | cons c l ih =>
    obtain ⟨o, w, p, q⟩ := c
    simp [State.readOut, h0, ih, apply_ite State.pwr]

@[simp] theorem State.decRead_keep (s : State) (n : Nat) (d : Desc) (data : List DieBurst) :
    (s.decRead n d data).pending = s.pending ∧ (s.decRead n d data).gen = s.gen ∧ (s.decRead n d data).rot = s.rot ∧ (s.decRead n d data).ext = s.ext ∧ (s.decRead n d data).cyc = s.cyc ∧ (s.decRead n d data).cp = s.cp ∧ (s.decRead n d data).ang = s.ang ∧ (s.decRead n d data).pwr = s.pwr := by
  have h (k : Nat) (c : Prop) [Decidable c] (t : State) : (if c then ((t.setM n 0 (k + 1)).setM n 3 0).readSend n d d.taddr d.planes (k + 1)
      else t.opFinish n d 0 0 0 0).pending = t.pending ∧ (if c then ((t.setM n 0 (k + 1)).setM n 3 0).readSend n d d.taddr d.planes (k + 1)
      else t.opFinish n d 0 0 0 0).gen = t.gen ∧ (if c then ((t.setM n 0 (k + 1)).setM n 3 0).readSend n d d.taddr d.planes (k + 1)
      else t.opFinish n d 0 0 0 0).rot = t.rot ∧ (if c then ((t.setM n 0 (k + 1)).setM n 3 0).readSend n d d.taddr d.planes (k + 1)
      else t.opFinish n d 0 0 0 0).ext = t.ext ∧ (if c then ((t.setM n 0 (k + 1)).setM n 3 0).readSend n d d.taddr d.planes (k + 1)
      else t.opFinish n d 0 0 0 0).cyc = t.cyc ∧ (if c then ((t.setM n 0 (k + 1)).setM n 3 0).readSend n d d.taddr d.planes (k + 1)
      else t.opFinish n d 0 0 0 0).cp = t.cp ∧ (if c then ((t.setM n 0 (k + 1)).setM n 3 0).readSend n d d.taddr d.planes (k + 1)
      else t.opFinish n d 0 0 0 0).ang = t.ang ∧ (if c then ((t.setM n 0 (k + 1)).setM n 3 0).readSend n d d.taddr d.planes (k + 1)
      else t.opFinish n d 0 0 0 0).pwr = t.pwr := by
    split <;> simp
  unfold State.decRead
  dsimp only
  by_cases h1 : s.getM n 3 = 0
  · simp only [if_pos h1, State.readSend_keep, and_self]
  rw [if_neg h1]
  by_cases h2 : (!s.readReady n d) = true
  · simp only [if_pos h2, and_self]
  rw [if_neg h2]
  refine ⟨State.opSend_pending _ _ _ _ _ (fun t => State.readOut_pending _ _ _ _ _ _ _ _ (fun t => ?_) (fun t => ?_)), State.opSend_gen _ _ _ _ _ (fun t => State.readOut_gen _ _ _ _ _ _ _ _ (fun t => ?_) (fun t => ?_)), State.opSend_rot _ _ _ _ _ (fun t => State.readOut_rot _ _ _ _ _ _ _ _ (fun t => ?_) (fun t => ?_)), State.opSend_ext _ _ _ _ _ (fun t => State.readOut_ext _ _ _ _ _ _ _ _ (fun t => ?_) (fun t => ?_)), State.opSend_cyc _ _ _ _ _ (fun t => State.readOut_cyc _ _ _ _ _ _ _ _ (fun t => ?_) (fun t => ?_)), State.opSend_cp _ _ _ _ _ (fun t => State.readOut_cp _ _ _ _ _ _ _ _ (fun t => ?_) (fun t => ?_)), State.opSend_ang _ _ _ _ _ (fun t => State.readOut_ang _ _ _ _ _ _ _ _ (fun t => ?_) (fun t => ?_)), State.opSend_pwr _ _ _ _ _ (fun t => State.readOut_pwr _ _ _ _ _ _ _ _ (fun t => ?_) (fun t => ?_))⟩ <;>
      first | exact (by simp [State.phyErr]) | simp only [h]

@[simp] theorem bbMarkWr_keep (n : Nat) (data : Word) (s : State) :
    (bbMarkWr n data s).pending = s.pending ∧ (bbMarkWr n data s).gen = s.gen ∧ (bbMarkWr n data s).rot = s.rot ∧ (bbMarkWr n data s).ext = s.ext ∧ (bbMarkWr n data s).cyc = s.cyc ∧ (bbMarkWr n data s).cp = s.cp ∧ (bbMarkWr n data s).ang = s.ang ∧ (bbMarkWr n data s).pwr = s.pwr := by
  unfold bbMarkWr
  simp [apply_ite State.pending, apply_ite State.gen, apply_ite State.rot, apply_ite State.ext, apply_ite State.cyc, apply_ite State.cp, apply_ite State.ang, apply_ite State.pwr]

@[simp] theorem chCtrlWr_keep (n : Nat) (be : BitVec 4) (data : Word) (s : State) :
    (chCtrlWr n be data s).pending = s.pending ∧ (chCtrlWr n be data s).gen = s.gen ∧ (chCtrlWr n be data s).rot = s.rot ∧ (chCtrlWr n be data s).ext = s.ext ∧ (chCtrlWr n be data s).cyc = s.cyc ∧ (chCtrlWr n be data s).cp = s.cp ∧ (chCtrlWr n be data s).ang = s.ang ∧ (chCtrlWr n be data s).pwr = s.pwr := by
  unfold chCtrlWr
  simp

end Sys2Proof.Machine
end

