-- ==== Sys2Proof/Laws/KeepUnits.lean ====
section
/-!
SUPPORT. What each operation leaves unchanged, of the fields that few commands change (see KeepBase): data-path units, the rotor drive and the angle unit.
-/

namespace Sys2Proof.Machine

/-! ## Machine/Pool.lean -/

@[simp] theorem State.jobsCheck_keep (s : State) (e : Nat) :
    (s.jobsCheck e).pending = s.pending ∧ (s.jobsCheck e).gen = s.gen ∧ (s.jobsCheck e).rot = s.rot ∧ (s.jobsCheck e).ext = s.ext ∧ (s.jobsCheck e).cyc = s.cyc ∧ (s.jobsCheck e).cp = s.cp ∧ (s.jobsCheck e).ang = s.ang ∧ (s.jobsCheck e).pwr = s.pwr := by
  unfold State.jobsCheck
  dsimp only
  (repeat' apply And.intro) <;> (repeat' split) <;> simp

@[simp] theorem State.decMap_keep (s : State) (f : DecS → DecS) :
    (s.decMap f).pending = s.pending ∧ (s.decMap f).gen = s.gen ∧ (s.decMap f).rot = s.rot ∧ (s.decMap f).ext = s.ext ∧ (s.decMap f).cyc = s.cyc ∧ (s.decMap f).cp = s.cp ∧ (s.decMap f).ang = s.ang ∧ (s.decMap f).pwr = s.pwr := by
  unfold State.decMap
  simp

@[simp] theorem State.pushJob_keep (s : State) (j : Job) :
    (s.pushJob j).pending = s.pending ∧ (s.pushJob j).gen = s.gen ∧ (s.pushJob j).rot = s.rot ∧ (s.pushJob j).ext = s.ext ∧ (s.pushJob j).cyc = s.cyc ∧ (s.pushJob j).cp = s.cp ∧ (s.pushJob j).ang = s.ang ∧ (s.pushJob j).pwr = s.pwr := by
  unfold State.pushJob
  simp

@[simp] theorem State.shadowCount_keep (s : State) (j : Job) (x : DecOut) :
    (s.shadowCount j x).pending = s.pending ∧ (s.shadowCount j x).gen = s.gen ∧ (s.shadowCount j x).rot = s.rot ∧ (s.shadowCount j x).ext = s.ext ∧ (s.shadowCount j x).cyc = s.cyc ∧ (s.shadowCount j x).cp = s.cp ∧ (s.shadowCount j x).ang = s.ang ∧ (s.shadowCount j x).pwr = s.pwr := by
  unfold State.shadowCount
  (repeat' split) <;> simp

/-! ## Machine/Lace.lean -/

@[simp] theorem profWr_keep (p k : Nat) (be : BitVec 4) (data : Word) (s : State) :
    (profWr p k be data s).pending = s.pending ∧ (profWr p k be data s).gen = s.gen ∧ (profWr p k be data s).rot = s.rot ∧ (profWr p k be data s).ext = s.ext ∧ (profWr p k be data s).cyc = s.cyc ∧ (profWr p k be data s).cp = s.cp ∧ (profWr p k be data s).ang = s.ang ∧ (profWr p k be data s).pwr = s.pwr := by
  unfold profWr
  simp [apply_ite State.pending, apply_ite State.gen, apply_ite State.rot, apply_ite State.ext, apply_ite State.cyc, apply_ite State.cp, apply_ite State.ang, apply_ite State.pwr]

@[simp] theorem laceCloseWr_keep (data : Word) (s : State) :
    (laceCloseWr data s).pending = s.pending ∧ (laceCloseWr data s).gen = s.gen ∧ (laceCloseWr data s).rot = s.rot ∧ (laceCloseWr data s).ext = s.ext ∧ (laceCloseWr data s).cyc = s.cyc ∧ (laceCloseWr data s).cp = s.cp ∧ (laceCloseWr data s).ang = s.ang ∧ (laceCloseWr data s).pwr = s.pwr := by
  unfold laceCloseWr
  simp [apply_ite State.pending, apply_ite State.gen, apply_ite State.rot, apply_ite State.ext, apply_ite State.cyc, apply_ite State.cp, apply_ite State.ang, apply_ite State.pwr]

@[simp] theorem State.cancelNext_keep (s : State) :
    (s.cancelNext).pending = s.pending ∧ (s.cancelNext).gen = s.gen ∧ (s.cancelNext).rot = s.rot ∧ (s.cancelNext).ext = s.ext ∧ (s.cancelNext).cyc = s.cyc ∧ (s.cancelNext).cp = s.cp ∧ (s.cancelNext).ang = s.ang ∧ (s.cancelNext).pwr = s.pwr := by
  unfold State.cancelNext
  dsimp only
  (repeat' apply And.intro) <;> (repeat' split) <;> simp

@[simp] theorem State.cancelAll_keep (s : State) :
    (s.cancelAll).pending = s.pending ∧ (s.cancelAll).gen = s.gen ∧ (s.cancelAll).rot = s.rot ∧ (s.cancelAll).ext = s.ext ∧ (s.cancelAll).cyc = s.cyc ∧ (s.cancelAll).cp = s.cp ∧ (s.cancelAll).ang = s.ang ∧ (s.cancelAll).pwr = s.pwr := by
  unfold State.cancelAll
  simp

@[simp] theorem State.boundIssue_keep (s : State) (n p : Nat) :
    (s.boundIssue n p).pending = s.pending ∧ (s.boundIssue n p).gen = s.gen ∧ (s.boundIssue n p).rot = s.rot ∧ (s.boundIssue n p).ext = s.ext ∧ (s.boundIssue n p).cyc = s.cyc ∧ (s.boundIssue n p).cp = s.cp ∧ (s.boundIssue n p).ang = s.ang ∧ (s.boundIssue n p).pwr = s.pwr := by
  unfold State.boundIssue
  split
  · simp
  · split
    · rename_i a t e
      simp [State.boundSlot_keep _ _ _ _ _ e]
    · simp

/-! ## Machine/Recover.lean -/

@[simp] theorem State.probeSync_keep (s : State) (ns : List Nat) :
    (s.probeSync ns).pending = s.pending ∧ (s.probeSync ns).gen = s.gen ∧ (s.probeSync ns).rot = s.rot ∧ (s.probeSync ns).ext = s.ext ∧ (s.probeSync ns).cyc = s.cyc ∧ (s.probeSync ns).cp = s.cp ∧ (s.probeSync ns).ang = s.ang ∧ (s.probeSync ns).pwr = s.pwr := by
  unfold State.probeSync
  simp

@[simp] theorem State.probeTick_keep (s : State) :
    (s.probeTick).pending = s.pending ∧ (s.probeTick).gen = s.gen ∧ (s.probeTick).rot = s.rot ∧ (s.probeTick).ext = s.ext ∧ (s.probeTick).cyc = s.cyc ∧ (s.probeTick).cp = s.cp ∧ (s.probeTick).ang = s.ang ∧ (s.probeTick).pwr = s.pwr := by
  unfold State.probeTick
  simp [apply_ite State.pending, apply_ite State.gen, apply_ite State.rot, apply_ite State.ext, apply_ite State.cyc, apply_ite State.cp, apply_ite State.ang, apply_ite State.pwr]

@[simp] theorem State.reqMap_keep (s : State) (id : Nat) (f : RReq → RReq) :
    (s.reqMap id f).pending = s.pending ∧ (s.reqMap id f).gen = s.gen ∧ (s.reqMap id f).rot = s.rot ∧ (s.reqMap id f).ext = s.ext ∧ (s.reqMap id f).cyc = s.cyc ∧ (s.reqMap id f).cp = s.cp ∧ (s.reqMap id f).ang = s.ang ∧ (s.reqMap id f).pwr = s.pwr := by
  unfold State.reqMap
  simp

@[simp] theorem State.deepJobs_keep (s : State) (q : RReq) (g : LGroup) (e : Nat) :
    (s.deepJobs q g e).pending = s.pending ∧ (s.deepJobs q g e).gen = s.gen ∧ (s.deepJobs q g e).rot = s.rot ∧ (s.deepJobs q g e).ext = s.ext ∧ (s.deepJobs q g e).cyc = s.cyc ∧ (s.deepJobs q g e).cp = s.cp ∧ (s.deepJobs q g e).ang = s.ang ∧ (s.deepJobs q g e).pwr = s.pwr := by
  unfold State.deepJobs
  simp

@[simp] theorem State.ladderOut_keep (s : State) (q : RReq) (g : LGroup) :
    (s.ladderOut q g).pending = s.pending ∧ (s.ladderOut q g).gen = s.gen ∧ (s.ladderOut q g).rot = s.rot ∧ (s.ladderOut q g).ext = s.ext ∧ (s.ladderOut q g).cyc = s.cyc ∧ (s.ladderOut q g).cp = s.cp ∧ (s.ladderOut q g).ang = s.ang ∧ (s.ladderOut q g).pwr = s.pwr := by
  unfold State.ladderOut
  (repeat' split) <;> simp

@[simp] theorem State.recAsk_keep (s : State) (id num : Nat) :
    (s.recAsk id num).pending = s.pending ∧ (s.recAsk id num).gen = s.gen ∧ (s.recAsk id num).rot = s.rot ∧ (s.recAsk id num).ext = s.ext ∧ (s.recAsk id num).cyc = s.cyc ∧ (s.recAsk id num).cp = s.cp ∧ (s.recAsk id num).ang = s.ang ∧ (s.recAsk id num).pwr = s.pwr := by
  unfold State.recAsk
  simp [apply_ite State.pending, apply_ite State.gen, apply_ite State.rot, apply_ite State.ext, apply_ite State.cyc, apply_ite State.cp, apply_ite State.ang, apply_ite State.pwr]

@[simp] theorem State.recGot_keep (s : State) (id num : Nat) (r : MpRead) :
    (s.recGot id num r).pending = s.pending ∧ (s.recGot id num r).gen = s.gen ∧ (s.recGot id num r).rot = s.rot ∧ (s.recGot id num r).ext = s.ext ∧ (s.recGot id num r).cyc = s.cyc ∧ (s.recGot id num r).cp = s.cp ∧ (s.recGot id num r).ang = s.ang ∧ (s.recGot id num r).pwr = s.pwr := by
  unfold State.recGot
  (repeat' split) <;> simp

@[simp] theorem State.reconStart_keep (s : State) (q : RReq) (num : Nat) (bs : List Byte) (slot : Option Nat) :
    (s.reconStart q num bs slot).pending = s.pending ∧ (s.reconStart q num bs slot).gen = s.gen ∧ (s.reconStart q num bs slot).rot = s.rot ∧ (s.reconStart q num bs slot).ext = s.ext ∧ (s.reconStart q num bs slot).cyc = s.cyc ∧ (s.reconStart q num bs slot).cp = s.cp ∧ (s.reconStart q num bs slot).ang = s.ang ∧ (s.reconStart q num bs slot).pwr = s.pwr := by
  unfold State.reconStart
  (repeat' split) <;> simp [apply_ite State.pending, apply_ite State.gen, apply_ite State.rot, apply_ite State.ext, apply_ite State.cyc, apply_ite State.cp, apply_ite State.ang, apply_ite State.pwr]

@[simp] theorem State.reconReply_keep (s : State) (m num : Nat) (x : Option ReconS) :
    (s.reconReply m num x).pending = s.pending ∧ (s.reconReply m num x).gen = s.gen ∧ (s.reconReply m num x).rot = s.rot ∧ (s.reconReply m num x).ext = s.ext ∧ (s.reconReply m num x).cyc = s.cyc ∧ (s.reconReply m num x).cp = s.cp ∧ (s.reconReply m num x).ang = s.ang ∧ (s.reconReply m num x).pwr = s.pwr := by
  unfold State.reconReply
  (repeat' split) <;> simp

@[simp] theorem State.remoteEnd_keep (s : State) (q : RReq) (m : Nat) (x : Option ReconS) :
    (s.remoteEnd q m x).pending = s.pending ∧ (s.remoteEnd q m x).gen = s.gen ∧ (s.remoteEnd q m x).rot = s.rot ∧ (s.remoteEnd q m x).ext = s.ext ∧ (s.remoteEnd q m x).cyc = s.cyc ∧ (s.remoteEnd q m x).cp = s.cp ∧ (s.remoteEnd q m x).ang = s.ang ∧ (s.remoteEnd q m x).pwr = s.pwr := by
  unfold State.remoteEnd
  simp

@[simp] theorem State.foldPart_keep (s : State) (x : ReconS) (j e : Nat) (p : Nat × Nat × Nat) :
    (s.foldPart x j e p).pending = s.pending ∧ (s.foldPart x j e p).gen = s.gen ∧ (s.foldPart x j e p).rot = s.rot ∧ (s.foldPart x j e p).ext = s.ext ∧ (s.foldPart x j e p).cyc = s.cyc ∧ (s.foldPart x j e p).cp = s.cp ∧ (s.foldPart x j e p).ang = s.ang ∧ (s.foldPart x j e p).pwr = s.pwr := by
  unfold State.foldPart
  simp [apply_ite State.pending, apply_ite State.gen, apply_ite State.rot, apply_ite State.ext, apply_ite State.cyc, apply_ite State.cp, apply_ite State.ang, apply_ite State.pwr]

@[simp] theorem State.foldSlot_keep (s : State) (x : ReconS) (j e : Nat) :
    (s.foldSlot x j e).pending = s.pending ∧ (s.foldSlot x j e).gen = s.gen ∧ (s.foldSlot x j e).rot = s.rot ∧ (s.foldSlot x j e).ext = s.ext ∧ (s.foldSlot x j e).cyc = s.cyc ∧ (s.foldSlot x j e).cp = s.cp ∧ (s.foldSlot x j e).ang = s.ang ∧ (s.foldSlot x j e).pwr = s.pwr := by
  unfold State.foldSlot
  simp

@[simp] theorem State.rebuildCw_keep (s : State) (q : RReq) (x : ReconS) (ks lost : List Nat) (c : Nat) :
    (s.rebuildCw q x ks lost c).pending = s.pending ∧ (s.rebuildCw q x ks lost c).gen = s.gen ∧ (s.rebuildCw q x ks lost c).rot = s.rot ∧ (s.rebuildCw q x ks lost c).ext = s.ext ∧ (s.rebuildCw q x ks lost c).cyc = s.cyc ∧ (s.rebuildCw q x ks lost c).cp = s.cp ∧ (s.rebuildCw q x ks lost c).ang = s.ang ∧ (s.rebuildCw q x ks lost c).pwr = s.pwr := by
  unfold State.rebuildCw
  simp [apply_ite State.pending, apply_ite State.gen, apply_ite State.rot, apply_ite State.ext, apply_ite State.cyc, apply_ite State.cp, apply_ite State.ang, apply_ite State.pwr]

@[simp] theorem State.rebuildCrc_keep (s : State) (e : Nat) :
    (s.rebuildCrc e).pending = s.pending ∧ (s.rebuildCrc e).gen = s.gen ∧ (s.rebuildCrc e).rot = s.rot ∧ (s.rebuildCrc e).ext = s.ext ∧ (s.rebuildCrc e).cyc = s.cyc ∧ (s.rebuildCrc e).cp = s.cp ∧ (s.rebuildCrc e).ang = s.ang ∧ (s.rebuildCrc e).pwr = s.pwr := by
  unfold State.rebuildCrc
  simp

@[simp] theorem State.peerEnd_keep (s : State) (id m : Nat) (lost : List Nat) :
    (s.peerEnd id m lost).pending = s.pending ∧ (s.peerEnd id m lost).gen = s.gen ∧ (s.peerEnd id m lost).rot = s.rot ∧ (s.peerEnd id m lost).ext = s.ext ∧ (s.peerEnd id m lost).cyc = s.cyc ∧ (s.peerEnd id m lost).cp = s.cp ∧ (s.peerEnd id m lost).ang = s.ang ∧ (s.peerEnd id m lost).pwr = s.pwr := by
  unfold State.peerEnd
  simp

/-! ## Machine/Almanac.lean -/

@[simp] theorem State.almSeen_keep (s : State) :
    (s.almSeen).pending = s.pending ∧ (s.almSeen).gen = s.gen ∧ (s.almSeen).rot = s.rot ∧ (s.almSeen).ext = s.ext ∧ (s.almSeen).cyc = s.cyc ∧ (s.almSeen).cp = s.cp ∧ (s.almSeen).ang = s.ang ∧ (s.almSeen).pwr = s.pwr := by
  unfold State.almSeen
  simp

@[simp] theorem State.almPageSet_keep (s : State) (b : Bool) (p : Nat) :
    (s.almPageSet b p).pending = s.pending ∧ (s.almPageSet b p).gen = s.gen ∧ (s.almPageSet b p).rot = s.rot ∧ (s.almPageSet b p).ext = s.ext ∧ (s.almPageSet b p).cyc = s.cyc ∧ (s.almPageSet b p).cp = s.cp ∧ (s.almPageSet b p).ang = s.ang ∧ (s.almPageSet b p).pwr = s.pwr := by
  unfold State.almPageSet
  simp

@[simp] theorem State.almEnd_keep (s : State) (r : Nat) :
    (s.almEnd r).pending = s.pending ∧ (s.almEnd r).gen = s.gen ∧ (s.almEnd r).rot = s.rot ∧ (s.almEnd r).ext = s.ext ∧ (s.almEnd r).cyc = s.cyc ∧ (s.almEnd r).cp = s.cp ∧ (s.almEnd r).ang = s.ang ∧ (s.almEnd r).pwr = s.pwr := by
  unfold State.almEnd
  simp

@[simp] theorem State.saveMap_keep (s : State) (f : SaveS → SaveS) :
    (s.saveMap f).pending = s.pending ∧ (s.saveMap f).gen = s.gen ∧ (s.saveMap f).rot = s.rot ∧ (s.saveMap f).ext = s.ext ∧ (s.saveMap f).cyc = s.cyc ∧ (s.saveMap f).cp = s.cp ∧ (s.saveMap f).ang = s.ang ∧ (s.saveMap f).pwr = s.pwr := by
  unfold State.saveMap
  simp

@[simp] theorem State.saveOn_keep (s : State) (n : Nat) :
    (s.saveOn n).pending = s.pending ∧ (s.saveOn n).gen = s.gen ∧ (s.saveOn n).rot = s.rot ∧ (s.saveOn n).ext = s.ext ∧ (s.saveOn n).cyc = s.cyc ∧ (s.saveOn n).cp = s.cp ∧ (s.saveOn n).ang = s.ang ∧ (s.saveOn n).pwr = s.pwr := by
  unfold State.saveOn
  (repeat' split) <;> simp

@[simp] theorem State.saveStart_keep (s : State) :
    (s.saveStart).pending = s.pending ∧ (s.saveStart).gen = s.gen ∧ (s.saveStart).rot = s.rot ∧ (s.saveStart).ext = s.ext ∧ (s.saveStart).cyc = s.cyc ∧ (s.saveStart).cp = s.cp ∧ (s.saveStart).ang = s.ang ∧ (s.saveStart).pwr = s.pwr := by
  unfold State.saveStart
  simp [apply_ite State.pending, apply_ite State.gen, apply_ite State.rot, apply_ite State.ext, apply_ite State.cyc, apply_ite State.cp, apply_ite State.ang, apply_ite State.pwr]

@[simp] theorem State.loadStart_keep (s : State) :
    (s.loadStart).pending = s.pending ∧ (s.loadStart).gen = s.gen ∧ (s.loadStart).rot = s.rot ∧ (s.loadStart).ext = s.ext ∧ (s.loadStart).cyc = s.cyc ∧ (s.loadStart).cp = s.cp ∧ (s.loadStart).ang = s.ang ∧ (s.loadStart).pwr = s.pwr := by
  unfold State.loadStart
  simp

@[simp] theorem almWr_keep (data : Word) (s : State) :
    (almWr data s).pending = s.pending ∧ (almWr data s).gen = s.gen ∧ (almWr data s).rot = s.rot ∧ (almWr data s).ext = s.ext ∧ (almWr data s).cyc = s.cyc ∧ (almWr data s).cp = s.cp ∧ (almWr data s).ang = s.ang ∧ (almWr data s).pwr = s.pwr := by
  unfold almWr
  simp [apply_ite State.pending, apply_ite State.gen, apply_ite State.rot, apply_ite State.ext, apply_ite State.cyc, apply_ite State.cp, apply_ite State.ang, apply_ite State.pwr]

@[simp] theorem State.almTake_keep (s : State) (i : Nat) (bs : List Byte) :
    (s.almTake i bs).pending = s.pending ∧ (s.almTake i bs).gen = s.gen ∧ (s.almTake i bs).rot = s.rot ∧ (s.almTake i bs).ext = s.ext ∧ (s.almTake i bs).cyc = s.cyc ∧ (s.almTake i bs).cp = s.cp ∧ (s.almTake i bs).ang = s.ang ∧ (s.almTake i bs).pwr = s.pwr := by
  unfold State.almTake
  simp [apply_ite State.pending, apply_ite State.gen, apply_ite State.rot, apply_ite State.ext, apply_ite State.cyc, apply_ite State.cp, apply_ite State.ang, apply_ite State.pwr]

@[simp] theorem State.loadTake_keep (s : State) (xs : List LoadSlot) :
    (s.loadTake xs).pending = s.pending ∧ (s.loadTake xs).gen = s.gen ∧ (s.loadTake xs).rot = s.rot ∧ (s.loadTake xs).ext = s.ext ∧ (s.loadTake xs).cyc = s.cyc ∧ (s.loadTake xs).cp = s.cp ∧ (s.loadTake xs).ang = s.ang ∧ (s.loadTake xs).pwr = s.pwr := by
  unfold State.loadTake
  (repeat' split) <;> simp

@[simp] theorem State.loadEnd_keep (s : State) (xs : List LoadSlot) :
    (s.loadEnd xs).pending = s.pending ∧ (s.loadEnd xs).gen = s.gen ∧ (s.loadEnd xs).rot = s.rot ∧ (s.loadEnd xs).ext = s.ext ∧ (s.loadEnd xs).cyc = s.cyc ∧ (s.loadEnd xs).cp = s.cp ∧ (s.loadEnd xs).ang = s.ang ∧ (s.loadEnd xs).pwr = s.pwr := by
  unfold State.loadEnd
  simp [apply_ite State.pending, apply_ite State.gen, apply_ite State.rot, apply_ite State.ext, apply_ite State.cyc, apply_ite State.cp, apply_ite State.ang, apply_ite State.pwr]

@[simp] theorem State.saveEnd_keep (s : State) :
    (s.saveEnd).pending = s.pending ∧ (s.saveEnd).gen = s.gen ∧ (s.saveEnd).rot = s.rot ∧ (s.saveEnd).ext = s.ext ∧ (s.saveEnd).cyc = s.cyc ∧ (s.saveEnd).cp = s.cp ∧ (s.saveEnd).ang = s.ang ∧ (s.saveEnd).pwr = s.pwr := by
  unfold State.saveEnd
  dsimp only
  (repeat' apply And.intro) <;> (repeat' split) <;> simp

/-! ## Machine/RotorFlux.lean -/

@[simp] theorem State.reconstruct_keep (s : State) :
    (s.reconstruct).pending = s.pending ∧ (s.reconstruct).gen = s.gen ∧ (s.reconstruct).ext = s.ext ∧ (s.reconstruct).cyc = s.cyc ∧ (s.reconstruct).cp = s.cp ∧ (s.reconstruct).ang = s.ang ∧ (s.reconstruct).pwr = s.pwr := by
  unfold State.reconstruct
  simp [apply_ite State.pending, apply_ite State.gen, apply_ite State.ext, apply_ite State.cyc, apply_ite State.cp, apply_ite State.ang, apply_ite State.pwr]

@[simp] theorem State.stepCurrents_keep (s : State) :
    (s.stepCurrents).pending = s.pending ∧ (s.stepCurrents).gen = s.gen ∧ (s.stepCurrents).ext = s.ext ∧ (s.stepCurrents).cyc = s.cyc ∧ (s.stepCurrents).cp = s.cp ∧ (s.stepCurrents).ang = s.ang ∧ (s.stepCurrents).pwr = s.pwr := by
  unfold State.stepCurrents
  simp

@[simp] theorem State.observe_keep (s : State) :
    (s.observe).pending = s.pending ∧ (s.observe).gen = s.gen ∧ (s.observe).ext = s.ext ∧ (s.observe).cyc = s.cyc ∧ (s.observe).cp = s.cp ∧ (s.observe).ang = s.ang ∧ (s.observe).pwr = s.pwr := by
  unfold State.observe
  simp

@[simp] theorem State.syncCount_keep (s : State) :
    (s.syncCount).pending = s.pending ∧ (s.syncCount).gen = s.gen ∧ (s.syncCount).ext = s.ext ∧ (s.syncCount).cyc = s.cyc ∧ (s.syncCount).cp = s.cp ∧ (s.syncCount).ang = s.ang ∧ (s.syncCount).pwr = s.pwr := by
  unfold State.syncCount
  simp

@[simp] theorem State.rampRef_keep (s : State) :
    (s.rampRef).pending = s.pending ∧ (s.rampRef).gen = s.gen ∧ (s.rampRef).ext = s.ext ∧ (s.rampRef).cyc = s.cyc ∧ (s.rampRef).cp = s.cp ∧ (s.rampRef).ang = s.ang ∧ (s.rampRef).pwr = s.pwr := by
  unfold State.rampRef
  simp

@[simp] theorem State.torqueRef_keep (s : State) :
    (s.torqueRef).2.pending = s.pending ∧ (s.torqueRef).2.gen = s.gen ∧ (s.torqueRef).2.ext = s.ext ∧ (s.torqueRef).2.cyc = s.cyc ∧ (s.torqueRef).2.cp = s.cp ∧ (s.torqueRef).2.ang = s.ang ∧ (s.torqueRef).2.pwr = s.pwr := by
  unfold State.torqueRef
  (repeat' split) <;> simp

@[simp] theorem State.planPeriod_keep (s : State) (k : Nat) :
    (s.planPeriod k).pending = s.pending ∧ (s.planPeriod k).gen = s.gen ∧ (s.planPeriod k).ext = s.ext ∧ (s.planPeriod k).cyc = s.cyc ∧ (s.planPeriod k).cp = s.cp ∧ (s.planPeriod k).ang = s.ang ∧ (s.planPeriod k).pwr = s.pwr := by
  unfold State.planPeriod
  dsimp only
  (repeat' apply And.intro) <;> (repeat' split) <;> simp

@[simp] theorem State.driveVec_keep (s : State) (k : Nat) :
    (s.driveVec k).pending = s.pending ∧ (s.driveVec k).gen = s.gen ∧ (s.driveVec k).ext = s.ext ∧ (s.driveVec k).cyc = s.cyc ∧ (s.driveVec k).cp = s.cp ∧ (s.driveVec k).ang = s.ang ∧ (s.driveVec k).pwr = s.pwr := by
  unfold State.driveVec
  dsimp only
  (repeat' apply And.intro) <;> (repeat' split) <;> simp

@[simp] theorem State.fuse_keep (s : State) (len : Nat) :
    (s.fuse len).pending = s.pending ∧ (s.fuse len).gen = s.gen ∧ (s.fuse len).rot = s.rot ∧ (s.fuse len).ext = s.ext ∧ (s.fuse len).cyc = s.cyc ∧ (s.fuse len).cp = s.cp ∧ (s.fuse len).pwr = s.pwr := by
  unfold State.fuse
  (repeat' split) <;> simp [apply_ite State.pending, apply_ite State.gen, apply_ite State.rot, apply_ite State.ext, apply_ite State.cyc, apply_ite State.cp, apply_ite State.pwr]

@[simp] theorem State.lossSync_keep (s : State) (prev : Int) :
    (s.lossSync prev).pending = s.pending ∧ (s.lossSync prev).gen = s.gen ∧ (s.lossSync prev).ext = s.ext ∧ (s.lossSync prev).cyc = s.cyc ∧ (s.lossSync prev).cp = s.cp ∧ (s.lossSync prev).ang = s.ang ∧ (s.lossSync prev).pwr = s.pwr := by
  unfold State.lossSync
  simp [apply_ite State.pending, apply_ite State.gen, apply_ite State.ext, apply_ite State.cyc, apply_ite State.cp, apply_ite State.ang, apply_ite State.pwr]

@[simp] theorem State.zeroEnd_keep (s : State) :
    (s.zeroEnd).pending = s.pending ∧ (s.zeroEnd).gen = s.gen ∧ (s.zeroEnd).ext = s.ext ∧ (s.zeroEnd).cyc = s.cyc ∧ (s.zeroEnd).cp = s.cp ∧ (s.zeroEnd).ang = s.ang ∧ (s.zeroEnd).pwr = s.pwr := by
  unfold State.zeroEnd
  (repeat' split) <;> simp [apply_ite State.pending, apply_ite State.gen, apply_ite State.ext, apply_ite State.cyc, apply_ite State.cp, apply_ite State.ang, apply_ite State.pwr]

@[simp] theorem State.shuntTick_keep (s : State) :
    (s.shuntTick).pending = s.pending ∧ (s.shuntTick).gen = s.gen ∧ (s.shuntTick).ext = s.ext ∧ (s.shuntTick).cyc = s.cyc ∧ (s.shuntTick).cp = s.cp ∧ (s.shuntTick).ang = s.ang ∧ (s.shuntTick).pwr = s.pwr := by
  unfold State.shuntTick
  simp [apply_ite State.pending, apply_ite State.gen, apply_ite State.ext, apply_ite State.cyc, apply_ite State.cp, apply_ite State.ang, apply_ite State.pwr]

@[simp] theorem State.nextVec_keep (s : State) (tref : Int) :
    (s.nextVec tref).pending = s.pending ∧ (s.nextVec tref).gen = s.gen ∧ (s.nextVec tref).ext = s.ext ∧ (s.nextVec tref).cyc = s.cyc ∧ (s.nextVec tref).cp = s.cp ∧ (s.nextVec tref).ang = s.ang ∧ (s.nextVec tref).pwr = s.pwr := by
  unfold State.nextVec
  simp

@[simp] theorem State.fluxToStep_keep (s : State) :
    (s.fluxToStep).pending = s.pending ∧ (s.fluxToStep).gen = s.gen ∧ (s.fluxToStep).ext = s.ext ∧ (s.fluxToStep).cyc = s.cyc ∧ (s.fluxToStep).cp = s.cp ∧ (s.fluxToStep).ang = s.ang ∧ (s.fluxToStep).pwr = s.pwr := by
  unfold State.fluxToStep
  simp

@[simp] theorem State.runVec_keep (s : State) :
    (s.runVec).pending = s.pending ∧ (s.runVec).gen = s.gen ∧ (s.runVec).ext = s.ext ∧ (s.runVec).cyc = s.cyc ∧ (s.runVec).cp = s.cp ∧ (s.runVec).ang = s.ang ∧ (s.runVec).pwr = s.pwr := by
  unfold State.runVec
  simp

@[simp] theorem State.decideRun_keep (s : State) :
    (s.decideRun).pending = s.pending ∧ (s.decideRun).gen = s.gen ∧ (s.decideRun).ext = s.ext ∧ (s.decideRun).cyc = s.cyc ∧ (s.decideRun).cp = s.cp ∧ (s.decideRun).ang = s.ang ∧ (s.decideRun).pwr = s.pwr := by
  unfold State.decideRun
  simp [apply_ite State.pending, apply_ite State.gen, apply_ite State.ext, apply_ite State.cyc, apply_ite State.cp, apply_ite State.ang, apply_ite State.pwr]

/-! ## Machine/Angle.lean -/

@[simp] theorem State.angMap_keep (s : State) (f : AngS → AngS) :
    (s.angMap f).pending = s.pending ∧ (s.angMap f).gen = s.gen ∧ (s.angMap f).rot = s.rot ∧ (s.angMap f).ext = s.ext ∧ (s.angMap f).cyc = s.cyc ∧ (s.angMap f).cp = s.cp ∧ (s.angMap f).pwr = s.pwr := by
  unfold State.angMap
  simp

@[simp] theorem State.expect_keep (s : State) (k b : Nat) :
    (s.expect k b).pending = s.pending ∧ (s.expect k b).gen = s.gen ∧ (s.expect k b).rot = s.rot ∧ (s.expect k b).ext = s.ext ∧ (s.expect k b).cyc = s.cyc ∧ (s.expect k b).cp = s.cp ∧ (s.expect k b).pwr = s.pwr := by
  unfold State.expect
  simp

@[simp] theorem State.angGo_keep (s : State) (st : AngSt) :
    (s.angGo st).pending = s.pending ∧ (s.angGo st).gen = s.gen ∧ (s.angGo st).rot = s.rot ∧ (s.angGo st).ext = s.ext ∧ (s.angGo st).cyc = s.cyc ∧ (s.angGo st).cp = s.cp ∧ (s.angGo st).pwr = s.pwr := by
  unfold State.angGo
  (repeat' split) <;> simp

@[simp] theorem State.moveTheta_keep (s : State) (c : Int) :
    (s.moveTheta c).pending = s.pending ∧ (s.moveTheta c).gen = s.gen ∧ (s.moveTheta c).rot = s.rot ∧ (s.moveTheta c).ext = s.ext ∧ (s.moveTheta c).cyc = s.cyc ∧ (s.moveTheta c).cp = s.cp ∧ (s.moveTheta c).pwr = s.pwr := by
  unfold State.moveTheta
  simp [apply_ite State.pending, apply_ite State.gen, apply_ite State.rot, apply_ite State.ext, apply_ite State.cyc, apply_ite State.cp, apply_ite State.pwr]

@[simp] theorem State.keyMark_keep (s : State) :
    (s.keyMark).pending = s.pending ∧ (s.keyMark).gen = s.gen ∧ (s.keyMark).rot = s.rot ∧ (s.keyMark).ext = s.ext ∧ (s.keyMark).cyc = s.cyc ∧ (s.keyMark).cp = s.cp ∧ (s.keyMark).pwr = s.pwr := by
  unfold State.keyMark
  (repeat' split) <;> simp

@[simp] theorem State.slip_keep (s : State) :
    (s.slip).pending = s.pending ∧ (s.slip).gen = s.gen ∧ (s.slip).rot = s.rot ∧ (s.slip).ext = s.ext ∧ (s.slip).cyc = s.cyc ∧ (s.slip).cp = s.cp ∧ (s.slip).ang = s.ang ∧ (s.slip).pwr = s.pwr := by
  unfold State.slip
  simp

@[simp] theorem State.glintSeen_keep (s : State) :
    (s.glintSeen).pending = s.pending ∧ (s.glintSeen).gen = s.gen ∧ (s.glintSeen).ext = s.ext ∧ (s.glintSeen).cyc = s.cyc ∧ (s.glintSeen).cp = s.cp ∧ (s.glintSeen).ang = s.ang ∧ (s.glintSeen).pwr = s.pwr := by
  unfold State.glintSeen
  simp [apply_ite State.pending, apply_ite State.gen, apply_ite State.ext, apply_ite State.cyc, apply_ite State.cp, apply_ite State.ang, apply_ite State.pwr]

@[simp] theorem State.markTaken_keep (s : State) (k : Nat) (e : Int) :
    (s.markTaken k e).pending = s.pending ∧ (s.markTaken k e).gen = s.gen ∧ (s.markTaken k e).ext = s.ext ∧ (s.markTaken k e).cyc = s.cyc ∧ (s.markTaken k e).cp = s.cp ∧ (s.markTaken k e).ang = s.ang ∧ (s.markTaken k e).pwr = s.pwr := by
  unfold State.markTaken
  simp

@[simp] theorem State.acquire_keep (s : State) :
    (s.acquire).pending = s.pending ∧ (s.acquire).gen = s.gen ∧ (s.acquire).ext = s.ext ∧ (s.acquire).cyc = s.cyc ∧ (s.acquire).cp = s.cp ∧ (s.acquire).pwr = s.pwr := by
  have h (x : AngS) (k b v : Nat) (q : Int) (t : State) (e : t = { s with ang := x }) : ((((t.expect k b).markTaken 0 q).keyMark).slotJump v).pending = s.pending ∧ ((((t.expect k b).markTaken 0 q).keyMark).slotJump v).gen = s.gen ∧ ((((t.expect k b).markTaken 0 q).keyMark).slotJump v).ext = s.ext ∧ ((((t.expect k b).markTaken 0 q).keyMark).slotJump v).cyc = s.cyc ∧ ((((t.expect k b).markTaken 0 q).keyMark).slotJump v).cp = s.cp ∧ ((((t.expect k b).markTaken 0 q).keyMark).slotJump v).pwr = s.pwr := by
    subst e
    simp
  exact h _ _ _ _ _ _ rfl

@[simp] theorem State.acceptMark_keep (s : State) (inHalo : Bool) :
    (s.acceptMark inHalo).pending = s.pending ∧ (s.acceptMark inHalo).gen = s.gen ∧ (s.acceptMark inHalo).ext = s.ext ∧ (s.acceptMark inHalo).cyc = s.cyc ∧ (s.acceptMark inHalo).cp = s.cp ∧ (s.acceptMark inHalo).pwr = s.pwr := by
  unfold State.acceptMark
  simp [apply_ite State.pending, apply_ite State.gen, apply_ite State.ext, apply_ite State.cyc, apply_ite State.cp, apply_ite State.pwr]

@[simp] theorem State.trackMark_keep (s : State) (key : Bool) :
    (s.trackMark key).pending = s.pending ∧ (s.trackMark key).gen = s.gen ∧ (s.trackMark key).ext = s.ext ∧ (s.trackMark key).cyc = s.cyc ∧ (s.trackMark key).cp = s.cp ∧ (s.trackMark key).pwr = s.pwr := by
  unfold State.trackMark
  simp [apply_ite State.pending, apply_ite State.gen, apply_ite State.ext, apply_ite State.cyc, apply_ite State.cp, apply_ite State.pwr]

@[simp] theorem angCtrlWr_keep (data : Word) (s : State) :
    (angCtrlWr data s).pending = s.pending ∧ (angCtrlWr data s).gen = s.gen ∧ (angCtrlWr data s).rot = s.rot ∧ (angCtrlWr data s).ext = s.ext ∧ (angCtrlWr data s).cyc = s.cyc ∧ (angCtrlWr data s).cp = s.cp ∧ (angCtrlWr data s).pwr = s.pwr := by
  unfold angCtrlWr
  simp [apply_ite State.pending, apply_ite State.gen, apply_ite State.rot, apply_ite State.ext, apply_ite State.cyc, apply_ite State.cp, apply_ite State.pwr]

@[simp] theorem vstepWr_keep (data : Word) (s : State) :
    (vstepWr data s).pending = s.pending ∧ (vstepWr data s).gen = s.gen ∧ (vstepWr data s).rot = s.rot ∧ (vstepWr data s).ext = s.ext ∧ (vstepWr data s).cyc = s.cyc ∧ (vstepWr data s).cp = s.cp ∧ (vstepWr data s).pwr = s.pwr := by
  unfold vstepWr
  dsimp only
  (repeat' apply And.intro) <;> (repeat' split) <;> simp

/-! ## Machine/MapRows.lean -/

@[simp] theorem State.mapRefetch_keep (s : State) :
    (s.mapRefetch).pending = s.pending ∧ (s.mapRefetch).gen = s.gen ∧ (s.mapRefetch).rot = s.rot ∧ (s.mapRefetch).ext = s.ext ∧ (s.mapRefetch).cyc = s.cyc ∧ (s.mapRefetch).cp = s.cp ∧ (s.mapRefetch).ang = s.ang ∧ (s.mapRefetch).pwr = s.pwr := by
  unfold State.mapRefetch
  simp

@[simp] theorem State.mapTick_keep (s : State) :
    (s.mapTick).pending = s.pending ∧ (s.mapTick).gen = s.gen ∧ (s.mapTick).rot = s.rot ∧ (s.mapTick).ext = s.ext ∧ (s.mapTick).cyc = s.cyc ∧ (s.mapTick).cp = s.cp ∧ (s.mapTick).ang = s.ang ∧ (s.mapTick).pwr = s.pwr := by
  unfold State.mapTick
  simp [apply_ite State.pending, apply_ite State.gen, apply_ite State.rot, apply_ite State.ext, apply_ite State.cyc, apply_ite State.cp, apply_ite State.ang, apply_ite State.pwr]

@[simp] theorem State.mapSettle_keep (s : State) :
    (s.mapSettle).pending = s.pending ∧ (s.mapSettle).gen = s.gen ∧ (s.mapSettle).rot = s.rot ∧ (s.mapSettle).ext = s.ext ∧ (s.mapSettle).cyc = s.cyc ∧ (s.mapSettle).cp = s.cp ∧ (s.mapSettle).ang = s.ang ∧ (s.mapSettle).pwr = s.pwr := by
  unfold State.mapSettle
  simp

@[simp] theorem State.mapFillErr_keep (s : State) (l : Nat) :
    (s.mapFillErr l).pending = s.pending ∧ (s.mapFillErr l).gen = s.gen ∧ (s.mapFillErr l).rot = s.rot ∧ (s.mapFillErr l).ext = s.ext ∧ (s.mapFillErr l).cyc = s.cyc ∧ (s.mapFillErr l).cp = s.cp ∧ (s.mapFillErr l).ang = s.ang ∧ (s.mapFillErr l).pwr = s.pwr := by
  unfold State.mapFillErr
  simp

@[simp] theorem mapCmdWr_keep (data : Word) (s : State) :
    (mapCmdWr data s).pending = s.pending ∧ (mapCmdWr data s).gen = s.gen ∧ (mapCmdWr data s).rot = s.rot ∧ (mapCmdWr data s).ext = s.ext ∧ (mapCmdWr data s).cyc = s.cyc ∧ (mapCmdWr data s).cp = s.cp ∧ (mapCmdWr data s).ang = s.ang ∧ (mapCmdWr data s).pwr = s.pwr := by
  unfold mapCmdWr
  simp [apply_ite State.pending, apply_ite State.gen, apply_ite State.rot, apply_ite State.ext, apply_ite State.cyc, apply_ite State.cp, apply_ite State.ang, apply_ite State.pwr]

@[simp] theorem lookupWr_keep (data : Word) (s : State) :
    (lookupWr data s).pending = s.pending ∧ (lookupWr data s).gen = s.gen ∧ (lookupWr data s).rot = s.rot ∧ (lookupWr data s).ext = s.ext ∧ (lookupWr data s).cyc = s.cyc ∧ (lookupWr data s).cp = s.cp ∧ (lookupWr data s).ang = s.ang ∧ (lookupWr data s).pwr = s.pwr := by
  unfold lookupWr
  simp

@[simp] theorem setAddrWr_keep (data : Word) (s : State) :
    (setAddrWr data s).pending = s.pending ∧ (setAddrWr data s).gen = s.gen ∧ (setAddrWr data s).rot = s.rot ∧ (setAddrWr data s).ext = s.ext ∧ (setAddrWr data s).cyc = s.cyc ∧ (setAddrWr data s).cp = s.cp ∧ (setAddrWr data s).ang = s.ang ∧ (setAddrWr data s).pwr = s.pwr := by
  unfold setAddrWr
  simp

@[simp] theorem mapBaseWr_keep (reg : Nat) (be : BitVec 4) (data : Word) (s : State) :
    (mapBaseWr reg be data s).pending = s.pending ∧ (mapBaseWr reg be data s).gen = s.gen ∧ (mapBaseWr reg be data s).rot = s.rot ∧ (mapBaseWr reg be data s).ext = s.ext ∧ (mapBaseWr reg be data s).cyc = s.cyc ∧ (mapBaseWr reg be data s).cp = s.cp ∧ (mapBaseWr reg be data s).ang = s.ang ∧ (mapBaseWr reg be data s).pwr = s.pwr := by
  unfold mapBaseWr
  simp [apply_ite State.pending, apply_ite State.gen, apply_ite State.rot, apply_ite State.ext, apply_ite State.cyc, apply_ite State.cp, apply_ite State.ang, apply_ite State.pwr]

@[simp] theorem State.strmSet_keep (s : State) (st : Nat) (en : Bool) :
    (s.strmSet st en).pending = s.pending ∧ (s.strmSet st en).gen = s.gen ∧ (s.strmSet st en).rot = s.rot ∧ (s.strmSet st en).ext = s.ext ∧ (s.strmSet st en).cyc = s.cyc ∧ (s.strmSet st en).cp = s.cp ∧ (s.strmSet st en).ang = s.ang ∧ (s.strmSet st en).pwr = s.pwr := by
  unfold State.strmSet
  simp

@[simp] theorem State.fillAll_keep (s : State) (ps : List (Nat × Nat)) :
    (s.fillAll ps).pending = s.pending ∧ (s.fillAll ps).gen = s.gen ∧ (s.fillAll ps).rot = s.rot ∧ (s.fillAll ps).ext = s.ext ∧ (s.fillAll ps).cyc = s.cyc ∧ (s.fillAll ps).cp = s.cp ∧ (s.fillAll ps).ang = s.ang ∧ (s.fillAll ps).pwr = s.pwr := by
  unfold State.fillAll
  simp

@[simp] theorem strmCmdWr_keep (data : Word) (s : State) :
    (strmCmdWr data s).pending = s.pending ∧ (strmCmdWr data s).gen = s.gen ∧ (strmCmdWr data s).rot = s.rot ∧ (strmCmdWr data s).ext = s.ext ∧ (strmCmdWr data s).cyc = s.cyc ∧ (strmCmdWr data s).cp = s.cp ∧ (strmCmdWr data s).ang = s.ang ∧ (strmCmdWr data s).pwr = s.pwr := by
  unfold strmCmdWr
  simp [apply_ite State.pending, apply_ite State.gen, apply_ite State.rot, apply_ite State.ext, apply_ite State.cyc, apply_ite State.cp, apply_ite State.ang, apply_ite State.pwr]

/-! ## Machine/HoopRows.lean -/

@[simp] theorem State.membersSeen_keep (s : State) (h r : Nat) :
    (s.membersSeen h r).pending = s.pending ∧ (s.membersSeen h r).gen = s.gen ∧ (s.membersSeen h r).rot = s.rot ∧ (s.membersSeen h r).ext = s.ext ∧ (s.membersSeen h r).cyc = s.cyc ∧ (s.membersSeen h r).cp = s.cp ∧ (s.membersSeen h r).ang = s.ang ∧ (s.membersSeen h r).pwr = s.pwr := by
  unfold State.membersSeen
  simp

@[simp] theorem State.hoopAlloc_keep (s : State) (h : Nat) :
    (s.hoopAlloc h).pending = s.pending ∧ (s.hoopAlloc h).gen = s.gen ∧ (s.hoopAlloc h).rot = s.rot ∧ (s.hoopAlloc h).ext = s.ext ∧ (s.hoopAlloc h).cyc = s.cyc ∧ (s.hoopAlloc h).cp = s.cp ∧ (s.hoopAlloc h).ang = s.ang ∧ (s.hoopAlloc h).pwr = s.pwr := by
  unfold State.hoopAlloc
  simp

@[simp] theorem State.hoopArm_keep (s : State) (h : Nat) :
    (s.hoopArm h).pending = s.pending ∧ (s.hoopArm h).gen = s.gen ∧ (s.hoopArm h).rot = s.rot ∧ (s.hoopArm h).ext = s.ext ∧ (s.hoopArm h).cyc = s.cyc ∧ (s.hoopArm h).cp = s.cp ∧ (s.hoopArm h).ang = s.ang ∧ (s.hoopArm h).pwr = s.pwr := by
  unfold State.hoopArm
  simp

@[simp] theorem hoopCmdWr_keep (data : Word) (s : State) :
    (hoopCmdWr data s).pending = s.pending ∧ (hoopCmdWr data s).gen = s.gen ∧ (hoopCmdWr data s).rot = s.rot ∧ (hoopCmdWr data s).ext = s.ext ∧ (hoopCmdWr data s).cyc = s.cyc ∧ (hoopCmdWr data s).cp = s.cp ∧ (hoopCmdWr data s).ang = s.ang ∧ (hoopCmdWr data s).pwr = s.pwr := by
  unfold hoopCmdWr
  simp [apply_ite State.pending, apply_ite State.gen, apply_ite State.rot, apply_ite State.ext, apply_ite State.cyc, apply_ite State.cp, apply_ite State.ang, apply_ite State.pwr]

@[simp] theorem State.hoopDone_keep (s : State) (h : Nat) :
    (s.hoopDone h).pending = s.pending ∧ (s.hoopDone h).gen = s.gen ∧ (s.hoopDone h).rot = s.rot ∧ (s.hoopDone h).ext = s.ext ∧ (s.hoopDone h).cyc = s.cyc ∧ (s.hoopDone h).cp = s.cp ∧ (s.hoopDone h).ang = s.ang ∧ (s.hoopDone h).pwr = s.pwr := by
  unfold State.hoopDone
  simp

@[simp] theorem State.trigTiles_keep (s : State) (h : Nat) :
    (s.trigTiles h).pending = s.pending ∧ (s.trigTiles h).gen = s.gen ∧ (s.trigTiles h).rot = s.rot ∧ (s.trigTiles h).ext = s.ext ∧ (s.trigTiles h).cyc = s.cyc ∧ (s.trigTiles h).cp = s.cp ∧ (s.trigTiles h).ang = s.ang ∧ (s.trigTiles h).pwr = s.pwr := by
  unfold State.trigTiles
  simp

@[simp] theorem State.trigHoops_keep (s : State) (src : Nat) (hs : List Nat) :
    (s.trigHoops src hs).pending = s.pending ∧ (s.trigHoops src hs).gen = s.gen ∧ (s.trigHoops src hs).rot = s.rot ∧ (s.trigHoops src hs).ext = s.ext ∧ (s.trigHoops src hs).cyc = s.cyc ∧ (s.trigHoops src hs).cp = s.cp ∧ (s.trigHoops src hs).ang = s.ang ∧ (s.trigHoops src hs).pwr = s.pwr := by
  unfold State.trigHoops
  simp

@[simp] theorem trigWr_keep (which : Nat) (data : Word) (s : State) :
    (trigWr which data s).pending = s.pending ∧ (trigWr which data s).gen = s.gen ∧ (trigWr which data s).rot = s.rot ∧ (trigWr which data s).ext = s.ext ∧ (trigWr which data s).cyc = s.cyc ∧ (trigWr which data s).cp = s.cp ∧ (trigWr which data s).ang = s.ang ∧ (trigWr which data s).pwr = s.pwr := by
  unfold trigWr
  simp

/-! ## Machine/Number.lean -/

@[simp] theorem State.ovrCount_keep (s : State) (h : Nat) :
    (s.ovrCount h).pending = s.pending ∧ (s.ovrCount h).gen = s.gen ∧ (s.ovrCount h).rot = s.rot ∧ (s.ovrCount h).ext = s.ext ∧ (s.ovrCount h).cyc = s.cyc ∧ (s.ovrCount h).cp = s.cp ∧ (s.ovrCount h).ang = s.ang ∧ (s.ovrCount h).pwr = s.pwr := by
  unfold State.ovrCount
  simp [apply_ite State.pending, apply_ite State.gen, apply_ite State.rot, apply_ite State.ext, apply_ite State.cyc, apply_ite State.cp, apply_ite State.ang, apply_ite State.pwr]

@[simp] theorem State.tileDrop_keep (s : State) (st h : Nat) :
    (s.tileDrop st h).pending = s.pending ∧ (s.tileDrop st h).gen = s.gen ∧ (s.tileDrop st h).rot = s.rot ∧ (s.tileDrop st h).ext = s.ext ∧ (s.tileDrop st h).cyc = s.cyc ∧ (s.tileDrop st h).cp = s.cp ∧ (s.tileDrop st h).ang = s.ang ∧ (s.tileDrop st h).pwr = s.pwr := by
  unfold State.tileDrop
  simp

@[simp] theorem State.hoopOverrun_keep (s : State) (h : Nat) :
    (s.hoopOverrun h).pending = s.pending ∧ (s.hoopOverrun h).gen = s.gen ∧ (s.hoopOverrun h).rot = s.rot ∧ (s.hoopOverrun h).ext = s.ext ∧ (s.hoopOverrun h).cyc = s.cyc ∧ (s.hoopOverrun h).cp = s.cp ∧ (s.hoopOverrun h).ang = s.ang ∧ (s.hoopOverrun h).pwr = s.pwr := by
  unfold State.hoopOverrun
  simp

@[simp] theorem State.stallStart_keep (s : State) (h n : Nat) :
    (s.stallStart h n).pending = s.pending ∧ (s.stallStart h n).gen = s.gen ∧ (s.stallStart h n).rot = s.rot ∧ (s.stallStart h n).ext = s.ext ∧ (s.stallStart h n).cyc = s.cyc ∧ (s.stallStart h n).cp = s.cp ∧ (s.stallStart h n).ang = s.ang ∧ (s.stallStart h n).pwr = s.pwr := by
  unfold State.stallStart
  simp [apply_ite State.pending, apply_ite State.gen, apply_ite State.rot, apply_ite State.ext, apply_ite State.cyc, apply_ite State.cp, apply_ite State.ang, apply_ite State.pwr]

@[simp] theorem State.stallEnd_keep (s : State) (h n : Nat) :
    (s.stallEnd h n).pending = s.pending ∧ (s.stallEnd h n).gen = s.gen ∧ (s.stallEnd h n).rot = s.rot ∧ (s.stallEnd h n).ext = s.ext ∧ (s.stallEnd h n).cyc = s.cyc ∧ (s.stallEnd h n).cp = s.cp ∧ (s.stallEnd h n).ang = s.ang ∧ (s.stallEnd h n).pwr = s.pwr := by
  unfold State.stallEnd
  simp [apply_ite State.pending, apply_ite State.gen, apply_ite State.rot, apply_ite State.ext, apply_ite State.cyc, apply_ite State.cp, apply_ite State.ang, apply_ite State.pwr]

@[simp] theorem State.rowBegin_keep (s : State) (h r seq : Nat) :
    (s.rowBegin h r seq).pending = s.pending ∧ (s.rowBegin h r seq).gen = s.gen ∧ (s.rowBegin h r seq).rot = s.rot ∧ (s.rowBegin h r seq).ext = s.ext ∧ (s.rowBegin h r seq).cyc = s.cyc ∧ (s.rowBegin h r seq).cp = s.cp ∧ (s.rowBegin h r seq).ang = s.ang ∧ (s.rowBegin h r seq).pwr = s.pwr := by
  unfold State.rowBegin
  simp [apply_ite State.pending, apply_ite State.gen, apply_ite State.rot, apply_ite State.ext, apply_ite State.cyc, apply_ite State.cp, apply_ite State.ang, apply_ite State.pwr]

@[simp] theorem State.lateCount_keep (s : State) (h : Nat) :
    (s.lateCount h).pending = s.pending ∧ (s.lateCount h).gen = s.gen ∧ (s.lateCount h).rot = s.rot ∧ (s.lateCount h).ext = s.ext ∧ (s.lateCount h).cyc = s.cyc ∧ (s.lateCount h).cp = s.cp ∧ (s.lateCount h).ang = s.ang ∧ (s.lateCount h).pwr = s.pwr := by
  unfold State.lateCount
  simp

@[simp] theorem State.groupSettle_keep (s : State) (h : Nat) (y0 : Nat) :
    (s.groupSettle h y0).pending = s.pending ∧ (s.groupSettle h y0).gen = s.gen ∧ (s.groupSettle h y0).rot = s.rot ∧ (s.groupSettle h y0).ext = s.ext ∧ (s.groupSettle h y0).cyc = s.cyc ∧ (s.groupSettle h y0).cp = s.cp ∧ (s.groupSettle h y0).ang = s.ang ∧ (s.groupSettle h y0).pwr = s.pwr := by
  induction y0 generalizing s with
  | zero => simp [State.groupSettle]
  | succ n ih =>
    unfold State.groupSettle
    (repeat' split) <;> simp [ih, apply_ite State.pending, apply_ite State.gen, apply_ite State.rot, apply_ite State.ext, apply_ite State.cyc, apply_ite State.cp, apply_ite State.ang, apply_ite State.pwr]

@[simp] theorem State.postCount_keep (s : State) (h : Nat) :
    (s.postCount h).pending = s.pending ∧ (s.postCount h).gen = s.gen ∧ (s.postCount h).rot = s.rot ∧ (s.postCount h).ext = s.ext ∧ (s.postCount h).cyc = s.cyc ∧ (s.postCount h).cp = s.cp ∧ (s.postCount h).ang = s.ang ∧ (s.postCount h).pwr = s.pwr := by
  unfold State.postCount
  simp [apply_ite State.pending, apply_ite State.gen, apply_ite State.rot, apply_ite State.ext, apply_ite State.cyc, apply_ite State.cp, apply_ite State.ang, apply_ite State.pwr]

@[simp] theorem State.numberTile_keep (s : State) (n : Nat) (it : Item) (k p : Nat) :
    (s.numberTile n it k p).pending = s.pending ∧ (s.numberTile n it k p).gen = s.gen ∧ (s.numberTile n it k p).rot = s.rot ∧ (s.numberTile n it k p).ext = s.ext ∧ (s.numberTile n it k p).cyc = s.cyc ∧ (s.numberTile n it k p).cp = s.cp ∧ (s.numberTile n it k p).ang = s.ang ∧ (s.numberTile n it k p).pwr = s.pwr := by
  unfold State.numberTile
  simp [apply_ite State.pending, apply_ite State.gen, apply_ite State.rot, apply_ite State.ext, apply_ite State.cyc, apply_ite State.cp, apply_ite State.ang, apply_ite State.pwr]

@[simp] theorem State.laneMap_keep (s : State) (n : Nat) (f : LaneS → LaneS) :
    (s.laneMap n f).pending = s.pending ∧ (s.laneMap n f).gen = s.gen ∧ (s.laneMap n f).rot = s.rot ∧ (s.laneMap n f).ext = s.ext ∧ (s.laneMap n f).cyc = s.cyc ∧ (s.laneMap n f).cp = s.cp ∧ (s.laneMap n f).ang = s.ang ∧ (s.laneMap n f).pwr = s.pwr := by
  unfold State.laneMap
  simp

@[simp] theorem State.landBegin_keep (s : State) (n c p : Nat) :
    (s.landBegin n c p).pending = s.pending ∧ (s.landBegin n c p).gen = s.gen ∧ (s.landBegin n c p).rot = s.rot ∧ (s.landBegin n c p).ext = s.ext ∧ (s.landBegin n c p).cyc = s.cyc ∧ (s.landBegin n c p).cp = s.cp ∧ (s.landBegin n c p).ang = s.ang ∧ (s.landBegin n c p).pwr = s.pwr := by
  unfold State.landBegin
  simp [apply_ite State.pending, apply_ite State.gen, apply_ite State.rot, apply_ite State.ext, apply_ite State.cyc, apply_ite State.cp, apply_ite State.ang, apply_ite State.pwr]

@[simp] theorem State.takeReserved_keep (s : State) (n c p : Nat) :
    (s.takeReserved n c p).pending = s.pending ∧ (s.takeReserved n c p).gen = s.gen ∧ (s.takeReserved n c p).rot = s.rot ∧ (s.takeReserved n c p).ext = s.ext ∧ (s.takeReserved n c p).cyc = s.cyc ∧ (s.takeReserved n c p).cp = s.cp ∧ (s.takeReserved n c p).ang = s.ang ∧ (s.takeReserved n c p).pwr = s.pwr := by
  unfold State.takeReserved
  simp [apply_ite State.pending, apply_ite State.gen, apply_ite State.rot, apply_ite State.ext, apply_ite State.cyc, apply_ite State.cp, apply_ite State.ang, apply_ite State.pwr]

@[simp] theorem State.dropHeader_keep (s : State) (n : Nat) :
    (s.dropHeader n).pending = s.pending ∧ (s.dropHeader n).gen = s.gen ∧ (s.dropHeader n).rot = s.rot ∧ (s.dropHeader n).ext = s.ext ∧ (s.dropHeader n).cyc = s.cyc ∧ (s.dropHeader n).cp = s.cp ∧ (s.dropHeader n).ang = s.ang ∧ (s.dropHeader n).pwr = s.pwr := by
  unfold State.dropHeader
  simp

@[simp] theorem State.numberNew_keep (s : State) (n : Nat) :
    (s.numberNew n).pending = s.pending ∧ (s.numberNew n).gen = s.gen ∧ (s.numberNew n).rot = s.rot ∧ (s.numberNew n).ext = s.ext ∧ (s.numberNew n).cyc = s.cyc ∧ (s.numberNew n).cp = s.cp ∧ (s.numberNew n).ang = s.ang ∧ (s.numberNew n).pwr = s.pwr := by
  unfold State.numberNew
  dsimp only
  (repeat' apply And.intro) <;> (repeat' split) <;> simp

/-! ## Machine/Lanes.lean -/

@[simp] theorem State.laneRaise_keep (s : State) (n b : Nat) :
    (s.laneRaise n b).pending = s.pending ∧ (s.laneRaise n b).gen = s.gen ∧ (s.laneRaise n b).rot = s.rot ∧ (s.laneRaise n b).ext = s.ext ∧ (s.laneRaise n b).cyc = s.cyc ∧ (s.laneRaise n b).cp = s.cp ∧ (s.laneRaise n b).ang = s.ang ∧ (s.laneRaise n b).pwr = s.pwr := by
  unfold State.laneRaise
  simp

@[simp] theorem State.spoolUe_keep (s : State) (n : Nat) :
    (s.spoolUe n).pending = s.pending ∧ (s.spoolUe n).gen = s.gen ∧ (s.spoolUe n).rot = s.rot ∧ (s.spoolUe n).ext = s.ext ∧ (s.spoolUe n).cyc = s.cyc ∧ (s.spoolUe n).cp = s.cp ∧ (s.spoolUe n).ang = s.ang ∧ (s.spoolUe n).pwr = s.pwr := by
  unfold State.spoolUe
  simp

@[simp] theorem State.discard_keep (s : State) (n : Nat) :
    (s.discard n).pending = s.pending ∧ (s.discard n).gen = s.gen ∧ (s.discard n).rot = s.rot ∧ (s.discard n).ext = s.ext ∧ (s.discard n).cyc = s.cyc ∧ (s.discard n).cp = s.cp ∧ (s.discard n).ang = s.ang ∧ (s.discard n).pwr = s.pwr := by
  unfold State.discard
  simp

@[simp] theorem State.itemWrote_keep (s : State) (n : Nat) (tail : Bool) (pos : Nat) :
    (s.itemWrote n tail pos).pending = s.pending ∧ (s.itemWrote n tail pos).gen = s.gen ∧ (s.itemWrote n tail pos).rot = s.rot ∧ (s.itemWrote n tail pos).ext = s.ext ∧ (s.itemWrote n tail pos).cyc = s.cyc ∧ (s.itemWrote n tail pos).cp = s.cp ∧ (s.itemWrote n tail pos).ang = s.ang ∧ (s.itemWrote n tail pos).pwr = s.pwr := by
  unfold State.itemWrote
  simp [apply_ite State.pending, apply_ite State.gen, apply_ite State.rot, apply_ite State.ext, apply_ite State.cyc, apply_ite State.cp, apply_ite State.ang, apply_ite State.pwr]

@[simp] theorem State.itemRead_keep (s : State) (n : Nat) (tail : Bool) (pos : Nat) (it : Item) :
    (s.itemRead n tail pos it).2.pending = s.pending ∧ (s.itemRead n tail pos it).2.gen = s.gen ∧ (s.itemRead n tail pos it).2.rot = s.rot ∧ (s.itemRead n tail pos it).2.ext = s.ext ∧ (s.itemRead n tail pos it).2.cyc = s.cyc ∧ (s.itemRead n tail pos it).2.cp = s.cp ∧ (s.itemRead n tail pos it).2.ang = s.ang ∧ (s.itemRead n tail pos it).2.pwr = s.pwr := by
  unfold State.itemRead
  simp [apply_ite State.pending, apply_ite State.gen, apply_ite State.rot, apply_ite State.ext, apply_ite State.cyc, apply_ite State.cp, apply_ite State.ang, apply_ite State.pwr]

@[simp] theorem State.tailAppend_keep (s : State) (n : Nat) (y0 : List Item) :
    (s.tailAppend n y0).pending = s.pending ∧ (s.tailAppend n y0).gen = s.gen ∧ (s.tailAppend n y0).rot = s.rot ∧ (s.tailAppend n y0).ext = s.ext ∧ (s.tailAppend n y0).cyc = s.cyc ∧ (s.tailAppend n y0).cp = s.cp ∧ (s.tailAppend n y0).ang = s.ang ∧ (s.tailAppend n y0).pwr = s.pwr := by
  induction y0 generalizing s with
  | nil => simp [State.tailAppend]
  | cons b bs ih =>
    unfold State.tailAppend
    simp [ih]

theorem State.headPop_keep (s : State) (n : Nat) (it : Item) (t : State) (e : s.headPop n = some (it, t)) :
    t.pending = s.pending ∧ t.gen = s.gen ∧ t.rot = s.rot ∧ t.ext = s.ext ∧ t.cyc = s.cyc ∧ t.cp = s.cp ∧ t.ang = s.ang ∧ t.pwr = s.pwr := by
  unfold State.headPop at e
  dsimp only at e
  split at e
  · cases e
  · injection e with e; injection e with _ e; subst e; simp [apply_ite State.pending, apply_ite State.gen, apply_ite State.rot, apply_ite State.ext, apply_ite State.cyc, apply_ite State.cp, apply_ite State.ang, apply_ite State.pwr]

@[simp] theorem State.headToTail_keep (s : State) (n : Nat) :
    (s.headToTail n).pending = s.pending ∧ (s.headToTail n).gen = s.gen ∧ (s.headToTail n).rot = s.rot ∧ (s.headToTail n).ext = s.ext ∧ (s.headToTail n).cyc = s.cyc ∧ (s.headToTail n).cp = s.cp ∧ (s.headToTail n).ang = s.ang ∧ (s.headToTail n).pwr = s.pwr := by
  unfold State.headToTail
  split
  · simp
  · split
    · rename_i it t e
      simp [State.headPop_keep _ _ _ _ e]
    · simp

@[simp] theorem State.lanePush_keep (s : State) (n : Nat) (it : Item) :
    (s.lanePush n it).pending = s.pending ∧ (s.lanePush n it).gen = s.gen ∧ (s.lanePush n it).rot = s.rot ∧ (s.lanePush n it).ext = s.ext ∧ (s.lanePush n it).cyc = s.cyc ∧ (s.lanePush n it).cp = s.cp ∧ (s.lanePush n it).ang = s.ang ∧ (s.lanePush n it).pwr = s.pwr := by
  unfold State.lanePush
  simp [apply_ite State.pending, apply_ite State.gen, apply_ite State.rot, apply_ite State.ext, apply_ite State.cyc, apply_ite State.cp, apply_ite State.ang, apply_ite State.pwr]

@[simp] theorem State.budgetTake_keep (s : State) (n : Nat) :
    (s.budgetTake n).pending = s.pending ∧ (s.budgetTake n).gen = s.gen ∧ (s.budgetTake n).rot = s.rot ∧ (s.budgetTake n).ext = s.ext ∧ (s.budgetTake n).cyc = s.cyc ∧ (s.budgetTake n).cp = s.cp ∧ (s.budgetTake n).ang = s.ang ∧ (s.budgetTake n).pwr = s.pwr := by
  unfold State.budgetTake
  simp

@[simp] theorem State.laneSt_keep (s : State) (n : Nat) (st : FrameSt) :
    (s.laneSt n st).pending = s.pending ∧ (s.laneSt n st).gen = s.gen ∧ (s.laneSt n st).rot = s.rot ∧ (s.laneSt n st).ext = s.ext ∧ (s.laneSt n st).cyc = s.cyc ∧ (s.laneSt n st).cp = s.cp ∧ (s.laneSt n st).ang = s.ang ∧ (s.laneSt n st).pwr = s.pwr := by
  unfold State.laneSt
  simp

@[simp] theorem State.laneCutShort_keep (s : State) (n : Nat) (v : BitVec 64) :
    (s.laneCutShort n v).pending = s.pending ∧ (s.laneCutShort n v).gen = s.gen ∧ (s.laneCutShort n v).rot = s.rot ∧ (s.laneCutShort n v).ext = s.ext ∧ (s.laneCutShort n v).cyc = s.cyc ∧ (s.laneCutShort n v).cp = s.cp ∧ (s.laneCutShort n v).ang = s.ang ∧ (s.laneCutShort n v).pwr = s.pwr := by
  unfold State.laneCutShort
  simp [apply_ite State.pending, apply_ite State.gen, apply_ite State.rot, apply_ite State.ext, apply_ite State.cyc, apply_ite State.cp, apply_ite State.ang, apply_ite State.pwr]

@[simp] theorem State.laneSot_keep (s : State) (n : Nat) (v : BitVec 64) :
    (s.laneSot n v).pending = s.pending ∧ (s.laneSot n v).gen = s.gen ∧ (s.laneSot n v).rot = s.rot ∧ (s.laneSot n v).ext = s.ext ∧ (s.laneSot n v).cyc = s.cyc ∧ (s.laneSot n v).cp = s.cp ∧ (s.laneSot n v).ang = s.ang ∧ (s.laneSot n v).pwr = s.pwr := by
  unfold State.laneSot
  simp [apply_ite State.pending, apply_ite State.gen, apply_ite State.rot, apply_ite State.ext, apply_ite State.cyc, apply_ite State.cp, apply_ite State.ang, apply_ite State.pwr]

@[simp] theorem State.laneFlit_keep (s : State) (n : Nat) (v : BitVec 64) (eot : Bool) :
    (s.laneFlit n v eot).pending = s.pending ∧ (s.laneFlit n v eot).gen = s.gen ∧ (s.laneFlit n v eot).rot = s.rot ∧ (s.laneFlit n v eot).ext = s.ext ∧ (s.laneFlit n v eot).cyc = s.cyc ∧ (s.laneFlit n v eot).cp = s.cp ∧ (s.laneFlit n v eot).ang = s.ang ∧ (s.laneFlit n v eot).pwr = s.pwr := by
  unfold State.laneFlit
  dsimp only
  (repeat' apply And.intro) <;> (repeat' split) <;> simp

@[simp] theorem State.umbraFlit_keep (s : State) :
    (s.umbraFlit).pending = s.pending ∧ (s.umbraFlit).gen = s.gen ∧ (s.umbraFlit).rot = s.rot ∧ (s.umbraFlit).ext = s.ext ∧ (s.umbraFlit).cyc = s.cyc ∧ (s.umbraFlit).cp = s.cp ∧ (s.umbraFlit).pwr = s.pwr := by
  unfold State.umbraFlit
  simp [apply_ite State.pending, apply_ite State.gen, apply_ite State.rot, apply_ite State.ext, apply_ite State.cyc, apply_ite State.cp, apply_ite State.pwr]

@[simp] theorem State.laneTake_keep (s : State) (n : Nat) (v : BitVec 64) (tag : BitVec 2) :
    (s.laneTake n v tag).pending = s.pending ∧ (s.laneTake n v tag).gen = s.gen ∧ (s.laneTake n v tag).rot = s.rot ∧ (s.laneTake n v tag).ext = s.ext ∧ (s.laneTake n v tag).cyc = s.cyc ∧ (s.laneTake n v tag).cp = s.cp ∧ (s.laneTake n v tag).ang = s.ang ∧ (s.laneTake n v tag).pwr = s.pwr := by
  unfold State.laneTake
  simp [apply_ite State.pending, apply_ite State.gen, apply_ite State.rot, apply_ite State.ext, apply_ite State.cyc, apply_ite State.cp, apply_ite State.ang, apply_ite State.pwr]

@[simp] theorem State.flitNote_keep (s : State) (n : Nat) (l : LaneS) (tag : BitVec 2) :
    (s.flitNote n l tag).pending = s.pending ∧ (s.flitNote n l tag).gen = s.gen ∧ (s.flitNote n l tag).rot = s.rot ∧ (s.flitNote n l tag).ext = s.ext ∧ (s.flitNote n l tag).cyc = s.cyc ∧ (s.flitNote n l tag).cp = s.cp ∧ (s.flitNote n l tag).ang = s.ang ∧ (s.flitNote n l tag).pwr = s.pwr := by
  unfold State.flitNote
  simp

@[simp] theorem State.laneRst_keep (s : State) (n : Nat) (link : Bool) :
    (s.laneRst n link).pending = s.pending ∧ (s.laneRst n link).gen = s.gen ∧ (s.laneRst n link).rot = s.rot ∧ (s.laneRst n link).ext = s.ext ∧ (s.laneRst n link).cyc = s.cyc ∧ (s.laneRst n link).cp = s.cp ∧ (s.laneRst n link).ang = s.ang ∧ (s.laneRst n link).pwr = s.pwr := by
  unfold State.laneRst
  simp [apply_ite State.pending, apply_ite State.gen, apply_ite State.rot, apply_ite State.ext, apply_ite State.cyc, apply_ite State.cp, apply_ite State.ang, apply_ite State.pwr]

@[simp] theorem State.flitUndo_keep (s : State) (n : Nat) (f : FlitNote) :
    (s.flitUndo n f).pending = s.pending ∧ (s.flitUndo n f).gen = s.gen ∧ (s.flitUndo n f).rot = s.rot ∧ (s.flitUndo n f).ext = s.ext ∧ (s.flitUndo n f).cyc = s.cyc ∧ (s.flitUndo n f).cp = s.cp ∧ (s.flitUndo n f).ang = s.ang ∧ (s.flitUndo n f).pwr = s.pwr := by
  unfold State.flitUndo
  simp [apply_ite State.pending, apply_ite State.gen, apply_ite State.rot, apply_ite State.ext, apply_ite State.cyc, apply_ite State.cp, apply_ite State.ang, apply_ite State.pwr]

@[simp] theorem State.laneDrop_keep (s : State) (n : Nat) :
    (s.laneDrop n).pending = s.pending ∧ (s.laneDrop n).gen = s.gen ∧ (s.laneDrop n).rot = s.rot ∧ (s.laneDrop n).ext = s.ext ∧ (s.laneDrop n).cyc = s.cyc ∧ (s.laneDrop n).cp = s.cp ∧ (s.laneDrop n).ang = s.ang ∧ (s.laneDrop n).pwr = s.pwr := by
  unfold State.laneDrop
  (repeat' split) <;> simp

@[simp] theorem laneCmdWr_keep (n : Nat) (data : Word) (s : State) :
    (laneCmdWr n data s).pending = s.pending ∧ (laneCmdWr n data s).gen = s.gen ∧ (laneCmdWr n data s).rot = s.rot ∧ (laneCmdWr n data s).ext = s.ext ∧ (laneCmdWr n data s).cyc = s.cyc ∧ (laneCmdWr n data s).cp = s.cp ∧ (laneCmdWr n data s).ang = s.ang ∧ (laneCmdWr n data s).pwr = s.pwr := by
  unfold laneCmdWr
  simp [apply_ite State.pending, apply_ite State.gen, apply_ite State.rot, apply_ite State.ext, apply_ite State.cyc, apply_ite State.cp, apply_ite State.ang, apply_ite State.pwr]

@[simp] theorem laneCtrlWr_keep (n : Nat) (be : BitVec 4) (data : Word) (s : State) :
    (laneCtrlWr n be data s).pending = s.pending ∧ (laneCtrlWr n be data s).gen = s.gen ∧ (laneCtrlWr n be data s).rot = s.rot ∧ (laneCtrlWr n be data s).ext = s.ext ∧ (laneCtrlWr n be data s).cyc = s.cyc ∧ (laneCtrlWr n be data s).cp = s.cp ∧ (laneCtrlWr n be data s).ang = s.ang ∧ (laneCtrlWr n be data s).pwr = s.pwr := by
  unfold laneCtrlWr
  simp [apply_ite State.pending, apply_ite State.gen, apply_ite State.rot, apply_ite State.ext, apply_ite State.cyc, apply_ite State.cp, apply_ite State.ang, apply_ite State.pwr]

@[simp] theorem midBaseWr_keep (n reg : Nat) (be : BitVec 4) (data : Word) (s : State) :
    (midBaseWr n reg be data s).pending = s.pending ∧ (midBaseWr n reg be data s).gen = s.gen ∧ (midBaseWr n reg be data s).rot = s.rot ∧ (midBaseWr n reg be data s).ext = s.ext ∧ (midBaseWr n reg be data s).cyc = s.cyc ∧ (midBaseWr n reg be data s).cp = s.cp ∧ (midBaseWr n reg be data s).ang = s.ang ∧ (midBaseWr n reg be data s).pwr = s.pwr := by
  unfold midBaseWr
  simp [apply_ite State.pending, apply_ite State.gen, apply_ite State.rot, apply_ite State.ext, apply_ite State.cyc, apply_ite State.cp, apply_ite State.ang, apply_ite State.pwr]

@[simp] theorem State.endTrunc_keep (s : State) (n : Nat) :
    (s.endTrunc n).pending = s.pending ∧ (s.endTrunc n).gen = s.gen ∧ (s.endTrunc n).rot = s.rot ∧ (s.endTrunc n).ext = s.ext ∧ (s.endTrunc n).cyc = s.cyc ∧ (s.endTrunc n).cp = s.cp ∧ (s.endTrunc n).ang = s.ang ∧ (s.endTrunc n).pwr = s.pwr := by
  unfold State.endTrunc
  simp

@[simp] theorem State.vanish_keep (s : State) (n : Nat) (next : AsmSt) :
    (s.vanish n next).pending = s.pending ∧ (s.vanish n next).gen = s.gen ∧ (s.vanish n next).rot = s.rot ∧ (s.vanish n next).ext = s.ext ∧ (s.vanish n next).cyc = s.cyc ∧ (s.vanish n next).cp = s.cp ∧ (s.vanish n next).ang = s.ang ∧ (s.vanish n next).pwr = s.pwr := by
  unfold State.vanish
  simp [apply_ite State.pending, apply_ite State.gen, apply_ite State.rot, apply_ite State.ext, apply_ite State.cyc, apply_ite State.cp, apply_ite State.ang, apply_ite State.pwr]

@[simp] theorem State.withdraw_keep (s : State) (n : Nat) (next : AsmSt) :
    (s.withdraw n next).pending = s.pending ∧ (s.withdraw n next).gen = s.gen ∧ (s.withdraw n next).rot = s.rot ∧ (s.withdraw n next).ext = s.ext ∧ (s.withdraw n next).cyc = s.cyc ∧ (s.withdraw n next).cp = s.cp ∧ (s.withdraw n next).ang = s.ang ∧ (s.withdraw n next).pwr = s.pwr := by
  unfold State.withdraw
  simp [apply_ite State.pending, apply_ite State.gen, apply_ite State.rot, apply_ite State.ext, apply_ite State.cyc, apply_ite State.cp, apply_ite State.ang, apply_ite State.pwr]

@[simp] theorem State.landFirst_keep (s : State) (n : Nat) :
    (s.landFirst n).2.pending = s.pending ∧ (s.landFirst n).2.gen = s.gen ∧ (s.landFirst n).2.rot = s.rot ∧ (s.landFirst n).2.ext = s.ext ∧ (s.landFirst n).2.cyc = s.cyc ∧ (s.landFirst n).2.cp = s.cp ∧ (s.landFirst n).2.ang = s.ang ∧ (s.landFirst n).2.pwr = s.pwr := by
  unfold State.landFirst
  dsimp only
  (repeat' apply And.intro) <;> (repeat' split) <;> simp

@[simp] theorem State.landBytes_keep (s : State) (n : Nat) (v : BitVec 64) :
    (s.landBytes n v).pending = s.pending ∧ (s.landBytes n v).gen = s.gen ∧ (s.landBytes n v).rot = s.rot ∧ (s.landBytes n v).ext = s.ext ∧ (s.landBytes n v).cyc = s.cyc ∧ (s.landBytes n v).cp = s.cp ∧ (s.landBytes n v).ang = s.ang ∧ (s.landBytes n v).pwr = s.pwr := by
  unfold State.landBytes
  dsimp only
  (repeat' apply And.intro) <;> (repeat' split) <;> simp

@[simp] theorem State.landItem_keep (s : State) (n : Nat) (it : Item) :
    (s.landItem n it).pending = s.pending ∧ (s.landItem n it).gen = s.gen ∧ (s.landItem n it).rot = s.rot ∧ (s.landItem n it).ext = s.ext ∧ (s.landItem n it).cyc = s.cyc ∧ (s.landItem n it).cp = s.cp ∧ (s.landItem n it).ang = s.ang ∧ (s.landItem n it).pwr = s.pwr := by
  unfold State.landItem
  simp [apply_ite State.pending, apply_ite State.gen, apply_ite State.rot, apply_ite State.ext, apply_ite State.cyc, apply_ite State.cp, apply_ite State.ang, apply_ite State.pwr]

@[simp] theorem State.popSot_keep (s : State) (n : Nat) (it : Item) :
    (s.popSot n it).pending = s.pending ∧ (s.popSot n it).gen = s.gen ∧ (s.popSot n it).rot = s.rot ∧ (s.popSot n it).ext = s.ext ∧ (s.popSot n it).cyc = s.cyc ∧ (s.popSot n it).cp = s.cp ∧ (s.popSot n it).ang = s.ang ∧ (s.popSot n it).pwr = s.pwr := by
  unfold State.popSot
  simp [apply_ite State.pending, apply_ite State.gen, apply_ite State.rot, apply_ite State.ext, apply_ite State.cyc, apply_ite State.cp, apply_ite State.ang, apply_ite State.pwr]

@[simp] theorem State.popGood_keep (s : State) (n : Nat) (it : Item) :
    (s.popGood n it).pending = s.pending ∧ (s.popGood n it).gen = s.gen ∧ (s.popGood n it).rot = s.rot ∧ (s.popGood n it).ext = s.ext ∧ (s.popGood n it).cyc = s.cyc ∧ (s.popGood n it).cp = s.cp ∧ (s.popGood n it).ang = s.ang ∧ (s.popGood n it).pwr = s.pwr := by
  unfold State.popGood
  (repeat' split) <;> simp

@[simp] theorem State.popBad_keep (s : State) (n : Nat) :
    (s.popBad n).pending = s.pending ∧ (s.popBad n).gen = s.gen ∧ (s.popBad n).rot = s.rot ∧ (s.popBad n).ext = s.ext ∧ (s.popBad n).cyc = s.cyc ∧ (s.popBad n).cp = s.cp ∧ (s.popBad n).ang = s.ang ∧ (s.popBad n).pwr = s.pwr := by
  unfold State.popBad
  simp [apply_ite State.pending, apply_ite State.gen, apply_ite State.rot, apply_ite State.ext, apply_ite State.cyc, apply_ite State.cp, apply_ite State.ang, apply_ite State.pwr]

/-! ## Machine/Rings.lean -/

@[simp] theorem State.ringStSet_keep (s : State) (r st : Nat) :
    (s.ringStSet r st).pending = s.pending ∧ (s.ringStSet r st).gen = s.gen ∧ (s.ringStSet r st).rot = s.rot ∧ (s.ringStSet r st).ext = s.ext ∧ (s.ringStSet r st).cyc = s.cyc ∧ (s.ringStSet r st).cp = s.cp ∧ (s.ringStSet r st).ang = s.ang ∧ (s.ringStSet r st).pwr = s.pwr := by
  unfold State.ringStSet
  simp

@[simp] theorem State.ringEn_keep (s : State) (r : Nat) (en : Bool) :
    (s.ringEn r en).pending = s.pending ∧ (s.ringEn r en).gen = s.gen ∧ (s.ringEn r en).rot = s.rot ∧ (s.ringEn r en).ext = s.ext ∧ (s.ringEn r en).cyc = s.cyc ∧ (s.ringEn r en).cp = s.cp ∧ (s.ringEn r en).ang = s.ang ∧ (s.ringEn r en).pwr = s.pwr := by
  unfold State.ringEn
  simp

@[simp] theorem ringCmdWr_keep (data : Word) (s : State) :
    (ringCmdWr data s).pending = s.pending ∧ (ringCmdWr data s).gen = s.gen ∧ (ringCmdWr data s).rot = s.rot ∧ (ringCmdWr data s).ext = s.ext ∧ (ringCmdWr data s).cyc = s.cyc ∧ (ringCmdWr data s).cp = s.cp ∧ (ringCmdWr data s).ang = s.ang ∧ (ringCmdWr data s).pwr = s.pwr := by
  unfold ringCmdWr
  simp [apply_ite State.pending, apply_ite State.gen, apply_ite State.rot, apply_ite State.ext, apply_ite State.cyc, apply_ite State.cp, apply_ite State.ang, apply_ite State.pwr]

@[simp] theorem doorbellWr_keep (data : Word) (s : State) :
    (doorbellWr data s).pending = s.pending ∧ (doorbellWr data s).gen = s.gen ∧ (doorbellWr data s).rot = s.rot ∧ (doorbellWr data s).ext = s.ext ∧ (doorbellWr data s).cyc = s.cyc ∧ (doorbellWr data s).cp = s.cp ∧ (doorbellWr data s).ang = s.ang ∧ (doorbellWr data s).pwr = s.pwr := by
  unfold doorbellWr
  simp [apply_ite State.pending, apply_ite State.gen, apply_ite State.rot, apply_ite State.ext, apply_ite State.cyc, apply_ite State.cp, apply_ite State.ang, apply_ite State.pwr]

@[simp] theorem State.ringIssue_keep (s : State) (r : Nat) :
    (s.ringIssue r).pending = s.pending ∧ (s.ringIssue r).gen = s.gen ∧ (s.ringIssue r).rot = s.rot ∧ (s.ringIssue r).ext = s.ext ∧ (s.ringIssue r).cyc = s.cyc ∧ (s.ringIssue r).cp = s.cp ∧ (s.ringIssue r).ang = s.ang ∧ (s.ringIssue r).pwr = s.pwr := by
  unfold State.ringIssue
  simp [apply_ite State.pending, apply_ite State.gen, apply_ite State.rot, apply_ite State.ext, apply_ite State.cyc, apply_ite State.cp, apply_ite State.ang, apply_ite State.pwr]

@[simp] theorem State.entryTake_keep (s : State) (r : Nat) (e : List Byte) :
    (s.entryTake r e).pending = s.pending ∧ (s.entryTake r e).gen = s.gen ∧ (s.entryTake r e).rot = s.rot ∧ (s.entryTake r e).ext = s.ext ∧ (s.entryTake r e).cyc = s.cyc ∧ (s.entryTake r e).cp = s.cp ∧ (s.entryTake r e).ang = s.ang ∧ (s.entryTake r e).pwr = s.pwr := by
  unfold State.entryTake
  simp [apply_ite State.pending, apply_ite State.gen, apply_ite State.rot, apply_ite State.ext, apply_ite State.cyc, apply_ite State.cp, apply_ite State.ang, apply_ite State.pwr]

@[simp] theorem State.entriesGot_keep (s : State) (r : Nat) (data : List Byte) (bad : List Nat) (k i : Nat) :
    (s.entriesGot r data bad k i).2.pending = s.pending ∧ (s.entriesGot r data bad k i).2.gen = s.gen ∧ (s.entriesGot r data bad k i).2.rot = s.rot ∧ (s.entriesGot r data bad k i).2.ext = s.ext ∧ (s.entriesGot r data bad k i).2.cyc = s.cyc ∧ (s.entriesGot r data bad k i).2.cp = s.cp ∧ (s.entriesGot r data bad k i).2.ang = s.ang ∧ (s.entriesGot r data bad k i).2.pwr = s.pwr := by
  induction k generalizing s i with
  | zero => simp [State.entriesGot]
  | succ k ih =>
    unfold State.entriesGot
    dsimp only
    (repeat' split) <;> simp [ih]

@[simp] theorem State.ringGot_keep (s : State) (r : Nat) (data : List Byte) (bad : List Nat) :
    (s.ringGot r data bad).pending = s.pending ∧ (s.ringGot r data bad).gen = s.gen ∧ (s.ringGot r data bad).rot = s.rot ∧ (s.ringGot r data bad).ext = s.ext ∧ (s.ringGot r data bad).cyc = s.cyc ∧ (s.ringGot r data bad).cp = s.cp ∧ (s.ringGot r data bad).ang = s.ang ∧ (s.ringGot r data bad).pwr = s.pwr := by
  unfold State.ringGot
  simp

@[simp] theorem State.copyEnd_keep (s : State) (c : CopyS) :
    (s.copyEnd c).pending = s.pending ∧ (s.copyEnd c).gen = s.gen ∧ (s.copyEnd c).rot = s.rot ∧ (s.copyEnd c).ext = s.ext ∧ (s.copyEnd c).cyc = s.cyc ∧ (s.copyEnd c).cp = s.cp ∧ (s.copyEnd c).ang = s.ang ∧ (s.copyEnd c).pwr = s.pwr := by
  unfold State.copyEnd
  (repeat' split) <;> simp

@[simp] theorem State.rbSet_keep (s : State) (l : List RbJob) :
    (s.rbSet l).pending = s.pending ∧ (s.rbSet l).gen = s.gen ∧ (s.rbSet l).rot = s.rot ∧ (s.rbSet l).ext = s.ext ∧ (s.rbSet l).cyc = s.cyc ∧ (s.rbSet l).cp = s.cp ∧ (s.rbSet l).ang = s.ang ∧ (s.rbSet l).pwr = s.pwr := by
  unfold State.rbSet
  simp

@[simp] theorem State.copyBurst_keep (s : State) (c : CopyS) (rest : List RbJob) :
    (s.copyBurst c rest).pending = s.pending ∧ (s.copyBurst c rest).gen = s.gen ∧ (s.copyBurst c rest).rot = s.rot ∧ (s.copyBurst c rest).ext = s.ext ∧ (s.copyBurst c rest).cyc = s.cyc ∧ (s.copyBurst c rest).cp = s.cp ∧ (s.copyBurst c rest).ang = s.ang ∧ (s.copyBurst c rest).pwr = s.pwr := by
  unfold State.copyBurst
  (repeat' split) <;> simp [apply_ite State.pending, apply_ite State.gen, apply_ite State.rot, apply_ite State.ext, apply_ite State.cyc, apply_ite State.cp, apply_ite State.ang, apply_ite State.pwr]

@[simp] theorem State.rbBurst_keep (s : State) :
    (s.rbBurst).pending = s.pending ∧ (s.rbBurst).gen = s.gen ∧ (s.rbBurst).rot = s.rot ∧ (s.rbBurst).ext = s.ext ∧ (s.rbBurst).cyc = s.cyc ∧ (s.rbBurst).cp = s.cp ∧ (s.rbBurst).ang = s.ang ∧ (s.rbBurst).pwr = s.pwr := by
  unfold State.rbBurst
  (repeat' split) <;> simp [apply_ite State.pending, apply_ite State.gen, apply_ite State.rot, apply_ite State.ext, apply_ite State.cyc, apply_ite State.cp, apply_ite State.ang, apply_ite State.pwr]

@[simp] theorem State.rbTurn_keep (s : State) (y0 : Nat) :
    (s.rbTurn y0).pending = s.pending ∧ (s.rbTurn y0).gen = s.gen ∧ (s.rbTurn y0).rot = s.rot ∧ (s.rbTurn y0).ext = s.ext ∧ (s.rbTurn y0).cyc = s.cyc ∧ (s.rbTurn y0).cp = s.cp ∧ (s.rbTurn y0).ang = s.ang ∧ (s.rbTurn y0).pwr = s.pwr := by
  induction y0 generalizing s with
  | zero => simp [State.rbTurn]
  | succ n ih =>
    unfold State.rbTurn
    (repeat' split) <;> simp [ih]

@[simp] theorem State.rbAdd_keep (s : State) (j : RbJob) :
    (s.rbAdd j).pending = s.pending ∧ (s.rbAdd j).gen = s.gen ∧ (s.rbAdd j).rot = s.rot ∧ (s.rbAdd j).ext = s.ext ∧ (s.rbAdd j).cyc = s.cyc ∧ (s.rbAdd j).cp = s.cp ∧ (s.rbAdd j).ang = s.ang ∧ (s.rbAdd j).pwr = s.pwr := by
  unfold State.rbAdd
  simp

@[simp] theorem State.copyAll_keep (s : State) (rest : List RbJob) (y0 : Nat) :
    (s.copyAll rest y0).pending = s.pending ∧ (s.copyAll rest y0).gen = s.gen ∧ (s.copyAll rest y0).rot = s.rot ∧ (s.copyAll rest y0).ext = s.ext ∧ (s.copyAll rest y0).cyc = s.cyc ∧ (s.copyAll rest y0).cp = s.cp ∧ (s.copyAll rest y0).ang = s.ang ∧ (s.copyAll rest y0).pwr = s.pwr := by
  induction y0 generalizing s with
  | zero => simp [State.copyAll]
  | succ n ih =>
    unfold State.copyAll
    (repeat' split) <;> simp [ih]

end Sys2Proof.Machine
end

