-- ==== Sys2Proof/Laws/KeepSystem.lean ====
section
/-!
SUPPORT. What each operation leaves unchanged, of the fields that few commands change (see KeepBase): power, faults, links, DMA, the control port and the resets.
-/

namespace Sys2Proof.Machine

/-! ## Machine/Power.lean -/

@[simp] theorem State.domMap_keep (s : State) (d : Nat) (f : DomS → DomS) :
    (s.domMap d f).pending = s.pending ∧ (s.domMap d f).gen = s.gen ∧ (s.domMap d f).rot = s.rot ∧ (s.domMap d f).ext = s.ext ∧ (s.domMap d f).cyc = s.cyc ∧ (s.domMap d f).cp = s.cp ∧ (s.domMap d f).ang = s.ang := by
  unfold State.domMap
  simp

@[simp] theorem State.domSet_keep (s : State) (d : Nat) (st : DomSt) :
    (s.domSet d st).pending = s.pending ∧ (s.domSet d st).gen = s.gen ∧ (s.domSet d st).rot = s.rot ∧ (s.domSet d st).ext = s.ext ∧ (s.domSet d st).cyc = s.cyc ∧ (s.domSet d st).cp = s.cp ∧ (s.domSet d st).ang = s.ang := by
  unfold State.domSet
  simp

@[simp] theorem State.pwrRaise_keep (s : State) (b : Nat) :
    (s.pwrRaise b).pending = s.pending ∧ (s.pwrRaise b).gen = s.gen ∧ (s.pwrRaise b).rot = s.rot ∧ (s.pwrRaise b).ext = s.ext ∧ (s.pwrRaise b).cyc = s.cyc ∧ (s.pwrRaise b).cp = s.cp ∧ (s.pwrRaise b).ang = s.ang ∧ (s.pwrRaise b).pwr = s.pwr := by
  unfold State.pwrRaise
  simp

@[simp] theorem State.strapRegs_keep (s : State) (p : Nat → Bool) :
    (s.strapRegs p).pending = s.pending ∧ (s.strapRegs p).gen = s.gen ∧ (s.strapRegs p).rot = s.rot ∧ (s.strapRegs p).ext = s.ext ∧ (s.strapRegs p).cyc = s.cyc ∧ (s.strapRegs p).cp = s.cp ∧ (s.strapRegs p).ang = s.ang ∧ (s.strapRegs p).pwr = s.pwr := by
  unfold State.strapRegs
  simp [apply_ite State.pending, apply_ite State.gen, apply_ite State.rot, apply_ite State.ext, apply_ite State.cyc, apply_ite State.cp, apply_ite State.ang, apply_ite State.pwr]

@[simp] theorem State.regsReset_keep (s : State) (p : Nat → Bool) :
    (s.regsReset p).pending = s.pending ∧ (s.regsReset p).gen = s.gen ∧ (s.regsReset p).rot = s.rot ∧ (s.regsReset p).ext = s.ext ∧ (s.regsReset p).cyc = s.cyc ∧ (s.regsReset p).cp = s.cp ∧ (s.regsReset p).ang = s.ang ∧ (s.regsReset p).pwr = s.pwr := by
  unfold State.regsReset
  simp

@[simp] theorem State.remapCount_keep (s : State) (r : Nat) :
    (s.remapCount r).pending = s.pending ∧ (s.remapCount r).gen = s.gen ∧ (s.remapCount r).rot = s.rot ∧ (s.remapCount r).ext = s.ext ∧ (s.remapCount r).cyc = s.cyc ∧ (s.remapCount r).cp = s.cp ∧ (s.remapCount r).ang = s.ang ∧ (s.remapCount r).pwr = s.pwr := by
  unfold State.remapCount
  simp

@[simp] theorem State.sramLose_keep (s : State) (d : Nat) :
    (s.sramLose d).pending = s.pending ∧ (s.sramLose d).gen = s.gen ∧ (s.sramLose d).rot = s.rot ∧ (s.sramLose d).ext = s.ext ∧ (s.sramLose d).cyc = s.cyc ∧ (s.sramLose d).cp = s.cp ∧ (s.sramLose d).ang = s.ang ∧ (s.sramLose d).pwr = s.pwr := by
  unfold State.sramLose
  simp

@[simp] theorem State.coreLose_keep (s : State) :
    (s.coreLose).pending = s.pending ∧ (s.coreLose).gen = s.gen ∧ (s.coreLose).rot = s.rot ∧ (s.coreLose).ext = s.ext ∧ (s.coreLose).cyc = s.cyc ∧ (s.coreLose).cp = s.cp ∧ (s.coreLose).ang = s.ang ∧ (s.coreLose).pwr = s.pwr := by
  unfold State.coreLose
  simp

@[simp] theorem State.laneLose_keep (s : State) (n : Nat) :
    (s.laneLose n).pending = s.pending ∧ (s.laneLose n).gen = s.gen ∧ (s.laneLose n).rot = s.rot ∧ (s.laneLose n).ext = s.ext ∧ (s.laneLose n).cyc = s.cyc ∧ (s.laneLose n).cp = s.cp ∧ (s.laneLose n).ang = s.ang ∧ (s.laneLose n).pwr = s.pwr := by
  unfold State.laneLose
  simp

@[simp] theorem State.chanLose_keep (s : State) (n : Nat) :
    (s.chanLose n).pending = s.pending ∧ (s.chanLose n).gen = s.gen ∧ (s.chanLose n).rot = s.rot ∧ (s.chanLose n).ext = s.ext ∧ (s.chanLose n).cyc = s.cyc ∧ (s.chanLose n).cp = s.cp ∧ (s.chanLose n).ang = s.ang ∧ (s.chanLose n).pwr = s.pwr := by
  unfold State.chanLose
  simp

@[simp] theorem State.decLose_keep (s : State) (d : Nat) :
    (s.decLose d).pending = s.pending ∧ (s.decLose d).gen = s.gen ∧ (s.decLose d).rot = s.rot ∧ (s.decLose d).ext = s.ext ∧ (s.decLose d).cyc = s.cyc ∧ (s.decLose d).cp = s.cp ∧ (s.decLose d).ang = s.ang ∧ (s.decLose d).pwr = s.pwr := by
  unfold State.decLose
  simp

@[simp] theorem State.domLose_keep (s : State) (d : Nat) :
    (s.domLose d).pending = s.pending ∧ (s.domLose d).gen = s.gen ∧ (s.domLose d).rot = s.rot ∧ (s.domLose d).ext = s.ext ∧ (s.domLose d).cyc = s.cyc ∧ (s.domLose d).cp = s.cp ∧ (s.domLose d).ang = s.ang ∧ (s.domLose d).pwr = s.pwr := by
  unfold State.domLose
  simp [apply_ite State.pending, apply_ite State.gen, apply_ite State.rot, apply_ite State.ext, apply_ite State.cyc, apply_ite State.cp, apply_ite State.ang, apply_ite State.pwr]

@[simp] theorem State.domWork_keep (s : State) (d : Nat) :
    (s.domWork d).pending = s.pending ∧ (s.domWork d).gen = s.gen ∧ (s.domWork d).rot = s.rot ∧ (s.domWork d).ext = s.ext ∧ (s.domWork d).cyc = s.cyc ∧ (s.domWork d).cp = s.cp ∧ (s.domWork d).ang = s.ang ∧ (s.domWork d).pwr = s.pwr := by
  unfold State.domWork
  simp [apply_ite State.pending, apply_ite State.gen, apply_ite State.rot, apply_ite State.ext, apply_ite State.cyc, apply_ite State.cp, apply_ite State.ang, apply_ite State.pwr]

@[simp] theorem State.domCmd_keep (s : State) (d op : Nat) :
    (s.domCmd d op).2.pending = s.pending ∧ (s.domCmd d op).2.gen = s.gen ∧ (s.domCmd d op).2.rot = s.rot ∧ (s.domCmd d op).2.ext = s.ext ∧ (s.domCmd d op).2.cyc = s.cyc ∧ (s.domCmd d op).2.cp = s.cp ∧ (s.domCmd d op).2.ang = s.ang := by
  unfold State.domCmd
  dsimp only
  (repeat' apply And.intro) <;> (repeat' split) <;> simp

@[simp] theorem domCmdWr_keep (data : Word) (s : State) :
    (domCmdWr data s).pending = s.pending ∧ (domCmdWr data s).gen = s.gen ∧ (domCmdWr data s).rot = s.rot ∧ (domCmdWr data s).ext = s.ext ∧ (domCmdWr data s).cyc = s.cyc ∧ (domCmdWr data s).cp = s.cp ∧ (domCmdWr data s).ang = s.ang := by
  unfold domCmdWr
  simp [apply_ite State.pending, apply_ite State.gen, apply_ite State.rot, apply_ite State.ext, apply_ite State.cyc, apply_ite State.cp, apply_ite State.ang]

@[simp] theorem State.upWrite_keep (s : State) (d : Nat) :
    (s.upWrite d).pending = s.pending ∧ (s.upWrite d).gen = s.gen ∧ (s.upWrite d).rot = s.rot ∧ (s.upWrite d).ext = s.ext ∧ (s.upWrite d).cyc = s.cyc ∧ (s.upWrite d).cp = s.cp ∧ (s.upWrite d).ang = s.ang ∧ (s.upWrite d).pwr = s.pwr := by
  unfold State.upWrite
  simp [apply_ite State.pending, apply_ite State.gen, apply_ite State.rot, apply_ite State.ext, apply_ite State.cyc, apply_ite State.cp, apply_ite State.ang, apply_ite State.pwr]

@[simp] theorem State.upRegs_keep (s : State) (d : Nat) :
    (s.upRegs d).pending = s.pending ∧ (s.upRegs d).gen = s.gen ∧ (s.upRegs d).rot = s.rot ∧ (s.upRegs d).ext = s.ext ∧ (s.upRegs d).cyc = s.cyc ∧ (s.upRegs d).cp = s.cp ∧ (s.upRegs d).ang = s.ang ∧ (s.upRegs d).pwr = s.pwr := by
  unfold State.upRegs
  simp [apply_ite State.pending, apply_ite State.gen, apply_ite State.rot, apply_ite State.ext, apply_ite State.cyc, apply_ite State.cp, apply_ite State.ang, apply_ite State.pwr]

@[simp] theorem State.lanePowerLost_keep (s : State) (n : Nat) :
    (s.lanePowerLost n).pending = s.pending ∧ (s.lanePowerLost n).gen = s.gen ∧ (s.lanePowerLost n).rot = s.rot ∧ (s.lanePowerLost n).ext = s.ext ∧ (s.lanePowerLost n).cyc = s.cyc ∧ (s.lanePowerLost n).cp = s.cp ∧ (s.lanePowerLost n).ang = s.ang ∧ (s.lanePowerLost n).pwr = s.pwr := by
  unfold State.lanePowerLost
  simp [apply_ite State.pending, apply_ite State.gen, apply_ite State.rot, apply_ite State.ext, apply_ite State.cyc, apply_ite State.cp, apply_ite State.ang, apply_ite State.pwr]

@[simp] theorem State.chanPowerLost_keep (s : State) (n : Nat) :
    (s.chanPowerLost n).pending = s.pending ∧ (s.chanPowerLost n).gen = s.gen ∧ (s.chanPowerLost n).rot = s.rot ∧ (s.chanPowerLost n).ext = s.ext ∧ (s.chanPowerLost n).cyc = s.cyc ∧ (s.chanPowerLost n).cp = s.cp ∧ (s.chanPowerLost n).ang = s.ang ∧ (s.chanPowerLost n).pwr = s.pwr := by
  unfold State.chanPowerLost
  simp [apply_ite State.pending, apply_ite State.gen, apply_ite State.rot, apply_ite State.ext, apply_ite State.cyc, apply_ite State.cp, apply_ite State.ang, apply_ite State.pwr]

@[simp] theorem State.jobBack_keep (s : State) (j : Job) :
    (s.jobBack j).pending = s.pending ∧ (s.jobBack j).gen = s.gen ∧ (s.jobBack j).rot = s.rot ∧ (s.jobBack j).ext = s.ext ∧ (s.jobBack j).cyc = s.cyc ∧ (s.jobBack j).cp = s.cp ∧ (s.jobBack j).ang = s.ang ∧ (s.jobBack j).pwr = s.pwr := by
  unfold State.jobBack
  simp

@[simp] theorem State.copyLost_keep (s : State) (c : CopyS) :
    (s.copyLost c).pending = s.pending ∧ (s.copyLost c).gen = s.gen ∧ (s.copyLost c).rot = s.rot ∧ (s.copyLost c).ext = s.ext ∧ (s.copyLost c).cyc = s.cyc ∧ (s.copyLost c).cp = s.cp ∧ (s.copyLost c).ang = s.ang ∧ (s.copyLost c).pwr = s.pwr := by
  unfold State.copyLost
  (repeat' split) <;> simp

@[simp] theorem State.jobsLost_keep (s : State) (d : Nat) :
    (s.jobsLost d).pending = s.pending ∧ (s.jobsLost d).gen = s.gen ∧ (s.jobsLost d).rot = s.rot ∧ (s.jobsLost d).ext = s.ext ∧ (s.jobsLost d).cyc = s.cyc ∧ (s.jobsLost d).cp = s.cp ∧ (s.jobsLost d).ang = s.ang ∧ (s.jobsLost d).pwr = s.pwr := by
  unfold State.jobsLost
  simp

@[simp] theorem State.readsLost_keep (s : State) (d : Nat) :
    (s.readsLost d).pending = s.pending ∧ (s.readsLost d).gen = s.gen ∧ (s.readsLost d).rot = s.rot ∧ (s.readsLost d).ext = s.ext ∧ (s.readsLost d).cyc = s.cyc ∧ (s.readsLost d).cp = s.cp ∧ (s.readsLost d).ang = s.ang ∧ (s.readsLost d).pwr = s.pwr := by
  unfold State.readsLost
  simp

@[simp] theorem State.foldsLost_keep (s : State) (d : Nat) :
    (s.foldsLost d).pending = s.pending ∧ (s.foldsLost d).gen = s.gen ∧ (s.foldsLost d).rot = s.rot ∧ (s.foldsLost d).ext = s.ext ∧ (s.foldsLost d).cyc = s.cyc ∧ (s.foldsLost d).cp = s.cp ∧ (s.foldsLost d).ang = s.ang ∧ (s.foldsLost d).pwr = s.pwr := by
  unfold State.foldsLost
  simp

@[simp] theorem State.copiesLost_keep (s : State) (d : Nat) :
    (s.copiesLost d).pending = s.pending ∧ (s.copiesLost d).gen = s.gen ∧ (s.copiesLost d).rot = s.rot ∧ (s.copiesLost d).ext = s.ext ∧ (s.copiesLost d).cyc = s.cyc ∧ (s.copiesLost d).cp = s.cp ∧ (s.copiesLost d).ang = s.ang ∧ (s.copiesLost d).pwr = s.pwr := by
  unfold State.copiesLost
  simp

@[simp] theorem State.decPowerLost_keep (s : State) (d : Nat) :
    (s.decPowerLost d).pending = s.pending ∧ (s.decPowerLost d).gen = s.gen ∧ (s.decPowerLost d).rot = s.rot ∧ (s.decPowerLost d).ext = s.ext ∧ (s.decPowerLost d).cyc = s.cyc ∧ (s.decPowerLost d).cp = s.cp ∧ (s.decPowerLost d).ang = s.ang ∧ (s.decPowerLost d).pwr = s.pwr := by
  unfold State.decPowerLost
  simp

@[simp] theorem State.sealLeave_keep (s : State) (d : Nat) :
    (s.sealLeave d).pending = s.pending ∧ (s.sealLeave d).gen = s.gen ∧ (s.sealLeave d).rot = s.rot ∧ (s.sealLeave d).ext = s.ext ∧ (s.sealLeave d).cyc = s.cyc ∧ (s.sealLeave d).cp = s.cp ∧ (s.sealLeave d).ang = s.ang := by
  unfold State.sealLeave
  simp

@[simp] theorem State.laneCut_keep (s : State) (n : Nat) :
    (s.laneCut n).pending = s.pending ∧ (s.laneCut n).gen = s.gen ∧ (s.laneCut n).rot = s.rot ∧ (s.laneCut n).ext = s.ext ∧ (s.laneCut n).cyc = s.cyc ∧ (s.laneCut n).cp = s.cp ∧ (s.laneCut n).ang = s.ang ∧ (s.laneCut n).pwr = s.pwr := by
  unfold State.laneCut
  dsimp only
  (repeat' apply And.intro) <;> (repeat' split) <;> simp

@[simp] theorem State.reqSealed_keep (s : State) (q : RReq) :
    (s.reqSealed q).pending = s.pending ∧ (s.reqSealed q).gen = s.gen ∧ (s.reqSealed q).rot = s.rot ∧ (s.reqSealed q).ext = s.ext ∧ (s.reqSealed q).cyc = s.cyc ∧ (s.reqSealed q).cp = s.cp ∧ (s.reqSealed q).ang = s.ang ∧ (s.reqSealed q).pwr = s.pwr := by
  unfold State.reqSealed
  (repeat' split) <;> simp

@[simp] theorem State.rcvSealed_keep (s : State) :
    (s.rcvSealed).pending = s.pending ∧ (s.rcvSealed).gen = s.gen ∧ (s.rcvSealed).rot = s.rot ∧ (s.rcvSealed).ext = s.ext ∧ (s.rcvSealed).cyc = s.cyc ∧ (s.rcvSealed).cp = s.cp ∧ (s.rcvSealed).ang = s.ang ∧ (s.rcvSealed).pwr = s.pwr := by
  unfold State.rcvSealed
  simp

@[simp] theorem State.ringsSealed_keep (s : State) :
    (s.ringsSealed).pending = s.pending ∧ (s.ringsSealed).gen = s.gen ∧ (s.ringsSealed).rot = s.rot ∧ (s.ringsSealed).ext = s.ext ∧ (s.ringsSealed).cyc = s.cyc ∧ (s.ringsSealed).cp = s.cp ∧ (s.ringsSealed).ang = s.ang ∧ (s.ringsSealed).pwr = s.pwr := by
  unfold State.ringsSealed
  simp

@[simp] theorem State.chanSeal_keep (s : State) (n : Nat) :
    (s.chanSeal n).pending = s.pending ∧ (s.chanSeal n).gen = s.gen ∧ (s.chanSeal n).rot = s.rot ∧ (s.chanSeal n).ext = s.ext ∧ (s.chanSeal n).cyc = s.cyc ∧ (s.chanSeal n).cp = s.cp ∧ (s.chanSeal n).ang = s.ang ∧ (s.chanSeal n).pwr = s.pwr := by
  unfold State.chanSeal
  simp

@[simp] theorem State.sealStart_keep (s : State) (cause : Nat) :
    (s.sealStart cause).pending = s.pending ∧ (s.sealStart cause).gen = s.gen ∧ (s.sealStart cause).rot = s.rot ∧ (s.sealStart cause).ext = s.ext ∧ (s.sealStart cause).cyc = s.cyc ∧ (s.sealStart cause).cp = s.cp ∧ (s.sealStart cause).ang = s.ang := by
  unfold State.sealStart
  simp [apply_ite State.pending, apply_ite State.gen, apply_ite State.rot, apply_ite State.ext, apply_ite State.cyc, apply_ite State.cp, apply_ite State.ang]

@[simp] theorem State.acceptPf_keep (s : State) :
    (s.acceptPf).pending = s.pending ∧ (s.acceptPf).gen = s.gen ∧ (s.acceptPf).ext = s.ext ∧ (s.acceptPf).cyc = s.cyc ∧ (s.acceptPf).cp = s.cp ∧ (s.acceptPf).ang = s.ang := by
  unfold State.acceptPf
  simp [apply_ite State.pending, apply_ite State.gen, apply_ite State.ext, apply_ite State.cyc, apply_ite State.cp, apply_ite State.ang]

@[simp] theorem State.pfCheck_keep (s : State) :
    (s.pfCheck).pending = s.pending ∧ (s.pfCheck).gen = s.gen ∧ (s.pfCheck).ext = s.ext ∧ (s.pfCheck).cyc = s.cyc ∧ (s.pfCheck).cp = s.cp ∧ (s.pfCheck).ang = s.ang := by
  unfold State.pfCheck
  simp [apply_ite State.pending, apply_ite State.gen, apply_ite State.ext, apply_ite State.cyc, apply_ite State.cp, apply_ite State.ang]

@[simp] theorem State.rotReact_keep (s : State) :
    (s.rotReact).pending = s.pending ∧ (s.rotReact).gen = s.gen ∧ (s.rotReact).ext = s.ext ∧ (s.rotReact).cyc = s.cyc ∧ (s.rotReact).cp = s.cp ∧ (s.rotReact).ang = s.ang ∧ (s.rotReact).pwr = s.pwr := by
  unfold State.rotReact
  simp [apply_ite State.pending, apply_ite State.gen, apply_ite State.ext, apply_ite State.cyc, apply_ite State.cp, apply_ite State.ang, apply_ite State.pwr]

@[simp] theorem pfCmdWr_keep (data : Word) (s : State) :
    (pfCmdWr data s).pending = s.pending ∧ (pfCmdWr data s).gen = s.gen ∧ (pfCmdWr data s).ext = s.ext ∧ (pfCmdWr data s).cyc = s.cyc ∧ (pfCmdWr data s).cp = s.cp ∧ (pfCmdWr data s).ang = s.ang ∧ (pfCmdWr data s).pwr = s.pwr := by
  unfold pfCmdWr
  simp [apply_ite State.pending, apply_ite State.gen, apply_ite State.ext, apply_ite State.cyc, apply_ite State.cp, apply_ite State.ang, apply_ite State.pwr]

/-! ## Machine/Memi.lean -/

@[simp] theorem State.scrubWord_keep (s : State) (r w : Nat) :
    (s.scrubWord r w).pending = s.pending ∧ (s.scrubWord r w).gen = s.gen ∧ (s.scrubWord r w).rot = s.rot ∧ (s.scrubWord r w).ext = s.ext ∧ (s.scrubWord r w).cyc = s.cyc ∧ (s.scrubWord r w).cp = s.cp ∧ (s.scrubWord r w).ang = s.ang ∧ (s.scrubWord r w).pwr = s.pwr := by
  unfold State.scrubWord
  (repeat' split) <;> simp

@[simp] theorem State.lapEnd_keep (s : State) (r : Nat) :
    (s.lapEnd r).pending = s.pending ∧ (s.lapEnd r).gen = s.gen ∧ (s.lapEnd r).rot = s.rot ∧ (s.lapEnd r).ext = s.ext ∧ (s.lapEnd r).cyc = s.cyc ∧ (s.lapEnd r).cp = s.cp ∧ (s.lapEnd r).ang = s.ang ∧ (s.lapEnd r).pwr = s.pwr := by
  unfold State.lapEnd
  simp

@[simp] theorem State.scrubBack_keep (s : State) (r w : Nat) :
    (s.scrubBack r w).pending = s.pending ∧ (s.scrubBack r w).gen = s.gen ∧ (s.scrubBack r w).rot = s.rot ∧ (s.scrubBack r w).ext = s.ext ∧ (s.scrubBack r w).cyc = s.cyc ∧ (s.scrubBack r w).cp = s.cp ∧ (s.scrubBack r w).ang = s.ang ∧ (s.scrubBack r w).pwr = s.pwr := by
  unfold State.scrubBack
  simp [apply_ite State.pending, apply_ite State.gen, apply_ite State.rot, apply_ite State.ext, apply_ite State.cyc, apply_ite State.cp, apply_ite State.ang, apply_ite State.pwr]

@[simp] theorem remapClrWr_keep (data : Word) (s : State) :
    (remapClrWr data s).pending = s.pending ∧ (remapClrWr data s).gen = s.gen ∧ (remapClrWr data s).rot = s.rot ∧ (remapClrWr data s).ext = s.ext ∧ (remapClrWr data s).cyc = s.cyc ∧ (remapClrWr data s).cp = s.cp ∧ (remapClrWr data s).ang = s.ang ∧ (remapClrWr data s).pwr = s.pwr := by
  unfold remapClrWr
  dsimp only
  (repeat' apply And.intro) <;> (repeat' split) <;> simp

@[simp] theorem memiTestWr_keep (be : BitVec 4) (data : Word) (s : State) :
    (memiTestWr be data s).pending = s.pending ∧ (memiTestWr be data s).gen = s.gen ∧ (memiTestWr be data s).rot = s.rot ∧ (memiTestWr be data s).ext = s.ext ∧ (memiTestWr be data s).cyc = s.cyc ∧ (memiTestWr be data s).cp = s.cp ∧ (memiTestWr be data s).ang = s.ang ∧ (memiTestWr be data s).pwr = s.pwr := by
  unfold memiTestWr
  simp [apply_ite State.pending, apply_ite State.gen, apply_ite State.rot, apply_ite State.ext, apply_ite State.cyc, apply_ite State.cp, apply_ite State.ang, apply_ite State.pwr]

@[simp] theorem injectWr_keep (be : BitVec 4) (data : Word) (s : State) :
    (injectWr be data s).pending = s.pending ∧ (injectWr be data s).gen = s.gen ∧ (injectWr be data s).rot = s.rot ∧ (injectWr be data s).ext = s.ext ∧ (injectWr be data s).cyc = s.cyc ∧ (injectWr be data s).cp = s.cp ∧ (injectWr be data s).ang = s.ang ∧ (injectWr be data s).pwr = s.pwr := by
  unfold injectWr
  simp [apply_ite State.pending, apply_ite State.gen, apply_ite State.rot, apply_ite State.ext, apply_ite State.cyc, apply_ite State.cp, apply_ite State.ang, apply_ite State.pwr]

@[simp] theorem State.fuseApply_keep (s : State) (v : Word) :
    (s.fuseApply v).pending = s.pending ∧ (s.fuseApply v).gen = s.gen ∧ (s.fuseApply v).rot = s.rot ∧ (s.fuseApply v).ext = s.ext ∧ (s.fuseApply v).cyc = s.cyc ∧ (s.fuseApply v).cp = s.cp ∧ (s.fuseApply v).ang = s.ang ∧ (s.fuseApply v).pwr = s.pwr := by
  unfold State.fuseApply
  simp [apply_ite State.pending, apply_ite State.gen, apply_ite State.rot, apply_ite State.ext, apply_ite State.cyc, apply_ite State.cp, apply_ite State.ang, apply_ite State.pwr]

@[simp] theorem State.fuseEnd_keep (s : State) :
    (s.fuseEnd).pending = s.pending ∧ (s.fuseEnd).gen = s.gen ∧ (s.fuseEnd).rot = s.rot ∧ (s.fuseEnd).ext = s.ext ∧ (s.fuseEnd).cyc = s.cyc ∧ (s.fuseEnd).ang = s.ang ∧ (s.fuseEnd).pwr = s.pwr := by
  unfold State.fuseEnd
  simp

/-! ## Machine/Faults.lean -/

@[simp] theorem State.srcMap_keep (s : State) (n : Nat) (f : SrcS → SrcS) :
    (s.srcMap n f).pending = s.pending ∧ (s.srcMap n f).gen = s.gen ∧ (s.srcMap n f).rot = s.rot ∧ (s.srcMap n f).ext = s.ext ∧ (s.srcMap n f).cyc = s.cyc ∧ (s.srcMap n f).cp = s.cp ∧ (s.srcMap n f).ang = s.ang ∧ (s.srcMap n f).pwr = s.pwr := by
  unfold State.srcMap
  simp

@[simp] theorem State.fltRaise_keep (s : State) (b : Nat) :
    (s.fltRaise b).pending = s.pending ∧ (s.fltRaise b).gen = s.gen ∧ (s.fltRaise b).ext = s.ext ∧ (s.fltRaise b).cyc = s.cyc ∧ (s.fltRaise b).cp = s.cp ∧ (s.fltRaise b).ang = s.ang := by
  unfold State.fltRaise
  simp

@[simp] theorem State.goGrave_keep (s : State) (src : Nat) :
    (s.goGrave src).pending = s.pending ∧ (s.goGrave src).gen = s.gen ∧ (s.goGrave src).ext = s.ext ∧ (s.goGrave src).cyc = s.cyc ∧ (s.goGrave src).cp = s.cp ∧ (s.goGrave src).ang = s.ang := by
  unfold State.goGrave
  simp [apply_ite State.pending, apply_ite State.gen, apply_ite State.ext, apply_ite State.cyc, apply_ite State.cp, apply_ite State.ang]

@[simp] theorem State.react_keep (s : State) (n : Nat) :
    (s.react n).pending = s.pending ∧ (s.react n).gen = s.gen ∧ (s.react n).ext = s.ext ∧ (s.react n).cyc = s.cyc ∧ (s.react n).cp = s.cp ∧ (s.react n).ang = s.ang := by
  unfold State.react
  (repeat' split) <;> simp [apply_ite State.pending, apply_ite State.gen, apply_ite State.ext, apply_ite State.cyc, apply_ite State.cp, apply_ite State.ang]

@[simp] theorem State.logPush_keep (s : State) (e : LogEnt) :
    (s.logPush e).pending = s.pending ∧ (s.logPush e).gen = s.gen ∧ (s.logPush e).ext = s.ext ∧ (s.logPush e).cyc = s.cyc ∧ (s.logPush e).cp = s.cp ∧ (s.logPush e).ang = s.ang := by
  unfold State.logPush
  simp [apply_ite State.pending, apply_ite State.gen, apply_ite State.ext, apply_ite State.cyc, apply_ite State.cp, apply_ite State.ang]

@[simp] theorem State.firstTake_keep (s : State) (n cls : Nat) (detail : Word) :
    (s.firstTake n cls detail).pending = s.pending ∧ (s.firstTake n cls detail).gen = s.gen ∧ (s.firstTake n cls detail).rot = s.rot ∧ (s.firstTake n cls detail).ext = s.ext ∧ (s.firstTake n cls detail).cyc = s.cyc ∧ (s.firstTake n cls detail).cp = s.cp ∧ (s.firstTake n cls detail).ang = s.ang ∧ (s.firstTake n cls detail).pwr = s.pwr := by
  unfold State.firstTake
  simp [apply_ite State.pending, apply_ite State.gen, apply_ite State.rot, apply_ite State.ext, apply_ite State.cyc, apply_ite State.cp, apply_ite State.ang, apply_ite State.pwr]

@[simp] theorem State.faultDumped_keep (s : State) (n : Nat) (detail : Word) :
    (s.faultDumped n detail).pending = s.pending ∧ (s.faultDumped n detail).gen = s.gen ∧ (s.faultDumped n detail).ext = s.ext ∧ (s.faultDumped n detail).cyc = s.cyc ∧ (s.faultDumped n detail).cp = s.cp ∧ (s.faultDumped n detail).ang = s.ang := by
  unfold State.faultDumped
  simp [apply_ite State.pending, apply_ite State.gen, apply_ite State.ext, apply_ite State.cyc, apply_ite State.cp, apply_ite State.ang]

@[simp] theorem State.fault_keep (s : State) (e : FltEv) :
    (s.fault e).pending = s.pending ∧ (s.fault e).gen = s.gen ∧ (s.fault e).ext = s.ext ∧ (s.fault e).cyc = s.cyc ∧ (s.fault e).cp = s.cp ∧ (s.fault e).ang = s.ang := by
  unfold State.fault
  simp [apply_ite State.pending, apply_ite State.gen, apply_ite State.ext, apply_ite State.cyc, apply_ite State.cp, apply_ite State.ang]

@[simp] theorem State.logWrite_keep (s : State) (e : LogEnt) :
    (s.logWrite e).pending = s.pending ∧ (s.logWrite e).gen = s.gen ∧ (s.logWrite e).rot = s.rot ∧ (s.logWrite e).ext = s.ext ∧ (s.logWrite e).cyc = s.cyc ∧ (s.logWrite e).cp = s.cp ∧ (s.logWrite e).ang = s.ang ∧ (s.logWrite e).pwr = s.pwr := by
  unfold State.logWrite
  simp

@[simp] theorem srcAckWr_keep (n : Nat) (data : Word) (s : State) :
    (srcAckWr n data s).pending = s.pending ∧ (srcAckWr n data s).gen = s.gen ∧ (srcAckWr n data s).rot = s.rot ∧ (srcAckWr n data s).ext = s.ext ∧ (srcAckWr n data s).cyc = s.cyc ∧ (srcAckWr n data s).cp = s.cp ∧ (srcAckWr n data s).ang = s.ang ∧ (srcAckWr n data s).pwr = s.pwr := by
  unfold srcAckWr
  simp [apply_ite State.pending, apply_ite State.gen, apply_ite State.rot, apply_ite State.ext, apply_ite State.cyc, apply_ite State.cp, apply_ite State.ang, apply_ite State.pwr]

@[simp] theorem fwRaiseWr_keep (data : Word) (s : State) :
    (fwRaiseWr data s).pending = s.pending ∧ (fwRaiseWr data s).gen = s.gen ∧ (fwRaiseWr data s).rot = s.rot ∧ (fwRaiseWr data s).ext = s.ext ∧ (fwRaiseWr data s).cyc = s.cyc ∧ (fwRaiseWr data s).cp = s.cp ∧ (fwRaiseWr data s).ang = s.ang ∧ (fwRaiseWr data s).pwr = s.pwr := by
  unfold fwRaiseWr
  simp [apply_ite State.pending, apply_ite State.gen, apply_ite State.rot, apply_ite State.ext, apply_ite State.cyc, apply_ite State.cp, apply_ite State.ang, apply_ite State.pwr]

@[simp] theorem firstWr_keep (data : Word) (s : State) :
    (firstWr data s).pending = s.pending ∧ (firstWr data s).gen = s.gen ∧ (firstWr data s).rot = s.rot ∧ (firstWr data s).ext = s.ext ∧ (firstWr data s).cyc = s.cyc ∧ (firstWr data s).cp = s.cp ∧ (firstWr data s).ang = s.ang ∧ (firstWr data s).pwr = s.pwr := by
  unfold firstWr
  simp [apply_ite State.pending, apply_ite State.gen, apply_ite State.rot, apply_ite State.ext, apply_ite State.cyc, apply_ite State.cp, apply_ite State.ang, apply_ite State.pwr]

@[simp] theorem evtForceWr_keep (a : Nat) (data : Word) (s : State) :
    (evtForceWr a data s).pending = s.pending ∧ (evtForceWr a data s).gen = s.gen ∧ (evtForceWr a data s).rot = s.rot ∧ (evtForceWr a data s).ext = s.ext ∧ (evtForceWr a data s).cyc = s.cyc ∧ (evtForceWr a data s).cp = s.cp ∧ (evtForceWr a data s).ang = s.ang ∧ (evtForceWr a data s).pwr = s.pwr := by
  unfold evtForceWr
  (repeat' split) <;> simp [apply_ite State.pending, apply_ite State.gen, apply_ite State.rot, apply_ite State.ext, apply_ite State.cyc, apply_ite State.cp, apply_ite State.ang, apply_ite State.pwr]

/-! ## Machine/LedgRec.lean -/

@[simp] theorem State.ledgStart_keep (s : State) :
    (s.ledgStart).pending = s.pending ∧ (s.ledgStart).gen = s.gen ∧ (s.ledgStart).rot = s.rot ∧ (s.ledgStart).ext = s.ext ∧ (s.ledgStart).cyc = s.cyc ∧ (s.ledgStart).cp = s.cp ∧ (s.ledgStart).ang = s.ang ∧ (s.ledgStart).pwr = s.pwr := by
  unfold State.ledgStart
  simp

@[simp] theorem ledgCmdWr_keep (data : Word) (s : State) :
    (ledgCmdWr data s).pending = s.pending ∧ (ledgCmdWr data s).gen = s.gen ∧ (ledgCmdWr data s).rot = s.rot ∧ (ledgCmdWr data s).ext = s.ext ∧ (ledgCmdWr data s).cyc = s.cyc ∧ (ledgCmdWr data s).cp = s.cp ∧ (ledgCmdWr data s).ang = s.ang ∧ (ledgCmdWr data s).pwr = s.pwr := by
  unfold ledgCmdWr
  simp [apply_ite State.pending, apply_ite State.gen, apply_ite State.rot, apply_ite State.ext, apply_ite State.cyc, apply_ite State.cp, apply_ite State.ang, apply_ite State.pwr]

@[simp] theorem State.ledgLoad_keep (s : State) (r : LedgRes) :
    (s.ledgLoad r).pending = s.pending ∧ (s.ledgLoad r).gen = s.gen ∧ (s.ledgLoad r).rot = s.rot ∧ (s.ledgLoad r).ext = s.ext ∧ (s.ledgLoad r).cyc = s.cyc ∧ (s.ledgLoad r).cp = s.cp ∧ (s.ledgLoad r).ang = s.ang ∧ (s.ledgLoad r).pwr = s.pwr := by
  unfold State.ledgLoad
  simp

@[simp] theorem State.ledgTake_keep (s : State) (x : LedgRun) :
    (s.ledgTake x).pending = s.pending ∧ (s.ledgTake x).gen = s.gen ∧ (s.ledgTake x).rot = s.rot ∧ (s.ledgTake x).ext = s.ext ∧ (s.ledgTake x).cyc = s.cyc ∧ (s.ledgTake x).cp = s.cp ∧ (s.ledgTake x).ang = s.ang ∧ (s.ledgTake x).pwr = s.pwr := by
  unfold State.ledgTake
  simp [apply_ite State.pending, apply_ite State.gen, apply_ite State.rot, apply_ite State.ext, apply_ite State.cyc, apply_ite State.cp, apply_ite State.ang, apply_ite State.pwr]

@[simp] theorem State.ledgFinish_keep (s : State) (res opens : Nat) :
    (s.ledgFinish res opens).pending = s.pending ∧ (s.ledgFinish res opens).gen = s.gen ∧ (s.ledgFinish res opens).rot = s.rot ∧ (s.ledgFinish res opens).ext = s.ext ∧ (s.ledgFinish res opens).cyc = s.cyc ∧ (s.ledgFinish res opens).cp = s.cp ∧ (s.ledgFinish res opens).ang = s.ang := by
  unfold State.ledgFinish
  simp

@[simp] theorem ledgCfgWr_keep (be : BitVec 4) (data : Word) (s : State) :
    (ledgCfgWr be data s).pending = s.pending ∧ (ledgCfgWr be data s).gen = s.gen ∧ (ledgCfgWr be data s).rot = s.rot ∧ (ledgCfgWr be data s).ext = s.ext ∧ (ledgCfgWr be data s).cyc = s.cyc ∧ (ledgCfgWr be data s).cp = s.cp ∧ (ledgCfgWr be data s).ang = s.ang ∧ (ledgCfgWr be data s).pwr = s.pwr := by
  unfold ledgCfgWr
  simp [apply_ite State.pending, apply_ite State.gen, apply_ite State.rot, apply_ite State.ext, apply_ite State.cyc, apply_ite State.cp, apply_ite State.ang, apply_ite State.pwr]

/-! ## Machine/Links.lean -/

@[simp] theorem State.ownMap_keep (s : State) (n : Nat) (f : OwnS → OwnS) :
    (s.ownMap n f).pending = s.pending ∧ (s.ownMap n f).gen = s.gen ∧ (s.ownMap n f).rot = s.rot ∧ (s.ownMap n f).ext = s.ext ∧ (s.ownMap n f).cyc = s.cyc ∧ (s.ownMap n f).cp = s.cp ∧ (s.ownMap n f).ang = s.ang ∧ (s.ownMap n f).pwr = s.pwr := by
  unfold State.ownMap
  simp

@[simp] theorem claimWr_keep (reg : Nat) (be : BitVec 4) (data : Word) (s : State) :
    (claimWr reg be data s).pending = s.pending ∧ (claimWr reg be data s).gen = s.gen ∧ (claimWr reg be data s).rot = s.rot ∧ (claimWr reg be data s).ext = s.ext ∧ (claimWr reg be data s).cyc = s.cyc ∧ (claimWr reg be data s).cp = s.cp ∧ (claimWr reg be data s).ang = s.ang ∧ (claimWr reg be data s).pwr = s.pwr := by
  unfold claimWr
  simp [apply_ite State.pending, apply_ite State.gen, apply_ite State.rot, apply_ite State.ext, apply_ite State.cyc, apply_ite State.cp, apply_ite State.ang, apply_ite State.pwr]

@[simp] theorem State.linkStop_keep (s : State) :
    (s.linkStop).pending = s.pending ∧ (s.linkStop).gen = s.gen ∧ (s.linkStop).rot = s.rot ∧ (s.linkStop).ext = s.ext ∧ (s.linkStop).cyc = s.cyc ∧ (s.linkStop).cp = s.cp ∧ (s.linkStop).ang = s.ang ∧ (s.linkStop).pwr = s.pwr := by
  unfold State.linkStop
  simp

@[simp] theorem xlCtrlWr_keep (be : BitVec 4) (data : Word) (s : State) :
    (xlCtrlWr be data s).pending = s.pending ∧ (xlCtrlWr be data s).gen = s.gen ∧ (xlCtrlWr be data s).rot = s.rot ∧ (xlCtrlWr be data s).ext = s.ext ∧ (xlCtrlWr be data s).cyc = s.cyc ∧ (xlCtrlWr be data s).cp = s.cp ∧ (xlCtrlWr be data s).ang = s.ang ∧ (xlCtrlWr be data s).pwr = s.pwr := by
  unfold xlCtrlWr
  simp [apply_ite State.pending, apply_ite State.gen, apply_ite State.rot, apply_ite State.ext, apply_ite State.cyc, apply_ite State.cp, apply_ite State.ang, apply_ite State.pwr]

@[simp] theorem rfCtrlWr_keep (be : BitVec 4) (data : Word) (s : State) :
    (rfCtrlWr be data s).pending = s.pending ∧ (rfCtrlWr be data s).gen = s.gen ∧ (rfCtrlWr be data s).rot = s.rot ∧ (rfCtrlWr be data s).ext = s.ext ∧ (rfCtrlWr be data s).cyc = s.cyc ∧ (rfCtrlWr be data s).cp = s.cp ∧ (rfCtrlWr be data s).ang = s.ang ∧ (rfCtrlWr be data s).pwr = s.pwr := by
  unfold rfCtrlWr
  simp [apply_ite State.pending, apply_ite State.gen, apply_ite State.rot, apply_ite State.ext, apply_ite State.cyc, apply_ite State.cp, apply_ite State.ang, apply_ite State.pwr]

@[simp] theorem State.partFree_keep (s : State) :
    (s.partFree).pending = s.pending ∧ (s.partFree).gen = s.gen ∧ (s.partFree).rot = s.rot ∧ (s.partFree).ext = s.ext ∧ (s.partFree).cyc = s.cyc ∧ (s.partFree).cp = s.cp ∧ (s.partFree).ang = s.ang ∧ (s.partFree).pwr = s.pwr := by
  unfold State.partFree
  simp

@[simp] theorem State.heldFree_keep (s : State) :
    (s.heldFree).pending = s.pending ∧ (s.heldFree).gen = s.gen ∧ (s.heldFree).rot = s.rot ∧ (s.heldFree).ext = s.ext ∧ (s.heldFree).cyc = s.cyc ∧ (s.heldFree).cp = s.cp ∧ (s.heldFree).ang = s.ang ∧ (s.heldFree).pwr = s.pwr := by
  unfold State.heldFree
  simp

@[simp] theorem State.linkAcked_keep (s : State) (p : LRec → Bool) :
    (s.linkAcked p).pending = s.pending ∧ (s.linkAcked p).gen = s.gen ∧ (s.linkAcked p).rot = s.rot ∧ (s.linkAcked p).ext = s.ext ∧ (s.linkAcked p).cyc = s.cyc ∧ (s.linkAcked p).cp = s.cp ∧ (s.linkAcked p).ang = s.ang ∧ (s.linkAcked p).pwr = s.pwr := by
  unfold State.linkAcked
  simp

@[simp] theorem State.upCheck_keep (s : State) :
    (s.upCheck).pending = s.pending ∧ (s.upCheck).gen = s.gen ∧ (s.upCheck).rot = s.rot ∧ (s.upCheck).ext = s.ext ∧ (s.upCheck).cyc = s.cyc ∧ (s.upCheck).cp = s.cp ∧ (s.upCheck).ang = s.ang ∧ (s.upCheck).pwr = s.pwr := by
  unfold State.upCheck
  simp [apply_ite State.pending, apply_ite State.gen, apply_ite State.rot, apply_ite State.ext, apply_ite State.cyc, apply_ite State.cp, apply_ite State.ang, apply_ite State.pwr]

@[simp] theorem State.linkReturn_keep (s : State) (r : LRec) :
    (s.linkReturn r).pending = s.pending ∧ (s.linkReturn r).gen = s.gen ∧ (s.linkReturn r).rot = s.rot ∧ (s.linkReturn r).ext = s.ext ∧ (s.linkReturn r).cyc = s.cyc ∧ (s.linkReturn r).cp = s.cp ∧ (s.linkReturn r).ang = s.ang ∧ (s.linkReturn r).pwr = s.pwr := by
  unfold State.linkReturn
  simp [apply_ite State.pending, apply_ite State.gen, apply_ite State.rot, apply_ite State.ext, apply_ite State.cyc, apply_ite State.cp, apply_ite State.ang, apply_ite State.pwr]

@[simp] theorem State.linkTake_pending (s : State) (r : LRec) (f : State → State) (h : ∀ t : State, (f t).pending = t.pending) :
    (s.linkTake r f).pending = s.pending := by
  unfold State.linkTake
  dsimp only
  (repeat' split) <;> simp [h]

@[simp] theorem State.linkTake_gen (s : State) (r : LRec) (f : State → State) (h : ∀ t : State, (f t).gen = t.gen) :
    (s.linkTake r f).gen = s.gen := by
  unfold State.linkTake
  dsimp only
  (repeat' split) <;> simp [h]

@[simp] theorem State.linkTake_rot (s : State) (r : LRec) (f : State → State) (h : ∀ t : State, (f t).rot = t.rot) :
    (s.linkTake r f).rot = s.rot := by
  unfold State.linkTake
  dsimp only
  (repeat' split) <;> simp [h]

@[simp] theorem State.linkTake_ext (s : State) (r : LRec) (f : State → State) (h : ∀ t : State, (f t).ext = t.ext) :
    (s.linkTake r f).ext = s.ext := by
  unfold State.linkTake
  dsimp only
  (repeat' split) <;> simp [h]

@[simp] theorem State.linkTake_cyc (s : State) (r : LRec) (f : State → State) (h : ∀ t : State, (f t).cyc = t.cyc) :
    (s.linkTake r f).cyc = s.cyc := by
  unfold State.linkTake
  dsimp only
  (repeat' split) <;> simp [h]

@[simp] theorem State.linkTake_cp (s : State) (r : LRec) (f : State → State) (h : ∀ t : State, (f t).cp = t.cp) :
    (s.linkTake r f).cp = s.cp := by
  unfold State.linkTake
  dsimp only
  (repeat' split) <;> simp [h]

@[simp] theorem State.linkTake_pwr (s : State) (r : LRec) (f : State → State) (h : ∀ t : State, (f t).pwr = t.pwr) :
    (s.linkTake r f).pwr = s.pwr := by
  unfold State.linkTake
  dsimp only
  (repeat' split) <;> simp [h]

@[simp] theorem State.linkForget_keep (s : State) (p : LRec → Bool) :
    (s.linkForget p).pending = s.pending ∧ (s.linkForget p).gen = s.gen ∧ (s.linkForget p).rot = s.rot ∧ (s.linkForget p).ext = s.ext ∧ (s.linkForget p).cyc = s.cyc ∧ (s.linkForget p).cp = s.cp ∧ (s.linkForget p).ang = s.ang ∧ (s.linkForget p).pwr = s.pwr := by
  unfold State.linkForget
  simp

@[simp] theorem State.memberLost_keep (s : State) (m : Nat) :
    (s.memberLost m).pending = s.pending ∧ (s.memberLost m).gen = s.gen ∧ (s.memberLost m).rot = s.rot ∧ (s.memberLost m).ext = s.ext ∧ (s.memberLost m).cyc = s.cyc ∧ (s.memberLost m).cp = s.cp ∧ (s.memberLost m).ang = s.ang ∧ (s.memberLost m).pwr = s.pwr := by
  unfold State.memberLost
  simp

@[simp] theorem State.peerLost_keep (s : State) :
    (s.peerLost).pending = s.pending ∧ (s.peerLost).gen = s.gen ∧ (s.peerLost).rot = s.rot ∧ (s.peerLost).ext = s.ext ∧ (s.peerLost).cyc = s.cyc ∧ (s.peerLost).cp = s.cp ∧ (s.peerLost).ang = s.ang ∧ (s.peerLost).pwr = s.pwr := by
  unfold State.peerLost
  simp [apply_ite State.pending, apply_ite State.gen, apply_ite State.rot, apply_ite State.ext, apply_ite State.cyc, apply_ite State.cp, apply_ite State.ang, apply_ite State.pwr]

@[simp] theorem State.linkLost_keep (s : State) (r : LRec) :
    (s.linkLost r).pending = s.pending ∧ (s.linkLost r).gen = s.gen ∧ (s.linkLost r).rot = s.rot ∧ (s.linkLost r).ext = s.ext ∧ (s.linkLost r).cyc = s.cyc ∧ (s.linkLost r).cp = s.cp ∧ (s.linkLost r).ang = s.ang ∧ (s.linkLost r).pwr = s.pwr := by
  unfold State.linkLost
  simp [apply_ite State.pending, apply_ite State.gen, apply_ite State.rot, apply_ite State.ext, apply_ite State.cyc, apply_ite State.cp, apply_ite State.ang, apply_ite State.pwr]

@[simp] theorem State.hbTaken_keep (s : State) (m : Nat) (grave : Bool) :
    (s.hbTaken m grave).pending = s.pending ∧ (s.hbTaken m grave).gen = s.gen ∧ (s.hbTaken m grave).rot = s.rot ∧ (s.hbTaken m grave).ext = s.ext ∧ (s.hbTaken m grave).cyc = s.cyc ∧ (s.hbTaken m grave).cp = s.cp ∧ (s.hbTaken m grave).ang = s.ang ∧ (s.hbTaken m grave).pwr = s.pwr := by
  unfold State.hbTaken
  simp [apply_ite State.pending, apply_ite State.gen, apply_ite State.rot, apply_ite State.ext, apply_ite State.cyc, apply_ite State.cp, apply_ite State.ang, apply_ite State.pwr]

@[simp] theorem State.slewed_keep (s : State) (far : Bool) :
    (s.slewed far).pending = s.pending ∧ (s.slewed far).gen = s.gen ∧ (s.slewed far).rot = s.rot ∧ (s.slewed far).ext = s.ext ∧ (s.slewed far).cyc = s.cyc ∧ (s.slewed far).cp = s.cp ∧ (s.slewed far).ang = s.ang ∧ (s.slewed far).pwr = s.pwr := by
  unfold State.slewed
  simp [apply_ite State.pending, apply_ite State.gen, apply_ite State.rot, apply_ite State.ext, apply_ite State.cyc, apply_ite State.cp, apply_ite State.ang, apply_ite State.pwr]

@[simp] theorem State.syncSteer_keep (s : State) (theta omega hop : Nat) :
    (s.syncSteer theta omega hop).pending = s.pending ∧ (s.syncSteer theta omega hop).gen = s.gen ∧ (s.syncSteer theta omega hop).rot = s.rot ∧ (s.syncSteer theta omega hop).ext = s.ext ∧ (s.syncSteer theta omega hop).cyc = s.cyc ∧ (s.syncSteer theta omega hop).cp = s.cp ∧ (s.syncSteer theta omega hop).pwr = s.pwr := by
  have h (f : AngS → AngS) (q : Int) (b : Bool) : (((s.angMap f).moveFine q).slewed b).pending = s.pending ∧ (((s.angMap f).moveFine q).slewed b).gen = s.gen ∧ (((s.angMap f).moveFine q).slewed b).rot = s.rot ∧ (((s.angMap f).moveFine q).slewed b).ext = s.ext ∧ (((s.angMap f).moveFine q).slewed b).cyc = s.cyc ∧ (((s.angMap f).moveFine q).slewed b).cp = s.cp ∧ (((s.angMap f).moveFine q).slewed b).pwr = s.pwr := by simp
  exact h _ _ _

@[simp] theorem State.timeOffset_keep (s : State) (ofs : Nat) :
    (s.timeOffset ofs).pending = s.pending ∧ (s.timeOffset ofs).gen = s.gen ∧ (s.timeOffset ofs).rot = s.rot ∧ (s.timeOffset ofs).ext = s.ext ∧ (s.timeOffset ofs).cyc = s.cyc ∧ (s.timeOffset ofs).cp = s.cp ∧ (s.timeOffset ofs).ang = s.ang ∧ (s.timeOffset ofs).pwr = s.pwr := by
  unfold State.timeOffset
  simp

@[simp] theorem State.syncTaken_keep (s : State) (theta omega time : Nat) :
    (s.syncTaken theta omega time).pending = s.pending ∧ (s.syncTaken theta omega time).gen = s.gen ∧ (s.syncTaken theta omega time).rot = s.rot ∧ (s.syncTaken theta omega time).ext = s.ext ∧ (s.syncTaken theta omega time).cyc = s.cyc ∧ (s.syncTaken theta omega time).cp = s.cp ∧ (s.syncTaken theta omega time).pwr = s.pwr := by
  unfold State.syncTaken
  simp [apply_ite State.pending, apply_ite State.gen, apply_ite State.rot, apply_ite State.ext, apply_ite State.cyc, apply_ite State.cp, apply_ite State.pwr]

@[simp] theorem State.mapMirror_keep (s : State) (u : LMap) :
    (s.mapMirror u).pending = s.pending ∧ (s.mapMirror u).gen = s.gen ∧ (s.mapMirror u).rot = s.rot ∧ (s.mapMirror u).ext = s.ext ∧ (s.mapMirror u).cyc = s.cyc ∧ (s.mapMirror u).cp = s.cp ∧ (s.mapMirror u).ang = s.ang ∧ (s.mapMirror u).pwr = s.pwr := by
  unfold State.mapMirror
  simp [apply_ite State.pending, apply_ite State.gen, apply_ite State.rot, apply_ite State.ext, apply_ite State.cyc, apply_ite State.cp, apply_ite State.ang, apply_ite State.pwr]

@[simp] theorem State.tkoMap_keep (s : State) (f : List Nat → List Nat) :
    (s.tkoMap f).pending = s.pending ∧ (s.tkoMap f).gen = s.gen ∧ (s.tkoMap f).rot = s.rot ∧ (s.tkoMap f).ext = s.ext ∧ (s.tkoMap f).cyc = s.cyc ∧ (s.tkoMap f).cp = s.cp ∧ (s.tkoMap f).ang = s.ang ∧ (s.tkoMap f).pwr = s.pwr := by
  unfold State.tkoMap
  simp

@[simp] theorem State.tkoClaim_keep (s : State) :
    (s.tkoClaim).pending = s.pending ∧ (s.tkoClaim).gen = s.gen ∧ (s.tkoClaim).rot = s.rot ∧ (s.tkoClaim).ext = s.ext ∧ (s.tkoClaim).cyc = s.cyc ∧ (s.tkoClaim).cp = s.cp ∧ (s.tkoClaim).ang = s.ang ∧ (s.tkoClaim).pwr = s.pwr := by
  unfold State.tkoClaim
  simp [apply_ite State.pending, apply_ite State.gen, apply_ite State.rot, apply_ite State.ext, apply_ite State.cyc, apply_ite State.cp, apply_ite State.ang, apply_ite State.pwr]

@[simp] theorem State.tkoChannel_keep (s : State) (n : Nat) :
    (s.tkoChannel n).pending = s.pending ∧ (s.tkoChannel n).gen = s.gen ∧ (s.tkoChannel n).rot = s.rot ∧ (s.tkoChannel n).ext = s.ext ∧ (s.tkoChannel n).cyc = s.cyc ∧ (s.tkoChannel n).cp = s.cp ∧ (s.tkoChannel n).ang = s.ang ∧ (s.tkoChannel n).pwr = s.pwr := by
  unfold State.tkoChannel
  simp [apply_ite State.pending, apply_ite State.gen, apply_ite State.rot, apply_ite State.ext, apply_ite State.cyc, apply_ite State.cp, apply_ite State.ang, apply_ite State.pwr]

@[simp] theorem State.tkoHoop_keep (s : State) (h : Nat) :
    (s.tkoHoop h).pending = s.pending ∧ (s.tkoHoop h).gen = s.gen ∧ (s.tkoHoop h).rot = s.rot ∧ (s.tkoHoop h).ext = s.ext ∧ (s.tkoHoop h).cyc = s.cyc ∧ (s.tkoHoop h).cp = s.cp ∧ (s.tkoHoop h).ang = s.ang ∧ (s.tkoHoop h).pwr = s.pwr := by
  unfold State.tkoHoop
  dsimp only
  (repeat' apply And.intro) <;> (repeat' split) <;> simp

@[simp] theorem State.tkoEnd_keep (s : State) :
    (s.tkoEnd).pending = s.pending ∧ (s.tkoEnd).gen = s.gen ∧ (s.tkoEnd).rot = s.rot ∧ (s.tkoEnd).ext = s.ext ∧ (s.tkoEnd).cyc = s.cyc ∧ (s.tkoEnd).cp = s.cp ∧ (s.tkoEnd).ang = s.ang ∧ (s.tkoEnd).pwr = s.pwr := by
  unfold State.tkoEnd
  simp

@[simp] theorem reflCmdWr_keep (data : Word) (s : State) :
    (reflCmdWr data s).pending = s.pending ∧ (reflCmdWr data s).gen = s.gen ∧ (reflCmdWr data s).rot = s.rot ∧ (reflCmdWr data s).ext = s.ext ∧ (reflCmdWr data s).cyc = s.cyc ∧ (reflCmdWr data s).cp = s.cp ∧ (reflCmdWr data s).ang = s.ang ∧ (reflCmdWr data s).pwr = s.pwr := by
  unfold reflCmdWr
  simp [apply_ite State.pending, apply_ite State.gen, apply_ite State.rot, apply_ite State.ext, apply_ite State.cyc, apply_ite State.cp, apply_ite State.ang, apply_ite State.pwr]

/-! ## Machine/Views.lean -/

@[simp] theorem State.sramRead_keep (s : State) (a r w : Nat) :
    (s.sramRead a r w).pending = s.pending ∧ (s.sramRead a r w).gen = s.gen ∧ (s.sramRead a r w).rot = s.rot ∧ (s.sramRead a r w).ext = s.ext ∧ (s.sramRead a r w).cyc = s.cyc ∧ (s.sramRead a r w).ang = s.ang ∧ (s.sramRead a r w).pwr = s.pwr := by
  unfold State.sramRead
  simp [apply_ite State.pending, apply_ite State.gen, apply_ite State.rot, apply_ite State.ext, apply_ite State.cyc, apply_ite State.ang, apply_ite State.pwr]

@[simp] theorem State.cpRead_keep (s : State) (addr : Nat) :
    (s.cpRead addr).pending = s.pending ∧ (s.cpRead addr).gen = s.gen ∧ (s.cpRead addr).rot = s.rot ∧ (s.cpRead addr).ext = s.ext ∧ (s.cpRead addr).cyc = s.cyc ∧ (s.cpRead addr).ang = s.ang ∧ (s.cpRead addr).pwr = s.pwr := by
  unfold State.cpRead
  dsimp only
  (repeat' apply And.intro) <;> (repeat' split) <;> simp

/-! ## Machine/Window.lean -/

@[simp] theorem State.ctxRefused_keep (s : State) (a : Nat) :
    (s.ctxRefused a).pending = s.pending ∧ (s.ctxRefused a).gen = s.gen ∧ (s.ctxRefused a).rot = s.rot ∧ (s.ctxRefused a).ext = s.ext ∧ (s.ctxRefused a).cyc = s.cyc ∧ (s.ctxRefused a).cp = s.cp ∧ (s.ctxRefused a).ang = s.ang ∧ (s.ctxRefused a).pwr = s.pwr := by
  unfold State.ctxRefused
  simp [apply_ite State.pending, apply_ite State.gen, apply_ite State.rot, apply_ite State.ext, apply_ite State.cyc, apply_ite State.cp, apply_ite State.ang, apply_ite State.pwr]

@[simp] theorem State.windowWrite_keep (s : State) (a : Nat) (be : BitVec 4) (data : Word) (port : Bool) :
    (s.windowWrite a be data port).pending = s.pending ∧ (s.windowWrite a be data port).gen = s.gen ∧ (s.windowWrite a be data port).rot = s.rot ∧ (s.windowWrite a be data port).ext = s.ext ∧ (s.windowWrite a be data port).cyc = s.cyc ∧ (s.windowWrite a be data port).cp = s.cp ∧ (s.windowWrite a be data port).ang = s.ang ∧ (s.windowWrite a be data port).pwr = s.pwr := by
  unfold State.windowWrite
  simp [apply_ite State.pending, apply_ite State.gen, apply_ite State.rot, apply_ite State.ext, apply_ite State.cyc, apply_ite State.cp, apply_ite State.ang, apply_ite State.pwr]

@[simp] theorem windowWr_keep (a : Nat) (be : BitVec 4) (data : Word) (s : State) :
    (windowWr a be data s).pending = s.pending ∧ (windowWr a be data s).gen = s.gen ∧ (windowWr a be data s).rot = s.rot ∧ (windowWr a be data s).ext = s.ext ∧ (windowWr a be data s).cyc = s.cyc ∧ (windowWr a be data s).ang = s.ang ∧ (windowWr a be data s).pwr = s.pwr := by
  unfold windowWr
  simp [apply_ite State.pending, apply_ite State.gen, apply_ite State.rot, apply_ite State.ext, apply_ite State.cyc, apply_ite State.ang, apply_ite State.pwr]

/-! ## Machine/Dma.lean -/

@[simp] theorem State.dmaMap_keep (s : State) (c : Nat) (f : DmaCh → DmaCh) :
    (s.dmaMap c f).pending = s.pending ∧ (s.dmaMap c f).gen = s.gen ∧ (s.dmaMap c f).rot = s.rot ∧ (s.dmaMap c f).ext = s.ext ∧ (s.dmaMap c f).cyc = s.cyc ∧ (s.dmaMap c f).cp = s.cp ∧ (s.dmaMap c f).ang = s.ang ∧ (s.dmaMap c f).pwr = s.pwr := by
  unfold State.dmaMap
  simp

@[simp] theorem State.dmaRaise_keep (s : State) (b : Nat) :
    (s.dmaRaise b).pending = s.pending ∧ (s.dmaRaise b).gen = s.gen ∧ (s.dmaRaise b).rot = s.rot ∧ (s.dmaRaise b).ext = s.ext ∧ (s.dmaRaise b).cyc = s.cyc ∧ (s.dmaRaise b).cp = s.cp ∧ (s.dmaRaise b).ang = s.ang ∧ (s.dmaRaise b).pwr = s.pwr := by
  unfold State.dmaRaise
  simp

@[simp] theorem State.dmaRec_keep (s : State) (r tag data st : Nat) :
    (s.dmaRec r tag data st).pending = s.pending ∧ (s.dmaRec r tag data st).gen = s.gen ∧ (s.dmaRec r tag data st).rot = s.rot ∧ (s.dmaRec r tag data st).ext = s.ext ∧ (s.dmaRec r tag data st).cyc = s.cyc ∧ (s.dmaRec r tag data st).cp = s.cp ∧ (s.dmaRec r tag data st).ang = s.ang ∧ (s.dmaRec r tag data st).pwr = s.pwr := by
  unfold State.dmaRec
  simp

@[simp] theorem State.dmaTake_keep (s : State) (c : Nat) :
    (s.dmaTake c).pending = s.pending ∧ (s.dmaTake c).gen = s.gen ∧ (s.dmaTake c).rot = s.rot ∧ (s.dmaTake c).ext = s.ext ∧ (s.dmaTake c).cyc = s.cyc ∧ (s.dmaTake c).cp = s.cp ∧ (s.dmaTake c).ang = s.ang ∧ (s.dmaTake c).pwr = s.pwr := by
  unfold State.dmaTake
  dsimp only
  (repeat' apply And.intro) <;> (repeat' split) <;> simp

@[simp] theorem State.dmaEnd_keep (s : State) (c st data : Nat) :
    (s.dmaEnd c st data).pending = s.pending ∧ (s.dmaEnd c st data).gen = s.gen ∧ (s.dmaEnd c st data).rot = s.rot ∧ (s.dmaEnd c st data).ext = s.ext ∧ (s.dmaEnd c st data).cyc = s.cyc ∧ (s.dmaEnd c st data).cp = s.cp ∧ (s.dmaEnd c st data).ang = s.ang ∧ (s.dmaEnd c st data).pwr = s.pwr := by
  unfold State.dmaEnd
  (repeat' split) <;> simp [apply_ite State.pending, apply_ite State.gen, apply_ite State.rot, apply_ite State.ext, apply_ite State.cyc, apply_ite State.cp, apply_ite State.ang, apply_ite State.pwr]

@[simp] theorem State.dmaSettle_keep (s : State) (c : Nat) :
    (s.dmaSettle c).pending = s.pending ∧ (s.dmaSettle c).gen = s.gen ∧ (s.dmaSettle c).rot = s.rot ∧ (s.dmaSettle c).ext = s.ext ∧ (s.dmaSettle c).cyc = s.cyc ∧ (s.dmaSettle c).cp = s.cp ∧ (s.dmaSettle c).ang = s.ang ∧ (s.dmaSettle c).pwr = s.pwr := by
  unfold State.dmaSettle
  dsimp only
  (repeat' apply And.intro) <;> (repeat' split) <;> simp

@[simp] theorem State.dmaDone_keep (s : State) (c k : Nat) :
    (s.dmaDone c k).pending = s.pending ∧ (s.dmaDone c k).gen = s.gen ∧ (s.dmaDone c k).rot = s.rot ∧ (s.dmaDone c k).ext = s.ext ∧ (s.dmaDone c k).cyc = s.cyc ∧ (s.dmaDone c k).cp = s.cp ∧ (s.dmaDone c k).ang = s.ang ∧ (s.dmaDone c k).pwr = s.pwr := by
  unfold State.dmaDone
  simp

@[simp] theorem State.dmaFail_keep (s : State) (c st : Nat) (data : Option Nat) :
    (s.dmaFail c st data).pending = s.pending ∧ (s.dmaFail c st data).gen = s.gen ∧ (s.dmaFail c st data).rot = s.rot ∧ (s.dmaFail c st data).ext = s.ext ∧ (s.dmaFail c st data).cyc = s.cyc ∧ (s.dmaFail c st data).cp = s.cp ∧ (s.dmaFail c st data).ang = s.ang ∧ (s.dmaFail c st data).pwr = s.pwr := by
  unfold State.dmaFail
  simp

@[simp] theorem State.wordSeen_keep (s : State) (origin w : Nat) :
    (s.wordSeen origin w).pending = s.pending ∧ (s.wordSeen origin w).gen = s.gen ∧ (s.wordSeen origin w).rot = s.rot ∧ (s.wordSeen origin w).ext = s.ext ∧ (s.wordSeen origin w).cyc = s.cyc ∧ (s.wordSeen origin w).cp = s.cp ∧ (s.wordSeen origin w).ang = s.ang ∧ (s.wordSeen origin w).pwr = s.pwr := by
  unfold State.wordSeen
  (repeat' split) <;> simp

@[simp] theorem State.chipGet_keep (s : State) (a n origin : Nat) :
    (s.chipGet a n origin).2.pending = s.pending ∧ (s.chipGet a n origin).2.gen = s.gen ∧ (s.chipGet a n origin).2.rot = s.rot ∧ (s.chipGet a n origin).2.ext = s.ext ∧ (s.chipGet a n origin).2.cyc = s.cyc ∧ (s.chipGet a n origin).2.cp = s.cp ∧ (s.chipGet a n origin).2.ang = s.ang ∧ (s.chipGet a n origin).2.pwr = s.pwr := by
  unfold State.chipGet
  simp

@[simp] theorem State.chipPut_keep (s : State) (a : Nat) (bs : List Byte) :
    (s.chipPut a bs).pending = s.pending ∧ (s.chipPut a bs).gen = s.gen ∧ (s.chipPut a bs).rot = s.rot ∧ (s.chipPut a bs).ext = s.ext ∧ (s.chipPut a bs).cyc = s.cyc ∧ (s.chipPut a bs).cp = s.cp ∧ (s.chipPut a bs).ang = s.ang ∧ (s.chipPut a bs).pwr = s.pwr := by
  unfold State.chipPut
  simp [apply_ite State.pending, apply_ite State.gen, apply_ite State.rot, apply_ite State.ext, apply_ite State.cyc, apply_ite State.cp, apply_ite State.ang, apply_ite State.pwr]

@[simp] theorem State.dmaWrite_keep (s : State) (c port k0 k a : Nat) (bs : List Byte) :
    (s.dmaWrite c port k0 k a bs).pending = s.pending ∧ (s.dmaWrite c port k0 k a bs).gen = s.gen ∧ (s.dmaWrite c port k0 k a bs).rot = s.rot ∧ (s.dmaWrite c port k0 k a bs).ext = s.ext ∧ (s.dmaWrite c port k0 k a bs).cyc = s.cyc ∧ (s.dmaWrite c port k0 k a bs).cp = s.cp ∧ (s.dmaWrite c port k0 k a bs).ang = s.ang ∧ (s.dmaWrite c port k0 k a bs).pwr = s.pwr := by
  unfold State.dmaWrite
  simp

@[simp] theorem State.dmaPut_keep (s : State) (c port : Nat) (on : Bool) (k a : Nat) (bs : List Byte) :
    (s.dmaPut c port on k a bs).pending = s.pending ∧ (s.dmaPut c port on k a bs).gen = s.gen ∧ (s.dmaPut c port on k a bs).rot = s.rot ∧ (s.dmaPut c port on k a bs).ext = s.ext ∧ (s.dmaPut c port on k a bs).cyc = s.cyc ∧ (s.dmaPut c port on k a bs).cp = s.cp ∧ (s.dmaPut c port on k a bs).ang = s.ang ∧ (s.dmaPut c port on k a bs).pwr = s.pwr := by
  unfold State.dmaPut
  simp [apply_ite State.pending, apply_ite State.gen, apply_ite State.rot, apply_ite State.ext, apply_ite State.cyc, apply_ite State.cp, apply_ite State.ang, apply_ite State.pwr]

@[simp] theorem State.tableBurst_keep (s : State) (c : Nat) (d : DmaD) :
    (s.tableBurst c d).pending = s.pending ∧ (s.tableBurst c d).gen = s.gen ∧ (s.tableBurst c d).rot = s.rot ∧ (s.tableBurst c d).ext = s.ext ∧ (s.tableBurst c d).cyc = s.cyc ∧ (s.tableBurst c d).cp = s.cp ∧ (s.tableBurst c d).ang = s.ang ∧ (s.tableBurst c d).pwr = s.pwr := by
  unfold State.tableBurst
  simp

@[simp] theorem State.indexBurst_keep (s : State) (c : Nat) (d : DmaD) :
    (s.indexBurst c d).pending = s.pending ∧ (s.indexBurst c d).gen = s.gen ∧ (s.indexBurst c d).rot = s.rot ∧ (s.indexBurst c d).ext = s.ext ∧ (s.indexBurst c d).cyc = s.cyc ∧ (s.indexBurst c d).cp = s.cp ∧ (s.indexBurst c d).ang = s.ang ∧ (s.indexBurst c d).pwr = s.pwr := by
  unfold State.indexBurst
  simp

@[simp] theorem State.dataBurst_keep (s : State) (c : Nat) (d : DmaD) :
    (s.dataBurst c d).pending = s.pending ∧ (s.dataBurst c d).gen = s.gen ∧ (s.dataBurst c d).rot = s.rot ∧ (s.dataBurst c d).ext = s.ext ∧ (s.dataBurst c d).cyc = s.cyc ∧ (s.dataBurst c d).cp = s.cp ∧ (s.dataBurst c d).ang = s.ang ∧ (s.dataBurst c d).pwr = s.pwr := by
  unfold State.dataBurst
  simp [apply_ite State.pending, apply_ite State.gen, apply_ite State.rot, apply_ite State.ext, apply_ite State.cyc, apply_ite State.cp, apply_ite State.ang, apply_ite State.pwr]

@[simp] theorem State.dmaBurst_keep (s : State) (c : Nat) :
    (s.dmaBurst c).pending = s.pending ∧ (s.dmaBurst c).gen = s.gen ∧ (s.dmaBurst c).rot = s.rot ∧ (s.dmaBurst c).ext = s.ext ∧ (s.dmaBurst c).cyc = s.cyc ∧ (s.dmaBurst c).cp = s.cp ∧ (s.dmaBurst c).ang = s.ang ∧ (s.dmaBurst c).pwr = s.pwr := by
  unfold State.dmaBurst
  simp [apply_ite State.pending, apply_ite State.gen, apply_ite State.rot, apply_ite State.ext, apply_ite State.cyc, apply_ite State.cp, apply_ite State.ang, apply_ite State.pwr]

@[simp] theorem State.dmaErr_keep (s : State) (c : Nat) :
    (s.dmaErr c).pending = s.pending ∧ (s.dmaErr c).gen = s.gen ∧ (s.dmaErr c).rot = s.rot ∧ (s.dmaErr c).ext = s.ext ∧ (s.dmaErr c).cyc = s.cyc ∧ (s.dmaErr c).cp = s.cp ∧ (s.dmaErr c).ang = s.ang ∧ (s.dmaErr c).pwr = s.pwr := by
  unfold State.dmaErr
  simp

@[simp] theorem State.tableGot_keep (s : State) (c pos : Nat) (r : MpRead) :
    (s.tableGot c pos r).pending = s.pending ∧ (s.tableGot c pos r).gen = s.gen ∧ (s.tableGot c pos r).rot = s.rot ∧ (s.tableGot c pos r).ext = s.ext ∧ (s.tableGot c pos r).cyc = s.cyc ∧ (s.tableGot c pos r).cp = s.cp ∧ (s.tableGot c pos r).ang = s.ang ∧ (s.tableGot c pos r).pwr = s.pwr := by
  unfold State.tableGot
  dsimp only
  (repeat' apply And.intro) <;> (repeat' split) <;> simp

@[simp] theorem State.indexGot_keep (s : State) (c j : Nat) (r : MpRead) :
    (s.indexGot c j r).pending = s.pending ∧ (s.indexGot c j r).gen = s.gen ∧ (s.indexGot c j r).rot = s.rot ∧ (s.indexGot c j r).ext = s.ext ∧ (s.indexGot c j r).cyc = s.cyc ∧ (s.indexGot c j r).cp = s.cp ∧ (s.indexGot c j r).ang = s.ang ∧ (s.indexGot c j r).pwr = s.pwr := by
  unfold State.indexGot
  simp [apply_ite State.pending, apply_ite State.gen, apply_ite State.rot, apply_ite State.ext, apply_ite State.cyc, apply_ite State.cp, apply_ite State.ang, apply_ite State.pwr]

@[simp] theorem State.stepsOut_keep (s : State) (c : Nat) (d : DmaD) (y0 : Nat) :
    (s.stepsOut c d y0).pending = s.pending ∧ (s.stepsOut c d y0).gen = s.gen ∧ (s.stepsOut c d y0).rot = s.rot ∧ (s.stepsOut c d y0).ext = s.ext ∧ (s.stepsOut c d y0).cyc = s.cyc ∧ (s.stepsOut c d y0).cp = s.cp ∧ (s.stepsOut c d y0).ang = s.ang ∧ (s.stepsOut c d y0).pwr = s.pwr := by
  induction y0 generalizing s with
  | zero => simp [State.stepsOut]
  | succ n ih =>
    unfold State.stepsOut
    (repeat' split) <;> simp [ih, apply_ite State.pending, apply_ite State.gen, apply_ite State.rot, apply_ite State.ext, apply_ite State.cyc, apply_ite State.cp, apply_ite State.ang, apply_ite State.pwr]

@[simp] theorem State.dataGot_keep (s : State) (c pos n dst : Nat) (r : MpRead) :
    (s.dataGot c pos n dst r).pending = s.pending ∧ (s.dataGot c pos n dst r).gen = s.gen ∧ (s.dataGot c pos n dst r).rot = s.rot ∧ (s.dataGot c pos n dst r).ext = s.ext ∧ (s.dataGot c pos n dst r).cyc = s.cyc ∧ (s.dataGot c pos n dst r).cp = s.cp ∧ (s.dataGot c pos n dst r).ang = s.ang ∧ (s.dataGot c pos n dst r).pwr = s.pwr := by
  unfold State.dataGot
  simp [apply_ite State.pending, apply_ite State.gen, apply_ite State.rot, apply_ite State.ext, apply_ite State.cyc, apply_ite State.cp, apply_ite State.ang, apply_ite State.pwr]

@[simp] theorem State.dmaGot_keep (s : State) (r : MpRead) :
    (s.dmaGot r).pending = s.pending ∧ (s.dmaGot r).gen = s.gen ∧ (s.dmaGot r).rot = s.rot ∧ (s.dmaGot r).ext = s.ext ∧ (s.dmaGot r).cyc = s.cyc ∧ (s.dmaGot r).cp = s.cp ∧ (s.dmaGot r).ang = s.ang ∧ (s.dmaGot r).pwr = s.pwr := by
  unfold State.dmaGot
  (repeat' split) <;> simp

@[simp] theorem State.dmaMode_keep (s : State) (m c : Nat) :
    (s.dmaMode m c).pending = s.pending ∧ (s.dmaMode m c).gen = s.gen ∧ (s.dmaMode m c).rot = s.rot ∧ (s.dmaMode m c).ext = s.ext ∧ (s.dmaMode m c).cyc = s.cyc ∧ (s.dmaMode m c).cp = s.cp ∧ (s.dmaMode m c).ang = s.ang ∧ (s.dmaMode m c).pwr = s.pwr := by
  unfold State.dmaMode
  (repeat' split) <;> simp

@[simp] theorem State.dmaTurn_keep (s : State) (c : Nat) (y0 : Nat) :
    (s.dmaTurn c y0).pending = s.pending ∧ (s.dmaTurn c y0).gen = s.gen ∧ (s.dmaTurn c y0).rot = s.rot ∧ (s.dmaTurn c y0).ext = s.ext ∧ (s.dmaTurn c y0).cyc = s.cyc ∧ (s.dmaTurn c y0).cp = s.cp ∧ (s.dmaTurn c y0).ang = s.ang ∧ (s.dmaTurn c y0).pwr = s.pwr := by
  induction y0 generalizing s with
  | zero => simp [State.dmaTurn]
  | succ n ih =>
    unfold State.dmaTurn
    (repeat' split) <;> simp [ih]

@[simp] theorem dmaCmdWr_keep (c : Nat) (data : Word) (s : State) :
    (dmaCmdWr c data s).pending = s.pending ∧ (dmaCmdWr c data s).gen = s.gen ∧ (dmaCmdWr c data s).rot = s.rot ∧ (dmaCmdWr c data s).ext = s.ext ∧ (dmaCmdWr c data s).cyc = s.cyc ∧ (dmaCmdWr c data s).cp = s.cp ∧ (dmaCmdWr c data s).ang = s.ang ∧ (dmaCmdWr c data s).pwr = s.pwr := by
  unfold dmaCmdWr
  dsimp only
  (repeat' apply And.intro) <;> (repeat' split) <;> simp

/-! ## Machine/Gdt.lean -/

@[simp] theorem State.gdtMap_keep (s : State) (n : Nat) (f : GdtS → GdtS) :
    (s.gdtMap n f).pending = s.pending ∧ (s.gdtMap n f).gen = s.gen ∧ (s.gdtMap n f).rot = s.rot ∧ (s.gdtMap n f).ext = s.ext ∧ (s.gdtMap n f).cyc = s.cyc ∧ (s.gdtMap n f).cp = s.cp ∧ (s.gdtMap n f).ang = s.ang ∧ (s.gdtMap n f).pwr = s.pwr := by
  unfold State.gdtMap
  simp

@[simp] theorem gdtWr_keep (n : Nat) (data : Word) (s : State) :
    (gdtWr n data s).pending = s.pending ∧ (gdtWr n data s).gen = s.gen ∧ (gdtWr n data s).rot = s.rot ∧ (gdtWr n data s).ext = s.ext ∧ (gdtWr n data s).cyc = s.cyc ∧ (gdtWr n data s).cp = s.cp ∧ (gdtWr n data s).ang = s.ang ∧ (gdtWr n data s).pwr = s.pwr := by
  unfold gdtWr
  simp [apply_ite State.pending, apply_ite State.gen, apply_ite State.rot, apply_ite State.ext, apply_ite State.cyc, apply_ite State.cp, apply_ite State.ang, apply_ite State.pwr]

@[simp] theorem State.gdtGot_keep (s : State) (n pos : Nat) (r : MpRead) :
    (s.gdtGot n pos r).pending = s.pending ∧ (s.gdtGot n pos r).gen = s.gen ∧ (s.gdtGot n pos r).rot = s.rot ∧ (s.gdtGot n pos r).ext = s.ext ∧ (s.gdtGot n pos r).cyc = s.cyc ∧ (s.gdtGot n pos r).cp = s.cp ∧ (s.gdtGot n pos r).ang = s.ang ∧ (s.gdtGot n pos r).pwr = s.pwr := by
  unfold State.gdtGot
  simp [apply_ite State.pending, apply_ite State.gen, apply_ite State.rot, apply_ite State.ext, apply_ite State.cyc, apply_ite State.cp, apply_ite State.ang, apply_ite State.pwr]

/-! ## Machine/MemPort.lean -/

@[simp] theorem State.mpErr_keep (s : State) (port : Nat) :
    (s.mpErr port).pending = s.pending ∧ (s.mpErr port).gen = s.gen ∧ (s.mpErr port).rot = s.rot ∧ (s.mpErr port).ext = s.ext ∧ (s.mpErr port).cyc = s.cyc ∧ (s.mpErr port).cp = s.cp ∧ (s.mpErr port).ang = s.ang ∧ (s.mpErr port).pwr = s.pwr := by
  unfold State.mpErr
  simp

@[simp] theorem State.portsDrained_keep (s : State) :
    (s.portsDrained).pending = s.pending ∧ (s.portsDrained).gen = s.gen ∧ (s.portsDrained).rot = s.rot ∧ (s.portsDrained).ext = s.ext ∧ (s.portsDrained).cyc = s.cyc ∧ (s.portsDrained).cp = s.cp ∧ (s.portsDrained).ang = s.ang := by
  unfold State.portsDrained
  simp [apply_ite State.pending, apply_ite State.gen, apply_ite State.rot, apply_ite State.ext, apply_ite State.cyc, apply_ite State.cp, apply_ite State.ang]

@[simp] theorem State.mpEnded_keep (s : State) (r : MpRead) :
    (s.mpEnded r).pending = s.pending ∧ (s.mpEnded r).gen = s.gen ∧ (s.mpEnded r).rot = s.rot ∧ (s.mpEnded r).ext = s.ext ∧ (s.mpEnded r).cyc = s.cyc ∧ (s.mpEnded r).cp = s.cp ∧ (s.mpEnded r).ang = s.ang := by
  unfold State.mpEnded
  (repeat' split) <;> simp

@[simp] theorem State.mpWrote_keep (s : State) (w : MpWrite) :
    (s.mpWrote w).pending = s.pending ∧ (s.mpWrote w).gen = s.gen ∧ (s.mpWrote w).rot = s.rot ∧ (s.mpWrote w).ext = s.ext ∧ (s.mpWrote w).cyc = s.cyc ∧ (s.mpWrote w).cp = s.cp ∧ (s.mpWrote w).ang = s.ang := by
  unfold State.mpWrote
  (repeat' split) <;> simp

/-! ## Machine/Rotor.lean -/

@[simp] theorem State.rotRes_keep (s : State) (r : Nat) :
    (s.rotRes r).pending = s.pending ∧ (s.rotRes r).gen = s.gen ∧ (s.rotRes r).rot = s.rot ∧ (s.rotRes r).ext = s.ext ∧ (s.rotRes r).cyc = s.cyc ∧ (s.rotRes r).cp = s.cp ∧ (s.rotRes r).ang = s.ang ∧ (s.rotRes r).pwr = s.pwr := by
  unfold State.rotRes
  simp

@[simp] theorem State.rotCmd_pending (s : State) (ok : Bool) (f : State → State) (h : ∀ t : State, (f t).pending = t.pending) :
    (s.rotCmd ok f).pending = s.pending := by
  unfold State.rotCmd
  (repeat' split) <;> simp [h]

@[simp] theorem State.rotCmd_gen (s : State) (ok : Bool) (f : State → State) (h : ∀ t : State, (f t).gen = t.gen) :
    (s.rotCmd ok f).gen = s.gen := by
  unfold State.rotCmd
  (repeat' split) <;> simp [h]

@[simp] theorem State.rotCmd_ext (s : State) (ok : Bool) (f : State → State) (h : ∀ t : State, (f t).ext = t.ext) :
    (s.rotCmd ok f).ext = s.ext := by
  unfold State.rotCmd
  (repeat' split) <;> simp [h]

@[simp] theorem State.rotCmd_cyc (s : State) (ok : Bool) (f : State → State) (h : ∀ t : State, (f t).cyc = t.cyc) :
    (s.rotCmd ok f).cyc = s.cyc := by
  unfold State.rotCmd
  (repeat' split) <;> simp [h]

@[simp] theorem State.rotCmd_cp (s : State) (ok : Bool) (f : State → State) (h : ∀ t : State, (f t).cp = t.cp) :
    (s.rotCmd ok f).cp = s.cp := by
  unfold State.rotCmd
  (repeat' split) <;> simp [h]

@[simp] theorem State.rotCmd_ang (s : State) (ok : Bool) (f : State → State) (h : ∀ t : State, (f t).ang = t.ang) :
    (s.rotCmd ok f).ang = s.ang := by
  unfold State.rotCmd
  (repeat' split) <;> simp [h]

@[simp] theorem State.rotCmd_pwr (s : State) (ok : Bool) (f : State → State) (h : ∀ t : State, (f t).pwr = t.pwr) :
    (s.rotCmd ok f).pwr = s.pwr := by
  unfold State.rotCmd
  (repeat' split) <;> simp [h]

@[simp] theorem State.advRead_keep (s : State) :
    (s.advRead).pending = s.pending ∧ (s.advRead).gen = s.gen ∧ (s.advRead).rot = s.rot ∧ (s.advRead).ext = s.ext ∧ (s.advRead).cyc = s.cyc ∧ (s.advRead).cp = s.cp ∧ (s.advRead).ang = s.ang ∧ (s.advRead).pwr = s.pwr := by
  unfold State.advRead
  simp

@[simp] theorem rotStart_keep (s : State) :
    (rotStart s).pending = s.pending ∧ (rotStart s).gen = s.gen ∧ (rotStart s).ext = s.ext ∧ (rotStart s).cyc = s.cyc ∧ (rotStart s).cp = s.cp ∧ (rotStart s).ang = s.ang ∧ (rotStart s).pwr = s.pwr := by
  unfold rotStart
  simp [apply_ite State.pending, apply_ite State.gen, apply_ite State.ext, apply_ite State.cyc, apply_ite State.cp, apply_ite State.ang, apply_ite State.pwr]

@[simp] theorem State.stopNow_keep (s : State) :
    (s.stopNow).pending = s.pending ∧ (s.stopNow).gen = s.gen ∧ (s.stopNow).ext = s.ext ∧ (s.stopNow).cyc = s.cyc ∧ (s.stopNow).cp = s.cp ∧ (s.stopNow).ang = s.ang ∧ (s.stopNow).pwr = s.pwr := by
  unfold State.stopNow
  dsimp only
  (repeat' apply And.intro) <;> (repeat' split) <;> simp

@[simp] theorem rotStop_keep (s : State) :
    (rotStop s).pending = s.pending ∧ (rotStop s).gen = s.gen ∧ (rotStop s).ext = s.ext ∧ (rotStop s).cyc = s.cyc ∧ (rotStop s).cp = s.cp ∧ (rotStop s).ang = s.ang ∧ (rotStop s).pwr = s.pwr := by
  unfold rotStop
  simp

@[simp] theorem rotCoast_keep (s : State) :
    (rotCoast s).pending = s.pending ∧ (rotCoast s).gen = s.gen ∧ (rotCoast s).ext = s.ext ∧ (rotCoast s).cyc = s.cyc ∧ (rotCoast s).cp = s.cp ∧ (rotCoast s).ang = s.ang ∧ (rotCoast s).pwr = s.pwr := by
  unfold rotCoast
  simp

@[simp] theorem rotRun_keep (s : State) :
    (rotRun s).pending = s.pending ∧ (rotRun s).gen = s.gen ∧ (rotRun s).ext = s.ext ∧ (rotRun s).cyc = s.cyc ∧ (rotRun s).cp = s.cp ∧ (rotRun s).ang = s.ang ∧ (rotRun s).pwr = s.pwr := by
  unfold rotRun
  simp

@[simp] theorem State.ocTrip_keep (s : State) :
    (s.ocTrip).pending = s.pending ∧ (s.ocTrip).gen = s.gen ∧ (s.ocTrip).ext = s.ext ∧ (s.ocTrip).cyc = s.cyc ∧ (s.ocTrip).cp = s.cp ∧ (s.ocTrip).ang = s.ang ∧ (s.ocTrip).pwr = s.pwr := by
  unfold State.ocTrip
  simp

@[simp] theorem rotClear_keep (s : State) :
    (rotClear s).pending = s.pending ∧ (rotClear s).gen = s.gen ∧ (rotClear s).ext = s.ext ∧ (rotClear s).cyc = s.cyc ∧ (rotClear s).cp = s.cp ∧ (rotClear s).ang = s.ang ∧ (rotClear s).pwr = s.pwr := by
  unfold rotClear
  simp [apply_ite State.pending, apply_ite State.gen, apply_ite State.ext, apply_ite State.cyc, apply_ite State.cp, apply_ite State.ang, apply_ite State.pwr]

@[simp] theorem rotCmdWr_keep (data : Word) (s : State) :
    (rotCmdWr data s).pending = s.pending ∧ (rotCmdWr data s).gen = s.gen ∧ (rotCmdWr data s).ext = s.ext ∧ (rotCmdWr data s).cyc = s.cyc ∧ (rotCmdWr data s).cp = s.cp ∧ (rotCmdWr data s).ang = s.ang ∧ (rotCmdWr data s).pwr = s.pwr := by
  unfold rotCmdWr
  (repeat' split) <;> simp

@[simp] theorem rotCtrlWr_keep (data : Word) (s : State) :
    (rotCtrlWr data s).pending = s.pending ∧ (rotCtrlWr data s).gen = s.gen ∧ (rotCtrlWr data s).ext = s.ext ∧ (rotCtrlWr data s).cyc = s.cyc ∧ (rotCtrlWr data s).cp = s.cp ∧ (rotCtrlWr data s).ang = s.ang ∧ (rotCtrlWr data s).pwr = s.pwr := by
  unfold rotCtrlWr
  simp [apply_ite State.pending, apply_ite State.gen, apply_ite State.ext, apply_ite State.cyc, apply_ite State.cp, apply_ite State.ang, apply_ite State.pwr]

@[simp] theorem State.turnRound_keep (s : State) :
    (s.turnRound).pending = s.pending ∧ (s.turnRound).gen = s.gen ∧ (s.turnRound).ext = s.ext ∧ (s.turnRound).cyc = s.cyc ∧ (s.turnRound).cp = s.cp ∧ (s.turnRound).ang = s.ang ∧ (s.turnRound).pwr = s.pwr := by
  unfold State.turnRound
  (repeat' split) <;> simp [apply_ite State.pending, apply_ite State.gen, apply_ite State.ext, apply_ite State.cyc, apply_ite State.cp, apply_ite State.ang, apply_ite State.pwr]

@[simp] theorem spdCmdWr_keep (data : Word) (s : State) :
    (spdCmdWr data s).pending = s.pending ∧ (spdCmdWr data s).gen = s.gen ∧ (spdCmdWr data s).ext = s.ext ∧ (spdCmdWr data s).cyc = s.cyc ∧ (spdCmdWr data s).cp = s.cp ∧ (spdCmdWr data s).ang = s.ang ∧ (spdCmdWr data s).pwr = s.pwr := by
  unfold spdCmdWr
  dsimp only
  (repeat' apply And.intro) <;> (repeat' split) <;> simp

@[simp] theorem State.advNote_keep (s : State) (f : Nat) :
    (s.advNote f).pending = s.pending ∧ (s.advNote f).gen = s.gen ∧ (s.advNote f).rot = s.rot ∧ (s.advNote f).ext = s.ext ∧ (s.advNote f).cyc = s.cyc ∧ (s.advNote f).cp = s.cp ∧ (s.advNote f).ang = s.ang ∧ (s.advNote f).pwr = s.pwr := by
  unfold State.advNote
  simp [apply_ite State.pending, apply_ite State.gen, apply_ite State.rot, apply_ite State.ext, apply_ite State.cyc, apply_ite State.cp, apply_ite State.ang, apply_ite State.pwr]

@[simp] theorem State.sectorTimed_keep (s : State) :
    (s.sectorTimed).pending = s.pending ∧ (s.sectorTimed).gen = s.gen ∧ (s.sectorTimed).ext = s.ext ∧ (s.sectorTimed).cyc = s.cyc ∧ (s.sectorTimed).cp = s.cp ∧ (s.sectorTimed).ang = s.ang ∧ (s.sectorTimed).pwr = s.pwr := by
  unfold State.sectorTimed
  (repeat' split) <;> simp

@[simp] theorem State.freeCrossing_keep (s : State) (phase : Nat) (level : Bool) :
    (s.freeCrossing phase level).pending = s.pending ∧ (s.freeCrossing phase level).gen = s.gen ∧ (s.freeCrossing phase level).ext = s.ext ∧ (s.freeCrossing phase level).cyc = s.cyc ∧ (s.freeCrossing phase level).cp = s.cp ∧ (s.freeCrossing phase level).ang = s.ang ∧ (s.freeCrossing phase level).pwr = s.pwr := by
  unfold State.freeCrossing
  simp [apply_ite State.pending, apply_ite State.gen, apply_ite State.ext, apply_ite State.cyc, apply_ite State.cp, apply_ite State.ang, apply_ite State.pwr]

@[simp] theorem State.stepGo_keep (s : State) :
    (s.stepGo).pending = s.pending ∧ (s.stepGo).gen = s.gen ∧ (s.stepGo).ext = s.ext ∧ (s.stepGo).cyc = s.cyc ∧ (s.stepGo).cp = s.cp ∧ (s.stepGo).ang = s.ang ∧ (s.stepGo).pwr = s.pwr := by
  unfold State.stepGo
  simp

@[simp] theorem State.stepCrossing_keep (s : State) :
    (s.stepCrossing).pending = s.pending ∧ (s.stepCrossing).gen = s.gen ∧ (s.stepCrossing).ext = s.ext ∧ (s.stepCrossing).cyc = s.cyc ∧ (s.stepCrossing).cp = s.cp ∧ (s.stepCrossing).ang = s.ang ∧ (s.stepCrossing).pwr = s.pwr := by
  unfold State.stepCrossing
  simp

@[simp] theorem State.catchCrossing_keep (s : State) (phase : Nat) (level : Bool) :
    (s.catchCrossing phase level).pending = s.pending ∧ (s.catchCrossing phase level).gen = s.gen ∧ (s.catchCrossing phase level).ext = s.ext ∧ (s.catchCrossing phase level).cyc = s.cyc ∧ (s.catchCrossing phase level).cp = s.cp ∧ (s.catchCrossing phase level).ang = s.ang ∧ (s.catchCrossing phase level).pwr = s.pwr := by
  unfold State.catchCrossing
  simp [apply_ite State.pending, apply_ite State.gen, apply_ite State.ext, apply_ite State.cyc, apply_ite State.cp, apply_ite State.ang, apply_ite State.pwr]

@[simp] theorem State.stepDuty_keep (s : State) :
    (s.stepDuty).pending = s.pending ∧ (s.stepDuty).gen = s.gen ∧ (s.stepDuty).ext = s.ext ∧ (s.stepDuty).cyc = s.cyc ∧ (s.stepDuty).cp = s.cp ∧ (s.stepDuty).ang = s.ang ∧ (s.stepDuty).pwr = s.pwr := by
  unfold State.stepDuty
  simp

@[simp] theorem State.pwmTick_keep (s : State) :
    (s.pwmTick).pending = s.pending ∧ (s.pwmTick).gen = s.gen ∧ (s.pwmTick).ext = s.ext ∧ (s.pwmTick).cyc = s.cyc ∧ (s.pwmTick).cp = s.cp ∧ (s.pwmTick).ang = s.ang ∧ (s.pwmTick).pwr = s.pwr := by
  unfold State.pwmTick
  (repeat' split) <;> simp [apply_ite State.pending, apply_ite State.gen, apply_ite State.ext, apply_ite State.cyc, apply_ite State.cp, apply_ite State.ang, apply_ite State.pwr]

@[simp] theorem State.keepSample_keep (s : State) (i : Int) (t : Nat) :
    (s.keepSample i t).pending = s.pending ∧ (s.keepSample i t).gen = s.gen ∧ (s.keepSample i t).ext = s.ext ∧ (s.keepSample i t).cyc = s.cyc ∧ (s.keepSample i t).cp = s.cp ∧ (s.keepSample i t).ang = s.ang ∧ (s.keepSample i t).pwr = s.pwr := by
  unfold State.keepSample
  simp

@[simp] theorem State.chopLevel_keep (s : State) (fb : Bool) :
    (s.chopLevel fb).pending = s.pending ∧ (s.chopLevel fb).gen = s.gen ∧ (s.chopLevel fb).ext = s.ext ∧ (s.chopLevel fb).cyc = s.cyc ∧ (s.chopLevel fb).cp = s.cp ∧ (s.chopLevel fb).ang = s.ang ∧ (s.chopLevel fb).pwr = s.pwr := by
  unfold State.chopLevel
  simp [apply_ite State.pending, apply_ite State.gen, apply_ite State.ext, apply_ite State.cyc, apply_ite State.cp, apply_ite State.ang, apply_ite State.pwr]

/-! ## Machine/Port.lean -/

@[simp] theorem trimWr_keep (n o : Nat) (be : BitVec 4) (data : Word) (s : State) :
    (trimWr n o be data s).pending = s.pending ∧ (trimWr n o be data s).gen = s.gen ∧ (trimWr n o be data s).rot = s.rot ∧ (trimWr n o be data s).ext = s.ext ∧ (trimWr n o be data s).cyc = s.cyc ∧ (trimWr n o be data s).cp = s.cp ∧ (trimWr n o be data s).ang = s.ang ∧ (trimWr n o be data s).pwr = s.pwr := by
  unfold trimWr
  simp

@[simp] theorem rotorWr_keep (a : Nat) (be : BitVec 4) (data : Word) (s : State) :
    (rotorWr a be data s).pending = s.pending ∧ (rotorWr a be data s).gen = s.gen ∧ (rotorWr a be data s).ext = s.ext ∧ (rotorWr a be data s).cyc = s.cyc ∧ (rotorWr a be data s).cp = s.cp ∧ (rotorWr a be data s).ang = s.ang ∧ (rotorWr a be data s).pwr = s.pwr := by
  unfold rotorWr
  simp [apply_ite State.pending, apply_ite State.gen, apply_ite State.ext, apply_ite State.cyc, apply_ite State.cp, apply_ite State.ang, apply_ite State.pwr]

@[simp] theorem geomWr_keep (a : Nat) (be : BitVec 4) (data : Word) (s : State) :
    (geomWr a be data s).pending = s.pending ∧ (geomWr a be data s).gen = s.gen ∧ (geomWr a be data s).rot = s.rot ∧ (geomWr a be data s).ext = s.ext ∧ (geomWr a be data s).cyc = s.cyc ∧ (geomWr a be data s).cp = s.cp ∧ (geomWr a be data s).ang = s.ang ∧ (geomWr a be data s).pwr = s.pwr := by
  unfold geomWr
  simp [apply_ite State.pending, apply_ite State.gen, apply_ite State.rot, apply_ite State.ext, apply_ite State.cyc, apply_ite State.cp, apply_ite State.ang, apply_ite State.pwr]

@[simp] theorem calCtrlWr_keep (a : Nat) (be : BitVec 4) (data : Word) (s : State) :
    (calCtrlWr a be data s).pending = s.pending ∧ (calCtrlWr a be data s).gen = s.gen ∧ (calCtrlWr a be data s).rot = s.rot ∧ (calCtrlWr a be data s).ext = s.ext ∧ (calCtrlWr a be data s).cyc = s.cyc ∧ (calCtrlWr a be data s).cp = s.cp ∧ (calCtrlWr a be data s).ang = s.ang ∧ (calCtrlWr a be data s).pwr = s.pwr := by
  unfold calCtrlWr
  simp [apply_ite State.pending, apply_ite State.gen, apply_ite State.rot, apply_ite State.ext, apply_ite State.cyc, apply_ite State.cp, apply_ite State.ang, apply_ite State.pwr]

@[simp] theorem srcCfgWr_keep (n a : Nat) (be : BitVec 4) (data : Word) (s : State) :
    (srcCfgWr n a be data s).pending = s.pending ∧ (srcCfgWr n a be data s).gen = s.gen ∧ (srcCfgWr n a be data s).rot = s.rot ∧ (srcCfgWr n a be data s).ext = s.ext ∧ (srcCfgWr n a be data s).cyc = s.cyc ∧ (srcCfgWr n a be data s).cp = s.cp ∧ (srcCfgWr n a be data s).ang = s.ang ∧ (srcCfgWr n a be data s).pwr = s.pwr := by
  unfold srcCfgWr
  simp [apply_ite State.pending, apply_ite State.gen, apply_ite State.rot, apply_ite State.ext, apply_ite State.cyc, apply_ite State.cp, apply_ite State.ang, apply_ite State.pwr]

@[simp] theorem laneMapWr_keep (n a : Nat) (be : BitVec 4) (data : Word) (s : State) :
    (laneMapWr n a be data s).pending = s.pending ∧ (laneMapWr n a be data s).gen = s.gen ∧ (laneMapWr n a be data s).rot = s.rot ∧ (laneMapWr n a be data s).ext = s.ext ∧ (laneMapWr n a be data s).cyc = s.cyc ∧ (laneMapWr n a be data s).cp = s.cp ∧ (laneMapWr n a be data s).ang = s.ang ∧ (laneMapWr n a be data s).pwr = s.pwr := by
  unfold laneMapWr
  simp [apply_ite State.pending, apply_ite State.gen, apply_ite State.rot, apply_ite State.ext, apply_ite State.cyc, apply_ite State.cp, apply_ite State.ang, apply_ite State.pwr]

@[simp] theorem pageWr_keep (p : Page) (n o a : Nat) (be : BitVec 4) (data d w : Word) (s : State) :
    (pageWr p n o a be data d w s).pending = s.pending ∧ (pageWr p n o a be data d w s).gen = s.gen ∧ (pageWr p n o a be data d w s).ext = s.ext ∧ (pageWr p n o a be data d w s).cyc = s.cyc ∧ (pageWr p n o a be data d w s).cp = s.cp := by
  unfold pageWr
  (repeat' split) <;> simp

@[simp] theorem regWr_keep (a : Nat) (be : BitVec 4) (data : Word) (s : State) :
    (regWr a be data s).pending = s.pending ∧ (regWr a be data s).gen = s.gen ∧ (regWr a be data s).ext = s.ext ∧ (regWr a be data s).cyc = s.cyc ∧ (regWr a be data s).cp = s.cp := by
  unfold regWr
  (repeat' split) <;> simp [apply_ite State.pending, apply_ite State.gen, apply_ite State.ext, apply_ite State.cyc, apply_ite State.cp]

@[simp] theorem cpEffect_keep (a : Nat) (be : BitVec 4) (data : Word) (s : State) :
    (cpEffect a be data s).pending = s.pending ∧ (cpEffect a be data s).gen = s.gen ∧ (cpEffect a be data s).ext = s.ext ∧ (cpEffect a be data s).cyc = s.cyc := by
  unfold cpEffect
  (repeat' split) <;> simp

@[simp] theorem State.cpPump_keep (s : State) :
    (s.cpPump).pending = s.pending ∧ (s.cpPump).gen = s.gen ∧ (s.cpPump).ext = s.ext ∧ (s.cpPump).cyc = s.cyc := by
  unfold State.cpPump
  (repeat' split) <;> simp

/-! ## Machine/Resets.lean -/

@[simp] theorem State.sramReset_keep (s : State) :
    (s.sramReset).pending = s.pending ∧ (s.sramReset).gen = s.gen ∧ (s.sramReset).rot = s.rot ∧ (s.sramReset).ext = s.ext ∧ (s.sramReset).cyc = s.cyc ∧ (s.sramReset).cp = s.cp ∧ (s.sramReset).ang = s.ang ∧ (s.sramReset).pwr = s.pwr := by
  unfold State.sramReset
  simp [apply_ite State.pending, apply_ite State.gen, apply_ite State.rot, apply_ite State.ext, apply_ite State.cyc, apply_ite State.cp, apply_ite State.ang, apply_ite State.pwr]

@[simp] theorem State.chanWarm_keep (s : State) (n : Nat) :
    (s.chanWarm n).pending = s.pending ∧ (s.chanWarm n).gen = s.gen ∧ (s.chanWarm n).rot = s.rot ∧ (s.chanWarm n).ext = s.ext ∧ (s.chanWarm n).cyc = s.cyc ∧ (s.chanWarm n).cp = s.cp ∧ (s.chanWarm n).ang = s.ang ∧ (s.chanWarm n).pwr = s.pwr := by
  unfold State.chanWarm
  simp

@[simp] theorem State.domWarm_keep (s : State) (d : Nat) :
    (s.domWarm d).pending = s.pending ∧ (s.domWarm d).gen = s.gen ∧ (s.domWarm d).rot = s.rot ∧ (s.domWarm d).ext = s.ext ∧ (s.domWarm d).cyc = s.cyc ∧ (s.domWarm d).cp = s.cp ∧ (s.domWarm d).ang = s.ang := by
  unfold State.domWarm
  simp [apply_ite State.pending, apply_ite State.gen, apply_ite State.rot, apply_ite State.ext, apply_ite State.cyc, apply_ite State.cp, apply_ite State.ang]

@[simp] theorem State.rotWarm_keep (s : State) (v : Int) :
    (s.rotWarm v).pending = s.pending ∧ (s.rotWarm v).gen = s.gen ∧ (s.rotWarm v).ext = s.ext ∧ (s.rotWarm v).cyc = s.cyc ∧ (s.rotWarm v).cp = s.cp ∧ (s.rotWarm v).ang = s.ang ∧ (s.rotWarm v).pwr = s.pwr := by
  unfold State.rotWarm
  simp [apply_ite State.pending, apply_ite State.gen, apply_ite State.ext, apply_ite State.cyc, apply_ite State.cp, apply_ite State.ang, apply_ite State.pwr]

/-! ## Machine/Tick.lean -/

@[simp] theorem State.bpCount_keep (s : State) (n : Nat) :
    (s.bpCount n).pending = s.pending ∧ (s.bpCount n).gen = s.gen ∧ (s.bpCount n).rot = s.rot ∧ (s.bpCount n).ext = s.ext ∧ (s.bpCount n).cyc = s.cyc ∧ (s.bpCount n).cp = s.cp ∧ (s.bpCount n).ang = s.ang ∧ (s.bpCount n).pwr = s.pwr := by
  unfold State.bpCount
  simp [apply_ite State.pending, apply_ite State.gen, apply_ite State.rot, apply_ite State.ext, apply_ite State.cyc, apply_ite State.cp, apply_ite State.ang, apply_ite State.pwr]

@[simp] theorem State.stallCount_keep (s : State) (h : Nat) :
    (s.stallCount h).pending = s.pending ∧ (s.stallCount h).gen = s.gen ∧ (s.stallCount h).rot = s.rot ∧ (s.stallCount h).ext = s.ext ∧ (s.stallCount h).cyc = s.cyc ∧ (s.stallCount h).cp = s.cp ∧ (s.stallCount h).ang = s.ang ∧ (s.stallCount h).pwr = s.pwr := by
  unfold State.stallCount
  (repeat' split) <;> simp

end Sys2Proof.Machine
end

