-- ==== Sys2Proof/Laws/KeepGates.lean ====
section
/-!
SUPPORT. The gates of a leg stay apart (02_ports.md R66): through each operation on a gate, and through every operation of the model that
reaches the rotor drive.
-/

namespace Sys2Proof.Machine

theorem Gate.ask_apart (g : Gate) (w : Leg) (dt : Nat) (h : g.apart = true) : (g.ask w dt).apart = true := by
  unfold Gate.ask
  cases w <;> dsimp only <;> (repeat' split) <;> simp_all [Gate.apart]

theorem Gate.tick_apart (g : Gate) (h : g.apart = true) : g.tick.apart = true := by
  unfold Gate.tick
  dsimp only
  (repeat' split) <;> simp_all [Gate.apart]

@[simp] theorem Gates.ask_apart (g : Gates) (u v w : Leg) (dt : Nat) (h : g.apart = true) : (g.ask u v w dt).apart = true := by
  simp only [Gates.apart, Bool.and_eq_true] at h
  simp [Gates.ask, Gates.apart, Gate.ask_apart _ _ _ h.1.1, Gate.ask_apart _ _ _ h.1.2, Gate.ask_apart _ _ _ h.2]

@[simp] theorem Gates.tick_apart (g : Gates) (h : g.apart = true) : g.tick.apart = true := by
  simp only [Gates.apart, Bool.and_eq_true] at h
  simp [Gates.tick, Gates.apart, Gate.tick_apart _ h.1.1, Gate.tick_apart _ h.1.2, Gate.tick_apart _ h.2]

@[simp] theorem foldl_apart {β : Type} (g : State → β → State) (hg : ∀ s x, s.rot.gates.apart = true → (g s x).rot.gates.apart = true)
    (l : List β) (s : State) (h : s.rot.gates.apart = true) : (l.foldl g s).rot.gates.apart = true := by
  induction l generalizing s with
  | nil => exact h
  | cons x l ih => exact ih _ (hg s x h)

@[simp] theorem State.fltRaise_rot (s : State) (b : Nat) : (s.fltRaise b).rot = s.rot := by simp [State.fltRaise]

@[simp] theorem State.logPush_rot (s : State) (e : LogEnt) : (s.logPush e).rot = s.rot := by
  unfold State.logPush
  split <;> simp

@[simp] theorem State.askLegs_apart (s : State) (u v w : Leg) (h : s.rot.gates.apart = true) :
    (s.askLegs u v w).rot.gates.apart = true := by
  unfold State.askLegs
  split <;> simp [h]

@[simp] theorem State.rotCmd_apart (s : State) (ok : Bool) (f : State → State) (h : s.rot.gates.apart = true)
    (hf : ∀ t : State, t.rot.gates.apart = true → (f t).rot.gates.apart = true) : (s.rotCmd ok f).rot.gates.apart = true := by
  unfold State.rotCmd
  (repeat' split) <;> simp [h, hf]

@[simp] theorem State.cpWr_apart (s : State) (a : Nat) (be : BitVec 4) (data : Word) (f : State → State) (h : s.rot.gates.apart = true)
    (hf : ∀ t : State, t.rot.gates.apart = true → (f t).rot.gates.apart = true) : (s.cpWr a be data f).rot.gates.apart = true := by
  unfold State.cpWr
  (repeat' split) <;> simp [h, hf]

@[simp] theorem State.obsMap_apart (s : State) (f : Obs → Obs) (h : s.rot.gates.apart = true) : (s.obsMap f).rot.gates.apart = true := by
  unfold State.obsMap
  simp [h]

@[simp] theorem State.stepMap_apart (s : State) (f : StepS → StepS) (h : s.rot.gates.apart = true) : (s.stepMap f).rot.gates.apart = true := by
  unfold State.stepMap
  simp [h]

@[simp] theorem State.setRot_apart (s : State) (st : RotSt) (h : s.rot.gates.apart = true) : (s.setRot st).rot.gates.apart = true := by
  unfold State.setRot
  (repeat' split) <;> simp [h]

@[simp] theorem State.askVec_apart (s : State) (k : Nat) (h : s.rot.gates.apart = true) : (s.askVec k).rot.gates.apart = true := by
  unfold State.askVec
  simp [h]

@[simp] theorem State.gatesOff_apart (s : State) (h : s.rot.gates.apart = true) : (s.gatesOff).rot.gates.apart = true := by
  unfold State.gatesOff
  simp [h]

@[simp] theorem State.idleGates_apart (s : State) (h : s.rot.gates.apart = true) : (s.idleGates).rot.gates.apart = true := by
  unfold State.idleGates
  (repeat' split) <;> simp [h]

@[simp] theorem State.setChop_apart (s : State) (c : Bool) (h : s.rot.gates.apart = true) : (s.setChop c).rot.gates.apart = true := by
  unfold State.setChop
  rw [State.rotMap_rot]
  split <;> exact h

@[simp] theorem State.goAsc_apart (s : State) (h : s.rot.gates.apart = true) : (s.goAsc).rot.gates.apart = true := by
  unfold State.goAsc
  simp [h]

@[simp] theorem State.goCoast_apart (s : State) (h : s.rot.gates.apart = true) : (s.goCoast).rot.gates.apart = true := by
  unfold State.goCoast
  (repeat' split) <;> simp [h]

@[simp] theorem State.safeOff_apart (s : State) (h : s.rot.gates.apart = true) : (s.safeOff).rot.gates.apart = true := by
  unfold State.safeOff
  (repeat' split) <;> simp [h]

@[simp] theorem State.goOff_apart (s : State) (h : s.rot.gates.apart = true) : (s.goOff).rot.gates.apart = true := by
  unfold State.goOff
  (repeat' split) <;> simp [h]

@[simp] theorem State.safeOffCmd_apart (s : State) (h : s.rot.gates.apart = true) : (s.safeOffCmd).rot.gates.apart = true := by
  unfold State.safeOffCmd
  (repeat' split) <;> simp [h]

@[simp] theorem State.safeOffGrave_apart (s : State) (h : s.rot.gates.apart = true) : (s.safeOffGrave).rot.gates.apart = true := by
  unfold State.safeOffGrave
  (repeat' split) <;> simp [h]

@[simp] theorem State.obsStart_apart (s : State) (elec : Nat) (speedN : Int) (h : s.rot.gates.apart = true) : (s.obsStart elec speedN).rot.gates.apart = true := by
  unfold State.obsStart
  simp [h]

@[simp] theorem State.catchFail_apart (s : State) (h : s.rot.gates.apart = true) : (s.catchFail).rot.gates.apart = true := by
  unfold State.catchFail
  dsimp only
  (repeat' split) <;> simp [h]

@[simp] theorem State.catchRun_apart (s : State) (h : s.rot.gates.apart = true) : (s.catchRun).rot.gates.apart = true := by
  unfold State.catchRun
  simp [h]

@[simp] theorem State.catchStart_apart (s : State) (h : s.rot.gates.apart = true) : (State.catchStart s).rot.gates.apart = true := by
  have h1 : (s.rotMap (fun r => { r with rcOk := 0, rcFailed := false, rcGlint := false })).rot.gates.apart = true := h
  unfold State.catchStart
  generalize s.rotMap _ = s1 at h1
  dsimp only
  have h2 := State.stepMap_apart s1 (fun t => { t with edges := 0, lastZc := none }) h1
  generalize s1.stepMap _ = s2 at h2
  (repeat' split) <;> simp [h2]

@[simp] theorem State.chopStop_apart (s : State) (h : s.rot.gates.apart = true) : (s.chopStop).rot.gates.apart = true := by
  unfold State.chopStop
  dsimp only
  (repeat' split) <;> simp [h]

@[simp] theorem State.goCatch_apart (s : State) (h : s.rot.gates.apart = true) : (State.goCatch s).rot.gates.apart = true := by
  unfold State.goCatch
  have h1 : (if s.rot.chopPend then (s.rotMap (fun r => { r with chopPend := false })).chopStop else s).rot.gates.apart = true := by
    split
    · exact State.chopStop_apart _ h
    · exact h
  generalize (if s.rot.chopPend then _ else s) = s1 at h1
  dsimp only
  split
  · exact h1
  · exact State.catchStart_apart _ (State.idleGates_apart _ (State.setRot_apart _ _ h1))

@[simp] theorem State.shuntStart_apart (s : State) (len : Nat) (h : s.rot.gates.apart = true) : (s.shuntStart len).rot.gates.apart = true := by
  unfold State.shuntStart
  simp [h]

@[simp] theorem State.zeroThen_apart (s : State) (a : AfterZero) (h : s.rot.gates.apart = true) : (s.zeroThen a).rot.gates.apart = true := by
  unfold State.zeroThen
  simp [h]

@[simp] theorem State.rotorPf_apart (s : State) (h : s.rot.gates.apart = true) : (s.rotorPf).rot.gates.apart = true := by
  unfold State.rotorPf
  (repeat' split) <;> simp [h]

@[simp] theorem State.regTarget_apart (s : State) (h : s.rot.gates.apart = true) : (s.regTarget).rot.gates.apart = true := by
  unfold State.regTarget
  dsimp only
  (repeat' split) <;> simp [h]

@[simp] theorem State.askSector_apart (s : State) (h : s.rot.gates.apart = true) : (State.askSector s).rot.gates.apart = true := by
  unfold State.askSector
  dsimp only
  generalize vecLegs (if s.rot.rev then 4 else 1) = p
  obtain ⟨u, v, w⟩ := p
  split
  · split
    · exact State.idleGates_apart _ h
    · exact State.askLegs_apart _ _ _ _ h
  · exact State.askLegs_apart _ _ _ _ h
  · exact State.askLegs_apart _ _ _ _ h
  · exact h

@[simp] theorem State.goAlign_apart (s : State) (ms : Nat) (h : s.rot.gates.apart = true) : (s.goAlign ms).rot.gates.apart = true := by
  unfold State.goAlign
  exact State.askSector_apart _ (State.setRot_apart _ _ (State.stepMap_apart _ _ h))

@[simp] theorem State.stepStart_apart (s : State) (k ts : Nat) (zc : Option Nat) (h : s.rot.gates.apart = true) : (s.stepStart k ts zc).rot.gates.apart = true := by
  unfold State.stepStart
  exact State.askSector_apart _ (State.setRot_apart _ _ (State.shuntStart_apart _ _ (State.stepMap_apart _ _ h)))

@[simp] theorem State.catchInto_apart (s : State) (h : s.rot.gates.apart = true) : (State.catchInto s).rot.gates.apart = true := by
  unfold State.catchInto
  split
  · split <;> simp [h]
  · split <;> exact State.stepStart_apart _ _ _ _ h

@[simp] theorem State.catchDone_apart (s : State) (h : s.rot.gates.apart = true) : (State.catchDone s).rot.gates.apart = true := by
  unfold State.catchDone
  exact State.catchInto_apart _ (State.obsMap_apart _ _ (by simpa using h))

@[simp] theorem State.reconstruct_apart (s : State) (h : s.rot.gates.apart = true) : (State.reconstruct s).rot.gates.apart = true := by
  have h1 : (s.openWins.foldl (fun t w => if s.winMissed w then (t.rotRaise 14).rotCount 8 else t) s).rot.gates.apart = true := by
    refine foldl_apart _ (fun t x ht => ?_) _ _ h
    split <;> simp [ht]
  unfold State.reconstruct
  generalize s.openWins.foldl _ s = s1 at h1
  dsimp only
  (repeat' split) <;> simp [h1]

@[simp] theorem State.stepCurrents_apart (s : State) (h : s.rot.gates.apart = true) : (s.stepCurrents).rot.gates.apart = true := by
  unfold State.stepCurrents
  simp [h]

@[simp] theorem State.observe_apart (s : State) (h : s.rot.gates.apart = true) : (s.observe).rot.gates.apart = true := by
  unfold State.observe
  simp [h]

@[simp] theorem State.syncCount_apart (s : State) (h : s.rot.gates.apart = true) : (s.syncCount).rot.gates.apart = true := by
  unfold State.syncCount
  simp [h]

@[simp] theorem State.rampRef_apart (s : State) (h : s.rot.gates.apart = true) : (s.rampRef).rot.gates.apart = true := by
  unfold State.rampRef
  simp [h]

@[simp] theorem State.torqueRef_apart (s : State) (h : s.rot.gates.apart = true) : (s.torqueRef).2.rot.gates.apart = true := by
  unfold State.torqueRef
  (repeat' split) <;> simp [h]

@[simp] theorem State.planPeriod_apart (s : State) (k : Nat) (h : s.rot.gates.apart = true) : (s.planPeriod k).rot.gates.apart = true := by
  unfold State.planPeriod
  dsimp only
  (repeat' split) <;> simp [h]

@[simp] theorem State.driveVec_apart (s : State) (k : Nat) (h : s.rot.gates.apart = true) : (s.driveVec k).rot.gates.apart = true := by
  unfold State.driveVec
  dsimp only
  (repeat' split) <;> simp [h]

@[simp] theorem State.lossSync_apart (s : State) (prev : Int) (h : s.rot.gates.apart = true) : (s.lossSync prev).rot.gates.apart = true := by
  unfold State.lossSync
  dsimp only
  (repeat' split) <;> simp [h]

@[simp] theorem State.zeroEnd_apart (s : State) (h : s.rot.gates.apart = true) : (State.zeroEnd s).rot.gates.apart = true := by
  unfold State.zeroEnd
  split
  · exact h
  · have h2 := State.safeOff_apart (s.rotMap (fun r => { r with after := .none })) h
    generalize (s.rotMap _).safeOff = s2 at h2
    simp [h2]
  · dsimp only
    have h2 := State.goCatch_apart (s.rotMap (fun r => { r with after := .none })) h
    generalize (s.rotMap _).goCatch = s2 at h2
    split
    · exact State.safeOff_apart _ h2
    · exact h2

@[simp] theorem State.shuntTick_apart (s : State) (h : s.rot.gates.apart = true) : (s.shuntTick).rot.gates.apart = true := by
  unfold State.shuntTick
  dsimp only
  (repeat' split) <;> simp [h]

@[simp] theorem State.nextVec_apart (s : State) (tref : Int) (h : s.rot.gates.apart = true) : (s.nextVec tref).rot.gates.apart = true := by
  unfold State.nextVec
  exact State.driveVec_apart _ _ (State.stepMap_apart _ _ (State.obsMap_apart _ _ h))

@[simp] theorem State.fluxToStep_apart (s : State) (h : s.rot.gates.apart = true) : (State.fluxToStep s).rot.gates.apart = true := by
  unfold State.fluxToStep
  exact State.stepStart_apart _ _ _ _ h

@[simp] theorem State.runVec_apart (s : State) (h : s.rot.gates.apart = true) : (s.runVec).rot.gates.apart = true := by
  unfold State.runVec
  simp [h]

@[simp] theorem State.decideRun_apart (s : State) (h : s.rot.gates.apart = true) : (s.decideRun).rot.gates.apart = true := by
  unfold State.decideRun
  dsimp only
  (repeat' split) <;> simp [h]

@[simp] theorem State.glintSeen_apart (s : State) (h : s.rot.gates.apart = true) : (s.glintSeen).rot.gates.apart = true := by
  unfold State.glintSeen
  (repeat' split) <;> simp [h]

@[simp] theorem State.markTaken_apart (s : State) (k : Nat) (e : Int) (h : s.rot.gates.apart = true) : (s.markTaken k e).rot.gates.apart = true := by
  unfold State.markTaken
  simp [h]

@[simp] theorem State.acquire_apart (s : State) (h : s.rot.gates.apart = true) : (State.acquire s).rot.gates.apart = true := by
  have hh (x : AngS) (k b v : Nat) (q : Int) (t : State) (e : t = { s with ang := x }) :
      ((((t.expect k b).markTaken 0 q).keyMark).slotJump v).rot.gates.apart = true := by
    subst e
    simp [h]
  exact hh _ _ _ _ _ _ rfl

@[simp] theorem State.acceptMark_apart (s : State) (inHalo : Bool) (h : s.rot.gates.apart = true) : (s.acceptMark inHalo).rot.gates.apart = true := by
  unfold State.acceptMark
  dsimp only
  (repeat' split) <;> simp [h]

@[simp] theorem State.trackMark_apart (s : State) (key : Bool) (h : s.rot.gates.apart = true) : (s.trackMark key).rot.gates.apart = true := by
  unfold State.trackMark
  dsimp only
  (repeat' split) <;> simp [h]

@[simp] theorem State.acceptPf_apart (s : State) (h : s.rot.gates.apart = true) : (State.acceptPf s).rot.gates.apart = true := by
  have h1 : ((List.range 13).foldl (fun s d => if (s.dom d).st = .quiescing then s.domSet d .on else s)
      ((s.set R.PWR_STATUS_PF 1).pwrRaise 6)).rotorPf.rot.gates.apart = true := by
    refine State.rotorPf_apart _ (foldl_apart _ (fun t x ht => ?_) _ _ (by simpa using h))
    split <;> simp [ht]
  unfold State.acceptPf
  dsimp only
  split <;> simpa using h1

@[simp] theorem State.pfCheck_apart (s : State) (h : s.rot.gates.apart = true) : (s.pfCheck).rot.gates.apart = true := by
  unfold State.pfCheck
  (repeat' split) <;> simp [h]

@[simp] theorem State.rotReact_apart (s : State) (h : s.rot.gates.apart = true) : (s.rotReact).rot.gates.apart = true := by
  unfold State.rotReact
  (repeat' split) <;> simp [h]

@[simp] theorem pfCmdWr_apart (data : Word) (s : State) (h : s.rot.gates.apart = true) : (pfCmdWr data s).rot.gates.apart = true := by
  unfold pfCmdWr
  dsimp only
  (repeat' split) <;> simp [h]

@[simp] theorem State.goGrave_apart (s : State) (src : Nat) (h : s.rot.gates.apart = true) : (s.goGrave src).rot.gates.apart = true := by
  unfold State.goGrave
  dsimp only
  (repeat' split) <;> simp [h]

@[simp] theorem State.react_apart (s : State) (n : Nat) (h : s.rot.gates.apart = true) : (s.react n).rot.gates.apart = true := by
  unfold State.react
  dsimp only
  (repeat' split) <;> simp [h]

@[simp] theorem State.faultDumped_apart (s : State) (n : Nat) (detail : Word) (h : s.rot.gates.apart = true) : (s.faultDumped n detail).rot.gates.apart = true := by
  unfold State.faultDumped
  (repeat' split) <;> simp [h]

@[simp] theorem State.fault_apart (s : State) (e : FltEv) (h : s.rot.gates.apart = true) : (s.fault e).rot.gates.apart = true := by
  unfold State.fault
  dsimp only
  (repeat' split) <;> simp [h]

@[simp] theorem rotStart_apart (s : State) (h : s.rot.gates.apart = true) : (rotStart s).rot.gates.apart = true := by
  unfold rotStart
  refine State.rotCmd_apart _ _ _ h (fun t ht => ?_)
  have h0 : t.advRead.rot.gates.apart = true := by simpa using ht
  generalize t.advRead = t0 at h0
  dsimp only
  split
  · simp [h0]
  · have h1 : ((t0.rotMap (fun r => { r with rev := t0.flag R.ROTOR_SPD_CMD_DIR })).regTarget).rot.gates.apart = true :=
      State.regTarget_apart _ h0
    generalize (t0.rotMap _).regTarget = t1 at h1
    split
    · exact State.goCatch_apart _ (State.stepMap_apart _ _ h1)
    · exact State.setRot_apart _ _ (State.stepMap_apart _ _ h1)

@[simp] theorem State.stopNow_apart (s : State) (h : s.rot.gates.apart = true) : (s.stopNow).rot.gates.apart = true := by
  unfold State.stopNow
  dsimp only
  (repeat' split) <;> simp [h]

@[simp] theorem rotStop_apart (s : State) (h : s.rot.gates.apart = true) : (rotStop s).rot.gates.apart = true := by
  exact State.rotCmd_apart _ _ _ h State.stopNow_apart

@[simp] theorem rotCoast_apart (s : State) (h : s.rot.gates.apart = true) : (rotCoast s).rot.gates.apart = true := by
  exact State.rotCmd_apart _ _ _ h State.safeOffCmd_apart

@[simp] theorem rotRun_apart (s : State) (h : s.rot.gates.apart = true) : (rotRun s).rot.gates.apart = true := by
  unfold rotRun
  exact State.rotCmd_apart _ _ _ h (fun t ht => State.setRot_apart _ _ (State.obsMap_apart _ _ ht))

@[simp] theorem State.ocTrip_apart (s : State) (h : s.rot.gates.apart = true) : (s.ocTrip).rot.gates.apart = true := by
  unfold State.ocTrip
  simp [h]

theorem State.ite_ocTrip_apart (s : State) (h : s.rot.gates.apart = true) :
    (if s.pins.rotOc then s.ocTrip else s).rot.gates.apart = true := by
  split
  · exact State.ocTrip_apart _ h
  · exact h

@[simp] theorem rotClear_apart (s : State) (h : s.rot.gates.apart = true) : (rotClear s).rot.gates.apart = true := by
  unfold rotClear
  refine State.rotCmd_apart _ _ _ h (fun t ht => ?_)
  have h1 := State.setRot_apart t .off ht
  generalize t.setRot .off = t1 at h1
  have h2 : (if t1.pins.chopFb = t1.rot.chop then
      t1.rotMap (fun r => { r with chopFlt := false, chopPend := false, zeroTq := false }) else t1).rot.gates.apart = true := by
    split <;> exact h1
  exact State.ite_ocTrip_apart _ h2

@[simp] theorem rotCmdWr_apart (data : Word) (s : State) (h : s.rot.gates.apart = true) : (rotCmdWr data s).rot.gates.apart = true := by
  unfold rotCmdWr
  (repeat' split) <;> simp [h]

@[simp] theorem rotCtrlWr_apart (data : Word) (s : State) (h : s.rot.gates.apart = true) : (rotCtrlWr data s).rot.gates.apart = true := by
  unfold rotCtrlWr
  dsimp only
  (repeat' split) <;> simp [h]

@[simp] theorem State.turnRound_apart (s : State) (h : s.rot.gates.apart = true) : (s.turnRound).rot.gates.apart = true := by
  unfold State.turnRound
  dsimp only
  (repeat' split) <;> simp [h]

@[simp] theorem spdCmdWr_apart (data : Word) (s : State) (h : s.rot.gates.apart = true) : (spdCmdWr data s).rot.gates.apart = true := by
  unfold spdCmdWr
  (repeat' split) <;> dsimp only <;> (repeat' split) <;> simp [h]

@[simp] theorem State.sectorTimed_apart (s : State) (h : s.rot.gates.apart = true) : (s.sectorTimed).rot.gates.apart = true := by
  unfold State.sectorTimed
  (repeat' split) <;> simp [h]

@[simp] theorem State.freeCrossing_apart (s : State) (phase : Nat) (level : Bool) (h : s.rot.gates.apart = true) : (s.freeCrossing phase level).rot.gates.apart = true := by
  unfold State.freeCrossing
  dsimp only
  have h1 := State.sectorTimed_apart s h
  generalize s.sectorTimed = s1 at h1
  split
  · exact State.stepMap_apart _ _ (State.stepMap_apart _ _ h1)
  · exact State.stepMap_apart _ _ h1

@[simp] theorem State.stepGo_apart (s : State) (h : s.rot.gates.apart = true) : (s.stepGo).rot.gates.apart = true := by
  unfold State.stepGo
  simp [h]

@[simp] theorem State.stepCrossing_apart (s : State) (h : s.rot.gates.apart = true) : (s.stepCrossing).rot.gates.apart = true := by
  unfold State.stepCrossing
  simp [h]

@[simp] theorem State.catchCrossing_apart (s : State) (phase : Nat) (level : Bool) (h : s.rot.gates.apart = true) : (s.catchCrossing phase level).rot.gates.apart = true := by
  unfold State.catchCrossing
  dsimp only
  have h1 := State.freeCrossing_apart s phase level h
  generalize s.freeCrossing phase level = s1 at h1
  split
  · exact h1
  split
  · exact State.catchFail_apart _ h1
  split
  · have h2 := State.obsStart_apart s1 (s1.midElec s1.rot.step.sector) s1.rot.step.speedN h1
    generalize s1.obsStart _ _ = s2 at h2
    have h3 : (s2.rotMap (fun r => { r with rcOk := 0 })).rot.gates.apart = true := h2
    generalize s2.rotMap _ = s3 at h3
    exact State.catchRun_apart _ h3
  have h2 (f : RotS → RotS) (hf : ∀ r, (f r).gates = r.gates) : (s1.rotMap f).rot.gates.apart = true := by
    rw [State.rotMap_rot, hf]
    exact h1
  replace h2 := h2 _ (fun r => (rfl : RotS.gates { r with rcOk := if decide (2 ≤ s.rot.step.edges) = true then
    (if (!s1.accOver (s1.rot.step.speedN - s.rot.step.speedN) s1.rot.step.ts) = true then r.rcOk + 1 else 0) else r.rcOk } = r.gates))
  generalize s1.rotMap _ = s2 at h2
  split
  · have h3 := State.obsStart_apart s2 (s2.midElec s2.rot.step.sector) s2.rot.step.speedN h2
    generalize s2.obsStart _ _ = s3 at h3
    exact State.stepGo_apart _ (State.catchDone_apart _ h3)
  · exact h2

@[simp] theorem State.stepDuty_apart (s : State) (h : s.rot.gates.apart = true) : (s.stepDuty).rot.gates.apart = true := by
  unfold State.stepDuty
  simp [h]

@[simp] theorem State.pwmTick_apart (s : State) (h : s.rot.gates.apart = true) : (s.pwmTick).rot.gates.apart = true := by
  unfold State.pwmTick
  dsimp only
  (repeat' split) <;> simp [h]

@[simp] theorem State.keepSample_apart (s : State) (i : Int) (t : Nat) (h : s.rot.gates.apart = true) : (s.keepSample i t).rot.gates.apart = true := by
  unfold State.keepSample
  simp [h]

@[simp] theorem State.chopLevel_apart (s : State) (fb : Bool) (h : s.rot.gates.apart = true) : (s.chopLevel fb).rot.gates.apart = true := by
  unfold State.chopLevel
  (repeat' split) <;> simp [h]

@[simp] theorem rotorWr_apart (a : Nat) (be : BitVec 4) (data : Word) (s : State) (h : s.rot.gates.apart = true) : (rotorWr a be data s).rot.gates.apart = true := by
  unfold rotorWr
  dsimp only
  (repeat' split) <;> simp [h]

@[simp] theorem pageWr_apart (p : Page) (n o a : Nat) (be : BitVec 4) (data d w : Word) (s : State) (h : s.rot.gates.apart = true) : (pageWr p n o a be data d w s).rot.gates.apart = true := by
  unfold pageWr
  (repeat' split) <;> simp [h]

@[simp] theorem regWr_apart (a : Nat) (be : BitVec 4) (data : Word) (s : State) (h : s.rot.gates.apart = true) : (regWr a be data s).rot.gates.apart = true := by
  unfold regWr
  dsimp only
  (repeat' split) <;> simp [h]

@[simp] theorem cpEffect_apart (a : Nat) (be : BitVec 4) (data : Word) (s : State) (h : s.rot.gates.apart = true) : (cpEffect a be data s).rot.gates.apart = true := by
  unfold cpEffect
  (repeat' split) <;> simp [h]

@[simp] theorem State.cpPump_apart (s : State) (h : s.rot.gates.apart = true) : (s.cpPump).rot.gates.apart = true := by
  unfold State.cpPump
  dsimp only
  (repeat' split) <;> simp_all

@[simp] theorem State.rotWarm_apart (s : State) (v : Int) (h : s.rot.gates.apart = true) : (s.rotWarm v).rot.gates.apart = true := by
  unfold State.rotWarm
  (repeat' split) <;> simp [h]

end Sys2Proof.Machine
end

