-- ==== Sys2Proof/Laws/Tables.lean ====
section
/-!
SUPPORT. The laws of tables: a read after a write, and that every table operation keeps the canonical form.
-/

namespace Sys2Proof.Machine

variable {α : Type}

theorem tsortedAbove_weaken {lo hi : Nat} (t : Tab α) (h : lo ≤ hi) (w : tsortedAbove hi t = true) : tsortedAbove lo t = true := by
  cases t with
  | nil => rfl
  | cons p t =>
    simp only [tsortedAbove, Bool.and_eq_true, decide_eq_true_eq] at w ⊢
    exact ⟨by omega, w.2⟩

theorem tsorted_of_above {lo : Nat} (t : Tab α) (w : tsortedAbove lo t = true) : tsorted t = true := by
  cases t with
  | nil => rfl
  | cons p t => simp only [tsortedAbove, Bool.and_eq_true] at w; exact w.2

theorem tfind_above {lo k : Nat} (t : Tab α) (w : tsortedAbove lo t = true) (h : k ≤ lo) : tfind t k = none := by
  induction t generalizing lo with
  | nil => rfl
  | cons p t ih =>
    obtain ⟨k', v⟩ := p
    simp only [tsortedAbove, Bool.and_eq_true, decide_eq_true_eq] at w
    have : ¬k' = k := by omega
    simp only [tfind, this, if_false]
    exact ih w.2 (by omega)

theorem tins_above {lo k : Nat} (t : Tab α) (v : α) (w : tsortedAbove lo t = true) (h : lo < k) : tsortedAbove lo (tins t k v) = true := by
  induction t generalizing lo with
  | nil => simp [tins, tsortedAbove, h]
  | cons p t ih =>
    obtain ⟨k', v'⟩ := p
    simp only [tsortedAbove, Bool.and_eq_true, decide_eq_true_eq] at w
    unfold tins
    split
    · simp only [tsortedAbove, Bool.and_eq_true, decide_eq_true_eq]; exact ⟨h, by omega, w.2⟩
    · split
      · subst k'; simp only [tsortedAbove, Bool.and_eq_true, decide_eq_true_eq]; exact ⟨h, w.2⟩
      · simp only [tsortedAbove, Bool.and_eq_true, decide_eq_true_eq]; exact ⟨w.1, ih w.2 (by omega)⟩

theorem tins_sorted {k : Nat} (t : Tab α) (v : α) (w : tsorted t = true) : tsorted (tins t k v) = true := by
  cases t with
  | nil => rfl
  | cons p t =>
    obtain ⟨k', v'⟩ := p
    simp only [tsorted] at w
    unfold tins
    split
    · simp only [tsorted, tsortedAbove, Bool.and_eq_true, decide_eq_true_eq]; exact ⟨by assumption, w⟩
    · split
      · subst k'; exact w
      · exact tins_above t v w (by omega)

theorem tdel_above {lo k : Nat} (t : Tab α) (w : tsortedAbove lo t = true) : tsortedAbove lo (tdel t k) = true := by
  induction t generalizing lo with
  | nil => rfl
  | cons p t ih =>
    obtain ⟨k', v'⟩ := p
    simp only [tsortedAbove, Bool.and_eq_true, decide_eq_true_eq] at w
    unfold tdel
    split
    · exact ih (tsortedAbove_weaken t (by omega) w.2)
    · simp only [tsortedAbove, Bool.and_eq_true, decide_eq_true_eq]; exact ⟨w.1, ih w.2⟩

theorem tdel_sorted {k : Nat} (t : Tab α) (w : tsorted t = true) : tsorted (tdel t k) = true := by
  cases t with
  | nil => rfl
  | cons p t =>
    obtain ⟨k', v'⟩ := p
    unfold tdel
    split
    · exact tsorted_of_above _ (tdel_above t w)
    · exact tdel_above t w

theorem tfind_tins (t : Tab α) (k j : Nat) (v : α) : tfind (tins t k v) j = if j = k then some v else tfind t j := by
  induction t with
  | nil => simp only [tins, tfind, eq_comm]
  | cons p t ih =>
    obtain ⟨k', v'⟩ := p
    unfold tins
    split
    · simp only [tfind, eq_comm]
    · split
      · subst k'
        simp only [tfind, eq_comm]
        split <;> rfl
      · simp only [tfind, ih]
        split
        · subst k'; simp only [right_eq_ite_iff]; omega
        · rfl

theorem tfind_tdel (t : Tab α) (k j : Nat) : tfind (tdel t k) j = if j = k then none else tfind t j := by
  induction t with
  | nil => simp [tdel, tfind]
  | cons p t ih =>
    obtain ⟨k', v'⟩ := p
    unfold tdel
    split
    · subst k'
      rw [ih]
      simp only [tfind, eq_comm]
      split <;> rfl
    · simp only [tfind, ih]
      split
      · subst k'; simp only [right_eq_ite_iff]; omega
      · rfl

/-- A read after a write to a table: the written value at its key, every other key as before. -/
theorem tget_tput [DecidableEq α] (d : Nat → α) (t : Tab α) (k j : Nat) (v : α) :
    tget d (tput d t k v) j = if j = k then v else tget d t j := by
  unfold tget tput
  by_cases h : v = d k
  · simp only [h, if_true, tfind_tdel]; split
    · subst j; rfl
    · rfl
  · simp only [h, if_false, tfind_tins]; split <;> rfl

theorem tget_tput_same [DecidableEq α] (d : Nat → α) (t : Tab α) (k : Nat) (v : α) : tget d (tput d t k v) k = v := by
  simp [tget_tput]

theorem tget_tput_other [DecidableEq α] (d : Nat → α) (t : Tab α) {k j : Nat} (v : α) (h : j ≠ k) :
    tget d (tput d t k v) j = tget d t j := by
  simp [tget_tput, h]

theorem tins_all (t : Tab α) (k : Nat) (v : α) (p : Nat × α → Bool) (h : t.all p = true) (hv : p (k, v) = true) :
    (tins t k v).all p = true := by
  induction t with
  | nil => simp [tins, hv]
  | cons q t ih =>
    obtain ⟨k', v'⟩ := q
    simp only [List.all_cons, Bool.and_eq_true] at h
    unfold tins
    split
    · simp [hv, h.1, h.2]
    · split
      · simp [hv, h.2]
      · simp only [List.all_cons, Bool.and_eq_true]; exact ⟨h.1, ih h.2⟩

theorem tdel_all (t : Tab α) (k : Nat) (p : Nat × α → Bool) (h : t.all p = true) : (tdel t k).all p = true := by
  induction t with
  | nil => rfl
  | cons q t ih =>
    obtain ⟨k', v'⟩ := q
    simp only [List.all_cons, Bool.and_eq_true] at h
    unfold tdel
    split
    · exact ih h.2
    · simp only [List.all_cons, Bool.and_eq_true]; exact ⟨h.1, ih h.2⟩

/-- Every write to a table keeps the canonical form. -/
theorem tput_wf [DecidableEq α] (d : Nat → α) (t : Tab α) (k : Nat) (v : α) (h : twf d t = true) : twf d (tput d t k v) = true := by
  simp only [twf, Bool.and_eq_true] at h ⊢
  unfold tput
  split
  · exact ⟨tdel_sorted t h.1, tdel_all t k _ h.2⟩
  · exact ⟨tins_sorted t v h.1, tins_all t k v _ h.2 (by simpa using ‹_›)⟩

theorem tmod_wf [DecidableEq α] (d : Nat → α) (t : Tab α) (k : Nat) (f : α → α) (h : twf d t = true) :
    twf d (tmod d t k f) = true := tput_wf d t k _ h

/-- A store of bytes keeps the canonical form of a memory. -/
theorem tstore_wf (t : Tab Byte) (a : Nat) (bs : List Byte) (h : Memory.wf t = true) : Memory.wf (tstore t a bs) = true := by
  induction bs generalizing t a with
  | nil => exact h
  | cons b bs ih => exact ih _ _ (tput_wf zeroByte t a b h)

/-- A store of bytes leaves every byte outside the stored ones. -/
theorem tstore_other (t : Tab Byte) (a : Nat) (bs : List Byte) (j : Nat) (h : j < a ∨ a + bs.length ≤ j) :
    tget zeroByte (tstore t a bs) j = tget zeroByte t j := by
  induction bs generalizing t a with
  | nil => rfl
  | cons b bs ih =>
    simp only [List.length_cons] at h
    rw [tstore, ih _ _ (by omega), tget_tput_other _ _ _ (by omega)]

/-- Byte `i` of stored bytes reads back. -/
theorem tstore_same (t : Tab Byte) (a i : Nat) (bs : List Byte) (h : i < bs.length) :
    tget zeroByte (tstore t a bs) (a + i) = bs[i] := by
  induction bs generalizing t a i with
  | nil => simp at h
  | cons b bs ih =>
    rw [tstore]
    cases i with
    | zero => rw [tstore_other _ _ _ _ (Or.inl (by omega))]; exact tget_tput_same _ _ _ _
    | succ i =>
      have := ih (tput zeroByte t a b) (a + 1) i (by simpa using h)
      rw [show a + (i + 1) = a + 1 + i by omega, this]; rfl

/-- Reset memory is in canonical form. -/
theorem reset_ext_wf : Memory.wf State.reset.ext = true := by decide

end Sys2Proof.Machine
end

