-- ==== Sys2Proof/Laws/Regs.lean ====
section
/-!
SUPPORT. What a write of a register word or of a field leaves in every word and field.
-/

namespace Sys2Proof.Machine

/-- A word read after a word written. -/
theorem State.rd_wr (s : State) (a b : Nat) (v : Word) : (s.wr a v).rd b = if b = a then v else s.rd b :=
  tget_tput resetVal s.regs a b v

@[simp] theorem State.rd_wr_same (s : State) (a : Nat) (v : Word) : (s.wr a v).rd a = v := by simp [State.rd_wr]

theorem State.rd_wr_other (s : State) {a b : Nat} (v : Word) (h : b ≠ a) : (s.wr a v).rd b = s.rd b := by simp [State.rd_wr, h]

/-- Bit `i` of a word with a field replaced. -/
theorem putBits_getLsbD (w : Word) (lsb wid v i : Nat) (h : lsb + wid ≤ 32) :
    (putBits w lsb wid v).getLsbD i =
      if lsb ≤ i ∧ i < lsb + wid then v.testBit (i - lsb) else w.getLsbD i := by
  by_cases hi : i < 32
  · have e1 : (2 ^ wid - 1) * 2 ^ lsb = (2 ^ wid - 1) <<< lsb := by rw [Nat.shiftLeft_eq]
    have e2 : v % 2 ^ wid * 2 ^ lsb = (v % 2 ^ wid) <<< lsb := by rw [Nat.shiftLeft_eq]
    simp only [putBits, BitVec.getLsbD_or, BitVec.getLsbD_and, BitVec.getLsbD_not, BitVec.getLsbD_ofNat, hi, decide_true,
      Bool.true_and, e1, e2, Nat.testBit_shiftLeft, Nat.testBit_two_pow_sub_one, Nat.testBit_mod_two_pow]
    by_cases h1 : lsb ≤ i
    · by_cases h2 : i < lsb + wid
      · have h3 : i - lsb < wid := by omega
        simp [h1, h2, h3]
      · have h3 : ¬ i - lsb < wid := by omega
        simp [h1, h2, h3]
    · simp [h1]
  · have h2 : ¬ (lsb ≤ i ∧ i < lsb + wid) := by omega
    rw [BitVec.getLsbD_of_ge _ _ (by omega), if_neg h2, BitVec.getLsbD_of_ge _ _ (by omega)]

theorem bits_testBit (v lsb w i : Nat) : (bits v lsb w).testBit i = (decide (i < w) && v.testBit (lsb + i)) := by
  unfold bits
  rw [Nat.testBit_mod_two_pow, Nat.testBit_div_two_pow, Nat.add_comm]

/-- A field read after it was set. -/
theorem State.get_set_same (s : State) (f : Fld) (v : Nat) (h : f.lsb + f.wid ≤ 32) : (s.set f v).get f = v % 2 ^ f.wid := by
  apply Nat.eq_of_testBit_eq
  intro i
  rw [State.get, State.set, State.rd_wr_same, bits_testBit, Nat.testBit_mod_two_pow]
  by_cases hi : i < f.wid
  · rw [← BitVec.getLsbD, putBits_getLsbD _ _ _ _ _ h, if_pos (by omega)]
    simp [hi]
  · simp [hi]

/-- A field of another word after a field was set. -/
theorem State.get_set_other (s : State) {f g : Fld} (v : Nat) (h : g.addr ≠ f.addr) : (s.set f v).get g = s.get g := by
  simp [State.get, State.set, State.rd_wr_other _ _ h]

/-- A field of the same word that lies apart from the field set. -/
theorem State.get_set_apart (s : State) {f g : Fld} (v : Nat) (h : f.lsb + f.wid ≤ 32)
    (d : g.lsb + g.wid ≤ f.lsb ∨ f.lsb + f.wid ≤ g.lsb) : (s.set f v).get g = s.get g := by
  by_cases ha : g.addr = f.addr
  · apply Nat.eq_of_testBit_eq
    intro i
    rw [State.get, State.get, State.set, ha, State.rd_wr_same, bits_testBit, bits_testBit]
    by_cases hi : i < g.wid
    · rw [← BitVec.getLsbD, ← BitVec.getLsbD, putBits_getLsbD _ _ _ _ _ h, if_neg (by omega)]
    · simp [hi]
  · exact State.get_set_other s v ha

/-- A word other than the one a field lies in. -/
theorem State.rd_set_other (s : State) (f : Fld) (v : Nat) {a : Nat} (h : a ≠ f.addr) : (s.set f v).rd a = s.rd a :=
  State.rd_wr_other _ _ h

end Sys2Proof.Machine
end

