-- ==== Sys2Proof/Laws/Port.lean ====
section
/-!
SUPPORT. The control port's four answers to a write; what a raised event, a counted fault and a counter leave.
-/

namespace Sys2Proof.Machine

/-- A write that the port takes has its effect. -/
theorem State.cpWr_taken (s : State) (a : Nat) (be : BitVec 4) (data : Word) (f : State → State) (h : s.portTakes a) :
    s.cpWr a be data f = f s := by
  obtain ⟨hr, d, hd, hp⟩ := h
  simp [State.cpWr, hr, hd, hp]

/-- A write while the port is not ready is held. -/
theorem State.cpWr_held (s : State) (a : Nat) (be : BitVec 4) (data : Word) (f : State → State) (h : s.cpReady = false) :
    s.cpWr a be data f = { s with cp := { s.cp with held := some ⟨true, BitVec.ofNat 24 a, be, data⟩ } } := by
  simp [State.cpWr, h]

/-- A write to an address that no present page or window holds changes nothing. -/
theorem State.cpWr_absent (s : State) (a : Nat) (be : BitVec 4) (data : Word) (f : State → State) (hr : s.cpReady = true)
    (h : s.addrDom a = none) : s.cpWr a be data f = s := by
  simp [State.cpWr, hr, h]

/-- A write to a powered-down domain is an OFF_ACCESS. -/
theorem State.cpWr_off (s : State) (a d : Nat) (be : BitVec 4) (data : Word) (f : State → State) (hr : s.cpReady = true)
    (h : s.addrDom a = some d) (hp : s.powered d = false) : s.cpWr a be data f = s.offAccess a := by
  simp [State.cpWr, hr, h, hp]

/-- A word after an event is raised. -/
theorem State.rd_raise (s : State) (p : Page) (n b a : Nat) :
    (s.raise p n b).rd a = if a = pageBase p n + 0x10 then s.rd a ||| (1#32 <<< b) else s.rd a := by
  unfold State.raise
  dsimp only
  split <;> (rw [State.rd_wr]; split <;> simp_all [State.rd])

/-- The bits of `EVT_RAW` after an event of the page is raised. -/
theorem State.event_raise (s : State) (p : Page) (n b i : Nat) (hi : i < 32) :
    (s.raise p n b).event p n i = (s.event p n i || decide (i = b)) := by
  unfold State.event
  rw [State.rd_raise, if_pos rfl, BitVec.getLsbD_or]
  congr 1
  by_cases h : i = b
  · subst h
    simp [hi]
  · have : ¬ (i - b = 0 ∧ b ≤ i) := by omega
    simp [hi, h]
    omega

/-- An event raised touches its page's `EVT_RAW` and the pulse lines alone. -/
theorem State.raise_frame (s : State) (p : Page) (n b : Nat) :
    s.raise p n b = { s with regs := (s.raise p n b).regs, pins := (s.raise p n b).pins } := by
  unfold State.raise
  dsimp only
  split <;> rfl

/-- An event at a present source is on its way to the collector, and nothing else changes. -/
theorem State.count_present (s : State) (src d : Nat) (h : s.srcPresent src = true) :
    s.count src d = { s with flt := { s.flt with inflight := s.flt.inflight ++ [⟨src, BitVec.ofNat 32 d, s.cyc, false⟩] } } := by
  simp [State.count, h]

/-- A counted event touches the collector alone. -/
theorem State.count_frame (s : State) (src d : Nat) : s.count src d = { s with flt := (s.count src d).flt } := by
  unfold State.count
  split <;> rfl

@[simp] theorem State.rd_count (s : State) (src d a : Nat) : (s.count src d).rd a = s.rd a := by
  unfold State.count
  split <;> rfl

/-- A field set touches the register words alone. -/
theorem State.set_frame (s : State) (f : Fld) (v : Nat) : s.set f v = { s with regs := (s.set f v).regs } := rfl

/-- A field of a word other than `EVT_RAW` after an event. -/
theorem State.get_raise (s : State) (p : Page) (n b : Nat) (f : Fld) (h : f.addr ≠ pageBase p n + 0x10) :
    (s.raise p n b).get f = s.get f := by
  simp [State.get, State.rd_raise, h]

@[simp] theorem State.get_count (s : State) (src d : Nat) (f : Fld) : (s.count src d).get f = s.get f := by
  simp [State.get]

end Sys2Proof.Machine
end

