-- ==== Sys2Proof/Laws/Parts.lean ====
section
/-!
SUPPORT. What a part of the state reads as after a change of a part of its kind; register words through changes of other parts;
every field through an event, a counted fault and a counter.
-/

namespace Sys2Proof.Machine

theorem tget_tmod {α : Type} [DecidableEq α] (d : Nat → α) (t : Tab α) (k j : Nat) (f : α → α) :
    tget d (tmod d t k f) j = if j = k then f (tget d t k) else tget d t j := tget_tput d t k j _

@[simp] theorem State.ch_chMap (s : State) (n k : Nat) (f : ChS → ChS) :
    (s.chMap n f).ch k = if k = n then f (s.ch n) else s.ch k := tget_tmod _ _ _ _ _

@[simp] theorem State.grp_grpMap (s : State) (n k : Nat) (f : GrpS → GrpS) :
    (s.grpMap n f).grp k = if k = n then f (s.grp n) else s.grp k := tget_tmod _ _ _ _ _

@[simp] theorem State.hoop_hoopMap (s : State) (n k : Nat) (f : HoopS → HoopS) :
    (s.hoopMap n f).hoop k = if k = n then f (s.hoop n) else s.hoop k := tget_tmod _ _ _ _ _

@[simp] theorem State.lane_laneMap (s : State) (n k : Nat) (f : LaneS → LaneS) :
    (s.laneMap n f).lane k = if k = n then f (s.lane n) else s.lane k := tget_tmod _ _ _ _ _

@[simp] theorem State.dom_domMap (s : State) (n k : Nat) (f : DomS → DomS) :
    (s.domMap n f).dom k = if k = n then f (s.dom n) else s.dom k := tget_tmod _ _ _ _ _

@[simp] theorem State.src_srcMap (s : State) (n k : Nat) (f : SrcS → SrcS) :
    (s.srcMap n f).src k = if k = n then f (s.src n) else s.src k := tget_tmod _ _ _ _ _

@[simp] theorem State.ring_ringMap (s : State) (n k : Nat) (f : RingS → RingS) :
    (s.ringMap n f).ring k = if k = n then f (s.ring n) else s.ring k := tget_tmod _ _ _ _ _

@[simp] theorem State.dmaCh_dmaMap (s : State) (n k : Nat) (f : DmaCh → DmaCh) :
    (s.dmaMap n f).dmaCh k = if k = n then f (s.dmaCh n) else s.dmaCh k := tget_tmod _ _ _ _ _

@[simp] theorem State.lun_lunMap (s : State) (n l n' l' : Nat) (f : LunS → LunS) :
    (s.lunMap n l f).lun n' l' = if n' * 16 + l' = n * 16 + l then f (s.lun n l) else s.lun n' l' := tget_tmod _ _ _ _ _

@[simp] theorem State.place_placeMap (s : State) (n p q : Nat) (f : PlaceS → PlaceS) :
    (s.placeMap n p f).place n q = if q = p then f (s.place n p) else s.place n q := by
  unfold State.place State.placeMap
  rw [State.ch_chMap, if_pos rfl]
  exact tget_tmod _ _ _ _ _

@[simp] theorem State.rd_chMap (s : State) (n : Nat) (f : ChS → ChS) (a : Nat) : (s.chMap n f).rd a = s.rd a := (rfl)
@[simp] theorem State.get_chMap (s : State) (n : Nat) (f : ChS → ChS) (g : Fld) : (s.chMap n f).get g = s.get g := (rfl)
@[simp] theorem State.flag_chMap (s : State) (n : Nat) (f : ChS → ChS) (g : Fld) : (s.chMap n f).flag g = s.flag g := (rfl)
@[simp] theorem State.event_chMap (s : State) (n : Nat) (f : ChS → ChS) (pg : Page) (i j : Nat) : (s.chMap n f).event pg i j = s.event pg i j := (rfl)
@[simp] theorem State.rd_lunMap (s : State) (n l : Nat) (f : LunS → LunS) (a : Nat) : (s.lunMap n l f).rd a = s.rd a := (rfl)
@[simp] theorem State.get_lunMap (s : State) (n l : Nat) (f : LunS → LunS) (g : Fld) : (s.lunMap n l f).get g = s.get g := (rfl)
@[simp] theorem State.flag_lunMap (s : State) (n l : Nat) (f : LunS → LunS) (g : Fld) : (s.lunMap n l f).flag g = s.flag g := (rfl)
@[simp] theorem State.event_lunMap (s : State) (n l : Nat) (f : LunS → LunS) (pg : Page) (i j : Nat) : (s.lunMap n l f).event pg i j = s.event pg i j := (rfl)
@[simp] theorem State.rd_grpMap (s : State) (n : Nat) (f : GrpS → GrpS) (a : Nat) : (s.grpMap n f).rd a = s.rd a := (rfl)
@[simp] theorem State.get_grpMap (s : State) (n : Nat) (f : GrpS → GrpS) (g : Fld) : (s.grpMap n f).get g = s.get g := (rfl)
@[simp] theorem State.flag_grpMap (s : State) (n : Nat) (f : GrpS → GrpS) (g : Fld) : (s.grpMap n f).flag g = s.flag g := (rfl)
@[simp] theorem State.event_grpMap (s : State) (n : Nat) (f : GrpS → GrpS) (pg : Page) (i j : Nat) : (s.grpMap n f).event pg i j = s.event pg i j := (rfl)
@[simp] theorem State.rd_hoopMap (s : State) (n : Nat) (f : HoopS → HoopS) (a : Nat) : (s.hoopMap n f).rd a = s.rd a := (rfl)
@[simp] theorem State.get_hoopMap (s : State) (n : Nat) (f : HoopS → HoopS) (g : Fld) : (s.hoopMap n f).get g = s.get g := (rfl)
@[simp] theorem State.flag_hoopMap (s : State) (n : Nat) (f : HoopS → HoopS) (g : Fld) : (s.hoopMap n f).flag g = s.flag g := (rfl)
@[simp] theorem State.event_hoopMap (s : State) (n : Nat) (f : HoopS → HoopS) (pg : Page) (i j : Nat) : (s.hoopMap n f).event pg i j = s.event pg i j := (rfl)
@[simp] theorem State.rd_laneMap (s : State) (n : Nat) (f : LaneS → LaneS) (a : Nat) : (s.laneMap n f).rd a = s.rd a := (rfl)
@[simp] theorem State.get_laneMap (s : State) (n : Nat) (f : LaneS → LaneS) (g : Fld) : (s.laneMap n f).get g = s.get g := (rfl)
@[simp] theorem State.flag_laneMap (s : State) (n : Nat) (f : LaneS → LaneS) (g : Fld) : (s.laneMap n f).flag g = s.flag g := (rfl)
@[simp] theorem State.event_laneMap (s : State) (n : Nat) (f : LaneS → LaneS) (pg : Page) (i j : Nat) : (s.laneMap n f).event pg i j = s.event pg i j := (rfl)
@[simp] theorem State.rd_domMap (s : State) (n : Nat) (f : DomS → DomS) (a : Nat) : (s.domMap n f).rd a = s.rd a := (rfl)
@[simp] theorem State.get_domMap (s : State) (n : Nat) (f : DomS → DomS) (g : Fld) : (s.domMap n f).get g = s.get g := (rfl)
@[simp] theorem State.flag_domMap (s : State) (n : Nat) (f : DomS → DomS) (g : Fld) : (s.domMap n f).flag g = s.flag g := (rfl)
@[simp] theorem State.event_domMap (s : State) (n : Nat) (f : DomS → DomS) (pg : Page) (i j : Nat) : (s.domMap n f).event pg i j = s.event pg i j := (rfl)
@[simp] theorem State.rd_srcMap (s : State) (n : Nat) (f : SrcS → SrcS) (a : Nat) : (s.srcMap n f).rd a = s.rd a := (rfl)
@[simp] theorem State.get_srcMap (s : State) (n : Nat) (f : SrcS → SrcS) (g : Fld) : (s.srcMap n f).get g = s.get g := (rfl)
@[simp] theorem State.flag_srcMap (s : State) (n : Nat) (f : SrcS → SrcS) (g : Fld) : (s.srcMap n f).flag g = s.flag g := (rfl)
@[simp] theorem State.event_srcMap (s : State) (n : Nat) (f : SrcS → SrcS) (pg : Page) (i j : Nat) : (s.srcMap n f).event pg i j = s.event pg i j := (rfl)
@[simp] theorem State.rd_ringMap (s : State) (n : Nat) (f : RingS → RingS) (a : Nat) : (s.ringMap n f).rd a = s.rd a := (rfl)
@[simp] theorem State.get_ringMap (s : State) (n : Nat) (f : RingS → RingS) (g : Fld) : (s.ringMap n f).get g = s.get g := (rfl)
@[simp] theorem State.flag_ringMap (s : State) (n : Nat) (f : RingS → RingS) (g : Fld) : (s.ringMap n f).flag g = s.flag g := (rfl)
@[simp] theorem State.event_ringMap (s : State) (n : Nat) (f : RingS → RingS) (pg : Page) (i j : Nat) : (s.ringMap n f).event pg i j = s.event pg i j := (rfl)
@[simp] theorem State.rd_dmaMap (s : State) (n : Nat) (f : DmaCh → DmaCh) (a : Nat) : (s.dmaMap n f).rd a = s.rd a := (rfl)
@[simp] theorem State.get_dmaMap (s : State) (n : Nat) (f : DmaCh → DmaCh) (g : Fld) : (s.dmaMap n f).get g = s.get g := (rfl)
@[simp] theorem State.flag_dmaMap (s : State) (n : Nat) (f : DmaCh → DmaCh) (g : Fld) : (s.dmaMap n f).flag g = s.flag g := (rfl)
@[simp] theorem State.event_dmaMap (s : State) (n : Nat) (f : DmaCh → DmaCh) (pg : Page) (i j : Nat) : (s.dmaMap n f).event pg i j = s.event pg i j := (rfl)
@[simp] theorem State.rd_placeMap (s : State) (n p : Nat) (f : PlaceS → PlaceS) (a : Nat) : (s.placeMap n p f).rd a = s.rd a := (rfl)
@[simp] theorem State.get_placeMap (s : State) (n p : Nat) (f : PlaceS → PlaceS) (g : Fld) : (s.placeMap n p f).get g = s.get g := (rfl)
@[simp] theorem State.flag_placeMap (s : State) (n p : Nat) (f : PlaceS → PlaceS) (g : Fld) : (s.placeMap n p f).flag g = s.flag g := (rfl)
@[simp] theorem State.event_placeMap (s : State) (n p : Nat) (f : PlaceS → PlaceS) (pg : Page) (i j : Nat) : (s.placeMap n p f).event pg i j = s.event pg i j := (rfl)
@[simp] theorem State.rd_ctxMap (s : State) (n : Nat) (f : CtxS → CtxS) (a : Nat) : (s.ctxMap n f).rd a = s.rd a := (rfl)
@[simp] theorem State.get_ctxMap (s : State) (n : Nat) (f : CtxS → CtxS) (g : Fld) : (s.ctxMap n f).get g = s.get g := (rfl)
@[simp] theorem State.flag_ctxMap (s : State) (n : Nat) (f : CtxS → CtxS) (g : Fld) : (s.ctxMap n f).flag g = s.flag g := (rfl)
@[simp] theorem State.event_ctxMap (s : State) (n : Nat) (f : CtxS → CtxS) (pg : Page) (i j : Nat) : (s.ctxMap n f).event pg i j = s.event pg i j := (rfl)
@[simp] theorem State.rd_phyMap (s : State) (n : Nat) (f : PhyS → PhyS) (a : Nat) : (s.phyMap n f).rd a = s.rd a := (rfl)
@[simp] theorem State.get_phyMap (s : State) (n : Nat) (f : PhyS → PhyS) (g : Fld) : (s.phyMap n f).get g = s.get g := (rfl)
@[simp] theorem State.flag_phyMap (s : State) (n : Nat) (f : PhyS → PhyS) (g : Fld) : (s.phyMap n f).flag g = s.flag g := (rfl)
@[simp] theorem State.event_phyMap (s : State) (n : Nat) (f : PhyS → PhyS) (pg : Page) (i j : Nat) : (s.phyMap n f).event pg i j = s.event pg i j := (rfl)
@[simp] theorem State.rd_engMap (s : State) (n : Nat) (f : EngS → EngS) (a : Nat) : (s.engMap n f).rd a = s.rd a := (rfl)
@[simp] theorem State.get_engMap (s : State) (n : Nat) (f : EngS → EngS) (g : Fld) : (s.engMap n f).get g = s.get g := (rfl)
@[simp] theorem State.flag_engMap (s : State) (n : Nat) (f : EngS → EngS) (g : Fld) : (s.engMap n f).flag g = s.flag g := (rfl)
@[simp] theorem State.event_engMap (s : State) (n : Nat) (f : EngS → EngS) (pg : Page) (i j : Nat) : (s.engMap n f).event pg i j = s.event pg i j := (rfl)
@[simp] theorem State.rd_ledgMap (s : State) (n : Nat) (f : LedgS → LedgS) (a : Nat) : (s.ledgMap n f).rd a = s.rd a := (rfl)
@[simp] theorem State.get_ledgMap (s : State) (n : Nat) (f : LedgS → LedgS) (g : Fld) : (s.ledgMap n f).get g = s.get g := (rfl)
@[simp] theorem State.flag_ledgMap (s : State) (n : Nat) (f : LedgS → LedgS) (g : Fld) : (s.ledgMap n f).flag g = s.flag g := (rfl)
@[simp] theorem State.event_ledgMap (s : State) (n : Nat) (f : LedgS → LedgS) (pg : Page) (i j : Nat) : (s.ledgMap n f).event pg i j = s.event pg i j := (rfl)
@[simp] theorem State.rd_ownMap (s : State) (n : Nat) (f : OwnS → OwnS) (a : Nat) : (s.ownMap n f).rd a = s.rd a := (rfl)
@[simp] theorem State.get_ownMap (s : State) (n : Nat) (f : OwnS → OwnS) (g : Fld) : (s.ownMap n f).get g = s.get g := (rfl)
@[simp] theorem State.flag_ownMap (s : State) (n : Nat) (f : OwnS → OwnS) (g : Fld) : (s.ownMap n f).flag g = s.flag g := (rfl)
@[simp] theorem State.event_ownMap (s : State) (n : Nat) (f : OwnS → OwnS) (pg : Page) (i j : Nat) : (s.ownMap n f).event pg i j = s.event pg i j := (rfl)
@[simp] theorem State.rd_angMap (s : State) (f : AngS → AngS) (a : Nat) : (s.angMap f).rd a = s.rd a := (rfl)
@[simp] theorem State.get_angMap (s : State) (f : AngS → AngS) (g : Fld) : (s.angMap f).get g = s.get g := (rfl)
@[simp] theorem State.flag_angMap (s : State) (f : AngS → AngS) (g : Fld) : (s.angMap f).flag g = s.flag g := (rfl)
@[simp] theorem State.event_angMap (s : State) (f : AngS → AngS) (pg : Page) (i j : Nat) : (s.angMap f).event pg i j = s.event pg i j := (rfl)
@[simp] theorem State.rd_rotMap (s : State) (f : RotS → RotS) (a : Nat) : (s.rotMap f).rd a = s.rd a := (rfl)
@[simp] theorem State.get_rotMap (s : State) (f : RotS → RotS) (g : Fld) : (s.rotMap f).get g = s.get g := (rfl)
@[simp] theorem State.flag_rotMap (s : State) (f : RotS → RotS) (g : Fld) : (s.rotMap f).flag g = s.flag g := (rfl)
@[simp] theorem State.event_rotMap (s : State) (f : RotS → RotS) (pg : Page) (i j : Nat) : (s.rotMap f).event pg i j = s.event pg i j := (rfl)
@[simp] theorem State.rd_obsMap (s : State) (f : Obs → Obs) (a : Nat) : (s.obsMap f).rd a = s.rd a := (rfl)
@[simp] theorem State.get_obsMap (s : State) (f : Obs → Obs) (g : Fld) : (s.obsMap f).get g = s.get g := (rfl)
@[simp] theorem State.flag_obsMap (s : State) (f : Obs → Obs) (g : Fld) : (s.obsMap f).flag g = s.flag g := (rfl)
@[simp] theorem State.event_obsMap (s : State) (f : Obs → Obs) (pg : Page) (i j : Nat) : (s.obsMap f).event pg i j = s.event pg i j := (rfl)
@[simp] theorem State.rd_stepMap (s : State) (f : StepS → StepS) (a : Nat) : (s.stepMap f).rd a = s.rd a := (rfl)
@[simp] theorem State.get_stepMap (s : State) (f : StepS → StepS) (g : Fld) : (s.stepMap f).get g = s.get g := (rfl)
@[simp] theorem State.flag_stepMap (s : State) (f : StepS → StepS) (g : Fld) : (s.stepMap f).flag g = s.flag g := (rfl)
@[simp] theorem State.event_stepMap (s : State) (f : StepS → StepS) (pg : Page) (i j : Nat) : (s.stepMap f).event pg i j = s.event pg i j := (rfl)
@[simp] theorem State.rd_laceMap (s : State) (f : LaceS → LaceS) (a : Nat) : (s.laceMap f).rd a = s.rd a := (rfl)
@[simp] theorem State.get_laceMap (s : State) (f : LaceS → LaceS) (g : Fld) : (s.laceMap f).get g = s.get g := (rfl)
@[simp] theorem State.flag_laceMap (s : State) (f : LaceS → LaceS) (g : Fld) : (s.laceMap f).flag g = s.flag g := (rfl)
@[simp] theorem State.event_laceMap (s : State) (f : LaceS → LaceS) (pg : Page) (i j : Nat) : (s.laceMap f).event pg i j = s.event pg i j := (rfl)
@[simp] theorem State.rd_lnkMap (s : State) (f : LinkS → LinkS) (a : Nat) : (s.lnkMap f).rd a = s.rd a := (rfl)
@[simp] theorem State.get_lnkMap (s : State) (f : LinkS → LinkS) (g : Fld) : (s.lnkMap f).get g = s.get g := (rfl)
@[simp] theorem State.flag_lnkMap (s : State) (f : LinkS → LinkS) (g : Fld) : (s.lnkMap f).flag g = s.flag g := (rfl)
@[simp] theorem State.event_lnkMap (s : State) (f : LinkS → LinkS) (pg : Page) (i j : Nat) : (s.lnkMap f).event pg i j = s.event pg i j := (rfl)
@[simp] theorem State.rd_mapMap (s : State) (f : MapS → MapS) (a : Nat) : (s.mapMap f).rd a = s.rd a := (rfl)
@[simp] theorem State.get_mapMap (s : State) (f : MapS → MapS) (g : Fld) : (s.mapMap f).get g = s.get g := (rfl)
@[simp] theorem State.flag_mapMap (s : State) (f : MapS → MapS) (g : Fld) : (s.mapMap f).flag g = s.flag g := (rfl)
@[simp] theorem State.event_mapMap (s : State) (f : MapS → MapS) (pg : Page) (i j : Nat) : (s.mapMap f).event pg i j = s.event pg i j := (rfl)
@[simp] theorem State.rd_decMap (s : State) (f : DecS → DecS) (a : Nat) : (s.decMap f).rd a = s.rd a := (rfl)
@[simp] theorem State.get_decMap (s : State) (f : DecS → DecS) (g : Fld) : (s.decMap f).get g = s.get g := (rfl)
@[simp] theorem State.flag_decMap (s : State) (f : DecS → DecS) (g : Fld) : (s.decMap f).flag g = s.flag g := (rfl)
@[simp] theorem State.event_decMap (s : State) (f : DecS → DecS) (pg : Page) (i j : Nat) : (s.decMap f).event pg i j = s.event pg i j := (rfl)
@[simp] theorem State.rd_rcvMap (s : State) (f : RecS → RecS) (a : Nat) : (s.rcvMap f).rd a = s.rd a := (rfl)
@[simp] theorem State.get_rcvMap (s : State) (f : RecS → RecS) (g : Fld) : (s.rcvMap f).get g = s.get g := (rfl)
@[simp] theorem State.flag_rcvMap (s : State) (f : RecS → RecS) (g : Fld) : (s.rcvMap f).flag g = s.flag g := (rfl)
@[simp] theorem State.event_rcvMap (s : State) (f : RecS → RecS) (pg : Page) (i j : Nat) : (s.rcvMap f).event pg i j = s.event pg i j := (rfl)
@[simp] theorem State.rd_rngMap (s : State) (f : RngS → RngS) (a : Nat) : (s.rngMap f).rd a = s.rd a := (rfl)
@[simp] theorem State.get_rngMap (s : State) (f : RngS → RngS) (g : Fld) : (s.rngMap f).get g = s.get g := (rfl)
@[simp] theorem State.flag_rngMap (s : State) (f : RngS → RngS) (g : Fld) : (s.rngMap f).flag g = s.flag g := (rfl)
@[simp] theorem State.event_rngMap (s : State) (f : RngS → RngS) (pg : Page) (i j : Nat) : (s.rngMap f).event pg i j = s.event pg i j := (rfl)

@[simp] theorem State.raise_free (s : State) (p : Page) (n b : Nat) : (s.raise p n b).free = s.free := by rw [State.raise_frame]
@[simp] theorem State.raise_sram (s : State) (p : Page) (n b : Nat) : (s.raise p n b).sram = s.sram := by rw [State.raise_frame]
@[simp] theorem State.raise_epochs (s : State) (p : Page) (n b : Nat) : (s.raise p n b).epochs = s.epochs := by rw [State.raise_frame]
@[simp] theorem State.raise_mp (s : State) (p : Page) (n b : Nat) : (s.raise p n b).mp = s.mp := by rw [State.raise_frame]
@[simp] theorem State.raise_flt (s : State) (p : Page) (n b : Nat) : (s.raise p n b).flt = s.flt := by rw [State.raise_frame]
@[simp] theorem State.raise_memi (s : State) (p : Page) (n b : Nat) : (s.raise p n b).memi = s.memi := by rw [State.raise_frame]
@[simp] theorem State.raise_chans (s : State) (p : Page) (n b : Nat) : (s.raise p n b).chans = s.chans := by rw [State.raise_frame]
@[simp] theorem State.raise_luns (s : State) (p : Page) (n b : Nat) : (s.raise p n b).luns = s.luns := by rw [State.raise_frame]
@[simp] theorem State.raise_grps (s : State) (p : Page) (n b : Nat) : (s.raise p n b).grps = s.grps := by rw [State.raise_frame]
@[simp] theorem State.raise_tbuf (s : State) (p : Page) (n b : Nat) : (s.raise p n b).tbuf = s.tbuf := by rw [State.raise_frame]
@[simp] theorem State.raise_map (s : State) (p : Page) (n b : Nat) : (s.raise p n b).map = s.map := by rw [State.raise_frame]
@[simp] theorem State.raise_strms (s : State) (p : Page) (n b : Nat) : (s.raise p n b).strms = s.strms := by rw [State.raise_frame]
@[simp] theorem State.raise_hoops (s : State) (p : Page) (n b : Nat) : (s.raise p n b).hoops = s.hoops := by rw [State.raise_frame]
@[simp] theorem State.raise_lace (s : State) (p : Page) (n b : Nat) : (s.raise p n b).lace = s.lace := by rw [State.raise_frame]
@[simp] theorem State.raise_dec (s : State) (p : Page) (n b : Nat) : (s.raise p n b).dec = s.dec := by rw [State.raise_frame]
@[simp] theorem State.raise_rcv (s : State) (p : Page) (n b : Nat) : (s.raise p n b).rcv = s.rcv := by rw [State.raise_frame]
@[simp] theorem State.raise_lanes (s : State) (p : Page) (n b : Nat) : (s.raise p n b).lanes = s.lanes := by rw [State.raise_frame]
@[simp] theorem State.raise_spool (s : State) (p : Page) (n b : Nat) : (s.raise p n b).spool = s.spool := by rw [State.raise_frame]
@[simp] theorem State.raise_rng (s : State) (p : Page) (n b : Nat) : (s.raise p n b).rng = s.rng := by rw [State.raise_frame]
@[simp] theorem State.raise_lnk (s : State) (p : Page) (n b : Nat) : (s.raise p n b).lnk = s.lnk := by rw [State.raise_frame]

@[simp] theorem State.count_free (s : State) (src d : Nat) : (s.count src d).free = s.free := by rw [State.count_frame]
@[simp] theorem State.count_pins (s : State) (src d : Nat) : (s.count src d).pins = s.pins := by rw [State.count_frame]
@[simp] theorem State.count_regs (s : State) (src d : Nat) : (s.count src d).regs = s.regs := by rw [State.count_frame]
@[simp] theorem State.count_sram (s : State) (src d : Nat) : (s.count src d).sram = s.sram := by rw [State.count_frame]
@[simp] theorem State.count_epochs (s : State) (src d : Nat) : (s.count src d).epochs = s.epochs := by rw [State.count_frame]
@[simp] theorem State.count_mp (s : State) (src d : Nat) : (s.count src d).mp = s.mp := by rw [State.count_frame]
@[simp] theorem State.count_memi (s : State) (src d : Nat) : (s.count src d).memi = s.memi := by rw [State.count_frame]
@[simp] theorem State.count_chans (s : State) (src d : Nat) : (s.count src d).chans = s.chans := by rw [State.count_frame]
@[simp] theorem State.count_luns (s : State) (src d : Nat) : (s.count src d).luns = s.luns := by rw [State.count_frame]
@[simp] theorem State.count_grps (s : State) (src d : Nat) : (s.count src d).grps = s.grps := by rw [State.count_frame]
@[simp] theorem State.count_tbuf (s : State) (src d : Nat) : (s.count src d).tbuf = s.tbuf := by rw [State.count_frame]
@[simp] theorem State.count_map (s : State) (src d : Nat) : (s.count src d).map = s.map := by rw [State.count_frame]
@[simp] theorem State.count_strms (s : State) (src d : Nat) : (s.count src d).strms = s.strms := by rw [State.count_frame]
@[simp] theorem State.count_hoops (s : State) (src d : Nat) : (s.count src d).hoops = s.hoops := by rw [State.count_frame]
@[simp] theorem State.count_lace (s : State) (src d : Nat) : (s.count src d).lace = s.lace := by rw [State.count_frame]
@[simp] theorem State.count_dec (s : State) (src d : Nat) : (s.count src d).dec = s.dec := by rw [State.count_frame]
@[simp] theorem State.count_rcv (s : State) (src d : Nat) : (s.count src d).rcv = s.rcv := by rw [State.count_frame]
@[simp] theorem State.count_lanes (s : State) (src d : Nat) : (s.count src d).lanes = s.lanes := by rw [State.count_frame]
@[simp] theorem State.count_spool (s : State) (src d : Nat) : (s.count src d).spool = s.spool := by rw [State.count_frame]
@[simp] theorem State.count_rng (s : State) (src d : Nat) : (s.count src d).rng = s.rng := by rw [State.count_frame]
@[simp] theorem State.count_lnk (s : State) (src d : Nat) : (s.count src d).lnk = s.lnk := by rw [State.count_frame]

@[simp] theorem State.bumpBy_free (s : State) (g : Fld) (k : Nat) : (s.bumpBy g k).free = s.free := (rfl)
@[simp] theorem State.bumpBy_pins (s : State) (g : Fld) (k : Nat) : (s.bumpBy g k).pins = s.pins := (rfl)
@[simp] theorem State.bumpBy_sram (s : State) (g : Fld) (k : Nat) : (s.bumpBy g k).sram = s.sram := (rfl)
@[simp] theorem State.bumpBy_epochs (s : State) (g : Fld) (k : Nat) : (s.bumpBy g k).epochs = s.epochs := (rfl)
@[simp] theorem State.bumpBy_mp (s : State) (g : Fld) (k : Nat) : (s.bumpBy g k).mp = s.mp := (rfl)
@[simp] theorem State.bumpBy_flt (s : State) (g : Fld) (k : Nat) : (s.bumpBy g k).flt = s.flt := (rfl)
@[simp] theorem State.bumpBy_memi (s : State) (g : Fld) (k : Nat) : (s.bumpBy g k).memi = s.memi := (rfl)
@[simp] theorem State.bumpBy_chans (s : State) (g : Fld) (k : Nat) : (s.bumpBy g k).chans = s.chans := (rfl)
@[simp] theorem State.bumpBy_luns (s : State) (g : Fld) (k : Nat) : (s.bumpBy g k).luns = s.luns := (rfl)
@[simp] theorem State.bumpBy_grps (s : State) (g : Fld) (k : Nat) : (s.bumpBy g k).grps = s.grps := (rfl)
@[simp] theorem State.bumpBy_tbuf (s : State) (g : Fld) (k : Nat) : (s.bumpBy g k).tbuf = s.tbuf := (rfl)
@[simp] theorem State.bumpBy_map (s : State) (g : Fld) (k : Nat) : (s.bumpBy g k).map = s.map := (rfl)
@[simp] theorem State.bumpBy_strms (s : State) (g : Fld) (k : Nat) : (s.bumpBy g k).strms = s.strms := (rfl)
@[simp] theorem State.bumpBy_hoops (s : State) (g : Fld) (k : Nat) : (s.bumpBy g k).hoops = s.hoops := (rfl)
@[simp] theorem State.bumpBy_lace (s : State) (g : Fld) (k : Nat) : (s.bumpBy g k).lace = s.lace := (rfl)
@[simp] theorem State.bumpBy_dec (s : State) (g : Fld) (k : Nat) : (s.bumpBy g k).dec = s.dec := (rfl)
@[simp] theorem State.bumpBy_rcv (s : State) (g : Fld) (k : Nat) : (s.bumpBy g k).rcv = s.rcv := (rfl)
@[simp] theorem State.bumpBy_lanes (s : State) (g : Fld) (k : Nat) : (s.bumpBy g k).lanes = s.lanes := (rfl)
@[simp] theorem State.bumpBy_spool (s : State) (g : Fld) (k : Nat) : (s.bumpBy g k).spool = s.spool := (rfl)
@[simp] theorem State.bumpBy_rng (s : State) (g : Fld) (k : Nat) : (s.bumpBy g k).rng = s.rng := (rfl)
@[simp] theorem State.bumpBy_lnk (s : State) (g : Fld) (k : Nat) : (s.bumpBy g k).lnk = s.lnk := (rfl)

@[simp] theorem State.bump_free (s : State) (g : Fld) : (s.bump g).free = s.free := (rfl)
@[simp] theorem State.bump_pins (s : State) (g : Fld) : (s.bump g).pins = s.pins := (rfl)
@[simp] theorem State.bump_sram (s : State) (g : Fld) : (s.bump g).sram = s.sram := (rfl)
@[simp] theorem State.bump_epochs (s : State) (g : Fld) : (s.bump g).epochs = s.epochs := (rfl)
@[simp] theorem State.bump_mp (s : State) (g : Fld) : (s.bump g).mp = s.mp := (rfl)
@[simp] theorem State.bump_flt (s : State) (g : Fld) : (s.bump g).flt = s.flt := (rfl)
@[simp] theorem State.bump_memi (s : State) (g : Fld) : (s.bump g).memi = s.memi := (rfl)
@[simp] theorem State.bump_chans (s : State) (g : Fld) : (s.bump g).chans = s.chans := (rfl)
@[simp] theorem State.bump_luns (s : State) (g : Fld) : (s.bump g).luns = s.luns := (rfl)
@[simp] theorem State.bump_grps (s : State) (g : Fld) : (s.bump g).grps = s.grps := (rfl)
@[simp] theorem State.bump_tbuf (s : State) (g : Fld) : (s.bump g).tbuf = s.tbuf := (rfl)
@[simp] theorem State.bump_map (s : State) (g : Fld) : (s.bump g).map = s.map := (rfl)
@[simp] theorem State.bump_strms (s : State) (g : Fld) : (s.bump g).strms = s.strms := (rfl)
@[simp] theorem State.bump_hoops (s : State) (g : Fld) : (s.bump g).hoops = s.hoops := (rfl)
@[simp] theorem State.bump_lace (s : State) (g : Fld) : (s.bump g).lace = s.lace := (rfl)
@[simp] theorem State.bump_dec (s : State) (g : Fld) : (s.bump g).dec = s.dec := (rfl)
@[simp] theorem State.bump_rcv (s : State) (g : Fld) : (s.bump g).rcv = s.rcv := (rfl)
@[simp] theorem State.bump_lanes (s : State) (g : Fld) : (s.bump g).lanes = s.lanes := (rfl)
@[simp] theorem State.bump_spool (s : State) (g : Fld) : (s.bump g).spool = s.spool := (rfl)
@[simp] theorem State.bump_rng (s : State) (g : Fld) : (s.bump g).rng = s.rng := (rfl)
@[simp] theorem State.bump_lnk (s : State) (g : Fld) : (s.bump g).lnk = s.lnk := (rfl)

@[simp] theorem State.bumpWrap_free (s : State) (g : Fld) : (s.bumpWrap g).free = s.free := (rfl)
@[simp] theorem State.bumpWrap_pins (s : State) (g : Fld) : (s.bumpWrap g).pins = s.pins := (rfl)
@[simp] theorem State.bumpWrap_sram (s : State) (g : Fld) : (s.bumpWrap g).sram = s.sram := (rfl)
@[simp] theorem State.bumpWrap_epochs (s : State) (g : Fld) : (s.bumpWrap g).epochs = s.epochs := (rfl)
@[simp] theorem State.bumpWrap_mp (s : State) (g : Fld) : (s.bumpWrap g).mp = s.mp := (rfl)
@[simp] theorem State.bumpWrap_flt (s : State) (g : Fld) : (s.bumpWrap g).flt = s.flt := (rfl)
@[simp] theorem State.bumpWrap_memi (s : State) (g : Fld) : (s.bumpWrap g).memi = s.memi := (rfl)
@[simp] theorem State.bumpWrap_chans (s : State) (g : Fld) : (s.bumpWrap g).chans = s.chans := (rfl)
@[simp] theorem State.bumpWrap_luns (s : State) (g : Fld) : (s.bumpWrap g).luns = s.luns := (rfl)
@[simp] theorem State.bumpWrap_grps (s : State) (g : Fld) : (s.bumpWrap g).grps = s.grps := (rfl)
@[simp] theorem State.bumpWrap_tbuf (s : State) (g : Fld) : (s.bumpWrap g).tbuf = s.tbuf := (rfl)
@[simp] theorem State.bumpWrap_map (s : State) (g : Fld) : (s.bumpWrap g).map = s.map := (rfl)
@[simp] theorem State.bumpWrap_strms (s : State) (g : Fld) : (s.bumpWrap g).strms = s.strms := (rfl)
@[simp] theorem State.bumpWrap_hoops (s : State) (g : Fld) : (s.bumpWrap g).hoops = s.hoops := (rfl)
@[simp] theorem State.bumpWrap_lace (s : State) (g : Fld) : (s.bumpWrap g).lace = s.lace := (rfl)
@[simp] theorem State.bumpWrap_dec (s : State) (g : Fld) : (s.bumpWrap g).dec = s.dec := (rfl)
@[simp] theorem State.bumpWrap_rcv (s : State) (g : Fld) : (s.bumpWrap g).rcv = s.rcv := (rfl)
@[simp] theorem State.bumpWrap_lanes (s : State) (g : Fld) : (s.bumpWrap g).lanes = s.lanes := (rfl)
@[simp] theorem State.bumpWrap_spool (s : State) (g : Fld) : (s.bumpWrap g).spool = s.spool := (rfl)
@[simp] theorem State.bumpWrap_rng (s : State) (g : Fld) : (s.bumpWrap g).rng = s.rng := (rfl)
@[simp] theorem State.bumpWrap_lnk (s : State) (g : Fld) : (s.bumpWrap g).lnk = s.lnk := (rfl)

/-- An event after a field of another word was set. -/
theorem State.event_set (s : State) (f : Fld) (v : Nat) (p : Page) (n b : Nat) (h : pageBase p n + 0x10 ≠ f.addr) :
    (s.set f v).event p n b = s.event p n b := by
  simp [State.event, State.rd_set_other _ _ _ h]

@[simp] theorem State.event_count (s : State) (src d : Nat) (p : Page) (n b : Nat) : (s.count src d).event p n b = s.event p n b := by
  simp [State.event]

/-- The event raised is raised. -/
@[simp] theorem State.event_raised (s : State) (p : Page) (n b : Nat) (h : b < 32) : (s.raise p n b).event p n b = true := by
  simp [State.event_raise _ _ _ _ _ h]

end Sys2Proof.Machine
end

