-- ==== Sys2Proof/Laws/Seq.lean ====
section
/-!
SUPPORT. What the report of an access to on-chip memory touches; a context that runs a microword; a change of one channel.
-/

namespace Sys2Proof.Machine

/-- `t` is `s` but for what the report of an access to on-chip memory touches. -/
def State.reports (s t : State) : Prop := t = { s with regs := t.regs, pins := t.pins, flt := t.flt, memi := t.memi }

theorem State.reports_refl (s : State) : s.reports s := rfl

theorem State.reports_trans {s t u : State} (h : s.reports t) (k : t.reports u) : s.reports u := by
  unfold State.reports at *
  rw [k]
  rw [h]

theorem State.reports_raise (s : State) (p : Page) (n b : Nat) : s.reports (s.raise p n b) := by
  unfold State.reports
  exact s.raise_frame p n b |>.trans (by rw [s.raise_frame p n b])

theorem State.reports_count (s : State) (a d : Nat) : s.reports (s.count a d) := by
  unfold State.count
  split <;> rfl

theorem State.reports_memi (s : State) (m : MemiS) : s.reports { s with memi := m } := rfl

theorem State.reports_set (s : State) (f : Fld) (v : Nat) : s.reports (s.set f v) := rfl

theorem State.reports_bump (s : State) (f : Fld) : s.reports (s.bump f) := rfl

theorem State.reports_countUnless (s : State) (b : Bool) (a d : Nat) : s.reports (s.countUnless b a d) := by
  unfold State.countUnless
  split
  · exact s.reports_refl
  · exact s.reports_count a d

theorem State.reports_countDump (s : State) (a d : Nat) : s.reports (s.countDump a d) := by
  unfold State.countDump
  split <;> rfl

theorem State.reports_bufMark (s : State) (r w n : Nat) : s.reports (s.bufMark r w n) := rfl

theorem State.reports_tabFlip (s : State) (w m : Nat) (h : tabWord 4 0 ≤ w) : s.reports (s.tabFlip w m) := by
  unfold State.tabFlip
  rw [if_neg (Nat.not_lt.mpr h)]
  dsimp only
  repeat' split
  all_goals rfl

/-- A write of words of the log and remap tables stays within them. -/
theorem State.reports_bufWrote (s : State) (w n : Nat) (h : tabWord 4 0 ≤ w) : s.reports (s.bufWrote 5 w n) := by
  unfold State.bufWrote
  have h1 := s.reports_bufMark 5 w n
  generalize s.bufMark 5 w n = s1 at h1
  dsimp only
  split
  · split
    · split
      · exact State.reports_trans (State.reports_trans h1 (State.reports_memi _ _)) (State.reports_tabFlip _ _ _ h)
      · exact State.reports_trans h1 (State.reports_memi _ _)
    · exact h1
  · exact h1

theorem le_logIx (r i : Nat) : tabWord 4 0 ≤ logIx r i := Nat.add_le_add_left (Nat.zero_le _) _

theorem State.reports_setLog (s : State) (r i : Nat) (e : Option CeLog) : s.reports (s.setLog r i e) :=
  State.reports_trans (State.reports_memi _ _) (State.reports_bufWrote _ _ _ (le_logIx r i))

theorem State.reports_setRemap (s : State) (r k : Nat) (e : Option Remap) : s.reports (s.setRemap r k e) :=
  State.reports_trans (State.reports_memi _ _) (State.reports_bufMark _ _ _ _)

theorem State.reports_promote (s : State) (r w i : Nat) (again : Bool) : s.reports (s.promote r w i again) := by
  unfold State.promote
  dsimp only
  generalize hs : s.countUnless _ (memiSrc + 14) (memiDetail r w) = s1
  have h : s.reports s1 := hs ▸ s.reports_countUnless _ _ _
  split
  · refine State.reports_trans h (State.reports_trans (State.reports_trans ?_ (State.reports_raise _ _ _ _)) (State.reports_bump _ _))
    refine State.reports_trans ?_ (State.reports_setLog _ _ _ _)
    split
    · exact State.reports_trans (State.reports_setRemap _ _ _ _) (State.reports_memi _ _)
    · exact State.reports_setRemap _ _ _ _
  · exact State.reports_trans h (State.reports_trans (State.reports_raise _ _ _ _) (State.reports_count _ _ _))

theorem State.reports_logHit (s : State) (r i : Nat) (e : CeLog) : s.reports (s.logHit r i e) := by
  unfold State.logHit
  have h := s.reports_setLog r i (some e)
  dsimp only
  split
  · exact State.reports_trans h (State.reports_promote _ _ _ _ _)
  · exact h

/-- What the log of a region does with a report touches no more than the report. -/
theorem State.reports_logReport (s : State) (r w : Nat) : s.reports (s.logReport r w) := by
  unfold State.logReport
  dsimp only
  repeat' split
  all_goals first
    | exact State.reports_logHit _ _ _ _
    | exact s.reports_refl
    | exact State.reports_trans (State.reports_raise _ _ _ _) (State.reports_count _ _ _)

theorem State.reports_reportCe (s : State) (r w : Nat) (b : Bool) : s.reports (s.reportCe r w b) := by
  unfold State.reportCe
  have h := s.reports_count (memiSrc + r) (memiDetail r w)
  generalize s.count (memiSrc + r) (memiDetail r w) = s1 at h ⊢
  have h2 := State.reports_trans (State.reports_trans h (State.reports_raise s1 .memi 0 0)) (State.reports_bump _ (R.MEMI_CE_CNT_CNT r))
  dsimp only
  split
  · exact h
  · split
    · exact State.reports_trans h2 (State.reports_memi _ _)
    · split <;> exact State.reports_trans h2 (State.reports_memi _ _)

theorem State.reports_reportUe (s : State) (r w o : Nat) : s.reports (s.reportUe r w o) := by
  unfold State.reportUe
  have h : s.reports (if o = 3 then s.countDump (memiSrc + 7 + r) (memiDetail r w) else s.count (memiSrc + 7 + r) (memiDetail r w)) := by
    split
    · exact s.reports_countDump _ _
    · exact s.reports_count _ _
  generalize (if o = 3 then _ else s.count (memiSrc + 7 + r) (memiDetail r w)) = s1 at h
  dsimp only
  split
  · exact h
  · exact State.reports_trans (State.reports_trans (State.reports_trans (State.reports_trans h (State.reports_raise s1 .memi 0 1))
      (State.reports_bump _ _)) (State.reports_set _ _ _)) (State.reports_set _ _ _)

/-- The report of a read touches the register words, the pulse lines, the collector and the integrity unit alone. -/
theorem State.reports_note (s : State) (r w o : Nat) : s.reports (s.note r w o) := by
  unfold State.note
  split
  · exact s.reports_refl
  · exact s.reports_reportUe r w o
  · exact s.reports_reportCe r w _

theorem State.reports_seen (s : State) (n : Nat) : s.reports (s.seen n) := s.reports_note _ _ _

/-- A clean word changes nothing when it is fetched. -/
theorem State.seen_clean (s : State) (n : Nat) (h : strongClass (s.stored 6 (storeWord n (s.ch n).ctx.pc)) = .clean) :
    s.seen n = s := by
  unfold State.seen State.note
  rw [h]

/-- What a fetch may touch. -/
theorem State.seen_frame (s : State) (n : Nat) : s.seen n = { s with
    regs := (s.seen n).regs, pins := (s.seen n).pins, flt := (s.seen n).flt, memi := (s.seen n).memi } := s.reports_seen n

@[simp] theorem State.seen_pending (s : State) (n : Nat) : (s.seen n).pending = s.pending := by rw [s.seen_frame n]
@[simp] theorem State.seen_free (s : State) (n : Nat) : (s.seen n).free = s.free := by rw [s.seen_frame n]
@[simp] theorem State.seen_gen (s : State) (n : Nat) : (s.seen n).gen = s.gen := by rw [s.seen_frame n]
@[simp] theorem State.seen_cyc (s : State) (n : Nat) : (s.seen n).cyc = s.cyc := by rw [s.seen_frame n]
@[simp] theorem State.seen_cp (s : State) (n : Nat) : (s.seen n).cp = s.cp := by rw [s.seen_frame n]
@[simp] theorem State.seen_sram (s : State) (n : Nat) : (s.seen n).sram = s.sram := by rw [s.seen_frame n]
@[simp] theorem State.seen_epochs (s : State) (n : Nat) : (s.seen n).epochs = s.epochs := by rw [s.seen_frame n]
@[simp] theorem State.seen_ext (s : State) (n : Nat) : (s.seen n).ext = s.ext := by rw [s.seen_frame n]
@[simp] theorem State.seen_mp (s : State) (n : Nat) : (s.seen n).mp = s.mp := by rw [s.seen_frame n]
@[simp] theorem State.seen_pwr (s : State) (n : Nat) : (s.seen n).pwr = s.pwr := by rw [s.seen_frame n]
@[simp] theorem State.seen_ang (s : State) (n : Nat) : (s.seen n).ang = s.ang := by rw [s.seen_frame n]
@[simp] theorem State.seen_rot (s : State) (n : Nat) : (s.seen n).rot = s.rot := by rw [s.seen_frame n]
@[simp] theorem State.seen_chans (s : State) (n : Nat) : (s.seen n).chans = s.chans := by rw [s.seen_frame n]
@[simp] theorem State.seen_luns (s : State) (n : Nat) : (s.seen n).luns = s.luns := by rw [s.seen_frame n]
@[simp] theorem State.seen_grps (s : State) (n : Nat) : (s.seen n).grps = s.grps := by rw [s.seen_frame n]
@[simp] theorem State.seen_tbuf (s : State) (n : Nat) : (s.seen n).tbuf = s.tbuf := by rw [s.seen_frame n]
@[simp] theorem State.seen_map (s : State) (n : Nat) : (s.seen n).map = s.map := by rw [s.seen_frame n]
@[simp] theorem State.seen_strms (s : State) (n : Nat) : (s.seen n).strms = s.strms := by rw [s.seen_frame n]
@[simp] theorem State.seen_hoops (s : State) (n : Nat) : (s.seen n).hoops = s.hoops := by rw [s.seen_frame n]
@[simp] theorem State.seen_lace (s : State) (n : Nat) : (s.seen n).lace = s.lace := by rw [s.seen_frame n]
@[simp] theorem State.seen_dec (s : State) (n : Nat) : (s.seen n).dec = s.dec := by rw [s.seen_frame n]
@[simp] theorem State.seen_rcv (s : State) (n : Nat) : (s.seen n).rcv = s.rcv := by rw [s.seen_frame n]
@[simp] theorem State.seen_lanes (s : State) (n : Nat) : (s.seen n).lanes = s.lanes := by rw [s.seen_frame n]
@[simp] theorem State.seen_spool (s : State) (n : Nat) : (s.seen n).spool = s.spool := by rw [s.seen_frame n]
@[simp] theorem State.seen_rng (s : State) (n : Nat) : (s.seen n).rng = s.rng := by rw [s.seen_frame n]
@[simp] theorem State.seen_lnk (s : State) (n : Nat) : (s.seen n).lnk = s.lnk := by rw [s.seen_frame n]

@[simp] theorem State.ch_seen (s : State) (n k : Nat) : (s.seen n).ch k = s.ch k := by
  unfold State.ch
  rw [State.seen_chans]

@[simp] theorem State.lun_seen (s : State) (n k l : Nat) : (s.seen n).lun k l = s.lun k l := by
  unfold State.lun
  rw [State.seen_luns]

/-! ## One channel -/

/-- A change of channel `n` alone. -/
theorem State.chanIs_of (s : State) (n : Nat) (f : ChS → ChS) (x : ChS) (h : f (s.ch n) = x) : s.chanIs (s.chMap n f) n x :=
  ⟨by simp [h], fun k hk => by simp [hk], rfl⟩

/-- A second change of channel `n`. -/
theorem State.chanIs_chMap {s t : State} {n : Nat} {x : ChS} (h : s.chanIs t n x) (f : ChS → ChS) : s.chanIs (t.chMap n f) n (f x) :=
  ⟨by simp [h.1], fun k hk => by simp [hk, h.2.1 k hk], by rw [h.2.2]; rfl⟩

/-! ## A context that runs a microword -/

/-- The channel as the fetched word leaves it. -/
theorem State.chanIs_fetch (s : State) (n : Nat) :
    (s.seen n).chanIs ((s.seen n).ctxMap n (fun c => { c with
      atom := bit (s.fetched n) 25 && !c.atomOvr, atomOvr := c.atomOvr && bit (s.fetched n) 25 })) n { s.ch n with ctx := s.ctxAt n } :=
  State.chanIs_of _ _ _ _ (by simp [State.ctxAt])

/-- A context that runs and fetches a word with the opcode of a microword executes its action on the fetched state. -/
theorem State.seqRun_runs (s : State) (n w op : Nat) (f : State → Nat → State) (h : s.runsWord n w) (ho : wOp w = op) :
    ∃ u, (s.seen n).chanIs u n { s.ch n with ctx := s.ctxAt n } ∧ s.seqRun n op f = f u w := by
  obtain ⟨h1, h2, h3, h4⟩ := h
  refine ⟨_, s.chanIs_fetch n, ?_⟩
  unfold State.seqRun
  simp [h1, h2, h3, h4, ho, State.seen]

/-- A word that does not branch, other than at the end of the store (R121). -/
theorem State.seqStep_chanIs {s t : State} {n : Nat} {x : ChS} (h : s.chanIs t n x) (hp : x.ctx.pc ≠ 0x3FFF) :
    s.chanIs (t.seqStep n) n { x with ctx := { x.ctx with pc := x.ctx.pc + 1 } } := by
  unfold State.seqStep
  rw [h.1, if_neg hp]
  exact State.chanIs_chMap h _

end Sys2Proof.Machine
end

