-- ==== Sys2Proof/Tests/Slice0.lean ====
section
/-!
SUPPORT. The model's own tests: ill-formed commands that the check refuses, and single steps on small states.
-/

namespace Sys2Proof.Tests

open Sys2Proof Sys2Proof.Machine

set_option maxRecDepth 100000
set_option Elab.async false

/-! ## Ill-formed commands -/

theorem test_init_needs_eight_answers : (Instr.phyInit 0 1 [] (List.replicate 32 0)).wellFormed = false := by decide
theorem test_init_needs_all_timings : (Instr.phyInit 0 1 (List.replicate 8 ⟨false, []⟩) []).wellFormed = false := by decide
theorem test_training_needs_nine_lanes : (Instr.trainTargetStart 0 ⟨[], [], [], false⟩).wellFormed = false := by decide
theorem test_partial_length : (Instr.recPartial ⟨0, 1, false, 0⟩ 0 0 0 []).wellFormed = false := by decide
theorem test_recon_rsp_length : (Instr.recReconRsp ⟨0, 1, false, 0⟩ 0 15 []).wellFormed = false := by decide
theorem test_map_upd_has_an_entry : (Instr.recMapUpd ⟨0, 1, false, 0⟩ []).wellFormed = false := by decide
theorem test_hoop_length : (Instr.recHoop ⟨0, 1, false, 0⟩ 0 []).wellFormed = false := by decide
theorem test_stripe_rec_length : (Instr.recStripeRec ⟨0, 1, false, 0⟩ []).wellFormed = false := by decide
theorem test_trim_length : (Instr.recTrim ⟨0, 1, false, 0⟩ 0 []).wellFormed = false := by decide

/-! ## Small states -/

/-- Every domain ON and the control port ready. -/
def up : State :=
  { cp := { ready := true, fuseOpen := false }
    pwr := { doms := (List.range 13).map (fun d => (d, ({ st := .on, req := true, ack := true } : DomS))) } }

/-- A word of on-chip memory holds `d`. -/
def putWord (s : State) (r w : Nat) (d : Word) : State := { s with sram := tins s.sram (skey r w) (strongEnc d) }

/-- The context of channel `n` runs, stands at `pc` and finds the word `w` there; `f` sets the rest of the channel. -/
def onWord (n pc w : Nat) (f : ChS → ChS) : State :=
  putWord (up.chMap n (fun c => f { c with ctx := { c.ctx with run := .run, pc := pc } })) 6 (storeWord n pc) (BitVec.ofNat 32 w)

/-- The word with opcode `op` and operand bits `x`. -/
def mw (op x : Nat) : Nat := op * 2 ^ 26 + x

/-! ## Single steps -/

/-- The answer is a next state that passes `f`. -/
def after (o : Out) (f : State → Bool) : Bool := match o with
  | .next t => f t
  | _ => false

/-- The check value of CRC-32 (06 R185: IEEE 802.3). -/
theorem test_crc32_check : crc32 ([0x31, 0x32, 0x33, 0x34, 0x35, 0x36, 0x37, 0x38, 0x39] : List Byte) = 0xCBF43926 := by decide +kernel

/-- The command in front runs, and the rest of the queue waits (95). -/
theorem test_step_takes_the_front : after (step { up with pending := [.registerWrite 0x64 0xF 5, .portReady] })
    (fun t => decide (t.rd 0x64 = 5 ∧ t.pending = [.portReady])) = true := by decide +kernel

/-- On an empty queue one cycle passes. -/
theorem test_empty_queue_counts_a_cycle : after (step { up with cyc := 41 })
    (fun t => decide (t.cyc = 42)) = true := by decide +kernel

/-- A register write with two byte enables merges (00 R17). -/
theorem test_partial_write_merges : after (exec (.registerWrite 0x64 3 0x11223344) (up.wr 0x64 0xAABBCCDD))
    (fun t => decide (t.rd 0x64 = 0xAABB3344)) = true := by decide +kernel

/-! ## Helpers of the witnesses: states that meet the hypotheses of each statement, one for every clause -/

def geo0 : Geo := { rows := 4, slcPages := 512 }
def okCh (s : State) (n : Nat) : State :=
  ((((((s.set (R.SEQG_STATUS_VEND_OK (n / 8)) 1).set (R.SEQG_CTRL_ENABLE (n / 8)) 1).set (R.CH_CTRL_ENABLE n) 1).set (R.CH_CTRL_WP_OPEN n) 1).set (R.CH_CTRL_BB_VALID n) 1).set (R.CH_PHY_STAT_STATE n) 2).set R.CAL_FIXED_ENTRY 0xFFFF
    |>.chMap n (fun c => { c with own := { c.own with owned := true } })
def setPark (s : State) (n l : Nat) (p : Park) (f : LunS → LunS := id) : State := s.lunMap n l (fun x => f { x with park := some p })

theorem takes {s : State} {a : Nat} (h : (s.cpReady && ((s.addrDom a).elim false s.powered)) = true) : s.portTakes a := by
  rw [Bool.and_eq_true] at h
  refine ⟨h.1, ?_⟩
  cases e : s.addrDom a with
  | none => simp [e] at h
  | some d => exact ⟨d, rfl, by simpa [e] using h.2⟩
theorem runs {s : State} {n w : Nat} (h : ((s.ch n).ctx.run = .run ∧ (s.ch n).ctx.statWait = false ∧ s.fetchBad n = false ∧ s.fetched n = w)) : s.runsWord n w := h
theorem asks_of {d : Desc} (h : d.org = 1 ∧ d.customer = true ∧ d.cmpl = true) : d.asks := h

/-! ## Witnesses: microwords -/

namespace SeqWords

def dsc : Desc := { opcode := 0x40, flags := 8, origin := 16384 + 3, taddr := 0x1234, tag := 77 }
def ctxv (c : ChS) : ChS := { c with ctx := { c.ctx with m := [1, 2, 0x8003, 4, 5, 0xFFFF, 7, 0x7123], lc0 := 2, lc1 := 1, t0 := 5, desc := some dsc, status := 0x41 }, slots := [{ desc := dsc, started := true, age := 0 }] }
def trapv (cev : Bool) (c : ChS) : ChS := let c := ctxv c; { c with ctx := { c.ctx with inTrap := true, cause := 1, frame := { cause := 1, idle := false, ce := 3, cev := cev, pc := 0x222, m := [9,8,7,6,5,4,3,2], lc0 := 1, lc1 := 2, z := true } } }
def wd (c : ChS) : ChS := let c := ctxv c; { c with ctx := { c.ctx with wdog := some 0 } }
def flipw (s : State) (r w : Nat) (m : BitVec 39) : State := { s with sram := tmod (fun _ => 0) s.sram (skey r w) (· ^^^ m) }
def eng (q : List EngE) (f : EngS → EngS := id) : State := up.chMap 9 (fun c => { ctxv c with eng := f { c.eng with queue := q, sel := some 2 } })

theorem witness_ControlFlowWordsMoveThePc_1 :
    (∃ (s : State) (n : Fin 48) (w : Nat), s.runsWord n w ∧ wOp w = 0x00 ∧ (s.ch n).ctx.pc ≠ 0x3FFF) ∧
    (∃ (s : State) (n : Fin 48) (w : Nat), s.runsWord n w ∧ wOp w = 0x01) ∧
    (∃ (s : State) (n : Fin 48) (w : Nat), s.runsWord n w ∧ wOp w = 0x02 ∧ (s.seen n).cond n (bits w 20 5) = bit w 19) ∧
    (∃ (s : State) (n : Fin 48) (w : Nat), s.runsWord n w ∧ wOp w = 0x02 ∧ (s.seen n).cond n (bits w 20 5) ≠ bit w 19 ∧ (s.ch n).ctx.pc ≠ 0x3FFF) ∧
    (∃ (s : State) (n : Fin 48) (w : Nat), s.runsWord n w ∧ wOp w = 0x03) ∧
    (∃ (s : State) (n : Fin 48) (w : Nat), s.runsWord n w ∧ wOp w = 0x04) :=
  ⟨⟨onWord 9 0x100 (mw 0 0) ctxv, 9, 0, runs (by decide +kernel), by decide +kernel⟩,
    ⟨onWord 9 0x100 (mw 1 0x1234) ctxv, 9, 67113524, runs (by decide +kernel), by decide +kernel⟩,
    ⟨onWord 9 0x100 (mw 2 (0*2^20+2^19+0x222)) ctxv, 9, 134742562, runs (by decide +kernel), by decide +kernel⟩,
    ⟨onWord 9 0x100 (mw 2 (1*2^20 + 2^19+0x222)) ctxv, 9, 135791138, runs (by decide +kernel), by decide +kernel⟩,
    ⟨onWord 9 0x100 (mw 3 0x333) ctxv, 9, 201327411, runs (by decide +kernel), by decide +kernel⟩,
    ⟨onWord 9 0x100 (mw 4 0) ctxv, 9, 268435456, runs (by decide +kernel), by decide +kernel⟩⟩

theorem witness_ControlFlowWordsMoveThePc_2 :
    (∃ (s : State) (n : Fin 48) (w : Nat), s.runsWord n w ∧ wOp w = 0x05) ∧
    (∃ (s : State) (n : Fin 48) (w : Nat), s.runsWord n w ∧ wOp w = 0x06 ∧ bit w 24 = false) ∧
    (∃ (s : State) (n : Fin 48) (w : Nat), s.runsWord n w ∧ wOp w = 0x06 ∧ bit w 24 = true) :=
  ⟨⟨onWord 9 0x100 0x15818150 ctxv, 9, 360808784, runs (by decide +kernel), by decide +kernel⟩,
    ⟨onWord 9 0x100 (mw 6 0x444) ctxv, 9, 402654276, runs (by decide +kernel), by decide +kernel⟩,
    ⟨onWord 9 0x100 (mw 6 (2^24+0x444)) ctxv, 9, 419431492, runs (by decide +kernel), by decide +kernel⟩⟩

theorem witness_AluWordsComputeResultAndFlags_1 :
    (∃ (s : State) (n : Fin 48) (w : Nat), s.runsWord n w ∧ (s.ch n).ctx.pc ≠ 0x3FFF ∧ wOp w = 0x12 ∧ bits w 0 4 = ((.mwAdd n, 0, (((s.ch n).ctx.reg (wA w)) + ((s.ch n).ctx.reg (wB w))) % 65536, decide (65536 ≤ ((s.ch n).ctx.reg (wA w)) + ((s.ch n).ctx.reg (wB w)))) : Instr × Nat × Nat × Bool).2.1) ∧
    (∃ (s : State) (n : Fin 48) (w : Nat), s.runsWord n w ∧ (s.ch n).ctx.pc ≠ 0x3FFF ∧ wOp w = 0x12 ∧ bits w 0 4 = 8) ∧
    (∃ (s : State) (n : Fin 48) (w : Nat), s.runsWord n w ∧ (s.ch n).ctx.pc ≠ 0x3FFF ∧ wOp w = 0x12 ∧ 9 ≤ bits w 0 4) ∧
    (∃ (s : State) (n : Fin 48) (w : Nat), s.runsWord n w ∧ (s.ch n).ctx.pc ≠ 0x3FFF ∧ wOp w = 0x11) ∧
    (∃ (s : State) (n : Fin 48) (w : Nat), s.runsWord n w ∧ (s.ch n).ctx.pc ≠ 0x3FFF ∧ wOp w = 0x10) :=
  ⟨⟨onWord 9 0x100 (mw 0x12 (3*2^22 + 2*2^19 + 3*2^16 + 0)) ctxv, 9, 1221787648, runs (by decide +kernel), by decide +kernel⟩,
    ⟨onWord 9 0x100 (mw 0x12 (3*2^22 + 2*2^19 + 3*2^16 + 8)) ctxv, 9, 1221787656, runs (by decide +kernel), by decide +kernel⟩,
    ⟨onWord 9 0x100 (mw 0x12 (3*2^22 + 2*2^19 + 3*2^16 + 9)) ctxv, 9, 1221787657, runs (by decide +kernel), by decide +kernel⟩,
    ⟨onWord 9 0x100 (mw 0x11 (5*2^22 + 1)) ctxv, 9, 1161822209, runs (by decide +kernel), by decide +kernel⟩,
    ⟨onWord 9 0x100 (mw 0x10 (2*2^22 + 0xABCD)) ctxv, 9, 1082174413, runs (by decide +kernel), by decide +kernel⟩⟩

theorem witness_TimersWaitsAndSelectors_1 :
    (∃ (s : State) (n : Fin 48) (w : Nat), s.runsWord n w ∧ wOp w = 0x07 ∧ (s.seen n).cond n (bits w 20 5) = bit w 19 ∧ ((s.ch n).ctx.pc + 1) ≠ 0x4000) ∧
    (∃ (s : State) (n : Fin 48) (w : Nat), s.runsWord n w ∧ wOp w = 0x07 ∧ (s.seen n).cond n (bits w 20 5) ≠ bit w 19 ∧ bit w 17 = true ∧ (if bit w 18 then (s.ctxAt n).t1 else (s.ctxAt n).t0) = 0 ∧ ((s.ch n).ctx.pc + 1) ≠ 0x4000) ∧
    (∃ (s : State) (n : Fin 48) (w : Nat), s.runsWord n w ∧ wOp w = 0x07 ∧ (s.seen n).cond n (bits w 20 5) ≠ bit w 19 ∧ (bit w 17 = false ∨ (if bit w 18 then (s.ctxAt n).t1 else (s.ctxAt n).t0) ≠ 0) ∧ bits w 20 5 ≠ 17) ∧
    (∃ (s : State) (n : Fin 48) (w : Nat), s.runsWord n w ∧ wOp w = 0x08 ∧ ((s.ch n).ctx.pc + 1) ≠ 0x4000) ∧
    (∃ (s : State) (n : Fin 48) (w : Nat), s.runsWord n w ∧ wOp w = 0x13 ∧ ((s.ch n).ctx.pc + 1) ≠ 0x4000) ∧
    (∃ (s : State) (n : Fin 48) (w : Nat), s.runsWord n w ∧ wOp w = 0x14 ∧ (s.ch n).ctx.pc + 1 ≠ 0x4000 ∧ bits w 0 12 = 0x24) :=
  ⟨⟨onWord 9 0x100 (mw 7 (2^19)) ctxv, 9, 470286336, runs (by decide +kernel), by decide +kernel⟩,
    ⟨onWord 9 0x100 (mw 7 (1*2^20 + 2^19+2^17+2^18)) ctxv, 9, 471728128, runs (by decide +kernel), by decide +kernel⟩,
    ⟨onWord 9 0x100 (mw 7 (6*2^20+2^19)) ctxv, 9, 476577792, runs (by decide +kernel), by decide +kernel⟩,
    ⟨onWord 9 0x100 (mw 8 (0x30000+5)) ctxv, 9, 537067525, runs (by decide +kernel), by decide +kernel⟩,
    ⟨onWord 9 0x100 (mw 0x13 (2^24+ 9)) ctxv, 9, 1291845641, runs (by decide +kernel), by decide +kernel⟩,
    ⟨onWord 9 0x100 (mw 0x14 (2^22*4+0x24)) ctxv, 9, mw 0x14 (2^22*4+0x24), runs (by decide +kernel), by decide +kernel⟩⟩

theorem witness_TimersWaitsAndSelectors_2 :
    (∃ (s : State) (n : Fin 48) (w : Nat), s.runsWord n w ∧ wOp w = 0x14 ∧ ((s.ch n).ctx.pc + 1) ≠ 0x4000 ∧ 0x80 ≤ bits w 0 12) ∧
    (∃ (s : State) (n : Fin 48) (w : Nat), s.runsWord n w ∧ wOp w = 0x15 ∧ ((s.ch n).ctx.pc + 1) ≠ 0x4000) ∧
    (∃ (s : State) (n : Fin 48) (w : Nat), s.runsWord n w ∧ wOp w = 0x28 ∧ ((s.ch n).ctx.pc + 1) ≠ 0x4000 ∧ 8 ≤ bits w 0 4 ∧ (s.seen n).ledgOn = false) :=
  ⟨⟨onWord 9 0x100 (mw 0x14 (2^22*4+0x85)) ctxv, 9, 1358954629, runs (by decide +kernel), by decide +kernel⟩,
    ⟨onWord 9 0x100 (mw 0x15 (2^19*2+0x41)) ctxv, 9, 1410334785, runs (by decide +kernel), by decide +kernel⟩,
    ⟨onWord 9 0x100 (mw 0x28 9) ctxv, 9, 2684354569, runs (by decide +kernel), by decide +kernel⟩⟩

theorem witness_BusWordsQueueOneEntry_1 :
    (∃ (s : State) (n : Fin 48) (w : Nat), s.runsWord n w ∧ (s.ch n).eng.queue.length < 16 ∧ (s.ch n).ctx.inTrap = false ∧ (s.ch n).ctx.pc ≠ 0x3FFF ∧ wOp w = 0x20) ∧
    (∃ (s : State) (n : Fin 48) (w : Nat), s.runsWord n w ∧ (s.ch n).eng.queue.length < 16 ∧ (s.ch n).ctx.inTrap = false ∧ (s.ch n).ctx.pc ≠ 0x3FFF ∧ wOp w = 0x21 ∧ wR w = true ∧ bit (({ s.ctxAt n with pc := (s.ch n).ctx.pc + 1 }).reg (wA w)) 15 = true) ∧
    (∃ (s : State) (n : Fin 48) (w : Nat), s.runsWord n w ∧ (s.ch n).eng.queue.length < 16 ∧ (s.ch n).ctx.inTrap = false ∧ (s.ch n).ctx.pc ≠ 0x3FFF ∧ ((s.ch n).eng).discard = false ∧ wOp w = 0x21 ∧ (wR w = false ∨ bit (({ s.ctxAt n with pc := (s.ch n).ctx.pc + 1 }).reg (wA w)) 15 = false)) ∧
    (∃ (s : State) (n : Fin 48) (w : Nat), s.runsWord n w ∧ (s.ch n).eng.queue.length < 16 ∧ (s.ch n).ctx.inTrap = false ∧ (s.ch n).ctx.pc ≠ 0x3FFF ∧ ((s.ch n).eng).discard = false ∧ wOp w = 0x22 ∧ bits w 23 2 = ((0, .addr [bits w 0 8] none) : Nat × EngE).1) ∧
    (∃ (s : State) (n : Fin 48) (w : Nat), s.runsWord n w ∧ (s.ch n).eng.queue.length < 16 ∧ (s.ch n).ctx.inTrap = false ∧ (s.ch n).ctx.pc ≠ 0x3FFF ∧ ((s.ch n).eng).discard = false ∧ wOp w = 0x23 ∧ ((s.ch n).eng).burst = .none ∧ ((∀ d, ({ s.ctxAt n with pc := (s.ch n).ctx.pc + 1 }).desc = some d → d.opcode ≠ 1)) ∧ 0 < (({ s.ctxAt n with pc := (s.ch n).ctx.pc + 1 }).reg (wB w)) ∧ (({ s.ctxAt n with pc := (s.ch n).ctx.pc + 1 }).reg (wB w)) ≤ 288 ∧ (({ s.ctxAt n with pc := (s.ch n).ctx.pc + 1 }).reg (wA w)) + (({ s.ctxAt n with pc := (s.ch n).ctx.pc + 1 }).reg (wB w)) ≤ 1152) ∧
    (∃ (s : State) (n : Fin 48) (w : Nat), s.runsWord n w ∧ (s.ch n).eng.queue.length < 16 ∧ (s.ch n).ctx.inTrap = false ∧ (s.ch n).ctx.pc ≠ 0x3FFF ∧ ((s.ch n).eng).discard = false ∧ wOp w = 0x24 ∧ ((s.ch n).eng).burst = .none ∧ 0 < (({ s.ctxAt n with pc := (s.ch n).ctx.pc + 1 }).reg (wB w)) ∧ (({ s.ctxAt n with pc := (s.ch n).ctx.pc + 1 }).reg (wB w)) ≤ 288 ∧ (({ s.ctxAt n with pc := (s.ch n).ctx.pc + 1 }).reg (wA w)) + (({ s.ctxAt n with pc := (s.ch n).ctx.pc + 1 }).reg (wB w)) ≤ 1152) :=
  ⟨⟨onWord 9 0x100 (mw 0x20 5) ctxv, 9, 2147483653, runs (by decide +kernel), by decide +kernel⟩,
    ⟨onWord 9 0x100 (mw 0x21 (2^23+2^19*5)) ctxv, 9, 2225602560, runs (by decide +kernel), by decide +kernel⟩,
    ⟨onWord 9 0x100 (mw 0x21 0x80) ctxv, 9, 2214592640, runs (by decide +kernel), by decide +kernel⟩,
    ⟨onWord 9 0x100 (mw 0x22 (2^23*0 + 2^19*3 + 2^16+0x55)) ctxv, 9, 2283339861, runs (by decide +kernel), by decide +kernel⟩,
    ⟨onWord 9 0x100 (mw 0x23 (2^19*1+2^16*4)) ctxv, 9, 2349596672, runs (by decide +kernel), by decide +kernel⟩,
    ⟨onWord 9 0x100 (mw 0x24 (2^19*1+2^16*4)) ctxv, 9, 2416705536, runs (by decide +kernel), by decide +kernel⟩⟩

theorem witness_BusWordsQueueOneEntry_2 :
    (∃ (s : State) (n : Fin 48) (w : Nat), s.runsWord n w ∧ (s.ch n).eng.queue.length < 16 ∧ (s.ch n).ctx.inTrap = false ∧ (s.ch n).ctx.pc ≠ 0x3FFF ∧ ((s.ch n).eng).discard = false ∧ wOp w = 0x25 ∧ (s.seen n).suspOk n = true) ∧
    (∃ (s : State) (n : Fin 48) (w : Nat), s.runsWord n w ∧ (s.ch n).eng.queue.length < 16 ∧ (s.ch n).ctx.inTrap = false ∧ (s.ch n).ctx.pc ≠ 0x3FFF ∧ ((s.ch n).eng).discard = false ∧ wOp w = 0x26 ∧ (s.seen n).suspOk n = true) ∧
    (∃ (s : State) (n : Fin 48) (w : Nat), s.runsWord n w ∧ (s.ch n).eng.queue.length < 16 ∧ (s.ch n).ctx.inTrap = false ∧ (s.ch n).ctx.pc ≠ 0x3FFF ∧ ((s.ch n).eng).discard = false ∧ wOp w = 0x27) ∧
    (∃ (s : State) (n : Fin 48) (w : Nat), s.runsWord n w ∧ (s.ch n).eng.queue.length < 16 ∧ (s.ch n).ctx.inTrap = false ∧ (s.ch n).ctx.pc ≠ 0x3FFF ∧ wOp w = 0x25 ∧ (s.seen n).suspOk n = false) ∧
    (∃ (s : State) (n : Fin 48) (w : Nat), s.runsWord n w ∧ (s.ch n).eng.queue.length < 16 ∧ (s.ch n).ctx.inTrap = false ∧ (s.ch n).ctx.pc ≠ 0x3FFF ∧ wOp w = 0x26 ∧ (s.seen n).suspOk n = false) ∧
    (∃ (s : State) (n : Fin 48) (w : Nat), s.runsWord n w ∧ (s.ch n).eng.queue.length < 16 ∧ (s.ch n).ctx.inTrap = false ∧ (s.ch n).ctx.pc ≠ 0x3FFF ∧ wOp w = 0x24 ∧ ((s.ch n).eng).discard = true ∧ burstBad (({ s.ctxAt n with pc := (s.ch n).ctx.pc + 1 }).reg (wA w)) (({ s.ctxAt n with pc := (s.ch n).ctx.pc + 1 }).reg (wB w)) = false) :=
  ⟨⟨(onWord 9 0x100 (mw 0x25 (2^19)) ctxv).set (R.CH_XDESC_BYTES 9 1) 0x200, 9, 2483552256, runs (by decide +kernel), by decide +kernel⟩,
    ⟨(onWord 9 0x100 (mw 0x26 (2^19)) ctxv).set (R.CH_XDESC_BYTES 9 1) 0x200, 9, 2550661120, runs (by decide +kernel), by decide +kernel⟩,
    ⟨onWord 9 0x100 (mw 0x27 (2^19)) ctxv, 9, 2617769984, runs (by decide +kernel), by decide +kernel⟩,
    ⟨onWord 9 0x100 (mw 0x25 (2^19)) ctxv, 9, 2483552256, runs (by decide +kernel), by decide +kernel⟩,
    ⟨onWord 9 0x100 (mw 0x26 (2^19)) ctxv, 9, 2550661120, runs (by decide +kernel), by decide +kernel⟩,
    ⟨onWord 9 0x100 (mw 0x24 (2^19*1+2^16*4)) (fun c => { ctxv c with eng := { c.eng with discard := true } }), 9, 2416705536, runs (by decide +kernel), by decide +kernel⟩⟩

theorem witness_ParkDoneAndTrapWords_1 :
    (∃ (s : State) (n : Fin 48) (d : Desc) (w : Nat), s.runsWord n w ∧ wOp w = 0x09 ∧ (s.ch n).ctx.desc = some d ∧ (s.ch n).ctx.inTrap = false ∧ (s.lun n d.lun).park = none) ∧
    (∃ (s : State) (n : Fin 48) (d : Desc) (w : Nat), s.runsWord n w ∧ wOp w = 0x0A ∧ (s.ch n).ctx.desc = some d ∧ d.asks ∧ (s.ch n).ctx.inTrap = false ∧ (s.ch n).eng.queue = []) ∧
    (∃ (s : State) (n : Fin 48) (t0 : Nat) (d : Desc), (s.ch n).ctx.run = .run ∧ (s.ch n).ctx.inTrap = false ∧ (s.ch n).ctx.sealP = none ∧ (s.ch n).ctx.wdog = some t0 ∧ (s.ch n).ctx.desc = some d ∧ (bit (s.fetched n) 25 = false ∨ (s.ch n).ctx.atomOvr = true)) ∧
    (∃ (s : State) (n : Fin 48) (w : Nat), s.runsWord n w ∧ wOp w = 0x0B ∧ (s.ch n).eng.queue = [] ∧ (s.ch n).ctx.inTrap = true ∧ (s.ch n).ctx.frame.idle = false ∧ (s.ch n).ctx.touch = false) ∧
    (∃ (s : State) (n : Fin 48) (d : Desc) (w : Nat), s.runsWord n w ∧ wOp w = 0x0C ∧ (s.ch n).eng.queue = [] ∧ (s.ch n).ctx.inTrap = true ∧ (s.ch n).ctx.cause ≠ 0 ∧ (s.ch n).ctx.frame.idle = false ∧ (s.ch n).ctx.desc = some d ∧ d.asks) :=
  ⟨⟨onWord 9 0x100 (mw 9 (2*2^23+0x777)) ctxv, 9, { opcode := 64, flags := 8, origin := 16387, taddr := 4660, tileno := 0, place := 0, dbuf := 0, mask := 0, refset := 0, step := 0, count := 0, rsvd := 0, tag := 77, param := 0 }, 620758903, runs (by decide +kernel), by decide +kernel⟩,
    ⟨onWord 9 0x100 (mw 0xA 5) ctxv, 9, { opcode := 64, flags := 8, origin := 16387, taddr := 4660, tileno := 0, place := 0, dbuf := 0, mask := 0, refset := 0, step := 0, count := 0, rsvd := 0, tag := 77, param := 0 }, 671088645, runs (by decide +kernel), by decide +kernel, by decide +kernel, asks_of (by decide +kernel), by decide +kernel⟩,
    ⟨onWord 9 0x100 (mw 0 0) wd, 9, 0, { opcode := 64, flags := 8, origin := 16387, taddr := 4660, tileno := 0, place := 0, dbuf := 0, mask := 0, refset := 0, step := 0, count := 0, rsvd := 0, tag := 77, param := 0 }, by decide +kernel⟩,
    ⟨onWord 9 0x100 (mw 0xB 0) (trapv true), 9, 738197504, runs (by decide +kernel), by decide +kernel⟩,
    ⟨onWord 9 0x100 (mw 0xC 9) (trapv true), 9, { opcode := 64, flags := 8, origin := 16387, taddr := 4660, tileno := 0, place := 0, dbuf := 0, mask := 0, refset := 0, step := 0, count := 0, rsvd := 0, tag := 77, param := 0 }, 805306377, runs (by decide +kernel), by decide +kernel, by decide +kernel, by decide +kernel, by decide +kernel, by decide +kernel, by decide +kernel, asks_of (by decide +kernel)⟩⟩

theorem witness_HaltsCompleteSeqHalt_1 :
    (∃ (s : State) (n : Fin 48) (d : Desc) (w : Nat), s.runsWord n w ∧ (s.ch n).ctx.desc = some d ∧ d.asks ∧ (s.ch n).eng.queue = [] ∧ ((.mwTret n, decide (wOp w = 0x0B) && !(s.ch n).ctx.inTrap) : Instr × Bool).2 = true) ∧
    (∃ (s : State) (n : Fin 48) (w : Nat), s.runsWord n w ∧ (s.ch n).ctx.desc = none ∧ wOp w = 0x0D) ∧
    (∃ (s : State) (n : Fin 48) (w : Nat), s.runsWord n w ∧ (s.ch n).ctx.desc = none ∧ mwKnown (wOp w) = false) ∧
    (∃ (s : State) (n : Fin 48) (d : Desc), (s.ch n).ctx.run = .run ∧ s.fetchBad n = true ∧ (s.ch n).ctx.desc = some d ∧ d.asks) :=
  ⟨⟨onWord 9 0x100 (mw 0xB 0) ctxv, 9, { opcode := 64, flags := 8, origin := 16387, taddr := 4660, tileno := 0, place := 0, dbuf := 0, mask := 0, refset := 0, step := 0, count := 0, rsvd := 0, tag := 77, param := 0 }, 738197504, runs (by decide +kernel), by decide +kernel, asks_of (by decide +kernel), by decide +kernel⟩,
    ⟨onWord 9 0x100 (mw 0xD 0) (fun c => { ctxv c with ctx := { (ctxv c).ctx with desc := none } }), 9, 872415232, runs (by decide +kernel), by decide +kernel⟩,
    ⟨onWord 9 0x100 (mw 0x3F 0) (fun c => { ctxv c with ctx := { (ctxv c).ctx with desc := none } }), 9, 4227858432, runs (by decide +kernel), by decide +kernel⟩,
    ⟨flipw (onWord 9 0x100 (mw 0 0) ctxv) 6 (storeWord 9 0x100) 3, 9, { opcode := 64, flags := 8, origin := 16387, taddr := 4660, tileno := 0, place := 0, dbuf := 0, mask := 0, refset := 0, step := 0, count := 0, rsvd := 0, tag := 77, param := 0 }, by decide +kernel, by decide +kernel, by decide +kernel, asks_of (by decide +kernel)⟩⟩

end SeqWords

/-! ## Witnesses: the cycle engine and the supervision of contexts -/

namespace EngineQueue

def dsc : Desc := { opcode := 0x40, flags := 8, origin := 16384 + 3, taddr := 0x1234, tag := 77 }
def ctxv (c : ChS) : ChS := { c with ctx := { c.ctx with m := [1, 2, 0x8003, 4, 5, 0xFFFF, 7, 0x7123], lc0 := 2, lc1 := 1, t0 := 5, desc := some dsc, status := 0x41 }, slots := [{ desc := dsc, started := true, age := 0 }] }
def eng (q : List EngE) (f : EngS → EngS := id) : State := (okCh up 9).chMap 9 (fun c => { ctxv c with eng := f { c.eng with queue := q, sel := some 2 } })
def held (s : State) : State := s.chMap 9 (fun c => { c with phy := { c.phy with cmd := some { kind := .full, left := [1], all := [1], rated := true } } })

theorem witness_EngineRunsItsQueueInOrder_1 :
    (∃ (s : State) (n : Fin 48) (c : Option Nat) (q : List EngE), (s.ch n).eng.queue = .ce c :: q ∧ s.engMay n = true ∧ (s.ch n).sealing = false ∧ (s.ch n).ctx.inSeal = false) ∧
    (∃ (s : State) (n : Fin 48) (b : Nat) (q : List EngE), (s.ch n).eng.queue = .cmd b :: q ∧ b ≠ 0xFF ∧ s.arrayBar n b = false ∧ (s.ch n).eng.row = none ∧ s.engMay n = true ∧ (s.ch n).sealing = false ∧ (s.ch n).ctx.inSeal = false ∧ ((∀ d, (s.ch n).ctx.desc = some d → d.opcode = 1 → d.tlc = false)) ∧ ((∀ i, (s.ch n).eng.sel = some i → (s.ch n).eng.charter.getLsbD i = false))) ∧
    (∃ (s : State) (n : Fin 48) (l : Nat) (blk : Nat) (pg : Nat) (q : List EngE), (s.ch n).eng.queue = .cmd 0x10 :: q ∧ (s.ch n).eng.row = some (l, blk, pg) ∧ s.engMay n = true ∧ (s.ch n).sealing = false ∧ (s.ch n).ctx.inSeal = false ∧ ((∀ d, (s.ch n).ctx.desc = some d → d.opcode = 1 → d.tlc = false)) ∧ (s.ch n).eng.charter = 0) ∧
    (∃ (s : State) (n : Fin 48) (l : Nat) (q : List EngE), (s.ch n).eng.queue = .susp l :: q ∧ s.engMay n = true ∧ (s.ch n).sealing = false ∧ (s.ch n).ctx.inSeal = false) ∧
    (∃ (s : State) (n : Fin 48) (bs : List Nat) (q : List EngE), (s.ch n).eng.queue = .addr bs none :: q ∧ s.engMay n = true ∧ (s.ch n).sealing = false ∧ (s.ch n).ctx.inSeal = false ∧ (s.ch n).eng.last ∉ [0xEF, 0xFA, 0x80]) ∧
    (∃ (s : State) (n : Fin 48) (bs : List Nat) (l : Nat) (blk : Nat) (pg : Nat) (r : Nat), (s.ch n).eng.queue = [.addr bs (some (l, blk, pg))] ∧ l < 16 ∧ s.engMay n = true ∧ (s.ch n).sealing = false ∧ (s.ch n).ctx.inSeal = false ∧ s.guardCmd n (s.ch n).eng.last = true ∧ s.refuseReason n (taddrOf n l blk pg) (s.ch n).sealing = some r) :=
  ⟨⟨eng [.ce none], 9, none, [], by decide +kernel⟩,
    ⟨eng [.cmd 0x90, .cmd 3] (fun e => { e with row := none }), 9, 144, [.cmd 3], by decide +kernel⟩,
    ⟨eng [.cmd 0x10] (fun e => { e with row := some (3, 4, 5) }), 9, 3, 4, 5, [], by decide +kernel⟩,
    ⟨eng [.susp 10, .stat 1], 9, 10, [.stat 1], by decide +kernel⟩,
    ⟨eng [.addr [1,2] none, .cmd 3], 9, [1, 2], [.cmd 3], by decide +kernel⟩,
    ⟨(eng [.addr [1,2] (some (1, 2, 3))] (fun e => { e with last := 0x80 })), 9, [1, 2], 1, 2, 3, 1, by decide +kernel⟩⟩

theorem witness_EngineRunsItsQueueInOrder_2 :
    (∃ (s : State) (n : Fin 48) (off : Nat) (len : Nat) (q : List EngE), (s.ch n).eng.queue = .din off len :: q ∧ s.engMay n = true ∧ (s.ch n).sealing = false ∧ (s.ch n).ctx.inSeal = false) ∧
    (∃ (s : State) (n : Fin 48) (off : Nat) (len : Nat) (q : List EngE), (s.ch n).eng.queue = .dout off len :: q ∧ s.engMay n = true ∧ (s.ch n).sealing = false ∧ (s.ch n).ctx.inSeal = false) ∧
    (∃ (s : State) (n : Fin 48) (b : Nat) (q : List EngE), (s.ch n).eng.queue = .cmd b :: q ∧ s.arrayBar n b = true) ∧
    (∃ (s : State) (n : Fin 48), (s.ch n).eng.burst = .outRunning ∧ (s.ch n).sealing = false ∧ (s.ch n).ctx.inSeal = false) ∧
    (∃ (s : State) (n : Fin 48) (d : Desc) (data : List Byte), (s.ch n).eng.burst = .inLocked ∧ (s.ch n).sealing = false ∧ (s.ch n).ctx.inSeal = false ∧ (s.ch n).eng.bDesc = some d ∧ d.decodes = false ∧ data.length = (s.ch n).eng.bLen * 64) ∧
    (∃ (s : State) (n : Fin 48), (s.ch n).ctx.statWait = true ∧ (s.ch n).ctx.pc ≠ 0x3FFF) :=
  ⟨⟨eng [.din 3 5], 9, 3, 5, [], by decide +kernel⟩,
    ⟨eng [.dout 0 288], 9, 0, 288, [], by decide +kernel⟩,
    ⟨held (eng [.cmd 0x80, .cmd 3]), 9, 128, [.cmd 3], by decide +kernel⟩,
    ⟨(eng [] (fun e => { e with burst := .outRunning })), 9, by decide +kernel⟩,
    ⟨(eng [] (fun e => { e with burst := .inLocked, bOff := 2, bLen := 1, bDesc := some dsc })), 9, { opcode := 64, flags := 8, origin := 16387, taddr := 4660, tileno := 0, place := 0, dbuf := 0, mask := 0, refset := 0, step := 0, count := 0, rsvd := 0, tag := 77, param := 0 }, (List.range 64).map (BitVec.ofNat 8), by decide +kernel⟩,
    ⟨((eng []).ctxMap 9 (fun c => { c with statWait := true })), 9, by decide +kernel⟩⟩

theorem witness_ContextsAreSupervised_1 :
    (∃ (s : State) (n : Fin 48), (s.ch n).ctx.run = .run ∧ (s.ch n).ctx.atom = true ∧ n.val < s.gen.nch) ∧
    (∃ (s : State) (n : Fin 48), (s.ch n).ctx.run = .run ∧ (s.ch n).ctx.desc.isSome = true ∧ s.get (R.SEQG_WDOG_LIM_LIM (n / 8)) ≠ 0 ∧ (s.ch n).ctx.wdog = none) ∧
    (∃ (s : State) (g : Fin 6), s.portTakes (R.SEQG_BREAK_STOP g).addr) ∧
    (∃ (s : State) (g : Fin 6), s.portTakes (R.SEQG_BREAK_STOP g).addr) :=
  ⟨⟨((eng []).ctxMap 9 (fun c => { c with run := .run, atom := true })), 9, by decide +kernel⟩,
    ⟨((eng []).ctxMap 9 (fun c => { c with run := .run, atom := true })), 9, by decide +kernel⟩,
    ⟨eng [.ce (some 3), .cmd 1], 0, takes (by decide +kernel)⟩,
    ⟨eng [.ce (some 3), .cmd 1], 0, takes (by decide +kernel)⟩⟩

end EngineQueue

/-! ## Witnesses: the sequencer store -/

namespace StoreWrites

def hd (s : State) (g r : Nat) : State := s.grpMap g (fun x => { x with verify := some r })

theorem witness_StoreIsWrittenOnlyWhenUnused_1 :
    (∃ (s : State) (a : BitVec 24) (g : Nat) (w : Nat) (be : BitVec 4), s.portTakes a.toNat ∧ storeAt a.toNat = some (g, w) ∧ w < 0x3000 ∧ (s.grp g).verify = none ∧ s.testMode 6 = false ∧ s.memi.inj = none ∧ ((s.flag (R.SEQG_CTRL_ENABLE g) = false ∧ (∀ c, c < 8 → (s.ch (8 * g + c)).ctx.run ≠ .run) ∧ (∀ c, c < 8 → ∀ l, l < 16 → (s.lun (8 * g + c) l).park = none))) ∧ (be = 0xF#4 ∨ s.bad 6 (g * 16384 + w) = false)) ∧
    (∃ (s : State) (a : BitVec 24) (g : Nat) (w : Nat), s.portTakes a.toNat ∧ storeAt a.toNat = some (g, w) ∧ w < 0x3000 ∧ (s.grp g).verify = none ∧ s.testMode 6 = false ∧ s.memi.inj = none ∧ (¬ (s.flag (R.SEQG_CTRL_ENABLE g) = false ∧ (∀ c, c < 8 → (s.ch (8 * g + c)).ctx.run ≠ .run) ∧ (∀ c, c < 8 → ∀ l, l < 16 → (s.lun (8 * g + c) l).park = none)))) ∧
    (∃ (s : State) (a : BitVec 24) (g : Nat) (w : Nat) (be : BitVec 4), s.portTakes a.toNat ∧ storeAt a.toNat = some (g, w) ∧ 0x3000 ≤ w ∧ (s.grp g).verify = none ∧ s.testMode 6 = false ∧ s.memi.inj = none ∧ ((∀ c, c < 8 → s.custUse (8 * g + c) = false)) ∧ (be = 0xF#4 ∨ s.bad 6 (g * 16384 + w) = false)) ∧
    (∃ (s : State) (a : BitVec 24) (g : Nat) (w : Nat), s.portTakes a.toNat ∧ storeAt a.toNat = some (g, w) ∧ 0x3000 ≤ w ∧ (s.grp g).verify = none ∧ s.testMode 6 = false ∧ s.memi.inj = none ∧ (∃ c, c < 8 ∧ s.custUse (8 * g + c) = true)) ∧
    (∃ (s : State) (h : HeldWrite), s.cp.hold = some h ∧ s.cp.held = none ∧ (s.grp h.grp).verify = none ∧ s.testMode 6 = false ∧ s.memi.inj = none ∧ ((∀ c, c < 8 → s.custUse (8 * h.grp + c) = false)) ∧ (h.be = 0xF#4 ∨ s.bad 6 (h.grp * 16384 + h.word) = false)) ∧
    (∃ (s : State) (g : Fin 6), s.portTakes (R.SEQG_VERIFY_REGION g).addr ∧ s.flag (R.SEQG_STATUS_VERIFY_BUSY g) = false) :=
  ⟨⟨up, 0x080004#24, 0, 1, 0xF#4, takes (by decide +kernel), by decide +kernel⟩,
    ⟨up.set (R.SEQG_CTRL_ENABLE 0) 1, 0x080004#24, 0, 1, takes (by decide +kernel), by decide +kernel⟩,
    ⟨up, 0x09c010#24, 1, 12292, 0xF#4, takes (by decide +kernel), by decide +kernel⟩,
    ⟨(up.ctxMap 9 (fun c => { c with run := .run, pc := 0x3100 })), 0x09c010#24, 1, 12292, takes (by decide +kernel), by decide +kernel⟩,
    ⟨{ up with cp := { up.cp with hold := some ⟨1, 0x3004, 0xF, 7⟩ } }, { grp := 1, word := 12292, be := 0xf#4, data := 0x00000007#32 }, by decide +kernel⟩,
    ⟨up, 0, takes (by decide +kernel), by decide +kernel⟩⟩

theorem witness_StoreIsWrittenOnlyWhenUnused_2 :
    (∃ (s : State) (g : Fin 6) (r : Nat), r < 2 ∧ (s.grp g).verify = some r ∧ s.hdrOk g r = false) ∧
    (∃ (s : State) (g : Fin 6) (data : Word), s.portTakes (R.SEQG_CTRL_ENABLE g).addr ∧ data.getLsbD 0 = true ∧ s.flag (R.SEQG_STATUS_VEND_OK g) = true) ∧
    (∃ (s : State) (g : Fin 6) (data : Word), s.portTakes (R.SEQG_CTRL_ENABLE g).addr ∧ data.getLsbD 0 = true ∧ s.flag (R.SEQG_STATUS_VEND_OK g) = false ∧ s.flag (R.SEQG_CTRL_ENABLE g) = false) ∧
    (∃ (s : State) (g : Fin 6) (data : Word), s.portTakes (R.SEQG_CTRL_CUST_HOLD g).addr ∧ data.getLsbD 0 = false) :=
  ⟨⟨hd up 1 0, 1, 0, by decide +kernel⟩,
    ⟨up.set (R.SEQG_STATUS_VEND_OK 1) 1, 1, 0x00000001#32, takes (by decide +kernel), by decide +kernel⟩,
    ⟨up, 0, 0x00000001#32, takes (by decide +kernel), by decide +kernel⟩,
    ⟨up, 0, 0x00000000#32, takes (by decide +kernel), by decide +kernel⟩⟩

end StoreWrites

/-! ## Witnesses: the scheduler -/

namespace Scheduling

def ta (l b p : Nat) : Nat := taddrOf 9 l b p
def cus : Desc := { opcode := 0x41, flags := 8, origin := 16384 + 3, taddr := ta 2 5 6, tag := 9 }
def dd (op : Nat) : Desc := { opcode := op, flags := 8, origin := 16384 + 3, taddr := ta 3 5 6, tag := 9, mask := 3, count := 1 }
def pk (_l cls age : Nat) (d : Desc) (rdy : Bool) : Park := { cont := 0x222, m := [1,2,3,4], cls := cls, desc := d, age := age, ready := rdy }
def b0 : State := ((okCh up 9).chMap 9 (fun c => { c with phy := { c.phy with geo := some geo0 } })).set (R.CH_PHY_STAT_CE_PRESENT 9) 255
def withSlots (s : State) (ds : List (Desc × Bool)) : State := s.chMap 9 (fun c => { c with slots := (List.range ds.length).map (fun i => { desc := (ds.getD i (dd 3, false)).1, started := (ds.getD i (dd 3, false)).2, age := i }), nextAge := 10 })
def p1 := pk 3 1 5 (dd 1) true
def p2 := pk 4 0 7 (dd 3) true
def p3 : Park := { cont := 0x333, m := [1,2,3,4], cls := 3, desc := dd 2, age := 2, ready := false }
def p4 : Park := { cont := 0x333, m := [1,2,3,4], cls := 0, desc := { dd 0xC with flags := 8 }, age := 2, ready := false }
def un : Desc := { dd 0x10 with flags := 8 }
def slots : List Slot := [{ desc := un, age := 0 }, { desc := dd 3, age := 0 }, { desc := dd 6, age := 0}, {desc := cus, age := 0}, {desc := cus, age := 1}]

theorem witness_SchedulerWakesGrantsOrStarts_1 :
    (∃ (s : State) (n : Fin 48) (l : Nat) (p : Park), s.ctxFree n = true ∧ s.grpRuns n = true ∧ s.readyPark n = some (l, p)) ∧
    (∃ (s : State) (n : Fin 48) (l : Nat) (p : Park), s.ctxFree n = true ∧ s.grpRuns n = true ∧ s.readyPark n = none ∧ s.suspGrant n = some (l, p)) ∧
    (∃ (s : State) (n : Fin 48) (x : Slot), s.ctxFree n = true ∧ s.grpRuns n = true ∧ s.readyPark n = none ∧ s.suspGrant n = none ∧ s.bestHead n = some x ∧ x.desc.opcode ≠ 0x0C ∧ x.desc.assigned = true) ∧
    (∃ (s : State) (n : Fin 48) (x : Slot), s.ctxFree n = true ∧ s.grpRuns n = true ∧ s.readyPark n = none ∧ s.suspGrant n = none ∧ s.bestHead n = some x ∧ x.desc.opcode ≠ 0x0C ∧ x.desc.assigned = false ∧ x.desc.org = 1 ∧ x.desc.cmpl = true) ∧
    (∃ (s : State) (n : Fin 48) (o : Fin 4) (d : Desc), (s.ch n).wait.find? (fun d => d.org = o.val) = some d ∧ s.descCheck n d = none ∧ s.slotFor n d = true) ∧
    (∃ (s : State) (n : Fin 48) (x : Slot), (s.ch n).slots.find? (fun x => x.desc.customer ∧ !x.started) = some x ∧ s.flag (R.SEQG_STATUS_CUST_OK (n / 8)) = true ∧ s.ctxFree n = true ∧ s.readyPark n = none ∧ s.suspGrant n = none ∧ s.bestHead n = some x) :=
  ⟨⟨setPark (setPark b0 9 3 p1) 9 4 p2, 9, 4, { cont := 546, m := [0x0001#16, 0x0002#16, 0x0003#16, 0x0004#16], cls := 0, desc := { opcode := 3, flags := 8, origin := 16387, taddr := 616572934, tileno := 0, place := 0, dbuf := 0, mask := 3, refset := 0, step := 0, count := 1, rsvd := 0, tag := 9, param := 0 }, age := 7, ready := true, status := 0x00#8, hung := false }, by decide +kernel⟩,
    ⟨(setPark (withSlots { b0 with cyc := 100000000 } [(dd 3, false)]) 9 3 p3 (fun x => { x with op := .erase, run0 := some 0 })).set (R.CH_ERS_CFG_MAXSUS 9) 4, 9, 3, { cont := 819, m := [0x0001#16, 0x0002#16, 0x0003#16, 0x0004#16], cls := 3, desc := { opcode := 2, flags := 8, origin := 16387, taddr := 616572934, tileno := 0, place := 0, dbuf := 0, mask := 3, refset := 0, step := 0, count := 1, rsvd := 0, tag := 9, param := 0 }, age := 2, ready := false, status := 0x00#8, hung := false }, by decide +kernel⟩,
    ⟨withSlots b0 [(dd 3, false), (dd 6, false)], 9, { desc := { opcode := 3, flags := 8, origin := 16387, taddr := 616572934, tileno := 0, place := 0, dbuf := 0, mask := 3, refset := 0, step := 0, count := 1, rsvd := 0, tag := 9, param := 0 }, age := 0, started := false, aged := false }, by decide +kernel⟩,
    ⟨withSlots b0 [(un, false)], 9, { desc := { opcode := 16, flags := 8, origin := 16387, taddr := 616572934, tileno := 0, place := 0, dbuf := 0, mask := 3, refset := 0, step := 0, count := 1, rsvd := 0, tag := 9, param := 0 }, age := 0, started := false, aged := false }, by decide +kernel⟩,
    ⟨b0.chMap 9 (fun c => { c with wait := [dd 3] }), 9, 1, dd 3, by decide +kernel⟩,
    ⟨(withSlots b0 [(cus, false)]).set (R.SEQG_STATUS_CUST_OK 1) 1, 9, { desc := { opcode := 65, flags := 8, origin := 16387, taddr := 612378630, tileno := 0, place := 0, dbuf := 0, mask := 0, refset := 0, step := 0, count := 0, rsvd := 0, tag := 9, param := 0 }, age := 0, started := false, aged := false }, by decide +kernel⟩⟩

theorem witness_SchedulerWakesGrantsOrStarts_2 :
    (∃ (s : State) (n : Fin 48) (x : Slot), (s.ch n).slots.find? (fun x => x.desc.customer ∧ !x.started) = some x ∧ s.flag (R.SEQG_STATUS_CUST_OK (n / 8)) = false ∧ x.desc.org = 1 ∧ x.desc.cmpl = true) ∧
    (∃ (s : State) (n : Fin 48) (l : Fin 16) (x : Slot), s.get (R.CH_QCFG_AGE n) ≠ 0 ∧ (s.heads n l).find? (fun x => x.desc.cls.rank ≥ 3 ∧ !x.aged ∧ s.eligible n x.desc) = some x) ∧
    (∃ (s : State) (n : Fin 48) (l : Fin 16) (p : Park), (s.lun n l).park = some p ∧ p.ready = false ∧ p.hung = false ∧ p.desc.opcode ≠ 0x0C ∧ n.val < s.gen.nch) ∧
    (∃ (s : State) (n : Fin 48) (l : Fin 16) (p : Park), (s.lun n l).park = some p ∧ p.ready = false ∧ p.desc.opcode = 0x0C ∧ p.desc.org = 1 ∧ p.desc.cmpl = true) ∧
    (∃ (s : State) (n : Fin 48) (l : Fin 16), (s.lun n l).susp = true ∧ (s.lun n l).suspOk = false ∧ (s.ch n).sealing = false ∧ n.val < s.gen.nch) :=
  ⟨⟨withSlots b0 [(cus, false)], 9, {desc := cus, age := 0}, by decide +kernel⟩,
    ⟨(withSlots b0 [(dd 6, false)]).set (R.CH_QCFG_AGE 9) 3, 9, 3, { desc := dd 6, age := 0}, by decide +kernel⟩,
    ⟨(setPark (withSlots { b0 with cyc := 100000000 } [(dd 3, false)]) 9 3 p3 (fun x => { x with op := .erase, run0 := some 0 })).set (R.CH_ERS_CFG_MAXSUS 9) 4, 9, 3, { cont := 819, m := [0x0001#16, 0x0002#16, 0x0003#16, 0x0004#16], cls := 3, desc := { opcode := 2, flags := 8, origin := 16387, taddr := 616572934, tileno := 0, place := 0, dbuf := 0, mask := 3, refset := 0, step := 0, count := 1, rsvd := 0, tag := 9, param := 0 }, age := 2, ready := false, status := 0x00#8, hung := false }, by decide +kernel⟩,
    ⟨setPark b0 9 3 p4, 9, 3, { cont := 819, m := [0x0001#16, 0x0002#16, 0x0003#16, 0x0004#16], cls := 0, desc := { opcode := 12, flags := 8, origin := 16387, taddr := 616572934, tileno := 0, place := 0, dbuf := 0, mask := 3, refset := 0, step := 0, count := 1, rsvd := 0, tag := 9, param := 0 }, age := 2, ready := false, status := 0x00#8, hung := false }, by decide +kernel⟩,
    ⟨b0.lunMap 9 3 (fun x => { x with susp := true }), 9, 3, by decide +kernel⟩⟩

end Scheduling

/-! ## Witnesses: the vendor routines -/

namespace Routines

def ta (l b p : Nat) : Nat := taddrOf 9 l b p
def dd (op : Nat) : Desc := { opcode := op, flags := 8, origin := 16384 + 3, taddr := ta 3 5 6, tag := 9, mask := 3, count := 1 }
def b0 : State := ((okCh up 9).chMap 9 (fun c => { c with phy := { c.phy with geo := some geo0 } })).set (R.CH_PHY_STAT_CE_PRESENT 9) 255
def withSlots (s : State) (ds : List (Desc × Bool)) : State := s.chMap 9 (fun c => { c with slots := (List.range ds.length).map (fun i => { desc := (ds.getD i (dd 3, false)).1, started := (ds.getD i (dd 3, false)).2, age := i }), nextAge := 10 })
def rd (d : Desc) (f : CtxS → CtxS := id) : State := (withSlots b0 [(d, true)]).ctxMap 9 (fun c => f { c with run := .run, desc := some d, pc := 3, m := List.replicate 8 0, status := 0x43 })
def prg : Desc := { dd 1 with origin := 5, place := 2 }
def prgS : State := (rd prg).placeMap 9 2 (fun v => { v with used := true, enc := 0xFFFF, encAddr := prg.taddr })
def free (s : State) : State := putWord (putWord s 5 (winWord (guardAt 9 3 5).1) 0) 5 (winWord (badAt 9 3 5).1) 0
def tld : Desc := { prg with flags := 16 }
def tl0 : State := (rd tld).placeMap 9 2 (fun v => { v with used := true, enc := 0xFFFF, encAddr := tld.taddr })
def ph2 : State := (rd (dd 4)).setM 9 3 1
def ds : List Desc := [prg, tld] ++ [2,3,4,5,6,7,8,9,0xA,0xB,0xC,0xD].map dd

theorem witness_RoutinesDriveParkAndComplete_1 :
    (∃ (s : State) (n : Fin 48) (d : Desc), (s.ch n).ctx.run = .run ∧ (s.ch n).ctx.desc = some d ∧ (s.ch n).ctx.inTrap = false ∧ (s.ch n).ctx.statWait = false ∧ s.opBus n = true ∧ (s.ch n).eng.charter.getLsbD (d.lun % 8) = false ∧ d.opcode = 1 ∧ (s.ch n).ctx.pc ∉ [0x0213, 0x0218] ∧ s.rateHold n = false ∧ s.permit (n / 8) = true ∧ (s.place n d.place).fullReady d.taddr = true ∧ ((s.guardCmd n 0x80 = true → s.refuseReason n d.taddr (s.ch n).sealing = none)) ∧ (d.tlc = false ∨ d.level = 2)) ∧
    (∃ (s : State) (n : Fin 48) (d : Desc) (st : BitVec 8), (s.ch n).ctx.run = .run ∧ (s.ch n).ctx.desc = some d ∧ (s.ch n).ctx.inTrap = false ∧ (s.ch n).ctx.statWait = false ∧ s.opBus n = true ∧ (s.ch n).eng.charter.getLsbD (d.lun % 8) = false ∧ d.opcode = 1 ∧ (s.ch n).ctx.pc ∉ [0x0213, 0x0218] ∧ s.rateHold n = false ∧ s.permit (n / 8) = true ∧ (s.place n d.place).fullReady d.taddr = true ∧ ((s.guardCmd n 0x80 = true → s.refuseReason n d.taddr (s.ch n).sealing = none)) ∧ d.tlc = true ∧ d.level < 2 ∧ st.getLsbD 0 = false) ∧
    (∃ (s : State) (n : Fin 48) (d : Desc), (s.ch n).ctx.run = .run ∧ (s.ch n).ctx.desc = some d ∧ (s.ch n).ctx.inTrap = false ∧ (s.ch n).ctx.statWait = false ∧ s.opBus n = true ∧ (s.ch n).eng.charter.getLsbD (d.lun % 8) = false ∧ d.opcode = 2 ∧ (s.ch n).ctx.pc ∉ [0x0304, 0x0330, 0x0344, 0x0345, 0x0352] ∧ s.rateHold n = false ∧ s.permit 6 = true ∧ s.ledgOn = false ∧ ((s.guardCmd n 0x60 = true → s.refuseReason n (taSet d.taddr * 2048) (s.ch n).sealing = none))) ∧
    (∃ (s : State) (n : Fin 48) (d : Desc) (x : List DieBurst), (s.ch n).ctx.run = .run ∧ (s.ch n).ctx.desc = some d ∧ (s.ch n).ctx.inTrap = false ∧ (s.ch n).ctx.statWait = false ∧ s.opBus n = true ∧ (s.ch n).eng.charter.getLsbD (d.lun % 8) = false ∧ d.opcode = ((8, .opReadCharter n x) : Nat × Instr).1 ∧ s.getM n 3 = 0 ∧ s.rateHold n = false ∧ (s.lun n d.lun).suspended = false ∧ s.guardCmd n 0x00 = false ∧ ((d.opcode = 8 → s.flag (R.CH_CHARTER_EN n) = true)) ∧ ((3 ≤ d.opcode → d.opcode ≤ 6 → d.planes ≠ []))) ∧
    (∃ (s : State) (n : Fin 48) (d : Desc) (x : List DieBurst), (s.ch n).ctx.run = .run ∧ (s.ch n).ctx.desc = some d ∧ (s.ch n).ctx.inTrap = false ∧ (s.ch n).ctx.statWait = false ∧ s.opBus n = true ∧ (s.ch n).eng.charter.getLsbD (d.lun % 8) = false ∧ d.opcode = ((4, .opReadCw n x) : Nat × Instr).1 ∧ s.getM n 3 ≠ 0 ∧ s.readReady n d = true ∧ s.getM n 0 + 1 = d.passes ∧ s.guardCmd n 0x06 = false ∧ (∀ b ∈ x, b.miss = 0)) ∧
    (∃ (s : State) (n : Fin 48) (d : Desc) (x : List DieBurst), (s.ch n).ctx.run = .run ∧ (s.ch n).ctx.desc = some d ∧ (s.ch n).ctx.inTrap = false ∧ (s.ch n).ctx.statWait = false ∧ s.opBus n = true ∧ (s.ch n).eng.charter.getLsbD (d.lun % 8) = false ∧ d.opcode = ((7, .opBlankVerify n x, decide ((s.blankPages n d.tlc).length ≤ s.getM n 0 + 1)) : Nat × Instr × Bool).1 ∧ ((7, .opBlankVerify n x, decide ((s.blankPages n d.tlc).length ≤ s.getM n 0 + 1)) : Nat × Instr × Bool).2.2 = true ∧ s.getM n 3 ≠ 0 ∧ s.readReady n d = true ∧ s.guardCmd n 0x06 = false ∧ (∀ b ∈ x, b.miss = 0)) :=
  ⟨⟨free prgS, 9, { opcode := 1, flags := 8, origin := 5, taddr := 616572934, tileno := 0, place := 2, dbuf := 0, mask := 3, refset := 0, step := 0, count := 1, rsvd := 0, tag := 9, param := 0 }, by decide +kernel⟩,
    ⟨free tl0, 9, { opcode := 1, flags := 16, origin := 5, taddr := 616572934, tileno := 0, place := 2, dbuf := 0, mask := 3, refset := 0, step := 0, count := 1, rsvd := 0, tag := 9, param := 0 }, 0x40#8, by decide +kernel⟩,
    ⟨free (rd (dd 2)), 9, { opcode := 2, flags := 8, origin := 16387, taddr := 616572934, tileno := 0, place := 0, dbuf := 0, mask := 3, refset := 0, step := 0, count := 1, rsvd := 0, tag := 9, param := 0 }, by decide +kernel⟩,
    ⟨(rd (dd 8)).set (R.CH_CHARTER_EN 9) 1, 9, { opcode := 8, flags := 8, origin := 16387, taddr := 616572934, tileno := 0, place := 0, dbuf := 0, mask := 3, refset := 0, step := 0, count := 1, rsvd := 0, tag := 9, param := 0 }, [], by decide +kernel⟩,
    ⟨ph2, 9, { opcode := 4, flags := 8, origin := 16387, taddr := 616572934, tileno := 0, place := 0, dbuf := 0, mask := 3, refset := 0, step := 0, count := 1, rsvd := 0, tag := 9, param := 0 }, [], by decide +kernel⟩,
    ⟨((rd (dd 7)).setM 9 3 1).setM 9 0 5000, 9, { opcode := 7, flags := 8, origin := 16387, taddr := 616572934, tileno := 0, place := 0, dbuf := 0, mask := 3, refset := 0, step := 0, count := 1, rsvd := 0, tag := 9, param := 0 }, [], by decide +kernel⟩⟩

theorem witness_RoutinesDriveParkAndComplete_2 :
    (∃ (s : State) (n : Fin 48) (d : Desc), (s.ch n).ctx.run = .run ∧ (s.ch n).ctx.desc = some d ∧ (s.ch n).ctx.inTrap = false ∧ (s.ch n).ctx.statWait = false ∧ s.opBus n = true ∧ (s.ch n).eng.charter.getLsbD (d.lun % 8) = false ∧ d.opcode = 0x0C ∧ (s.ch n).ctx.wakeRdy = false ∧ (s.lun n d.lun).wl = none) ∧
    (∃ (s : State) (n : Fin 48) (d : Desc), (s.ch n).ctx.run = .run ∧ (s.ch n).ctx.desc = some d ∧ (s.ch n).ctx.inTrap = false ∧ (s.ch n).ctx.statWait = false ∧ s.opBus n = true ∧ (s.ch n).eng.charter.getLsbD (d.lun % 8) = false ∧ d.org = 1 ∧ d.cmpl = true ∧ d.opcode = ((0x0A, .opSetRef n, (s.ch n).ctx.status, 0#32, [.data [d.par 1, d.par 2, d.par 3, d.par 4], .addr [d.lun / 8, d.par 0], .cmd 0xD5, .sel (d.lun % 8)]) : Nat × Instr × BitVec 8 × BitVec 32 × List BusOp).1) ∧
    (∃ (s : State) (n : Fin 48) (d : Desc) (x : List DieBurst), (s.ch n).ctx.run = .run ∧ (s.ch n).ctx.desc = some d ∧ (s.ch n).ctx.inTrap = false ∧ (s.ch n).ctx.statWait = false ∧ s.opBus n = true ∧ d.opcode = 8 ∧ s.flag (R.CH_CHARTER_EN n) = true ∧ s.getM n 3 ≠ 0 ∧ s.readReady n d = true ∧ s.guardCmd n 0x06 = false ∧ (∀ b ∈ x, b.miss = 0)) :=
  ⟨⟨rd (dd (0xC)), 9, { opcode := 12, flags := 8, origin := 16387, taddr := 616572934, tileno := 0, place := 0, dbuf := 0, mask := 3, refset := 0, step := 0, count := 1, rsvd := 0, tag := 9, param := 0 }, by decide +kernel⟩,
    ⟨rd (dd (0xA)), 9, { opcode := 10, flags := 8, origin := 16387, taddr := 616572934, tileno := 0, place := 0, dbuf := 0, mask := 3, refset := 0, step := 0, count := 1, rsvd := 0, tag := 9, param := 0 }, by decide +kernel⟩,
    ⟨((((rd (dd 8)).setM 9 3 1).set (R.CH_CHARTER_EN 9) 1).engMap 9 (fun e => { e with charter := 8 })), 9, { opcode := 8, flags := 8, origin := 16387, taddr := 616572934, tileno := 0, place := 0, dbuf := 0, mask := 3, refset := 0, step := 0, count := 1, rsvd := 0, tag := 9, param := 0 }, [], by decide +kernel⟩⟩

end Routines

/-! ## Witnesses: channel pins and bad blocks -/

namespace ChannelPins

def ta (l b p : Nat) : Nat := taddrOf 9 l b p
def b0 : State := ((okCh up 9).chMap 9 (fun c => { c with phy := { c.phy with geo := some geo0 } })).set (R.CH_PHY_STAT_CE_PRESENT 9) 255
def bz : State := ((b0.set (R.CH_GDT_STAT_BUSY 9) 1).set (R.CH_GDT_LO_ADDR 9) 4)
def hd (m k c : Nat) : List Byte := leBytes 4 m ++ leBytes 4 k ++ leBytes 4 0 ++ leBytes 4 c ++ List.replicate 48 0
def g (s : State) (d : List Byte) (e : Bool := false) : State := s.chMap 9 (fun c => { c with gdt := { data := d, want := some d.length, err := e } })
def cl (s : State) : State := putWord (putWord s 5 (winWord (badAt 9 2 3).1) 0x40) 5 (winWord (badAt 9 2 3).1) 0x40

theorem witness_ChannelPinsAndBadBlocks_1 :
    (∃ (s : State) (n : Fin 48), s.portTakes (R.CH_CTRL_WP_OPEN n).addr) ∧
    (∃ (s : State) (n : Fin 48) (x : Word), s.portTakes (R.CH_BB_MARK_TADDR n).addr ∧ taCh x.toNat ≠ n.val) ∧
    (∃ (s : State) (n : Fin 48) (x : Word), s.portTakes (R.CH_BB_MARK_TADDR n).addr ∧ taCh x.toNat = n.val ∧ s.memi.inj = none ∧ strongClass (s.stored 5 (winWord (badAt n (taLun x.toNat) (taBlk x.toNat)).1)) = .clean) ∧
    (∃ (s : State) (n : Fin 48) (x : Word), s.portTakes (R.CH_GDT_CMD_START n).addr ∧ x.getLsbD 0 = true ∧ s.flag (R.CH_GDT_STAT_BUSY n) = false) ∧
    (∃ (s : State) (n : Fin 48) (g : GdtS) (w : Nat), s.flag (R.CH_GDT_STAT_BUSY n) = true ∧ (s.ch n).gdt = g ∧ g.want = some w ∧ w ≤ g.data.length ∧ ((4, g.err)).2 = true) :=
  ⟨⟨b0, 9, takes (by decide +kernel)⟩,
    ⟨b0, 9, 0x00000001#32, takes (by decide +kernel), by decide +kernel⟩,
    ⟨cl b0, 9, BitVec.ofNat 32 (ta 2 3 4), takes (by decide +kernel), by decide +kernel⟩,
    ⟨b0, 9, 0x00000001#32, takes (by decide +kernel), by decide +kernel⟩,
    ⟨g bz (hd 1 2 3) true, 9, ((g bz (hd 1 2 3) true).ch 9).gdt, 64, by decide +kernel⟩⟩

end ChannelPins

/-! ## Witnesses: encoders and the decoder pool -/

namespace EncDec

def ta (l b p : Nat) : Nat := taddrOf 9 l b p
def encS : State := up.placeMap 9 2 (fun v => { v with used := true, claim := 3, taddr := ta 2 5 6, got := 9000 })
def reS : State := up.placeMap 9 2 (fun v => { v with used := true, claim := 3, issued := true, taddr := ta 2 5 6, enc := 5, encAddr := ta 2 5 7, got := 0 })
def jb : Job := { place := 3, cw := 2, off := 9216, soft := false, mag := 3, taddr := ta 1 1 1, step := 1, cap := 1, urgent := true }
def dd (op : Nat) : Desc := { opcode := op, flags := 8, origin := 16384 + 3, taddr := ta 3 5 6, dbuf := 3, mask := 4, step := 9 }
def lnd (op : Nat) (f : DecS → DecS := id) : State := { up with dec := f { up.dec with landed := [⟨dd op, 2⟩, ⟨dd op, 3⟩] } }
def ones : Tab Byte := (List.range 4608).map (fun i => (dKey 3 + 9216 + i, 0xFF#8))
def stS (f : DecS → DecS) : State := { up with dec := f up.dec }
def dnS (j : Job) : State := { up with dec := { up.dec with run := [(4, some j)] } }

theorem tfind_row (v : Byte) (c : Nat) (l : List Nat) (i : Nat) (h : i ∈ l) : tfind (l.map (fun j => (c + j, v))) (c + i) = some v := by
  induction l with
  | nil => cases h
  | cons j l ih =>
    by_cases e : j = i
    · simp [tfind, e]
    · have : i ∈ l := by simpa [Ne.symm e] using h
      simp [tfind, e, ih this]
/-- The bytes of the place are all ones. -/
theorem zero_ones : zeroBits ((lnd 3 (fun d => { d with buf := ones })).dGet 3 9216 4608) = 0 := by
  have : (lnd 3 (fun d => { d with buf := ones })).dGet 3 9216 4608 = (List.range 4608).map (fun _ => 0xFF#8) := by
    show tbytes ones _ _ = _
    refine List.map_congr_left (fun i hi => ?_)
    show (tfind ((List.range 4608).map (fun j => (dKey 3 + 9216 + j, 0xFF#8))) (dKey 3 + 9216 + i)).getD _ = _
    rw [tfind_row _ _ _ _ hi]; rfl
  rw [this]; decide +kernel

theorem witness_EncodersAndPoolRunTheirJobs_1 :
    (∃ (s : State) (n : Fin 48) (p : Nat) (k : Nat), s.encPick n = some (p, k)) ∧
    (∃ (s : State) (n : Fin 48) (p : Fin 8), s.encPick n = none ∧ (s.place n p).used = true ∧ (s.place n p).issued = true ∧ (s.place n p).enc ≠ 0 ∧ (s.place n p).enc < 65536 ∧ (s.place n p).encAddr ≠ s.encTarget n p ∧ ((∀ j : Fin 8, j ≠ p → (s.place n j).used = true → (s.place n j).issued = true → (s.place n j).enc = 0 ∨ (s.place n j).encAddr = s.encTarget n j))) ∧
    (∃ (s : State) (x : DLand) (xs : List DLand), s.dec.landed = x :: xs ∧ s.get R.DEC_ERASED_MAX_MAX < zeroBits (s.dGet x.desc.dbuf (x.desc.cwOff x.cw) 4608)) ∧
    (∃ (s : State) (x : DLand) (xs : List DLand), s.dec.landed = x :: xs ∧ zeroBits (s.dGet x.desc.dbuf (x.desc.cwOff x.cw) 4608) ≤ s.get R.DEC_ERASED_MAX_MAX ∧ ((∀ n, n < 48 → ∀ r ∈ (s.ch n).reads, r.desc.dbuf ≠ x.desc.dbuf)) ∧ (∀ id p, s.dplace x.desc.dbuf ≠ .ladder id p)) ∧
    (∃ (s : State) (e : Nat) (j : Job) (js : List Job), e < s.gen.ndec ∧ s.takesWork (decDom e) = true ∧ s.dec.run.all (fun q => q.1 ≠ e) = true ∧ ((∀ k, k < e → s.takesWork (decDom k) = true → (tget (fun _ => none) s.dec.run k : Option Job) ≠ none)) ∧ s.dec.hi = j :: js) ∧
    (∃ (s : State) (e : Nat) (j : Job) (js : List Job), e < s.gen.ndec ∧ s.takesWork (decDom e) = true ∧ s.dec.run.all (fun q => q.1 ≠ e) = true ∧ ((∀ k, k < e → s.takesWork (decDom k) = true → (tget (fun _ => none) s.dec.run k : Option Job) ≠ none)) ∧ s.dec.hi = [] ∧ s.dec.lo = j :: js) :=
  ⟨⟨encS, 9, 2, 0, by decide +kernel⟩,
    ⟨reS, 9, 2, by decide +kernel⟩,
    ⟨lnd 3, { desc := { opcode := 3, flags := 8, origin := 16387, taddr := 616572934, tileno := 0, place := 0, dbuf := 3, mask := 4, refset := 0, step := 9, count := 0, rsvd := 0, tag := 0, param := 0 }, cw := 2 }, [{ desc := { opcode := 3, flags := 8, origin := 16387, taddr := 616572934, tileno := 0, place := 0, dbuf := 3, mask := 4, refset := 0, step := 9, count := 0, rsvd := 0, tag := 0, param := 0 }, cw := 3 }], by decide +kernel⟩,
    ⟨lnd 3 (fun d => {d with buf := ones}), ⟨dd 3, 2⟩, [⟨dd 3, 3⟩], by decide +kernel, le_of_eq_of_le zero_ones (by decide +kernel), by decide +kernel, fun _ _ h => nomatch (show DUse.free = _ from h)⟩,
    ⟨stS (fun d => { d with hi := [jb, jb] }), 0, { place := 3, cw := 2, off := 9216, soft := false, mag := 3, taddr := 608176129, step := 1, cap := 1, urgent := true }, [jb], by decide +kernel⟩,
    ⟨stS (fun d => { d with lo := [jb], run := [(0, some jb)] }), 1, { place := 3, cw := 2, off := 9216, soft := false, mag := 3, taddr := 608176129, step := 1, cap := 1, urgent := true }, [], by decide +kernel⟩⟩

theorem witness_EncodersAndPoolRunTheirJobs_2 :
    ∃ (s : State) (e : Fin 24) (j : Job), (tget (fun _ => none) s.dec.run e : Option Job) = some j ∧ ((∀ n, n < 48 → ∀ r ∈ (s.ch n).reads, r.desc.dbuf ≠ j.place)) ∧ (∀ id p, s.dplace j.place ≠ .ladder id p) :=
  ⟨dnS jb, 4, jb, by decide +kernel, by decide +kernel, fun _ _ h => nomatch (show DUse.free = _ from h)⟩

end EncDec

/-! ## Witnesses: parity stripes -/

namespace Lace

def sl (c p : Nat) (l : Bool) : LSlot := ⟨c, p, l, unmapped, false⟩
def x0 (l : Bool) : Stripe := { num := 17, prof := 3, width := 6, parity := 2, mask := 0x3F00, set := 2, hoop := 5, cap := 4, slots := [sl 8 1 l, sl 9 2 true] }
def xc : Stripe := { x0 true with closed := some 1, copies := [(1, 9)], fin := true }
def xd : Stripe := { x0 true with closed := some 1, copies := [], fin := true, noParity := true, slots := [{ sl 8 1 true with taddr := 5 }] }
def b (xs : List Stripe) : State := { up.set (R.LACE_PROF3_CLOSE_TO 3) 7 with lace := { up.lace with stripes := xs ++ [{ x0 true with num := 18, prof := 2 }], used := [2, 4] } }
def can (p : Nat) : State := let s := (b [x0 true]).placeMap 9 2 (fun v => { v with stripe := p, slot := 1, used := true, got := 40 }); { s with lace := { s.lace with cancels := [(9, 2, 40), (8, 1, 3)] } }

theorem witness_LaceStripesCloseCopyAndRecord_1 :
    (∃ (s : State) (p : Fin 8) (x : Stripe), s.openStripe p = some x ∧ x.want ≠ some 2 ∧ s.lace.stripes.filter (fun y => y.num = x.num) = [x] ∧ s.portTakes R.LACE_CLOSE_PROF.addr ∧ s.get (R.LACE_PROF3_CLOSE_TO p) ≠ 0 ∧ x.landed = false) ∧
    (∃ (s : State) (p : Fin 8) (x : Stripe), s.openStripe p = some x ∧ x.want ≠ some 2 ∧ s.lace.stripes.filter (fun y => y.num = x.num) = [x] ∧ s.portTakes R.LACE_CLOSE_PROF.addr ∧ s.get (R.LACE_PROF3_CLOSE_TO p) ≠ 0 ∧ x.landed = false) ∧
    (∃ (s : State) (p : Fin 8) (x : Stripe), s.openStripe p = some x ∧ x.want ≠ some 2 ∧ s.lace.stripes.filter (fun y => y.num = x.num) = [x] ∧ s.portTakes R.LACE_CLOSE_PROF.addr ∧ s.get (R.LACE_PROF3_CLOSE_TO p) ≠ 0 ∧ x.landed = true ∧ x.casc = false ∧ (x.slots.filter (fun y => !y.free)).length < x.cap) ∧
    (∃ (s : State) (n : Nat) (p : Nat) (g : Nat) (r : List (Nat × Nat × Nat)), s.lace.cancels = (n, p, g) :: r ∧ s.lace.stripes.find? (fun x => x.num = (s.place n p).stripe ∧ x.closed = none) = none) ∧
    (∃ (s : State) (n : Nat) (p : Nat) (g : Nat) (r : List (Nat × Nat × Nat)) (x : _), s.lace.cancels = (n, p, g) :: r ∧ s.lace.stripes.find? (fun x => x.num = (s.place n p).stripe ∧ x.closed = none) = some x ∧ x.want = none ∧ (x.slots.filter (fun y => !y.free)).length < x.cap ∧ s.lace.stripes.filter (fun y => y.num = x.num) = [x]) ∧
    (∃ (s : State) (a : Fin 8) (k : Fin 4) (x : Stripe) (n : Nat) (p : Nat), s.lace.stripes.find? (fun y => y.set = a.val ∧ y.closed.isSome ∧ y.copies.any (fun c => c.1 = k.val)) = some x ∧ x.copies.find? (fun c => c.1 = k.val) = some (k.val, n) ∧ s.freePlace n = some p) :=
  ⟨⟨b [x0 false], 3, { num := 17, prof := 3, width := 6, parity := 2, mask := 16128, set := 2, hoop := 5, slots := [{ ch := 8, place := 1, landed := false, taddr := 4294967295, free := false }, { ch := 9, place := 2, landed := true, taddr := 4294967295, free := false }], last := 0, want := none, closed := none, copies := [], pslots := [], noParity := false, cap := 4, base := 0, casc := false, rows := [], fin := false }, by decide +kernel, by decide +kernel, by decide +kernel, takes (by decide +kernel), by decide +kernel⟩,
    ⟨b [x0 false], 3, { num := 17, prof := 3, width := 6, parity := 2, mask := 16128, set := 2, hoop := 5, slots := [{ ch := 8, place := 1, landed := false, taddr := 4294967295, free := false }, { ch := 9, place := 2, landed := true, taddr := 4294967295, free := false }], last := 0, want := none, closed := none, copies := [], pslots := [], noParity := false, cap := 4, base := 0, casc := false, rows := [], fin := false }, by decide +kernel, by decide +kernel, by decide +kernel, takes (by decide +kernel), by decide +kernel⟩,
    ⟨b [x0 true], 3, { num := 17, prof := 3, width := 6, parity := 2, mask := 16128, set := 2, hoop := 5, slots := [{ ch := 8, place := 1, landed := true, taddr := 4294967295, free := false }, { ch := 9, place := 2, landed := true, taddr := 4294967295, free := false }], last := 0, want := none, closed := none, copies := [], pslots := [], noParity := false, cap := 4, base := 0, casc := false, rows := [], fin := false }, by decide +kernel, by decide +kernel, by decide +kernel, takes (by decide +kernel), by decide +kernel⟩,
    ⟨can 99, 9, 2, 40, [(8, 1, 3)], by decide +kernel⟩,
    ⟨can 17, 9, 2, 40, [(8, 1, 3)], { num := 17, prof := 3, width := 6, parity := 2, mask := 16128, set := 2, hoop := 5, slots := [{ ch := 8, place := 1, landed := true, taddr := 4294967295, free := false }, { ch := 9, place := 2, landed := true, taddr := 4294967295, free := false }], last := 0, want := none, closed := none, copies := [], pslots := [], noParity := false, cap := 4, base := 0, casc := false, rows := [], fin := false }, by decide +kernel⟩,
    ⟨b [xc], 2, 1, { num := 17, prof := 3, width := 6, parity := 2, mask := 16128, set := 2, hoop := 5, slots := [{ ch := 8, place := 1, landed := true, taddr := 4294967295, free := false }, { ch := 9, place := 2, landed := true, taddr := 4294967295, free := false }], last := 0, want := none, closed := some 1, copies := [(1, 9)], pslots := [], noParity := false, cap := 4, base := 0, casc := false, rows := [], fin := true }, 9, 0, by decide +kernel⟩⟩

theorem witness_LaceStripesCloseCopyAndRecord_2 :
    (∃ (s : State) (x : Stripe), s.lace.stripes.find? s.recordDue = some x ∧ s.get R.LACE_REC_COUNT_CNT = 0) ∧
    (∃ (s : State) (x : Stripe), s.lace.stripes.find? s.recordDue = some x ∧ s.get R.LACE_REC_COUNT_CNT ≠ 0 ∧ s.mirrors = false) ∧
    (∃ (s : State) (p : Fin 8) (w : Word), s.portTakes (R.LACE_PROF0_EN p).addr ∧ s.flag (R.LACE_PROF0_EN p) = false ∧ w.getLsbD 0 = true ∧ (s.regMerge (R.LACE_PROF0_EN p).addr 0xF#4 w).profOk p = false) ∧
    (∃ (s : State) (p : Fin 8) (w : Word), s.portTakes (R.LACE_PROF0_EN p).addr ∧ s.flag (R.LACE_PROF0_EN p) = false ∧ w.getLsbD 0 = true ∧ (s.regMerge (R.LACE_PROF0_EN p).addr 0xF#4 w).profOk p = true ∧ s.cascProf p = false) :=
  ⟨⟨b [xd], { num := 17, prof := 3, width := 6, parity := 2, mask := 16128, set := 2, hoop := 5, slots := [{ ch := 8, place := 1, landed := true, taddr := 5, free := false }], last := 0, want := none, closed := some 1, copies := [], pslots := [], noParity := true, cap := 4, base := 0, casc := false, rows := [], fin := true }, by decide +kernel⟩,
    ⟨(b [xd]).set R.LACE_REC_COUNT_CNT 5, { num := 17, prof := 3, width := 6, parity := 2, mask := 16128, set := 2, hoop := 5, slots := [{ ch := 8, place := 1, landed := true, taddr := 5, free := false }], last := 0, want := none, closed := some 1, copies := [], pslots := [], noParity := true, cap := 4, base := 0, casc := false, rows := [], fin := true }, by decide +kernel⟩,
    ⟨b [x0 true], 2, 0x00060201#32, takes (by decide +kernel), by decide +kernel⟩,
    ⟨(b []).set (R.LACE_PROF1_MASK_LO 3) 0x3F, 3, 0x00060201#32, takes (by decide +kernel), by decide +kernel⟩⟩

end Lace

/-! ## Witnesses: read recovery -/

namespace Ladder

def ta (l b p : Nat) : Nat := taddrOf 9 l b p
def sh : State := (((List.range 64).foldl (fun s k => putWord s 5 (refWord 9 (k/4) (k%4)) (if k % 4 = 2 ∧ k/4 = 3 then BitVec.ofNat 32 (ta 3 5 6) else 0xFFFFFFFF#32)) up).set R.DEC_CTRL_SHADOW_EN 1).set R.DEC_REF_FEAT_SLC 0x89
def pat (ent nx : Nat) : State := (((((up.set R.DEC_CTRL_PATROL_EN 1).set R.MAP_ENTRIES_CNT ent).set R.DEC_PATROL_LO_TILENO 4).set R.DEC_PATROL_HI_TILENO 20).set R.DEC_PATROL_NEXT_TILENO nx)
def gr (st : Nat) (pl : Option Nat) : LGroup := { plane := 1, cws := [4, 6], step := st, busy := false, place := pl, usc := [some 5, some 3, some 4] }
def dsc : Desc := { opcode := 4, flags := 8, origin := 16384 + 3, taddr := ta 3 5 6, dbuf := 3, mask := 4, tag := 7 }
def rq (who : List RWho) (gs : List LGroup) : RReq := { id := 5, who := who, taddr := ta 3 5 6, tlc := false, tile := false, mask := 0x50, tileno := 77, hint := 9, refset := 1, place := 3, groups := gs, dead := [] }
def r0 : RReq := { rq [.chan dsc []] [gr 1 none] with id := 4, taddr := 9, groups := [{ gr 1 none with busy := true }] }
def lad (st : Nat) (pl : Option Nat) : State := { (up.set R.DEC_LADDER2_LAST 7).set R.DEC_CTRL_RECON_EN 1 with rcv := { up.rcv with reqs := [r0, rq [.chan dsc []] [{ gr 2 none with plane := 0, busy := true }, gr st pl]], nextId := 6 } }
def rx : ReconS := { stripe := 9, width := 6, parity := 2, addrs := [10, ta 3 5 6, 20, unmapped, 30, 40], slot := 1, mask := 0x50, set := 2, left := [0, 2, 4], todo := [2, 4], lost := [1], rows := [0] }
def rqx (f : ReconS → ReconS) : RReq := { rq [.chan dsc []] [] with recon := some (f rx), dead := [4, 6] }
def rec (f : ReconS → ReconS) : State := { lad 0 none with rcv := { up.rcv with reqs := [r0, rqx f], nextId := 6, folds := [(5, 4, 7), (4, 1, 1)] }, lace := { up.lace with used := [2, 3] } }
def recB : List Byte :=
  let h := leBytes 4 0x4543414C ++ leBytes 4 9 ++ leBytes 1 6 ++ leBytes 1 2 ++ leBytes 1 3 ++ leBytes 1 0
  let b := List.replicate 48 0 ++ ([10, ta 3 5 6, 20, unmapped, 30, 40].flatMap (leBytes 4)) ++ List.replicate (960 - 24) 0
  h ++ leBytes 4 (crc32 (h ++ b)) ++ b
def rs (f : RReq → RReq) : State := { (rec id).set R.LACE_REC_COUNT_CNT 1 with rcv := { (rec id).rcv with reqs := [r0, f { rqx id with recon := none }] } }
def st0 : State := rs (fun q => { q with rd := some (9, some recB) })
def st1 : State := rs id
def st2 : State := rs (fun q => { q with rd := some (9, some []) })
def fin (f : ReconS → ReconS) : State := let s := rec (fun x => f { x with todo := [], left := [] }); { s with rcv := { s.rcv with folds := [] } }
def per : State := rec (fun x => { x with peers := [1, 2], addrs := x.addrs.set 2 remoteSlot, prof := 1 })

theorem witness_LadderAndReconstructionAdvance_1 :
    (∃ (s : State) (e : Nat) (n : Fin 48) (p : Nat × Bool × Nat), s.flag R.DEC_CTRL_SHADOW_EN = true ∧ s.sealApplies = false ∧ (∀ k < s.gen.ndec, s.dplace k ≠ .shadow n) ∧ (s.probeSync [n.val]).probePick n = some p ∧ s.decFree = some e) ∧
    (∃ (s : State) (e : Nat), s.flag R.DEC_CTRL_PATROL_EN = true ∧ s.sealApplies = false ∧ s.decFree = some e ∧ s.get R.DEC_PATROL_LO_TILENO ≤ s.get R.DEC_PATROL_NEXT_TILENO ∧ s.get R.DEC_PATROL_NEXT_TILENO < s.get R.DEC_PATROL_HI_TILENO ∧ (s.mapEntries ≤ (s.get R.DEC_PATROL_NEXT_TILENO) ∨ s.mapHas ((s.get R.DEC_PATROL_NEXT_TILENO) / 16) = false)) ∧
    (∃ (s : State) (q : RReq) (g : LGroup) (e : _), s.sealApplies = false ∧ s.ladderPick = some (q, g) ∧ s.rcv.reqs.filter (fun r => r.id = q.id) = [q] ∧ q.groups.filter (fun h => h.plane = g.plane) = [g] ∧ g.step ≤ 5 ∧ g.step ≠ 4 ∧ g.step + 1 ≤ s.ladderLast ∧ s.decFree = some e) ∧
    (∃ (s : State) (q : RReq) (g : LGroup) (e : _), s.sealApplies = false ∧ s.ladderPick = some (q, g) ∧ s.rcv.reqs.filter (fun r => r.id = q.id) = [q] ∧ q.groups.filter (fun h => h.plane = g.plane) = [g] ∧ g.step = 4 ∧ 5 ≤ s.ladderLast ∧ g.place = some e) ∧
    (∃ (s : State) (q : RReq) (g : LGroup), s.sealApplies = false ∧ s.ladderPick = some (q, g) ∧ s.rcv.reqs.filter (fun r => r.id = q.id) = [q] ∧ q.groups.filter (fun h => h.plane = g.plane) = [g] ∧ s.ladderLast = 7 ∧ g.step = 6 ∧ g.place = none ∧ q.low = false ∧ s.flag R.DEC_CTRL_RECON_EN = true) ∧
    (∃ (s : State) (e : Nat) (j : Nat) (r : List Nat) (q : RReq) (x : ReconS), s.sealApplies = false ∧ s.rcv.reqs.find? (fun r => (s.reconMove r).isSome) = some q ∧ s.rcv.reqs.filter (fun r => r.id = q.id) = [q] ∧ q.wantsRecon = true ∧ q.recon = some x ∧ x.todo = j :: r ∧ s.decFree = some e) :=
  ⟨⟨sh, 0, 9, (3, (false, 0)), by decide +kernel⟩,
    ⟨pat 100 19, 0, by decide +kernel⟩,
    ⟨lad 1 none, { id := 5, who := [Sys2Proof.Machine.RWho.chan { opcode := 4, flags := 8, origin := 16387, taddr := 616572934, tileno := 0, place := 0, dbuf := 3, mask := 4, refset := 0, step := 0, count := 0, rsvd := 0, tag := 7, param := 0 } []], taddr := 616572934, tlc := false, tile := false, mask := 80, tileno := 77, hint := 9, refset := 1, place := 3, groups := [{ plane := 0, cws := [4, 6], step := 2, busy := true, place := none, usc := [some 5, some 3, some 4], sets := [], asked := [] }, { plane := 1, cws := [4, 6], step := 1, busy := false, place := none, usc := [some 5, some 3, some 4], sets := [], asked := [] }], dead := [], deep := 0, recon := none, searched := false, probes := [], answers := [], found := [], nums := [], rd := none }, { plane := 1, cws := [4, 6], step := 1, busy := false, place := none, usc := [some 5, some 3, some 4], sets := [], asked := [] }, 0, by decide +kernel⟩,
    ⟨lad 4 (some 3), { id := 5, who := [Sys2Proof.Machine.RWho.chan { opcode := 4, flags := 8, origin := 16387, taddr := 616572934, tileno := 0, place := 0, dbuf := 3, mask := 4, refset := 0, step := 0, count := 0, rsvd := 0, tag := 7, param := 0 } []], taddr := 616572934, tlc := false, tile := false, mask := 80, tileno := 77, hint := 9, refset := 1, place := 3, groups := [{ plane := 0, cws := [4, 6], step := 2, busy := true, place := none, usc := [some 5, some 3, some 4], sets := [], asked := [] }, { plane := 1, cws := [4, 6], step := 4, busy := false, place := some 3, usc := [some 5, some 3, some 4], sets := [], asked := [] }], dead := [], deep := 0, recon := none, searched := false, probes := [], answers := [], found := [], nums := [], rd := none }, { plane := 1, cws := [4, 6], step := 4, busy := false, place := some 3, usc := [some 5, some 3, some 4], sets := [], asked := [] }, 3, by decide +kernel⟩,
    ⟨lad 6 none, { id := 5, who := [Sys2Proof.Machine.RWho.chan { opcode := 4, flags := 8, origin := 16387, taddr := 616572934, tileno := 0, place := 0, dbuf := 3, mask := 4, refset := 0, step := 0, count := 0, rsvd := 0, tag := 7, param := 0 } []], taddr := 616572934, tlc := false, tile := false, mask := 80, tileno := 77, hint := 9, refset := 1, place := 3, groups := [{ plane := 0, cws := [4, 6], step := 2, busy := true, place := none, usc := [some 5, some 3, some 4], sets := [], asked := [] }, { plane := 1, cws := [4, 6], step := 6, busy := false, place := none, usc := [some 5, some 3, some 4], sets := [], asked := [] }], dead := [], deep := 0, recon := none, searched := false, probes := [], answers := [], found := [], nums := [], rd := none }, { plane := 1, cws := [4, 6], step := 6, busy := false, place := none, usc := [some 5, some 3, some 4], sets := [], asked := [] }, by decide +kernel⟩,
    ⟨rec id, 0, 2, [4], { id := 5, who := [Sys2Proof.Machine.RWho.chan { opcode := 4, flags := 8, origin := 16387, taddr := 616572934, tileno := 0, place := 0, dbuf := 3, mask := 4, refset := 0, step := 0, count := 0, rsvd := 0, tag := 7, param := 0 } []], taddr := 616572934, tlc := false, tile := false, mask := 80, tileno := 77, hint := 9, refset := 1, place := 3, groups := [], dead := [4, 6], deep := 0, recon := some { stripe := 9, width := 6, parity := 2, addrs := [10, 616572934, 20, 4294967295, 30, 40], slot := 1, mask := 80, set := 2, left := [0, 2, 4], todo := [2, 4], lost := [1], rows := [0], peers := [], prof := 0 }, searched := false, probes := [], answers := [], found := [], nums := [], rd := none }, { stripe := 9, width := 6, parity := 2, addrs := [10, 616572934, 20, 4294967295, 30, 40], slot := 1, mask := 80, set := 2, left := [0, 2, 4], todo := [2, 4], lost := [1], rows := [0], peers := [], prof := 0 }, by decide +kernel⟩⟩

theorem witness_LadderAndReconstructionAdvance_2 :
    (∃ (s : State) (q : RReq), s.sealApplies = false ∧ s.rcv.reqs.find? (fun r => (s.reconMove r).isSome) = some q ∧ s.rcv.reqs.filter (fun r => r.id = q.id) = [q] ∧ q.wantsRecon = true ∧ q.recon = none ∧ q.low = false ∧ s.ladderLast = 7 ∧ s.flag R.DEC_CTRL_RECON_EN = true ∧ s.ownStripe q = none ∧ q.hint ≠ unmapped ∧ (s.get R.LACE_REC_COUNT_CNT) ≠ 0 ∧ q.rd = none) ∧
    (∃ (s : State) (q : RReq) (a : _) (b : _) (i : _), s.sealApplies = false ∧ s.rcv.reqs.find? (fun r => (s.reconMove r).isSome) = some q ∧ s.rcv.reqs.filter (fun r => r.id = q.id) = [q] ∧ q.wantsRecon = true ∧ q.recon = none ∧ q.low = false ∧ s.ladderLast = 7 ∧ s.flag R.DEC_CTRL_RECON_EN = true ∧ s.ownStripe q = none ∧ q.hint ≠ unmapped ∧ s.setsRoom = true ∧ s.setFree = some a ∧ q.rd = some (q.hint, some b) ∧ recGood b q.hint = true ∧ recU b 11 1 ≠ 2 ∧ (recAddrs b).findIdx? (fun y => y = q.taddr) = some i ∧ (∀ y ∈ recAddrs b, y ≠ remoteSlot)) ∧
    (∃ (s : State) (q : RReq) (b : _), s.sealApplies = false ∧ s.rcv.reqs.find? (fun r => (s.reconMove r).isSome) = some q ∧ s.rcv.reqs.filter (fun r => r.id = q.id) = [q] ∧ q.wantsRecon = true ∧ q.recon = none ∧ q.low = false ∧ s.ladderLast = 7 ∧ s.flag R.DEC_CTRL_RECON_EN = true ∧ s.ownStripe q = none ∧ q.hint ≠ unmapped ∧ q.rd = some (q.hint, some b) ∧ recGood b q.hint = false ∧ q.who.map (fun w => match w with | .chan _ _ => true | _ => false) = [true] ∧ s.rcv.wait = []) ∧
    (∃ (s : State) (id : Nat) (j : Nat) (e : Nat) (r : List (Nat × Nat × Nat)), s.rcv.folds = (id, j, e) :: r ∧ s.rng.reads = []) ∧
    (∃ (s : State) (q : RReq) (x : ReconS) (d : Desc) (res : List Half), s.rcv.reqs.find? s.reconReady = some q ∧ q.recon = some x ∧ q.who = [.chan d res] ∧ q.groups = [] ∧ s.rcv.wait = [] ∧ (sortNat x.rows).length < (sortNat x.lost).length) ∧
    (∃ (s : State) (q : RReq) (x : ReconS) (d : Desc) (res : List Half), s.rcv.reqs.find? s.reconReady = some q ∧ q.recon = some x ∧ q.who = [.chan d res] ∧ q.groups = [] ∧ s.rcv.wait = [] ∧ q.tile = false ∧ (sortNat x.lost).length ≤ (sortNat x.rows).length) :=
  ⟨⟨st1, { id := 5, who := [Sys2Proof.Machine.RWho.chan { opcode := 4, flags := 8, origin := 16387, taddr := 616572934, tileno := 0, place := 0, dbuf := 3, mask := 4, refset := 0, step := 0, count := 0, rsvd := 0, tag := 7, param := 0 } []], taddr := 616572934, tlc := false, tile := false, mask := 80, tileno := 77, hint := 9, refset := 1, place := 3, groups := [], dead := [4, 6], deep := 0, recon := none, searched := false, probes := [], answers := [], found := [], nums := [], rd := none }, by decide +kernel⟩,
    ⟨st0, { rqx id with recon := none, rd := some (9, some recB) }, 0, recB, 1, by decide +kernel⟩,
    ⟨st2, { id := 5, who := [Sys2Proof.Machine.RWho.chan { opcode := 4, flags := 8, origin := 16387, taddr := 616572934, tileno := 0, place := 0, dbuf := 3, mask := 4, refset := 0, step := 0, count := 0, rsvd := 0, tag := 7, param := 0 } []], taddr := 616572934, tlc := false, tile := false, mask := 80, tileno := 77, hint := 9, refset := 1, place := 3, groups := [], dead := [4, 6], deep := 0, recon := none, searched := false, probes := [], answers := [], found := [], nums := [], rd := some (9, some []) }, [], by decide +kernel⟩,
    ⟨rec id, 5, 4, 7, [(4, 1, 1)], by decide +kernel⟩,
    ⟨fin (fun x => { x with lost := [1, 2] }), { id := 5, who := [Sys2Proof.Machine.RWho.chan { opcode := 4, flags := 8, origin := 16387, taddr := 616572934, tileno := 0, place := 0, dbuf := 3, mask := 4, refset := 0, step := 0, count := 0, rsvd := 0, tag := 7, param := 0 } []], taddr := 616572934, tlc := false, tile := false, mask := 80, tileno := 77, hint := 9, refset := 1, place := 3, groups := [], dead := [4, 6], deep := 0, recon := some { stripe := 9, width := 6, parity := 2, addrs := [10, 616572934, 20, 4294967295, 30, 40], slot := 1, mask := 80, set := 2, left := [], todo := [], lost := [1, 2], rows := [0], peers := [], prof := 0 }, searched := false, probes := [], answers := [], found := [], nums := [], rd := none }, { stripe := 9, width := 6, parity := 2, addrs := [10, 616572934, 20, 4294967295, 30, 40], slot := 1, mask := 80, set := 2, left := [], todo := [], lost := [1, 2], rows := [0], peers := [], prof := 0 }, dsc, [], by decide +kernel⟩,
    ⟨fin id, { id := 5, who := [Sys2Proof.Machine.RWho.chan { opcode := 4, flags := 8, origin := 16387, taddr := 616572934, tileno := 0, place := 0, dbuf := 3, mask := 4, refset := 0, step := 0, count := 0, rsvd := 0, tag := 7, param := 0 } []], taddr := 616572934, tlc := false, tile := false, mask := 80, tileno := 77, hint := 9, refset := 1, place := 3, groups := [], dead := [4, 6], deep := 0, recon := some { stripe := 9, width := 6, parity := 2, addrs := [10, 616572934, 20, 4294967295, 30, 40], slot := 1, mask := 80, set := 2, left := [], todo := [], lost := [1], rows := [0], peers := [], prof := 0 }, searched := false, probes := [], answers := [], found := [], nums := [], rd := none }, { stripe := 9, width := 6, parity := 2, addrs := [10, 616572934, 20, 4294967295, 30, 40], slot := 1, mask := 80, set := 2, left := [], todo := [], lost := [1], rows := [0], peers := [], prof := 0 }, dsc, [], by decide +kernel⟩⟩

theorem witness_LadderAndReconstructionAdvance_3 :
    ∃ (s : State) (m : Fin 4) (q : RReq) (x : ReconS), s.rcv.reqs.find? (fun q => match q.recon with | some x => decide (m.val ∈ x.peers) | none => false) = some q ∧ q.recon = some x ∧ s.rcv.reqs.filter (fun r => r.id = q.id) = [q] :=
  ⟨per, 1, { id := 5, who := [Sys2Proof.Machine.RWho.chan { opcode := 4, flags := 8, origin := 16387, taddr := 616572934, tileno := 0, place := 0, dbuf := 3, mask := 4, refset := 0, step := 0, count := 0, rsvd := 0, tag := 7, param := 0 } []], taddr := 616572934, tlc := false, tile := false, mask := 80, tileno := 77, hint := 9, refset := 1, place := 3, groups := [], dead := [4, 6], deep := 0, recon := some { stripe := 9, width := 6, parity := 2, addrs := [10, 616572934, 4294967294, 4294967295, 30, 40], slot := 1, mask := 80, set := 2, left := [0, 2, 4], todo := [2, 4], lost := [1], rows := [0], peers := [1, 2], prof := 1 }, searched := false, probes := [], answers := [], found := [], nums := [], rd := none }, { stripe := 9, width := 6, parity := 2, addrs := [10, 616572934, 4294967294, 4294967295, 30, 40], slot := 1, mask := 80, set := 2, left := [0, 2, 4], todo := [2, 4], lost := [1], rows := [0], peers := [1, 2], prof := 1 }, by decide +kernel⟩

end Ladder

/-! ## Witnesses: the almanac -/

namespace Almanac

def gx (s : State) : State := s.chMap 9 (fun c => { c with phy := { c.phy with geo := some { rows := 4, slcPages := 16 } } })
def base : State := { (((((gx up).set R.DEC_ALM_CH_CH_X 9).set R.DEC_ALM_CH_CH_Y 8).set R.DEC_ALM_SEQ_SEQ 6).set R.DEC_ALM_PAGE_NEXT_A 3).set R.DEC_ALM_PAGE_NEXT_B 5 with gen := { up.gen with nch := 16 } }
def ld (s : State) : State := { s with rcv := { s.rcv with loaded := true } }
def recA : List Byte := leBytes 4 0x414D4C41 ++ leBytes 4 12 ++ leBytes 4 almLen
def ldg (b : Bool) (xs : List LoadSlot) : State := { (((base.set (R.CH_PHY_STAT_STATE 9) 2).set (R.CH_PHY_STAT_STATE 8) 2)).set R.DEC_ALM_STAT_BUSY 1 with rcv := { up.rcv with load := some xs, loadTook := b } }
def sv (u v : Bool) : State := { (base.set R.DEC_ALM_STAT_BUSY 1) with rcv := { up.rcv with save := some { seq := 7, bytes := [], progs := [(9, some 2, some u), (8, some 3, some v)] } } }
def e0 : LoadSlot := { hi := 5, lo := 5, fin := true }
def x1 : List LoadSlot := [e0, { e0 with record := some recA }, e0, e0]

theorem best_x1 : almBest (almCands x1) = some (1, recA) := by decide +kernel

theorem witness_AlmanacSavesAndLoads_1 :
    (∃ (s : State) (w : Word), s.portTakes R.DEC_ALM_CMD_CMD.addr ∧ s.flag R.DEC_ALM_STAT_BUSY = false ∧ w.toNat % 4 = 1) ∧
    (∃ (s : State) (w : Word), s.portTakes R.DEC_ALM_CMD_CMD.addr ∧ s.flag R.DEC_ALM_STAT_BUSY = false ∧ w.toNat % 4 = 2 ∧ (s.get R.DEC_ALM_CH_CH_X = s.get R.DEC_ALM_CH_CH_Y ∨ s.rcv.loaded = false)) ∧
    (∃ (s : State) (p : _) (r : _) (w : Word), s.portTakes R.DEC_ALM_CMD_CMD.addr ∧ s.flag R.DEC_ALM_STAT_BUSY = false ∧ w.toNat % 4 = 2 ∧ (s.get R.DEC_ALM_CH_CH_X) ≠ (s.get R.DEC_ALM_CH_CH_Y) ∧ s.rcv.loaded = true ∧ (∀ n ∈ [(s.get R.DEC_ALM_CH_CH_X), (s.get R.DEC_ALM_CH_CH_Y)], s.almPage (almSlot ((s.get R.DEC_ALM_SEQ_SEQ + 1) % 2 ^ 32)) < s.almPages n) ∧ s.freePlace (s.get R.DEC_ALM_CH_CH_X) = some p ∧ s.freePlace (s.get R.DEC_ALM_CH_CH_Y) = some r) ∧
    (∃ (s : State) (w : Word), s.portTakes R.DEC_ALM_CMD_CMD.addr ∧ s.flag R.DEC_ALM_STAT_BUSY = false ∧ w.toNat % 4 = 2 ∧ (s.get R.DEC_ALM_CH_CH_X) ≠ (s.get R.DEC_ALM_CH_CH_Y) ∧ s.rcv.loaded = true ∧ (∃ n ∈ [(s.get R.DEC_ALM_CH_CH_X), (s.get R.DEC_ALM_CH_CH_Y)], s.almPages n ≤ s.almPage (almSlot ((s.get R.DEC_ALM_SEQ_SEQ + 1) % 2 ^ 32)))) ∧
    (∃ (s : State) (xs : List LoadSlot), s.rcv.load = some xs ∧ xs.all (fun x => x.fin) = true ∧ s.rcv.loadTook = false ∧ almBest (almCands xs) = none ∧ s.rbWrites = false) ∧
    (∃ (s : State) (xs : List LoadSlot) (i : _) (b : _), s.rcv.load = some xs ∧ xs.all (fun x => x.fin) = true ∧ s.rcv.loadTook = false ∧ almBest (almCands xs) = some (i, b)) :=
  ⟨⟨base, 0x00000001#32, takes (by decide +kernel), by decide +kernel⟩,
    ⟨base, 0x00000002#32, takes (by decide +kernel), by decide +kernel⟩,
    ⟨ld base, 0, 0, 0x00000002#32, takes (by decide +kernel), by decide +kernel⟩,
    ⟨ld (base.set R.DEC_ALM_PAGE_NEXT_B 16), 0x00000002#32, takes (by decide +kernel), by decide +kernel⟩,
    ⟨ldg false [e0,e0,e0,e0], [{ lo := 5, hi := 5, seen := 0, busy := false, record := none, fin := true }, { lo := 5, hi := 5, seen := 0, busy := false, record := none, fin := true }, { lo := 5, hi := 5, seen := 0, busy := false, record := none, fin := true }, { lo := 5, hi := 5, seen := 0, busy := false, record := none, fin := true }], by decide +kernel⟩,
    ⟨ldg false x1, x1, 1, recA, by decide +kernel, by decide +kernel, by decide +kernel, best_x1⟩⟩

theorem witness_AlmanacSavesAndLoads_2 :
    (∃ (s : State) (xs : List LoadSlot), s.rcv.load = some xs ∧ xs.all (fun x => x.fin) = true ∧ s.rcv.loadTook = true ∧ almBest (almCands xs) ≠ none ∧ s.rbWrites = false) ∧
    (∃ (s : State) (x : SaveS) (a : Nat × Option Nat × Option Bool) (u : Bool) (b : Nat × Option Nat × Option Bool) (v : Bool), s.rcv.load = none ∧ s.rcv.save = some x ∧ x.progs = [a, b] ∧ s.almChans = [a.1, b.1] ∧ a.2.2 = some u ∧ b.2.2 = some v ∧ x.seq < 2 ^ 32) :=
  ⟨⟨ldg true x1, x1, by decide +kernel, by decide +kernel, by decide +kernel, by rw [best_x1]; nofun, by decide +kernel⟩,
    ⟨sv true true, { seq := 7, bytes := [], erase := [], progs := [(9, some 2, some true), (8, some 3, some true)] }, (9, (some 2, some true)), true, (8, (some 3, some true)), true, by decide +kernel⟩⟩

end Almanac

/-! ## Witnesses: lane framing -/

namespace LaneFlits

def ln (f : LaneS → LaneS) : State := ((up.set R.REFL_CFG_PRIMARY 1).set (R.LANE_CTRL_ENABLE 3) 0).laneMap 3 (fun l => f { l with linkup := true, enabled := true, want := 3, headAt := 24575 })
def zr (s : State) (a n : Nat) : State := (List.range n).foldl (fun s i => putWord s 5 (winWord (a + 4 * i)) 0) s
def ctx (s : State) (h : Nat) : State := ((((zr (zr s (sctx 5) 32) (hctx h) 4).hput h 0 4 0).sput 5 0 4 (h + 0xFF * 256 + 3 * 65536))).hoopMap h (fun x => { x with st := .armed })
def sot (st : FrameSt) (f : State → State := id) : State := let s := ctx (ln (fun l => { l with st := st })) 7; f { s with strms := [(5, true)] }
def qs (s : State) : State := { s with pwr := { s.pwr with doms := tput (fun _ => {}) s.pwr.doms (laneDom 3) { s.dom (laneDom 3) with st := .quiescing } } }

theorem witness_LaneFramesItsFlits_1 :
    (∃ (s : State) (n : Fin 12) (g : BitVec 2), s.laneReady n = true ∧ s.permit 7 = false ∧ (s.lane n).headUsed < headMax ∧ (s.lane n).dropAt ≠ some s.cyc ∧ g ≠ 1 ∧ g ≠ 3 ∧ (s.lane n).st = .inTile) ∧
    (∃ (s : State) (n : Fin 12) (g : BitVec 2), s.laneReady n = true ∧ s.permit 7 = false ∧ (s.lane n).headUsed < headMax ∧ (s.lane n).dropAt ≠ some s.cyc ∧ g ≠ 1 ∧ g ≠ 3 ∧ (s.lane n).st = ((.outside, .outside, some 2) : FrameSt × FrameSt × Option Nat).1) ∧
    (∃ (s : State) (n : Fin 12), s.laneReady n = true ∧ s.permit 7 = false ∧ (s.lane n).headUsed < headMax ∧ (s.lane n).dropAt ≠ some s.cyc ∧ s.takesWork (laneDom n) = false) ∧
    (∃ (s : State) (n : Fin 12) (v : BitVec 64), s.laneReady n = true ∧ s.permit 7 = false ∧ (s.lane n).headUsed < headMax ∧ (s.lane n).dropAt ≠ some s.cyc ∧ s.takesWork (laneDom n) = true ∧ ((if hdrStream v < 4096 ∧ s.powered 0 then s.ctxSeen (sctx (hdrStream v)) 32 else s)).headerCheck n v = 0) ∧
    (∃ (s : State) (n : Fin 12) (v : BitVec 64), s.laneReady n = true ∧ s.permit 7 = false ∧ (s.lane n).headUsed < headMax ∧ (s.lane n).dropAt ≠ some s.cyc ∧ s.takesWork (laneDom n) = true ∧ ((if hdrStream v < 4096 ∧ s.powered 0 then s.ctxSeen (sctx (hdrStream v)) 32 else s)).headerCheck n v ≠ 0) ∧
    (∃ (s : State) (n : Fin 12) (g : BitVec 2), s.laneReady n = true ∧ s.permit 7 = false ∧ g ≠ 3 ∧ (s.lane n).dropAt = some s.cyc) :=
  ⟨⟨ln (fun l => { l with note := some ⟨up.cyc, .inTile, 0, false, false⟩, st := .inTile }), 3, 0x0#2, by decide +kernel⟩,
    ⟨ln (fun l => { l with st := .outside }), 3, 0x0#2, by decide +kernel⟩,
    ⟨(sot .inTile) |> qs, 3, by decide +kernel⟩,
    ⟨sot .outside, 3, 0x0000000032007005#64, by decide +kernel⟩,
    ⟨ln (fun l => { l with note := some ⟨up.cyc, .inTile, 0, false, false⟩, st := .inTile }), 3, 0x123456789abcdef0#64, by decide +kernel⟩,
    ⟨ln (fun l => { l with wd := true, st := .discard, dropAt := some up.cyc }), 3, 0x0#2, by decide +kernel⟩⟩

theorem witness_LaneFramesItsFlits_2 :
    (∃ (s : State) (n : Fin 12), (s.lane n).linkup = true ∧ s.powered (laneDom n) = true) ∧
    (∃ (s : State) (n : Fin 12), s.portTakes (R.LANE_CMD_RESET n).addr ∧ (s.lane n).st = .inTile ∧ ((∀ f, (s.lane n).note = some f → f.born ≠ s.cyc))) ∧
    (∃ (s : State) (n : Fin 12) (g : BitVec 2), s.portTakes (R.LANE_CMD_RESET n).addr ∧ s.laneReady n = true ∧ s.permit 7 = false ∧ (s.lane n).headUsed < headMax ∧ (s.lane n).dropAt ≠ some s.cyc ∧ (s.lane n).headAt < 24576 ∧ g ≠ 1 ∧ g ≠ 3 ∧ (s.lane n).st = .inTile) ∧
    (∃ (s : State) (n : Fin 12), (s.lane n).wd = true ∧ (s.lane n).headUsed < headMax) ∧
    (∃ (s : State) (n : Fin 12), s.portTakes (R.LANE_CTRL_ENABLE n).addr) :=
  ⟨⟨ln (fun l => { l with wd := true, st := .discard, dropAt := some up.cyc }), 3, by decide +kernel⟩,
    ⟨ln (fun l => { l with st := .inTile }), 3, takes (by decide +kernel), by decide +kernel⟩,
    ⟨ln (fun l => { l with note := some ⟨up.cyc, .inTile, 0, false, false⟩, st := .inTile }), 3, 0x0#2, takes (by decide +kernel), by decide +kernel⟩,
    ⟨ln (fun l => { l with wd := true, st := .discard, dropAt := some up.cyc }), 3, by decide +kernel⟩,
    ⟨up, 3, takes (by decide +kernel)⟩⟩

end LaneFlits

/-! ## Witnesses: the spool -/

namespace Spool

def it (v : Nat) (g : Nat) : Item := { v := BitVec.ofNat 64 v, tag := BitVec.ofNat 2 g, stamp := (v, 3) }
def items (n : Nat) : List Item := (List.range n).map (fun i => it (i * 77777) (i % 3))
def ln (f : LaneS → LaneS) : State := { ((up.set (R.SPOOL_MID_BLOCKS_CNT 3) 6).set (R.SPOOL_MID_BASE_LO_ADDR 3) 9).laneMap 3 f with spool := { tokens := 100000 } }
def rest : List Item := items 2048
def s1 : State := ln (fun l => { l with head := it 5 1 :: it 6 2 :: rest, headAt := 3000, tailAt := 7167 })
def s2 : State := ln (fun l => { l with head := items 700, spilling := 24576, midN := 5, midAt := 4, drains := 5 })
def s3 : State := ln (fun l => { l with midN := 3, midAt := 5, drains := 1 })
def rd0 (e g : Bool) : MpRead := { port := 1, cls := 2, seq := 0, addr := 0x9000, lines := 64, beat := 64, data := if g then blockBytes (items 496) else [], bad := if e then [3] else [], use := .spool 3 0 }
def s4 (e g : Bool) : State := let s := ln (fun l => { l with midN := 3, midAt := 5, drains := 1, midSots := [166, 1], midStamps := [(1,2)], tail := [it 1 0] }); { s with mp := { s.mp with done := [rd0 e g] } }

theorem witness_SpoolMovesItemsBetweenTiers_1 :
    (∃ (s : State) (n : Fin 12) (x : Item) (y : Item) (r : List Item), s.powered (laneDom n) = true ∧ s.memi.err = [] ∧ (s.lane n).head = x :: y :: r ∧ 2047 ≤ r.length ∧ (s.lane n).midN = 0 ∧ (s.lane n).tail.length + 1 < 7168) ∧
    (∃ (s : State) (n : Fin 12), s.spoolTurn n = true ∧ s.drainMay n = false ∧ s.memi.err = []) ∧
    (∃ (s : State) (n : Fin 12), s.spoolTurn n = true ∧ s.drainMay n = true) ∧
    (∃ (s : State) (n : Fin 12) (r : MpRead), s.mp.done.find? (fun r => match r.use with | .spool k _ => decide (k = n.val) | _ => false) = some r ∧ (s.lane n).midN ≠ 0) ∧
    (∃ (s : State) (n : Fin 12) (k : Fin 3), s.portTakes ((R.SPOOL_MID_BASE_LO_ADDR n).addr + 4 * k) ∧ (s.lane n).midN = 0 ∧ (s.lane n).spilling = 0) ∧
    (∃ (s : State) (n : Fin 12) (k : Fin 3), s.portTakes ((R.SPOOL_MID_BASE_LO_ADDR n).addr + 4 * k) ∧ (0 < (s.lane n).midN ∨ 0 < (s.lane n).spilling)) :=
  ⟨⟨s1, 3, it 5 1, it 6 2, rest, by decide +kernel⟩,
    ⟨s2, 3, by decide +kernel⟩,
    ⟨s3, 3, by decide +kernel⟩,
    ⟨s4 false true, 3, rd0 false true, by decide +kernel⟩,
    ⟨s1, 3, 0, takes (by decide +kernel), by decide +kernel⟩,
    ⟨s2, 3, 0, takes (by decide +kernel), by decide +kernel⟩⟩

end Spool

/-! ## Witnesses: the assemblers -/

namespace Assembler

def it (v : Nat) (g : Nat) : Item := { v := BitVec.ofNat 64 v, tag := BitVec.ofNat 2 g, stamp := (v, 3) }
def hdrOk : BitVec 64 := BitVec.ofNat 64 (5 + 7 * 2 ^ 12 + 800 * 2 ^ 20)
def st (a : AsmSt) (i : Item) (f : PlaceS → PlaceS := id) : State := ((up.laneMap 3 (fun l => { l with tail := [i, it 9 0], tailAt := 1, asm := a, ch := 9, place := 2 })).placeMap 9 2 (fun v => f { v with used := true, len := 800, got := 4096, tileno := 5, taddr := taddrOf 9 1 2 3, profile := 9 })).hoopMap 7 (fun x => { x with st := .armed })

theorem witness_AssemblerLandsAndEndsTiles_1 :
    (∃ (s : State) (n : Fin 12) (it : Item) (r : List Item), s.powered (laneDom n) = true ∧ s.sealApplies = false ∧ s.memi.err = [] ∧ (s.lane n).tail = it :: r ∧ it.bad = false ∧ it.born ≠ some s.cyc ∧ it.tag = 1 ∧ it.rej = false ∧ ((if s.spoolFull n then { s.lane n with freed := some s.cyc } else s.lane n)).asm = .idle ∧ s.hoopShut (s.hdrHoopOf it.v) = false) ∧
    (∃ (s : State) (n : Fin 12) (it : Item) (r : List Item), s.powered (laneDom n) = true ∧ s.sealApplies = false ∧ s.memi.err = [] ∧ (s.lane n).tail = it :: r ∧ it.bad = false ∧ it.born ≠ some s.cyc ∧ it.tag = 1 ∧ it.rej = true ∧ ((if s.spoolFull n then { s.lane n with freed := some s.cyc } else s.lane n)).asm = .idle) ∧
    (∃ (s : State) (n : Fin 12) (it : Item) (r : List Item), s.powered (laneDom n) = true ∧ s.sealApplies = false ∧ s.memi.err = [] ∧ (s.lane n).tail = it :: r ∧ it.bad = false ∧ it.born ≠ some s.cyc ∧ it.tag = 1 ∧ ((if s.spoolFull n then { s.lane n with freed := some s.cyc } else s.lane n)).asm = .landing) ∧
    (∃ (s : State) (n : Fin 12) (it : Item) (r : List Item), s.powered (laneDom n) = true ∧ s.sealApplies = false ∧ s.memi.err = [] ∧ (s.lane n).tail = it :: r ∧ it.bad = false ∧ it.born ≠ some s.cyc ∧ (it.tag = 0 ∨ it.tag = 2) ∧ ((if s.spoolFull n then { s.lane n with freed := some s.cyc } else s.lane n)).asm = .landing ∧ (s.place ((if s.spoolFull n then { s.lane n with freed := some s.cyc } else s.lane n)).ch ((if s.spoolFull n then { s.lane n with freed := some s.cyc } else s.lane n)).place).stripe = unmapped ∧ (((s.place ((if s.spoolFull n then { s.lane n with freed := some s.cyc } else s.lane n)).ch ((if s.spoolFull n then { s.lane n with freed := some s.cyc } else s.lane n)).place).fresh = true → 8 ≤ (s.place ((if s.spoolFull n then { s.lane n with freed := some s.cyc } else s.lane n)).ch ((if s.spoolFull n then { s.lane n with freed := some s.cyc } else s.lane n)).place).profile)) ∧ (s.place ((if s.spoolFull n then { s.lane n with freed := some s.cyc } else s.lane n)).ch ((if s.spoolFull n then { s.lane n with freed := some s.cyc } else s.lane n)).place).got % 8 = 0) ∧
    (∃ (s : State) (n : Fin 12) (it : Item) (r : List Item), s.powered (laneDom n) = true ∧ s.sealApplies = false ∧ s.memi.err = [] ∧ (s.lane n).tail = it :: r ∧ it.bad = false ∧ it.born ≠ some s.cyc ∧ it.tag = 3 ∧ ((if s.spoolFull n then { s.lane n with freed := some s.cyc } else s.lane n)).asm = .landing ∧ (s.place ((if s.spoolFull n then { s.lane n with freed := some s.cyc } else s.lane n)).ch ((if s.spoolFull n then { s.lane n with freed := some s.cyc } else s.lane n)).place).committed = true) ∧
    (∃ (s : State) (n : Fin 12) (it : Item) (r : List Item), s.powered (laneDom n) = true ∧ s.sealApplies = false ∧ s.memi.err = [] ∧ (s.lane n).tail = it :: r ∧ it.bad = false ∧ it.born ≠ some s.cyc ∧ it.tag = 3 ∧ ((if s.spoolFull n then { s.lane n with freed := some s.cyc } else s.lane n)).asm = .landing ∧ (s.place ((if s.spoolFull n then { s.lane n with freed := some s.cyc } else s.lane n)).ch ((if s.spoolFull n then { s.lane n with freed := some s.cyc } else s.lane n)).place).committed = false) :=
  ⟨⟨st AsmSt.idle (it hdrOk.toNat 1), 3, { v := 0x0000000032007005#64, tag := 0x1#2, stamp := (838889477, 3), bad := false, rej := false, born := none }, [it 9 0], by decide +kernel⟩,
    ⟨st .idle { it hdrOk.toNat 1 with rej := true }, 3, { v := 0x0000000032007005#64, tag := 0x1#2, stamp := (838889477, 3), bad := false, rej := true, born := none }, [it 9 0], by decide +kernel⟩,
    ⟨st .landing (it hdrOk.toNat 1), 3, { v := 0x0000000032007005#64, tag := 0x1#2, stamp := (838889477, 3), bad := false, rej := false, born := none }, [it 9 0], by decide +kernel⟩,
    ⟨st .landing (it 0x123456789ABCDEF 0), 3, { v := 0x0123456789abcdef#64, tag := 0x0#2, stamp := (81985529216486895, 3), bad := false, rej := false, born := none }, [it 9 0], by decide +kernel⟩,
    ⟨st .landing (it 2 3) (fun v => { v with committed := true }), 3, { v := 0x0000000000000002#64, tag := 0x3#2, stamp := (2, 3), bad := false, rej := false, born := none }, [it 9 0], by decide +kernel⟩,
    ⟨st .landing (it 2 3), 3, { v := 0x0000000000000002#64, tag := 0x3#2, stamp := (2, 3), bad := false, rej := false, born := none }, [it 9 0], by decide +kernel⟩⟩

theorem witness_AssemblerLandsAndEndsTiles_2 :
    (∃ (s : State) (n : Fin 12) (it : Item) (r : List Item), s.powered (laneDom n) = true ∧ s.sealApplies = false ∧ s.memi.err = [] ∧ (s.lane n).tail = it :: r ∧ it.bad = false ∧ it.born ≠ some s.cyc ∧ it.tag = 3 ∧ ((if s.spoolFull n then { s.lane n with freed := some s.cyc } else s.lane n)).asm = .idle) ∧
    (∃ (s : State) (n : Fin 12) (it : Item) (r : List Item), s.powered (laneDom n) = true ∧ s.sealApplies = false ∧ s.memi.err = [] ∧ (s.lane n).tail = it :: r ∧ it.bad = false ∧ it.born ≠ some s.cyc ∧ (it.tag = 0 ∨ it.tag = 2) ∧ ((if s.spoolFull n then { s.lane n with freed := some s.cyc } else s.lane n)).asm = .idle) ∧
    (∃ (s : State) (n : Fin 12), (s.lane n).asm = .ending ∧ (s.place (s.lane n).ch (s.lane n).place).stripe = unmapped ∧ (((s.place (s.lane n).ch (s.lane n).place).fresh = true → 8 ≤ (s.place (s.lane n).ch (s.lane n).place).profile))) :=
  ⟨⟨st AsmSt.idle (it 2 3), 3, { v := 0x0000000000000002#64, tag := 0x3#2, stamp := (2, 3), bad := false, rej := false, born := none }, [it 9 0], by decide +kernel⟩,
    ⟨st AsmSt.idle (it 0x123456789ABCDEF 0), 3, { v := 0x0123456789abcdef#64, tag := 0x0#2, stamp := (81985529216486895, 3), bad := false, rej := false, born := none }, [it 9 0], by decide +kernel⟩,
    ⟨st .ending (it hdrOk.toNat 1), 3, by decide +kernel⟩⟩

end Assembler

/-! ## Witnesses: the tile map -/

namespace MapCache

def line (d : Bool) (w : Nat) : MapLine := { entries := (List.range 16).map (fun i => BitVec.ofNat 32 (i * 1000 + 7)), dirty := d, use := 3, way := w }
def m (f : MapS → MapS) : State := { up.set R.MAP_SET_TILE_TILENO 37 with map := f { lines := [(2, line true 0), (5, line false 0), (4098, line true 1)], clock := 9, evicted := [(77, (line true 3).entries)], wbs := [(78, (line true 3).entries)] } }
def rdm (e : Bool) (l : Nat) : MpRead := { port := 1, cls := 0, seq := 0, addr := 0x40 * l, lines := 1, beat := 1, data := (List.range 64).map (BitVec.ofNat 8), bad := if e then [0] else [], use := .mapLine l }
def filled (e : Bool) (ops : List MapOp) : State := let s := m (fun x => { x with waiting := ops, fills := [6, 8] }); { s with mp := { s.mp with done := [rdm e 6] } }
def tr : TileRec := { tileno := 5, taddr := 6, stream := 7, status := 0, flags := 1, serial := 9 }
def zero (s : State) (a n : Nat) : State := (List.range n).foldl (fun s i => putWord s 5 (winWord (a + 4 * i)) 0) s
def rc (en : Bool) : State := let s := ((zero (zero (m id) (sctx 7) 16) (rctx 11) 8).sput 7 4 2 11); let s := (s.rput 11 0 6 0x4000).rput 11 8 2 0x400; { s with map := { s.map with records := [tr, tr] }, rng := { s.rng with rings := [(11, { en := en })] } }
def fl (v : Bool) : State := m (fun x => { x with flush := some ([2], v) })

theorem witness_MapBaseIsGuarded_1 :
    (∃ (s : State) (k : Fin 3) (h : _), s.portTakes (R.MAP_BASE_LO_ADDR.addr + 4 * k.val) ∧ h < 64 ∧ (s.hoop h).st ≠ .off) ∧
    (∃ (s : State) (k : Fin 3), s.portTakes (R.MAP_BASE_LO_ADDR.addr + 4 * k.val) ∧ ((∀ h, h < 64 → (s.hoop h).st = .off))) :=
  ⟨⟨(m id).hoopMap 3 (fun x => { x with st := .armed }), 0, 3, takes (by decide +kernel), by decide +kernel⟩,
    ⟨m id, 0, takes (by decide +kernel), by decide +kernel⟩⟩

theorem witness_MapCacheServesAndFlushes_1 :
    (∃ (s : State) (w : Word) (x : _), s.portTakes R.MAP_LOOKUP_TILE_TILENO.addr ∧ tfind s.map.lines ((w.toNat % 2 ^ 31) / 16) = some x) ∧
    (∃ (s : State) (w : Word), s.portTakes R.MAP_LOOKUP_TILE_TILENO.addr ∧ s.mapHas ((w.toNat % 2 ^ 31) / 16) = false ∧ (w.toNat % 2 ^ 31) / 16 ∉ s.map.fills ∧ (∀ p ∈ s.map.evicted, p.1 ≠ (w.toNat % 2 ^ 31) / 16)) ∧
    (∃ (s : State) (x : _), s.portTakes R.MAP_SET_ADDR_TADDR.addr ∧ tfind s.map.lines ((s.get R.MAP_SET_TILE_TILENO) / 16) = some x ∧ s.memi.inj = none) ∧
    (∃ (s : State), s.portTakes R.MAP_SET_ADDR_TADDR.addr ∧ s.mapHas ((s.get R.MAP_SET_TILE_TILENO) / 16) = false) ∧
    (∃ (s : State) (r : MpRead) (l : Nat) (i : Nat), s.mp.done.find? (fun r => match r.use with | .mapLine _ => true | _ => false) = some r ∧ r.use = .mapLine l ∧ r.bad = [] ∧ i / 16 = l ∧ s.map.waiting = [.lookup i] ∧ ((∃ w, w < 16 ∧ ∀ p ∈ s.map.lines, p.1 % 4096 = l % 4096 → p.2.way ≠ w)) ∧ s.memi.inj = none) ∧
    (∃ (s : State) (r : MpRead) (l : Nat) (i : Nat), s.mp.done.find? (fun r => match r.use with | .mapLine _ => true | _ => false) = some r ∧ r.use = .mapLine l ∧ r.bad ≠ [] ∧ i / 16 = l ∧ s.map.waiting = [.lookup i]) :=
  ⟨⟨m id, 0x00000025#32, { entries := [0x00000007#32, 0x000003ef#32, 0x000007d7#32, 0x00000bbf#32, 0x00000fa7#32, 0x0000138f#32, 0x00001777#32, 0x00001b5f#32, 0x00001f47#32, 0x0000232f#32, 0x00002717#32, 0x00002aff#32, 0x00002ee7#32, 0x000032cf#32, 0x000036b7#32, 0x00003a9f#32], dirty := true, use := 3, way := 0 }, takes (by decide +kernel), by decide +kernel⟩,
    ⟨m id, 0x000000c8#32, takes (by decide +kernel), by decide +kernel⟩,
    ⟨m id, { entries := [0x00000007#32, 0x000003ef#32, 0x000007d7#32, 0x00000bbf#32, 0x00000fa7#32, 0x0000138f#32, 0x00001777#32, 0x00001b5f#32, 0x00001f47#32, 0x0000232f#32, 0x00002717#32, 0x00002aff#32, 0x00002ee7#32, 0x000032cf#32, 0x000036b7#32, 0x00003a9f#32], dirty := true, use := 3, way := 0 }, takes (by decide +kernel), by decide +kernel⟩,
    ⟨(m id).set R.MAP_SET_TILE_TILENO 200, takes (by decide +kernel), by decide +kernel⟩,
    ⟨filled false [.lookup 101], rdm false 6, 6, 101, by decide +kernel⟩,
    ⟨filled true [.lookup 101], rdm true 6, 6, 101, by decide +kernel⟩⟩

theorem witness_MapCacheServesAndFlushes_2 :
    (∃ (s : State) (r : MpRead) (l : Nat) (i : Nat) (a : _), s.mp.done.find? (fun r => match r.use with | .mapLine _ => true | _ => false) = some r ∧ r.use = .mapLine l ∧ r.bad ≠ [] ∧ i / 16 = l ∧ i < 2 ^ 31 ∧ s.map.waiting = [.set i a]) ∧
    (∃ (s : State) (l : Nat) (e : List Word) (r : List (Nat × List Word)), s.map.evicted = (l, e) :: r) ∧
    (∃ (s : State), s.portTakes R.MAP_CMD_OP.addr ∧ s.flag R.MAP_STAT_BUSY = false) ∧
    (∃ (s : State) (ls : List Nat) (v : Bool), s.map.flush = some (ls, v) ∧ (∀ p ∈ s.map.evicted ++ s.map.wbs, p.1 ∉ ls) ∧ s.map.waiting = []) ∧
    (∃ (s : State) (r : TileRec), s.map.records.find? (fun x => !s.cqBusy (s.sget x.stream 4 2 % 16384)) = some r ∧ (s.ring (s.sget r.stream 4 2 % 16384)).en = true ∧ s.cqRoom (s.sget r.stream 4 2 % 16384) = true) ∧
    (∃ (s : State) (r : TileRec), s.map.records.find? (fun x => !s.cqBusy (s.sget x.stream 4 2 % 16384)) = some r ∧ (s.ring (s.sget r.stream 4 2 % 16384)).en = false) :=
  ⟨⟨filled true [.set 101 9], rdm true 6, 6, 101, 9, by decide +kernel⟩,
    ⟨m id, 77, (line true 3).entries, [], by decide +kernel⟩,
    ⟨m id, takes (by decide +kernel), by decide +kernel⟩,
    ⟨fl true, [2], true, by decide +kernel⟩,
    ⟨rc true, { tileno := 5, taddr := 6, stream := 7, status := 0, flags := 1, serial := 9 }, by decide +kernel⟩,
    ⟨rc false, { tileno := 5, taddr := 6, stream := 7, status := 0, flags := 1, serial := 9 }, by decide +kernel⟩⟩

end MapCache

/-! ## Witnesses: hoops and streams -/

namespace Hoops

def zero (s : State) (a n : Nat) : State := (List.range n).foldl (fun s i => putWord s 5 (winWord (a + 4 * i)) 0) s
def hoop0 (st : HoopSt) (f : HoopS → HoopS := id) : State := ((((((((zero up (hctx 5) 64).hput 5 0 4 (4 + 8 + 16 + 256)).hput 5 8 4 100).hput 5 0x20 8 3).hput 5 0x1A 2 1).hput 5 0x16 2 9).hput 5 0x18 2 4).set R.MAP_ENTRIES_CNT 1000).hoopMap 5 (fun x => f { x with st := st })
def kept (s : State) : State := ((((s.set R.PWR_LEDG_BLK_BLK_A 99).set R.PWR_LEDG_BLK_BLK_B 99).set R.PWR_SEAL_AREA_BLK 99).set R.DEC_ALM_BLK_BLK_A 99).set R.DEC_ALM_BLK_BLK_B 99

theorem witness_HoopsAndStreamsChangeState_1 :
    (∃ (s : State), s.portTakes R.STRM_CMD_OP.addr) ∧
    (∃ (s : State) (x : BitVec 12), s.portTakes R.STRM_CMD_OP.addr ∧ s.reservedPlaces (fun v => decide (v.stream = x.toNat)) = [] ∧ s.lace.cancels = []) ∧
    (∃ (s : State), s.portTakes R.HOOP_CMD_OP.addr) ∧
    (∃ (s : State) (h : Fin 64), s.portTakes R.HOOP_CMD_OP.addr ∧ (s.hoop h).st = .off) ∧
    (∃ (s : State) (h : Fin 64), s.portTakes R.HOOP_CMD_OP.addr ∧ (s.hoop h).st ≠ .off ∧ s.reservedPlaces (fun v => decide (v.hoop = h.val)) = [] ∧ s.lace.cancels = []) ∧
    (∃ (s : State) (h : Fin 64), s.portTakes R.HOOP_CMD_OP.addr ∧ (s.hoop h).st ≠ .done ∧ (s.hoop h).st ≠ .overrun) :=
  ⟨⟨{ hoop0 .armed (fun x => { x with trig := [⟨1, 77, 3⟩] }) with cyc := 77, pins := { up.pins with trigAt := some 75 } }, takes (by decide +kernel)⟩,
    ⟨{ hoop0 .armed (fun x => { x with trig := [⟨1, 77, 3⟩] }) with cyc := 77, pins := { up.pins with trigAt := some 75 } }, 0x007#12, takes (by decide +kernel), by decide +kernel⟩,
    ⟨{ hoop0 .armed (fun x => { x with trig := [⟨1, 77, 3⟩] }) with cyc := 77, pins := { up.pins with trigAt := some 75 } }, takes (by decide +kernel)⟩,
    ⟨kept (hoop0 .off), 5, takes (by decide +kernel), by decide +kernel⟩,
    ⟨{ hoop0 .armed (fun x => { x with trig := [⟨1, 77, 3⟩] }) with cyc := 77, pins := { up.pins with trigAt := some 75 } }, 5, takes (by decide +kernel), by decide +kernel⟩,
    ⟨{ hoop0 .armed (fun x => { x with trig := [⟨1, 77, 3⟩] }) with cyc := 77, pins := { up.pins with trigAt := some 75 } }, 5, takes (by decide +kernel), by decide +kernel⟩⟩

theorem witness_HoopsAndStreamsChangeState_2 :
    (∃ (s : State) (h : Fin 64), s.portTakes R.HOOP_CMD_OP.addr ∧ ((s.hoop h).st = .done ∨ (s.hoop h).st = .overrun)) ∧
    (∃ (s : State) (h : Fin 64) (g : TrigS) (r : List TrigS), (s.hoop h).trig = g :: r ∧ (s.hoop h).st = .armed) ∧
    (∃ (s : State) (h : Fin 64) (g : TrigS) (r : List TrigS), (s.hoop h).trig = g :: r ∧ (s.hoop h).st ≠ .armed) ∧
    (∃ (s : State) (k : Fin 2), s.portTakes (R.HOOP_TRIG0_HOOPS.addr + 4 * k.val)) ∧
    (∃ (s : State), s.powered 0 = true ∧ s.xlOn = false ∧ s.pins.trigIn = false ∧ ((∀ c, s.pins.trigAt = some c → c + 4 ≤ s.cyc))) ∧
    (∃ (s : State) (c : Nat), s.pins.trigAt = some c ∧ s.cyc < c + 4 ∧ s.pins.trigIn = false) :=
  ⟨⟨hoop0 .done, 5, takes (by decide +kernel), by decide +kernel⟩,
    ⟨hoop0 .armed (fun x => { x with trig := [⟨1, 2, 3⟩] }), 5, ⟨1, 2, 3⟩, [], by decide +kernel⟩,
    ⟨hoop0 .frozen (fun x => { x with trig := [⟨1, 2, 3⟩] }), 5, ⟨1, 2, 3⟩, [], by decide +kernel⟩,
    ⟨{ hoop0 .armed (fun x => { x with trig := [⟨1, 77, 3⟩] }) with cyc := 77, pins := { up.pins with trigAt := some 75 } }, 0, takes (by decide +kernel)⟩,
    ⟨{ hoop0 .armed with cyc := 77, pins := { up.pins with trigAt := some 73 } }, by decide +kernel⟩,
    ⟨{ hoop0 .armed (fun x => { x with trig := [⟨1, 77, 3⟩] }) with cyc := 77, pins := { up.pins with trigAt := some 75 } }, 75, by decide +kernel⟩⟩

end Hoops

/-! ## Witnesses: tiles, relocation and erases -/

namespace Tiles

def zero (s : State) (a n : Nat) : State := (List.range n).foldl (fun s i => putWord s 5 (winWord (a + 4 * i)) 0) s
def strm (s : State) : State := ((zero s (sctx 7) 32).sput 7 0 1 5).sput 7 1 1 0xFF
def ext0 : Tab Byte := tstore [] 0 (List.replicate 8 0xFF#8)
def hoop0 (st : HoopSt) (f : HoopS → HoopS := id) : State := { (((((((((zero up (hctx 5) 64).hput 5 0 4 (4 + 8 + 16 + 256)).hput 5 8 4 100).hput 5 0x20 8 0x300).hput 5 0x1A 2 1).hput 5 0x16 2 9).hput 5 0x18 2 4).hput 5 0x40 8 17).set R.MAP_ENTRIES_CNT 1000).hoopMap 5 (fun x => f { x with st := st }) with ext := ext0 }
def hdr : Item := { v := BitVec.ofNat 64 (7 + 5 * 2 ^ 12 + 800 * 2 ^ 20), tag := 1, stamp := (12, 13) }
def ln (s : State) : State := (strm s).laneMap 3 (fun l => { l with asm := .header, hdr := hdr })
def er (s : State) : State := s.hput 5 0x5C 4 1
def res : State := (hoop0 .armed).placeMap 9 2 (fun v => { v with used := true, reserved := some 5, hoop := 5, stream := 7, tileno := 99, taddr := taddrOf 9 0 1 2 })
def rel (st : HoopSt) (t : Nat) : State := (er (hoop0 st)).placeMap 9 2 (fun v => { v with used := true, whole := true, hoop := 5, kind := .parity, taddr := t, stream := 7, tileno := 99 })
def bads (s : State) : State := (List.range 16).foldl (fun s b => putWord s 5 (winWord (badAt 9 0 b).1) 0xFFFFFFFF) s
def goods (s : State) : State := (List.range 16).foldl (fun s b => putWord s 5 (winWord (badAt 9 0 b).1) 0) s
def erasable : State := let s := hoop0 .armed; [8, 9].foldl (fun s c => (List.range 10).foldl (fun s b => putWord s 5 (winWord (badAt c 0 b).1) (if c = 9 ∧ b = 0 then 0xFF else 0)) s) s
def tb (s : State) : State := s.hoopMap 5 (fun x => { x with tbl := [(0, none), (1, some 9), (2, none)] })
def kn (s : State) : State := s.hoopMap 5 (fun x => { x with startRow := some 0 })

/-- A found slot and what is left after it. -/
theorem boundSlot_eq {o : Option (Nat × State)} {a : Nat} (h : o.map Prod.fst = some a) : o = some (a, (o.getD (0, up)).2) := by
  cases o with
  | none => cases h
  | some p => cases p; cases h; rfl

theorem witness_TilesAreNumberedFilledAndErased_1 :
    (∃ (s : State) (n : Fin 12), (s.lane n).asm = .header ∧ s.sealApplies = false ∧ s.hoopShut (s.hdrHoopOf ((s.lane n).hdr).v) = true ∧ s.hoopLate (s.hdrHoopOf ((s.lane n).hdr).v) = false) ∧
    (∃ (s : State) (n : Fin 12), (s.lane n).asm = .header ∧ s.sealApplies = false ∧ s.hoopShut (s.hdrHoopOf ((s.lane n).hdr).v) = false ∧ s.reservedFor (hdrStream ((s.lane n).hdr).v) (s.hdrHoopOf ((s.lane n).hdr).v) = none ∧ ((s.ctxSeen (hctx (s.hdrHoopOf ((s.lane n).hdr).v)) 40).hoop (s.hdrHoopOf ((s.lane n).hdr).v)).st = .armed ∧ (s.ctxSeen (hctx (s.hdrHoopOf ((s.lane n).hdr).v)) 40).rowErased (s.hdrHoopOf ((s.lane n).hdr).v) ((s.ctxSeen (hctx (s.hdrHoopOf ((s.lane n).hdr).v)) 40).hget (s.hdrHoopOf ((s.lane n).hdr).v) 0x58 4) = false ∧ (∀ p ∈ ((s.ctxSeen (hctx (s.hdrHoopOf ((s.lane n).hdr).v)) 40).hoop (s.hdrHoopOf ((s.lane n).hdr).v)).stall, p.1 ≠ n.val)) ∧
    (∃ (s : State) (n : Fin 12) (k : _) (p : _), (s.lane n).asm = .header ∧ s.sealApplies = false ∧ s.hoopShut (s.hdrHoopOf ((s.lane n).hdr).v) = false ∧ s.reservedFor (hdrStream ((s.lane n).hdr).v) (s.hdrHoopOf ((s.lane n).hdr).v) = none ∧ ((s.ctxSeen (hctx (s.hdrHoopOf ((s.lane n).hdr).v)) 40).hoop (s.hdrHoopOf ((s.lane n).hdr).v)).st = .armed ∧ (s.ctxSeen (hctx (s.hdrHoopOf ((s.lane n).hdr).v)) 40).rowErased (s.hdrHoopOf ((s.lane n).hdr).v) ((s.ctxSeen (hctx (s.hdrHoopOf ((s.lane n).hdr).v)) 40).hget (s.hdrHoopOf ((s.lane n).hdr).v) 0x58 4) = true ∧ (s.ctxSeen (hctx (s.hdrHoopOf ((s.lane n).hdr).v)) 40).startKnown (s.hdrHoopOf ((s.lane n).hdr).v) ((s.ctxSeen (hctx (s.hdrHoopOf ((s.lane n).hdr).v)) 40).hget (s.hdrHoopOf ((s.lane n).hdr).v) 0x58 4) = true ∧ ((s.ctxSeen (hctx (s.hdrHoopOf ((s.lane n).hdr).v)) 40).hoop (s.hdrHoopOf ((s.lane n).hdr).v)).taken.length < ((s.ctxSeen (hctx (s.hdrHoopOf ((s.lane n).hdr).v)) 40).rowSlots (s.hdrHoopOf ((s.lane n).hdr).v) ((s.ctxSeen (hctx (s.hdrHoopOf ((s.lane n).hdr).v)) 40).hget (s.hdrHoopOf ((s.lane n).hdr).v) 0x58 4)).length ∧ 8 ≤ (s.ctxSeen (hctx (s.hdrHoopOf ((s.lane n).hdr).v)) 40).sget (hdrStream ((s.lane n).hdr).v) 1 1 ∧ (s.ctxSeen (hctx (s.hdrHoopOf ((s.lane n).hdr).v)) 40).pickSlot (s.hdrHoopOf ((s.lane n).hdr).v) ((s.ctxSeen (hctx (s.hdrHoopOf ((s.lane n).hdr).v)) 40).sget (hdrStream ((s.lane n).hdr).v) 1 1) = some k ∧ ((s.ctxSeen (hctx (s.hdrHoopOf ((s.lane n).hdr).v)) 40).get (R.LANE_CFG_CT_THRESH n) = 0 ∨ hdrLen ((s.lane n).hdr).v < (s.ctxSeen (hctx (s.hdrHoopOf ((s.lane n).hdr).v)) 40).get (R.LANE_CFG_CT_THRESH n) * 512) ∧ (s.ctxSeen (hctx (s.hdrHoopOf ((s.lane n).hdr).v)) 40).freePlace (((s.ctxSeen (hctx (s.hdrHoopOf ((s.lane n).hdr).v)) 40).rowSlots (s.hdrHoopOf ((s.lane n).hdr).v) ((s.ctxSeen (hctx (s.hdrHoopOf ((s.lane n).hdr).v)) 40).hget (s.hdrHoopOf ((s.lane n).hdr).v) 0x58 4)).getD k (0, 0, 0)).2.2 = some p ∧ (s.ctxSeen (hctx (s.hdrHoopOf ((s.lane n).hdr).v)) 40).progRoom (((s.ctxSeen (hctx (s.hdrHoopOf ((s.lane n).hdr).v)) 40).rowSlots (s.hdrHoopOf ((s.lane n).hdr).v) ((s.ctxSeen (hctx (s.hdrHoopOf ((s.lane n).hdr).v)) 40).hget (s.hdrHoopOf ((s.lane n).hdr).v) 0x58 4)).getD k (0, 0, 0)).2.2 (((s.ctxSeen (hctx (s.hdrHoopOf ((s.lane n).hdr).v)) 40).rowSlots (s.hdrHoopOf ((s.lane n).hdr).v) ((s.ctxSeen (hctx (s.hdrHoopOf ((s.lane n).hdr).v)) 40).hget (s.hdrHoopOf ((s.lane n).hdr).v) 0x58 4)).getD k (0, 0, 0)).1 = true) ∧
    (∃ (s : State) (n : Fin 48) (p : Fin 8) (c : Nat), (s.place n p).reserved = some c ∧ s.sealApplies = false ∧ s.lace.cancels = [] ∧ s.landsLaced (s.place n p).profile n = false ∧ (s.place n p).stripe = unmapped) ∧
    (∃ (s : State) (n : Fin 48) (p : Fin 8), (s.place n p).used = true ∧ (s.place n p).whole = true ∧ (s.place n p).issued = false ∧ (s.place n p).due = none ∧ (s.place n p).kind ≠ .almanac ∧ (s.place n p).hoop < 64 ∧ (s.place n p).sealRank = none ∧ s.sealApplies = false ∧ s.noGood (s.place n p).hoop n = true) ∧
    (∃ (s : State) (n : Fin 48) (p : Fin 8) (a : _) (u : _), (s.place n p).used = true ∧ (s.place n p).whole = true ∧ (s.place n p).issued = false ∧ (s.place n p).due = none ∧ (s.place n p).kind ≠ .almanac ∧ (s.place n p).hoop < 64 ∧ (s.place n p).sealRank = none ∧ s.sealApplies = false ∧ s.noGood (s.place n p).hoop n = false ∧ s.boundSlot (s.place n p).hoop n = some (a, u) ∧ ((∀ j, j < 8 → j ≠ p.val → (s.place n j).due = none ∧ ((s.place n j).used = false ∨ (s.place n j).issued = true))) ∧ ((∀ h, h < 64 → h ≠ (s.place n p).hoop → (n.val, taLun a) ∉ (s.hoop h).wls)) ∧ (s.place n p).slotNo ≠ (s.ch n).nextOrd) :=
  ⟨⟨ln (hoop0 .off), 3, by decide +kernel⟩,
    ⟨ln (hoop0 .armed), 3, by decide +kernel⟩,
    ⟨kn (ln (er (hoop0 .armed))), 3, 0, 0, by decide +kernel⟩,
    ⟨res.placeMap 9 2 (fun v => { v with profile := 9 }), 9, 2, 5, by decide +kernel⟩,
    ⟨rel .off 5 |> bads, 9, 2, by decide +kernel⟩,
    ⟨goods (rel .off 5), 9, 2, 603979776, (((goods (rel .off 5)).boundSlot 5 9).getD (0, up)).2, by decide +kernel, by decide +kernel, by decide +kernel, by decide +kernel, by decide +kernel, by decide +kernel, by decide +kernel, by decide +kernel, by decide +kernel, boundSlot_eq (by decide +kernel), by decide +kernel⟩⟩

theorem witness_TilesAreNumberedFilledAndErased_2 :
    (∃ (s : State) (h : Fin 64), (s.hoop h).st ≠ .off ∧ s.sealApplies = false ∧ (s.hget h 0x5C 4) ≤ s.hget h 0x58 4 + s.hoopLead h ∧ s.rowKnown h (s.hget h 0x5C 4) = false) ∧
    (∃ (s : State) (h : Fin 64), (s.hoop h).st ≠ .off ∧ s.sealApplies = false ∧ (s.hget h 0x5C 4) ≤ s.hget h 0x58 4 + s.hoopLead h ∧ s.rowKnown h (s.hget h 0x5C 4) = true ∧ s.rowMayErase h (s.hget h 0x5C 4) = true ∧ s.memberOpen h = false) :=
  ⟨⟨kn (ln (er (hoop0 .armed))), 5, by decide +kernel⟩,
    ⟨tb erasable, 5, by decide +kernel⟩⟩

end Tiles

/-! ## Witnesses: rings -/

namespace Ring

def zero (s : State) (a n : Nat) : State := (List.range n).foldl (fun s i => putWord s 5 (winWord (a + 4 * i)) 0) s
def ringA (s : State) (r kind sz cq : Nat) (f : Option RingS) : State :=
  let s := ((((zero s (rctx r) 8).rput r 8 1 kind).rput r 9 1 sz).rput r 0xA 2 cq).rput r 0 6 (0x10000 * (r + 1))
  match f with | some x => s.ringMap r (fun _ => x) | none => s
def on : RingS := { en := true }
def b (k : Nat) (f : Option RingS) : State := ringA (ringA up 6 4 3 0 (some on)) 5 k 3 6 f
def sub (s : State) (h t : Nat) : State := (s.rput 5 0x10 2 h).rput 5 0x12 2 t
def chE (op dl ch : Nat) : List Byte := leBytes 1 op ++ leBytes 1 8 ++ leBytes 2 0 ++ leBytes 4 (taddrOf ch 1 2 3) ++ List.replicate 16 0 ++ leBytes 8 77 ++ leBytes 8 0x4000 ++ leBytes 8 dl ++ List.replicate 16 0
def rdE (cnt : Nat) : List Byte := leBytes 4 100 ++ leBytes 2 cnt ++ leBytes 2 0 ++ leBytes 8 0x4000 ++ leBytes 4 0x100000 ++ leBytes 4 9 ++ leBytes 8 77 ++ List.replicate 32 0
def q (s : State) (f : RngS → RngS) : State := { s with rng := f s.rng }
def ro : RecOut := ⟨6, 5, 99, 77, 0, 1⟩
def cp : CopyS := { place := 3, parts := [(4608, 0x8000, 4096)], recOut := some ro, tile := none, ring := 5 }

theorem witness_RingsTakeCommandsFetchAndComplete_1 :
    (∃ (s : State), s.portTakes R.RING_CMD_OP.addr) ∧
    (∃ (s : State) (r : BitVec 14), s.portTakes R.RING_CMD_OP.addr ∧ (s.ring r.toNat).en = false) ∧
    (∃ (s : State) (r : BitVec 14), s.portTakes R.RING_CMD_OP.addr ∧ (s.ring r.toNat).en = true ∧ s.ringKind r.toNat = 4 ∧ s.cqInUse r.toNat = true) ∧
    (∃ (s : State) (r : BitVec 14), s.portTakes R.RING_CMD_OP.addr ∧ (s.ring r.toNat).en = true ∧ s.ringKind r.toNat = 4 ∧ s.cqInUse r.toNat = false) ∧
    (∃ (s : State) (r : BitVec 14), s.portTakes R.RING_CMD_OP.addr ∧ (s.ring r.toNat).en = true ∧ s.ringKind r.toNat ≠ 4) ∧
    (∃ (s : State) (r : BitVec 14), (s.ring r.toNat).en = true ∧ s.ringKind r.toNat ≠ 4 ∧ s.ringSt r.toNat = 3 ∧ s.rget r.toNat 0x14 2 = 0 ∧ (s.ring r.toNat).busy = 0) :=
  ⟨⟨b 1 none, takes (by decide +kernel)⟩,
    ⟨b 1 none, 0x0005#14, takes (by decide +kernel), by decide +kernel⟩,
    ⟨b 1 (some on), 0x0006#14, takes (by decide +kernel), by decide +kernel⟩,
    ⟨b 1 none, 0x0006#14, takes (by decide +kernel), by decide +kernel⟩,
    ⟨b 1 (some on), 0x0005#14, takes (by decide +kernel), by decide +kernel⟩,
    ⟨(b 1 (some on)).rput 5 0x16 1 3, 0x0005#14, by decide +kernel⟩⟩

theorem witness_RingsTakeCommandsFetchAndComplete_2 :
    (∃ (s : State) (w : Word), s.portTakes R.RING_DOORBELL_RING.addr ∧ s.dbCheck (bits w.toNat 0 14) (bits w.toNat 16 16) ≠ 0) ∧
    (∃ (s : State) (w : Word), s.portTakes R.RING_DOORBELL_RING.addr ∧ s.dbCheck (bits w.toNat 0 14) (bits w.toNat 16 16) = 0) ∧
    (∃ (s : State) (r : BitVec 14) (k : Nat), k ≠ 0 ∧ s.powered 0 = true ∧ s.fetchable r.toNat = k) ∧
    (∃ (s : State) (r : BitVec 14) (k : Nat), k ≠ 0 ∧ (s.ring r.toNat).wait = true ∧ (s.ringMap r.toNat (fun x => { x with wait := false })).fetchable r.toNat = k) ∧
    (∃ (s : State) (r : BitVec 14) (e : List Byte) (st : _), s.rng.chanq.find? (fun p => p.1 = r.toNat) = some (r.toNat, e) ∧ s.chanRefuse ({ descOf e with origin := 0x4000 + r.toNat }) = some st ∧ ({ descOf e with origin := 0x4000 + r.toNat }).cmpl = true) ∧
    (∃ (s : State) (r : BitVec 14) (e : List Byte), s.rng.chanq.find? (fun p => p.1 = r.toNat) = some (r.toNat, e) ∧ s.chanRefuse ({ descOf e with origin := 0x4000 + r.toNat }) = none ∧ ({ descOf e with origin := 0x4000 + r.toNat }).ringReads = false) :=
  ⟨⟨b 1 none, 0x00040005#32, takes (by decide +kernel), by decide +kernel⟩,
    ⟨b 1 none, 0x00000006#32, takes (by decide +kernel), by decide +kernel⟩,
    ⟨sub (b 1 (some on)) 1 4, 0x0005#14, 3, by decide +kernel⟩,
    ⟨(sub (b 1 (some { on with wait := true })) 1 4), 0x0005#14, 3, by decide +kernel⟩,
    ⟨q (b 1 (some on)) (fun g => { g with chanq := [(5, chE 3 0x2000 9)] }), 0x0005#14, chE 3 0x2000 9, 34, by decide +kernel⟩,
    ⟨q (b 1 (some on)) (fun g => { g with chanq := [(5, chE 1 0 9)] }), 0x0005#14, chE 1 0 9, by decide +kernel⟩⟩

theorem witness_RingsTakeCommandsFetchAndComplete_3 :
    (∃ (s : State) (p : _) (r : BitVec 14) (e : List Byte), s.rng.chanq.find? (fun p => p.1 = r.toNat) = some (r.toNat, e) ∧ s.chanRefuse ({ descOf e with origin := 0x4000 + r.toNat }) = none ∧ ({ descOf e with origin := 0x4000 + r.toNat }).ringReads = true ∧ s.decFree = some p) ∧
    (∃ (s : State) (r : BitVec 14) (e : List Byte) (st : _), s.rng.readq.find? (fun p => p.1 = r.toNat) = some (r.toNat, e) ∧ s.readRefuse (({ id := s.rng.nextRead, ring := r.toNat, tag := leNat ((e.drop 0x18).take 8), tileno := leNat ((e.drop 0).take 4) % 2 ^ 31, count := leNat ((e.drop 4).take 2), dest := leNat ((e.drop 8).take 8) % 2 ^ 48, trl := bit (leNat ((e.drop 6).take 1)) 0, hint := leNat ((e.drop 0x14).take 4) } : ReadReq)) (({ id := s.rng.nextRead, ring := r.toNat, tag := leNat ((e.drop 0x18).take 8), tileno := leNat ((e.drop 0).take 4) % 2 ^ 31, count := leNat ((e.drop 4).take 2), dest := leNat ((e.drop 8).take 8) % 2 ^ 48, trl := bit (leNat ((e.drop 6).take 1)) 0, hint := leNat ((e.drop 0x14).take 4) } : ReadReq)).count (leNat ((e.drop 0x10).take 4)) = some st) ∧
    (∃ (s : State) (r : BitVec 14) (e : List Byte), s.rng.readq.find? (fun p => p.1 = r.toNat) = some (r.toNat, e) ∧ s.readRefuse (({ id := s.rng.nextRead, ring := r.toNat, tag := leNat ((e.drop 0x18).take 8), tileno := leNat ((e.drop 0).take 4) % 2 ^ 31, count := leNat ((e.drop 4).take 2), dest := leNat ((e.drop 8).take 8) % 2 ^ 48, trl := bit (leNat ((e.drop 6).take 1)) 0, hint := leNat ((e.drop 0x14).take 4) } : ReadReq)) (({ id := s.rng.nextRead, ring := r.toNat, tag := leNat ((e.drop 0x18).take 8), tileno := leNat ((e.drop 0).take 4) % 2 ^ 31, count := leNat ((e.drop 4).take 2), dest := leNat ((e.drop 8).take 8) % 2 ^ 48, trl := bit (leNat ((e.drop 6).take 1)) 0, hint := leNat ((e.drop 0x14).take 4) } : ReadReq)).count (leNat ((e.drop 0x10).take 4)) = none ∧ (({ id := s.rng.nextRead, ring := r.toNat, tag := leNat ((e.drop 0x18).take 8), tileno := leNat ((e.drop 0).take 4) % 2 ^ 31, count := leNat ((e.drop 4).take 2), dest := leNat ((e.drop 8).take 8) % 2 ^ 48, trl := bit (leNat ((e.drop 6).take 1)) 0, hint := leNat ((e.drop 0x14).take 4) } : ReadReq)).count = 1 ∧ s.mapHas ((({ id := s.rng.nextRead, ring := r.toNat, tag := leNat ((e.drop 0x18).take 8), tileno := leNat ((e.drop 0).take 4) % 2 ^ 31, count := leNat ((e.drop 4).take 2), dest := leNat ((e.drop 8).take 8) % 2 ^ 48, trl := bit (leNat ((e.drop 6).take 1)) 0, hint := leNat ((e.drop 0x14).take 4) } : ReadReq)).tileno / 16) = false) ∧
    (∃ (s : State) (c : CopyS) (x : RecOut) (rest : List RbJob) (o : Nat) (a : Nat), s.rng.rb = .copy c :: rest ∧ c.parts = [(o, a, 4096)] ∧ a % 4096 = 0 ∧ c.recOut = some x ∧ c.tile = none ∧ s.rng.reads = [] ∧ s.rcv.load = none ∧ s.rcv.ledg = none) ∧
    (∃ (s : State) (x : RecOut), s.recNext = some x) :=
  ⟨⟨q (b 1 (some on)) (fun g => { g with chanq := [(5, chE 3 0x20000 9)] }), 0, 0x0005#14, chE 3 0x20000 9, by decide +kernel⟩,
    ⟨q (b 2 (some on)) (fun g => { g with readq := [(5, rdE 1)] }), 0x0005#14, rdE 1, 34, by decide +kernel⟩,
    ⟨q ((b 2 (some on)).set R.MAP_ENTRIES_CNT 1000) (fun g => { g with readq := [(5, rdE 1)] }), 0x0005#14, rdE 1, by decide +kernel⟩,
    ⟨q (b 1 (some on)) (fun g => { g with rb := [.copy cp, .copy cp] }), cp, { cq := 6, src := 5, data := 99, tag := 77, status := 0, typ := 1 }, [.copy cp], 4608, 32768, by decide +kernel⟩,
    ⟨q (b 1 (some on)) (fun g => { g with recs := [ro, ro] }), { cq := 6, src := 5, data := 99, tag := 77, status := 0, typ := 1 }, by decide +kernel⟩⟩

end Ring

/-! ## Witnesses: DMA -/

namespace Dma

def zero (s : State) (a n : Nat) : State := (List.range n).foldl (fun s i => putWord s 5 (winWord (a + 4 * i)) 0) s
def base : State := ((zero up (rctx 5) 8).rput 5 0xA 2 6).rput 5 0xC 1 2
def dd (mode fl p0 p1 len src dst idx ic un aux : Nat) : List Byte := leBytes 1 mode ++ leBytes 1 fl ++ leBytes 1 p0 ++ leBytes 1 p1 ++ leBytes 4 len ++ leBytes 8 src ++ leBytes 8 dst ++ leBytes 8 77 ++ leBytes 8 idx ++ leBytes 4 ic ++ leBytes 4 un ++ leBytes 8 aux ++ List.replicate 8 0
def ds : List (List Byte) := [dd 0 0 0 0 8192 0x10000 0x20FC0 0 0 0 0, dd 1 0 0 0 8192 0 0x20FC0 0 0 0 0x1122334455667788, dd 1 0 0 0 128 0 0x20F00 0 0 0 0x1122334455667788, dd 7 1 0 0 8192 0x2000 0x20F80 0 0 0 0,
  dd 2 0 0 0 192 0x1000 0x2000 0x3000 3 64 640, dd 3 0 0 0 192 0x1000 0x2000 0x3000 3 64 640, dd 4 0 2 2 256 0x1000 0x2000 0 0 0 0, dd 4 0 4 1 512 0x1000 0x2000 0 0 0 0, dd 5 0 3 4 384 0x1000 0x2000 0 0 0 0, dd 6 0 10 0 2048 0x1000 0x2000 0 0 0 0]
def run (b : List Byte) (f : DmaCh → DmaCh := id) : State := base.dmaMap 2 (fun x => f { x with st := .running, desc := some (5, b) })
def bad : State := { base with rng := { base.rng with dmaq := [(5, dd 1 0 0 0 100 0 0x2000 0 0 0 0)] } }
def st (a : DmaSt) (b : Option (Nat × List Byte)) : State := base.dmaMap 2 (fun x => { x with st := a, desc := b, prog := 1 })
def rd (b : List Byte) (x : MpRead) (f : DmaCh → DmaCh := id) : State := let s := run b f; { s with mp := { s.mp with reads := [x] } }
def mr (n : Nat) (u : MpUse) (dd : List Byte := []) : MpRead := { port := 1, cls := 3, seq := 0, addr := 0x1000, lines := n, use := u, beat := n - 1, data := dd }
def dat (n : Nat) : List Byte := (List.range n).map (fun i => BitVec.ofNat 8 (i * 7 + i / 256))
def wrt (b : List Byte) (m : Nat) : State := let s := run b; { s with mp := { s.mp with writes := [{ port := 1, addr := 0x2000, data := dat 128, use := .dma 2 m }] } }
def g (n : Nat) : List Byte := ds.getD n []
def chk (n : Nat) (f : DmaCh → DmaCh) : State := run (g n) (fun x => f { x with checked := true })

theorem witness_DmaChannelsMoveBytes_1 :
    (∃ (s : State) (c : Fin 8) (r : Nat) (b : List Byte), s.powered 0 = true ∧ (s.dmaCh c).desc = some (r, b) ∧ (s.dmaCh c).st = .running ∧ (s.dmaCh c).fail = none ∧ s.dmaReads c < 8 ∧ ((s.dmaCh c).pos) < (dmaOf b).len ∧ (dmaOf b).mode = 0 ∧ (dmaOf b).srcOn = false) ∧
    (∃ (s : State) (c : Fin 8) (r : Nat) (b : List Byte), s.powered 0 = true ∧ (s.dmaCh c).desc = some (r, b) ∧ (s.dmaCh c).st = .running ∧ (s.dmaCh c).fail = none ∧ s.dmaReads c < 8 ∧ ((s.dmaCh c).pos) < (dmaOf b).len ∧ ((dmaOf b).mode = 0 ∨ (dmaOf b).mode = 7) ∧ (dmaOf b).srcOn = true ∧ (dmaOf b).dstOn = false) ∧
    (∃ (s : State) (c : Fin 8) (r : Nat) (b : List Byte), s.powered 0 = true ∧ (s.dmaCh c).desc = some (r, b) ∧ (s.dmaCh c).st = .running ∧ (s.dmaCh c).fail = none ∧ s.dmaReads c < 8 ∧ ((s.dmaCh c).pos) < (dmaOf b).len ∧ (dmaOf b).mode = 1 ∧ (dmaOf b).dstOn = false) ∧
    (∃ (s : State) (c : Fin 8) (r : Nat) (b : List Byte), s.powered 0 = true ∧ (s.dmaCh c).desc = some (r, b) ∧ (s.dmaCh c).st = .running ∧ (s.dmaCh c).fail = none ∧ s.dmaReads c < 8 ∧ ((s.dmaCh c).pos) < (dmaOf b).len ∧ (dmaOf b).mode = 1 ∧ (dmaOf b).dstOn = true) ∧
    (∃ (s : State) (c : Fin 8) (r : Nat) (b : List Byte), s.powered 0 = true ∧ (s.dmaCh c).desc = some (r, b) ∧ (s.dmaCh c).st = .running ∧ (s.dmaCh c).fail = none ∧ s.dmaReads c < 8 ∧ ((s.dmaCh c).pos) < (dmaOf b).len ∧ (dmaOf b).mode = 0 ∧ (dmaOf b).srcOn = true ∧ (dmaOf b).dstOn = true) ∧
    (∃ (s : State) (c : Fin 8) (r : Nat) (b : List Byte), s.powered 0 = true ∧ (s.dmaCh c).desc = some (r, b) ∧ (s.dmaCh c).st = .running ∧ (s.dmaCh c).fail = none ∧ s.dmaReads c < 8 ∧ ((s.dmaCh c).pos) < (dmaOf b).len ∧ ((dmaOf b).mode = 2 ∨ (dmaOf b).mode = 3) ∧ (s.dmaCh c).checked = false ∧ (s.dmaCh c).tpos < 4 * (dmaOf b).icount) :=
  ⟨⟨run (dd 0 0 0 0 8192 0x10000 0x20FC0 0 0 0 0), 2, 5, [0x00#8, 0x00#8, 0x00#8, 0x00#8, 0x00#8, 0x20#8, 0x00#8, 0x00#8, 0x00#8, 0x00#8, 0x01#8, 0x00#8, 0x00#8, 0x00#8, 0x00#8, 0x00#8, 0xc0#8, 0x0f#8, 0x02#8, 0x00#8, 0x00#8, 0x00#8, 0x00#8, 0x00#8, 0x4d#8, 0x00#8, 0x00#8, 0x00#8, 0x00#8, 0x00#8, 0x00#8, 0x00#8, 0x00#8, 0x00#8, 0x00#8, 0x00#8, 0x00#8, 0x00#8, 0x00#8, 0x00#8, 0x00#8, 0x00#8, 0x00#8, 0x00#8, 0x00#8, 0x00#8, 0x00#8, 0x00#8, 0x00#8, 0x00#8, 0x00#8, 0x00#8, 0x00#8, 0x00#8, 0x00#8, 0x00#8, 0x00#8, 0x00#8, 0x00#8, 0x00#8, 0x00#8, 0x00#8, 0x00#8, 0x00#8], by decide +kernel⟩,
    ⟨run (dd 7 1 0 0 8192 0x2000 0x20F80 0 0 0 0), 2, 5, [0x07#8, 0x01#8, 0x00#8, 0x00#8, 0x00#8, 0x20#8, 0x00#8, 0x00#8, 0x00#8, 0x20#8, 0x00#8, 0x00#8, 0x00#8, 0x00#8, 0x00#8, 0x00#8, 0x80#8, 0x0f#8, 0x02#8, 0x00#8, 0x00#8, 0x00#8, 0x00#8, 0x00#8, 0x4d#8, 0x00#8, 0x00#8, 0x00#8, 0x00#8, 0x00#8, 0x00#8, 0x00#8, 0x00#8, 0x00#8, 0x00#8, 0x00#8, 0x00#8, 0x00#8, 0x00#8, 0x00#8, 0x00#8, 0x00#8, 0x00#8, 0x00#8, 0x00#8, 0x00#8, 0x00#8, 0x00#8, 0x00#8, 0x00#8, 0x00#8, 0x00#8, 0x00#8, 0x00#8, 0x00#8, 0x00#8, 0x00#8, 0x00#8, 0x00#8, 0x00#8, 0x00#8, 0x00#8, 0x00#8, 0x00#8], by decide +kernel⟩,
    ⟨run (dd 1 0 0 0 8192 0 0x20FC0 0 0 0 0x1122334455667788), 2, 5, [0x01#8, 0x00#8, 0x00#8, 0x00#8, 0x00#8, 0x20#8, 0x00#8, 0x00#8, 0x00#8, 0x00#8, 0x00#8, 0x00#8, 0x00#8, 0x00#8, 0x00#8, 0x00#8, 0xc0#8, 0x0f#8, 0x02#8, 0x00#8, 0x00#8, 0x00#8, 0x00#8, 0x00#8, 0x4d#8, 0x00#8, 0x00#8, 0x00#8, 0x00#8, 0x00#8, 0x00#8, 0x00#8, 0x00#8, 0x00#8, 0x00#8, 0x00#8, 0x00#8, 0x00#8, 0x00#8, 0x00#8, 0x00#8, 0x00#8, 0x00#8, 0x00#8, 0x00#8, 0x00#8, 0x00#8, 0x00#8, 0x88#8, 0x77#8, 0x66#8, 0x55#8, 0x44#8, 0x33#8, 0x22#8, 0x11#8, 0x00#8, 0x00#8, 0x00#8, 0x00#8, 0x00#8, 0x00#8, 0x00#8, 0x00#8], by decide +kernel⟩,
    ⟨run (dd 1 2 0 0 64 0 0x200040 0 0 0 0x1122334455667788), 2, 5, [0x01#8, 0x02#8, 0x00#8, 0x00#8, 0x40#8, 0x00#8, 0x00#8, 0x00#8, 0x00#8, 0x00#8, 0x00#8, 0x00#8, 0x00#8, 0x00#8, 0x00#8, 0x00#8, 0x40#8, 0x00#8, 0x20#8, 0x00#8, 0x00#8, 0x00#8, 0x00#8, 0x00#8, 0x4d#8, 0x00#8, 0x00#8, 0x00#8, 0x00#8, 0x00#8, 0x00#8, 0x00#8, 0x00#8, 0x00#8, 0x00#8, 0x00#8, 0x00#8, 0x00#8, 0x00#8, 0x00#8, 0x00#8, 0x00#8, 0x00#8, 0x00#8, 0x00#8, 0x00#8, 0x00#8, 0x00#8, 0x88#8, 0x77#8, 0x66#8, 0x55#8, 0x44#8, 0x33#8, 0x22#8, 0x11#8, 0x00#8, 0x00#8, 0x00#8, 0x00#8, 0x00#8, 0x00#8, 0x00#8, 0x00#8], by decide +kernel⟩,
    ⟨run (dd 0 3 0 0 64 0x200000 0x200040 0 0 0 0), 2, 5, [0x00#8, 0x03#8, 0x00#8, 0x00#8, 0x40#8, 0x00#8, 0x00#8, 0x00#8, 0x00#8, 0x00#8, 0x20#8, 0x00#8, 0x00#8, 0x00#8, 0x00#8, 0x00#8, 0x40#8, 0x00#8, 0x20#8, 0x00#8, 0x00#8, 0x00#8, 0x00#8, 0x00#8, 0x4d#8, 0x00#8, 0x00#8, 0x00#8, 0x00#8, 0x00#8, 0x00#8, 0x00#8, 0x00#8, 0x00#8, 0x00#8, 0x00#8, 0x00#8, 0x00#8, 0x00#8, 0x00#8, 0x00#8, 0x00#8, 0x00#8, 0x00#8, 0x00#8, 0x00#8, 0x00#8, 0x00#8, 0x00#8, 0x00#8, 0x00#8, 0x00#8, 0x00#8, 0x00#8, 0x00#8, 0x00#8, 0x00#8, 0x00#8, 0x00#8, 0x00#8, 0x00#8, 0x00#8, 0x00#8, 0x00#8], by decide +kernel⟩,
    ⟨run (dd 2 0 0 0 192 0x1000 0x2000 0x3000 3 64 640), 2, 5, [0x02#8, 0x00#8, 0x00#8, 0x00#8, 0xc0#8, 0x00#8, 0x00#8, 0x00#8, 0x00#8, 0x10#8, 0x00#8, 0x00#8, 0x00#8, 0x00#8, 0x00#8, 0x00#8, 0x00#8, 0x20#8, 0x00#8, 0x00#8, 0x00#8, 0x00#8, 0x00#8, 0x00#8, 0x4d#8, 0x00#8, 0x00#8, 0x00#8, 0x00#8, 0x00#8, 0x00#8, 0x00#8, 0x00#8, 0x30#8, 0x00#8, 0x00#8, 0x00#8, 0x00#8, 0x00#8, 0x00#8, 0x03#8, 0x00#8, 0x00#8, 0x00#8, 0x40#8, 0x00#8, 0x00#8, 0x00#8, 0x80#8, 0x02#8, 0x00#8, 0x00#8, 0x00#8, 0x00#8, 0x00#8, 0x00#8, 0x00#8, 0x00#8, 0x00#8, 0x00#8, 0x00#8, 0x00#8, 0x00#8, 0x00#8], by decide +kernel⟩⟩

theorem witness_DmaChannelsMoveBytes_2 :
    (∃ (s : State) (c : Fin 8) (r : Nat) (b : List Byte), s.powered 0 = true ∧ (s.dmaCh c).desc = some (r, b) ∧ (s.dmaCh c).st = .running ∧ (s.dmaCh c).fail = none ∧ s.dmaReads c < 8 ∧ ((s.dmaCh c).pos) < (dmaOf b).len ∧ ((dmaOf b).mode = 2 ∨ (dmaOf b).mode = 3) ∧ 0 < (dmaOf b).unit ∧ (s.dmaCh c).checked = true ∧ (s.dmaCh c).el = none ∧ (s.dmaCh c).asked = false) ∧
    (∃ (s : State) (c : Fin 8) (r : Nat) (b : List Byte) (e : _), s.powered 0 = true ∧ (s.dmaCh c).desc = some (r, b) ∧ (s.dmaCh c).st = .running ∧ (s.dmaCh c).fail = none ∧ s.dmaReads c < 8 ∧ ((s.dmaCh c).pos) < (dmaOf b).len ∧ ((dmaOf b).mode = 2 ∨ (dmaOf b).mode = 3) ∧ some e = (s.dmaCh c).el ∧ 0 < (dmaOf b).unit ∧ (s.dmaCh c).checked = true) ∧
    (∃ (s : State) (c : Fin 8) (r : Nat) (b : List Byte), s.powered 0 = true ∧ (s.dmaCh c).desc = some (r, b) ∧ (s.dmaCh c).st = .running ∧ (s.dmaCh c).fail = none ∧ s.dmaReads c < 8 ∧ ((s.dmaCh c).pos) < (dmaOf b).len ∧ (dmaOf b).mode = 4 ∧ 2 ≤ (dmaOf b).p0 ∧ (dmaOf b).p0 ≤ 4) ∧
    (∃ (s : State) (c : Fin 8) (r : Nat) (b : List Byte), s.powered 0 = true ∧ (s.dmaCh c).desc = some (r, b) ∧ (s.dmaCh c).st = .running ∧ (s.dmaCh c).fail = none ∧ s.dmaReads c < 8 ∧ ((s.dmaCh c).pos) < (dmaOf b).len ∧ ((dmaOf b).mode = 5 ∨ (dmaOf b).mode = 6)) ∧
    (∃ (s : State) (c : Fin 8) (r : Nat) (b : List Byte) (p : Fin 2) (w : Line) (k : _) (n : _) (dst : _) (x : MpRead), (s.dmaCh c).desc = some (r, b) ∧ (s.dmaCh c).fail = none ∧ s.mp.reads.find? (fun y0 => y0.port = p.val ∧ y0.cls = 3) = some x ∧ x.beat + 1 = x.lines ∧ x.bad = [] ∧ (s.dmaCh c).prog < dmaSteps b ∧ x.use = .dmaData c k n dst ∧ 0 < n ∧ n ≤ (x.data ++ leBytes 64 w.toNat).length ∧ (dmaOf b).mode < 4 ∧ (dmaOf b).dstOn = false ∧ dst % 4096 + n ≤ 4096 ∧ 0 < ((if (dmaOf b).mode < 2 then 64 else (dmaOf b).unit))) ∧
    (∃ (s : State) (c : Fin 8) (r : Nat) (b : List Byte) (p : Fin 2) (w : Line) (k : _) (n : _) (dst : _) (x : MpRead), (s.dmaCh c).desc = some (r, b) ∧ (s.dmaCh c).fail = none ∧ s.mp.reads.find? (fun y0 => y0.port = p.val ∧ y0.cls = 3) = some x ∧ x.beat + 1 = x.lines ∧ x.bad = [] ∧ (s.dmaCh c).prog < dmaSteps b ∧ x.use = .dmaData c k n dst ∧ n ≤ (x.data ++ leBytes 64 w.toNat).length ∧ (dmaOf b).mode = 4 ∧ 2 ≤ (dmaOf b).p0 ∧ (dmaOf b).p0 ≤ 4 ∧ ((s.dmaCh c).got ++ (x.data ++ leBytes 64 w.toNat).take n).length = 64 * (dmaOf b).p0 ∧ ((dmaOf b).dst + 64 * (dmaOf b).p0 * ((s.dmaCh c).out)) % 4096 + 64 * (dmaOf b).p0 ≤ 4096) :=
  ⟨⟨chk 4 id, 2, 5, [0x02#8, 0x00#8, 0x00#8, 0x00#8, 0xc0#8, 0x00#8, 0x00#8, 0x00#8, 0x00#8, 0x10#8, 0x00#8, 0x00#8, 0x00#8, 0x00#8, 0x00#8, 0x00#8, 0x00#8, 0x20#8, 0x00#8, 0x00#8, 0x00#8, 0x00#8, 0x00#8, 0x00#8, 0x4d#8, 0x00#8, 0x00#8, 0x00#8, 0x00#8, 0x00#8, 0x00#8, 0x00#8, 0x00#8, 0x30#8, 0x00#8, 0x00#8, 0x00#8, 0x00#8, 0x00#8, 0x00#8, 0x03#8, 0x00#8, 0x00#8, 0x00#8, 0x40#8, 0x00#8, 0x00#8, 0x00#8, 0x80#8, 0x02#8, 0x00#8, 0x00#8, 0x00#8, 0x00#8, 0x00#8, 0x00#8, 0x00#8, 0x00#8, 0x00#8, 0x00#8, 0x00#8, 0x00#8, 0x00#8, 0x00#8], by decide +kernel⟩,
    ⟨chk 4 (fun x => { x with el := some 3, pos := 64 }), 2, 5, [0x02#8, 0x00#8, 0x00#8, 0x00#8, 0xc0#8, 0x00#8, 0x00#8, 0x00#8, 0x00#8, 0x10#8, 0x00#8, 0x00#8, 0x00#8, 0x00#8, 0x00#8, 0x00#8, 0x00#8, 0x20#8, 0x00#8, 0x00#8, 0x00#8, 0x00#8, 0x00#8, 0x00#8, 0x4d#8, 0x00#8, 0x00#8, 0x00#8, 0x00#8, 0x00#8, 0x00#8, 0x00#8, 0x00#8, 0x30#8, 0x00#8, 0x00#8, 0x00#8, 0x00#8, 0x00#8, 0x00#8, 0x03#8, 0x00#8, 0x00#8, 0x00#8, 0x40#8, 0x00#8, 0x00#8, 0x00#8, 0x80#8, 0x02#8, 0x00#8, 0x00#8, 0x00#8, 0x00#8, 0x00#8, 0x00#8, 0x00#8, 0x00#8, 0x00#8, 0x00#8, 0x00#8, 0x00#8, 0x00#8, 0x00#8], 3, by decide +kernel⟩,
    ⟨run (dd 4 0 2 2 256 0x1000 0x2000 0 0 0 0), 2, 5, [0x04#8, 0x00#8, 0x02#8, 0x02#8, 0x00#8, 0x01#8, 0x00#8, 0x00#8, 0x00#8, 0x10#8, 0x00#8, 0x00#8, 0x00#8, 0x00#8, 0x00#8, 0x00#8, 0x00#8, 0x20#8, 0x00#8, 0x00#8, 0x00#8, 0x00#8, 0x00#8, 0x00#8, 0x4d#8, 0x00#8, 0x00#8, 0x00#8, 0x00#8, 0x00#8, 0x00#8, 0x00#8, 0x00#8, 0x00#8, 0x00#8, 0x00#8, 0x00#8, 0x00#8, 0x00#8, 0x00#8, 0x00#8, 0x00#8, 0x00#8, 0x00#8, 0x00#8, 0x00#8, 0x00#8, 0x00#8, 0x00#8, 0x00#8, 0x00#8, 0x00#8, 0x00#8, 0x00#8, 0x00#8, 0x00#8, 0x00#8, 0x00#8, 0x00#8, 0x00#8, 0x00#8, 0x00#8, 0x00#8, 0x00#8], by decide +kernel⟩,
    ⟨run (dd 5 0 3 4 384 0x1000 0x2000 0 0 0 0), 2, 5, [0x05#8, 0x00#8, 0x03#8, 0x04#8, 0x80#8, 0x01#8, 0x00#8, 0x00#8, 0x00#8, 0x10#8, 0x00#8, 0x00#8, 0x00#8, 0x00#8, 0x00#8, 0x00#8, 0x00#8, 0x20#8, 0x00#8, 0x00#8, 0x00#8, 0x00#8, 0x00#8, 0x00#8, 0x4d#8, 0x00#8, 0x00#8, 0x00#8, 0x00#8, 0x00#8, 0x00#8, 0x00#8, 0x00#8, 0x00#8, 0x00#8, 0x00#8, 0x00#8, 0x00#8, 0x00#8, 0x00#8, 0x00#8, 0x00#8, 0x00#8, 0x00#8, 0x00#8, 0x00#8, 0x00#8, 0x00#8, 0x00#8, 0x00#8, 0x00#8, 0x00#8, 0x00#8, 0x00#8, 0x00#8, 0x00#8, 0x00#8, 0x00#8, 0x00#8, 0x00#8, 0x00#8, 0x00#8, 0x00#8, 0x00#8], by decide +kernel⟩,
    ⟨rd (g 0) (mr 2 (.dmaData 2 64 128 0x21000) (dat 64)), 2, 5, [0x00#8, 0x00#8, 0x00#8, 0x00#8, 0x00#8, 0x20#8, 0x00#8, 0x00#8, 0x00#8, 0x00#8, 0x01#8, 0x00#8, 0x00#8, 0x00#8, 0x00#8, 0x00#8, 0xc0#8, 0x0f#8, 0x02#8, 0x00#8, 0x00#8, 0x00#8, 0x00#8, 0x00#8, 0x4d#8, 0x00#8, 0x00#8, 0x00#8, 0x00#8, 0x00#8, 0x00#8, 0x00#8, 0x00#8, 0x00#8, 0x00#8, 0x00#8, 0x00#8, 0x00#8, 0x00#8, 0x00#8, 0x00#8, 0x00#8, 0x00#8, 0x00#8, 0x00#8, 0x00#8, 0x00#8, 0x00#8, 0x00#8, 0x00#8, 0x00#8, 0x00#8, 0x00#8, 0x00#8, 0x00#8, 0x00#8, 0x00#8, 0x00#8, 0x00#8, 0x00#8, 0x00#8, 0x00#8, 0x00#8, 0x00#8], 1, 0x00000000000000000000000000000000000000000000000000000000000000000000000000000000000000000000000000000000000000090000000200000001#512, 64, 128, 135168, { port := 1, cls := 3, seq := 0, addr := 4096, lines := 2, use := Sys2Proof.Machine.MpUse.dmaData 2 64 128 135168, beat := 1, data := [0x00#8, 0x07#8, 0x0e#8, 0x15#8, 0x1c#8, 0x23#8, 0x2a#8, 0x31#8, 0x38#8, 0x3f#8, 0x46#8, 0x4d#8, 0x54#8, 0x5b#8, 0x62#8, 0x69#8, 0x70#8, 0x77#8, 0x7e#8, 0x85#8, 0x8c#8, 0x93#8, 0x9a#8, 0xa1#8, 0xa8#8, 0xaf#8, 0xb6#8, 0xbd#8, 0xc4#8, 0xcb#8, 0xd2#8, 0xd9#8, 0xe0#8, 0xe7#8, 0xee#8, 0xf5#8, 0xfc#8, 0x03#8, 0x0a#8, 0x11#8, 0x18#8, 0x1f#8, 0x26#8, 0x2d#8, 0x34#8, 0x3b#8, 0x42#8, 0x49#8, 0x50#8, 0x57#8, 0x5e#8, 0x65#8, 0x6c#8, 0x73#8, 0x7a#8, 0x81#8, 0x88#8, 0x8f#8, 0x96#8, 0x9d#8, 0xa4#8, 0xab#8, 0xb2#8, 0xb9#8], bad := [] }, by decide +kernel⟩,
    ⟨rd (g 6) (mr 1 (.dmaData 2 64 64 0)) (fun x => { x with got := dat 64 }), 2, 5, [0x04#8, 0x00#8, 0x02#8, 0x02#8, 0x00#8, 0x01#8, 0x00#8, 0x00#8, 0x00#8, 0x10#8, 0x00#8, 0x00#8, 0x00#8, 0x00#8, 0x00#8, 0x00#8, 0x00#8, 0x20#8, 0x00#8, 0x00#8, 0x00#8, 0x00#8, 0x00#8, 0x00#8, 0x4d#8, 0x00#8, 0x00#8, 0x00#8, 0x00#8, 0x00#8, 0x00#8, 0x00#8, 0x00#8, 0x00#8, 0x00#8, 0x00#8, 0x00#8, 0x00#8, 0x00#8, 0x00#8, 0x00#8, 0x00#8, 0x00#8, 0x00#8, 0x00#8, 0x00#8, 0x00#8, 0x00#8, 0x00#8, 0x00#8, 0x00#8, 0x00#8, 0x00#8, 0x00#8, 0x00#8, 0x00#8, 0x00#8, 0x00#8, 0x00#8, 0x00#8, 0x00#8, 0x00#8, 0x00#8, 0x00#8], 1, 0x00000000000000000000000000000000000000000000000000000000000000000000000000000000000000000000000000000000000000090000000200000001#512, 64, 64, 0, { port := 1, cls := 3, seq := 0, addr := 4096, lines := 1, use := Sys2Proof.Machine.MpUse.dmaData 2 64 64 0, beat := 0, data := [], bad := [] }, by decide +kernel⟩⟩

theorem witness_DmaChannelsMoveBytes_3 :
    (∃ (s : State) (c : Fin 8) (r : Nat) (b : List Byte) (p : Fin 2) (w : Line) (k : _) (n : _) (dst : _) (x : MpRead), (s.dmaCh c).desc = some (r, b) ∧ (s.dmaCh c).fail = none ∧ s.mp.reads.find? (fun y0 => y0.port = p.val ∧ y0.cls = 3) = some x ∧ x.beat + 1 = x.lines ∧ x.bad = [] ∧ (s.dmaCh c).prog < dmaSteps b ∧ x.use = .dmaData c k n dst ∧ n ≤ (x.data ++ leBytes 64 w.toNat).length ∧ (dmaOf b).mode = 5 ∧ 2 ≤ (dmaOf b).p0 ∧ (dmaOf b).p0 ≤ 4 ∧ ((s.dmaCh c).got ++ (x.data ++ leBytes 64 w.toNat).take n).length = 64 * (dmaOf b).p0 ∧ (dmaOf b).dst % 64 = 0 ∧ (dmaOf b).len % (64 * (dmaOf b).p0) = 0) ∧
    (∃ (s : State) (c : Fin 8) (r : Nat) (b : List Byte) (p : Fin 2) (w : Line) (k : _) (n : _) (dst : _) (x : MpRead), (s.dmaCh c).desc = some (r, b) ∧ (s.dmaCh c).fail = none ∧ s.mp.reads.find? (fun y0 => y0.port = p.val ∧ y0.cls = 3) = some x ∧ x.beat + 1 = x.lines ∧ x.bad = [] ∧ (s.dmaCh c).prog < dmaSteps b ∧ x.use = .dmaData c k n dst ∧ n ≤ (x.data ++ leBytes 64 w.toNat).length ∧ (dmaOf b).mode = 6 ∧ 0 < (dmaOf b).p0 ∧ (dmaOf b).p0 ≤ 16 ∧ ((s.dmaCh c).got ++ (x.data ++ leBytes 64 w.toNat).take n).length = 1024 ∧ (dmaOf b).dst % 64 = 0 ∧ (dmaOf b).len % 1024 = 0) ∧
    (∃ (s : State) (c : Fin 8) (r : Nat) (b : List Byte) (p : Fin 2) (w : Line) (k : _) (x : MpRead), (s.dmaCh c).desc = some (r, b) ∧ (s.dmaCh c).fail = none ∧ s.mp.reads.find? (fun y0 => y0.port = p.val ∧ y0.cls = 3) = some x ∧ x.beat + 1 = x.lines ∧ x.bad = [] ∧ (s.dmaCh c).prog < dmaSteps b ∧ x.use = .dmaTable c k ∧ k % 4 = 0 ∧ ((∀ i, i < (min ((x.data ++ leBytes 64 w.toNat).length / 4) ((dmaOf b).icount - k / 4)) → (leNat (((x.data ++ leBytes 64 w.toNat).drop (4 * i)).take 4) + 1) * (dmaOf b).unit ≤ (dmaOf b).aux))) ∧
    (∃ (s : State) (c : Fin 8) (r : Nat) (b : List Byte) (p : Fin 2) (w : Line) (j : _) (x : MpRead), (s.dmaCh c).desc = some (r, b) ∧ (s.dmaCh c).fail = none ∧ s.mp.reads.find? (fun y0 => y0.port = p.val ∧ y0.cls = 3) = some x ∧ x.beat + 1 = x.lines ∧ x.bad = [] ∧ (s.dmaCh c).prog < dmaSteps b ∧ x.use = .dmaIndex c j ∧ ((leNat (((x.data ++ leBytes 64 w.toNat).drop (((dmaOf b).idx + 4 * j) % 64)).take 4)) + 1) * (dmaOf b).unit ≤ (dmaOf b).aux) ∧
    (∃ (s : State) (c : Fin 8) (r : Nat) (b : List Byte) (m : Nat) (p : Fin 2) (w : MpWrite) (n : Fin 64), (s.dmaCh c).desc = some (r, b) ∧ (s.dmaCh c).fail = none ∧ (s.dmaCh c).st = .running ∧ s.mp.writes.find? (fun y => y.port = p.val) = some w ∧ w.use = .dma c m ∧ w.lines ≤ w.beat + n + 1) ∧
    (∃ (s : State) (c : Fin 8) (r : Nat) (b : List Byte) (st : Nat), s.powered 0 = true ∧ (s.dmaCh c).desc = none ∧ s.dmaNext c = some (r, b) ∧ s.dmaCheck (dmaOf b) = some st ∧ (dmaOf b).mode = 1 ∧ r < 16384) :=
  ⟨⟨rd (g 8) (mr 2 (.dmaData 2 64 128 0) (dat 64)) (fun x => { x with got := dat 64, out := 1 }), 2, 5, [0x05#8, 0x00#8, 0x03#8, 0x04#8, 0x80#8, 0x01#8, 0x00#8, 0x00#8, 0x00#8, 0x10#8, 0x00#8, 0x00#8, 0x00#8, 0x00#8, 0x00#8, 0x00#8, 0x00#8, 0x20#8, 0x00#8, 0x00#8, 0x00#8, 0x00#8, 0x00#8, 0x00#8, 0x4d#8, 0x00#8, 0x00#8, 0x00#8, 0x00#8, 0x00#8, 0x00#8, 0x00#8, 0x00#8, 0x00#8, 0x00#8, 0x00#8, 0x00#8, 0x00#8, 0x00#8, 0x00#8, 0x00#8, 0x00#8, 0x00#8, 0x00#8, 0x00#8, 0x00#8, 0x00#8, 0x00#8, 0x00#8, 0x00#8, 0x00#8, 0x00#8, 0x00#8, 0x00#8, 0x00#8, 0x00#8, 0x00#8, 0x00#8, 0x00#8, 0x00#8, 0x00#8, 0x00#8, 0x00#8, 0x00#8], 1, 0x00000000000000000000000000000000000000000000000000000000000000000000000000000000000000000000000000000000000000090000000200000001#512, 64, 128, 0, { port := 1, cls := 3, seq := 0, addr := 4096, lines := 2, use := Sys2Proof.Machine.MpUse.dmaData 2 64 128 0, beat := 1, data := [0x00#8, 0x07#8, 0x0e#8, 0x15#8, 0x1c#8, 0x23#8, 0x2a#8, 0x31#8, 0x38#8, 0x3f#8, 0x46#8, 0x4d#8, 0x54#8, 0x5b#8, 0x62#8, 0x69#8, 0x70#8, 0x77#8, 0x7e#8, 0x85#8, 0x8c#8, 0x93#8, 0x9a#8, 0xa1#8, 0xa8#8, 0xaf#8, 0xb6#8, 0xbd#8, 0xc4#8, 0xcb#8, 0xd2#8, 0xd9#8, 0xe0#8, 0xe7#8, 0xee#8, 0xf5#8, 0xfc#8, 0x03#8, 0x0a#8, 0x11#8, 0x18#8, 0x1f#8, 0x26#8, 0x2d#8, 0x34#8, 0x3b#8, 0x42#8, 0x49#8, 0x50#8, 0x57#8, 0x5e#8, 0x65#8, 0x6c#8, 0x73#8, 0x7a#8, 0x81#8, 0x88#8, 0x8f#8, 0x96#8, 0x9d#8, 0xa4#8, 0xab#8, 0xb2#8, 0xb9#8], bad := [] }, by decide +kernel⟩,
    ⟨rd (g 9) (mr 2 (.dmaData 2 64 128 0) (dat 64)) (fun x => { x with got := dat 896, out := 1 }), 2, 5, [0x06#8, 0x00#8, 0x0a#8, 0x00#8, 0x00#8, 0x08#8, 0x00#8, 0x00#8, 0x00#8, 0x10#8, 0x00#8, 0x00#8, 0x00#8, 0x00#8, 0x00#8, 0x00#8, 0x00#8, 0x20#8, 0x00#8, 0x00#8, 0x00#8, 0x00#8, 0x00#8, 0x00#8, 0x4d#8, 0x00#8, 0x00#8, 0x00#8, 0x00#8, 0x00#8, 0x00#8, 0x00#8, 0x00#8, 0x00#8, 0x00#8, 0x00#8, 0x00#8, 0x00#8, 0x00#8, 0x00#8, 0x00#8, 0x00#8, 0x00#8, 0x00#8, 0x00#8, 0x00#8, 0x00#8, 0x00#8, 0x00#8, 0x00#8, 0x00#8, 0x00#8, 0x00#8, 0x00#8, 0x00#8, 0x00#8, 0x00#8, 0x00#8, 0x00#8, 0x00#8, 0x00#8, 0x00#8, 0x00#8, 0x00#8], 1, 0x00000000000000000000000000000000000000000000000000000000000000000000000000000000000000000000000000000000000000090000000200000001#512, 64, 128, 0, { port := 1, cls := 3, seq := 0, addr := 4096, lines := 2, use := Sys2Proof.Machine.MpUse.dmaData 2 64 128 0, beat := 1, data := [0x00#8, 0x07#8, 0x0e#8, 0x15#8, 0x1c#8, 0x23#8, 0x2a#8, 0x31#8, 0x38#8, 0x3f#8, 0x46#8, 0x4d#8, 0x54#8, 0x5b#8, 0x62#8, 0x69#8, 0x70#8, 0x77#8, 0x7e#8, 0x85#8, 0x8c#8, 0x93#8, 0x9a#8, 0xa1#8, 0xa8#8, 0xaf#8, 0xb6#8, 0xbd#8, 0xc4#8, 0xcb#8, 0xd2#8, 0xd9#8, 0xe0#8, 0xe7#8, 0xee#8, 0xf5#8, 0xfc#8, 0x03#8, 0x0a#8, 0x11#8, 0x18#8, 0x1f#8, 0x26#8, 0x2d#8, 0x34#8, 0x3b#8, 0x42#8, 0x49#8, 0x50#8, 0x57#8, 0x5e#8, 0x65#8, 0x6c#8, 0x73#8, 0x7a#8, 0x81#8, 0x88#8, 0x8f#8, 0x96#8, 0x9d#8, 0xa4#8, 0xab#8, 0xb2#8, 0xb9#8], bad := [] }, by decide +kernel⟩,
    ⟨rd (g 4) (mr 1 (.dmaTable 2 0)), 2, 5, [0x02#8, 0x00#8, 0x00#8, 0x00#8, 0xc0#8, 0x00#8, 0x00#8, 0x00#8, 0x00#8, 0x10#8, 0x00#8, 0x00#8, 0x00#8, 0x00#8, 0x00#8, 0x00#8, 0x00#8, 0x20#8, 0x00#8, 0x00#8, 0x00#8, 0x00#8, 0x00#8, 0x00#8, 0x4d#8, 0x00#8, 0x00#8, 0x00#8, 0x00#8, 0x00#8, 0x00#8, 0x00#8, 0x00#8, 0x30#8, 0x00#8, 0x00#8, 0x00#8, 0x00#8, 0x00#8, 0x00#8, 0x03#8, 0x00#8, 0x00#8, 0x00#8, 0x40#8, 0x00#8, 0x00#8, 0x00#8, 0x80#8, 0x02#8, 0x00#8, 0x00#8, 0x00#8, 0x00#8, 0x00#8, 0x00#8, 0x00#8, 0x00#8, 0x00#8, 0x00#8, 0x00#8, 0x00#8, 0x00#8, 0x00#8], 1, 0x00000000000000000000000000000000000000000000000000000000000000000000000000000000000000000000000000000000000000090000000200000001#512, 0, { port := 1, cls := 3, seq := 0, addr := 4096, lines := 1, use := Sys2Proof.Machine.MpUse.dmaTable 2 0, beat := 0, data := [], bad := [] }, by decide +kernel⟩,
    ⟨rd (g 4) (mr 1 (.dmaIndex 2 1)), 2, 5, [0x02#8, 0x00#8, 0x00#8, 0x00#8, 0xc0#8, 0x00#8, 0x00#8, 0x00#8, 0x00#8, 0x10#8, 0x00#8, 0x00#8, 0x00#8, 0x00#8, 0x00#8, 0x00#8, 0x00#8, 0x20#8, 0x00#8, 0x00#8, 0x00#8, 0x00#8, 0x00#8, 0x00#8, 0x4d#8, 0x00#8, 0x00#8, 0x00#8, 0x00#8, 0x00#8, 0x00#8, 0x00#8, 0x00#8, 0x30#8, 0x00#8, 0x00#8, 0x00#8, 0x00#8, 0x00#8, 0x00#8, 0x03#8, 0x00#8, 0x00#8, 0x00#8, 0x40#8, 0x00#8, 0x00#8, 0x00#8, 0x80#8, 0x02#8, 0x00#8, 0x00#8, 0x00#8, 0x00#8, 0x00#8, 0x00#8, 0x00#8, 0x00#8, 0x00#8, 0x00#8, 0x00#8, 0x00#8, 0x00#8, 0x00#8], 1, 0x00000000000000000000000000000000000000000000000000000000000000000000000000000000000000000000000000000000000000090000000200000001#512, 1, { port := 1, cls := 3, seq := 0, addr := 4096, lines := 1, use := Sys2Proof.Machine.MpUse.dmaIndex 2 1, beat := 0, data := [], bad := [] }, by decide +kernel⟩,
    ⟨wrt (g 0) 2, 2, 5, [0x00#8, 0x00#8, 0x00#8, 0x00#8, 0x00#8, 0x20#8, 0x00#8, 0x00#8, 0x00#8, 0x00#8, 0x01#8, 0x00#8, 0x00#8, 0x00#8, 0x00#8, 0x00#8, 0xc0#8, 0x0f#8, 0x02#8, 0x00#8, 0x00#8, 0x00#8, 0x00#8, 0x00#8, 0x4d#8, 0x00#8, 0x00#8, 0x00#8, 0x00#8, 0x00#8, 0x00#8, 0x00#8, 0x00#8, 0x00#8, 0x00#8, 0x00#8, 0x00#8, 0x00#8, 0x00#8, 0x00#8, 0x00#8, 0x00#8, 0x00#8, 0x00#8, 0x00#8, 0x00#8, 0x00#8, 0x00#8, 0x00#8, 0x00#8, 0x00#8, 0x00#8, 0x00#8, 0x00#8, 0x00#8, 0x00#8, 0x00#8, 0x00#8, 0x00#8, 0x00#8, 0x00#8, 0x00#8, 0x00#8, 0x00#8], 2, 1, { port := 1, addr := 8192, data := [0x00#8, 0x07#8, 0x0e#8, 0x15#8, 0x1c#8, 0x23#8, 0x2a#8, 0x31#8, 0x38#8, 0x3f#8, 0x46#8, 0x4d#8, 0x54#8, 0x5b#8, 0x62#8, 0x69#8, 0x70#8, 0x77#8, 0x7e#8, 0x85#8, 0x8c#8, 0x93#8, 0x9a#8, 0xa1#8, 0xa8#8, 0xaf#8, 0xb6#8, 0xbd#8, 0xc4#8, 0xcb#8, 0xd2#8, 0xd9#8, 0xe0#8, 0xe7#8, 0xee#8, 0xf5#8, 0xfc#8, 0x03#8, 0x0a#8, 0x11#8, 0x18#8, 0x1f#8, 0x26#8, 0x2d#8, 0x34#8, 0x3b#8, 0x42#8, 0x49#8, 0x50#8, 0x57#8, 0x5e#8, 0x65#8, 0x6c#8, 0x73#8, 0x7a#8, 0x81#8, 0x88#8, 0x8f#8, 0x96#8, 0x9d#8, 0xa4#8, 0xab#8, 0xb2#8, 0xb9#8, 0xc0#8, 0xc7#8, 0xce#8, 0xd5#8, 0xdc#8, 0xe3#8, 0xea#8, 0xf1#8, 0xf8#8, 0xff#8, 0x06#8, 0x0d#8, 0x14#8, 0x1b#8, 0x22#8, 0x29#8, 0x30#8, 0x37#8, 0x3e#8, 0x45#8, 0x4c#8, 0x53#8, 0x5a#8, 0x61#8, 0x68#8, 0x6f#8, 0x76#8, 0x7d#8, 0x84#8, 0x8b#8, 0x92#8, 0x99#8, 0xa0#8, 0xa7#8, 0xae#8, 0xb5#8, 0xbc#8, 0xc3#8, 0xca#8, 0xd1#8, 0xd8#8, 0xdf#8, 0xe6#8, 0xed#8, 0xf4#8, 0xfb#8, 0x02#8, 0x09#8, 0x10#8, 0x17#8, 0x1e#8, 0x25#8, 0x2c#8, 0x33#8, 0x3a#8, 0x41#8, 0x48#8, 0x4f#8, 0x56#8, 0x5d#8, 0x64#8, 0x6b#8, 0x72#8, 0x79#8], use := Sys2Proof.Machine.MpUse.dma 2 2, beat := 0 }, 1, by decide +kernel⟩,
    ⟨bad, 2, 5, [0x01#8, 0x00#8, 0x00#8, 0x00#8, 0x64#8, 0x00#8, 0x00#8, 0x00#8, 0x00#8, 0x00#8, 0x00#8, 0x00#8, 0x00#8, 0x00#8, 0x00#8, 0x00#8, 0x00#8, 0x20#8, 0x00#8, 0x00#8, 0x00#8, 0x00#8, 0x00#8, 0x00#8, 0x4d#8, 0x00#8, 0x00#8, 0x00#8, 0x00#8, 0x00#8, 0x00#8, 0x00#8, 0x00#8, 0x00#8, 0x00#8, 0x00#8, 0x00#8, 0x00#8, 0x00#8, 0x00#8, 0x00#8, 0x00#8, 0x00#8, 0x00#8, 0x00#8, 0x00#8, 0x00#8, 0x00#8, 0x00#8, 0x00#8, 0x00#8, 0x00#8, 0x00#8, 0x00#8, 0x00#8, 0x00#8, 0x00#8, 0x00#8, 0x00#8, 0x00#8, 0x00#8, 0x00#8, 0x00#8, 0x00#8], 97, by decide +kernel⟩⟩

theorem witness_DmaChannelsMoveBytes_4 :
    (∃ (s : State) (c : Fin 8), s.portTakes (R.DMA_CH_CMD_PAUSE c).addr ∧ (s.dmaCh c).st = .running) ∧
    (∃ (s : State) (c : Fin 8), s.portTakes (R.DMA_CH_CMD_PAUSE c).addr ∧ (s.dmaCh c).st = .idle) ∧
    (∃ (s : State) (c : Fin 8), s.portTakes (R.DMA_CH_CMD_PAUSE c).addr ∧ (s.dmaCh c).st = .paused) ∧
    (∃ (s : State) (c : Fin 8) (r : _) (b : _), s.portTakes (R.DMA_CH_CMD_PAUSE c).addr ∧ (s.dmaCh c).st = .paused ∧ (s.dmaCh c).desc = some (r, b)) ∧
    (∃ (s : State) (c : Fin 8), (s.dmaCh c).st = .pausing ∧ s.dmaOut c = false ∧ s.dmaMid c = false) ∧
    (∃ (s : State) (q : Nat), s.powered 0 = true ∧ ((List.range 9).map (fun i => (s.rng.turn + 1 + i) % 9)).find? s.dmaWork = some q) :=
  ⟨⟨run (dd 0 0 0 0 8192 0x10000 0x20FC0 0 0 0 0), 2, takes (by decide +kernel), by decide +kernel⟩,
    ⟨bad, 2, takes (by decide +kernel), by decide +kernel⟩,
    ⟨st .paused none, 2, takes (by decide +kernel), by decide +kernel⟩,
    ⟨st .paused (some (5, ds.getD 1 [])), 2, 5, [0x01#8, 0x00#8, 0x00#8, 0x00#8, 0x00#8, 0x20#8, 0x00#8, 0x00#8, 0x00#8, 0x00#8, 0x00#8, 0x00#8, 0x00#8, 0x00#8, 0x00#8, 0x00#8, 0xc0#8, 0x0f#8, 0x02#8, 0x00#8, 0x00#8, 0x00#8, 0x00#8, 0x00#8, 0x4d#8, 0x00#8, 0x00#8, 0x00#8, 0x00#8, 0x00#8, 0x00#8, 0x00#8, 0x00#8, 0x00#8, 0x00#8, 0x00#8, 0x00#8, 0x00#8, 0x00#8, 0x00#8, 0x00#8, 0x00#8, 0x00#8, 0x00#8, 0x00#8, 0x00#8, 0x00#8, 0x00#8, 0x88#8, 0x77#8, 0x66#8, 0x55#8, 0x44#8, 0x33#8, 0x22#8, 0x11#8, 0x00#8, 0x00#8, 0x00#8, 0x00#8, 0x00#8, 0x00#8, 0x00#8, 0x00#8], takes (by decide +kernel), by decide +kernel⟩,
    ⟨st .pausing (some (5, ds.getD 1 [])), 2, by decide +kernel⟩,
    ⟨run (dd 0 0 0 0 8192 0x10000 0x20FC0 0 0 0 0), 2, by decide +kernel⟩⟩

end Dma

/-! ## Witnesses: drive commands -/

namespace Drive

def z (s : State) (a n : Nat) : State := (List.range n).foldl (fun s i => putWord s 5 (a + i) 0) s
def cfg (s : State) : State := ((((((((((((s.set R.ROTOR_MOTOR_POLE_PAIRS 2).set R.ROTOR_ISH_CAL_GAIN 4096).set R.ROTOR_VDC_CAL_GAIN 4096).set R.ROTOR_PSI_NOM_PSI 1000).set R.ROTOR_MOT_IND_LS 100).set R.ROTOR_I_LIM_I 1000).set R.ROTOR_TQ_LIM_MOTOR 100).set R.ROTOR_SPD_LIM_SPEED 1000000).set R.ROTOR_FLUX_SPD_ON 100).set R.ROTOR_FLUX_SPD_OFF 50).set R.ROTOR_UV_LIM 100).set R.ROTOR_CHOP_V_OFF 300).set R.ROTOR_CHOP_V_ON 400
def cfg2 (s : State) : State := ((((z (cfg s) (tabWord 1 0) 32).set R.ROTOR_OV_HARD 600).set R.ROTOR_OV_SOFT 350).set R.ROTOR_ASC_CFG_ILIM 50).set R.ROTOR_CTRL_ENABLE 1
def base : State := cfg2 up
def g1 : Gate := { hi := true, want := .high }
def fast (s : State) : State := (s.obsMap (fun o => { o with speedN := 900000000000 })).stepMap (fun t => { t with speedN := 800000000000 })

theorem witness_DriveCommandsAnswerAndAct_1 :
    (∃ (s : State), s.portTakes R.ROTOR_CMD_OP.addr ∧ s.flag R.ROTOR_CTRL_ENABLE = false) ∧
    (∃ (s : State), s.portTakes R.ROTOR_CMD_OP.addr ∧ s.flag R.ROTOR_CTRL_ENABLE = true ∧ s.grave = true) ∧
    (∃ (s : State), s.portTakes R.ROTOR_CMD_OP.addr ∧ s.flag R.ROTOR_CTRL_ENABLE = true ∧ s.grave = false) ∧
    (∃ (s : State), s.portTakes R.ROTOR_CMD_OP.addr ∧ s.flag R.ROTOR_CTRL_ENABLE = true ∧ s.grave = false ∧ (s.rot.st = .off ∨ s.rot.st = .coast) ∧ s.rotNotReady = true) ∧
    (∃ (s : State), s.portTakes R.ROTOR_CMD_OP.addr ∧ s.flag R.ROTOR_CTRL_ENABLE = true ∧ s.grave = false ∧ s.rot.st = .off ∧ s.rotNotReady = false ∧ s.advRead = s) ∧
    (∃ (s : State), s.portTakes R.ROTOR_CMD_OP.addr ∧ s.flag R.ROTOR_CTRL_ENABLE = true ∧ s.grave = false ∧ s.rot.st = .coast ∧ s.rotNotReady = false ∧ s.advRead = s ∧ s.glintOk = false ∧ s.bemfHigh = false ∧ s.rot.chopPend = false) :=
  ⟨⟨(base.rotMap (fun r => { r with st := .off, vdc := 500, target := 5, refN := 7000000, gates := ⟨g1, {}, { lo := true, want := .low }⟩ })).set R.ROTOR_CTRL_ENABLE 0, takes (by decide +kernel), by decide +kernel⟩,
    ⟨(base.rotMap (fun r => { r with st := .off, vdc := 500, target := 5, refN := 7000000, gates := ⟨g1, {}, { lo := true, want := .low }⟩ })).set R.FAULT_STATUS_GRAVE 1, takes (by decide +kernel), by decide +kernel⟩,
    ⟨(base.rotMap (fun r => { r with st := .off, vdc := 500, target := 5, refN := 7000000, gates := ⟨g1, {}, { lo := true, want := .low }⟩ })), takes (by decide +kernel), by decide +kernel⟩,
    ⟨((base.rotMap (fun r => { r with st := .off, vdc := 500, target := 5, refN := 7000000, gates := ⟨g1, {}, { lo := true, want := .low }⟩ })).set R.ROTOR_PSI_NOM_PSI 0).set R.ROTOR_CTRL_OC_AUTO 1, takes (by decide +kernel), by decide +kernel⟩,
    ⟨(base.rotMap (fun r => { r with st := .off, vdc := 500, target := 5, refN := 7000000, gates := ⟨g1, {}, { lo := true, want := .low }⟩ })), takes (by decide +kernel), by decide +kernel⟩,
    ⟨(base.rotMap (fun r => { r with st := .coast, vdc := 500, target := 5, refN := 7000000, gates := ⟨g1, {}, { lo := true, want := .low }⟩ })), takes (by decide +kernel), by decide +kernel⟩⟩

theorem witness_DriveCommandsAnswerAndAct_2 :
    (∃ (s : State), s.portTakes R.ROTOR_CMD_OP.addr ∧ s.flag R.ROTOR_CTRL_ENABLE = true ∧ s.grave = false ∧ (s.rot.st = .step ∨ s.rot.st = .flux)) ∧
    (∃ (s : State), s.portTakes R.ROTOR_CMD_OP.addr ∧ s.flag R.ROTOR_CTRL_ENABLE = true ∧ s.grave = false ∧ (s.rot.st = .spinCheck ∨ s.rot.st = .align ∨ s.rot.st = .ramp)) ∧
    (∃ (s : State), s.portTakes R.ROTOR_CMD_OP.addr ∧ s.flag R.ROTOR_CTRL_ENABLE = true ∧ s.grave = false ∧ s.rot.st ∉ [RotSt.off, .tripped, .asc] ∧ s.rot.zeroN ≠ 0 ∧ s.rot.after = .lossSync) ∧
    (∃ (s : State), s.portTakes R.ROTOR_CMD_OP.addr ∧ s.flag R.ROTOR_CTRL_ENABLE = true ∧ s.grave = false ∧ s.rot.st ∉ [RotSt.off, .tripped, .asc] ∧ (s.rot.zeroN = 0 ∨ s.rot.after ≠ .lossSync) ∧ s.rot.ovHard = false ∧ s.pins.rotOc = false) ∧
    (∃ (s : State), s.portTakes R.ROTOR_CMD_OP.addr ∧ s.flag R.ROTOR_CTRL_ENABLE = true ∧ s.grave = false ∧ (s.rot.st = .holdup ∨ (s.rot.st = .flux ∧ s.rot.zeroTq = true))) ∧
    (∃ (s : State), s.portTakes R.ROTOR_CMD_OP.addr ∧ s.flag R.ROTOR_CTRL_ENABLE = true ∧ s.grave = false ∧ s.rot.st = .tripped ∧ s.pins.rotOc = false) :=
  ⟨⟨(base.rotMap (fun r => { r with st := .step, vdc := 500, target := 5, refN := 7000000, gates := ⟨g1, {}, { lo := true, want := .low }⟩ })), takes (by decide +kernel), by decide +kernel⟩,
    ⟨(base.rotMap (fun r => { r with st := .spinCheck, vdc := 500, target := 5, refN := 7000000, gates := ⟨g1, {}, { lo := true, want := .low }⟩ })), takes (by decide +kernel), by decide +kernel⟩,
    ⟨(base.rotMap (fun r => { r with st := .spinCheck, vdc := 500, target := 5, refN := 7000000, gates := ⟨g1, {}, { lo := true, want := .low }⟩ })).rotMap (fun r => { r with zeroN := 3, after := .lossSync }), takes (by decide +kernel), by decide +kernel⟩,
    ⟨(base.rotMap (fun r => { r with st := .spinCheck, vdc := 500, target := 5, refN := 7000000, gates := ⟨g1, {}, { lo := true, want := .low }⟩ })), takes (by decide +kernel), by decide +kernel⟩,
    ⟨(base.rotMap (fun r => { r with st := .flux, vdc := 500, target := 5, refN := 7000000, gates := ⟨g1, {}, { lo := true, want := .low }⟩ })).rotMap (fun r => {r with vdc := 0, zeroTq := true, ovHard := true}), takes (by decide +kernel), by decide +kernel⟩,
    ⟨(base.rotMap (fun r => { r with st := .tripped, vdc := 500, target := 5, refN := 7000000, gates := ⟨g1, {}, { lo := true, want := .low }⟩ })), takes (by decide +kernel), by decide +kernel⟩⟩

theorem witness_DriveCommandsAnswerAndAct_3 :
    (∃ (s : State), s.portTakes R.ROTOR_CMD_OP.addr ∧ s.flag R.ROTOR_CTRL_ENABLE = true ∧ s.grave = false ∧ s.rot.st = .tripped ∧ s.pins.rotOc = true) ∧
    (∃ (s : State) (w : Word), s.portTakes R.ROTOR_CTRL_ENABLE.addr ∧ w.getLsbD 0 = true ∧ s.flag R.ROTOR_CTRL_ENABLE = false ∧ s.advRead = s) ∧
    (∃ (s : State) (w : Word), s.portTakes R.ROTOR_CTRL_ENABLE.addr ∧ w.getLsbD 0 = false ∧ (s.rot.st = .off ∨ s.rot.st = .tripped)) ∧
    (∃ (s : State) (w : Word), s.portTakes R.ROTOR_SPD_CMD_SPEED.addr ∧ s.get R.ROTOR_CMD_SRC_SRC = 0 ∧ w.getLsbD 31 = s.flag R.ROTOR_SPD_CMD_DIR) ∧
    (∃ (s : State) (w : Word), s.portTakes R.ROTOR_SPD_CMD_SPEED.addr ∧ s.get R.ROTOR_CMD_SRC_SRC = 0 ∧ w.getLsbD 31 ≠ s.flag R.ROTOR_SPD_CMD_DIR ∧ s.rot.st ∈ [RotSt.step, .flux, .holdup, .catch_, .asc] ∧ s.get R.ROTOR_REV_THRESH_SPEED < s.speedAbs) ∧
    (∃ (s : State) (w : Word), s.portTakes R.ROTOR_SPD_CMD_SPEED.addr ∧ s.get R.ROTOR_CMD_SRC_SRC = 0 ∧ w.getLsbD 31 ≠ s.flag R.ROTOR_SPD_CMD_DIR ∧ s.rot.st ∉ [RotSt.step, .flux, .holdup, .catch_, .asc]) :=
  ⟨⟨{ (base.rotMap (fun r => { r with st := .tripped, vdc := 500, target := 5, refN := 7000000, gates := ⟨g1, {}, { lo := true, want := .low }⟩ })) with pins := { (base.rotMap (fun r => { r with st := .tripped, vdc := 500, target := 5, refN := 7000000, gates := ⟨g1, {}, { lo := true, want := .low }⟩ })).pins with rotOc := true } }, takes (by decide +kernel), by decide +kernel⟩,
    ⟨(base.rotMap (fun r => { r with st := .off, vdc := 500, target := 5, refN := 7000000, gates := ⟨g1, {}, { lo := true, want := .low }⟩ })).set R.ROTOR_CTRL_ENABLE 0, 0x00000001#32, takes (by decide +kernel), by decide +kernel⟩,
    ⟨(base.rotMap (fun r => { r with st := .off, vdc := 500, target := 5, refN := 7000000, gates := ⟨g1, {}, { lo := true, want := .low }⟩ })), 0x00000000#32, takes (by decide +kernel), by decide +kernel⟩,
    ⟨(base.rotMap (fun r => { r with st := .off, vdc := 500, target := 5, refN := 7000000, gates := ⟨g1, {}, { lo := true, want := .low }⟩ })), 0x00000000#32, takes (by decide +kernel), by decide +kernel⟩,
    ⟨fast (base.rotMap (fun r => { r with st := .step, vdc := 500, target := 5, refN := 7000000, gates := ⟨g1, {}, { lo := true, want := .low }⟩ })), 0x80000000#32, takes (by decide +kernel), by decide +kernel⟩,
    ⟨(base.rotMap (fun r => { r with st := .off, vdc := 500, target := 5, refN := 7000000, gates := ⟨g1, {}, { lo := true, want := .low }⟩ })), 0x80000000#32, takes (by decide +kernel), by decide +kernel⟩⟩

theorem witness_DriveCommandsAnswerAndAct_4 :
    (∃ (s : State) (w : Word), s.portTakes R.ROTOR_SPD_CMD_SPEED.addr ∧ s.get R.ROTOR_CMD_SRC_SRC = 0 ∧ w.getLsbD 31 ≠ s.flag R.ROTOR_SPD_CMD_DIR ∧ (s.rot.st = .step ∨ s.rot.st = .flux) ∧ s.speedAbs ≤ s.get R.ROTOR_REV_THRESH_SPEED ∧ s.rot.ovHard = false) ∧
    (∃ (s : State), s.gen.rotor = true ∧ s.cp.rst ≠ .cold ∧ (s.pins.rotOc = false ∨ s.rot.st ≠ .tripped)) ∧
    (∃ (s : State), (s.pins.rotOc = true ∨ s.rot.st ≠ .tripped ∨ s.flag R.ROTOR_CTRL_OC_AUTO = false)) ∧
    (∃ (s : State), s.pins.rotOc = false ∧ s.rot.st = .tripped ∧ s.flag R.ROTOR_CTRL_OC_AUTO = true ∧ s.grave = false ∧ s.rot.pendOff = false ∧ s.glintOk = false ∧ s.bemfHigh = false ∧ s.rot.chopPend = false) ∧
    (∃ (s : State), s.pins.rotOc = false ∧ s.rot.st = .tripped ∧ s.flag R.ROTOR_CTRL_OC_AUTO = true ∧ s.rot.pendOff = true) ∧
    (∃ (s : State), s.rot.st ≠ .coast) :=
  ⟨⟨(base.rotMap (fun r => { r with st := .step, vdc := 500, target := 5, refN := 7000000, gates := ⟨g1, {}, { lo := true, want := .low }⟩ })), 0x80000000#32, takes (by decide +kernel), by decide +kernel⟩,
    ⟨(base.rotMap (fun r => { r with st := .off, vdc := 500, target := 5, refN := 7000000, gates := ⟨g1, {}, { lo := true, want := .low }⟩ })), by decide +kernel⟩,
    ⟨(base.rotMap (fun r => { r with st := .off, vdc := 500, target := 5, refN := 7000000, gates := ⟨g1, {}, { lo := true, want := .low }⟩ })), by decide +kernel⟩,
    ⟨((base.rotMap (fun r => { r with st := .tripped, vdc := 500, target := 5, refN := 7000000, gates := ⟨g1, {}, { lo := true, want := .low }⟩ })).set R.ROTOR_PSI_NOM_PSI 0).set R.ROTOR_CTRL_OC_AUTO 1, by decide +kernel⟩,
    ⟨((base.rotMap (fun r => { r with st := .tripped, vdc := 500, target := 5, refN := 7000000, gates := ⟨g1, {}, { lo := true, want := .low }⟩ })).rotMap (fun r => { r with pendOff := true })).set R.ROTOR_CTRL_OC_AUTO 1, by decide +kernel⟩,
    ⟨(base.rotMap (fun r => { r with st := .off, vdc := 500, target := 5, refN := 7000000, gates := ⟨g1, {}, { lo := true, want := .low }⟩ })), by decide +kernel⟩⟩

theorem witness_DriveCommandsAnswerAndAct_5 :
    (∃ (s : State), s.rot.st = .coast) ∧
    (∃ (s : State), (s.rot.st ≠ .asc ∨ (s.glintOk = true ∧ (s.get R.ROTOR_ASC_MIN_SPEED ≤ s.glintSpeed ∨ s.bemfHigh = true)))) ∧
    (∃ (s : State), s.rot.st = .asc ∧ ((s.glintOk = true → s.glintSpeed < s.get R.ROTOR_ASC_MIN_SPEED ∧ s.bemfHigh = false))) ∧
    (∃ (s : State), (s.rot.st = .holdup ∨ s.get R.ROTOR_UV_LIM ≤ s.rot.vdc)) ∧
    (∃ (s : State), s.rot.st ≠ .holdup ∧ s.rot.vdc < s.get R.ROTOR_UV_LIM) :=
  ⟨⟨(base.rotMap (fun r => { r with st := .coast, vdc := 500, target := 5, refN := 7000000, gates := ⟨g1, {}, { lo := true, want := .low }⟩ })), by decide +kernel⟩,
    ⟨(base.rotMap (fun r => { r with st := .off, vdc := 500, target := 5, refN := 7000000, gates := ⟨g1, {}, { lo := true, want := .low }⟩ })), by decide +kernel⟩,
    ⟨(base.rotMap (fun r => { r with st := .asc, vdc := 500, target := 5, refN := 7000000, gates := ⟨g1, {}, { lo := true, want := .low }⟩ })), by decide +kernel⟩,
    ⟨(base.rotMap (fun r => { r with st := .off, vdc := 500, target := 5, refN := 7000000, gates := ⟨g1, {}, { lo := true, want := .low }⟩ })), by decide +kernel⟩,
    ⟨(fast (base.rotMap (fun r => { r with st := .off, vdc := 500, target := 5, refN := 7000000, gates := ⟨g1, {}, { lo := true, want := .low }⟩ }))).rotMap (fun r => {r with vdc := 0}), by decide +kernel⟩⟩

end Drive

/-! ## Witnesses: step mode and samples -/

namespace StepMode

def z (s : State) (a n : Nat) : State := (List.range n).foldl (fun s i => putWord s 5 (a + i) 0) s
def cfg (s : State) : State := ((((((((((((s.set R.ROTOR_MOTOR_POLE_PAIRS 2).set R.ROTOR_ISH_CAL_GAIN 4096).set R.ROTOR_VDC_CAL_GAIN 4096).set R.ROTOR_PSI_NOM_PSI 1000).set R.ROTOR_MOT_IND_LS 100).set R.ROTOR_I_LIM_I 1000).set R.ROTOR_TQ_LIM_MOTOR 100).set R.ROTOR_SPD_LIM_SPEED 1000000).set R.ROTOR_FLUX_SPD_ON 100).set R.ROTOR_FLUX_SPD_OFF 50).set R.ROTOR_UV_LIM 100).set R.ROTOR_CHOP_V_OFF 300).set R.ROTOR_CHOP_V_ON 400
def cfg2 (s : State) : State := ((((z (cfg s) (tabWord 1 0) 32).set R.ROTOR_OV_HARD 600).set R.ROTOR_OV_SOFT 350).set R.ROTOR_ASC_CFG_ILIM 50).set R.ROTOR_CTRL_ENABLE 1
def base : State := cfg2 up
def g1 : Gate := { hi := true, want := .high }
def fast (s : State) : State := (s.obsMap (fun o => { o with speedN := 900000000000 })).stepMap (fun t => { t with speedN := 800000000000 })
def stt (st : RotSt) (f : State → State := id) : State := f (base.rotMap (fun r => { r with st := st, vdc := 500, target := 5, refN := 7000000, gates := ⟨g1, {}, { lo := true, want := .low }⟩ }))

theorem witness_StepModeSamplesAndCrossings_1 :
    (∃ (s : State), s.rot.st = .spinCheck ∧ s.rot.step.edges < 2 ∧ s.rot.step.sawGlint = false) ∧
    (∃ (s : State), s.rot.st = .spinCheck ∧ 2 ≤ s.rot.step.edges ∧ s.get R.ROTOR_REV_THRESH_SPEED < s.speedAbs ∧ s.rot.step.against = true ∧ s.bemfHigh = false) ∧
    (∃ (s : State), s.rot.st = .align) ∧
    (∃ (s : State), s.rot.st = .ramp ∧ s.get R.ROTOR_ZC_TRIES > s.rot.step.tries + 1) ∧
    (∃ (s : State), s.rot.st = .ramp ∧ s.get R.ROTOR_ZC_TRIES ≤ s.rot.step.tries + 1 ∧ s.bemfHigh = false) ∧
    (∃ (s : State), s.rot.st = .ramp) :=
  ⟨⟨stt .spinCheck, by decide +kernel⟩,
    ⟨stt .spinCheck (fun s => { (fast s).stepMap (fun t => { t with edges := 3, against := true, tries := 7, delay := some 5, duty := 100, inWin := true, run := 3, lastZc := some 7, sector := 3, onTime := true }) with cyc := 30000 }), by decide +kernel⟩,
    ⟨stt .align, by decide +kernel⟩,
    ⟨stt .ramp, by decide +kernel⟩,
    ⟨stt .ramp (fun s => { (fast s).stepMap (fun t => { t with edges := 3, against := true, tries := 7, delay := some 5, duty := 100, inWin := true, run := 3, lastZc := some 7, sector := 3, onTime := true }) with cyc := 30000 }), by decide +kernel⟩,
    ⟨stt .ramp, by decide +kernel⟩⟩

theorem witness_StepModeSamplesAndCrossings_2 :
    (∃ (s : State), s.rot.st = .step ∧ s.rot.step.delay.isSome = true ∧ s.rot.step.toFlux = false) ∧
    (∃ (s : State), s.rot.st = .step ∧ s.rot.step.delay.isSome = true ∧ s.rot.step.toFlux = true) ∧
    (∃ (s : State), (s.rot.st = .align ∨ s.rot.st = .ramp)) ∧
    (∃ (s : State), s.rot.st = .step) ∧
    (∃ (s : State) (p : Fin 3), s.cp.rst ≠ .cold ∧ s.rot.st = .step ∧ s.blanked s.zcFirst = false ∧ (s.rot.step.sector + p.val) % 3 = 2 ∧ s.rot.step.sector < 6 ∧ s.rot.step.lastZc.isSome = true) ∧
    (∃ (s : State), s.cp.rst ≠ .cold ∧ (s.rot.st = .spinCheck ∨ s.rot.st = .coast)) :=
  ⟨⟨stt .step (fun s => { (fast s).stepMap (fun t => { t with edges := 3, against := true, tries := 7, delay := some 5, duty := 100, inWin := true, run := 3, lastZc := some 7, sector := 3, onTime := true }) with cyc := 30000 }), by decide +kernel⟩,
    ⟨stt .step (fun s => { s.stepMap (fun t => { t with edges := 3, against := true, tries := 1, delay := some 5, toFlux := true, lastZc := some 7, sector := 5, onTime := true }) with cyc := 50000 } |>.set R.ROTOR_CMD_SRC_SRC 4 |>.set R.ROTOR_ACMD_CAL_OFS 5 |>.set R.ROTOR_CMD_SCALE_SCALE 4000 |>.set R.ROTOR_ZC_TRIES 4), by decide +kernel⟩,
    ⟨stt .align, by decide +kernel⟩,
    ⟨stt .step, by decide +kernel⟩,
    ⟨stt .step (fun s => { (fast s).stepMap (fun t => { t with edges := 3, against := true, tries := 7, delay := some 5, duty := 100, inWin := true, run := 3, lastZc := some 7, sector := 3, onTime := true }) with cyc := 30000 }), 2, by decide +kernel⟩,
    ⟨stt .spinCheck, by decide +kernel⟩⟩

theorem witness_StepModeSamplesAndCrossings_3 :
    (∃ (s : State) (c : Bool), (c = false ∨ s.blanked s.zcFirst = true)) ∧
    (∃ (s : State), s.rot.st ∈ [RotSt.step, .align, .ramp] ∧ s.rot.step.onTime = true ∧ s.rot.step.onAt ≤ s.cyc - s.get R.ROTOR_ADC_LAT_CYC) ∧
    (∃ (s : State), s.rot.st ∈ [RotSt.flux, .holdup, .catch_]) ∧
    (∃ (s : State) (v : BitVec 12), s.gen.rotor = true ∧ s.cp.rst ≠ .cold ∧ (s.vdcOf v) < s.get R.ROTOR_OV_HARD) ∧
    (∃ (s : State) (v : BitVec 12), s.gen.rotor = true ∧ s.cp.rst ≠ .cold ∧ s.get R.ROTOR_OV_HARD ≤ (s.vdcOf v)) ∧
    (∃ (s : State), s.get R.ROTOR_CMD_SRC_SRC = 4) :=
  ⟨⟨stt .off, false, by decide +kernel⟩,
    ⟨stt .align (fun s => { (fast s).stepMap (fun t => { t with edges := 3, against := true, tries := 7, delay := some 5, duty := 100, inWin := true, run := 3, lastZc := some 7, sector := 3, onTime := true }) with cyc := 30000 }), by decide +kernel⟩,
    ⟨stt .flux, by decide +kernel⟩,
    ⟨stt .off, 0x000#12, by decide +kernel⟩,
    ⟨stt .off, 0x258#12, by decide +kernel⟩,
    ⟨stt .off (fun s => { s.stepMap (fun t => { t with edges := 3, against := true, tries := 1, delay := some 5, toFlux := true, lastZc := some 7, sector := 5, onTime := true }) with cyc := 50000 } |>.set R.ROTOR_CMD_SRC_SRC 4 |>.set R.ROTOR_ACMD_CAL_OFS 5 |>.set R.ROTOR_CMD_SCALE_SCALE 4000 |>.set R.ROTOR_ZC_TRIES 4), by decide +kernel⟩⟩

theorem witness_StepModeSamplesAndCrossings_4 :
    (∃ (s : State), s.get R.ROTOR_CMD_SRC_SRC ≠ 4) ∧
    (∃ (s : State), s.get R.ROTOR_CMD_SRC_SRC = 1) ∧
    (∃ (s : State), (s.get R.ROTOR_CMD_SRC_SRC = 0 ∨ 4 ≤ s.get R.ROTOR_CMD_SRC_SRC)) ∧
    (∃ (s : State) (t0 : _) (h : _), s.get R.ROTOR_CMD_SRC_SRC = 2 ∧ s.get R.ROTOR_CMD_SRC_AVG = 0 ∧ s.rot.cmdWait = 0 ∧ s.rot.cmdRise.head? = some t0 ∧ s.rot.cmdHigh.head? = some h ∧ t0 < s.cyc) ∧
    (∃ (s : State) (t0 : _) (h : _), s.get R.ROTOR_CMD_SRC_SRC = 3 ∧ s.get R.ROTOR_CMD_SRC_AVG = 0 ∧ s.rot.cmdWait = 0 ∧ s.rot.cmdRise.head? = some t0 ∧ s.rot.cmdHigh.head? = some h ∧ t0 < s.cyc) ∧
    (∃ (s : State), (s.get R.ROTOR_CMD_SRC_SRC = 2 ∨ s.get R.ROTOR_CMD_SRC_SRC = 3)) :=
  ⟨⟨stt .off, by decide +kernel⟩,
    ⟨stt .off (fun s => (fast s).rotMap (fun r => { r with vdc := 0, rcFails := 1, shunt := { r.shunt with samples := [(4, 5)] } }) |>.set R.ROTOR_CMD_SRC_SRC 1 |>.set R.FAULT_STATUS_GRAVE 1), by decide +kernel⟩,
    ⟨stt .off, by decide +kernel⟩,
    ⟨stt .off (fun s => { (fast s).rotMap (fun r => { r with rcFails := 2, chopFlt := true, chop := true, cmdWait := 0, cmdRise := [20000], cmdHigh := [300], zeroTq := true }) with cyc := 30000 } |>.set R.ROTOR_CMD_SRC_SRC 2 |>.set R.ROTOR_CMD_SCALE_SCALE 77), 20000, 300, by decide +kernel⟩,
    ⟨stt .off (fun s => { s.rotMap (fun r => { r with ovHard := true, cmdWait := 0, cmdRise := [20000, 4], cmdHigh := [300, 5] }) with cyc := 30000 } |>.set R.ROTOR_CMD_SRC_SRC 3 |>.set R.ROTOR_CMD_SCALE_SCALE 77 |>.set R.ROTOR_CTRL_ENABLE 0), 20000, 300, by decide +kernel⟩,
    ⟨stt .off (fun s => { (fast s).rotMap (fun r => { r with rcFails := 2, chopFlt := true, chop := true, cmdWait := 0, cmdRise := [20000], cmdHigh := [300], zeroTq := true }) with cyc := 30000 } |>.set R.ROTOR_CMD_SRC_SRC 2 |>.set R.ROTOR_CMD_SCALE_SCALE 77), by decide +kernel⟩⟩

theorem witness_StepModeSamplesAndCrossings_5 :
    (∃ (s : State) (l : Bool), s.pins.chopFb = l) ∧
    (∃ (s : State) (l : Bool), s.pins.chopFb ≠ l) ∧
    (∃ (s : State) (l : Bool), (s.chopLevel l).chopBad = false) ∧
    (∃ (s : State) (l : Bool), (s.chopLevel l).chopBad = true ∧ s.gen.rotor = true ∧ s.cp.rst ≠ .cold ∧ s.rot.chopFlt = false) ∧
    (∃ (s : State), s.rot.st = .catch_ ∧ s.rot.rcFailed = true ∧ s.rot.rcGlint = false ∧ s.glintOk = false ∧ s.bemfHigh = false) ∧
    (∃ (s : State), s.rot.st = .catch_ ∧ s.rot.rcFailed = false ∧ s.rot.rcFails < 2 ∧ s.rot.rcGlint = false ∧ s.glintOk = false ∧ s.bemfHigh = false) :=
  ⟨⟨stt .off, false, by decide +kernel⟩,
    ⟨stt .off, true, by decide +kernel⟩,
    ⟨stt .off, false, by decide +kernel⟩,
    ⟨stt .off (fun s => { s.rotMap (fun r => { r with chop := true, chopAt := 0, chopV0 := 450 }) with cyc := 100000000 }), false, by decide +kernel⟩,
    ⟨stt .catch_ (fun s => s.rotMap (fun r => { r with rcFailed := true })), by decide +kernel⟩,
    ⟨stt .catch_, by decide +kernel⟩⟩

theorem witness_StepModeSamplesAndCrossings_6 :
    ∃ (s : State), s.rot.st = .catch_ ∧ s.rot.rcFailed = false ∧ 2 ≤ s.rot.rcFails :=
  ⟨stt .catch_ (fun s => { (fast s).rotMap (fun r => { r with rcFails := 2, chopFlt := true, chop := true, cmdWait := 0, cmdRise := [20000], cmdHigh := [300], zeroTq := true }) with cyc := 30000 } |>.set R.ROTOR_CMD_SRC_SRC 2 |>.set R.ROTOR_CMD_SCALE_SCALE 77), by decide +kernel⟩

end StepMode

/-! ## Witnesses: rotor decisions -/

namespace Decision

def z (s : State) (a n : Nat) : State := (List.range n).foldl (fun s i => putWord s 5 (a + i) 0) s
def cfg (s : State) : State := ((((((((((((s.set R.ROTOR_MOTOR_POLE_PAIRS 2).set R.ROTOR_ISH_CAL_GAIN 4096).set R.ROTOR_VDC_CAL_GAIN 4096).set R.ROTOR_PSI_NOM_PSI 1000).set R.ROTOR_MOT_IND_LS 100).set R.ROTOR_I_LIM_I 1000).set R.ROTOR_TQ_LIM_MOTOR 100).set R.ROTOR_SPD_LIM_SPEED 1000000).set R.ROTOR_FLUX_SPD_ON 100).set R.ROTOR_FLUX_SPD_OFF 50).set R.ROTOR_UV_LIM 100).set R.ROTOR_CHOP_V_OFF 300).set R.ROTOR_CHOP_V_ON 400
def cfg2 (s : State) : State := ((((z (cfg s) (tabWord 1 0) 32).set R.ROTOR_OV_HARD 600).set R.ROTOR_OV_SOFT 350).set R.ROTOR_ASC_CFG_ILIM 50).set R.ROTOR_CTRL_ENABLE 1
def base : State := cfg2 up
def g1 : Gate := { hi := true, want := .high }
def stt (st : RotSt) (f : State → State := id) : State := f (base.rotMap (fun r => { r with st := st, vdc := 500, target := 5, refN := 7000000, gates := ⟨g1, {}, { lo := true, want := .low }⟩ }))
def cal (s : State) : State := s.obsMap (fun o => { o with psiA := 1000000000, psiB := 0, speedN := 300000000000, iu := 10, iv := 20 })

theorem witness_DecisionsChooseTheVector_1 :
    (∃ (s : State), s.rot.st ∉ [RotSt.flux, .holdup, .step, .ramp, .catch_]) ∧
    (∃ (s : State), (s.rot.st = .flux ∨ s.rot.st = .holdup) ∧ 1 < s.rot.zeroN) ∧
    (∃ (s : State), (s.rot.st = .flux ∨ s.rot.st = .holdup) ∧ s.rot.zeroN = 0 ∧ ((s.reconstruct.observe.syncCount.rampRef).fuse (s.reconstruct.observe.syncCount.rampRef).rot.shunt.len).implausible s.rot.obs.speedN = true) ∧
    (∃ (s : State), (s.rot.st = .flux ∨ s.rot.st = .holdup) ∧ s.rot.zeroN = 0 ∧ ((s.reconstruct.observe.syncCount.rampRef).fuse (s.reconstruct.observe.syncCount.rampRef).rot.shunt.len).implausible s.rot.obs.speedN = false ∧ s.rot.st = .flux ∧ s.get R.ROTOR_FLUX_SPD_OFF * 1000 ≤ ((s.reconstruct.observe.syncCount.rampRef).fuse (s.reconstruct.observe.syncCount.rampRef).rot.shunt.len).speedAbs) ∧
    (∃ (s : State), s.rot.st = .step ∧ s.rot.zeroN = 0 ∧ (((s.stepMap (fun t => t.cut s.cyc)).stepCurrents.observe.syncCount.rampRef).fuse ((s.stepMap (fun t => t.cut s.cyc)).stepCurrents.observe.syncCount.rampRef).rot.shunt.len).implausible s.rot.obs.speedN = false ∧ ((((s.stepMap (fun t => t.cut s.cyc)).stepCurrents.observe.syncCount.rampRef).fuse ((s.stepMap (fun t => t.cut s.cyc)).stepCurrents.observe.syncCount.rampRef).rot.shunt.len).rotMap (fun r => { r with shunt := { r.shunt with t0 := s.cyc, len := s.td }, step := { r.step with cuts := [] } })).rot.refN ≠ 0) ∧
    (∃ (s : State), s.rot.st = .step ∧ s.rot.zeroN = 0 ∧ (((s.stepMap (fun t => t.cut s.cyc)).stepCurrents.observe.syncCount.rampRef).fuse ((s.stepMap (fun t => t.cut s.cyc)).stepCurrents.observe.syncCount.rampRef).rot.shunt.len).implausible s.rot.obs.speedN = false ∧ ((((s.stepMap (fun t => t.cut s.cyc)).stepCurrents.observe.syncCount.rampRef).fuse ((s.stepMap (fun t => t.cut s.cyc)).stepCurrents.observe.syncCount.rampRef).rot.shunt.len).rotMap (fun r => { r with shunt := { r.shunt with t0 := s.cyc, len := s.td }, step := { r.step with cuts := [] } })).rot.refN = 0) :=
  ⟨⟨stt .off, by decide +kernel⟩,
    ⟨stt .flux (fun s => (cal s).rotMap (fun r => { r with vec := 3, rev := true, zeroN := 3, shunt := { r.shunt with len := 2000 } })), by decide +kernel⟩,
    ⟨stt .flux, by decide +kernel⟩,
    ⟨stt .flux cal, by decide +kernel⟩,
    ⟨stt .step cal, by decide +kernel⟩,
    ⟨stt .step (fun s => (cal s).rotMap (fun r => { r with vec := 2, refN := 0, target := 0, shunt := { r.shunt with len := 2000, t0 := 100, samples := [(5, 900)] } }) |>.set R.ROTOR_ACC_LIM_ACC 0xFFFFFF), by decide +kernel⟩⟩

theorem witness_DecisionsChooseTheVector_2 :
    ∃ (s : State), s.rot.st = .ramp ∧ s.rot.zeroN = 0 :=
  ⟨stt .ramp, by decide +kernel⟩

end Decision

/-! ## Witnesses: the angle unit -/

namespace AngleMarks

def b0 : State := (((((up.set R.ANGLE_GEOM_FACETS 4).set R.ANGLE_GEOM_HALO 256).set R.ANGLE_TRACK_SLEW 64).set R.ANGLE_TRACK_ACQ_N 3).set R.ANGLE_TRACK_MISS_K 2).set R.ANGLE_VSTEP_RATE 777
def mk (st : AngSt) (f : AngS → AngS) : State := b0.angMap (fun a => f { a with win := (6 * 65536, 256), st := st, omega := 1000, theta := 100 * 2 ^ 32, rev := 6 })

theorem witness_AngleUnitTracksMarks_1 :
    (∃ (s : State) (key : Bool) (l : Bool), (l = false ∨ s.pins.glint = true ∨ s.ang.st = .off ∨ s.ang.st = .virtual ∨ (s.ang.st = .search ∧ key = false))) ∧
    (∃ (s : State), s.pins.glint = false ∧ s.ang.st = .search) ∧
    (∃ (s : State), s.pins.glint = false ∧ (s.ang.st = .acquire ∨ s.ang.st = .locked ∨ s.ang.st = .coasting) ∧ s.ang.anyNext = false ∧ s.ang.win.2 < s.markGap.natAbs) ∧
    (∃ (s : State), s.pins.glint = false ∧ (s.ang.st = .acquire ∨ s.ang.st = .locked ∨ s.ang.st = .coasting) ∧ s.ang.anyNext = false ∧ s.markGap.natAbs ≤ s.ang.win.2) ∧
    (∃ (s : State) (key : Bool), s.pins.glint = false ∧ (s.ang.st = .acquire ∨ s.ang.st = .locked ∨ s.ang.st = .coasting) ∧ s.ang.anyNext = false ∧ s.markGap.natAbs ≤ s.ang.win.2 ∧ key ≠ decide ((s.ang.facet) = 0)) ∧
    (∃ (s : State), (s.ang.anyNext = true ∨ -(s.ang.win.2 : Int) ≤ s.markGap ∨ s.ang.st = .off ∨ s.ang.st = .virtual ∨ s.ang.st = .search)) :=
  ⟨⟨mk .off id, false, false, by decide +kernel⟩,
    ⟨mk .search id, by decide +kernel⟩,
    ⟨((mk .acquire (fun a => { a with win := (7 * 65536, 256) })).set R.ANGLE_GEOM_FACETS 1), by decide +kernel⟩,
    ⟨mk .acquire id, by decide +kernel⟩,
    ⟨mk .acquire id, false, by decide +kernel⟩,
    ⟨mk .off id, by decide +kernel⟩⟩

theorem witness_AngleUnitTracksMarks_2 :
    (∃ (s : State), s.ang.anyNext = false ∧ s.markGap < -(s.ang.win.2 : Int) ∧ (s.ang.st = .acquire ∨ s.ang.st = .locked ∨ s.ang.st = .coasting)) ∧
    (∃ (s : State), s.ang.st ≠ .coasting) ∧
    (∃ (s : State), s.ang.st = .coasting) ∧
    (∃ (s : State) (w : Word), s.portTakes R.ANGLE_CTRL_ENABLE.addr ∧ (s.flag R.CAL_CTRL_ENABLE = false ∨ strongClass (s.stored 5 (calWord s.ang.slot)) = .clean) ∧ w.getLsbD 0 = true ∧ s.flag R.ANGLE_CTRL_ENABLE = false ∧ w.getLsbD 8 = false) ∧
    (∃ (s : State) (w : Word), s.portTakes R.ANGLE_CTRL_ENABLE.addr ∧ (s.flag R.CAL_CTRL_ENABLE = false ∨ strongClass (s.stored 5 (calWord s.ang.slot)) = .clean) ∧ w.getLsbD 0 = true ∧ s.flag R.ANGLE_CTRL_ENABLE = false ∧ w.getLsbD 8 = true ∧ s.gen.rotor = true ∧ s.haloFits = true) ∧
    (∃ (s : State) (w : Word), s.portTakes R.ANGLE_CTRL_ENABLE.addr ∧ (s.flag R.CAL_CTRL_ENABLE = false ∨ strongClass (s.stored 5 (calWord s.ang.slot)) = .clean) ∧ w.getLsbD 0 = true ∧ s.flag R.ANGLE_CTRL_ENABLE = false ∧ w.getLsbD 8 = true ∧ (s.gen.rotor = false ∨ s.haloFits = false)) :=
  ⟨⟨((mk .acquire (fun a => { a with win := (7 * 65536, 256), rev := 7, theta := 300 * 2 ^ 32 })).set R.ANGLE_GEOM_FACETS 1), by decide +kernel⟩,
    ⟨mk .off id, by decide +kernel⟩,
    ⟨mk .coasting id, by decide +kernel⟩,
    ⟨mk .off id, 0x00000001#32, takes (by decide +kernel), by decide +kernel⟩,
    ⟨mk .off id, 0x00000101#32, takes (by decide +kernel), by decide +kernel⟩,
    ⟨{ mk .off id with gen := { (mk .off id).gen with rotor := false } }, 0x00000101#32, takes (by decide +kernel), by decide +kernel⟩⟩

theorem witness_AngleUnitTracksMarks_3 :
    (∃ (s : State) (w : Word), s.portTakes R.ANGLE_CTRL_ENABLE.addr ∧ (s.flag R.CAL_CTRL_ENABLE = false ∨ strongClass (s.stored 5 (calWord s.ang.slot)) = .clean) ∧ w.getLsbD 0 = true ∧ s.flag R.ANGLE_CTRL_ENABLE = true ∧ w.getLsbD 8 ≠ s.flag R.ANGLE_CTRL_MODE) ∧
    (∃ (s : State) (w : Word), s.portTakes R.ANGLE_CTRL_ENABLE.addr ∧ (s.flag R.CAL_CTRL_ENABLE = false ∨ strongClass (s.stored 5 (calWord s.ang.slot)) = .clean) ∧ w.getLsbD 0 = false ∧ w.getLsbD 8 = s.flag R.ANGLE_CTRL_MODE) ∧
    (∃ (s : State), s.portTakes R.ANGLE_VSTEP_RATE.addr) :=
  ⟨⟨(mk .off id).set R.ANGLE_CTRL_ENABLE 1, 0x00000101#32, takes (by decide +kernel), by decide +kernel⟩,
    ⟨mk .off id, 0x00000000#32, takes (by decide +kernel), by decide +kernel⟩,
    ⟨mk .off id, takes (by decide +kernel)⟩⟩

end AngleMarks

/-! ## Witnesses: the calendar -/

namespace Calendar

def b0 : State := (((((up.set R.ANGLE_GEOM_FACETS 4).set R.ANGLE_GEOM_HALO 256).set R.ANGLE_TRACK_SLEW 64).set R.ANGLE_TRACK_ACQ_N 3).set R.ANGLE_TRACK_MISS_K 2).set R.ANGLE_VSTEP_RATE 777
def mk (st : AngSt) (f : AngS → AngS) : State := b0.angMap (fun a => f { a with st := st, omega := 1000, theta := 100 * 2 ^ 32, rev := 6 })
def badW (s : State) (w : Nat) : State := { s with sram := tins s.sram (skey 5 w) 3#39 }
def onC (s : State) : State := (s.set R.CAL_CTRL_ENABLE 1).set R.ANGLE_CTRL_ENABLE 1
def zz (s : State) : State := (List.range 10).foldl (fun s i => putWord s 5 (calWord (2*i)) 0x10000001) (putWord s 5 (calWord 4094) 5)
def c0 (sl : Nat) : State := zz ((mk .locked (fun a => { a with slot := sl })))

theorem witness_CalendarSlotsAndRegisters_1 :
    (∃ (s : State), (((s.slotNow) + 4096 - s.ang.slot) % 4096) = 0) ∧
    (∃ (s : State), (((s.slotNow) + 4096 - s.ang.slot) % 4096) ≠ 0 ∧ s.calOn = false ∧ (bit (s.granted) 12 = false ∨ (s.ang.rev, (s.slotNow)) ∈ s.ang.marked)) ∧
    (∃ (s : State), (((s.slotNow) + 4096 - s.ang.slot) % 4096) = 1 ∧ s.calOn = false ∧ bit (s.granted) 12 = true ∧ (s.ang.rev, (s.slotNow)) ∉ s.ang.marked) ∧
    (∃ (s : State), (((s.slotNow) + 4096 - s.ang.slot) % 4096) = 1 ∧ s.calOn = true ∧ s.bad 5 (calWord (s.slotNow)) = true) ∧
    (∃ (s : State), s.portTakes R.CAL_PHASE_COUNTS.addr ∧ s.calOn = false ∧ bit (s.get R.CAL_FIXED_ENTRY) 12 = false) ∧
    (∃ (s : State), s.portTakes R.CAL_DATA_EVEN.addr ∧ s.testMode 5 = false ∧ s.memi.inj = none) :=
  ⟨⟨c0 6, by decide +kernel⟩,
    ⟨c0 5, by decide +kernel⟩,
    ⟨(c0 5).set R.CAL_FIXED_ENTRY 0x1000, by decide +kernel⟩,
    ⟨onC (badW (c0 5) (calWord 6)), by decide +kernel⟩,
    ⟨c0 5, takes (by decide +kernel), by decide +kernel⟩,
    ⟨c0 5, takes (by decide +kernel), by decide +kernel⟩⟩

theorem witness_CalendarSlotsAndRegisters_2 :
    (∃ (s : State), s.cpReady = true ∧ s.testMode 5 = false ∧ strongClass (s.stored 5 (calWord (s.get R.CAL_ADDR_ENTRY / 2 * 2))) = .clean) ∧
    (∃ (s : State), s.cpReady = true ∧ s.testMode 5 = false ∧ s.bad 5 (calWord (s.get R.CAL_ADDR_ENTRY / 2 * 2)) = true) ∧
    (∃ (s : State), s.cpReady = false) :=
  ⟨⟨c0 5, by decide +kernel⟩,
    ⟨(badW (c0 5) (calWord 0)), by decide +kernel⟩,
    ⟨{ c0 5 with cp := {} }, by decide +kernel⟩⟩

end Calendar

/-! ## Witnesses: memory integrity -/

namespace MemInt

def zer (s : State) (r : Nat) (ws : List Nat) : State := ws.foldl (fun s w => putWord s r w 0x12345678) s
def b0 : State := zer (zer up 5 ([winWord 0x240100, winWord 0x100040, winWord 0x100060, winWord 0x208000, 0, 1, 2, 3, 4])) 6 [0,1,2,3]
def ce (s : State) (r w : Nat) : State := { s with sram := tins s.sram (skey r w) (strongEnc 0x12345678 ^^^ 4#39) }
def ue (s : State) (r w : Nat) : State := { s with sram := tins s.sram (skey r w) (strongEnc 0x12345678 ^^^ 6#39) }
def err (s : State) (r w : Nat) (m : BitVec 72) : State := { s with memi := { s.memi with err := tput (fun _ => 0) s.memi.err (skey r w) m } }
def lapd (s : State) : State := { s with memi := { s.memi with lap0 := (List.range 7).map (fun r => (r, 5)) } }
def sc (s : State) : State := lapd (((s.set R.MEMI_CTRL_ENABLE 1).set R.MEMI_SCRUB_EN_REGIONS 127).set R.MEMI_CTRL_PERMIT_IGN 1)
def rm (s : State) (r k : Nat) (e : Remap) : State := { s with memi := { s.memi with remap := tput (fun _ => none) s.memi.remap (r * 8 + k) (some e) } }
def wrAll (s : State) : State := { s with memi := { s.memi with written := [(0, 2 ^ 40)] } }

theorem witness_MemoryIntegrityCommands_1 :
    (∃ (s : State) (x : BitVec 24) (be : BitVec 4), s.portTakes (x.toNat / 4 * 4) ∧ 0x100000 ≤ (x.toNat / 4 * 4) ∧ (x.toNat / 4 * 4) < 0x180000 ∧ (s.ring (((x.toNat / 4 * 4) - 0x100000) / 32)).en = true ∧ (x.toNat / 4 * 4) % 32 < 0x10 ∧ be ≠ 0#4) ∧
    (∃ (s : State) (x : BitVec 24), s.portTakes (x.toNat / 4 * 4) ∧ ((0x204000 ≤ (x.toNat / 4 * 4) ∧ (x.toNat / 4 * 4) < 0x250000) ∨ (0x100000 ≤ (x.toNat / 4 * 4) ∧ (x.toNat / 4 * 4) < 0x180000 ∧ (s.ring (((x.toNat / 4 * 4) - 0x100000) / 32)).en = false ∧ (x.toNat / 4 * 4) % 32 ≠ 0xC)) ∧ s.testMode 5 = false ∧ s.memi.inj = none) ∧
    (∃ (s : State) (x : BitVec 24) (be : BitVec 4), s.portTakes (x.toNat / 4 * 4) ∧ ((0x204000 ≤ (x.toNat / 4 * 4) ∧ (x.toNat / 4 * 4) < 0x250000) ∨ (0x100000 ≤ (x.toNat / 4 * 4) ∧ (x.toNat / 4 * 4) < 0x180000 ∧ (s.ring (((x.toNat / 4 * 4) - 0x100000) / 32)).en = false ∧ (x.toNat / 4 * 4) % 32 ≠ 0xC)) ∧ s.testMode 5 = false ∧ s.memi.inj = none ∧ be ≠ 0#4 ∧ be ≠ 0xF#4 ∧ strongClass (s.stored 5 (winWord (x.toNat / 4 * 4))) = .clean) ∧
    (∃ (s : State) (x : BitVec 24) (be : BitVec 4), s.portTakes (x.toNat / 4 * 4) ∧ ((0x204000 ≤ (x.toNat / 4 * 4) ∧ (x.toNat / 4 * 4) < 0x250000) ∨ (0x100000 ≤ (x.toNat / 4 * 4) ∧ (x.toNat / 4 * 4) < 0x180000 ∧ (s.ring (((x.toNat / 4 * 4) - 0x100000) / 32)).en = false ∧ (x.toNat / 4 * 4) % 32 ≠ 0xC)) ∧ s.testMode 5 = false ∧ s.memi.inj = none ∧ be ≠ 0#4 ∧ be ≠ 0xF#4 ∧ s.bad 5 (winWord (x.toNat / 4 * 4)) = true ∧ s.powered 0 = true) ∧
    (∃ (s : State) (x : BitVec 24), s.portTakes (x.toNat / 4 * 4) ∧ ((0x204000 ≤ (x.toNat / 4 * 4) ∧ (x.toNat / 4 * 4) < 0x250000) ∨ (0x100000 ≤ (x.toNat / 4 * 4) ∧ (x.toNat / 4 * 4) < 0x180000 ∧ (s.ring (((x.toNat / 4 * 4) - 0x100000) / 32)).en = false ∧ (x.toNat / 4 * 4) % 32 ≠ 0xC)) ∧ s.testMode 5 = false ∧ s.memi.inj = none) ∧
    (∃ (s : State) (r : Fin 7), s.scrubOn r = false) :=
  ⟨⟨b0.ringMap 2 (fun x => { x with en := true }), 0x100040#24, 0xf#4, takes (by decide +kernel), by decide +kernel⟩,
    ⟨b0, 0x240100#24, takes (by decide +kernel), by decide +kernel⟩,
    ⟨b0, 0x240100#24, 0x3#4, takes (by decide +kernel), by decide +kernel⟩,
    ⟨ue b0 5 (winWord 0x240100), 0x240100#24, 0x3#4, takes (by decide +kernel), by decide +kernel⟩,
    ⟨b0, 0x240100#24, takes (by decide +kernel), by decide +kernel⟩,
    ⟨b0, 0, by decide +kernel⟩⟩

theorem witness_MemoryIntegrityCommands_2 :
    (∃ (s : State) (r : Fin 7), s.scrubOn r = false) ∧
    (∃ (s : State) (r : Fin 7), s.scrubOn r = true ∧ (s.walkNext r (tget (fun _ => 0) s.memi.walk r)).isSome = true ∧ (s.walkNext r (((s.walkNext r (tget (fun _ => 0) s.memi.walk r)).getD 0) + 1)).isSome = true ∧ (s.memi.wb ++ s.memi.early).all (fun p => p.1 ≠ r.val) = true ∧ (tfind s.memi.lap0 r).isSome = true ∧ s.wclass r ((s.walkNext r (tget (fun _ => 0) s.memi.walk r)).getD 0) = .clean) ∧
    (∃ (s : State) (r : Fin 7), s.scrubOn r = true ∧ (s.walkNext r (tget (fun _ => 0) s.memi.walk r)).isSome = true ∧ (s.walkNext r (((s.walkNext r (tget (fun _ => 0) s.memi.walk r)).getD 0) + 1)).isSome = true ∧ (s.memi.wb ++ s.memi.early).all (fun p => p.1 ≠ r.val) = true ∧ (tfind s.memi.lap0 r).isSome = true ∧ (s.wclass r ((s.walkNext r (tget (fun _ => 0) s.memi.walk r)).getD 0)).fixable = true) ∧
    (∃ (s : State) (r : Fin 7), s.scrubOn r = true ∧ (s.walkNext r (tget (fun _ => 0) s.memi.walk r)).isSome = true ∧ (s.walkNext r (((s.walkNext r (tget (fun _ => 0) s.memi.walk r)).getD 0) + 1)).isSome = true ∧ (s.memi.wb ++ s.memi.early).all (fun p => p.1 ≠ r.val) = true ∧ (tfind s.memi.lap0 r).isSome = true ∧ s.wclass r ((s.walkNext r (tget (fun _ => 0) s.memi.walk r)).getD 0) = .bad) ∧
    (∃ (s : State) (r : Fin 7), s.scrubOn r = true ∧ s.scrubDue r (s.memi.wb ++ s.memi.early) ≠ none) ∧
    (∃ (s : State) (r : Fin 7), s.scrubOn r = true ∧ (s.scrubDue r s.memi.wb).isSome = true) :=
  ⟨⟨b0, 0, by decide +kernel⟩,
    ⟨sc (wrAll b0), 0, by decide +kernel⟩,
    ⟨sc ((List.range 7).foldl (fun s r => err (if r = 5 ∨ r = 6 then ce s r 0 else s) r 0 1) b0), 5, by decide +kernel⟩,
    ⟨sc ((List.range 7).foldl (fun s r => err (if r = 5 ∨ r = 6 then ue s r 0 else s) r 0 3) b0), 5, by decide +kernel⟩,
    ⟨(let s := sc ((List.range 7).foldl (fun s r => err (if r = 5 ∨ r = 6 then ce s r 0 else s) r 0 1) b0); { s with memi := { s.memi with wb := (List.range 7).map (fun r => (r, 0)) } }), 0, by decide +kernel⟩,
    ⟨(let s := sc ((List.range 7).foldl (fun s r => err (if r = 5 ∨ r = 6 then ce s r 0 else s) r 0 1) b0); { s with memi := { s.memi with wb := (List.range 7).map (fun r => (r, 0)) } }), 0, by decide +kernel⟩⟩

theorem witness_MemoryIntegrityCommands_3 :
    (∃ (s : State) (r : Fin 7), (s.powered 0 = false ∨ s.flag R.MEMI_CTRL_ENABLE = false ∨ bit (s.get R.MEMI_SCRUB_EN_REGIONS) r = false ∨ s.get (R.MEMI_LAP_LIM_MS r) = 0 ∨ tget (fun _ => false) s.memi.starved r = true)) ∧
    (∃ (s : State) (r : Fin 7), s.powered 0 = true ∧ s.flag R.MEMI_CTRL_ENABLE = true ∧ bit (s.get R.MEMI_SCRUB_EN_REGIONS) r = true ∧ s.get (R.MEMI_LAP_LIM_MS r) ≠ 0 ∧ tget (fun _ => false) s.memi.starved r = false) ∧
    (∃ (s : State) (d : Word), s.portTakes R.MEMI_REMAP_CLR_ENTRY.addr ∧ (tget (fun _ => none) s.memi.remap ((bits d.toNat 28 3) * 8 + (d.toNat % 8))) = none) ∧
    (∃ (s : State) (d : Word), s.portTakes R.MEMI_REMAP_CLR_ENTRY.addr ∧ (tget (fun _ => none) s.memi.remap ((bits d.toNat 28 3) * 8 + (d.toNat % 8))).isSome = true ∧ (bits d.toNat 28 3) < 7) ∧
    (∃ (s : State), s.portTakes R.MEMI_TEST_EN.addr) ∧
    (∃ (s : State) (d : Word), s.portTakes R.MEMI_INJECT_ARM.addr ∧ bit d.toNat 31 = true ∧ bits d.toNat 0 7 < (wordBits (bits d.toNat 28 3)) ∧ (bit d.toNat 24 = false ∨ bits d.toNat 8 7 < (wordBits (bits d.toNat 28 3)))) :=
  ⟨⟨b0, 0, by decide +kernel⟩,
    ⟨sc (wrAll b0), 0, by decide +kernel⟩,
    ⟨b0, 0x00000000#32, takes (by decide +kernel), by decide +kernel⟩,
    ⟨(List.range 7).foldl (fun s r => err (rm s r 3 ⟨4, strongEnc 9⟩) r 4 1) b0, 0x50000003#32, takes (by decide +kernel), by decide +kernel⟩,
    ⟨b0, takes (by decide +kernel)⟩,
    ⟨b0, 0xd0000005#32, takes (by decide +kernel), by decide +kernel⟩⟩

theorem witness_MemoryIntegrityCommands_4 :
    (∃ (s : State) (d : Word), s.portTakes R.MEMI_INJECT_ARM.addr ∧ bit d.toNat 31 = true ∧ (wordBits (bits d.toNat 28 3)) ≤ bits d.toNat 0 7) ∧
    (∃ (s : State) (p : Nat × Nat), s.memi.injDone = some p) :=
  ⟨⟨b0, 0xffffffff#32, takes (by decide +kernel), by decide +kernel⟩,
    ⟨{ b0 with memi := { b0.memi with injDone := some (6, 3) } }, (6, 3), by decide +kernel⟩⟩

end MemInt

/-! ## Witnesses: the fault unit -/

namespace FaultUnit

def logz (s : State) : State := (List.range 256).foldl (fun s i => putWord s 5 (tabWord 5 i) 0) s
def b0 : State := logz up
def ev (n : Nat) (d : Word) (t : Nat) : FltEv := ⟨n, d, t, false⟩
def wi (e : FltEv) (s : State) : State := { s with flt := { s.flt with inflight := [e, ⟨9, 9, 6, false⟩] } }
def openAt (n c : Nat) (s : State) : State := s.srcMap n (fun x => { x with isOpen := true, count := c, state := 1, total := 65535 })

theorem witness_FirmwareRaisesCountAtFirmwareSources_1 :
    (∃ (s : State) (n : BitVec 8), s.portTakes R.FAULT_FW_RAISE_SOURCE.addr ∧ 224 ≤ n.toNat) ∧
    (∃ (s : State) (n : BitVec 8), s.portTakes R.FAULT_FW_RAISE_SOURCE.addr ∧ 224 ≤ n.toNat ∧ s.flt.inflight = []) ∧
    (∃ (s : State) (n : BitVec 8), s.portTakes R.FAULT_FW_RAISE_SOURCE.addr ∧ n.toNat < 224) :=
  ⟨⟨(wi (ev 0 7 5) b0), 0xe0#8, takes (by decide +kernel), by decide +kernel⟩,
    ⟨b0, 0xe0#8, takes (by decide +kernel), by decide +kernel⟩,
    ⟨(wi (ev 0 7 5) b0), 0x00#8, takes (by decide +kernel), by decide +kernel⟩⟩

theorem witness_FaultEventsCountPromoteAndReact_1 :
    (∃ (s : State), s.flt.inflight = []) ∧
    (∃ (s : State) (n : Fin 256), s.flt.batch.all (fun e => e.src ≠ n.val) = true) ∧
    (∃ (s : State) (e : FltEv), e ∈ s.flt.batch ∧ e.dump = false) ∧
    (∃ (s : State) (e : FltEv), s.flt.batch = [e] ∧ s.flt.inflight.head? = some e ∧ ((e.dump = true → s.grave = false))) ∧
    (∃ (s : State) (e : FltEv), s.flt.batch = [e] ∧ s.flt.inflight.head? = some e ∧ ((e.dump = true → s.grave = false)) ∧ ((if ((!((s.src e.src).isOpen && (s.src e.src).promoted) && decide (s.srcThr e.src < ((if (s.src e.src).isOpen then (s.src e.src).count + 1 else 1))))) then s.srcProm e.src else s.srcBase e.src)) = 0) ∧
    (∃ (s : State) (e : FltEv), s.flt.batch = [e] ∧ s.flt.inflight.head? = some e ∧ ((e.dump = true → s.grave = false)) ∧ ((if ((!((s.src e.src).isOpen && (s.src e.src).promoted) && decide (s.srcThr e.src < ((if (s.src e.src).isOpen then (s.src e.src).count + 1 else 1))))) then s.srcProm e.src else s.srcBase e.src)) = 1 ∧ s.flag R.FAULT_FIRST_VALID = false ∧ s.flt.logq.length < 8) :=
  ⟨⟨b0, by decide +kernel⟩,
    ⟨(wi (ev 0 7 5) b0), 5, by decide +kernel⟩,
    ⟨wi (ev 0 7 5) b0, ev 0 7 5, by decide +kernel⟩,
    ⟨(wi (ev 0 7 5) b0), { src := 0, detail := 0x00000007#32, born := 5, dump := false }, by decide +kernel⟩,
    ⟨(wi (ev 6 10 5) b0), { src := 6, detail := 0x0000000a#32, born := 5, dump := false }, by decide +kernel⟩,
    ⟨(wi (ev 0 7 5) b0), { src := 0, detail := 0x00000007#32, born := 5, dump := false }, by decide +kernel⟩⟩

theorem witness_FaultEventsCountPromoteAndReact_2 :
    (∃ (s : State) (e : FltEv), s.flt.batch = [e] ∧ s.flt.inflight.head? = some e ∧ ((e.dump = true → s.grave = false)) ∧ ((if ((!((s.src e.src).isOpen && (s.src e.src).promoted) && decide (s.srcThr e.src < ((if (s.src e.src).isOpen then (s.src e.src).count + 1 else 1))))) then s.srcProm e.src else s.srcBase e.src)) = 1 ∧ s.flag R.FAULT_FIRST_VALID = true ∧ 8 ≤ s.flt.logq.length) ∧
    (∃ (s : State) (e : FltEv), s.flt.batch = [e] ∧ s.flt.inflight.head? = some e ∧ ((e.dump = true → s.grave = false)) ∧ ((if ((!((s.src e.src).isOpen && (s.src e.src).promoted) && decide (s.srcThr e.src < ((if (s.src e.src).isOpen then (s.src e.src).count + 1 else 1))))) then s.srcProm e.src else s.srcBase e.src)) = 2 ∧ s.flag (R.FAULT_SRC_CFG_ROT e.src) = true ∧ s.flag (R.FAULT_SRC_CFG_DOM e.src) = false ∧ s.gen.rotor = true ∧ s.flt.logq.length < 8) ∧
    (∃ (s : State) (e : FltEv), s.flt.batch = [e] ∧ s.flt.inflight.head? = some e ∧ ((e.dump = true → s.grave = false)) ∧ ((if ((!((s.src e.src).isOpen && (s.src e.src).promoted) && decide (s.srcThr e.src < ((if (s.src e.src).isOpen then (s.src e.src).count + 1 else 1))))) then s.srcProm e.src else s.srcBase e.src)) = 3 ∧ s.grave = false) ∧
    (∃ (s : State) (e : FltEv), s.flt.batch = [e] ∧ s.flt.inflight.head? = some e ∧ ((e.dump = true → s.grave = false)) ∧ ((if ((!((s.src e.src).isOpen && (s.src e.src).promoted) && decide (s.srcThr e.src < ((if (s.src e.src).isOpen then (s.src e.src).count + 1 else 1))))) then s.srcProm e.src else s.srcBase e.src)) = 3 ∧ s.grave = true) ∧
    (∃ (s : State) (e : FltEv), s.flt.batch = [e] ∧ s.flt.inflight.head? = some e ∧ e.dump = true ∧ s.grave = true) ∧
    (∃ (s : State), s.flt.logq = []) :=
  ⟨⟨{ openAt (ev 0 7 5).src 2 ((wi (ev 0 7 5) b0).set R.FAULT_FIRST_VALID 1) with flt := { (openAt (ev 0 7 5).src 2 (wi (ev 0 7 5) b0)).flt with logq := List.replicate 8 ⟨1, 2, 1, false, 5, 6⟩ } }, { src := 0, detail := 0x00000007#32, born := 5, dump := false }, by decide +kernel⟩,
    ⟨openAt (ev 6 10 5).src 2 (wi (ev 6 10 5) b0), { src := 6, detail := 0x0000000a#32, born := 5, dump := false }, by decide +kernel⟩,
    ⟨(wi (ev 8 4 5) b0), { src := 8, detail := 0x00000004#32, born := 5, dump := false }, by decide +kernel⟩,
    ⟨openAt (ev 8 4 5).src 2 ((wi (ev 8 4 5) b0).set R.FAULT_STATUS_GRAVE 1), { src := 8, detail := 0x00000004#32, born := 5, dump := false }, by decide +kernel⟩,
    ⟨wi ⟨80, 0x301, 5, true⟩ (b0.set R.FAULT_STATUS_GRAVE 1), { src := 80, detail := 0x00000301#32, born := 5, dump := true }, by decide +kernel⟩,
    ⟨(wi (ev 0 7 5) b0), by decide +kernel⟩⟩

theorem witness_FaultEventsCountPromoteAndReact_3 :
    (∃ (s : State) (e : LogEnt), s.flt.logq.head? = some e ∧ s.memi.inj = none) ∧
    (∃ (s : State) (n : Fin 256), s.portTakes (R.FAULT_SRC_STAT_ACK n).addr ∧ s.srcPresent n = true ∧ (s.src n).state = 3) ∧
    (∃ (s : State) (n : Fin 256), s.portTakes (R.FAULT_SRC_STAT_ACK n).addr ∧ s.srcPresent n = true ∧ (s.src n).state ≠ 3) ∧
    (∃ (s : State), s.portTakes R.FAULT_FIRST_VALID.addr ∧ s.grave = true) ∧
    (∃ (s : State), s.portTakes R.FAULT_FIRST_VALID.addr ∧ s.grave = false) :=
  ⟨⟨{ openAt (ev 0 7 5).src 2 ((wi (ev 0 7 5) b0).set R.FAULT_FIRST_VALID 1) with flt := { (openAt (ev 0 7 5).src 2 (wi (ev 0 7 5) b0)).flt with logq := List.replicate 8 ⟨1, 2, 1, false, 5, 6⟩ } }, { time := 1, src := 2, cls := 1, promo := false, total := 5, detail := 0x00000006#32 }, by decide +kernel⟩,
    ⟨(List.range 256).foldl (fun s n => s.srcMap n (fun x => { x with state := 3, count := 4, isOpen := true })) b0, 0, takes (by decide +kernel), by decide +kernel⟩,
    ⟨(wi (ev 0 7 5) b0), 0, takes (by decide +kernel), by decide +kernel⟩,
    ⟨openAt (ev 0 7 5).src 2 ((wi (ev 0 7 5) b0).set R.FAULT_STATUS_GRAVE 1), takes (by decide +kernel), by decide +kernel⟩,
    ⟨(wi (ev 0 7 5) b0), takes (by decide +kernel), by decide +kernel⟩⟩

end FaultUnit

/-! ## Witnesses: the cascade link -/

namespace Cascade

def hz (s : State) : State := s
def x0 : State := { hz up with gen := { up.gen with xlink := true, refl := false }, cyc := 50000,lnk := { up.lnk with tx := [{ typ := 1, sseq := 9 }] } }
def on (i c : Nat) (f : LinkS → LinkS := id) : State := (((x0.set R.XLINK_CTRL_ENABLE 1).set R.XLINK_CFG_COUNT c).set R.XLINK_CFG_INDEX i).lnkMap f
def lk (ty d q tr : Nat) (b : Bool := false) : LKeep := { r := { typ := ty, dst := d, sseq := q, bcast := b }, sent := 3, tries := tr }
def rq : RReq := { id := 4, who := [], taddr := 5, tlc := false, tile := true, mask := 1, tileno := 3, hint := 4, refset := 0, place := 0, groups := [], dead := [] }
def rc : ReconS := { stripe := 6, width := 12, parity := 2, addrs := List.replicate 12 remoteSlot, slot := 0, mask := 1, set := 3, left := [], todo := [], lost := [], rows := [], peers := [2, 1, 0, 3] }

theorem witness_LinkPortAndCascadeRecords_1 :
    (∃ (s : State) (w : Word), s.portTakes R.XLINK_CTRL_ENABLE.addr ∧ bit w.toNat 0 = true ∧ s.flag R.XLINK_CTRL_ENABLE = false ∧ (s.get R.XLINK_CFG_COUNT = 0 ∨ s.get R.XLINK_CFG_COUNT < s.get R.XLINK_CFG_INDEX ∨ s.rfOn = true)) ∧
    (∃ (s : State) (w : Word), s.portTakes R.XLINK_CTRL_ENABLE.addr ∧ bit w.toNat 0 = true ∧ s.flag R.XLINK_CTRL_ENABLE = false ∧ 0 < s.get R.XLINK_CFG_COUNT ∧ s.get R.XLINK_CFG_INDEX ≤ s.get R.XLINK_CFG_COUNT ∧ s.rfOn = false ∧ (List.range 8).all (fun p => !s.flag (R.LACE_PROF0_EN p)) = true) ∧
    (∃ (s : State) (w : Word), s.portTakes R.XLINK_CTRL_ENABLE.addr ∧ bit w.toNat 0 = false ∧ s.flag R.XLINK_CTRL_ENABLE = true ∧ s.lnk.held = []) ∧
    (∃ (s : State) (w : Word), s.portTakes R.REFL_CTRL_ENABLE.addr ∧ bit w.toNat 0 = true ∧ bit w.toNat 8 = false ∧ s.flag R.REFL_CTRL_ENABLE = false ∧ s.xlOn = false) ∧
    (∃ (s : State) (w : Word), s.portTakes R.REFL_CTRL_ENABLE.addr ∧ bit w.toNat 0 = true ∧ bit w.toNat 8 = false ∧ s.flag R.REFL_CTRL_ENABLE = false ∧ s.xlOn = true) ∧
    (∃ (s : State), s.xlOn = false ∧ s.rfOn = false) :=
  ⟨⟨x0, 0x00000001#32, takes (by decide +kernel), by decide +kernel⟩,
    ⟨x0.set R.XLINK_CFG_COUNT 3, 0x00000001#32, takes (by decide +kernel), by decide +kernel⟩,
    ⟨on 0 3 (fun l => { l with wait := [{ typ := 0x10 }] }), 0x00000000#32, takes (by decide +kernel), by decide +kernel⟩,
    ⟨{ x0 with gen := { x0.gen with refl := true } }, 0x00000001#32, takes (by decide +kernel), by decide +kernel⟩,
    ⟨{ on 0 3 with gen := { x0.gen with refl := true } }, 0x00000001#32, takes (by decide +kernel), by decide +kernel⟩,
    ⟨x0, by decide +kernel⟩⟩

theorem witness_LinkPortAndCascadeRecords_2 :
    (∃ (s : State) (h : LHdr), s.xlOn = true ∧ h.bcast = false ∧ h.dst.val ≠ s.linkMe) ∧
    (∃ (s : State), s.xlOn = false ∧ s.rfOn = false) ∧
    (∃ (s : State), s.xlOn = false ∧ s.rfOn = false) ∧
    (∃ (s : State), s.xlOn = true) ∧
    (∃ (s : State), s.xlOn = false ∧ s.rfOn = true) ∧
    (∃ (s : State), s.xlOn = true ∧ s.linkMe = 0 ∧ s.lnk.wait = [] ∧ s.linkHeld 0 < 32) :=
  ⟨⟨on 0 3 (fun l => { l with wait := [{ typ := 0x10 }] }), ⟨((0:Fin 4)), 3, false, 5⟩, by decide +kernel⟩,
    ⟨x0, by decide +kernel⟩,
    ⟨x0, by decide +kernel⟩,
    ⟨on 0 3 (fun l => { l with wait := [{ typ := 0x10 }] }), by decide +kernel⟩,
    ⟨({ x0 with gen := { x0.gen with refl := true } }.set R.REFL_CTRL_ENABLE 1).set R.XLINK_CFG_COUNT 2, by decide +kernel⟩,
    ⟨{ on 0 3 with gen := { x0.gen with refl := true } }, by decide +kernel⟩⟩

theorem witness_LinkPortAndCascadeRecords_3 :
    (∃ (s : State), s.linkJam 0x10 = true) ∧
    (∃ (s : State), s.xlOn = true) ∧
    (∃ (s : State), s.flag R.XLINK_STATUS_SYNCED = false) ∧
    (∃ (s : State), s.flag R.XLINK_STATUS_SYNCED = true) ∧
    (∃ (s : State) (l : Fin 2), (s.lnk.keep.filter (fun k => recLane k.r.typ = l.val)) = []) ∧
    (∃ (s : State) (l : Fin 2), s.lnk.keep.filter (fun k => recLane k.r.typ = l.val) = []) :=
  ⟨⟨on 0 3 (fun l => { l with wait := [{ typ := 0x10 }] }), by decide +kernel⟩,
    ⟨on 0 3 (fun l => { l with wait := [{ typ := 0x10 }] }), by decide +kernel⟩,
    ⟨on 0 3 (fun l => { l with wait := [{ typ := 0x10 }] }), by decide +kernel⟩,
    ⟨(((((on 3 3).set R.XLINK_CFG_ANGLE_FOLLOW 1).set R.XLINK_HOP_LAT_CYC 9).set R.ANGLE_TRACK_SLEW 64).angMap (fun a => { a with st := .virtual, theta := 70 * 2 ^ 32 })).set R.XLINK_STATUS_SYNCED 1, by decide +kernel⟩,
    ⟨on 0 3 (fun l => { l with wait := [{ typ := 0x10 }] }), 0, by decide +kernel⟩,
    ⟨on 0 3, 0, by decide +kernel⟩⟩

theorem witness_LinkPortAndCascadeRecords_4 :
    (∃ (s : State) (l : Fin 2) (k : LKeep), (s.lnk.keep.filter (fun k => recLane k.r.typ = l.val)).head? = some k ∧ s.xlOn = true ∧ k.tries < max 1 (s.get R.XLINK_RTO_TRIES)) ∧
    (∃ (s : State) (l : Fin 2) (k : LKeep), (s.lnk.keep.filter (fun k => recLane k.r.typ = l.val)).head? = some k ∧ s.xlOn = true ∧ max 1 (s.get R.XLINK_RTO_TRIES) ≤ k.tries ∧ k.r.bcast = false ∧ k.r.dst < 4 ∧ bit (s.get R.XLINK_STATUS_LOST) k.r.dst = false) ∧
    (∃ (s : State) (m : Fin 4), s.xlOn = true ∧ bit (s.get R.XLINK_STATUS_LOST) m = true) ∧
    (∃ (s : State) (m : Fin 4), s.xlOn = true ∧ m.val < s.xlM ∧ m.val ≠ s.linkMe ∧ bit (s.get R.XLINK_STATUS_LOST) m = false) ∧
    (∃ (s : State) (h : LHdr), s.xlOn = true ∧ h.bcast = true ∧ h.src.val = s.linkMe) ∧
    (∃ (s : State) (h : LHdr), s.xlOn = true ∧ h.bcast = true ∧ h.src.val ≠ s.linkMe ∧ h.sseq.toNat = tget (fun _ => 0) s.lnk.exp (h.src.val * 2)) :=
  ⟨⟨on 1 2 (fun l => { l with keep := [lk 0x10 2 5 0] }), ⟨recLane 0x10, by decide⟩, lk 0x10 2 5 0, by decide +kernel⟩,
    ⟨on 0 3 (fun l => { l with keep := [lk 0x10 2 5 200] }), ⟨recLane 0x10, by decide⟩, lk 0x10 2 5 200, by decide +kernel⟩,
    ⟨(on 1 2 (fun l => { l with own := true, seen := [0], keep := [lk 0x10 2 5 0, lk 0x13 2 7 9, lk 0x14 0 8 0 true, lk 0x11 2 9 1] })).set R.XLINK_STATUS_LOST 4, 2, by decide +kernel⟩,
    ⟨on 0 3 (fun l => { l with wait := [{ typ := 0x10 }] }), 2, by decide +kernel⟩,
    ⟨on 0 3 (fun l => { l with wait := [{ typ := 0x10 }] }), ⟨((0:Fin 4)), 1, true, 0⟩, by decide +kernel⟩,
    ⟨on 0 3 (fun l => { l with wait := [{ typ := 0x10 }] }), ⟨2, 1, true, 0⟩, by decide +kernel⟩⟩

theorem witness_LinkPortAndCascadeRecords_5 :
    (∃ (s : State) (h : LHdr), s.xlOn = true ∧ h.bcast = true ∧ h.src.val ≠ s.linkMe ∧ h.sseq.toNat = tget (fun _ => 0) s.lnk.exp (h.src.val * 2) ∧ s.flag R.XLINK_CFG_ANGLE_FOLLOW = true ∧ s.linkMe ≠ 0 ∧ s.get R.XLINK_STATUS_LOST = 0) ∧
    (∃ (s : State) (h : LHdr), s.xlOn = true ∧ h.bcast = true ∧ h.src.val ≠ s.linkMe ∧ h.sseq.toNat = tget (fun _ => 0) s.lnk.exp (h.src.val * 2)) ∧
    (∃ (s : State) (h : LHdr) (k : Fin 64), s.xlOn = true ∧ h.bcast = true ∧ h.src.val ≠ s.linkMe ∧ h.sseq.toNat = tget (fun _ => 0) s.lnk.exp (h.src.val * 2) ∧ s.hoopPlain k = false ∧ bit (s.hget k 0 4) 2 = true ∧ (s.hoop k).trig = []) ∧
    (∃ (s : State) (h : LHdr) (a : BitVec 32), s.xlOn = true ∧ h.src.val ≠ s.linkMe ∧ h.sseq.toNat = tget (fun _ => 0) s.lnk.exp (h.src.val * 2 + 1) ∧ (h.bcast = true ∨ h.dst.val = s.linkMe) ∧ s.lace.stripes.all (fun x => x.num ≠ a.toNat) = true) ∧
    (∃ (s : State) (h : LHdr), s.xlOn = true ∧ h.src.val ≠ s.linkMe ∧ h.sseq.toNat = tget (fun _ => 0) s.lnk.exp (h.src.val * 2 + 1) ∧ (h.bcast = true ∨ h.dst.val = s.linkMe)) ∧
    (∃ (s : State) (h : LHdr), s.xlOn = true ∧ h.src.val ≠ s.linkMe ∧ h.sseq.toNat = tget (fun _ => 0) s.lnk.exp (h.src.val * 2 + 1) ∧ (h.bcast = true ∨ h.dst.val = s.linkMe)) :=
  ⟨⟨((on 3 3).set R.XLINK_CFG_ANGLE_FOLLOW 1).set R.XLINK_HOP_LAT_CYC 9, ⟨((0:Fin 4)), 1, true, 0⟩, by decide +kernel⟩,
    ⟨on 0 3 (fun l => { l with wait := [{ typ := 0x10 }] }), ⟨2, 1, true, 0⟩, by decide +kernel⟩,
    ⟨(putWord (on 1 3) 5 (winWord (hctx 2)) 0).hput 2 0 4 4, ⟨((0:Fin 4)), 1, true, 0⟩, 2, by decide +kernel⟩,
    ⟨on 0 3 (fun l => { l with wait := [{ typ := 0x10 }] }), ⟨2, 1, true, 0⟩, 0x00000000#32, by decide +kernel⟩,
    ⟨on 0 3 (fun l => { l with wait := [{ typ := 0x10 }] }), ⟨2, 1, true, 0⟩, by decide +kernel⟩,
    ⟨on 0 3 (fun l => { l with wait := [{ typ := 0x10 }] }), ⟨2, 1, true, 0⟩, by decide +kernel⟩⟩

theorem witness_LinkPortAndCascadeRecords_6 :
    (∃ (s : State) (h : LHdr), s.xlOn = true ∧ h.src.val ≠ s.linkMe ∧ h.sseq.toNat = tget (fun _ => 0) s.lnk.exp (h.src.val * 2 + 1) ∧ (h.bcast = true ∨ h.dst.val = s.linkMe) ∧ s.reconFor h.src = none) ∧
    (∃ (s : State) (h : LHdr) (q : RReq × ReconS) (c : Fin 16) (d : List Byte), s.xlOn = true ∧ h.src.val ≠ s.linkMe ∧ h.sseq.toNat = tget (fun _ => 0) s.lnk.exp (h.src.val * 2 + 1) ∧ (h.bcast = true ∨ h.dst.val = s.linkMe) ∧ s.reconFor h.src = some q ∧ c.val < 15 ∧ d.length = 4096) ∧
    (∃ (s : State) (h : LHdr) (q : RReq × ReconS), s.xlOn = true ∧ h.src.val ≠ s.linkMe ∧ h.sseq.toNat = tget (fun _ => 0) s.lnk.exp (h.src.val * 2 + 1) ∧ (h.bcast = true ∨ h.dst.val = s.linkMe) ∧ s.reconFor h.src = some q) ∧
    (∃ (s : State) (h : LHdr), s.xlOn = true ∧ h.bcast = false ∧ h.dst.val = s.linkMe ∧ h.sseq.toNat = tget (fun _ => 0) s.lnk.exp (h.src.val * 2) ∧ s.lnk.wait = []) :=
  ⟨⟨on 0 3 (fun l => { l with wait := [{ typ := 0x10 }] }), ⟨2, 1, true, 0⟩, by decide +kernel⟩,
    ⟨(on 3 3 (fun l => { l with exp := (List.range 8).map (fun k => (k, 5)) })).rcvMap (fun r => { r with reqs := [{ rq with recon := some rc }] }), ⟨((0:Fin 4)), 3, false, 5⟩, ({ id := 4, who := [], taddr := 5, tlc := false, tile := true, mask := 1, tileno := 3, hint := 4, refset := 0, place := 0, groups := [], dead := [], deep := 0, recon := some { stripe := 6, width := 12, parity := 2, addrs := [4294967294, 4294967294, 4294967294, 4294967294, 4294967294, 4294967294, 4294967294, 4294967294, 4294967294, 4294967294, 4294967294, 4294967294], slot := 0, mask := 1, set := 3, left := [], todo := [], lost := [], rows := [], peers := [2, 1, 0, 3], prof := 0 }, searched := false, probes := [], answers := [], found := [], nums := [], rd := none }, { stripe := 6, width := 12, parity := 2, addrs := [4294967294, 4294967294, 4294967294, 4294967294, 4294967294, 4294967294, 4294967294, 4294967294, 4294967294, 4294967294, 4294967294, 4294967294], slot := 0, mask := 1, set := 3, left := [], todo := [], lost := [], rows := [], peers := [2, 1, 0, 3], prof := 0 }), 0, List.replicate 4096 7, by decide +kernel⟩,
    ⟨(on 3 3 (fun l => { l with exp := (List.range 8).map (fun k => (k, 5)) })).rcvMap (fun r => { r with reqs := [{ rq with recon := some rc }] }), ⟨((0:Fin 4)), 3, false, 5⟩, ({ id := 4, who := [], taddr := 5, tlc := false, tile := true, mask := 1, tileno := 3, hint := 4, refset := 0, place := 0, groups := [], dead := [], deep := 0, recon := some { stripe := 6, width := 12, parity := 2, addrs := [4294967294, 4294967294, 4294967294, 4294967294, 4294967294, 4294967294, 4294967294, 4294967294, 4294967294, 4294967294, 4294967294, 4294967294], slot := 0, mask := 1, set := 3, left := [], todo := [], lost := [], rows := [], peers := [2, 1, 0, 3], prof := 0 }, searched := false, probes := [], answers := [], found := [], nums := [], rd := none }, { stripe := 6, width := 12, parity := 2, addrs := [4294967294, 4294967294, 4294967294, 4294967294, 4294967294, 4294967294, 4294967294, 4294967294, 4294967294, 4294967294, 4294967294, 4294967294], slot := 0, mask := 1, set := 3, left := [], todo := [], lost := [], rows := [], peers := [2, 1, 0, 3], prof := 0 }), by decide +kernel⟩,
    ⟨{ on 0 3 with gen := { x0.gen with refl := true } }, ⟨((0:Fin 4)), 0, false, 0⟩, by decide +kernel⟩⟩

end Cascade

/-! ## Witnesses: the reflection pair -/

namespace Reflection

def hz (s : State) : State := s
def setb (s : State) : State := s.set R.REFL_CTRL_ENABLE 1
def p0 : State := { hz up with gen := { up.gen with xlink := false, refl := true }, cyc := 50000 }
def bm : List Nat := (List.range 2).flatMap (fun c => (List.range 4).map (fun i => 0x220000 + c * 0x1000 + 4 * i))
def pz : State := (List.range 16).foldl (fun s i => putWord s 5 (refWord 0 0 0 + i) 0) (bm.foldl (fun s a => putWord s 5 (winWord a) 0) p0)
def tk (s : State) (l : Option (List Nat)) : State := (s.set (R.CH_PHY_STAT_CE_PRESENT 8) 5).lnkMap (fun x => { x with tko := true, tkoLeft := l })

theorem witness_ReflectionPairMirrorsAndTakesOver_1 :
    (∃ (s : State) (h : LHdr), s.xlOn = false ∧ s.standby = true ∧ s.lnk.wait = [] ∧ h.bcast = false ∧ h.dst.val = s.linkMe ∧ h.sseq.toNat ≠ (tget (fun _ => 0) s.lnk.exp (h.src.val * 2 + 1))) ∧
    (∃ (s : State) (h : LHdr) (u : LMap), s.xlOn = false ∧ s.standby = true ∧ s.lnk.wait = [] ∧ h.bcast = false ∧ h.dst.val = s.linkMe ∧ h.sseq.toNat = (tget (fun _ => 0) s.lnk.exp (h.src.val * 2 + 1)) ∧ s.mapHas (u.tile.toNat / 16) = false ∧ u.hoop ≠ 0xFF#8) ∧
    (∃ (s : State) (h : LHdr) (d : List Byte), s.xlOn = false ∧ s.standby = true ∧ s.lnk.wait = [] ∧ h.bcast = false ∧ h.dst.val = s.linkMe ∧ h.sseq.toNat = (tget (fun _ => 0) s.lnk.exp (h.src.val * 2 + 1)) ∧ d.length = 92 ∧ s.memi.inj = none) ∧
    (∃ (s : State) (h : LHdr), s.xlOn = false ∧ s.standby = true ∧ s.lnk.wait = [] ∧ h.bcast = false ∧ h.dst.val = s.linkMe ∧ h.sseq.toNat = (tget (fun _ => 0) s.lnk.exp (h.src.val * 2 + 1))) ∧
    (∃ (s : State) (h : LHdr) (b : BitVec 352), s.xlOn = false ∧ s.standby = true ∧ s.lnk.wait = [] ∧ h.bcast = false ∧ h.dst.val = s.linkMe ∧ h.sseq.toNat = (tget (fun _ => 0) s.lnk.exp (h.src.val * 2 + 1)) ∧ (tget (fun _ => []) s.lnk.intents (taCh (bits b.toNat 0 32))).length < 32) ∧
    (∃ (s : State) (h : LHdr) (a : BitVec 32), s.xlOn = false ∧ s.standby = true ∧ s.lnk.wait = [] ∧ h.bcast = false ∧ h.dst.val = s.linkMe ∧ h.sseq.toNat = (tget (fun _ => 0) s.lnk.exp (h.src.val * 2 + 1)) ∧ s.bad 5 (winWord (badAt (taCh a.toNat) (taLun a.toNat) (taBlk a.toNat)).1) = false ∧ s.memi.inj = none) :=
  ⟨⟨(setb ((pz.set R.LACE_REC_COUNT_CNT 9).set R.LACE_REC_BASE_LO_ADDR 5)), ⟨0, 1, false, 5⟩, by decide +kernel⟩,
    ⟨(setb ((pz.set R.LACE_REC_COUNT_CNT 9).set R.LACE_REC_BASE_LO_ADDR 5)), ⟨0, 1, false, 0⟩, ⟨5, 6, 7, 8, 9⟩, by decide +kernel⟩,
    ⟨(setb ((pz.set R.LACE_REC_COUNT_CNT 9).set R.LACE_REC_BASE_LO_ADDR 5)), ⟨0, 1, false, 0⟩, (List.range 92).map (fun i => BitVec.ofNat 8 (i*3)), by decide +kernel⟩,
    ⟨(setb ((pz.set R.LACE_REC_COUNT_CNT 9).set R.LACE_REC_BASE_LO_ADDR 5)), ⟨0, 1, false, 0⟩, by decide +kernel⟩,
    ⟨(setb ((pz.set R.LACE_REC_COUNT_CNT 9).set R.LACE_REC_BASE_LO_ADDR 5)), ⟨0, 1, false, 0⟩, 0, by decide +kernel⟩,
    ⟨(setb ((pz.set R.LACE_REC_COUNT_CNT 9).set R.LACE_REC_BASE_LO_ADDR 5)), ⟨0, 1, false, 0⟩, 0x00000000#32, by decide +kernel⟩⟩

theorem witness_ReflectionPairMirrorsAndTakesOver_2 :
    (∃ (s : State) (h : LHdr) (d : List Byte), s.xlOn = false ∧ s.standby = true ∧ s.lnk.wait = [] ∧ h.bcast = false ∧ h.dst.val = s.linkMe ∧ h.sseq.toNat = (tget (fun _ => 0) s.lnk.exp (h.src.val * 2 + 1)) ∧ d.length = 1024 ∧ s.get R.LACE_REC_COUNT_CNT ≠ 0) ∧
    (∃ (s : State) (h : LHdr), s.xlOn = false ∧ s.standby = true ∧ s.lnk.wait = [] ∧ h.bcast = false ∧ h.dst.val = s.linkMe ∧ h.sseq.toNat = (tget (fun _ => 0) s.lnk.exp (h.src.val * 2 + 1)) ∧ s.memi.inj = none) ∧
    (∃ (s : State) (h : LHdr) (n : Fin 48) (d : List Byte), s.xlOn = false ∧ s.standby = true ∧ s.lnk.wait = [] ∧ h.bcast = false ∧ h.dst.val = s.linkMe ∧ h.sseq.toNat = (tget (fun _ => 0) s.lnk.exp (h.src.val * 2 + 1)) ∧ s.powered (chDom n) = true ∧ d.length = 256) ∧
    (∃ (s : State) (h : LHdr), s.xlOn = false ∧ s.rfOn = true ∧ h.bcast = false ∧ h.dst.val = s.linkMe ∧ h.sseq.toNat = tget (fun _ => 0) s.lnk.exp (h.src.val * 2)) ∧
    (∃ (s : State), s.xlOn = false ∧ s.rfOn = true) ∧
    (∃ (s : State), s.rfOn = false) :=
  ⟨⟨(setb ((pz.set R.LACE_REC_COUNT_CNT 9).set R.LACE_REC_BASE_LO_ADDR 5)), ⟨0, 1, false, 0⟩, (List.range 1024).map (fun i => BitVec.ofNat 8 (i*5)), by decide +kernel⟩,
    ⟨(setb ((pz.set R.LACE_REC_COUNT_CNT 9).set R.LACE_REC_BASE_LO_ADDR 5)), ⟨0, 1, false, 0⟩, by decide +kernel⟩,
    ⟨(setb ((pz.set R.LACE_REC_COUNT_CNT 9).set R.LACE_REC_BASE_LO_ADDR 5)), ⟨0, 1, false, 0⟩, 0, (List.range 256).map (fun i => BitVec.ofNat 8 (i*3)), by decide +kernel⟩,
    ⟨(setb ((pz.set R.LACE_REC_COUNT_CNT 9).set R.LACE_REC_BASE_LO_ADDR 5)), ⟨0, 1, false, 0⟩, by decide +kernel⟩,
    ⟨(setb ((pz.set R.LACE_REC_COUNT_CNT 9).set R.LACE_REC_BASE_LO_ADDR 5)), by decide +kernel⟩,
    ⟨pz, by decide +kernel⟩⟩

theorem witness_ReflectionPairMirrorsAndTakesOver_3 :
    (∃ (s : State), s.rfOn = false) ∧
    (∃ s : State, s.rfOn = false) ∧
    (∃ (s : State), s.lnk.tko = false) ∧
    (∃ (s : State), s.rfOn = true ∧ s.flag R.REFL_STATUS_SOLO = true ∧ s.lnk.held = [] ∧ s.lace.stripes = []) ∧
    (∃ (s : State), s.rfOn = true ∧ s.flag R.REFL_STATUS_SOLO = false) ∧
    (∃ (s : State), s.rfOn = true ∧ s.lnk.tko = true ∧ s.lnk.tkoLeft = none ∧ (List.range s.gen.nch).all (fun n => !(s.ch n).own.owned) = true ∧ 0 < s.gen.nch) :=
  ⟨⟨pz, by decide +kernel⟩,
    ⟨pz, by decide +kernel⟩,
    ⟨pz, by decide +kernel⟩,
    ⟨(setb ((pz.set R.LACE_REC_COUNT_CNT 9).set R.LACE_REC_BASE_LO_ADDR 5)).set R.REFL_STATUS_SOLO 1, by decide +kernel⟩,
    ⟨(setb ((pz.set R.LACE_REC_COUNT_CNT 9).set R.LACE_REC_BASE_LO_ADDR 5)), by decide +kernel⟩,
    ⟨tk (setb ((pz.set R.LACE_REC_COUNT_CNT 9).set R.LACE_REC_BASE_LO_ADDR 5)) none, by decide +kernel⟩⟩

theorem witness_ReflectionPairMirrorsAndTakesOver_4 :
    (∃ (s : State) (n : Fin 48), s.rfOn = true ∧ s.lnk.tko = true ∧ s.lnk.tkoLeft = some [n.val] ∧ (s.ch n).own.want = true ∧ (s.ch n).own.owned = true ∧ n.val < s.gen.nch ∧ s.presentCes n ≠ []) ∧
    (∃ (s : State), s.rfOn = true ∧ s.lnk.tko = true ∧ s.lnk.tkoLeft = some [] ∧ (List.range s.gen.nch).any (fun n => (s.ch n).phy.cmd.any (fun c => c.tko)) = false) ∧
    (∃ (s : State) (n : Fin 48), s.rfOn = true ∧ ((s.ch n).own.want = false ∨ (s.ch n).own.owned = true)) ∧
    (∃ (s : State) (n : Fin 48), s.rfOn = true ∧ (s.ch n).own.want = true ∧ (s.ch n).own.owned = false) :=
  ⟨⟨tk ((setb ((pz.set R.LACE_REC_COUNT_CNT 9).set R.LACE_REC_BASE_LO_ADDR 5)).ownMap 8 (fun o => { o with want := true, owned := true })) (some [8]), 8, by decide +kernel⟩,
    ⟨tk (setb pz) (some []), by decide +kernel⟩,
    ⟨(setb ((pz.set R.LACE_REC_COUNT_CNT 9).set R.LACE_REC_BASE_LO_ADDR 5)), 0, by decide +kernel⟩,
    ⟨(tk (setb ((pz.set R.LACE_REC_COUNT_CNT 9).set R.LACE_REC_BASE_LO_ADDR 5)) (some [3, 5])).ownMap 3 (fun o => { o with want := true, req := true }), 3, by decide +kernel⟩⟩

end Reflection

/-! ## Witnesses: resets, the fuse stream and register writes -/

namespace ResetFuse

def busy (s : State) : State := ((s.chMap 0 (fun c => { c with wp := true, wpHeld := true, eng := { c.eng with sel := some 2, burst := .inRunning } })).chMap 9 (fun c => { c with wp := true, own := { want := true, req := true } })).set R.FAULT_STATUS_GRAVE 0
def dmap (s : State) (d : Nat) (f : DomS → DomS) : State := { s with pwr := { s.pwr with doms := tput (fun _ => {}) s.pwr.doms d (f (s.dom d)) } }

theorem witness_ColdResetAndReleaseReset_1 :
    (∃ (s : State), s.cp.rst = .cold) ∧
    (∃ (s : State), s.cp.rst = .warm) :=
  ⟨⟨{ State.reset with cp := { State.reset.cp with rst := .cold } }, by decide +kernel⟩,
    ⟨{ up with cp := { up.cp with rst := .warm }, cyc := 99 }, by decide +kernel⟩⟩

theorem witness_WarmResetKeepsMemoryAndIsolatesDomains_1 :
    (∃ (s : State), s.cp.rst ≠ .cold) ∧
    (∃ (s : State) (ch : Fin 48), (s.ch ch).wpHeld = true) :=
  ⟨⟨State.reset, by decide +kernel⟩,
    ⟨busy up, 0, by decide +kernel⟩⟩

theorem witness_FuseStreamEndsWithTheLastRecord_1 :
    (∃ (s : State), s.cp.fuseOpen = true ∧ s.cp.rst = .none ∧ s.grave = false ∧ s.cp.fuseCnt < 1024) ∧
    (∃ (s : State), s.cp.fuseOpen = true ∧ s.cp.rst = .none ∧ s.grave = false ∧ s.cp.fuseCnt < 1024) ∧
    (∃ (s : State) (r : Word), s.cp.fuseOpen = true ∧ s.cp.rst = .none ∧ s.grave = false ∧ s.cp.fuseCnt < 1024 ∧ s.memi.fuse = [] ∧ r.getLsbD 31 = true) ∧
    (∃ (s : State), s.cp.fuseOpen = true ∧ s.cp.rst = .none) ∧
    (∃ (s : State), s.cp.rst = .none ∧ s.cp.fuseOpen = false ∧ s.cp.ready = false ∧ s.cp.held = none) ∧
    (∃ (s : State) (be : BitVec 4) (d : Word), s.cp.rst = .none ∧ s.cp.fuseOpen = false ∧ s.cp.ready = false ∧ s.cp.hold = none ∧ be ≠ 0 ∧ s.cp.held = some ⟨true, 0x64#24, be, d⟩) :=
  ⟨⟨State.reset, by decide +kernel⟩,
    ⟨State.reset, by decide +kernel⟩,
    ⟨State.reset, 0xffffffff#32, by decide +kernel⟩,
    ⟨State.reset, by decide +kernel⟩,
    ⟨{ up with cp := { up.cp with ready := false } }, by decide +kernel⟩,
    ⟨{ up with cp := { up.cp with ready := false, held := some ⟨true, 0x64#24, 3, 0x12345678⟩ } }, 0x3#4, 0x12345678#32, by decide +kernel⟩⟩

theorem witness_FuseStreamEndsWithTheLastRecord_2 :
    ∃ (s : State) (be : BitVec 4) (d : Word), s.cp.rst = .none ∧ s.cp.fuseOpen = false ∧ s.cp.ready = false ∧ s.cp.hold = none ∧ be ≠ 0 ∧ s.cp.held = some ⟨false, 0x64#24, be, d⟩ :=
  ⟨{ up with cp := { up.cp with ready := false, held := some ⟨false, 0x64#24, 3, 0x12345678⟩ } }, 0x3#4, 0x12345678#32, by decide +kernel⟩

theorem witness_RegisterWriteReachesItsWord_1 :
    (∃ (s : State), s.cpReady = false) ∧
    (∃ (s : State) (a : BitVec 24), s.cpReady = true ∧ s.addrDom (a.toNat / 4 * 4) = none) ∧
    (∃ (s : State) (a : BitVec 24) (k : Nat), s.cpReady = true ∧ s.addrDom (a.toNat / 4 * 4) = some k ∧ s.powered k = false) ∧
    (∃ (s : State) (be : BitVec 4), s.portTakes 0x64 ∧ be ≠ 0) ∧
    (∃ (s : State) (k : Fin 103), s.portTakes (k.val * 0x1000 + 0x14)) :=
  ⟨⟨State.reset, by decide +kernel⟩,
    ⟨up, 0x001014#24, by decide +kernel⟩,
    ⟨dmap up 0 (fun x => { x with st := .off, req := false, ack := false }), 0x200010#24, 0, by decide +kernel⟩,
    ⟨up, 0xf#4, takes (by decide +kernel), by decide +kernel⟩,
    ⟨up, 0, takes (by decide +kernel)⟩⟩

theorem witness_OffAccessReportsTheAddress_1 :
    (∃ (s : State) (a : BitVec 24) (k : Nat), s.cpReady = true ∧ s.addrDom a.toNat = some k ∧ s.powered k = false) ∧
    (∃ (s : State), s.cpReady = false) ∧
    (∃ (s : State) (h : HeldWrite), s.cp.hold = some h ∧ s.cp.held = none) :=
  ⟨⟨dmap up 0 (fun x => { x with st := .off, req := false, ack := false }), 0x200010#24, 0, by decide +kernel⟩,
    ⟨State.reset, by decide +kernel⟩,
    ⟨{ up with cp := { up.cp with ready := false, hold := some ⟨2, 0x3005, 15, 77⟩ } }, { grp := 2, word := 12293, be := 0xf#4, data := 0x0000004d#32 }, by decide +kernel⟩⟩

end ResetFuse

/-! ## Witnesses: memory ports, ownership and events -/

namespace Ports

def busy (s : State) : State := ((s.chMap 0 (fun c => { c with wp := true, wpHeld := true, eng := { c.eng with sel := some 2, burst := .inRunning } })).chMap 9 (fun c => { c with wp := true, own := { want := true, req := true } })).set R.FAULT_STATUS_GRAVE 0
def rd (p c l b : Nat) (u : MpUse) : MpRead := { port := p, cls := c, addr := 0x1000, lines := l, beat := b, use := u, seq := 0 }
def rf (s : State) : State := { s with gen := { s.gen with refl := true } }
def ow (f : OwnS → OwnS) : State := (List.range 48).foldl (fun s n => s.chMap n (fun c => { c with own := f c.own })) (rf up)

theorem witness_MemoryReadBeatsCompleteInOrder_1 :
    (∃ (s : State) (port : Fin 2) (cls : Fin 4) (r : MpRead), s.mp.reads.find? (fun x => x.port = port.val ∧ x.cls = cls.val) = some r ∧ r.beat + 1 ≠ r.lines) ∧
    (∃ (s : State) (port : Fin 2) (cls : Fin 4) (r : MpRead), s.mp.reads.find? (fun x => x.port = port.val ∧ x.cls = cls.val) = some r ∧ r.beat + 1 ≠ r.lines ∧ r.use ≠ .none) ∧
    (∃ (s : State) (port : Fin 2) (cls : Fin 4) (r : MpRead), s.mp.reads.find? (fun x => x.port = port.val ∧ x.cls = cls.val) = some r ∧ r.beat + 1 = r.lines ∧ s.mp.queue = [] ∧ ((∃ k, r.use = .mapLine k) ∨ (∃ n b, r.use = .spool n b))) :=
  ⟨⟨{ up with mp := { up.mp with reads := [rd 0 0 4 1 (.mapLine 5), rd 0 0 1 0 (.mapLine 6)] } }, 0, 0, { port := 0, cls := 0, seq := 0, addr := 4096, lines := 4, use := Sys2Proof.Machine.MpUse.mapLine 5, beat := 1, data := [], bad := [] }, by decide +kernel⟩,
    ⟨{ up with mp := { up.mp with reads := [rd 0 0 4 1 (.mapLine 5), rd 0 0 1 0 (.mapLine 6)] } }, 0, 0, { port := 0, cls := 0, seq := 0, addr := 4096, lines := 4, use := Sys2Proof.Machine.MpUse.mapLine 5, beat := 1, data := [], bad := [] }, by decide +kernel⟩,
    ⟨{ up with mp := { up.mp with reads := [rd 0 0 2 1 (.mapLine 5)] } }, 0, 0, { port := 0, cls := 0, seq := 0, addr := 4096, lines := 2, use := Sys2Proof.Machine.MpUse.mapLine 5, beat := 1, data := [], bad := [] }, by decide +kernel, by decide +kernel, by decide +kernel, Or.inl ⟨5, rfl⟩⟩⟩

theorem witness_AcceptedWriteIsVisibleInMemory_1 :
    (∃ (s : State) (port : Fin 2) (w : MpWrite) (k : Fin 64), s.mp.writes.find? (fun x => x.port = port.val) = some w ∧ w.lines ≤ w.beat + k + 1) ∧
    (∃ (s : State) (port : Fin 2) (w : MpWrite) (k : Fin 64), s.mp.writes.find? (fun x => x.port = port.val) = some w ∧ w.lines ≤ w.beat + k + 1 ∧ w.use = .rb ∧ s.mp.queue = []) ∧
    (∃ (s : State) (port : Fin 2) (w : MpWrite) (k : Fin 64), s.mp.writes.find? (fun x => x.port = port.val) = some w ∧ w.beat + k + 1 < w.lines ∧ w.use = .rb) :=
  ⟨⟨{ up with ext := [(0x2001, 7), (0x2FFF, 8), (0x3000, 9)], mp := { up.mp with writes := [⟨0, 0x2000, List.replicate 64 3, .rb, 0⟩, ⟨1 - 0, 0x2020, List.replicate 64 4, .rb, 0⟩] } }, 0, { port := 0, addr := 8192, data := [0x03#8, 0x03#8, 0x03#8, 0x03#8, 0x03#8, 0x03#8, 0x03#8, 0x03#8, 0x03#8, 0x03#8, 0x03#8, 0x03#8, 0x03#8, 0x03#8, 0x03#8, 0x03#8, 0x03#8, 0x03#8, 0x03#8, 0x03#8, 0x03#8, 0x03#8, 0x03#8, 0x03#8, 0x03#8, 0x03#8, 0x03#8, 0x03#8, 0x03#8, 0x03#8, 0x03#8, 0x03#8, 0x03#8, 0x03#8, 0x03#8, 0x03#8, 0x03#8, 0x03#8, 0x03#8, 0x03#8, 0x03#8, 0x03#8, 0x03#8, 0x03#8, 0x03#8, 0x03#8, 0x03#8, 0x03#8, 0x03#8, 0x03#8, 0x03#8, 0x03#8, 0x03#8, 0x03#8, 0x03#8, 0x03#8, 0x03#8, 0x03#8, 0x03#8, 0x03#8, 0x03#8, 0x03#8, 0x03#8, 0x03#8], use := Sys2Proof.Machine.MpUse.rb, beat := 0 }, 0, by decide +kernel⟩,
    ⟨{ up with ext := [(0x2001, 7), (0x2FFF, 8), (0x3000, 9)], mp := { up.mp with writes := [⟨0, 0x2000, List.replicate 64 3, .rb, 0⟩, ⟨1 - 0, 0x2020, List.replicate 64 4, .rb, 0⟩] } }, 0, { port := 0, addr := 8192, data := [0x03#8, 0x03#8, 0x03#8, 0x03#8, 0x03#8, 0x03#8, 0x03#8, 0x03#8, 0x03#8, 0x03#8, 0x03#8, 0x03#8, 0x03#8, 0x03#8, 0x03#8, 0x03#8, 0x03#8, 0x03#8, 0x03#8, 0x03#8, 0x03#8, 0x03#8, 0x03#8, 0x03#8, 0x03#8, 0x03#8, 0x03#8, 0x03#8, 0x03#8, 0x03#8, 0x03#8, 0x03#8, 0x03#8, 0x03#8, 0x03#8, 0x03#8, 0x03#8, 0x03#8, 0x03#8, 0x03#8, 0x03#8, 0x03#8, 0x03#8, 0x03#8, 0x03#8, 0x03#8, 0x03#8, 0x03#8, 0x03#8, 0x03#8, 0x03#8, 0x03#8, 0x03#8, 0x03#8, 0x03#8, 0x03#8, 0x03#8, 0x03#8, 0x03#8, 0x03#8, 0x03#8, 0x03#8, 0x03#8, 0x03#8], use := Sys2Proof.Machine.MpUse.rb, beat := 0 }, 0, by decide +kernel⟩,
    ⟨{ up with ext := [(0x2001, 7), (0x2FFF, 8), (0x3000, 9)], mp := { up.mp with writes := [⟨0, 0x2000, List.replicate 64 3, .rb, 0⟩, ⟨1 - 0, 0x2020, List.replicate 64 4, .rb, 0⟩] } }, 1, { port := 1, addr := 8224, data := [0x04#8, 0x04#8, 0x04#8, 0x04#8, 0x04#8, 0x04#8, 0x04#8, 0x04#8, 0x04#8, 0x04#8, 0x04#8, 0x04#8, 0x04#8, 0x04#8, 0x04#8, 0x04#8, 0x04#8, 0x04#8, 0x04#8, 0x04#8, 0x04#8, 0x04#8, 0x04#8, 0x04#8, 0x04#8, 0x04#8, 0x04#8, 0x04#8, 0x04#8, 0x04#8, 0x04#8, 0x04#8, 0x04#8, 0x04#8, 0x04#8, 0x04#8, 0x04#8, 0x04#8, 0x04#8, 0x04#8, 0x04#8, 0x04#8, 0x04#8, 0x04#8, 0x04#8, 0x04#8, 0x04#8, 0x04#8, 0x04#8, 0x04#8, 0x04#8, 0x04#8, 0x04#8, 0x04#8, 0x04#8, 0x04#8, 0x04#8, 0x04#8, 0x04#8, 0x04#8, 0x04#8, 0x04#8, 0x04#8, 0x04#8], use := Sys2Proof.Machine.MpUse.rb, beat := 0 }, 0, by decide +kernel⟩⟩

theorem witness_ChannelOwnershipHandshake_1 :
    (∃ (s : State) (n : Fin 48), s.claims n = true ∧ (s.ch n).own.req = false ∧ (s.ch n).own.conflict = false) ∧
    (∃ (s : State) (n : Fin 48), (s.ch n).own.req = true ∧ (s.ch n).own.owned = false) ∧
    (∃ (s : State) (n : Fin 48), (s.ch n).own.req = true ∧ (s.ch n).own.owned = false ∧ s.flag R.REFL_CFG_PRIMARY = false) ∧
    (∃ (s : State) (n : Fin 48), (s.ch n).own.req = true ∧ (s.ch n).own.owned = false ∧ s.flag R.REFL_CFG_PRIMARY = true ∧ s.gen.refl = true) ∧
    (∃ (s : State) (n : Fin 48), s.gen.refl = true ∧ (s.ch n).own.owned = true ∧ (s.ch n).eng.sel = none ∧ s.chanEmpty n = true ∧ s.claimBit n = false ∧ (s.ch n).own.want = false) ∧
    (∃ (s : State) (n : Fin 48), (s.ch n).own.owned = true ∧ (s.ch n).eng.sel ≠ none) :=
  ⟨⟨ow (fun o => { o with want := true }), 0, by decide +kernel⟩,
    ⟨busy up, 9, by decide +kernel⟩,
    ⟨busy up, 9, by decide +kernel⟩,
    ⟨(ow (fun o => { o with req := true, want := true })).set R.REFL_CFG_PRIMARY 1, 0, by decide +kernel⟩,
    ⟨ow (fun o => { o with owned := true, req := true }), 0, by decide +kernel⟩,
    ⟨(ow (fun o => { o with owned := true, req := true })).chMap 2 (fun c => { c with eng := { c.eng with sel := some 2 } }), 2, by decide +kernel⟩⟩

theorem witness_ChannelOwnershipHandshake_2 :
    (∃ (s : State), s.portTakes R.REFL_CTRL_OWN_CLR.addr ∧ s.flag R.REFL_CTRL_ENABLE = false) ∧
    (∃ (s : State) (reg : Fin 2), s.portTakes (R.REFL_CLAIM_LO_CH.addr + 4 * reg)) :=
  ⟨⟨up, takes (by decide +kernel), by decide +kernel⟩,
    ⟨up, 0, takes (by decide +kernel)⟩⟩

theorem witness_EventsAreForcedAndPulsesEnd_1 :
    ∃ (s : State) (k : BitVec 12) (p : Page) (n : Nat), pageOfIndex k.toNat = some (p, n) ∧ s.portTakes (k.toNat * 0x1000 + 0x1C) :=
  ⟨up, 0x000#12, Sys2Proof.Machine.Page.sys, 0, by decide +kernel, takes (by decide +kernel)⟩

end Ports

/-! ## Witnesses: INIT, training and read bursts -/

namespace PhyTrain

def run (s : State) (st : Nat) : State := (List.range 48).foldl (fun s n => (s.set (R.CH_PHY_STAT_STATE n) st).set (R.CH_PHY_STAT_CE_PRESENT n) 0x1F) s
def cm (s : State) (k : PhyKind) : State := (fun (s : State) => s.set R.CAL_FIXED_ENTRY 0x200) <| (List.range 48).foldl (fun s n => (s.chMap n (fun c => { c with phy := { c.phy with cmd := some { kind := k, left := [1, 3], all := [1, 3] } } })).set (R.CH_LANE_MAP_ACTIVE n) 3) s
def eg (s : State) : State := (List.range 48).foldl (fun s n => s.chMap n (fun c => { c with eng := { c.eng with burst := .inRunning } })) s
def polls (s : State) : State := (List.range 48).foldl (fun s n => (s.chMap n (fun c => { c with ctx := { c.ctx with run := .run, m := [0, 0, 0, 1, 0, 0, 0, 0], desc := some { opcode := 4, taddr := taddrOf n 2 5 6 } } })).lunMap n 2 (fun x => { x with op := .erase, suspended := true })) s
def pg : DiePage := { rows := 3, pageBits := 8, planeBits := 1, blockBits := 9, planes := 2, dataBytes := 16384, spareBytes := 1952, blocks := 100, slcPages := 100, tlcPages := 300, ddr3 := 800, lpddr4 := 3200 }
def crcd (l : List Byte) : List Byte := let z := l.take 254; let c := crc16 z; z ++ [BitVec.ofNat 8 (c % 256), BitVec.ofNat 8 (c / 256)]
def pc : PageCopy := ⟨crcd ((List.range 254).map (BitVec.ofNat 8)), pg⟩
def aGood : DieAns := ⟨true, [⟨List.replicate 256 0x55, pg⟩, pc]⟩
def swp (a b : Nat) : List (BitVec 256) := (List.range 128).map (fun i => if a ≤ i ∧ i ≤ b then 0 else 5)

theorem witness_InitFindsDiesAndStartsTraining_1 :
    (∃ (s : State) (n : Fin 48) (m : BitVec 8) (dies : List DieAns), s.portTakes (R.CH_PHY_CMD_CMD n).addr ∧ s.ownsCh n = true ∧ s.flag (R.CH_PHY_STAT_BUSY n) = false ∧ (s.ch n).slots = [] ∧ s.initAsked n m = false ∧ (∀ d ∈ dies, d.sig = false)) ∧
    (∃ (s : State) (n : Fin 48) (c : Fin 8) (dies : List DieAns) (a : DieAns) (p : PageCopy), s.portTakes (R.CH_PHY_CMD_CMD n).addr ∧ s.ownsCh n = true ∧ s.flag (R.CH_PHY_STAT_BUSY n) = false ∧ s.initAsked n (1#8 <<< c.val) = false ∧ dies[c.val]? = some a ∧ a.sig = true ∧ pageTaken a = some p ∧ ((s.get (R.CH_PHY_CTRL_MODE n) = 1 ∧ p.decl.ddr3 ≠ 0) ∨ (s.get (R.CH_PHY_CTRL_MODE n) = 2 ∧ p.decl.lpddr4 ≠ 0)) ∧ 6 ≤ s.get (R.CH_PHY_CTRL_N n) ∧ s.get (R.CH_PHY_CTRL_N n) ≤ 12 ∧ s.get (R.CH_PHY_CTRL_P n) ≤ 4) :=
  ⟨⟨{ up with gen := { up.gen with refl := false } }, 0, 0x00#8, List.replicate 8 ⟨false, []⟩, takes (by decide +kernel), by decide +kernel⟩,
    ⟨{ up with gen := { up.gen with refl := false } }, 0, 0, List.replicate 8 aGood, aGood, pc, takes (by decide +kernel), by decide +kernel⟩⟩

theorem witness_TrainingCommitsAsAWhole_1 :
    (∃ (s : State) (n : Fin 48) (c : PhyRun) (res : TrainRes) (g : Nat) (rest : List Nat), (s.ch n).phy.cmd = some c ∧ c.left = g :: rest ∧ s.trainMay n c g = true ∧ g < 8 ∧ res.cmdFail = false) ∧
    (∃ (s : State) (n : Fin 48) (c : PhyRun) (res : TrainRes) (g : Nat) (rest : List Nat), (s.ch n).phy.cmd = some c ∧ c.kind = .full ∧ c.left = g :: rest ∧ s.trainMay n c g = true ∧ res.cmdFail = true) :=
  ⟨⟨{ (cm (run up 2) .retrain) with gen := { (cm (run up 2) .retrain).gen with refl := false } }, 0, { kind := Sys2Proof.Machine.PhyKind.retrain, left := [1, 3], all := [1, 3], res := 0, steered := false, relock := false, rated := false, from3 := false, asked := false, tko := false }, { rd := List.replicate 9 (swp 30 50), wr := List.replicate 9 (swp 0 127), ref := List.replicate 9 (List.replicate 16 0), cmdFail := false }, 1, [3], by decide +kernel⟩,
    ⟨{ (cm (run up 2) .full) with gen := { (cm (run up 2) .full).gen with refl := false } }, 0, { kind := Sys2Proof.Machine.PhyKind.full, left := [1, 3], all := [1, 3], res := 0, steered := false, relock := false, rated := false, from3 := false, asked := false, tko := false }, { rd := List.replicate 9 (swp 30 50), wr := List.replicate 9 (swp 0 127), ref := List.replicate 9 (List.replicate 16 0), cmdFail := true }, 1, [3], by decide +kernel⟩⟩

theorem witness_ReadBurstsLockOrMiss_1 :
    (∃ (s : State) (n : Fin 48), (s.ch n).eng.burst = .inRunning) ∧
    (∃ (s : State) (n : Fin 48), (s.ch n).eng.burst = .inRunning ∧ s.flag (R.CH_PHY_CTRL_TRACK_EN n) = true) ∧
    (∃ (s : State) (n : Fin 48), (s.ch n).eng.burst = .inRunning ∧ s.flag (R.CH_PHY_CTRL_TRACK_EN n) = false) ∧
    (∃ (s : State) (n : Fin 48), (s.ch n).eng.burst ≠ .inRunning) ∧
    (∃ (s : State) (n : Fin 48), (s.ch n).eng.burst = .inRunning ∧ n.val < s.gen.nch) ∧
    (∃ (s : State) (n : Fin 48) (l : Fin 16), s.opBus n = true ∧ s.readPolls n l = false ∧ (s.lun n l).polled = true) :=
  ⟨⟨{ (eg up) with gen := { (eg up).gen with refl := false } }, 0, by decide +kernel⟩,
    ⟨{ (eg up) with gen := { (eg up).gen with refl := false } }, 0, by decide +kernel⟩,
    ⟨{ ((List.range 48).foldl (fun s n => s.set (R.CH_PHY_CTRL_TRACK_EN n) 0) (eg up)) with gen := { ((List.range 48).foldl (fun s n => s.set (R.CH_PHY_CTRL_TRACK_EN n) 0) (eg up)).gen with refl := false } }, 0, by decide +kernel⟩,
    ⟨up, 0, by decide +kernel⟩,
    ⟨{ (eg up) with gen := { (eg up).gen with refl := false } }, 0, by decide +kernel⟩,
    ⟨{ ((List.range 48).foldl (fun s n => (List.range 16).foldl (fun s l => s.lunMap n l (fun x => { x with op := .program, susp := true, park := some { status := 3, cont := 0, m := [], cls := 0, desc := {} } })) s) up) with gen := { ((List.range 48).foldl (fun s n => (List.range 16).foldl (fun s l => s.lunMap n l (fun x => { x with op := .program, susp := true, park := some { status := 3, cont := 0, m := [], cls := 0, desc := {} } })) s) up).gen with refl := false } }, 0, 0, by decide +kernel⟩⟩

theorem witness_ReadBurstsLockOrMiss_2 :
    ∃ (s : State) (n : Fin 48) (l : Fin 16), s.opBus n = true ∧ s.readPolls n l = true :=
  ⟨{ (polls up) with gen := { (polls up).gen with refl := false } }, 0, 2, by decide +kernel⟩

end PhyTrain

/-! ## Witnesses: power domains and the power-loss warning -/

namespace Domains

def dmap (s : State) (d : Nat) (f : DomS → DomS) : State := { s with pwr := { s.pwr with doms := tput (fun _ => {}) s.pwr.doms d (f (s.dom d)) } }
def all (s : State) (f : DomS → DomS) : State := (List.range 13).foldl (fun s d => dmap s d f) s
def one (d : Nat) (f : DomS → DomS) : State := dmap up d f
def off : State := all up (fun x => { x with st := .off, req := false, ack := false })
def hz (s : State) : State := s
def ld (s : State) (n : Nat) : State := s.chMap n (fun c => { c with ledg := { c.ledg with staged := List.replicate 40 { kind := 1, flags := 0, angle := 0, seq := 0, body := 0 }, due := true } })
def lg (b : Bool) : State := { (up.set R.PWR_LEDG_STAT_BUSY 1) with rcv := { up.rcv with ledg := some { slots := [], took := b } } }

theorem witness_DomainPowersUp_1 :
    (∃ (s : State) (d : Fin 13), s.portTakes R.PWR_DOM_CMD_OP.addr ∧ s.domPresent d = true ∧ s.pf = false ∧ (s.dom d).st = .off ∧ (d = 0 ∨ (s.dom 0).st = .on)) ∧
    (∃ (s : State) (d : Fin 13), s.portTakes R.PWR_DOM_CMD_OP.addr ∧ s.domPresent d = true ∧ s.pf = false ∧ (s.dom d).st = .quiescing) ∧
    (∃ (s : State) (d : Fin 13), s.portTakes R.PWR_DOM_CMD_OP.addr ∧ s.domPresent d = true ∧ s.pf = false ∧ (s.dom d).st = .poweringDown ∧ (s.dom d).warm = true) ∧
    (∃ (s : State) (d : Fin 13), s.portTakes R.PWR_DOM_CMD_OP.addr ∧ s.domPresent d = true ∧ s.pf = false ∧ (s.dom d).st = .off ∧ d ≠ 0 ∧ (s.dom 0).st ≠ .on) ∧
    (∃ (s : State) (d : Fin 13), s.portTakes R.PWR_DOM_CMD_OP.addr ∧ s.domPresent d = true ∧ s.pf = false ∧ ((s.dom d).st = .powering ∨ (s.dom d).st = .on ∨ (s.dom d).st = .lost)) ∧
    (∃ (s : State) (d : Fin 13), (s.dom d).st = .powering ∧ (s.dom d).req = false ∧ (s.dom d).ack = false) :=
  ⟨⟨hz (off), 0, takes (by decide +kernel), by decide +kernel⟩,
    ⟨hz (one 0 (fun x => { x with st := .quiescing })), 0, takes (by decide +kernel), by decide +kernel⟩,
    ⟨hz (one 3 (fun x => { x with st := .poweringDown, warm := true })), 3, takes (by decide +kernel), by decide +kernel⟩,
    ⟨hz (off), 3, takes (by decide +kernel), by decide +kernel⟩,
    ⟨hz (up), 0, takes (by decide +kernel), by decide +kernel⟩,
    ⟨hz (one 0 (fun x => { x with st := .powering, req := false, ack := false })), 0, by decide +kernel⟩⟩

theorem witness_DomainPowersUp_2 :
    (∃ (s : State) (d : Fin 13), s.domPresent d = true ∧ (s.dom d).st = .powering ∧ (s.dom d).req = true) ∧
    (∃ (s : State) (d : Fin 13), (s.dom d).st = .powering ∧ (s.dom d).init = true) :=
  ⟨⟨hz (one 0 (fun x => { x with st := .powering, req := true, ack := false })), 0, by decide +kernel⟩,
    ⟨hz (one 0 (fun x => { x with st := .powering, init := true })), 0, by decide +kernel⟩⟩

theorem witness_DomainPowersDown_1 :
    (∃ (s : State) (d : Fin 13), s.portTakes R.PWR_DOM_CMD_OP.addr ∧ s.domPresent d = true ∧ s.pf = false ∧ s.grave = false ∧ (s.dom d).st = .on ∧ ((d = 0 → ∀ k, 0 < k → k < 13 → (s.dom k).st = .off))) ∧
    (∃ (s : State) (d : Fin 13), (s.dom d).st = .quiescing ∧ s.holder d = none) ∧
    (∃ (s : State) (d : Fin 13) (c : Nat), (s.dom d).st = .quiescing ∧ s.holder d = some c) ∧
    (∃ (s : State) (d : Fin 13), (s.dom d).st = .poweringDown ∧ (s.dom d).req = false ∧ (s.dom d).wantUp = false) :=
  ⟨⟨hz (up), 3, takes (by decide +kernel), by decide +kernel, by decide +kernel, by decide +kernel, by decide +kernel, fun h => absurd h (by decide)⟩,
    ⟨hz (one 0 (fun x => { x with st := .quiescing })), 0, by decide +kernel⟩,
    ⟨hz ((one 9 (fun x => { x with st := .quiescing })).chMap 0 (fun c => { c with slots := [{ desc := {}, age := 0 }] })), 9, 2, by decide +kernel⟩,
    ⟨hz (one 0 (fun x => { x with st := .poweringDown, req := false, ack := true })), 0, by decide +kernel⟩⟩

theorem witness_DomainTimesOutOrIsLost_1 :
    (∃ (s : State) (d : Fin 13), (s.dom d).st = .powering ∧ (s.dom d).req = true ∧ (s.dom d).ack = false) ∧
    (∃ (s : State) (d : Fin 13), (s.dom d).req = true ∧ (s.dom d).ack = true) :=
  ⟨⟨hz (one 0 (fun x => { x with st := .powering, req := true, ack := false })), 0, by decide +kernel⟩,
    ⟨hz (up), 0, by decide +kernel⟩⟩

theorem witness_PowerLossWarningIsAcceptedOnce_1 :
    (∃ (s : State), s.flag R.PWR_CTRL_PF_EN = true ∧ s.pf = false) ∧
    (∃ (s : State), s.flag R.PWR_CTRL_PF_EN = true ∧ s.pf = false ∧ s.flag R.PWR_STATUS_SEAL_RUN = false ∧ s.rot.st = .off ∧ (∀ d < 13, (s.dom d).st = .off) ∧ (∀ n < s.gen.nlane, (s.lane n).asm = .idle)) ∧
    (∃ (s : State) (l : Bool), (l = false ∨ s.flag R.PWR_CTRL_PF_EN = false ∨ s.pf = true)) ∧
    (∃ (s : State), s.portTakes R.PWR_PF_CMD_CLEAR.addr ∧ s.pins.pfWarn = false ∧ s.flag R.PWR_STATUS_SEAL_RUN = false ∧ s.flt.rotWait = false) ∧
    (∃ (s : State), s.portTakes R.PWR_PF_CMD_CLEAR.addr ∧ (s.pins.pfWarn = true ∨ s.flag R.PWR_STATUS_SEAL_RUN = true)) :=
  ⟨⟨hz (off.set R.PWR_CTRL_PF_EN 1), by decide +kernel⟩,
    ⟨hz (off.set R.PWR_CTRL_PF_EN 1), by decide +kernel⟩,
    ⟨hz (up), false, by decide +kernel⟩,
    ⟨hz (up), takes (by decide +kernel), by decide +kernel⟩,
    ⟨hz ({ (up.set R.PWR_STATUS_PF 1) with pins := { up.pins with pfWarn := true } }), takes (by decide +kernel), by decide +kernel⟩⟩

theorem witness_LedgerIsGatheredFlushedAndRecovered_1 :
    (∃ (s : State) (n : Fin 48), (s.ch n).sealing = false) ∧
    (∃ (s : State) (d : Word), s.portTakes R.PWR_LEDG_CFG_EN.addr ∧ d.getLsbD 0 = true ∧ s.pwr.recovered = true) ∧
    (∃ (s : State) (d : Word), s.portTakes R.PWR_LEDG_CFG_EN.addr ∧ d.getLsbD 0 = true ∧ s.pwr.recovered = false) ∧
    (∃ (s : State), s.portTakes R.PWR_LEDG_CMD_RECOVER.addr ∧ s.flag R.PWR_LEDG_STAT_BUSY = false ∧ s.ledgOn = false ∧ s.get R.PWR_LEDG_BLK_BLK_A ≠ s.get R.PWR_LEDG_BLK_BLK_B) ∧
    (∃ (s : State), s.flag R.PWR_LEDG_STAT_BUSY = true ∧ s.rcv.ledg = none) ∧
    (∃ (s : State) (x : _), s.flag R.PWR_LEDG_STAT_BUSY = true ∧ some x = s.rcv.ledg ∧ x.ended = true ∧ x.took = false ∧ s.powered 0 = true ∧ s.ledgFound x = []) :=
  ⟨⟨hz (up), 0, by decide +kernel⟩,
    ⟨hz ({ (List.range 48).foldl ld up with pwr := { up.pwr with recovered := true } }), 0x00000001#32, takes (by decide +kernel), by decide +kernel⟩,
    ⟨hz (up), 0x00000001#32, takes (by decide +kernel), by decide +kernel⟩,
    ⟨hz (up), takes (by decide +kernel), by decide +kernel⟩,
    ⟨hz (up.set R.PWR_LEDG_STAT_BUSY 1), by decide +kernel⟩,
    ⟨hz (lg false), { slots := [], blanks := [], asked := [], took := false }, by decide +kernel⟩⟩

theorem witness_LedgerIsGatheredFlushedAndRecovered_2 :
    ∃ (s : State) (x : _), s.flag R.PWR_LEDG_STAT_BUSY = true ∧ some x = s.rcv.ledg ∧ x.ended = true ∧ x.took = true ∧ s.rbWrites = false :=
  ⟨hz (lg true), { slots := [], blanks := [], asked := [], took := true }, by decide +kernel⟩

end Domains

/-! ## Witnesses: the ledger -/

namespace LedgerFlush

def b0 : State := ((okCh up 9).chMap 9 (fun c => { c with phy := { c.phy with geo := some geo0 } })).set (R.CH_PHY_STAT_CE_PRESENT 9) 255
def zz (s : State) : State := putWord (putWord s 5 (winWord (badAt 9 (s.sealLun 9) (s.ledgBlk false)).1) 0) 5 (winWord (guardAt 9 (s.sealLun 9) (s.ledgBlk false)).1) 0
def fl (k : Nat) : State := (zz b0).chMap 9 (fun c => { c with ledg := { c.ledg with fails := k, due := true, staged := List.replicate 40 { kind := 1, flags := 0, angle := 0, seq := 0, body := 0 } } })

theorem witness_LedgerIsGatheredFlushedAndRecovered_3 :
    (∃ (s : State) (n : Fin 48), (s.ch n).sealing = true) ∧
    (∃ (s : State) (n : Fin 48), s.flushMay n = true ∧ (s.ch n).ledg.pos < s.ledgPositions n ∧ s.refuseReason n (s.ledgAddr n) (s.ch n).sealing = none ∧ s.refuseNote n (s.ledgAddr n) (s.ch n).sealing = s ∧ s.ownsCh n = true) ∧
    (∃ (s : State) (n : Fin 48), s.flushMay n = true ∧ (s.ch n).ledg.pos < s.ledgPositions n ∧ s.refuseReason n (s.ledgAddr n) (s.ch n).sealing = none ∧ s.refuseNote n (s.ledgAddr n) (s.ch n).sealing = s ∧ s.ownsCh n = true ∧ (s.ch n).ledg.fails < 3) ∧
    (∃ (s : State) (n : Fin 48), s.flushMay n = true ∧ (s.ch n).ledg.pos < s.ledgPositions n ∧ s.refuseReason n (s.ledgAddr n) (s.ch n).sealing = none ∧ s.refuseNote n (s.ledgAddr n) (s.ch n).sealing = s ∧ s.ownsCh n = true ∧ 3 ≤ (s.ch n).ledg.fails) ∧
    (∃ (s : State), s.portTakes R.PWR_LEDG_CMD_RECOVER.addr ∧ s.flag R.PWR_LEDG_STAT_BUSY = false ∧ (s.ledgOn = true ∨ s.get R.PWR_LEDG_BLK_BLK_A = s.get R.PWR_LEDG_BLK_BLK_B)) :=
  ⟨⟨b0.chMap 9 (fun c => { c with sealing := true }), 9, by decide +kernel⟩,
    ⟨fl 0, 9, by decide +kernel⟩,
    ⟨fl 0, 9, by decide +kernel⟩,
    ⟨fl 3, 9, by decide +kernel⟩,
    ⟨b0.set R.PWR_LEDG_CFG_EN 1, takes (by decide +kernel), by decide +kernel⟩⟩

end LedgerFlush

/-! ## Witnesses: a passing cycle and the PHY commands -/

namespace OneCycle

def run (s : State) (st : Nat) : State := (List.range 48).foldl (fun s n => (s.set (R.CH_PHY_STAT_STATE n) st).set (R.CH_PHY_STAT_CE_PRESENT n) 0x1F) s

theorem witness_EmptyQueueLetsOneCyclePass_1 :
    (∃ (s : State), s.pending = [] ∧ s.cp.rst = .cold) ∧
    (∃ (s : State), s.pending = [] ∧ s.cp.rst = .warm) ∧
    (∃ (s : State), s.pending = [] ∧ s.cp.rst = .none) ∧
    (∃ (s : State), s.pending = [] ∧ s.cp.rst = .none ∧ s.map.waiting = [] ∧ s.memi.reps = [] ∧ s.gen.nlane = 0 ∧ (∀ h, (s.hoop h).stall = []) ∧ s.flag R.DEC_CTRL_SHADOW_EN = false ∧ s.rcv.probes = [] ∧ s.rot.st = .off) :=
  ⟨⟨{ State.reset with cp := { State.reset.cp with rst := .cold } }, by decide +kernel⟩,
    ⟨{ up with cp := { up.cp with rst := .warm } }, by decide +kernel⟩,
    ⟨State.reset, by decide +kernel⟩,
    ⟨{ up with gen := { up.gen with nlane := 0 } }, by decide +kernel, by decide +kernel, by decide +kernel, by decide +kernel, by decide +kernel, fun _ => rfl, by decide +kernel⟩⟩

theorem witness_PhyCommandsStartOnceAndWait_1 :
    (∃ (s : State) (n : Fin 48) (m : BitVec 8), s.portTakes (R.CH_PHY_CMD_CMD n).addr ∧ s.flag (R.CH_PHY_STAT_BUSY n) = false ∧ s.phyRuns n = true ∧ ((s.presentCes n).filter (bit m.toNat)) ≠ []) ∧
    (∃ (s : State) (n : Fin 48), s.portTakes (R.CH_PHY_CMD_CMD n).addr ∧ s.flag (R.CH_PHY_STAT_BUSY n) = true) ∧
    (∃ (s : State) (n : Fin 48), s.portTakes (R.CH_PHY_CMD_CMD n).addr ∧ s.flag (R.CH_PHY_STAT_BUSY n) = false ∧ s.phyRuns n = false) :=
  ⟨⟨run up 2, 0, 0xff#8, takes (by decide +kernel), by decide +kernel⟩,
    ⟨(List.range 48).foldl (fun s n => s.set (R.CH_PHY_STAT_BUSY n) 1) up, 0, takes (by decide +kernel), by decide +kernel⟩,
    ⟨up, 0, takes (by decide +kernel), by decide +kernel⟩⟩

theorem witness_PowerRequestsOfAbsentDomainsStayZero_1 :
    (∃ (s : State) (d : Fin 13), s.domPresent d = false) ∧
    (∃ (s : State) (d : Fin 13), s.portTakes R.PWR_DOM_CMD_OP.addr ∧ s.domPresent d = false) ∧
    (∃ (s : State) (d : Fin 13), (s.dom d).ack = true) :=
  ⟨⟨{ up with gen := { up.gen with nlane := 0 } }, 1, by decide +kernel⟩,
    ⟨{ up with gen := { up.gen with nlane := 0 } }, 1, takes (by decide +kernel), by decide +kernel⟩,
    ⟨up, 0, by decide +kernel⟩⟩

theorem witness_NeverBothGatesOfAPhase_1 :
    ∃ s t : State, s.legsApart ∧ step s = .next t :=
  ⟨up, up.tick, by decide +kernel, rfl⟩

theorem witness_ExternalMemoryStaysCanonical_1 :
    ∃ s t : State, Memory.wf s.ext = true ∧ step s = .next t :=
  ⟨up, up.tick, by decide +kernel, rfl⟩

end OneCycle

end Sys2Proof.Tests
end

-- The control port and the resets: the statements of 00_scope.md.
section

open Sys2Proof Sys2Proof.Machine

namespace Sys2Proof.Machine

/-! ## Tables -/

/-- What holds of the default and of every listed value holds of every value read. -/
theorem tget_of_forall {α : Type} {P : α → Prop} (d : Nat → α) (t : Tab α) (k : Nat) (hd : P (d k)) (ht : ∀ x ∈ t, P x.2) :
    P (tget d t k) := by
  induction t with
  | nil => exact hd
  | cons x t ih =>
    obtain ⟨k', v⟩ := x
    have hrest := ih (fun y hy => ht y (List.mem_cons_of_mem _ hy))
    by_cases hk : k' = k
    · simpa [tget, tfind, hk] using ht (k', v) List.mem_cons_self
    · simpa [tget, tfind, hk] using hrest

/-- A key whose entries a pass over a table leaves is read as before. -/
theorem tfind_filterMap_kept {α : Type} (f : Nat × α → Option (Nat × α)) (t : Tab α) (k : Nat) (hf : ∀ x y, f x = some y → y.1 = x.1)
    (hk : ∀ v, f (k, v) = some (k, v)) : tfind (t.filterMap f) k = tfind t k := by
  induction t with
  | nil => rfl
  | cons x t ih =>
    obtain ⟨k', v⟩ := x
    by_cases hne : k' = k
    · subst hne
      simp [hk, tfind]
    · cases hx : f (k', v) with
      | none => simp [hx, ih, tfind, hne]
      | some y =>
        obtain ⟨k'', w⟩ := y
        obtain rfl : k'' = k' := hf _ _ hx
        simp [hx, ih, tfind, hne]

theorem tfind_filterMap_none {α : Type} (f : Nat × α → Option (Nat × α)) (t : Tab α) (k : Nat)
    (hf : ∀ x y, f x = some y → y.1 = x.1) (h : tfind t k = none) : tfind (t.filterMap f) k = none := by
  induction t with
  | nil => rfl
  | cons x t ih =>
    obtain ⟨k', v⟩ := x
    by_cases hk : k' = k
    · simp [tfind, hk] at h
    · have hrest := ih (by simpa [tfind, hk] using h)
      cases hx : f (k', v) with
      | none => simpa [hx] using hrest
      | some y =>
        obtain ⟨k'', w⟩ := y
        obtain rfl : k'' = k' := hf _ _ hx
        simpa [hx, tfind, hk] using hrest

/-- In a table with rising keys a pass over the entries is read key by key. -/
theorem tfind_filterMap_sorted {α : Type} (f : Nat × α → Option (Nat × α)) (t : Tab α) (k : Nat)
    (hf : ∀ x y, f x = some y → y.1 = x.1) (hs : tsorted t = true) :
    tfind (t.filterMap f) k = (tfind t k).bind (fun v => (f (k, v)).map Prod.snd) := by
  induction t with
  | nil => rfl
  | cons x t ih =>
    obtain ⟨k', v⟩ := x
    have hrest := ih (tsorted_of_above t hs)
    by_cases hk : k' = k
    · subst hk
      have hnone := tfind_filterMap_none f t k' hf (tfind_above t hs le_rfl)
      cases hx : f (k', v) with
      | none => simpa [hx, tfind] using hnone
      | some y =>
        obtain ⟨k'', w⟩ := y
        obtain rfl : k'' = k' := hf _ _ hx
        simp [hx, tfind]
    · cases hx : f (k', v) with
      | none => simpa [hx, tfind, hk] using hrest
      | some y =>
        obtain ⟨k'', w⟩ := y
        obtain rfl : k'' = k' := hf _ _ hx
        simpa [hx, tfind, hk] using hrest

/-- A write to a table keeps its keys rising. -/
theorem tput_sorted {α : Type} [DecidableEq α] (d : Nat → α) (t : Tab α) (k : Nat) (v : α) (h : tsorted t = true) :
    tsorted (tput d t k v) = true := by
  unfold tput
  split
  · exact tdel_sorted t h
  · exact tins_sorted t v h

/-! ## Register words at a reset -/

theorem State.get_of_rd {s t : State} {f : Fld} (h : t.rd f.addr = s.rd f.addr) : t.get f = s.get f := by
  rw [State.get, State.get, h]

/-- A saturating count fits its field. -/
theorem State.get_bump_same (s : State) (f : Fld) (h : f.lsb + f.wid ≤ 32) : (s.bump f).get f = sat f.max (s.get f + 1) := by
  refine (State.get_set_same _ _ _ h).trans (Nat.mod_eq_of_lt ?_)
  have := Nat.two_pow_pos f.wid
  unfold sat Fld.max
  split <;> omega

/-- The straps are latched into their own words alone. -/
theorem State.strapRegs_words (s : State) (p : Nat → Bool) :
    ∃ w, s.strapRegs p = { s with regs := w } ∧ ∀ a, strapAddr a = false → tget resetVal w a = tget resetVal s.regs a := by
  refine ⟨(s.strapRegs p).regs, ?_, fun a ha => ?_⟩
  · unfold State.strapRegs
    dsimp only
    split <;> split <;> rfl
  · simp only [strapAddr, Bool.or_eq_false_iff, decide_eq_false_iff_not] at ha
    obtain ⟨⟨⟨hx, hr⟩, hl⟩, hh⟩ := ha
    change (s.strapRegs p).rd a = s.rd a
    unfold State.strapRegs
    dsimp only
    split <;> split <;> simp [State.rd_set_other, hx, hr, hl, hh]

/-- What a warm reset or a power-down makes of the word `v` at `a` (00_scope.md R22). -/
def keptWord (a : Nat) (v : Word) : Word := (v &&& keepMask a) ||| (resetVal a &&& ~~~keepMask a)

theorem keptWord_reset (a : Nat) : keptWord a (resetVal a) = resetVal a := by
  unfold keptWord
  ext i hi
  simp only [BitVec.getElem_or, BitVec.getElem_and, BitVec.getElem_not]
  cases (resetVal a)[i] <;> simp

/-- What a reset of the words of `p` makes of an entry of the register table. -/
def resetEntry (p : Nat → Bool) (x : Nat × Word) : Option (Nat × Word) :=
  if p x.1 then (if keptWord x.1 x.2 = resetVal x.1 then none else some (x.1, keptWord x.1 x.2)) else some x

theorem resetEntry_key (p : Nat → Bool) (x y : Nat × Word) (h : resetEntry p x = some y) : y.1 = x.1 := by
  unfold resetEntry at h
  split at h
  · split at h
    · cases h
    · cases h; rfl
  · cases h; rfl

theorem State.regsReset_eq (s : State) (p : Nat → Bool) :
    s.regsReset p = State.strapRegs { s with regs := s.regs.filterMap (resetEntry p) } p := rfl

/-- A word apart from the straps' own reads what the reset leaves in the table. -/
theorem State.rd_regsReset_table (s : State) (p : Nat → Bool) {a : Nat} (ha : strapAddr a = false) :
    (s.regsReset p).rd a = tget resetVal (s.regs.filterMap (resetEntry p)) a := by
  rw [State.regsReset_eq]
  obtain ⟨w, hw, hrd⟩ := State.strapRegs_words { s with regs := s.regs.filterMap (resetEntry p) } p
  rw [hw]
  exact hrd a ha

/-- A reset of register words touches the register words alone. -/
theorem State.regsReset_frame (s : State) (p : Nat → Bool) : ∃ w, s.regsReset p = { s with regs := w } := by
  obtain ⟨w, hw, -⟩ := State.strapRegs_words { s with regs := s.regs.filterMap (resetEntry p) } p
  exact ⟨w, hw⟩

/-- A reset of the words of `p` leaves every other word. -/
theorem State.rd_regsReset_other (s : State) {p : Nat → Bool} {a : Nat} (hp : p a = false) (ha : strapAddr a = false) :
    (s.regsReset p).rd a = s.rd a := by
  have hk : ∀ v, resetEntry p (a, v) = some (a, v) := fun v => by simp [resetEntry, hp]
  rw [s.rd_regsReset_table p ha, tget, tfind_filterMap_kept _ _ _ (resetEntry_key p) hk, State.rd, tget]

/-- In a register table with rising keys each word of `p` keeps its kept bits, the straps' words apart. -/
theorem State.rd_regsReset {s : State} {p : Nat → Bool} {a : Nat} (hs : tsorted s.regs = true) (hp : p a = true)
    (ha : strapAddr a = false) : (s.regsReset p).rd a = keptWord a (s.rd a) := by
  rw [s.rd_regsReset_table p ha, tget, tfind_filterMap_sorted _ _ _ (resetEntry_key p) hs, State.rd, tget]
  cases tfind s.regs a with
  | none => exact (keptWord_reset a).symm
  | some v => by_cases hv : keptWord a v = resetVal a <;> simp [resetEntry, hp, hv]

/-! ## Cold reset and release -/

/-- Where only PD_ACK levels are left, every domain is OFF without a power request. -/
theorem acksOnly_off (t : Tab DomS) (d : Nat) :
    (tget (fun _ => {}) (acksOnly t) d).st = .off ∧ (tget (fun _ => {}) (acksOnly t) d).req = false := by
  refine tget_of_forall (P := fun x : DomS => x.st = .off ∧ x.req = false) _ _ _ ⟨rfl, rfl⟩ fun x hx => ?_
  obtain ⟨y, -, rfl⟩ := List.mem_map.mp (List.mem_filter.mp hx).1
  exact ⟨rfl, rfl⟩

/-- The reset value of FAULT.STATUS says that the block is not in Grave. -/
theorem State.grave_of_rd_reset {s : State} (h : s.rd R.FAULT_STATUS_GRAVE.addr = resetVal R.FAULT_STATUS_GRAVE.addr) :
    s.grave = false := by
  unfold State.grave State.flag State.get
  rw [h]
  decide

/-- The state a cold reset makes of `s`, before the straps give their words' values (R21, R50, R80); `sram` and `epochs` are what is
left of SRAM and its power-up counts (R24). -/
def State.coldBase (s : State) (sram : Tab Strong) (epochs : Tab Nat) : State :=
  { State.reset with
    pending := s.pending, free := s.free, gen := s.gen, ext := s.ext, sram := sram, epochs := epochs
    pins := { s.pins with pulse := 0, trigAt := none }
    cp := { rst := .cold, held := s.cp.held, idLot := s.cp.idLot, idDie := s.cp.idDie, xlIdx := s.cp.xlIdx, rfPrimary := s.cp.rfPrimary }
    pwr := { doms := acksOnly s.pwr.doms }, lanes := linksOnly s.lanes }

theorem State.rd_coldBase (s : State) (m : Tab Strong) (e : Tab Nat) (a : Nat) : (s.coldBase m e).rd a = resetVal a := (rfl)

theorem exec_coldReset (s : State) : ∃ m e, exec .coldReset s = .next ((s.coldBase m e).strapRegs (fun _ => true)) := ⟨_, _, rfl⟩

theorem exec_resetRelease_cold (s : State) (lot : BitVec 32) (die : BitVec 24) (xl : BitVec 2) (rf : Bool) (h : s.cp.rst = .cold) :
    exec (.resetRelease lot die xl rf) s = .next (State.regsReset { s with
      cp := { s.cp with rst := .none, idLot := lot, idDie := die, xlIdx := xl, rfPrimary := rf }, cyc := 0 } strapAddr) := by
  simp only [exec, execResetRelease, h]

theorem exec_resetRelease_warm (s : State) (lot : BitVec 32) (die : BitVec 24) (xl : BitVec 2) (rf : Bool) (h : s.cp.rst = .warm) :
    exec (.resetRelease lot die xl rf) s = .next { s with cp := { s.cp with rst := .none }, cyc := 0 } := by
  simp only [exec, execResetRelease, h]

/-! ## Control-port writes of a plain word -/

/-- A write reaches the register word of its address where no window, calendar entry or SRAM word stands for it. -/
theorem cpEffect_of_register {a : Nat} {s : State} (be : BitVec 4) (data : Word) (hw : a < 0x80000) (hc : a ≠ R.CAL_DATA_EVEN.addr)
    (hs : s.sramAt a = none) : cpEffect a be data s = regWr a be data s := by
  rw [cpEffect, if_neg (by omega), if_neg hc, hs]

/-- A write of a word whose bits are all RW gives it the enabled bytes (00_scope.md R14, R17). -/
theorem State.regMerge_of_rw {a n : Nat} {p : Page} {r : RegRow} (s : State) (be : BitVec 4) (data : Word) (hr : rowAt a = some (p, n, r))
    (hrw : r.rw = BitVec.allOnes 32) (hc : r.w1c = 0#32) (hs : r.w1s = 0#32) :
    s.regMerge a be data = s.wr a (mergeBe (s.rd a) data be) := by
  simp only [State.regMerge, hr, RegRow.write, hrw, hc, hs, mergeBe, BitVec.allOnes_or, BitVec.allOnes_and, BitVec.zero_and,
    BitVec.not_zero, BitVec.and_allOnes, BitVec.or_zero]

/-- With every byte enabled the new word replaces the old. -/
theorem mergeBe_full (old new : Word) : mergeBe old new 0xF#4 = new := by
  have hm : beMask 0xF#4 = BitVec.allOnes 32 := by decide
  simp only [mergeBe, hm, BitVec.not_allOnes, BitVec.and_zero, BitVec.and_allOnes, BitVec.zero_or]

theorem rowAt_scratch : rowAt 0x64 = some (.sys, 0, ⟨0x64, 0, 1, 0xFFFFFFFF, 0, 0, 0, 0, 0⟩) := by decide

/-- A write of SYS.SCRATCH merges the enabled bytes. -/
theorem cpEffect_scratch (s : State) (be : BitVec 4) (data : Word) (hbe : be ≠ 0) :
    cpEffect 0x64 be data s = s.wr 0x64 (mergeBe (s.rd 0x64) data be) := by
  rw [cpEffect_of_register be data (by decide) (by decide) rfl, regWr]
  exact (if_neg hbe).trans (State.regMerge_of_rw s be data (a := 0x64) rowAt_scratch rfl rfl rfl)

/-! ## EVT_EN, at offset 0x14 of every page (R19) -/

theorem evtEn_page (k : Nat) : (k * 0x1000 + 0x14) / 0x1000 = k := by omega

theorem evtEn_offset (k : Nat) : (k * 0x1000 + 0x14) % 0x1000 = 0x14 := by omega

theorem evtEn_ne_calData (k : Nat) : k * 0x1000 + 0x14 ≠ R.CAL_DATA_EVEN.addr := by
  change k * 0x1000 + 0x14 ≠ 0x11044
  omega

/-- No SRAM word stands for EVT_EN of a page. -/
theorem State.sramAt_evtEn (s : State) {k : Nat} (hk : k < 103) : s.sramAt (k * 0x1000 + 0x14) = none := by
  unfold State.sramAt
  dsimp only
  rw [if_neg (by omega), if_neg (by omega), if_neg (by omega), if_neg (by omega), if_neg (evtEn_ne_calData k), if_neg (by omega)]

/-- An address that the control port answers lies in a page. -/
theorem State.page_of_addrDom_evtEn {s : State} {k d : Nat} (hk : k < 103) (h : s.addrDom (k * 0x1000 + 0x14) = some d) :
    ∃ p n, pageOfIndex k = some (p, n) := by
  have hl : spoolLane (k * 0x1000 + 0x14) = none := if_neg (by omega)
  unfold State.addrDom at h
  simp only [hl, evtEn_page] at h
  rw [if_neg (by omega), if_neg (by omega), if_neg (by omega), if_neg (by omega)] at h
  cases hp : pageOfIndex k with
  | none => simp [hp] at h
  | some x => exact ⟨x.1, x.2, rfl⟩

/-- On no page has a write of EVT_EN an effect beside its bits. -/
theorem pageWr_evtEn (p : Page) (n a : Nat) (be : BitVec 4) (data d w : Word) (s : State) (ha : a % 0x1000 = 0x14) :
    pageWr p n 0x14 a be data d w s = s.regMerge a be data := by
  cases p
  case rotor => simp [pageWr, rotorWr, ha]
  all_goals rfl

/-- The row of EVT_EN comes first in its page's common header. -/
theorem rowAt_evtEn {k n : Nat} {p : Page} (h : pageOfIndex k = some (p, n)) :
    rowAt (k * 0x1000 + 0x14) = some (p, n, ⟨0x14, 0, 1, 0xFFFFFFFF, 0, 0, 0, 0, 0⟩) := by
  simp [rowAt, evtEn_page, evtEn_offset, h, rowsCommon, RegRow.holds]

/-- A whole-word write of EVT_EN replaces it. -/
theorem cpEffect_evtEn {k n : Nat} {p : Page} (s : State) (data : Word) (hk : k < 103) (h : pageOfIndex k = some (p, n)) :
    cpEffect (k * 0x1000 + 0x14) 0xF#4 data s = s.wr (k * 0x1000 + 0x14) data := by
  rw [cpEffect_of_register _ data (by omega) (evtEn_ne_calData k) (s.sramAt_evtEn hk), regWr]
  simp only [evtEn_page, evtEn_offset, h]
  rw [if_neg (by decide), if_neg (by decide), if_neg (by decide), pageWr_evtEn _ _ _ _ _ _ _ _ (evtEn_offset k),
    State.regMerge_of_rw s _ data (rowAt_evtEn h) rfl rfl rfl, mergeBe_full]

/-! ## OFF_ACCESS (02_ports.md R48) -/

/-- OFF_ACCESS touches OFF_ADDR, EVT_RAW of SYS and the pulse lines alone. -/
theorem State.offAccess_frame (s : State) (a : Nat) :
    s.offAccess a = { s with regs := (s.offAccess a).regs, pins := (s.offAccess a).pins } :=
  State.raise_frame _ _ _ _

/-- OFF_ADDR takes the word address of an OFF_ACCESS in the control window. -/
theorem State.get_offAccess (s : State) {a : Nat} (h : a < 2 ^ 24) : (s.offAccess a).get R.SYS_OFF_ADDR_ADDR = a / 4 * 4 := by
  rw [State.offAccess, State.get_raise _ _ _ _ _ (by decide), State.get_set_same _ _ _ (by decide)]
  exact Nat.mod_eq_of_lt (by change _ < 2 ^ 24; omega)

theorem State.event_offAccess (s : State) (a : Nat) : (s.offAccess a).event .sys 0 0 = true :=
  State.event_raised _ _ _ _ (by decide)

theorem State.wordsKept_offAccess (s : State) (a : Nat) : s.wordsKept (s.offAccess a) [R.SYS_OFF_ADDR_ADDR.addr, evtAddr .sys 0] := by
  intro b hb
  obtain ⟨ho, he⟩ : b ≠ R.SYS_OFF_ADDR_ADDR.addr ∧ b ≠ evtAddr .sys 0 := by simpa using hb
  exact (State.rd_raise _ _ _ _ _).trans ((if_neg he).trans (State.rd_set_other _ _ _ ho))

theorem exec_registerWrite (s : State) (a : BitVec 24) (be : BitVec 4) (d : Word) :
    exec (.registerWrite a be d) s = .next (s.cpWr (a.toNat / 4 * 4) be d (cpEffect (a.toNat / 4 * 4) be d)) := rfl

/-! ## Folds -/

/-- A part that no round of a fold changes is unchanged. -/
theorem foldl_part {α β : Type} (f : State → α) (g : State → β → State) (h : ∀ s x, f (g s x) = f s) (l : List β) (s : State) :
    f (l.foldl g s) = f s := by
  induction l generalizing s with
  | nil => rfl
  | cons x l ih => rw [List.foldl_cons, ih, h]

/-- A relation that each round of a fold keeps holds between its ends. -/
theorem foldl_rel {β : Type} {P : State → State → Prop} (hrefl : ∀ s, P s s) (htrans : ∀ s t u, P s t → P t u → P s u)
    (g : State → β → State) (h : ∀ s x, P s (g s x)) (l : List β) (s : State) : P s (l.foldl g s) := by
  induction l generalizing s with
  | nil => exact hrefl s
  | cons x l ih => exact htrans _ _ _ (h s x) (ih _)

/-! ## Channels at a warm reset -/

theorem State.ch_chanLose (s : State) (n k : Nat) :
    (s.chanLose n).ch k = if k = n then { wait := (s.ch n).wait, ledg := (s.ch n).ledg } else s.ch k := by
  have hc : (s.chanLose n).chans = (s.chMap n (fun _ => { wait := (s.ch n).wait, ledg := (s.ch n).ledg })).chans := by
    unfold State.chanLose
    dsimp only
    rw [foldl_part State.chans _ (by intros; rfl)]
  exact (congrArg (fun t : Tab ChS => tget (fun _ => ({} : ChS)) t k) hc).trans (State.ch_chMap _ _ _ _)

@[simp] theorem State.chanLose_mp (s : State) (n : Nat) : (s.chanLose n).mp = s.mp := by
  unfold State.chanLose
  dsimp only
  rw [foldl_part State.mp _ (by intros; rfl), State.chMap_mp]

@[simp] theorem State.chanLose_regs (s : State) (n : Nat) : (s.chanLose n).regs = s.regs := by
  unfold State.chanLose
  dsimp only
  rw [foldl_part State.regs _ (by intros; rfl), State.chMap_regs]

/-- Channel `n` after a warm reset (02_ports.md R79). -/
def State.warmCh (s : State) (n : Nat) : ChS :=
  { wp := s.slicePowered n && (s.ch n).wp, wpHeld := s.slicePowered n, own := if s.slicePowered n then (s.ch n).own else {} }

theorem State.ch_chanWarm (s : State) (n k : Nat) : (s.chanWarm n).ch k = if k = n then s.warmCh n else s.ch k := by
  unfold State.chanWarm
  dsimp only
  rw [State.ch_chMap, State.ch_chanLose, State.ch_chanLose, if_pos rfl]
  by_cases hk : k = n
  · rw [if_pos hk, if_pos hk]
    rfl
  · rw [if_neg hk, if_neg hk, if_neg hk]

@[simp] theorem State.chanWarm_mp (s : State) (n : Nat) : (s.chanWarm n).mp = s.mp := by
  unfold State.chanWarm
  dsimp only
  rw [State.chMap_mp, State.chanLose_mp]

@[simp] theorem State.chanWarm_regs (s : State) (n : Nat) : (s.chanWarm n).regs = s.regs := by
  unfold State.chanWarm
  dsimp only
  rw [State.chMap_regs, State.chanLose_regs]

/-- What a warm reset makes of a channel depends on that channel, on the parameters and on the domains alone. -/
theorem State.warmCh_congr {s t : State} {n : Nat} (hc : t.ch n = s.ch n) (hg : t.gen = s.gen) (hp : t.pwr = s.pwr) :
    t.warmCh n = s.warmCh n := by
  unfold State.warmCh State.slicePowered State.powered State.dom
  rw [hc, hg, hp]

theorem State.ch_foldl_chanWarm (s : State) (m k : Nat) :
    ((List.range m).foldl State.chanWarm s).ch k = if k < m then s.warmCh k else s.ch k := by
  induction m with
  | zero => rfl
  | succ m ih =>
    rw [List.range_succ, List.foldl_append, List.foldl_cons, List.foldl_nil, State.ch_chanWarm]
    by_cases hk : k = m
    · subst hk
      simp only [lt_irrefl, if_false] at ih
      rw [if_pos rfl, if_pos (Nat.lt_succ_self k)]
      exact State.warmCh_congr ih (by simp) (by simp)
    · rw [if_neg hk, ih]
      simp only [show k < m + 1 ↔ k < m by omega]

/-! ## Domains, SRAM and lanes at a warm reset -/

theorem State.st_domWarm (s : State) (d k : Nat) :
    ((s.domWarm d).dom k).st = if k = d ∧ (s.dom k).st ≠ .off then .poweringDown else (s.dom k).st := by
  unfold State.domWarm
  dsimp only
  by_cases hoff : (s.dom d).st = .off
  · rw [if_pos hoff, if_neg]
    rintro ⟨rfl, hne⟩
    exact hne hoff
  · rw [if_neg hoff, State.dom_domMap]
    by_cases hk : k = d
    · subst hk
      rw [if_pos rfl, if_pos ⟨rfl, hoff⟩]
    · rw [if_neg hk, if_neg (fun h => hk h.1)]

theorem State.st_foldl_domWarm (s : State) (m k : Nat) :
    (((List.range m).foldl State.domWarm s).dom k).st =
      if k < m ∧ (s.dom k).st ≠ .off then .poweringDown else (s.dom k).st := by
  induction m with
  | zero => simp
  | succ m ih =>
    rw [List.range_succ, List.foldl_append, List.foldl_cons, List.foldl_nil, State.st_domWarm, ih]
    by_cases hoff : (s.dom k).st = .off
    · simp [hoff]
    · by_cases hk : k = m
      · simp [hk]
      · simp [hk, hoff, show k < m + 1 ↔ k < m by omega]

section
variable (s : State) (d : Nat)

@[simp] theorem State.domWarm_mp : (s.domWarm d).mp = s.mp := by
  unfold State.domWarm
  dsimp only
  split <;> rfl

@[simp] theorem State.domWarm_regs : (s.domWarm d).regs = s.regs := by
  unfold State.domWarm
  dsimp only
  split <;> rfl

@[simp] theorem State.domWarm_chans : (s.domWarm d).chans = s.chans := by
  unfold State.domWarm
  dsimp only
  split <;> rfl

@[simp] theorem State.sramLose_mp : (s.sramLose d).mp = s.mp := by
  unfold State.sramLose
  dsimp only
  rw [foldl_part State.mp _ (by intros; rfl)]

@[simp] theorem State.sramLose_chans : (s.sramLose d).chans = s.chans := by
  unfold State.sramLose
  dsimp only
  rw [foldl_part State.chans _ (by intros; rfl)]

@[simp] theorem State.sramReset_mp : s.sramReset.mp = s.mp :=
  foldl_part State.mp _ (fun s d => by split <;> simp) _ _

@[simp] theorem State.sramReset_chans : s.sramReset.chans = s.chans :=
  foldl_part State.chans _ (fun s d => by split <;> simp) _ _

/-- With every domain OFF no SRAM is lost. -/
theorem State.sramReset_of_off (h : ∀ d, (s.dom d).st = .off) : s.sramReset = s :=
  List.foldl_fixed' (fun d => if_pos (h d)) _

@[simp] theorem State.stallEnd_mp (n : Nat) : (s.stallEnd d n).mp = s.mp := by
  unfold State.stallEnd
  split <;> rfl

@[simp] theorem State.stallEnd_regs (n : Nat) : (s.stallEnd d n).regs = s.regs := by
  unfold State.stallEnd
  split <;> rfl

@[simp] theorem State.stallEnd_chans (n : Nat) : (s.stallEnd d n).chans = s.chans := by
  unfold State.stallEnd
  split <;> rfl

@[simp] theorem State.laneLose_mp : (s.laneLose d).mp = s.mp := by
  unfold State.laneLose
  rw [State.laneMap_mp, foldl_part State.mp _ (by simp)]

@[simp] theorem State.laneLose_regs : (s.laneLose d).regs = s.regs := by
  unfold State.laneLose
  rw [State.laneMap_regs, foldl_part State.regs _ (by simp)]

@[simp] theorem State.laneLose_chans : (s.laneLose d).chans = s.chans := by
  unfold State.laneLose
  rw [State.laneMap_chans, foldl_part State.chans _ (by simp)]

end

/-! ## What the drive changes -/

/-- In `t` only the drive, the pulse lines and EVT_RAW of ROTOR may differ. -/
def State.driveOnly (s t : State) : Prop :=
  (∀ a, a ≠ evtAddr .rotor 0 → t.rd a = s.rd a) ∧ t = { s with rot := t.rot, regs := t.regs, pins := t.pins }

theorem State.driveOnly_refl (s : State) : s.driveOnly s := ⟨fun _ _ => rfl, rfl⟩

theorem State.driveOnly.trans {s t u : State} (h : s.driveOnly t) (k : t.driveOnly u) : s.driveOnly u := by
  obtain ⟨hw, hf⟩ := h
  obtain ⟨kw, kf⟩ := k
  refine ⟨fun a ha => (kw a ha).trans (hw a ha), kf.trans ?_⟩
  rw [hf]

theorem State.driveOnly_rotMap (s : State) (f : RotS → RotS) : s.driveOnly (s.rotMap f) := ⟨fun _ _ => rfl, rfl⟩

theorem State.driveOnly_rotRaise (s : State) (b : Nat) : s.driveOnly (s.rotRaise b) :=
  ⟨fun a ha => (State.rd_raise s .rotor 0 b a).trans (if_neg ha), by
    unfold State.rotRaise State.raise
    dsimp only
    split <;> rfl⟩

theorem State.driveOnly_setRot (s : State) (st : RotSt) : s.driveOnly (s.setRot st) := by
  unfold State.setRot
  dsimp only
  split
  · exact s.driveOnly_refl
  · refine State.driveOnly.trans ?_ ((State.driveOnly_rotMap _ _).trans (State.driveOnly_rotRaise _ 1))
    split
    · exact s.driveOnly_refl
    · exact s.driveOnly_rotMap _

theorem State.driveOnly_askLegs (s : State) (u v w : Leg) : s.driveOnly (s.askLegs u v w) := by
  unfold State.askLegs
  split
  · exact s.driveOnly_refl
  · exact s.driveOnly_rotMap _

theorem State.driveOnly_gatesOff (s : State) : s.driveOnly s.gatesOff := s.driveOnly_rotMap _

theorem State.driveOnly_goAsc (s : State) : s.driveOnly s.goAsc := (s.driveOnly_setRot _).trans (State.driveOnly_askLegs _ _ _ _)

theorem State.driveOnly_goCoast (s : State) : s.driveOnly s.goCoast := by
  unfold State.goCoast
  split
  · exact s.driveOnly_goAsc
  · exact (s.driveOnly_setRot _).trans (State.driveOnly_gatesOff _)

theorem State.driveOnly_safeOff (s : State) : s.driveOnly s.safeOff := by
  unfold State.safeOff
  split
  · exact (s.driveOnly_setRot _).trans (State.driveOnly_gatesOff _)
  · split
    · exact s.driveOnly_goAsc
    · exact s.driveOnly_goCoast

theorem State.driveOnly_rotWarm (s : State) (v : Int) : s.driveOnly (s.rotWarm v) := by
  unfold State.rotWarm
  split
  · exact s.driveOnly_refl
  · exact ((s.driveOnly_rotMap _).trans (State.driveOnly_safeOff _)).trans (State.driveOnly_rotMap _ _)

/-! ## The fault log -/

/-- In `t` only SRAM, the memory-integrity unit, LOG_HEAD and LOG_CNT may differ. -/
def State.logOnly (s t : State) : Prop :=
  (∀ a, a ≠ R.FAULT_LOG_HEAD_IDX.addr → a ≠ R.FAULT_LOG_CNT_CNT.addr → t.rd a = s.rd a) ∧
  t = { s with sram := t.sram, memi := t.memi, regs := t.regs }

theorem State.logOnly_refl (s : State) : s.logOnly s := ⟨fun _ _ _ => rfl, rfl⟩

theorem State.logOnly.trans {s t u : State} (h : s.logOnly t) (k : t.logOnly u) : s.logOnly u := by
  obtain ⟨hw, hf⟩ := h
  obtain ⟨kw, kf⟩ := k
  refine ⟨fun a hh hc => (kw a hh hc).trans (hw a hh hc), kf.trans ?_⟩
  rw [hf]

theorem State.logOnly_storeRaw (s : State) (r w : Nat) (v : Strong) : s.logOnly (s.storeRaw r w v) := by
  unfold State.storeRaw
  split <;> exact ⟨fun _ _ _ => rfl, rfl⟩

theorem State.logOnly_storeInj (s : State) (r w : Nat) (v : Strong) : s.logOnly (s.storeInj r w v) := by
  unfold State.storeInj
  split
  · split
    · exact (s.logOnly_storeRaw r w _).trans ⟨fun _ _ _ => rfl, rfl⟩
    · exact s.logOnly_storeRaw r w v
  · exact s.logOnly_storeRaw r w v

theorem State.logOnly_wrote (s : State) (r w : Nat) : s.logOnly (s.wrote r w) := by
  unfold State.wrote State.wroteN State.dropBacks
  exact ⟨fun _ _ _ => rfl, rfl⟩

theorem State.logOnly_sramPut (s : State) (r w : Nat) (d : Word) : s.logOnly (s.sramPut r w d) :=
  (s.logOnly_storeInj r w _).trans (State.logOnly_wrote _ r w)

theorem State.logOnly_set (s : State) (f : Fld) (v : Nat) (h : f.addr = R.FAULT_LOG_HEAD_IDX.addr ∨ f.addr = R.FAULT_LOG_CNT_CNT.addr) :
    s.logOnly (s.set f v) := by
  refine ⟨fun a hh hc => State.rd_set_other _ _ _ ?_, rfl⟩
  obtain h | h := h <;> rwa [h]

theorem State.logOnly_logWrite (s : State) (e : LogEnt) : s.logOnly (s.logWrite e) := by
  unfold State.logWrite
  exact ((foldl_rel State.logOnly_refl (fun _ _ _ => State.logOnly.trans) _ (fun s p => s.logOnly_sramPut _ _ _) _ s).trans
    (State.logOnly_set _ _ _ (.inl rfl))).trans (State.logOnly_set _ _ _ (.inr rfl))

/-! ## The stages of a warm reset -/

/-- The ports stop and the angle unit and the collector's windows are reset: the first assignments of `execWarmReset`. -/
def State.warmHalt (s : State) : State := { s with
  cp := { s.cp with rst := .warm, wasCold := false, ready := false, hold := none, rdata := 0, fout := s.faultOut }
  mp := s.mp.warm, pins := { s.pins with pulse := 0, trigAt := none }, flt := s.flt.warm, ang := {} }

/-- Every channel is reset. -/
def State.warmChans (s : State) : State := (List.range 48).foldl State.chanWarm s

/-- Every domain that is not OFF is isolated, and its SRAM lost. -/
def State.warmDoms (s : State) : State := (List.range 13).foldl State.domWarm s.sramReset

/-- The groups and the lanes are reset. -/
def State.warmLanes (s : State) : State := (List.range 12).foldl State.laneLose { s with grps := [] }

/-- The units of CORE are reset; the memory ports keep what they have granted. -/
def State.warmCore (s : State) : State := { s.coreLose with mp := s.mp }

/-- Every unit has been reset, and the register words have not. -/
def State.warmUnits (s : State) : State := s.warmHalt.warmChans.warmDoms.warmLanes.warmCore

/-- The register words and the drive are reset. -/
def State.warmWords (s : State) (v : Int) : State :=
  ((s.regsReset (fun _ => true)).rotWarm v).wr (evtAddr .rotor 0) 0

/-- The reset is counted, the rest of the state cleared, and the restart marked in the fault log. -/
def State.warmMark (s : State) (time : Nat) : State :=
  let s := (s.set R.SYS_STATUS_WARM 1).bump R.FAULT_RST_CNT_CNT
  let s : State := { s with pwr := { doms := s.pwr.doms }, memi := { fuse := s.memi.fuse }, cyc := 0 }
  s.logWrite ⟨time, 0, 7, false, 0, BitVec.ofNat 32 (s.get R.FAULT_RST_CNT_CNT)⟩

/-- The state that WARM_RESET answers. -/
def State.warmed (s : State) : State := (s.warmUnits.warmWords s.estN).warmMark s.cyc

theorem exec_warmReset {s : State} (h : s.cp.rst ≠ .cold) : exec .warmReset s = .next s.warmed := by
  rw [exec, execWarmReset, if_neg h]
  unfold State.warmed State.warmMark State.warmWords State.warmUnits State.warmCore State.warmLanes State.warmDoms State.warmChans
    State.warmHalt evtAddr
  dsimp only

/-! ## What the units hold after a warm reset -/

section
variable (s : State)

@[simp] theorem State.warmChans_keep :
    s.warmChans.cp = s.cp ∧ s.warmChans.ext = s.ext ∧ s.warmChans.ang = s.ang ∧ s.warmChans.pwr = s.pwr ∧
    s.warmChans.mp = s.mp ∧ s.warmChans.regs = s.regs := by
  unfold State.warmChans
  rw [foldl_part State.mp _ State.chanWarm_mp, foldl_part State.regs _ State.chanWarm_regs]
  simp

@[simp] theorem State.warmDoms_keep :
    s.warmDoms.cp = s.cp ∧ s.warmDoms.ext = s.ext ∧ s.warmDoms.ang = s.ang ∧
    s.warmDoms.mp = s.mp ∧ s.warmDoms.chans = s.chans ∧ s.warmDoms.regs = s.sramReset.regs := by
  unfold State.warmDoms
  rw [foldl_part State.mp _ State.domWarm_mp, foldl_part State.regs _ State.domWarm_regs, foldl_part State.chans _ State.domWarm_chans]
  simp

@[simp] theorem State.warmLanes_keep :
    s.warmLanes.cp = s.cp ∧ s.warmLanes.ext = s.ext ∧ s.warmLanes.ang = s.ang ∧ s.warmLanes.pwr = s.pwr ∧
    s.warmLanes.mp = s.mp ∧ s.warmLanes.regs = s.regs ∧ s.warmLanes.chans = s.chans := by
  unfold State.warmLanes
  rw [foldl_part State.mp _ State.laneLose_mp, foldl_part State.regs _ State.laneLose_regs,
    foldl_part State.chans _ State.laneLose_chans]
  simp

@[simp] theorem State.warmCore_keep :
    s.warmCore.cp = s.cp ∧ s.warmCore.ext = s.ext ∧ s.warmCore.ang = s.ang ∧ s.warmCore.pwr = s.pwr ∧
    s.warmCore.mp = s.mp ∧ s.warmCore.regs = s.regs ∧ s.warmCore.chans = s.chans :=
  ⟨rfl, rfl, rfl, rfl, rfl, rfl, rfl⟩

theorem State.warmCore_cleared : s.warmCore.map = {} ∧ s.warmCore.rng = {} ∧ s.warmCore.dec = {} ∧ s.warmCore.lnk = {} :=
  ⟨rfl, rfl, rfl, rfl⟩

theorem State.st_warmDoms {d : Nat} (hd : d < 13) :
    (s.warmDoms.dom d).st = if (s.dom d).st = .off then .off else .poweringDown := by
  have hp : s.sramReset.pwr = s.pwr := by simp
  have hs : (s.sramReset.dom d).st = (s.dom d).st := by rw [State.dom, State.dom, hp]
  refine (State.st_foldl_domWarm _ 13 d).trans ?_
  rw [hs]
  by_cases hoff : (s.dom d).st = .off <;> simp [hoff, hd]

end

theorem State.warmUnits_regs (s : State) : s.warmUnits.regs = s.warmHalt.warmChans.sramReset.regs := by
  simp [State.warmUnits]

theorem State.ch_warmUnits (s : State) {n : Nat} (hn : n < 48) : s.warmUnits.ch n = s.warmCh n := by
  have hc : s.warmUnits.chans = s.warmHalt.warmChans.chans := by simp [State.warmUnits]
  rw [State.ch, hc]
  refine ((State.ch_foldl_chanWarm s.warmHalt 48 n).trans (if_pos hn)).trans (State.warmCh_congr rfl rfl rfl)

theorem State.st_warmUnits (s : State) {d : Nat} (hd : d < 13) :
    (s.warmUnits.dom d).st = if (s.dom d).st = .off then .off else .poweringDown := by
  have hp : s.warmUnits.pwr = s.warmHalt.warmChans.warmDoms.pwr := by simp [State.warmUnits]
  have hs : s.warmHalt.warmChans.pwr = s.pwr := by simp [State.warmHalt]
  have h := s.warmHalt.warmChans.st_warmDoms hd
  unfold State.dom at h ⊢
  rw [hp, h, hs]

/-! ## What the reset of the words and the mark in the log leave -/

/-- The rest of a warm reset leaves what the units hold, and clears the core-cycle counter. -/
theorem State.warmMark_keep (u : State) (v : Int) (time : Nat) {t : State} (h : (u.warmWords v).warmMark time = t) :
    t.cp = u.cp ∧ t.cyc = 0 ∧ t.ext = u.ext ∧ t.ang = u.ang ∧ t.map = u.map ∧ t.rng = u.rng ∧ t.dec = u.dec ∧ t.lnk = u.lnk ∧
    t.mp = u.mp ∧ t.chans = u.chans ∧ t.pwr.doms = u.pwr.doms := by
  obtain ⟨w, hw⟩ := u.regsReset_frame (fun _ => true)
  obtain ⟨rot, regs, pins, hd⟩ : ∃ rot regs pins, u.warmWords v = { u with rot := rot, regs := regs, pins := pins } := by
    have hd := (State.driveOnly_rotWarm (u.regsReset (fun _ => true)) v).2
    rw [State.warmWords, hd, hw]
    exact ⟨_, _, _, rfl⟩
  rw [← h, hd, State.warmMark, (State.logOnly_logWrite _ _).2]
  exact ⟨rfl, rfl, rfl, rfl, rfl, rfl, rfl, rfl, rfl, rfl, rfl⟩

/-- A field outside LOG_HEAD and LOG_CNT after the mark. -/
theorem State.get_warmMark (s : State) (time : Nat) {f : Fld} (hh : f.addr ≠ R.FAULT_LOG_HEAD_IDX.addr) (hc : f.addr ≠ R.FAULT_LOG_CNT_CNT.addr) :
    (s.warmMark time).get f = ((s.set R.SYS_STATUS_WARM 1).bump R.FAULT_RST_CNT_CNT).get f :=
  State.get_of_rd ((State.logOnly_logWrite _ _).1 _ hh hc)

theorem State.flag_warm_warmMark (s : State) (time : Nat) : (s.warmMark time).flag R.SYS_STATUS_WARM = true := by
  have h : (s.warmMark time).get R.SYS_STATUS_WARM = 1 := by
    rw [State.get_warmMark s time (by decide) (by decide)]
    exact (State.get_set_other _ _ (by decide)).trans (State.get_set_same _ _ _ (by decide))
  simp [State.flag, h]

theorem State.get_rstCnt_warmMark (s : State) (time : Nat) :
    (s.warmMark time).get R.FAULT_RST_CNT_CNT = sat R.FAULT_RST_CNT_CNT.max (s.get R.FAULT_RST_CNT_CNT + 1) := by
  rw [State.get_warmMark s time (by decide) (by decide), State.get_bump_same _ _ (by decide), State.get_set_other _ _ (by decide)]

theorem State.get_rstCnt_warmWords (s : State) (v : Int) :
    (s.warmWords v).get R.FAULT_RST_CNT_CNT = (s.regsReset (fun _ => true)).get R.FAULT_RST_CNT_CNT :=
  State.get_of_rd ((State.rd_wr_other _ _ (by decide)).trans ((State.driveOnly_rotWarm _ v).1 _ (by decide)))

/-- The count after a warm reset is one more than what the reset of the register words leaves of it. -/
theorem State.get_rstCnt_warmed (s : State) : s.warmed.get R.FAULT_RST_CNT_CNT =
    sat R.FAULT_RST_CNT_CNT.max ((s.warmUnits.regsReset (fun _ => true)).get R.FAULT_RST_CNT_CNT + 1) := by
  rw [State.warmed, State.get_rstCnt_warmMark, State.get_rstCnt_warmWords]

/-! ## The count of resets -/

/-- `t` has the reset count of `s`, and rising keys in its register table where `s` has. -/
def State.rstKept (s t : State) : Prop :=
  t.rd R.FAULT_RST_CNT_CNT.addr = s.rd R.FAULT_RST_CNT_CNT.addr ∧ (tsorted s.regs = true → tsorted t.regs = true)

theorem State.rstKept_of_regs {s t : State} (h : t.regs = s.regs) : s.rstKept t := by
  unfold State.rstKept State.rd
  rw [h]
  exact ⟨rfl, id⟩

theorem State.rstKept_refl (s : State) : s.rstKept s := State.rstKept_of_regs rfl

theorem State.rstKept.trans {s t u : State} (h : s.rstKept t) (k : t.rstKept u) : s.rstKept u := by
  obtain ⟨hrd, hsort⟩ := h
  obtain ⟨krd, ksort⟩ := k
  exact ⟨krd.trans hrd, ksort ∘ hsort⟩

theorem State.rstKept_remapCount (s : State) (r : Nat) : s.rstKept (s.remapCount r) := by
  refine ⟨State.rd_set_other _ _ _ ?_, tput_sorted _ _ _ _⟩
  change 0x306C ≠ 0x4118 + r * 0x20
  omega

theorem State.rstKept_sramLose (s : State) (d : Nat) : s.rstKept (s.sramLose d) := by
  unfold State.sramLose
  refine State.rstKept.trans (State.rstKept_of_regs ?_)
    (foldl_rel State.rstKept_refl (fun _ _ _ => State.rstKept.trans) _ State.rstKept_remapCount _ _)
  rfl

theorem State.rstKept_sramReset (s : State) : s.rstKept s.sramReset := by
  refine foldl_rel State.rstKept_refl (fun _ _ _ => State.rstKept.trans) _ (fun s d => ?_) _ _
  split
  · exact s.rstKept_refl
  · exact s.rstKept_sramLose d

theorem State.rstKept_warmUnits (s : State) : s.rstKept s.warmUnits := by
  have hr : s.warmHalt.warmChans.regs = s.regs := by simp [State.warmHalt]
  have h := s.warmHalt.warmChans.rstKept_sramReset
  unfold State.rstKept State.rd at h ⊢
  rwa [s.warmUnits_regs, ← hr]

/-- RST_CNT is kept whole by a warm reset (R22). -/
theorem State.get_rstCnt_regsReset {s : State} (hs : tsorted s.regs = true) :
    (s.regsReset (fun _ => true)).get R.FAULT_RST_CNT_CNT = s.get R.FAULT_RST_CNT_CNT := by
  have hk : ∀ v, keptWord R.FAULT_RST_CNT_CNT.addr v = v &&& 0xFFFF#32 := by
    intro v
    have hm : keepMask R.FAULT_RST_CNT_CNT.addr = 0xFFFF#32 := by decide
    have hv : resetVal R.FAULT_RST_CNT_CNT.addr = 0#32 := by decide
    rw [keptWord, hm, hv, BitVec.zero_and, BitVec.or_zero]
  rw [State.get, State.get, State.rd_regsReset hs rfl (by decide), hk, BitVec.toNat_and]
  change (_ &&& 2 ^ 16 - 1) / 2 ^ 0 % 2 ^ 16 = _ / 2 ^ 0 % 2 ^ 16
  rw [Nat.and_two_pow_sub_one_eq_mod, Nat.pow_zero, Nat.div_one, Nat.div_one, Nat.mod_mod]

theorem State.warmed_units (s : State) :
    s.warmed.cp = s.warmHalt.cp ∧ s.warmed.cyc = 0 ∧ s.warmed.ext = s.ext ∧ s.warmed.ang = {} ∧ s.warmed.map = {} ∧
    s.warmed.rng = {} ∧ s.warmed.dec = {} ∧ s.warmed.lnk = {} ∧ s.warmed.mp = s.mp.warm := by
  have hu : s.warmUnits.cp = s.warmHalt.cp ∧ s.warmUnits.ext = s.ext ∧ s.warmUnits.ang = {} ∧ s.warmUnits.mp = s.mp.warm := by
    simp [State.warmUnits, State.warmHalt]
  obtain ⟨hcp, hext, hang, hmp⟩ := hu
  obtain ⟨hmap, hrng, hdec, hlnk⟩ : s.warmUnits.map = {} ∧ s.warmUnits.rng = {} ∧ s.warmUnits.dec = {} ∧ s.warmUnits.lnk = {} :=
    State.warmCore_cleared _
  obtain ⟨kcp, kcyc, kext, kang, kmap, krng, kdec, klnk, kmp, -, -⟩ := State.warmMark_keep _ _ _ (rfl : _ = s.warmed)
  exact ⟨kcp.trans hcp, kcyc, kext.trans hext, kang.trans hang, kmap.trans hmap, krng.trans hrng, kdec.trans hdec, klnk.trans hlnk,
    kmp.trans hmp⟩

theorem State.ch_warmed (s : State) {n : Nat} (hn : n < 48) : s.warmed.ch n = s.warmCh n := by
  obtain ⟨-, -, -, -, -, -, -, -, -, hchans, -⟩ := State.warmMark_keep _ _ _ (rfl : _ = s.warmed)
  rw [← s.ch_warmUnits hn, State.ch, hchans, State.ch]

theorem State.st_warmed (s : State) {d : Nat} (hd : d < 13) :
    (s.warmed.dom d).st = if (s.dom d).st = .off then .off else .poweringDown := by
  obtain ⟨-, -, -, -, -, -, -, -, -, -, hdoms⟩ := State.warmMark_keep _ _ _ (rfl : _ = s.warmed)
  rw [← s.st_warmUnits hd, State.dom, hdoms, State.dom]

/-- What O8 says of WARM_RESET holds wherever the register table has rising keys, as the reset state has them and every write of a word
leaves them (`tput_sorted`). -/
theorem warmReset_of_sorted {s : State} (hc : s.cp.rst ≠ .cold) (hs : tsorted s.regs = true) :
    ∃ t, exec .warmReset s = .next t ∧ t.cp.rst = .warm ∧ t.cp.ready = false ∧ t.cp.held = s.cp.held ∧
      t.cp.hold = none ∧ t.cyc = 0 ∧ t.ext = s.ext ∧ t.ang = {} ∧ t.map = {} ∧ t.rng = {} ∧ t.dec = {} ∧ t.lnk = {} ∧
      t.mp.queue = [] ∧ t.mp.done = [] ∧ t.mp.reads = s.mp.reads.map (fun r => { r with use := .none }) ∧
      t.mp.writes = s.mp.writes.map (fun w => { w with use := .none }) ∧
      t.flag R.SYS_STATUS_WARM = true ∧
      t.get R.FAULT_RST_CNT_CNT = sat R.FAULT_RST_CNT_CNT.max (s.get R.FAULT_RST_CNT_CNT + 1) ∧
      (∀ d < 13, (t.dom d).st = if (s.dom d).st = .off then .off else .poweringDown) ∧
      (∀ n < 48, t.ch n = s.warmCh n) := by
  obtain ⟨hrst, hsort⟩ := s.rstKept_warmUnits
  have hcnt : s.warmed.get R.FAULT_RST_CNT_CNT = sat R.FAULT_RST_CNT_CNT.max (s.get R.FAULT_RST_CNT_CNT + 1) := by
    rw [State.get_rstCnt_warmed, State.get_rstCnt_regsReset (hsort hs), State.get_of_rd hrst]
  obtain ⟨hcp, hcyc, hext, hang, hmap, hrng, hdec, hlnk, hmp⟩ := s.warmed_units
  refine ⟨s.warmed, exec_warmReset hc, ?_⟩
  rw [hcp, hmp]
  exact ⟨rfl, rfl, rfl, rfl, hcyc, hext, hang, hmap, hrng, hdec, hlnk, rfl, rfl, rfl, rfl, State.flag_warm_warmMark _ _, hcnt,
    fun _ => s.st_warmed, fun _ => s.ch_warmed⟩

/-! ## The end of the hold of FLn_WP_N -/

/-- Channel `n` no longer holds FLn_WP_N, and is released. -/
def State.wpReleased (s : State) (n : Nat) : State := s.chMap n (fun c => { c with wp := false, wpHeld := false, own := {} })

/-- A warm reset powers the group down, and no slice of it is held any more. -/
abbrev State.lastSlice (s : State) (d : Nat) : Prop :=
  (s.dom d).warm ∧ (s.dom d).st = .poweringDown ∧ (domChans d).all (fun n => !(s.ch n).wpHeld)

theorem exec_wpHoldEnd {s : State} {ch : Fin 48} (h : (s.ch ch).wpHeld = true) :
    exec (.wpHoldEnd ch) s = .next (if (s.wpReleased ch).lastSlice (chDom ch) then
      (s.wpReleased ch).domMap (chDom ch) (fun y => { y with req := false }) else s.wpReleased ch) := by
  rw [exec, execWpHoldEnd, h]
  rfl

/-- What O8 says of WP_HOLD_END holds in every state. -/
theorem wpHoldEnd_releases {s : State} {ch : Fin 48} (h : (s.ch ch).wpHeld = true) : ∃ t, exec (.wpHoldEnd ch) s = .next t ∧
    (t.ch ch).wp = false ∧ (t.ch ch).wpHeld = false ∧ (t.ch ch).own = {} ∧ (∀ n, n ≠ ch.val → t.ch n = s.ch n) ∧
    (∀ d, d ≠ chDom ch → t.dom d = s.dom d) ∧
    ((s.dom (chDom ch)).warm = true → (s.dom (chDom ch)).st = .poweringDown →
      (∀ n ∈ domChans (chDom ch), n ≠ ch.val → (s.ch n).wpHeld = false) → (t.dom (chDom ch)).req = false) ∧
    t = { s with chans := t.chans, pwr := { s.pwr with doms := t.pwr.doms } } := by
  have hch : ∀ k, (s.wpReleased ch).ch k = if k = ch then { s.ch ch with wp := false, wpHeld := false, own := {} } else s.ch k :=
    fun k => State.ch_chMap _ _ _ _
  have hself := (hch ch).trans (if_pos rfl)
  have hother := fun k (hk : k ≠ ch.val) => (hch k).trans (if_neg hk)
  rw [exec_wpHoldEnd h]
  split
  case isTrue hlast =>
    refine ⟨_, rfl, congrArg ChS.wp hself, congrArg ChS.wpHeld hself, congrArg ChS.own hself, hother, fun d hd => ?_, fun _ _ _ => ?_, rfl⟩
    · exact (State.dom_domMap _ _ _ _).trans (if_neg hd)
    · rw [State.dom_domMap, if_pos rfl]
  case isFalse hmore =>
    refine ⟨_, rfl, congrArg ChS.wp hself, congrArg ChS.wpHeld hself, congrArg ChS.own hself, hother, fun _ _ => rfl,
      fun hwarm hst hrest => absurd ⟨hwarm, hst, ?_⟩ hmore, rfl⟩
    refine List.all_eq_true.mpr fun n hn => ?_
    by_cases hk : n = ch
    · rw [hk, hself]
      rfl
    · rw [hother n hk, hrest n hn hk]
      rfl

/-! ## The counterexample to the count of resets -/

/-- The reset state but for a register table that lists RST_CNT twice, 0 first: it reads 0, the value of an unlisted word. -/
def rstCntTwice : State := { regs := [(R.FAULT_RST_CNT_CNT.addr, 0), (R.FAULT_RST_CNT_CNT.addr, 5)] }

theorem rstCntTwice_not_cold : rstCntTwice.cp.rst ≠ .cold := by decide

theorem rstCntTwice_warmUnits_regs : rstCntTwice.warmUnits.regs = rstCntTwice.regs := by
  have hp : rstCntTwice.warmHalt.warmChans.pwr = {} := by simp [State.warmHalt, rstCntTwice]
  have hr : rstCntTwice.warmHalt.warmChans.regs = rstCntTwice.regs := by simp [State.warmHalt]
  rw [State.warmUnits_regs, State.sramReset_of_off, hr]
  intro d
  rw [State.dom, hp]
  rfl

/-- A warm reset drops the first entry, and the second comes to light. -/
theorem rstCntTwice_warmed : rstCntTwice.warmed.get R.FAULT_RST_CNT_CNT = 6 := by
  have hrd : (rstCntTwice.warmUnits.regsReset (fun _ => true)).rd R.FAULT_RST_CNT_CNT.addr = 5#32 := by
    rw [State.rd_regsReset_table _ _ (by decide), rstCntTwice_warmUnits_regs]
    decide
  rw [State.get_rstCnt_warmed, State.get, hrd]
  decide

end Sys2Proof.Machine

/-- Settles O4: the reset state lists no register word and no part of a unit, so each clause reads a default. -/
theorem resetStateIsAsTheSpecSays : Obligations.ResetStateIsAsTheSpecSays :=
  ⟨fun _ => rfl, rfl, rfl, rfl, fun _ => ⟨rfl, rfl⟩, rfl, rfl, rfl, rfl, reset_ext_wf, rfl⟩

/-- Settles O7: the resets touch the register words through the straps and the words of `strapAddr` alone. -/
theorem coldResetAndReleaseReset : Obligations.ColdResetAndReleaseReset := by
  refine ⟨fun s => ?cold, fun s lot die xl rf hc => ?release, exec_resetRelease_warm⟩
  case cold =>
    obtain ⟨m, e, hexec⟩ := exec_coldReset s
    obtain ⟨w, hw, hrd⟩ := (s.coldBase m e).strapRegs_words (fun _ => true)
    have hreset : ∀ a, strapAddr a = false → State.rd { s.coldBase m e with regs := w } a = resetVal a :=
      fun a ha => (hrd a ha).trans (s.rd_coldBase m e a)
    refine ⟨{ s.coldBase m e with regs := w }, by rw [hexec, hw], hreset, ?grave, rfl, rfl, rfl, rfl, acksOnly_off _, rfl, rfl, rfl⟩
    exact State.grave_of_rd_reset (hreset _ (by decide))
  case release =>
    obtain ⟨w, hw⟩ := State.regsReset_frame { s with
      cp := { s.cp with rst := .none, idLot := lot, idDie := die, xlIdx := xl, rfPrimary := rf }, cyc := 0 } strapAddr
    refine ⟨_, (exec_resetRelease_cold s lot die xl rf hc).trans (congrArg _ hw), rfl, rfl, fun a ha => ?_, rfl⟩
    rw [← hw]
    exact State.rd_regsReset_other _ ha ha

/-- Settles O10: the port's four answers, then the effect on a word whose bits are all RW. -/
theorem registerWriteReachesItsWord : Obligations.RegisterWriteReachesItsWord := by
  refine ⟨fun s a be d hr => ?held, fun s a be d hr ha => ?absent, fun s a be d k hr ha hp => ?off, fun s be d ht hbe => ?scratch,
    fun s k d ht => ?evtEn⟩
  case held => rw [exec_registerWrite, State.cpWr_held _ _ _ _ _ hr]
  case absent => rw [exec_registerWrite, State.cpWr_absent _ _ _ _ _ hr ha]
  case off =>
    refine ⟨s.offAccess (a.toNat / 4 * 4), ?_, ?_, s.event_offAccess _, s.wordsKept_offAccess _, s.offAccess_frame _⟩
    · rw [exec_registerWrite, State.cpWr_off _ _ _ _ _ _ hr ha hp]
    · have := a.isLt
      rw [State.get_offAccess _ (by omega)]
      omega
  case scratch => exact congrArg Host.Outcome.next ((State.cpWr_taken _ _ _ _ _ ht).trans (cpEffect_scratch s be d hbe))
  case evtEn =>
    obtain ⟨-, dom, hdom, -⟩ := id ht
    obtain ⟨p, n, hpage⟩ := State.page_of_addrDom_evtEn k.isLt hdom
    have haddr : (BitVec.ofNat 24 (k.val * 0x1000 + 0x14)).toNat / 4 * 4 = k.val * 0x1000 + 0x14 := by
      rw [BitVec.toNat_ofNat, Nat.mod_eq_of_lt (by omega)]
      omega
    refine ⟨s.wr (k.val * 0x1000 + 0x14) d, ?_, State.rd_wr_same _ _ _, fun a ha => ?_, rfl⟩
    · rw [exec_registerWrite, haddr, State.cpWr_taken _ _ _ _ _ ht, cpEffect_evtEn s d k.isLt hpage]
    · exact State.rd_wr_other _ _ (by simpa using ha)

/-- Refutes O8 for a register table that is not in canonical form, which the statement does not exclude: `rstCntTwice` lists RST_CNT as 0
and again as 5, the word reads 0, and WARM_RESET counts from 5. In a table with rising keys the clauses of WARM_RESET hold
(`warmReset_of_sorted`), and those of WP_HOLD_END hold in every state (`wpHoldEnd_releases`). -/
theorem not_warmResetKeepsMemoryAndIsolatesDomains : ¬ Obligations.WarmResetKeepsMemoryAndIsolatesDomains := by
  rintro ⟨hwarm, -⟩
  obtain ⟨t, hexec, hrest⟩ := hwarm rstCntTwice rstCntTwice_not_cold
  obtain ⟨-, -, -, -, -, -, -, -, -, -, -, -, -, -, -, -, hcnt, -⟩ := hrest
  rw [exec_warmReset rstCntTwice_not_cold] at hexec
  obtain rfl := Host.Outcome.next.inj hexec
  rw [rstCntTwice_warmed] at hcnt
  exact absurd hcnt (by decide)

end

-- What every command keeps: the queue, the generation parameters, the gates of the bridge apart, memory in canonical form.
section

open Sys2Proof Sys2Proof.Machine

namespace Sys2Proof.Machine

/-! ## What a command keeps -/

/-- `t` has the queue, the generation parameters, the drive and external memory of `s`. -/
def State.rests (s t : State) : Prop := t.pending = s.pending ∧ t.gen = s.gen ∧ t.rot = s.rot ∧ t.ext = s.ext

/-- `t` has the queue, the generation parameters and external memory of `s`, and no leg is short-circuited where none was. -/
def State.drives (s t : State) : Prop := (t.pending = s.pending ∧ t.gen = s.gen ∧ t.ext = s.ext) ∧ (s.legsApart → t.legsApart)

/-- `t` has the queue and the generation parameters of `s`, and the two invariants of the block where `s` has them: no leg
short-circuited (R66), and external memory in its canonical form. -/
def State.keeps (s t : State) : Prop :=
  t.pending = s.pending ∧ t.gen = s.gen ∧ (s.legsApart → t.legsApart) ∧ (Memory.wf s.ext = true → Memory.wf t.ext = true)

/-- A command answers a next state, which keeps what `State.keeps` says. -/
def State.goes (s : State) (o : Out) : Prop := ∃ t, o = .next t ∧ s.keeps t

theorem State.rests.drives {s t : State} (h : s.rests t) : s.drives t := by
  obtain ⟨hp, hg, hr, he⟩ := h
  refine ⟨⟨hp, hg, he⟩, fun k => ?_⟩
  rwa [State.legsApart, hr]

theorem State.drives.keeps {s t : State} (h : s.drives t) : s.keeps t := by
  obtain ⟨⟨hp, hg, he⟩, hr⟩ := h
  exact ⟨hp, hg, hr, fun k => by rwa [he]⟩

theorem State.rests_refl (s : State) : s.rests s := ⟨rfl, rfl, rfl, rfl⟩

theorem State.rests.trans {s t u : State} (h : s.rests t) (k : t.rests u) : s.rests u := by
  obtain ⟨hp, hg, hr, he⟩ := h
  obtain ⟨kp, kg, kr, ke⟩ := k
  exact ⟨kp.trans hp, kg.trans hg, kr.trans hr, ke.trans he⟩

theorem State.drives_refl (s : State) : s.drives s := s.rests_refl.drives

theorem State.drives.trans {s t u : State} (h : s.drives t) (k : t.drives u) : s.drives u := by
  obtain ⟨⟨hp, hg, he⟩, hr⟩ := h
  obtain ⟨⟨kp, kg, ke⟩, kr⟩ := k
  exact ⟨⟨kp.trans hp, kg.trans hg, ke.trans he⟩, kr ∘ hr⟩

/-- A command whose next state rests goes on. -/
theorem State.goes_rests {s t : State} (h : s.rests t) : s.goes (.next t) := ⟨t, rfl, h.drives.keeps⟩

theorem State.goes_drives {s t : State} (h : s.drives t) : s.goes (.next t) := ⟨t, rfl, h.keeps⟩

/-- What the `_keep` laws say of a state's four parts. -/
theorem State.goes_idle {s t : State} (h : t.pending = s.pending ∧ t.gen = s.gen ∧ t.rot = s.rot ∧ t.ext = s.ext) :
    s.goes (.next t) := State.goes_rests h

/-- What the `_keep` and the `_apart` laws say together. -/
theorem State.goes_drive {s t : State} (h : t.pending = s.pending ∧ t.gen = s.gen ∧ t.ext = s.ext)
    (k : s.rot.gates.apart = true → t.rot.gates.apart = true) : s.goes (.next t) := State.goes_drives ⟨h, k⟩

/-! ## Operations that go on with another one -/

section
variable {s : State} {n : Nat} {d : Desc}

theorem State.rests_seqRun {op : Nat} {f : State → Nat → State} (h : ∀ (t : State) (w : Nat), t.rests (f t w)) :
    s.rests (s.seqRun n op f) :=
  ⟨State.seqRun_pending _ _ _ _ fun t w => (h t w).1, State.seqRun_gen _ _ _ _ fun t w => (h t w).2.1,
    State.seqRun_rot _ _ _ _ fun t w => (h t w).2.2.1, State.seqRun_ext _ _ _ _ fun t w => (h t w).2.2.2⟩

theorem State.rests_opRun {op : Nat} {f : State → Desc → State} (h : ∀ (t : State) (d : Desc), t.rests (f t d)) :
    s.rests (s.opRun n op f) :=
  ⟨State.opRun_pending _ _ _ _ fun t d => (h t d).1, State.opRun_gen _ _ _ _ fun t d => (h t d).2.1,
    State.opRun_rot _ _ _ _ fun t d => (h t d).2.2.1, State.opRun_ext _ _ _ _ fun t d => (h t d).2.2.2⟩

theorem State.rests_opSend {ops : List BusOp} {k : State → State} (h : ∀ t : State, t.rests (k t)) : s.rests (s.opSend n d ops k) :=
  ⟨State.opSend_pending _ _ _ _ _ fun t => (h t).1, State.opSend_gen _ _ _ _ _ fun t => (h t).2.1,
    State.opSend_rot _ _ _ _ _ fun t => (h t).2.2.1, State.opSend_ext _ _ _ _ _ fun t => (h t).2.2.2⟩

theorem State.rests_opRow {t cmd : Nat} {ops : List BusOp} {k : State → State} (h : ∀ u : State, u.rests (k u)) :
    s.rests (s.opRow n d t cmd ops k) :=
  ⟨State.opRow_pending _ _ _ _ _ _ _ fun t => (h t).1, State.opRow_gen _ _ _ _ _ _ _ fun t => (h t).2.1,
    State.opRow_rot _ _ _ _ _ _ _ fun t => (h t).2.2.1, State.opRow_ext _ _ _ _ _ _ _ fun t => (h t).2.2.2⟩

theorem State.rests_progOpen {p : Nat} {k : State → State} (h : ∀ t : State, t.rests (k t)) : s.rests (s.progOpen n d p k) :=
  ⟨State.progOpen_pending _ _ _ _ _ fun t => (h t).1, State.progOpen_gen _ _ _ _ _ fun t => (h t).2.1,
    State.progOpen_rot _ _ _ _ _ fun t => (h t).2.2.1, State.progOpen_ext _ _ _ _ _ fun t => (h t).2.2.2⟩

theorem State.rests_burstOut {t p c l : Nat} {b : DieBurst} {bad good : State → State} (hb : ∀ u : State, u.rests (bad u))
    (hg : ∀ u : State, u.rests (good u)) : s.rests (s.burstOut n d t p c l b bad good) :=
  ⟨State.burstOut_pending _ _ _ _ _ _ _ _ _ _ (fun t => (hb t).1) fun t => (hg t).1,
    State.burstOut_gen _ _ _ _ _ _ _ _ _ _ (fun t => (hb t).2.1) fun t => (hg t).2.1,
    State.burstOut_rot _ _ _ _ _ _ _ _ _ _ (fun t => (hb t).2.2.1) fun t => (hg t).2.2.1,
    State.burstOut_ext _ _ _ _ _ _ _ _ _ _ (fun t => (hb t).2.2.2) fun t => (hg t).2.2.2⟩

theorem State.rests_readOut {t : Nat} {bad k : State → State} {l : List Chunk} {bs : List DieBurst} (hb : ∀ u : State, u.rests (bad u))
    (hk : ∀ u : State, u.rests (k u)) : s.rests (State.readOut n d t bad k l bs s) :=
  ⟨State.readOut_pending _ _ _ _ _ _ _ _ (fun t => (hb t).1) fun t => (hk t).1,
    State.readOut_gen _ _ _ _ _ _ _ _ (fun t => (hb t).2.1) fun t => (hk t).2.1,
    State.readOut_rot _ _ _ _ _ _ _ _ (fun t => (hb t).2.2.1) fun t => (hk t).2.2.1,
    State.readOut_ext _ _ _ _ _ _ _ _ (fun t => (hb t).2.2.2) fun t => (hk t).2.2.2⟩

theorem State.rests_linkTake {r : LRec} {f : State → State} (h : ∀ t : State, t.rests (f t)) : s.rests (s.linkTake r f) :=
  ⟨State.linkTake_pending _ _ _ fun t => (h t).1, State.linkTake_gen _ _ _ fun t => (h t).2.1,
    State.linkTake_rot _ _ _ fun t => (h t).2.2.1, State.linkTake_ext _ _ _ fun t => (h t).2.2.2⟩

theorem State.drives_cpWr {a : Nat} {be : BitVec 4} {data : Word} {f : State → State} (h : ∀ t : State, t.drives (f t)) :
    s.drives (s.cpWr a be data f) :=
  ⟨⟨State.cpWr_pending _ _ _ _ _ fun t => (h t).1.1, State.cpWr_gen _ _ _ _ _ fun t => (h t).1.2.1,
    State.cpWr_ext _ _ _ _ _ fun t => (h t).1.2.2⟩, fun k => State.cpWr_apart _ _ _ _ _ k fun t => (h t).2⟩

end

theorem State.rests_ite {s t u : State} {c : Prop} {_ : Decidable c} (ht : s.rests t) (hu : s.rests u) : s.rests (if c then t else u) := by
  split <;> assumption

theorem State.rests_phyErr (s : State) (n : Nat) (d : Desc) : s.rests (State.phyErr n d s) := by
  simp [State.rests, State.phyErr]

theorem State.rests_readSend (s : State) (n : Nat) (d : Desc) (t : Nat) (ps : List Nat) (k : Nat) : s.rests (s.readSend n d t ps k) := by
  simp [State.rests]

theorem State.rests_opFinish (s : State) (n : Nat) (d : Desc) (st e h2 h3 : Nat) : s.rests (s.opFinish n d st e h2 h3) := by
  simp [State.rests]

/-! ## The routines of the vendor opcodes -/

theorem State.rests_markOut {n : Nat} {d : Desc} {t : Nat} {k : Bool → State → State} (hk : ∀ m u, State.rests u (k m u)) :
    ∀ (ps : List Nat) (bs : List DieBurst) (m : Bool) (s : State), s.rests (State.markOut n d t k ps bs m s)
  | [], _, m, s => hk m s
  | _ :: ps, bs, _, _ => State.rests_burstOut (fun u => u.rests_phyErr n d) fun u => State.rests_markOut hk ps (bs.drop 1) _ u

theorem State.rests_progGo (n : Nat) (d : Desc) (status : BitVec 8) : ∀ (k : Nat) (s : State), s.rests (State.progGo n d status k s)
  | 0, s => s.rests_refl
  | k + 1, s => by
    unfold State.progGo
    dsimp only
    split_ifs
    · simp [State.rests, State.progPark]
    · exact s.rests_refl
    · unfold State.progConfirm
      dsimp only
      split_ifs <;> simp [State.rests]
    · exact State.rests.trans (by simp [State.rests]) (State.rests_progOpen (State.rests_progGo n d status k))

/-! ## The spool and the map -/

theorem State.rests_mpTake {s t : State} {p : MpUse → Bool} {r : MpRead} (h : s.mpTake p = some (r, t)) : s.rests t := by
  unfold State.mpTake at h
  split at h
  · obtain ⟨-, rfl⟩ := Prod.mk.inj (Option.some.inj h)
    exact ⟨rfl, rfl, rfl, rfl⟩
  · cases h

theorem State.rests_headPop {s t : State} {n : Nat} {it : Item} (h : s.headPop n = some (it, t)) : s.rests t := by
  obtain ⟨hp, hg, hr, he, -⟩ := State.headPop_keep _ _ _ _ h
  exact ⟨hp, hg, hr, he⟩

theorem State.rests_headTake (n : Nat) : ∀ (k : Nat) (s : State), s.rests (s.headTake n k).2
  | 0, s => s.rests_refl
  | k + 1, s => by
    unfold State.headTake
    split
    · exact s.rests_refl
    case h_2 it t e => exact (State.rests_headPop e).trans (State.rests_headTake n k t)

theorem State.rests_popItem {s t : State} {n : Nat} {it : Item} (h : s.popItem n = some (it, t)) : s.rests t := by
  unfold State.popItem at h
  dsimp only at h
  split at h
  · cases h
  split at h
  · obtain ⟨-, rfl⟩ := Prod.mk.inj (Option.some.inj h)
    simp [State.rests]
  · exact State.rests_headPop h

/-! ## The drive -/

/-- Through a change of the drive's own words, its gates apart. -/
theorem State.rotMap_apart {s : State} {f : RotS → RotS} (h : s.rot.gates.apart = true) (hf : ∀ r, (f r).gates = r.gates) :
    (s.rotMap f).rot.gates.apart = true := by
  rwa [State.rotMap_rot, hf]

theorem State.goes_ite {s : State} {c : Prop} {_ : Decidable c} {o p : Out} (ho : s.goes o) (hp : s.goes p) :
    s.goes (if c then o else p) := by
  split <;> assumption

theorem State.drives_keepSample (s : State) (i : Int) (t : Nat) : s.drives (s.keepSample i t) := ⟨by simp, State.keepSample_apart s i t⟩

theorem State.drives_ite {s t u : State} {c : Prop} {_ : Decidable c} (ht : s.drives t) (hu : s.drives u) :
    s.drives (if c then t else u) := by
  split <;> assumption

theorem State.drives_zeroEnd (s : State) : s.drives s.zeroEnd := ⟨by simp, State.zeroEnd_apart s⟩

theorem State.drives_driveVec (s : State) (k : Nat) : s.drives (s.driveVec k) := ⟨by simp, State.driveVec_apart s k⟩

theorem State.drives_lossSync (s : State) (v : Int) : s.drives (s.lossSync v) := ⟨by simp, State.lossSync_apart s v⟩

theorem State.drives_nextVec (s : State) (v : Int) : s.drives (s.nextVec v) := ⟨by simp, State.nextVec_apart s v⟩

theorem State.drives_decideRun (s : State) : s.drives s.decideRun := ⟨by simp, State.decideRun_apart s⟩

theorem State.drives_catchDone (s : State) : s.drives s.catchDone := ⟨by simp, State.catchDone_apart s⟩

theorem State.drives_runVec (s : State) : s.drives s.runVec := ⟨by simp, State.runVec_apart s⟩

theorem State.drives_askSector (s : State) : s.drives s.askSector := ⟨by simp, State.askSector_apart s⟩

theorem State.drives_goCoast (s : State) : s.drives s.goCoast := ⟨by simp, State.goCoast_apart s⟩

theorem State.drives_stepGo (s : State) : s.drives s.stepGo := ⟨by simp, State.stepGo_apart s⟩

theorem State.drives_setRot (s : State) (st : RotSt) : s.drives (s.setRot st) := ⟨by simp, State.setRot_apart s st⟩

theorem State.drives_freeCrossing (s : State) (p : Nat) (l : Bool) : s.drives (s.freeCrossing p l) :=
  ⟨by simp, State.freeCrossing_apart s p l⟩

theorem State.drives_catchCrossing (s : State) (p : Nat) (l : Bool) : s.drives (s.catchCrossing p l) :=
  ⟨by simp, State.catchCrossing_apart s p l⟩

theorem State.drives_stepCrossing (s : State) : s.drives s.stepCrossing := ⟨by simp, State.stepCrossing_apart s⟩

theorem State.drives_rotMap (s : State) {f : RotS → RotS} (hf : ∀ r, (f r).gates = r.gates := by intro; rfl) : s.drives (s.rotMap f) :=
  ⟨by simp, fun h => State.rotMap_apart h hf⟩

theorem State.drives_stepMap (s : State) (f : StepS → StepS) : s.drives (s.stepMap f) := ⟨by simp, State.stepMap_apart s f⟩

theorem State.drives_obsMap (s : State) (f : Obs → Obs) : s.drives (s.obsMap f) := ⟨by simp, State.obsMap_apart s f⟩

theorem State.drives_fuse (s : State) (k : Nat) : s.drives (s.fuse k) := State.rests.drives (by simp [State.rests])

theorem State.drives_observed (s : State) : s.drives s.observe.syncCount :=
  ⟨by simp, fun h => State.syncCount_apart _ (State.observe_apart _ h)⟩

theorem State.drives_reconstruct (s : State) : s.drives s.reconstruct := ⟨by simp, State.reconstruct_apart s⟩

theorem State.drives_rampRef (s : State) : s.drives s.rampRef := ⟨by simp, State.rampRef_apart s⟩

theorem State.drives_stepCurrents (s : State) : s.drives s.stepCurrents := ⟨by simp, State.stepCurrents_apart s⟩

theorem State.drives_sectorTimed (s : State) : s.drives s.sectorTimed := ⟨by simp, State.sectorTimed_apart s⟩

/-- An answer that may be none, and rests where it is one. -/
def State.restsIf (s : State) (o : Option State) : Prop := ∀ t, o = some t → s.rests t

theorem State.restsIf_none (s : State) : s.restsIf none := fun _ h => by cases h

theorem State.restsIf_some {s t : State} (h : s.rests t) : s.restsIf (some t) := fun _ e => Option.some.inj e ▸ h

theorem State.restsIf.trans {s t : State} {o : Option State} (h : s.rests t) (k : t.restsIf o) : s.restsIf o := fun u hu => h.trans (k u hu)

theorem State.restsIf_map {s : State} {o : Option State} {f : State → State} (h : s.restsIf o) (hf : ∀ t : State, t.rests (f t)) :
    s.restsIf (o.map f) := by
  intro u hu
  obtain ⟨t, ht, rfl⟩ := Option.map_eq_some_iff.mp hu
  exact (h t ht).trans (hf t)

theorem State.restsIf_survivorIssue (s : State) (q : RReq) (x : ReconS) : s.restsIf (s.survivorIssue q x) := by
  unfold State.survivorIssue
  split
  · exact State.restsIf_some (by simp [State.rests])
  · exact s.restsIf_none

theorem State.restsIf_searchMove (s : State) (q : RReq) : s.restsIf (s.searchMove q) := by
  unfold State.searchMove
  dsimp only
  split
  · exact State.restsIf_some (by simp [State.rests])
  split
  · exact State.restsIf_some (by simp [State.rests])
  · exact State.restsIf_some (by simp [State.rests])
  split
  · exact s.restsIf_none
  split
  · exact State.restsIf_some (by simp [State.rests])
  split
  · split
    · exact State.restsIf_some (by simp [State.rests])
    · intro u hu
      obtain ⟨e, -, rfl⟩ := Option.map_eq_some_iff.mp hu
      simp [State.rests]
  · exact s.restsIf_none

theorem State.restsIf_numMove (s : State) (q : RReq) (n : Nat) : s.restsIf (s.numMove q n) := by
  unfold State.numMove
  split <;> exact State.restsIf_some (by simp [State.rests])

theorem State.restsIf_reconMove (s : State) (q : RReq) : s.restsIf (s.reconMove q) := by
  have hq : s.rests (s.reqMap q.id (fun y => { y with deep := 7 })) := by simp [State.rests]
  unfold State.reconMove
  dsimp only
  split
  · exact s.restsIf_none
  split
  · exact s.restsIf_survivorIssue _ _
  · split
    · exact State.restsIf_some (by simp [State.rests])
    · exact s.restsIf_none
    · split
      · exact State.restsIf_some (by simp [State.rests])
      split
      · exact State.restsIf_some (by simp [State.rests])
      · exact s.restsIf_none
  split
  · exact State.restsIf_some (by simp [State.rests])
  refine State.restsIf.trans hq ?_
  generalize s.reqMap q.id (fun y => { y with deep := 7 }) = t
  have hmore (o : Option (Nat × Nat)) (q : RReq) : t.restsIf (match o with
      | some (n, _) => t.numMove q n
      | none => if q.hint ≠ unmapped then t.numMove q q.hint else t.searchMove q) := by
    split
    · exact t.restsIf_numMove _ _
    · split
      · exact t.restsIf_numMove _ _
      · exact t.restsIf_searchMove _
  split
  · exact hmore _ _
  · exact t.restsIf_none
  split
  · split
    · exact State.restsIf_some (by simp [State.rests])
    · exact t.restsIf_none
  · exact State.restsIf_some (by simp [State.rests])
  split
  · refine State.restsIf_map (t.restsIf_searchMove _) fun u => ?_
    split <;> simp [State.rests]
  · exact hmore _ _

/-- Bytes that memory accepts leave it in its canonical form. -/
theorem State.keeps_store (s : State) (a : Nat) (bs : List Byte) : s.keeps { s with ext := tstore s.ext a bs } :=
  ⟨rfl, rfl, id, tstore_wf s.ext a bs⟩

theorem State.keeps.goes_rests {s t u : State} (h : s.keeps t) (k : t.rests u) : s.goes (.next u) := by
  obtain ⟨hp, hg, hl, he⟩ := h
  obtain ⟨kp, kg, kl, ke⟩ := k.drives.keeps
  exact ⟨u, rfl, kp.trans hp, kg.trans hg, kl ∘ hl, ke ∘ he⟩

theorem State.drives_tick (s : State) : s.drives s.tick := by
  unfold State.tick
  refine State.drives_ite s.drives_refl (State.drives_ite ⟨⟨rfl, rfl, rfl⟩, Gates.tick_apart s.rot.gates⟩ ?_)
  have ht : s.rests s.logTick.mapTick := by simp [State.rests]
  generalize s.logTick.mapTick = t at ht ⊢
  refine ht.drives.trans ⟨by simp, fun h => ?_⟩
  refine State.shuntTick_apart _ (State.pwmTick_apart _ ?_)
  simpa using Gates.tick_apart _ h

/-! ## The commands

Each command by the operations it is made of. Where the `_keep` laws say that they leave all of `State.rests`, the command goes by
`State.goes_idle`; where they reach the drive, by `State.goes_drive` and the `_apart` laws. -/

/-! ### Machine/Cal.lean -/

@[simp] theorem execSlotEntry_goes (s : State) : s.goes (execSlotEntry s) := State.goes_idle (by simp)
@[simp] theorem execCalDataWrite_goes (data : Word) (s : State) : s.goes (execCalDataWrite data s) := State.goes_idle (by simp)

@[simp] theorem execCalDataRead_goes (s : State) : s.goes (execCalDataRead s) := by
  unfold execCalDataRead
  (repeat' split) <;> exact State.goes_idle (by simp)

@[simp] theorem execPhaseWrite_goes (data : Word) (s : State) : s.goes (execPhaseWrite data s) := State.goes_idle (by simp)

/-! ### Machine/Phy.lean -/

@[simp] theorem execPhyInit_goes (ch : Fin 48) (targets : BitVec 8) (dies : List DieAns) (timing : List Nat) (s : State) :
    s.goes (execPhyInit ch targets dies timing s) := by
  unfold execPhyInit
  (repeat' split) <;> exact State.goes_idle (by simp)

@[simp] theorem execFullTrain_goes (ch : Fin 48) (targets : BitVec 8) (s : State) : s.goes (execFullTrain ch targets s) :=
  State.goes_idle (by simp)

@[simp] theorem execReadRetrain_goes (ch : Fin 48) (targets : BitVec 8) (s : State) : s.goes (execReadRetrain ch targets s) :=
  State.goes_idle (by simp)

@[simp] theorem execEyeScan_goes (ch : Fin 48) (targets : BitVec 8) (s : State) : s.goes (execEyeScan ch targets s) :=
  State.goes_idle (by simp)

@[simp] theorem execPllLock_goes (ch : Fin 48) (s : State) : s.goes (execPllLock ch s) := State.goes_idle (by simp)

@[simp] theorem execTrainTargetStart_goes (ch : Fin 48) (res : TrainRes) (s : State) : s.goes (execTrainTargetStart ch res s) := by
  unfold execTrainTargetStart
  dsimp only
  (repeat' split) <;> exact State.goes_idle (by simp)

@[simp] theorem execReadBurst_goes (ch : Fin 48) (locked : Bool) (lanes : List (List (Bool × Bool))) (s : State) :
    s.goes (execReadBurst ch locked lanes s) := by
  unfold execReadBurst
  dsimp only
  (repeat' split) <;> exact State.goes_idle (by simp)

/-! ### Machine/LedgOps.lean -/

@[simp] theorem execLedgerFlush_goes (ch : Fin 48) (pass : Bool) (s : State) : s.goes (execLedgerFlush ch pass s) := by
  unfold execLedgerFlush
  split
  · exact State.goes_rests s.rests_refl
  split
  · exact State.goes_idle (by simp)
  split
  case h_1 u e => exact State.goes_idle (by simp [State.flushRefused_keep _ _ _ _ _ e])
  case h_2 => exact State.goes_idle (by simp)

@[simp] theorem execLedgerGather_goes (ch : Fin 48) (s : State) : s.goes (execLedgerGather ch s) := by
  unfold execLedgerGather
  (repeat' split) <;> exact State.goes_idle (by simp)

/-! ### Machine/Seq.lean -/

@[simp] theorem execMwNop_goes (ch : Fin 48) (s : State) : s.goes (execMwNop ch s) := State.goes_idle (by simp)
@[simp] theorem execMwJmp_goes (ch : Fin 48) (s : State) : s.goes (execMwJmp ch s) := State.goes_idle (by simp)

@[simp] theorem execMwBr_goes (ch : Fin 48) (s : State) : s.goes (execMwBr ch s) :=
  State.goes_rests (State.rests_seqRun fun t w => by (repeat' split) <;> simp [State.rests])

@[simp] theorem execMwCall_goes (ch : Fin 48) (s : State) : s.goes (execMwCall ch s) := State.goes_idle (by simp)
@[simp] theorem execMwRet_goes (ch : Fin 48) (s : State) : s.goes (execMwRet ch s) := State.goes_idle (by simp)
@[simp] theorem execMwDispatch_goes (ch : Fin 48) (s : State) : s.goes (execMwDispatch ch s) := State.goes_idle (by simp)

@[simp] theorem execMwLoop_goes (ch : Fin 48) (s : State) : s.goes (execMwLoop ch s) :=
  State.goes_rests (State.rests_seqRun fun t w => by dsimp only; (repeat' split) <;> simp [State.rests])

@[simp] theorem execMwWaitc_goes (ch : Fin 48) (s : State) : s.goes (execMwWaitc ch s) :=
  State.goes_rests (State.rests_seqRun fun t w => by dsimp only; (repeat' split) <;> simp [State.rests])

@[simp] theorem execMwTset_goes (ch : Fin 48) (s : State) : s.goes (execMwTset ch s) := State.goes_idle (by simp)

@[simp] theorem execMwPark_goes (ch : Fin 48) (s : State) : s.goes (execMwPark ch s) := by
  refine State.goes_rests (State.rests_seqRun fun t w => ?_)
  dsimp only
  (repeat' split) <;> simp [State.rests]

@[simp] theorem execMwDone_goes (ch : Fin 48) (s : State) : s.goes (execMwDone ch s) :=
  State.goes_rests (State.rests_seqRun fun t w => by (repeat' split) <;> simp [State.rests])

@[simp] theorem execMwTret_goes (ch : Fin 48) (s : State) : s.goes (execMwTret ch s) :=
  State.goes_rests (State.rests_seqRun fun t w => by dsimp only; (repeat' split) <;> simp [State.rests])

@[simp] theorem execMwHalt_goes (ch : Fin 48) (s : State) : s.goes (execMwHalt ch s) := State.goes_idle (by simp)

@[simp] theorem execIllegalOpcode_goes (ch : Fin 48) (s : State) : s.goes (execIllegalOpcode ch s) := by
  unfold execIllegalOpcode
  (repeat' split) <;> exact State.goes_idle (by simp)

@[simp] theorem execMwMovi_goes (ch : Fin 48) (s : State) : s.goes (execMwMovi ch s) := State.goes_idle (by simp)
@[simp] theorem execMwAddi_goes (ch : Fin 48) (s : State) : s.goes (execMwAddi ch s) := State.goes_idle (by simp)
@[simp] theorem execMwAdd_goes (ch : Fin 48) (s : State) : s.goes (execMwAdd ch s) := State.goes_idle (by simp)
@[simp] theorem execMwSub_goes (ch : Fin 48) (s : State) : s.goes (execMwSub ch s) := State.goes_idle (by simp)
@[simp] theorem execMwAnd_goes (ch : Fin 48) (s : State) : s.goes (execMwAnd ch s) := State.goes_idle (by simp)
@[simp] theorem execMwOr_goes (ch : Fin 48) (s : State) : s.goes (execMwOr ch s) := State.goes_idle (by simp)
@[simp] theorem execMwXor_goes (ch : Fin 48) (s : State) : s.goes (execMwXor ch s) := State.goes_idle (by simp)
@[simp] theorem execMwShl_goes (ch : Fin 48) (s : State) : s.goes (execMwShl ch s) := State.goes_idle (by simp)
@[simp] theorem execMwShr_goes (ch : Fin 48) (s : State) : s.goes (execMwShr ch s) := State.goes_idle (by simp)

@[simp] theorem execMwMov_goes (ch : Fin 48) (s : State) : s.goes (execMwMov ch s) := by
  unfold execMwMov
  (repeat' split) <;> exact State.goes_idle (by simp)

@[simp] theorem execMwCmp_goes (ch : Fin 48) (s : State) : s.goes (execMwCmp ch s) := State.goes_idle (by simp)
@[simp] theorem execMwLdlc_goes (ch : Fin 48) (s : State) : s.goes (execMwLdlc ch s) := State.goes_idle (by simp)
@[simp] theorem execMwLds_goes (ch : Fin 48) (s : State) : s.goes (execMwLds ch s) := State.goes_idle (by simp)
@[simp] theorem execMwSts_goes (ch : Fin 48) (s : State) : s.goes (execMwSts ch s) := State.goes_idle (by simp)

@[simp] theorem execMwCe_goes (ch : Fin 48) (s : State) : s.goes (execMwCe ch s) :=
  State.goes_rests (State.rests_seqRun fun t w => by (repeat' split) <;> simp [State.rests])

@[simp] theorem execMwCmd_goes (ch : Fin 48) (s : State) : s.goes (execMwCmd ch s) :=
  State.goes_rests (State.rests_seqRun fun t w => by dsimp only; (repeat' split) <;> simp [State.rests])

@[simp] theorem execMwAddr_goes (ch : Fin 48) (s : State) : s.goes (execMwAddr ch s) :=
  State.goes_rests (State.rests_seqRun fun t w => by (repeat' split) <;> simp [State.rests])

@[simp] theorem execMwDout_goes (ch : Fin 48) (s : State) : s.goes (execMwDout ch s) :=
  State.goes_rests (State.rests_seqRun fun t w => by dsimp only; (repeat' split) <;> simp [State.rests])

@[simp] theorem execMwDin_goes (ch : Fin 48) (s : State) : s.goes (execMwDin ch s) :=
  State.goes_rests (State.rests_seqRun fun t w => by dsimp only; (repeat' split) <;> simp [State.rests])

@[simp] theorem execMwSusp_goes (ch : Fin 48) (s : State) : s.goes (execMwSusp ch s) :=
  State.goes_rests (State.rests_seqRun fun t w => by (repeat' split) <;> simp [State.rests])

@[simp] theorem execMwRsum_goes (ch : Fin 48) (s : State) : s.goes (execMwRsum ch s) :=
  State.goes_rests (State.rests_seqRun fun t w => by (repeat' split) <;> simp [State.rests])

@[simp] theorem execMwStat_goes (ch : Fin 48) (s : State) : s.goes (execMwStat ch s) :=
  State.goes_rests (State.rests_seqRun fun t w => by (repeat' split) <;> simp [State.rests])

/-! ### Machine/SeqTrap.lean -/

@[simp] theorem execMwLedg_goes (ch : Fin 48) (s : State) : s.goes (execMwLedg ch s) := by
  refine State.goes_rests (State.rests_seqRun fun t w => ?_)
  dsimp only
  (repeat' split) <;> simp [State.rests]

@[simp] theorem execMwTend_goes (ch : Fin 48) (s : State) : s.goes (execMwTend ch s) :=
  State.goes_rests (State.rests_seqRun fun t w => by dsimp only; (repeat' split) <;> simp [State.rests])

@[simp] theorem execFetchUe_goes (ch : Fin 48) (s : State) : s.goes (execFetchUe ch s) := by
  unfold execFetchUe
  (repeat' split) <;> exact State.goes_idle (by simp)

@[simp] theorem execAtomOvr_goes (ch : Fin 48) (s : State) : s.goes (execAtomOvr ch s) := by
  unfold execAtomOvr
  (repeat' split) <;> exact State.goes_idle (by simp)

@[simp] theorem execTimerExpire_goes (ch : Fin 48) (k : Fin 2) (s : State) : s.goes (execTimerExpire ch k s) :=
  State.goes_idle (by simp)

@[simp] theorem execWdog_goes (ch : Fin 48) (s : State) : s.goes (execWdog ch s) := by
  unfold execWdog
  dsimp only
  (repeat' split) <;> exact State.goes_idle (by simp)

@[simp] theorem execSeqBreak_goes (grp : Fin 6) (mask : BitVec 8) (s : State) : s.goes (execSeqBreak grp mask s) :=
  State.goes_idle (by simp)

@[simp] theorem execRestart_goes (grp : Fin 6) (mask : BitVec 8) (s : State) : s.goes (execRestart grp mask s) :=
  State.goes_idle (by simp)

@[simp] theorem execTrapTake_goes (ch : Fin 48) (s : State) : s.goes (execTrapTake ch s) := by
  unfold execTrapTake
  dsimp only
  (repeat' split) <;> exact State.goes_idle (by simp)

/-! ### Machine/Engine.lean -/

@[simp] theorem execEngineCe_goes (ch : Fin 48) (s : State) : s.goes (execEngineCe ch s) := by
  unfold execEngineCe
  (repeat' split) <;> exact State.goes_idle (by simp)

@[simp] theorem execEngineCommand_goes (ch : Fin 48) (s : State) : s.goes (execEngineCommand ch s) := by
  unfold execEngineCommand
  dsimp only
  (repeat' split) <;> exact State.goes_idle (by simp)

@[simp] theorem execEngineAddress_goes (ch : Fin 48) (s : State) : s.goes (execEngineAddress ch s) := by
  unfold execEngineAddress
  dsimp only
  (repeat' split) <;> exact State.goes_idle (by simp)

@[simp] theorem execBurstStart_goes (ch : Fin 48) (s : State) : s.goes (execBurstStart ch s) := by
  unfold execBurstStart
  (repeat' split) <;> exact State.goes_idle (by simp)

@[simp] theorem execBurstDone_goes (ch : Fin 48) (data : List Byte) (s : State) : s.goes (execBurstDone ch data s) := by
  unfold execBurstDone
  dsimp only
  (repeat' split) <;> exact State.goes_idle (by simp)

@[simp] theorem execStatusReturn_goes (ch : Fin 48) (status : BitVec 8) (s : State) : s.goes (execStatusReturn ch status s) := by
  unfold execStatusReturn
  (repeat' split) <;> exact State.goes_idle (by simp)

@[simp] theorem execLunPoll_goes (ch : Fin 48) (lun : Fin 16) (rb : BitVec 4) (status : BitVec 8) (s : State) :
    s.goes (execLunPoll ch lun rb status s) := by
  unfold execLunPoll
  dsimp only
  (repeat' split) <;> exact State.goes_idle (by simp)

/-! ### Machine/Store.lean -/

@[simp] theorem execVendorStoreWrite_goes (addr : BitVec 24) (be : BitVec 4) (data : Word) (s : State) :
    s.goes (execVendorStoreWrite addr be data s) := by
  unfold execVendorStoreWrite
  (repeat' split) <;> exact State.goes_idle (by simp)

@[simp] theorem execCustomerStoreWrite_goes (addr : BitVec 24) (be : BitVec 4) (data : Word) (s : State) :
    s.goes (execCustomerStoreWrite addr be data s) := by
  unfold execCustomerStoreWrite
  (repeat' split) <;> exact State.goes_idle (by simp)

@[simp] theorem execVerify_goes (grp : Fin 6) (data : Word) (s : State) : s.goes (execVerify grp data s) :=
  State.goes_idle (by simp)

@[simp] theorem execVerifyDone_goes (grp : Fin 6) (s : State) : s.goes (execVerifyDone grp s) := by
  unfold execVerifyDone
  dsimp only
  (repeat' split) <;> exact State.goes_idle (by simp)

@[simp] theorem execSeqgEnable_goes (grp : Fin 6) (data : Word) (s : State) : s.goes (execSeqgEnable grp data s) :=
  State.goes_idle (by simp)

@[simp] theorem execCustHold_goes (grp : Fin 6) (data : Word) (s : State) : s.goes (execCustHold grp data s) :=
  State.goes_idle (by simp)

/-! ### Machine/Sched.lean -/

@[simp] theorem execChannelDescriptor_goes (ch : Fin 48) (org : Fin 4) (s : State) : s.goes (execChannelDescriptor ch org s) := by
  unfold execChannelDescriptor
  (repeat' split) <;> exact State.goes_idle (by simp)

@[simp] theorem execSchedulerPick_goes (ch : Fin 48) (s : State) : s.goes (execSchedulerPick ch s) := by
  unfold execSchedulerPick
  (repeat' split) <;> exact State.goes_idle (by simp)

@[simp] theorem execOpCustomerOpcode_goes (ch : Fin 48) (s : State) : s.goes (execOpCustomerOpcode ch s) := by
  unfold execOpCustomerOpcode
  (repeat' split) <;> exact State.goes_idle (by simp)

@[simp] theorem execHeadAged_goes (ch : Fin 48) (lun : Fin 16) (s : State) : s.goes (execHeadAged ch lun s) := by
  unfold execHeadAged
  (repeat' split) <;> exact State.goes_idle (by simp)

@[simp] theorem execLunHung_goes (ch : Fin 48) (lun : Fin 16) (s : State) : s.goes (execLunHung ch lun s) := by
  unfold execLunHung
  (repeat' split) <;> exact State.goes_idle (by simp)

@[simp] theorem execResetLunTimeout_goes (ch : Fin 48) (lun : Fin 16) (s : State) : s.goes (execResetLunTimeout ch lun s) := by
  unfold execResetLunTimeout
  (repeat' split) <;> exact State.goes_idle (by simp)

@[simp] theorem execSuspSlow_goes (ch : Fin 48) (lun : Fin 16) (s : State) : s.goes (execSuspSlow ch lun s) := by
  unfold execSuspSlow
  dsimp only
  (repeat' split) <;> exact State.goes_idle (by simp)

/-! ### Machine/OpRows.lean -/

@[simp] theorem execOpProg_goes (ch : Fin 48) (status : BitVec 8) (s : State) : s.goes (execOpProg ch status s) := by
  refine State.goes_rests (State.rests_opRun fun t d => ?_)
  exact State.rests_ite (t.rests_opFinish _ _ _ _ _ _) (State.rests_ite (State.rests_progGo _ _ _ _ t)
    (State.rests_ite t.rests_refl (State.rests_progOpen (State.rests_progGo _ _ _ _))))

@[simp] theorem execOpErase_goes (ch : Fin 48) (s : State) : s.goes (execOpErase ch s) :=
  State.goes_rests (State.rests_opRun fun t d => by dsimp only; (repeat' split) <;> simp [State.rests])

@[simp] theorem execOpReadTile_goes (ch : Fin 48) (data : List DieBurst) (s : State) : s.goes (execOpReadTile ch data s) :=
  State.goes_idle (by simp)

@[simp] theorem execOpReadCw_goes (ch : Fin 48) (data : List DieBurst) (s : State) : s.goes (execOpReadCw ch data s) :=
  State.goes_idle (by simp)

@[simp] theorem execOpShadow_goes (ch : Fin 48) (data : List DieBurst) (s : State) : s.goes (execOpShadow ch data s) :=
  State.goes_idle (by simp)

@[simp] theorem execOpPatrol_goes (ch : Fin 48) (data : List DieBurst) (s : State) : s.goes (execOpPatrol ch data s) :=
  State.goes_idle (by simp)

@[simp] theorem execOpBlankVerify_goes (ch : Fin 48) (data : List DieBurst) (s : State) : s.goes (execOpBlankVerify ch data s) := by
  refine State.goes_rests (State.rests_opRun fun t d => ?_)
  refine State.rests_ite (t.rests_readSend _ _ _ _ _) (State.rests_ite t.rests_refl ?_)
  refine State.rests_opSend fun u => State.rests_readOut (fun v => v.rests_phyErr _ _) fun v => ?_
  refine State.rests_ite (v.rests_opFinish _ _ _ _ _ _) (State.rests_ite ?_ (v.rests_opFinish _ _ _ _ _ _))
  simp [State.rests]

@[simp] theorem execOpReadCharter_goes (ch : Fin 48) (data : List DieBurst) (s : State) : s.goes (execOpReadCharter ch data s) := by
  refine State.goes_rests (State.rests_opRun fun t d => ?_)
  refine State.rests_ite (t.rests_opFinish _ _ _ _ _ _)
    (State.rests_ite (State.rests_ite t.rests_refl ?start) (State.rests_ite t.rests_refl ?ready))
  case start =>
    refine State.rests_opSend fun u => State.rests.trans ?_ (State.rests_opRow fun v => ?_)
    · simp [State.rests]
    · dsimp only
      exact State.rests_ite (by simp [State.rests]) (by simp [State.rests])
  case ready =>
    exact State.rests_opSend fun u => State.rests_readOut (fun v => by simp [State.rests, State.phyErr]) fun v => by simp [State.rests]

@[simp] theorem execOpBbScan_goes (ch : Fin 48) (data : List DieBurst) (s : State) : s.goes (execOpBbScan ch data s) := by
  refine State.goes_rests (State.rests_opRun fun t d => ?_)
  refine State.rests_ite (t.rests_readSend _ _ _ _ _) (State.rests_ite t.rests_refl ?_)
  refine State.rests_opSend fun u => State.rests_markOut (fun m v => ?_) _ _ _ _
  dsimp only
  exact State.rests_ite (by split <;> simp [State.rests]) (by split <;> simp [State.rests])

@[simp] theorem execOpSetRef_goes (ch : Fin 48) (s : State) : s.goes (execOpSetRef ch s) := State.goes_idle (by simp)

@[simp] theorem execOpGetFeat_goes (ch : Fin 48) (data : BitVec 32) (s : State) : s.goes (execOpGetFeat ch data s) :=
  State.goes_idle (by simp)

@[simp] theorem execOpResetLun_goes (ch : Fin 48) (s : State) : s.goes (execOpResetLun ch s) := by
  refine State.goes_rests (State.rests_opRun fun t d => ?_)
  dsimp only
  (repeat' split) <;> simp [State.rests]

@[simp] theorem execOpStatus_goes (ch : Fin 48) (status : BitVec 8) (s : State) : s.goes (execOpStatus ch status s) :=
  State.goes_idle (by simp)

@[simp] theorem execBbMark_goes (ch : Fin 48) (data : Word) (s : State) : s.goes (execBbMark ch data s) := State.goes_idle (by simp)
@[simp] theorem execWpOpen_goes (ch : Fin 48) (data : Word) (s : State) : s.goes (execWpOpen ch data s) := State.goes_idle (by simp)

/-! ### Machine/Pool.lean -/

@[simp] theorem execEncodeCodeword_goes (ch : Fin 48) (s : State) : s.goes (execEncodeCodeword ch s) := by
  unfold execEncodeCodeword
  (repeat' split) <;> exact State.goes_idle (by simp)

@[simp] theorem execReencode_goes (ch : Fin 48) (s : State) : s.goes (execReencode ch s) := by
  unfold execReencode
  dsimp only
  (repeat' split) <;> exact State.goes_idle (by simp)

@[simp] theorem execDecodeJob_goes (s : State) : s.goes (execDecodeJob s) := by
  unfold execDecodeJob
  dsimp only
  (repeat' split) <;> exact State.goes_idle (by simp)

@[simp] theorem execDecodeStart_goes (s : State) : s.goes (execDecodeStart s) := by
  unfold execDecodeStart
  (repeat' split) <;> exact State.goes_idle (by simp)

@[simp] theorem execDecodeDone_goes (engine : Fin 24) (s : State) : s.goes (execDecodeDone engine s) := by
  unfold execDecodeDone
  dsimp only
  (repeat' split) <;> exact State.goes_idle (by simp)

/-! ### Machine/Lace.lean -/

@[simp] theorem execProfileEnable_goes (prof : Fin 8) (data : Word) (s : State) : s.goes (execProfileEnable prof data s) :=
  State.goes_idle (by simp)

@[simp] theorem execStripeCloseTimeout_goes (prof : Fin 8) (s : State) : s.goes (execStripeCloseTimeout prof s) := by
  unfold execStripeCloseTimeout
  (repeat' split) <;> exact State.goes_idle (by simp)

@[simp] theorem execLaceClose_goes (data : Word) (s : State) : s.goes (execLaceClose data s) := State.goes_idle (by simp)
@[simp] theorem execStripeCancel_goes (s : State) : s.goes (execStripeCancel s) := State.goes_idle (by simp)

@[simp] theorem execParityCopy_goes (set : Fin 8) (k : Fin 4) (s : State) : s.goes (execParityCopy set k s) := by
  unfold execParityCopy
  dsimp only
  (repeat' split) <;> exact State.goes_idle (by simp)

@[simp] theorem execStripeRecord_goes (s : State) : s.goes (execStripeRecord s) := by
  unfold execStripeRecord
  (repeat' split) <;> exact State.goes_idle (by simp)

/-! ### Machine/Recover.lean -/

@[simp] theorem execShadowProbeDue_goes (ch : Fin 48) (s : State) : s.goes (execShadowProbeDue ch s) := by
  unfold execShadowProbeDue
  dsimp only
  (repeat' split) <;> exact State.goes_idle (by simp)

@[simp] theorem execPatrolIssue_goes (s : State) : s.goes (execPatrolIssue s) := by
  unfold execPatrolIssue
  dsimp only
  (repeat' split) <;> exact State.goes_idle (by simp)

@[simp] theorem execLadderStep_goes (s : State) : s.goes (execLadderStep s) := by
  unfold execLadderStep
  dsimp only
  (repeat' split) <;> exact State.goes_idle (by simp)

@[simp] theorem execReconstruct_goes (s : State) : s.goes (execReconstruct s) := by
  unfold execReconstruct
  split
  · exact State.goes_rests s.rests_refl
  cases h : s.rcv.reqs.findSome? s.reconMove with
  | none => exact State.goes_rests s.rests_refl
  | some t =>
    obtain ⟨q, -, hq⟩ := List.exists_of_findSome?_eq_some h
    exact State.goes_rests (s.restsIf_reconMove q t hq)

@[simp] theorem execSurvivorFold_goes (s : State) : s.goes (execSurvivorFold s) := by
  unfold execSurvivorFold
  dsimp only
  (repeat' split) <;> exact State.goes_idle (by simp)

@[simp] theorem execLaceSolve_goes (s : State) : s.goes (execLaceSolve s) := by
  unfold execLaceSolve
  dsimp only
  (repeat' split) <;> exact State.goes_idle (by simp)

@[simp] theorem execReconTimeout_goes (member : Fin 4) (s : State) : s.goes (execReconTimeout member s) := by
  unfold execReconTimeout
  (repeat' split) <;> exact State.goes_idle (by simp)

/-! ### Machine/Almanac.lean -/

@[simp] theorem execAlmLoad_goes (data : Word) (s : State) : s.goes (execAlmLoad data s) := State.goes_idle (by simp)
@[simp] theorem execAlmSave_goes (data : Word) (s : State) : s.goes (execAlmSave data s) := State.goes_idle (by simp)

@[simp] theorem execAlmDone_goes (s : State) : s.goes (execAlmDone s) := by
  unfold execAlmDone
  (repeat' split) <;> exact State.goes_idle (by simp)

/-! ### Machine/RotorFlux.lean -/

@[simp] theorem execFluxDecision_goes (s : State) : s.goes (execFluxDecision s) := by
  have hzero {t : State} (ht : s.drives t) : s.drives (if t.rot.zeroN = 0 then t.zeroEnd else t) :=
    ht.trans (State.drives_ite t.drives_zeroEnd t.drives_refl)
  have hstep (t : State) (bad : Bool) (ht : s.drives t) :
      s.drives (if t.rot.st = .ramp then t else if bad then (t.lossSync s.rot.obs.speedN).askSector
        else if t.rot.refN = 0 then t.goCoast else t) :=
    ht.trans (State.drives_ite t.drives_refl (State.drives_ite ((t.drives_lossSync _).trans (State.drives_askSector _))
      (State.drives_ite t.drives_goCoast t.drives_refl)))
  have hcatch (t : State) (ht : s.drives t) :
      s.drives (if t.get R.ROTOR_RECATCH_CONFIRM ≤ t.rot.rcOk then
        (if t.catchDone.rot.st = .step then t.catchDone else t.catchDone.runVec) else t.nextVec 0) :=
    ht.trans (State.drives_ite (t.drives_catchDone.trans (State.drives_ite (State.drives_refl _) (State.drives_runVec _)))
      (t.drives_nextVec _))
  unfold execFluxDecision
  split
  case h_1 | h_2 =>
    have hrun := ((s.drives_reconstruct.trans (State.drives_observed _)).trans (State.drives_rampRef _)).trans
      (State.drives_fuse _ s.reconstruct.observe.syncCount.rampRef.rot.shunt.len)
    refine State.goes_ite (State.goes_drives (hzero ?_)) (State.goes_drives (hrun.trans ?_))
    · exact s.drives_rotMap.trans (State.drives_driveVec _ _)
    · exact State.drives_ite ((State.drives_lossSync _ _).trans (State.drives_driveVec _ _)) (State.drives_decideRun _)
  case h_3 | h_4 =>
    refine State.goes_ite (State.goes_drives (hzero s.drives_rotMap)) (State.goes_drives ?_)
    have ht := ((s.drives_stepMap (fun t => t.cut s.cyc)).trans (State.drives_stepCurrents _)).trans (State.drives_observed _)
    dsimp only
    generalize (s.stepMap (fun t => t.cut s.cyc)).stepCurrents.observe.syncCount = t at ht ⊢
    have hu : s.drives (if t.rot.st = .ramp then t else t.rampRef.fuse t.rot.shunt.len) :=
      ht.trans (State.drives_ite t.drives_refl (t.drives_rampRef.trans (State.drives_fuse _ _)))
    generalize (if t.rot.st = .ramp then t else t.rampRef.fuse t.rot.shunt.len) = u at hu ⊢
    exact hstep _ _ (hu.trans u.drives_rotMap)
  case h_5 =>
    refine State.goes_ite ?_ (State.goes_drives s.drives_refl)
    have ht := s.drives_reconstruct.trans (State.drives_observed _)
    dsimp only
    generalize s.reconstruct.observe.syncCount = t at ht ⊢
    split
    · exact State.goes_drives (ht.trans (((State.drives_rotMap _).trans (State.drives_obsMap _ _)).trans (State.drives_nextVec _ _)))
    · exact State.goes_drives (hcatch _ (ht.trans t.drives_rotMap))
  case h_6 => exact State.goes_drives s.drives_refl

/-! ### Machine/Angle.lean -/

@[simp] theorem execGlint_goes (level key : Bool) (s : State) : s.goes (execGlint level key s) := by
  unfold execGlint
  dsimp only
  (repeat' split) <;> exact State.goes_drive (by simp) fun h => by simp [h]

@[simp] theorem execFacetMiss_goes (s : State) : s.goes (execFacetMiss s) := by
  unfold execFacetMiss
  dsimp only
  (repeat' split) <;> exact State.goes_idle (by simp)

@[simp] theorem execCoastMaxExpire_goes (s : State) : s.goes (execCoastMaxExpire s) := by
  unfold execCoastMaxExpire
  (repeat' split) <;> exact State.goes_idle (by simp)

@[simp] theorem execAngleEnable_goes (data : Word) (s : State) : s.goes (execAngleEnable data s) := State.goes_idle (by simp)
@[simp] theorem execVstepWrite_goes (data : Word) (s : State) : s.goes (execVstepWrite data s) := State.goes_idle (by simp)

/-! ### Machine/MapRows.lean -/

@[simp] theorem execMapFill_goes (s : State) : s.goes (execMapFill s) := by
  unfold execMapFill
  split
  · exact State.goes_rests s.rests_refl
  case h_2 r t e =>
    have ht := State.rests_mpTake e
    split
    · refine State.goes_rests (ht.trans ?_)
      split <;> simp [State.rests]
    · exact State.goes_rests ht

@[simp] theorem execMapWriteBack_goes (s : State) : s.goes (execMapWriteBack s) := by
  unfold execMapWriteBack
  (repeat' split) <;> exact State.goes_idle (by simp)

@[simp] theorem execMapFlush_goes (s : State) : s.goes (execMapFlush s) := State.goes_idle (by simp)
@[simp] theorem execMapInval_goes (s : State) : s.goes (execMapInval s) := State.goes_idle (by simp)

@[simp] theorem execFlushDone_goes (s : State) : s.goes (execFlushDone s) := by
  unfold execFlushDone
  (repeat' split) <;> exact State.goes_idle (by simp)

@[simp] theorem execLookupTile_goes (data : Word) (s : State) : s.goes (execLookupTile data s) := State.goes_idle (by simp)
@[simp] theorem execSetAddr_goes (data : Word) (s : State) : s.goes (execSetAddr data s) := State.goes_idle (by simp)

@[simp] theorem execMapBaseWrite_goes (reg : Fin 3) (data : Word) (s : State) : s.goes (execMapBaseWrite reg data s) :=
  State.goes_idle (by simp)

@[simp] theorem execTileCompletion_goes (s : State) : s.goes (execTileCompletion s) := by
  unfold execTileCompletion
  dsimp only
  (repeat' split) <;> exact State.goes_idle (by simp)

@[simp] theorem execStreamEnable_goes (stream : BitVec 12) (s : State) : s.goes (execStreamEnable stream s) :=
  State.goes_idle (by simp)

@[simp] theorem execStreamDisable_goes (stream : BitVec 12) (s : State) : s.goes (execStreamDisable stream s) :=
  State.goes_idle (by simp)

/-! ### Machine/HoopRows.lean -/

@[simp] theorem execHoopEnable_goes (hoop : Fin 64) (s : State) : s.goes (execHoopEnable hoop s) := State.goes_idle (by simp)
@[simp] theorem execHoopDisable_goes (hoop : Fin 64) (s : State) : s.goes (execHoopDisable hoop s) := State.goes_idle (by simp)
@[simp] theorem execRearm_goes (hoop : Fin 64) (s : State) : s.goes (execRearm hoop s) := State.goes_idle (by simp)

@[simp] theorem execHoopTrigger_goes (hoop : Fin 64) (s : State) : s.goes (execHoopTrigger hoop s) := by
  unfold execHoopTrigger
  dsimp only
  (repeat' split) <;> exact State.goes_idle (by simp)

@[simp] theorem execTrigReg_goes (which : Fin 2) (data : Word) (s : State) : s.goes (execTrigReg which data s) :=
  State.goes_idle (by simp)

@[simp] theorem execTrigIn_goes (level : Bool) (s : State) : s.goes (execTrigIn level s) := by
  unfold execTrigIn
  dsimp only
  (repeat' split) <;> exact State.goes_idle (by simp)

@[simp] theorem execEraseFront_goes (hoop : Fin 64) (s : State) : s.goes (execEraseFront hoop s) := by
  unfold execEraseFront
  dsimp only
  (repeat' split) <;> exact State.goes_idle (by simp)

@[simp] theorem execRelocate_goes (ch : Fin 48) (place : Fin 8) (s : State) : s.goes (execRelocate ch place s) := by
  unfold execRelocate
  dsimp only
  (repeat' split) <;> exact State.goes_idle (by simp)

@[simp] theorem execFillTimeout_goes (ch : Fin 48) (place : Fin 8) (s : State) : s.goes (execFillTimeout ch place s) := by
  unfold execFillTimeout
  dsimp only
  (repeat' split) <;> exact State.goes_idle (by simp)

/-! ### Machine/Number.lean -/

@[simp] theorem execTileNumber_goes (lane : Fin 12) (s : State) : s.goes (execTileNumber lane s) := by
  unfold execTileNumber
  dsimp only
  (repeat' split) <;> exact State.goes_idle (by simp)

/-! ### Machine/Lanes.lean -/

@[simp] theorem execLaneFlit_goes (lane : Fin 12) (value : BitVec 64) (tag : BitVec 2) (s : State) :
    s.goes (execLaneFlit lane value tag s) := by
  unfold execLaneFlit
  (repeat' split) <;> exact State.goes_idle (by simp)

@[simp] theorem execLinkDown_goes (lane : Fin 12) (s : State) : s.goes (execLinkDown lane s) := by
  unfold execLinkDown
  dsimp only
  (repeat' split) <;> exact State.goes_idle (by simp)

@[simp] theorem execLinkupReturn_goes (lane : Fin 12) (s : State) : s.goes (execLinkupReturn lane s) := State.goes_idle (by simp)
@[simp] theorem execLaneReset_goes (lane : Fin 12) (s : State) : s.goes (execLaneReset lane s) := State.goes_idle (by simp)
@[simp] theorem execDrop_goes (lane : Fin 12) (s : State) : s.goes (execDrop lane s) := State.goes_idle (by simp)

@[simp] theorem execWithdrawPush_goes (lane : Fin 12) (s : State) : s.goes (execWithdrawPush lane s) := by
  unfold execWithdrawPush
  (repeat' split) <;> exact State.goes_idle (by simp)

@[simp] theorem execLaneEnable_goes (lane : Fin 12) (data : Word) (s : State) : s.goes (execLaneEnable lane data s) :=
  State.goes_idle (by simp)

@[simp] theorem execHeadToTail_goes (lane : Fin 12) (s : State) : s.goes (execHeadToTail lane s) := by
  unfold execHeadToTail
  (repeat' split) <;> exact State.goes_idle (by simp)

@[simp] theorem execSpillWrite_goes (lane : Fin 12) (s : State) : s.goes (execSpillWrite lane s) := by
  unfold execSpillWrite
  dsimp only
  split
  · exact State.goes_rests s.rests_refl
  have ht := State.rests_headTake lane blockItems s
  generalize (s.headTake lane blockItems).2 = t at ht ⊢
  refine State.goes_rests (ht.trans ?_)
  split_ifs <;> simp [State.rests]

@[simp] theorem execDrainRead_goes (lane : Fin 12) (s : State) : s.goes (execDrainRead lane s) := by
  unfold execDrainRead
  dsimp only
  (repeat' split) <;> exact State.goes_idle (by simp)

@[simp] theorem execDrainReturn_goes (lane : Fin 12) (s : State) : s.goes (execDrainReturn lane s) := by
  unfold execDrainReturn
  dsimp only
  split
  · exact State.goes_rests s.rests_refl
  case h_2 r t e =>
    have ht := State.rests_mpTake e
    split
    · exact State.goes_rests ht
    · refine State.goes_rests (ht.trans ?_)
      (repeat' split) <;> simp [State.rests]

@[simp] theorem execMidBaseWrite_goes (lane : Fin 12) (reg : Fin 3) (data : Word) (s : State) : s.goes (execMidBaseWrite lane reg data s) :=
  State.goes_idle (by simp)

@[simp] theorem execAssemblerPop_goes (lane : Fin 12) (s : State) : s.goes (execAssemblerPop lane s) := by
  unfold execAssemblerPop
  refine State.goes_ite (State.goes_rests s.rests_refl) ?_
  dsimp only
  generalize hx : (if ((s.lane lane).asm == .landing && (s.frontItem lane).any (fun i => i.tag = 0 || i.tag = 2)) = true
    then s.landFirst lane else (true, s)) = x
  have hl : s.rests x.2 := by
    rw [← hx]
    split <;> simp [State.rests]
  refine State.goes_ite (State.goes_rests hl) ?_
  split
  · exact State.goes_rests hl
  case h_2 it t e =>
    have ht : s.rests (if x.2.spoolFull lane = true then t.laneMap lane (fun l => { l with freed := some x.2.cyc }) else t) :=
      hl.trans ((State.rests_popItem e).trans (State.rests_ite (by simp [State.rests]) t.rests_refl))
    refine State.goes_ite (State.goes_rests (ht.trans ?_))
      (State.goes_ite (State.goes_rests (hl.trans ?_)) (State.goes_rests (ht.trans ?_))) <;> simp [State.rests]

@[simp] theorem execTileEnd_goes (lane : Fin 12) (s : State) : s.goes (execTileEnd lane s) := by
  unfold execTileEnd
  dsimp only
  (repeat' split) <;> exact State.goes_idle (by simp)

/-! ### Machine/Rings.lean -/

@[simp] theorem execRingEnable_goes (ring : BitVec 14) (s : State) : s.goes (execRingEnable ring s) := State.goes_idle (by simp)
@[simp] theorem execRingDisable_goes (ring : BitVec 14) (s : State) : s.goes (execRingDisable ring s) := State.goes_idle (by simp)

@[simp] theorem execDrained_goes (ring : BitVec 14) (s : State) : s.goes (execDrained ring s) := by
  unfold execDrained
  dsimp only
  (repeat' split) <;> exact State.goes_idle (by simp)

@[simp] theorem execDoorbell_goes (data : Word) (s : State) : s.goes (execDoorbell data s) := State.goes_idle (by simp)

@[simp] theorem execRingFetch_goes (ring : BitVec 14) (s : State) : s.goes (execRingFetch ring s) := by
  unfold execRingFetch
  (repeat' split) <;> exact State.goes_idle (by simp)

@[simp] theorem execOwnRetry_goes (ring : BitVec 14) (s : State) : s.goes (execOwnRetry ring s) := by
  unfold execOwnRetry
  dsimp only
  (repeat' split) <;> exact State.goes_idle (by simp)

@[simp] theorem execChanEntry_goes (ring : BitVec 14) (s : State) : s.goes (execChanEntry ring s) := by
  unfold execChanEntry
  dsimp only
  (repeat' split) <;> exact State.goes_idle (by simp)

@[simp] theorem execReadEntry_goes (ring : BitVec 14) (s : State) : s.goes (execReadEntry ring s) := by
  unfold execReadEntry
  dsimp only
  (repeat' split) <;> exact State.goes_idle (by simp)

@[simp] theorem execResultCopy_goes (s : State) : s.goes (execResultCopy s) := by
  unfold execResultCopy
  (repeat' split) <;> exact State.goes_idle (by simp)

@[simp] theorem execCompletionRecord_goes (s : State) : s.goes (execCompletionRecord s) := by
  unfold execCompletionRecord
  (repeat' split) <;> exact State.goes_idle (by simp)

/-! ### Machine/Power.lean -/

@[simp] theorem execDomUp_goes (dom : Fin 13) (s : State) : s.goes (execDomUp dom s) := State.goes_idle (by simp)
@[simp] theorem execDomDown_goes (dom : Fin 13) (s : State) : s.goes (execDomDown dom s) := State.goes_idle (by simp)

@[simp] theorem execStaggerExpire_goes (dom : Fin 13) (s : State) : s.goes (execStaggerExpire dom s) := by
  unfold execStaggerExpire
  dsimp only
  (repeat' split) <;> exact State.goes_idle (by simp)

@[simp] theorem execPdAckRise_goes (dom : Fin 13) (s : State) : s.goes (execPdAckRise dom s) := by
  unfold execPdAckRise
  dsimp only
  (repeat' split) <;> exact State.goes_idle (by simp)

@[simp] theorem execUpDone_goes (dom : Fin 13) (s : State) : s.goes (execUpDone dom s) := by
  unfold execUpDone
  (repeat' split) <;> exact State.goes_idle (by simp)

@[simp] theorem execPdAckTimeout_goes (dom : Fin 13) (s : State) : s.goes (execPdAckTimeout dom s) := by
  unfold execPdAckTimeout
  (repeat' split) <;> exact State.goes_idle (by simp)

@[simp] theorem execDomainLost_goes (dom : Fin 13) (s : State) : s.goes (execDomainLost dom s) := by
  unfold execDomainLost
  dsimp only
  (repeat' split) <;> exact State.goes_idle (by simp)

@[simp] theorem execQuiesceDone_goes (dom : Fin 13) (s : State) : s.goes (execQuiesceDone dom s) := by
  unfold execQuiesceDone
  (repeat' split) <;> exact State.goes_idle (by simp)

@[simp] theorem execQuiesceTo_goes (dom : Fin 13) (s : State) : s.goes (execQuiesceTo dom s) := by
  unfold execQuiesceTo
  (repeat' split) <;> exact State.goes_idle (by simp)

@[simp] theorem execDownDone_goes (dom : Fin 13) (s : State) : s.goes (execDownDone dom s) := by
  unfold execDownDone
  dsimp only
  (repeat' split) <;> exact State.goes_idle (by simp)

@[simp] theorem execPfWarn_goes (level : Bool) (s : State) : s.goes (execPfWarn level s) :=
  State.goes_drive (by simp) fun h => by simp [h]

@[simp] theorem execPfClear_goes (s : State) : s.goes (execPfClear s) :=
  State.goes_drives (State.drives_cpWr fun t => ⟨by simp, pfCmdWr_apart 1 t⟩)

/-! ### Machine/Memi.lean -/

@[simp] theorem execScrubRead_goes (region : Fin 7) (s : State) : s.goes (execScrubRead region s) := by
  unfold execScrubRead
  dsimp only
  (repeat' split) <;> exact State.goes_idle (by simp)

@[simp] theorem execScrubWriteback_goes (region : Fin 7) (s : State) : s.goes (execScrubWriteback region s) := by
  unfold execScrubWriteback
  dsimp only
  (repeat' split) <;> exact State.goes_idle (by simp)

@[simp] theorem execStarved_goes (region : Fin 7) (s : State) : s.goes (execStarved region s) := by
  unfold execStarved
  dsimp only
  (repeat' split) <;> exact State.goes_idle (by simp)

@[simp] theorem execRemapClr_goes (data : Word) (s : State) : s.goes (execRemapClr data s) := State.goes_idle (by simp)
@[simp] theorem execMemiTest_goes (data : Word) (s : State) : s.goes (execMemiTest data s) := State.goes_idle (by simp)
@[simp] theorem execMemiInject_goes (data : Word) (s : State) : s.goes (execMemiInject data s) := State.goes_idle (by simp)

@[simp] theorem execInjDone_goes (s : State) : s.goes (execInjDone s) := by
  unfold execInjDone
  (repeat' split) <;> exact State.goes_idle (by simp)

@[simp] theorem execFuseRecord_goes (record : Word) (last : Bool) (s : State) : s.goes (execFuseRecord record last s) := by
  unfold execFuseRecord
  (repeat' split) <;> exact State.goes_idle (by simp)

@[simp] theorem execFuseTimeout_goes (s : State) : s.goes (execFuseTimeout s) := by
  unfold execFuseTimeout
  (repeat' split) <;> exact State.goes_idle (by simp)

/-! ### Machine/Faults.lean -/

@[simp] theorem execFaultEvent_goes (s : State) : s.goes (execFaultEvent s) :=
  State.goes_drive (by simp) fun h => foldl_apart State.fault State.fault_apart _ _ h

@[simp] theorem execWindowClose_goes (source : Fin 256) (s : State) : s.goes (execWindowClose source s) := State.goes_idle (by simp)

@[simp] theorem execLogWrite_goes (s : State) : s.goes (execLogWrite s) := by
  unfold execLogWrite
  (repeat' split) <;> exact State.goes_idle (by simp)

@[simp] theorem execSrcAck_goes (source : Fin 256) (s : State) : s.goes (execSrcAck source s) := State.goes_idle (by simp)
@[simp] theorem execFwRaise_goes (source : BitVec 8) (s : State) : s.goes (execFwRaise source s) := State.goes_idle (by simp)
@[simp] theorem execFirstClear_goes (s : State) : s.goes (execFirstClear s) := State.goes_idle (by simp)

@[simp] theorem execEvtForce_goes (page : BitVec 12) (data : Word) (s : State) : s.goes (execEvtForce page data s) :=
  State.goes_idle (by simp)

@[simp] theorem execPulseEnd_goes (line : Fin 4) (s : State) : s.goes (execPulseEnd line s) := State.goes_idle (by simp)

@[simp] theorem execVdcSample_goes (value : BitVec 12) (s : State) : s.goes (execVdcSample value s) := by
  refine State.goes_ite (State.goes_rests s.rests_refl) (State.goes_ite ?_ ?_)
  · exact State.goes_drive (by simp) fun h => State.setChop_apart _ _ h
  · exact State.goes_drive (by simp) fun h => State.goGrave_apart _ _ (by
      simp only [State.rotCount_keep, State.rotRaise_keep]
      exact State.rotMap_apart (State.setChop_apart _ _ (State.gatesOff_apart _ (State.setChop_apart _ _ h))) fun _ => rfl)

/-! ### Machine/LedgRec.lean -/

@[simp] theorem execRecover_goes (s : State) : s.goes (execRecover s) := State.goes_idle (by simp)

@[simp] theorem execLedgDone_goes (err : Bool) (s : State) : s.goes (execLedgDone err s) := by
  unfold execLedgDone
  dsimp only
  (repeat' split) <;> exact State.goes_idle (by simp)

@[simp] theorem execLedgEnWrite_goes (data : Word) (s : State) : s.goes (execLedgEnWrite data s) := State.goes_idle (by simp)

/-! ### Machine/Links.lean -/

@[simp] theorem execOwnGrant_goes (ch : Fin 48) (s : State) : s.goes (execOwnGrant ch s) := by
  unfold execOwnGrant
  (repeat' split) <;> exact State.goes_idle (by simp)

@[simp] theorem execOwnAcquire_goes (ch : Fin 48) (gnt both : Bool) (s : State) : s.goes (execOwnAcquire ch gnt both s) := by
  unfold execOwnAcquire
  (repeat' split) <;> exact State.goes_idle (by simp)

@[simp] theorem execOwnRelease_goes (ch : Fin 48) (s : State) : s.goes (execOwnRelease ch s) := by
  unfold execOwnRelease
  dsimp only
  (repeat' split) <;> exact State.goes_idle (by simp)

@[simp] theorem execClaimWrite_goes (reg : Fin 2) (data : Word) (s : State) : s.goes (execClaimWrite reg data s) :=
  State.goes_idle (by simp)

@[simp] theorem execXlinkEnable_goes (data : Word) (s : State) : s.goes (execXlinkEnable data s) := State.goes_idle (by simp)
@[simp] theorem execReflEnable_goes (data : Word) (s : State) : s.goes (execReflEnable data s) := State.goes_idle (by simp)
@[simp] theorem execOwnClr_goes (s : State) : s.goes (execOwnClr s) := State.goes_idle (by simp)

@[simp] theorem execRecordReject_goes (crc : Bool) (s : State) : s.goes (execRecordReject crc s) := by
  unfold execRecordReject
  (repeat' split) <;> exact State.goes_idle (by simp)

@[simp] theorem execMemberLost_goes (member : Fin 4) (s : State) : s.goes (execMemberLost member s) := by
  unfold execMemberLost
  (repeat' split) <;> exact State.goes_idle (by simp)

@[simp] theorem execPeerLost_goes (s : State) : s.goes (execPeerLost s) := by
  unfold execPeerLost
  (repeat' split) <;> exact State.goes_idle (by simp)

@[simp] theorem execResend_goes (lane : Fin 2) (s : State) : s.goes (execResend lane s) := by
  unfold execResend
  dsimp only
  (repeat' split) <;> exact State.goes_idle (by simp)

@[simp] theorem execHeartbeatSend_goes (s : State) : s.goes (execHeartbeatSend s) := by
  unfold execHeartbeatSend
  (repeat' split) <;> exact State.goes_idle (by simp)

@[simp] theorem execRecHb_goes (hdr : LHdr) (grave pf sealing : Bool) (time : BitVec 64) (s : State) :
    s.goes (execRecHb hdr grave pf sealing time s) :=
  State.goes_idle (by simp)

@[simp] theorem execRecAck_goes (hdr : LHdr) (lane : Fin 2) (upTo : BitVec 16) (s : State) : s.goes (execRecAck hdr lane upTo s) :=
  State.goes_idle (by simp)

@[simp] theorem execSyncSend_goes (s : State) : s.goes (execSyncSend s) := by
  unfold execSyncSend
  (repeat' split) <;> exact State.goes_idle (by simp)

@[simp] theorem execRecSync_goes (hdr : LHdr) (theta : BitVec 48) (omega : BitVec 32) (time : BitVec 64) (s : State) :
    s.goes (execRecSync hdr theta omega time s) :=
  State.goes_idle (by simp)

@[simp] theorem execSyncLost_goes (s : State) : s.goes (execSyncLost s) := by
  unfold execSyncLost
  (repeat' split) <;> exact State.goes_idle (by simp)

@[simp] theorem execRecTrig_goes (hdr : LHdr) (time : BitVec 64) (stamp : BitVec 32) (s : State) : s.goes (execRecTrig hdr time stamp s) :=
  State.goes_idle (by simp)

@[simp] theorem execRecNum_goes (hdr : LHdr) (prof : Fin 8) (num : BitVec 32) (s : State) : s.goes (execRecNum hdr prof num s) :=
  State.goes_idle (by simp)

@[simp] theorem execRecPartial_goes (hdr : LHdr) (row : Fin 4) (close : BitVec 2) (stripe : BitVec 32) (data : List Byte) (s : State) :
    s.goes (execRecPartial hdr row close stripe data s) :=
  State.goes_idle (by simp)

@[simp] theorem execRecStripeDone_goes (hdr : LHdr) (close : BitVec 2) (stripe : BitVec 32) (s : State) :
    s.goes (execRecStripeDone hdr close stripe s) :=
  State.goes_idle (by simp)

@[simp] theorem execRecReconReq_goes (hdr : LHdr) (stripe : BitVec 32) (mask : BitVec 16) (s : State) :
    s.goes (execRecReconReq hdr stripe mask s) :=
  State.goes_idle (by simp)

@[simp] theorem execRecReconRsp_goes (hdr : LHdr) (row : Fin 4) (cw : Fin 16) (data : List Byte) (s : State) :
    s.goes (execRecReconRsp hdr row cw data s) := by
  refine State.goes_rests (State.rests_linkTake fun t => ?_)
  (repeat' split) <;> simp [State.rests]

@[simp] theorem execRecReconEnd_goes (hdr : LHdr) (lost : BitVec 192) (s : State) : s.goes (execRecReconEnd hdr lost s) := by
  refine State.goes_rests (State.rests_linkTake fun t => ?_)
  (repeat' split) <;> simp [State.rests]

@[simp] theorem execRecMapUpd_goes (hdr : LHdr) (ups : List LMap) (s : State) : s.goes (execRecMapUpd hdr ups s) :=
  State.goes_rests (State.rests_linkTake fun t => by (repeat' split) <;> simp [State.rests])

@[simp] theorem execRecHoop_goes (hdr : LHdr) (hoop : Fin 64) (data : List Byte) (s : State) : s.goes (execRecHoop hdr hoop data s) :=
  State.goes_rests (State.rests_linkTake fun t => by (repeat' split) <;> simp [State.rests])

@[simp] theorem execRecIntent_goes (hdr : LHdr) (done : Bool) (body : BitVec 352) (s : State) : s.goes (execRecIntent hdr done body s) :=
  State.goes_rests (State.rests_linkTake fun t => by (repeat' split) <;> simp [State.rests])

@[simp] theorem execRecBad_goes (hdr : LHdr) (taddr : BitVec 32) (s : State) : s.goes (execRecBad hdr taddr s) :=
  State.goes_rests (State.rests_linkTake fun t => by (repeat' split) <;> simp [State.rests])

@[simp] theorem execRecStripeRec_goes (hdr : LHdr) (data : List Byte) (s : State) : s.goes (execRecStripeRec hdr data s) :=
  State.goes_rests (State.rests_linkTake fun t => by dsimp only; (repeat' split) <;> simp [State.rests])

@[simp] theorem execRecRef_goes (hdr : LHdr) (glun : Fin 768) (offs : BitVec 64) (s : State) : s.goes (execRecRef hdr glun offs s) :=
  State.goes_rests (State.rests_linkTake fun t => by (repeat' split) <;> simp [State.rests])

@[simp] theorem execRecTrim_goes (hdr : LHdr) (ch : Fin 48) (data : List Byte) (s : State) : s.goes (execRecTrim hdr ch data s) :=
  State.goes_rests (State.rests_linkTake fun t => by (repeat' split) <;> simp [State.rests])

@[simp] theorem execHoopRecordPeriod_goes (s : State) : s.goes (execHoopRecordPeriod s) := by
  unfold execHoopRecordPeriod
  (repeat' split) <;> exact State.goes_idle (by simp)

@[simp] theorem execTakeover_goes (s : State) : s.goes (execTakeover s) := by
  unfold execTakeover
  dsimp only
  (repeat' split) <;> exact State.goes_idle (by simp)

@[simp] theorem execTakeoverFail_goes (ch : Fin 48) (s : State) : s.goes (execTakeoverFail ch s) := by
  unfold execTakeoverFail
  (repeat' split) <;> exact State.goes_idle (by simp)

/-! ### Machine/Window.lean -/

@[simp] theorem execSramWindowWrite_goes (addr : BitVec 24) (be : BitVec 4) (data : Word) (s : State) :
    s.goes (execSramWindowWrite addr be data s) := by
  unfold execSramWindowWrite
  dsimp only
  (repeat' split) <;> exact State.goes_idle (by simp)

/-! ### Machine/Dma.lean -/

@[simp] theorem execDmaCopy_goes (ch : Fin 8) (s : State) : s.goes (execDmaCopy ch s) := State.goes_idle (by simp)
@[simp] theorem execDmaFill_goes (ch : Fin 8) (s : State) : s.goes (execDmaFill ch s) := State.goes_idle (by simp)
@[simp] theorem execDmaGather_goes (ch : Fin 8) (s : State) : s.goes (execDmaGather ch s) := State.goes_idle (by simp)
@[simp] theorem execDmaScatter_goes (ch : Fin 8) (s : State) : s.goes (execDmaScatter ch s) := State.goes_idle (by simp)
@[simp] theorem execDmaInterleave_goes (ch : Fin 8) (s : State) : s.goes (execDmaInterleave ch s) := State.goes_idle (by simp)
@[simp] theorem execDmaDeinterleave_goes (ch : Fin 8) (s : State) : s.goes (execDmaDeinterleave ch s) := State.goes_idle (by simp)
@[simp] theorem execDmaBitslice_goes (ch : Fin 8) (s : State) : s.goes (execDmaBitslice ch s) := State.goes_idle (by simp)
@[simp] theorem execDmaDump_goes (ch : Fin 8) (s : State) : s.goes (execDmaDump ch s) := State.goes_idle (by simp)

@[simp] theorem execDmaBurst_goes (s : State) : s.goes (execDmaBurst s) := by
  unfold execDmaBurst
  dsimp only
  (repeat' split) <;> exact State.goes_idle (by simp)

@[simp] theorem execDmaPause_goes (ch : Fin 8) (s : State) : s.goes (execDmaPause ch s) := State.goes_idle (by simp)
@[simp] theorem execDmaResume_goes (ch : Fin 8) (s : State) : s.goes (execDmaResume ch s) := State.goes_idle (by simp)
@[simp] theorem execDmaAbort_goes (ch : Fin 8) (s : State) : s.goes (execDmaAbort ch s) := State.goes_idle (by simp)

@[simp] theorem execDmaPaused_goes (ch : Fin 8) (s : State) : s.goes (execDmaPaused ch s) := by
  unfold execDmaPaused
  (repeat' split) <;> exact State.goes_idle (by simp)

/-! ### Machine/Gdt.lean -/

@[simp] theorem execGdtStart_goes (ch : Fin 48) (data : Word) (s : State) : s.goes (execGdtStart ch data s) :=
  State.goes_idle (by simp)

@[simp] theorem execGdtDone_goes (ch : Fin 48) (s : State) : s.goes (execGdtDone ch s) := by
  unfold execGdtDone
  dsimp only
  (repeat' split) <;> exact State.goes_idle (by simp)

/-! ### Machine/MemPort.lean -/

@[simp] theorem execMemoryReadReturn_goes (port : Fin 2) (cls : Fin 4) (data : Line) (last err : Bool) (s : State) :
    s.goes (execMemoryReadReturn port cls data last err s) := by
  unfold execMemoryReadReturn
  (repeat' split) <;> exact State.goes_idle (by simp)

@[simp] theorem execMemoryWriteAccepted_goes (port : Fin 2) (beats : Fin 64) (s : State) :
    s.goes (execMemoryWriteAccepted port beats s) := by
  unfold execMemoryWriteAccepted
  split
  · exact State.goes_rests s.rests_refl
  case h_2 w _ =>
    have hu := s.keeps_store (w.addr + w.before w.beat)
      ((w.data.drop (w.before w.beat)).take (w.before (min w.lines (w.beat + beats.val + 1)) - w.before w.beat))
    dsimp only
    generalize ({ s with ext := _ } : State) = u at hu ⊢
    (repeat' split) <;> exact hu.goes_rests (by simp [State.rests])

/-! ### Machine/Rotor.lean -/

@[simp] theorem execRotorStart_goes (s : State) : s.goes (execRotorStart s) :=
  State.goes_drives (State.drives_cpWr fun t => ⟨by simp, rotStart_apart t⟩)

@[simp] theorem execRotorStop_goes (s : State) : s.goes (execRotorStop s) :=
  State.goes_drives (State.drives_cpWr fun t => ⟨by simp, rotStop_apart t⟩)

@[simp] theorem execRotorCoast_goes (s : State) : s.goes (execRotorCoast s) :=
  State.goes_drives (State.drives_cpWr fun t => ⟨by simp, rotCoast_apart t⟩)

@[simp] theorem execRotorRun_goes (s : State) : s.goes (execRotorRun s) :=
  State.goes_drives (State.drives_cpWr fun t => ⟨by simp, rotRun_apart t⟩)

@[simp] theorem execRotorClear_goes (s : State) : s.goes (execRotorClear s) :=
  State.goes_drives (State.drives_cpWr fun t => ⟨by simp, rotClear_apart t⟩)

@[simp] theorem execRotorEnable_goes (data : Word) (s : State) : s.goes (execRotorEnable data s) :=
  State.goes_drives (State.drives_cpWr fun t => ⟨by simp, rotCtrlWr_apart data t⟩)

@[simp] theorem execSpdCmdWrite_goes (data : Word) (s : State) : s.goes (execSpdCmdWrite data s) :=
  State.goes_drives (State.drives_cpWr fun t => ⟨by simp, spdCmdWr_apart data t⟩)

@[simp] theorem execOcTrip_goes (level : Bool) (s : State) : s.goes (execOcTrip level s) := by
  unfold execOcTrip
  dsimp only
  (repeat' split) <;> exact State.goes_drive (by simp) fun h => by simp [h]

@[simp] theorem execOcHoldExpire_goes (s : State) : s.goes (execOcHoldExpire s) := by
  unfold execOcHoldExpire
  (repeat' split) <;> exact State.goes_drive (by simp) fun h => by simp [h]

@[simp] theorem execRotCmdEdge_goes (level : Bool) (s : State) : s.goes (execRotCmdEdge level s) := by
  unfold execRotCmdEdge
  dsimp only
  (repeat' split) <;> exact State.goes_drive (by simp) fun h => by simp [h]

@[simp] theorem execAcmdSample_goes (value : BitVec 12) (s : State) : s.goes (execAcmdSample value s) := by
  unfold execAcmdSample
  (repeat' split) <;> exact State.goes_drive (by simp) fun h => by simp [h]

@[simp] theorem execCmdLost_goes (s : State) : s.goes (execCmdLost s) := by
  unfold execCmdLost
  dsimp only
  (repeat' split) <;> exact State.goes_drive (by simp) fun h => by simp [h]

@[simp] theorem execSpinCheckEnd_goes (s : State) : s.goes (execSpinCheckEnd s) := by
  unfold execSpinCheckEnd
  (repeat' split) <;> exact State.goes_drive (by simp) fun h => by simp [h]

@[simp] theorem execAlignEnd_goes (s : State) : s.goes (execAlignEnd s) := by
  unfold execAlignEnd
  split
  · exact State.goes_rests s.rests_refl
  · exact State.goes_drive (by simp) fun h =>
      State.askSector_apart _ (State.shuntStart_apart _ _ (State.setRot_apart _ _ (State.stepMap_apart _ _ h)))

@[simp] theorem execOpenLoopCommutation_goes (s : State) : s.goes (execOpenLoopCommutation s) := by
  unfold execOpenLoopCommutation
  (repeat' split) <;> exact State.goes_drive (by simp) fun h => by simp [h]

@[simp] theorem execRampEnd_goes (s : State) : s.goes (execRampEnd s) := by
  unfold execRampEnd
  dsimp only
  (repeat' split) <;> exact State.goes_drive (by simp) fun h => by simp [h]

@[simp] theorem execZeroCrossing_goes (phase : Fin 3) (level counted : Bool) (s : State) :
    s.goes (execZeroCrossing phase level counted s) := by
  have hpin (v : BitVec 3) : s.drives { s with pins := { s.pins with rotZc := v } } := ⟨⟨rfl, rfl, rfl⟩, id⟩
  refine State.goes_ite (State.goes_drives (hpin _)) ?_
  split
  · exact State.goes_drives ((hpin _).trans (State.drives_freeCrossing _ _ _))
  · exact State.goes_drives ((hpin _).trans (State.drives_freeCrossing _ _ _))
  · exact State.goes_drives ((hpin _).trans (State.drives_ite (State.drives_refl _) (State.drives_catchCrossing _ _ _)))
  · have hdone {t : State} (ht : s.drives t) :
        s.drives (((t.setRot .step).rotMap (fun r => { r with refN := r.step.speedN.toNat })).stepGo) :=
      ((ht.trans (State.drives_setRot _ _)).trans (State.drives_rotMap _)).trans (State.drives_stepGo _)
    have ht (f : StepS → StepS) (v : BitVec 3) :
        s.drives ((State.sectorTimed { s with pins := { s.pins with rotZc := v } }).stepMap f) :=
      ((hpin _).trans (State.drives_sectorTimed _)).trans (State.drives_stepMap _ _)
    refine State.goes_ite (State.goes_drives (hpin _)) (State.goes_ite (State.goes_drives (hdone (ht _ _))) (State.goes_drives ?_))
    exact (ht _ _).trans (State.drives_stepMap _ _)
  · exact State.goes_ite (State.goes_drives ((hpin _).trans (State.drives_stepCrossing _))) (State.goes_drives (hpin _))
  · exact State.goes_drives (hpin _)

@[simp] theorem execCommutate_goes (s : State) : s.goes (execCommutate s) := by
  unfold execCommutate
  split
  · exact State.goes_rests s.rests_refl
  dsimp only
  split
  · refine State.goes_drive (by simp) fun h => State.runVec_apart _ (State.shuntStart_apart _ _ (State.setRot_apart _ _ ?_))
    exact State.stepMap_apart _ _ (State.obsStart_apart _ _ _ (State.stepMap_apart _ _ h))
  · exact State.goes_drive (by simp) fun h => State.askSector_apart _ (State.stepMap_apart _ _ h)

@[simp] theorem execPwmPeriod_goes (s : State) : s.goes (execPwmPeriod s) := by
  unfold execPwmPeriod
  split
  · exact State.goes_drive (by simp) fun h => State.askSector_apart _ (State.stepMap_apart _ _ (State.stepDuty_apart _ h))
  · exact State.goes_drive (by simp) fun h => State.askSector_apart _ (State.stepMap_apart _ _ h)
  · exact State.goes_drive (by simp) fun h => State.askSector_apart _ (State.stepMap_apart _ _ h)
  · exact State.goes_rests s.rests_refl

@[simp] theorem execIshSample_goes (value : BitVec 12) (s : State) : s.goes (execIshSample value s) := by
  have hcut {u : State} (hu : s.drives u) : s.drives (u.stepMap (fun t => t.turnOff s.cyc)).askSector :=
    hu.trans ⟨by simp, fun h => State.askSector_apart _ (State.stepMap_apart _ _ h)⟩
  have hu (i : Int) (t : Nat) : s.drives (if s.stepSampled t then s.keepSample i t else s) :=
    State.drives_ite (s.drives_keepSample _ _) s.drives_refl
  refine State.goes_drives ?_
  split
  · exact State.drives_ite (hcut (hu _ _)) (hu _ _)
  · exact State.drives_ite (hcut (hu _ _)) (hu _ _)
  · exact State.drives_ite (hcut (hu _ _)) (hu _ _)
  · exact s.drives_keepSample _ _
  · exact s.drives_keepSample _ _
  · exact s.drives_keepSample _ _
  · exact s.drives_refl

/-- A chopper fault turns the chopper off and is counted, whatever the drive does next. -/
theorem State.drives_chopFault (s : State) : s.drives
    (((((s.rotMap (fun r => { r with chopFlt := true })).setChop false).rotRaise 3).bump R.ROTOR_TRIP_CNT_CHOP).rotCount 1) :=
  ⟨by simp, fun h => by
    simp only [State.rotCount_keep, State.bump_keep, State.rotRaise_keep, State.legsApart]
    exact State.setChop_apart _ _ (State.rotMap_apart h fun _ => rfl)⟩

@[simp] theorem execChopFault_goes (fb fault : Bool) (s : State) : s.goes (execChopFault fb fault s) := by
  have hfb : s.drives (s.chopLevel fb) := ⟨by simp, State.chopLevel_apart s fb⟩
  refine State.goes_ite (State.goes_drives hfb) ?_
  refine State.goes_drives ((hfb.trans (State.drives_chopFault _)).trans ?_)
  exact State.drives_ite (State.drives_refl _) (State.drives_ite (State.drives_rotMap _) ⟨by simp, State.chopStop_apart _⟩)

@[simp] theorem execRecatchTimeout_goes (s : State) : s.goes (execRecatchTimeout s) := by
  unfold execRecatchTimeout
  dsimp only
  (repeat' split) <;> exact State.goes_drive (by simp) fun h => by simp [h]

@[simp] theorem execAscExit_goes (s : State) : s.goes (execAscExit s) := by
  unfold execAscExit
  (repeat' split) <;> exact State.goes_drive (by simp) fun h => by simp [h]

@[simp] theorem execCoastTimeout_goes (s : State) : s.goes (execCoastTimeout s) := by
  unfold execCoastTimeout
  (repeat' split) <;> exact State.goes_drive (by simp) fun h => by simp [h]

@[simp] theorem execUndervolt_goes (s : State) : s.goes (execUndervolt s) := by
  unfold execUndervolt
  (repeat' split) <;> exact State.goes_drive (by simp) fun h => by simp [h]

/-! ### Machine/Port.lean -/

@[simp] theorem execRegisterWrite_goes (a : BitVec 24) (be : BitVec 4) (data : Word) (s : State) : s.goes (execRegisterWrite a be data s) :=
  State.goes_drives (State.drives_cpWr fun t => ⟨by simp, cpEffect_apart _ be data t⟩)

@[simp] theorem execOffAccess_goes (addr : BitVec 24) (we : Bool) (be : BitVec 4) (data : Word) (s : State) :
    s.goes (execOffAccess addr we be data s) := by
  unfold execOffAccess
  (repeat' split) <;> exact State.goes_idle (by simp)

@[simp] theorem execStoreHoldEnd_goes (s : State) : s.goes (execStoreHoldEnd s) := State.goes_drive (by simp) fun h => by simp [h]
@[simp] theorem execHoldDrop_goes (s : State) : s.goes (execHoldDrop s) := State.goes_drive (by simp) fun h => by simp [h]

/-! ### Machine/Resets.lean -/

@[simp] theorem execColdReset_goes (s : State) : s.goes (execColdReset s) := by
  obtain ⟨m, e, hexec⟩ := exec_coldReset s
  obtain ⟨w, hw, -⟩ := (s.coldBase m e).strapRegs_words (fun _ => true)
  exact ⟨_, hexec, by rw [hw]; exact ⟨rfl, rfl, fun _ => rfl, id⟩⟩

@[simp] theorem execWarmReset_goes (s : State) : s.goes (execWarmReset s) := by
  unfold execWarmReset
  (repeat' split) <;> exact State.goes_drive (by simp) fun h => by simp [h]

@[simp] theorem execWpHoldEnd_goes (ch : Fin 48) (s : State) : s.goes (execWpHoldEnd ch s) := by
  unfold execWpHoldEnd
  dsimp only
  (repeat' split) <;> exact State.goes_idle (by simp)

@[simp] theorem execResetRelease_goes (lot : BitVec 32) (die : BitVec 24) (xlIdx : BitVec 2) (rfPrimary : Bool) (s : State) :
    s.goes (execResetRelease lot die xlIdx rfPrimary s) := by
  unfold execResetRelease
  (repeat' split) <;> exact State.goes_idle (by simp)

@[simp] theorem execPortReady_goes (s : State) : s.goes (execPortReady s) := by
  unfold execPortReady
  (repeat' split) <;> exact State.goes_drive (by simp) fun h => by simp [h]

/-! ## Every command, and every step -/

/-- Every command answers a next state, with the queue and the generation parameters as they were and the two invariants kept. -/
theorem exec_goes (c : Instr) (s : State) : s.goes (exec c s) := by
  cases c <;> simp [exec]

/-- A step keeps the two invariants: the command in front of the queue does, and so does a core cycle. -/
theorem step_keeps {s t : State} (h : step s = .next t) :
    (s.legsApart → t.legsApart) ∧ (Memory.wf s.ext = true → Memory.wf t.ext = true) := by
  unfold step at h
  split at h
  · obtain rfl := Host.Outcome.next.inj h
    obtain ⟨-, -, hl, he⟩ := s.drives_tick.keeps
    exact ⟨hl, he⟩
  case h_2 c q _ =>
    obtain ⟨u, hu, -, -, hl, he⟩ := exec_goes c { s with pending := q }
    obtain rfl := Host.Outcome.next.inj (hu.symm.trans h)
    exact ⟨hl, he⟩

end Sys2Proof.Machine

/-- Settles O3: `exec_goes` says so of every command. -/
theorem everyCommandAnswersAndLeavesTheQueue : Obligations.EveryCommandAnswersAndLeavesTheQueue := by
  intro c s
  obtain ⟨t, ht, hp, hg, -⟩ := exec_goes c s
  exact ⟨t, ht, hp, hg⟩

/-- Settles O5: every operation on a gate keeps the gates of its leg apart, and every command moves the gates by these alone. -/
theorem neverBothGatesOfAPhase : Obligations.NeverBothGatesOfAPhase := fun _ _ hs h => (step_keeps h).1 hs

/-- Settles O6: MEMORY_WRITE_ACCEPTED alone changes external memory, and a store of bytes keeps the canonical form. -/
theorem externalMemoryStaysCanonical : Obligations.ExternalMemoryStaysCanonical := fun _ _ hs h => (step_keeps h).2 hs

end

-- Domains: the commands of the power controller and the answers of the power-domain signals (02_ports.md, 13_power_holdup.md).
section

open Sys2Proof Sys2Proof.Machine

namespace Sys2Proof.Machine

/-! ## Changes within one domain -/

theorem State.domOnly_refl (s : State) (d : Nat) (as : List Nat) : s.domOnly s d as := ⟨fun _ _ => rfl, fun _ _ => rfl, rfl⟩

theorem State.domOnly.trans {s t u : State} {d : Nat} {as : List Nat} (h : s.domOnly t d as) (k : t.domOnly u d as) : s.domOnly u d as := by
  obtain ⟨hdom, hrd, ht⟩ := h
  obtain ⟨kdom, krd, hu⟩ := k
  refine ⟨fun n hn => (kdom n hn).trans (hdom n hn), fun a ha => (krd a ha).trans (hrd a ha), hu.trans ?_⟩
  rw [ht]

theorem State.domOnly_domMap (s : State) (d : Nat) (f : DomS → DomS) (as : List Nat) : s.domOnly (s.domMap d f) d as :=
  ⟨fun k hk => (State.dom_domMap s d k f).trans (if_neg hk), fun _ _ => rfl, rfl⟩

theorem State.domOnly_set (s : State) (d : Nat) (f : Fld) (v : Nat) {as : List Nat} (hf : f.addr ∈ as) : s.domOnly (s.set f v) d as :=
  ⟨fun _ _ => rfl, fun _ ha => State.rd_set_other s f v (ne_of_mem_of_not_mem hf ha).symm, rfl⟩

theorem State.dom_of_pwr {s t : State} (h : t.pwr = s.pwr) (k : Nat) : t.dom k = s.dom k := by rw [State.dom, State.dom, h]

@[simp] theorem State.dom_set (s : State) (f : Fld) (v k : Nat) : (s.set f v).dom k = s.dom k := (rfl)

@[simp] theorem State.dom_raise (s : State) (p : Page) (n b k : Nat) : (s.raise p n b).dom k = s.dom k :=
  State.dom_of_pwr (by rw [State.raise_frame]) k

@[simp] theorem State.dom_count (s : State) (src x k : Nat) : (s.count src x).dom k = s.dom k :=
  State.dom_of_pwr (by rw [State.count_frame]) k

theorem State.domOnly_raise (s : State) (d : Nat) (p : Page) (n b : Nat) {as : List Nat} (hp : evtAddr p n ∈ as) :
    s.domOnly (s.raise p n b) d as :=
  ⟨fun k _ => s.dom_raise p n b k, fun _ ha => (s.rd_raise p n b _).trans (if_neg (ne_of_mem_of_not_mem hp ha).symm),
    by rw [State.raise_frame]⟩

theorem State.domOnly_count (s : State) (d src x : Nat) (as : List Nat) : s.domOnly (s.count src x) d as :=
  ⟨fun k _ => s.dom_count src x k, fun _ _ => s.rd_count src x _, by rw [State.count_frame]⟩

/-! ## Decoder-buffer places (06_codeword.md R194) -/

/-- A request served with a place reaches its channel, the pool, the ring unit and the recovery engine alone. -/
def State.serves (s t : State) : Prop := t = { s with chans := t.chans, dec := t.dec, rng := t.rng, rcv := t.rcv }

theorem State.serves_refl (s : State) : s.serves s := rfl

theorem State.serves.trans {s t u : State} (h : s.serves t) (k : t.serves u) : s.serves u := by
  unfold State.serves at h k ⊢
  refine k.trans ?_
  rw [h]

theorem State.serves_ite {c : Prop} {_ : Decidable c} {s t u : State} (ht : s.serves t) (hu : s.serves u) :
    s.serves (if c then t else u) := by
  split
  · exact ht
  · exact hu

theorem State.serves_readTileEnd (s : State) (id k st deep : Nat) : s.serves (s.readTileEnd id k st deep) := by
  unfold State.readTileEnd
  split
  · rfl
  · exact State.serves_ite rfl rfl

theorem State.serves_issueRead (s : State) : s.serves s.issueRead := by
  unfold State.issueRead
  split
  · rfl
  next q _ =>
    have hmap : s.serves (s.readMap q.id (fun x => { x with next := q.next + 1, found := x.found.filter (fun p => p.1 ≠ q.next) })) := rfl
    dsimp only
    split
    · split
      · exact hmap.trans (State.serves_readTileEnd _ _ _ _ _)
      · split <;> rfl
    · exact hmap.trans (State.serves_readTileEnd _ _ _ _ _)

theorem State.serves_issueReads (n : Nat) (s : State) : s.serves (s.issueReads n) := by
  induction n generalizing s with
  | zero => rfl
  | succ n ih => exact s.serves_issueRead.trans (ih _)

theorem State.serves_foldl {β : Type} (g : State → β → State) (h : ∀ (s : State) x, s.serves (g s x)) (l : List β) (s : State) :
    s.serves (l.foldl g s) := foldl_rel State.serves_refl (fun _ _ _ => State.serves.trans) g h l s

theorem State.serves_loadIssue (s : State) (i : Nat) : s.serves (s.loadIssue i) := by
  unfold State.loadIssue
  split
  · rfl
  · split <;> rfl

theorem State.serves_ledgIssue (s : State) (i : Nat) : s.serves (s.ledgIssue i) := by
  unfold State.ledgIssue
  split
  · rfl
  · split
    · split <;> rfl
    · rfl

theorem State.serves_blankIssue (s : State) (j : Nat) : s.serves (s.blankIssue j) := by
  unfold State.blankIssue
  split
  · rfl
  · split
    · split <;> rfl
    · rfl

theorem State.serves_ledgPump (s : State) : s.serves s.ledgPump := by
  unfold State.ledgPump
  split
  · rfl
  · exact (State.serves_foldl _ State.serves_ledgIssue _ _).trans (State.serves_foldl _ State.serves_blankIssue _ _)

theorem State.serves_decPump (s : State) : s.serves s.decPump :=
  ((State.serves_issueReads _ _).trans (State.serves_foldl _ State.serves_loadIssue _ _)).trans (State.serves_ledgPump _)

theorem State.serves_domWork (s : State) (d : Nat) : s.serves (s.domWork d) := by
  unfold State.domWork
  split
  · exact s.serves_decPump
  · rfl

@[simp] theorem State.rd_domWork (s : State) (d a : Nat) : (s.domWork d).rd a = s.rd a := by rw [s.serves_domWork d]; rfl

@[simp] theorem State.event_domWork (s : State) (d : Nat) (p : Page) (n b : Nat) : (s.domWork d).event p n b = s.event p n b := by
  simp [State.event]

@[simp] theorem State.dom_domWork (s : State) (d k : Nat) : (s.domWork d).dom k = s.dom k := State.dom_of_pwr (by simp) k

/-- No request waits for a place of the decoder pool, as the obligations say it. -/
abbrev State.noneWaits (s : State) (d : Nat) : Prop := d < 10 ∨ (s.rng.reads = [] ∧ s.rcv.load = none ∧ s.rcv.ledg = none)

theorem State.domOnly.noneWaits {s t : State} {d : Nat} {as : List Nat} (h : s.domOnly t d as) (k : s.noneWaits d) : t.noneWaits d := by
  obtain ⟨-, -, ht⟩ := h
  rw [ht]
  exact k

/-- Where no request waits for a place, a domain that takes work again serves none. -/
theorem State.domWork_idle {s : State} {d : Nat} (h : s.noneWaits d) : s.domWork d = s := by
  unfold State.domWork
  split
  case isFalse => rfl
  case isTrue hd =>
    obtain hlt | ⟨hreads, hload, hledg⟩ := h
    · omega
    · have hr : s.pumpReads = s := by rw [State.pumpReads, hreads]; rfl
      have hi : ∀ i, s.loadIssue i = s := fun i => by rw [State.loadIssue, hload]
      have hl : s.loadPump = s := by simp [State.loadPump, List.range_succ, hi]
      rw [State.decPump, hr, hl, State.ledgPump, hledg]

/-! ## UP and DOWN (13_power_holdup.md R378 to R383) -/

theorem cmdWord_up (d : Fin 13) : (cmdWord d 1).toNat % 4 = 1 ∧ bits (cmdWord d 1).toNat 16 4 = d := by
  revert d
  decide

theorem cmdWord_down (d : Fin 13) : (cmdWord d 2).toNat % 4 = 2 ∧ bits (cmdWord d 2).toNat 16 4 = d := by
  revert d
  decide

/-- The state that UP (1) or DOWN (2) of a domain leaves: DOM_RES takes the result. -/
def State.domAnswer (s : State) (d op : Nat) : State := (s.domCmd d op).2.set R.PWR_DOM_RES_RESULT (s.domCmd d op).1

theorem exec_domUp {s : State} (d : Fin 13) (h : s.portTakes R.PWR_DOM_CMD_OP.addr) : exec (.domUp d) s = .next (s.domAnswer d 1) := by
  obtain ⟨hop, hd⟩ := cmdWord_up d
  have hw : domCmdWr (cmdWord d 1) s = s.domAnswer d 1 := by simp only [domCmdWr, hop, hd, true_or, if_true, State.domAnswer]
  rw [exec, execDomUp, State.cpWr_taken _ _ _ _ _ h, hw]

theorem exec_domDown {s : State} (d : Fin 13) (h : s.portTakes R.PWR_DOM_CMD_OP.addr) : exec (.domDown d) s = .next (s.domAnswer d 2) := by
  obtain ⟨hop, hd⟩ := cmdWord_down d
  have hw : domCmdWr (cmdWord d 2) s = s.domAnswer d 2 := by simp only [domCmdWr, hop, hd, or_true, if_true, State.domAnswer]
  rw [exec, execDomDown, State.cpWr_taken _ _ _ _ _ h, hw]

/-- A command that its result `r` answers leaves DOM_RES at `r` and changes the domain as `u` does. -/
theorem State.domAnswer_of {s u : State} {d op r : Nat} (h : s.domCmd d op = (r, u)) (hr : r < 16) :
    (s.domAnswer d op).get R.PWR_DOM_RES_RESULT = r ∧ (∀ k, (s.domAnswer d op).dom k = u.dom k) ∧
    (s.domOnly u d [R.PWR_DOM_RES_RESULT.addr] → s.domOnly (s.domAnswer d op) d [R.PWR_DOM_RES_RESULT.addr]) := by
  rw [State.domAnswer, h]
  refine ⟨?_, fun _ => rfl, fun hu => hu.trans (State.domOnly_set _ _ _ _ (List.mem_singleton_self _))⟩
  exact (State.get_set_same _ _ _ (by decide)).trans (Nat.mod_eq_of_lt hr)

/-- A command refused with result `r` leaves everything but DOM_RES. -/
theorem State.domAnswer_refused {s : State} {d op r : Nat} (h : s.domCmd d op = (r, s)) (hr : r < 16) :
    (s.domAnswer d op).get R.PWR_DOM_RES_RESULT = r ∧ s.wordsKept (s.domAnswer d op) [R.PWR_DOM_RES_RESULT.addr] ∧
    s.domAnswer d op = { s with regs := (s.domAnswer d op).regs } := by
  obtain ⟨hres, -, honly⟩ := State.domAnswer_of h hr
  obtain ⟨-, hrd, -⟩ := honly (s.domOnly_refl d _)
  refine ⟨hres, hrd, ?_⟩
  rw [State.domAnswer, h]
  rfl

section
variable {s : State} {d : Nat}

theorem State.domCmd_up_off (hd : s.domPresent d = true) (hpf : s.pf = false) (hst : (s.dom d).st = .off)
    (hcore : d = 0 ∨ (s.dom 0).st = .on) : s.domCmd d 1 = (0, s.domMap d (fun x => { x with st := .powering, init := false })) := by
  have hc : ¬ (d ≠ 0 ∧ (s.dom 0).st ≠ .on) := by
    rintro ⟨hne, hon⟩
    exact hcore.elim hne hon
  simp only [State.domCmd, hd, hpf, hst, if_neg hc, Bool.not_true, Bool.false_eq_true, if_false, if_true]

theorem State.domCmd_up_noCore (hd : s.domPresent d = true) (hpf : s.pf = false) (hst : (s.dom d).st = .off) (hne : d ≠ 0)
    (hcore : (s.dom 0).st ≠ .on) : s.domCmd d 1 = (3, s) := by simp [State.domCmd, hd, hpf, hst, hne, hcore]

theorem State.domCmd_up_quiescing (hd : s.domPresent d = true) (hpf : s.pf = false) (hst : (s.dom d).st = .quiescing) :
    s.domCmd d 1 = (0, (s.domSet d .on).domWork d) := by simp [State.domCmd, hd, hpf, hst]

theorem State.domCmd_up_waits (hd : s.domPresent d = true) (hpf : s.pf = false) (hst : (s.dom d).st = .poweringDown)
    (hw : (s.dom d).warm = true) : s.domCmd d 1 = (0, s.domMap d (fun x => { x with wantUp := true })) := by
  simp [State.domCmd, hd, hpf, hst, hw]

theorem State.domCmd_up_refused (hd : s.domPresent d = true) (hpf : s.pf = false)
    (hst : (s.dom d).st = .powering ∨ (s.dom d).st = .on ∨ (s.dom d).st = .lost) : s.domCmd d 1 = (2, s) := by
  obtain h | h | h := hst <;> simp [State.domCmd, hd, hpf, h]

theorem State.domCmd_down_on (hd : s.domPresent d = true) (hpf : s.pf = false) (hg : s.grave = false) (hst : (s.dom d).st = .on)
    (hrest : d = 0 → ∀ k, 0 < k → k < 13 → (s.dom k).st = .off) : s.domCmd d 2 = (0, s.domSet d .quiescing) := by
  have hoff : ¬ (d = 0 ∧ (List.range 13).any (fun k => k ≠ 0 && (s.dom k).st ≠ .off)) := by
    rintro ⟨h0, hany⟩
    obtain ⟨k, hk, hon⟩ := List.any_eq_true.mp hany
    obtain ⟨hk0, hne⟩ : k ≠ 0 ∧ (s.dom k).st ≠ .off := by simpa using hon
    exact hne (hrest h0 k (by omega) (List.mem_range.mp hk))
  have hok : ¬ (s.grave ∨ (s.dom d).st ≠ .on) := by simp [hg, hst]
  rw [State.domCmd]
  simp only [hd, hpf, Bool.not_true, Bool.false_eq_true, if_false, if_neg hok, if_neg hoff, show (2 : Nat) ≠ 1 by decide]

end

/-! ## The end of a power-up (17_bringup_registers.md R475) -/

theorem State.bufFlip_regs (s : State) (r w m : Nat) : (s.bufFlip r w m).regs = s.regs := by
  unfold State.bufFlip State.tabFlip
  split
  case h_5 => simp only [apply_ite State.regs, ite_self]
  all_goals rfl

theorem State.bufWrote_regs (s : State) (r w n : Nat) : (s.bufWrote r w n).regs = s.regs := by
  unfold State.bufWrote
  dsimp only
  split
  · split
    · split
      · rw [State.bufFlip_regs]
        rfl
      · rfl
    · rfl
  · rfl

@[simp] theorem State.rd_upWrite (s : State) (d a : Nat) : (s.upWrite d).rd a = s.rd a := by
  have h : (s.upWrite d).regs = s.regs := by
    unfold State.upWrite
    simp only [apply_ite State.regs, State.bufWrote_regs, ite_self]
  rw [State.rd, State.rd, h]

/-- Without an armed injection, hardware's write of a range touches the marks of its words alone. -/
theorem State.bufWrote_frame {s : State} (h : s.memi.inj = none) (r w n : Nat) :
    s.bufWrote r w n = { s with memi := (s.bufWrote r w n).memi } := by
  have hinj : (s.bufMark r w n).memi.inj = none := h
  have hw : s.bufWrote r w n = s.bufMark r w n := by simp only [State.bufWrote, hinj]
  rw [hw]
  rfl

theorem State.upWrite_frame {s : State} (h : s.memi.inj = none) (d : Nat) : s.upWrite d = { s with memi := (s.upWrite d).memi } := by
  unfold State.upWrite
  split
  · exact State.bufWrote_frame h _ _ _
  · split
    · exact State.bufWrote_frame h _ _ _
    · rfl

theorem State.rd_foldl_remapCount {a : Nat} (l : List Nat) (h : ∀ r ∈ l, a ≠ (R.MEMI_REMAP_USED_CNT r).addr) (s : State) :
    (l.foldl State.remapCount s).rd a = s.rd a := by
  induction l generalizing s with
  | nil => rfl
  | cons r l ih =>
    obtain ⟨hr, hl⟩ := List.forall_mem_cons.mp h
    exact (ih hl _).trans (State.rd_set_other _ _ _ hr)

/-- The words that the straps and the remap entries give lie in CORE. -/
theorem addrIn_straps (d : Fin 13) :
    addrIn d R.XLINK_CFG_INDEX.addr = decide (d = 0) ∧ addrIn d R.REFL_CFG_PRIMARY.addr = decide (d = 0) := by
  revert d
  decide

theorem strapAddr_core {a : Nat} (h : addrIn 0 a = false) : strapAddr a = false := by
  by_contra hs
  simp only [strapAddr, Bool.or_eq_false_iff, decide_eq_false_iff_not, not_and_or, not_not] at hs
  obtain ((rfl | rfl) | rfl) | rfl := hs <;> exact absurd h (by decide)

theorem remapCount_core {a : Nat} (h : addrIn 0 a = false) : ∀ r ∈ List.range 7, a ≠ (R.MEMI_REMAP_USED_CNT r).addr := by
  have hin : ∀ r ∈ List.range 7, addrIn 0 (R.MEMI_REMAP_USED_CNT r).addr = true := by decide
  rintro r hr rfl
  exact absurd (hin r hr) (by simp [h])

/-- Outside CORE the reset of a domain's pages is a pass over the register table. -/
theorem State.regsReset_pages (s : State) {d : Fin 13} (hd : d ≠ 0) :
    s.regsReset (addrIn d) = { s with regs := s.regs.filterMap (resetEntry (addrIn d)) } := by
  obtain ⟨hx, hr⟩ := addrIn_straps d
  simp [State.regsReset_eq, State.strapRegs, hx, hr, hd]

theorem State.upRegs_pages (s : State) {d : Fin 13} (hd : d ≠ 0) :
    s.upRegs d = { s with regs := s.regs.filterMap (resetEntry (addrIn d)) } := by
  have hn : (d : Nat) ≠ 0 := fun h => hd (Fin.ext h)
  rw [State.upRegs]
  simp only [if_neg hn, s.regsReset_pages hd]

/-- A power-up leaves the register words of the other domains' pages. -/
theorem State.rd_upRegs_other (s : State) {d : Fin 13} {a : Nat} (ha : addrIn d a = false) : (s.upRegs d).rd a = s.rd a := by
  by_cases hd : d = 0
  · subst hd
    have hne : a ≠ pageBase .memi 0 + 0x10 := by
      rintro rfl
      exact absurd ha (by decide)
    exact (State.rd_wr_other _ _ hne).trans ((State.rd_foldl_remapCount _ (remapCount_core ha) _).trans
      (State.rd_regsReset_other _ ha (strapAddr_core ha)))
  · have hk : ∀ v, resetEntry (addrIn d) (a, v) = some (a, v) := fun v => by simp [resetEntry, ha]
    rw [s.upRegs_pages hd, State.rd, tget, tfind_filterMap_kept _ _ _ (resetEntry_key _) hk, State.rd, tget]

theorem tfind_of_absent {α : Type} {t : Tab α} {k : Nat} (h : ∀ x ∈ t, k ≠ x.1) : tfind t k = none := by
  induction t with
  | nil => rfl
  | cons x t ih =>
    obtain ⟨hx, ht⟩ := List.forall_mem_cons.mp h
    simp [tfind, hx.symm, ih ht]

/-- In a table that lists each key once a pass over the entries is read key by key. -/
theorem tfind_filterMap_distinct {α : Type} (f : Nat × α → Option (Nat × α)) (t : Tab α) (k : Nat)
    (hf : ∀ x y, f x = some y → y.1 = x.1) (hs : t.Pairwise (fun x y => x.1 ≠ y.1)) :
    tfind (t.filterMap f) k = (tfind t k).bind (fun v => (f (k, v)).map Prod.snd) := by
  induction t with
  | nil => rfl
  | cons x t ih =>
    obtain ⟨k', v⟩ := x
    obtain ⟨hne, hrest⟩ := List.pairwise_cons.mp hs
    have hnone := tfind_filterMap_none f t k' hf (tfind_of_absent hne)
    cases hx : f (k', v) with
    | none =>
      by_cases hk : k' = k
      · subst hk
        simpa [hx, tfind] using hnone
      · simpa [hx, tfind, hk] using ih hrest
    | some y =>
      obtain ⟨k'', w⟩ := y
      obtain rfl : k'' = k' := hf _ _ hx
      by_cases hk : k'' = k
      · subst hk
        simp [hx, tfind]
      · simpa [hx, tfind, hk] using ih hrest

/-- A power-up of a domain beside CORE gives the words of its pages their reset values, kept bits apart. -/
theorem State.rd_upRegs_pages (s : State) {d : Fin 13} {a : Nat} (hd : d ≠ 0) (hs : s.regs.Pairwise (fun x y => x.1 ≠ y.1))
    (ha : addrIn d a = true) : (s.upRegs d).rd a = keptWord a (s.rd a) := by
  rw [s.upRegs_pages hd, State.rd, tget, tfind_filterMap_distinct _ _ _ (resetEntry_key _) hs, State.rd, tget]
  cases tfind s.regs a with
  | none => exact (keptWord_reset a).symm
  | some v => by_cases hv : keptWord a v = resetVal a <;> simp [resetEntry, ha, hv]

theorem State.foldl_remapCount_frame (l : List Nat) (s : State) :
    l.foldl State.remapCount s = { s with regs := (l.foldl State.remapCount s).regs } := by
  induction l generalizing s with
  | nil => rfl
  | cons r l ih => exact ih _

theorem State.upRegs_frame (s : State) (d : Nat) : s.upRegs d = { s with regs := (s.upRegs d).regs } := by
  obtain ⟨w, hw⟩ := s.regsReset_frame (addrIn d)
  unfold State.upRegs
  rw [hw]
  split
  · dsimp only
    rw [State.foldl_remapCount_frame]
    rfl
  · rfl

/-- The domain `d` is ON after its power-up, before a request that waited is served. -/
def State.upEnd (s : State) (d : Nat) : State :=
  (((s.upRegs d).upWrite d).domMap d (fun y => { y with st := .on, init := false })).pwrRaise 0

theorem exec_upDone {s : State} {d : Fin 13} (hst : (s.dom d).st = .powering) (hi : (s.dom d).init = true) :
    exec (.upDone d) s = .next ((s.upEnd d).domWork d) := by
  rw [exec, execUpDone, if_pos ⟨hst, hi⟩]
  rfl

theorem State.dom_upEnd (s : State) (d k : Nat) :
    (s.upEnd d).dom k = if k = d then { s.dom d with st := .on, init := false } else s.dom k := by
  have h : ∀ j, ((s.upRegs d).upWrite d).dom j = s.dom j := State.dom_of_pwr (by simp)
  rw [State.upEnd, State.pwrRaise, State.dom_raise, State.dom_domMap, h, h]

theorem State.rd_upEnd (s : State) (d : Nat) {a : Nat} (ha : a ≠ evtAddr .pwr 0) : (s.upEnd d).rd a = (s.upRegs d).rd a := by
  rw [State.upEnd, State.pwrRaise, State.rd_raise]
  exact (if_neg ha).trans (by rw [State.rd_domMap, State.rd_upWrite])

theorem State.upEnd_frame {s : State} (h : s.memi.inj = none) (d : Nat) : s.upEnd d = { s with
    pwr := { s.pwr with doms := (s.upEnd d).pwr.doms }, regs := (s.upEnd d).regs, pins := (s.upEnd d).pins, memi := (s.upEnd d).memi } := by
  have hr := s.upRegs_frame d
  have hw := State.upWrite_frame (s := s.upRegs d) (by rw [hr]; exact h) d
  rw [State.upEnd, State.pwrRaise, State.raise_frame, hw, hr]
  rfl

/-- The events of PWR lie on a page of AON. -/
theorem addrIn_evtPwr (d : Fin 13) : addrIn d (evtAddr .pwr 0) = false := by
  revert d
  decide

/-! ## A power-down ends, or is refused (13_power_holdup.md R380, R382) -/

theorem exec_downDone {s : State} {d : Fin 13} (hst : (s.dom d).st = .poweringDown) (hr : (s.dom d).req = false)
    (hw : (s.dom d).wantUp = false) : exec (.downDone d) s =
      .next (((s.domMap d (fun y => { y with ack := false, ignore := false })).domMap d
        (fun y => { y with st := .off, warm := false, wantUp := false })).pwrRaise 1) := by
  simp [exec, execDownDone, hst, hr, hw]

/-- The state in which a refused power-down has left QTO_INFO, the event and the count, before a request that waited is served. -/
def State.quiesceRefused (s : State) (d c : Nat) : State :=
  ((((s.domSet d .on).set R.PWR_QTO_INFO_DOMAIN d).set R.PWR_QTO_INFO_HOLDER c).pwrRaise 2).count 3
    ((((s.domSet d .on).set R.PWR_QTO_INFO_DOMAIN d).set R.PWR_QTO_INFO_HOLDER c).rd R.PWR_QTO_INFO_HOLDER.addr).toNat

theorem exec_quiesceTo {s : State} {d : Fin 13} {c : Nat} (hst : (s.dom d).st = .quiescing) (hh : s.holder d = some c) :
    exec (.quiesceTo d) s = .next ((s.quiesceRefused d c).domWork d) := by
  rw [exec, execQuiesceTo, hst, hh]
  rfl

theorem State.domOnly_quiesceRefused (s : State) (d c : Nat) :
    s.domOnly (s.quiesceRefused d c) d [R.PWR_QTO_INFO_HOLDER.addr, evtAddr .pwr 0] :=
  have hset := State.domOnly_set (s.domSet d .on) d R.PWR_QTO_INFO_DOMAIN d (as := [R.PWR_QTO_INFO_HOLDER.addr, evtAddr .pwr 0])
    List.mem_cons_self
  have hraise := State.domOnly_raise _ d .pwr 0 2 (List.mem_cons_of_mem _ (List.mem_singleton_self _))
  (((State.domOnly_domMap s d _ _).trans hset).trans (State.domOnly_set _ _ _ _ List.mem_cons_self)).trans
    (hraise.trans (State.domOnly_count _ _ _ _ _))

theorem State.rd_qtoInfo_quiesceRefused (s : State) (d c : Nat) : (s.quiesceRefused d c).rd R.PWR_QTO_INFO_HOLDER.addr =
    (((s.domSet d .on).set R.PWR_QTO_INFO_DOMAIN d).set R.PWR_QTO_INFO_HOLDER c).rd R.PWR_QTO_INFO_HOLDER.addr := by
  rw [State.quiesceRefused, State.rd_count, State.pwrRaise, State.rd_raise]
  exact if_neg (by decide)

/-- The codes of R380 fit the field of QTO_INFO. -/
theorem State.holder_lt {s : State} {d c : Nat} (h : s.holder d = some c) : c < 16 := by
  unfold State.holder at h
  obtain ⟨x, hx, rfl⟩ := Option.map_eq_some_iff.mp h
  have hcode : x.2 ∈ [1, 2, 3, 4, 5, 6, 7, 8, 9] := List.mem_map_of_mem (List.mem_of_find?_eq_some hx)
  have hlt : ∀ c ∈ [1, 2, 3, 4, 5, 6, 7, 8, 9], c < 16 := by decide
  exact hlt _ hcode

/-! ## A domain without power (02_ports.md R82; 13_power_holdup.md R380) -/

/-- `t` has the domains of `s`, and its external memory, drive, angle unit, control port and core-cycle counter. -/
def State.powerKept (s t : State) : Prop :=
  (∀ k, t.dom k = s.dom k) ∧ t.ext = s.ext ∧ t.rot = s.rot ∧ t.ang = s.ang ∧ t.cyc = s.cyc ∧ t.cp = s.cp

theorem State.powerKept.trans {s t u : State} (h : s.powerKept t) (k : t.powerKept u) : s.powerKept u := by
  obtain ⟨hd, he, hr, ha, hc, hp⟩ := h
  obtain ⟨kd, ke, kr, ka, kc, kp⟩ := k
  exact ⟨fun n => (kd n).trans (hd n), ke.trans he, kr.trans hr, ka.trans ha, kc.trans hc, kp.trans hp⟩

theorem State.powerKept_domLose (s : State) (d : Nat) : s.powerKept (s.domLose d) := by
  refine ⟨State.dom_of_pwr ?_, ?_⟩ <;> simp

theorem State.powerKept_sealLeave (s : State) (d : Nat) : s.powerKept (s.sealLeave d) := by
  refine ⟨fun k => ?_, ?_⟩
  · rw [State.sealLeave, State.dom_of_pwr (State.sealDone_keep _).2.2.2.2.2.2.2]
    rfl
  · simp

/-- A domain whose power is lost: what its lanes, channels and decoder places hold ends (R82; 06_codeword.md R195). -/
def State.unitsLost (s : State) (d : Nat) : State :=
  if 10 ≤ d then ((domChans d).foldl State.chanPowerLost ((domLanes d).foldl State.lanePowerLost s)).decPowerLost d
  else (domChans d).foldl State.chanPowerLost ((domLanes d).foldl State.lanePowerLost s)

/-- A domain without its acknowledge is LOST. -/
def State.lostMark (s : State) (d : Nat) : State :=
  (s.domMap d (fun y => { y with ack := false })).domMap d (fun y => { y with st := .lost, init := false })

/-- What a lost domain leaves before the event is raised and counted. -/
def State.lostEnd (s : State) (d : Nat) : State := (((s.lostMark d).unitsLost d).domLose d).sealLeave d

theorem exec_domainLost {s : State} {d : Fin 13} (hr : (s.dom d).req = true) (ha : (s.dom d).ack = true) :
    exec (.domainLost d) s = .next (((s.lostEnd d).pwrRaise 4).count 1 0) := by
  simp [exec, execDomainLost, hr, ha, State.lostEnd, State.lostMark, State.unitsLost]

theorem exec_quiesceDone {s : State} {d : Fin 13} (hst : (s.dom d).st = .quiescing) (hh : s.holder d = none) :
    exec (.quiesceDone d) s =
      .next (((s.domMap d (fun y => { y with st := .poweringDown, req := false })).domLose d).sealLeave d) := by
  simp [exec, execQuiesceDone, hst, hh]

theorem exec_pdAckTimeout {s : State} {d : Fin 13} (hst : (s.dom d).st = .powering) (hr : (s.dom d).req = true)
    (ha : (s.dom d).ack = false) : exec (.pdAckTimeout d) s =
      .next (((s.domMap d (fun y => { y with st := .off, req := false, ignore := true })).pwrRaise 3).count 2 0) := by
  simp [exec, execPdAckTimeout, hst, hr, ha]

theorem State.powerKept_unitsLost (s : State) (d : Nat) : s.powerKept (s.unitsLost d) := by
  unfold State.unitsLost
  split <;> (refine ⟨State.dom_of_pwr ?_, ?_⟩ <;> simp [foldl_pwr, foldl_ext, foldl_rot, foldl_ang, foldl_cyc, foldl_cp])

theorem State.powerKept_lostEnd (s : State) (d : Nat) : (s.lostMark d).powerKept (s.lostEnd d) :=
  ((State.powerKept_unitsLost _ d).trans (State.powerKept_domLose _ d)).trans (State.powerKept_sealLeave _ d)

theorem State.dom_lostEnd (s : State) (d k : Nat) :
    (s.lostEnd d).dom k = if k = d then { s.dom d with st := .lost, ack := false, init := false } else s.dom k := by
  obtain ⟨hdom, -⟩ := s.powerKept_lostEnd d
  rw [hdom, State.lostMark, State.dom_domMap, State.dom_domMap, State.dom_domMap, if_pos rfl]
  by_cases hk : k = d
  · rw [if_pos hk, if_pos hk]
  · rw [if_neg hk, if_neg hk, if_neg hk]

end Sys2Proof.Machine

/-- Settles O50: UP by the state of its domain, the two answers of the power-domain signals, and the end of the power-up. -/
theorem domainPowersUp : Obligations.DomainPowersUp := by
  refine ⟨fun s d ht hd hpf hst hcore => ?up,
    fun s d ht hd hpf => ⟨fun hst => ?quiescing, fun hst hw => ?waits, fun hst hne hcore => ?noCore, fun hst => ?refused⟩,
    fun s d hst hr ha => ?stagger, fun s d hd hst hr => ?rise, fun s d hst hi => ?done⟩
  case up =>
    obtain ⟨hres, hdom, honly⟩ := State.domAnswer_of (State.domCmd_up_off hd hpf hst (hcore.imp_left (congrArg Fin.val))) (by decide)
    exact ⟨_, exec_domUp d ht, (hdom d).trans (by simp), hres, honly (State.domOnly_domMap _ _ _ _)⟩
  case quiescing =>
    obtain ⟨hres, hdom, honly⟩ := State.domAnswer_of (State.domCmd_up_quiescing hd hpf hst) (by decide)
    refine ⟨_, exec_domUp d ht, (hdom d).trans (by simp [State.domSet]), fun hnone => ⟨hres, honly ?_⟩⟩
    rw [State.domWork_idle (s := s.domSet d .on) hnone]
    exact State.domOnly_domMap _ _ _ _
  case waits =>
    obtain ⟨hres, hdom, honly⟩ := State.domAnswer_of (State.domCmd_up_waits hd hpf hst hw) (by decide)
    exact ⟨_, exec_domUp d ht, (hdom d).trans (by simp), hres, honly (State.domOnly_domMap _ _ _ _)⟩
  case noCore =>
    exact ⟨_, exec_domUp d ht, State.domAnswer_refused (State.domCmd_up_noCore hd hpf hst (fun h => hne (Fin.ext h)) hcore) (by decide)⟩
  case refused => exact ⟨_, exec_domUp d ht, State.domAnswer_refused (State.domCmd_up_refused hd hpf hst) (by decide)⟩
  case stagger =>
    refine ⟨s.domMap d (fun y => { y with req := true, ignore := false }), ?_, by simp, State.domOnly_domMap _ _ _ _⟩
    simp [exec, execStaggerExpire, hst, hr, ha]
  case rise =>
    refine ⟨(s.domMap d (fun y => { y with ack := true })).domMap d (fun y => { y with init := true }), ?_, by simp,
      (State.domOnly_domMap _ _ _ _).trans (State.domOnly_domMap _ _ _ _)⟩
    simp [exec, execPdAckRise, hd, hst, hr]
  case done =>
    refine ⟨_, exec_upDone hst hi, ?_, ?_, fun k hk => ?_, fun a ha hne => ?_, fun hd hs a ha => ?_, fun hnone hinj => ?_⟩
    · rw [State.dom_domWork, State.dom_upEnd, if_pos rfl]
    · rw [State.event_domWork]
      exact State.event_raised _ _ _ _ (by decide)
    · rw [State.dom_domWork, State.dom_upEnd, if_neg hk]
    · rw [State.rd_domWork, State.rd_upEnd s d hne, State.rd_upRegs_other s ha]
    · have hne : a ≠ evtAddr .pwr 0 := by
        rintro rfl
        rw [addrIn_evtPwr] at ha
        exact absurd ha (by decide)
      rw [State.rd_domWork, State.rd_upEnd s d hne, State.rd_upRegs_pages s hd hs ha, keptWord]
    · have hframe := State.upEnd_frame hinj d
      rw [State.domWork_idle (by rw [hframe]; exact hnone)]
      exact hframe

/-- Settles O52: DOWN, then the ends of the quiesce with and without a holder, and the end of the power-down. -/
theorem domainPowersDown : Obligations.DomainPowersDown := by
  refine ⟨fun s d ht hd hpf hg hst hrest => ?down, fun s d hst hh => ?quiesced, fun s d c hst hh => ?timeout, fun s d hst hr hw => ?off⟩
  case down =>
    obtain ⟨hres, hdom, honly⟩ := State.domAnswer_of (State.domCmd_down_on hd hpf hg hst (fun h => hrest (Fin.ext h))) (by decide)
    exact ⟨_, exec_domDown d ht, (hdom d).trans (by simp [State.domSet]), hres, honly (State.domOnly_domMap _ _ _ _)⟩
  case quiesced =>
    obtain ⟨hdom, hext, hrot, hang, hcyc, hcp⟩ :=
      (State.powerKept_domLose (s.domMap d (fun y => { y with st := .poweringDown, req := false })) d).trans (State.powerKept_sealLeave _ d)
    exact ⟨_, exec_quiesceDone hst hh, (hdom d).trans (by simp), fun k hk => (hdom k).trans (by simp [hk]), hext, hrot, hang, hcyc, hcp⟩
  case timeout =>
    refine ⟨_, exec_quiesceTo hst hh, ?_, fun hnone => ?_⟩
    · simp [State.quiesceRefused, State.pwrRaise, State.domSet]
    · have hrd := s.rd_qtoInfo_quiesceRefused d c
      rw [State.domWork_idle (s := s.quiesceRefused d c) ((s.domOnly_quiesceRefused d c).noneWaits hnone)]
      refine ⟨?_, ?_, ?_, ?_, s.domOnly_quiesceRefused d c⟩
      · rw [State.get_of_rd (f := R.PWR_QTO_INFO_DOMAIN) hrd, State.get_set_apart _ _ (by decide) (by decide),
          State.get_set_same _ _ _ (by decide)]
        exact Nat.mod_eq_of_lt (by have := d.isLt; change _ < 16; omega)
      · rw [State.get_of_rd hrd, State.get_set_same _ _ _ (by decide)]
        exact Nat.mod_eq_of_lt (State.holder_lt hh)
      · rw [State.quiesceRefused, State.event_count]
        exact State.event_raised _ _ _ _ (by decide)
      · rw [hrd, State.quiesceRefused, State.count_present _ _ _ rfl]
        simp [State.pwrRaise, State.domSet]
  case off =>
    refine ⟨_, exec_downDone hst hr hw, ?_, ?_, ?_⟩
    · simp [State.pwrRaise, hw]
    · exact State.event_raised _ _ _ _ (by decide)
    · exact ((State.domOnly_domMap _ _ _ _).trans (State.domOnly_domMap _ _ _ _)).trans
        (State.domOnly_raise _ _ _ _ _ (List.mem_singleton_self _))

/-- Settles O53: the acknowledge that does not come is an event and a count; what a lost domain loses leaves the rest of the block. -/
theorem domainTimesOutOrIsLost : Obligations.DomainTimesOutOrIsLost := by
  refine ⟨fun s d hst hr ha => ?timeout, fun s d hr ha => ?lost⟩
  case timeout =>
    refine ⟨_, exec_pdAckTimeout hst hr ha, ?_, ?_, ?_, ?_⟩
    · simp [State.pwrRaise]
    · rw [State.event_count]
      exact State.event_raised _ _ _ _ (by decide)
    · rw [State.count_present _ _ _ rfl]
      simp [State.pwrRaise]
    · exact ((State.domOnly_domMap _ _ _ _).trans (State.domOnly_raise _ _ _ _ _ (List.mem_singleton_self _))).trans
        (State.domOnly_count _ _ _ _ _)
  case lost =>
    obtain ⟨-, hext, hrot, hang, hcyc, -⟩ := s.powerKept_lostEnd d
    refine ⟨_, exec_domainLost hr ha, ?_, ?_, ?_, fun k hk => ?_, ?_⟩
    · rw [State.dom_count, State.pwrRaise, State.dom_raise, State.dom_lostEnd, if_pos rfl]
    · rw [State.event_count]
      exact State.event_raised _ _ _ _ (by decide)
    · rw [State.count_present _ _ _ rfl]
      simp [State.pwrRaise, hcyc, State.lostMark]
    · rw [State.dom_count, State.pwrRaise, State.dom_raise, State.dom_lostEnd, if_neg hk]
    · simp [State.pwrRaise, hext, hrot, hang, hcyc, State.lostMark]

end

-- Ports: OFF_ACCESS and the dropped hold, the beats of memory reads, channel ownership (02_ports.md).
section

open Sys2Proof Sys2Proof.Machine

namespace Sys2Proof.Machine

/-! ## Words that a step keeps -/

theorem State.wordsKept.trans {s t u : State} {as : List Nat} (h : s.wordsKept t as) (k : t.wordsKept u as) : s.wordsKept u as :=
  fun a ha => (k a ha).trans (h a ha)

theorem State.wordsKept_set (s : State) (f : Fld) (v : Nat) {as : List Nat} (hf : f.addr ∈ as) : s.wordsKept (s.set f v) as :=
  fun _ ha => State.rd_set_other s f v (ne_of_mem_of_not_mem hf ha).symm

theorem State.wordsKept_raise (s : State) (p : Page) (n b : Nat) {as : List Nat} (hp : evtAddr p n ∈ as) :
    s.wordsKept (s.raise p n b) as :=
  fun _ ha => (s.rd_raise p n b _).trans (if_neg (ne_of_mem_of_not_mem hp ha).symm)

theorem State.wordsKept_count (s : State) (src x : Nat) (as : List Nat) : s.wordsKept (s.count src x) as :=
  fun _ _ => State.rd_count _ _ _ _

/-! ## OFF_ACCESS and the dropped hold -/

theorem exec_offAccess {s : State} {a : BitVec 24} {k : Nat} (we : Bool) (be : BitVec 4) (d : Word) (hr : s.cpReady = true)
    (ha : s.addrDom a.toNat = some k) (hp : s.powered k = false) : exec (.offAccess a we be d) s =
      .next (if we then s.offAccess a.toNat else { s.offAccess a.toNat with cp := { (s.offAccess a.toNat).cp with rdata := 0 } }) := by
  simp [exec, execOffAccess, hr, ha, hp]

theorem exec_offAccess_held {s : State} (a : BitVec 24) (we : Bool) (be : BitVec 4) (d : Word) (hr : s.cpReady = false) :
    exec (.offAccess a we be d) s = .next { s with cp := { s.cp with held := some ⟨we, a, be, d⟩ } } := by
  simp [exec, execOffAccess, hr]

theorem exec_holdDrop {s : State} {h : HeldWrite} (hh : s.cp.hold = some h) (hq : s.cp.held = none) :
    exec .holdDrop s = .next ((s.holdClear h.grp).seqRaise h.grp 1) := by
  have hd : s.holdDrop = (s.holdClear h.grp).seqRaise h.grp 1 := by rw [State.holdDrop, hh]
  have hp : ((s.holdClear h.grp).seqRaise h.grp 1).cp.held = none := by
    rw [State.seqRaise, State.raise_frame]
    exact hq
  rw [exec, execHoldDrop, hd, State.cpPump, hp]

/-- HOLD_ACTIVE and the events of a sequencer group lie in different words. -/
theorem holdActive_ne_evt (g : Nat) : (R.SEQG_STATUS_HOLD_ACTIVE g).addr ≠ evtAddr .seqg g := by
  change 0x6000C + g * 0x1000 ≠ 0x60000 + g * 0x1000 + 0x10
  omega

end Sys2Proof.Machine

/-- Settles O11: the three answers of an OFF_ACCESS and of a dropped hold. -/
theorem offAccessReportsTheAddress : Obligations.OffAccessReportsTheAddress := by
  refine ⟨fun s a we be d k hr ha hp => ?off, fun s a we be d hr => exec_offAccess_held a we be d hr, fun s h hh hq => ?drop⟩
  case off =>
    have hframe := s.offAccess_frame a.toNat
    refine ⟨_, exec_offAccess we be d hr ha hp, ?_⟩
    cases we <;>
      exact ⟨s.event_offAccess _, s.get_offAccess a.isLt, by rw [hframe]; rfl, s.wordsKept_offAccess _, by rw [hframe]; rfl⟩
  case drop =>
    refine ⟨_, exec_holdDrop hh hq, ?_, State.event_raised _ _ _ _ (by decide), ?_, ?_, ?_, ?_⟩
    · rw [State.seqRaise, State.raise_frame]
      rfl
    · exact (State.get_raise _ _ _ _ _ (holdActive_ne_evt _)).trans (State.get_set_same _ _ _ (by change 7 + 1 ≤ 32; decide))
    · exact (State.wordsKept_set _ _ _ (List.mem_cons_of_mem _ (List.mem_singleton_self _))).trans
        (State.wordsKept_raise _ _ _ _ List.mem_cons_self)
    · exact State.raise_sram _ _ _ _
    · rw [State.seqRaise, State.raise_frame]
      rfl

namespace Sys2Proof.Machine

/-! ## Memory reads -/

/-- With nothing waiting, a port grants nothing. -/
theorem State.mpPump_empty {s : State} (h : s.mp.queue = []) (port : Nat) : s.mpPump port = s := by
  simp [State.mpPump, h, State.mpGrant, State.mpPick, State.mpHeads]

/-- A read with one more beat, of 64 bytes of data. -/
def MpRead.beatGood (r : MpRead) (d : Line) : MpRead := { r with beat := r.beat + 1, data := r.data ++ leBytes 64 d.toNat }

/-- A read with one more beat, which is no data. -/
def MpRead.beatBad (r : MpRead) : MpRead :=
  { r with beat := r.beat + 1, data := r.data ++ List.replicate 64 0, bad := r.bad ++ [r.beat] }

/-- The read `r` is no longer outstanding. -/
def State.readTaken (s : State) (r : MpRead) : State := { s with mp := { s.mp with reads := s.mp.reads.erase r } }

/-- The read `r` has become `r'`. -/
def State.readBecomes (s : State) (r r' : MpRead) : State :=
  { s with mp := { s.mp with reads := s.mp.reads.map (fun x => if x = r then r' else x) } }

section
variable {s : State} {port : Fin 2} {cls : Fin 4} {r : MpRead}

theorem exec_readReturn_good (d : Line) (hf : s.mp.reads.find? (fun x => x.port = port.val ∧ x.cls = cls.val) = some r)
    (hl : r.beat + 1 ≠ r.lines) : exec (.memoryReadReturn port cls d false false) s = .next (s.readBecomes r (r.beatGood d)) := by
  rw [exec, execMemoryReadReturn, hf]
  simp [hl, State.readBecomes, MpRead.beatGood]

theorem exec_readReturn_bad (d : Line) (hf : s.mp.reads.find? (fun x => x.port = port.val ∧ x.cls = cls.val) = some r)
    (hl : r.beat + 1 ≠ r.lines) (hu : r.use ≠ .none) :
    exec (.memoryReadReturn port cls d false true) s = .next ((s.mpErr port).readBecomes r r.beatBad) := by
  rw [exec, execMemoryReadReturn, hf]
  simp [hl, hu, State.readBecomes, MpRead.beatBad]

theorem exec_readReturn_last (d : Line) (hf : s.mp.reads.find? (fun x => x.port = port.val ∧ x.cls = cls.val) = some r)
    (hl : r.beat + 1 = r.lines) : exec (.memoryReadReturn port cls d true false) s =
      .next (((s.readTaken r).mpPump port).mpEnded (r.beatGood d)) := by
  rw [exec, execMemoryReadReturn, hf]
  simp [hl, MpRead.beatGood, State.readTaken]

end

/-- The source of each port is present in every generation. -/
theorem State.mpErr_eq (s : State) (port : Fin 2) :
    s.mpErr port = { s.raise .memi 0 10 with flt := { s.flt with inflight := s.flt.inflight ++ [⟨38 + port, 0, s.cyc, false⟩] } } := by
  have hp : ∀ (t : State), t.srcPresent (memiSrc + 17 + port) = true := by
    intro t
    match port with
    | 0 => rfl
    | 1 => rfl
  rw [State.mpErr, State.count_present _ _ _ (hp _)]
  simp [memiSrc]

/-- A read whose reader uses the data at a command of its own. -/
theorem State.mpEnded_done {s : State} {r : MpRead} (h : (∃ k, r.use = .mapLine k) ∨ (∃ n b, r.use = .spool n b)) :
    s.mpEnded r = { s with mp := { s.mp with done := s.mp.done ++ [r] } } := by
  obtain ⟨k, hk⟩ | ⟨n, b, hk⟩ := h <;> simp [State.mpEnded, hk]

end Sys2Proof.Machine

/-- Settles O12: a beat with data, a beat with RD_ERR, and the last beat. -/
theorem memoryReadBeatsCompleteInOrder : Obligations.MemoryReadBeatsCompleteInOrder := by
  refine fun s port cls d r hf => ⟨fun hl => exec_readReturn_good d hf hl, fun hl hu => ?bad, fun hl hq huse => ?last⟩
  case bad =>
    have hframe := s.raise_frame .memi 0 10
    have herr := s.mpErr_eq port
    refine ⟨_, exec_readReturn_bad d hf hl hu, ?_, ?_, ?_, ?_, ?_⟩
    · rw [herr]
      exact State.event_raised _ _ _ _ (by decide)
    · rw [herr]
      rfl
    · rw [herr, hframe]
      rfl
    · rw [herr]
      exact State.wordsKept_raise _ _ _ _ (List.mem_singleton_self _)
    · rw [herr, hframe]
      rfl
  case last =>
    rw [exec_readReturn_last d hf hl, State.mpPump_empty (s := s.readTaken r) hq, State.mpEnded_done (r := r.beatGood d) huse]
    rfl

namespace Sys2Proof.Machine

/-! ## Channel ownership -/

/-- A change of a channel's ownership leaves the other channels and everything else. -/
theorem State.ownMap_effect (s : State) (n : Nat) (f : OwnS → OwnS) : ((s.ownMap n f).ch n).own = f (s.ch n).own ∧
    (∀ k, k ≠ n → (s.ownMap n f).ch k = s.ch k) ∧ s.ownMap n f = { s with chans := (s.ownMap n f).chans } := by
  refine ⟨?_, fun k hk => (State.ch_chMap _ _ _ _).trans (if_neg hk), rfl⟩
  rw [State.ownMap, State.ch_chMap, if_pos rfl]

section
variable {s : State} {n : Fin 48}

theorem exec_ownGrant (hc : s.claims n = true) (hr : (s.ch n).own.req = false) (hx : (s.ch n).own.conflict = false) :
    exec (.ownGrant n) s = .next (s.ownMap n (fun o => { o with req := true })) := by
  simp [exec, execOwnGrant, hc, hr, hx]

theorem exec_ownAcquire_granted (both : Bool) (hr : (s.ch n).own.req = true) (ho : (s.ch n).own.owned = false) :
    exec (.ownAcquire n true both) s = .next (s.ownMap n (fun o => { o with owned := true })) := by
  simp [exec, execOwnAcquire, hr, ho]

theorem exec_ownAcquire_standby (both : Bool) (hr : (s.ch n).own.req = true) (ho : (s.ch n).own.owned = false)
    (hp : s.flag R.REFL_CFG_PRIMARY = false) :
    exec (.ownAcquire n false both) s = .next (s.ownMap n (fun o => { o with req := false })) := by
  simp [exec, execOwnAcquire, hr, ho, hp]

theorem exec_ownAcquire_conflict (hr : (s.ch n).own.req = true) (ho : (s.ch n).own.owned = false)
    (hp : s.flag R.REFL_CFG_PRIMARY = true) : exec (.ownAcquire n false true) s =
      .next (((s.ownMap n (fun o => { o with req := false, want := false, conflict := true })).raise .refl 0 4).count 67 0) := by
  simp [exec, execOwnAcquire, hr, ho, hp]

theorem exec_ownRelease_idle (hg : s.gen.refl = true) (ho : (s.ch n).own.owned = true) (hs : (s.ch n).eng.sel = none)
    (he : s.chanEmpty n = true) (hc : s.claimBit n = false) (hw : (s.ch n).own.want = false) : exec (.ownRelease n) s =
      .next (s.ownMap n (fun o => { o with req := false, owned := false, want := false })) := by
  simp [exec, execOwnRelease, hg, ho, hs, he, hc, hw, State.ownRelease, State.ownMap]

theorem exec_ownRelease_selected (hs : (s.ch n).eng.sel ≠ none) : exec (.ownRelease n) s = .next s := by
  simp [exec, execOwnRelease, hs]

end

/-! ### Writes of CTRL and CLAIM of REFL -/

theorem rowAt_reflCtrl : rowAt R.REFL_CTRL_ENABLE.addr = some (.refl, 0, ⟨0x8, 0, 1, 0x1, 0x0, 0x0, 0x200, 0x0, 0x0⟩) := by decide

theorem rowAt_claimLo : rowAt R.REFL_CLAIM_LO_CH.addr = some (.refl, 0, ⟨0x48, 0, 1, 0xFFFFFFFF, 0x0, 0x0, 0x0, 0x0, 0x0⟩) := by decide

theorem rowAt_claimHi : rowAt R.REFL_CLAIM_HI_CH.addr = some (.refl, 0, ⟨0x4C, 0, 1, 0xFFFF, 0x0, 0x0, 0x0, 0x0, 0x0⟩) := by decide

/-- A write of CTRL with the value that it reads and OWN_CLR leaves the word. -/
theorem State.regMerge_ownClr {s t : State} (h : t.rd R.REFL_CTRL_ENABLE.addr = s.rd R.REFL_CTRL_ENABLE.addr) :
    t.regMerge R.REFL_CTRL_ENABLE.addr 0xF#4 (s.rd R.REFL_CTRL_ENABLE.addr ||| 0x100) =
      t.wr R.REFL_CTRL_ENABLE.addr (s.rd R.REFL_CTRL_ENABLE.addr) := by
  have hm : beMask 0xF#4 = BitVec.allOnes 32 := by decide
  rw [State.regMerge, rowAt_reflCtrl]
  simp only [RegRow.write, h, hm]
  congr 1
  generalize s.rd R.REFL_CTRL_ENABLE.addr = w
  ext i hi
  interval_cases i <;> simp

theorem bit_eq_getLsbD (w : Word) (i : Nat) : bit w.toNat i = w.getLsbD i := by
  rw [BitVec.getLsbD, Nat.testBit_eq_decide_div_mod_eq]
  rfl

/-- The conflicts of every channel end. -/
def State.conflictsEnd (s : State) : State :=
  (List.range s.gen.nch).foldl (fun s n => s.ownMap n (fun o => { o with conflict := false })) s

/-- A round over channels that changes a channel's ownership or nothing touches the channels alone. -/
theorem foldl_chans_frame {β : Type} (g : State → β → State) (h : ∀ t x, g t x = { t with chans := (g t x).chans }) (l : List β)
    (s : State) : l.foldl g s = { s with chans := (l.foldl g s).chans } :=
  foldl_rel (P := fun s t => t = { s with chans := t.chans }) (fun _ => rfl) (fun _ _ _ hst htu => htu.trans (by rw [hst])) g h l s

theorem State.conflictsEnd_frame (s : State) : s.conflictsEnd = { s with chans := s.conflictsEnd.chans } :=
  foldl_chans_frame _ (fun _ _ => rfl) _ _

theorem conflict_foldl {n : Nat} (l : List Nat) (s : State) (h : n ∈ l ∨ (s.ch n).own.conflict = false) :
    ((l.foldl (fun s n => s.ownMap n (fun o => { o with conflict := false })) s).ch n).own.conflict = false := by
  induction l generalizing s with
  | nil => simpa using h
  | cons k l ih =>
    rw [List.foldl_cons]
    refine ih _ (or_iff_not_imp_left.mpr fun hl => ?_)
    obtain ⟨hself, hother, -⟩ := s.ownMap_effect k (fun o => { o with conflict := false })
    by_cases hk : n = k
    · rw [hk, hself]
    · rw [hother n hk]
      simpa [hk, hl] using h

theorem rfCtrlWr_ownClr {s : State} (he : s.flag R.REFL_CTRL_ENABLE = false) :
    rfCtrlWr 0xF#4 (s.rd R.REFL_CTRL_ENABLE.addr ||| 0x100) s =
      s.conflictsEnd.wr R.REFL_CTRL_ENABLE.addr (s.rd R.REFL_CTRL_ENABLE.addr) := by
  have hrd : s.conflictsEnd.rd R.REFL_CTRL_ENABLE.addr = s.rd R.REFL_CTRL_ENABLE.addr := by rw [s.conflictsEnd_frame]; rfl
  have hclr : (0xF#4).getLsbD 1 = true ∧ bit (s.rd R.REFL_CTRL_ENABLE.addr ||| 0x100).toNat 8 = true := by
    rw [bit_eq_getLsbD, BitVec.getLsbD_or]
    simp
  have hwas : s.conflictsEnd.flag R.REFL_CTRL_ENABLE = false := by rw [State.flag, State.get_of_rd hrd]; exact he
  have hnow : (s.conflictsEnd.wr R.REFL_CTRL_ENABLE.addr (s.rd R.REFL_CTRL_ENABLE.addr)).flag R.REFL_CTRL_ENABLE = false := by
    rw [State.flag, State.get_of_rd (State.rd_wr_same _ _ _)]
    exact he
  unfold rfCtrlWr
  rw [if_pos hclr]
  change (if !s.conflictsEnd.flag _ ∧ (s.conflictsEnd.regMerge _ _ _).flag _ ∧ s.conflictsEnd.xlOn then _
    else if s.conflictsEnd.flag _ ∧ !(s.conflictsEnd.regMerge _ _ _).flag _ then _ else s.conflictsEnd.regMerge _ _ _) = _
  rw [State.regMerge_ownClr hrd]
  simp [hwas, hnow]

/-- A whole-word write of a word with RW bits and bits that no write changes. -/
theorem State.regMerge_whole {a n : Nat} {p : Page} {r : RegRow} (s : State) (data : Word) (hr : rowAt a = some (p, n, r))
    (hl : r.rwl = 0#32) (hc : r.w1c = 0#32) (hs : r.w1s = 0#32) :
    s.regMerge a 0xF#4 data = s.wr a ((s.rd a &&& ~~~r.rw) ||| (data &&& r.rw)) := by
  have hm : beMask 0xF#4 = BitVec.allOnes 32 := by decide
  simp only [State.regMerge, hr, RegRow.write, hl, hc, hs, hm, BitVec.ofNat_eq_ofNat, ite_self, BitVec.or_zero,
    BitVec.and_allOnes, BitVec.zero_and, BitVec.not_zero]

/-- What a write of CLAIM_LO (0) or CLAIM_HI (1) makes of the word `old`. -/
def claimWord (reg : Fin 2) (old data : Word) : Word := if reg = 0 then data else (old &&& 0xFFFF0000#32) ||| (data &&& 0xFFFF#32)

theorem State.regMerge_claim (s : State) (reg : Fin 2) (data : Word) : s.regMerge (R.REFL_CLAIM_LO_CH.addr + 4 * reg) 0xF#4 data =
    s.wr (R.REFL_CLAIM_LO_CH.addr + 4 * reg) (claimWord reg (s.rd (R.REFL_CLAIM_LO_CH.addr + 4 * reg)) data) := by
  match reg with
  | 0 =>
    refine (State.regMerge_of_rw s _ data rowAt_claimLo rfl rfl rfl).trans ?_
    rw [mergeBe_full]
    rfl
  | 1 =>
    exact State.regMerge_whole s data rowAt_claimHi rfl rfl rfl

theorem exec_claimWrite {s : State} (reg : Fin 2) (data : Word) (h : s.portTakes (R.REFL_CLAIM_LO_CH.addr + 4 * reg)) :
    exec (.claimWrite reg data) s = .next (claimWr reg 0xF#4 data s) := by
  rw [exec, execClaimWrite, State.cpWr_taken _ _ _ _ _ h]

theorem claimWr_frame (s : State) (reg : Fin 2) (data : Word) : claimWr reg 0xF#4 data s =
    { s.wr (R.REFL_CLAIM_LO_CH.addr + 4 * reg) (claimWord reg (s.rd (R.REFL_CLAIM_LO_CH.addr + 4 * reg)) data) with
      chans := (claimWr reg 0xF#4 data s).chans } := by
  unfold claimWr
  rw [State.regMerge_claim]
  refine foldl_chans_frame _ (fun t n => ?_) _ _
  split <;> rfl

end Sys2Proof.Machine

/-- Settles O14: what each command of the handshake makes of its channel's ownership. -/
theorem channelOwnershipHandshake : Obligations.ChannelOwnershipHandshake := by
  refine ⟨fun s n hc hr hx => ⟨_, exec_ownGrant hc hr hx, s.ownMap_effect _ _⟩,
    fun s n both hr ho => ⟨_, exec_ownAcquire_granted both hr ho, s.ownMap_effect _ _⟩,
    fun s n both hr ho hp => ⟨_, exec_ownAcquire_standby both hr ho hp, s.ownMap_effect _ _⟩,
    fun s n hr ho hp hg => ?conflict, fun s n hg ho hs he hc hw => ?release, fun s n ho hs => exec_ownRelease_selected hs,
    fun s ht he => ?clear, fun s reg d ht => ?claim⟩
  case conflict =>
    obtain ⟨hself, hother, hframe⟩ := s.ownMap_effect n (fun o => { o with req := false, want := false, conflict := true })
    have hsrc : ∀ t : State, t.gen = s.gen → t.srcPresent 67 = true := fun t ht => by simp [State.srcPresent, ht, hg]
    have hraise := State.raise_frame (s.ownMap n (fun o => { o with req := false, want := false, conflict := true })) .refl 0 4
    refine ⟨_, exec_ownAcquire_conflict hr ho hp, ?_, ?_, ?_, fun k hk => ?_, ?_, ?_⟩
    · rw [State.count_frame, hraise]
      exact hself
    · rw [State.event_count]
      exact State.event_raised _ _ _ _ (by decide)
    · rw [State.count_present _ _ _ (hsrc _ (by rw [hraise]; rfl)), hraise]
      rfl
    · rw [State.count_frame, hraise]
      exact hother k hk
    · exact (State.wordsKept_raise (s.ownMap n _) _ _ _ (List.mem_singleton_self _)).trans (State.wordsKept_count _ _ _ _)
    · rw [State.count_frame, hraise]
      rfl
  case release =>
    obtain ⟨hself, hother, hframe⟩ := s.ownMap_effect n (fun o => { o with req := false, owned := false, want := false })
    exact ⟨_, exec_ownRelease_idle hg ho hs he hc hw, by rw [hself], by rw [hself], hother, hframe⟩
  case clear =>
    have hframe := s.conflictsEnd_frame
    have hexec : exec .ownClr s = .next (s.conflictsEnd.wr R.REFL_CTRL_ENABLE.addr (s.rd R.REFL_CTRL_ENABLE.addr)) := by
      rw [exec, execOwnClr, State.cpWr_taken _ _ _ _ _ ht, rfCtrlWr_ownClr he]
    refine ⟨_, hexec, fun n hn => conflict_foldl _ s (Or.inl (List.mem_range.mpr hn)), fun a _ => ?_, ?_⟩
    · rw [State.rd_wr, hframe]
      split
      next ha => rw [ha]
      next => rfl
    · rw [hframe]
      rfl
  case claim =>
    have hframe := claimWr_frame s reg d
    refine ⟨_, exec_claimWrite reg d ht, ?_, fun a ha => ?_, ?_⟩
    · rw [hframe]
      refine (State.rd_wr_same s _ _).trans ?_
      match reg with
      | 0 => rfl
      | 1 => rfl
    · rw [hframe]
      exact State.rd_wr_other s _ (by simpa using ha)
    · rw [hframe]
      rfl

end

-- The fuse stream and the readiness of the control port (02_ports.md R50, R76, R78; 14_memory_integrity.md R425, R426).
section

open Sys2Proof Sys2Proof.Machine

namespace Sys2Proof.Machine

/-! ## Records applied -/

/-- The register words that applied records change. -/
abbrev fuseWords : List Nat := [R.MEMI_FUSE_STAT_BAD.addr, R.MEMI_FUSE_STAT_APPLIED.addr, evtAddr .memi 0]

/-- `t` is `s` after records have been applied: repairs in force, their counts, FUSE_BAD and its counts. -/
def State.fuses (s t : State) : Prop :=
  s.wordsKept t fuseWords ∧ t = { s with memi := { s.memi with fuse := t.memi.fuse }, regs := t.regs, pins := t.pins, flt := t.flt }

theorem State.fuses_refl (s : State) : s.fuses s := ⟨fun _ _ => rfl, rfl⟩

theorem State.fuses.trans {s t u : State} (h : s.fuses t) (k : t.fuses u) : s.fuses u := by
  obtain ⟨hrd, ht⟩ := h
  obtain ⟨krd, hu⟩ := k
  refine ⟨fun a ha => (krd a ha).trans (hrd a ha), hu.trans ?_⟩
  rw [ht]

/-- A refused record counts as BAD (R426). -/
def State.fuseRefuse (s : State) : State := ((s.bump R.MEMI_FUSE_STAT_BAD).count (memiSrc + 20) 0).raise .memi 0 9

/-- A record in force counts as APPLIED (R425). -/
def State.fuseTake (s : State) (v : Word) : State :=
  State.bump { s with memi := { s.memi with fuse := s.memi.fuse ++ [v] } } R.MEMI_FUSE_STAT_APPLIED

theorem State.fuseApply_eq (s : State) (v : Word) :
    s.fuseApply v = if v.getLsbD 31 then (if fuseBad s.memi.fuse v then s.fuseRefuse else s.fuseTake v) else s := by
  rw [State.fuseApply, bit_eq_getLsbD]
  cases v.getLsbD 31 <;> rfl

theorem State.fuses_fuseRefuse (s : State) : s.fuses s.fuseRefuse := by
  refine ⟨fun a ha => ?_, ?_⟩
  · obtain ⟨hb, -, he⟩ : a ≠ R.MEMI_FUSE_STAT_BAD.addr ∧ a ≠ R.MEMI_FUSE_STAT_APPLIED.addr ∧ a ≠ evtAddr .memi 0 := by
      simpa using ha
    refine (State.rd_raise _ _ _ _ _).trans ((if_neg he).trans ?_)
    rw [State.rd_count]
    exact State.rd_set_other _ _ _ hb
  · rw [State.fuseRefuse, State.raise_frame, State.count_frame]
    rfl

theorem State.fuses_fuseTake (s : State) (v : Word) : s.fuses (s.fuseTake v) :=
  ⟨fun _ ha => State.rd_set_other _ _ _ (ne_of_mem_of_not_mem (List.mem_cons_of_mem _ List.mem_cons_self) ha).symm, rfl⟩

theorem State.fuses_fuseApply (s : State) (v : Word) : s.fuses (s.fuseApply v) := by
  rw [State.fuseApply_eq]
  split
  · split
    · exact s.fuses_fuseRefuse
    · exact s.fuses_fuseTake v
  · exact s.fuses_refl

theorem State.fuses_foldl (l : List Word) (s : State) : s.fuses (l.foldl State.fuseApply s) :=
  foldl_rel State.fuses_refl (fun _ _ _ => State.fuses.trans) _ State.fuses_fuseApply l s

/-! ## The end of the stream -/

/-- The stream is closed, and no record is in force. -/
def State.fuseClosed (s : State) : State := { s with cp := { s.cp with fuseOpen := false }, memi := { s.memi with fuse := [] } }

/-- The records received are applied in arrival order. -/
def State.fuseApplied (s : State) : State := s.memi.fuse.foldl State.fuseApply s.fuseClosed

/-- The state in which the words that a repair holds lose what was written in them. -/
def State.fuseMarked (s : State) : State :=
  { s.fuseApplied with epochs := tmod (fun _ => 0) s.fuseApplied.epochs 14 (fun k => k + (if s.fuseApplied.memi.fuse = [] then 0 else 1)) }

theorem State.fuseEnd_eq (s : State) : s.fuseEnd = { s.fuseApplied with
    sram := s.fuseEnd.sram, epochs := s.fuseEnd.epochs } := rfl

/-- SRAM keeps its words where no repair is in force. -/
theorem State.dropRepaired_none {s : State} (h : s.memi.fuse = []) : s.dropRepaired.sram = s.sram := by
  simp [State.dropRepaired, State.repaired, h]

/-- What the end of the stream leaves, and what it changes. -/
theorem State.fuseEnd_effect (s : State) : s.fuseEnd.cp = { s.cp with fuseOpen := false } ∧ s.wordsKept s.fuseEnd fuseWords ∧
    s.fuseEnd = { s with
      cp := s.fuseEnd.cp, memi := { s.memi with fuse := s.fuseEnd.memi.fuse }, regs := s.fuseEnd.regs
      pins := s.fuseEnd.pins, flt := s.fuseEnd.flt, sram := s.fuseEnd.sram, epochs := s.fuseEnd.epochs } ∧
    (s.fuseEnd.memi.fuse = [] → s.fuseEnd.sram = s.sram) := by
  obtain ⟨hrd, hframe⟩ : s.fuseClosed.fuses s.fuseApplied := State.fuses_foldl _ _
  have hsram : s.fuseApplied.sram = s.sram := by rw [hframe]; rfl
  refine ⟨?_, hrd, ?_, fun h => (State.dropRepaired_none (s := s.fuseMarked) h).trans hsram⟩
  · rw [State.fuseEnd_eq, hframe]
    rfl
  · rw [State.fuseEnd_eq, hframe]
    rfl

section
variable {s : State}

theorem exec_fuseRecord {r : Word} (last : Bool) (ho : s.cp.fuseOpen = true) (hr : s.cp.rst = .none) (hg : s.grave = false)
    (hc : s.cp.fuseCnt < 1024) : exec (.fuseRecord r last) s = .next (
      let t : State := { s with cp := { s.cp with fuseCnt := s.cp.fuseCnt + 1 }, memi := { s.memi with fuse := s.memi.fuse ++ [r] } }
      if last then t.fuseEnd else t) := by
  simp [exec, execFuseRecord, ho, hr, hg, hc]

theorem exec_fuseTimeout (ho : s.cp.fuseOpen = true) (hr : s.cp.rst = .none) :
    exec .fuseTimeout s = .next (((s.fuseEnd.set R.SYS_STATUS_FUSE_TO 1).raise .sys 0 1).count 0 0) := by
  simp [exec, execFuseTimeout, ho, hr]

/-- The control port is ready. -/
def State.portOpen (s : State) : State := { s with cp := { s.cp with ready := true } }

theorem exec_portReady (hr : s.cp.rst = .none) (ho : s.cp.fuseOpen = false) (hn : s.cp.ready = false) :
    exec .portReady s = .next s.portOpen.cpPump := by
  simp [exec, execPortReady, hr, ho, hn, State.portOpen]

end

/-! ## A single record -/

theorem sat_of_le {m n : Nat} (h : n ≤ m) : sat m n = n := if_neg (by omega)

theorem State.get_le_max (s : State) (f : Fld) : s.get f ≤ f.max := Nat.le_sub_one_of_lt (Nat.mod_lt _ (Nat.two_pow_pos _))

/-- Nothing counted leaves a count, which fits its field. -/
theorem State.sat_get (s : State) (f : Fld) : sat f.max (s.get f + 0) = s.get f := sat_of_le (s.get_le_max f)

theorem State.get_fuseRefuse (s : State) : s.fuseRefuse.get R.MEMI_FUSE_STAT_APPLIED = s.get R.MEMI_FUSE_STAT_APPLIED ∧
    s.fuseRefuse.get R.MEMI_FUSE_STAT_BAD = sat R.MEMI_FUSE_STAT_BAD.max (s.get R.MEMI_FUSE_STAT_BAD + 1) := by
  have h : ∀ f : Fld, f.addr ≠ pageBase .memi 0 + 0x10 → s.fuseRefuse.get f = (s.bump R.MEMI_FUSE_STAT_BAD).get f :=
    fun f hf => (State.get_raise _ _ _ _ _ hf).trans (State.get_count _ _ _ _)
  rw [h _ (by decide), h _ (by decide)]
  exact ⟨State.get_set_apart _ _ (by decide) (by decide), State.get_bump_same _ _ (by decide)⟩

theorem State.get_fuseTake (s : State) (v : Word) :
    (s.fuseTake v).get R.MEMI_FUSE_STAT_APPLIED = sat R.MEMI_FUSE_STAT_APPLIED.max (s.get R.MEMI_FUSE_STAT_APPLIED + 1) ∧
    (s.fuseTake v).get R.MEMI_FUSE_STAT_BAD = s.get R.MEMI_FUSE_STAT_BAD :=
  ⟨State.get_bump_same _ _ (by decide), State.get_set_apart _ _ (by decide) (by decide)⟩

theorem State.get_fuseEnd (s : State) (f : Fld) : s.fuseEnd.get f = s.fuseApplied.get f := rfl

theorem State.fuse_fuseEnd (s : State) : s.fuseEnd.memi.fuse = s.fuseApplied.memi.fuse := rfl

/-- A single valid record is refused or in force (R425, R426). -/
theorem State.fuseApplied_single {s : State} {r : Word} (hs : s.memi.fuse = [r]) (hv : r.getLsbD 31 = true) :
    s.fuseApplied = if fuseBad [] r then s.fuseClosed.fuseRefuse else s.fuseClosed.fuseTake r := by
  rw [State.fuseApplied, hs, List.foldl_cons, List.foldl_nil, State.fuseApply_eq, if_pos hv]
  rfl

theorem State.fuseEnd_single {s : State} {r : Word} (hs : s.memi.fuse = [r]) (hv : r.getLsbD 31 = true) :
    s.fuseEnd.memi.fuse = (if fuseBad [] r then [] else [r]) ∧
    s.fuseEnd.get R.MEMI_FUSE_STAT_APPLIED =
      sat R.MEMI_FUSE_STAT_APPLIED.max (s.get R.MEMI_FUSE_STAT_APPLIED + if fuseBad [] r then 0 else 1) ∧
    s.fuseEnd.get R.MEMI_FUSE_STAT_BAD = sat R.MEMI_FUSE_STAT_BAD.max (s.get R.MEMI_FUSE_STAT_BAD + if fuseBad [] r then 1 else 0) := by
  rw [State.get_fuseEnd, State.get_fuseEnd, State.fuse_fuseEnd, State.fuseApplied_single hs hv]
  by_cases hb : fuseBad [] r
  · obtain ⟨happ, hbad⟩ := s.fuseClosed.get_fuseRefuse
    obtain ⟨-, hframe⟩ := s.fuseClosed.fuses_fuseRefuse
    rw [if_pos hb, if_pos hb, if_pos hb, if_pos hb, happ, hbad]
    refine ⟨?_, (s.sat_get _).symm, rfl⟩
    rw [State.fuseRefuse, State.raise_memi, State.count_memi]
    rfl
  · obtain ⟨happ, hbad⟩ := s.fuseClosed.get_fuseTake r
    rw [if_neg hb, if_neg hb, if_neg hb, if_neg hb, happ, hbad]
    exact ⟨rfl, rfl, (s.sat_get _).symm⟩

/-! ## The request that the port holds (02_ports.md R50) -/

/-- A read of SYS.SCRATCH returns the word. -/
theorem State.cpRead_scratch (s : State) : s.cpRead 0x64 = { s with cp := { s.cp with rdata := s.rd 0x64 } } := rfl

section
variable {s : State} {be : BitVec 4} {d : Word}

theorem State.cpPump_none (h : s.cp.held = none) : s.cpPump = s := by rw [State.cpPump, h]

theorem State.cpPump_write_scratch (h : s.cp.held = some ⟨true, 0x64#24, be, d⟩) (hr : s.cpReady = true) (hbe : be ≠ 0) :
    s.cpPump = State.wr { s with cp := { s.cp with held := none } } 0x64 (mergeBe (s.rd 0x64) d be) := by
  have ht : State.portTakes { s with cp := { s.cp with held := none } } 0x64 := ⟨hr, 13, rfl, rfl⟩
  rw [State.cpPump, h]
  simp only [hr, Bool.not_true, Bool.false_eq_true, if_false, if_true]
  exact (State.cpWr_taken _ _ _ _ _ ht).trans (cpEffect_scratch _ be d hbe)

theorem State.cpPump_read_scratch (h : s.cp.held = some ⟨false, 0x64#24, be, d⟩) (hr : s.cpReady = true) :
    s.cpPump = { s with cp := { s.cp with held := none, rdata := s.rd 0x64 } } := by
  rw [State.cpPump, h]
  simp only [hr, Bool.not_true, Bool.false_eq_true, if_false]
  exact State.cpRead_scratch _

end

end Sys2Proof.Machine

/-- Settles O9: the records and the end of their stream, then the port with and without a held request. -/
theorem fuseStreamEndsWithTheLastRecord : Obligations.FuseStreamEndsWithTheLastRecord := by
  refine ⟨fun s r ho hr hg hc => exec_fuseRecord false ho hr hg hc, fun s r ho hr hg hc => ?last, fun s r ho hr hg hc hs hv => ?single,
    fun s ho hr => ?timeout, fun s hr ho hn hq => ?idle, fun s u be d hr ho hn hh hu hbe => ⟨fun hq => ?write, fun hq => ?read⟩⟩
  case last =>
    obtain ⟨hcp, hrd, hframe, hsram⟩ := State.fuseEnd_effect { s with
      cp := { s.cp with fuseCnt := s.cp.fuseCnt + 1 }, memi := { s.memi with fuse := s.memi.fuse ++ [r] } }
    exact ⟨_, exec_fuseRecord true ho hr hg hc, hcp, hrd, hframe, hsram⟩
  case single =>
    exact ⟨_, exec_fuseRecord true ho hr hg hc, State.fuseEnd_single (congrArg (· ++ [r]) hs) hv⟩
  case timeout =>
    obtain ⟨hcp, hrd, hframe, hsram⟩ := s.fuseEnd_effect
    have hraise := State.raise_frame (s.fuseEnd.set R.SYS_STATUS_FUSE_TO 1) .sys 0 1
    refine ⟨_, exec_fuseTimeout ho hr, ?_, ?_, ?_, ?_, fun a ha => ?_, ?_, fun h => ?_⟩
    · rw [State.count_frame, hraise]
      exact hcp
    · rw [State.get_count, State.get_raise _ _ _ _ _ (by decide)]
      exact State.get_set_same _ _ _ (by decide)
    · rw [State.event_count]
      exact State.event_raised _ _ _ _ (by decide)
    · rw [State.count_present _ _ _ rfl]
      simp
    · obtain ⟨hb, happ, hm, hto, hsys⟩ : a ≠ R.MEMI_FUSE_STAT_BAD.addr ∧ a ≠ R.MEMI_FUSE_STAT_APPLIED.addr ∧ a ≠ evtAddr .memi 0 ∧
        a ≠ R.SYS_STATUS_FUSE_TO.addr ∧ a ≠ evtAddr .sys 0 := by simpa using ha
      rw [State.rd_count, State.rd_raise]
      exact (if_neg hsys).trans ((State.rd_set_other _ _ _ hto).trans (hrd a (by simp [hb, happ, hm])))
    · rw [State.count_frame, hraise, hframe]
      rfl
    · rw [State.count_frame, hraise] at h ⊢
      exact hsram h
  case idle =>
    rw [exec_portReady hr ho hn, State.cpPump_none (s := s.portOpen) hq]
    rfl
  case write =>
    rw [exec_portReady hr ho hn, State.cpPump_write_scratch (s := s.portOpen) hq ?_ hbe, hu]
    · rfl
    · simp [State.cpReady, State.portOpen, hr, hh]
  case read =>
    rw [exec_portReady hr ho hn, State.cpPump_read_scratch (s := s.portOpen) hq ?_, hu]
    · rfl
    · simp [State.cpReady, State.portOpen, hr, hh]

end

-- Flash bus: parts of a channel, its bus, read bursts and the status poller (03_flash_bus.md).
section

open Sys2Proof Sys2Proof.Machine

namespace Sys2Proof.Machine

/-! ## Parts of a channel -/

section
variable (s : State) (n : Nat)

theorem State.phy_phyMap (f : PhyS → PhyS) : ((s.phyMap n f).ch n).phy = f (s.ch n).phy := by rw [State.phyMap, State.ch_chMap, if_pos rfl]

theorem State.eng_engMap (f : EngS → EngS) : ((s.engMap n f).ch n).eng = f (s.ch n).eng := by rw [State.engMap, State.ch_chMap, if_pos rfl]

theorem State.ctx_ctxMap (f : CtxS → CtxS) : ((s.ctxMap n f).ch n).ctx = f (s.ch n).ctx := by rw [State.ctxMap, State.ch_chMap, if_pos rfl]

theorem State.ctx_phyMap (f : PhyS → PhyS) : ((s.phyMap n f).ch n).ctx = (s.ch n).ctx := by rw [State.phyMap, State.ch_chMap, if_pos rfl]

@[simp] theorem State.ch_set (f : Fld) (v : Nat) : (s.set f v).ch n = s.ch n := (rfl)

theorem State.slots_phyMap (f : PhyS → PhyS) : ((s.phyMap n f).ch n).slots = (s.ch n).slots := by rw [State.phyMap, State.ch_chMap, if_pos rfl]

theorem State.ch_chMap_other {k : Nat} (hk : k ≠ n) (f : ChS → ChS) : (s.chMap n f).ch k = s.ch k := by rw [State.ch_chMap, if_neg hk]

end

/-! ## What a slice drives on its bus (03_flash_bus.md R86, R109) -/

/-- From `s` to `t` the cycle engine of channel `n` and LUNs alone change. -/
def State.busWork (s t : State) (n : Nat) : Prop :=
  (∃ e, ∀ k, t.ch k = if k = n then { s.ch n with eng := e } else s.ch k) ∧ t = { s with chans := t.chans, luns := t.luns }

section
variable {s t u : State} {n : Nat}

theorem State.busWork_of_chans (hc : t.chans = s.chans) (ht : t = { s with chans := t.chans, luns := t.luns }) : s.busWork t n := by
  refine ⟨⟨(s.ch n).eng, fun k => ?_⟩, ht⟩
  rw [State.ch, hc]
  split
  next hk => rw [hk]; rfl
  next => rfl

theorem State.busWork_refl (s : State) (n : Nat) : s.busWork s n := State.busWork_of_chans rfl rfl

theorem State.busWork.trans (h : s.busWork t n) (h' : t.busWork u n) : s.busWork u n := by
  obtain ⟨⟨e, hch⟩, ht⟩ := h
  obtain ⟨⟨e', kch⟩, hu⟩ := h'
  refine ⟨⟨e', fun j => ?_⟩, hu.trans (by rw [ht])⟩
  rw [kch, hch, hch, if_pos rfl]
  split <;> rfl

theorem State.busWork_engMap (s : State) (n : Nat) (f : EngS → EngS) : s.busWork (s.engMap n f) n :=
  ⟨⟨f (s.ch n).eng, fun _ => State.ch_chMap _ _ _ _⟩, rfl⟩

theorem State.busWork_drive (s : State) (n : Nat) (ops : List BusOp) : s.busWork (s.drive n ops) n := by
  unfold State.drive
  split
  · exact s.busWork_engMap n _
  · exact s.busWork_refl n

@[simp] theorem State.luns_drive (s : State) (n : Nat) (ops : List BusOp) : (s.drive n ops).luns = s.luns := by
  unfold State.drive
  split <;> rfl

theorem State.busWork.phy (h : s.busWork t n) : (t.ch n).phy = (s.ch n).phy := by
  obtain ⟨⟨e, hch⟩, -⟩ := h
  rw [hch, if_pos rfl]

theorem State.busWork.ctx (h : s.busWork t n) : (t.ch n).ctx = (s.ch n).ctx := by
  obtain ⟨⟨e, hch⟩, -⟩ := h
  rw [hch, if_pos rfl]

theorem State.busWork.other (h : s.busWork t n) {k : Nat} (hk : k ≠ n) : t.ch k = s.ch k := by
  obtain ⟨⟨e, hch⟩, -⟩ := h
  rw [hch, if_neg hk]

end

/-! ## Read bursts (R96 to R99) -/

/-- LUN of the descriptor whose read burst runs on channel `n`. -/
def State.burstLun (s : State) (n : Nat) : Nat := ((s.ch n).eng.bDesc.map Desc.lun).getD 0

/-- The read burst of channel `n` is locked to its preamble. -/
def State.burstLocked (s : State) (n : Nat) : State := s.engMap n (fun e => { e with preMiss := false, burst := .inLocked })

/-- The read burst of channel `n` has ended at its preamble. -/
def State.burstMissed (s : State) (n : Nat) : State := s.engMap n (fun e => { e with burst := .none, preMiss := true })

section
variable {s : State} {n : Fin 48}

theorem exec_readBurst_locks (o : List (List (Bool × Bool))) (h : (s.ch n).eng.burst = .inRunning) :
    exec (.readBurst n true o) s = .next ((s.burstLocked n).trackNote n (s.burstLun n) o) := by
  rw [exec, execReadBurst, if_neg (by simp [h]), if_pos rfl]
  rfl

theorem exec_readBurst_misses (o : List (List (Bool × Bool))) (h : (s.ch n).eng.burst = .inRunning) :
    exec (.readBurst n false o) s = .next ((s.burstMissed n).preMissed n (s.burstLun n)) := by
  rw [exec, execReadBurst, if_neg (by simp [h]), if_neg Bool.false_ne_true]
  rfl

theorem exec_readBurst_none (k : Bool) (o : List (List (Bool × Bool))) (h : (s.ch n).eng.burst ≠ .inRunning) :
    exec (.readBurst n k o) s = .next s := by
  rw [exec, execReadBurst, if_pos h]

end

theorem State.burstLocked_effect (s : State) (n : Nat) :
    ((s.burstLocked n).ch n).eng = { (s.ch n).eng with preMiss := false, burst := .inLocked } ∧
    (∀ k, k ≠ n → (s.burstLocked n).ch k = s.ch k) ∧ s.burstLocked n = { s with chans := (s.burstLocked n).chans } :=
  ⟨s.eng_engMap n _, fun _ hk => s.ch_chMap_other n hk _, rfl⟩

section
variable {s : State} {n : Nat} (l : Nat) (o : List (List (Bool × Bool)))

/-- Without tracking a locked burst is not followed. -/
theorem State.trackNote_off (h : s.flag (R.CH_PHY_CTRL_TRACK_EN n) = false) : s.trackNote n l o = s := by
  simp [State.trackNote, h]

/-- The greatest offset of the burst is in MAX_OFS. -/
def State.trackMax (s : State) (n : Nat) (o : List (List (Bool × Bool))) : State :=
  s.set (R.CH_TRACK_MAX_OFS n) ((s.trackBurst n o).foldl (fun m x => max m x.top) (s.get (R.CH_TRACK_MAX_OFS n)))

/-- A burst of LUN `l` has had a lane at its limit. -/
def State.trackLimit (s : State) (n l : Nat) : State := ((s.bump (R.CH_TRACK_LIM_CNT n)).chRaise n 6).phyCount n 6 l

theorem State.trackNote_on (h : s.flag (R.CH_PHY_CTRL_TRACK_EN n) = true) : s.trackNote n l o =
    if (s.trackBurst n o).any (fun x => x.lim) then (s.trackMax n o).trackLimit n l else s.trackMax n o := by
  simp only [State.trackNote, h, Bool.not_true, Bool.false_eq_true, if_false]
  rfl

/-- TRACK and the events of a channel lie in different words. -/
theorem track_ne_evt (n : Nat) : (R.CH_TRACK_MAX_OFS n).addr ≠ evtAddr .ch n := by
  change 0x30130 + n * 0x1000 ≠ 0x30000 + n * 0x1000 + 0x10
  omega

theorem State.trackLimit_effect (s : State) (n l : Nat) : (s.trackLimit n l).get (R.CH_TRACK_MAX_OFS n) = s.get (R.CH_TRACK_MAX_OFS n) ∧
    (s.trackLimit n l).event .ch n 6 = true ∧
    s.trackLimit n l = { s with regs := (s.trackLimit n l).regs, pins := (s.trackLimit n l).pins, flt := (s.trackLimit n l).flt } := by
  refine ⟨?_, (State.event_count _ _ _ _ _ _).trans (State.event_raised _ _ _ _ (by decide)), ?_⟩
  · refine (State.get_count _ _ _ _).trans ((State.get_raise _ _ _ _ _ (track_ne_evt n)).trans (State.get_set_apart _ _ ?_ (Or.inl ?_)))
    · change 16 + 16 ≤ 32
      decide
    · change 0 + 8 ≤ 16
      decide
  · rw [State.trackLimit, State.phyCount, State.count_frame, State.chRaise, State.raise_frame]
    rfl

/-- Tracking writes TRACK.MAX_OFS, and where a lane was at its limit reports it; the channels it leaves. -/
theorem State.trackNote_effect (h : s.flag (R.CH_PHY_CTRL_TRACK_EN n) = true) :
    (s.trackNote n l o).get (R.CH_TRACK_MAX_OFS n) =
      (s.trackBurst n o).foldl (fun m x => max m x.top) (s.get (R.CH_TRACK_MAX_OFS n)) % 2 ^ (R.CH_TRACK_MAX_OFS n).wid ∧
    ((s.trackBurst n o).any (fun x => x.lim) = true → (s.trackNote n l o).event .ch n 6 = true) ∧
    s.trackNote n l o = { s with regs := (s.trackNote n l o).regs, pins := (s.trackNote n l o).pins, flt := (s.trackNote n l o).flt } := by
  obtain ⟨hget, hevent, hframe⟩ := (s.trackMax n o).trackLimit_effect n l
  have hmax : (s.trackMax n o).get (R.CH_TRACK_MAX_OFS n) = _ := State.get_set_same _ _ _ (by change 0 + 8 ≤ 32; decide)
  rw [State.trackNote_on l o h]
  split
  next hlim => exact ⟨hget.trans hmax, fun _ => hevent, hframe.trans rfl⟩
  next hlim => exact ⟨hmax, fun hl => absurd hl hlim, rfl⟩

theorem State.chans_trackNote (s : State) (n : Nat) : (s.trackNote n l o).chans = s.chans := by
  cases h : s.flag (R.CH_PHY_CTRL_TRACK_EN n) with
  | false => rw [State.trackNote_off l o h]
  | true =>
    obtain ⟨-, -, hframe⟩ := State.trackNote_effect l o h
    rw [hframe]

end

/-- An 8-bit count held at its greatest value. -/
theorem sat_eq_min (m k : Nat) : sat m k = min m k := by
  unfold sat
  split <;> omega

/-- The PHY source of a channel that the generation has is present. -/
theorem State.srcPresent_phy {s : State} {n : Nat} (h : n < s.gen.nch) (hn : n < 48) : s.srcPresent (80 + 3 * n) = true := by
  have hdiv : (80 + 3 * n - 80) / 3 = n := by omega
  rw [State.srcPresent]
  iterate 9 rw [if_neg (by omega)]
  rw [if_pos (by omega), hdiv, decide_eq_true h]

theorem State.preMissed_effect (s : State) {n : Nat} (l : Nat) (hn : n < 48) (hg : n < s.gen.nch) :
    (s.preMissed n l).get (R.CH_TRACK_PRE_MISS n) = min 255 (s.get (R.CH_TRACK_PRE_MISS n) + 1) ∧ (s.preMissed n l).event .ch n 5 = true ∧
    (s.preMissed n l).flt.inflight = s.flt.inflight ++ [⟨80 + 3 * n, BitVec.ofNat 32 (0x500 + l), s.cyc, false⟩] ∧
    s.wordsKept (s.preMissed n l) [(R.CH_TRACK_PRE_MISS n).addr, evtAddr .ch n] ∧
    s.preMissed n l = { s with regs := (s.preMissed n l).regs, pins := (s.preMissed n l).pins, flt := (s.preMissed n l).flt } := by
  have hraise := State.raise_frame (s.bump (R.CH_TRACK_PRE_MISS n)) .ch n 5
  refine ⟨?_, (State.event_count _ _ _ _ _ _).trans (State.event_raised _ _ _ _ (by decide)), ?_, ?_, ?_⟩
  · refine (State.get_count _ _ _ _).trans ((State.get_raise _ _ _ _ (R.CH_TRACK_PRE_MISS n) (track_ne_evt n)).trans ?_)
    exact (State.get_bump_same _ _ (by change 8 + 8 ≤ 32; decide)).trans (sat_eq_min _ _)
  · rw [State.preMissed, State.phyCount, State.count_present, State.chRaise, hraise]
    · rfl
    · rw [State.chRaise, hraise]
      exact State.srcPresent_phy hg hn
  · exact ((State.wordsKept_set _ _ _ List.mem_cons_self).trans
      (State.wordsKept_raise _ _ _ _ (List.mem_cons_of_mem _ (List.mem_singleton_self _)))).trans (State.wordsKept_count _ _ _ _)
  · rw [State.preMissed, State.phyCount, State.count_frame, State.chRaise, hraise]
    rfl

/-! ## The status poller (R86) -/

/-- The levels of `FLn_RB_N` as a poll sees them, and its sequence on the bus. -/
def State.pollSeq (s : State) (n l : Nat) (rb : BitVec 4) : State := (s.phyMap n (fun p => { p with rb := rb })).lunSeq n l 0x78 true

/-- What the status byte `b` makes of the LUN `x` that the poller has asked (04_sequencers.md R118). -/
def LunS.polledWith (x : LunS) (b : BitVec 8) : LunS := { x with
  park := x.park.map (fun p => { p with status := b, ready := p.ready || b.getLsbD 6 })
  suspOk := x.suspOk || (b.getLsbD 6 && x.susp)
  op := if b.getLsbD 6 && !x.susp && x.op ≠ .unconfirmed then .none else x.op }

theorem State.busWork_pollSeq (s : State) (n l : Nat) (rb : BitVec 4) :
    (s.phyMap n (fun p => { p with rb := rb })).busWork (s.pollSeq n l rb) n := State.busWork_drive _ _ _

@[simp] theorem State.lun_pollSeq (s : State) (n l k j : Nat) (rb : BitVec 4) : (s.pollSeq n l rb).lun k j = s.lun k j := by
  rw [State.lun, State.pollSeq, State.lunSeq, State.luns_drive]
  rfl

theorem State.pollSeq_effect (s : State) (n l : Nat) (rb : BitVec 4) :
    ((s.pollSeq n l rb).ch n).phy = { (s.ch n).phy with rb := rb } ∧ ((s.pollSeq n l rb).ch n).ctx = (s.ch n).ctx ∧
    (∀ k, k ≠ n → (s.pollSeq n l rb).ch k = s.ch k) ∧ s.pollSeq n l rb = { s with chans := (s.pollSeq n l rb).chans } := by
  have hwork := s.busWork_pollSeq n l rb
  have hluns : (s.pollSeq n l rb).luns = s.luns := State.luns_drive _ _ _
  obtain ⟨-, hframe⟩ := id hwork
  refine ⟨hwork.phy.trans (s.phy_phyMap n _), hwork.ctx.trans (s.ctx_phyMap n _),
    fun k hk => (hwork.other hk).trans (s.ch_chMap_other n hk _), ?_⟩
  rw [hluns] at hframe
  exact hframe

section
variable {s : State} {n : Fin 48} {l : Fin 16} (rb : BitVec 4) (b : BitVec 8)

theorem State.readPolls_phyMap (s : State) (n l : Nat) (f : PhyS → PhyS) : (s.phyMap n f).readPolls n l = s.readPolls n l := by
  rw [State.readPolls, State.ctx_phyMap]
  rfl

/-- The routine that holds the context takes the status byte `b` (05_channel_operations.md R170). -/
def State.pollTaken (s : State) (n : Nat) (b : BitVec 8) : State :=
  let t := s.ctxMap n (fun c => { c with status := b })
  if b.getLsbD 6 then t.ctxMap n (fun c => c.setReg 3 2) else t

theorem exec_lunPoll_routine (hb : s.opBus n = true) (hr : s.readPolls n l = true) :
    exec (.lunPoll n l rb b) s = .next ((s.pollSeq n l rb).pollTaken n b) := by
  simp only [exec, execLunPoll, hb, State.readPolls_phyMap, hr, Bool.not_true, Bool.false_eq_true, if_false, if_true]
  rfl

theorem exec_lunPoll_poller (hb : s.opBus n = true) (hr : s.readPolls n l = false) (hp : (s.lun n l).polled = true) :
    exec (.lunPoll n l rb b) s = .next ((s.pollSeq n l rb).lunMap n l (fun x => x.polledWith b)) := by
  have hlun : ((s.phyMap n (fun p => { p with rb := rb })).lun n l).polled = true := hp
  simp only [exec, execLunPoll, hb, State.readPolls_phyMap, hr, hlun, Bool.not_true, Bool.false_eq_true, if_false]
  rfl

/-- A routine that polls its LUN holds 1 in its register 3, so the register exists (05_channel_operations.md R170). -/
theorem State.reg_of_readPolls (h : s.readPolls n l = true) : (s.ch n).ctx.reg 3 = 1 ∧ 3 < (s.ch n).ctx.m.length := by
  have hreg : (s.ch n).ctx.reg 3 = 1 := by
    simp only [State.readPolls, Bool.and_eq_true, decide_eq_true_eq] at h
    exact h.1.2
  refine ⟨hreg, ?_⟩
  by_contra hlen
  rw [CtxS.reg, List.getD_eq_default _ _ (by omega)] at hreg
  exact absurd hreg (by decide)

theorem CtxS.reg_setReg_same (c : CtxS) {i : Nat} (v : Nat) (h : i < c.m.length) : (c.setReg i v).reg i = v % 65536 := by
  rw [CtxS.reg, CtxS.setReg, List.getD_eq_getElem _ _ (by simpa using h), List.getElem_set_self, BitVec.toNat_ofNat]

theorem State.pollTaken_effect (s : State) (n : Nat) (b : BitVec 8) (h : 3 < (s.ch n).ctx.m.length) :
    ((s.pollTaken n b).ch n).ctx.status = b ∧ (b.getLsbD 6 = true → ((s.pollTaken n b).ch n).ctx.reg 3 = 2) ∧
    (b.getLsbD 6 = false → ((s.pollTaken n b).ch n).ctx.reg 3 = (s.ch n).ctx.reg 3) ∧
    (∀ k, k ≠ n → (s.pollTaken n b).ch k = s.ch k) ∧ s.pollTaken n b = { s with chans := (s.pollTaken n b).chans } := by
  have hother : ∀ k, k ≠ n → (s.ctxMap n (fun c => { c with status := b })).ch k = s.ch k := fun k hk => s.ch_chMap_other n hk _
  have hctx := s.ctx_ctxMap n (fun c => { c with status := b })
  unfold State.pollTaken
  cases b.getLsbD 6 with
  | false => exact ⟨congrArg CtxS.status hctx, nofun, fun _ => (congrArg (CtxS.reg · 3) hctx).trans rfl, hother, rfl⟩
  | true =>
    have htwice := State.ctx_ctxMap (s.ctxMap n (fun c => { c with status := b })) n (fun c => c.setReg 3 2)
    rw [hctx] at htwice
    refine ⟨congrArg CtxS.status htwice, fun _ => ?_, nofun, fun k hk => (State.ch_chMap_other _ n hk _).trans (hother k hk), rfl⟩
    exact (congrArg (CtxS.reg · 3) htwice).trans (CtxS.reg_setReg_same _ 2 h)

/-- RDY ends an operation that is neither suspended nor unconfirmed; without it the operation goes on. -/
theorem LunS.polledWith_op (x : LunS) (b : BitVec 8) :
    (b.getLsbD 6 = true → x.susp = false → x.op ≠ .unconfirmed → (x.polledWith b).op = .none) ∧
    (b.getLsbD 6 = false → (x.polledWith b).op = x.op) := by
  refine ⟨fun hb hs ho => ?_, fun hb => ?_⟩
  · simp only [LunS.polledWith, hb, hs, Bool.not_false, Bool.and_self, Bool.true_and, if_pos (decide_eq_true ho)]
  · simp only [LunS.polledWith, hb, Bool.false_and, Bool.false_eq_true, if_false]

end

end Sys2Proof.Machine

/-- Settles O19: a burst that locks, with and without tracking, none, and one that misses; then the poller and the routine that polls. -/
theorem readBurstsLockOrMiss : Obligations.ReadBurstsLockOrMiss := by
  refine ⟨fun s n o h => ⟨?locks, fun ht => ?tracked, fun ht => ?followed⟩, fun s n k o h => exec_readBurst_none k o h,
    fun s n o h hg => ?misses, fun s n l rb b hb hr hp => ?poller, fun s n l rb b hb hr => ?routine⟩
  case locks =>
    obtain ⟨heng, hother, -⟩ := s.burstLocked_effect n
    have hch : ∀ k, ((s.burstLocked n).trackNote n (s.burstLun n) o).ch k = (s.burstLocked n).ch k := fun k => by
      rw [State.ch, State.chans_trackNote]
      rfl
    refine ⟨_, exec_readBurst_locks o h, ?_, ?_, fun k hk => (hch k).trans (hother k hk)⟩
    · rw [hch, heng]
    · rw [hch, heng]
  case tracked =>
    obtain ⟨hget, hevent, hframe⟩ := State.trackNote_effect (s := s.burstLocked n) (s.burstLun n) o ht
    exact ⟨_, exec_readBurst_locks o h, hget, hevent, by rw [hframe]; rfl⟩
  case followed =>
    have hexec := exec_readBurst_locks o h
    rw [State.trackNote_off (s := s.burstLocked n) _ o ht] at hexec
    exact ⟨_, hexec, s.burstLocked_effect n⟩
  case misses =>
    obtain ⟨hget, hevent, hcount, hwords, hframe⟩ := (s.burstMissed n).preMissed_effect (s.burstLun n) n.isLt hg
    refine ⟨_, exec_readBurst_misses o h, ?_, hget, hevent, hcount, hwords, by rw [hframe]; rfl⟩
    rw [hframe]
    exact s.eng_engMap n (fun e => { e with burst := .none, preMiss := true })
  case poller =>
    obtain ⟨hphy, -, hother, hframe⟩ := s.pollSeq_effect n l rb
    obtain ⟨hready, hbusy⟩ := (s.lun n l).polledWith_op b
    have hlun : ∀ k j, ((s.pollSeq n l rb).lunMap n l (fun x => x.polledWith b)).lun k j =
        if k * 16 + j = n * 16 + l then (s.lun n l).polledWith b else s.lun k j := fun k j => by
      rw [State.lun_lunMap, State.lun_pollSeq, State.lun_pollSeq]
    have hself := (hlun n l).trans (if_pos rfl)
    refine ⟨_, exec_lunPoll_poller rb b hb hr hp, by rw [hself]; rfl, by rw [hself]; rfl, fun hb hs ho => ?_, fun hb => ?_, hphy,
      fun k j hk => (hlun k j).trans (if_neg hk), hother, ?_⟩
    · rw [hself, hready hb hs ho]
    · rw [hself, hbusy hb]
    · rw [State.lunMap, hframe]
  case routine =>
    obtain ⟨-, hctx, hother, hframe⟩ := s.pollSeq_effect n l rb
    obtain ⟨hreg, hlen⟩ := State.reg_of_readPolls hr
    obtain ⟨hstatus, hready, hbusy, hothers, htaken⟩ := (s.pollSeq n l rb).pollTaken_effect n b (by rwa [hctx])
    refine ⟨_, exec_lunPoll_routine rb b hb hr, hstatus, hready, fun h => (hbusy h).trans (by rw [hctx, hreg]),
      fun k hk => (hothers k hk).trans (hother k hk), ?_⟩
    rw [htaken, hframe]

end

-- Flash bus: the PHY commands of the control port (03_flash_bus.md).
section

open Sys2Proof Sys2Proof.Machine

namespace Sys2Proof.Machine

/-! ## PHY commands on the control port (03_flash_bus.md R104, R110) -/

/-- The code of a command in PHY_CMD.CMD (R104). -/
def PhyKind.code : PhyKind → Nat
  | .init => 1
  | .full => 2
  | .retrain => 3
  | .scan => 4

/-- PHY_CMD spells the command in bits 3 to 0 and the targets in bits 15 to 8. -/
theorem phyCmdWord_spells (m : BitVec 8) (k : PhyKind) :
    phyKind ((phyCmdWord m k.code).toNat % 16) = some k ∧ bits (phyCmdWord m k.code).toNat 8 8 = m.toNat := by
  have hm := m.isLt
  have hword : ∀ c, c < 16 → (phyCmdWord m c).toNat = m.toNat * 256 + c := fun c hc => by
    rw [phyCmdWord, BitVec.toNat_ofNat, Nat.mod_eq_of_lt (by omega)]
  have hcode : k.code < 16 ∧ phyKind k.code = some k := by cases k <;> exact ⟨by decide, rfl⟩
  obtain ⟨hlt, hkind⟩ := hcode
  rw [hword _ hlt]
  refine ⟨?_, by unfold bits; omega⟩
  rw [show (m.toNat * 256 + k.code) % 16 = k.code by omega, hkind]

/-- FULL_TRAIN, READ_RETRAIN and EYE_SCAN are writes of PHY_CMD. -/
theorem exec_trainCommand {s : State} {n : Fin 48} {m : BitVec 8} (h : s.portTakes (R.CH_PHY_CMD_CMD n).addr) {q : PhyKind × Instr}
    (hq : q ∈ ([(.full, .fullTrain n m), (.retrain, .readRetrain n m), (.scan, .eyeScan n m)] : List (PhyKind × Instr))) :
    q.1 ≠ .init ∧ exec q.2 s = .next (phyCmdWr n (phyCmdWord m q.1.code) s) := by
  simp only [List.mem_cons, List.not_mem_nil, or_false] at hq
  obtain rfl | rfl | rfl := hq <;> exact ⟨nofun, congrArg Host.Outcome.next (State.cpWr_taken _ _ _ _ _ h)⟩

/-- A PHY command of channel `n` that ends at once with result `r`, nothing else done. -/
def State.phyRefuse (s : State) (n r : Nat) : State := (s.set (R.CH_PHY_STAT_RESULT n) r).chRaise n 4

/-- The slice of channel `n` begins the command `c`. -/
def State.phyBegin (s : State) (n : Nat) (c : PhyRun) : State :=
  (s.set (R.CH_PHY_STAT_BUSY n) 1).phyMap n (fun p => { p with cmd := some c })

section
variable {s : State} {n : Nat} {m : BitVec 8} {k : PhyKind}

theorem phyCmdWr_busy (w : Word) (hb : s.flag (R.CH_PHY_STAT_BUSY n) = true) : phyCmdWr n w s = s.phyRefuse n 7 := if_pos hb

theorem phyCmdWr_idle (hb : s.flag (R.CH_PHY_STAT_BUSY n) = false) (hk : k ≠ .init) (hr : s.phyRuns n = false) :
    phyCmdWr n (phyCmdWord m k.code) s = s.phyRefuse n 8 := by
  obtain ⟨hkind, -⟩ := phyCmdWord_spells m k
  simp [phyCmdWr, hb, hkind, hk, hr, State.phyRefuse]

theorem phyCmdWr_starts {ts : List Nat} (hts : ts = (s.presentCes n).filter (bit m.toNat)) (hb : s.flag (R.CH_PHY_STAT_BUSY n) = false)
    (hk : k ≠ .init) (hr : s.phyRuns n = true) (hne : ts ≠ []) :
    phyCmdWr n (phyCmdWord m k.code) s = s.phyBegin n { kind := k, left := ts, all := ts } := by
  obtain ⟨hkind, htargets⟩ := phyCmdWord_spells m k
  simp [phyCmdWr, hb, hkind, htargets, hk, hr, ← hts, hne, State.phyBegin]

end

/-- PHY_STAT and the events of a channel lie in different words. -/
theorem phyStat_ne_evt (n : Nat) : (R.CH_PHY_STAT_RESULT n).addr ≠ evtAddr .ch n := by
  change 0x30108 + n * 0x1000 ≠ 0x30000 + n * 0x1000 + 0x10
  omega

theorem State.phyRefuse_effect (s : State) (n : Nat) {r : Nat} (hr : r < 16) :
    (s.phyRefuse n r).get (R.CH_PHY_STAT_RESULT n) = r ∧ (s.phyRefuse n r).event .ch n 4 = true ∧
    s.wordsKept (s.phyRefuse n r) [(R.CH_PHY_STAT_RESULT n).addr, evtAddr .ch n] ∧
    s.phyRefuse n r = { s with regs := (s.phyRefuse n r).regs, pins := (s.phyRefuse n r).pins } := by
  refine ⟨?_, State.event_raised _ _ _ _ (by decide), ?_, State.raise_frame _ _ _ _⟩
  · refine (State.get_raise _ _ _ _ _ (phyStat_ne_evt n)).trans ((State.get_set_same _ _ _ ?_).trans (Nat.mod_eq_of_lt hr))
    change 0 + 4 ≤ 32
    decide
  · exact (State.wordsKept_set _ _ _ List.mem_cons_self).trans
      (State.wordsKept_raise _ _ _ _ (List.mem_cons_of_mem _ (List.mem_singleton_self _)))

/-- A one-bit field set to 1 reads 1. -/
theorem State.flag_set_same (s : State) {f : Fld} (h : f.lsb + f.wid ≤ 32) (hw : f.wid = 1) : (s.set f 1).flag f = true := by
  rw [State.flag, State.get_set_same s f 1 h, hw]
  rfl

theorem State.phyBegin_effect (s : State) (n : Nat) (c : PhyRun) :
    ((s.phyBegin n c).ch n).phy = { (s.ch n).phy with cmd := some c } ∧ (s.phyBegin n c).flag (R.CH_PHY_STAT_BUSY n) = true ∧
    (∀ k, k ≠ n → (s.phyBegin n c).ch k = s.ch k) ∧ s.wordsKept (s.phyBegin n c) [(R.CH_PHY_STAT_BUSY n).addr] ∧
    s.phyBegin n c = { s with chans := (s.phyBegin n c).chans, regs := (s.phyBegin n c).regs } := by
  refine ⟨?_, ?_, fun k hk => (State.ch_chMap _ _ _ _).trans (if_neg hk), fun a ha => ?_, rfl⟩
  · rw [State.phyBegin, State.phyMap, State.ch_chMap, if_pos rfl]
    rfl
  · exact State.flag_set_same s (f := R.CH_PHY_STAT_BUSY n) (by change 7 + 1 ≤ 32; decide) rfl
  · exact State.wordsKept_set s (R.CH_PHY_STAT_BUSY n) 1 (List.mem_singleton_self _) a ha

end Sys2Proof.Machine

/-- Settles O16: PHY_CMD spells the command and its targets; then a start, and a refusal with either result. -/
theorem phyCommandsStartOnceAndWait : Obligations.PhyCommandsStartOnceAndWait := by
  intro s n m ht q hq
  obtain ⟨hinit, hexec⟩ := exec_trainCommand ht hq
  refine ⟨fun ts hts hb hr hne => ?start, fun hb => ?busy, fun hb hr => ?idle⟩
  case start => exact ⟨_, hexec.trans (congrArg _ (phyCmdWr_starts hts hb hinit hr hne)), s.phyBegin_effect n _⟩
  case busy => exact ⟨_, hexec.trans (congrArg _ (phyCmdWr_busy _ hb)), s.phyRefuse_effect n (by decide)⟩
  case idle => exact ⟨_, hexec.trans (congrArg _ (phyCmdWr_idle hb hinit hr)), s.phyRefuse_effect n (by decide)⟩

end

-- Flash bus: INIT (03_flash_bus.md).
section

open Sys2Proof Sys2Proof.Machine

namespace Sys2Proof.Machine

/-! ## The dies' answers reach the slice -/

/-- An INIT of the targets of `m` that waits for the dies' answers. -/
def initRun (m : BitVec 8) : PhyRun := { kind := .init, left := [], all := (List.range 8).filter (bit m.toNat), asked := true }

theorem phyCmdWr_init {s : State} {n : Nat} {m : BitVec 8} (hb : s.flag (R.CH_PHY_STAT_BUSY n) = false) :
    phyCmdWr n (phyCmdWord m 1) s = s.phyBegin n (initRun m) := by
  obtain ⟨hkind, htargets⟩ := phyCmdWord_spells m .init
  rw [PhyKind.code] at hkind htargets
  simp [phyCmdWr, hb, hkind, htargets, State.phyBegin, initRun]

theorem exec_phyInit {s : State} {n : Fin 48} {m : BitVec 8} (dies : List DieAns) (tm : List Nat)
    (ht : s.portTakes (R.CH_PHY_CMD_CMD n).addr) (ho : s.ownsCh n = true) (hb : s.flag (R.CH_PHY_STAT_BUSY n) = false)
    (ha : s.initAsked n m = false) : exec (.phyInit n m dies tm) s = .next ((s.phyBegin n (initRun m)).phyInit n m.toNat dies tm) := by
  have hcmd : ((s.phyBegin n (initRun m)).ch n).phy.cmd = some (initRun m) := congrArg PhyS.cmd (State.phy_phyMap _ _ _)
  have howns : (s.phyBegin n (initRun m)).ownsCh n = true := by
    have hown : ((s.phyBegin n (initRun m)).ch n).own = (s.ch n).own := by
      rw [State.phyBegin, State.phyMap, State.ch_chMap, if_pos rfl, State.ch_set]
    rw [← ho, State.ownsCh, hown]
    rfl
  have hans : (s.phyBegin n (initRun m)).initAnswer n m dies tm = (s.phyBegin n (initRun m)).phyInit n m.toNat dies tm := by
    rw [State.initAnswer, hcmd]
    exact if_pos ⟨howns, rfl, rfl⟩
  simp only [exec, execPhyInit, ha, Bool.false_eq_true, if_false]
  rw [State.cpWr_taken _ _ _ _ _ ht, phyCmdWr_init hb]
  exact congrArg Host.Outcome.next hans

/-! ## The end of an INIT that finds no die (R109) -/

/-- In `t` only channel `n`, LUNs and register words may differ from `s`. -/
def State.initOnly (s t : State) (n : Nat) : Prop :=
  (∀ k, k ≠ n → t.ch k = s.ch k) ∧ t = { s with chans := t.chans, luns := t.luns, regs := t.regs }

section
variable {s t u : State} {n : Nat}

theorem State.initOnly.trans (h : s.initOnly t n) (h' : t.initOnly u n) : s.initOnly u n := by
  obtain ⟨hother, ht⟩ := h
  obtain ⟨kother, hu⟩ := h'
  exact ⟨fun k hk => (kother k hk).trans (hother k hk), hu.trans (by rw [ht])⟩

theorem State.initOnly_chMap (s : State) (n : Nat) (f : ChS → ChS) : s.initOnly (s.chMap n f) n :=
  ⟨fun _ hk => s.ch_chMap_other n hk f, rfl⟩

theorem State.initOnly_set (s : State) (n : Nat) (f : Fld) (v : Nat) : s.initOnly (s.set f v) n := ⟨fun _ _ => rfl, rfl⟩

/-- An event raised after such a change. -/
theorem State.initOnly.raised (h : s.initOnly t n) (p : Page) (k b : Nat) : t.raise p k b = { s with
    chans := (t.raise p k b).chans, luns := (t.raise p k b).luns, regs := (t.raise p k b).regs, pins := (t.raise p k b).pins } := by
  obtain ⟨-, ht⟩ := h
  rw [t.raise_frame p k b, ht]

theorem State.busWork.initOnly (h : s.busWork t n) : s.initOnly t n := by
  obtain ⟨-, ht⟩ := id h
  refine ⟨fun k hk => h.other hk, ?_⟩
  rw [ht]

theorem State.busWork.rd (h : s.busWork t n) (a : Nat) : t.rd a = s.rd a := by
  obtain ⟨-, ht⟩ := h
  rw [ht]
  rfl

theorem State.busWork.get (h : s.busWork t n) (f : Fld) : t.get f = s.get f := State.get_of_rd (h.rd _)

theorem State.busWork.slots (h : s.busWork t n) : (t.ch n).slots = (s.ch n).slots := by
  obtain ⟨⟨e, hch⟩, -⟩ := h
  rw [hch, if_pos rfl]

theorem State.busWork_foldl {β : Type} (n : Nat) (g : State → β → State) (h : ∀ (s : State) x, s.busWork (g s x) n) (l : List β) (s : State) :
    s.busWork (l.foldl g s) n :=
  foldl_rel (P := fun s t => s.busWork t n) (fun s => s.busWork_refl n) (fun _ _ _ => State.busWork.trans) g h l s

theorem State.busWork_lunMap (s : State) (n k l : Nat) (f : LunS → LunS) : s.busWork (s.lunMap k l f) n := State.busWork_of_chans rfl rfl

theorem State.busWork_targetReset (s : State) (n c : Nat) : s.busWork (s.targetReset n c) n :=
  ((s.busWork_drive n _).trans (State.busWork_engMap _ n _)).trans (State.busWork_foldl n _ (fun s _ => s.busWork_lunMap n _ _ _) _ _)

theorem State.busWork_resetsEnd (s : State) (n : Nat) (cs : List Nat) : s.busWork (s.resetsEnd n cs) n :=
  State.busWork_foldl n _ (fun s _ => s.busWork_lunMap n _ _ _) _ _

end

/-- Steps 1 and 2 of INIT: the targets `cs` of channel `n` are reset and asked who they are. -/
def State.phyAsk (s : State) (n : Nat) (cs : List Nat) : State :=
  ((cs.foldl (fun s c => s.targetReset n c) (s.phyForget n)).resetsEnd n cs).drive n (cs.flatMap idOps)

theorem State.busWork_phyAsk (s : State) (n : Nat) (cs : List Nat) : (s.phyForget n).busWork (s.phyAsk n cs) n :=
  ((State.busWork_foldl n _ (fun s c => s.busWork_targetReset n c) cs _).trans (State.busWork_resetsEnd _ n cs)).trans
    (State.busWork_drive _ n _)

theorem State.phyForget_effect (s : State) (n : Nat) :
    (s.phyForget n).get (R.CH_PHY_STAT_STATE n) = 1 ∧ (s.phyForget n).get (R.CH_PHY_STAT_CE_PRESENT n) = 0 ∧
    (s.phyForget n).get (R.CH_PHY_STAT_BUSY n) = s.get (R.CH_PHY_STAT_BUSY n) := by
  simp [State.phyForget, State.get_set_apart, State.get_set_same, R.CH_PHY_STAT_STATE, R.CH_PHY_STAT_CE_PRESENT,
    R.CH_PHY_STAT_CE_TRAINED, R.CH_PHY_STAT_N_ACT, R.CH_PHY_STAT_P_ACT, R.CH_PHY_STAT_BUSY]

theorem State.phyForget_frame (s : State) (n : Nat) : ((s.phyForget n).ch n).phy = { (s.ch n).phy with geo := none, rate := 0 } ∧
    ((s.phyForget n).ch n).slots = (s.ch n).slots ∧ s.wordsKept (s.phyForget n) [(R.CH_PHY_STAT_BUSY n).addr] ∧
    s.initOnly (s.phyForget n) n := by
  refine ⟨?_, ?_, fun a ha => ?_, ?_⟩
  · simp only [State.phyForget, State.phy_phyMap, State.ch_set]
  · simp only [State.phyForget, State.slots_phyMap, State.ch_set]
  · have hstat := List.mem_singleton_self (R.CH_PHY_STAT_BUSY n).addr
    rw [State.phyForget, State.rd_phyMap]
    exact (((((s.wordsKept_set (R.CH_PHY_STAT_STATE n) 1 hstat).trans (State.wordsKept_set _ (R.CH_PHY_STAT_CE_PRESENT n) 0 hstat)).trans
      (State.wordsKept_set _ (R.CH_PHY_STAT_CE_TRAINED n) 0 hstat)).trans (State.wordsKept_set _ (R.CH_PHY_STAT_N_ACT n) 0 hstat)).trans
      (State.wordsKept_set _ (R.CH_PHY_STAT_P_ACT n) 0 hstat)) a ha
  · unfold State.phyForget
    exact (((((s.initOnly_set n _ _).trans (State.initOnly_set _ n _ _)).trans (State.initOnly_set _ n _ _)).trans
      (State.initOnly_set _ n _ _)).trans (State.initOnly_set _ n _ _)).trans (State.initOnly_chMap _ n _)

/-- A command of channel `n` has ended with result `r`: what a write of PHY_CMD sees of it (R110). -/
def State.phyEnded (s : State) (n r : Nat) : State :=
  (((s.set (R.CH_PHY_STAT_BUSY n) 0).set (R.CH_PHY_STAT_RESULT n) r).phyMap n (fun p => { p with cmd := none })).chRaise n 4

theorem State.phyEnded_effect (s : State) (n : Nat) {r : Nat} (hr : r < 16) :
    ((s.phyEnded n r).get (R.CH_PHY_STAT_RESULT n) = r ∧ (s.phyEnded n r).flag (R.CH_PHY_STAT_BUSY n) = false ∧
      (s.phyEnded n r).get (R.CH_PHY_STAT_STATE n) = s.get (R.CH_PHY_STAT_STATE n) ∧
      (s.phyEnded n r).get (R.CH_PHY_STAT_CE_PRESENT n) = s.get (R.CH_PHY_STAT_CE_PRESENT n)) ∧
    (s.phyEnded n r).event .ch n 4 = true ∧ s.wordsKept (s.phyEnded n r) [(R.CH_PHY_STAT_BUSY n).addr, evtAddr .ch n] ∧
    ((s.phyEnded n r).ch n).phy = { (s.ch n).phy with cmd := none } ∧ ((s.phyEnded n r).ch n).slots = (s.ch n).slots ∧
    (∀ k, k ≠ n → (s.phyEnded n r).ch k = s.ch k) ∧
    s.phyEnded n r = { s with
      chans := (s.phyEnded n r).chans, luns := (s.phyEnded n r).luns, regs := (s.phyEnded n r).regs, pins := (s.phyEnded n r).pins } := by
  have hstat : ∀ (t : State) (f : Fld), f.addr = (R.CH_PHY_STAT_RESULT n).addr → (t.chRaise n 4).get f = t.get f :=
    fun t f hf => State.get_raise _ _ _ _ _ (hf ▸ phyStat_ne_evt n)
  have hch : ∀ (t : State) k, (t.chRaise n 4).ch k = t.ch k := fun t k => by rw [State.ch, State.chRaise, State.raise_chans]; rfl
  refine ⟨⟨?_, ?_, ?_, ?_⟩, State.event_raised _ _ _ _ (by decide), ?_, ?_, ?_, fun k hk => ?_, ?_⟩
  · rw [State.phyEnded, hstat _ (R.CH_PHY_STAT_RESULT n) rfl, State.get_phyMap, State.get_set_same]
    · exact Nat.mod_eq_of_lt hr
    · change 0 + 4 ≤ 32
      decide
  · rw [State.flag, State.phyEnded, hstat _ (R.CH_PHY_STAT_BUSY n) rfl]
    simp [State.get_set_apart, State.get_set_same, R.CH_PHY_STAT_RESULT, R.CH_PHY_STAT_BUSY]
  · rw [State.phyEnded, hstat _ (R.CH_PHY_STAT_STATE n) rfl]
    simp [State.get_set_apart, R.CH_PHY_STAT_RESULT, R.CH_PHY_STAT_BUSY, R.CH_PHY_STAT_STATE]
  · rw [State.phyEnded, hstat _ (R.CH_PHY_STAT_CE_PRESENT n) rfl]
    simp [State.get_set_apart, R.CH_PHY_STAT_RESULT, R.CH_PHY_STAT_BUSY, R.CH_PHY_STAT_CE_PRESENT]
  · have hset : s.wordsKept ((s.set (R.CH_PHY_STAT_BUSY n) 0).set (R.CH_PHY_STAT_RESULT n) r)
        [(R.CH_PHY_STAT_BUSY n).addr, evtAddr .ch n] :=
      (State.wordsKept_set _ _ _ List.mem_cons_self).trans (State.wordsKept_set _ _ _ List.mem_cons_self)
    have hcmd : ((s.set (R.CH_PHY_STAT_BUSY n) 0).set (R.CH_PHY_STAT_RESULT n) r).wordsKept
        (((s.set (R.CH_PHY_STAT_BUSY n) 0).set (R.CH_PHY_STAT_RESULT n) r).phyMap n (fun p => { p with cmd := none }))
        [(R.CH_PHY_STAT_BUSY n).addr, evtAddr .ch n] := fun a _ => State.rd_phyMap _ _ _ a
    exact (hset.trans hcmd).trans (State.wordsKept_raise _ _ _ _ (List.mem_cons_of_mem _ (List.mem_singleton_self _)))
  · simp only [State.phyEnded, hch, State.phy_phyMap, State.ch_set]
  · simp only [State.phyEnded, hch, State.slots_phyMap, State.ch_set]
  · simp only [State.phyEnded, hch, State.phyMap, State.ch_chMap_other _ n hk, State.ch_set]
  · exact (((s.initOnly_set n _ _).trans (State.initOnly_set _ n _ _)).trans (State.initOnly_chMap _ n _)).raised _ _ _

/-- An INIT that leaves the slice in another state than RUN and FALLBACK, without a descriptor in a slot. -/
theorem State.phyFinish_failed {s : State} {n : Nat} {r : Nat} (hr : r < 16) (hi : s.initRuns n = true) (hs : (s.ch n).slots = [])
    (hp : s.phyRuns n = false) : s.phyFinish n r = (s.phyEnded n r).chMap n (fun c => { c with slots := c.slots.filter (fun x => x.started) }) := by
  obtain ⟨⟨-, -, hstate, -⟩, -, -, -, hslots, -⟩ := s.phyEnded_effect n hr
  have hruns : (s.phyEnded n r).phyRuns n = false := by rw [State.phyRuns, hstate]; exact hp
  change (if s.initRuns n = true ∧ (!(s.phyEnded n r).phyRuns n) = true then _ else _) = _
  rw [if_pos ⟨hi, by rw [hruns]; rfl⟩]
  change List.foldl _ _ (List.map _ (List.filter (fun x => !x.started) ((s.phyEnded n r).ch n).slots)) = _
  rw [hslots, hs]
  rfl

/-- What INIT leaves when it has asked the targets `cs` who they are. -/
theorem State.phyAsk_effect (s : State) (n : Nat) (cs : List Nat) :
    ((s.phyAsk n cs).get (R.CH_PHY_STAT_STATE n) = 1 ∧ (s.phyAsk n cs).get (R.CH_PHY_STAT_CE_PRESENT n) = 0 ∧
      (s.phyAsk n cs).get (R.CH_PHY_STAT_BUSY n) = s.get (R.CH_PHY_STAT_BUSY n)) ∧
    ((s.phyAsk n cs).ch n).phy = { (s.ch n).phy with geo := none, rate := 0 } ∧ ((s.phyAsk n cs).ch n).slots = (s.ch n).slots ∧
    s.wordsKept (s.phyAsk n cs) [(R.CH_PHY_STAT_BUSY n).addr] ∧ s.initOnly (s.phyAsk n cs) n := by
  have hwork := s.busWork_phyAsk n cs
  obtain ⟨hstate, hpresent, hbusy⟩ := s.phyForget_effect n
  obtain ⟨hphy, hslots, hwords, honly⟩ := s.phyForget_frame n
  exact ⟨⟨(hwork.get _).trans hstate, (hwork.get _).trans hpresent, (hwork.get _).trans hbusy⟩, hwork.phy.trans hphy, hwork.slots.trans hslots,
    fun a ha => (hwork.rd a).trans (hwords a ha), honly.trans hwork.initOnly⟩

theorem State.phyInit_noDie (s : State) (n targets : Nat) {dies : List DieAns} (tm : List Nat) (h : ∀ d ∈ dies, d.sig = false) :
    s.phyInit n targets dies tm = (s.phyAsk n ((List.range 8).filter (bit targets))).phyFinish n 1 := by
  have hans : ∀ c, (dies.getD c ⟨false, []⟩).sig = false := fun c => by
    rw [List.getD_eq_getElem?_getD]
    cases hc : dies[c]? with
    | none => rfl
    | some d => exact h d (List.mem_of_getElem? hc)
  have hsigs : ((List.range 8).filter (bit targets)).filter (fun c => (dies.getD c ⟨false, []⟩).sig) = [] :=
    List.filter_eq_nil_iff.mpr (fun c _ => by simp only [hans, Bool.false_eq_true, not_false_eq_true])
  exact if_pos hsigs

/-- An INIT that finds no die leaves PHY_STAT with NO_DIE, an empty slice, and no command. -/
theorem State.phyInit_noDie_effect {s : State} {n : Nat} (m : BitVec 8) {dies : List DieAns} (tm : List Nat) (hs : (s.ch n).slots = [])
    (h : ∀ d ∈ dies, d.sig = false) {t : State} (ht : t = (s.phyBegin n (initRun m)).phyInit n m.toNat dies tm) :
    t.get (R.CH_PHY_STAT_RESULT n) = 1 ∧ t.flag (R.CH_PHY_STAT_BUSY n) = false ∧ t.get (R.CH_PHY_STAT_STATE n) = 1 ∧
    t.get (R.CH_PHY_STAT_CE_PRESENT n) = 0 ∧ (t.ch n).phy.geo = none ∧ (t.ch n).phy.cmd = none ∧ t.event .ch n 4 = true ∧
    s.wordsKept t [(R.CH_PHY_STAT_BUSY n).addr, evtAddr .ch n] ∧ (∀ k, k ≠ n → t.ch k = s.ch k) ∧
    t = { s with chans := t.chans, luns := t.luns, regs := t.regs, pins := t.pins } := by
  obtain ⟨hbphy, -, hbother, hbwords, hbframe⟩ := s.phyBegin_effect n (initRun m)
  obtain ⟨⟨hstate, hpresent, -⟩, hphy, hslots, hwords, hother, hframe⟩ :=
    (s.phyBegin n (initRun m)).phyAsk_effect n ((List.range 8).filter (bit m.toNat))
  rw [State.phyInit_noDie _ _ _ _ h] at ht
  generalize (s.phyBegin n (initRun m)).phyAsk n ((List.range 8).filter (bit m.toNat)) = v at *
  obtain ⟨⟨eresult, ebusy, estate, epresent⟩, eevent, ewords, ephy, -, eother, eframe⟩ := v.phyEnded_effect n (r := 1) (by decide)
  have hbslots : ((s.phyBegin n (initRun m)).ch n).slots = (s.ch n).slots := by
    rw [State.phyBegin, State.slots_phyMap, State.ch_set]
  have hcmd : (v.ch n).phy.cmd = some (initRun m) := by rw [hphy, hbphy]
  have hinit : v.initRuns n = true := by rw [State.initRuns, hcmd]; rfl
  have hruns : v.phyRuns n = false := by rw [State.phyRuns, hstate]; rfl
  rw [State.phyFinish_failed (by decide) hinit (hslots.trans (hbslots.trans hs)) hruns] at ht
  have hself : (t.ch n).phy = { (v.ch n).phy with cmd := none } := by rw [ht, State.ch_chMap, if_pos rfl, ← ephy]
  refine ⟨?_, ?_, ?_, ?_, ?_, ?_, ?_, fun a ha => ?_, fun k hk => ?_, ?_⟩
  · rw [ht]; exact eresult
  · rw [ht]; exact ebusy
  · rw [ht]; exact estate.trans hstate
  · rw [ht]; exact epresent.trans hpresent
  · rw [hself, hphy]
  · rw [hself]
  · rw [ht]; exact eevent
  · have hstat : a ∉ [(R.CH_PHY_STAT_BUSY n).addr] := fun hm => ha (List.mem_append_left [evtAddr .ch n] hm)
    rw [ht]
    exact (ewords a ha).trans ((hwords a hstat).trans (hbwords a hstat))
  · rw [ht, State.ch_chMap_other _ n hk, eother k hk, hother k hk, hbother k hk]
  · rw [ht, eframe, hframe, hbframe]
    rfl

/-! ## The trims go to the standby (16_cascade_reflection.md R468) -/

/-- `t` is `s` but for a report of the integrity unit, whose words lie in the page MEMI. -/
def State.memiReports (s t : State) : Prop := s.reports t ∧ ∀ a, 0x5000 ≤ a → t.rd a = s.rd a

section
variable {s t u : State}

theorem State.memiReports_refl (s : State) : s.memiReports s := ⟨s.reports_refl, fun _ _ => rfl⟩

theorem State.memiReports.trans (h : s.memiReports t) (h' : t.memiReports u) : s.memiReports u := by
  obtain ⟨hr, hrd⟩ := h
  obtain ⟨kr, krd⟩ := h'
  exact ⟨State.reports_trans hr kr, fun a ha => (krd a ha).trans (hrd a ha)⟩

/-- The words of region 5 that a report changes lie in the page MEMI. -/
theorem State.rd_reportCe (s : State) (w : Nat) (b : Bool) {a : Nat} (ha : 0x5000 ≤ a) : (s.reportCe 5 w b).rd a = s.rd a := by
  have hevt : a ≠ pageBase .memi 0 + 0x10 := by change a ≠ 0x4010; omega
  have hcnt : a ≠ (R.MEMI_CE_CNT_CNT 5).addr := by change a ≠ 0x410C + 5 * 0x20; omega
  have hraised : ∀ t : State, ((t.raise .memi 0 0).bump (R.MEMI_CE_CNT_CNT 5)).rd a = t.rd a := fun t =>
    (State.rd_set_other _ _ _ hcnt).trans ((t.rd_raise _ _ _ _).trans (if_neg hevt))
  unfold State.reportCe
  dsimp only
  split
  · exact s.rd_count _ _ _
  · have h : ((((s.count (memiSrc + 5) (memiDetail 5 w)).raise .memi 0 0).bump (R.MEMI_CE_CNT_CNT 5))).rd a = s.rd a :=
      (hraised _).trans (s.rd_count _ _ _)
    split
    · exact h
    · split <;> exact h

theorem State.rd_reportUe (s : State) (w : Nat) {a : Nat} (ha : 0x5000 ≤ a) : (s.reportUe 5 w 0).rd a = s.rd a := by
  have hevt : a ≠ pageBase .memi 0 + 0x10 := by change a ≠ 0x4010; omega
  have hcnt : a ≠ (R.MEMI_UE_CNT_CNT 5).addr := by change a ≠ 0x4110 + 5 * 0x20; omega
  have hlast : a ≠ (R.MEMI_LAST_UE_ORIGIN 5).addr := by change a ≠ 0x4114 + 5 * 0x20; omega
  unfold State.reportUe
  simp only [show ¬ (0 = 3) by decide, if_false]
  split
  · exact s.rd_count _ _ _
  · refine (State.rd_set_other _ (R.MEMI_LAST_UE_WADDR 5) _ hlast).trans ?_
    refine (State.rd_set_other _ _ _ hlast).trans ((State.rd_set_other _ _ _ hcnt).trans ?_)
    rw [State.rd_raise, if_neg hevt, State.rd_count]

theorem State.memiReports_bufReport (s : State) (p : Nat × BitVec 72) : s.memiReports (s.bufReport 5 0 p) := by
  unfold State.bufReport
  split
  · exact s.memiReports_refl
  · exact ⟨s.reports_reportUe _ _ _, fun _ ha => s.rd_reportUe _ ha⟩
  · exact ⟨s.reports_reportCe _ _ _, fun _ ha => s.rd_reportCe _ _ ha⟩

theorem State.memiReports_trimSeen (s : State) (n : Nat) : s.memiReports (s.trimSeen n) :=
  foldl_rel State.memiReports_refl (fun _ _ _ => State.memiReports.trans) _ State.memiReports_bufReport _ _

end

theorem State.linkSend_frame (s : State) (r : LRec) : s.linkSend r = { s with lnk := (s.linkSend r).lnk } := by
  unfold State.linkSend
  dsimp only
  split
  · rfl
  · split <;> rfl

/-- What goes to the standby leaves the channels and every word outside the page MEMI. -/
theorem State.mirrorTrim_effect (s : State) (n : Nat) : (s.mirrorTrim n).chans = s.chans ∧ (s.mirrorTrim n).gen = s.gen ∧
    (∀ a, 0x5000 ≤ a → (s.mirrorTrim n).rd a = s.rd a) ∧ (s.mirrors = false → s.mirrorTrim n = s) := by
  unfold State.mirrorTrim
  split
  case isFalse h => exact ⟨rfl, rfl, fun _ _ => rfl, fun _ => rfl⟩
  case isTrue h =>
    obtain ⟨hframe, hrd⟩ := s.memiReports_trimSeen n
    unfold State.reports at hframe
    have hmirror : ∀ (u : State) (bs : List Byte), u.mirror 0x26 n bs = { u with lnk := (u.mirror 0x26 n bs).lnk } := fun u bs => by
      unfold State.mirror
      split
      · exact u.linkSend_frame _
      · rfl
    rw [hmirror]
    refine ⟨?_, ?_, hrd, fun hm => absurd hm (by simp [h])⟩
    · change (s.trimSeen n).chans = s.chans
      rw [hframe]
    · change (s.trimSeen n).gen = s.gen
      rw [hframe]

/-! ## INIT with one die (R92 to R94, R109) -/

/-- The fields that INIT reads, or has set, when it takes the parameter pages, and leaves from then on. -/
def initFields (n : Nat) : List Fld :=
  [R.CH_PHY_STAT_BUSY n, R.CH_PHY_STAT_CE_PRESENT n, R.CH_PHY_CTRL_MODE n, R.CH_PHY_CTRL_N n, R.CH_PHY_CTRL_P n,
    R.REFL_CTRL_ENABLE, R.REFL_CFG_PRIMARY, R.REFL_STATUS_PEER_UP]

/-- A field that INIT may set: it lies apart from `initFields`. -/
def initSets (n : Nat) (g : Fld) : Prop :=
  g.lsb + g.wid ≤ 32 ∧ ∀ f ∈ initFields n, f.addr ≠ g.addr ∨ f.lsb + f.wid ≤ g.lsb ∨ g.lsb + g.wid ≤ f.lsb

/-- A step of INIT on channel `n` once it has the parameter pages: no other channel and none of `initFields` changes, and where nothing
goes to a standby, nothing but the channel, LUNs and register words. -/
structure State.initStep (s t : State) (n : Nat) : Prop where
  others : ∀ k, k ≠ n → t.ch k = s.ch k
  gen : t.gen = s.gen
  fields : ∀ f ∈ initFields n, t.get f = s.get f
  frame : s.mirrors = false → t = { s with chans := t.chans, luns := t.luns, regs := t.regs }

section
variable {s t u : State} {n : Nat}

/-- Whether the block mirrors its metadata rests on three flags of the reflect port. -/
theorem State.mirrors_congr (hg : t.gen = s.gen)
    (h : ∀ f ∈ [R.REFL_CTRL_ENABLE, R.REFL_CFG_PRIMARY, R.REFL_STATUS_PEER_UP], t.get f = s.get f) : t.mirrors = s.mirrors := by
  have hflag : ∀ f ∈ [R.REFL_CTRL_ENABLE, R.REFL_CFG_PRIMARY, R.REFL_STATUS_PEER_UP], t.flag f = s.flag f := fun f hf => by
    rw [State.flag, h f hf]
    rfl
  simp only [List.forall_mem_cons] at hflag
  obtain ⟨henable, hprimary, hpeer, -⟩ := hflag
  rw [State.mirrors, State.rfOn, hg, henable, hprimary, hpeer]
  rfl

theorem State.initStep.mirrors (h : s.initStep t n) : t.mirrors = s.mirrors :=
  State.mirrors_congr h.gen fun f hf => h.fields f (List.mem_append_right
    [R.CH_PHY_STAT_BUSY n, R.CH_PHY_STAT_CE_PRESENT n, R.CH_PHY_CTRL_MODE n, R.CH_PHY_CTRL_N n, R.CH_PHY_CTRL_P n] hf)

theorem State.initStep_refl (s : State) (n : Nat) : s.initStep s n := ⟨fun _ _ => rfl, rfl, fun _ _ => rfl, fun _ => rfl⟩

theorem State.initStep.trans (h : s.initStep t n) (h' : t.initStep u n) : s.initStep u n where
  others k hk := (h'.others k hk).trans (h.others k hk)
  gen := h'.gen.trans h.gen
  fields f hf := (h'.fields f hf).trans (h.fields f hf)
  frame hm := (h'.frame (h.mirrors.trans hm)).trans (by rw [h.frame hm])

theorem State.initStep_set (s : State) {g : Fld} (v : Nat) (hg : initSets n g) : s.initStep (s.set g v) n where
  others _ _ := rfl
  gen := rfl
  fields f hf := (hg.2 f hf).elim (State.get_set_other s v) (State.get_set_apart s v hg.1)
  frame _ := rfl

theorem State.initStep_chMap (s : State) (n : Nat) (f : ChS → ChS) : s.initStep (s.chMap n f) n :=
  ⟨fun _ hk => s.ch_chMap_other n hk f, rfl, fun _ _ => rfl, fun _ => rfl⟩

theorem State.busWork.initStep (h : s.busWork t n) : s.initStep t n := by
  obtain ⟨hother, hframe⟩ := h.initOnly
  exact ⟨hother, by rw [hframe], fun f _ => h.get f, fun _ => hframe⟩

theorem initFields_addr : ∀ f ∈ initFields n, 0x5000 ≤ f.addr := by
  simp only [initFields, List.forall_mem_cons, List.not_mem_nil, false_imp_iff, implies_true, and_true]
  simp only [R.CH_PHY_STAT_BUSY, R.CH_PHY_STAT_CE_PRESENT, R.CH_PHY_CTRL_MODE, R.CH_PHY_CTRL_N, R.CH_PHY_CTRL_P,
    R.REFL_CTRL_ENABLE, R.REFL_CFG_PRIMARY, R.REFL_STATUS_PEER_UP]
  omega

theorem State.initStep_mirrorTrim (s : State) (n k : Nat) : s.initStep (s.mirrorTrim k) n := by
  obtain ⟨hch, hgen, hrd, hsame⟩ := s.mirrorTrim_effect k
  refine ⟨fun j _ => by rw [State.ch, hch]; rfl, hgen, fun f hf => State.get_of_rd (hrd _ (initFields_addr f hf)), fun hm => ?_⟩
  rw [hsame hm]

/-- A change of LANE_MAP may go to the standby. -/
theorem State.initStep_laneMapBy {f : State → State} (hf : s.initStep (f s) n) : s.initStep (s.laneMapBy n f) n := by
  unfold State.laneMapBy
  dsimp only
  split
  · exact hf
  · exact hf.trans (State.initStep_mirrorTrim _ _ _)

theorem State.ch_laneMapBy {f : State → State} (hf : (f s).chans = s.chans) (k : Nat) : (s.laneMapBy n f).ch k = s.ch k := by
  obtain ⟨hch, -⟩ := (f s).mirrorTrim_effect n
  unfold State.laneMapBy
  dsimp only
  split
  · rw [State.ch, hf]
    rfl
  · rw [State.ch, hch, hf]
    rfl

end

theorem initSets_init (n : Nat) : initSets n (R.CH_PHY_STAT_XRATE n) ∧ initSets n (R.CH_PHY_STAT_N_ACT n) ∧ initSets n (R.CH_PHY_STAT_P_ACT n) ∧
    initSets n (R.CH_PHY_STAT_CE_TRAINED n) ∧ initSets n (R.CH_LANE_MAP_SPARE_OK n) ∧ initSets n (R.CH_LANE_MAP_ACTIVE n) ∧
    ∀ i, initSets n (R.CH_XDESC_BYTES n i) := by
  simp only [initSets, initFields, List.forall_mem_cons, List.not_mem_nil, false_imp_iff, implies_true, and_true]
  simp only [R.CH_PHY_STAT_BUSY, R.CH_PHY_STAT_CE_PRESENT, R.CH_PHY_CTRL_MODE, R.CH_PHY_CTRL_N, R.CH_PHY_CTRL_P,
    R.REFL_CTRL_ENABLE, R.REFL_CFG_PRIMARY, R.REFL_STATUS_PEER_UP, R.CH_PHY_STAT_XRATE, R.CH_PHY_STAT_N_ACT, R.CH_PHY_STAT_P_ACT,
    R.CH_PHY_STAT_CE_TRAINED, R.CH_LANE_MAP_SPARE_OK, R.CH_LANE_MAP_ACTIVE, R.CH_XDESC_BYTES]
  refine ⟨?_, ?_, ?_, ?_, ?_, ?_, fun i => ?_⟩ <;> omega

/-! ### The parameter pages -/

/-- XDESC0 to XDESC3 take the descriptor `xd`, unless software keeps its own. -/
def State.descTaken (s : State) (n xd : Nat) : State :=
  if s.flag (R.CH_PHY_CTRL_XDESC_KEEP n) then s
  else [0, 1, 2, 3].foldl (fun s i => s.set (R.CH_XDESC_BYTES n i) (bits xd (32 * i) 32)) s

theorem State.initStep_descTaken (s : State) (n xd : Nat) : s.initStep (s.descTaken n xd) n := by
  obtain ⟨-, -, -, -, -, -, hdesc⟩ := initSets_init n
  unfold State.descTaken
  split
  · exact s.initStep_refl n
  · exact foldl_rel (P := fun s t => s.initStep t n) (fun s => s.initStep_refl n) (fun _ _ _ => State.initStep.trans) _
      (fun s i => s.initStep_set _ (hdesc i)) _ _

theorem State.busWork_engTime (s : State) (n : Nat) : s.busWork (s.engTime n) n := s.busWork_engMap n _

theorem State.initStep_rateSet (s : State) (n : Nat) (x : Nat × Nat) : s.initStep (s.rateSet n x) n := by
  obtain ⟨-, hn, hp, htrained, -⟩ := initSets_init n
  exact (((s.initStep_set _ hn).trans (State.initStep_set _ _ hp)).trans (State.initStep_set _ _ htrained)).trans (State.initStep_chMap _ n _)

/-- The rate and its timing leave the geometry. -/
theorem State.rateSet_engTime_effect (s : State) (n : Nat) (x : Nat × Nat) :
    s.initStep ((s.rateSet n x).engTime n) n ∧ (((s.rateSet n x).engTime n).ch n).phy.geo = (s.ch n).phy.geo := by
  refine ⟨(s.initStep_rateSet n x).trans (State.busWork_engTime _ n).initStep, ?_⟩
  rw [(State.busWork_engTime _ n).phy, State.rateSet, State.phy_phyMap]
  rfl

/-- Step 4 of INIT for the targets `kept`: their features, and the timing modes they declare. -/
def State.phyTimed (s : State) (n : Nat) (tm kept : List Nat) : State :=
  (s.drive n (kept.flatMap (s.confOps n))).phyMap n (fun p => { p with timing := tm })

/-- The rate that N and P ask for is in force, with its timing (R88, R109 step 5). -/
def State.phyRated (s : State) (n : Nat) : State :=
  (s.rateSet n (s.ratePick n (s.get (R.CH_PHY_CTRL_N n)) (s.get (R.CH_PHY_CTRL_P n)))).engTime n

/-- The steering that REQUEST asks for, at the targets `kept`. -/
def State.phySteered (s : State) (n : Nat) (kept : List Nat) : State :=
  let req := s.get (R.CH_LANE_MAP_REQUEST n)
  let steer : Bool := s.flag (R.CH_LANE_MAP_SPARE_OK n) && decide (req < 8)
  (if steer then s.drive n (s.laneOps n kept req) else s).laneMapBy n (fun s => s.set (R.CH_LANE_MAP_ACTIVE n) (if steer then req else 15))

theorem State.phyRated_effect (s : State) (n : Nat) : s.initStep (s.phyRated n) n ∧ ((s.phyRated n).ch n).phy.geo = (s.ch n).phy.geo :=
  s.rateSet_engTime_effect n _

theorem State.phyTimed_effect (s : State) (n : Nat) (tm kept : List Nat) :
    s.initStep (s.phyTimed n tm kept) n ∧ ((s.phyTimed n tm kept).ch n).phy.geo = (s.ch n).phy.geo := by
  have hdrive := s.busWork_drive n (kept.flatMap (s.confOps n))
  refine ⟨hdrive.initStep.trans (State.initStep_chMap _ n _), ?_⟩
  rw [State.phyTimed, State.phy_phyMap, hdrive.phy]

theorem State.phySteered_effect (s : State) (n : Nat) (kept : List Nat) :
    s.initStep (s.phySteered n kept) n ∧ ((s.phySteered n kept).ch n).phy = (s.ch n).phy := by
  obtain ⟨-, -, -, -, -, hactive, -⟩ := initSets_init n
  unfold State.phySteered
  dsimp only
  rw [State.ch_laneMapBy rfl]
  split
  · exact ⟨(s.busWork_drive n _).initStep.trans (State.initStep_laneMapBy (State.initStep_set _ _ hactive)), (s.busWork_drive n _).phy⟩
  · exact ⟨State.initStep_laneMapBy (State.initStep_set _ _ hactive), rfl⟩

/-- From step 4 on INIT keeps the geometry, and the training of the targets `kept` waits for the PLL. -/
theorem State.phyStart_effect (s : State) (n : Nat) (tm kept : List Nat) :
    s.initStep (s.phyStart n tm kept false) n ∧ ((s.phyStart n tm kept false).ch n).phy.geo = (s.ch n).phy.geo ∧
    ((s.phyStart n tm kept false).ch n).phy.cmd = some { kind := .init, left := kept, all := kept, relock := true, rated := true } := by
  obtain ⟨htimed, htgeo⟩ := s.phyTimed_effect n tm kept
  obtain ⟨hrated, hrgeo⟩ := (s.phyTimed n tm kept).phyRated_effect n
  obtain ⟨hsteered, hphy⟩ := ((s.phyTimed n tm kept).phyRated n).phySteered_effect n kept
  have hstart : s.phyStart n tm kept false = (((s.phyTimed n tm kept).phyRated n).phySteered n kept).phyMap n (fun p => { p with
      cmd := some { kind := .init, left := kept, all := kept, relock := true, rated := true } }) := rfl
  rw [hstart, State.phy_phyMap]
  exact ⟨((htimed.trans hrated).trans hsteered).trans (State.initStep_chMap _ n _), (congrArg PhyS.geo hphy).trans (hrgeo.trans htgeo), rfl⟩

/-- XRATE and SPARE_OK follow the descriptor. -/
def State.descUsed (s : State) (n : Nat) : State :=
  let s := s.set (R.CH_PHY_STAT_XRATE n) (b2n (s.xbyte n 4 ≠ 0))
  s.laneMapBy n (fun s => s.set (R.CH_LANE_MAP_SPARE_OK n) (s.xbyte n 5))

theorem State.initStep_descUsed (s : State) (n : Nat) : s.initStep (s.descUsed n) n := by
  obtain ⟨hxrate, -, -, -, hspare, -⟩ := initSets_init n
  unfold State.descUsed
  exact (s.initStep_set _ hxrate).trans (State.initStep_laneMapBy (State.initStep_set _ _ hspare))

/-- The rate that the parameter page `p` declares for the mode of channel `n` (R88). -/
def State.pageRate (s : State) (n : Nat) (p : PageCopy) : Nat := if s.get (R.CH_PHY_CTRL_MODE n) = 1 then p.decl.ddr3 else p.decl.lpddr4

/-- The descriptor of the parameter page `p` is taken. -/
def State.descKept (s : State) (n : Nat) (p : PageCopy) : State := (s.descTaken n (xdescOf p)).descUsed n

/-- The parameter page `p` of the one die is taken: its descriptor, and what it declares. -/
def State.pageKept (s : State) (n : Nat) (p : PageCopy) : State :=
  (s.descKept n p).phyMap n (fun x => { x with geo := some (geoOf p.decl), cap := (s.descKept n p).pageRate n p })

theorem State.initStep_descKept (s : State) (n : Nat) (p : PageCopy) : s.initStep (s.descKept n p) n :=
  (s.initStep_descTaken n _).trans (State.initStep_descUsed _ n)

theorem State.pageKept_effect (s : State) (n : Nat) (p : PageCopy) :
    s.initStep (s.pageKept n p) n ∧ ((s.pageKept n p).ch n).phy.geo = some (geoOf p.decl) := by
  refine ⟨(s.initStep_descKept n p).trans (State.initStep_chMap _ n _), ?_⟩
  rw [State.pageKept, State.phy_phyMap]

theorem State.phyPages_one (s : State) (n : Nat) (tm : List Nat) (c : Nat) (p : PageCopy) : s.phyPages n tm false [(c, p)] =
    if ((s.descKept n p).get (R.CH_PHY_CTRL_MODE n) ≠ 1 ∧ (s.descKept n p).get (R.CH_PHY_CTRL_MODE n) ≠ 2) ∨
        (s.descKept n p).pageRate n p = 0 then (s.pageKept n p).phyFinish n 3
    else if (s.pageKept n p).get (R.CH_PHY_CTRL_N n) < 6 ∨ 12 < (s.pageKept n p).get (R.CH_PHY_CTRL_N n) ∨
        4 < (s.pageKept n p).get (R.CH_PHY_CTRL_P n) then (s.pageKept n p).phyFinish n 4
    else (s.pageKept n p).phyStart n tm [c] false := (rfl)

/-- With a mode that the page declares a rate for, and N and P in range, the training begins. -/
theorem State.phyPages_starts {s : State} {n : Nat} {p : PageCopy} (tm : List Nat) (c : Nat)
    (hmode : (s.get (R.CH_PHY_CTRL_MODE n) = 1 ∧ p.decl.ddr3 ≠ 0) ∨ (s.get (R.CH_PHY_CTRL_MODE n) = 2 ∧ p.decl.lpddr4 ≠ 0))
    (hlo : 6 ≤ s.get (R.CH_PHY_CTRL_N n)) (hhi : s.get (R.CH_PHY_CTRL_N n) ≤ 12) (hp : s.get (R.CH_PHY_CTRL_P n) ≤ 4) :
    s.phyPages n tm false [(c, p)] = (s.pageKept n p).phyStart n tm [c] false := by
  obtain ⟨hkept, -⟩ := s.pageKept_effect n p
  have hrate : ¬ ((s.get (R.CH_PHY_CTRL_MODE n) ≠ 1 ∧ s.get (R.CH_PHY_CTRL_MODE n) ≠ 2) ∨ s.pageRate n p = 0) := by
    unfold State.pageRate
    obtain ⟨hm, hr⟩ | ⟨hm, hr⟩ := hmode <;> simp [hm, hr]
  rw [State.phyPages_one, State.pageRate, (s.initStep_descKept n p).fields (R.CH_PHY_CTRL_MODE n) (by simp [initFields]),
    hkept.fields (R.CH_PHY_CTRL_N n) (by simp [initFields]), hkept.fields (R.CH_PHY_CTRL_P n) (by simp [initFields])]
  exact (if_neg hrate).trans (if_neg (by omega))

/-! ### One target answers -/

theorem targets_one (c : Fin 8) : (List.range 8).filter (bit (1#8 <<< c.val).toNat) = [c.val] := by
  revert c
  decide

/-- The one target `c` with a signature has been read; its parameter page makes it present. -/
def State.phyFound (s : State) (n c : Nat) (a : DieAns) : State :=
  (s.drive n (pageOps c (pageReads a) true ++ [.desel])).set (R.CH_PHY_STAT_CE_PRESENT n) (2 ^ c)

theorem State.phyInit_one (s : State) (n : Nat) {c : Fin 8} {dies : List DieAns} {a : DieAns} {p : PageCopy} (tm : List Nat)
    (hd : dies[c.val]? = some a) (ha : a.sig = true) (hp : pageTaken a = some p) :
    s.phyInit n (1#8 <<< c.val).toNat dies tm = ((s.phyAsk n [c.val]).phyFound n c a).phyPages n tm false [(c.val, p)] := by
  have hans : dies[c.val]?.getD ⟨false, []⟩ = a := by rw [hd]; rfl
  unfold State.phyInit
  dsimp only
  rw [targets_one]
  simp [hans, ha, hp, State.phyFound, State.phyAsk]

theorem State.phyFound_effect (s : State) (n : Nat) (c : Fin 8) (a : DieAns) :
    (s.phyFound n c a).get (R.CH_PHY_STAT_CE_PRESENT n) = 2 ^ c.val ∧
    (s.phyFound n c a).get (R.CH_PHY_STAT_BUSY n) = s.get (R.CH_PHY_STAT_BUSY n) ∧
    (∀ f : Fld, f.addr ≠ (R.CH_PHY_STAT_BUSY n).addr → (s.phyFound n c a).get f = s.get f) ∧ s.initOnly (s.phyFound n c a) n := by
  have hdrive := s.busWork_drive n (pageOps c (pageReads a) true ++ [.desel])
  refine ⟨?_, ?_, fun f hf => ?_, hdrive.initOnly.trans (State.initOnly_set _ n _ _)⟩
  · rw [State.phyFound, State.get_set_same _ _ _ (by change 24 + 8 ≤ 32; decide)]
    exact Nat.mod_eq_of_lt (Nat.pow_lt_pow_right (by decide) c.isLt)
  · rw [State.phyFound, State.get_set_apart _ _ (by change 24 + 8 ≤ 32; decide) (Or.inl (by change 7 + 1 ≤ 24; decide)), hdrive.get]
  · have hne : f.addr ≠ (R.CH_PHY_STAT_CE_PRESENT n).addr := hf
    rw [State.phyFound, State.get_set_other _ _ hne, hdrive.get]

theorem State.initOnly_phyBegin (s : State) (n : Nat) (c : PhyRun) : s.initOnly (s.phyBegin n c) n :=
  (s.initOnly_set n _ 1).trans (State.initOnly_chMap _ n _)

theorem phyCtrl_ne_phyStat (n : Nat) : (R.CH_PHY_CTRL_MODE n).addr ≠ (R.CH_PHY_STAT_BUSY n).addr := by
  change 0x30100 + n * 0x1000 ≠ 0x30108 + n * 0x1000
  omega

theorem reflFlag_ne_phyStat (n : Nat) : ∀ f ∈ [R.REFL_CTRL_ENABLE, R.REFL_CFG_PRIMARY, R.REFL_STATUS_PEER_UP],
    f.addr ≠ (R.CH_PHY_STAT_BUSY n).addr := by
  simp only [List.forall_mem_cons, List.not_mem_nil, false_imp_iff, implies_true, and_true]
  simp only [R.REFL_CTRL_ENABLE, R.REFL_CFG_PRIMARY, R.REFL_STATUS_PEER_UP, R.CH_PHY_STAT_BUSY]
  omega

/-- What an INIT that finds one die, with a rate, leaves. -/
theorem State.phyInit_one_effect {s : State} {n : Nat} {c : Fin 8} {dies : List DieAns} {a : DieAns} {p : PageCopy} (tm : List Nat)
    (hd : dies[c.val]? = some a) (ha : a.sig = true) (hp : pageTaken a = some p)
    (hmode : (s.get (R.CH_PHY_CTRL_MODE n) = 1 ∧ p.decl.ddr3 ≠ 0) ∨ (s.get (R.CH_PHY_CTRL_MODE n) = 2 ∧ p.decl.lpddr4 ≠ 0))
    (hlo : 6 ≤ s.get (R.CH_PHY_CTRL_N n)) (hhi : s.get (R.CH_PHY_CTRL_N n) ≤ 12) (hpc : s.get (R.CH_PHY_CTRL_P n) ≤ 4)
    {t : State} (ht : t = (s.phyBegin n (initRun (1#8 <<< c.val))).phyInit n (1#8 <<< c.val).toNat dies tm) :
    (t.ch n).phy.cmd = some { kind := .init, left := [c.val], all := [c.val], relock := true, rated := true } ∧
    (t.ch n).phy.geo = some (geoOf p.decl) ∧ t.get (R.CH_PHY_STAT_CE_PRESENT n) = 2 ^ c.val ∧ t.flag (R.CH_PHY_STAT_BUSY n) = true ∧
    (∀ k, k ≠ n → t.ch k = s.ch k) ∧ (s.mirrors = false → t = { s with chans := t.chans, luns := t.luns, regs := t.regs }) := by
  obtain ⟨-, ubusy, -, uwords, -⟩ := s.phyBegin_effect n (initRun (1#8 <<< c.val))
  have uonly := s.initOnly_phyBegin n (initRun (1#8 <<< c.val))
  generalize s.phyBegin n (initRun (1#8 <<< c.val)) = u at *
  obtain ⟨⟨-, -, vbusy⟩, -, -, vwords, vonly⟩ := u.phyAsk_effect n [c.val]
  obtain ⟨wpresent, wbusy, wget, wonly⟩ := (u.phyAsk n [c.val]).phyFound_effect n c a
  rw [State.phyInit_one u n tm hd ha hp] at ht
  generalize (u.phyAsk n [c.val]).phyFound n c a = w at *
  have hget : ∀ f : Fld, f.addr ≠ (R.CH_PHY_STAT_BUSY n).addr → w.get f = s.get f := fun f hf =>
    (wget f hf).trans (State.get_of_rd ((vwords _ (by simpa using hf)).trans (uwords _ (by simpa using hf))))
  obtain ⟨hother, hframe⟩ := (uonly.trans vonly).trans wonly
  have hmirrors : w.mirrors = s.mirrors := State.mirrors_congr (by rw [hframe]) fun f hf => hget f (reflFlag_ne_phyStat n f hf)
  have hctrl := phyCtrl_ne_phyStat n
  rw [← hget (R.CH_PHY_CTRL_MODE n) hctrl] at hmode
  rw [← hget (R.CH_PHY_CTRL_N n) hctrl] at hlo hhi
  rw [← hget (R.CH_PHY_CTRL_P n) hctrl] at hpc
  rw [State.phyPages_starts tm c.val hmode hlo hhi hpc] at ht
  obtain ⟨hkept, hgeo⟩ := w.pageKept_effect n p
  obtain ⟨hstart, hsgeo, hcmd⟩ := (w.pageKept n p).phyStart_effect n tm [c.val]
  rw [← ht] at hstart hsgeo hcmd
  have hstep := hkept.trans hstart
  refine ⟨hcmd, hsgeo.trans hgeo, (hstep.fields _ (by simp [initFields])).trans wpresent, ?_,
    fun k hk => (hstep.others k hk).trans (hother k hk), fun hm => ?_⟩
  · rw [State.flag, hstep.fields _ (by simp [initFields]), wbusy, vbusy]
    exact ubusy
  · rw [hstep.frame (hmirrors.trans hm), hframe]

end Sys2Proof.Machine

/-- Settles O17: the answers reach the slice; without a signature the command ends, with one die its training begins. -/
theorem initFindsDiesAndStartsTraining : Obligations.InitFindsDiesAndStartsTraining := by
  refine ⟨fun s n m dies tm ht ho hb hs ha hd => ⟨_, exec_phyInit dies tm ht ho hb ha, State.phyInit_noDie_effect m tm hs hd rfl⟩,
    fun s n c dies tm a p ht ho hb hask hd ha hp hmode hlo hhi hpc =>
      ⟨_, exec_phyInit dies tm ht ho hb hask, State.phyInit_one_effect tm hd ha hp hmode hlo hhi hpc rfl⟩⟩

end

-- Flash bus: the commit of a training (03_flash_bus.md).
section

open Sys2Proof Sys2Proof.Machine

namespace Sys2Proof.Machine

/-! ## The counterexample to the commit of a training -/

/-- The trims and eyes of target `g` of channel `n`. -/
def State.target (s : State) (n g : Nat) : TargetS := tget (fun _ => {}) (s.ch n).phy.targets g

/-- A block of its own with CHAN0 (domain 9) ON and training permitted; channel 0 runs READ_RETRAIN of target 0, and an injection that
inverts bits 8 and 9 of a word is armed for region 5 (14_memory_integrity.md R428). -/
def armedRetrain : State :=
  let s : State := { gen := { refl := false }, pwr := { doms := [(9, { st := .on, req := true, ack := true })] }
                     memi := { inj := some { region := 5, two := true, posA := 8, posB := 9 } } }
  (s.set R.CAL_FIXED_ENTRY 0x200).phyMap 0 (fun p => { p with cmd := some { kind := .retrain, left := [0], all := [0] } })

/-- Every position and every setting passes on every lane. -/
def openSweeps : TrainRes :=
  { rd := List.replicate 9 (List.replicate 128 0), wr := List.replicate 9 (List.replicate 128 0)
    ref := List.replicate 9 (List.replicate 16 0), cmdFail := false }

/-- Such sweeps can occur. -/
theorem openSweeps_wellFormed : (Instr.trainTargetStart 0 openSweeps).wellFormed = true := by decide +kernel

theorem armedRetrain_wrTrim : (armedRetrain.target 0 0).wrTrim = [64, 64, 64, 64, 64, 64, 64, 64, 64] := by decide +kernel

/-- The write trims of target 0 of channel 0 after a command. -/
def wrTrimsAfter : Out → List Nat
  | .next t => (t.target 0 0).wrTrim
  | _ => []

/-- The injection lands in the first of the trim words that the training writes: lane 0 has its write trim there in bits 15 to 8. -/
theorem armedRetrain_trained : wrTrimsAfter (exec (.trainTargetStart 0 openSweeps) armedRetrain) =
    [67, 64, 64, 64, 64, 64, 64, 64, 64] := by decide +kernel

end Sys2Proof.Machine

/-- Refutes O18 for an armed injection, which the statement does not exclude: in `armedRetrain` READ_RETRAIN writes the trims of target 0,
the injection inverts two bits of their first word (R428), the word reads as stored (R411), and lane 0 is left with the write trim 67
instead of 64. -/
theorem not_trainingCommitsAsAWhole : ¬ Obligations.TrainingCommitsAsAWhole := by
  rintro ⟨hcommit, -⟩
  obtain ⟨t, hexec, hafter⟩ := hcommit armedRetrain 0 openSweeps { kind := .retrain, left := [0], all := [0] } 0 [] _
    (by decide +kernel) rfl (by decide +kernel) (by decide) rfl rfl
  obtain ⟨-, -, hretrain, -⟩ := hafter (armedRetrain.target 0 0) rfl (t.target 0 0) rfl
  obtain ⟨hkept, -⟩ := hretrain rfl
  have htrained := armedRetrain_trained
  rw [hexec, wrTrimsAfter, hkept, armedRetrain_wrTrim] at htrained
  exact absurd htrained (by decide)

end

-- Sequencers: the words of a running context that move its PC (04_sequencers.md R116, R121 to R123).
section

open Sys2Proof Sys2Proof.Machine

namespace Sys2Proof.Machine

/-! ## A context at a fetched word -/

/-- In `u` the word at the PC of channel `n` of `s` has been fetched, and its A bit taken (R115, R130, R131). -/
def State.wordAt (s u : State) (n : Nat) : Prop := (s.seen n).chanIs u n { s.ch n with ctx := s.ctxAt n }

section
variable {s t u : State} {n w : Nat} {x : ChS}

/-- What holds of a word's action wherever the word has been fetched holds of the answer of its command. -/
theorem State.runs_word {c : Instr} {op : Nat} {f : State → Nat → State} {P : State → Prop} (hw : s.runsWord n w) (ho : wOp w = op)
    (hx : exec c s = .next (s.seqRun n op f)) (hP : ∀ u, s.wordAt u n → P (f u w)) : ∃ t, exec c s = .next t ∧ P t := by
  obtain ⟨u, hu, hrun⟩ := s.seqRun_runs n w op f hw ho
  exact ⟨_, hx, hrun ▸ hP u hu⟩

theorem State.runsWord.fetched (h : s.runsWord n w) : s.fetched n = w := by
  obtain ⟨-, -, -, hfetch⟩ := h
  exact hfetch

theorem State.wordAt.ctx (h : s.wordAt u n) : (u.ch n).ctx = s.ctxAt n := by rw [h.1]

theorem State.wordAt.eng (h : s.wordAt u n) : (u.ch n).eng = (s.ch n).eng := by rw [h.1]

theorem State.wordAt.frame (h : s.wordAt u n) : u = { s.seen n with chans := u.chans } := h.2.2

/-- A change of the context alone. -/
theorem State.chanIs.ctxMap (h : s.chanIs t n x) (f : CtxS → CtxS) : s.chanIs (t.ctxMap n f) n { x with ctx := f x.ctx } :=
  State.chanIs_chMap h _

/-- A change of the cycle engine alone. -/
theorem State.chanIs.engMap (h : s.chanIs t n x) (f : EngS → EngS) : s.chanIs (t.engMap n f) n { x with eng := f x.eng } :=
  State.chanIs_chMap h _

/-- A branch within the store. -/
theorem State.chanIs.seqJump (h : s.chanIs t n x) {a : Nat} (ha : a < 16384) :
    s.chanIs (t.seqJump n a) n { x with ctx := { x.ctx with pc := a } } := by
  have hj := h.ctxMap (fun c => { c with pc := a % 16384 })
  rw [Nat.mod_eq_of_lt ha] at hj
  rw [State.seqJump, Nat.mod_eq_of_lt ha]
  exact hj

/-- Conditions read nothing of a channel that the A bit of a word changes, and of no other channel. -/
theorem State.cond_congr {a b : Bool} (hc : t.ch n = { s.ch n with ctx := { (s.ch n).ctx with atom := a, atomOvr := b } })
    (ht : t = { s with chans := t.chans }) (i : Nat) : t.cond n i = s.cond n i := by
  generalize t.chans = c at ht
  subst ht
  have hplace : ∀ p, State.place { s with chans := c } n p = s.place n p := fun p => by simp only [State.place, hc]
  have htile : State.ctxTile { s with chans := c } n = s.ctxTile n := by
    unfold State.ctxTile
    dsimp only
    rw [hc]
    rfl
  have hledg : State.ledgSafe { s with chans := c } n = s.ledgSafe n := by
    unfold State.ledgSafe
    rw [hc]
    rfl
  have hlun : State.ctxLun { s with chans := c } n = s.ctxLun n := by
    unfold State.ctxLun
    rw [hc]
  unfold State.cond State.ctxPlace State.ctxAddr
  dsimp only
  rw [hc, htile, hledg, hlun, hplace]
  rfl

theorem State.wordAt.cond (h : s.wordAt u n) (i : Nat) : u.cond n i = (s.seen n).cond n i := by
  obtain ⟨hch, -, hframe⟩ := h
  exact State.cond_congr (hch.trans (by rw [State.ch_seen, State.ctxAt])) hframe i

end

/-! ## Fields of a word -/

theorem bits_lt (v lsb k : Nat) : bits v lsb k < 2 ^ k := Nat.mod_lt _ (Nat.two_pow_pos k)

theorem wTgt_lt (w : Nat) : wTgt w < 16384 := bits_lt w 0 14

theorem bit_eq_testBit (v i : Nat) : bit v i = v.testBit i := by
  rw [Nat.testBit_eq_decide_div_mod_eq]
  rfl

/-- The number that is packed from the bits `p 0` to `p (m − 1)`. -/
theorem packed_bits (p : Nat → Bool) (m : Nat) : ∃ v, (List.range m).foldl (fun v i => if p i then v + 2 ^ i else v) 0 = v ∧
    v < 2 ^ m ∧ ∀ i, v.testBit i = (decide (i < m) && p i) := by
  induction m with
  | zero => exact ⟨0, rfl, Nat.one_pos, fun i => by simp⟩
  | succ m ih =>
    obtain ⟨v, hv, hlt, hbit⟩ := ih
    rw [List.range_succ, List.foldl_append, hv, List.foldl_cons, List.foldl_nil]
    refine ⟨_, rfl, ?_, fun i => ?_⟩
    · rw [Nat.pow_succ]
      split <;> omega
    have hi : i < m + 1 ↔ i < m ∨ m = i := by omega
    cases hm : p m with
    | true =>
      rw [if_pos rfl, ← Nat.or_two_pow_eq_add_of_lt hlt, Nat.testBit_or, Nat.testBit_two_pow, hbit]
      by_cases him : m = i
      · subst him
        simp [hm]
      · simp [hi, him]
    | false =>
      rw [if_neg Bool.false_ne_true, hbit]
      by_cases him : m = i
      · subst him
        simp [hm]
      · simp [hi, him]

/-! ## LOOP -/

/-- The end of a LOOP that counts `k` down, where `f` sets the counter: a branch while the new count is not 0. -/
def State.loopEnd (t : State) (n w k : Nat) (f : Nat → CtxS → CtxS) : State :=
  if k - 1 ≠ 0 then (t.ctxMap n (f (k - 1))).seqJump n (wTgt w) else (t.ctxMap n (f (k - 1))).seqStep n

theorem State.loopEnd_effect {s t : State} {n : Nat} {x : ChS} (h : s.chanIs t n x) (w k : Nat) (f : Nat → CtxS → CtxS)
    (hf : (f 0 x.ctx).pc = x.ctx.pc) :
    (2 ≤ k → s.chanIs (t.loopEnd n w k f) n { x with ctx := { f (k - 1) x.ctx with pc := wTgt w } }) ∧
    (k ≤ 1 → x.ctx.pc ≠ 0x3FFF → s.chanIs (t.loopEnd n w k f) n { x with ctx := { f 0 x.ctx with pc := x.ctx.pc + 1 } }) := by
  unfold State.loopEnd
  refine ⟨fun hk => ?_, fun hk hp => ?_⟩
  · rw [if_pos (by omega)]
    exact (h.ctxMap _).seqJump (wTgt_lt w)
  · rw [if_neg (by omega), Nat.sub_eq_zero_of_le hk, ← hf]
    exact State.seqStep_chanIs (h.ctxMap _) (by rwa [hf])

/-- The action of a LOOP counts the counter that its word names. -/
theorem State.wordAt.loop {s u : State} {n w : Nat} (h : s.wordAt u n) :
    (let k := bit w 24
     let c := (u.ch n).ctx
     let lc := if k then c.lc1 else c.lc0
     let lc' := lc - 1
     let s := u.ctxMap n (fun c => if k then { c with lc1 := lc' } else { c with lc0 := lc' })
     if lc' ≠ 0 then s.seqJump n (wTgt w) else s.seqStep n) =
    if bit w 24 then u.loopEnd n w (s.ch n).ctx.lc1 (fun k c => { c with lc1 := k })
    else u.loopEnd n w (s.ch n).ctx.lc0 (fun k c => { c with lc0 := k }) := by
  rw [h.ctx]
  cases bit w 24 <;> rfl

/-! ## DISPATCH (R122) -/

/-- Bit `i` of a DISPATCH of condition byte `b` with mask `k`: the `i`-th selected condition. -/
def State.dispatchBit (s : State) (n b k i : Nat) : Bool :=
  match ((List.range 8).filter (bit k))[i]? with
  | some j => s.cond n (8 * b + j)
  | none => false

theorem State.dispatchBits_spec (s : State) (n b k : Nat) :
    s.dispatchBits n b k < 16 ∧ ∀ i, i < 4 → bit (s.dispatchBits n b k) i = s.dispatchBit n b k i := by
  unfold State.dispatchBits
  obtain ⟨v, hv, hlt, hbit⟩ := packed_bits (fun i => s.cond n (8 * b + (((List.range 8).filter (bit k)).take 4).getD i 0))
    (((List.range 8).filter (bit k)).take 4).length
  dsimp only
  rw [hv]
  have hlen : (((List.range 8).filter (bit k)).take 4).length ≤ 4 := List.length_take_le _ _
  refine ⟨hlt.trans_le (Nat.pow_le_pow_right (by decide) hlen), fun i hi => ?_⟩
  rw [bit_eq_testBit, hbit, State.dispatchBit]
  cases hj : ((List.range 8).filter (bit k))[i]? with
  | none =>
    have := List.getElem?_eq_none_iff.mp hj
    simp; omega
  | some j =>
    obtain ⟨hl, hj⟩ := List.getElem?_eq_some_iff.mp hj
    simp [List.getD, hl, hj, hi]

/-- A PC with `b` in its bits 13 to 4 and `d` in its bits 3 to 0. -/
theorem dispatch_pc {b d : Nat} (hb : b < 2 ^ 10) (hd : d < 16) :
    b * 16 ||| d < 16384 ∧ (b * 16 ||| d) / 16 = b ∧ ∀ i, i < 4 → bit (b * 16 ||| d) i = bit d i := by
  refine ⟨Nat.or_lt_two_pow (n := 14) (by omega) (by omega), ?_, fun i hi => ?_⟩
  · rw [show 16 = 2 ^ 4 from rfl, Nat.or_div_two_pow, Nat.mul_div_cancel _ (by decide), Nat.div_eq_of_lt hd, Nat.or_zero]
  · rw [bit_eq_testBit, bit_eq_testBit, Nat.testBit_or, show 16 = 2 ^ 4 from rfl, Nat.testBit_mul_two_pow]
    simp; omega

theorem State.wordAt.dispatchBit {s u : State} {n : Nat} (h : s.wordAt u n) (b k i : Nat) :
    u.dispatchBit n b k i = (s.seen n).dispatchBit n b k i := by
  simp only [State.dispatchBit, h.cond]

end Sys2Proof.Machine

/-- Settles O20: each word's action on the fetched state; LOOP goes on or ends by its new count. -/
theorem controlFlowWordsMoveThePc : Obligations.ControlFlowWordsMoveThePc := by
  intro s n w hw
  refine ⟨fun ho hp => State.runs_word hw ho rfl fun u hu => State.seqStep_chanIs hu hp,
    fun ho => State.runs_word hw ho rfl fun u hu => State.chanIs.seqJump hu (wTgt_lt w),
    fun ho hc => State.runs_word hw ho rfl fun u hu => ?taken,
    fun ho hc hp => State.runs_word hw ho rfl fun u hu => ?untaken,
    fun ho => State.runs_word hw ho rfl fun u hu => (State.chanIs.ctxMap hu _).seqJump (wTgt_lt w),
    fun ho => State.runs_word hw ho rfl fun u hu => ?ret,
    fun ho => State.runs_word hw ho rfl fun u hu => ?dispatch,
    fun ho hk => State.runs_word hw ho rfl fun u hu => ?loop0,
    fun ho hk => State.runs_word hw ho rfl fun u hu => ?loop1⟩
  case taken =>
    rw [if_pos ((hu.cond _).trans hc)]
    exact State.chanIs.seqJump hu (wTgt_lt w)
  case untaken =>
    rw [if_neg (by rwa [hu.cond])]
    exact State.seqStep_chanIs hu hp
  case ret =>
    rw [hu.ctx]
    exact State.chanIs.ctxMap hu (fun c => { c with pc := (s.ctxAt n).reg 7 % 16384 })
  case dispatch =>
    obtain ⟨hlt, hbits⟩ := u.dispatchBits_spec n (bits w 23 2) (bits w 15 8)
    obtain ⟨hpc, hbase, hlow⟩ := dispatch_pc (bits_lt w 4 10) hlt
    have hjump := State.chanIs.seqJump hu hpc
    rw [hjump.1]
    refine ⟨hjump, hbase, fun i hi => ?_⟩
    exact (hlow i hi).trans ((hbits i hi).trans (hu.dispatchBit _ _ _))
  case loop0 =>
    rw [hu.loop, hk]
    exact State.loopEnd_effect hu w _ (fun k c => { c with lc0 := k }) rfl
  case loop1 =>
    rw [hu.loop, hk]
    exact State.loopEnd_effect hu w _ (fun k c => { c with lc1 := k }) rfl

end

-- Sequencers: the words that compute (04_sequencers.md R116, R484).
section

open Sys2Proof Sys2Proof.Machine

namespace Sys2Proof.Machine

/-! ## Registers and flags -/

theorem CtxS.reg_lt (c : CtxS) (i : Nat) : c.reg i < 65536 := BitVec.isLt _

/-- With a result of 16 bits, Z says that it is 0. -/
theorem CtxS.flags_of_lt (c : CtxS) {r : Nat} (cy : Bool) (h : r < 65536) :
    c.flags r cy = { c with z := decide (r = 0), n := bit r 15, c := cy } := by
  rw [CtxS.flags, Nat.mod_eq_of_lt h]

/-- Bits below 16 are those of the low half-word. -/
theorem bit_mod_half (v : Nat) {i : Nat} (h : i < 16) : bit (v % 65536) i = bit v i := by
  rw [bit_eq_testBit, bit_eq_testBit, show 65536 = 2 ^ 16 from rfl, Nat.testBit_mod_two_pow]
  simp [h]

/-- The bit shifted out last, of a shift by `k` that may be 0. -/
theorem shifted_out (k : Nat) (b : Bool) : (if k = 0 then false else b) = (decide (k ≠ 0) && b) := by
  by_cases h : k = 0 <;> simp [h]

/-! ## ALU words -/

section
variable {s : State} {n w fn : Nat}

/-- A command of an ALU function runs the word that has it. -/
theorem State.aluIf_runs (hw : s.runsWord n w) (hf : bits w 0 4 = fn) :
    s.aluIf n fn = s.seqRun n 0x12 (fun s w => s.aluRun n w) := by
  rw [State.aluIf, hw.fetched, hf]
  exact if_pos rfl

/-- An ALU word with a result writes it, unless it is CMP, and the flags. -/
theorem State.aluRun_effect {u : State} {r : Nat} {cy : Bool} (hu : s.wordAt u n) (hp : (s.ch n).ctx.pc ≠ 0x3FFF)
    (ha : aluOp (bits w 0 4) ((s.ch n).ctx.reg (wA w)) ((s.ch n).ctx.reg (wB w)) = some (r, cy)) (hr : r < 65536) :
    s.ctxIs (u.aluRun n w) n { s.ctxAt n with
      pc := (s.ch n).ctx.pc + 1, m := if bits w 0 4 = 8 then (s.ch n).ctx.m else (s.ch n).ctx.m.set (wD w) (BitVec.ofNat 16 r)
      z := decide (r = 0), n := bit r 15, c := cy } := by
  have hregs : ∀ i, (s.ctxAt n).reg i = (s.ch n).ctx.reg i := fun _ => rfl
  have hstep := State.seqStep_chanIs (State.chanIs.ctxMap hu
    (fun c => if bits w 0 4 = 8 then c.flags r cy else (c.setReg (wD w) r).flags r cy)) (by split <;> exact hp)
  unfold State.aluRun
  simp only [hu.ctx, hregs, ha]
  refine (congrArg (fun c => (s.seen n).chanIs _ n { s.ch n with ctx := c }) ?_).mp hstep
  simp only [CtxS.flags_of_lt _ _ hr]
  split <;> rfl

/-- An ALU function with a result runs its word. -/
theorem State.alu_effect {c : Instr} {r : Nat} {cy : Bool} (hw : s.runsWord n w) (hp : (s.ch n).ctx.pc ≠ 0x3FFF) (ho : wOp w = 0x12)
    (hx : exec c s = .next (s.aluIf n fn)) (hf : bits w 0 4 = fn)
    (ha : aluOp fn ((s.ch n).ctx.reg (wA w)) ((s.ch n).ctx.reg (wB w)) = some (r, cy)) (hr : r < 65536) :
    ∃ t, exec c s = .next t ∧ s.ctxIs t n { s.ctxAt n with
      pc := (s.ch n).ctx.pc + 1, m := if fn = 8 then (s.ch n).ctx.m else (s.ch n).ctx.m.set (wD w) (BitVec.ofNat 16 r)
      z := decide (r = 0), n := bit r 15, c := cy } := by
  subst hf
  exact State.runs_word hw ho (hx.trans (congrArg _ (State.aluIf_runs hw rfl))) fun u hu => State.aluRun_effect hu hp ha hr

end

end Sys2Proof.Machine

/-- Settles O21: the result and the flags of each function; the functions 9 to 15 step alone; ADDI and MOVI write their register. -/
theorem aluWordsComputeResultAndFlags : Obligations.AluWordsComputeResultAndFlags := by
  intro s n w hw hp a ha b hb
  have hal : a < 65536 := ha ▸ CtxS.reg_lt _ _
  have hbl : b < 65536 := hb ▸ CtxS.reg_lt _ _
  subst ha hb
  refine ⟨fun ho => ?results, fun ho hf => ?cmp, fun ho hf => ?nops, fun ho v hv => ?addi,
    fun ho => State.runs_word hw ho rfl fun u hu => State.seqStep_chanIs (State.chanIs.ctxMap hu _) hp⟩
  case results =>
    simp only [List.forall_mem_cons]
    refine ⟨fun hf => ?add, fun hf => ?sub, fun hf => ?and, fun hf => ?or, fun hf => ?xor, fun hf => ?shl, fun hf => ?shr,
      fun hf => ?mov, fun q hq => absurd hq List.not_mem_nil⟩
    case add => exact State.alu_effect hw hp ho rfl hf rfl (Nat.mod_lt _ (by decide))
    case sub => exact State.alu_effect hw hp ho rfl hf rfl (Nat.mod_lt _ (by decide))
    case and => exact State.alu_effect hw hp ho rfl hf rfl (Nat.and_lt_two_pow (n := 16) _ hbl)
    case or => exact State.alu_effect hw hp ho rfl hf rfl (Nat.or_lt_two_pow (n := 16) hal hbl)
    case xor => exact State.alu_effect hw hp ho rfl hf rfl (Nat.xor_lt_two_pow (n := 16) hal hbl)
    case shl =>
      rw [← shifted_out]
      exact State.alu_effect hw hp ho rfl hf rfl (Nat.mod_lt _ (by decide))
    case shr =>
      rw [← shifted_out]
      exact State.alu_effect hw hp ho rfl hf rfl ((Nat.div_le_self _ _).trans_lt hal)
    case mov =>
      refine State.alu_effect hw hp ho ?_ hf rfl hal
      rw [exec, execMwMov, if_neg (by rw [hw.fetched, hf]; decide)]
  case cmp =>
    have hz : ((s.ch n).ctx.reg (wA w) + 65536 - (s.ch n).ctx.reg (wB w)) % 65536 = 0 ↔
        (s.ch n).ctx.reg (wA w) = (s.ch n).ctx.reg (wB w) := by omega
    rw [← decide_eq_decide.mpr hz]
    exact State.alu_effect hw hp ho rfl hf rfl (Nat.mod_lt _ (by decide))
  case nops =>
    refine State.runs_word (f := fun s _ => s.seqStep n) hw ho ?_ fun u hu => State.seqStep_chanIs hu hp
    rw [exec, execMwMov, if_pos (by rw [hw.fetched]; exact hf)]
  case addi =>
    refine State.runs_word hw ho rfl fun u hu => ?_
    have hv' : (s.ctxAt n).reg (wD w) + wImm w = v := hv.symm
    have hstep := State.seqStep_chanIs (State.chanIs.ctxMap hu
      (fun c => (c.setReg (wD w) v).flags (v % 65536) (decide (65536 ≤ v)))) hp
    rw [CtxS.flags_of_lt _ _ (Nat.mod_lt _ (by decide)), bit_mod_half _ (by decide)] at hstep
    dsimp only
    rw [hu.ctx, hv']
    exact hstep

end

-- Sequencers: the statements of 04_sequencers.md that a state or a configuration of the block refutes.
section

open Sys2Proof Sys2Proof.Machine

namespace Sys2Proof.Machine

/-- The next state, of an answer that gives one. -/
def nextOf : Out → Option State
  | .next t => some t
  | _ => none

theorem nextOf_exec {c : Instr} {s t : State} (h : exec c s = .next t) : nextOf (exec c s) = some t := by rw [h, nextOf]

/-- A customer descriptor of a ring that asks for a record. -/
def customerDesc : Desc := { opcode := 0x40, flags := 8, origin := 0x4000 }

theorem customerDesc_asks : customerDesc.asks := ⟨by decide, by decide, by decide⟩

/-! ## The counterexample to the halts -/

/-- The context of channel 0 stands at a DIN whose length, register m0, is 0, while a read burst runs and nothing is queued (04_sequencers.md
R116: the word holds its place). -/
def stalledDin : State :=
  { sram := [(skey 6 (storeWord 0 0), strongEnc 0x90000000)]
    chans := [(0, { ctx := { run := .run, desc := some customerDesc }, eng := { burst := .inRunning } })] }

theorem stalledDin_runs : stalledDin.runsWord 0 0x90000000 := ⟨by decide +kernel, by decide +kernel, by decide +kernel, by decide +kernel⟩

/-- The word waits: SEQ_HALT is not raised. -/
theorem stalledDin_waits : (nextOf (exec (.mwDin 0) stalledDin)).map (fun t => t.event .seqg 0 3) = some false := by decide +kernel

/-! ## The counterexample to the bursts of the cycle engine -/

/-- Channel 0 runs a locked read burst of 64 bytes to place 0, and an injection that inverts bits 0 and 1 of a word is armed for region 2,
the decoder buffer (14_memory_integrity.md R428). -/
def armedBurst : State :=
  { memi := { inj := some { region := 2, two := true, posA := 0, posB := 1 } }
    chans := [(0, { eng := { burst := .inLocked, bLen := 1, bDesc := some customerDesc } })] }

/-- The injection lands in the first word of the burst. -/
theorem armedBurst_inverted : (nextOf (exec (.burstDone 0 (List.replicate 64 0)) armedBurst)).map (fun t => t.dGet 0 0 64) =
    some (3 :: List.replicate 63 0) := by decide +kernel

/-! ## The counterexample to the supervision of contexts -/

/-- A block of four channels, which is no whole group; the context of channel 0 is in an atomic region. -/
def partGroup : State := { gen := { nch := 4 }, chans := [(0, { ctx := { run := .run, atom := true } })] }

/-- The group of the channel has no fault source, so nothing counts. -/
theorem partGroup_uncounted : (nextOf (exec (.atomOvr 0) partGroup)).map (fun t => t.flt.inflight) = some [] := by decide +kernel

/-! ## The counterexample to the scheduler -/

/-- A descriptor that runs and one that is equal to it and waits, while the customer region is not verified. -/
def twinSlots : State :=
  { chans := [(0, { slots := [{ desc := customerDesc, age := 0, started := true }, { desc := customerDesc, age := 1 }] })] }

/-- NO_ROUTINE frees the slots of both. -/
theorem twinSlots_freed : (nextOf (exec (.opCustomerOpcode 0) twinSlots)).map (fun t => (t.ch 0).slots) = some [] := by decide +kernel

end Sys2Proof.Machine

/-- Refutes O25: in `stalledDin` a DIN of length 0 holds its place, since a burst runs, and does not halt the context. -/
theorem not_haltsCompleteSeqHalt : ¬ Obligations.HaltsCompleteSeqHalt := by
  rintro ⟨hhalts, -⟩
  have hall := hhalts stalledDin 0 0x90000000 customerDesc stalledDin_runs (by decide +kernel) customerDesc_asks (by decide +kernel)
  simp only [List.forall_mem_cons] at hall
  obtain ⟨-, -, -, -, -, -, -, hdin, -⟩ := hall
  obtain ⟨t, hexec, hraised, -⟩ := hdin (by decide +kernel)
  have hwaits := stalledDin_waits
  rw [nextOf_exec hexec, Option.map_some] at hwaits
  exact absurd (hraised.symm.trans (Option.some.inj hwaits)) (by decide)

/-- Refutes O26 for an armed injection, which the statement does not exclude: in `armedBurst` the first word that BURST_DONE stores takes it,
and reads with two bits inverted. -/
theorem not_engineRunsItsQueueInOrder : ¬ Obligations.EngineRunsItsQueueInOrder := by
  rintro ⟨-, -, -, -, -, -, -, -, -, -, hdone, -⟩
  obtain ⟨t, hexec, -, hdata, -⟩ := hdone armedBurst 0 (List.replicate 64 0) customerDesc (by decide +kernel) (by decide +kernel)
    (by decide +kernel) (by decide +kernel) (by decide) (by decide +kernel)
  have hinv := armedBurst_inverted
  rw [nextOf_exec hexec, Option.map_some] at hinv
  exact absurd ((Option.some.inj hinv).symm.trans hdata) (by decide +kernel)

/-- Refutes O27 for a block whose last group is not whole, which the statement does not exclude: in `partGroup` ATOM_OVR of channel 0
counts nowhere, for the group has no fault source (15_faults.md R431). -/
theorem not_contextsAreSupervised : ¬ Obligations.ContextsAreSupervised := by
  rintro ⟨hatom, -⟩
  obtain ⟨t, hexec, -, -, -, hcount, -⟩ := hatom partGroup 0 (by decide +kernel) (by decide +kernel) (by decide)
  have hnone := partGroup_uncounted
  rw [nextOf_exec hexec, Option.map_some, hcount] at hnone
  exact absurd (Option.some.inj hnone) (by decide)

/-- Refutes O29 for two equal descriptors of which one has started: in `twinSlots` CUSTOMER_OPCODE completes the one that waits with
NO_ROUTINE, and the slot of the one that runs is freed with its own. -/
theorem not_schedulerWakesGrantsOrStarts : ¬ Obligations.SchedulerWakesGrantsOrStarts := by
  rintro ⟨-, -, -, -, -, -, hnone, -⟩
  obtain ⟨t, hexec, -, hch, -⟩ := hnone twinSlots 0 { desc := customerDesc, age := 1 } (by decide +kernel) (by decide +kernel)
    (by decide) (by decide)
  have hfreed := twinSlots_freed
  have hslots : (t.ch 0).slots = (twinSlots.ch 0).slots.erase { desc := customerDesc, age := 1 } := congrArg ChS.slots hch
  rw [nextOf_exec hexec, Option.map_some, hslots] at hfreed
  exact absurd (Option.some.inj hfreed) (by decide +kernel)

end

-- Sequencers: the words that wait, load and store (04_sequencers.md R116, R119, R123).
section

open Sys2Proof Sys2Proof.Machine

namespace Sys2Proof.Machine

section
variable {s u : State} {n w : Nat}

/-- A word that changes the context and moves on. -/
theorem State.wordAt.step (h : s.wordAt u n) (f : CtxS → CtxS) (hf : (f (s.ctxAt n)).pc = (s.ch n).ctx.pc)
    (hp : (s.ch n).ctx.pc + 1 ≠ 0x4000) :
    s.ctxIs ((u.ctxMap n f).seqStep n) n { f (s.ctxAt n) with pc := (s.ch n).ctx.pc + 1 } := by
  rw [← hf]
  exact State.seqStep_chanIs (State.chanIs.ctxMap h f) (by dsimp only; omega)

/-- Whether the timer that a bit names stands at 0. -/
theorem timer_expired (b : Bool) (x y : Nat) :
    (if b then decide (x = 0) else decide (y = 0)) = true ↔ (if b then x else y) = 0 := by
  cases b <;> simp

theorem State.wordAt.ledgOn (h : s.wordAt u n) : u.ledgOn = (s.seen n).ledgOn := by
  rw [h.frame]
  rfl

/-- The context of the word has the descriptor and the status byte of before. -/
theorem State.wordAt.ctxLun (h : s.wordAt u n) : u.ctxLun n = s.ctxLun n := by
  rw [State.ctxLun, h.ctx]
  rfl

theorem State.wordAt.lun (h : s.wordAt u n) (k l : Nat) : u.lun k l = s.lun k l := by
  rw [h.frame, ← State.lun_seen s n]
  rfl

/-! ## LDS and STS -/

/-- A selector of the timing registers reads its entry. -/
theorem State.ldsRead_timing (n : Nat) {k : Nat} (h : k < 32) :
    u.ldsRead n (0x60 + k) = tget (fun _ => 0) (u.ch n).eng.timing k % 65536 := by
  unfold State.ldsRead
  dsimp only
  repeat rw [if_neg (by omega)]
  rw [if_pos (by omega), Nat.add_sub_cancel_left]

/-- An unlisted selector reads 0. -/
theorem State.ldsRead_unlisted (n : Nat) {sel : Nat} (h : (0x29 ≤ sel ∧ sel < 0x30) ∨ (0x40 ≤ sel ∧ sel < 0x60) ∨ 0x80 ≤ sel) :
    u.ldsRead n sel = 0 := by
  unfold State.ldsRead
  dsimp only
  repeat rw [if_neg (by omega)]

/-- What LDS reads from the listed selectors that look neither at the descriptor's fields nor at the registers (R119). -/
theorem State.wordAt.ldsRead (h : s.wordAt u n) :
    ∀ q ∈ [(0x20, (s.ctxAt n).status.toNat), (0x21, s.ctxLun n), (0x24, n), (0x28, (s.lun n (s.ctxLun n)).susCnt)] ++
        (List.range 32).map (fun k => (0x60 + k, tget (fun _ => 0) (s.ch n).eng.timing k % 65536)) ++
        ((List.range 7).map (fun k => 0x29 + k) ++ (List.range 32).map (fun k => 0x40 + k)).map (fun k => (k, 0)),
      u.ldsRead n q.1 = q.2 := by
  simp only [List.forall_mem_append, List.forall_mem_cons, List.forall_mem_map, List.mem_range]
  refine ⟨⟨⟨?status, h.ctxLun, rfl, ?susCnt, fun q hq => absurd hq List.not_mem_nil⟩, fun k hk => ?timing⟩,
    fun k hk => State.ldsRead_unlisted n (by omega), fun k hk => State.ldsRead_unlisted n (by omega)⟩
  case status =>
    show (u.ch n).ctx.status.toNat = _
    rw [h.ctx]
  case susCnt =>
    show (u.lun n (u.ctxLun n)).susCnt = _
    rw [h.ctxLun, h.lun]
  case timing => rw [State.ldsRead_timing n hk, h.eng]

/-- LDS loads what its selector reads. -/
theorem State.lds_effect {c : Instr} {v : Nat} (hw : s.runsWord n w) (hp : (s.ch n).ctx.pc + 1 ≠ 0x4000) (ho : wOp w = 0x14)
    (hx : exec c s = .next (s.seqRun n 0x14 (fun s w => (s.ctxMap n (fun c => c.setReg (wD w) (s.ldsRead n (bits w 0 12)))).seqStep n)))
    (hv : ∀ u, s.wordAt u n → u.ldsRead n (bits w 0 12) = v) : ∃ t, exec c s = .next t ∧
    s.ctxIs t n { s.ctxAt n with pc := (s.ch n).ctx.pc + 1, m := (s.ctxAt n).m.set (wD w) (BitVec.ofNat 16 v) } :=
  State.runs_word hw ho hx fun u hu => hv u hu ▸ hu.step _ rfl hp

theorem CtxS.stsWrite_result (c : CtxS) (v : Nat) {k : Nat} (h : k < 4) :
    c.stsWrite (0x40 + k) v = { c with res := c.res.set k (BitVec.ofNat 16 v) } := by
  rw [CtxS.stsWrite, if_pos (by omega), Nat.add_sub_cancel_left]

theorem CtxS.stsWrite_stage (c : CtxS) (v : Nat) {k : Nat} (h : k < 32) :
    c.stsWrite (0x80 + k) v = { c with stage := tput (fun _ => 0) c.stage k (BitVec.ofNat 16 v) } := by
  rw [CtxS.stsWrite, if_neg (by omega), if_pos (by omega), Nat.add_sub_cancel_left]

theorem CtxS.stsWrite_unlisted (c : CtxS) (v : Nat) {sel : Nat} (h : sel < 0x40 ∨ (0x44 ≤ sel ∧ sel < 0x80) ∨ 0xA0 ≤ sel) :
    c.stsWrite sel v = c := by
  rw [CtxS.stsWrite, if_neg (by omega), if_neg (by omega)]

theorem CtxS.stsWrite_pc (c : CtxS) (sel v : Nat) : (c.stsWrite sel v).pc = c.pc := by
  unfold CtxS.stsWrite
  split
  · rfl
  · split <;> rfl

end

end Sys2Proof.Machine

/-- Settles O22: each word's action on the fetched state; what LDS reads and STS writes by its selector. -/
theorem timersWaitsAndSelectors : Obligations.TimersWaitsAndSelectors := by
  refine ⟨fun s n w hw => ?words, fun s n k => ⟨_, rfl, ?expire⟩⟩
  case expire =>
    have hch : s.chanIs s n (s.ch n) := ⟨rfl, fun _ _ => rfl, rfl⟩
    have hset := hch.ctxMap (fun c => if k = 0 then { c with t0 := 0 } else { c with t1 := 0 })
    exact hset
  intro c p u
  refine ⟨fun ho hc hp => State.runs_word hw ho rfl fun u hu => ?met, fun ho hc hb ht hp => State.runs_word hw ho rfl fun u hu => ?expired,
    fun ho hc ht hseal => State.runs_word hw ho rfl fun u hu => ?waits, fun ho hp v hv => State.runs_word hw ho rfl fun u hu => ?tset,
    fun ho hp v hv => State.runs_word hw ho rfl fun u hu => ?ldlc, fun ho hp q hq hsel => State.lds_effect hw hp ho rfl fun u hu => ?lds,
    fun ho hp hsel => State.lds_effect hw hp ho rfl fun u hu => State.ldsRead_unlisted _ (by omega),
    fun ho hp => State.runs_word hw ho rfl fun u hu => ?sts, fun ho hp hk hoff => State.runs_word hw ho rfl fun u hu => ?ledg⟩
  case met =>
    rw [if_pos ((hu.cond _).trans hc)]
    exact hu.step _ rfl hp
  case expired =>
    rw [if_neg (by rwa [hu.cond]), if_pos (by rw [hu.ctx, hb, Bool.true_and, timer_expired]; exact ht)]
    exact hu.step _ rfl hp
  case waits =>
    rw [if_neg (by rwa [hu.cond]), if_neg, if_neg fun hs => hseal hs.1]
    · exact hu
    rw [hu.ctx, Bool.and_eq_true, timer_expired]
    rintro ⟨hb, hz⟩
    exact ht.elim (fun h => absurd (h.symm.trans hb) (by decide)) fun h => h hz
  case tset =>
    dsimp only
    rw [hu.ctx, ← hv]
    cases bit w 18 <;> exact hu.step _ rfl hp
  case ldlc =>
    dsimp only
    rw [hu.ctx, ← hv]
    cases bit w 24 <;> exact hu.step _ rfl hp
  case lds =>
    rw [hsel]
    exact hu.ldsRead q hq
  case sts =>
    have hstep := hu.step (fun c => c.stsWrite (bits w 0 12) (c.reg (wA w))) (CtxS.stsWrite_pc _ _ _) hp
    refine ⟨fun k hk hsel => ?_, fun k hk hsel => ?_, fun hsel => ?_⟩
    · rw [hsel] at hstep ⊢
      rwa [CtxS.stsWrite_result _ _ hk] at hstep
    · rw [hsel] at hstep ⊢
      rwa [CtxS.stsWrite_stage _ _ hk] at hstep
    · rwa [CtxS.stsWrite_unlisted _ _ hsel] at hstep
  case ledg =>
    have hoff : u.ledgOn = false := hu.ledgOn.trans hoff
    dsimp only
    rw [if_neg (by rw [hoff]; simp), if_neg (by omega), if_neg (by omega), if_neg (by omega), State.ledgAppend, hoff,
      if_pos (by decide)]
    exact State.seqStep_chanIs hu fun hend => hp (congrArg (· + 1) hend)

end

-- Sequencers: the words that queue an entry for the cycle engine (04_sequencers.md R116 to R118, R126, R127).
section

open Sys2Proof Sys2Proof.Machine

namespace Sys2Proof.Machine

/-! ## The tail of the engine queue -/

section
variable {b s t u : State} {n w : Nat} {x : ChS}

theorem State.chanIs.engFull (h : b.chanIs t n x) (hq : x.eng.queue.length < 16) : t.engFull n = false := by
  rw [State.engFull, h.1]
  exact decide_eq_false (Nat.not_le.mpr hq)

/-- A selection or deselection is queued also while entries are discarded, and ends that. -/
theorem State.chanIs.pushCe (h : b.chanIs t n x) (ht : x.ctx.inTrap = false) (k : Option Nat) :
    b.chanIs (t.engPush n (.ce k)) n { x with eng := { x.eng with queue := x.eng.queue ++ [.ce k], discard := false } } := by
  unfold State.engPush
  simp only [h.1, ht, Bool.false_and, Bool.false_eq_true, if_false]
  exact h.engMap _

/-- Any other entry is queued unless entries are discarded. -/
theorem State.chanIs.engPush {e : EngE} (h : b.chanIs t n x) (ht : x.ctx.inTrap = false) (he : ∀ k, e ≠ .ce k) :
    b.chanIs (t.engPush n e) n { x with eng := if x.eng.discard then x.eng else { x.eng with queue := x.eng.queue ++ [e] } } := by
  have hpush : t.engPush n e = if x.eng.discard then t else t.engMap n (fun g => { g with queue := g.queue ++ [e] }) := by
    cases e with
    | ce k => exact absurd rfl (he k)
    | _ => simp [State.engPush, h.1, ht]
  rw [hpush]
  split
  · exact h
  · exact h.engMap _

/-- With none discarded it is queued. -/
theorem State.chanIs.push {e : EngE} (h : b.chanIs t n x) (ht : x.ctx.inTrap = false) (hd : x.eng.discard = false) (he : ∀ k, e ≠ .ce k) :
    b.chanIs (t.engPush n e) n { x with eng := { x.eng with queue := x.eng.queue ++ [e] } } := by
  have hpush := h.engPush ht he
  rwa [hd, if_neg Bool.false_ne_true] at hpush

/-- While entries are discarded it is not. -/
theorem State.chanIs.push_discard {e : EngE} (h : b.chanIs t n x) (ht : x.ctx.inTrap = false) (hd : x.eng.discard = true)
    (he : ∀ k, e ≠ .ce k) : b.chanIs (t.engPush n e) n x := by
  have hpush := h.engPush ht he
  rwa [hd, if_pos rfl] at hpush

/-! ## What the words look at -/

theorem State.wordAt.reg (h : s.wordAt u n) (i : Nat) : (u.ch n).ctx.reg i = (s.ch n).ctx.reg i := by
  rw [h.ctx]
  rfl

theorem State.wordAt.suspOk (h : s.wordAt u n) : u.suspOk n = (s.seen n).suspOk n := by
  rw [h.frame]
  rfl

theorem State.wordAt.rowBytes (h : s.wordAt u n) (a plane page : Nat) : u.rowBytes n a plane page = s.rowBytes n a plane page := by
  rw [State.rowBytes, h.1]
  rfl

/-- The entry of an ADDR word of form `k` and byte `b` whose register reads `a`, with address `ta` and plane `pl` (R126). -/
def State.addrEntry (s : State) (n b a ta pl k : Nat) : EngE :=
  match k with
  | 0 => .addr [b] none
  | 1 => .addr (colCycles a) none
  | 2 => .addr (s.rowBytes n ta pl (taPage ta + a)) (some (taLun ta, taBlk ta, taPage ta + a))
  | _ => .addr (colCycles a ++ s.rowBytes n ta pl (taPage ta)) (some (taLun ta, taBlk ta, taPage ta))

theorem State.addrEntry_ne_ce (b a ta pl k : Nat) (c : Option Nat) : s.addrEntry n b a ta pl k ≠ .ce c := by
  unfold State.addrEntry
  split <;> exact EngE.noConfusion

theorem State.wordAt.addrEntry (h : s.wordAt u n) (b a ta pl k : Nat) : u.addrEntry n b a ta pl k = s.addrEntry n b a ta pl k := by
  unfold State.addrEntry
  simp only [h.rowBytes]

/-- Outside a seal the tile in use is that of the descriptor. -/
theorem State.ctxTile_congr (ht : (s.ch n).ctx.inTrap = false) (hu : (u.ch n).ctx.inTrap = false)
    (hd : (u.ch n).ctx.desc = (s.ch n).ctx.desc) : u.ctxTile n = s.ctxTile n := by
  simp only [State.ctxTile, CtxS.inSeal, ht, hu, hd, Bool.false_and, Bool.false_eq_true, if_false]

theorem State.wordAt.ctxTile (h : s.wordAt u n) (ht : (s.ch n).ctx.inTrap = false) : u.ctxTile n = s.ctxTile n :=
  State.ctxTile_congr ht (by rw [h.ctx]; exact ht) (by rw [h.ctx]; rfl)

theorem State.seen_ctxTile (ht : (s.ch n).ctx.inTrap = false) : (s.seen n).ctxTile n = s.ctxTile n :=
  State.ctxTile_congr ht (by rwa [State.ch_seen]) (by rw [State.ch_seen])

/-- A burst of legal size with no other does not wait. -/
theorem State.chanIs.burstStall (h : b.chanIs t n x) (hq : x.eng.queue.length < 16) (hb : x.eng.burst = .none) : t.burstStall n = false := by
  rw [State.burstStall, h.engFull hq, h.1, hb]
  simp

/-- Nor does one while entries are discarded. -/
theorem State.chanIs.burstStall_discard (h : b.chanIs t n x) (hd : x.eng.discard = true) : t.burstStall n = false := by
  rw [State.burstStall, h.1, hd]
  rfl

theorem burstBad_false {off len : Nat} (hpos : 0 < len) (hlen : len ≤ 288) (hend : off + len ≤ 1152) : burstBad off len = false := by
  simp [burstBad]
  omega

end

end Sys2Proof.Machine

/-- Settles O23: each word's entry is pushed, and the context moves on. -/
theorem busWordsQueueOneEntry : Obligations.BusWordsQueueOneEntry := by
  intro s n w hw hq ht hp c e a f
  have hfull : ∀ {u}, s.wordAt u n → u.engFull n = false := fun hu => State.chanIs.engFull hu hq
  have ha : ∀ {u}, s.wordAt u n → (u.ch n).ctx.reg (wA w) = a := fun hu => hu.reg _
  have hreg : ∀ {u}, s.wordAt u n → ∀ i, (u.ch n).ctx.reg i = c.reg i := fun hu => hu.reg
  have hdisc : ∀ {u}, s.wordAt u n → (u.ch n).eng.discard = e.discard := fun hu => congrArg EngS.discard hu.eng
  refine ⟨fun ho k hk => State.runs_word hw ho rfl fun u hu => ?ce, fun ho hr hbit => State.runs_word hw ho rfl fun u hu => ?nothing,
    fun hd => ⟨fun ho hr => State.runs_word hw ho rfl fun u hu => ?cmd, fun ho pl hpl ta hta lun hlun => ?addr,
      fun ho hb hop len hl h0 h1 h2 => State.runs_word hw ho rfl fun u hu => ?dout,
      fun ho hb len hl h0 h1 h2 => State.runs_word hw ho rfl fun u hu => ?din, fun ho hok => State.runs_word hw ho rfl fun u hu => ?susp,
      fun ho hok => State.runs_word hw ho rfl fun u hu => ?rsum, fun ho => State.runs_word hw ho rfl fun u hu => ?stat⟩,
    fun ho hok => State.runs_word hw ho rfl fun u hu => ?noSusp, fun ho hok => State.runs_word hw ho rfl fun u hu => ?noRsum,
    fun ho hd hbad => State.runs_word hw ho rfl fun u hu => ?discarded⟩
  case ce =>
    dsimp only
    rw [if_neg (by rw [hfull hu]; decide), ha hu, ← hk]
    exact State.seqStep_chanIs (((State.chanIs.pushCe hu ht k).engMap _).ctxMap _) hp
  case nothing =>
    dsimp only
    rw [if_neg (by rw [hfull hu]; decide), ha hu, if_pos ⟨hr, hbit⟩]
    exact State.seqStep_chanIs hu hp
  case cmd =>
    dsimp only
    rw [if_neg (by rw [hfull hu]; decide), ha hu, if_neg (by rcases hr with hr | hr <;> simp [hr])]
    exact State.seqStep_chanIs (State.chanIs.push hu ht hd fun _ => EngE.noConfusion) hp
  case addr =>
    subst hlun
    have hform : ∀ k, bits w 23 2 = k → ∃ t, exec (.mwAddr n) s = .next t ∧ f.chanIs t n { s.ch n with
        ctx := c, eng := { e with queue := e.queue ++ [s.addrEntry n (bits w 0 8) a ta pl k] } } := by
      refine fun k hk => State.runs_word hw ho rfl fun u hu => ?_
      have hstep := State.seqStep_chanIs (State.chanIs.push hu ht hd (s.addrEntry_ne_ce (n := n) (bits w 0 8) a ta pl k)) hp
      rw [← hu.addrEntry, ← hk] at hstep
      dsimp only
      rw [if_neg (by rw [hfull hu]; decide), State.ctxAddr, hu.ctxTile ht, ha hu, hreg hu, ← hpl, ← State.ctxAddr, ← hta,
        ← hu.addrEntry, ← hk]
      exact hstep
    simp only [List.forall_mem_cons]
    exact ⟨hform 0, hform 1, hform 2, hform 3, fun q hq => absurd hq List.not_mem_nil⟩
  case dout =>
    have hprog : ¬ ((s.ctxAt n).inSeal || (match (s.ctxAt n).desc with
        | some d => decide (d.opcode = 1)
        | none => false)) = true := by
      have hseal : (s.ctxAt n).inSeal = false := by rw [CtxS.inSeal, State.ctxAt, ht, Bool.false_and]
      cases hdesc : (s.ctxAt n).desc with
      | none => simp [hseal]
      | some d => simp [hseal, hop d hdesc]
    dsimp only
    rw [if_neg (by rw [State.chanIs.burstStall hu hq hb]; decide), ha hu, hreg hu, ← hl, if_neg (by rw [burstBad_false h0 h1 h2]; decide),
      if_neg (by rw [hdisc hu, hd]; decide), if_neg (by rw [hu.ctx]; exact hprog), hu.ctxTile ht, ← State.seen_ctxTile ht]
    exact State.seqStep_chanIs ((State.chanIs.push hu ht hd fun _ => EngE.noConfusion).engMap _) hp
  case din =>
    dsimp only
    rw [if_neg (by rw [State.chanIs.burstStall hu hq hb]; decide), ha hu, hreg hu, ← hl, if_neg (by rw [burstBad_false h0 h1 h2]; decide),
      if_neg (by rw [hdisc hu, hd]; decide), hu.ctx]
    exact State.seqStep_chanIs ((State.chanIs.push hu ht hd fun _ => EngE.noConfusion).engMap _) hp
  case susp =>
    dsimp only
    rw [if_neg (by rw [hfull hu]; decide), hu.suspOk, hok, if_neg (by decide), ha hu]
    exact State.seqStep_chanIs ((State.chanIs.push hu ht hd fun _ => EngE.noConfusion).ctxMap _) hp
  case rsum =>
    dsimp only
    rw [if_neg (by rw [hfull hu]; decide), hu.suspOk, hok, if_neg (by decide), ha hu]
    exact State.seqStep_chanIs ((State.chanIs.push hu ht hd fun _ => EngE.noConfusion).ctxMap _) hp
  case stat =>
    rw [if_neg (by rw [hdisc hu, hd]; decide), if_neg (by rw [hfull hu]; decide), ha hu]
    exact (State.chanIs.push hu ht hd fun _ => EngE.noConfusion).ctxMap _
  case noSusp =>
    rw [if_neg (by rw [hfull hu]; decide), hu.suspOk, hok, if_pos (by decide)]
    exact State.seqStep_chanIs (State.chanIs.ctxMap hu _) hp
  case noRsum =>
    rw [if_neg (by rw [hfull hu]; decide), hu.suspOk, hok, if_pos (by decide)]
    exact State.seqStep_chanIs (State.chanIs.ctxMap hu _) hp
  case discarded =>
    dsimp only
    rw [if_neg (by rw [State.chanIs.burstStall_discard hu hd]; decide), ha hu, hreg hu, if_neg (by rw [hbad]; decide),
      if_pos (by rw [hdisc hu, hd])]
    exact State.seqStep_chanIs (State.chanIs.push_discard hu ht hd fun _ => EngE.noConfusion) hp

end

-- Sequencers: the words that end a descriptor or a trap (04_sequencers.md R116, R128 to R136).
section

open Sys2Proof Sys2Proof.Machine

namespace Sys2Proof.Machine

/-! ## Completion of a customer descriptor -/

section
variable {b s t u : State} {n w st : Nat} {d : Desc} {x : ChS}

/-- A record is built from registers and memory, not from a channel. -/
theorem State.chanRec_congr (h : t = { s with chans := t.chans }) (ring tag : Nat) (res : List Half) :
    t.chanRec ring tag st res = s.chanRec ring tag st res := by
  rw [h]
  rfl

/-- The descriptor's slot is free again, and its record is written. -/
theorem State.complete_asks (hd : d.asks) (res : List Half) :
    t.complete n d st res = (t.freeSlot n d).pushRec (t.chanRec (d.origin % 16384) d.tag st res) := by
  obtain ⟨horg, hcust, hcmpl⟩ := hd
  have hop : 0x40 ≤ d.opcode := by
    rw [Desc.customer, decide_eq_true_eq] at hcust
    exact hcust.1
  have hreads : d.reads = false := decide_eq_false (by omega)
  have hdecodes : d.decodes = false := decide_eq_false (by omega)
  unfold State.complete State.deliver
  simp only [hreads, hdecodes, horg, hcmpl, Bool.false_eq_true, false_and, if_false, Bool.not_false, if_true, State.chanEnd]
  rw [if_neg (by omega), if_neg (by omega), if_neg (by omega), if_neg (by omega)]
  rfl

/-- A state that has freed the slot, with the record written. -/
theorem State.chanIs.completes {c : CtxS} (h : u.chanIs t n { u.ch n with
      ctx := c, slots := (u.ch n).slots.eraseP (fun x => x.desc = d ∧ x.started) }) :
    u.completes (t.pushRec (u.chanRec (d.origin % 16384) d.tag st (u.ch n).ctx.res)) n d st c [] := by
  obtain ⟨hch, hother, hframe⟩ := h
  refine ⟨hch, hother, ?_, fun a _ => ?_, ?_⟩
  · rw [hframe]; rfl
  · rw [hframe]; rfl
  · rw [hframe]; rfl

/-- The context changes after a completion. -/
theorem State.completes.ctxMap {c : CtxS} {as : List Nat} (h : b.completes t n d st c as) (f : CtxS → CtxS) :
    b.completes (t.ctxMap n f) n d st (f c) as := by
  obtain ⟨hch, hother, hrecs, hregs, hframe⟩ := h
  refine ⟨?_, fun k hk => ?_, hrecs, hregs, ?_⟩
  · rw [State.ctxMap, State.ch_chMap, if_pos rfl, hch]
  · rw [State.ctxMap, State.ch_chMap, if_neg hk, hother k hk]
  · conv_lhs => rw [hframe]
    rfl

/-- The descriptor of a context completes. -/
theorem State.wordAt.ctxComplete (h : s.wordAt u n) (hdesc : (s.ch n).ctx.desc = some d) (hd : d.asks) :
    (s.seen n).completes (u.ctxComplete n st) n d st { s.ctxAt n with desc := none } [] := by
  have hfree : (s.seen n).chanIs ((u.ctxMap n (fun c => { c with desc := none })).freeSlot n d) n { s.ch n with
      ctx := { s.ctxAt n with desc := none }, slots := (s.ch n).slots.eraseP (fun x => x.desc = d ∧ x.started) } :=
    State.chanIs_chMap (State.chanIs.ctxMap h (fun c => { c with desc := none })) _
  rw [← State.ch_seen s n] at hfree
  have hdesc' : (u.ch n).ctx.desc = some d := by rw [h.ctx]; exact hdesc
  have hres : (u.ch n).ctx.res = ((s.seen n).ch n).ctx.res := by rw [h.ctx, State.ch_seen]; rfl
  unfold State.ctxComplete
  simp only [hdesc', State.complete_asks hd, hres]
  rw [State.chanRec_congr (s := s.seen n) (State.chanIs.ctxMap h _).2.2]
  exact hfree.completes

theorem State.wordAt.doneCode (h : s.wordAt u n) :
    u.doneCode n w = if bit w 8 then (s.ch n).ctx.reg (wA w) % 256 else bits w 0 8 := by
  rw [State.doneCode, h.reg]

/-! ## The words -/

theorem State.wordAt.queue (h : s.wordAt u n) (hq : (s.ch n).eng.queue = []) : ¬ (u.ch n).eng.queue ≠ [] := by
  rw [h.eng, hq]
  exact fun hne => hne rfl

/-- The LUN once its record `r` is stored (R128). -/
def LunS.parked (l : LunS) (r : Park) : LunS :=
  { l with park := some r, suspended := l.suspended || (l.susp && l.suspOk), reads := if l.suspended then l.reads else 0 }

/-- The record that PARK stores. -/
def ChS.parkRec (x : ChS) (d : Desc) (cont cls : Nat) : Park :=
  { cont := cont, m := x.ctx.m.take 4, cls := cls, desc := d, age := x.nextAge }

/-- A change of a channel leaves the LUNs. -/
theorem State.chMap_withLuns (l : Tab LunS) (f : ChS → ChS) : State.chMap { t with luns := l } n f = { t.chMap n f with luns := l } := rfl

/-- PARK changes its channel and its LUN. -/
theorem State.parkAt_eq (cont cls : Nat) : u.parkAt n d cont cls =
    { ((u.chMap n (fun x => { x with nextAge := (u.ch n).nextAge + 1 })).ctxMap n (fun c => { c with desc := none })).ctxIdle n with
      luns := (u.lunMap n d.lun (·.parked ((u.ch n).parkRec d cont cls))).luns } := by
  rw [State.ctxIdle, State.ctxMap, State.ctxMap, ← State.chMap_withLuns, ← State.chMap_withLuns, ← State.chMap_withLuns]
  rfl

theorem State.lun_withLuns (k l : Nat) : State.lun { t with luns := s.luns } k l = s.lun k l := rfl

/-- The LUN of the descriptor has the record. -/
theorem State.wordAt.parkAt_lun (h : s.wordAt u n) (cont cls k l : Nat) : (u.parkAt n d cont cls).lun k l =
    if k * 16 + l = n * 16 + d.lun then (s.lun n d.lun).parked ((s.ch n).parkRec d cont cls) else s.lun k l := by
  have hx : (u.ch n).parkRec d cont cls = (s.ch n).parkRec d cont cls := by rw [h.1]; rfl
  rw [State.parkAt_eq, State.lun_withLuns, State.lun_lunMap, h.lun, h.lun, hx]

/-- The context is free, and nothing but its channel and the LUN changes. -/
theorem State.wordAt.parkAt_chan (h : s.wordAt u n) (cont cls : Nat) :
    (u.parkAt n d cont cls).ch n = { s.ch n with ctx := (s.ctxAt n).ended, nextAge := (s.ch n).nextAge + 1 } ∧
    (∀ k, k ≠ n → (u.parkAt n d cont cls).ch k = s.ch k) ∧
    u.parkAt n d cont cls = { s.seen n with chans := (u.parkAt n d cont cls).chans, luns := (u.parkAt n d cont cls).luns } := by
  have hage : (u.ch n).nextAge = (s.ch n).nextAge := by rw [h.1]
  have hchan := ((State.chanIs_chMap h (fun x => { x with nextAge := (u.ch n).nextAge + 1 })).ctxMap
    (fun c => { c with desc := none })).ctxMap (fun c => { c with
      run := .idle, ce := none, wdog := none, brk := none, wakeRdy := false, wakeSusp := false, statWait := false, atom := false
      atomOvr := false })
  rw [hage] at hchan
  rw [State.parkAt_eq, hage, State.ctxIdle]
  generalize State.ctxMap _ _ _ = t at hchan ⊢
  obtain ⟨hch, hother, hframe⟩ := hchan
  refine ⟨hch, fun k hk => ?_, ?_⟩
  · exact (hother k hk).trans (State.ch_seen _ _ _)
  · generalize t.chans = c at hframe
    subst hframe
    rfl

/-- The context after the return from the trap whose frame is `f` (R136). -/
def CtxS.returned (c : CtxS) (f : FrameS) : CtxS :=
  { c with pc := f.pc, m := f.m, lc0 := f.lc0, lc1 := f.lc1, z := f.z, n := f.n, c := f.c, inTrap := false
           ce := if f.cev then some f.ce else none, ceLast := f.ce }

/-- The return reselects the chip enable of the frame when one was selected. -/
theorem State.wordAt.reselect (h : s.wordAt u n) (hq : (s.ch n).eng.queue = []) (f : FrameS) :
    (f.cev = false → s.ctxIs ((u.ctxMap n (CtxS.returned · f)).reselect n f) n ((s.ctxAt n).returned f)) ∧
    (f.cev = true → (s.seen n).chanIs ((u.ctxMap n (CtxS.returned · f)).reselect n f) n { s.ch n with
      ctx := (s.ctxAt n).returned f, eng := { (s.ch n).eng with queue := [.ce (some f.ce)], discard := false } }) := by
  have hret := State.chanIs.ctxMap h (CtxS.returned · f)
  unfold State.reselect
  refine ⟨fun hcev => ?_, fun hcev => ?_⟩
  · rw [hcev, if_neg Bool.false_ne_true]
    exact hret
  · rw [hcev, if_pos rfl]
    have hpush := hret.pushCe rfl (some f.ce)
    dsimp only at hpush
    rw [hq] at hpush
    exact hpush

/-! ## Entering a trap -/

/-- The context that has taken a trap for `cause`, with latency `lat` (R132). -/
def CtxS.trapped (c : CtxS) (cause lat : Nat) : CtxS :=
  { c with
    frame := c.trapFrame cause lat
    run := .run, inTrap := true, cause := cause, touch := false, pc := 0x40 + cause, statWait := false, atom := false
    sealP := if cause = 0 then none else c.sealP
    wdog := if cause = 1 then none else c.wdog
    brk := if cause = 2 then none else c.brk }

/-- A trap other than SEAL changes the context alone. -/
theorem State.trapTake_trapped {n : Fin 48} {cause t0 : Nat} (hpend : (s.ch n).ctx.pendCause = some (cause, t0))
    (hmay : s.trapMay n cause = true) (hcause : cause ≠ 0) :
    exec (.trapTake n) s = .next (s.ctxMap n (fun c => c.trapped cause ((s.cyc - t0) / 2))) := by
  simp only [exec, execTrapTake, CtxS.trapped, hpend, hmay, hcause, Bool.not_true, Bool.false_eq_true, false_and, if_false]

/-- What WDOG changes of a running context with a descriptor. -/
theorem CtxS.trapped_wdog {c : CtxS} (hrun : c.run = .run) (hd : c.desc = some d) (lat : Nat) :
    c.trapped 1 lat = { c with
      inTrap := true, cause := 1, pc := 0x41, wdog := none, touch := false, statWait := false, atom := false
      frame := { cause := 1, entry := d.opcode, idle := false, ce := c.ceLast, cev := c.ce.isSome, c := c.c, n := c.n, z := c.z, pc := c.pc
                 m := c.m, lc0 := c.lc0, lc1 := c.lc1, t0 := c.t0, lat := min 65535 lat } } := by
  rw [CtxS.trapped, CtxS.trapFrame, hd, hrun]
  rfl

/-- A running context outside a trap takes WDOG and BREAK at any word but an atomic one (R130). -/
theorem State.trapMay_running {cause : Nat} (hrun : (s.ch n).ctx.run = .run) (ht : (s.ch n).ctx.inTrap = false) (hcause : cause ≠ 0)
    (hword : bit (s.fetched n) 25 = false ∨ (s.ch n).ctx.atomOvr = true) : s.trapMay n cause = true := by
  rcases hword with hbit | hovr
  · simp [State.trapMay, hrun, ht, hcause, hbit]
  · simp [State.trapMay, hrun, ht, hcause, hovr]

end
end Sys2Proof.Machine

/-- Settles O24: the words' actions on the fetched state; a completion is that of the customer descriptor of a ring. -/
theorem parkDoneAndTrapWords : Obligations.ParkDoneAndTrapWords := by
  refine ⟨fun s n w d hw ho hd ht hfree => State.runs_word hw ho rfl fun u hu => ?park,
    fun s n w d hw ho hd hask ht hq => State.runs_word hw ho rfl fun u hu => ?done, fun s n t0 d hrun ht hseal hwdog hd hmay => ?trap,
    fun s n w hw ho hq ht hidle htouch => State.runs_word hw ho rfl fun u hu => ?tret,
    fun s n w d hw ho hq ht hcause hidle hd hask => State.runs_word hw ho rfl fun u hu => ?tend⟩
  case park =>
    have hd' : (u.ch n).ctx.desc = some d := by rw [hu.ctx]; exact hd
    have ht' : (u.ch n).ctx.inTrap = false := by rw [hu.ctx]; exact ht
    have hstay : ¬ ((u.ch n).ctx.inTrap = true ∨ (u.lun n d.lun).park.isSome = true) := by
      rw [ht', hu.lun, hfree]
      decide
    simp only [hd']
    rw [if_neg hstay]
    obtain ⟨hch, hother, hframe⟩ := hu.parkAt_chan (d := d) (wTgt w) (bits w 23 2)
    refine ⟨?park, ?op, fun k l hkl => ?lun, hch, hother, hframe⟩
    case park => rw [hu.parkAt_lun, if_pos rfl]; rfl
    case op => rw [hu.parkAt_lun, if_pos rfl]; rfl
    case lun => rw [hu.parkAt_lun, if_neg hkl]
  case done =>
    rw [if_neg (hu.queue hq), if_neg (by rw [hu.ctx]; exact ht ▸ Bool.false_ne_true), hu.doneCode]
    exact (hu.ctxComplete hd hask).ctxMap _
  case trap =>
    have hpend : (s.ch n).ctx.pendCause = some (1, t0) := by rw [CtxS.pendCause, hseal, hwdog]
    refine ⟨_, State.trapTake_trapped hpend (State.trapMay_running hrun ht (by decide) hmay) (by decide), ?_⟩
    have hself : s.chanIs s n (s.ch n) := ⟨rfl, fun _ _ => rfl, rfl⟩
    have htake := hself.ctxMap (fun c => c.trapped 1 ((s.cyc - t0) / 2))
    rw [CtxS.trapped_wdog hrun hd] at htake
    exact htake
  case tret =>
    have hmay : ¬ ((!(u.ch n).ctx.inTrap) = true ∨ (u.ch n).ctx.frame.idle = true ∨ (u.ch n).ctx.touch = true) := by
      rw [hu.ctx]
      simp [State.ctxAt, ht, hidle, htouch]
    dsimp only
    rw [if_neg (hu.queue hq), if_neg hmay, hu.ctx]
    exact hu.reselect hq (s.ch n).ctx.frame
  case tend =>
    have ht' : (u.ch n).ctx.inTrap = true := by rw [hu.ctx]; exact ht
    have hidle' : (u.ch n).ctx.frame.idle = false := by rw [hu.ctx]; exact hidle
    have hcause' : (u.ch n).ctx.cause ≠ 0 := by rw [hu.ctx]; exact hcause
    dsimp only
    rw [if_neg (hu.queue hq)]
    simp only [ht', hidle', hcause', hu.doneCode, Bool.not_true, Bool.false_eq_true, if_false]
    exact ((hu.ctxComplete hd hask).ctxMap _).ctxMap _
end

-- Memory: a store word after a write (14_memory_integrity.md R409 to R412, R419).
section

open Sys2Proof Sys2Proof.Machine

namespace Sys2Proof.Machine

/-! ## The strong code -/

theorem strongEnc_getLsbD (d : Word) (i : Nat) :
    (strongEnc d).getLsbD i = if i < 32 then d.getLsbD i else (strongCheck d).getLsbD (i - 32) := BitVec.getLsbD_append

theorem strongData_strongEnc (d : Word) : strongData (strongEnc d) = d := by
  apply BitVec.eq_of_getLsbD_eq
  intro i hi
  rw [strongData, BitVec.getLsbD_extractLsb', strongEnc_getLsbD, Nat.zero_add, if_pos hi, decide_eq_true hi, Bool.true_and]

theorem strongStored_strongEnc (d : Word) : strongStored (strongEnc d) = strongCheck d := by
  apply BitVec.eq_of_getLsbD_eq
  intro i hi
  rw [strongStored, BitVec.getLsbD_extractLsb', strongEnc_getLsbD, if_neg (by omega), decide_eq_true hi, Bool.true_and,
    Nat.add_sub_cancel_left]

/-- An encoded word reads as its data (R411). -/
theorem strongRead_strongEnc (d : Word) : strongRead (strongEnc d) = d := by
  have hclean : strongClass (strongEnc d) = .clean := by
    rw [strongClass, strongSyn, strongStored_strongEnc, strongData_strongEnc, BitVec.xor_self]
    rfl
  rw [strongRead, hclean, strongData_strongEnc]

/-! ## Where a word is stored -/

section
variable {s t : State} {r w k : Nat} {e : Remap}

/-- What a stored word rests on: the cells, the epochs, the repairs and the remap table. -/
def State.sameStore (s t : State) : Prop :=
  t.sram = s.sram ∧ t.epochs = s.epochs ∧ t.memi.fuse = s.memi.fuse ∧ t.memi.remap = s.memi.remap

theorem State.cell_congr (hsram : t.sram = s.sram) (hepochs : t.epochs = s.epochs) (hfuse : t.memi.fuse = s.memi.fuse) (r w : Nat) :
    t.cell r w = s.cell r w := by
  unfold State.cell State.rawInit State.repaired
  rw [hsram, hepochs, hfuse]

theorem State.sameStore.peek (h : s.sameStore t) (r w : Nat) : t.peek r w = s.peek r w := by
  obtain ⟨hsram, hepochs, hfuse, hremap⟩ := h
  have hof : t.remapOf r w = s.remapOf r w := by simp only [State.remapOf, State.remaps, hremap]
  rw [State.peek, State.peek, State.stored, State.stored, hof, State.cell_congr hsram hepochs hfuse]

theorem State.mem_remaps {p : Nat × Remap} : p ∈ s.remaps r ↔ p.1 < 8 ∧ tget (fun _ => none) s.memi.remap (r * 8 + p.1) = some p.2 := by
  unfold State.remaps
  simp only [List.mem_filterMap, List.mem_range, Option.map_eq_some_iff]
  constructor
  · rintro ⟨k, hk, e, he, rfl⟩
    exact ⟨hk, he⟩
  · rintro ⟨hk, he⟩
    exact ⟨p.1, hk, p.2, he, rfl⟩

/-- The entry of a word names it. -/
theorem State.remapOf_waddr (h : s.remapOf r w = some (k, e)) : e.waddr = w := by
  have hw := List.find?_some h
  exact of_decide_eq_true hw

/-- A new spare in entry `k` of region `r`. -/
def State.setSpare (s : State) (r k : Nat) (e : Remap) (v : Strong) : State :=
  { s with memi := { s.memi with remap := tput (fun _ => none) s.memi.remap (r * 8 + k) (some { e with spare := some v }) } }

/-- It leaves every entry at its word. -/
theorem State.remapOf_setSpare (he : tget (fun _ => none) s.memi.remap (r * 8 + k) = some e) (v : Strong) (w : Nat) :
    (s.setSpare r k e v).remapOf r w =
      (s.remapOf r w).map (fun p => (p.1, { p.2 with spare := if p.1 = k then some v else p.2.spare })) := by
  have hmap : (s.setSpare r k e v).remaps r =
      (s.remaps r).map (fun p => (p.1, { p.2 with spare := if p.1 = k then some v else p.2.spare })) := by
    rw [State.remaps, State.remaps, List.map_filterMap]
    refine List.filterMap_congr fun j hj => ?_
    rw [State.setSpare]
    dsimp only
    rw [tget_tput]
    by_cases hjk : j = k
    · subst hjk
      simp [he]
    · rw [if_neg (by omega), Option.map_map]
      simp only [Function.comp_def, if_neg hjk]
  rw [State.remapOf, State.remapOf, hmap, List.find?_map]
  rfl

/-- The word that is remapped reads its spare, and no other word changes. -/
theorem State.stored_setSpare (hof : s.remapOf r w = some (k, e)) (v : Strong) (j : Nat) :
    (s.setSpare r k e v).stored r j = if j = w then v else s.stored r j := by
  obtain ⟨-, he⟩ := State.mem_remaps.mp (List.mem_of_find?_eq_some hof)
  have hw := State.remapOf_waddr hof
  have hcell : (s.setSpare r k e v).cell r j = s.cell r j := State.cell_congr rfl rfl rfl r j
  rw [State.stored, State.remapOf_setSpare he, hcell, State.stored]
  by_cases hj : j = w
  · rw [hj, hof]
    simp
  · rw [if_neg hj]
    cases hofj : s.remapOf r j with
    | none => rfl
    | some p =>
      obtain ⟨i, x⟩ := p
      obtain ⟨-, hx⟩ := State.mem_remaps.mp (List.mem_of_find?_eq_some hofj)
      have hi : i ≠ k := by
        rintro rfl
        have hxe : x = e := Option.some.inj (hx.symm.trans he)
        exact hj ((State.remapOf_waddr hofj).symm.trans (hxe ▸ hw))
      simp [hi]

/-- The cell of a word that is not remapped is written, and no other word of the region changes. -/
theorem State.stored_tins (hof : s.remapOf r w = none) (v : Strong) (j : Nat) :
    State.stored { s with sram := tins s.sram (skey r w) v } r j = if j = w then v else s.stored r j := by
  have hofj : ∀ j, State.remapOf { s with sram := tins s.sram (skey r w) v } r j = s.remapOf r j := fun _ => rfl
  have hkey : skey r j = skey r w ↔ j = w := by unfold skey; omega
  have hcell : State.cell { s with sram := tins s.sram (skey r w) v } r j = if j = w then v else s.cell r j := by
    unfold State.cell
    dsimp only
    rw [tfind_tins]
    by_cases hj : j = w
    · simp [hj]
    · rw [if_neg (mt hkey.mp hj), if_neg hj]
      rfl
  rw [State.stored, State.stored, hofj, hcell]
  by_cases hj : j = w
  · simp [hj, hof]
  · simp only [if_neg hj]

/-- A stored word reads as it was stored, every other word of the region as before. -/
theorem State.stored_storeRaw (s : State) (r w : Nat) (v : Strong) (j : Nat) :
    (s.storeRaw r w v).stored r j = if j = w then v else s.stored r j := by
  unfold State.storeRaw
  cases hof : s.remapOf r w with
  | none => exact State.stored_tins hof v j
  | some p => exact State.stored_setSpare hof v j

/-- A word written whole, with no injection armed. -/
theorem State.peek_sramPut (hinj : s.memi.inj = none) (d : Word) (j : Nat) :
    (s.sramPut r w d).peek r j = if j = w then d else s.peek r j := by
  have hsame : (s.storeRaw r w (strongEnc d)).sameStore ((s.storeRaw r w (strongEnc d)).wrote r w) := ⟨rfl, rfl, rfl, rfl⟩
  rw [State.sramPut, State.storeInj, hinj]
  dsimp only
  rw [hsame.peek, State.peek, State.stored_storeRaw]
  split
  · exact strongRead_strongEnc d
  · rfl

/-! ## A store word written by the control port -/

/-- The report of a corrected word leaves the remap table, the repairs and an armed injection. -/
theorem State.reportCe_memi (s : State) (r w : Nat) (scrub : Bool) : (s.reportCe r w scrub).memi =
    { s.memi with reps := (s.reportCe r w scrub).memi.reps, early := (s.reportCe r w scrub).memi.early } := by
  unfold State.reportCe
  have hcount : (s.count (memiSrc + r) (memiDetail r w)).memi = s.memi := by simp
  generalize s.count (memiSrc + r) (memiDetail r w) = s1 at hcount ⊢
  have hbump : ((s1.raise .memi 0 0).bump (R.MEMI_CE_CNT_CNT r)).memi = s.memi := by simp [hcount]
  dsimp only
  split
  · rw [hcount]
  · split
    · rw [hbump]
    · split <;> rw [hbump]

theorem State.reportCe_sameStore (s : State) (r w : Nat) (scrub : Bool) :
    s.sameStore (s.reportCe r w scrub) ∧ (s.reportCe r w scrub).memi.inj = s.memi.inj := by
  rw [State.sameStore, s.reports_reportCe r w scrub, s.reportCe_memi r w scrub]
  exact ⟨⟨rfl, rfl, rfl, rfl⟩, rfl⟩

/-- A word written by the control port: its enabled bytes are new, and no other word of the region changes (R412). -/
theorem State.peek_cpSram (htest : s.testMode r = false) (hinj : s.memi.inj = none) {be : BitVec 4} (hbe : be = 0xF#4 ∨ s.bad r w = false)
    (d : Word) (j : Nat) : (s.cpSram r w be d).peek r j = if j = w then mergeBe (s.peek r w) d be else s.peek r j := by
  rw [State.cpSram, htest, if_neg Bool.false_ne_true]
  by_cases hfull : be = 0xF#4
  · rw [if_pos hfull, State.peek_sramPut hinj, hfull, mergeBe_full]
  · obtain ⟨hsame, hkeep⟩ := s.reportCe_sameStore r w false
    rw [if_neg hfull, State.sramRmw]
    have hbad : strongClass (s.stored r w) ≠ .bad := of_decide_eq_false (hbe.resolve_left hfull)
    split
    · exact absurd ‹_› hbad
    · exact State.peek_sramPut hinj _ j
    · rw [State.peek_sramPut (hkeep.trans hinj), hsame.peek]
      rfl

/-- In `t` only the memory, the registers, the pins and the fault counts may differ. -/
def State.memOnly (s t : State) : Prop := t = { s with sram := t.sram, memi := t.memi, regs := t.regs, pins := t.pins, flt := t.flt }

theorem State.memOnly.trans {u : State} (h : s.memOnly t) (k : t.memOnly u) : s.memOnly u := by
  unfold State.memOnly at h k ⊢
  rw [k, h]

theorem State.reports.memOnly (h : s.reports t) : s.memOnly t := by
  unfold State.memOnly
  conv_lhs => rw [h]
  rw [h]

theorem State.logOnly.memOnly (h : s.logOnly t) : s.memOnly t := by
  obtain ⟨-, hframe⟩ := h
  unfold State.memOnly
  rw [hframe]

/-- What a write of a word by the control port may touch. -/
theorem State.memOnly_cpSram (s : State) (r w : Nat) (be : BitVec 4) (d : Word) : s.memOnly (s.cpSram r w be d) := by
  unfold State.cpSram State.sramRmw
  split
  · exact ((s.logOnly_storeInj r w _).memOnly).trans rfl
  · split
    · exact (s.logOnly_sramPut r w d).memOnly
    · split
      · exact (State.reports_trans (State.reports_trans (s.reports_reportUe r w 4) (State.reports_raise _ _ _ _))
          (State.reports_count _ _ _)).memOnly
      · exact (s.logOnly_sramPut r w _).memOnly
      · exact (s.reports_reportCe r w false).memOnly.trans (State.logOnly_sramPut _ r w _).memOnly

end

end Sys2Proof.Machine

end

-- Sequencers: the control stores (04_sequencers.md R112, R141 to R147).
section

open Sys2Proof Sys2Proof.Machine

namespace Sys2Proof.Machine

/-! ## Fields of one bit -/

section
variable {s t : State} {f : Fld}

theorem State.flag_eq_getLsbD (h : f.wid = 1) : s.flag f = (s.rd f.addr).getLsbD f.lsb := by
  rw [← bit_eq_getLsbD, State.flag, State.get, h]
  rfl

theorem State.flag_of_get (h : t.get f = s.get f) : t.flag f = s.flag f := by rw [State.flag, State.flag, h]

theorem State.flag_set_zero (h : f.lsb + f.wid ≤ 32) : (s.set f 0).flag f = false := by
  rw [State.flag, State.get_set_same s f 0 h, Nat.zero_mod]
  rfl

/-- A field of one bit that is not 1 is 0. -/
theorem State.get_of_flag_false (hw : f.wid = 1) (h : s.flag f = false) : s.get f = 0 := by
  have hlt : s.get f < 2 := by
    rw [State.get, hw]
    exact bits_lt _ _ 1
  have hne : s.get f ≠ 1 := of_decide_eq_false h
  omega

end

/-! ## Writes of the store -/

/-- The registers that the report of a corrected word may write. -/
theorem State.wordsKept_reportCe (s : State) (r w : Nat) :
    s.wordsKept (s.reportCe r w false) [evtAddr .memi 0, (R.MEMI_CE_CNT_CNT r).addr] := by
  have hcount := s.wordsKept_count (memiSrc + r) (memiDetail r w) [evtAddr .memi 0, (R.MEMI_CE_CNT_CNT r).addr]
  unfold State.reportCe
  generalize s.count (memiSrc + r) (memiDetail r w) = t at hcount ⊢
  have hbump : s.wordsKept ((t.raise .memi 0 0).bump (R.MEMI_CE_CNT_CNT r)) [evtAddr .memi 0, (R.MEMI_CE_CNT_CNT r).addr] :=
    (hcount.trans (t.wordsKept_raise _ _ _ (by simp))).trans (State.wordsKept_set _ _ _ (by simp))
  dsimp only
  split
  · exact hcount
  · rw [if_neg Bool.false_ne_true]
    split <;> exact hbump

section
variable {s t : State} {g w region : Nat} {be : BitVec 4} {d : Word}

theorem State.verifySpoil_none (h : (s.grp g).verify = none) : s.verifySpoil g region = s := by
  rw [State.verifySpoil, h]
  rfl

theorem State.memOnly.grp (h : s.memOnly t) (k : Nat) : t.grp k = s.grp k := by
  rw [h]
  rfl

/-- What a write of a store word shows: the word has its enabled bytes, the others are as before, and the region is not verified. -/
def State.storeWritten (s t : State) (k : Nat) (be : BitVec 4) (d : Word) (ok : Fld) : Prop :=
  t.flag ok = false ∧ t.peek 6 k = mergeBe (s.peek 6 k) d be ∧ (∀ j, j ≠ k → t.peek 6 j = s.peek 6 j) ∧
  t.chans = s.chans ∧ t.cp = s.cp ∧ t.rot = s.rot ∧ t.ext = s.ext

/-- A store word is written and its region's OK bit cleared, while no verification runs. -/
theorem State.storeWritten_of {ok : Fld} (hv : (s.grp g).verify = none) (htest : s.testMode 6 = false) (hinj : s.memi.inj = none)
    (hbe : be = 0xF#4 ∨ s.bad 6 w = false) (hok : ok.lsb + ok.wid ≤ 32) :
    s.storeWritten (((s.cpSram 6 w be d).set ok 0).verifySpoil g region) w be d ok := by
  have hmem := s.memOnly_cpSram 6 w be d
  have hpeek := fun j => State.peek_cpSram htest hinj hbe d (j := j)
  have hsame : (s.cpSram 6 w be d).sameStore ((s.cpSram 6 w be d).set ok 0) := ⟨rfl, rfl, rfl, rfl⟩
  have hnone : (((s.cpSram 6 w be d).set ok 0).grp g).verify = none := (congrArg GrpS.verify (hmem.grp g)).trans hv
  rw [State.verifySpoil_none hnone]
  refine ⟨State.flag_set_zero hok, ?_, fun j hj => ?_, ?_⟩
  · rw [hsame.peek, hpeek, if_pos rfl]
  · rw [hsame.peek, hpeek, if_neg hj]
  · rw [State.set_chans, State.set_cp, State.set_rot, State.set_ext, hmem]
    exact ⟨rfl, rfl, rfl, rfl⟩

/-- The store of the group is not in use: it is disabled, no context runs, and no LUN has a record (R141). -/
def State.vendorFree (s : State) (g : Nat) : Prop :=
  s.flag (R.SEQG_CTRL_ENABLE g) = false ∧ (∀ c, c < 8 → (s.ch (8 * g + c)).ctx.run ≠ .run) ∧
  ∀ c, c < 8 → ∀ l, l < 16 → (s.lun (8 * g + c) l).park = none

theorem State.vendorFree_iff : s.vendorFree g ↔
    ¬ (s.flag (R.SEQG_CTRL_ENABLE g) = true ∨ (grpChans g).any (fun n => (s.ch n).ctx.run = .run) = true ∨ s.grpParked g = true) := by
  simp [State.vendorFree, State.grpParked, grpChans, not_or]

theorem any_custUse_eq_false : (grpChans g).any s.custUse = false ↔ ∀ c, c < 8 → s.custUse (8 * g + c) = false := by
  simp [grpChans]

theorem exec_vendorStoreWrite {a : BitVec 24} (ht : s.portTakes a.toNat) (ha : storeAt a.toNat = some (g, w)) (hw : w < 0x3000) :
    exec (.vendorStoreWrite a be d) s = .next (vendorWr g w be d s) := by
  rw [exec, execVendorStoreWrite, ha]
  dsimp only
  rw [if_pos hw, State.cpWr_taken _ _ _ _ _ ht, storeWr, ha]
  exact congrArg _ (if_pos hw)

theorem exec_customerStoreWrite {a : BitVec 24} (ht : s.portTakes a.toNat) (ha : storeAt a.toNat = some (g, w)) (hw : 0x3000 ≤ w) :
    exec (.customerStoreWrite a be d) s = .next (customerWr g w be d s) := by
  rw [exec, execCustomerStoreWrite, ha]
  dsimp only
  rw [if_pos hw, State.cpWr_taken _ _ _ _ _ ht, storeWr, ha]
  exact congrArg _ (if_neg (Nat.not_lt.mpr hw))

theorem State.regs_sramPut (s : State) (r w : Nat) (d : Word) : (s.sramPut r w d).regs = s.regs := by
  have hraw : ∀ v, (s.storeRaw r w v).regs = s.regs := fun v => by
    unfold State.storeRaw
    split <;> rfl
  show (s.storeInj r w (strongEnc d)).regs = s.regs
  unfold State.storeInj
  split
  · split
    · exact hraw _
    · exact hraw _
  · exact hraw _

/-- The registers that a write of a word which is not uncorrectable may write are those of the report of a corrected one. -/
theorem State.wordsKept_cpSram (htest : s.testMode 6 = false) (hbe : be = 0xF#4 ∨ s.bad 6 w = false) :
    s.wordsKept (s.cpSram 6 w be d) [evtAddr .memi 0, (R.MEMI_CE_CNT_CNT 6).addr] := by
  have hput : ∀ (t : State) v as, t.wordsKept (t.sramPut 6 w v) as := fun t v as a _ =>
    congrArg (tget resetVal · a) (t.regs_sramPut 6 w v)
  rw [State.cpSram, htest, if_neg Bool.false_ne_true]
  by_cases hfull : be = 0xF#4
  · rw [if_pos hfull]
    exact hput _ _ _
  · have hbad : strongClass (s.stored 6 w) ≠ .bad := of_decide_eq_false (hbe.resolve_left hfull)
    rw [if_neg hfull, State.sramRmw]
    split
    · exact absurd ‹_› hbad
    · exact hput _ _ _
    · exact (s.wordsKept_reportCe 6 w).trans (hput _ _ _)

/-- The end of a customer-region write leaves HOLD_ACTIVE. -/
theorem State.flag_custStore (hv : (s.grp g).verify = none) (htest : s.testMode 6 = false)
    (hbe : be = 0xF#4 ∨ s.bad 6 (g * 16384 + w) = false) :
    (s.custStore g w be d).flag (R.SEQG_STATUS_HOLD_ACTIVE g) = s.flag (R.SEQG_STATUS_HOLD_ACTIVE g) := by
  have hnone : (((s.cpSram 6 (g * 16384 + w) be d).set (R.SEQG_STATUS_CUST_OK g) 0).grp g).verify = none :=
    (congrArg GrpS.verify ((s.memOnly_cpSram 6 _ be d).grp g)).trans hv
  have hkept := State.wordsKept_cpSram (d := d) htest hbe (0x6000C + g * 0x1000) (by
    have hevt : evtAddr .memi 0 = 0x4010 := rfl
    have hcnt : (R.MEMI_CE_CNT_CNT 6).addr < 0x5000 := by decide
    rw [List.mem_pair, hevt]
    omega)
  rw [State.custStore, State.verifySpoil_none hnone]
  refine State.flag_of_get ?_
  rw [State.get_set_apart _ _ (Nat.le_of_ble_eq_true rfl) (.inr (Nat.le_of_ble_eq_true rfl))]
  exact State.get_of_rd hkept

/-- The end of a hold, once the region is free (R142). -/
theorem State.holdEnd_free {h : HeldWrite} (hhold : s.cp.hold = some h) (hfree : ∀ c, c < 8 → s.custUse (8 * h.grp + c) = false) :
    s.holdEnd = (s.holdClear h.grp).custStore h.grp h.word h.be h.data := by
  rw [State.holdEnd, hhold]
  dsimp only
  rw [any_custUse_eq_false.mpr hfree, if_neg Bool.false_ne_true]

theorem exec_storeHoldEnd : exec .storeHoldEnd s = .next s.holdEnd.cpPump := rfl

theorem State.testMode_holdClear (s : State) (g r : Nat) : (s.holdClear g).testMode r = s.testMode r := by
  have hget : ∀ f : Fld, f.addr = 0x4058 → (s.holdClear g).get f = s.get f := fun f hf => State.get_set_other _ _ (by
    rw [hf]
    show 0x4058 ≠ 0x6000C + g * 0x1000
    omega)
  rw [State.testMode, State.testMode, State.flag, State.flag, hget _ rfl, hget _ rfl]

/-! ## The end of a verification -/

theorem exec_verify {g : Fin 6} (ht : s.portTakes (R.SEQG_VERIFY_REGION g).addr) : exec (.verify g d) s = .next (verifyWr g d s) := by
  rw [exec, execVerify, State.cpWr_taken _ _ _ _ _ ht]

/-- The OK bit of a region. -/
def okRef (g region : Nat) : Fld := if region = 0 then R.SEQG_STATUS_VEND_OK g else R.SEQG_STATUS_CUST_OK g

/-- A verification of a region ends without success, with result `r` (R146). -/
def State.verifyFail (s : State) (g region r : Nat) : State :=
  (((s.set (R.SEQG_STATUS_VERIFY_RESULT g) r).set (okRef g region) 0).set (verRef g region) 0).seqRaise g 0

/-- The verification of a group is over. -/
def State.verifyOver (s : State) (g : Nat) : State := (s.grpMap g (fun x => { x with verify := none })).set (R.SEQG_STATUS_VERIFY_BUSY g) 0

theorem State.hdr_verifyOver (s : State) (g i : Nat) : (s.verifyOver g).hdr g i = s.hdr g i := by
  refine State.get_set_other _ _ ?_
  show 0x60080 + g * 0x1000 + i * 0x4 ≠ 0x6000C + g * 0x1000
  omega

theorem exec_verifyDone_badHdr {g : Fin 6} (hv : (s.grp g).verify = some region) (hhdr : s.hdrOk g region = false) :
    exec (.verifyDone g) s = .next ((s.verifyOver g).verifyFail g region 1) := by
  have hbad : (s.verifyOver g).hdrOk g region = false := by
    rw [← hhdr, State.hdrOk, State.hdrOk]
    simp only [State.hdr_verifyOver]
  rw [exec, execVerifyDone, hv]
  dsimp only
  rw [if_pos (by rw [← State.verifyOver, hbad]; rfl)]
  rfl

theorem okRef_addr : (okRef g region).addr = 0x6000C + g * 0x1000 := by
  unfold okRef
  split <;> rfl

theorem okRef_bits : (okRef g region).lsb + (okRef g region).wid ≤ 4 := by
  unfold okRef
  split <;> exact Nat.le_of_ble_eq_true rfl

theorem verRef_addr : (verRef g region).addr = 0x60044 + g * 0x1000 ∨ (verRef g region).addr = 0x60048 + g * 0x1000 := by
  unfold verRef
  split
  · exact .inl rfl
  · exact .inr rfl

/-- The fields of STATUS are as set, through the writes of the version and of the event. -/
theorem State.get_verifyFail {f : Fld} {r : Nat} (hf : f.addr = 0x6000C + g * 0x1000) : (s.verifyFail g region r).get f =
    ((s.set (R.SEQG_STATUS_VERIFY_RESULT g) r).set (okRef g region) 0).get f := by
  rw [State.verifyFail, State.seqRaise, State.get_raise, State.get_set_other]
  · rw [hf]
    rcases verRef_addr (g := g) (region := region) with h | h <;> omega
  · rw [hf]
    show 0x6000C + g * 0x1000 ≠ 0x60000 + g * 0x1000 + 0x10
    omega

theorem State.verifyFail_effect {r : Nat} (hr : r < 4) :
    (s.verifyFail g region r).get (R.SEQG_STATUS_VERIFY_RESULT g) = r ∧ (s.verifyFail g region r).flag (okRef g region) = false ∧
    (s.verifyFail g region r).get (verRef g region) = 0 ∧ (s.verifyFail g region r).event .seqg g 0 = true ∧
    (s.verifyFail g region r).get (R.SEQG_STATUS_VERIFY_BUSY g) = s.get (R.SEQG_STATUS_VERIFY_BUSY g) := by
  refine ⟨?result, ?ok, ?version, State.event_raised _ _ _ _ (by decide), ?busy⟩
  case result =>
    rw [State.get_verifyFail rfl, State.get_set_apart _ _ (okRef_bits.trans (by decide)) (.inr okRef_bits),
      State.get_set_same _ _ _ (Nat.le_of_ble_eq_true rfl)]
    exact Nat.mod_eq_of_lt hr
  case ok =>
    rw [State.flag_of_get (State.get_verifyFail okRef_addr)]
    exact State.flag_set_zero (okRef_bits.trans (by decide))
  case version =>
    rw [State.verifyFail, State.seqRaise, State.get_raise, State.get_set_same]
    · exact Nat.zero_mod _
    · unfold verRef
      split <;> exact Nat.le_of_ble_eq_true rfl
    · show _ ≠ 0x60000 + g * 0x1000 + 0x10
      rcases verRef_addr (g := g) (region := region) with h | h <;> omega
  case busy =>
    rw [State.get_verifyFail rfl, State.get_set_apart _ _ (okRef_bits.trans (by decide)) (.inr (okRef_bits.trans ?_)),
      State.get_set_apart _ _ (Nat.le_of_ble_eq_true rfl) (.inr (Nat.le_of_ble_eq_true rfl))]
    exact Nat.le_of_ble_eq_true rfl

theorem State.grps_verifyFail (s : State) (g region r : Nat) :
    ((s.verifyOver g).verifyFail g region r).grps = (s.grpMap g (fun x => { x with verify := none })).grps := by
  simp only [State.verifyFail, State.verifyOver, State.seqRaise, State.raise_grps, State.set_grps]

theorem State.verifyFail_frame (s : State) (g region r : Nat) : (s.verifyOver g).verifyFail g region r = { s with
    grps := ((s.verifyOver g).verifyFail g region r).grps, regs := ((s.verifyOver g).verifyFail g region r).regs
    pins := ((s.verifyOver g).verifyFail g region r).pins } := by
  have hset : ∀ (t : State) f v, t.set f v = { t with regs := (t.set f v).regs } := fun _ _ _ => rfl
  rw [State.grps_verifyFail]
  refine (State.raise_frame _ _ _ _).trans ?_
  rw [hset _ (verRef g region), hset _ (okRef g region), hset _ (R.SEQG_STATUS_VERIFY_RESULT g), State.verifyOver]
  rfl

/-! ## The control register -/

theorem rowAt_seqgCtrl : ∀ g : Fin 6, rowAt (R.SEQG_CTRL_ENABLE g).addr = some (.seqg, g.val, ⟨0x8, 0, 1, 0x101, 0, 0, 0x200, 0, 0⟩) := by
  decide

/-- A whole-word write of CTRL: ENABLE and CUST_HOLD are as written (R149). -/
theorem State.regMerge_seqgCtrl (s : State) (g : Fin 6) (d : Word) :
    (s.regMerge (R.SEQG_CTRL_ENABLE g).addr 0xF#4 d).flag (R.SEQG_CTRL_ENABLE g) = d.getLsbD 0 ∧
    (s.regMerge (R.SEQG_CTRL_ENABLE g).addr 0xF#4 d).flag (R.SEQG_CTRL_CUST_HOLD g) = d.getLsbD 8 ∧
    (∀ a, a ≠ (R.SEQG_CTRL_ENABLE g).addr → (s.regMerge (R.SEQG_CTRL_ENABLE g).addr 0xF#4 d).rd a = s.rd a) ∧
    s.regMerge (R.SEQG_CTRL_ENABLE g).addr 0xF#4 d = { s with regs := (s.regMerge (R.SEQG_CTRL_ENABLE g).addr 0xF#4 d).regs } := by
  rw [State.regMerge, rowAt_seqgCtrl]
  dsimp only
  have hm : beMask 0xF#4 = BitVec.allOnes 32 := by decide
  refine ⟨?_, ?_, fun a ha => State.rd_wr_other _ _ ha, rfl⟩
  · rw [State.flag_eq_getLsbD rfl, State.rd_wr_same, RegRow.write, hm]
    simp [R.SEQG_CTRL_ENABLE]
  · have haddr : (R.SEQG_CTRL_ENABLE g).addr = (R.SEQG_CTRL_CUST_HOLD g).addr := rfl
    rw [State.flag_eq_getLsbD rfl, haddr, State.rd_wr_same, RegRow.write, hm]
    simp [R.SEQG_CTRL_CUST_HOLD]

/-- A write of CTRL leaves STATUS. -/
theorem State.vendOk_regMerge (s : State) (g : Fin 6) (d : Word) :
    (s.regMerge (R.SEQG_CTRL_ENABLE g).addr 0xF#4 d).flag (R.SEQG_STATUS_VEND_OK g) = s.flag (R.SEQG_STATUS_VEND_OK g) := by
  obtain ⟨-, -, hkept, -⟩ := s.regMerge_seqgCtrl g d
  refine State.flag_of_get (State.get_of_rd (hkept _ ?_))
  show 0x6000C + g.val * 0x1000 ≠ 0x60008 + g.val * 0x1000
  omega

/-- A write that does not set ENABLE, or a verified vendor image, lets CTRL take its value (R147). -/
theorem seqgCtrlWr_taken {g : Fin 6} (h : d.getLsbD 0 = false ∨ s.flag (R.SEQG_STATUS_VEND_OK g) = true) :
    seqgCtrlWr g 0xF#4 d s = s.regMerge (R.SEQG_CTRL_ENABLE g).addr 0xF#4 d := by
  obtain ⟨hen, -⟩ := s.regMerge_seqgCtrl g d
  unfold seqgCtrlWr
  dsimp only
  rw [hen, s.vendOk_regMerge, if_neg]
  rcases h with h | h <;> (rw [h]; simp)

/-- Else ENABLE stays and WRITE_REFUSED is raised. -/
theorem seqgCtrlWr_refused {g : Fin 6} (hd : d.getLsbD 0 = true) (hok : s.flag (R.SEQG_STATUS_VEND_OK g) = false) :
    seqgCtrlWr g 0xF#4 d s =
      ((s.regMerge (R.SEQG_CTRL_ENABLE g).addr 0xF#4 d).set (R.SEQG_CTRL_ENABLE g) (s.get (R.SEQG_CTRL_ENABLE g))).seqRaise g 2 := by
  obtain ⟨hen, -⟩ := s.regMerge_seqgCtrl g d
  unfold seqgCtrlWr
  dsimp only
  rw [hen, s.vendOk_regMerge, hd, hok, if_pos (by decide)]

theorem exec_seqgEnable {g : Fin 6} (ht : s.portTakes (R.SEQG_CTRL_ENABLE g).addr) :
    exec (.seqgEnable g d) s = .next (seqgCtrlWr g 0xF#4 d s) := by
  rw [exec, execSeqgEnable, State.cpWr_taken _ _ _ _ _ ht]

theorem exec_custHold {g : Fin 6} (ht : s.portTakes (R.SEQG_CTRL_CUST_HOLD g).addr) :
    exec (.custHold g d) s = .next (seqgCtrlWr g 0xF#4 d s) := by
  rw [exec, execCustHold, State.cpWr_taken _ _ _ _ _ ht]

end
end Sys2Proof.Machine

/-- Settles O28: a write of a free region through the store word's rule; a held one, a refused one and the control
register field by field. -/
theorem storeIsWrittenOnlyWhenUnused : Obligations.StoreIsWrittenOnlyWhenUnused := by
  refine ⟨fun s a be d g w hp ha hw hv htest hinj => ⟨fun hfree hbe => ?vendor, fun hbusy => ?refused⟩,
    fun s a be d g w hp ha hw hv htest hinj => ⟨fun hfree hbe => ?customer, fun hbusy => ?held⟩,
    fun s h hhold hheld hv htest hinj hfree hbe => ?holdEnd, fun s g d hp hidle => ?verify, fun s g r hr hv hhdr => ?badHdr,
    fun s g d hp hbit => ⟨fun hok => ?enable, fun hok hoff => ?notEnabled⟩, fun s g d hp hbit => ?custHold⟩
  case vendor =>
    refine ⟨_, exec_vendorStoreWrite hp ha hw, ?_⟩
    rw [vendorWr, if_neg (State.vendorFree_iff.mp hfree)]
    exact State.storeWritten_of hv htest hinj hbe (Nat.le_of_ble_eq_true rfl)
  case refused =>
    refine ⟨_, exec_vendorStoreWrite hp ha hw, ?_⟩
    rw [vendorWr, if_pos (not_not.mp (mt State.vendorFree_iff.mpr hbusy))]
    exact ⟨State.event_raised _ _ _ _ (by decide), State.wordsKept_raise _ _ _ _ (List.mem_singleton_self _), State.raise_frame _ _ _ _⟩
  case customer =>
    refine ⟨_, exec_customerStoreWrite hp ha hw, ?_⟩
    rw [customerWr, any_custUse_eq_false.mpr hfree, if_neg Bool.false_ne_true]
    exact State.storeWritten_of hv htest hinj hbe (Nat.le_of_ble_eq_true rfl)
  case held =>
    refine ⟨_, exec_customerStoreWrite hp ha hw, ?_⟩
    rw [customerWr, if_pos ?_]
    · exact ⟨State.flag_set_same _ (Nat.le_of_ble_eq_true rfl) rfl, rfl, State.wordsKept_set _ _ _ (List.mem_singleton_self _), rfl⟩
    obtain ⟨c, hc, huse⟩ := hbusy
    exact List.any_eq_true.mpr ⟨8 * g + c, List.mem_map.mpr ⟨c, List.mem_range.mpr hc, rfl⟩, huse⟩
  case holdEnd =>
    have htest' := (s.testMode_holdClear h.grp 6).trans htest
    have hcp : (s.holdClear h.grp).cp = { s.cp with hold := none } := rfl
    obtain ⟨hok, hword, hothers, hchans, hcp', hrot, hext⟩ := State.storeWritten_of (s := s.holdClear h.grp) (d := h.data) (region := 1)
      (ok := R.SEQG_STATUS_CUST_OK h.grp) hv htest' hinj hbe (Nat.le_of_ble_eq_true rfl)
    have hpump : s.holdEnd.cpPump = (s.holdClear h.grp).custStore h.grp h.word h.be h.data := by
      rw [State.holdEnd_free hhold hfree]
      exact State.cpPump_none ((congrArg CpS.held (hcp'.trans hcp)).trans hheld)
    refine ⟨(s.holdClear h.grp).custStore h.grp h.word h.be h.data, by rw [exec_storeHoldEnd, hpump], hcp', ?_, hword, hothers, hok, hchans,
      hrot, hext⟩
    rw [State.flag_custStore (s := s.holdClear h.grp) hv htest' hbe]
    exact State.flag_set_zero (Nat.le_of_ble_eq_true rfl)
  case verify =>
    refine ⟨_, exec_verify hp, ?_⟩
    rw [verifyWr, hidle, if_neg Bool.false_ne_true]
    refine ⟨?_, ?_, fun k hk => ?_, ?_, rfl⟩
    · rw [State.flag_grpMap, State.flag_set_same _ (Nat.le_of_ble_eq_true rfl) rfl]
    · rw [State.grp_grpMap, if_pos rfl]
    · rw [State.grp_grpMap, if_neg hk]
      rfl
    · exact s.wordsKept_set (R.SEQG_STATUS_VERIFY_BUSY g) 1 (List.mem_singleton_self _)
  case badHdr =>
    obtain ⟨hresult, hok, hver, hevent, hbusy⟩ := (s.verifyOver g).verifyFail_effect (g := g) (region := r) (r := 1) (by decide)
    refine ⟨_, exec_verifyDone_badHdr hv hhdr, hresult, ?_, hok, hver, hevent, ?_, ?_⟩
    · rw [State.flag_of_get hbusy]
      exact State.flag_set_zero (Nat.le_of_ble_eq_true rfl)
    · rw [State.grp, State.grps_verifyFail]
      exact congrArg GrpS.verify ((s.grp_grpMap _ _ _).trans (if_pos rfl))
    · exact State.verifyFail_frame _ _ _ _
  case enable =>
    obtain ⟨hen, -, hkept, hframe⟩ := s.regMerge_seqgCtrl g d
    refine ⟨_, exec_seqgEnable hp, ?_⟩
    rw [seqgCtrlWr_taken (.inr hok)]
    exact ⟨hen.trans hbit, fun a ha => hkept a (mt List.mem_singleton.mpr ha), hframe⟩
  case notEnabled =>
    obtain ⟨-, -, hkept, hframe⟩ := s.regMerge_seqgCtrl g d
    refine ⟨_, exec_seqgEnable hp, ?_⟩
    rw [seqgCtrlWr_refused hbit hok, State.get_of_flag_false rfl hoff]
    generalize s.regMerge (R.SEQG_CTRL_ENABLE g).addr 0xF#4 d = t at hkept hframe ⊢
    refine ⟨?_, State.event_raised _ _ _ _ (by decide), ?_, ?_⟩
    · rw [State.seqRaise, State.flag_of_get (State.get_raise _ _ _ _ _ ?_)]
      · exact State.flag_set_zero (Nat.le_of_ble_eq_true rfl)
      · show 0x60008 + g.val * 0x1000 ≠ 0x60000 + g.val * 0x1000 + 0x10
        omega
    · have hword : s.wordsKept t [(R.SEQG_CTRL_ENABLE g).addr, evtAddr .seqg g] := fun a ha =>
        hkept a (ne_of_mem_of_not_mem List.mem_cons_self ha).symm
      exact (hword.trans (t.wordsKept_set _ _ List.mem_cons_self)).trans (State.wordsKept_raise _ _ _ _ (by simp))
    · refine (State.raise_frame _ _ _ _).trans ?_
      rw [hframe]
      rfl
  case custHold =>
    obtain ⟨hen, hhold, hkept, hframe⟩ := s.regMerge_seqgCtrl g d
    refine ⟨_, exec_custHold hp, ?_⟩
    rw [seqgCtrlWr_taken (.inl hbit)]
    exact ⟨hhold, hen.trans hbit, fun a ha => hkept a (mt List.mem_singleton.mpr ha), hframe⟩

end

-- Channel operations: the write-protect pin in the Grave state (05_channel_operations.md R175; 02_ports.md R84).
section

open Sys2Proof Sys2Proof.Machine

namespace Sys2Proof.Machine

/-- A block in the Grave state whose control port is ready and whose domain CHAN0 (9) is ON; no seal runs on channel 0. -/
def graveChan : State :=
  let s : State := { cp := { ready := true }, pwr := { doms := [(9, { st := .on, req := true, ack := true })] } }
  s.set R.FAULT_STATUS_GRAVE 1

/-- CTRL with WP_OPEN set. -/
def wpOpenWord : Word := 0x100

theorem graveChan_portTakes : graveChan.portTakes (R.CH_CTRL_WP_OPEN 0).addr := ⟨by decide +kernel, 9, by decide +kernel, by decide +kernel⟩

/-- The pin stays 0. -/
theorem graveChan_wp : (nextOf (exec (.wpOpen 0 wpOpenWord) graveChan)).map (fun t => (t.ch 0).wp) = some false := by decide +kernel

end Sys2Proof.Machine

/-- Refutes O31 for a block in the Grave state, which the statement does not exclude: there a slice write-protects its dies but while a seal
runs (R175, subject to R84), so in `graveChan` a write of WP_OPEN = 1 leaves `FL0_WP_N` at 0. -/
theorem not_channelPinsAndBadBlocks : ¬ Obligations.ChannelPinsAndBadBlocks := by
  rintro ⟨hwp, -⟩
  obtain ⟨t, hexec, -, hpin, -⟩ := hwp graveChan 0 wpOpenWord graveChan_portTakes
  have hopen : (t.ch 0).wp = true := congrArg ChS.wp (hpin (by decide +kernel))
  have hstays := graveChan_wp
  rw [nextOf_exec hexec, Option.map_some, hopen] at hstays
  exact absurd (Option.some.inj hstays) (by decide)

end

-- Completion: the end of a descriptor leaves the contexts and the cycle engines (05_channel_operations.md R153, R154; 07_read_recovery.md R223).
section

open Sys2Proof Sys2Proof.Machine

namespace Sys2Proof.Machine

/-! ## Units that do not touch the channels -/

section
variable (s : State)

theorem foldl_chans {β : Type} (g : State → β → State) (h : ∀ s x, (g s x).chans = s.chans) (l : List β) (s : State) :
    (l.foldl g s).chans = s.chans := foldl_part State.chans g h l s

theorem State.memOnly.chans {s t : State} (h : s.memOnly t) : t.chans = s.chans := by rw [h]

@[simp] theorem State.sramPut_chans (r w : Nat) (d : Word) : (s.sramPut r w d).chans = s.chans := (s.logOnly_sramPut r w d).memOnly.chans

theorem State.memOnly_sramRmw (r w : Nat) (m d : Word) : s.memOnly (s.sramRmw r w m d) := by
  unfold State.sramRmw
  split
  · exact (State.reports_trans (State.reports_trans (s.reports_reportUe r w 4) (State.reports_raise _ _ _ _)) (State.reports_count _ _ _)).memOnly
  · exact (s.logOnly_sramPut r w _).memOnly
  · exact (s.reports_reportCe r w false).memOnly.trans (State.logOnly_sramPut _ r w _).memOnly

@[simp] theorem State.sramRmw_chans (r w : Nat) (m d : Word) : (s.sramRmw r w m d).chans = s.chans := (s.memOnly_sramRmw r w m d).chans

theorem State.memOnly_ctxWord (w : Nat) (m d : Word) : s.memOnly (s.ctxWord w m d) := by
  unfold State.ctxWord
  split
  · exact (s.logOnly_sramPut 5 w d).memOnly
  · exact s.memOnly_sramRmw 5 w m d

@[simp] theorem State.ctxWord_chans (w : Nat) (m d : Word) : (s.ctxWord w m d).chans = s.chans := (s.memOnly_ctxWord w m d).chans

theorem State.memOnly_rput (r o k v : Nat) : s.memOnly (s.rput r o k v) := by
  have hwords : ∀ (j : Nat) (u : State) (w m x : Nat), u.memOnly (u.ctxWords w j m x) := fun j => by
    induction j with
    | zero => exact fun _ _ _ _ => rfl
    | succ j ih => exact fun u w m x => (u.memOnly_ctxWord _ _ _).trans (ih _ _ _ _)
  exact hwords _ _ _ _ _

theorem State.memOnly_ringSettle (r : Nat) : s.memOnly (s.ringSettle r) := by
  unfold State.ringSettle
  dsimp only
  split
  · exact s.memOnly_rput _ _ _ _
  · rfl

theorem State.memOnly_ringDone (r : Nat) : s.memOnly (s.ringDone r) :=
  ((s.memOnly_rput r 0x14 2 _).trans (State.memOnly_rput _ r 0x18 4 _)).trans (State.memOnly_ringSettle _ r)

@[simp] theorem State.chanEnd_chans (r g : Nat) (c : Bool) (st : Nat) (res : List Half) : (s.chanEnd r g c st res).chans = s.chans := by
  unfold State.chanEnd
  split
  · rfl
  · exact (s.memOnly_ringDone r).chans

theorem State.chanEnd_luns (r g : Nat) (c : Bool) (st : Nat) (res : List Half) : (s.chanEnd r g c st res).luns = s.luns := by
  unfold State.chanEnd
  split
  · rfl
  · rw [s.memOnly_ringDone r]

@[simp] theorem State.readTileEnd_chans (id k st deep : Nat) : (s.readTileEnd id k st deep).chans = s.chans := by
  unfold State.readTileEnd
  split
  · rfl
  · exact (apply_ite State.chans _ _ _).trans (ite_self _)

/-- Data of region 2 are bytes of the decoder buffer. -/
@[simp] theorem State.dPut_chans (e off : Nat) (bs : List Byte) : (s.dPut e off bs).chans = s.chans := by
  unfold State.dPut State.bufWrote
  dsimp only
  split
  · split
    · split <;> rfl
    · rfl
  · rfl

@[simp] theorem State.cwCopy_chans (e e' : Nat) (cws : List Nat) : (s.cwCopy e e' cws).chans = s.chans := by
  unfold State.cwCopy
  refine foldl_chans _ (fun u k => ?_) cws s
  exact u.dPut_chans e' (k * 4608) (u.dGet e (k * 4608) 4608)

@[simp] theorem State.cwTake_chans (e e' k off : Nat) : (s.cwTake e e' k off).chans = s.chans := State.dPut_chans _ _ _ _

@[simp] theorem State.ladderLog_chans (t deep st : Nat) : (s.ladderLog t deep st).chans = s.chans := by
  unfold State.ladderLog State.readqCount State.decRaise
  dsimp only
  split
  · split <;> simp
  · rfl

@[simp] theorem State.crcBad_chans : s.crcBad.chans = s.chans := by
  rw [State.crcBad, State.count_chans, State.decRaise, State.raise_chans]

@[simp] theorem State.rcvAdmit_chans (w : RWait) : (s.rcvAdmit w).chans = s.chans := by
  unfold State.rcvAdmit
  dsimp only
  split
  · split <;> rfl
  · repeat' split
    all_goals rfl

@[simp] theorem State.mirrorRef_chans (n l : Nat) : (s.mirrorRef n l).chans = s.chans := by
  unfold State.mirrorRef
  split
  next h => rw [State.mirror, if_pos h, State.linkSend_frame]
  next => rfl

@[simp] theorem State.shadowUpdate_chans (n l v e0 e1 e2 : Nat) : (s.shadowUpdate n l v e0 e1 e2).chans = s.chans := by
  unfold State.shadowUpdate State.ofsAdd State.trackedPut
  dsimp only
  split <;> simp [State.rcvMap, State.decRaise]

end

/-! ## Contexts and cycle engines -/

/-- The context and the cycle engine of each channel of a table. -/
def seqsOf (c : Tab ChS) (k : Nat) : CtxS × EngS := ((tget (fun _ => {}) c k).ctx, (tget (fun _ => {}) c k).eng)

section
variable (s : State)

/-- A change of the other parts of a channel leaves them. -/
theorem seqsOf_chMap (n : Nat) (f : ChS → ChS) (hc : (f (s.ch n)).ctx = (s.ch n).ctx) (he : (f (s.ch n)).eng = (s.ch n).eng) :
    seqsOf (s.chMap n f).chans = seqsOf s.chans := by
  funext k
  have hk := s.ch_chMap n k f
  unfold seqsOf
  rw [State.ch] at hk
  rw [hk]
  split
  next h => rw [h, hc, he]; rfl
  next => rfl

@[simp] theorem State.issue_seqs (d : Desc) : seqsOf (s.issue d).chans = seqsOf s.chans := seqsOf_chMap s _ _ rfl rfl

@[simp] theorem State.freeSlot_seqs (n : Nat) (d : Desc) : seqsOf (s.freeSlot n d).chans = seqsOf s.chans := seqsOf_chMap s _ _ rfl rfl

theorem foldl_seqs {β : Type} (g : State → β → State) (h : ∀ s x, seqsOf (g s x).chans = seqsOf s.chans) (l : List β) (s : State) :
    seqsOf (l.foldl g s).chans = seqsOf s.chans := foldl_part (fun u => seqsOf u.chans) g h l s

/-! ### The requests that wait for a place of the pool -/

@[simp] theorem State.issueRead_seqs : seqsOf s.issueRead.chans = seqsOf s.chans := by
  unfold State.issueRead
  split
  · rfl
  · dsimp only
    split
    · split
      · simp [State.readMap]
      · split
        · exact State.issue_seqs _ _
        · rfl
    · simp [State.readMap]

@[simp] theorem State.issueReads_seqs (k : Nat) : seqsOf (s.issueReads k).chans = seqsOf s.chans := by
  induction k generalizing s with
  | zero => rfl
  | succ k ih => rw [State.issueReads, ih, State.issueRead_seqs]

@[simp] theorem State.loadIssue_seqs (i : Nat) : seqsOf (s.loadIssue i).chans = seqsOf s.chans := by
  unfold State.loadIssue
  split
  · rfl
  · split
    · exact State.issue_seqs _ _
    · rfl

@[simp] theorem State.ledgIssue_seqs (i : Nat) : seqsOf (s.ledgIssue i).chans = seqsOf s.chans := by
  unfold State.ledgIssue
  split
  · rfl
  · split
    · split
      · rfl
      · exact State.issue_seqs _ _
    · rfl

@[simp] theorem State.blankIssue_seqs (j : Nat) : seqsOf (s.blankIssue j).chans = seqsOf s.chans := by
  unfold State.blankIssue
  split
  · rfl
  · split
    · split
      · rfl
      · exact State.issue_seqs _ _
    · rfl

@[simp] theorem State.ledgPump_seqs : seqsOf s.ledgPump.chans = seqsOf s.chans := by
  unfold State.ledgPump
  split
  · rfl
  · rw [foldl_seqs _ State.blankIssue_seqs, foldl_seqs _ State.ledgIssue_seqs]

@[simp] theorem State.decRelease_seqs (e : Nat) : seqsOf (s.decRelease e).chans = seqsOf s.chans := by
  rw [State.decRelease, State.decPump, State.ledgPump_seqs, State.loadPump, foldl_seqs _ State.loadIssue_seqs, State.pumpReads,
    State.issueReads_seqs]
  rfl

/-! ### Reads that end -/

@[simp] theorem State.readTileData_seqs (id k e st deep : Nat) : seqsOf (s.readTileData id k e st deep).chans = seqsOf s.chans := by
  unfold State.readTileData
  split
  · exact s.decRelease_seqs e
  · split
    · rfl
    · simp

@[simp] theorem State.chanReadEnd_seqs (e r g : Nat) (c : Bool) (d : Desc) (st : Nat) (res : List Half) :
    seqsOf (s.chanReadEnd e r g c d st res).chans = seqsOf s.chans := by
  unfold State.chanReadEnd
  split
  · simp
  · dsimp only
    split
    · rfl
    · rw [State.chanEnd_chans, State.decRelease_seqs]
      rfl

@[simp] theorem State.loadRead_seqs (i e st : Nat) : seqsOf (s.loadRead i e st).chans = seqsOf s.chans := State.decRelease_seqs _ _

@[simp] theorem State.ledgRead_seqs (i e st : Nat) : seqsOf (s.ledgRead i e st).chans = seqsOf s.chans := by
  unfold State.ledgRead
  split <;> exact State.decRelease_seqs _ _

@[simp] theorem State.blankRead_seqs (j e st : Nat) : seqsOf (s.blankRead j e st).chans = seqsOf s.chans := State.decRelease_seqs _ _

@[simp] theorem State.survivorEnd_seqs (id j e : Nat) : seqsOf ((s.decRelease e).survivorLost id j).chans = seqsOf s.chans :=
  s.decRelease_seqs e

@[simp] theorem State.rcvDeliver_seqs (w : RWho) (st detail deep : Nat) : seqsOf (s.rcvDeliver w st detail deep).chans = seqsOf s.chans := by
  unfold State.rcvDeliver
  split
  · exact s.chanReadEnd_seqs _ _ _ _ _ _ _
  · exact s.readTileData_seqs _ _ _ _ _
  · split
    · rfl
    · exact s.survivorEnd_seqs _ _ _
  · rfl
  · exact s.loadRead_seqs _ _ _
  · exact s.ledgRead_seqs _ _ _

/-! ### The recovery engine -/

@[simp] theorem State.rcvFree_seqs (q : RReq) : seqsOf (s.rcvFree q).chans = seqsOf s.chans := by
  have hgroup : ∀ (u : State) (g : LGroup), seqsOf (u.groupFree g).chans = seqsOf u.chans := fun u g => by
    unfold State.groupFree
    split
    · split
      · rfl
      · exact u.decRelease_seqs _
    · rfl
  unfold State.rcvFree
  dsimp only
  split
  · exact foldl_seqs _ hgroup _ s
  · exact foldl_seqs _ hgroup _ s

@[simp] theorem State.rcvAdmitNext_seqs : seqsOf s.rcvAdmitNext.chans = seqsOf s.chans :=
  foldl_seqs _ (fun u w => by rw [u.rcvAdmit_chans w]) _ _

@[simp] theorem State.rcvEnd_seqs (q : RReq) (st detail : Nat) : seqsOf (s.rcvEnd q st detail).chans = seqsOf s.chans := by
  unfold State.rcvEnd
  dsimp only
  rw [State.rcvAdmitNext_seqs, foldl_seqs _ (fun u w => u.rcvDeliver_seqs w st detail q.deep),
    foldl_seqs _ (fun u w => by rw [u.cwCopy_chans])]
  exact (State.rcvFree_seqs _ q).trans (by rw [State.ladderLog_chans])

@[simp] theorem State.rcvCheck_seqs (id : Nat) : seqsOf (s.rcvCheck id).chans = seqsOf s.chans := by
  unfold State.rcvCheck State.rcvPassed
  split
  · rfl
  · split
    · split <;> simp
    · split
      · exact s.rcvEnd_seqs _ _ _
      · rfl

@[simp] theorem State.stepEnd_seqs (id p : Nat) : seqsOf (s.stepEnd id p).chans = seqsOf s.chans := by
  unfold State.stepEnd
  split
  · rfl
  · split
    · rfl
    · split
      · rfl
      next e _ =>
        dsimp only
        rw [State.rcvCheck_seqs]
        have htaken : ∀ (q : RReq) (off : Nat → Nat) (ks : List Nat),
            seqsOf (ks.foldl (fun u k => u.cwTake e q.place k (off k)) s).chans = seqsOf s.chans := fun q off ks =>
          foldl_seqs _ (fun u k => by rw [u.cwTake_chans]) ks s
        split
        · exact htaken _ _ _
        · exact (State.decRelease_seqs _ e).trans (htaken _ _ _)

@[simp] theorem State.stepBroken_seqs (id p st : Nat) : seqsOf (s.stepBroken id p st).chans = seqsOf s.chans := by
  unfold State.stepBroken
  split
  · rfl
  · dsimp only
    split
    · exact s.decRelease_seqs _
    · split <;> simp

@[simp] theorem State.readRoute_seqs (d : Desc) (w : RWho) (st : Nat) (res : List Half) :
    seqsOf (s.readRoute d w st res).chans = seqsOf s.chans := by
  unfold State.readRoute
  split
  · split
    · simp
    · split <;> simp
  · split
    · exact s.chanReadEnd_seqs _ _ _ _ _ _ _
    · exact s.readTileData_seqs _ _ _ _ _
    · split
      · rfl
      · exact s.survivorEnd_seqs _ _ _
    · rfl
    · exact s.loadRead_seqs _ _ _
    · exact s.ledgRead_seqs _ _ _

@[simp] theorem State.patrolDone_seqs (d : Desc) (st : Nat) : seqsOf (s.patrolDone d st).chans = seqsOf s.chans := by
  unfold State.patrolDone State.decRaise
  dsimp only
  split <;> simp

@[simp] theorem State.shadowDone_seqs (n : Nat) (d : Desc) (st e0 e1 e2 : Nat) : seqsOf (s.shadowDone n d st e0 e1 e2).chans = seqsOf s.chans := by
  unfold State.shadowDone State.decRaise
  dsimp only
  split
  · simp
  · split <;> simp

@[simp] theorem State.recoveryRead_seqs (d : Desc) (st : Nat) : seqsOf (s.recoveryRead d st).chans = seqsOf s.chans := by
  have hnbr : ∀ id, seqsOf (s.nbrDone id d.dbuf st).chans = seqsOf s.chans := fun id => by
    unfold State.nbrDone
    dsimp only
    split <;> exact s.decRelease_seqs _
  unfold State.recoveryRead
  split
  · split
    · exact s.decRelease_seqs _
    · split <;> simp
  · exact s.readRoute_seqs _ _ _ _
  · exact hnbr _
  · split <;> simp
  · split <;> simp
  · exact s.blankRead_seqs _ _ _
  · exact s.decRelease_seqs _

/-! ### The end of a read, a verify or a scan -/

/-- The origin of a descriptor that neither programs nor erases takes the outcome. -/
theorem State.deliver_seqs {d : Desc} (hop : 3 ≤ d.opcode) (n st : Nat) (res : List Half) :
    seqsOf (s.deliver n d st res).chans = seqsOf s.chans := by
  have hprog : ¬(d.opcode = 1 ∧ d.org ≠ 1) := by omega
  have herase : ¬d.opcode = 2 := by omega
  unfold State.deliver
  simp only [if_neg hprog, if_neg herase]
  split
  · split
    · exact s.readRoute_seqs _ _ _ _
    · split <;> simp
  · split
    · split
      · exact s.shadowDone_seqs _ _ _ _ _ _
      · split
        · exact s.patrolDone_seqs _ _
        · rfl
    · split
      · split
        · exact s.recoveryRead_seqs _ _
        · rfl
      · split
        · exact s.readRoute_seqs _ _ _ _
        · rfl

theorem State.complete_seqs {d : Desc} (hop : 3 ≤ d.opcode) (n st : Nat) (res : List Half) :
    seqsOf (s.complete n d st res).chans = seqsOf s.chans := by
  have hfin : ∀ (u : State) (st : Nat), seqsOf (u.readFinish n ⟨d, res, st⟩).chans = seqsOf u.chans := fun u st => by
    unfold State.readFinish
    split
    · exact u.deliver_seqs hop _ _ _
    · dsimp only
      rw [State.deliver_seqs _ hop]
      split
      · rw [State.crcBad_chans]
      · rfl
  unfold State.complete
  lift_lets
  intro u st'
  have hu : seqsOf u.chans = seqsOf s.chans := s.freeSlot_seqs n d
  split
  · rw [State.deliver_seqs _ hop, hu]
  · split
    · exact (seqsOf_chMap u n _ rfl rfl).trans hu
    · rw [hfin, hu]

end

end Sys2Proof.Machine

end

-- Channel routines: the cycles that a routine drives (05_channel_operations.md R163, R173, R180).
section

open Sys2Proof Sys2Proof.Machine

namespace Sys2Proof.Machine

/-! ## Running a routine -/

section
variable {s : State} {n op : Nat} {d : Desc}

theorem State.opRun_runs (f : State → Desc → State) (hrun : (s.ch n).ctx.run = .run) (hdesc : (s.ch n).ctx.desc = some d) (hop : d.opcode = op)
    (htrap : (s.ch n).ctx.inTrap = false) (hwait : (s.ch n).ctx.statWait = false) (hbus : s.opBus n = true) : s.opRun n op f = f s d := by
  simp [State.opRun, hdesc, hrun, hop, htrap, hwait, hbus]

/-- A channel whose engine is idle and carries traffic is the block's. -/
theorem State.ownsCh_of_opBus (h : s.opBus n = true) : s.ownsCh n = true := by
  simp only [State.opBus, State.busMay, Bool.and_eq_true] at h
  exact h.1.1.1

end

/-! ## Cycles driven -/

/-- From `s` to `t` channel `n` has driven `ops` on target `c`; its descriptor and what the next cycles rest on are as before: the charter
mode of the targets, the dies' geometry, the ownership of the slice and the registers of the sequencer groups. -/
structure State.drove (s t : State) (n c : Nat) (ops : List BusOp) : Prop where
  bus : (t.ch n).eng.bus = ops.reverse ++ (s.ch n).eng.bus
  charter : (t.ch n).eng.charter = (s.ch n).eng.charter
  sel : (s.ch n).eng.sel = some c → (t.ch n).eng.sel = some c
  phy : (t.ch n).phy = (s.ch n).phy
  desc : (t.ch n).ctx.desc = (s.ch n).ctx.desc
  owns : t.ownsCh n = s.ownsCh n
  seqg : ∀ a, 0x60000 ≤ a → t.rd a = s.rd a

section
variable {s t u : State} {n c : Nat} {ops ops' : List BusOp}

theorem State.ownsCh_congr (hgen : t.gen = s.gen) (hpwr : t.pwr = s.pwr) (hown : (t.ch n).own = (s.ch n).own) : t.ownsCh n = s.ownsCh n := by
  rw [State.ownsCh, State.ownsCh, hgen, hown, State.powered, State.powered, State.dom, State.dom, hpwr]

theorem State.drove.trans (h : s.drove t n c ops) (k : t.drove u n c ops') : s.drove u n c (ops ++ ops') where
  bus := by rw [k.bus, h.bus, List.reverse_append, List.append_assoc]
  charter := k.charter.trans h.charter
  sel := fun hc => k.sel (h.sel hc)
  phy := k.phy.trans h.phy
  desc := k.desc.trans h.desc
  owns := k.owns.trans h.owns
  seqg := fun a ha => (k.seqg a ha).trans (h.seqg a ha)

/-- A step that leaves the channel and these registers alone drives nothing. -/
theorem State.drove_nothing (hch : t.ch n = s.ch n) (hgen : t.gen = s.gen) (hpwr : t.pwr = s.pwr)
    (hrd : ∀ a, 0x60000 ≤ a → t.rd a = s.rd a) : s.drove t n c [] := by
  refine ⟨?_, ?_, ?_, ?_, ?_, State.ownsCh_congr hgen hpwr ?_, hrd⟩ <;> rw [hch]
  · rfl
  · exact id

theorem State.drove_refl (s : State) (n c : Nat) : s.drove s n c [] := State.drove_nothing rfl rfl rfl fun _ _ => rfl

/-- Work of the cycle engine that is `ops`. -/
theorem State.busWork.drove (h : s.busWork t n) (hbus : (t.ch n).eng.bus = ops.reverse ++ (s.ch n).eng.bus)
    (hcharter : (t.ch n).eng.charter = (s.ch n).eng.charter) (hsel : (s.ch n).eng.sel = some c → (t.ch n).eng.sel = some c) :
    s.drove t n c ops := by
  have hown : (t.ch n).own = (s.ch n).own := by
    obtain ⟨⟨e, hch⟩, -⟩ := h
    rw [hch, if_pos rfl]
  have hrd := h.rd
  obtain ⟨-, hframe⟩ := id h
  exact ⟨hbus, hcharter, hsel, h.phy, by rw [h.ctx], State.ownsCh_congr (by rw [hframe]) (by rw [hframe]) hown, fun a _ => hrd a⟩

/-- Cycles reach the bus of a slice that the block owns. -/
theorem State.drive_owned (howns : s.ownsCh n = true) (ops : List BusOp) :
    s.drive n ops = s.engMap n (fun e => { e with bus := ops.reverse ++ e.bus }) := by rw [State.drive, if_pos howns]

theorem State.drove_drive (howns : s.ownsCh n = true) (ops : List BusOp) : s.drove (s.drive n ops) n c ops := by
  refine (s.busWork_drive n ops).drove ?_ ?_ ?_ <;> rw [State.drive_owned howns, State.eng_engMap]
  exact id

theorem State.drove_engMap (f : EngS → EngS) (hbus : ∀ e, (f e).bus = e.bus) (hcharter : ∀ e, (f e).charter = e.charter)
    (hsel : ∀ e, e.sel = some c → (f e).sel = some c) : s.drove (s.engMap n f) n c [] := by
  refine (s.busWork_engMap n f).drove ?_ ?_ ?_ <;> rw [State.eng_engMap]
  · exact hbus _
  · exact hcharter _
  · exact hsel _

theorem State.drove_lunMap (k l : Nat) (f : LunS → LunS) : s.drove (s.lunMap k l f) n c [] := State.drove_nothing rfl rfl rfl fun _ _ => rfl

theorem State.drove_ctxMap (f : CtxS → CtxS) (hdesc : ∀ x, (f x).desc = x.desc) : s.drove (s.ctxMap n f) n c [] := by
  refine ⟨?_, ?_, ?_, ?_, ?_, State.ownsCh_congr rfl rfl ?_, fun _ _ => rfl⟩ <;> rw [State.ctxMap, State.ch_chMap, if_pos rfl]
  · rfl
  · exact id
  · exact hdesc _

theorem State.drove_placeMap (p : Nat) (f : PlaceS → PlaceS) : s.drove (s.placeMap n p f) n c [] := by
  refine ⟨?_, ?_, ?_, ?_, ?_, State.ownsCh_congr rfl rfl ?_, fun _ _ => rfl⟩ <;> rw [State.placeMap, State.ch_chMap, if_pos rfl]
  · rfl
  · exact id

/-! ### What the next cycles show -/

theorem State.drove.guardCmd (h : s.drove t n c ops) (b : Nat) : t.guardCmd n b = s.guardCmd n b := by
  have hg : t.get (R.SEQG_GUARD_CMD_BYTES (n / 8)) = s.get (R.SEQG_GUARD_CMD_BYTES (n / 8)) :=
    State.get_of_rd (h.seqg _ (by change 0x60000 ≤ 0x60064 + n / 8 * 0x1000; omega))
  rw [State.guardCmd, State.guardCmd, hg]

theorem State.drove.rowBytes (h : s.drove t n c ops) (a p g : Nat) : t.rowBytes n a p g = s.rowBytes n a p g := by
  rw [State.rowBytes, State.rowBytes, h.phy]

theorem State.drove.addr5 (h : s.drove t n c ops) (a p col : Nat) : t.addr5 n a p col = s.addr5 n a p col := by
  rw [State.addr5, State.addr5, h.rowBytes]

theorem State.drove.statOps (h : s.drove t n c ops) (l : Nat) : t.statOps n l = s.statOps n l := by
  rw [State.statOps, State.statOps, h.rowBytes]

end

/-! ## Cycles of a routine on its target -/

/-- From `s` to `t` channel `n` has driven `ops` on target `c`, and the cycle engine alone has changed. -/
structure State.sends (s t : State) (n c : Nat) (ops : List BusOp) : Prop extends s.drove t n c ops where
  work : s.busWork t n
  luns : t.luns = s.luns

section
variable {s t u : State} {n c : Nat} {d : Desc} {ops ops' : List BusOp}

theorem State.sends.trans (h : s.sends t n c ops) (k : t.sends u n c ops') : s.sends u n c (ops ++ ops') :=
  ⟨h.todrove.trans k.todrove, h.work.trans k.work, k.luns.trans h.luns⟩

theorem State.sends_drive (howns : s.ownsCh n = true) (ops : List BusOp) : s.sends (s.drive n ops) n c ops :=
  ⟨State.drove_drive howns ops, s.busWork_drive n ops, s.luns_drive n ops⟩

theorem State.sends_engMap (f : EngS → EngS) (hbus : ∀ e, (f e).bus = e.bus) (hcharter : ∀ e, (f e).charter = e.charter)
    (hsel : ∀ e, e.sel = some c → (f e).sel = some c) : s.sends (s.engMap n f) n c [] :=
  ⟨State.drove_engMap f hbus hcharter hsel, s.busWork_engMap n f, rfl⟩

/-- Outside charter mode every command byte is taken. -/
theorem State.charterStop_none (h : (s.ch n).eng.charter.getLsbD c = false) (ops : List BusOp) : s.charterStop n c ops = none := by
  simp [State.charterStop, h]

theorem State.charterStop_nil (s : State) (n c : Nat) : s.charterStop n c [] = none := by
  unfold State.charterStop
  split <;> rfl

/-- The routine drives cycles that its target takes. -/
theorem State.opDrv_sends (howns : s.ownsCh n = true) (hstop : s.charterStop n (d.lun % 8) ops = none) (k : State → State) :
    ∃ u, s.opDrv n d ops k = k u ∧ s.sends u n (d.lun % 8) ops := by
  refine ⟨s.drive n ops, ?_, State.sends_drive howns ops⟩
  simp only [State.opDrv, hstop]

/-- The routine selects its target and drives cycles that the target takes. -/
theorem State.opSend_sends (howns : s.ownsCh n = true) (hok : (s.ch n).eng.charter.getLsbD (d.lun % 8) = false ∨ ops = []) (k : State → State) :
    ∃ u, s.opSend n d ops k = k u ∧ s.sends u n (d.lun % 8) (.sel (d.lun % 8) :: ops) ∧ (u.ch n).eng.sel = some (d.lun % 8) ∧
      (u.ch n).eng.preMiss = (s.ch n).eng.preMiss := by
  have hsel : s.sends _ n (d.lun % 8) _ := (State.sends_drive howns [.sel (d.lun % 8)]).trans
    (State.sends_engMap (n := n) (fun e => { e with sel := some (d.lun % 8), last := 0, row := none, discard := false, refused := false })
      (fun _ => rfl) (fun _ => rfl) (fun _ _ => rfl))
  have heng := (s.drive n [.sel (d.lun % 8)]).eng_engMap n
    (fun e => { e with sel := some (d.lun % 8), last := 0, row := none, discard := false, refused := false })
  unfold State.opSend
  dsimp only
  generalize State.engMap _ n _ = u at hsel heng ⊢
  have hstop : u.charterStop n (d.lun % 8) ops = none := by
    rcases hok with hc | rfl
    · exact State.charterStop_none (by rw [hsel.charter, hc]) ops
    · exact u.charterStop_nil n _
  refine ⟨u.drive n ops, by simp only [State.opDrv, hstop], hsel.trans (State.sends_drive (hsel.owns.trans howns) ops), ?_, ?_⟩
  · exact (State.sends_drive (hsel.owns.trans howns) ops).sel (by rw [heng])
  · rw [State.drive_owned (hsel.owns.trans howns), State.eng_engMap, heng, State.drive_owned howns, State.eng_engMap]

/-- A row address behind a command byte that is not checked is driven. -/
theorem State.opRow_sends {cmd : Nat} (howns : s.ownsCh n = true) (hguard : s.guardCmd n cmd = false) (a : Nat) (k : State → State) :
    ∃ u, s.opRow n d a cmd ops k = k u ∧ s.sends u n c ops := by
  refine ⟨(s.drive n ops).engMap n (fun e => { e with last := cmd, row := some (d.lun, taBlk a, taPage a) }), ?_, ?_⟩
  · simp only [State.opRow, hguard, Bool.false_eq_true, if_false]
  have h : s.sends _ n c _ := (State.sends_drive howns ops).trans
    (State.sends_engMap (fun e => { e with last := cmd, row := some (d.lun, taBlk a, taPage a) }) (fun _ => rfl) (fun _ => rfl) (fun _ h => h))
  rwa [List.append_nil] at h

end

end Sys2Proof.Machine

end

-- Channel routines: the array reads (05_channel_operations.md R163, R180; 07_read_recovery.md R216).
section

open Sys2Proof Sys2Proof.Machine

namespace Sys2Proof.Machine

/-! ## Parking -/

@[simp] theorem State.ch_lunMap (s : State) (n l : Nat) (f : LunS → LunS) (k : Nat) : (s.lunMap n l f).ch k = s.ch k := (rfl)

/-- In `t` only channels and LUNs may differ. -/
def State.chanLuns (s t : State) : Prop := t = { s with chans := t.chans, luns := t.luns }

theorem State.chanLuns.trans {s t u : State} (h : s.chanLuns t) (k : t.chanLuns u) : s.chanLuns u := by
  unfold State.chanLuns at h k ⊢
  rw [k, h]

theorem State.chanLuns_chMap (s : State) (n : Nat) (f : ChS → ChS) : s.chanLuns (s.chMap n f) := rfl

theorem State.chanLuns_lunMap (s : State) (n l : Nat) (f : LunS → LunS) : s.chanLuns (s.lunMap n l f) := rfl

section
variable {u : State} {n : Nat} {d : Desc} (cont cls : Nat)

theorem State.parkAt_lun : (u.parkAt n d cont cls).lun n d.lun = (u.lun n d.lun).parked ((u.ch n).parkRec d cont cls) := by
  rw [State.parkAt_eq, State.lun_withLuns, State.lun_lunMap, if_pos rfl]

theorem State.parkAt_frame : u.chanLuns (u.parkAt n d cont cls) :=
  (((u.chanLuns_lunMap n d.lun _).trans (State.chanLuns_chMap _ n _)).trans (State.chanLuns_chMap _ n _)).trans (State.chanLuns_chMap _ n _)

theorem State.parkAt_other {k : Nat} (hk : k ≠ n) : (u.parkAt n d cont cls).ch k = u.ch k := by
  simp only [State.parkAt, State.ctxIdle, State.ctxMap, State.ch_chMap, if_neg hk, State.ch_lunMap]

theorem State.parkAt_ch : (u.parkAt n d cont cls).ch n = { u.ch n with ctx := (u.ch n).ctx.ended, nextAge := (u.ch n).nextAge + 1 } := by
  simp only [State.parkAt, State.ctxIdle, State.ctxMap, State.ch_chMap, if_true, State.ch_lunMap]
  generalize u.ch n = x
  rfl

end

/-- What a park at a free continuation leaves: the LUN holds the record, the context is free, a free value is used. -/
structure State.parksFree (u t : State) (n : Nat) (d : Desc) (cls : Nat) : Prop where
  lun : ∃ r, t.lun n d.lun = (u.lun n d.lun).parked r ∧ r.cls = cls ∧ r.desc = d
  ctx : (t.ch n).ctx = (u.ch n).ctx.ended
  eng : (t.ch n).eng = (u.ch n).eng
  free : t.free = u.free + 1
  other : ∀ k, k ≠ n → t.ch k = u.ch k
  frame : t = { u with chans := t.chans, luns := t.luns, free := t.free }

theorem State.parkFree_effect (u : State) (n : Nat) (d : Desc) (cls : Nat) : u.parksFree (u.parkFree n d cls) n d cls := by
  have hcont : ∃ v, u.parkFree n d cls = State.parkAt { u with free := u.free + 1 } n d v cls := ⟨_, rfl⟩
  obtain ⟨v, hv⟩ := hcont
  have hframe := State.parkAt_frame (u := { u with free := u.free + 1 }) (n := n) (d := d) v cls
  have hlun := State.parkAt_lun (u := { u with free := u.free + 1 }) (n := n) (d := d) v cls
  have hch := State.parkAt_ch (u := { u with free := u.free + 1 }) (n := n) (d := d) v cls
  have hother : ∀ k, k ≠ n → _ := fun k => State.parkAt_other (u := { u with free := u.free + 1 }) (n := n) (d := d) v cls (k := k)
  rw [hv]
  generalize State.parkAt _ n d v cls = t at hframe hlun hch hother
  have hfree : t.free = u.free + 1 := by rw [hframe]
  exact ⟨⟨_, hlun, rfl, rfl⟩, by rw [hch]; rfl, by rw [hch]; rfl, hfree, hother, by rw [hfree]; exact hframe⟩

/-! ## The array read -/

/-- The part of a read routine once the array read has been sent. -/
def State.readPark (s : State) (n : Nat) (d : Desc) : State := ((s.setM n 3 1).lunMap n d.lun (fun x => { x with op := .read })).parkFree n d 0

/-- From `s` to `t` the routine of `d` has parked for an array read, the last command on the bus being its confirm. -/
structure State.readsParked (s t : State) (n : Nat) (d : Desc) : Prop where
  op : (t.lun n d.lun).op = .read
  park : (t.lun n d.lun).park.map (fun p => (p.cls, p.desc)) = some (0, d)
  run : (t.ch n).ctx.run = .idle
  desc : (t.ch n).ctx.desc = none
  sel : (t.ch n).eng.sel = some (d.lun % 8)
  bus : (t.ch n).eng.bus.head? = some (.cmd 0x30)
  free : t.free = s.free + 1
  other : ∀ k, k ≠ n → t.ch k = s.ch k
  frame : t = { s with chans := t.chans, luns := t.luns, free := t.free }

section
variable {s u : State} {n : Nat} {d : Desc} {ops : List BusOp}

theorem State.readPark_eng : ((u.readPark n d).ch n).eng = (u.ch n).eng := by
  have hmap : ((u.setM n 3 1).ch n).eng = (u.ch n).eng := by rw [State.setM, State.ctxMap, State.ch_chMap, if_pos rfl]
  exact (State.parkFree_effect _ n d 0).eng.trans hmap

theorem State.readPark_parked (h : s.busWork u n) (hsel : (u.ch n).eng.sel = some (d.lun % 8)) (hbus : (u.ch n).eng.bus.head? = some (.cmd 0x30)) :
    s.readsParked (u.readPark n d) n d := by
  have hpark : State.parksFree _ (u.readPark n d) n d 0 := State.parkFree_effect _ n d 0
  have heng : ((u.readPark n d).ch n).eng = (u.ch n).eng := State.readPark_eng
  have hother : ∀ k, k ≠ n → (State.lunMap (u.setM n 3 1) n d.lun (fun x => { x with op := .read })).ch k = s.ch k := fun k hk =>
    ((State.ch_lunMap _ _ _ _ _).trans (State.ch_chMap_other _ _ hk _)).trans (h.other hk)
  have hop : ((State.lunMap (u.setM n 3 1) n d.lun (fun x => { x with op := .read })).lun n d.lun).op = .read := by rw [State.lun_lunMap, if_pos rfl]
  obtain ⟨-, hframe⟩ := h
  have hwork : s.chanLuns (State.lunMap (u.setM n 3 1) n d.lun (fun x => { x with op := .read })) :=
    (State.chanLuns.trans hframe (State.chanLuns_chMap u n _)).trans (State.chanLuns_lunMap _ n d.lun _)
  generalize State.lunMap (u.setM n 3 1) n d.lun (fun x => { x with op := .read }) = v at hpark hother hop hwork
  have hfree : v.free = s.free := by rw [hwork]
  obtain ⟨⟨r, hlun, hcls, hdesc⟩, hctx, -, hnext, hkeep, hall⟩ := hpark
  refine ⟨?_, ?_, ?_, ?_, ?_, ?_, ?_, fun k hk => (hkeep k hk).trans (hother k hk), ?_⟩
  · rw [hlun, LunS.parked, hop]
  · rw [hlun, LunS.parked, Option.map_some, hcls, hdesc]
  · rw [hctx, CtxS.ended]
  · rw [hctx, CtxS.ended]
  · rw [heng, hsel]
  · rw [heng, hbus]
  · rw [hnext, hfree]
  · conv_lhs => rw [hall, hwork]

/-- The commands of the array read of a page, plane after plane, the last one with the confirm. -/
theorem State.readPlanes_sends (a : Nat) (k : State → State) (ps : List Nat) (hps : ps ≠ []) : ∀ (s : State), s.ownsCh n = true →
    (s.ch n).eng.charter.getLsbD (d.lun % 8) = false → s.guardCmd n 0x00 = false →
    ∃ u ops, State.readPlanes n d a k ps s = k u ∧ s.sends u n (d.lun % 8) ops ∧ (u.ch n).eng.sel = some (d.lun % 8) ∧
      (u.ch n).eng.bus.head? = some (.cmd 0x30) := by
  induction ps with
  | nil => exact absurd rfl hps
  | cons p ps ih =>
    intro s howns hcharter hguard
    unfold State.readPlanes
    obtain ⟨u₁, hrun₁, h₁, hsel₁, -⟩ := State.opSend_sends (d := d) (ops := s.prefixOps n d.tlc ++ [.cmd 0x00]) howns (.inl hcharter) _
    obtain ⟨u₂, hrun₂, h₂⟩ := State.opRow_sends (c := d.lun % 8) (d := d) (ops := [u₁.addr5 n a p 0]) (cmd := 0x00) (h₁.owns.trans howns)
      (by rw [h₁.guardCmd, hguard]) a _
    have h₁₂ := h₁.trans h₂
    obtain ⟨u₃, hrun₃, h₃⟩ := State.opDrv_sends (d := d) (ops := [.cmd (if ps = [] then 0x30 else 0x32)]) (h₁₂.owns.trans howns)
      (State.charterStop_none (by rw [h₁₂.charter, hcharter]) _) _
    have h₄ := (h₁₂.trans h₃).trans (State.sends_engMap (fun e => { e with last := if ps = [] then 0x30 else 0x32 }) (fun _ => rfl) (fun _ => rfl)
      (fun _ h => h))
    have hsel₄ := (h₂.trans (h₃.trans (State.sends_engMap (fun e => { e with last := if ps = [] then 0x30 else 0x32 }) (fun _ => rfl)
      (fun _ => rfl) (fun _ h => h)))).sel hsel₁
    rw [hrun₁, hrun₂, hrun₃]
    by_cases hlast : ps = []
    · subst hlast
      refine ⟨_, _, rfl, h₄, hsel₄, ?_⟩
      rw [h₄.bus]
      simp
    · obtain ⟨u, ops, hrun, hu, hsel, hbus⟩ := ih hlast _ (h₄.owns.trans howns) (by rw [h₄.charter, hcharter]) (by rw [h₄.guardCmd, hguard])
      exact ⟨u, _, hrun, h₄.trans hu, hsel, hbus⟩

/-- The offsets of a pass go out where the LUN does not have them yet. -/
theorem State.refSend_drove (howns : s.ownsCh n = true) (hcharter : (s.ch n).eng.charter.getLsbD (d.lun % 8) = false) (o : List Int)
    (k : State → State) : ∃ u ops, s.refSend n d o k = k u ∧ s.busWork u n ∧ s.drove u n (d.lun % 8) ops ∧
      (u.lun n d.lun).suspended = (s.lun n d.lun).suspended := by
  unfold State.refSend
  split
  · exact ⟨s, [], rfl, s.busWork_refl n, s.drove_refl n _, rfl⟩
  · obtain ⟨u, hrun, hu, -, -⟩ := State.opSend_sends (d := d) (ops := (s.refFeatures d.tlc o).flatMap
      (fun x => [BusOp.cmd 0xD5, .addr [d.lun / 8, x.1], .data x.2])) howns (.inl hcharter) _
    refine ⟨_, _, hrun, hu.work.trans (u.busWork_lunMap n n d.lun _), hu.todrove.trans (State.drove_lunMap _ _ _), ?_⟩
    rw [State.lun_lunMap, if_pos rfl, LunS.refNote, apply_ite LunS.suspended, ite_self, State.lun, hu.luns]
    rfl

/-- The part of a read routine that follows the confirm: on a suspended LUN it keeps the context. -/
def State.readRest (s : State) (n : Nat) (d : Desc) : State :=
  if ((s.setM n 3 1).lun n d.lun).suspended then s.setM n 3 1 else s.readPark n d

theorem State.readSend_eq (s : State) (n : Nat) (d : Desc) (a : Nat) (ps : List Nat) (i : Nat) : s.readSend n d a ps i =
    if s.rateHold n then s
    else s.refSend n d ((s.lun n d.lun).ofs.getD i []) (fun s => State.readPlanes n d a (fun s => s.readRest n d) ps s) := rfl

theorem State.readRest_eq (h : (s.lun n d.lun).suspended = false) : s.readRest n d = s.readPark n d := by
  have hsusp : ((s.setM n 3 1).lun n d.lun).suspended = false := h
  rw [State.readRest, hsusp, if_neg Bool.false_ne_true]

/-- A read routine sends its array read and parks. -/
theorem State.readSend_parked (howns : s.ownsCh n = true) (hcharter : (s.ch n).eng.charter.getLsbD (d.lun % 8) = false)
    (hrate : s.rateHold n = false) (hsusp : (s.lun n d.lun).suspended = false) (hguard : s.guardCmd n 0x00 = false) (a : Nat) {ps : List Nat}
    (hps : ps ≠ []) (i : Nat) : s.readsParked (s.readSend n d a ps i) n d ∧
      ((s.readSend n d a ps i).ch n).eng.charter.getLsbD (d.lun % 8) = false := by
  rw [State.readSend_eq, hrate, if_neg Bool.false_ne_true]
  obtain ⟨v, _, hrunv, hworkv, hv, hsuspv⟩ := State.refSend_drove howns hcharter ((s.lun n d.lun).ofs.getD i [])
    (fun s => State.readPlanes n d a (fun s => s.readRest n d) ps s)
  obtain ⟨u, _, hrun, hu, hsel, hbus⟩ := State.readPlanes_sends (d := d) a (fun s => s.readRest n d) ps hps v (hv.owns.trans howns)
    (by rw [hv.charter, hcharter]) (by rw [hv.guardCmd, hguard])
  have hsuspu : (u.lun n d.lun).suspended = false := by rw [State.lun, hu.luns, ← State.lun, hsuspv, hsusp]
  rw [hrunv, hrun, State.readRest_eq hsuspu]
  exact ⟨State.readPark_parked (hworkv.trans hu.work) hsel hbus, by rw [State.readPark_eng, hu.charter, hv.charter, hcharter]⟩

/-- The array read of READ_CHARTER, whose target is in charter mode. -/
def State.charterRead (s : State) (n : Nat) (d : Desc) : State :=
  (s.engMap n (fun e => { e with charter := e.charter ||| (1#8 <<< (d.lun % 8)) })).opRow n d d.taddr 0x00
    [(s.engMap n (fun e => { e with charter := e.charter ||| (1#8 <<< (d.lun % 8)) })).addr5 n d.taddr 0 0]
    (fun s => ((s.drive n [.cmd 0x30]).engMap n (fun e => { e with last := 0x30 })).readRest n d)

theorem charterBit_set (x : BitVec 8) (l : Nat) : (x ||| (1#8 <<< (l % 8))).getLsbD (l % 8) = true := by
  have hl : l % 8 < 8 := Nat.mod_lt _ (by decide)
  simp [hl]

theorem charterBit_clear (x : BitVec 8) (l : Nat) : (x &&& ~~~(1#8 <<< (l % 8))).getLsbD (l % 8) = false := by
  have hl : l % 8 < 8 := Nat.mod_lt _ (by decide)
  simp [hl]

/-- READ_CHARTER takes its target into charter mode, sends its array read and parks. -/
theorem State.charterRead_parked (h : s.sends u n (d.lun % 8) ops) (hsel : (u.ch n).eng.sel = some (d.lun % 8)) (howns : s.ownsCh n = true)
    (hsusp : (s.lun n d.lun).suspended = false) (hguard : s.guardCmd n 0x00 = false) :
    s.readsParked (u.charterRead n d) n d ∧ ((u.charterRead n d).ch n).eng.charter.getLsbD (d.lun % 8) = true := by
  have hw₁ := u.busWork_engMap n (fun e => { e with charter := e.charter ||| (1#8 <<< (d.lun % 8)) })
  have heng₁ := u.eng_engMap n (fun e => { e with charter := e.charter ||| (1#8 <<< (d.lun % 8)) })
  have howns₁ : (u.engMap n (fun e => { e with charter := e.charter ||| (1#8 <<< (d.lun % 8)) })).ownsCh n = true := by
    rw [← howns, ← h.owns]
    exact State.ownsCh_congr rfl rfl (by rw [State.engMap, State.ch_chMap, if_pos rfl])
  have hguard₁ : (u.engMap n (fun e => { e with charter := e.charter ||| (1#8 <<< (d.lun % 8)) })).guardCmd n 0x00 = false :=
    (h.guardCmd 0x00).trans hguard
  have hluns₁ : (u.engMap n (fun e => { e with charter := e.charter ||| (1#8 <<< (d.lun % 8)) })).luns = s.luns := h.luns
  unfold State.charterRead
  generalize u.engMap n _ = v at hw₁ heng₁ howns₁ hguard₁ hluns₁ ⊢
  obtain ⟨w, hrun, hw⟩ := State.opRow_sends (c := d.lun % 8) (d := d) (ops := [v.addr5 n d.taddr 0 0]) howns₁ hguard₁ d.taddr
    (fun s => ((s.drive n [.cmd 0x30]).engMap n (fun e => { e with last := 0x30 })).readRest n d)
  have hx := (hw.trans (State.sends_drive (hw.owns.trans howns₁) [.cmd 0x30])).trans
    (State.sends_engMap (fun e => { e with last := 0x30 }) (fun _ => rfl) (fun _ => rfl) (fun _ h => h))
  have hsuspx : (State.lun (State.engMap (w.drive n [.cmd 0x30]) n (fun e => { e with last := 0x30 })) n d.lun).suspended = false := by
    rw [State.lun, hx.luns, hluns₁, ← State.lun, hsusp]
  rw [hrun, State.readRest_eq hsuspx]
  refine ⟨State.readPark_parked ((h.work.trans hw₁).trans hx.work) (hx.sel (by rw [heng₁, hsel])) ?_, ?_⟩
  · rw [hx.bus]
    rfl
  · rw [State.readPark_eng, hx.charter, heng₁]
    exact charterBit_set _ _

end

end Sys2Proof.Machine

end

-- Channel routines: the data outputs and the end of a routine (05_channel_operations.md R153, R163, R178; 03_flash_bus.md R97, R98).
section

open Sys2Proof Sys2Proof.Machine

namespace Sys2Proof.Machine

/-! ## Data outputs -/

section
variable {s : State} {n c : Nat} {d : Desc}

/-- Tracking leaves the registers of the sequencer groups. -/
theorem State.rd_trackNote (hn : n < 48) (l : Nat) (o : List (List (Bool × Bool))) {a : Nat} (ha : 0x60000 ≤ a) :
    (s.trackNote n l o).rd a = s.rd a := by
  have htrack : a ≠ (R.CH_TRACK_MAX_OFS n).addr := by change a ≠ 0x30130 + n * 0x1000; omega
  have hevt : a ≠ pageBase .ch n + 0x10 := by change a ≠ 0x30000 + n * 0x1000 + 0x10; omega
  have hmax : (s.trackMax n o).rd a = s.rd a := State.rd_set_other _ _ _ htrack
  cases h : s.flag (R.CH_PHY_CTRL_TRACK_EN n) with
  | false => rw [State.trackNote_off l o h]
  | true =>
    rw [State.trackNote_on l o h]
    split
    · rw [← hmax]
      refine (State.rd_count _ _ _ _).trans ((State.rd_raise _ _ _ _ _).trans ((if_neg hevt).trans ?_))
      exact State.rd_set_other _ (R.CH_TRACK_LIM_CNT n) _ htrack
    · exact hmax

theorem State.drove_trackNote (hn : n < 48) (l : Nat) (o : List (List (Bool × Bool))) : s.drove (s.trackNote n l o) n c [] :=
  State.drove_nothing (by rw [State.ch, State.chans_trackNote, State.ch]) (by simp) (by simp) fun _ ha => State.rd_trackNote hn l o ha

theorem State.drove_dPut (e off : Nat) (bs : List Byte) : s.drove (s.dPut e off bs) n c [] :=
  State.drove_nothing (by rw [State.ch, State.dPut_chans, State.ch]) (by simp) (by simp) fun a _ => by
    rw [State.dPut, State.rd, State.bufWrote_regs]
    rfl

theorem State.drove_readLand (off len : Nat) : s.drove (s.readLand d off len) n c [] := State.drove_nothing rfl rfl rfl fun _ _ => rfl

/-- Cycles of one data output: the column command with its address, and the burst (R163). -/
def State.outOps (s : State) (n a plane col len : Nat) : List BusOp := [.cmd 0x06, s.addr5 n a plane col, .cmd 0xE0, .din len]

theorem State.drove.outOps {t : State} {ops : List BusOp} (h : s.drove t n c ops) (a plane col len : Nat) :
    t.outOps n a plane col len = s.outOps n a plane col len := by rw [State.outOps, State.outOps, h.addr5]

theorem State.outCmd_sends (howns : s.ownsCh n = true) (hguard : s.guardCmd n 0x06 = false) (a plane col len : Nat) (k : State → State) :
    ∃ u, s.outCmd n d a plane col len k = k u ∧ s.sends u n c (s.outOps n a plane col len) := by
  have h₁ : s.sends (s.drive n [.cmd 0x06]) n c [.cmd 0x06] := State.sends_drive howns _
  obtain ⟨u, hrun, h₂⟩ := State.opRow_sends (c := c) (d := d) (ops := [s.addr5 n a plane col]) (h₁.owns.trans howns)
    ((h₁.guardCmd 0x06).trans hguard) a (fun s => k (s.drive n [.cmd 0xE0, .din len]))
  exact ⟨_, hrun, (h₁.trans h₂).trans (State.sends_drive ((h₁.trans h₂).owns.trans howns) [.cmd 0xE0, .din len])⟩

/-- A burst whose preamble is found: the output is good and tracked. -/
theorem State.burstOut_drove (hn : n < 48) (howns : s.ownsCh n = true) (hguard : s.guardCmd n 0x06 = false) (a plane col len : Nat) {b : DieBurst}
    (hmiss : b.miss = 0) (bad good : State → State) : ∃ u, s.burstOut n d a plane col len b bad good = good u ∧
      s.drove u n c (s.outOps n a plane col len) ∧ (u.ch n).eng.preMiss = false := by
  have hmiss' : b.miss.val = 0 := by rw [hmiss]; rfl
  unfold State.burstOut
  simp only [hmiss', if_true]
  obtain ⟨v, hrun, hv⟩ := State.outCmd_sends (c := c) (d := d) howns hguard a plane col len
    (fun s => good ((s.engMap n (fun e => { e with preMiss := false })).trackNote n d.lun b.lanes))
  refine ⟨_, hrun, ?_, ?_⟩
  · have h := (hv.todrove.trans (State.drove_engMap (fun e => { e with preMiss := false }) (fun _ => rfl) (fun _ => rfl) fun _ h => h)).trans
      (State.drove_trackNote hn d.lun b.lanes)
    rwa [List.append_nil, List.append_nil] at h
  · rw [State.ch, State.chans_trackNote, ← State.ch, State.eng_engMap]

theorem misses_head {bs : List DieBurst} (h : ∀ b ∈ bs, b.miss = 0) : (bs.headD ⟨0, [], []⟩).miss = 0 := by
  cases bs with
  | nil => rfl
  | cons b bs => exact h b List.mem_cons_self

/-- Chunks of data output, burst after burst. -/
theorem State.readOut_drove (hn : n < 48) (a : Nat) (bad k : State → State) (cs : List Chunk) : ∀ (s : State) (bs : List DieBurst),
    s.ownsCh n = true → s.guardCmd n 0x06 = false → (∀ b ∈ bs, b.miss = 0) →
    ∃ u, State.readOut n d a bad k cs bs s = k u ∧ s.drove u n c (cs.flatMap (fun x => s.outOps n a x.2.2.1 x.2.2.2 x.2.1)) ∧
      (u.ch n).eng.preMiss = if cs = [] then (s.ch n).eng.preMiss else false := by
  induction cs with
  | nil => exact fun s bs _ _ _ => ⟨s, rfl, s.drove_refl n c, rfl⟩
  | cons x cs ih =>
    obtain ⟨off, len, p, col⟩ := x
    intro s bs howns hguard hmiss
    unfold State.readOut
    dsimp only
    obtain ⟨v, hrun, hv, hpre⟩ := State.burstOut_drove (c := c) (d := d) hn howns hguard a p col len (misses_head hmiss) bad (fun s =>
      State.readOut n d a bad k cs (bs.drop 1) (if d.decodes then (s.dPut d.dbuf off (padBytes len (bs.headD ⟨0, [], []⟩).bytes)).readLand d off len
        else s.dPut d.dbuf off (padBytes len (bs.headD ⟨0, [], []⟩).bytes)))
    have hland : ∀ w : State, w = (if d.decodes then (v.dPut d.dbuf off (padBytes len (bs.headD ⟨0, [], []⟩).bytes)).readLand d off len
        else v.dPut d.dbuf off (padBytes len (bs.headD ⟨0, [], []⟩).bytes)) → v.drove w n c [] ∧ w.chans = v.chans := by
      rintro w rfl
      have hput := v.dPut_chans d.dbuf off (padBytes len (bs.headD ⟨0, [], []⟩).bytes)
      split
      · exact ⟨(State.drove_dPut _ _ _).trans (State.drove_readLand _ _), hput⟩
      · exact ⟨State.drove_dPut _ _ _, hput⟩
    rw [hrun]
    obtain ⟨hw, hwch⟩ := hland _ rfl
    generalize (if d.decodes then (v.dPut d.dbuf off (padBytes len (bs.headD ⟨0, [], []⟩).bytes)).readLand d off len
        else v.dPut d.dbuf off (padBytes len (bs.headD ⟨0, [], []⟩).bytes)) = w at hw hwch ⊢
    have hvw := hv.trans hw
    obtain ⟨u, hrest, hu, hupre⟩ := ih w (bs.drop 1) (hvw.owns.trans howns) ((hvw.guardCmd 0x06).trans hguard)
      (fun b hb => hmiss b (List.mem_of_mem_drop hb))
    refine ⟨u, hrest, ?_, ?_⟩
    · have h := hvw.trans hu
      simpa only [hvw.outOps, List.append_nil, List.flatMap_cons] using h
    · rw [hupre, if_neg (List.cons_ne_nil _ _), State.ch, hwch, ← State.ch, hpre, ite_self]

/-- The factory marks of planes, burst after burst. -/
theorem State.markOut_drove (hn : n < 48) (a : Nat) (k : Bool → State → State) (ps : List Nat) : ∀ (s : State) (bs : List DieBurst) (m : Bool),
    s.ownsCh n = true → s.guardCmd n 0x06 = false → (∀ b ∈ bs, b.miss = 0) →
    ∃ u m' ops, State.markOut n d a k ps bs m s = k m' u ∧ s.drove u n c ops := by
  induction ps with
  | nil => exact fun s bs m _ _ _ => ⟨s, m, [], rfl, s.drove_refl n c⟩
  | cons p ps ih =>
    intro s bs m howns hguard hmiss
    unfold State.markOut
    dsimp only
    obtain ⟨v, hrun, hv, -⟩ := State.burstOut_drove (c := c) (d := d) hn howns hguard a p 16384 1 (misses_head hmiss) (State.phyErr n d) (fun s =>
      State.markOut n d a k ps (bs.drop 1) (m || (padBytes 1 (bs.headD ⟨0, [], []⟩).bytes).any (fun x => x ≠ 0xFF#8)) s)
    obtain ⟨u, m', ops, hrest, hu⟩ := ih v (bs.drop 1) (m || (padBytes 1 (bs.headD ⟨0, [], []⟩).bytes).any (fun x => x ≠ 0xFF#8))
      (hv.owns.trans howns) ((hv.guardCmd 0x06).trans hguard) (fun b hb => hmiss b (List.mem_of_mem_drop hb))
    exact ⟨u, m', _, hrun.trans hrest, hv.trans hu⟩

end

/-! ## The end of a routine -/

section
variable {s : State} {n : Nat} {d : Desc}

/-- A read, verify or scan that ends leaves the context free and the cycle engine as it was. -/
theorem State.opFinish_ends (hop : 3 ≤ d.opcode) (hdesc : (s.ch n).ctx.desc = some d) (st e h2 h3 : Nat) :
    ((s.opFinish n d st e h2 h3).ch n).ctx.run = .idle ∧ ((s.opFinish n d st e h2 h3).ch n).ctx.desc = none ∧
    ((s.opFinish n d st e h2 h3).ch n).eng = (s.ch n).eng := by
  have hres : ((s.ctxMap n (fun c => { c with res := s.stdRes n d e h2 h3 })).ch n) = { s.ch n with ctx := { (s.ch n).ctx with res := s.stdRes n d e h2 h3 } } := by
    rw [State.ctxMap, State.ch_chMap, if_pos rfl]
  unfold State.opFinish
  dsimp only
  generalize s.ctxMap n (fun c => { c with res := s.stdRes n d e h2 h3 }) = u at hres ⊢
  have hud : (u.ch n).ctx.desc = some d := by rw [hres]; exact hdesc
  have hclear : ((u.ctxMap n (fun c => { c with desc := none })).ch n) = { u.ch n with ctx := { (u.ch n).ctx with desc := none } } := by
    rw [State.ctxMap, State.ch_chMap, if_pos rfl]
  have hseqs := congrFun ((u.ctxMap n (fun c => { c with desc := none })).complete_seqs hop n st (u.ch n).ctx.res) n
  have hend : u.ctxComplete n st = (u.ctxMap n (fun c => { c with desc := none })).complete n d st (u.ch n).ctx.res := by
    simp only [State.ctxComplete, hud]
  rw [hend]
  generalize (u.ctxMap n (fun c => { c with desc := none })).complete n d st (u.ch n).ctx.res = v at hseqs ⊢
  obtain ⟨hctx, heng⟩ := Prod.ext_iff.mp hseqs
  change (v.ch n).ctx = (State.ch _ n).ctx at hctx
  change (v.ch n).eng = (State.ch _ n).eng at heng
  rw [hclear] at hctx heng
  rw [State.ctxIdle, State.ctxMap, State.ch_chMap, if_pos rfl]
  refine ⟨rfl, ?_, ?_⟩
  · dsimp only
    rw [hctx]
  · dsimp only
    rw [heng, hres]

end

end Sys2Proof.Machine

end

-- Channel routines: the reads, verifies and scans (05_channel_operations.md R163, R178, R180; 07_read_recovery.md R220; 13_power_state.md R403).
section

open Sys2Proof Sys2Proof.Machine

namespace Sys2Proof.Machine

/-- The context of channel `n` runs the routine of `d` outside a trap, over an idle cycle engine whose slice carries traffic. -/
structure State.runsOp (s : State) (n : Nat) (d : Desc) : Prop where
  run : (s.ch n).ctx.run = .run
  desc : (s.ch n).ctx.desc = some d
  trap : (s.ch n).ctx.inTrap = false
  wait : (s.ch n).ctx.statWait = false
  bus : s.opBus n = true

section
variable {s : State} {n : Nat} {d : Desc}

theorem State.runsOp.opRun {op : Nat} (h : s.runsOp n d) (hop : d.opcode = op) (f : State → Desc → State) : s.opRun n op f = f s d :=
  State.opRun_runs f h.run h.desc hop h.trap h.wait h.bus

theorem State.runsOp.owns (h : s.runsOp n d) : s.ownsCh n = true := State.ownsCh_of_opBus h.bus

theorem State.runsOp.out {op : Nat} (h : s.runsOp n d) (hop : d.opcode = op) {f : State → Desc → State} {t : State} (hf : f s d = t) :
    (.next (s.opRun n op f) : Out) = .next t := by rw [h.opRun hop, hf]

/-! ## Start of a read -/

theorem State.decRead_start (hm : s.getM n 3 = 0) (x : List DieBurst) : s.decRead n d x = s.readSend n d d.taddr d.planes (s.getM n 0) := by
  rw [State.decRead, if_pos hm]

/-- The page that BLANK_VERIFY reads `k`-th. -/
def State.blankPage (s : State) (n : Nat) (d : Desc) (k : Nat) : Nat := taSet d.taddr * 2048 + (s.blankPages n d.tlc).getD k 0

/-- The page that BB_SCAN reads `k`-th. -/
def State.scanPage (s : State) (n : Nat) (d : Desc) (k : Nat) : Nat :=
  taddrOf n d.lun (d.mask + k / 2) (if k % 2 = 0 then 0 else (match (s.ch n).phy.geo with
    | some g => g.pages d.tlc
    | none => 1) - 1)

end

section
variable {s : State} {n : Fin 48} {d : Desc}

theorem State.blankVerify_start (h : s.runsOp n d) (hop : d.opcode = 7) (hm : s.getM n 3 = 0) (x : List DieBurst) :
    exec (.opBlankVerify n x) s = .next (s.readSend n d (s.blankPage n d (s.getM n 0)) [0, 1, 2, 3] 0) :=
  h.out hop (if_pos hm)

theorem State.bbScan_start (h : s.runsOp n d) (hop : d.opcode = 9) (hm : s.getM n 3 = 0) (x : List DieBurst) :
    exec (.opBbScan n x) s = .next (s.readSend n d (s.scanPage n d (s.getM n 0)) [0, 1, 2, 3] 0) :=
  h.out hop (if_pos hm)

theorem State.readCharter_start (h : s.runsOp n d) (hop : d.opcode = 8) (hen : s.flag (R.CH_CHARTER_EN n) = true) (hm : s.getM n 3 = 0)
    (hrate : s.rateHold n = false) (x : List DieBurst) : exec (.opReadCharter n x) s = .next
      (s.opSend n d [.cmd 0xEF, .addr [s.get (R.CH_CHARTER_FEAT n)], .dout 4, .cmd 0x00] (fun s => s.charterRead n d)) := by
  refine h.out hop ?_
  dsimp only
  rw [hen, if_neg (by decide), if_pos hm, hrate, if_neg Bool.false_ne_true]
  rfl

/-- What the start of a read routine leaves. -/
theorem State.read_starts (h : s.runsOp n d) (hcharter : (s.ch n).eng.charter.getLsbD (d.lun % 8) = false) (x : List DieBurst) (hm : s.getM n 3 = 0)
    (hrate : s.rateHold n = false) (hsusp : (s.lun n d.lun).suspended = false) (hguard : s.guardCmd n 0x00 = false)
    (hen : d.opcode = 8 → s.flag (R.CH_CHARTER_EN n) = true) (hplanes : 3 ≤ d.opcode → d.opcode ≤ 6 → d.planes ≠ []) :
    ∀ q ∈ ([(3, .opReadTile n x), (4, .opReadCw n x), (5, .opShadow n x), (6, .opPatrol n x), (7, .opBlankVerify n x),
      (8, .opReadCharter n x), (9, .opBbScan n x)] : List (Nat × Instr)), d.opcode = q.1 →
    ∃ t, exec q.2 s = .next t ∧ s.readsParked t n d ∧ (t.ch n).eng.charter.getLsbD (d.lun % 8) = decide (d.opcode = 8) := by
  have hsend : ∀ a ps i, ps ≠ [] → d.opcode ≠ 8 → s.readsParked (s.readSend n d a ps i) n d ∧
      ((s.readSend n d a ps i).ch n).eng.charter.getLsbD (d.lun % 8) = decide (d.opcode = 8) := fun a ps i hps hop => by
    rw [decide_eq_false hop]
    exact State.readSend_parked h.owns hcharter hrate hsusp hguard a hps i
  have hdec : ∀ op, 3 ≤ op → op ≤ 6 → d.opcode = op → ∃ t, (.next (s.opRun n op (fun s d => s.decRead n d x)) : Out) = .next t ∧
      s.readsParked t n d ∧ (t.ch n).eng.charter.getLsbD (d.lun % 8) = decide (d.opcode = 8) := fun op hlo hhi hop => by
    refine ⟨_, h.out hop (State.decRead_start hm x), hsend _ _ _ (hplanes ?_ ?_) ?_⟩ <;> omega
  simp only [List.forall_mem_cons]
  refine ⟨hdec 3 (by decide) (by decide), hdec 4 (by decide) (by decide), hdec 5 (by decide) (by decide), hdec 6 (by decide) (by decide), ?_, ?_, ?_,
    fun q hq => absurd hq List.not_mem_nil⟩ <;> intro hop
  · exact ⟨_, State.blankVerify_start h hop hm x, hsend _ _ _ (List.cons_ne_nil _ _) (by omega)⟩
  · refine ⟨_, State.readCharter_start h hop (hen hop) hm hrate x, ?_⟩
    obtain ⟨u, hrun, hu, hsel, -⟩ := State.opSend_sends (d := d) (ops := [.cmd 0xEF, .addr [s.get (R.CH_CHARTER_FEAT n)], .dout 4, .cmd 0x00])
      h.owns (.inl hcharter) (fun s => s.charterRead n d)
    rw [hrun, decide_eq_true hop]
    exact State.charterRead_parked hu hsel h.owns hsusp hguard
  · exact ⟨_, State.bbScan_start h hop hm x, hsend _ _ _ (List.cons_ne_nil _ _) (by omega)⟩

end

/-- What BB_SCAN notes of its `k`-th page `a`, one of whose planes is marked or not: after the last page of a block set the set is marked and
counted (R178). -/
def State.scanNote (s : State) (n : Nat) (a k : Nat) (m : Bool) : State :=
  let marked : Bool := m || (k % 2 = 1 && s.getM n 2 = 1)
  let s := s.setM n 2 (b2n (marked && k % 2 = 0))
  if k % 2 = 1 ∧ marked then (s.blkMark a).setM n 1 (s.getM n 1 + 1) else s

section
variable (s : State) (n : Nat)

theorem State.setM_keeps (i v : Nat) : ((s.setM n i v).ch n).ctx.desc = (s.ch n).ctx.desc ∧ ((s.setM n i v).ch n).eng = (s.ch n).eng := by
  rw [State.setM, State.ctxMap, State.ch_chMap, if_pos rfl]
  exact ⟨rfl, rfl⟩

theorem State.scanNote_keeps (a k : Nat) (m : Bool) :
    ((s.scanNote n a k m).ch n).ctx.desc = (s.ch n).ctx.desc ∧ ((s.scanNote n a k m).ch n).eng = (s.ch n).eng := by
  have hmark : ∀ u : State, (u.blkMark a).ch n = u.ch n := fun u => by rw [State.blkMark, State.ch, State.sramRmw_chans, State.ch]
  unfold State.scanNote
  dsimp only
  generalize hv : b2n _ = v
  obtain ⟨hdesc, heng⟩ := s.setM_keeps n 2 v
  split
  · obtain ⟨hdesc', heng'⟩ := State.setM_keeps (State.blkMark (s.setM n 2 v) a) n 1 (State.getM (s.setM n 2 v) n 1 + 1)
    exact ⟨by rw [hdesc', hmark, hdesc], by rw [heng', hmark, heng]⟩
  · exact ⟨hdesc, heng⟩

end

/-! ## End of a read -/

section
variable {s : State} {n : Fin 48} {d : Desc} {x : List DieBurst}

/-- A read routine selects its target and puts its chunks out. -/
theorem State.runsOp.outputs (h : s.runsOp n d) (hguard : s.guardCmd n 0x06 = false) (hmiss : ∀ b ∈ x, b.miss = 0) (a : Nat) (cs : List Chunk)
    (bad k : State → State) : ∃ u, s.opSend n d [] (State.readOut n d a bad k cs x) = k u ∧
      s.drove u n (d.lun % 8) (.sel (d.lun % 8) :: cs.flatMap (fun c => s.outOps n a c.2.2.1 c.2.2.2 c.2.1)) ∧
      (u.ch n).eng.sel = some (d.lun % 8) ∧ (u.ch n).eng.preMiss = if cs = [] then (s.ch n).eng.preMiss else false := by
  obtain ⟨v, hrunv, hv, hsel, hpre⟩ := State.opSend_sends (d := d) (ops := []) h.owns (.inr rfl) (State.readOut n d a bad k cs x)
  obtain ⟨u, hrun, hu, hupre⟩ := State.readOut_drove (c := d.lun % 8) (d := d) n.isLt a bad k cs v x (hv.owns.trans h.owns)
    ((hv.guardCmd 0x06).trans hguard) hmiss
  refine ⟨u, hrunv.trans hrun, ?_, hu.sel hsel, by rw [hupre, hpre]⟩
  have hall := hv.todrove.trans hu
  simpa only [hv.outOps, List.singleton_append] using hall

/-- A whole-plane read has four chunks, another one a chunk for each codeword. -/
theorem Desc.chunks_eq_nil (d : Desc) (k : Nat) : d.chunks k = [] ↔ d.cws = [] := by
  unfold Desc.chunks
  split
  next h =>
    have hcws : d.cws = List.range 16 := by rw [Desc.cws, if_neg (by omega), if_neg (by omega)]
    rw [hcws]
    decide
  next => simp

/-- From `s` to `t` the routine of a decoded read has put its pass out and ended. -/
structure State.readEnded (s t : State) (n : Nat) (d : Desc) : Prop where
  run : (t.ch n).ctx.run = .idle
  desc : (t.ch n).ctx.desc = none
  preMiss : (t.ch n).eng.preMiss = (if d.cws = [] then (s.ch n).eng.preMiss else false)
  bus : (t.ch n).eng.bus = (BusOp.sel (d.lun % 8) :: (d.chunks (s.getM n 0)).flatMap (fun (c : Chunk) =>
    s.outOps n d.taddr c.2.2.1 c.2.2.2 c.2.1)).reverse ++ (s.ch n).eng.bus

/-- The last pass of a decoded read drives its data outputs, and the routine ends. -/
theorem State.decRead_ends (h : s.runsOp n d) (hlo : 3 ≤ d.opcode) (hm : s.getM n 3 ≠ 0) (hready : s.readReady n d = true)
    (hlast : s.getM n 0 + 1 = d.passes) (hguard : s.guardCmd n 0x06 = false) (hmiss : ∀ b ∈ x, b.miss = 0) :
    s.readEnded (s.decRead n d x) n d := by
  have hlast' : ¬ s.getM n 0 + 1 < d.passes := by omega
  obtain ⟨u, hrun, hu, -, hpre⟩ := h.outputs hguard hmiss d.taddr (d.chunks (s.getM n 0)) (State.phyErr n d) (fun s => s.opFinish n d 0 0 0 0)
  obtain ⟨hidle, hnone, heng⟩ := State.opFinish_ends hlo (hu.desc.trans h.desc) 0 0 0 0
  simp only [Desc.chunks_eq_nil] at hpre
  simp only [State.decRead, if_neg hm, hready, Bool.not_true, Bool.false_eq_true, if_false, if_neg hlast']
  rw [hrun]
  exact ⟨hidle, hnone, by rw [heng, hpre], by rw [heng, hu.bus]⟩

/-- The last page of a BLANK_VERIFY ends it. -/
theorem State.blankVerify_ends (h : s.runsOp n d) (hop : d.opcode = 7) (hm : s.getM n 3 ≠ 0) (hready : s.readReady n d = true)
    (hlast : (s.blankPages n d.tlc).length ≤ s.getM n 0 + 1) (hguard : s.guardCmd n 0x06 = false) (hmiss : ∀ b ∈ x, b.miss = 0) :
    ∃ t, exec (.opBlankVerify n x) s = .next t ∧ (t.ch n).ctx.run = .idle ∧ (t.ch n).ctx.desc = none ∧ (t.ch n).eng.sel = some (d.lun % 8) := by
  have hlast' : ¬ s.getM n 0 + 1 < (s.blankPages n d.tlc).length := by omega
  have hexec : exec (.opBlankVerify n x) s = .next (s.opSend n d [] (State.readOut n d (s.blankPage n d (s.getM n 0)) (State.phyErr n d)
      (fun s => if (List.range 16).any (fun c => s.get R.PWR_LEDG_CFG_BV_ZMAX < zeroBits (s.dGet d.dbuf (c * 4608) 4608))
        then s.opFinish n d 0x12 0 0 0 else s.opFinish n d 0 0 0 0) ([0, 1, 2, 3].map (fun p => (p * 18432, 18432, p, 0))) x)) := by
    refine h.out hop ((if_neg hm).trans ((if_neg (by rw [hready]; decide)).trans ?_))
    simp only [if_neg hlast']
    rfl
  obtain ⟨u, hrun, hu, hsel, -⟩ := h.outputs hguard hmiss (s.blankPage n d (s.getM n 0)) ([0, 1, 2, 3].map (fun p => (p * 18432, 18432, p, 0)))
    (State.phyErr n d) (fun s => if (List.range 16).any (fun c => s.get R.PWR_LEDG_CFG_BV_ZMAX < zeroBits (s.dGet d.dbuf (c * 4608) 4608))
      then s.opFinish n d 0x12 0 0 0 else s.opFinish n d 0 0 0 0)
  rw [hrun] at hexec
  refine ⟨_, hexec, ?_⟩
  have hend : ∀ st, _ := fun st => State.opFinish_ends (by omega) (hu.desc.trans h.desc) st 0 0 0
  split
  · obtain ⟨hidle, hnone, heng⟩ := hend 0x12
    exact ⟨hidle, hnone, by rw [heng, hsel]⟩
  · obtain ⟨hidle, hnone, heng⟩ := hend 0
    exact ⟨hidle, hnone, by rw [heng, hsel]⟩

/-- READ_CHARTER ends with Reset to its target. -/
theorem State.targetReset_eng (howns : s.ownsCh n = true) (c : Nat) : ((s.targetReset n c).ch n).eng =
    { (s.ch n).eng with bus := [.cmd 0xFF, .sel c] ++ (s.ch n).eng.bus, charter := (s.ch n).eng.charter &&& ~~~(1#8 <<< c) } := by
  simp only [State.targetReset, List.foldl_cons, List.foldl_nil, State.ch_lunMap, State.eng_engMap, State.drive_owned howns]
  rfl

theorem State.readCharter_ends (h : s.runsOp n d) (hop : d.opcode = 8) (hen : s.flag (R.CH_CHARTER_EN n) = true) (hm : s.getM n 3 ≠ 0)
    (hready : s.readReady n d = true) (hguard : s.guardCmd n 0x06 = false) (hmiss : ∀ b ∈ x, b.miss = 0) :
    ∃ t, exec (.opReadCharter n x) s = .next t ∧ (t.ch n).ctx.run = .idle ∧ (t.ch n).ctx.desc = none ∧
      (t.ch n).eng.charter.getLsbD (d.lun % 8) = false ∧
      (t.ch n).eng.bus = [.cmd 0xFF, .sel (d.lun % 8), .din 18432, .cmd 0xE0, s.addr5 n d.taddr 0 0, .cmd 0x06, .sel (d.lun % 8)] ++ (s.ch n).eng.bus := by
  obtain ⟨u, hrun, hu, -, -⟩ := h.outputs hguard hmiss d.taddr [(0, 18432, 0, 0)] (fun s => State.phyErr n d (s.targetReset n (d.lun % 8)))
    (fun s => (s.targetReset n (d.lun % 8)).opFinish n d 0 0 0 0)
  have hdesc : ((u.targetReset n (d.lun % 8)).ch n).ctx.desc = some d := by rw [(u.busWork_targetReset n _).ctx, hu.desc, h.desc]
  obtain ⟨hidle, hnone, heng⟩ := State.opFinish_ends (by omega) hdesc 0 0 0 0
  have hreset := State.targetReset_eng (hu.owns.trans h.owns) (d.lun % 8)
  refine ⟨_, h.out hop ((if_neg (by rw [hen]; decide)).trans ((if_neg hm).trans ((if_neg (by rw [hready]; decide)).trans hrun))), hidle, hnone, ?_, ?_⟩
  · rw [heng, hreset]
    exact charterBit_clear _ _
  · rw [heng, hreset, hu.bus]
    rfl

/-- The last page of a BB_SCAN ends it. -/
theorem State.bbScan_ends (h : s.runsOp n d) (hop : d.opcode = 9) (hm : s.getM n 3 ≠ 0) (hready : s.readReady n d = true)
    (hlast : 2 * d.count ≤ s.getM n 0 + 1) (hguard : s.guardCmd n 0x06 = false) (hmiss : ∀ b ∈ x, b.miss = 0) :
    ∃ t, exec (.opBbScan n x) s = .next t ∧ (t.ch n).ctx.run = .idle ∧ (t.ch n).ctx.desc = none ∧ (t.ch n).eng.sel = some (d.lun % 8) := by
  have hlast' : ¬ s.getM n 0 + 1 < 2 * d.count := by omega
  have hexec : exec (.opBbScan n x) s = .next (s.opSend n d [] (State.markOut n d (s.scanPage n d (s.getM n 0)) (fun m u =>
      (u.scanNote n (s.scanPage n d (s.getM n 0)) (s.getM n 0) m).opFinish n d 0 0
        ((u.scanNote n (s.scanPage n d (s.getM n 0)) (s.getM n 0) m).getM n 1) 0) [0, 1, 2, 3] x false)) := by
    refine h.out hop ((if_neg hm).trans ((if_neg (by rw [hready]; decide)).trans ?_))
    simp only [if_neg hlast']
    rfl
  obtain ⟨v, hrunv, hv, hsel, -⟩ := State.opSend_sends (d := d) (ops := []) h.owns (.inr rfl)
    (State.markOut n d (s.scanPage n d (s.getM n 0)) (fun m u => (u.scanNote n (s.scanPage n d (s.getM n 0)) (s.getM n 0) m).opFinish n d 0 0
      ((u.scanNote n (s.scanPage n d (s.getM n 0)) (s.getM n 0) m).getM n 1) 0) [0, 1, 2, 3] x false)
  obtain ⟨u, m, _, hrun, hu⟩ := State.markOut_drove (c := d.lun % 8) (d := d) n.isLt (s.scanPage n d (s.getM n 0))
    (fun m u => (u.scanNote n (s.scanPage n d (s.getM n 0)) (s.getM n 0) m).opFinish n d 0 0
      ((u.scanNote n (s.scanPage n d (s.getM n 0)) (s.getM n 0) m).getM n 1) 0) [0, 1, 2, 3] v x false (hv.owns.trans h.owns)
    ((hv.guardCmd 0x06).trans hguard) hmiss
  obtain ⟨hdesc, heng⟩ := u.scanNote_keeps n (s.scanPage n d (s.getM n 0)) (s.getM n 0) m
  obtain ⟨hidle, hnone, hend⟩ := State.opFinish_ends (d := d) (by omega) (hdesc.trans (hu.desc.trans (hv.desc.trans h.desc))) 0 0
    ((u.scanNote n (s.scanPage n d (s.getM n 0)) (s.getM n 0) m).getM n 1) 0
  rw [hrunv, hrun] at hexec
  exact ⟨_, hexec, hidle, hnone, by rw [hend, heng, hu.sel hsel]⟩

end

end Sys2Proof.Machine

end

-- Channel routines: features, status and LUN reset (05_channel_operations.md R152, R153, R162).
section

open Sys2Proof Sys2Proof.Machine

namespace Sys2Proof.Machine

/-! ## The record of a ring's descriptor -/

/-- In `t` only channels, LUNs and the ring unit may differ. -/
def State.chanRing (s t : State) : Prop := t = { s with chans := t.chans, luns := t.luns, rng := t.rng }

section
variable {s t u : State} {n : Nat} {d : Desc}

theorem State.chanRing.trans (h : s.chanRing t) (k : t.chanRing u) : s.chanRing u := by
  unfold State.chanRing at h k ⊢
  rw [k, h]

theorem State.chanLuns.ring (h : s.chanLuns t) : s.chanRing t := by
  unfold State.chanRing
  rw [h]

/-- A record is built from registers and memory. -/
theorem State.chanLuns.chanRec (h : s.chanLuns t) (ring tag st : Nat) (res : List Half) : t.chanRec ring tag st res = s.chanRec ring tag st res := by
  rw [h]
  rfl

/-- The descriptor of a ring that neither programs, erases nor reads: its slot is free again, and its record is written. -/
theorem State.complete_ring (hop : 9 ≤ d.opcode) (horg : d.org = 1) (hcmpl : d.cmpl = true) (st : Nat) (res : List Half) :
    t.complete n d st res = (t.freeSlot n d).pushRec (t.chanRec (d.origin % 16384) d.tag st res) := by
  have hreads : d.reads = false := decide_eq_false (by omega)
  have hdecodes : d.decodes = false := decide_eq_false (by omega)
  unfold State.complete State.deliver
  simp only [hreads, hdecodes, horg, hcmpl, Bool.false_eq_true, false_and, if_false, Bool.not_false, if_true, State.chanEnd]
  rw [if_neg (by omega), if_neg (by omega), if_neg (by omega), if_neg (by omega)]
  rfl

/-- The half-words of a completion while the context still has its descriptor: its own status byte, and no detail. -/
theorem State.stdRes_running (hdesc : (u.ch n).ctx.desc = some d) (h2 h3 : Nat) : u.stdRes n d 0 h2 h3 =
    [BitVec.ofNat 16 (u.ch n).ctx.status.toNat, BitVec.ofNat 16 (u.lun n d.lun).susCnt, BitVec.ofNat 16 h2, BitVec.ofNat 16 h3] := by
  rw [State.stdRes, State.lastStatus, if_pos hdesc, Nat.zero_mul, Nat.add_zero]

/-- A routine of a ring's descriptor that ends with OK. -/
structure State.recorded (s t : State) (n : Nat) (d : Desc) (res : List Half) : Prop where
  recs : t.rng.recs = s.rng.recs ++ [s.chanRec (d.origin % 16384) d.tag 0 res]
  run : (t.ch n).ctx.run = .idle
  desc : (t.ch n).ctx.desc = none
  other : ∀ k, k ≠ n → t.ch k = s.ch k
  frame : s.chanRing t

theorem State.opFinish_recorded (hop : 9 ≤ d.opcode) (horg : d.org = 1) (hcmpl : d.cmpl = true) (hdesc : (u.ch n).ctx.desc = some d)
    (hwork : s.chanLuns u) (hother : ∀ k, k ≠ n → u.ch k = s.ch k) (h2 h3 : Nat) :
    s.recorded (u.opFinish n d 0 0 h2 h3) n d
      [BitVec.ofNat 16 (u.ch n).ctx.status.toNat, BitVec.ofNat 16 (u.lun n d.lun).susCnt, BitVec.ofNat 16 h2, BitVec.ofNat 16 h3] := by
  obtain ⟨hidle, hnone, -⟩ := State.opFinish_ends (Nat.le_trans (by decide) hop) hdesc 0 0 h2 h3
  have hfinish : ∃ w : State, u.chanLuns w ∧ (∀ k, k ≠ n → w.ch k = u.ch k) ∧ u.opFinish n d 0 0 h2 h3 =
      (w.pushRec (u.chanRec (d.origin % 16384) d.tag 0 (u.stdRes n d 0 h2 h3))).ctxIdle n := by
    have hv : u.chanLuns (u.ctxMap n (fun c => { c with res := u.stdRes n d 0 h2 h3 })) := u.chanLuns_chMap n _
    have hch : (u.ctxMap n (fun c => { c with res := u.stdRes n d 0 h2 h3 })).ch n = { u.ch n with ctx := { (u.ch n).ctx with res := u.stdRes n d 0 h2 h3 } } := by
      rw [State.ctxMap, State.ch_chMap, if_pos rfl]
    have hoth : ∀ k, k ≠ n → (u.ctxMap n (fun c => { c with res := u.stdRes n d 0 h2 h3 })).ch k = u.ch k := fun k hk => State.ch_chMap_other _ _ hk _
    unfold State.opFinish
    dsimp only
    generalize u.ctxMap n (fun c => { c with res := u.stdRes n d 0 h2 h3 }) = v at hv hch hoth
    have hvd : (v.ch n).ctx.desc = some d := by rw [hch]; exact hdesc
    have hw := hv.trans (State.chanLuns_chMap v n (fun c => { c with ctx := { c.ctx with desc := none } }))
    refine ⟨(v.ctxMap n (fun c => { c with desc := none })).freeSlot n d, hw.trans (State.chanLuns_chMap _ n _), fun k hk => ?_, ?_⟩
    · exact ((State.ch_chMap_other _ _ hk _).trans (State.ch_chMap_other _ _ hk _)).trans (hoth k hk)
    · have hrec := State.chanLuns.chanRec hw (d.origin % 16384) d.tag 0 (u.stdRes n d 0 h2 h3)
      simp only [State.ctxComplete, hvd, State.complete_ring hop horg hcmpl]
      rw [← hrec, hch]
      rfl
  obtain ⟨w, hw, hwo, heq⟩ := hfinish
  have hsw := State.chanLuns.trans hwork hw
  rw [← State.stdRes_running hdesc]
  refine ⟨?_, hidle, hnone, fun k hk => ?_, ?_⟩
  · have hrng : w.rng = s.rng := by rw [hsw]
    rw [heq, ← hrng, ← hwork.chanRec]
    rfl
  · rw [heq]
    exact ((State.ch_chMap_other (State.pushRec w _) n hk _).trans (hwo k hk)).trans (hother k hk)
  · rw [heq]
    exact hsw.ring.trans (State.chanRing.trans (t := w.pushRec _) rfl (State.chanLuns_chMap _ n _).ring)

end

section
variable {s : State} {n : Fin 48} {d : Desc}

theorem lowHalf_eq (b : BitVec 32) : BitVec.ofNat 16 (b.toNat % 65536) = b.extractLsb' 0 16 := by
  apply BitVec.eq_of_toNat_eq
  simp

theorem highHalf_eq (b : BitVec 32) : BitVec.ofNat 16 (b.toNat / 65536) = b.extractLsb' 16 16 := by
  apply BitVec.eq_of_toNat_eq
  simp [Nat.shiftRight_eq_div_pow]

/-- SET_REF sends its features and ends. -/
theorem State.setRef_records (h : s.runsOp n d) (hcharter : (s.ch n).eng.charter.getLsbD (d.lun % 8) = false) (hop : d.opcode = 0x0A)
    (horg : d.org = 1) (hcmpl : d.cmpl = true) : ∃ t, exec (.opSetRef n) s = .next t ∧
      s.recorded t n d [BitVec.ofNat 16 (s.ch n).ctx.status.toNat, BitVec.ofNat 16 (s.lun n d.lun).susCnt, 0#16, 0#16] ∧
      (t.ch n).eng.bus = [.data [d.par 1, d.par 2, d.par 3, d.par 4], .addr [d.lun / 8, d.par 0], .cmd 0xD5, .sel (d.lun % 8)] ++ (s.ch n).eng.bus := by
  obtain ⟨u, hrun, hu, -, -⟩ := State.opSend_sends (d := d) (ops := [.cmd 0xD5, .addr [d.lun / 8, d.par 0], .data [d.par 1, d.par 2, d.par 3, d.par 4]])
    h.owns (.inl hcharter) (fun s => (s.lunMap n d.lun (fun x => { x with refSlc := .unknown, refTlc := .unknown })).opFinish n d 0 0 0 0)
  have hdesc : (u.ch n).ctx.desc = some d := hu.desc.trans h.desc
  have hlun : ((u.lunMap n d.lun (fun x => { x with refSlc := .unknown, refTlc := .unknown })).lun n d.lun).susCnt = (s.lun n d.lun).susCnt := by
    rw [State.lun_lunMap, if_pos rfl, State.lun, hu.luns]
    rfl
  have hrec := State.opFinish_recorded (s := s) (u := u.lunMap n d.lun (fun x => { x with refSlc := .unknown, refTlc := .unknown })) (by omega) horg hcmpl hdesc
    (State.chanLuns.trans hu.work.2 (State.chanLuns_lunMap u n d.lun _)) (fun k hk => hu.work.other hk) 0 0
  obtain ⟨-, -, heng⟩ := State.opFinish_ends (s := u.lunMap n d.lun (fun x => { x with refSlc := .unknown, refTlc := .unknown })) (by omega) hdesc 0 0 0 0
  rw [hlun, State.ch_lunMap, hu.work.ctx] at hrec
  exact ⟨_, h.out hop hrun, hrec, by rw [heng, State.ch_lunMap, hu.bus]; rfl⟩

/-- GET_FEAT reads four bytes and ends with them. -/
theorem State.getFeat_records (h : s.runsOp n d) (hcharter : (s.ch n).eng.charter.getLsbD (d.lun % 8) = false) (hop : d.opcode = 0x0B)
    (horg : d.org = 1) (hcmpl : d.cmpl = true) (b : BitVec 32) : ∃ t, exec (.opGetFeat n b) s = .next t ∧
      s.recorded t n d [BitVec.ofNat 16 (s.ch n).ctx.status.toNat, BitVec.ofNat 16 (s.lun n d.lun).susCnt, b.extractLsb' 0 16, b.extractLsb' 16 16] ∧
      (t.ch n).eng.bus = [.din 4, .addr [d.lun / 8, d.par 0], .cmd 0xD4, .sel (d.lun % 8)] ++ (s.ch n).eng.bus := by
  obtain ⟨u, hrun, hu, -, -⟩ := State.opSend_sends (d := d) (ops := [.cmd 0xD4, .addr [d.lun / 8, d.par 0], .din 4])
    h.owns (.inl hcharter) (fun s => s.opFinish n d 0 0 (b.toNat % 65536) (b.toNat / 65536))
  have hdesc : (u.ch n).ctx.desc = some d := hu.desc.trans h.desc
  have hlun : u.lun n d.lun = s.lun n d.lun := by rw [State.lun, hu.luns, State.lun]
  have hrec := State.opFinish_recorded (by omega) horg hcmpl hdesc hu.work.2 (fun k hk => hu.work.other hk) (b.toNat % 65536) (b.toNat / 65536)
  obtain ⟨-, -, heng⟩ := State.opFinish_ends (by omega) hdesc 0 0 (b.toNat % 65536) (b.toNat / 65536)
  rw [hlun, hu.work.ctx, lowHalf_eq, highHalf_eq] at hrec
  exact ⟨_, h.out hop hrun, hrec, by rw [heng, hu.bus]; rfl⟩

/-- STATUS asks the LUN for its status byte and ends with it. -/
theorem State.status_records (h : s.runsOp n d) (hop : d.opcode = 0x0D) (horg : d.org = 1) (hcmpl : d.cmpl = true) (st : BitVec 8) :
    ∃ t, exec (.opStatus n st) s = .next t ∧
      s.recorded t n d [BitVec.ofNat 16 st.toNat, BitVec.ofNat 16 (s.lun n d.lun).susCnt, 0#16, 0#16] ∧
      (t.ch n).eng.bus = [(match (s.ch n).eng.sel with | some c => .sel c | none => .desel), .addr (s.rowBytes n (taddrOf n d.lun 0 0) 0 0), .cmd 0x78,
        .sel (d.lun % 8)] ++ (s.ch n).eng.bus := by
  have hu : s.sends (s.lunSeq n d.lun 0x78 true) n (d.lun % 8) _ := State.sends_drive h.owns _
  generalize hv : s.lunSeq n d.lun 0x78 true = v at hu
  have hch : (v.ctxMap n (fun c => { c with status := st })).ch n = { v.ch n with ctx := { (v.ch n).ctx with status := st } } := by
    rw [State.ctxMap, State.ch_chMap, if_pos rfl]
  have hdesc : ((v.ctxMap n (fun c => { c with status := st })).ch n).ctx.desc = some d := by
    rw [hch, ← h.desc, ← hu.desc]
  have hlun : (v.ctxMap n (fun c => { c with status := st })).lun n d.lun = s.lun n d.lun := by
    change v.lun n d.lun = _
    rw [State.lun, hu.luns, State.lun]
  have hrec := State.opFinish_recorded (s := s) (by omega) horg hcmpl hdesc (State.chanLuns.trans hu.work.2 (State.chanLuns_chMap v n _))
    (fun k hk => (State.ch_chMap_other v n hk _).trans (hu.work.other hk)) 0 0
  obtain ⟨-, -, heng⟩ := State.opFinish_ends (by omega) hdesc 0 0 0 0
  rw [hlun, hch] at hrec
  refine ⟨_, h.out hop rfl, by rw [hv]; exact hrec, ?_⟩
  rw [hv, heng, hch]
  exact hu.bus

/-- Reset LUN on the bus: the target is selected, and the LUN is busy with its reset. -/
theorem State.lunReset_effect (s : State) (n l : Nat) : s.busWork (s.lunReset n l) n ∧ ((s.lunReset n l).ch n).eng.sel = some (l % 8) ∧
    ((s.lunReset n l).ch n).eng.last = 0xFA ∧ ((s.lunReset n l).lun n l).op = .reset ∧ ((s.lunReset n l).lun n l).wl = (s.lun n l).wl := by
  refine ⟨((s.busWork_drive n _).trans (State.busWork_engMap _ n _)).trans (State.busWork_lunMap _ n n l _), ?_, ?_, ?_, ?_⟩
  · rw [State.lunReset, State.ch_lunMap, State.eng_engMap]
  · rw [State.lunReset, State.ch_lunMap, State.eng_engMap]
  · rw [State.lunReset, State.lun_lunMap, if_pos rfl]
  · rw [State.lunReset, State.lun_lunMap, if_pos rfl]
    change (tget _ (s.drive n _).luns _).wl = _
    rw [s.luns_drive]
    rfl

/-- RESET_LUN on a LUN without an open wordline resets it and parks. -/
theorem State.resetLun_parks (h : s.runsOp n d) (hop : d.opcode = 0x0C) (hwake : (s.ch n).ctx.wakeRdy = false) (hwl : (s.lun n d.lun).wl = none) :
    ∃ t, exec (.opResetLun n) s = .next t ∧ (s.lunReset n d.lun).parksFree t n d 0 := by
  obtain ⟨-, -, -, -, hwl'⟩ := s.lunReset_effect n d.lun
  refine ⟨_, h.out hop (t := (s.lunReset n d.lun).parkFree n d 0) ?_, State.parkFree_effect _ _ _ _⟩
  dsimp only
  rw [hwake, if_neg Bool.false_ne_true, hwl', hwl]

end

end Sys2Proof.Machine

end

-- Channel routines: programs and erases (05_channel_operations.md R163 to R166, R173; 04_sequencers.md R127, R148).
section

open Sys2Proof Sys2Proof.Machine

namespace Sys2Proof.Machine

/-! ## Checked addresses -/

section
variable {s t : State}

theorem State.sameStore.stored (h : s.sameStore t) (r w : Nat) : t.stored r w = s.stored r w := by
  obtain ⟨hsram, hepochs, hfuse, hremap⟩ := h
  have hof : t.remapOf r w = s.remapOf r w := by simp only [State.remapOf, State.remaps, hremap]
  rw [State.stored, State.stored, hof, State.cell_congr hsram hepochs hfuse]

theorem State.sameStore_refl (s : State) : s.sameStore s := ⟨rfl, rfl, rfl, rfl⟩

theorem State.sameStore.trans {u : State} (h : s.sameStore t) (k : t.sameStore u) : s.sameStore u := by
  obtain ⟨h₁, h₂, h₃, h₄⟩ := h
  obtain ⟨k₁, k₂, k₃, k₄⟩ := k
  exact ⟨k₁.trans h₁, k₂.trans h₂, k₃.trans h₃, k₄.trans h₄⟩

theorem State.reportUe_sameStore (s : State) (r w : Nat) : s.sameStore (s.reportUe r w 0) := by
  have hcount : (s.count (memiSrc + 7 + r) (memiDetail r w)).memi = s.memi := by simp
  have hmemi : (s.reportUe r w 0).memi = s.memi := by
    unfold State.reportUe
    simp only [show ¬ (0 = 3) by decide, if_false]
    split
    · exact hcount
    · simp
  rw [State.sameStore, hmemi, s.reports_reportUe r w 0]
  exact ⟨rfl, rfl, rfl, rfl⟩

/-- The report of a bitmap word leaves what is stored, and registers outside the page MEMI. -/
theorem State.note_reports (s : State) (w : Nat) : s.memiReports (s.note 5 w 0) ∧ s.sameStore (s.note 5 w 0) := by
  unfold State.note
  split
  · exact ⟨s.memiReports_refl, s.sameStore_refl⟩
  · exact ⟨⟨s.reports_reportUe _ _ _, fun _ ha => s.rd_reportUe _ ha⟩, s.reportUe_sameStore _ _⟩
  · exact ⟨⟨s.reports_reportCe _ _ _, fun _ ha => s.rd_reportCe _ _ ha⟩, (s.reportCe_sameStore _ _ _).1⟩

theorem State.refuseNote_reports (s : State) (n a : Nat) (w : Bool) : s.memiReports (s.refuseNote n a w) ∧ s.sameStore (s.refuseNote n a w) := by
  unfold State.refuseNote
  dsimp only
  split
  · exact ⟨s.memiReports_refl, s.sameStore_refl⟩
  · have hguard := s.note_reports (winWord (guardAt (taCh a) (taLun a) (taBlk a)).1)
    split
    · exact hguard
    · obtain ⟨hrep, hsame⟩ := State.note_reports (s.note 5 (winWord (guardAt (taCh a) (taLun a) (taBlk a)).1) 0)
        (winWord (badAt (taCh a) (taLun a) (taBlk a)).1)
      exact ⟨hguard.1.trans hrep, hguard.2.trans hsame⟩

end

/-! ## Cycles of a program or erase -/

/-- The LUN and the place of a PROG are committed: its first address has been driven. -/
def State.opened (s : State) (n : Nat) (d : Desc) : Prop := (s.lun n d.lun).op = .unconfirmed ∧ (s.place n d.place).committed = true

/-- From `s` to `t` the routine of `d` has driven `ops`, its addresses checked; what the next addresses and bursts rest on is as before: the
registers outside the page MEMI, the bitmaps, the seal, the encoded tiles and the park records. -/
structure State.writes (s t : State) (n : Nat) (d : Desc) (ops : List BusOp) : Prop extends s.drove t n (d.lun % 8) ops where
  rd : ∀ a, 0x5000 ≤ a → t.rd a = s.rd a
  store : s.sameStore t
  sealed : (t.ch n).sealing = (s.ch n).sealing
  enc : ∀ p, (t.place n p).enc = (s.place n p).enc ∧ (t.place n p).encAddr = (s.place n p).encAddr
  park : (t.lun n d.lun).park = (s.lun n d.lun).park
  kept : s.opened n d → t.opened n d
  other : ∀ k, k ≠ n → t.ch k = s.ch k
  frame : t = { s with chans := t.chans, luns := t.luns, regs := t.regs, pins := t.pins, flt := t.flt, memi := t.memi }

section
variable {s t u : State} {n : Nat} {d : Desc} {ops ops' : List BusOp}

theorem State.writes.trans (h : s.writes t n d ops) (k : t.writes u n d ops') : s.writes u n d (ops ++ ops') where
  todrove := h.todrove.trans k.todrove
  rd := fun a ha => (k.rd a ha).trans (h.rd a ha)
  store := h.store.trans k.store
  sealed := k.sealed.trans h.sealed
  enc := fun p => ⟨(k.enc p).1.trans (h.enc p).1, (k.enc p).2.trans (h.enc p).2⟩
  park := k.park.trans h.park
  kept := fun ho => k.kept (h.kept ho)
  other := fun j hj => (k.other j hj).trans (h.other j hj)
  frame := by
    have hf := h.frame
    have kf := k.frame
    conv_lhs => rw [kf, hf]

/-- Work of the cycle engine alone. -/
theorem State.sends.writes (h : s.sends t n (d.lun % 8) ops) : s.writes t n d ops := by
  have hlun : t.lun n d.lun = s.lun n d.lun := by rw [State.lun, h.luns, State.lun]
  have hrd := h.work.rd
  have hother := fun k => @State.busWork.other _ _ _ h.work k
  obtain ⟨⟨e, hch⟩, hframe⟩ := id h.work
  have hchn : t.ch n = { s.ch n with eng := e } := by rw [hch, if_pos rfl]
  have hplace : ∀ p, t.place n p = s.place n p := fun p => by rw [State.place, hchn, State.place]
  refine ⟨h.todrove, fun a _ => hrd a, ?_, by rw [hchn], fun p => ?_, by rw [hlun], fun ho => ?_, hother, ?_⟩
  · rw [hframe]
    exact ⟨rfl, rfl, rfl, rfl⟩
  · rw [hplace]
    exact ⟨rfl, rfl⟩
  · rwa [State.opened, hlun, hplace]
  · conv_lhs => rw [hframe]
    rw [hframe]

theorem State.writes_refl (s : State) (n : Nat) (d : Desc) : s.writes s n d [] :=
  State.sends.writes ⟨s.drove_refl n _, s.busWork_refl n, rfl⟩

/-- A checked address that is let through has its bitmap words reported. -/
theorem State.writes_refuseNote (s : State) (n : Nat) (d : Desc) (a : Nat) (w : Bool) : s.writes (s.refuseNote n a w) n d [] := by
  obtain ⟨⟨hrep, hrd⟩, hstore⟩ := s.refuseNote_reports n a w
  generalize s.refuseNote n a w = t at hrep hrd hstore
  have hch : t.chans = s.chans := by rw [hrep]
  have hluns : t.luns = s.luns := by rw [hrep]
  have hchn : ∀ k, t.ch k = s.ch k := fun k => by rw [State.ch, hch, State.ch]
  have hlun : t.lun n d.lun = s.lun n d.lun := by rw [State.lun, hluns, State.lun]
  have hplace : ∀ p, t.place n p = s.place n p := fun p => by rw [State.place, hchn, State.place]
  refine ⟨State.drove_nothing (hchn n) (by rw [hrep]) (by rw [hrep]) fun b hb => hrd b (by omega), hrd, hstore, by rw [hchn], fun p => ?_, by rw [hlun],
    fun ho => ?_, fun k _ => hchn k, ?_⟩
  · rw [hplace]
    exact ⟨rfl, rfl⟩
  · rwa [State.opened, hlun, hplace]
  · conv_lhs => rw [hrep]
    rw [hch, hluns]

/-- A change of a LUN that keeps its record. -/
theorem State.writes_lunMap (f : LunS → LunS) (hpark : ∀ x, (f x).park = x.park) (hop : ∀ x, x.op = .unconfirmed → (f x).op = .unconfirmed) :
    s.writes (s.lunMap n d.lun f) n d [] := by
  have hlun : (s.lunMap n d.lun f).lun n d.lun = f (s.lun n d.lun) := by rw [State.lun_lunMap, if_pos rfl]
  refine ⟨State.drove_lunMap _ _ _, fun _ _ => rfl, s.sameStore_refl, rfl, fun _ => ⟨rfl, rfl⟩, by rw [hlun, hpark], fun ho => ?_, fun _ _ => rfl, rfl⟩
  exact ⟨by rw [hlun]; exact hop _ ho.1, ho.2⟩

/-- A change of the context that keeps its descriptor. -/
theorem State.writes_ctxMap (f : CtxS → CtxS) (hdesc : ∀ x, (f x).desc = x.desc) : s.writes (s.ctxMap n f) n d [] := by
  have hch : (s.ctxMap n f).ch n = { s.ch n with ctx := f (s.ch n).ctx } := by rw [State.ctxMap, State.ch_chMap, if_pos rfl]
  have hplace : ∀ p, (s.ctxMap n f).place n p = s.place n p := fun p => by rw [State.place, hch, State.place]
  refine ⟨State.drove_ctxMap f hdesc, fun _ _ => rfl, s.sameStore_refl, by rw [hch], fun p => ?_, rfl, fun ho => ?_, fun k hk => State.ch_chMap_other _ _ hk _, rfl⟩
  · rw [hplace]
    exact ⟨rfl, rfl⟩
  · exact ⟨ho.1, by rw [hplace]; exact ho.2⟩

theorem State.writes_setM (i v : Nat) : s.writes (s.setM n i v) n d [] := State.writes_ctxMap _ (fun _ => rfl)

/-- What a PROG notes of its place keeps what is encoded. -/
theorem State.writes_sent (k : Nat) : s.writes (s.placeMap n d.place (fun v => { v with committed := true, sent := k })) n d [] := by
  have hplace := fun p => s.place_placeMap n d.place p (fun v => { v with committed := true, sent := k })
  have hseal : ((s.placeMap n d.place (fun v => { v with committed := true, sent := k })).ch n).sealing = (s.ch n).sealing := by
    rw [State.placeMap, State.ch_chMap, if_pos rfl]
  refine ⟨State.drove_placeMap _ _, fun _ _ => rfl, s.sameStore_refl, hseal, fun p => ?_, rfl, fun ho => ⟨ho.1, ?_⟩,
    fun k hk => State.ch_chMap_other _ _ hk _, rfl⟩
  · rw [hplace]
    split
    next h => rw [h]; exact ⟨rfl, rfl⟩
    next => exact ⟨rfl, rfl⟩
  · rw [hplace, if_pos rfl]

/-! ### What the next plane shows -/

/-- The slice of `n` takes a program or erase of `a` behind `cmd`: the target is not in charter mode, and the check lets the address through. -/
structure State.mayWrite (s : State) (n : Nat) (d : Desc) (a cmd : Nat) : Prop where
  owns : s.ownsCh n = true
  charter : (s.ch n).eng.charter.getLsbD (d.lun % 8) = false
  lets : s.guardCmd n cmd = true → s.refuseReason n a (s.ch n).sealing = none

theorem State.writes.flag (h : s.writes t n d ops) (f : Fld) (ha : 0x5000 ≤ f.addr) : t.flag f = s.flag f :=
  State.flag_of_get (State.get_of_rd (h.rd _ ha))

theorem State.writes.get (h : s.writes t n d ops) (f : Fld) (ha : 0x5000 ≤ f.addr) : t.get f = s.get f := State.get_of_rd (h.rd _ ha)

theorem State.writes.mayWrite {a cmd : Nat} (h : s.writes t n d ops) (hs : s.mayWrite n d a cmd) : t.mayWrite n d a cmd := by
  refine ⟨h.owns.trans hs.owns, by rw [h.charter, hs.charter], fun hg => ?_⟩
  have hctrl : 0x5000 ≤ 0x30008 + n * 0x1000 := by omega
  have hvalid : t.flag (R.CH_CTRL_BB_VALID n) = s.flag (R.CH_CTRL_BB_VALID n) := h.flag _ hctrl
  have hwp : t.flag (R.CH_CTRL_WP_OPEN n) = s.flag (R.CH_CTRL_WP_OPEN n) := h.flag _ hctrl
  have hguarded : t.guarded a = s.guarded a := by simp only [State.guarded, State.ctxGet, h.store.peek]
  have hbad : t.blkBad a = s.blkBad a := by simp only [State.blkBad, State.ctxGet, State.bad, h.store.peek, h.store.stored]
  rw [h.guardCmd] at hg
  rw [← hs.lets hg, State.refuseReason, State.refuseReason, hvalid, hwp, hguarded, hbad, h.charter, h.sealed]

theorem State.writes.prefixOps (h : s.writes t n d ops) (b : Bool) : t.prefixOps n b = s.prefixOps n b := by
  have hpfx : 0x5000 ≤ 0x30048 + n * 0x1000 := by omega
  rw [State.prefixOps, State.prefixOps, h.flag (R.CH_PFX_TLC_PFX_EN n) hpfx, h.flag (R.CH_PFX_SLC_PFX_EN n) hpfx, h.get (R.CH_PFX_TLC n) hpfx,
    h.get (R.CH_PFX_SLC n) hpfx]

theorem State.writes.progLast (h : s.writes t n d ops) : t.progLast n d = s.progLast n d := by
  have hpfx : 0x5000 ≤ 0x30048 + n * 0x1000 := by omega
  rw [State.progLast, State.progLast, h.get (R.CH_PFX_TLC_NEXT n) hpfx]

theorem State.writes.planeReady (h : s.writes t n d ops) (p q a : Nat) : (t.place n p).planeReady q a = (s.place n p).planeReady q a := by
  obtain ⟨henc, haddr⟩ := h.enc p
  rw [PlaceS.planeReady, PlaceS.planeReady, henc, haddr]

/-- A row address that the check lets through is driven. -/
theorem State.opRow_writes {a cmd : Nat} (hs : s.mayWrite n d a cmd) (k : State → State) :
    ∃ u, s.opRow n d a cmd ops k = k u ∧ s.writes u n d ops := by
  have hsent : ∀ v : State, v.ownsCh n = true →
      v.writes ((v.drive n ops).engMap n (fun e => { e with last := cmd, row := some (d.lun, taBlk a, taPage a) })) n d ops := fun v hv => by
    have h := (State.sends_drive (c := d.lun % 8) hv ops).trans
      (State.sends_engMap (fun e => { e with last := cmd, row := some (d.lun, taBlk a, taPage a) }) (fun _ => rfl) (fun _ => rfl) (fun _ h => h))
    rw [List.append_nil] at h
    exact h.writes
  unfold State.opRow
  dsimp only
  cases hg : s.guardCmd n cmd with
  | false => exact ⟨_, rfl, hsent s hs.owns⟩
  | true =>
    have hnote := s.writes_refuseNote n d a (s.ch n).sealing
    simp only [if_true, hs.lets hg]
    exact ⟨_, rfl, hnote.trans (hsent _ (hnote.owns.trans hs.owns))⟩

end

end Sys2Proof.Machine

end

-- Channel routines: the planes of a program and of an erase (05_channel_operations.md R163, R164, R166; 04_sequencers.md R148).
section

open Sys2Proof Sys2Proof.Machine

namespace Sys2Proof.Machine

/-! ## Planes of a program -/

/-- What opens plane `p` of a program on the bus. -/
def State.progPlane (s : State) (n : Nat) (d : Desc) (p : Nat) : List BusOp :=
  [.sel (d.lun % 8)] ++ s.prefixOps n d.tlc ++ [.cmd 0x80, s.addr5 n d.taddr p 0]

/-- The bursts of the last `k + 1` planes of a program, the first of them opened, with what opens the others. -/
def State.progTail (s : State) (n : Nat) (d : Desc) : Nat → List BusOp
  | 0 => [.dout 18432]
  | k + 1 => [.dout 18432, .cmd 0x11] ++ s.progPlane n d (3 - k) ++ s.progTail n d k

section
variable {s t u : State} {n : Nat} {d : Desc} {ops : List BusOp}

theorem State.writes.progPlane (h : s.writes t n d ops) (p : Nat) : t.progPlane n d p = s.progPlane n d p := by
  rw [State.progPlane, State.progPlane, h.prefixOps, h.addr5]

theorem State.writes.progTail (h : s.writes t n d ops) (k : Nat) : t.progTail n d k = s.progTail n d k := by
  induction k with
  | zero => rfl
  | succ k ih => rw [State.progTail, State.progTail, h.progPlane, ih]

/-- The opening of a wordline is a note of the LUN. -/
theorem State.writes_wlOpen (hdesc : (s.ch n).ctx.desc = some d) : s.writes (s.wlOpen n) n d [] := by
  unfold State.wlOpen
  rw [hdesc]
  dsimp only
  split
  · exact State.writes_lunMap _ (fun _ => rfl) (fun _ h => h)
  · exact s.writes_refl n d

theorem State.progOpen_writes (hs : s.mayWrite n d d.taddr 0x80) (hdesc : (s.ch n).ctx.desc = some d) (p : Nat) (k : State → State) :
    ∃ u, s.progOpen n d p k = k u ∧ s.writes u n d (s.progPlane n d p) ∧ u.opened n d := by
  obtain ⟨v, hrunv, hv, -, -⟩ := State.opSend_sends (d := d) (ops := s.prefixOps n d.tlc ++ [.cmd 0x80]) hs.owns (.inl hs.charter) (fun s =>
    (s.wlOpen n).opRow n d d.taddr 0x80 [(s.wlOpen n).addr5 n d.taddr p 0] (fun s =>
      k ((((s.lunMap n d.lun (fun x => { x with op := .unconfirmed })).placeMap n d.place (fun v => { v with committed := true, sent := p + 1 })).ctxMap n
        (fun c => { c with pc := 0x0213 })).setM n 4 p)))
  have hopen := hv.writes.trans (State.writes_wlOpen (hv.desc.trans hdesc))
  obtain ⟨w, hrun, hw⟩ := State.opRow_writes (d := d) (ops := [(v.wlOpen n).addr5 n d.taddr p 0]) (hopen.mayWrite hs) (fun s =>
      k ((((s.lunMap n d.lun (fun x => { x with op := .unconfirmed })).placeMap n d.place (fun v => { v with committed := true, sent := p + 1 })).ctxMap n
        (fun c => { c with pc := 0x0213 })).setM n 4 p))
  have hlun : w.writes (w.lunMap n d.lun (fun x => { x with op := .unconfirmed })) n d [] := State.writes_lunMap _ (fun _ => rfl) (fun _ _ => rfl)
  have hop : ((w.lunMap n d.lun (fun x => { x with op := .unconfirmed })).lun n d.lun).op = .unconfirmed := by rw [State.lun_lunMap, if_pos rfl]
  generalize w.lunMap n d.lun (fun x => { x with op := .unconfirmed }) = x at hlun hop hrun
  have hcommit : (x.placeMap n d.place (fun v => { v with committed := true, sent := p + 1 })).opened n d :=
    ⟨hop, by rw [State.place_placeMap, if_pos rfl]⟩
  have hnotes := (State.writes_ctxMap (s := x.placeMap n d.place (fun v => { v with committed := true, sent := p + 1 })) (n := n) (d := d)
    (fun c => { c with pc := 0x0213 }) (fun _ => rfl)).trans (State.writes_setM 4 p)
  refine ⟨_, hrunv.trans hrun, ?_, hnotes.kept hcommit⟩
  have hall := (((hopen.trans hw).trans hlun).trans (State.writes_sent (p + 1))).trans hnotes
  rw [hopen.addr5] at hall
  simpa [State.progPlane] using hall

/-- The last planes of a program, the first of them opened, go out up to the confirm when the tile is encoded. -/
theorem State.progGo_writes (st : BitVec 8) (k : Nat) : ∀ s : State, k ≤ 3 → s.mayWrite n d d.taddr 0x80 → (s.ch n).ctx.desc = some d →
    (∀ p, p < 4 → (s.place n d.place).planeReady p d.taddr = true) → s.opened n d →
    ∃ u, State.progGo n d st (k + 1) s = u.progConfirm n d st ∧ s.writes u n d (s.progTail n d k) ∧ u.opened n d := by
  induction k with
  | zero =>
    intro s _ hs _ hready hopen
    have hdout := State.sends.writes (d := d) (State.sends_drive hs.owns [.dout 18432])
    refine ⟨s.drive n [.dout 18432], ?_, hdout, hdout.kept hopen⟩
    simp [State.progGo, hready 3 (by decide)]
  | succ k ih =>
    intro s hk hs hdesc hready hopen
    have hdout := State.sends.writes (d := d) (State.sends_drive hs.owns [.dout 18432])
    have hnext := hdout.trans (State.sends.writes (d := d) (State.sends_drive (hdout.owns.trans hs.owns) [.cmd 0x11]))
    obtain ⟨v, hrunv, hv, hvopen⟩ := State.progOpen_writes (hnext.mayWrite hs) (hnext.desc.trans hdesc) (3 - k) (State.progGo n d st (k + 1))
    have hsv := hnext.trans hv
    obtain ⟨u, hrun, hu, huopen⟩ := ih v (by omega) (hsv.mayWrite hs) (hsv.desc.trans hdesc)
      (fun p hp => (hsv.planeReady d.place p d.taddr).trans (hready p hp)) hvopen
    refine ⟨u, ?_, ?_, huopen⟩
    · have hplane : 4 - (k + 1) = 3 - k := by omega
      rw [← hrun, ← hrunv, State.progGo, hready (3 - (k + 1)) (by omega), hplane]
      simp
    · have hall := hsv.trans hu
      rw [hnext.progPlane, hsv.progTail] at hall
      exact hall

/-! ## Planes of an erase -/

/-- The cycles of the last `k` planes of an erase of `a`. -/
def State.eraseTail (s : State) (n : Nat) (d : Desc) (a : Nat) : Nat → List BusOp
  | 0 => []
  | k + 1 => [.sel (d.lun % 8)] ++ s.prefixOps n d.tlc ++ [.cmd 0x60, .addr (s.rowBytes n a (3 - k) 0)] ++
      (if k = 0 then [.cmd 0xD0] else .cmd 0xD1 :: s.statOps n d.lun) ++ s.eraseTail n d a k

theorem State.writes.eraseTail (h : s.writes t n d ops) (a k : Nat) : t.eraseTail n d a k = s.eraseTail n d a k := by
  induction k with
  | zero => rfl
  | succ k ih => rw [State.eraseTail, State.eraseTail, h.prefixOps, h.rowBytes, h.statOps, ih]

theorem State.erasePlanes_writes (a k : Nat) : ∀ s : State, s.mayWrite n d a 0x60 →
    ∃ u, State.erasePlanes n d a k s = State.erasePlanes n d a 0 u ∧ s.writes u n d (s.eraseTail n d a k) := by
  induction k with
  | zero => exact fun s _ => ⟨s, rfl, s.writes_refl n d⟩
  | succ k ih =>
    intro s hs
    unfold State.erasePlanes
    obtain ⟨v, hrunv, hv, -, -⟩ := State.opSend_sends (d := d) (ops := s.prefixOps n d.tlc ++ [.cmd 0x60]) hs.owns (.inl hs.charter) (fun s =>
      s.opRow n d a 0x60 [.addr (s.rowBytes n a (3 - k) 0)] (fun s =>
        State.erasePlanes n d a k (s.drive n (if k = 0 then [.cmd 0xD0] else .cmd 0xD1 :: s.statOps n d.lun))))
    obtain ⟨w, hrunw, hw⟩ := State.opRow_writes (d := d) (ops := [.addr (v.rowBytes n a (3 - k) 0)]) (hv.writes.mayWrite hs) (fun s =>
        State.erasePlanes n d a k (s.drive n (if k = 0 then [.cmd 0xD0] else .cmd 0xD1 :: s.statOps n d.lun)))
    have hsw := hv.writes.trans hw
    have hx := hsw.trans (State.sends.writes (d := d) (State.sends_drive (hsw.owns.trans hs.owns)
      (if k = 0 then [.cmd 0xD0] else .cmd 0xD1 :: w.statOps n d.lun)))
    obtain ⟨u, hrun, hu⟩ := ih _ (hx.mayWrite hs)
    refine ⟨u, hrunv.trans (hrunw.trans hrun), ?_⟩
    have hall := hx.trans hu
    rw [hx.eraseTail, hv.rowBytes, hsw.statOps] at hall
    simpa [State.eraseTail] using hall

end

end Sys2Proof.Machine

end

-- Channel routines: the end of a program and of an erase (05_channel_operations.md R154, R163, R164, R166).
section

open Sys2Proof Sys2Proof.Machine

namespace Sys2Proof.Machine

/-! ## A program that ends LOADED -/

section
variable {s t u : State} {n : Nat} {d : Desc}

/-- A PROG that is LOADED notes its wordline and its origin's record, and leaves the channels. -/
theorem State.deliver_loaded (hop : d.opcode = 1) (res : List Half) : (s.deliver n d 1 res).chans = s.chans ∧
    ∀ l, ((s.deliver n d 1 res).lun n l).op = (s.lun n l).op ∧ ((s.deliver n d 1 res).lun n l).park = (s.lun n l).park := by
  have hend : ∀ v, v = s ∨ v = s.progEnd n d 1 → v.chans = s.chans ∧ ∀ l, (v.lun n l).op = (s.lun n l).op ∧ (v.lun n l).park = (s.lun n l).park := by
    rintro v (rfl | rfl)
    · exact ⟨rfl, fun _ => ⟨rfl, rfl⟩⟩
    · refine ⟨rfl, fun l => ?_⟩
      rw [State.progEnd, if_pos rfl, State.lun_lunMap]
      split
      next h => rw [Nat.add_left_cancel h]; exact ⟨rfl, rfl⟩
      next => exact ⟨rfl, rfl⟩
  have hv : ∃ v, (v = s ∨ v = s.progEnd n d 1) ∧ (s.deliver n d 1 res = v ∨ ∃ r g c, s.deliver n d 1 res = v.chanEnd r g c 1 res) := by
    have hdec : ¬ d.decodes = true := by simp [Desc.decodes, hop]
    unfold State.deliver
    by_cases horg : d.org = 1
    · refine ⟨s, .inl rfl, .inr ⟨d.origin % 16384, d.tag, d.cmpl, ?_⟩⟩
      simp [hop, horg]
    · refine ⟨_, .inr rfl, .inl ?_⟩
      simp only [hop, horg, ne_eq, not_false_eq_true, and_self, if_true, if_false, show ¬ (1 = 5) by decide, show ¬ (1 = 6) by decide,
        show ¬ (1 = 7) by decide, hdec]
      split
      · rfl
      · split
        · exact if_neg (by simp)
        · split
          next heq => exact absurd heq (by decide)
          next => rfl
  obtain ⟨v, hvs, hd⟩ := hv
  obtain ⟨hch, hlun⟩ := hend v hvs
  rcases hd with hd | ⟨r, g, c, hd⟩
  · rw [hd]
    exact ⟨hch, hlun⟩
  · rw [hd]
    refine ⟨(v.chanEnd_chans _ _ _ _ _).trans hch, fun l => ?_⟩
    rw [State.lun, v.chanEnd_luns, ← State.lun]
    exact hlun l

/-- What a PROG that ends LOADED leaves. -/
theorem State.opFinish_loaded (hop : d.opcode = 1) (hdesc : (u.ch n).ctx.desc = some d) :
    ((u.opFinish n d 1 0 0 0).ch n).ctx.run = .idle ∧ ((u.opFinish n d 1 0 0 0).ch n).ctx.desc = none ∧
    ((u.opFinish n d 1 0 0 0).ch n).ctx.status = (u.ch n).ctx.status ∧ ((u.opFinish n d 1 0 0 0).ch n).eng = (u.ch n).eng ∧
    (∀ p, (u.opFinish n d 1 0 0 0).place n p = u.place n p) ∧
    ((u.opFinish n d 1 0 0 0).lun n d.lun).op = (u.lun n d.lun).op ∧ ((u.opFinish n d 1 0 0 0).lun n d.lun).park = (u.lun n d.lun).park := by
  have hreads : d.reads = false := by simp [Desc.reads, hop]
  have hdecodes : d.decodes = false := by simp [Desc.decodes, hop]
  have hv : (u.ctxMap n (fun c => { c with res := u.stdRes n d 0 0 0 })).ch n = { u.ch n with ctx := { (u.ch n).ctx with res := u.stdRes n d 0 0 0 } } := by
    rw [State.ctxMap, State.ch_chMap, if_pos rfl]
  have hvl : ∀ l, (u.ctxMap n (fun c => { c with res := u.stdRes n d 0 0 0 })).lun n l = u.lun n l := fun _ => rfl
  unfold State.opFinish
  dsimp only
  generalize u.ctxMap n (fun c => { c with res := u.stdRes n d 0 0 0 }) = v at hv hvl ⊢
  have hvd : (v.ch n).ctx.desc = some d := by rw [hv]; exact hdesc
  have hw : ((v.ctxMap n (fun c => { c with desc := none })).freeSlot n d).ch n = { v.ch n with
      ctx := { (v.ch n).ctx with desc := none }, slots := (v.ch n).slots.eraseP (fun x => x.desc = d ∧ x.started) } := by
    rw [State.freeSlot, State.ch_chMap, if_pos rfl, State.ctxMap, State.ch_chMap, if_pos rfl]
  have hwl : ∀ l, ((v.ctxMap n (fun c => { c with desc := none })).freeSlot n d).lun n l = u.lun n l := hvl
  have hend : v.ctxComplete n 1 = ((v.ctxMap n (fun c => { c with desc := none })).freeSlot n d).deliver n d 1 (v.ch n).ctx.res := by
    simp [State.ctxComplete, hvd, State.complete, hreads, hdecodes]
  rw [hend]
  generalize (v.ctxMap n (fun c => { c with desc := none })).freeSlot n d = w at hw hwl ⊢
  obtain ⟨hch, hlun⟩ := State.deliver_loaded (s := w) (n := n) hop (v.ch n).ctx.res
  obtain ⟨hlop, hlpark⟩ := hlun d.lun
  generalize w.deliver n d 1 (v.ch n).ctx.res = x at hch hlop hlpark ⊢
  have hx : x.ch n = w.ch n := by rw [State.ch, hch, State.ch]
  have hxl : (x.ctxIdle n).lun n d.lun = x.lun n d.lun := rfl
  rw [hxl, hlop, hlpark, hwl]
  refine ⟨?_, ?_, ?_, ?_, fun p => ?_, rfl, rfl⟩ <;> simp only [State.place, State.ctxIdle, State.ctxMap, State.ch_chMap, if_true, hx, hw, hv]

/-- A confirm on the bus. -/
theorem State.writes_confirm (howns : u.ownsCh n = true) (b : Nat) :
    u.writes ((u.drive n [.cmd b]).engMap n (fun e => { e with last := b })) n d [.cmd b] := by
  have hconf := (State.sends_drive (c := d.lun % 8) howns [.cmd b]).trans
    (State.sends_engMap (fun e => { e with last := b }) (fun _ => rfl) (fun _ => rfl) (fun _ h => h))
  rw [List.append_nil] at hconf
  exact hconf.writes

end

/-! ## The end of a program -/

section
variable {s : State} {n : Fin 48} {d : Desc}

/-- The cycles of a program up to its last burst. -/
def State.progCycles (s : State) (n : Nat) (d : Desc) : List BusOp := s.progPlane n d 0 ++ s.progTail n d 3

/-- What lets a program go. -/
structure State.progGoes (s : State) (n : Fin 48) (d : Desc) : Prop where
  runs : s.runsOp n d
  may : s.mayWrite n d d.taddr 0x80
  opcode : d.opcode = 1
  pc : (s.ch n).ctx.pc ∉ [0x0213, 0x0218]
  rate : s.rateHold n = false
  permit : s.permit (n / 8) = true
  ready : (s.place n d.place).fullReady d.taddr = true

/-- A program reaches its confirm. -/
theorem State.progGoes.reaches (h : s.progGoes n d) (st : BitVec 8) : ∃ u, exec (.opProg n st) s = .next (u.progConfirm n d st) ∧
    s.writes u n d (s.progCycles n d) ∧ u.opened n d := by
  have hready : ∀ p, p < 4 → (s.place n d.place).planeReady p d.taddr = true := fun p hp =>
    List.all_eq_true.mp h.ready p (List.mem_range.mpr hp)
  have hpc := h.pc
  simp only [List.mem_cons, List.not_mem_nil, or_false, not_or] at hpc
  have hgo : ¬ (s.rateHold n = true ∨ (!s.permit (n / 8)) = true ∨ ((!d.cut) = true ∧ (!(s.place n d.place).fullReady d.taddr) = true)) := by
    simp [h.rate, h.permit, h.ready]
  obtain ⟨v, hrunv, hv, hopen⟩ := State.progOpen_writes h.may h.runs.desc 0 (State.progGo n d st 4)
  obtain ⟨u, hrun, hu, huopen⟩ := State.progGo_writes st 3 v (by decide) (hv.mayWrite h.may) (hv.desc.trans h.runs.desc)
    (fun p hp => (hv.planeReady d.place p d.taddr).trans (hready p hp)) hopen
  refine ⟨u, ?_, ?_, huopen⟩
  · refine h.runs.out h.opcode ?_
    dsimp only
    rw [if_neg hpc.2, if_neg hpc.1, if_neg hgo, hrunv, hrun]
  · have hall := hv.trans hu
    rwa [hv.progTail] at hall

/-- A program of an SLC or a level-2 page parks behind its confirm. -/
theorem State.progGoes.parks (h : s.progGoes n d) (hlast : d.tlc = false ∨ d.level = 2) (st : BitVec 8) :
    ∃ t, exec (.opProg n st) s = .next t ∧ (t.lun n d.lun).op = .program ∧
      (t.lun n d.lun).park.map (fun p => (p.cont, p.cls, p.desc)) = some (0x0218, if d.tlc then 2 else 1, d) ∧ (t.ch n).ctx.run = .idle ∧
      (t.ch n).eng.bus = (s.progCycles n d ++ [BusOp.cmd (s.progLast n d)]).reverse ++ (s.ch n).eng.bus ∧ (t.place n d.place).committed = true ∧
      (∀ k, k ≠ n.val → t.ch k = s.ch k) ∧
      t = { s with chans := t.chans, luns := t.luns, regs := t.regs, pins := t.pins, flt := t.flt, memi := t.memi } := by
  obtain ⟨u, hexec, hu, hopen⟩ := h.reaches st
  have hconf := State.writes_confirm (d := d) (hu.owns.trans h.runs.owns) (s.progLast n d)
  have hx := hu.trans hconf
  have hxopen := hconf.kept hopen
  have hbranch : ¬ (d.tlc && decide (d.level < 2)) = true := by rcases hlast with h | h <;> simp [h]
  unfold State.progConfirm at hexec
  simp only [if_neg hbranch, hu.progLast] at hexec
  generalize State.engMap (u.drive n [BusOp.cmd (s.progLast n d)]) n (fun e => { e with last := s.progLast n d }) = x at hx hxopen hexec
  have hlun := State.parkAt_lun (u := x.lunMap n d.lun (fun y => { y with op := .program })) (n := n) (d := d) 0x0218 (if d.tlc then 2 else 1)
  have hch := State.parkAt_ch (u := x.lunMap n d.lun (fun y => { y with op := .program })) (n := n) (d := d) 0x0218 (if d.tlc then 2 else 1)
  have hother := fun k => State.parkAt_other (u := x.lunMap n d.lun (fun y => { y with op := .program })) (n := n) (d := d) 0x0218 (if d.tlc then 2 else 1) (k := k)
  have hframe := State.parkAt_frame (u := x.lunMap n d.lun (fun y => { y with op := .program })) (n := n) (d := d) 0x0218 (if d.tlc then 2 else 1)
  have hxframe := State.chanLuns.trans (x.chanLuns_lunMap n d.lun (fun y => { y with op := .program })) hframe
  rw [State.lun_lunMap, if_pos rfl] at hlun
  rw [State.ch_lunMap] at hch
  refine ⟨_, hexec, ?_⟩
  generalize State.parkAt _ n d 0x0218 (if d.tlc then 2 else 1) = t at hlun hch hother hxframe
  refine ⟨by rw [hlun, LunS.parked], by rw [hlun]; rfl, by rw [hch]; rfl, by rw [hch]; exact hx.bus, ?_, fun k hk => ?_, ?_⟩
  · rw [State.place, hch]
    exact hxopen.2
  · rw [hother k hk, State.ch_lunMap, hx.other k hk]
  · have hsx := hx.frame
    conv_lhs => rw [hxframe, hsx]
    rw [hxframe]

/-- A program of level 0 or 1 is polled once and ends LOADED. -/
theorem State.progGoes.loads (h : s.progGoes n d) (htlc : d.tlc = true) (hlevel : d.level < 2) {st : BitVec 8} (hst : st.getLsbD 0 = false) :
    ∃ t, exec (.opProg n st) s = .next t ∧ (t.lun n d.lun).op = .unconfirmed ∧
      (t.lun n d.lun).park = (s.lun n d.lun).park ∧ (t.ch n).ctx.run = .idle ∧ (t.ch n).ctx.desc = none ∧ (t.ch n).ctx.status = st ∧
      (t.ch n).eng.bus = (s.progCycles n d ++ [BusOp.cmd (s.progLast n d)] ++ s.statOps n d.lun).reverse ++ (s.ch n).eng.bus ∧
      (t.place n d.place).committed = true ∧ t.ext = s.ext ∧ t.rot = s.rot := by
  obtain ⟨u, hexec, hu, hopen⟩ := h.reaches st
  have hconf := State.writes_confirm (d := d) (hu.owns.trans h.runs.owns) (s.progLast n d)
  have hx := hu.trans hconf
  have hxopen := hconf.kept hopen
  unfold State.progConfirm at hexec
  simp only [htlc, hlevel, decide_true, Bool.and_self, if_true, hst, Bool.false_eq_true, if_false, hu.progLast] at hexec
  generalize State.engMap (u.drive n [BusOp.cmd (s.progLast n d)]) n (fun e => { e with last := s.progLast n d }) = x at hx hxopen hexec
  have hpoll := (State.sends.writes (d := d) (State.sends_drive (hx.owns.trans h.runs.owns) (x.statOps n d.lun))).trans
    (State.writes_ctxMap (fun c => { c with status := st }) (fun _ => rfl))
  have hy := hx.trans hpoll
  obtain ⟨hyop, hycommit⟩ := hpoll.kept hxopen
  have hstatus : (State.ch (State.ctxMap (x.drive n (x.statOps n d.lun)) n (fun c => { c with status := st })) n).ctx.status = st := by
    rw [State.ctx_ctxMap]
  rw [hx.statOps] at hexec hy hyop hycommit hstatus
  generalize State.ctxMap (x.drive n (s.statOps n d.lun)) n (fun c => { c with status := st }) = y at hy hyop hycommit hstatus hexec
  obtain ⟨hidle, hnone, hkeep, heng, hplace, hop, hpark⟩ := State.opFinish_loaded h.opcode (hy.desc.trans h.runs.desc)
  have hyframe := hy.frame
  refine ⟨_, hexec, by rw [hop, hyop], by rw [hpark, hy.park], hidle, hnone, by rw [hkeep, hstatus], ?_, by rw [hplace, hycommit], ?_, ?_⟩
  · rw [heng, hy.bus]
    simp
  · rw [(y.opFinish_keep n d 1 0 0 0).2.2.2.1, hyframe]
  · rw [(y.opFinish_keep n d 1 0 0 0).2.2.1, hyframe]

/-! ## The end of an erase -/

theorem State.samplePut_chans (s : State) (n l : Nat) (b : Bool) (v : Nat) : (s.samplePut n l b v).chans = s.chans := by
  have hput := s.sramPut_chans 5 (refWord n l (if b then 3 else 2)) (BitVec.ofNat 32 v)
  unfold State.samplePut
  dsimp only
  generalize s.sramPut 5 (refWord n l (if b then 3 else 2)) (BitVec.ofNat 32 v) = u at hput ⊢
  rw [← hput]
  split <;> rfl

theorem State.sampleErase_chans (s : State) (n a : Nat) : (s.sampleErase n a).chans = s.chans := by
  refine foldl_chans _ (fun u b => ?_) _ s
  split
  · exact u.samplePut_chans _ _ _ _
  · rfl

/-- An erase without the ledger parks behind its last plane. -/
theorem State.erase_parks (h : s.runsOp n d) (hs : s.mayWrite n d (taSet d.taddr * 2048) 0x60) (hop : d.opcode = 2)
    (hpc : (s.ch n).ctx.pc ∉ [0x0304, 0x0330, 0x0344, 0x0345, 0x0352]) (hrate : s.rateHold n = false) (hpermit : s.permit 6 = true)
    (hledg : s.ledgOn = false) : ∃ t, exec (.opErase n) s = .next t ∧ (t.lun n d.lun).op = .erase ∧ (t.lun n d.lun).run0 = some s.cyc ∧
      (t.lun n d.lun).susCnt = 0 ∧ (t.lun n d.lun).park.map (fun p => (p.cont, p.cls, p.desc)) = some (0x0330, 3, d) ∧ (t.ch n).ctx.run = .idle ∧
      (t.ch n).eng.bus = (s.eraseTail n d (taSet d.taddr * 2048) 4).reverse ++ (s.ch n).eng.bus ∧ (∀ k, k ≠ n.val → t.ch k = s.ch k) ∧
      t.ext = s.ext ∧ t.pwr = s.pwr ∧ t.rot = s.rot := by
  simp only [List.mem_cons, List.not_mem_nil, or_false, not_or] at hpc
  obtain ⟨h304, h330, h344, h345, h352⟩ := hpc
  have hexec : exec (.opErase n) s = .next (State.erasePlanes n d (taSet d.taddr * 2048) 4 s) := by
    refine h.out hop ?_
    have hentry : s.ledgErase n false d = s := by simp [State.ledgErase, State.ledgAppend, hledg]
    have hgo : ¬ ((!s.permit 6) = true ∨ (s.ledgOn = true ∧ s.ledgFull n = true)) := by simp [hpermit, hledg]
    have hdurable : ¬ (s.rateHold n = true ∨ (!s.ledgSafe n) = true) := by simp [hrate, State.ledgSafe, hledg]
    dsimp only
    rw [if_neg h330, if_neg h344, if_neg h345, if_neg h352, if_neg h304, if_neg hgo, hentry, State.eraseGo, if_neg hdurable]
  obtain ⟨-, -, hrot, hext, -, -, -, hpwr⟩ := State.erasePlanes_keep n d (taSet d.taddr * 2048) 4 s
  obtain ⟨u, hrun, hu⟩ := State.erasePlanes_writes (taSet d.taddr * 2048) 4 s hs
  refine ⟨_, hexec, ?_⟩
  rw [hrun] at hrot hext hpwr ⊢
  have hcyc : (u.sampleErase n (taSet d.taddr * 2048)).cyc = s.cyc := by
    rw [(u.sampleErase_keep n _).2.2.2.2.1, hu.frame]
  have hch : ∀ k, (u.sampleErase n (taSet d.taddr * 2048)).ch k = u.ch k := fun k => by
    rw [State.ch, u.sampleErase_chans, State.ch]
  rw [State.erasePlanes] at hrot hext hpwr ⊢
  generalize u.sampleErase n (taSet d.taddr * 2048) = v at hcyc hch hrot hext hpwr ⊢
  have hvch : ∀ k, (v.engMap n (fun e => { e with last := 0xD0 })).ch k = if k = n then { u.ch n with eng := { (u.ch n).eng with last := 0xD0 } } else u.ch k :=
    fun k => by rw [State.engMap, State.ch_chMap, hch, hch]
  have hvcyc : (v.engMap n (fun e => { e with last := 0xD0 })).cyc = s.cyc := hcyc
  generalize v.engMap n (fun e => { e with last := 0xD0 }) = x at hvch hvcyc hrot hext hpwr ⊢
  refine ⟨?_, ?_, ?_, ?_, ?_, ?_, fun k hk => ?_, hext, hpwr, hrot⟩
  · rw [State.parkAt_lun, State.lun_lunMap, if_pos rfl, LunS.parked]
  · rw [State.parkAt_lun, State.lun_lunMap, if_pos rfl, LunS.parked, hvcyc]
  · rw [State.parkAt_lun, State.lun_lunMap, if_pos rfl, LunS.parked]
  · rw [State.parkAt_lun]
    rfl
  · rw [State.parkAt_ch]
    rfl
  · rw [State.parkAt_ch, State.ch_lunMap, hvch, if_pos rfl]
    exact hu.bus
  · rw [State.parkAt_other _ _ hk, State.ch_lunMap, hvch, if_neg hk, hu.other k hk]

end

end Sys2Proof.Machine

end

-- Channel operations: the routines of the vendor image (05_channel_operations.md R152 to R154, R163, R164, R170, R178, R180; 07_read_recovery.md R217, R220).
section

open Sys2Proof Sys2Proof.Machine

namespace Sys2Proof.Machine

section
variable {s : State} {n : Fin 48} {d : Desc}

/-- The cycles of a program, plane by plane. -/
theorem State.progCycles_eq (s : State) (n : Nat) (d : Desc) : [0, 1, 2, 3].flatMap (fun p => [BusOp.sel (d.lun % 8)] ++ s.prefixOps n d.tlc ++
    [.cmd 0x80, s.addr5 n d.taddr p 0, .dout 18432, .cmd (if p < 3 then 0x11 else s.progLast n d)]) =
    s.progCycles n d ++ [.cmd (s.progLast n d)] := by
  simp [State.progCycles, State.progTail, State.progPlane]

/-- The cycles of an erase, plane by plane. -/
theorem State.eraseTail_eq (s : State) (n : Nat) (d : Desc) (a : Nat) : [0, 1, 2, 3].flatMap (fun p => [BusOp.sel (d.lun % 8)] ++ s.prefixOps n d.tlc ++
    [.cmd 0x60, .addr (s.rowBytes n a p 0)] ++ (if p < 3 then .cmd 0xD1 :: s.statOps n d.lun else [.cmd 0xD0])) = s.eraseTail n d a 4 := by
  simp [State.eraseTail]

/-- SET_REF, GET_FEAT and STATUS of a ring drive their cycles and complete with their record. -/
theorem State.features_record (h : s.runsOp n d) (hcharter : (s.ch n).eng.charter.getLsbD (d.lun % 8) = false) (horg : d.org = 1)
    (hcmpl : d.cmpl = true) (b : BitVec 32) (st : BitVec 8) : ∀ q ∈ ([
        (0x0A, .opSetRef n, (s.ch n).ctx.status, 0#32, [.data [d.par 1, d.par 2, d.par 3, d.par 4], .addr [d.lun / 8, d.par 0], .cmd 0xD5, .sel (d.lun % 8)]),
        (0x0B, .opGetFeat n b, (s.ch n).ctx.status, b, [.din 4, .addr [d.lun / 8, d.par 0], .cmd 0xD4, .sel (d.lun % 8)]),
        (0x0D, .opStatus n st, st, 0#32, [(match (s.ch n).eng.sel with | some c => .sel c | none => .desel), .addr (s.rowBytes n (taddrOf n d.lun 0 0) 0 0), .cmd 0x78, .sel (d.lun % 8)])] :
        List (Nat × Instr × BitVec 8 × BitVec 32 × List BusOp)), d.opcode = q.1 →
      ∃ t, exec q.2.1 s = .next t ∧ t.rng.recs = s.rng.recs ++ [s.chanRec (d.origin % 16384) d.tag 0
          [BitVec.ofNat 16 q.2.2.1.toNat, BitVec.ofNat 16 (s.lun n d.lun).susCnt, q.2.2.2.1.extractLsb' 0 16, q.2.2.2.1.extractLsb' 16 16]] ∧
        (t.ch n).ctx.run = .idle ∧ (t.ch n).ctx.desc = none ∧ (t.ch n).eng.bus = q.2.2.2.2 ++ (s.ch n).eng.bus ∧
        (∀ k, k ≠ n.val → t.ch k = s.ch k) ∧ t = { s with chans := t.chans, luns := t.luns, rng := t.rng } := by
  have hzero : (0#32).extractLsb' 0 16 = 0#16 ∧ (0#32).extractLsb' 16 16 = 0#16 := by decide
  simp only [List.forall_mem_cons, hzero]
  refine ⟨fun hop => ?_, fun hop => ?_, fun hop => ?_, fun q hq => absurd hq List.not_mem_nil⟩
  · obtain ⟨t, hexec, hrec, hbus⟩ := State.setRef_records h hcharter hop horg hcmpl
    exact ⟨t, hexec, hrec.recs, hrec.run, hrec.desc, hbus, hrec.other, hrec.frame⟩
  · obtain ⟨t, hexec, hrec, hbus⟩ := State.getFeat_records h hcharter hop horg hcmpl b
    exact ⟨t, hexec, hrec.recs, hrec.run, hrec.desc, hbus, hrec.other, hrec.frame⟩
  · obtain ⟨t, hexec, hrec, hbus⟩ := State.status_records h hop horg hcmpl st
    exact ⟨t, hexec, hrec.recs, hrec.run, hrec.desc, hbus, hrec.other, hrec.frame⟩

/-- The decoded reads put their last pass out and end. -/
theorem State.reads_end {x : List DieBurst} (h : s.runsOp n d) (hm : s.getM n 3 ≠ 0) (hready : s.readReady n d = true)
    (hlast : s.getM n 0 + 1 = d.passes) (hguard : s.guardCmd n 0x06 = false) (hmiss : ∀ b ∈ x, b.miss = 0) :
    ∀ q ∈ ([(3, .opReadTile n x), (4, .opReadCw n x), (5, .opShadow n x), (6, .opPatrol n x)] : List (Nat × Instr)), d.opcode = q.1 →
      ∃ t, exec q.2 s = .next t ∧ s.readEnded t n d := by
  have hdec : ∀ op, 3 ≤ op → d.opcode = op → ∃ t, (.next (s.opRun n op (fun s d => s.decRead n d x)) : Out) = .next t ∧ s.readEnded t n d :=
    fun op hlo hop => ⟨_, h.out hop rfl, State.decRead_ends h (by omega) hm hready hlast hguard hmiss⟩
  simp only [List.forall_mem_cons]
  exact ⟨hdec 3 (by decide), hdec 4 (by decide), hdec 5 (by decide), hdec 6 (by decide), fun q hq => absurd hq List.not_mem_nil⟩

/-- RESET_LUN on a LUN without an open wordline resets it and parks; nothing else but a free value changes. -/
theorem State.resetLun_effect (h : s.runsOp n d) (hop : d.opcode = 0x0C) (hwake : (s.ch n).ctx.wakeRdy = false) (hwl : (s.lun n d.lun).wl = none) :
    ∃ t, exec (.opResetLun n) s = .next t ∧ (t.lun n d.lun).op = .reset ∧ (t.lun n d.lun).park.map (fun p => (p.cls, p.desc)) = some (0, d) ∧
      (t.ch n).ctx.run = .idle ∧ (t.ch n).eng.sel = some (d.lun % 8) ∧ (t.ch n).eng.last = 0xFA ∧ t.free = s.free + 1 ∧
      (∀ k, k ≠ n.val → t.ch k = s.ch k) ∧ t = { s with chans := t.chans, luns := t.luns, free := t.free } := by
  obtain ⟨t, hexec, hpark⟩ := State.resetLun_parks h hop hwake hwl
  obtain ⟨hwork, hsel, hlast, hreset, -⟩ := s.lunReset_effect n d.lun
  obtain ⟨⟨r, hlun, hcls, hdesc⟩, hctx, heng, hfree, hother, hframe⟩ := hpark
  have huframe := hwork.2
  have hufree : (s.lunReset n d.lun).free = s.free := by rw [huframe]
  refine ⟨t, hexec, ?_, ?_, ?_, by rw [heng, hsel], by rw [heng, hlast], by rw [hfree, hufree], fun k hk => (hother k hk).trans (hwork.other hk), ?_⟩
  · rw [hlun, LunS.parked, hreset]
  · rw [hlun, LunS.parked, Option.map_some, hcls, hdesc]
  · rw [hctx, CtxS.ended]
  · generalize s.lunReset n d.lun = u at huframe hframe
    conv_lhs => rw [hframe, huframe]

end

end Sys2Proof.Machine

/-- Settles O30, routine by routine: what each drives is followed through its cycles, and no completion touches the contexts or the cycle
engines. -/
theorem routinesDriveParkAndComplete : Obligations.RoutinesDriveParkAndComplete := by
  refine ⟨fun s n d hrun hdesc htrap hwait hbus hcharter => ?_, fun s n d x hrun hdesc htrap hwait hbus hop hen hm hready hguard hmiss => ?_⟩
  · have h : s.runsOp n d := ⟨hrun, hdesc, htrap, hwait, hbus⟩
    refine ⟨fun st hop hpc hrate hpermit hready hlets w hw => ?_, fun hop hpc hrate hpermit hledg hlets w hw => ?_,
      fun x q hq hop hm hrate hsusp hguard hen hplanes => ?_, fun x q hq hop hm hready hlast hguard hmiss => ?_,
      fun x q hq hop hlast hm hready hguard hmiss => ?_, fun hop hwake hwl => State.resetLun_effect h hop hwake hwl,
      fun b st horg hcmpl => State.features_record h hcharter horg hcmpl b st⟩
    · have hgoes : s.progGoes n d := ⟨h, ⟨h.owns, hcharter, hlets⟩, hop, hpc, hrate, hpermit, hready⟩
      rw [State.progCycles_eq] at hw
      subst hw
      exact ⟨fun hlast => hgoes.parks hlast st, fun htlc hlevel hst => hgoes.loads htlc hlevel hst⟩
    · rw [State.eraseTail_eq] at hw
      subst hw
      exact State.erase_parks h ⟨h.owns, hcharter, hlets⟩ hop hpc hrate hpermit hledg
    · obtain ⟨t, hexec, hpark, hbit⟩ := State.read_starts h hcharter x hm hrate hsusp hguard hen hplanes q hq hop
      exact ⟨t, hexec, hpark.op, hpark.park, hpark.run, hpark.desc, hpark.sel, hpark.bus, hbit, hpark.free, hpark.other, hpark.frame⟩
    · obtain ⟨t, hexec, hend⟩ := State.reads_end h hm hready hlast hguard hmiss q hq hop
      exact ⟨t, hexec, hend.run, hend.desc, hend.preMiss, hend.bus⟩
    · simp only [List.mem_cons, List.not_mem_nil, or_false] at hq
      rcases hq with rfl | rfl
      · exact State.blankVerify_ends h hop hm hready (of_decide_eq_true hlast) hguard hmiss
      · exact State.bbScan_ends h hop hm hready (of_decide_eq_true hlast) hguard hmiss
  · exact State.readCharter_ends ⟨hrun, hdesc, htrap, hwait, hbus⟩ hop hen hm hready hguard hmiss

end

-- Codeword: reads and writes of the buffers' words (14_memory_integrity.md R412, R416, R428).
section

open Sys2Proof Sys2Proof.Machine

namespace Sys2Proof.Machine

/-! ## The report of a word of a buffer -/

/-- The register words outside the page MEMI read in `t` as in `s`. -/
def State.memiPageOnly (s t : State) : Prop := ∀ a, a < 0x4000 ∨ 0x5000 ≤ a → t.rd a = s.rd a

section
variable {s t u : State}

theorem State.memiPageOnly.trans (h : s.memiPageOnly t) (k : t.memiPageOnly u) : s.memiPageOnly u := fun a ha => (k a ha).trans (h a ha)

theorem State.memiPageOnly_of_regs (h : t.regs = s.regs) : s.memiPageOnly t := fun a _ => by rw [State.rd, h, State.rd]

theorem State.memiPageOnly.get (h : s.memiPageOnly t) {f : Fld} (hf : f.addr < 0x4000 ∨ 0x5000 ≤ f.addr) : t.get f = s.get f :=
  State.get_of_rd (h _ hf)

/-- Words of the page MEMI are apart from the others. -/
theorem State.memiPageOnly_of_wordsKept {as : List Nat} (h : s.wordsKept t as) (has : ∀ a ∈ as, 0x4000 ≤ a ∧ a < 0x5000) : s.memiPageOnly t :=
  fun a ha => h a fun hm => by
    have := has a hm
    omega

end

/-- The registers that the report of an uncorrectable word may write. -/
theorem State.wordsKept_reportUe (s : State) (r w : Nat) : s.wordsKept (s.reportUe r w 0)
    [evtAddr .memi 0, (R.MEMI_UE_CNT_CNT r).addr, (R.MEMI_LAST_UE_ORIGIN r).addr, (R.MEMI_LAST_UE_WADDR r).addr] := by
  have hcount := s.wordsKept_count (memiSrc + 7 + r) (memiDetail r w)
    [evtAddr .memi 0, (R.MEMI_UE_CNT_CNT r).addr, (R.MEMI_LAST_UE_ORIGIN r).addr, (R.MEMI_LAST_UE_WADDR r).addr]
  unfold State.reportUe
  rw [if_neg (by decide : ¬ (0 : Nat) = 3)]
  generalize s.count (memiSrc + 7 + r) (memiDetail r w) = t at hcount ⊢
  dsimp only
  split
  · exact hcount
  · exact (((hcount.trans (t.wordsKept_raise _ _ _ (by simp))).trans (State.wordsKept_set _ _ _ (by simp))).trans
      (State.wordsKept_set _ _ _ (by simp))).trans (State.wordsKept_set _ _ _ (by simp))

/-- A report leaves an armed injection armed. -/
theorem State.reportCe_inj (s : State) (r w : Nat) (b : Bool) : (s.reportCe r w b).memi.inj = s.memi.inj := by
  have hcount : (s.count (memiSrc + r) (memiDetail r w)).memi = s.memi := State.count_memi _ _ _
  unfold State.reportCe
  generalize s.count (memiSrc + r) (memiDetail r w) = t at hcount ⊢
  have hbump : ((t.raise .memi 0 0).bump (R.MEMI_CE_CNT_CNT r)).memi = s.memi := (State.raise_memi _ _ _ _).trans hcount
  dsimp only
  split
  · rw [hcount]
  · split
    · rw [hbump]
    · split <;> rw [hbump]

theorem State.reportUe_inj (s : State) (r w : Nat) : (s.reportUe r w 0).memi.inj = s.memi.inj := by
  have hcount : (s.count (memiSrc + 7 + r) (memiDetail r w)).memi = s.memi := State.count_memi _ _ _
  unfold State.reportUe
  rw [if_neg (by decide : ¬ (0 : Nat) = 3)]
  generalize s.count (memiSrc + 7 + r) (memiDetail r w) = t at hcount ⊢
  dsimp only
  split
  · rw [hcount]
  · exact congrArg MemiS.inj ((State.raise_memi t .memi 0 1).trans hcount)

/-- `t` is `s` after reads of buffers: their words with an error have been reported. -/
structure State.seesBuf (s t : State) : Prop where
  reports : s.reports t
  inj : t.memi.inj = s.memi.inj
  words : s.memiPageOnly t

theorem State.seesBuf_refl (s : State) : s.seesBuf s := ⟨s.reports_refl, rfl, fun _ _ => rfl⟩

theorem State.seesBuf_trans (s t u : State) (h : s.seesBuf t) (k : t.seesBuf u) : s.seesBuf u :=
  ⟨State.reports_trans h.reports k.reports, k.inj.trans h.inj, h.words.trans k.words⟩

/-- The registers of the regions, 0 to 6, lie in the page MEMI. -/
theorem State.seesBuf_bufReport (s : State) {r : Nat} (hr : r < 7) (p : Nat × BitVec 72) : s.seesBuf (s.bufReport r 0 p) := by
  have hevt : 0x4000 ≤ evtAddr .memi 0 ∧ evtAddr .memi 0 < 0x5000 := by decide
  have hreg : ∀ b, b ≤ 0x4114 → 0x4000 ≤ b → 0x4000 ≤ b + r * 0x20 ∧ b + r * 0x20 < 0x5000 := by omega
  unfold State.bufReport
  split
  · exact s.seesBuf_refl
  · refine ⟨s.reports_reportUe _ _ _, s.reportUe_inj _ _, State.memiPageOnly_of_wordsKept (s.wordsKept_reportUe _ _) ?_⟩
    simp only [List.forall_mem_cons, List.not_mem_nil, false_implies, implies_true, and_true]
    exact ⟨hevt, hreg 0x4110 (by decide) (by decide), hreg 0x4114 (by decide) (by decide), hreg 0x4114 (by decide) (by decide)⟩
  · refine ⟨s.reports_reportCe _ _ _, s.reportCe_inj _ _ _, State.memiPageOnly_of_wordsKept (s.wordsKept_reportCe _ _) ?_⟩
    simp only [List.forall_mem_cons, List.not_mem_nil, false_implies, implies_true, and_true]
    exact ⟨hevt, hreg 0x410C (by decide) (by decide)⟩

theorem State.seesBuf_bufRead (s : State) {r : Nat} (hr : r < 7) (w n : Nat) : s.seesBuf (s.bufRead r w n) :=
  foldl_rel State.seesBuf_refl State.seesBuf_trans _ (fun t p => t.seesBuf_bufReport hr p) _ s

/-! ## Writes of the tile buffer and of the decoder buffer -/

/-- A write of words marks them, and an injection that lands in it may invert data bits of the first. -/
theorem State.bufWrote_marks (s : State) (r w n : Nat) : ∃ m, s.bufWrote r w n = { s with memi := m } ∨
    ∃ k, s.bufWrote r w n = ({ s with memi := m } : State).bufFlip r w k := by
  unfold State.bufWrote
  dsimp only
  split
  · split
    · split
      · exact ⟨_, .inr ⟨_, rfl⟩⟩
      · exact ⟨_, .inl rfl⟩
    · exact ⟨_, .inl rfl⟩
  · exact ⟨_, .inl rfl⟩

theorem State.bufWrote_tile (s : State) (w n : Nat) : s.bufWrote 0 w n =
    { s with tbuf := (s.bufWrote 0 w n).tbuf, memi := (s.bufWrote 0 w n).memi } := by
  obtain ⟨m, h | ⟨k, h⟩⟩ := s.bufWrote_marks 0 w n <;> rw [h]
  rfl

theorem State.bufWrote_dec (s : State) (w n : Nat) : s.bufWrote 2 w n =
    { s with dec := { s.dec with buf := (s.bufWrote 2 w n).dec.buf }, memi := (s.bufWrote 2 w n).memi } := by
  obtain ⟨m, h | ⟨k, h⟩⟩ := s.bufWrote_marks 2 w n <;> rw [h]
  rfl

theorem State.tbPut_frame (s : State) (n p off : Nat) (bs : List Byte) :
    s.tbPut n p off bs = { s with tbuf := (s.tbPut n p off bs).tbuf, memi := (s.tbPut n p off bs).memi } := by
  unfold State.tbPut
  rw [State.bufWrote_tile]

theorem State.dPut_frame (s : State) (e off : Nat) (bs : List Byte) :
    s.dPut e off bs = { s with dec := { s.dec with buf := (s.dPut e off bs).dec.buf }, memi := (s.dPut e off bs).memi } := by
  unfold State.dPut
  rw [State.bufWrote_dec]

/-- With no injection armed, bytes stored in a place read back. -/
theorem State.tbGet_tbPut {s : State} (h : s.memi.inj = none) (n p off : Nat) (bs : List Byte) :
    (s.tbPut n p off bs).tbGet n p off bs.length = bs := by
  have hbuf : (s.tbPut n p off bs).tbuf = tstore s.tbuf (tbKey n p + off) bs :=
    congrArg State.tbuf (State.bufWrote_frame (s := { s with tbuf := tstore s.tbuf (tbKey n p + off) bs }) h _ _ _)
  rw [State.tbGet, hbuf]
  refine List.ext_getElem (by simp [tbytes]) fun i _ hi => ?_
  simpa [tbytes] using tstore_same s.tbuf (tbKey n p + off) i bs hi

end Sys2Proof.Machine

end

-- Codeword: the encoders (06_codeword.md R187 to R193).
section

open Sys2Proof Sys2Proof.Machine

namespace Sys2Proof.Machine

/-! ## The length of a codeword -/

theorem length_leBytes (n v : Nat) : (leBytes n v).length = n := by
  induction n generalizing v with
  | zero => rfl
  | succ n ih => rw [leBytes, List.length_cons, ih]

theorem length_keystream (n r : Nat) : (keystream n r).length = n := by
  induction n generalizing r with
  | zero => rfl
  | succ n ih => rw [keystream, List.length_cons, ih]

theorem length_scramble (t k : Nat) (bs : List Byte) : (scramble t k bs).length = bs.length := by
  rw [scramble, List.length_zipWith, length_keystream, Nat.min_self]

theorem length_parityCols (us : List Col) : (parityCols us).length = 8 := rfl

theorem length_ldpcParity (info : List Byte) : (ldpcParity info).length = 512 := by
  rw [ldpcParity, List.length_flatMap, List.map_congr_left (fun _ _ => length_leBytes 64 _), List.map_const', List.sum_replicate,
    length_parityCols]
  rfl

theorem State.length_encodedCw (s : State) (n p k t : Nat) : (s.encodedCw n p k t).length = 4608 := by
  simp [State.encodedCw, length_ldpcParity, length_scramble, State.tbGet, tbytes]

/-! ## What encoding touches -/

/-- From `s` to `t` the encoder of channel `n` has worked on place `p`: the channel's other parts, the other channels, and what says for
which address the place is to be encoded are as before. -/
structure State.encodes (s t : State) (n p : Nat) : Prop where
  rank : (t.place n p).sealRank = (s.place n p).sealRank
  taddr : (t.place n p).taddr = (s.place n p).taddr
  place : ∀ j, j ≠ p → t.place n j = s.place n j
  other : ∀ j, j ≠ n → t.ch j = s.ch j
  words : s.memiPageOnly t
  frame : t = { s with chans := t.chans, tbuf := t.tbuf, memi := t.memi, sram := t.sram, regs := t.regs, pins := t.pins, flt := t.flt }

section
variable {s t u : State} {n p : Nat}

theorem State.encodes.trans (h : s.encodes t n p) (k : t.encodes u n p) : s.encodes u n p where
  rank := k.rank.trans h.rank
  taddr := k.taddr.trans h.taddr
  place := fun j hj => (k.place j hj).trans (h.place j hj)
  other := fun j hj => (k.other j hj).trans (h.other j hj)
  words := h.words.trans k.words
  frame := by rw [k.frame, h.frame]

theorem State.place_of_chans (h : t.chans = s.chans) (n p : Nat) : t.place n p = s.place n p := by
  rw [State.place, State.ch, h, State.place, State.ch]

/-- Work that leaves the channels. -/
theorem State.encodes_of_chans (hch : t.chans = s.chans) (hw : s.memiPageOnly t)
    (ht : t = { s with chans := t.chans, tbuf := t.tbuf, memi := t.memi, sram := t.sram, regs := t.regs, pins := t.pins, flt := t.flt }) :
    s.encodes t n p := by
  have hplace := State.place_of_chans hch n
  exact ⟨by rw [hplace], by rw [hplace], fun j _ => hplace j, fun j _ => by rw [State.ch, hch, State.ch], hw, ht⟩

theorem State.encodes_refl (s : State) (n p : Nat) : s.encodes s n p := State.encodes_of_chans rfl (fun _ _ => rfl) rfl

theorem State.encodes_tbPut (s : State) (n p off : Nat) (bs : List Byte) : s.encodes (s.tbPut n p off bs) n p := by
  have h := s.tbPut_frame n p off bs
  exact State.encodes_of_chans (by rw [h]) (State.memiPageOnly_of_regs (by rw [h])) (by rw [h])

theorem State.encodes_bufRead (s : State) (n p w k : Nat) : s.encodes (s.bufRead 0 w k) n p := by
  obtain ⟨h, -, hw⟩ := s.seesBuf_bufRead (by decide : 0 < 7) w k
  unfold State.reports at h
  exact State.encodes_of_chans (by rw [h]) hw (by rw [h])

theorem State.encodes_placeMap (f : PlaceS → PlaceS) (hr : ∀ v, (f v).sealRank = v.sealRank) (ht : ∀ v, (f v).taddr = v.taddr) :
    s.encodes (s.placeMap n p f) n p where
  rank := by rw [State.place_placeMap, if_pos rfl, hr]
  taddr := by rw [State.place_placeMap, if_pos rfl, ht]
  place := fun j hj => by rw [State.place_placeMap, if_neg hj]
  other := fun j hj => by rw [State.placeMap, State.ch_chMap_other _ _ hj]
  words := fun _ _ => rfl
  frame := rfl

/-- A place is to be encoded for the same address after work of its encoder. -/
theorem State.encodes.encTarget (h : s.encodes t n p) (hn : n < 48) : t.encTarget n p = s.encTarget n p := by
  have hlun : t.sealLun n = s.sealLun n := h.words.get (f := R.CH_SEAL_CFG_LUN n) (.inr (by change 0x5000 ≤ 0x30050 + n * 0x1000; omega))
  have hblk : t.get R.PWR_SEAL_AREA_BLK = s.get R.PWR_SEAL_AREA_BLK := h.words.get (.inl (by decide))
  have hpage : t.get R.PWR_SEAL_AREA_PAGE = s.get R.PWR_SEAL_AREA_PAGE := h.words.get (.inl (by decide))
  simp only [State.encTarget, State.sealTaddr, h.rank, h.taddr, hlun, hblk, hpage]

/-! ## Encoding codewords -/

/-- What is done before a place notes a codeword leaves the channels. -/
theorem State.chans_encodeBytes (s : State) (n p w k off : Nat) (bs : List Byte) :
    ((s.bufRead 0 w k).tbPut n p off bs).chans = s.chans := by
  have h := (s.seesBuf_bufRead (by decide : 0 < 7) w k).reports
  unfold State.reports at h
  rw [State.tbPut_frame, h]

theorem State.encodes_encodeCw (s : State) (n p k a : Nat) : s.encodes (s.encodeCw n p k a) n p :=
  ((s.encodes_bufRead n p _ _).trans (State.encodes_tbPut _ n p _ _)).trans (State.encodes_placeMap _ (fun _ => rfl) (fun _ => rfl))

/-- The place notes the codeword and the address it is encoded for (R192). -/
theorem State.place_encodeCw (s : State) (n p k a : Nat) :
    (s.encodeCw n p k a).place n p = { s.place n p with enc := (s.place n p).enc ||| 2 ^ k, encAddr := a } := by
  rw [State.encodeCw, State.place_placeMap, if_pos rfl, State.place_of_chans (s.chans_encodeBytes n p _ _ _ _)]

/-- With no injection armed, the place holds the encoded codeword. -/
theorem State.tbGet_encodeCw (h : s.memi.inj = none) (n p k a : Nat) :
    (s.encodeCw n p k a).tbGet n p (k * 4608) 4608 = s.encodedCw n p k a := by
  have hinj := (s.seesBuf_bufRead (by decide : 0 < 7) (n * 73728 + p * 9216 + k * 576) 512).inj.trans h
  have hget := State.tbGet_tbPut hinj n p (k * 4608) (s.encodedCw n p k a)
  rw [s.length_encodedCw] at hget
  exact hget

/-- Codewords encoded one after the other for the place's address. -/
def State.encodeAll (s : State) (n p : Nat) (ks : List Nat) : State := ks.foldl (fun u k => u.encodeCw n p k (u.encTarget n p)) s

theorem State.encodeAll_effect (hn : n < 48) (ks : List Nat) (s : State) : s.encodes (s.encodeAll n p ks) n p ∧
    ((s.encodeAll n p ks).place n p).enc = ks.foldl (fun m k => m ||| 2 ^ k) (s.place n p).enc ∧
    ((s.encodeAll n p ks).place n p).encAddr = if ks = [] then (s.place n p).encAddr else s.encTarget n p := by
  induction ks generalizing s with
  | nil => exact ⟨s.encodes_refl n p, rfl, rfl⟩
  | cons k ks ih =>
    have hstep := s.encodes_encodeCw n p k (s.encTarget n p)
    obtain ⟨hrest, henc, haddr⟩ := ih (s.encodeCw n p k (s.encTarget n p))
    rw [State.place_encodeCw] at henc haddr
    rw [hstep.encTarget hn, ite_self] at haddr
    exact ⟨hstep.trans hrest, henc, haddr⟩

/-- Taking the keystream out of a place's codewords leaves none encoded. -/
theorem State.unscramble_effect (s : State) (n p : Nat) : s.encodes (s.unscramble n p) n p ∧ ((s.unscramble n p).place n p).enc = 0 := by
  refine ⟨State.encodes.trans ?_ (State.encodes_placeMap _ (fun _ => rfl) (fun _ => rfl)), ?_⟩
  · exact foldl_rel (P := fun t u => t.encodes u n p) (fun t => t.encodes_refl n p) (fun _ _ _ => State.encodes.trans) _
      (fun t _ => t.encodes_tbPut n p _ _) _ s
  · rw [State.unscramble, State.place_placeMap, if_pos rfl]

/-! ## The set of encoded codewords -/

theorem testBit_foldl_or (ks : List Nat) (m i : Nat) :
    (ks.foldl (fun m k => m ||| 2 ^ k) m).testBit i = (m.testBit i || decide (i ∈ ks)) := by
  induction ks generalizing m with
  | nil => simp
  | cons k ks ih => simp [ih, Nat.testBit_two_pow, Bool.or_assoc, eq_comm]

/-- A mask of 16 bits is put together from its bits. -/
theorem foldl_or_bits {m : Nat} (h : m < 65536) : ((List.range 16).filter (bit m)).foldl (fun m k => m ||| 2 ^ k) 0 = m := by
  refine Nat.eq_of_testBit_eq fun i => ?_
  rw [testBit_foldl_or, Nat.zero_testBit, Bool.false_or, Bool.eq_iff_iff, decide_eq_true_iff, List.mem_filter, List.mem_range, bit_eq_testBit]
  refine and_iff_right_of_imp fun hi => ?_
  exact (Nat.pow_lt_pow_iff_right (by decide : 1 < 2)).mp ((Nat.ge_two_pow_of_testBit hi).trans_lt h)

theorem filter_bits_ne_nil {m : Nat} (h : m < 65536) (h0 : m ≠ 0) : (List.range 16).filter (bit m) ≠ [] := fun hnil => by
  have hm := foldl_or_bits h
  rw [hnil] at hm
  exact h0 hm.symm

/-! ## The commands -/

theorem exec_encodeCodeword {n : Fin 48} {k : Nat} (h : s.encPick n = some (p, k)) :
    exec (.encodeCodeword n) s = .next (s.encodeCw n p k (s.encTarget n p)) := by rw [exec, execEncodeCodeword, h]

/-- Is the place encoded for an address that its PROG does not carry (R193)? -/
def State.stale (s : State) (n p : Nat) : Bool :=
  (s.place n p).used && (s.place n p).issued && (s.place n p).enc ≠ 0 && (s.place n p).encAddr ≠ s.encTarget n p

theorem State.stale_iff : s.stale n p = true ↔
    (s.place n p).used = true ∧ (s.place n p).issued = true ∧ (s.place n p).enc ≠ 0 ∧ (s.place n p).encAddr ≠ s.encTarget n p := by
  simp [State.stale, and_assoc]

theorem filter_range_eq (p : Fin 8) : (List.range 8).filter (fun j => decide (j = p.val)) = [p.val] := by
  revert p
  decide

/-- With no other codeword to encode, the one stale place is encoded again. -/
theorem exec_reencode {n : Fin 48} {p : Fin 8} (hpick : s.encPick n = none) (hp : s.stale n p = true)
    (hother : ∀ j : Fin 8, j ≠ p → s.stale n j = false) :
    exec (.reencode n) s = .next ((s.unscramble n p).encodeAll n p ((List.range 16).filter (bit (s.place n p).enc))) := by
  have hfilter : (List.range 8).filter (s.stale n) = [p.val] := by
    refine (List.filter_congr fun j hj => ?_).trans (filter_range_eq p)
    by_cases h : j = p.val
    · rw [h, hp, decide_eq_true rfl]
    · rw [hother ⟨j, List.mem_range.mp hj⟩ (fun he => h (congrArg Fin.val he)), decide_eq_false h]
  unfold State.stale at hfilter
  simp only [exec, execReencode, hpick, hfilter, Option.isSome_none, Bool.false_eq_true, if_false]
  rfl

end

end Sys2Proof.Machine

end

-- Codeword: the decoder pool (06_codeword.md R194 to R197; 07_read_recovery.md R222).
section

open Sys2Proof Sys2Proof.Machine

namespace Sys2Proof.Machine

section
variable {s : State} {j : Job} {x : DecOut} {e : Nat}

/-- Where no read and no ladder waits for a place, the end of a job there ends nothing else. -/
theorem State.jobsCheck_alone (hreads : ∀ n, n < 48 → ∀ r ∈ (s.ch n).reads, r.desc.dbuf ≠ e) (hladder : ∀ id p, s.dplace e ≠ .ladder id p) :
    s.jobsCheck e = s := by
  have hnone : (List.range 48).findSome? (fun n => ((s.ch n).reads.find? (fun r => r.desc.dbuf = e)).map (fun r => (n, r))) = none := by
    refine List.findSome?_eq_none_iff.mpr fun n hn => Option.map_eq_none_iff.mpr (List.find?_eq_none.mpr fun r hr => ?_)
    rw [decide_eq_true_iff]
    exact hreads n (List.mem_range.mp hn) r hr
  unfold State.jobsCheck
  dsimp only
  rw [hnone]
  dsimp only
  split
  · next h => exact absurd h (hladder _ _)
  · rfl

/-! ## DECODE_JOB -/

/-- The job of a landed codeword, with the cap of its iterations (R195; 07 R222). -/
def DLand.job (l : DLand) (cap : Nat) : Job where
  place := l.desc.dbuf
  cw := l.cw
  off := l.desc.cwOff l.cw
  soft := l.desc.soft
  mag := if l.desc.stepEff = 3 then 2 else 3
  taddr := l.desc.taddr
  step := l.desc.stepEff
  cap := cap
  urgent := l.desc.opcode = 3 ∨ l.desc.opcode = 4

theorem exec_decodeJob_queued {l : DLand} {ls : List DLand} (hl : s.dec.landed = l :: ls)
    (hz : s.get R.DEC_ERASED_MAX_MAX < zeroBits (s.dGet l.desc.dbuf (l.desc.cwOff l.cw) 4608)) :
    exec .decodeJob s = .next ((s.decMap (fun y => { y with landed := ls })).pushJob (l.job (s.stepCap l.desc.stepEff))) := by
  rw [exec, execDecodeJob, hl]
  exact if_neg (Nat.not_le.mpr hz)

/-- A codeword found erased is classed at once (07 R222). -/
theorem exec_decodeJob_erased {l : DLand} {ls : List DLand} (hl : s.dec.landed = l :: ls)
    (hz : zeroBits (s.dGet l.desc.dbuf (l.desc.cwOff l.cw) 4608) ≤ s.get R.DEC_ERASED_MAX_MAX)
    (hreads : ∀ n, n < 48 → ∀ r ∈ (s.ch n).reads, r.desc.dbuf ≠ l.desc.dbuf) (hladder : ∀ id p, s.dplace l.desc.dbuf ≠ .ladder id p) :
    exec .decodeJob s = .next ((s.decMap (fun y => { y with landed := ls })).resPut l.desc.dbuf l.cw 2 0 l.desc.stepEff 0) := by
  rw [exec, execDecodeJob, hl]
  exact (if_pos hz).trans (congrArg _ (State.jobsCheck_alone hreads hladder))

/-- A job joins the first queue when its read is of opcode 3 or 4, else the second (R195). -/
theorem State.pushJob_urgent (h : j.urgent = true) : s.pushJob j = { s with dec := { s.dec with hi := s.dec.hi ++ [j] } } := by
  rw [State.pushJob, State.decMap, if_pos h]

theorem State.pushJob_other (h : j.urgent = false) : s.pushJob j = { s with dec := { s.dec with lo := s.dec.lo ++ [j] } } := by
  rw [State.pushJob, State.decMap, h, if_neg Bool.false_ne_true]

/-! ## DECODE_START -/

/-- The lowest engine that is free and takes work. -/
theorem State.engFree_eq (he : e < s.gen.ndec) (hw : s.takesWork (decDom e) = true) (hfree : s.dec.run.all (fun q => q.1 ≠ e) = true)
    (hlow : ∀ k, k < e → s.takesWork (decDom k) = true → (tget (fun _ => none) s.dec.run k : Option Job) ≠ none) : s.engFree = some e := by
  have hidle : (tget (fun _ => none) s.dec.run e : Option Job) = none := by
    rw [tget, tfind_of_absent fun q hq => Ne.symm (of_decide_eq_true (List.all_eq_true.mp hfree q hq)), Option.getD_none]
  refine List.find?_range_eq_some.mpr ⟨by rw [hidle, hw]; rfl, List.mem_range.mpr he, fun k hk => ?_⟩
  have hbusy := hlow k hk
  cases hwork : s.takesWork (decDom k) with
  | false => simp
  | true => simpa [Option.ne_none_iff_isSome] using hbusy hwork

theorem exec_decodeStart_first {js : List Job} (he : s.engFree = some e) (hq : s.dec.hi = j :: js) : exec .decodeStart s =
    .next { s with dec := { s.dec with hi := js, run := tput (fun _ => none) s.dec.run e (some j) } } := by
  simp only [exec, execDecodeStart, he, hq]
  rfl

theorem exec_decodeStart_second {js : List Job} (he : s.engFree = some e) (hempty : s.dec.hi = []) (hq : s.dec.lo = j :: js) :
    exec .decodeStart s = .next { s with dec := { s.dec with lo := js, run := tput (fun _ => none) s.dec.run e (some j) } } := by
  conv_lhs => simp only [exec, execDecodeStart, he, hempty, hq]
  rfl

/-! ## DECODE_DONE -/

/-- The job has left its engine, and its outcome and its iterations are counted (R197). -/
def State.jobCounted (s : State) (e : Nat) (j : Job) (x : DecOut) : State :=
  let u := (s.bufRead 2 (j.place * 16384 + j.off / 8) 576).decMap (fun y => { y with run := tput (fun _ => none) y.run e none })
  let u := (u.bump (if x.pass then R.DEC_CW_PASS_CNT else R.DEC_CW_FAIL_CNT)).bumpBy R.DEC_ITER_SUM_CNT x.iter
  u.set R.DEC_ITER_MAX_MAX (max x.iter (u.get R.DEC_ITER_MAX_MAX))

/-- A codeword that passes is compared with a probe's strobes and written back; one that fails raises CW_FAIL. -/
def State.jobSettled (s : State) (j : Job) (x : DecOut) : State :=
  if x.pass then (s.shadowCount j x).dPut j.place j.off (scramble j.taddr j.cw ((colBytes x.cols).take 4096)) else s.decRaise 0

section
variable (cw outcome usc step iter : Nat)

theorem State.result_resPut (s : State) (e : Nat) : tget zeroWord (s.resPut e cw outcome usc step iter).dec.result (e * 16 + cw) =
    BitVec.ofNat 32 (2 ^ 31 + outcome * 2 ^ 29 + usc * 2 ^ 16 + step * 256 + iter) := tget_tput_same _ _ _ _

theorem State.resPut_frame (s : State) (e : Nat) : ∃ r, s.resPut e cw outcome usc step iter = { s with dec := { s.dec with result := r } } :=
  ⟨_, rfl⟩

theorem State.buf_resPut (s : State) (e : Nat) : (s.resPut e cw outcome usc step iter).dec.buf = s.dec.buf := by
  obtain ⟨r, h⟩ := s.resPut_frame cw outcome usc step iter e
  rw [h]

theorem State.rd_resPut (s : State) (e a : Nat) : (s.resPut e cw outcome usc step iter).rd a = s.rd a := by
  obtain ⟨r, h⟩ := s.resPut_frame cw outcome usc step iter e
  rw [h, State.rd, State.rd]

end

/-- The state after the end of the job of engine `e`. -/
def State.jobDone (s : State) (e : Nat) (j : Job) (x : DecOut) : State :=
  ((s.jobCounted e j x).jobSettled j x).resPut j.place j.cw (b2n (!x.pass)) x.usc j.step x.iter

theorem State.jobCounted_frame (s : State) (e : Nat) (j : Job) (x : DecOut) : s.jobCounted e j x = { s with
    dec := { s.dec with run := tput (fun _ => none) s.dec.run e none }, memi := (s.jobCounted e j x).memi
    regs := (s.jobCounted e j x).regs, pins := (s.jobCounted e j x).pins, flt := (s.jobCounted e j x).flt } := by
  have h := (s.seesBuf_bufRead (by decide : 2 < 7) (j.place * 16384 + j.off / 8) 576).reports
  unfold State.reports at h
  unfold State.jobCounted
  generalize s.bufRead 2 (j.place * 16384 + j.off / 8) 576 = u at h ⊢
  dsimp only
  rw [h]
  rfl

/-- In `t` only the error counts of shadow probes may differ. -/
def State.shadowOnly (s t : State) : Prop := t = { s with dec := { s.dec with shadow := t.dec.shadow } }

theorem State.shadowOnly_trans (s t u : State) (h : s.shadowOnly t) (k : t.shadowOnly u) : s.shadowOnly u := by
  unfold State.shadowOnly at h k ⊢
  rw [k, h]

theorem State.shadowOnly_shadowCount (s : State) (j : Job) (x : DecOut) : s.shadowOnly (s.shadowCount j x) := by
  unfold State.shadowCount
  split
  · exact foldl_rel (P := State.shadowOnly) (fun _ => rfl) State.shadowOnly_trans _ (fun t _ => by rw [State.shadowOnly, State.decMap]) _ s
  · rfl

theorem State.jobSettled_frame (s : State) (j : Job) (x : DecOut) : s.jobSettled j x = { s with
    dec := { s.dec with buf := (s.jobSettled j x).dec.buf, shadow := (s.jobSettled j x).dec.shadow }, memi := (s.jobSettled j x).memi
    regs := (s.jobSettled j x).regs, pins := (s.jobSettled j x).pins, flt := (s.jobSettled j x).flt } := by
  unfold State.jobSettled
  split
  · have h := s.shadowOnly_shadowCount j x
    unfold State.shadowOnly at h
    rw [State.dPut_frame, h]
  · rw [State.decRaise, State.raise_frame]

/-- Of the counts of codewords, the end of a job counts in that of its outcome alone. -/
theorem State.get_jobCounted {f : Fld} (hf : f = R.DEC_CW_PASS_CNT ∨ f = R.DEC_CW_FAIL_CNT) : (s.jobCounted e j x).get f =
    if f = (if x.pass then R.DEC_CW_PASS_CNT else R.DEC_CW_FAIL_CNT) then min f.max (s.get f + 1) else s.get f := by
  have hread := (s.seesBuf_bufRead (by decide : 2 < 7) (j.place * 16384 + j.off / 8) 576).words
  unfold State.jobCounted
  generalize s.bufRead 2 (j.place * 16384 + j.off / 8) 576 = u at hread ⊢
  generalize hpick : (if x.pass then R.DEC_CW_PASS_CNT else R.DEC_CW_FAIL_CNT) = g
  have hg : g = R.DEC_CW_PASS_CNT ∨ g = R.DEC_CW_FAIL_CNT := by
    rw [← hpick]
    split <;> simp
  have hiter : f.addr ≠ R.DEC_ITER_SUM_CNT.addr ∧ f.addr ≠ R.DEC_ITER_MAX_MAX.addr := by rcases hf with rfl | rfl <;> decide
  have hget : u.get f = s.get f := hread.get (by rcases hf with rfl | rfl <;> decide)
  rw [State.get_set_other _ _ hiter.2, State.bumpBy, State.get_set_other _ _ hiter.1]
  by_cases h : f = g
  · rw [if_pos h, ← h, State.get_bump_same _ _ (by rcases hf with rfl | rfl <;> decide), State.get_decMap, hget, sat_eq_min]
  · have haddr : f.addr ≠ g.addr := by
      rcases hf with rfl | rfl <;> rcases hg with rfl | rfl
      · exact absurd rfl h
      · decide
      · decide
      · exact absurd rfl h
    rw [if_neg h, State.bump, State.bumpBy, State.get_set_other _ _ haddr, State.get_decMap, hget]

theorem State.get_jobSettled {f : Fld} (hf : f = R.DEC_CW_PASS_CNT ∨ f = R.DEC_CW_FAIL_CNT) : (s.jobSettled j x).get f = s.get f := by
  unfold State.jobSettled
  split
  · have h := s.shadowOnly_shadowCount j x
    unfold State.shadowOnly at h
    rw [State.dPut_frame, h]
    rfl
  · exact State.get_raise _ _ _ _ _ (by rcases hf with rfl | rfl <;> decide)

theorem State.jobDone_frame (s : State) (e : Nat) (j : Job) (x : DecOut) : s.jobDone e j x = { s with
    dec := { s.dec with run := tput (fun _ => none) s.dec.run e none, buf := (s.jobDone e j x).dec.buf, result := (s.jobDone e j x).dec.result
                        shadow := (s.jobDone e j x).dec.shadow }
    memi := (s.jobDone e j x).memi, regs := (s.jobDone e j x).regs, pins := (s.jobDone e j x).pins, flt := (s.jobDone e j x).flt } := by
  have hcount := s.jobCounted_frame e j x
  unfold State.jobDone
  generalize s.jobCounted e j x = u at hcount ⊢
  have hsettle := u.jobSettled_frame j x
  generalize u.jobSettled j x = v at hsettle ⊢
  rw [State.resPut, hsettle, hcount]

/-- After the end of a job its engine is free, its result word is written, and of the rest of the pool the bytes of the places and the counts
of probes alone may differ. -/
theorem State.jobDone_effect (s : State) (e : Nat) (j : Job) (x : DecOut) : let t := s.jobDone e j x
    t = { s with dec := t.dec, memi := t.memi, sram := t.sram, regs := t.regs, pins := t.pins, flt := t.flt } ∧
    (tget (fun _ => none) t.dec.run e : Option Job) = none ∧ t.dec.hi = s.dec.hi ∧ t.dec.lo = s.dec.lo ∧ t.dec.landed = s.dec.landed ∧
    t.dec.places = s.dec.places ∧ tget zeroWord t.dec.result (j.place * 16 + j.cw) =
      BitVec.ofNat 32 (2 ^ 31 + b2n (!x.pass) * 2 ^ 29 + x.usc * 2 ^ 16 + j.step * 256 + x.iter) := by
  have hframe := s.jobDone_frame e j x
  refine ⟨by rw [hframe], ?_, by rw [hframe], by rw [hframe], by rw [hframe], by rw [hframe], State.result_resPut _ _ _ _ _ _ _⟩
  rw [hframe]
  exact tget_tput_same (fun _ => none) s.dec.run e none

theorem State.get_jobDone {f : Fld} (hf : f = R.DEC_CW_PASS_CNT ∨ f = R.DEC_CW_FAIL_CNT) : (s.jobDone e j x).get f =
    if f = (if x.pass then R.DEC_CW_PASS_CNT else R.DEC_CW_FAIL_CNT) then min f.max (s.get f + 1) else s.get f := by
  rw [State.jobDone, State.get_of_rd (State.rd_resPut _ _ _ _ _ _ _ _), State.get_jobSettled hf, State.get_jobCounted hf]

/-- A codeword that fails raises CW_FAIL, and its place keeps its bytes. -/
theorem State.jobDone_fails (h : x.pass = false) : (s.jobDone e j x).event .dec 0 0 = true ∧ (s.jobDone e j x).dec.buf = s.dec.buf := by
  rw [State.jobDone, State.event, State.rd_resPut, State.buf_resPut, State.jobSettled, h, if_neg Bool.false_ne_true, State.decRaise, State.raise_dec,
    State.jobCounted_frame]
  exact ⟨State.event_raised _ _ _ _ (by decide), rfl⟩

theorem exec_decodeDone {e : Fin 24} (hj : (tget (fun _ => none) s.dec.run e : Option Job) = some j)
    (hreads : ∀ n, n < 48 → ∀ r ∈ (s.ch n).reads, r.desc.dbuf ≠ j.place) (hladder : ∀ id p, s.dplace j.place ≠ .ladder id p) :
    exec (.decodeDone e) s = .next (s.jobDone e j (s.decodeJob j)) := by
  have hstep : exec (.decodeDone e) s = .next ((s.jobDone e j (s.decodeJob j)).jobsCheck j.place) := by
    rw [exec, execDecodeDone, hj]
    dsimp only
    unfold State.jobDone State.jobSettled State.jobCounted
    generalize s.decodeJob j = x
    cases x.pass <;> simp only [Bool.false_eq_true, if_false, if_true]
  have hframe := s.jobDone_frame e j (s.decodeJob j)
  have hchans : (s.jobDone e j (s.decodeJob j)).chans = s.chans := by rw [hframe]
  have hplaces : (s.jobDone e j (s.decodeJob j)).dec.places = s.dec.places := by rw [hframe]
  rw [hstep, State.jobsCheck_alone]
  · intro n hn r hr
    rw [State.ch, hchans] at hr
    exact hreads n hn r hr
  · intro id p
    rw [State.dplace, hplaces]
    exact hladder id p

end

end Sys2Proof.Machine

/-- Settles O32, command by command: an encoder touches its place and the buffer's memories, a decoder engine its pool, the integrity unit and
the registers. -/
theorem encodersAndPoolRunTheirJobs : Obligations.EncodersAndPoolRunTheirJobs := by
  refine ⟨fun s n p k hpick => ?encode, fun s n p hpick hused hissued henc hlt haddr hother => ?reencode, fun s l ls hl hz => ?queued,
    fun s l ls hl hz hreads hladder => ?erased, fun s e j js he hw hfree hlow => ?start, fun s e j hj hreads hladder => ?done⟩
  case encode =>
    have h := s.encodes_encodeCw n p k (s.encTarget n p)
    have hplace := s.place_encodeCw n p k (s.encTarget n p)
    exact ⟨_, exec_encodeCodeword hpick, by rw [hplace], by rw [hplace], fun hinj => State.tbGet_encodeCw hinj n p k _, h.place, h.other, h.frame⟩
  case reencode =>
    have hothers : ∀ j : Fin 8, j ≠ p → s.stale n j = false := fun j hj => Bool.eq_false_iff.mpr fun hst => by
      obtain ⟨hjused, hjissued, hjenc, hjaddr⟩ := State.stale_iff.mp hst
      exact (hother j hj hjused hjissued).elim hjenc hjaddr
    obtain ⟨hplain, hnone⟩ := s.unscramble_effect n p
    obtain ⟨hcws, hmask, htarget⟩ := State.encodeAll_effect n.isLt ((List.range 16).filter (bit (s.place n p).enc)) (s.unscramble n p)
    have h := hplain.trans hcws
    refine ⟨_, exec_reencode hpick (State.stale_iff.mpr ⟨hused, hissued, henc, haddr⟩) hothers, ?_, ?_,
      fun j hj => h.place j (Fin.val_ne_of_ne hj), h.other, h.frame⟩
    · rw [hmask, hnone, foldl_or_bits hlt]
    · rw [htarget, if_neg (filter_bits_ne_nil hlt henc), hplain.encTarget n.isLt]
  case queued =>
    refine ⟨_, exec_decodeJob_queued hl hz, l.job (s.stepCap l.desc.stepEff), rfl, rfl, rfl, rfl, rfl, rfl, rfl, fun hop => ?_, fun hne3 hne4 => ?_⟩
    · exact State.pushJob_urgent (decide_eq_true hop)
    · exact State.pushJob_other (decide_eq_false (not_or.mpr ⟨hne3, hne4⟩))
  case erased =>
    refine ⟨_, exec_decodeJob_erased hl hz hreads hladder, rfl, (tget_tput_same _ _ _ _).trans ?_⟩
    rw [Nat.zero_mul, Nat.add_zero, Nat.add_zero]
  case start =>
    have heng := State.engFree_eq he hw hfree hlow
    have hsame := tget_tput_same (fun _ => none) s.dec.run e (some j)
    have hothers : ∀ k, k ≠ e → _ := fun k hk => tget_tput_other (fun _ => none) s.dec.run (some j) hk
    exact ⟨fun hq => ⟨_, exec_decodeStart_first heng hq, rfl, hsame, hothers⟩,
      fun hempty hq => ⟨_, exec_decodeStart_second heng hempty hq, rfl, hsame, hothers⟩⟩
  case done =>
    refine ⟨_, exec_decodeDone hj hreads hladder, ?_⟩
    generalize s.decodeJob j = x
    obtain ⟨hframe, hrun, hhi, hlo, hlanded, hplaces, hresult⟩ := s.jobDone_effect e j x
    have hpass : (s.jobDone e j x).get R.DEC_CW_PASS_CNT = _ := State.get_jobDone (.inl rfl)
    have hfail : (s.jobDone e j x).get R.DEC_CW_FAIL_CNT = _ := State.get_jobDone (.inr rfl)
    refine ⟨hframe, hrun, hhi, hlo, hlanded, hplaces, hresult, fun hx => ?_, fun hx => ?_⟩
    · rw [hx] at hpass hfail
      exact ⟨hpass, hfail⟩
    · rw [hx] at hpass hfail
      exact ⟨hfail, hpass, State.jobDone_fails hx⟩

end

-- Codeword: the memory ports and the records of stripes (06_codeword.md R210; 01_architecture.md R40; 02_ports.md R51).
section

open Sys2Proof Sys2Proof.Machine

namespace Sys2Proof.Machine

/-- While a write burst is presented on a port, the port grants nothing. -/
theorem State.mpPump_presenting {s : State} {port : Nat} (h : s.mp.writes.any (fun w => w.port = port) = true) : s.mpPump port = s := by
  rw [State.mpPump, State.mpGrant, if_pos h]

/-- A record waits while its port presents a write burst. -/
theorem State.stripeRecPut_waits {s : State} {x : Stripe} (hcnt : s.get R.LACE_REC_COUNT_CNT ≠ 0) (hm : s.mirrors = false)
    (hbusy : s.mp.writes.any (fun w => w.port = x.num % 2) = true) : (s.stripeRecPut x).mp.writes = s.mp.writes := by
  have hwait : ∀ q : MpReq, q.port = x.num % 2 → s.mpAsk q = { s with mp := { s.mp with queue := s.mp.queue ++ [q] } } := fun q hq =>
    State.mpPump_presenting (by rw [hq]; exact hbusy)
  rw [State.stripeRecPut, if_neg hcnt, State.mpWrite, hwait _ rfl, State.mirror, if_neg (by exact ne_true_of_eq_false hm)]
  exact (congrArg MpS.writes (State.raise_mp _ _ _ _)).trans rfl

/-- STRIPE_RECORD while the port of the record presents a write burst: the ports present the bursts they presented before. -/
theorem exec_stripeRecord_waits {s : State} {x : Stripe} (hx : s.lace.stripes.find? s.recordDue = some x)
    (hcnt : s.get R.LACE_REC_COUNT_CNT ≠ 0) (hm : s.mirrors = false) (hbusy : s.mp.writes.any (fun w => w.port = x.num % 2) = true) :
    ∃ t, exec .stripeRecord s = .next t ∧ t.mp.writes = s.mp.writes := by
  refine ⟨_, by rw [exec, execStripeRecord, hx], State.stripeRecPut_waits hcnt hm ?_⟩
  rw [apply_ite Stripe.num, ite_self]
  exact hbusy

/-- A stripe of one data tile, which has passed at address 0; it has no parity. -/
def passedStripe : Stripe :=
  { num := 0, prof := 0, width := 2, parity := 1, mask := 3, set := 0, hoop := 0, cap := 1, closed := some 1, noParity := true, fin := true
    slots := [{ ch := 0, place := 0, landed := true, taddr := 0 }] }

/-- The record of `passedStripe` is due, on port 0, which presents a burst of 64 bytes. -/
def recordBehindBurst : State :=
  let s : State := { lace := { stripes := [passedStripe] }, mp := { writes := [{ port := 0, addr := 0, data := List.replicate 64 0, use := .none }] } }
  s.set R.LACE_REC_COUNT_CNT 1

theorem recordBehindBurst_due : recordBehindBurst.lace.stripes.find? recordBehindBurst.recordDue = some passedStripe := by decide +kernel

end Sys2Proof.Machine

/-- Refutes O33: each memory port presents one write burst at a time (R40, R51), so in `recordBehindBurst` the record that STRIPE_RECORD writes
waits for its grant and is not among the bursts presented. -/
theorem not_laceStripesCloseCopyAndRecord : ¬ Obligations.LaceStripesCloseCopyAndRecord := by
  rintro ⟨-, -, -, hrecord, -⟩
  have hcnt : recordBehindBurst.get R.LACE_REC_COUNT_CNT ≠ 0 := by decide +kernel
  have hm : recordBehindBurst.mirrors = false := by decide +kernel
  obtain ⟨t, hexec, -, -, hlonger, -⟩ := (hrecord _ _ recordBehindBurst_due).2 hcnt hm
  obtain ⟨u, hwaits, hsame⟩ := exec_stripeRecord_waits recordBehindBurst_due hcnt hm (by decide +kernel)
  obtain rfl : t = u := Host.Outcome.next.inj (hexec.symm.trans hwaits)
  rw [hsame] at hlonger
  exact absurd hlonger (by decide)

end

-- Read recovery: the fold of a survivor (07_read_recovery.md R232).
section

open Sys2Proof Sys2Proof.Machine

namespace Sys2Proof.Machine

/-! ## The counterexample to the fold of a survivor -/

/-- Request 5 rebuilds codeword 0 of the data tile in slot 1 of a stripe of three slots, the last of them parity; survivor 0 is still to end. -/
def rebuildingReq : RReq :=
  { id := 5, who := [.chan { opcode := 4, flags := 8, origin := 0x4000, taddr := 2048, dbuf := 1, mask := 1 } []], taddr := 2048, tlc := false
    tile := false, mask := 1, tileno := 77, hint := 9, refset := 0, place := 1, groups := [], dead := [0], deep := 7
    recon := some { stripe := 9, width := 3, parity := 1, addrs := [0, 2048, 4096], slot := 1, mask := 1, set := 0, left := [0], todo := []
                    lost := [1], rows := [0] } }

/-- Every place of the decoder pool is in use, place 0 by survivor 0 of `rebuildingReq`, which has passed; an almanac LOAD waits for a place to
read slot X-A. -/
def foldBesideLoad : State :=
  { pwr := { doms := (List.range 13).map (fun d => (d, { st := .on, req := true, ack := true })) }
    dec := { places := (0, .survivor 5 0) :: (1, .chan 0) :: (List.range 22).map (fun n => (n + 2, .shadow n)) }
    lace := { used := [0] }
    rcv := { reqs := [rebuildingReq], folds := [(5, 0, 0)]
             load := some [{ hi := 2048 }, { hi := 0, fin := true }, { hi := 0, fin := true }, { hi := 0, fin := true }] } }

theorem foldBesideLoad_full : foldBesideLoad.decFree = none := by decide +kernel

/-- The LOAD takes the place that the fold frees. -/
theorem foldBesideLoad_taken : (nextOf (exec .survivorFold foldBesideLoad)).map (fun t => t.dplace 0) = some (.almanac 0) := by decide +kernel

end Sys2Proof.Machine

/-- Refutes O34 for an almanac LOAD that waits for a place of the pool, which the statement does not exclude: in `foldBesideLoad` the place of
the folded survivor goes to the LOAD at once (06_codeword.md R194) and does not stay free. -/
theorem not_ladderAndReconstructionAdvance : ¬ Obligations.LadderAndReconstructionAdvance := by
  rintro ⟨-, -, -, -, hfold, -⟩
  obtain ⟨t, hexec, -, hfree, -⟩ := hfold foldBesideLoad 5 0 0 [] rfl rfl
  have htaken := foldBesideLoad_taken
  rw [nextOf_exec hexec, Option.map_some, hfree] at htaken
  exact absurd (Option.some.inj htaken) (by decide)

end

-- Read recovery: the almanac's SAVE (07_read_recovery.md R238).
section

open Sys2Proof Sys2Proof.Machine

namespace Sys2Proof.Machine

/-! ## The words that a SAVE reads for its record (14_memory_integrity.md R416) -/

theorem State.memiReports_noteN (s : State) (w n : Nat) : s.memiReports (s.noteN 5 w n) := by
  induction n generalizing s w with
  | zero => exact s.memiReports_refl
  | succ n ih => exact (s.note_reports w).1.trans (ih _ _)

theorem State.memiReports_almSeen (s : State) : s.memiReports s.almSeen :=
  (foldl_rel State.memiReports_refl (fun _ _ _ => State.memiReports.trans) _ (fun t _ => t.memiReports_noteN _ _) _ s).trans
    (foldl_rel State.memiReports_refl (fun _ _ _ => State.memiReports.trans) _ State.memiReports_trimSeen _ _)

/-! ## The record of a SAVE in a place (07_read_recovery.md R238) -/

section
variable (s : State) (n p : Nat)

theorem State.infoWords_frame (k j : Nat) (bs : List Byte) :
    s.infoWords n p k j bs = { s with tbuf := (s.infoWords n p k j bs).tbuf, memi := (s.infoWords n p k j bs).memi } := by
  induction k generalizing s j bs with
  | zero => rfl
  | succ k ih =>
    rw [State.infoWords, ih]
    have h := s.tbPut_frame n p (rawPos j) (bs.take 8)
    rw [h]

theorem State.infoPut_rcv (j : Nat) (bs : List Byte) : (s.infoPut n p j bs).rcv = s.rcv := by rw [State.infoPut, State.infoWords_frame]

/-- The end of a tile that no stripe holds leaves the recovery unit. -/
theorem State.tileFinish_rcv (h : (s.place n p).stripe = unmapped) : (s.tileFinish n p).rcv = s.rcv := by
  have hput : ∀ t : State, ∀ hd, (t.trailerPut n p hd).rcv = t.rcv := fun t hd => t.infoPut_rcv n p _ _
  unfold State.tileFinish
  dsimp only
  split
  · rw [hput, State.infoPut_rcv]
  · rw [if_pos h, hput, State.infoPut_rcv]

theorem State.issueProg_rcv (cut : Bool) : (s.issueProg n p cut).rcv = s.rcv := by
  unfold State.issueProg
  simp [State.issue, apply_ite State.rcv, State.placeMap]

theorem State.place_claimPlace (v : PlaceS) : (s.claimPlace n p v).place n p = { v with used := true, claim := (s.ch n).nextClaim } := by
  rw [State.claimPlace, State.place, State.ch_chMap, if_pos rfl]
  exact (s.place_placeMap n p p _).trans (if_pos rfl)

theorem State.place_infoPut (j : Nat) (bs : List Byte) : (s.infoPut n p j bs).place n p = s.place n p :=
  State.place_of_chans (by rw [State.infoPut, State.infoWords_frame]) n p

/-- A record goes into a place of its channel. -/
theorem State.saveOn_save {x : SaveS} (hsave : s.rcv.save = some x) (hnew : ¬ (x.progs.any (fun y => y.1 = n) ∨ n ∈ x.erase))
    (hp : s.almPlace n = some p) : (s.saveOn n).rcv.save = some { x with progs := x.progs ++ [(n, some p, none)] } := by
  rw [State.saveOn, hsave]
  dsimp only
  rw [if_neg hnew, hp]
  dsimp only
  rw [State.issueProg_rcv, State.saveMap, State.rcvMap_rcv, State.tileFinish_rcv, State.infoPut_rcv]
  · exact congrArg (Option.map _) hsave
  · rw [State.place_infoPut, State.place_claimPlace]
    rfl

/-- A channel's part of a SAVE leaves the programs of the others. -/
theorem State.saveOn_keeps {x : SaveS} (hsave : s.rcv.save = some x) : ∃ y, (s.saveOn n).rcv.save = some y ∧ x.progs <+: y.progs := by
  by_cases hnew : x.progs.any (fun y => y.1 = n) ∨ n ∈ x.erase
  · rw [State.saveOn, hsave]
    dsimp only
    rw [if_pos hnew]
    exact ⟨x, hsave, x.progs.prefix_refl⟩
  · cases hp : s.almPlace n with
    | none =>
      rw [State.saveOn, hsave]
      dsimp only
      rw [if_neg hnew, hp]
      exact ⟨x, hsave, x.progs.prefix_refl⟩
    | some p => exact ⟨_, s.saveOn_save n p hsave hnew hp, x.progs.prefix_append _⟩

end

/-- SEQ of the next record. -/
def State.nextSeq (s : State) : Nat := (s.get R.DEC_ALM_SEQ_SEQ + 1) % 2 ^ 32

/-- A SAVE with its record, before the record goes into a place. -/
def State.saveBegun (s : State) : State :=
  (s.almSeen.set R.DEC_ALM_STAT_BUSY 1).rcvMap (fun r => { r with save := some { seq := s.nextSeq, bytes := s.almBytes s.nextSeq } })

section
variable (s : State)

theorem State.saveBegun_chans : s.saveBegun.chans = s.chans := by
  change s.almSeen.chans = s.chans
  rw [s.memiReports_almSeen.1]

/-- The registers of the page DEC read as before, but for the word of BUSY. -/
theorem State.get_saveBegun {f : Fld} (hpage : 0x5000 ≤ f.addr) (hbusy : f.addr ≠ R.DEC_ALM_STAT_BUSY.addr) : s.saveBegun.get f = s.get f :=
  (State.get_set_other _ _ hbusy).trans (State.get_of_rd (s.memiReports_almSeen.2 _ hpage))

theorem State.almChans_saveBegun : s.saveBegun.almChans = s.almChans := by
  rw [State.almChans, s.get_saveBegun (by decide) (by decide), s.get_saveBegun (by decide) (by decide), State.almChans]

theorem State.almPage_saveBegun (b : Bool) : s.saveBegun.almPage b = s.almPage b := by
  rw [State.almPage, s.get_saveBegun (by decide) (by decide), s.get_saveBegun (by decide) (by decide), State.almPage]

theorem State.almPages_saveBegun (n : Nat) : s.saveBegun.almPages n = s.almPages n := by
  rw [State.almPages, State.ch, s.saveBegun_chans, State.almPages, State.ch]

theorem State.almPlace_saveBegun (n : Nat) : s.saveBegun.almPlace n = s.almPlace n := by
  have hplace := fun p => State.place_of_chans s.saveBegun_chans n p
  simp only [State.almPlace, State.freePlace, hplace]

/-- With room on the slot a SAVE puts its record into a place of each channel. -/
theorem State.saveStart_room (hroom : ∀ n ∈ s.almChans, s.almPage (almSlot s.nextSeq) < s.almPages n) :
    s.saveStart = s.almChans.foldl State.saveOn s.saveBegun := by
  have hnot : ¬ (s.saveBegun.almChans.any (fun n => decide (s.saveBegun.almPages n ≤ s.saveBegun.almPage (almSlot s.nextSeq))) = true) := by
    simpa [State.almPage_saveBegun, State.almPages_saveBegun, State.almChans_saveBegun] using hroom
  rw [← s.almChans_saveBegun]
  exact if_neg hnot

/-- With room on the slot the record goes first into the place that CH_X offers: one that an earlier record holds before a free one. -/
theorem State.saveStart_progs {p : Nat} (hroom : ∀ n ∈ s.almChans, s.almPage (almSlot s.nextSeq) < s.almPages n)
    (hp : s.almPlace (s.get R.DEC_ALM_CH_CH_X) = some p) :
    ∃ y, s.saveStart.rcv.save = some y ∧ [(s.get R.DEC_ALM_CH_CH_X, some p, none)] <+: y.progs := by
  rw [s.saveStart_room hroom, State.almChans]
  exact State.saveOn_keeps _ _ (s.saveBegun.saveOn_save _ p rfl (by simp) (by rw [State.almPlace_saveBegun, hp]))

end

/-- A SAVE that is neither refused nor behind another command begins. -/
theorem exec_almSave_starts {s : State} {w : Word} (htakes : s.portTakes R.DEC_ALM_CMD_CMD.addr) (hbusy : s.flag R.DEC_ALM_STAT_BUSY = false)
    (hw : w.toNat % 4 = 2) (hxy : s.get R.DEC_ALM_CH_CH_X ≠ s.get R.DEC_ALM_CH_CH_Y) (hloaded : s.rcv.loaded = true) :
    exec (.almSave w) s = .next s.saveStart := by
  rw [exec, execAlmSave, State.cpWr_taken _ _ _ _ _ htakes, almWr]
  simp [hbusy, hw, hxy, hloaded]

/-! ## The counterexample to the places of a SAVE -/

/-- Place 0 of channel 0 holds the tile of an almanac record whose program did not pass; a LOAD has completed, and the almanac channels are
0 and 1. -/
def heldRecord : State :=
  let s : State := { cp := { ready := true, fuseOpen := false }
                     pwr := { doms := (List.range 13).map (fun d => (d, { st := .on, req := true, ack := true })) }
                     chans := [(0, { places := [(0, { used := true, kind := .almanac, whole := true, claim := 1 })] })]
                     rcv := { loaded := true } }
  s.set R.DEC_ALM_CH_CH_Y 1

theorem heldRecord_takes : heldRecord.portTakes R.DEC_ALM_CMD_CMD.addr := ⟨by decide +kernel, 0, by decide +kernel, by decide +kernel⟩

theorem heldRecord_room : ∀ n ∈ heldRecord.almChans, heldRecord.almPage (almSlot heldRecord.nextSeq) < heldRecord.almPages n := by decide +kernel

end Sys2Proof.Machine

/-- Refutes O35 for a place that an earlier record holds, which the statement does not exclude: in `heldRecord` the program of the last SAVE
did not pass and its place stays held (05_channel_operations.md R168), so the next SAVE puts its record into place 0 of channel 0 and not into
place 1, the lowest free one. -/
theorem not_almanacSavesAndLoads : ¬ Obligations.AlmanacSavesAndLoads := by
  rintro ⟨hcmd, -⟩
  have hbusy : heldRecord.flag R.DEC_ALM_STAT_BUSY = false := by decide +kernel
  have hxy : heldRecord.get R.DEC_ALM_CH_CH_X ≠ heldRecord.get R.DEC_ALM_CH_CH_Y := by decide +kernel
  obtain ⟨-, -, hsave⟩ := hcmd heldRecord 2#32 heldRecord_takes hbusy
  obtain ⟨hplaces, -⟩ := hsave rfl _ rfl _ rfl hxy rfl _ rfl
  obtain ⟨t, hexec, -, hrcv, -⟩ := hplaces heldRecord_room 1 0 (by decide +kernel) (by decide +kernel)
  obtain rfl : heldRecord.saveStart = t := Host.Outcome.next.inj ((exec_almSave_starts heldRecord_takes hbusy rfl hxy rfl).symm.trans hexec)
  obtain ⟨y, hy, hprogs⟩ := heldRecord.saveStart_progs heldRecord_room (p := 0) (by decide +kernel)
  rw [hrcv] at hy
  cases hy
  obtain ⟨_, hl⟩ := hprogs
  simp at hl

end

-- Ingest: the tiers of the spool (08_ingest_spool.md R251 to R254, R266).
section

open Sys2Proof Sys2Proof.Machine

namespace Sys2Proof.Machine

/-! ## The counterexample to the passage from head to tail -/

/-- A DATA item whose words hold zeros. -/
def zeroItem : Item := { v := 0, tag := 0 }

/-- Lane 0 has 2,049 items in its head and takes position 7,168 of the tail next, the one after the last: its first value word is the word of
the tags of head positions 0 to 15. An injection of two bits is armed for the spools. -/
def tailPastItsPlaces : State :=
  { pwr := { doms := (List.range 13).map (fun d => (d, { st := .on, req := true, ack := true })) }
    memi := { inj := some { region := 1, two := true, posA := 0, posB := 1 } }
    lanes := [(0, { head := zeroItem :: zeroItem :: List.replicate 2047 zeroItem, headAt := 2048, tailAt := 7168 })] }

/-- The injection lands with the first item, and makes the second one unusable. -/
theorem tailPastItsPlaces_passed : (nextOf (exec (.headToTail 0) tailPastItsPlaces)).map (fun t => (t.lane 0).tail.map Item.bad) =
    some [false, true] := by decide +kernel

end Sys2Proof.Machine

/-- Refutes O37 for a lane whose next tail position is not one of the 7,168, which the statement does not exclude: in `tailPastItsPlaces` the
first item that HEAD_TO_TAIL passes is stored over the tags of the second (14_memory_integrity.md R408), where an armed injection leaves an
uncorrectable word (R428), so that the second item comes unusable (08_ingest_spool.md R253) and not as it was. -/
theorem not_spoolMovesItemsBetweenTiers : ¬ Obligations.SpoolMovesItemsBetweenTiers := by
  rintro ⟨hpass, -⟩
  obtain ⟨t, hexec, hlane, -⟩ := hpass tailPastItsPlaces 0 zeroItem zeroItem (List.replicate 2047 zeroItem) (by decide +kernel) rfl rfl
    (by rw [List.length_replicate]) rfl (by decide)
  have htail : (t.lane 0).tail.map Item.bad = [false, false] := congrArg (fun l => l.tail.map Item.bad) hlane
  have hpassed := tailPastItsPlaces_passed
  rw [nextOf_exec hexec, Option.map_some, htail] at hpassed
  exact absurd hpassed (by decide)

end

-- Ingest: what the framing of a lane changes (08_ingest_spool.md R243, R249, R264).
section

open Sys2Proof Sys2Proof.Machine

namespace Sys2Proof.Machine

/-! ## One lane -/

theorem State.lane_congr {s t : State} (h : t.lanes = s.lanes) (k : Nat) : t.lane k = s.lane k := by rw [State.lane, h, State.lane]

/-- `t` is `u` but for lane `n`, which is `x`. -/
def State.laneIs (u t : State) (n : Nat) (x : LaneS) : Prop :=
  t.lane n = x ∧ (∀ k, k ≠ n → t.lane k = u.lane k) ∧ t = { u with lanes := t.lanes }

/-- A lane that takes an item into its head in the `cyc` `c` (R249). -/
def LaneS.push (l : LaneS) (it : Item) (c : Nat) : LaneS :=
  { l with head := l.head ++ [{ it with born := some c }], headAt := (l.headAt + 1) % headMax, freed := none }

/-- A lane that enters a framing state; `en` is ENABLE as it was written last (R264). -/
def LaneS.goes (l : LaneS) (st : FrameSt) (en : Bool) : LaneS :=
  { l with st := st, enabled := if l.st = .inTile then en else l.enabled }

section
variable {s t u : State} {n : Nat} {x : LaneS}

theorem State.laneIs_refl (s : State) (n : Nat) : s.laneIs s n (s.lane n) := ⟨rfl, fun _ _ => rfl, rfl⟩

theorem State.laneIs.lane (h : u.laneIs t n x) : t.lane n = x := h.1

theorem State.laneIs.rd (h : u.laneIs t n x) (a : Nat) : t.rd a = u.rd a := by
  rw [h.2.2]
  rfl

theorem State.laneIs.get (h : u.laneIs t n x) (f : Fld) : t.get f = u.get f := State.get_of_rd (h.rd _)

theorem State.laneIs.event (h : u.laneIs t n x) (p : Page) (k b : Nat) : t.event p k b = u.event p k b := by
  rw [State.event, State.event, h.rd]

theorem State.laneIs.wordsKept (h : u.laneIs t n x) {as : List Nat} (hkept : s.wordsKept u as) : s.wordsKept t as := fun a ha =>
  (h.rd a).trans (hkept a ha)

theorem State.laneIs.frame_of (h : u.laneIs t n x) {regs : Tab Word} {pins : Pins} {memi : MemiS}
    (hu : u = { s with regs := regs, pins := pins, memi := memi }) :
    t = { s with lanes := t.lanes, regs := t.regs, pins := t.pins, memi := t.memi } := by
  subst hu
  rw [h.2.2]

theorem State.laneIs.frame_regs (h : u.laneIs t n x) {regs : Tab Word} (hu : u = { s with regs := regs }) :
    t = { s with lanes := t.lanes, regs := t.regs } := by
  subst hu
  rw [h.2.2]

theorem State.laneIs.laneMap (h : u.laneIs t n x) (f : LaneS → LaneS) : u.laneIs (t.laneMap n f) n (f x) := by
  obtain ⟨hx, hother, hframe⟩ := h
  refine ⟨by rw [State.lane_laneMap, if_pos rfl, hx], fun k hk => ?_, ?_⟩
  · rw [State.lane_laneMap, if_neg hk, hother k hk]
  · rw [hframe]
    rfl

theorem State.laneIs_laneMap (s : State) (n : Nat) (f : LaneS → LaneS) : s.laneIs (s.laneMap n f) n (f (s.lane n)) :=
  (s.laneIs_refl n).laneMap f

/-- A change that neither looks at the lanes nor touches them. -/
theorem State.laneIs.apart (h : u.laneIs t n x) {f : State → State}
    (hf : ∀ (v : State) (ls : Tab LaneS), f { v with lanes := ls } = { f v with lanes := ls }) :
    (f u).laneIs (f t) n x := by
  obtain ⟨hx, hother, hframe⟩ := h
  have hlanes : (f t).lanes = t.lanes := by
    rw [hframe, hf]
  have hu : (f u).lanes = u.lanes := (congrArg State.lanes (hf u u.lanes)).trans rfl
  have hl : ∀ k, (f t).lane k = t.lane k := fun k => by rw [State.lane, hlanes, State.lane]
  refine ⟨(hl n).trans hx, fun k hk => (hl k).trans ((hother k hk).trans ?_), ?_⟩
  · rw [State.lane, State.lane, hu]
  · rw [hlanes]
    conv_lhs => rw [hframe, hf]

theorem State.laneIs.set (h : u.laneIs t n x) (f : Fld) (v : Nat) : (u.set f v).laneIs (t.set f v) n x :=
  h.apart (f := fun s => s.set f v) (fun _ _ => rfl)

theorem State.laneIs.bump (h : u.laneIs t n x) (f : Fld) : (u.bump f).laneIs (t.bump f) n x :=
  h.apart (f := fun s => s.bump f) (fun _ _ => rfl)

theorem State.laneIs.raise (h : u.laneIs t n x) (p : Page) (k b : Nat) : (u.raise p k b).laneIs (t.raise p k b) n x := by
  refine h.apart (f := fun s => s.raise p k b) (fun v ls => ?_)
  have hp : State.pulseLine { v with lanes := ls } (pageBase p k) b = v.pulseLine (pageBase p k) b := rfl
  unfold State.raise
  dsimp only
  rw [hp]
  split <;> rfl


/-! ## Items, states and counts -/

theorem State.itemWrote_frame (s : State) (k : Nat) (tail : Bool) (pos : Nat) :
    s.itemWrote k tail pos = { s with memi := (s.itemWrote k tail pos).memi } := by
  have hword : ∀ (v : State) (w j : Nat), v.bufWrote 1 w j = { v with memi := (v.bufWrote 1 w j).memi } := fun v w j => by
    obtain ⟨m, h | ⟨i, h⟩⟩ := v.bufWrote_marks 1 w j <;> rw [h]
    rfl
  unfold State.itemWrote
  dsimp only
  split
  · rw [hword (s.bufWrote 1 _ _), hword s]
  · rw [hword]

/-- A head with a free place takes an item. -/
theorem State.laneIs.lanePush (h : u.laneIs t n x) (hroom : x.headUsed < headMax) (it : Item) :
    ∃ m, ({ u with memi := m } : State).laneIs (t.lanePush n it) n (x.push it u.cyc) := by
  have hcyc : t.cyc = u.cyc := by rw [h.2.2]
  unfold State.lanePush
  rw [h.lane, if_neg (Nat.not_le.mpr hroom)]
  dsimp only
  rw [State.itemWrote_frame, h.lane, hcyc]
  exact ⟨_, State.laneIs.apart (f := fun v => { v with memi := _ }) (h.laneMap _) (fun _ _ => rfl)⟩

theorem State.laneIs.laneSt (h : u.laneIs t n x) (st : FrameSt) :
    u.laneIs (t.laneSt n st) n (x.goes st (u.flag (R.LANE_CTRL_ENABLE n))) := by
  have hen : t.flag (R.LANE_CTRL_ENABLE n) = u.flag (R.LANE_CTRL_ENABLE n) := by rw [h.2.2]; rfl
  rw [← hen]
  exact h.laneMap (fun l => l.goes st (t.flag (R.LANE_CTRL_ENABLE n)))

theorem State.laneIs.laneCutShort (h : u.laneIs t n x) (hroom : x.headUsed < headMax) (v : BitVec 64) :
    ∃ m, ({ u with memi := m } : State).laneIs (t.laneCutShort n v) n
      (if x.st = .inTile then x.push { v := v, tag := 1, rej := true } u.cyc else x) := by
  unfold State.laneCutShort
  rw [h.lane]
  split
  · exact h.lanePush hroom _
  · exact ⟨u.memi, h⟩


/-- The lane `x` with the note of a flit of tag `g`, from the lane `l` as it was before (R259). -/
def LaneS.noted (x l : LaneS) (c : Nat) (g : BitVec 2) : LaneS :=
  { x with note := some ⟨c, l.st, l.flits, decide (x.headAt ≠ l.headAt), g = 1 && x.st = .inTile⟩ }

theorem LaneS.headAt_push (l : LaneS) (it : Item) (c : Nat) : (l.push it c).headAt ≠ l.headAt := by
  change (l.headAt + 1) % 24576 ≠ l.headAt
  omega

theorem State.laneIs.flitNote (h : u.laneIs t n x) (l : LaneS) (g : BitVec 2) : u.laneIs (t.flitNote n l g) n (x.noted l u.cyc g) := by
  have hcyc : t.cyc = u.cyc := by rw [h.2.2]
  rw [← hcyc]
  exact h.laneMap (fun y => y.noted l t.cyc g)

/-! ## A payload flit (R243) -/

/-- The lane `l` in IN_TILE after a payload flit; `en` is ENABLE as it was written last. -/
def LaneS.payload (l : LaneS) (v : BitVec 64) (eot : Bool) (c : Nat) (en : Bool) : LaneS :=
  if eot then (({ l with flits := l.flits + 1 } : LaneS).push { v := v, tag := 2 } c).goes .outside en
  else if l.flits + 1 = l.want then (({ l with flits := l.flits + 1 } : LaneS).push { v := v, tag := 2 } c).goes .excess en
  else ({ l with flits := l.flits + 1 } : LaneS).push { v := v, tag := 0 } c

theorem State.laneFlit_inTile (hst : (s.lane n).st = .inTile) (hroom : (s.lane n).headUsed < headMax) (v : BitVec 64) (eot : Bool) :
    ∃ m, ({ s with memi := m } : State).laneIs (s.laneFlit n v eot) n ((s.lane n).payload v eot s.cyc (s.flag (R.LANE_CTRL_ENABLE n))) := by
  have hpush := ((s.laneIs_refl n).laneMap (fun l => { l with flits := (s.lane n).flits + 1 })).lanePush (by simpa only [LaneS.headUsed] using hroom)
  simp only [State.laneFlit, hst]
  unfold LaneS.payload
  split
  · obtain ⟨m, hm⟩ := hpush { v := v, tag := 2 }
    exact ⟨m, hm.laneSt .outside⟩
  · split
    · obtain ⟨m, hm⟩ := hpush { v := v, tag := 2 }
      exact ⟨m, hm.laneSt .excess⟩
    · exact hpush _

/-- A flit outside a tile is counted, with its event (R243). -/
def State.flitLost (s : State) (n : Nat) : Option Nat → State
  | some b => (s.discard n).laneRaise n b
  | none => s.discard n

/-- A framing state outside a tile, the state after EOT, and the event of a flit. -/
def strayStates : List (FrameSt × FrameSt × Option Nat) := [(.outside, .outside, some 2), (.excess, .outside, some 1), (.discard, .outside, none)]

theorem State.laneFlit_stray {q : FrameSt × FrameSt × Option Nat} (hq : q ∈ strayStates) (hst : (s.lane n).st = q.1) (v : BitVec 64) (eot : Bool) :
    (s.flitLost n q.2.2).laneIs (s.laneFlit n v eot) n { s.lane n with st := if eot then q.2.1 else q.1 } := by
  have hsame : (s.flitLost n q.2.2).laneIs (s.flitLost n q.2.2) n (s.lane n) := by
    rcases q with ⟨-, -, b | -⟩
    · exact (s.laneIs_refl n).bump _
    · exact ((s.laneIs_refl n).bump _).raise _ _ _
  have heot : (s.flitLost n q.2.2).laneIs ((s.flitLost n q.2.2).laneSt n .outside) n { s.lane n with st := .outside } := by
    have h := hsame.laneSt .outside
    rw [LaneS.goes, if_neg] at h
    · exact h
    · rw [hst]
      exact (by decide : ∀ p ∈ strayStates, p.1 ≠ .inTile) q hq
  have hkeep : (s.flitLost n q.2.2).laneIs (s.flitLost n q.2.2) n { s.lane n with st := q.1 } := by
    rw [← hst]
    exact hsame
  simp only [strayStates, List.mem_cons, List.not_mem_nil, or_false] at hq
  rcases hq with rfl | rfl | rfl <;> simp only [State.laneFlit, hst]
  case inl =>
    rw [ite_self]
    exact hkeep
  all_goals
    split
    · exact heot
    · exact hkeep

end

end Sys2Proof.Machine

end

-- Ingest: headers (08_ingest_spool.md R243 to R246, R262).
section

open Sys2Proof Sys2Proof.Machine

namespace Sys2Proof.Machine

/-! ## The stream's context is read (14_memory_integrity.md R416) -/

section
variable {s t u : State} {n : Nat} {x : LaneS}

/-- The state in which a header of the flit `v` is checked. -/
def State.sotSeen (s : State) (v : BitVec 64) : State :=
  if hdrStream v < 4096 ∧ s.powered 0 then s.ctxSeen (sctx (hdrStream v)) 32 else s

theorem State.sameStore_noteN (s : State) (w k : Nat) : s.sameStore (s.noteN 5 w k) := by
  induction k generalizing s w with
  | zero => exact s.sameStore_refl
  | succ k ih => exact (s.note_reports w).2.trans (ih _ _)

theorem State.sotSeen_reports (s : State) (v : BitVec 64) : s.memiReports (s.sotSeen v) ∧ s.sameStore (s.sotSeen v) := by
  unfold State.sotSeen
  split
  · exact ⟨s.memiReports_noteN _ _, s.sameStore_noteN _ _⟩
  · exact ⟨s.memiReports_refl, s.sameStore_refl⟩

/-- Outside the page MEMI the registers are as before. -/
theorem State.sotSeen_flag (s : State) (n : Nat) (v : BitVec 64) :
    (s.sotSeen v).flag (R.LANE_CTRL_ENABLE n) = s.flag (R.LANE_CTRL_ENABLE n) :=
  State.flag_of_get (State.get_of_rd ((s.sotSeen_reports v).1.2 _ (by change 0x5000 ≤ 0x20008 + n * 0x1000; omega)))

theorem State.sotSeen_frame (s : State) (v : BitVec 64) : s.reports (s.sotSeen v) := (s.sotSeen_reports v).1.1

theorem State.sotSeen_lane (s : State) (v : BitVec 64) (k : Nat) : (s.sotSeen v).lane k = s.lane k := by
  rw [State.lane, s.sotSeen_frame v, State.lane]

theorem State.sotSeen_cyc (s : State) (v : BitVec 64) : (s.sotSeen v).cyc = s.cyc := by rw [s.sotSeen_frame v]

theorem State.sotSeen_stamp (s : State) (v : BitVec 64) : (s.sotSeen v).stamp = s.stamp := by
  rw [State.stamp, State.angle, s.sotSeen_frame v, State.stamp, State.angle]

/-- The report leaves the context, and so the hoop of the header. -/
theorem State.sotSeen_hdrHoopOf (s : State) (v : BitVec 64) : (s.sotSeen v).hdrHoopOf v = s.hdrHoopOf v := by
  have hpeek := (s.sotSeen_reports v).2.peek
  simp only [State.hdrHoopOf, State.sget, State.ctxGet, hpeek]

/-! ## An accepted header (R245, R246) -/

/-- The lane `l` after an accepted header. -/
def LaneS.opened (l : LaneS) (v : BitVec 64) (stamp : Nat × Nat) (en : Bool) : LaneS :=
  { (l.push { v := v, tag := 1, stamp := stamp } stamp.1).goes .inTile en with flits := 0, want := hdrLen v / 8 }

theorem State.hoopTrig_frame (s : State) (h src time angle : Nat) : ∃ hs, s.hoopTrig h src time angle = { s with hoops := hs } := by
  unfold State.hoopTrig
  split
  · exact ⟨s.hoops, rfl⟩
  · exact ⟨_, rfl⟩

/-- The header of the flit `v` opens a tile, and counts. -/
def State.sotOpens (u : State) (n : Nat) (v : BitVec 64) : State :=
  (((u.lanePush n { v := v, tag := 1, stamp := (u.cyc, u.stamp) }).bump (R.LANE_TILE_CNT_CNT n)).laneSt n .inTile).laneMap n
    (fun l => { l with flits := 0, want := hdrLen v / 8 })

/-- The header of the flit `v` is taken, with its trigger. -/
def State.sotTaken (u : State) (n : Nat) (v : BitVec 64) : State :=
  if hdrTrig v ∧ u.hdrHoopOf v < 64 then (u.sotOpens n v).hoopTrig (u.hdrHoopOf v) 1 (u.sotOpens n v).cyc (u.sotOpens n v).stamp
  else u.sotOpens n v

/-- The stream and the reason of a rejected header are left, and it counts (R244). -/
def State.rejCounted (s : State) (n : Nat) (v : BitVec 64) (r : Nat) : State :=
  ((s.set (R.LANE_REJ_INFO_STREAM n) (hdrStream v)).set (R.LANE_REJ_INFO_REASON n) r).bump (R.LANE_REJ_CNT_CNT n)

/-- A rejected header is noted, with its events. -/
def State.rejNoted (s : State) (n : Nat) (v : BitVec 64) (r : Nat) : State :=
  if hdrTrig v then ((s.rejCounted n v r).laneRaise n 0).laneRaise n 6 else (s.rejCounted n v r).laneRaise n 0

/-- The header of the flit `v` is rejected for the reason `r`. -/
def State.sotRejected (u : State) (n : Nat) (v : BitVec 64) (r : Nat) : State :=
  ((if r = 7 then (u.laneCutShort n v).ovrCount (u.hdrHoopOf v) else u.laneCutShort n v).rejNoted n v r).laneSt n .discard

theorem State.laneSot_eq {v : BitVec 64} (htakes : s.takesWork (laneDom n) = true) : s.laneSot n v =
    if (s.sotSeen v).headerCheck n v = 0 then (s.sotSeen v).sotTaken n v
    else (s.sotSeen v).sotRejected n v ((s.sotSeen v).headerCheck n v) := by
  unfold State.laneSot
  rw [htakes]
  rfl

/-- The state `u` with an opened tile counted, on-chip memory marked as `m` and hoops `hs`. -/
def State.tileCounted (u : State) (n : Nat) (m : MemiS) (hs : Tab HoopS) : State :=
  ({ u with memi := m, hoops := hs } : State).bump (R.LANE_TILE_CNT_CNT n)

theorem State.tileCounted_effect (u : State) (n : Nat) (m : MemiS) (hs : Tab HoopS) :
    (u.tileCounted n m hs).get (R.LANE_TILE_CNT_CNT n) = min (2 ^ 32 - 1) (u.get (R.LANE_TILE_CNT_CNT n) + 1) ∧
    u.wordsKept (u.tileCounted n m hs) [(R.LANE_TILE_CNT_CNT n).addr] ∧
    u.tileCounted n m hs = { u with memi := m, hoops := hs, regs := (u.tileCounted n m hs).regs } := by
  refine ⟨?_, State.wordsKept_set _ _ _ List.mem_cons_self, rfl⟩
  exact (State.get_bump_same _ _ (by change 0 + 32 ≤ 32; decide)).trans (sat_eq_min _ _)

theorem State.sotOpens_lane {v : BitVec 64} (hroom : (u.lane n).headUsed < headMax) : ∃ m,
    (u.tileCounted n m u.hoops).laneIs (u.sotOpens n v) n ((u.lane n).opened v (u.cyc, u.stamp) (u.flag (R.LANE_CTRL_ENABLE n))) := by
  obtain ⟨m, hm⟩ := (u.laneIs_refl n).lanePush hroom { v := v, tag := 1, stamp := (u.cyc, u.stamp) }
  have hflag : (({ u with memi := m } : State).bump (R.LANE_TILE_CNT_CNT n)).flag (R.LANE_CTRL_ENABLE n) = u.flag (R.LANE_CTRL_ENABLE n) :=
    State.flag_of_get (State.get_set_other _ _ (by change 0x20008 + n * 0x1000 ≠ 0x20048 + n * 0x1000; omega))
  have hopen := ((hm.bump (R.LANE_TILE_CNT_CNT n)).laneSt .inTile).laneMap (fun l => { l with flits := 0, want := hdrLen v / 8 })
  rw [hflag] at hopen
  exact ⟨m, hopen⟩

/-- A header that passes the checks opens a tile, counts, and with TRIG gives its hoop a trigger. -/
theorem State.sotTaken_lane {v : BitVec 64} (hroom : (u.lane n).headUsed < headMax) : ∃ m hs,
    (u.tileCounted n m hs).laneIs (u.sotTaken n v) n ((u.lane n).opened v (u.cyc, u.stamp) (u.flag (R.LANE_CTRL_ENABLE n))) ∧
    (hdrTrig v = false ∨ 64 ≤ u.hdrHoopOf v → hs = u.hoops) := by
  obtain ⟨m, hopen⟩ := State.sotOpens_lane (v := v) hroom
  unfold State.sotTaken
  split
  case isTrue htrig =>
    obtain ⟨hs, hframe⟩ := (u.sotOpens n v).hoopTrig_frame (u.hdrHoopOf v) 1 (u.sotOpens n v).cyc (u.sotOpens n v).stamp
    rw [hframe]
    refine ⟨m, hs, hopen.apart (f := fun w => { w with hoops := hs }) (fun _ _ => rfl), fun hno => ?_⟩
    rcases hno with hno | hno
    · exact absurd htrig.1 (by rw [hno]; decide)
    · exact absurd htrig.2 (Nat.not_lt.mpr hno)
  case isFalse => exact ⟨m, u.hoops, hopen, fun _ => rfl⟩

/-! ## A rejected header (R244) -/

/-- A change of on-chip memory. -/
theorem State.laneIs.logOnly {t' : State} (h : u.laneIs t n x) (hlog : t.logOnly t') : ∃ w, w.laneIs t' n x ∧ u.logOnly w := by
  obtain ⟨hx, hother, hframe⟩ := h
  obtain ⟨hrd, hlog⟩ := hlog
  have hl : ∀ k, t'.lane k = t.lane k := fun k => by rw [State.lane, hlog, State.lane]
  refine ⟨{ u with sram := t'.sram, memi := t'.memi, regs := t'.regs }, ⟨(hl n).trans hx, fun k hk => (hl k).trans (hother k hk), ?_⟩, ?_, rfl⟩
  · conv_lhs => rw [hlog, hframe]
    rw [hlog]
  · intro a hh hc
    exact (hrd a hh hc).trans (by rw [hframe]; rfl)

/-- OVR_CNT is a whole word of the hoop's context. -/
theorem State.logOnly_ovrCount (s : State) (h : Nat) : s.logOnly (s.ovrCount h) := by
  have haddr : (hctx h + 0x8C) % 4 = 0 := by
    unfold hctx
    omega
  unfold State.ovrCount State.hput State.ctxPut
  rw [haddr]
  split
  · exact s.logOnly_sramPut 5 _ _
  · exact s.logOnly_refl

theorem State.rejCounted_effect (s : State) (n : Nat) (v : BitVec 64) {r : Nat} (hr : r < 16) :
    (s.rejCounted n v r).get (R.LANE_REJ_INFO_STREAM n) = hdrStream v ∧ (s.rejCounted n v r).get (R.LANE_REJ_INFO_REASON n) = r ∧
    (s.rejCounted n v r).get (R.LANE_REJ_CNT_CNT n) = min (2 ^ 32 - 1) (s.get (R.LANE_REJ_CNT_CNT n) + 1) ∧
    s.wordsKept (s.rejCounted n v r) [(R.LANE_REJ_INFO_STREAM n).addr, (R.LANE_REJ_CNT_CNT n).addr] := by
  have hreason : (R.LANE_REJ_INFO_REASON n).addr = (R.LANE_REJ_INFO_STREAM n).addr := rfl
  have hcnt : (R.LANE_REJ_CNT_CNT n).addr ≠ (R.LANE_REJ_INFO_STREAM n).addr := by
    change 0x2004C + n * 0x1000 ≠ 0x20060 + n * 0x1000
    omega
  have hstream : (R.LANE_REJ_INFO_STREAM n).lsb + (R.LANE_REJ_INFO_STREAM n).wid ≤ 32 := by change 16 + 12 ≤ 32; decide
  have hlow : (R.LANE_REJ_INFO_REASON n).lsb + (R.LANE_REJ_INFO_REASON n).wid ≤ (R.LANE_REJ_INFO_STREAM n).lsb := by change 0 + 4 ≤ 16; decide
  refine ⟨?_, ?_, ?_, ?_⟩
  · rw [State.rejCounted, State.bump, State.bumpBy, State.get_set_other _ _ hcnt.symm, State.get_set_apart _ _ (by omega) (.inr hlow),
      State.get_set_same _ _ _ hstream]
    exact Nat.mod_eq_of_lt (bits_lt _ 0 12)
  · rw [State.rejCounted, State.bump, State.bumpBy, State.get_set_other _ _ (hreason ▸ hcnt.symm), State.get_set_same _ _ _ (by omega)]
    exact Nat.mod_eq_of_lt hr
  · rw [State.rejCounted, State.get_bump_same _ _ (by change 0 + 32 ≤ 32; decide), State.get_set_other _ _ (hreason ▸ hcnt),
      State.get_set_other _ _ hcnt]
    exact sat_eq_min _ _
  · exact ((s.wordsKept_set _ _ List.mem_cons_self).trans (State.wordsKept_set _ _ _ (hreason ▸ List.mem_cons_self))).trans
      (State.wordsKept_set _ _ _ (List.mem_cons_of_mem _ List.mem_cons_self))

/-- In `t` only EVT_RAW of a page and the pulse lines may differ. -/
def State.raises (s t : State) (p : Page) (n : Nat) : Prop :=
  s.wordsKept t [evtAddr p n] ∧ t = { s with regs := t.regs, pins := t.pins }

theorem State.raises_raise (s : State) (p : Page) (k b : Nat) : s.raises (s.raise p k b) p k :=
  ⟨s.wordsKept_raise p k b List.mem_cons_self, s.raise_frame p k b⟩

theorem State.raises.raise {p : Page} {k : Nat} (h : s.raises t p k) (b : Nat) : s.raises (t.raise p k b) p k :=
  ⟨h.1.trans (t.wordsKept_raise p k b List.mem_cons_self), (t.raise_frame p k b).trans (by rw [h.2])⟩

theorem State.raises.get {p : Page} {k : Nat} (h : s.raises t p k) {f : Fld} (hf : f.addr ≠ evtAddr p k) : t.get f = s.get f :=
  State.get_of_rd (h.1 _ (by simpa using hf))

theorem State.rejNoted_raises (s : State) (n : Nat) (v : BitVec 64) (r : Nat) : (s.rejCounted n v r).raises (s.rejNoted n v r) .lane n := by
  unfold State.rejNoted
  split
  · exact (State.raises_raise _ _ _ _).raise _
  · exact State.raises_raise _ _ _ _

theorem State.rejNoted_event (s : State) (n : Nat) (v : BitVec 64) (r : Nat) :
    (s.rejNoted n v r).event .lane n 0 = true ∧ (hdrTrig v = true → (s.rejNoted n v r).event .lane n 6 = true) := by
  have hfirst : ((s.rejCounted n v r).laneRaise n 0).event .lane n 0 = true := State.event_raised _ _ _ _ (by decide)
  unfold State.rejNoted
  refine ⟨?_, fun htrig => ?_⟩
  · split
    · rw [State.laneRaise, State.event_raise _ _ _ _ _ (by decide), hfirst]
      rfl
    · exact hfirst
  · rw [if_pos htrig]
    exact State.event_raised _ _ _ _ (by decide)

theorem State.rejNoted_effect (s : State) (n : Nat) (v : BitVec 64) {r : Nat} (hr : r < 16) :
    (s.rejNoted n v r).get (R.LANE_REJ_INFO_STREAM n) = hdrStream v ∧ (s.rejNoted n v r).get (R.LANE_REJ_INFO_REASON n) = r ∧
    (s.rejNoted n v r).get (R.LANE_REJ_CNT_CNT n) = min (2 ^ 32 - 1) (s.get (R.LANE_REJ_CNT_CNT n) + 1) ∧
    s.wordsKept (s.rejNoted n v r) [(R.LANE_REJ_INFO_STREAM n).addr, (R.LANE_REJ_CNT_CNT n).addr, evtAddr .lane n] ∧
    s.rejNoted n v r = { s with regs := (s.rejNoted n v r).regs, pins := (s.rejNoted n v r).pins } := by
  obtain ⟨hstream, hreason, hcnt, hkept⟩ := s.rejCounted_effect n v hr
  have hraises := s.rejNoted_raises n v r
  have hinfo : 0x20060 + n * 0x1000 ≠ 0x20000 + n * 0x1000 + 0x10 := by omega
  refine ⟨(hraises.get hinfo).trans hstream, (hraises.get hinfo).trans hreason, (hraises.get ?_).trans hcnt, fun a ha => ?_, ?_⟩
  · change 0x2004C + n * 0x1000 ≠ 0x20000 + n * 0x1000 + 0x10
    omega
  · simp only [List.mem_cons, List.not_mem_nil, or_false, not_or] at ha
    obtain ⟨h1, h2, h3⟩ := ha
    exact (hraises.1 a (by simpa using h3)).trans (hkept a (by simp [h1, h2]))
  · have hcounted : s.rejCounted n v r = { s with regs := (s.rejCounted n v r).regs } := rfl
    rw [hraises.2, hcounted]

/-- The lane `l` after a rejected header. -/
def LaneS.rejects (l : LaneS) (v : BitVec 64) (c : Nat) (en : Bool) : LaneS :=
  (if l.st = .inTile then l.push { v := v, tag := 1, rej := true } c else l).goes .discard en

/-- A rejected header ends the tile in progress, and its own is discarded; on-chip memory changes for OVR_CNT. -/
theorem State.sotRejected_lane (v : BitVec 64) (hroom : (u.lane n).headUsed < headMax) {r : Nat} (hr : r < 16) : ∃ w, u.logOnly w ∧
    (r ≠ 7 → ∃ m, w = { u with memi := m }) ∧
    (w.rejNoted n v r).laneIs (u.sotRejected n v r) n ((u.lane n).rejects v u.cyc (u.flag (R.LANE_CTRL_ENABLE n))) := by
  have hflag : ∀ w : State, u.logOnly w → (w.rejNoted n v r).flag (R.LANE_CTRL_ENABLE n) = u.flag (R.LANE_CTRL_ENABLE n) := fun w hw => by
    obtain ⟨-, -, -, hkept⟩ := w.rejCounted_effect n v hr
    refine State.flag_of_get (((w.rejNoted_raises n v r).get ?_).trans (State.get_of_rd ((hkept _ ?_).trans (hw.1 _ ?_ ?_))))
    · change 0x20008 + n * 0x1000 ≠ 0x20000 + n * 0x1000 + 0x10
      omega
    · simp only [List.mem_cons, List.not_mem_nil, or_false, not_or]
      change 0x20008 + n * 0x1000 ≠ 0x20060 + n * 0x1000 ∧ 0x20008 + n * 0x1000 ≠ 0x2004C + n * 0x1000
      omega
    · change 0x20008 + n * 0x1000 ≠ 0x3058
      omega
    · change 0x20008 + n * 0x1000 ≠ 0x305C
      omega
  have hnoted : ∀ {w t : State} {x : LaneS}, w.laneIs t n x → (w.rejNoted n v r).laneIs (t.rejNoted n v r) n x := fun h => by
    have hraised := (((h.set (R.LANE_REJ_INFO_STREAM n) (hdrStream v)).set (R.LANE_REJ_INFO_REASON n) r).bump (R.LANE_REJ_CNT_CNT n)).raise .lane n 0
    unfold State.rejNoted
    split
    · exact hraised.raise .lane n 6
    · exact hraised
  obtain ⟨m, hcut⟩ := (u.laneIs_refl n).laneCutShort hroom v
  unfold State.sotRejected LaneS.rejects
  split
  case isTrue h7 =>
    obtain ⟨w, hw, hlog⟩ := hcut.logOnly ((u.laneCutShort n v).logOnly_ovrCount (u.hdrHoopOf v))
    have hlog' : u.logOnly w := State.logOnly.trans ⟨fun _ _ _ => rfl, rfl⟩ hlog
    refine ⟨w, hlog', fun hne => absurd h7 hne, ?_⟩
    rw [← hflag w hlog']
    exact (hnoted hw).laneSt .discard
  case isFalse =>
    have hlog : u.logOnly { u with memi := m } := ⟨fun _ _ _ => rfl, rfl⟩
    refine ⟨_, hlog, fun _ => ⟨m, rfl⟩, ?_⟩
    rw [← hflag _ hlog]
    exact (hnoted hcut).laneSt .discard

end

end Sys2Proof.Machine

end

-- Ingest: the ends of tiles in the framing, and ENABLE (08_ingest_spool.md R258 to R260, R264).
section

open Sys2Proof Sys2Proof.Machine

namespace Sys2Proof.Machine

section
variable {s t u : State} {n : Nat} {x : LaneS}

/-! ## Lane resets (R258) -/

/-- The lane `l` after a lane reset. -/
def LaneS.resets (l : LaneS) (en : Bool) : LaneS := { l.goes .outside en with wd := l.wd || decide (l.st = .inTile) }

/-- LINK_DOWN is raised where the link was lost inside a tile. -/
def State.lossRaised (s : State) (n : Nat) (lost : Bool) : State := if lost then s.laneRaise n 7 else s

theorem State.lossRaised_effect (s : State) (n : Nat) (lost : Bool) : (lost = true → (s.lossRaised n lost).event .lane n 7 = true) ∧
    s.raises (s.lossRaised n lost) .lane n := by
  cases lost with
  | true => exact ⟨fun _ => State.event_raised _ _ _ _ (by decide), s.raises_raise .lane n 7⟩
  | false => exact ⟨Bool.noConfusion, fun _ _ => rfl, rfl⟩

theorem State.laneIs.laneRst (h : u.laneIs t n x) (link : Bool) :
    (u.lossRaised n (decide (x.st = .inTile) && link)).laneIs (t.laneRst n link) n (x.resets (u.flag (R.LANE_CTRL_ENABLE n))) := by
  have hen : (u.lossRaised n (decide (x.st = .inTile) && link)).flag (R.LANE_CTRL_ENABLE n) = u.flag (R.LANE_CTRL_ENABLE n) := by
    refine State.flag_of_get ((u.lossRaised_effect n _).2.get ?_)
    change 0x20008 + n * 0x1000 ≠ 0x20000 + n * 0x1000 + 0x10
    omega
  have hnoted : (u.lossRaised n (decide (x.st = .inTile) && link)).laneIs (t.lossRaised n (decide (x.st = .inTile) && link)) n x := by
    unfold State.lossRaised
    split
    · exact h.raise .lane n 7
    · exact h
  rw [← hen]
  have hreset := (hnoted.laneSt .outside).laneMap (fun l => { l with wd := l.wd || decide (x.st = .inTile) })
  unfold State.laneRst
  rw [h.lane]
  exact hreset

/-! ## DROP (R259) -/

/-- The lane `l` after the drop of its tile in the `cyc` `c`. -/
def LaneS.drops (l : LaneS) (c : Nat) (en : Bool) : LaneS := { l.goes .discard en with wd := true, dropAt := some c, note := none }

/-- DROP where no flit transferred in its `cyc`. -/
theorem State.laneIs.laneDrop (h : u.laneIs t n x) (hst : x.st = .inTile) (hnote : ∀ f, x.note = some f → f.born ≠ u.cyc) :
    u.laneIs (t.laneDrop n) n (x.drops u.cyc (u.flag (R.LANE_CTRL_ENABLE n))) := by
  have hcyc : t.cyc = u.cyc := by rw [h.2.2]
  have hnone : x.note.filter (fun f => f.born = t.cyc) = none :=
    Option.filter_eq_none_iff.mpr fun f hf => by simpa [hcyc] using hnote f hf
  unfold State.laneDrop
  simp only [h.lane, hnone, hst, if_true]
  rw [← hcyc]
  exact (h.laneSt .discard).laneMap (fun l => { l with wd := true, dropAt := some t.cyc, note := none })

/-- The lane `l` without its newest item, with `k` payload flits. -/
def LaneS.takesBack (l : LaneS) (k : Nat) : LaneS :=
  { l with head := l.head.dropLast, headAt := (l.headAt + headMax - 1) % headMax, flits := k }

/-- DROP in the `cyc` of a flit that put an item into the head: the item is discarded. -/
theorem State.laneIs.laneDrop_pushed (h : u.laneIs t n x) {f : FlitNote} (hf : x.note = some f) (hborn : f.born = u.cyc) (hst : f.st = .inTile)
    (hpushed : f.pushed = true) (hopened : f.opened = false) :
    (u.discard n).laneIs (t.laneDrop n) n ((x.takesBack f.flits).drops u.cyc (u.flag (R.LANE_CTRL_ENABLE n))) := by
  have hcyc : t.cyc = u.cyc := by rw [h.2.2]
  have hsome : x.note.filter (fun f => f.born = t.cyc) = some f := by simp [hf, hcyc, hborn]
  have hflag : (u.discard n).flag (R.LANE_CTRL_ENABLE n) = u.flag (R.LANE_CTRL_ENABLE n) :=
    State.flag_of_get (State.get_set_other _ _ (by change 0x20008 + n * 0x1000 ≠ 0x20050 + n * 0x1000; omega))
  unfold State.laneDrop State.flitUndo
  simp only [h.lane, hsome, hst, hpushed, hopened, if_true, Bool.false_eq_true, if_false]
  rw [← hflag, ← hcyc]
  have hback := ((h.laneMap (fun l => { l with head := l.head.dropLast, headAt := (l.headAt + headMax - 1) % headMax })).bump
    (R.LANE_DISC_CNT_CNT n)).laneMap (fun l => { l with flits := f.flits })
  exact (hback.laneSt .discard).laneMap (fun l => { l with wd := true, dropAt := some t.cyc, note := none })

end

/-! ## ENABLE (R264) -/

theorem rowAt_laneCtrl (n : Fin 12) : rowAt (R.LANE_CTRL_ENABLE n).addr = some (Page.lane, n.val, ⟨0x8, 0, 1, 0x1, 0x0, 0x0, 0x0, 0x0, 0x0⟩) := by
  revert n
  decide

/-- A write of CTRL gives ENABLE bit 0 of the data. -/
theorem State.flag_regMerge_laneCtrl (s : State) (n : Fin 12) (w : Word) :
    (s.regMerge (R.LANE_CTRL_ENABLE n).addr 0xF#4 w).flag (R.LANE_CTRL_ENABLE n) = w.getLsbD 0 := by
  rw [State.regMerge_whole s w (rowAt_laneCtrl n) rfl rfl rfl, State.flag_eq_getLsbD rfl, State.rd_wr_same]
  change ((s.rd _ &&& ~~~0x1#32) ||| (w &&& 0x1#32)).getLsbD 0 = w.getLsbD 0
  simp

/-- The registers after a write of CTRL: a standby's ENABLE stays 0 (16_cascade_reflection.md R466). -/
def State.laneCtrl (s : State) (n : Fin 12) (w : Word) : State :=
  let s := s.regMerge (R.LANE_CTRL_ENABLE n).addr 0xF#4 w
  if s.isStandby then s.set (R.LANE_CTRL_ENABLE n) 0 else s

theorem State.laneCtrl_frame (s : State) (n : Fin 12) (w : Word) : s.wordsKept (s.laneCtrl n w) [(R.LANE_CTRL_ENABLE n).addr] ∧
    s.laneCtrl n w = { s with regs := (s.laneCtrl n w).regs } := by
  unfold State.laneCtrl
  rw [State.regMerge_whole s w (rowAt_laneCtrl n) rfl rfl rfl]
  have hwr : s.wordsKept (s.wr (R.LANE_CTRL_ENABLE n).addr ((s.rd (R.LANE_CTRL_ENABLE n).addr &&& ~~~0x1) ||| (w &&& 0x1))) [(R.LANE_CTRL_ENABLE n).addr] :=
    fun a ha => State.rd_wr_other _ _ (by simpa using ha)
  dsimp only
  split
  · exact ⟨hwr.trans (State.wordsKept_set _ _ _ List.mem_cons_self), rfl⟩
  · exact ⟨hwr, rfl⟩

/-- Words of the pages of the cascade and of the pair lie apart from CTRL. -/
theorem State.isStandby_regMerge_laneCtrl (s : State) (n : Fin 12) (w : Word) :
    (s.regMerge (R.LANE_CTRL_ENABLE n).addr 0xF#4 w).isStandby = s.isStandby := by
  rw [State.regMerge_whole s w (rowAt_laneCtrl n) rfl rfl rfl]
  have hget : ∀ (f : Fld) (v : Word), f.addr < 0x20000 → (s.wr (R.LANE_CTRL_ENABLE n).addr v).flag f = s.flag f := fun f v hf =>
    State.flag_of_get (State.get_of_rd (State.rd_wr_other _ _ (by change f.addr ≠ 0x20008 + n.val * 0x1000; omega)))
  unfold State.isStandby State.xlOn
  rw [hget _ _ (by decide), hget _ _ (by decide), State.wr_gen]

theorem State.flag_laneCtrl (s : State) (n : Fin 12) (w : Word) :
    (s.laneCtrl n w).flag (R.LANE_CTRL_ENABLE n) = (w.getLsbD 0 && !s.isStandby) := by
  unfold State.laneCtrl
  dsimp only
  rw [s.isStandby_regMerge_laneCtrl]
  cases s.isStandby with
  | true => rw [if_pos rfl, State.flag_set_zero (by change 0 + 1 ≤ 32; decide), Bool.not_true, Bool.and_false]
  | false => rw [if_neg Bool.false_ne_true, s.flag_regMerge_laneCtrl, Bool.not_false, Bool.and_true]

theorem exec_laneEnable {s : State} {n : Fin 12} (h : s.portTakes (R.LANE_CTRL_ENABLE n).addr) (w : Word) : exec (.laneEnable n w) s =
    .next ((s.laneCtrl n w).laneMap n (fun l => { l with
      enabled := (s.laneCtrl n w).flag (R.LANE_CTRL_ENABLE n) || (l.enabled && l.st = .inTile) })) := by
  rw [exec, execLaneEnable, State.cpWr_taken _ _ _ _ _ h]
  rfl

/-! ## The commands of the lanes -/

section
variable {s t u : State} {n : Fin 12} {l x : LaneS} {v : BitVec 64} {g : BitVec 2}

theorem State.laneIs.other {k : Nat} (h : u.laneIs t k x) : ∀ j, j ≠ k → t.lane j = u.lane j := h.2.1

theorem State.laneIs.frame {k : Nat} (h : u.laneIs t k x) : t = { u with lanes := t.lanes } := h.2.2

theorem State.umbraFlit_off (h : s.permit 7 = false) : s.umbraFlit = s := if_neg (ne_true_of_eq_false h)

theorem exec_laneFlit (hready : s.laneReady n = true) (humbra : s.permit 7 = false) (hg : g ≠ 3) (hdrop : (s.lane n).dropAt ≠ some s.cyc) :
    exec (.laneFlit n v g) s = .next ((s.laneTake n v g).flitNote n (s.lane n) g) := by
  have hgo : ¬ ((!s.laneReady n) = true ∨ g = 3) := not_or.mpr ⟨by rw [hready]; decide, hg⟩
  rw [exec, execLaneFlit, if_neg hgo, if_neg hdrop, State.umbraFlit_off humbra]

theorem exec_laneFlit_dropped (hready : s.laneReady n = true) (humbra : s.permit 7 = false) (hg : g ≠ 3)
    (hdrop : (s.lane n).dropAt = some s.cyc) : exec (.laneFlit n v g) s = .next (s.discard n) := by
  have hgo : ¬ ((!s.laneReady n) = true ∨ g = 3) := not_or.mpr ⟨by rw [hready]; decide, hg⟩
  rw [exec, execLaneFlit, if_neg hgo, if_pos hdrop, State.umbraFlit_off humbra]

theorem exec_laneReset (h : s.portTakes (R.LANE_CMD_RESET n).addr) : exec (.laneReset n) s = .next (s.laneRst n false) := by
  rw [exec, execLaneReset, State.cpWr_taken _ _ _ _ _ h]
  rfl

theorem exec_drop (h : s.portTakes (R.LANE_CMD_RESET n).addr) : exec (.drop n) s = .next (s.laneDrop n) := by
  rw [exec, execDrop, State.cpWr_taken _ _ _ _ _ h]
  rfl

theorem exec_linkDown (hlink : (s.lane n).linkup = true) (hpow : s.powered (laneDom n) = true) :
    exec (.linkDown n) s = .next ((s.laneMap n (fun l => { l with linkup := false })).laneRst n true) := by
  have hpow' : (s.laneMap n (fun l => { l with linkup := false })).powered (laneDom n) = true := hpow
  simp [exec, execLinkDown, hlink, hpow']

theorem exec_withdrawPush (hwd : (s.lane n).wd = true) (hroom : (s.lane n).headUsed < headMax) : exec (.withdrawPush n) s =
    .next ((s.laneMap n (fun l => { l with wd := false })).lanePush n { v := 2, tag := 3 }) := by
  simp [exec, execWithdrawPush, hwd, State.spoolRoom, hroom]

/-- A payload flit, noted. -/
theorem LaneS.payload_noted (hst : l.st = .inTile) (hg : g ≠ 1) (c : Nat) (en : Bool) : (l.payload v (g = 2) c en).noted l c g = { l with
    flits := l.flits + 1, head := l.head ++ [{ v := v, tag := if g = 2 ∨ l.flits + 1 = l.want then 2 else 0, born := some c }]
    headAt := (l.headAt + 1) % 24576, freed := none
    st := if g = 2 then .outside else if l.flits + 1 = l.want then .excess else .inTile, note := some ⟨c, l.st, l.flits, true, false⟩
    enabled := if g = 2 ∨ l.flits + 1 = l.want then en else l.enabled } := by
  have hat : (l.headAt + 1) % 24576 ≠ l.headAt := by omega
  by_cases heot : g = 2
  · subst heot
    simp [LaneS.payload, LaneS.noted, LaneS.goes, LaneS.push, hst, headMax, hat]
  · by_cases hlast : l.flits + 1 = l.want <;>
      simp only [LaneS.payload, LaneS.noted, LaneS.goes, LaneS.push, heot, hlast, hst, hg, headMax, hat, ne_eq, not_false_eq_true, decide_true,
        decide_false, if_true, if_false, Bool.false_eq_true, Bool.false_and, or_true, or_self]

/-- DROP takes a payload flit of its `cyc` back. -/
theorem LaneS.payload_dropped (hst : l.st = .inTile) (hg : g ≠ 1) (hat : l.headAt < 24576) (c : Nat) (en : Bool) :
    (((l.payload v (g = 2) c en).noted l c g).takesBack l.flits).drops c en =
      { l with st := .discard, wd := true, enabled := en, dropAt := some c, note := none, freed := none } := by
  have hback : ((l.headAt + 1) % 24576 + 24576 - 1) % 24576 = l.headAt := by omega
  rw [LaneS.payload_noted hst hg]
  simp only [LaneS.takesBack, LaneS.drops, LaneS.goes, List.dropLast_concat, headMax, hback]
  by_cases heot : g = 2
  · simp only [heot, true_or, if_true, reduceCtorEq, if_false]
  · by_cases hlast : l.flits + 1 = l.want
    · simp only [heot, hlast, or_true, if_true, if_false, reduceCtorEq]
    · simp only [heot, hlast, or_self, if_true, if_false]

/-- A rejected header, noted. -/
theorem LaneS.rejects_noted (l : LaneS) (v : BitVec 64) (c : Nat) (en : Bool) : (l.rejects v c en).noted l c 1 =
    if l.st = .inTile then { l with
      head := l.head ++ [{ v := v, tag := 1, rej := true, born := some c }], headAt := (l.headAt + 1) % 24576, freed := none, st := .discard
      enabled := en, note := some ⟨c, l.st, l.flits, true, false⟩ }
    else { l with st := .discard, note := some ⟨c, l.st, l.flits, false, false⟩ } := by
  have hat : (l.headAt + 1) % 24576 ≠ l.headAt := by omega
  by_cases hst : l.st = .inTile <;> simp [LaneS.rejects, LaneS.noted, LaneS.goes, LaneS.push, hst, headMax, hat]

/-- An accepted header, noted. -/
theorem LaneS.opened_noted (l : LaneS) (v : BitVec 64) (c stamp : Nat) (en : Bool) : (l.opened v (c, stamp) en).noted l c 1 = { l with
    head := l.head ++ [{ v := v, tag := 1, stamp := (c, stamp), born := some c }], headAt := (l.headAt + 1) % 24576, freed := none
    st := .inTile, flits := 0, want := hdrLen v / 8, note := some ⟨c, l.st, l.flits, true, true⟩
    enabled := if l.st = .inTile then en else l.enabled } := by
  have hat : (l.headAt + 1) % 24576 ≠ l.headAt := by omega
  by_cases hst : l.st = .inTile <;> simp [LaneS.opened, LaneS.noted, LaneS.goes, LaneS.push, hst, headMax, hat]

/-- A lane whose domain is asked to power down is ready only inside a tile (R262). -/
theorem State.inTile_of_laneReady (hready : s.laneReady n = true) (htakes : s.takesWork (laneDom n) = false) : (s.lane n).st = .inTile := by
  simp only [State.laneReady, htakes, Bool.false_or, Bool.and_eq_true, decide_eq_true_eq] at hready
  exact hready.2

/-- A header in a domain that is asked to power down ends the tile in progress. -/
theorem State.laneSot_resting (htakes : s.takesWork (laneDom n) = false) (hroom : (s.lane n).headUsed < headMax) :
    ∃ m, ({ s with memi := m } : State).laneIs (s.laneSot n v) n ((s.lane n).rejects v s.cyc (s.flag (R.LANE_CTRL_ENABLE n))) := by
  obtain ⟨m, hcut⟩ := (s.laneIs_refl n).laneCutShort hroom v
  unfold State.laneSot
  simp only [htakes, Bool.not_false, if_true]
  exact ⟨m, hcut.laneSt .discard⟩

/-- The words and events of a flit that belongs to no tile. -/
theorem State.flitLost_effect (s : State) (k : Nat) {e : Option Nat} (he : ∀ b ∈ e, b < 32) :
    (s.flitLost k e).get (R.LANE_DISC_CNT_CNT k) = min (2 ^ 32 - 1) (s.get (R.LANE_DISC_CNT_CNT k) + 1) ∧
    (∀ b ∈ e, (s.flitLost k e).event .lane k b = true) ∧ s.wordsKept (s.flitLost k e) [(R.LANE_DISC_CNT_CNT k).addr, evtAddr .lane k] ∧
    s.flitLost k e = { s with regs := (s.flitLost k e).regs, pins := (s.flitLost k e).pins } := by
  have hcnt : (s.discard k).get (R.LANE_DISC_CNT_CNT k) = min (2 ^ 32 - 1) (s.get (R.LANE_DISC_CNT_CNT k) + 1) :=
    (State.get_bump_same _ _ (by change 0 + 32 ≤ 32; decide)).trans (sat_eq_min _ _)
  have hkept : s.wordsKept (s.discard k) [(R.LANE_DISC_CNT_CNT k).addr, evtAddr .lane k] := State.wordsKept_set _ _ _ List.mem_cons_self
  cases e with
  | none => exact ⟨hcnt, by simp, hkept, rfl⟩
  | some b =>
    have hraise := (s.discard k).raises_raise .lane k b
    refine ⟨(hraise.get ?_).trans hcnt, ?_, ?_, ?_⟩
    · change 0x20050 + k * 0x1000 ≠ 0x20000 + k * 0x1000 + 0x10
      omega
    · intro c hc
      obtain rfl := Option.some.inj hc
      exact State.event_raised _ _ _ _ (he b rfl)
    · exact hkept.trans (State.wordsKept_raise _ _ _ _ (List.mem_cons_of_mem _ List.mem_cons_self))
    · exact hraise.2

/-- A stray flit, noted. -/
theorem LaneS.stray_noted (l : LaneS) (hg : g ≠ 1) (c : Nat) (st : FrameSt) :
    ({ l with st := st } : LaneS).noted l c g = { l with st := st, note := some ⟨c, l.st, l.flits, false, false⟩ } := by
  simp only [LaneS.noted, hg, ne_eq, not_true_eq_false, decide_false, Bool.false_and]

/-- The reasons of R244 fit into REJ_INFO. -/
theorem State.headerCheck_lt (s : State) (k : Nat) (v : BitVec 64) : s.headerCheck k v < 16 := by
  have hite : ∀ (p : Prop) [Decidable p] (a b : Nat), a < 16 → b < 16 → (if p then a else b) < 16 := fun p _ a b ha hb => by
    split
    · exact ha
    · exact hb
  unfold State.headerCheck
  iterate 7 refine hite _ _ _ (by decide) ?_
  decide

/-- A stray payload flit is counted, with its event, and EOT ends the rejected or excess tile. -/
theorem State.laneTake_stray {q : FrameSt × FrameSt × Option Nat} (hq : q ∈ strayStates) (hst : (s.lane n).st = q.1) (hg : g ≠ 1) :
    (s.flitLost n q.2.2).laneIs ((s.laneTake n v g).flitNote n (s.lane n) g) n { s.lane n with
      st := if g = 2 then q.2.1 else q.1, note := some ⟨s.cyc, (s.lane n).st, (s.lane n).flits, false, false⟩ } := by
  obtain ⟨-, -, -, hframe⟩ := s.flitLost_effect n ((by decide : ∀ p ∈ strayStates, ∀ b ∈ p.2.2, b < 32) q hq)
  have hcyc : (s.flitLost n q.2.2).cyc = s.cyc := by rw [hframe]
  have htake : s.laneTake n v g = s.laneFlit n v (g = 2) := if_neg hg
  have h := (State.laneFlit_stray hq hst v (g = 2)).flitNote (s.lane n) g
  rw [LaneS.stray_noted _ hg, hcyc] at h
  simp only [decide_eq_true_eq] at h
  rw [htake]
  exact h

/-- A header that passes the checks opens a tile in its lane, and counts. -/
theorem State.laneTake_accepted (htakes : s.takesWork (laneDom n) = true) (hroom : (s.lane n).headUsed < headMax)
    (hcheck : (s.sotSeen v).headerCheck n v = 0) : ∃ m hs, ((s.sotSeen v).tileCounted n m hs).laneIs ((s.laneTake n v 1).flitNote n (s.lane n) 1) n
      (((s.lane n).opened v (s.cyc, s.stamp) (s.flag (R.LANE_CTRL_ENABLE n))).noted (s.lane n) s.cyc 1) ∧
    (hdrTrig v = false ∨ 64 ≤ s.hdrHoopOf v → hs = (s.sotSeen v).hoops) := by
  obtain ⟨m, hs, hm, hhoops⟩ := State.sotTaken_lane (u := s.sotSeen v) (v := v) (n := n) (by rwa [s.sotSeen_lane])
  have htake : s.laneTake n v 1 = (s.sotSeen v).sotTaken n v := (if_pos rfl).trans ((State.laneSot_eq htakes).trans (if_pos hcheck))
  have h := hm.flitNote (s.lane n) 1
  have hcyc : ((s.sotSeen v).tileCounted n m hs).cyc = s.cyc := s.sotSeen_cyc v
  rw [s.sotSeen_lane, s.sotSeen_cyc, s.sotSeen_stamp, s.sotSeen_flag, hcyc] at h
  rw [s.sotSeen_hdrHoopOf] at hhoops
  rw [htake]
  exact ⟨m, hs, h, hhoops⟩

/-- A header that fails a check ends the tile in progress, and is noted. -/
theorem State.laneTake_rejected (htakes : s.takesWork (laneDom n) = true) (hroom : (s.lane n).headUsed < headMax)
    (hcheck : (s.sotSeen v).headerCheck n v ≠ 0) : ∃ w, (s.sotSeen v).logOnly w ∧
    ((s.sotSeen v).headerCheck n v ≠ 7 → ∃ m, w = { s.sotSeen v with memi := m }) ∧
    (w.rejNoted n v ((s.sotSeen v).headerCheck n v)).laneIs ((s.laneTake n v 1).flitNote n (s.lane n) 1) n
      (((s.lane n).rejects v s.cyc (s.flag (R.LANE_CTRL_ENABLE n))).noted (s.lane n) s.cyc 1) := by
  obtain ⟨w, hlog, hmemi, hm⟩ := State.sotRejected_lane (u := s.sotSeen v) (n := n) v (by rwa [s.sotSeen_lane]) (State.headerCheck_lt _ n v)
  have htake : s.laneTake n v 1 = (s.sotSeen v).sotRejected n v ((s.sotSeen v).headerCheck n v) :=
    (if_pos rfl).trans ((State.laneSot_eq htakes).trans (if_neg hcheck))
  have h := hm.flitNote (s.lane n) 1
  have hcyc : (w.rejNoted n v ((s.sotSeen v).headerCheck n v)).cyc = s.cyc := by
    rw [(w.rejNoted_raises n v _).2]
    change w.cyc = s.cyc
    rw [hlog.2]
    exact s.sotSeen_cyc v
  rw [s.sotSeen_lane, s.sotSeen_cyc, s.sotSeen_flag, hcyc] at h
  rw [htake]
  exact ⟨w, hlog, hmemi, h⟩

end

end Sys2Proof.Machine

/-- Settles O36, one form of command after the other: each answer is the state before it but for the lane, which the command leaves as the
framing says, and for the words, events and memory that its rules name. -/
theorem laneFramesItsFlits : Obligations.LaneFramesItsFlits := by
  refine ⟨fun s n v hready humbra hroom hdrop l hl => ?flit, fun s n v g hready humbra hg hdrop => ?dropped, fun s n hlink hpow => ?linkDown,
    fun s n => ?linkup, fun s n htakes hst hnote => ?ends, fun s n v g htakes hready humbra hroom hdrop hat hg1 hg3 hst => ?flitThenDrop,
    fun s n hwd hroom => ?withdraw, fun s n w htakes => ?enable⟩
  case flit =>
    subst hl
    have hexec : ∀ g : BitVec 2, g ≠ 3 → exec (.laneFlit n v g) s = .next ((s.laneTake n v g).flitNote n (s.lane n) g) := fun g hg =>
      exec_laneFlit hready humbra hg hdrop
    have hpayload : ∀ g : BitVec 2, g ≠ 1 → s.laneTake n v g = s.laneFlit n v (g = 2) := fun g hg => if_neg hg
    have hheader : s.laneTake n v 1 = s.laneSot n v := if_pos rfl
    refine ⟨fun g hg1 hg3 it hit hst => ?_, fun g hg1 hg3 q hq hst => ?_, fun htakes => ?_, fun htakes u hu => ⟨fun hcheck => ?_, fun hcheck => ?_⟩⟩
    · obtain ⟨m, hm⟩ := State.laneFlit_inTile hst hroom v (g = 2)
      have h := hm.flitNote (s.lane n) g
      subst hit
      exact ⟨_, (hexec g hg3).trans (by rw [hpayload g hg1]), h.lane.trans (LaneS.payload_noted hst hg1 _ _), h.other, by rw [h.frame]⟩
    · obtain ⟨hcnt, hevt, hkept, hframe⟩ := s.flitLost_effect n ((by decide : ∀ p ∈ strayStates, ∀ b ∈ p.2.2, b < 32) q hq)
      have h := State.laneTake_stray (v := v) hq hst hg1
      have hlane := State.lane_congr (s := s) (t := s.flitLost n q.2.2) (by rw [hframe])
      refine ⟨_, hexec g hg3, (h.get _).trans hcnt, h.lane, fun b hb => (h.event _ _ _).trans (hevt b hb), h.wordsKept hkept,
        fun k hk => (h.other k hk).trans (hlane k), ?_⟩
      rw [h.frame]
      conv_lhs => rw [hframe]
    · obtain ⟨m, hm⟩ := State.laneSot_resting (v := v) htakes hroom
      have h := hm.flitNote (s.lane n) 1
      refine ⟨_, (hexec 1 (by decide)).trans (by rw [hheader]), ?_, h.other, by rw [h.frame]⟩
      rw [h.lane, LaneS.rejects_noted, if_pos (State.inTile_of_laneReady hready htakes)]
    · obtain rfl : u = s.sotSeen v := hu
      obtain ⟨m, hs, h, hhoops⟩ := State.laneTake_accepted htakes hroom hcheck
      obtain ⟨hcnt, hkept, hframe⟩ := (s.sotSeen v).tileCounted_effect n m hs
      refine ⟨_, hexec 1 (by decide), h.lane.trans (LaneS.opened_noted _ _ _ _ _), (h.get _).trans hcnt,
        fun k hk => (h.other k hk).trans (s.sotSeen_lane v k), fun hno => ⟨h.wordsKept hkept, ?_⟩⟩
      rw [h.frame, hhoops hno]
      rfl
    · obtain rfl : u = s.sotSeen v := hu
      obtain ⟨w, hlog, hmemi, h⟩ := State.laneTake_rejected htakes hroom hcheck
      obtain ⟨hstream, hreason, hcnt, hkept, hframe⟩ := w.rejNoted_effect n v (State.headerCheck_lt _ n v)
      obtain ⟨hevt, htrig⟩ := w.rejNoted_event n v ((s.sotSeen v).headerCheck n v)
      refine ⟨_, hexec 1 (by decide), h.lane.trans (LaneS.rejects_noted _ _ _ _), (h.get _).trans hstream, (h.get _).trans hreason,
        ((h.get _).trans hcnt).trans ?_, (h.event _ _ _).trans hevt, fun ht => (h.event _ _ _).trans (htrig ht), fun k hk => ?_, fun h7 => ?_⟩
      · rw [State.get_of_rd (hlog.1 _ ?_ ?_)]
        · change 0x2004C + n.val * 0x1000 ≠ 0x3058
          omega
        · change 0x2004C + n.val * 0x1000 ≠ 0x305C
          omega
      · have hlane := State.lane_congr (s := s.sotSeen v) (t := w.rejNoted n v ((s.sotSeen v).headerCheck n v)) (by rw [hframe, hlog.2])
        exact ((h.other k hk).trans (hlane k)).trans (s.sotSeen_lane v k)
      · obtain ⟨m, rfl⟩ := hmemi h7
        exact ⟨h.wordsKept hkept, h.frame_of (s := s.sotSeen v) hframe⟩
  case dropped =>
    refine ⟨_, exec_laneFlit_dropped hready humbra hg hdrop, ?_, State.wordsKept_set _ _ _ List.mem_cons_self, rfl⟩
    exact (State.get_bump_same _ _ (by change 0 + 32 ≤ 32; decide)).trans (sat_eq_min _ _)
  case linkDown =>
    have h := (s.laneIs_laneMap n (fun l => { l with linkup := false })).laneRst true
    obtain ⟨hevt, hkept, hframe⟩ := s.lossRaised_effect n (decide ((s.lane n).st = .inTile) && true)
    have hlane := State.lane_congr (s := s) (t := s.lossRaised n (decide ((s.lane n).st = .inTile) && true)) (by rw [hframe])
    refine ⟨_, exec_linkDown hlink hpow, h.lane, fun hst => (h.event _ _ _).trans (hevt (by rw [hst]; rfl)), h.wordsKept hkept,
      fun k hk => (h.other k hk).trans (hlane k), ?_⟩
    rw [h.frame]
    conv_lhs => rw [hframe]
  case linkup =>
    have h := s.laneIs_laneMap n (fun l => { l with linkup := true })
    exact ⟨_, rfl, h.lane, h.other, h.frame⟩
  case ends =>
    have hreset := (s.laneIs_refl n).laneRst false
    have hdropped := (s.laneIs_refl n).laneDrop hst hnote
    rw [Bool.and_false] at hreset
    intro q hq
    simp only [List.mem_cons, List.not_mem_nil, or_false] at hq
    rcases hq with rfl | rfl
    · refine ⟨_, exec_laneReset htakes, ?_, hreset.other, hreset.frame⟩
      rw [hreset.lane]
      simp [LaneS.resets, LaneS.goes, hst]
    · refine ⟨_, exec_drop htakes, ?_, hdropped.other, hdropped.frame⟩
      rw [hdropped.lane]
      simp [LaneS.drops, LaneS.goes, hst]
  case flitThenDrop =>
    obtain ⟨m, hm⟩ := State.laneFlit_inTile hst hroom v (g = 2)
    have h := hm.flitNote (s.lane n) g
    have hpayload : s.laneTake n v g = s.laneFlit n v (g = 2) := if_neg hg1
    have hd := h.laneDrop_pushed (f := ⟨s.cyc, (s.lane n).st, (s.lane n).flits, true, false⟩)
      (congrArg LaneS.note (LaneS.payload_noted hst hg1 _ _)) rfl hst rfl rfl
    obtain ⟨hcnt, -⟩ := State.flitLost_effect { s with memi := m } n (e := none) (by simp)
    refine ⟨_, (exec_laneFlit hready humbra hg3 hdrop).trans (by rw [hpayload]), _, exec_drop ?_, ?_, (hd.get _).trans hcnt,
      hd.wordsKept (State.wordsKept_set _ _ _ List.mem_cons_self), hd.other, ?_⟩
    · rw [h.frame]
      exact htakes
    · exact hd.lane.trans (LaneS.payload_dropped hst hg1 hat _ _)
    · rw [hd.frame, h.frame]
      rfl
  case withdraw =>
    obtain ⟨m, h⟩ := (s.laneIs_laneMap n (fun l => { l with wd := false })).lanePush (by simpa only [LaneS.headUsed] using hroom) { v := 2, tag := 3 }
    exact ⟨_, exec_withdrawPush hwd hroom, h.lane, h.other, by rw [h.frame]⟩
  case enable =>
    obtain ⟨hkept, hframe⟩ := s.laneCtrl_frame n w
    have hlane := State.lane_congr (s := s) (t := s.laneCtrl n w) (by rw [hframe])
    have h := (s.laneCtrl n w).laneIs_laneMap n (fun l => { l with
      enabled := (s.laneCtrl n w).flag (R.LANE_CTRL_ENABLE n) || (l.enabled && l.st = .inTile) })
    refine ⟨_, exec_laneEnable htakes w, s.flag_laneCtrl n w, ?_, hkept, fun k hk => (h.other k hk).trans (hlane k), h.frame_regs hframe⟩
    rw [h.lane, s.flag_laneCtrl, hlane]

end

-- Ingest: what the assembler does to a tile's place (08_ingest_spool.md R251, R255 to R257).
section

open Sys2Proof Sys2Proof.Machine

namespace Sys2Proof.Machine

/-! ## A place -/

/-- From `s` to `t` place `p` of channel `n` becomes `x`; the other places, the other channels, what waits and the order of issue are as
before. -/
structure State.tileIs (s t : State) (n p : Nat) (x : PlaceS) : Prop where
  place : t.place n p = x
  sibling : ∀ k, k ≠ p → t.place n k = s.place n k
  other : ∀ k, k ≠ n → t.ch k = s.ch k
  wait : ∀ k, (t.ch k).wait = (s.ch k).wait
  order : (t.ch n).nextOrd = (s.ch n).nextOrd

section
variable {s t u : State} {n p : Nat} {x : PlaceS}

theorem State.ch_of_chans (h : t.chans = s.chans) (k : Nat) : t.ch k = s.ch k := by rw [State.ch, h, State.ch]

theorem State.place_chMap (f : ChS → ChS) (hf : ∀ c, (f c).places = c.places) (m k q : Nat) : (s.chMap m f).place k q = s.place k q := by
  rw [State.place, State.ch_chMap, State.place]
  split
  case isTrue h => rw [hf, h]
  case isFalse => rfl

theorem State.wait_chMap (f : ChS → ChS) (hf : ∀ c, (f c).wait = c.wait) (m k : Nat) : ((s.chMap m f).ch k).wait = (s.ch k).wait := by
  rw [State.ch_chMap]
  split
  case isTrue h => rw [hf, h]
  case isFalse => rfl

theorem State.tileIs_refl (s : State) (n p : Nat) : s.tileIs s n p (s.place n p) :=
  ⟨rfl, fun _ _ => rfl, fun _ _ => rfl, fun _ => rfl, rfl⟩

theorem State.tileIs.of_chans (h : s.tileIs t n p x) (hu : u.chans = t.chans) : s.tileIs u n p x where
  place := (State.place_of_chans hu n p).trans h.place
  sibling := fun k hk => (State.place_of_chans hu n k).trans (h.sibling k hk)
  other := fun k hk => (State.ch_of_chans hu k).trans (h.other k hk)
  wait := fun k => by rw [State.ch_of_chans hu, h.wait]
  order := by rw [State.ch_of_chans hu, h.order]

theorem State.tileIs.placeMap (h : s.tileIs t n p x) (f : PlaceS → PlaceS) : s.tileIs (t.placeMap n p f) n p (f x) where
  place := by rw [State.place_placeMap, if_pos rfl, h.place]
  sibling := fun k hk => by rw [State.place_placeMap, if_neg hk, h.sibling k hk]
  other := fun k hk => by rw [State.placeMap, State.ch_chMap_other _ _ hk, h.other k hk]
  wait := fun k => (State.wait_chMap (fun c => { c with places := tmod (fun _ => {}) c.places p f }) (fun _ => rfl) n k).trans (h.wait k)
  order := by rw [← h.order, State.placeMap, State.ch_chMap, if_pos rfl]

theorem State.infoPut_frame (s : State) (n p j : Nat) (bs : List Byte) :
    s.infoPut n p j bs = { s with tbuf := (s.infoPut n p j bs).tbuf, memi := (s.infoPut n p j bs).memi } :=
  s.infoWords_frame n p _ _ _

theorem State.tileIs.infoPut (h : s.tileIs t n p x) (j : Nat) (bs : List Byte) : s.tileIs (t.infoPut n p j bs) n p x :=
  h.of_chans (by rw [State.infoPut_frame])

/-! ## The first byte of a tile (06_codeword.md R205) -/

/-- A tile of a profile past the laced ones lands at once, unlaced. -/
theorem State.landFirst_unlaced (hprofile : (s.place (s.lane n).ch (s.lane n).place).fresh = true →
    8 ≤ (s.place (s.lane n).ch (s.lane n).place).profile) : ∃ w, s.landFirst n = (true, w) ∧
    s.tileIs w (s.lane n).ch (s.lane n).place { s.place (s.lane n).ch (s.lane n).place with fresh := false } ∧ w = { s with chans := w.chans } := by
  generalize hc : (s.lane n).ch = c at hprofile ⊢
  generalize hp : (s.lane n).place = p at hprofile ⊢
  cases hfresh : (s.place c p).fresh with
  | false =>
    refine ⟨s, ?_, ?_, rfl⟩
    · simp [State.landFirst, hc, hp, hfresh]
    · have h := s.tileIs_refl c p
      rw [← hfresh]
      exact h
  | true =>
    have hplain : s.landsLaced (s.place c p).profile c = false := by
      have hlaced : ¬ (s.place c p).profile < 8 := Nat.not_lt.mpr (hprofile hfresh)
      simp [State.landsLaced, hlaced]
    have hin : s.landIn c p = s := by simp [State.landIn, hplain, Nat.not_lt.mpr (hprofile hfresh)]
    refine ⟨s.placeMap c p (fun v => { v with fresh := false }), ?_, (s.tileIs_refl c p).placeMap _, rfl⟩
    simp [State.landFirst, State.landRoom, hc, hp, hfresh, hplain, hin]

/-! ## Payload bytes (06_codeword.md R182) -/

/-- Eight bytes land in the place of an unlaced tile. -/
theorem State.landBytes_unlaced {c : Nat} (hc : (s.lane n).ch = c) (hp : (s.lane n).place = p) (hstripe : (s.place c p).stripe = unmapped)
    (v : BitVec 64) : s.tileIs (s.landBytes n v) c p { s.place c p with got := (s.place c p).got + 8 } ∧
    s.landBytes n v = { s with chans := (s.landBytes n v).chans, tbuf := (s.landBytes n v).tbuf, memi := (s.landBytes n v).memi } := by
  have hland : s.landBytes n v = (s.infoPut c p (s.place c p).got (leBytes 8 v.toNat)).placeMap c p (fun x => { x with got := x.got + 8 }) := by
    unfold State.landBytes
    dsimp only
    rw [hc, hp, if_pos hstripe]
  rw [hland]
  refine ⟨((s.tileIs_refl c p).infoPut _ _).placeMap _, ?_⟩
  rw [State.placeMap, State.chMap, State.infoPut_frame]

/-- Where the bytes of a word of eight stand (06 R182). -/
theorem rawPos_add {j i : Nat} (hj : j % 8 = 0) (hi : i < 8) : rawPos (j + i) = rawPos j + i := by
  have hdiv : (j + i) / 4096 = j / 4096 := by omega
  have hmod : (j + i) % 4096 = j % 4096 + i := by omega
  rw [rawPos, rawPos, hdiv, hmod, Nat.add_assoc]

theorem getElem_leBytes {k i : Nat} (v : Nat) (hi : i < (leBytes k v).length) : (leBytes k v)[i] = BitVec.ofNat 8 (v / 2 ^ (8 * i)) := by
  induction k generalizing v i with
  | zero => exact absurd hi (Nat.not_lt_zero i)
  | succ k ih =>
    cases i with
    | zero => rw [Nat.mul_zero, Nat.pow_zero, Nat.div_one]; rfl
    | succ i =>
      have hdiv : v / 256 / 2 ^ (8 * i) = v / 2 ^ (8 * (i + 1)) := by
        rw [Nat.div_div_eq_div_mul, Nat.mul_add, Nat.pow_add, Nat.mul_comm]
      exact (ih (v / 256) _).trans (by rw [hdiv])

/-- Eight bytes are one word. -/
theorem State.infoPut_word {bs : List Byte} (h : bs.length = 8) (j : Nat) : s.infoPut n p j bs = s.tbPut n p (rawPos j) bs := by
  rw [State.infoPut, h]
  change s.tbPut n p (rawPos j) (bs.take 8) = _
  rw [List.take_of_length_le (Nat.le_of_eq h)]

/-- With no injection armed, the bytes that land stand in the place. -/
theorem State.landBytes_tbuf {c : Nat} (hc : (s.lane n).ch = c) (hp : (s.lane n).place = p) (hstripe : (s.place c p).stripe = unmapped)
    (hinj : s.memi.inj = none) (hgot : (s.place c p).got % 8 = 0) (v : BitVec 64) {i : Nat} (hi : i < 8) :
    tget zeroByte (s.landBytes n v).tbuf (tbKey c p + rawPos ((s.place c p).got + i)) = v.extractLsb' (8 * i) 8 := by
  have hland : (s.landBytes n v).tbuf = (s.tbPut c p (rawPos (s.place c p).got) (leBytes 8 v.toNat)).tbuf := by
    unfold State.landBytes
    dsimp only
    rw [hc, hp, if_pos hstripe, State.infoPut_word (length_leBytes 8 _)]
    rfl
  have hbuf : (s.landBytes n v).tbuf = tstore s.tbuf (tbKey c p + rawPos (s.place c p).got) (leBytes 8 v.toNat) :=
    hland.trans (congrArg State.tbuf (State.bufWrote_frame
      (s := { s with tbuf := tstore s.tbuf (tbKey c p + rawPos (s.place c p).got) _ }) hinj _ _ _))
  have hlen : i < (leBytes 8 v.toNat).length := by rw [length_leBytes]; exact hi
  rw [hbuf, rawPos_add hgot hi, ← Nat.add_assoc, tstore_same _ _ _ _ hlen, getElem_leBytes, ← Nat.shiftRight_eq_div_pow]
  rfl

/-! ## The end of a tile (R255 to R257) -/

/-- The place `v` of a tile that ends short: FLAGS.TRUNC, and LENGTH holds the bytes received. -/
def PlaceS.cut (v : PlaceS) : PlaceS := { v with flags := v.flags ||| 1, len := v.got }

/-- The place of the tile of lane `n` is cut short, counted and reported. -/
def State.tileCut (s : State) (n : Nat) : State :=
  ((s.placeMap (s.lane n).ch (s.lane n).place PlaceS.cut).bump (R.LANE_TRUNC_CNT_CNT n)).laneRaise n 3

theorem State.endTrunc_lane (s : State) (n : Nat) : (s.tileCut n).laneIs (s.endTrunc n) n { (s.tileCut n).lane n with asm := .ending } :=
  State.laneIs_laneMap _ _ _

/-- A count of a lane with its event. -/
theorem State.bump_laneRaise (u : State) {f : Fld} {b : Nat} (hwid : f.lsb + f.wid ≤ 32) (hevt : f.addr ≠ evtAddr .lane n) (hb : b < 32) :
    ((u.bump f).laneRaise n b).get f = sat f.max (u.get f + 1) ∧ ((u.bump f).laneRaise n b).event .lane n b = true ∧
    u.wordsKept ((u.bump f).laneRaise n b) [f.addr, evtAddr .lane n] ∧
    (u.bump f).laneRaise n b = { u with regs := ((u.bump f).laneRaise n b).regs, pins := ((u.bump f).laneRaise n b).pins } := by
  have hraise := (u.bump f).raises_raise .lane n b
  refine ⟨(hraise.get hevt).trans (u.get_bump_same f hwid), State.event_raised _ _ _ _ hb, ?_, hraise.2⟩
  exact State.wordsKept.trans (u.wordsKept_set _ _ List.mem_cons_self) (State.wordsKept_raise _ _ _ _ (List.mem_cons_of_mem _ List.mem_cons_self))

theorem State.frame_placeMap {f : PlaceS → PlaceS} {regs : Tab Word} {pins : Pins} (h : t = { s.placeMap n p f with regs := regs, pins := pins }) :
    t = { s with chans := t.chans, regs := t.regs, pins := t.pins } := by
  rw [h]
  rfl

/-- The place, words and events of a tile that is cut short. -/
theorem State.tileCut_effect {c : Nat} (hc : (s.lane n).ch = c) (hp : (s.lane n).place = p) :
    s.tileIs (s.tileCut n) c p (s.place c p).cut ∧
    (s.tileCut n).get (R.LANE_TRUNC_CNT_CNT n) = min (2 ^ 32 - 1) (s.get (R.LANE_TRUNC_CNT_CNT n) + 1) ∧ (s.tileCut n).event .lane n 3 = true ∧
    s.wordsKept (s.tileCut n) [(R.LANE_TRUNC_CNT_CNT n).addr, evtAddr .lane n] ∧
    s.tileCut n = { s with chans := (s.tileCut n).chans, regs := (s.tileCut n).regs, pins := (s.tileCut n).pins } := by
  have hevt : (R.LANE_TRUNC_CNT_CNT n).addr ≠ evtAddr .lane n := by
    change 0x20054 + n * 0x1000 ≠ 0x20000 + n * 0x1000 + 0x10
    omega
  obtain ⟨hcnt, hraised, hkept, hframe⟩ := (s.placeMap c p PlaceS.cut).bump_laneRaise
    (f := R.LANE_TRUNC_CNT_CNT n) (b := 3) (by change 0 + 32 ≤ 32; decide) hevt (by decide)
  have hchans := congrArg State.chans hframe
  unfold State.tileCut
  rw [hc, hp]
  exact ⟨((s.tileIs_refl c p).placeMap PlaceS.cut).of_chans hchans, hcnt.trans (sat_eq_min _ _), hraised, hkept, State.frame_placeMap hframe⟩

/-- From `s` to `t` the tile of lane `n`, in place `p` of channel `c`, ends short. -/
structure State.truncs (s t : State) (n c p : Nat) : Prop where
  lane : t.lane n = { s.lane n with asm := .ending }
  others : ∀ k, k ≠ n → t.lane k = s.lane k
  tile : s.tileIs t c p (s.place c p).cut
  count : t.get (R.LANE_TRUNC_CNT_CNT n) = min (2 ^ 32 - 1) (s.get (R.LANE_TRUNC_CNT_CNT n) + 1)
  event : t.event .lane n 3 = true
  words : s.wordsKept t [(R.LANE_TRUNC_CNT_CNT n).addr, evtAddr .lane n]
  frame : t = { s with lanes := t.lanes, chans := t.chans, regs := t.regs, pins := t.pins }

theorem State.truncs_endTrunc {c : Nat} (hc : (s.lane n).ch = c) (hp : (s.lane n).place = p) : s.truncs (s.endTrunc n) n c p := by
  obtain ⟨htile, hcnt, hevt, hkept, hframe⟩ := State.tileCut_effect hc hp
  have h := s.endTrunc_lane n
  have hlane := State.lane_congr (s := s) (t := s.tileCut n) (by rw [hframe])
  exact {
    lane := by rw [h.lane, hlane]
    others := fun k hk => (h.other k hk).trans (hlane k)
    tile := htile.of_chans (by rw [h.frame])
    count := (h.get _).trans hcnt
    event := (h.event _ _ _).trans hevt
    words := h.wordsKept hkept
    frame := by
      rw [h.frame]
      conv_lhs => rw [hframe] }

/-- The place `v` of a tile that vanishes in the `cyc` `c`: its slot stays reserved (09_hoops.md R288). -/
def PlaceS.gone (v : PlaceS) (c : Nat) : PlaceS := { v with
  reserved := some c, got := 0, fresh := false, len := 0, flags := v.flags &&& 4
  enc := if v.stripe = unmapped then 0 else v.enc, encAddr := if v.stripe = unmapped then unmapped else v.encAddr }

/-- The bytes of the tile in a place are to be removed from its stripe (06_codeword.md R208). -/
def State.unstriped (s : State) (c p : Nat) : State :=
  if (s.place c p).stripe = unmapped then s else s.laceMap (fun x => { x with cancels := x.cancels ++ [(c, p, (s.place c p).got)] })

theorem State.unstriped_effect (s : State) (c p : Nat) :
    (s.unstriped c p).lace.cancels = s.lace.cancels ++ (if (s.place c p).stripe = unmapped then [] else [(c, p, (s.place c p).got)]) ∧
    s.unstriped c p = { s with lace := (s.unstriped c p).lace } := by
  unfold State.unstriped
  split
  · exact ⟨(List.append_nil _).symm, rfl⟩
  · exact ⟨rfl, rfl⟩

/-- The tile of lane `n` vanishes from its place, counted and reported. -/
def State.tileGone (s : State) (n : Nat) : State :=
  (((s.unstriped (s.lane n).ch (s.lane n).place).placeMap (s.lane n).ch (s.lane n).place (fun v => v.gone s.cyc)).bump
    (R.LANE_VANISH_CNT_CNT n)).laneRaise n 4

theorem State.vanish_lane (s : State) (n : Nat) (next : AsmSt) :
    (s.tileGone n).laneIs (s.vanish n next) n { (s.tileGone n).lane n with asm := next } := by
  have hcyc : (s.unstriped (s.lane n).ch (s.lane n).place).cyc = s.cyc := by rw [(s.unstriped_effect _ _).2]
  have hvanish : s.vanish n next = (s.tileGone n).laneMap n (fun l => { l with asm := next }) := by
    unfold State.vanish State.tileGone
    rw [← hcyc]
    rfl
  rw [hvanish]
  exact State.laneIs_laneMap _ _ _

/-- The place, words and events of a tile that vanishes. -/
theorem State.tileGone_effect {c : Nat} (hc : (s.lane n).ch = c) (hp : (s.lane n).place = p) :
    s.tileIs (s.tileGone n) c p ((s.place c p).gone s.cyc) ∧
    (s.tileGone n).get (R.LANE_VANISH_CNT_CNT n) = min (2 ^ 32 - 1) (s.get (R.LANE_VANISH_CNT_CNT n) + 1) ∧
    (s.tileGone n).event .lane n 4 = true ∧
    (s.tileGone n).lace.cancels = s.lace.cancels ++ (if (s.place c p).stripe = unmapped then [] else [(c, p, (s.place c p).got)]) ∧
    (s.tileGone n).lanes = s.lanes := by
  have hevt : (R.LANE_VANISH_CNT_CNT n).addr ≠ evtAddr .lane n := by
    change 0x20058 + n * 0x1000 ≠ 0x20000 + n * 0x1000 + 0x10
    omega
  obtain ⟨hcancels, hlace⟩ := s.unstriped_effect c p
  obtain ⟨hcnt, hraised, -, hframe⟩ := ((s.unstriped c p).placeMap c p (fun v => v.gone s.cyc)).bump_laneRaise
    (f := R.LANE_VANISH_CNT_CNT n) (b := 4) (by change 0 + 32 ≤ 32; decide) hevt (by decide)
  have hword : ((s.unstriped c p).placeMap c p (fun v => v.gone s.cyc)).get (R.LANE_VANISH_CNT_CNT n) = s.get (R.LANE_VANISH_CNT_CNT n) := by
    rw [hlace]
    rfl
  rw [hword] at hcnt
  unfold State.tileGone
  rw [hc, hp]
  refine ⟨?_, hcnt.trans (sat_eq_min _ _), hraised, (congrArg (fun t => t.lace.cancels) hframe).trans hcancels, ?_⟩
  · have hkept := (s.tileIs_refl c p).of_chans (u := s.unstriped c p) (by rw [hlace])
    have hchans := congrArg State.chans hframe
    exact (hkept.placeMap (fun v => v.gone s.cyc)).of_chans hchans
  · exact (congrArg State.lanes hframe).trans (by rw [hlace]; rfl)

/-! ## The tile is whole (06_codeword.md R183, R184) -/

theorem State.tileFinish_unlaced {c : Nat} (hstripe : (s.place c p).stripe = unmapped) :
    s.tileIs (s.tileFinish c p) c p { s.place c p with whole := true } ∧
    s.tileFinish c p = { s with chans := (s.tileFinish c p).chans, tbuf := (s.tileFinish c p).tbuf, memi := (s.tileFinish c p).memi } := by
  have hput : ∀ t : State, ∀ hd, t.trailerPut c p hd = { t with
      chans := (t.trailerPut c p hd).chans, tbuf := (t.trailerPut c p hd).tbuf, memi := (t.trailerPut c p hd).memi } :=
    fun t hd => by
      unfold State.trailerPut
      rw [State.placeMap, State.chMap, State.infoPut_frame]
  have hfinish : s.tileFinish c p = (s.infoPut c p (s.place c p).len (List.replicate (65472 - (s.place c p).len) 0)).trailerPut c p
      (trailerHead (s.place c p)) := by
    unfold State.tileFinish
    dsimp only
    split
    · rfl
    · rw [if_pos hstripe]
  rw [hfinish]
  refine ⟨(((s.tileIs_refl c p).infoPut _ _).infoPut _ _).placeMap _, ?_⟩
  rw [hput, State.infoPut_frame]

end

end Sys2Proof.Machine

end

-- Ingest: what the assembler pops (08_ingest_spool.md R249, R251, R253).
section

open Sys2Proof Sys2Proof.Machine

namespace Sys2Proof.Machine

section
variable {s t u : State} {n p : Nat} {x : PlaceS}

/-! ## An item is popped (R249, R251) -/

theorem State.itemRead_clean (h : s.memi.err = []) (k : Nat) (tail : Bool) (pos : Nat) (it : Item) : s.itemRead k tail pos it = (it, s) := by
  have hread : ∀ w j, s.bufRead 1 w j = s := fun w j => by rw [State.bufRead, State.bufSeen, h]; rfl
  have hgood : ∀ w, patternClass 1 (tget (fun _ => 0#72) s.memi.err (skey 1 w)) ≠ .bad := fun w => by
    rw [h]
    change patternClass 1 0#72 ≠ .bad
    decide
  have hbits : ∀ w, s.badBits 1 w = 0 := fun w => if_neg (hgood w)
  simp [State.itemRead, hread, hgood, hbits, bits]

theorem State.popItem_tail {it : Item} {r : List Item} (herr : s.memi.err = []) (htail : (s.lane n).tail = it :: r) (hborn : it.born ≠ some s.cyc) :
    s.frontItem n = some it ∧ s.popItem n = some (it, s.laneMap n (fun l => { l with tail := r })) := by
  have hfront : s.frontItem n = some it := by simp [State.frontItem, htail, hborn]
  refine ⟨hfront, ?_⟩
  simp [State.popItem, hfront, htail, State.itemRead_clean herr]

/-- Lane `n` of a state whose tail has an item popped, `r` left; a pop of a full spool frees its place for this `cyc` (R250). -/
def State.popped (s : State) (n : Nat) (r : List Item) : State :=
  if s.spoolFull n then (s.laneMap n (fun l => { l with tail := r })).laneMap n (fun l => { l with freed := some s.cyc })
  else s.laneMap n (fun l => { l with tail := r })

theorem State.popped_lane (s : State) (n : Nat) (r : List Item) :
    s.laneIs (s.popped n r) n { (if s.spoolFull n then { s.lane n with freed := some s.cyc } else s.lane n) with tail := r } := by
  unfold State.popped
  split
  · exact (s.laneIs_laneMap n _).laneMap _
  · exact s.laneIs_laneMap n _

/-- Does the item `it` land in the tile in progress? -/
def Item.lands (it : Item) : Prop := it.tag = 0 ∨ it.tag = 2

theorem Item.lands.tag {it : Item} (h : it.lands) : it.tag ≠ 1 ∧ it.tag ≠ 3 :=
  (by decide : ∀ g : BitVec 2, g = 0 ∨ g = 2 → g ≠ 1 ∧ g ≠ 3) it.tag h

theorem Item.lands_iff (it : Item) : (some it).any (fun i => i.tag = 0 || i.tag = 2) = true ↔ it.lands := by simp [Item.lands]

section
variable {n : Fin 12} {it : Item} {r : List Item}

/-- A usable item that is no payload of a tile in progress is popped; a SOT item that ends the tile in progress stays. -/
theorem exec_assemblerPop (hpow : s.powered (laneDom n) = true) (hseal : s.sealApplies = false) (herr : s.memi.err = [])
    (htail : (s.lane n).tail = it :: r) (hbad : it.bad = false) (hborn : it.born ≠ some s.cyc)
    (hasm : (s.lane n).asm = .idle ∨ (s.lane n).asm = .landing) (hland : (s.lane n).asm = .landing → ¬ it.lands) :
    exec (.assemblerPop n) s = .next (if it.tag = 1 ∧ (s.lane n).asm = .landing then s.endTrunc n else (s.popped n r).popGood n it) := by
  obtain ⟨hfront, hpop⟩ := s.popItem_tail herr htail hborn
  have hheld : ¬ ((!s.powered (laneDom n)) = true ∨ s.sealApplies = true ∨ (s.lane n).asm = .header ∨ (s.lane n).asm = .ending) := by
    rcases hasm with hasm | hasm <;> simp [hpow, hseal, hasm]
  have hlands : (decide ((s.lane n).asm = .landing) && (s.frontItem n).any (fun i => i.tag = 0 || i.tag = 2)) = false := by
    refine Bool.eq_false_iff.mpr fun h => ?_
    rw [hfront, Bool.and_eq_true, decide_eq_true_eq, Item.lands_iff] at h
    exact hland h.1 h.2
  rw [exec, execAssemblerPop]
  dsimp only
  rw [if_neg hheld, hlands, if_neg Bool.false_ne_true]
  simp only [hpop, hbad, State.popped, Bool.false_eq_true, if_false, Bool.not_true]
  split <;> rfl

/-- A payload item of a tile in progress is popped. -/
theorem exec_assemblerPop_lands {w : State} (hpow : s.powered (laneDom n) = true) (hseal : s.sealApplies = false) (herr : s.memi.err = [])
    (htail : (s.lane n).tail = it :: r) (hbad : it.bad = false) (hborn : it.born ≠ some s.cyc) (hasm : (s.lane n).asm = .landing)
    (hland : it.lands) (hfirst : s.landFirst n = (true, w)) (hw : w = { s with chans := w.chans }) :
    exec (.assemblerPop n) s = .next ((w.popped n r).landItem n it) := by
  have hlane : w.lane n = s.lane n := State.lane_congr (by rw [hw]) n
  obtain ⟨-, hpop⟩ := w.popItem_tail (n := n) (by rw [hw]; exact herr) (by rw [hlane]; exact htail) (by rw [hw]; exact hborn)
  have hheld : ¬ ((!s.powered (laneDom n)) = true ∨ s.sealApplies = true ∨ (s.lane n).asm = .header ∨ (s.lane n).asm = .ending) := by
    simp [hpow, hseal, hasm]
  have hlands : (decide ((s.lane n).asm = .landing) && (s.frontItem n).any (fun i => i.tag = 0 || i.tag = 2)) = true := by
    rw [(s.popItem_tail herr htail hborn).1, (Item.lands_iff it).mpr hland, hasm]
    rfl
  obtain ⟨htag1, htag3⟩ := hland.tag
  have hpopped : ((w.popped n r).lane n).asm = .landing := by
    rw [(w.popped_lane n r).lane, hlane]
    split <;> exact hasm
  rw [exec, execAssemblerPop]
  dsimp only
  rw [if_neg hheld, hlands, if_pos rfl, hfirst]
  have hgood : (w.popped n r).popGood n it = (w.popped n r).landItem n it := by
    unfold State.popGood
    rw [if_neg htag1, hpopped]
    exact if_neg htag3
  rw [← hgood]
  simp only [hpop, hbad, State.popped, htag1, false_and, Bool.false_eq_true, if_false, Bool.not_true]

/-- A payload item of an unlaced tile in progress is popped and lands, after the tile's first byte has found the tile unlaced. -/
theorem exec_assemblerPop_unlaced {c : Nat} (hpow : s.powered (laneDom n) = true) (hseal : s.sealApplies = false) (herr : s.memi.err = [])
    (htail : (s.lane n).tail = it :: r) (hbad : it.bad = false) (hborn : it.born ≠ some s.cyc) (hasm : (s.lane n).asm = .landing)
    (hland : it.lands) (hc : (s.lane n).ch = c) (hp : (s.lane n).place = p) (hprofile : (s.place c p).fresh = true → 8 ≤ (s.place c p).profile) :
    ∃ z, exec (.assemblerPop n) s = .next (z.landItem n it) ∧ s.tileIs z c p { s.place c p with fresh := false } ∧
      z.lane n = { (if s.spoolFull n then { s.lane n with freed := some s.cyc } else s.lane n) with tail := r } ∧
      (∀ k, k ≠ n.val → z.lane k = s.lane k) ∧ z = { s with lanes := z.lanes, chans := z.chans } := by
  obtain ⟨w, hfirst, hw, hframe⟩ := State.landFirst_unlaced (s := s) (n := n) (by rw [hc, hp]; exact hprofile)
  rw [hc, hp] at hw
  have hlane := State.lane_congr (s := s) (t := w) (by rw [hframe])
  have hfull : w.spoolFull n = s.spoolFull n := by
    rw [hframe]
    rfl
  have hcyc : w.cyc = s.cyc := by rw [hframe]
  have h := w.popped_lane n r
  rw [hfull, hlane, hcyc] at h
  exact ⟨_, exec_assemblerPop_lands hpow hseal herr htail hbad hborn hasm hland hfirst hframe, hw.of_chans (by rw [h.frame]), h.lane,
    fun k hk => (h.other k hk).trans (hlane k), by rw [h.frame, hframe]⟩

end

/-- Of what the assembler works on, `t` may differ from `s`. -/
def State.assembles (s t : State) : Prop :=
  t = { s with lanes := t.lanes, chans := t.chans, tbuf := t.tbuf, memi := t.memi, regs := t.regs, pins := t.pins }

theorem State.assembles.trans (h : s.assembles t) (k : t.assembles u) : s.assembles u := by
  unfold State.assembles at h k ⊢
  rw [k, h]

theorem State.tileIs.trans {y : PlaceS} (h : s.tileIs t n p x) (k : t.tileIs u n p y) : s.tileIs u n p y where
  place := k.place
  sibling := fun j hj => (k.sibling j hj).trans (h.sibling j hj)
  other := fun j hj => (k.other j hj).trans (h.other j hj)
  wait := fun j => (k.wait j).trans (h.wait j)
  order := k.order.trans h.order

/-- A payload item lands its bytes, and may end the tile. -/
theorem State.landItem_eq {c : Nat} (hc : (s.lane n).ch = c) (hp : (s.lane n).place = p) (hstripe : (s.place c p).stripe = unmapped) (it : Item) :
    s.landItem n it = if it.tag = 2 then
        if (s.place c p).got + 8 < (s.place c p).len then (s.landBytes n it.v).endTrunc n
        else (s.landBytes n it.v).laneMap n (fun l => { l with asm := .ending })
      else s.landBytes n it.v := by
  obtain ⟨htile, hframe⟩ := State.landBytes_unlaced hc hp hstripe it.v
  have hlane := State.lane_congr (s := s) (t := s.landBytes n it.v) (by rw [hframe]) n
  unfold State.landItem
  dsimp only
  rw [hlane, hc, hp, htile.place]

/-- What every payload item leaves. -/
theorem State.landItem_effect {c : Nat} (hc : (s.lane n).ch = c) (hp : (s.lane n).place = p) (hstripe : (s.place c p).stripe = unmapped) (it : Item) :
    (∀ k, k ≠ n → (s.landItem n it).lane k = s.lane k) ∧ ((s.landItem n it).lane n).tail = (s.lane n).tail ∧
    (∃ y, s.tileIs (s.landItem n it) c p y) ∧ (s.landItem n it).tbuf = (s.landBytes n it.v).tbuf ∧ s.assembles (s.landItem n it) := by
  obtain ⟨htile, hframe⟩ := State.landBytes_unlaced hc hp hstripe it.v
  have hlane := State.lane_congr (s := s) (t := s.landBytes n it.v) (by rw [hframe])
  have hland : s.assembles (s.landBytes n it.v) := by
    unfold State.assembles
    rw [hframe]
  rw [State.landItem_eq hc hp hstripe]
  split
  · split
    · have h := State.truncs_endTrunc (s := s.landBytes n it.v) (c := c) (p := p) (by rw [hlane]; exact hc) (by rw [hlane]; exact hp)
      refine ⟨fun k hk => (h.others k hk).trans (hlane k), by rw [h.lane, hlane], ⟨_, htile.trans h.tile⟩, by rw [h.frame], hland.trans ?_⟩
      unfold State.assembles
      rw [h.frame]
    · have h := (s.landBytes n it.v).laneIs_laneMap n (fun l => { l with asm := .ending })
      refine ⟨fun k hk => (h.other k hk).trans (hlane k), by rw [h.lane, hlane], ⟨_, htile.of_chans rfl⟩, rfl, hland.trans ?_⟩
      unfold State.assembles
      rw [h.frame]
  · exact ⟨fun k _ => hlane k, by rw [hlane], ⟨_, htile⟩, rfl, hland⟩

/-- The last payload item ends the tile, short when bytes are missing. -/
theorem State.landItem_last {c : Nat} {it : Item} (hc : (s.lane n).ch = c) (hp : (s.lane n).place = p) (hstripe : (s.place c p).stripe = unmapped)
    (htag : it.tag = 2) : ((s.landItem n it).lane n).asm = .ending ∧
    ((s.place c p).len ≤ (s.place c p).got + 8 → (s.landItem n it).place c p = { s.place c p with got := (s.place c p).got + 8 }) ∧
    ((s.place c p).got + 8 < (s.place c p).len → (s.landItem n it).place c p = ({ s.place c p with got := (s.place c p).got + 8 } : PlaceS).cut ∧
      (s.landItem n it).event .lane n 3 = true) := by
  obtain ⟨htile, hframe⟩ := State.landBytes_unlaced hc hp hstripe it.v
  have hlane := State.lane_congr (s := s) (t := s.landBytes n it.v) (by rw [hframe])
  have hcut := State.truncs_endTrunc (s := s.landBytes n it.v) (c := c) (p := p) (by rw [hlane]; exact hc) (by rw [hlane]; exact hp)
  rw [State.landItem_eq hc hp hstripe, if_pos htag]
  split
  case isTrue hshort =>
    refine ⟨by rw [hcut.lane], fun hfull => absurd hshort (Nat.not_lt.mpr hfull), fun _ => ⟨?_, hcut.event⟩⟩
    rw [hcut.tile.place, htile.place]
  case isFalse hfull =>
    exact ⟨by rw [State.lane_laneMap, if_pos rfl], fun _ => htile.place, fun hshort => absurd hshort hfull⟩

/-! ## What a popped item does (R253, R255, R257) -/

section
variable {it : Item}

theorem State.popGood_rejected (htag : it.tag = 1) (hrej : it.rej = true) : s.popGood n it = s.laneMap n (fun l => { l with asm := .idle }) := by
  rw [State.popGood, if_pos htag, State.popSot, if_pos hrej]

theorem State.popGood_header (htag : it.tag = 1) (hrej : it.rej = false) (hshut : s.hoopShut (s.hdrHoopOf it.v) = false) :
    s.popGood n it = s.laneMap n (fun l => { l with hdr := it, asm := .header }) := by
  have hopen : (s.laneMap n (fun l => { l with hdr := it, asm := .header })).hoopShut
      ((s.laneMap n (fun l => { l with hdr := it, asm := .header })).hdrHoopOf it.v) = false := hshut
  rw [State.popGood, if_pos htag, State.popSot, hrej, if_neg Bool.false_ne_true]
  dsimp only
  rw [hopen, if_neg Bool.false_ne_true]

theorem State.popGood_withdraw (htag : it.tag = 3) (hasm : (s.lane n).asm = .landing) : s.popGood n it = s.withdraw n .idle := by
  rw [State.popGood, htag, if_neg (by decide), hasm]
  rfl

theorem State.popGood_control (htag : it.tag = 3) (hasm : (s.lane n).asm = .idle) : s.popGood n it = s := by
  rw [State.popGood, htag, if_neg (by decide), hasm]
  rfl

theorem State.popGood_stray (htag : it.lands) (hasm : (s.lane n).asm = .idle) : s.popGood n it = s.discard n := by
  obtain ⟨htag1, htag3⟩ := htag.tag
  rw [State.popGood, if_neg htag1, hasm]
  exact if_neg htag3

end

end

end Sys2Proof.Machine

end

-- Ingest: the PROG of a whole tile, and TILE_END (08_ingest_spool.md R255, R256).
section

open Sys2Proof Sys2Proof.Machine

namespace Sys2Proof.Machine

section
variable {s t u : State} {n p : Nat} {x : PlaceS}

/-! ## The PROG of a whole tile (R256; 09_hoops.md R275) -/

/-- The place of the one PROG of channel `n` that is due, and not held back. -/
theorem State.progPump_one {k : Nat} (hp : p < 8) (hdue : (s.place n p).due.isSome = true) (hfree : s.progHeld n p = false)
    (hother : ∀ q, q < 8 → q ≠ p → (s.place n q).due = none) :
    s.progPump n (k + 1) = (s.issueProg n p ((s.place n p).due.getD false)).progPump n k := by
  have hfind : (List.range 8).find? (fun q => (s.place n q).due.isSome && !s.progHeld n q) = some p := by
    cases hq : (List.range 8).find? (fun q => (s.place n q).due.isSome && !s.progHeld n q) with
    | none =>
      have hno := List.find?_eq_none.mp hq p (List.mem_range.mpr hp)
      rw [hdue, hfree] at hno
      exact absurd rfl hno
    | some q =>
      have hsome := List.find?_some hq
      have hmem := List.mem_range.mp (List.mem_of_find?_eq_some hq)
      by_contra hne
      rw [hother q hmem (fun h => hne (by rw [h]))] at hsome
      exact Bool.noConfusion hsome
  rw [State.progPump, hfind]

/-- No PROG of channel `n` is due. -/
theorem State.progPump_none (k : Nat) (hnone : ∀ q, q < 8 → (s.place n q).due = none) : s.progPump n k = s := by
  cases k with
  | zero => rfl
  | succ k =>
    have hfind : (List.range 8).find? (fun q => (s.place n q).due.isSome && !s.progHeld n q) = none :=
      List.find?_eq_none.mpr fun q hq => by rw [hnone q (List.mem_range.mp hq)]; exact Bool.false_ne_true
    rw [State.progPump, hfind]

/-- What holds a PROG back is neither a tile's wholeness nor a PROG that is due. -/
theorem State.tileIs.progHeld {a b : Bool} {d : Option Bool} (h : s.tileIs t n p { s.place n p with whole := a, fresh := b, due := d })
    (hhoops : t.hoops = s.hoops) (q : Nat) : t.progHeld n q = s.progHeld n q := by
  have hplace : ∀ q, ∃ a b d, t.place n q = { s.place n q with whole := a, fresh := b, due := d } := fun q => by
    by_cases hq : q = p
    · exact ⟨a, b, d, by rw [hq, h.place]⟩
    · exact ⟨_, _, _, h.sibling q hq⟩
  have hused : ∀ q, (t.place n q).used = (s.place n q).used := fun q => by obtain ⟨a, b, d, h⟩ := hplace q; rw [h]
  have hissued : ∀ q, (t.place n q).issued = (s.place n q).issued := fun q => by obtain ⟨a, b, d, h⟩ := hplace q; rw [h]
  have hhoop : ∀ q, (t.place n q).hoop = (s.place n q).hoop := fun q => by obtain ⟨a, b, d, h⟩ := hplace q; rw [h]
  have htaddr : ∀ q, (t.place n q).taddr = (s.place n q).taddr := fun q => by obtain ⟨a, b, d, h⟩ := hplace q; rw [h]
  have hslot : ∀ q, (t.place n q).slotNo = (s.place n q).slotNo := fun q => by obtain ⟨a, b, d, h⟩ := hplace q; rw [h]
  have hwls : ∀ h, t.hoop h = s.hoop h := fun h => by rw [State.hoop, hhoops, State.hoop]
  simp only [State.progHeld, hused, hissued, hhoop, htaddr, hslot, hwls]

/-- The PROG descriptor of an unlaced tile (09_hoops.md R275). -/
def PlaceS.prog (v : PlaceS) (p : Nat) (cut : Bool) : Desc where
  opcode := 1
  flags := (if v.tlc then taPage v.taddr % 3 else 0) + b2n cut * 4 + b2n v.tlc * 16
  origin := if v.kind = .almanac then 0xC000 else 0
  taddr := v.taddr
  tileno := v.tileno
  place := p

theorem State.place_issue (d : Desc) (k q : Nat) : (s.issue d).place k q = s.place k q :=
  State.place_chMap (fun c => { c with wait := c.wait ++ [d] }) (fun _ => rfl) _ k q

theorem State.wait_issue (s : State) (d : Desc) : ((s.issue d).ch (taCh d.taddr)).wait = (s.ch (taCh d.taddr)).wait ++ [d] := by
  rw [State.issue, State.ch_chMap, if_pos rfl]

/-- The place that is issued takes its number in the order of its channel. -/
def State.numbered (s : State) (n p : Nat) : State :=
  (s.placeMap n p (fun x => { x with issued := true, due := none, issueNo := (s.ch n).nextOrd })).chMap n
    (fun c => { c with nextOrd := c.nextOrd + 1 })

theorem State.wait_numbered (s : State) (n p k : Nat) : ((s.numbered n p).ch k).wait = (s.ch k).wait :=
  (State.wait_chMap (fun c => { c with nextOrd := c.nextOrd + 1 }) (fun _ => rfl) n k).trans (((s.tileIs_refl n p).placeMap _).wait k)

theorem b2n_due (d : Option Bool) : b2n (d.getD false) * 4 = if d = some true then 4 else 0 := by
  rcases d with _ | b
  · rfl
  · cases b <;> rfl

/-- The PROG descriptor of a tile that TILE_END made due. -/
theorem PlaceS.prog_whole (v : PlaceS) (p : Nat) : ({ v with whole := true, fresh := false } : PlaceS).prog p (v.due.getD false) =
    { opcode := 1, flags := (if v.tlc then taPage v.taddr % 3 else 0) + (if v.due = some true then 4 else 0) + b2n v.tlc * 16,
      origin := if v.kind = .almanac then 0xC000 else 0, taddr := v.taddr, tileno := v.tileno, place := p } := by
  rw [PlaceS.prog, b2n_due]

/-- The PROG of an unlaced tile of which a byte has landed goes to its channel; the open wordlines of its hoop may change. -/
theorem State.issueProg_unlaced (hstripe : (s.place n p).stripe = unmapped) (hfresh : (s.place n p).fresh = false) (cut : Bool) :
    ∃ m : State, s.issueProg n p cut = m.issue ((s.place n p).prog p cut) ∧ m.chans = (s.numbered n p).chans := by
  have hplain : ∀ b : Bool, (decide ((s.place n p).stripe ≠ unmapped) || ((s.place n p).fresh && b)) = false := fun b => by
    rw [hstripe, hfresh]
    rfl
  unfold State.issueProg
  dsimp only
  rw [hplain]
  refine ⟨_, rfl, ?_⟩
  split <;> rfl

theorem State.issueProg_lanes (s : State) (n p : Nat) (cut : Bool) : (s.issueProg n p cut).lanes = s.lanes := by
  unfold State.issueProg
  simp [State.issue, apply_ite State.lanes, State.placeMap, State.chMap, State.hoopMap]

theorem State.progPump_lanes (s : State) (n k : Nat) : (s.progPump n k).lanes = s.lanes := by
  induction k generalizing s with
  | zero => rfl
  | succ k ih =>
    rw [State.progPump]
    split
    · exact (ih _).trans (s.issueProg_lanes _ _ _)
    · rfl

theorem State.wantProg_lanes (s : State) (n p : Nat) (cut : Bool) : (s.wantProg n p cut).lanes = s.lanes :=
  State.progPump_lanes _ n 8

/-- The one PROG that is due, of a tile that is not held back, goes to its channel. -/
theorem State.wantProg_effect (hp : p < 8) (hstripe : (s.place n p).stripe = unmapped) (hfresh : (s.place n p).fresh = false)
    (hfree : s.progHeld n p = false) (hother : ∀ q, q < 8 → q ≠ p → (s.place n q).due = none) (cut : Bool) :
    (s.wantProg n p cut).place n p = { s.place n p with issued := true, due := none, issueNo := (s.ch n).nextOrd } ∧
    ((s.wantProg n p cut).ch (taCh (s.place n p).taddr)).wait =
      (s.ch (taCh (s.place n p).taddr)).wait ++ [(s.place n p).prog p ((s.place n p).due.getD cut)] := by
  have hu := (s.tileIs_refl n p).placeMap (fun x => { x with due := some (x.due.getD cut) })
  generalize hU : s.placeMap n p (fun x => { x with due := some (x.due.getD cut) }) = u at hu
  have hheld : u.progHeld n p = false := (hu.progHeld (by rw [← hU]; rfl) p).trans hfree
  have hudue : ∀ q, q < 8 → q ≠ p → (u.place n q).due = none := fun q hq hne => by rw [hu.sibling q hne, hother q hq hne]
  obtain ⟨m, hissue, hchans⟩ := State.issueProg_unlaced (s := u) (n := n) (p := p) (by rw [hu.place]; exact hstripe)
    (by rw [hu.place]; exact hfresh) ((s.place n p).due.getD cut)
  have hplace : ∀ q, (u.issueProg n p ((s.place n p).due.getD cut)).place n q =
      if q = p then { u.place n p with issued := true, due := none, issueNo := (u.ch n).nextOrd } else u.place n q := fun q => by
    rw [hissue, State.place_issue, State.place_of_chans hchans, State.numbered,
      State.place_chMap (fun c => { c with nextOrd := c.nextOrd + 1 }) (fun _ => rfl), State.place_placeMap]
  have hwant : s.wantProg n p cut = u.issueProg n p ((s.place n p).due.getD cut) := by
    have hsome : (u.place n p).due = some ((s.place n p).due.getD cut) := by rw [hu.place]
    rw [State.wantProg, hU, State.progPump_one hp (by rw [hsome]; rfl) hheld hudue, hsome, Option.getD_some, State.progPump_none]
    intro q hq
    rw [hplace]
    split
    · rfl
    · exact hudue q hq ‹_›
  rw [hwant]
  constructor
  · rw [hplace, if_pos rfl, hu.place, hu.order]
  · have hprog : (u.place n p).prog p ((s.place n p).due.getD cut) = (s.place n p).prog p ((s.place n p).due.getD cut) := by rw [hu.place]; rfl
    rw [hissue, hprog]
    refine (m.wait_issue _).trans ?_
    rw [State.ch_of_chans hchans, State.wait_numbered, hu.wait]
    rfl

/-- TILE_END of an unlaced tile: its place is whole, and its PROG is due unless it was issued or a seal applies (R255, R256). -/
theorem exec_tileEnd {n : Fin 12} {c : Nat} (hc : (s.lane n).ch = c) (hp : (s.lane n).place = p) (hasm : (s.lane n).asm = .ending)
    (hstripe : (s.place c p).stripe = unmapped) (hprofile : (s.place c p).fresh = true → 8 ≤ (s.place c p).profile) :
    ∃ u, exec (.tileEnd n) s = .next (if (s.place c p).issued = true ∨ s.sealApplies = true then u else u.wantProg c p false) ∧
      s.tileIs u c p { s.place c p with whole := true, fresh := false } ∧
      u.lane n = { s.lane n with asm := if (s.lane n).skip then .skipping else .idle, skip := false } ∧
      (∀ k, k ≠ n.val → u.lane k = s.lane k) ∧
      u = { s with lanes := u.lanes, chans := u.chans, tbuf := u.tbuf, memi := u.memi } := by
  obtain ⟨w, hfirst, hw, hwframe⟩ := State.landFirst_unlaced (s := s) (n := n) (by rw [hc, hp]; exact hprofile)
  rw [hc, hp] at hw
  obtain ⟨hfinish, hfframe⟩ := State.tileFinish_unlaced (s := w) (c := c) (p := p) (by rw [hw.place]; exact hstripe)
  have h := (w.tileFinish c p).laneIs_laneMap n (fun l => { l with asm := if l.skip then .skipping else .idle, skip := false })
  have hlane : ∀ k, (w.tileFinish c p).lane k = s.lane k := State.lane_congr (by rw [hfframe, hwframe])
  generalize hu : (w.tileFinish c p).laneMap n (fun l => { l with asm := if l.skip then .skipping else .idle, skip := false }) = u at h
  have htile : s.tileIs u c p { s.place c p with whole := true, fresh := false } := by
    have hall := (hw.trans hfinish).of_chans (u := u) (by rw [h.frame])
    rw [hw.place] at hall
    exact hall
  have hframe : u = { s with lanes := u.lanes, chans := u.chans, tbuf := u.tbuf, memi := u.memi } := by
    generalize w.tileFinish c p = f at h hfframe
    rw [h.frame, hfframe, hwframe]
  refine ⟨u, ?_, htile, by rw [h.lane, hlane], fun k hk => (h.other k hk).trans (hlane k), hframe⟩
  have hseal : u.sealApplies = s.sealApplies := by
    rw [hframe]
    rfl
  rw [exec, execTileEnd]
  dsimp only
  rw [if_neg (not_not.mpr hasm), hfirst]
  dsimp only
  rw [Bool.not_true, if_neg Bool.false_ne_true, hc, hp, hu, htile.place, hseal]

end

end Sys2Proof.Machine

/-- Settles O38, one kind of item after the other, each as the lane's pop and what the item does to the place of the tile in progress; TILE_END
makes that place whole, and of the PROGs of its channel it alone is due. -/
theorem assemblerLandsAndEndsTiles : Obligations.AssemblerLandsAndEndsTiles := by
  refine ⟨fun s n it r hpow hseal herr htail hbad hborn l hl v hv => ?pop, fun s n hasm l hl v hv hstripe hprofile => ?tileEnd⟩
  case pop =>
    have hy := s.popped_lane n r
    rw [← hl] at hy
    have hch : (s.lane n).ch = l.ch := by rw [hl]; split <;> rfl
    have hplace : (s.lane n).place = l.place := by rw [hl]; split <;> rfl
    have hasmEq : (s.lane n).asm = l.asm := by rw [hl]; split <;> rfl
    have hytile : s.tileIs (s.popped n r) l.ch l.place v := by
      rw [hv]
      exact (s.tileIs_refl _ _).of_chans (by rw [hy.frame])
    have hyasm : ((s.popped n r).lane n).asm = l.asm := by rw [hy.lane]
    have hexec : l.asm = .idle ∨ l.asm = .landing → (l.asm = .landing → ¬ it.lands) → ¬ (it.tag = 1 ∧ l.asm = .landing) →
        exec (.assemblerPop n) s = .next ((s.popped n r).popGood n it) := by
      rw [← hasmEq]
      exact fun hasm hland hends => (exec_assemblerPop hpow hseal herr htail hbad hborn hasm hland).trans (by rw [if_neg hends])
    have hidle : l.asm = .idle → exec (.assemblerPop n) s = .next ((s.popped n r).popGood n it) := fun hasm =>
      hexec (.inl hasm) (by simp [hasm]) (by simp [hasm])
    have hcontrol : it.tag = 3 → l.asm = .landing → exec (.assemblerPop n) s = .next ((s.popped n r).withdraw n .idle) := fun htag hasm =>
      (hexec (.inr hasm) (by simp [Item.lands, htag]) (by simp [htag])).trans (by rw [State.popGood_withdraw htag (hyasm.trans hasm)])
    have hycommit : ((s.popped n r).place ((s.popped n r).lane n).ch ((s.popped n r).lane n).place).committed = v.committed := by
      rw [hy.lane, hytile.place]
    refine ⟨fun htag hrej hasm hshut => ?header, fun htag hrej hasm => ?rejected, fun htag hasm => ?ends,
      fun htag hasm hstripe hprofile hgot => ?lands, fun htag hasm hcommit => ?truncates,
      fun htag hasm hcommit => ?vanishes, fun htag hasm => ?control, fun htag hasm => ?stray⟩
    case header =>
      have h := hy.laneMap (fun x => { x with hdr := it, asm := .header })
      have hopen : (s.popped n r).hoopShut ((s.popped n r).hdrHoopOf it.v) = false := by
        rw [hy.frame]
        exact hshut
      exact ⟨_, (hidle hasm).trans (by rw [State.popGood_header htag hrej hopen]), h.lane, h.other, h.frame⟩
    case rejected =>
      have h := hy.laneMap (fun x => { x with asm := .idle })
      exact ⟨_, (hidle hasm).trans (by rw [State.popGood_rejected htag hrej]), h.lane.trans (by rw [← hasm]), h.other, h.frame⟩
    case ends =>
      have h := State.truncs_endTrunc hch hplace
      have hstays := (exec_assemblerPop hpow hseal herr htail hbad hborn (.inr (hasmEq.trans hasm)) (by simp [Item.lands, htag])).trans
        (by rw [if_pos ⟨htag, hasmEq.trans hasm⟩])
      refine ⟨_, hstays, h.lane, ?_, h.count, h.event, h.words, h.tile.sibling, h.tile.other, h.frame⟩
      rw [h.tile.place, hv]
      rfl
    case lands =>
      obtain ⟨z, hpops, hztile, hzlane, hzother, hzframe⟩ := exec_assemblerPop_unlaced hpow hseal herr htail hbad hborn (hasmEq.trans hasm) htag
        hch hplace (by rw [← hv]; exact hprofile)
      rw [← hv] at hztile
      rw [← hl] at hzlane
      have hzch : (z.lane n).ch = l.ch := by rw [hzlane]
      have hzplace : (z.lane n).place = l.place := by rw [hzlane]
      have hzstripe : (z.place l.ch l.place).stripe = unmapped := by rw [hztile.place]; exact hstripe
      obtain ⟨hothers, htail', ⟨x, htile⟩, htbuf, hassem⟩ := State.landItem_effect hzch hzplace hzstripe it
      have hframe : s.assembles z := by
        unfold State.assembles
        rw [hzframe]
      refine ⟨_, hpops, by rw [htail', hzlane], fun htag0 => ?_, fun htag2 => ?_, fun hinj i hi => ?_,
        fun k hk => (hothers k hk).trans (hzother k hk), (hztile.trans htile).sibling, (hztile.trans htile).other, hframe.trans hassem⟩
      · obtain ⟨hbytes, hbframe⟩ := State.landBytes_unlaced hzch hzplace hzstripe it.v
        have hplain : z.landItem n it = z.landBytes n it.v := (State.landItem_eq hzch hzplace hzstripe it).trans (if_neg (by rw [htag0]; decide))
        rw [hplain]
        refine ⟨(State.lane_congr (by rw [hbframe]) n).trans hzlane, hbytes.place.trans (by rw [hztile.place]), ?_⟩
        rw [hbframe, hzframe]
      · have hlast := State.landItem_last hzch hzplace hzstripe htag2
        rw [hztile.place] at hlast
        exact hlast
      · have hgot' : (z.place l.ch l.place).got = v.got := by rw [hztile.place]
        have h := State.landBytes_tbuf hzch hzplace hzstripe (by rw [hzframe]; exact hinj) (by rw [hgot']; exact hgot) it.v hi
        rw [hgot'] at h
        exact (congrArg (fun b => tget zeroByte b _) htbuf).trans h
    case truncates =>
      have h := State.truncs_endTrunc (s := s.popped n r) (n := n) (c := l.ch) (p := l.place) (by rw [hy.lane]) (by rw [hy.lane])
      refine ⟨_, (hcontrol htag hasm).trans ?_, by rw [h.lane, hy.lane], by rw [h.tile.place, hytile.place]; rfl, h.event⟩
      rw [State.withdraw, if_pos (hycommit.trans hcommit)]
    case vanishes =>
      have h := (s.popped n r).vanish_lane n .idle
      obtain ⟨htile, hcnt, hevt, hcancels, hlanes⟩ :=
        State.tileGone_effect (s := s.popped n r) (n := n) (c := l.ch) (p := l.place) (by rw [hy.lane]) (by rw [hy.lane])
      have hgone := (hytile.trans htile).of_chans (u := (s.popped n r).vanish n .idle) (by rw [h.frame])
      have hcyc : (s.popped n r).cyc = s.cyc := by rw [hy.frame]
      have hlace : (s.popped n r).lace = s.lace := by rw [hy.frame]
      have hvanish : exec (.assemblerPop n) s = .next ((s.popped n r).vanish n .idle) := (hcontrol htag hasm).trans
        (by rw [State.withdraw, if_neg (by rw [hycommit, hcommit]; exact Bool.false_ne_true)])
      have hp := hgone.place
      rw [hytile.place, hcyc] at hp
      rw [hytile.place, hlace] at hcancels
      refine ⟨_, hvanish, h.lane.trans (by rw [State.lane_congr hlanes, hy.lane]), congrArg PlaceS.reserved hp,
        congrArg PlaceS.got hp, by rw [hp, PlaceS.gone], by rw [hp, PlaceS.gone], by rw [hp, PlaceS.gone],
        (h.get _).trans (hcnt.trans (by rw [hy.get])), (h.event _ _ _).trans hevt, by rw [h.frame]; exact hcancels, hgone.other⟩
    case control =>
      exact ⟨_, (hidle hasm).trans (by rw [State.popGood_control htag (hyasm.trans hasm)]), hy.lane, hy.other, hy.frame⟩
    case stray =>
      have h := hy.bump (R.LANE_DISC_CNT_CNT n)
      refine ⟨_, (hidle hasm).trans (by rw [State.popGood_stray htag (hyasm.trans hasm)]; rfl), h.lane, ?_, ?_, h.other, h.frame_regs rfl⟩
      · exact (h.get _).trans ((State.get_bump_same _ _ (by change 0 + 32 ≤ 32; decide)).trans (sat_eq_min _ _))
      · exact h.wordsKept (State.wordsKept_set _ _ _ List.mem_cons_self)
  case tileEnd =>
    subst hl hv
    obtain ⟨u, hexec, htile, hlane, hothers, hframe⟩ := exec_tileEnd rfl rfl hasm hstripe hprofile
    by_cases hdone : (s.place (s.lane n).ch (s.lane n).place).issued = true ∨ s.sealApplies = true
    · rw [if_pos hdone] at hexec
      refine ⟨u, hexec, hlane, hothers, fun _ => ⟨htile.place, htile.other, by rw [hframe]⟩, fun hissued hseal => ?_⟩
      rw [hissued, hseal] at hdone
      exact absurd hdone (by decide)
    · rw [if_neg hdone] at hexec
      have hlanes := State.lane_congr (u.wantProg_lanes (s.lane n).ch (s.lane n).place false)
      refine ⟨_, hexec, (hlanes n).trans hlane, fun k hk => (hlanes k).trans (hothers k hk), fun h => absurd h hdone,
        fun _ _ hfree hp hdue => ?_⟩
      have hheld : u.progHeld (s.lane n).ch (s.lane n).place = false := (htile.progHeld (by rw [hframe]) _).trans hfree
      obtain ⟨hplace, hwait⟩ := State.wantProg_effect (s := u) hp (by rw [htile.place]; exact hstripe) (by rw [htile.place]) hheld
        (fun q hq hne => by rw [htile.sibling q hne, hdue q hq hne]) false
      rw [htile.place] at hplace hwait
      refine ⟨hplace.trans (by rw [htile.order]), hwait.trans ?_⟩
      rw [htile.wait]
      exact congrArg (fun d => _ ++ [d]) (PlaceS.prog_whole _ _)

end

-- Placement: the base of the map (09_placement_hoops.md R270).
section

open Sys2Proof Sys2Proof.Machine

namespace Sys2Proof.Machine

section
variable {s : State}

theorem State.anyHoop_iff : s.anyHoop = true ↔ ∃ h, h < 64 ∧ (s.hoop h).st ≠ .off := by
  simp [State.anyHoop]

theorem State.regMerge_frame (s : State) (a : Nat) (be : BitVec 4) (data : Word) :
    s.regMerge a be data = { s with regs := (s.regMerge a be data).regs } := by
  unfold State.regMerge
  split <;> rfl

theorem State.wordsKept_regMerge (s : State) (a : Nat) (be : BitVec 4) (data : Word) : s.wordsKept (s.regMerge a be data) [a] := by
  intro b hb
  unfold State.regMerge
  split
  · rfl
  · exact State.rd_wr_other _ _ (List.ne_of_not_mem_cons hb)

/-- A write of the base that the port takes, by whether a hoop is enabled (R270). -/
theorem exec_mapBaseWrite (k : Fin 3) (w : Word) (htakes : s.portTakes (R.MAP_BASE_LO_ADDR.addr + 4 * k.val)) :
    exec (.mapBaseWrite k w) s =
      .next (if s.anyHoop then s.raise .map 0 1 else s.regMerge (R.MAP_BASE_LO_ADDR.addr + 4 * k.val) 0xF#4 w) := by
  rw [exec, execMapBaseWrite, State.cpWr_taken _ _ _ _ _ htakes, mapBaseWr]

end

end Sys2Proof.Machine

/-- Settles O39: the write raises CFG_REFUSED, or merges into its word. -/
theorem mapBaseIsGuarded : Obligations.MapBaseIsGuarded := by
  rintro s k w a rfl htakes
  have hexec := exec_mapBaseWrite k w htakes
  constructor
  case left =>
    intro h hlt hon
    rw [if_pos (State.anyHoop_iff.mpr ⟨h, hlt, hon⟩)] at hexec
    have hraises := s.raises_raise .map 0 1
    exact ⟨_, hexec, State.event_raised _ _ _ _ (by decide), hraises.1, hraises.2⟩
  case right =>
    intro hoff
    rw [if_neg fun hany => by
      obtain ⟨h, hlt, hon⟩ := State.anyHoop_iff.mp hany
      exact hon (hoff h hlt)] at hexec
    exact ⟨_, hexec, rfl, s.wordsKept_regMerge _ _ _, s.regMerge_frame _ _ _⟩

end

-- Placement: a stream is enabled over a word with an error (09_placement_hoops.md R277, R278; 14_memory_integrity.md R412, R416).
section

open Sys2Proof Sys2Proof.Machine

namespace Sys2Proof.Machine

/-! ## The counterexample to the words that STREAM_ENABLE keeps -/

/-- Stream 0 names hoop 0, which is armed, and no lace profile; bit 0 of the stored word that holds these bytes is inverted, an error that reads
correct. The control port is ready and every domain is ON. -/
def streamBitFlipped : State :=
  { cp := { ready := true, fuseOpen := false }
    pwr := { doms := (List.range 13).map (fun d => (d, { st := .on, req := true, ack := true })) }
    sram := [(skey 5 (winWord (sctx 0)), strongEnc 0x0000FF00 ^^^ 1#39)]
    hoops := [(0, { st := .armed })] }

theorem streamBitFlipped_takes : streamBitFlipped.portTakes R.STRM_CMD_OP.addr := ⟨by decide +kernel, 0, by decide +kernel, by decide +kernel⟩

theorem streamBitFlipped_check : streamBitFlipped.strmCheck (0#12).toNat = 0 := by decide +kernel

/-- The read-modify-write of EN's mirror reports the corrected word: CE_CNT of region 5 counts one. -/
theorem streamBitFlipped_counted : (nextOf (exec (.streamEnable 0#12) streamBitFlipped)).map (fun t => t.rd (R.MEMI_CE_CNT_CNT 5).addr) =
    some 1#32 := by decide +kernel

end Sys2Proof.Machine

/-- Refutes O41 for a correctable error in the stream's context, which the statement does not exclude: in `streamBitFlipped` STREAM_ENABLE
passes its checks, and the write of EN's mirror into the context (R277) reads the word first (R412), so the error is counted in CE_CNT of
region 5 (R416), a word that the statement has unchanged. -/
theorem not_hoopsAndStreamsChangeState : ¬ Obligations.HoopsAndStreamsChangeState := by
  rintro ⟨henable, -⟩
  obtain ⟨t, hexec, -, -, hpass⟩ := henable streamBitFlipped 0#12 streamBitFlipped_takes
  obtain ⟨-, -, hkept, -⟩ := hpass streamBitFlipped_check
  have hcount : t.rd (R.MEMI_CE_CNT_CNT 5).addr = streamBitFlipped.rd (R.MEMI_CE_CNT_CNT 5).addr := hkept _ (by decide)
  have hcounted := streamBitFlipped_counted
  rw [nextOf_exec hexec, Option.map_some, hcount] at hcounted
  exact absurd hcounted (by decide +kernel)

end

-- Placement: the PROGs of a channel that are due (09_placement_hoops.md R275, R288).
section

open Sys2Proof Sys2Proof.Machine

namespace Sys2Proof.Machine

section
variable {s t u : State} {n p : Nat} {x : PlaceS}

/-! ## What the issue of PROGs reads -/

/-- In `t` the places of channel `n`, the order of its issues and the hoops are as in `s`. -/
structure State.sameProgs (s t : State) (n : Nat) : Prop where
  place : ∀ q, t.place n q = s.place n q
  order : (t.ch n).nextOrd = (s.ch n).nextOrd
  hoops : t.hoops = s.hoops

theorem State.sameProgs.progHeld (h : s.sameProgs t n) (q : Nat) : t.progHeld n q = s.progHeld n q := by
  have hplace : t.place n = s.place n := funext h.place
  have hhoop : t.hoop = s.hoop := funext fun k => by rw [State.hoop, h.hoops, State.hoop]
  rw [State.progHeld, hplace, hhoop, State.progHeld]

theorem State.sameProgs.placeMap (h : s.sameProgs t n) (q : Nat) (f : PlaceS → PlaceS) : (s.placeMap n q f).sameProgs (t.placeMap n q f) n where
  place := fun k => by rw [State.place_placeMap, State.place_placeMap, h.place, h.place]
  order := by simp only [State.placeMap, State.ch_chMap, if_pos, h.order]
  hoops := h.hoops

theorem State.sameProgs.advance (h : s.sameProgs t n) :
    (s.chMap n (fun c => { c with nextOrd := c.nextOrd + 1 })).sameProgs (t.chMap n (fun c => { c with nextOrd := c.nextOrd + 1 })) n where
  place := fun q => by
    have hkept (u : State) := u.place_chMap (fun c => { c with nextOrd := c.nextOrd + 1 }) (fun _ => rfl) n n q
    rw [hkept, hkept, h.place]
  order := by simp only [State.ch_chMap, if_pos, h.order]
  hoops := h.hoops

theorem State.sameProgs.hoopMap (h : s.sameProgs t n) (k : Nat) (f : HoopS → HoopS) : (s.hoopMap k f).sameProgs (t.hoopMap k f) n where
  place := h.place
  order := h.order
  hoops := by rw [State.hoopMap, State.hoopMap, h.hoops]

theorem State.nextOrd_issue (s : State) (d : Desc) (k : Nat) : ((s.issue d).ch k).nextOrd = (s.ch k).nextOrd := by
  rw [State.issue, State.ch_chMap]
  split
  case isTrue h => rw [h]
  case isFalse => rfl

theorem State.sameProgs.issue (h : s.sameProgs t n) (d e : Desc) : (s.issue d).sameProgs (t.issue e) n where
  place := fun q => by rw [State.place_issue, State.place_issue, h.place]
  order := by rw [State.nextOrd_issue, State.nextOrd_issue, h.order]
  hoops := h.hoops

theorem State.sameProgs.issueProg (h : s.sameProgs t n) (q : Nat) (cut : Bool) : (s.issueProg n q cut).sameProgs (t.issueProg n q cut) n := by
  have hnumbered := (h.placeMap q (fun x => { x with issued := true, due := none, issueNo := (s.ch n).nextOrd })).advance
  unfold State.issueProg
  dsimp only
  rw [h.place, h.order]
  split
  · exact (hnumbered.hoopMap _ _).issue _ _
  · exact hnumbered.issue _ _

/-- Which PROGs of a channel go out, and in which order, is a matter of its places, of its order and of the open wordlines. -/
theorem State.sameProgs.progPump (h : s.sameProgs t n) (k : Nat) : (s.progPump n k).sameProgs (t.progPump n k) n := by
  induction k generalizing s t with
  | zero => exact h
  | succ k ih =>
    simp only [State.progPump, h.place, h.progHeld]
    split
    · exact ih (h.issueProg _ _)
    · exact h

theorem State.sameProgs.wantProg (h : s.sameProgs t n) (q : Nat) (cut : Bool) : (s.wantProg n q cut).sameProgs (t.wantProg n q cut) n :=
  (h.placeMap q _).progPump 8

theorem State.tileIs.sameProgs (h : s.tileIs t n p x) (hhoops : t.hoops = s.hoops) : (s.placeMap n p (fun _ => x)).sameProgs t n where
  place := fun q => by
    rw [State.place_placeMap]
    split
    case isTrue hq => rw [hq, h.place]
    case isFalse hq => exact h.sibling q hq
  order := h.order.trans (by simp only [State.placeMap, State.ch_chMap, if_pos])
  hoops := hhoops

/-! ## FILL_TIMEOUT of a slot that lands unlaced (R288) -/

theorem State.landRoom_unlaced (hprofile : 8 ≤ (s.place n p).profile) : s.landRoom n p = (true, s) := by
  simp [State.landRoom, State.landsLaced, Nat.not_lt.mpr hprofile]

theorem State.landIn_unlaced (hprofile : 8 ≤ (s.place n p).profile) : s.landIn n p = s := by
  simp [State.landIn, State.landsLaced, Nat.not_lt.mpr hprofile]

/-- The place `v` of a reserved slot with the FILL tile that lane `k` of the block writes in the `cyc` `c` at the angle `a`. -/
def PlaceS.fillTile (v : PlaceS) (k c a : Nat) : PlaceS := { v with
  kind := .fill, flags := 16 + (v.flags &&& 4), len := 0, got := 0, reserved := none, fillDue := false, lane := k, time := c, angle := a }

/-- The FILL tile of place `p` stands in its place, without its filler and trailer. -/
def State.fillBegun (s : State) (n p : Nat) : State :=
  (s.placeMap n p (fun v => { v with fillDue := true })).placeMap n p (fun v => v.fillTile (s.blkIndex * 16 + 15) s.cyc s.stamp)

theorem State.tileIs_fillBegun (s : State) (n p : Nat) :
    s.tileIs (s.fillBegun n p) n p ((s.place n p).fillTile (s.blkIndex * 16 + 15) s.cyc s.stamp) :=
  ((s.tileIs_refl n p).placeMap _).placeMap _

theorem State.fillTile_unlaced (hcancels : s.lace.cancels = []) (hprofile : 8 ≤ (s.place n p).profile) (hissued : (s.place n p).issued = false) :
    s.fillTile n p = ((s.fillBegun n p).tileFinish n p).wantProg n p false := by
  have hdue : 8 ≤ ((s.placeMap n p (fun v => { v with fillDue := true })).place n p).profile := by
    rw [State.place_placeMap, if_pos rfl]
    exact hprofile
  have hbegun : 8 ≤ ((s.fillBegun n p).place n p).profile := by
    rw [(s.tileIs_fillBegun n p).place]
    exact hprofile
  have hnone : (s.placeMap n p (fun v => { v with fillDue := true })).lace.cancels = [] := hcancels
  unfold State.fillTile
  dsimp only
  rw [hnone, List.any_nil, if_neg Bool.false_ne_true, State.landRoom_unlaced hdue, hissued]
  dsimp only
  rw [Bool.not_true, if_neg Bool.false_ne_true, if_neg Bool.false_ne_true]
  change (((s.fillBegun n p).landIn n p).tileFinish n p).wantProg n p false = _
  rw [State.landIn_unlaced hbegun]

/-- FILL_TIMEOUT of a slot past the laced profiles: its place holds a whole FILL tile, and its PROG is due. -/
theorem exec_fillTimeout {n : Fin 48} {p : Fin 8} {c : Nat} (hreserved : (s.place n p).reserved = some c) (hseal : s.sealApplies = false)
    (hcancels : s.lace.cancels = []) (hprofile : 8 ≤ (s.place n p).profile) (hstripe : (s.place n p).stripe = unmapped)
    (hissued : (s.place n p).issued = false) :
    ∃ u, exec (.fillTimeout n p) s = .next (u.wantProg n p false) ∧
      s.tileIs u n p { (s.place n p).fillTile (s.blkIndex * 16 + 15) s.cyc s.stamp with whole := true } ∧ u.hoops = s.hoops := by
  have hbegun := s.tileIs_fillBegun n p
  obtain ⟨hfinish, hframe⟩ := State.tileFinish_unlaced (s := s.fillBegun n p) (c := n) (p := p) (by rw [hbegun.place]; exact hstripe)
  refine ⟨(s.fillBegun n p).tileFinish n p, ?_, ?_, ?_⟩
  · rw [exec, execFillTimeout, if_neg (by simp [hreserved, hseal]), State.fillTile_unlaced hcancels hprofile hissued]
  · rw [← hbegun.place]
    exact hbegun.trans hfinish
  · rw [hframe]
    rfl

end

/-! ## The counterexample to the FILL tile that is held back -/

/-- On channel 0 the tile in place 0 is whole and its PROG due, and place 1 is reserved for the next page of its LUN. Nothing holds back the
PROG of place 0, so it goes out when the next PROG of the channel becomes due. -/
def fillBehindDue : State :=
  { chans := [(0, { nextOrd := 3, places := [
      (0, { used := true, hoop := 0, taddr := taddrOf 0 0 0 0, whole := true, due := some false, slotNo := 1 }),
      (1, { used := true, hoop := 0, taddr := taddrOf 0 0 0 1, reserved := some 0, slotNo := 2 })] })] }

/-- Place 0 holds back the PROG of place 1. -/
theorem fillBehindDue_held : fillBehindDue.progHeld 0 1 = true := by decide +kernel

/-- The place of the FILL tile. -/
def fillBehindDueTile : PlaceS :=
  { (fillBehindDue.place 0 1).fillTile (fillBehindDue.blkIndex * 16 + 15) fillBehindDue.cyc fillBehindDue.stamp with whole := true }

/-- The PROG of the FILL tile follows that of place 0. -/
theorem fillBehindDue_issued :
    (((fillBehindDue.placeMap 0 1 (fun _ => fillBehindDueTile)).wantProg 0 1 false).place 0 1).issued = true := by decide +kernel

theorem exec_fillBehindDue : ∃ t, exec (.fillTimeout 0 1) fillBehindDue = .next t ∧ (t.place 0 1).issued = true := by
  obtain ⟨u, hexec, htile, hhoops⟩ := exec_fillTimeout (s := fillBehindDue) (n := 0) (p := 1) (c := 0) (by decide +kernel) (by decide +kernel) rfl
    (by decide +kernel) (by decide +kernel) (by decide +kernel)
  have hplace : (u.wantProg 0 1 false).place 0 1 = ((fillBehindDue.placeMap 0 1 (fun _ => fillBehindDueTile)).wantProg 0 1 false).place 0 1 :=
    ((htile.sameProgs hhoops).wantProg 1 false).place 1
  exact ⟨_, hexec, (congrArg PlaceS.issued hplace).trans fillBehindDue_issued⟩

end Sys2Proof.Machine

/-- Refutes O42 for an earlier page whose PROG is due and no longer held back, which the statement does not exclude: in `fillBehindDue` place 0
holds back the PROG of place 1 when FILL_TIMEOUT comes, but its own PROG goes out first, so that of the FILL tile is issued all the same.
Such a state is left by the failure of another hoop's wordline on the LUN (05_channel_operations.md R154), which closes the wordline that held
the PROG of place 0 (09 R283) and issues none. -/
theorem not_tilesAreNumberedFilledAndErased : ¬ Obligations.TilesAreNumberedFilledAndErased := by
  rintro ⟨-, hfill, -⟩
  obtain ⟨t, hexec, -, -, -, -, -, -, -, -, -, -, hheld, -⟩ := hfill fillBehindDue 0 1 0 _ rfl (by decide +kernel) (by decide +kernel) rfl
    (by decide +kernel) (by decide +kernel)
  have hwaits : (t.place 0 1).issued = false := (hheld (Or.inr fillBehindDue_held)).trans (by decide +kernel)
  obtain ⟨u, hfilled, hissued⟩ := exec_fillBehindDue
  obtain rfl : u = t := Host.Outcome.next.inj (hfilled.symm.trans hexec)
  exact absurd (hissued.symm.trans hwaits) (by decide)

end
